-- ==== Sys2Proof/Word.lean ====
section
/-!
DEFINITION. The words of the block: a byte, a byte string, and the bytes of a number (R9, R30: little-endian).
-/

namespace Sys2Proof

/-- A byte of a value, a frame or a record. -/
abbrev Byte := BitVec 8

/-- A byte string, the first byte at offset 0. -/
abbrev Bytes := List Byte

end Sys2Proof
end

