-- ==== Sys2Proof/Config.lean ====
section
/-!
DEFINITION. What the spec leaves open, as constants without a body: nothing in Lean can evaluate them or prove a
value of them (notes/assumptions 2-6 name each). "Set at manufacture" values (R65, R562, R571) are the unit's own.
-/

namespace Sys2Proof

/-- A fresh open value: the step applies it to the counter State.fresh and advances the counter. -/
opaque Config.freeValue : Nat → Nat

/-- A fresh open byte string (challenges of R565, key pairs of R568). -/
opaque Config.freeBytes : Nat → Bytes

/-- "Set at manufacture" and "Set at wafer test" entries, by index and subindex (R65, R412, R437, R463, R571). -/
opaque Config.unitNumber : Nat → Nat → Int

/-- The same for the byte-string entries (SerialNumber, LotId, MacAddress, KeyInfo digests of keys held in ROM). -/
opaque Config.unitBytes : Nat → Nat → Bytes

/-- SHA-384 (FIPS 180-4), which the spec names and does not restate (R556, R565, R571). -/
opaque Config.sha384 : Bytes → Bytes

/-- ECDSA P-384 verification (FIPS 186-5): public key, digest, signature (R556). -/
opaque Config.ecdsaVerify : Bytes → Bytes → Bytes → Bool

/-- The certificates of a DER chain, 0 for bytes that are none, and the public point of its leaf (RFC 5280, R568). -/
opaque Config.certificates : Bytes → Nat
opaque Config.leafKey : Bytes → Bytes

/-- Real functions whose evaluation the spec names without fixing its last digits, over fixed-point integers:
code of the function, argument, second argument. -/
opaque Config.realFn : Nat → Int → Int → Int

/-- Operand-dependent open results: a code for the place, then the operands. -/
opaque Config.openResult : Nat → List Int → Int

end Sys2Proof
end

