-- ==== Sys2Proof/Forms.lean ====
section
/-!
DEFINITION. Operands of commands that carry more than a number: what a device, a peer or a sensor hands to the module.
-/
namespace Sys2Proof

/-- A section in the device description of a Task Controller client (R157): the index of its device element among those
that carry sections, its number there, its offsets in mm in ISO 11783 axes, its working width in mm, and its turn-on and
turn-off times in ms. -/
structure TcSec where
  element : Nat
  number : Nat
  x : Int
  y : Int
  width : Nat
  onMs : Nat
  offMs : Nat
  deriving DecidableEq, Repr

/-- An operand of a cell instruction (R361): a scalar register, a vector register, an accumulator set, a predicate, or IMM. -/
inductive CellArg where
  | g (r : Fin 64)
  | v (r : Fin 16)
  | a (r : Fin 2)
  | p (r : Fin 8)
  | imm
  deriving DecidableEq, Repr

/-- A sentence of an NMEA datagram as the module reads it (R460): whether its checksum is valid; GGA with the time of day in
ns, latitude and longitude in 10^-9 degree, altitude and geoidal separation in mm, and its quality; RMC with the day since
1970, the time of day in ns, the speed over ground in um/s and the course in 2^-32 turn; or another sentence. -/
inductive Nmea where
  | gga (ok : Bool) (time : Nat) (lat lon alt sep : Int) (quality : Nat)
  | rmc (ok : Bool) (day time : Nat) (speed course : Int)
  | other (ok : Bool)
  deriving DecidableEq, Repr

/-- A frame to an SDO server (R50): its identifier and its 8 bytes. -/
structure SdoRequest where
  id : BitVec 11
  data : BitVec 64
  deriving DecidableEq, Repr

/-- What a frequency input sees (R337): its pin in mV (for CURRENT in uA), and the level of its partner. -/
structure FinPin where
  value : Int
  partner : Bool
  deriving DecidableEq, Repr

/-- What an Announce says of a grandmaster (R450): the fields that the best master clock algorithm compares, in their order,
and the steps to it. -/
structure GmFields where
  priority1 : Nat
  clockClass : Nat
  accuracy : Nat
  variance : Nat
  priority2 : Nat
  identity : Nat
  steps : Nat
  deriving DecidableEq, Repr

/-- An Ethernet frame at a port (R441-R443): its length in bytes, its VLAN tag as (VLAN, PCP), its addresses, whether it is a
gPTP frame, and its bytes from the EtherType on. -/
structure EthFrame where
  size : Nat
  tag : Option (Nat × Nat)
  dst : Nat
  src : Nat
  ptp : Bool
  data : Bytes
  deriving DecidableEq, Repr

/-- The cipher suites, groups and signatures of a TLS 1.3 server that the fleet client names (R496, R569), and any other. -/
inductive TlsSuite where
  | aes256GcmSha384 | aes128GcmSha256 | other
  deriving DecidableEq, Repr
inductive TlsGroup where
  | secp384r1 | x25519 | other
  deriving DecidableEq, Repr
inductive TlsSignature where
  | ecdsaSecp256r1Sha256 | ecdsaSecp384r1Sha384 | rsaPssRsaeSha256 | other
  deriving DecidableEq, Repr

/-- What a broker shows in its TLS handshake (R496, R569): whether it speaks TLS 1.3, what it has chosen, the depth of its chain and
whether that ends in a root of FleetTrustAnchor by the path rules, the DNS names of its certificate, and its validity in UTC
seconds since 1970. -/
structure ServerHello where
  tls13 : Bool
  suite : TlsSuite
  group : TlsGroup
  signature : TlsSignature
  depth : Nat
  trusted : Bool
  names : List Bytes
  notBefore : Nat
  notAfter : Nat
  deriving DecidableEq, Repr

/-- How a frame in transmission on a CAN port ends (R420, R423). -/
inductive CanEnd where
  | sent | lost | error
  deriving DecidableEq, Repr

/-- What the DRAM's inline ECC and the repair of a row tell (R404). -/
inductive DramEvent where
  | corrected | uncorrectable | repaired
  deriving DecidableEq, Repr

/-- What a failed DRAM row held (R91, R127, R184 and the fault tables): nothing that a rule names, a coverage tile, a part of
the cue and axis tables with the delay lines in it, the fusion state, or a camera frame of a sensor. -/
inductive DramUse where
  | other
  | covTile (k : Nat)
  | cueTable (lines : BitVec 16)
  | fusion
  | cameraFrame (sensor : Fin 10)
  deriving DecidableEq, Repr

/-- What a failed eMMC block belongs to (R405): no store with a capacity of its own, the prompt book's running area, or the
tile archive, with the coverage tile that could not be read. -/
inductive EmmcUse where
  | other
  | book
  | archive (lost : Option (Nat × Nat))
  deriving DecidableEq, Repr

/-- What a start finds (R388, R478, R539, R543, R548, R563): whether the logic supply has just been applied and its voltage in
mV, the level of WAKE, the charge of the hold-up store in %, whether the island runtime and the images A and B verify, straps
TS0 and TS1 as bits 0 and 1, whether the IMU passes its self-test, which axis snapshots fail their CRC in both copies, the
regions whose slot fails its CRCs or its hash, the records of a partly written page that are valid (none: no page was being
written), and whether a header copy of the prompt book is readable. -/
structure Boot where
  supply : Bool
  mV : BitVec 16
  wake : Bool
  charge : Fin 101
  island : Bool
  imageA : Bool
  imageB : Bool
  straps : Fin 4
  imu : Bool
  snapsBad : BitVec 16
  regionsBad : BitVec 32
  page : Option (Fin 32)
  header : Bool
  deriving DecidableEq, Repr

end Sys2Proof
end

