-- ==== Sys2Proof/Syntax.lean ====
section
/-!
DEFINITION. The commands of the block: one constructor for each row of spec/opcode_table.json, with the row's operands. A
command is a request of a client, a frame on a bus, a sample or an edge at an input, the end of a time that the module keeps, or
a change at a pin or in a part (INVENTORY.md, Instructions). `held` counts the ticks for which a measured condition has held,
up to this one.
-/
namespace Sys2Proof

/-- The commands. -/
inductive Instr where
  /-- OPEN (R58) -/
  | openSession (vlan port : BitVec 16) (frame : Bytes)
  /-- CLOSE (R46) -/
  | closeSession (vlan port : BitVec 16) (frame : Bytes)
  /-- KEEPALIVE (R58) -/
  | keepalive (vlan port : BitVec 16) (frame : Bytes)
  /-- READ (R61) -/
  | read (vlan port : BitVec 16) (frame : Bytes)
  /-- WRITE (R61) -/
  | write (vlan port : BitVec 16) (frame : Bytes)
  /-- DESCRIBE (R62) -/
  | describe (vlan port : BitVec 16) (frame : Bytes)
  /-- ABORT (R58) -/
  | abort (vlan port : BitVec 16) (frame : Bytes)
  /-- SDO_INITIATE_DOWNLOAD (R50) -/
  | sdoInitiateDownload (p : Fin 6) (frame : SdoRequest)
  /-- SDO_DOWNLOAD_SEGMENT (R50) -/
  | sdoDownloadSegment (p : Fin 6) (frame : SdoRequest)
  /-- SDO_INITIATE_UPLOAD (R50) -/
  | sdoInitiateUpload (p : Fin 6) (frame : SdoRequest)
  /-- SDO_UPLOAD_SEGMENT (R50) -/
  | sdoUploadSegment (p : Fin 6) (frame : SdoRequest)
  /-- SDO_ABORT_TRANSFER (R52) -/
  | sdoAbortTransfer (p : Fin 6) (frame : SdoRequest)
  /-- SDO_TIMEOUT (R53) -/
  | sdoTimeout (p : Fin 6)
  /-- SESSION_IDLE_TIMEOUT (R46) -/
  | sessionIdleTimeout (slot : Fin 16)
  /-- SDO_SERVER_ENABLE_CHANGE (R46) -/
  | sdoServerEnableChange (p : Fin 6)
  /-- ENTRY_WRITE (R32) -/
  | entryWrite (slot : Fin 16) (idx : BitVec 16) (sub : BitVec 8) (value : Bytes)
  /-- INTERFACE_SETTINGS_CHANGE (R67) -/
  | interfaceSettingsChange
  /-- RESTORE_DEFAULTS (R68) -/
  | restoreDefaults (slot : Fin 16) (value : BitVec 16)
  /-- COMPLETION_RECORD_WRITE (R76) -/
  | completionRecordWrite
  /-- FUNCTION_DISABLE_SAFE_POINT (R92) -/
  | functionDisableSafePoint
  /-- REPLAY_CUE_WAIT_END (R87) -/
  | replayCueWaitEnd (k : Fin 4096)
  /-- MRAM_COPY_FAILURE (R91) -/
  | mramCopyFailure (b : Bool)
  /-- LOCKSTEP_CORE_FAILURE (R89) -/
  | lockstepCoreFailure
  /-- AXIS_PUBLISH_STEP (R95) -/
  | axisPublishStep
  /-- AXIS_ENABLE (R101) -/
  | axisEnable (slot : Fin 16) (n : Fin 16) (value : BitVec 8)
  /-- WHEEL_SAMPLE_TIMEOUT (R101) -/
  | wheelSampleTimeout (n : Fin 16)
  /-- GNSS_ABSENT_TIMEOUT (R127) -/
  | gnssAbsentTimeout (n : Fin 16)
  /-- GNSS_GATE_TIMEOUT (R101) -/
  | gnssGateTimeout (n : Fin 16)
  /-- STANDSTILL_ENTRY (R102) -/
  | standstillEntry (n : Fin 16)
  /-- AXIS_RESUME (R103) -/
  | axisResume (n : Fin 16)
  /-- AXIS_SNAPSHOT (R104) -/
  | axisSnapshot
  /-- AXIS_PRESET (R125) -/
  | axisPreset (slot : Fin 16) (n : Fin 16) (value : Bytes)
  /-- CUE_ARM (R112) -/
  | cueArm (slot : Fin 16) (value : Bytes)
  /-- CUE_DISARM (R118) -/
  | cueDisarm (slot : Fin 16) (cue : BitVec 16)
  /-- CUE_FIRE (R107) -/
  | cueFire (k : Fin 4096)
  /-- DELAY_LINE_WRITE (R122) -/
  | delayLineWrite (slot : Fin 16) (n : Fin 16) (value : Bytes)
  /-- LINE_ENABLE (R125) -/
  | lineEnable (slot : Fin 16) (n : Fin 16) (value : BitVec 8)
  /-- HITCH_MODEL_STEP (R134) -/
  | hitchModelStep (n : Fin 4)
  /-- HITCH_FALLBACK (R135) -/
  | hitchFallback (n : Fin 4)
  /-- HITCH_FALLBACK_CLEAR (R135) -/
  | hitchFallbackClear (n : Fin 4)
  /-- SECTION_CONFIG (R139) -/
  | sectionConfig (slot : Fin 16) (n : Fin 1024) (value : Bytes)
  /-- SECTION_MODE (R149) -/
  | sectionMode (slot : Fin 16) (n : Fin 4) (mode : BitVec 8)
  /-- MANUAL_SECTION_ON (R149) -/
  | manualSectionOn (slot : Fin 16) (value : Bytes)
  /-- SECTION_SCAN (R152) -/
  | sectionScan (n : Fin 1024)
  /-- AXIS_HELD_SWITCH_OFF (R154) -/
  | axisHeldSwitchOff (n : Fin 4)
  /-- DEGRADED_LIMIT (R154) -/
  | degradedLimit (n : Fin 4)
  /-- COVERAGE_SWEEP (R144) -/
  | coverageSweep (n : Fin 4)
  /-- MARK_COMMIT (R144) -/
  | markCommit (n : Fin 4)
  /-- COVERAGE_ARCHIVE_WRITE (R145) -/
  | coverageArchiveWrite (ok : Bool)
  /-- COVERAGE_CLEAR (R158) -/
  | coverageClear (slot : Fin 16) (layers : BitVec 8)
  /-- BOUNDARY_MASK_LOAD (R148) -/
  | boundaryMaskLoad (slot : Fin 16) (value : Bytes)
  /-- BOUNDARY_MASK_CLEAR (R158) -/
  | boundaryMaskClear (slot : Fin 16) (value : BitVec 8)
  /-- TC_CLIENT_CONNECT (R157) -/
  | tcClientConnect (address : BitVec 8) (elements : List Nat) (sections : List TcSec)
  /-- ACTUAL_CONDENSED_WORK_STATE (R157) -/
  | actualCondensedWorkState (c : Fin 4) (element : Fin 64) (group : Fin 16) (value : BitVec 32)
  /-- TC_CLIENT_LOST (R157) -/
  | tcClientLost (c : Fin 4) (addressLost : Bool)
  /-- FUSION_ENABLE (R184) -/
  | fusionEnable (slot : Fin 16) (value : BitVec 8)
  /-- PROJECTION_FRAME (R171) -/
  | projectionFrame
  /-- PROJECTION_OVERRUN (R171) -/
  | projectionOverrun
  /-- FUSION_STEP_CLOSE (R174) -/
  | fusionStepClose
  /-- NETWORK_RUN_END (R187) -/
  | networkRunEnd (edges band spout tank tracks : Bytes)
  /-- STEP_OVERRUN (R178) -/
  | stepOverrun
  /-- STEP_FREE_RUN (R173) -/
  | stepFreeRun
  /-- FUSION_RESET (R184) -/
  | fusionReset (slot : Fin 16) (value : BitVec 8)
  /-- STATE_HOLD_LIMIT (R184) -/
  | stateHoldLimit
  /-- BAND_WRITE (R190) -/
  | bandWrite
  /-- STOP_HOLD_END (R193) -/
  | stopHoldEnd
  /-- STOP_WATCHDOG (R193) -/
  | stopWatchdog
  /-- STOP_ACKNOWLEDGE (R193) -/
  | stopAcknowledge (slot : Fin 16) (value : BitVec 8)
  /-- STOP_CAN_FRAME (R194) -/
  | stopCanFrame
  /-- STOP_ENABLE (R194) -/
  | stopEnable (slot : Fin 16) (value : BitVec 8)
  /-- FRAME_START (R205) -/
  | frameStart (port : Fin 5) (vc : Fin 16) (number : BitVec 16)
  /-- IMAGE_LINE (R206) -/
  | imageLine (port : Fin 5) (vc : Fin 16) (ty : BitVec 8) (headerBad crcBad : Bool) (taken : Nat) (pixels : List (BitVec 16))
  /-- EMBEDDED_DATA_LINE (R210) -/
  | embeddedDataLine (port : Fin 5) (vc : Fin 16) (ty : BitVec 8) (payload : Bytes)
  /-- FRAME_END (R207) -/
  | frameEnd (port : Fin 5) (vc : Fin 16) (number : BitVec 16)
  /-- NO_START (R208) -/
  | noStart (n : Fin 10)
  /-- OUTPUT_DEADLINE (R208) -/
  | outputDeadline (n : Fin 10)
  /-- MEMORY_PASS_FRAME (R212) -/
  | memoryPassFrame
  /-- FRAME_DESCRIPTOR_ISSUE (R209) -/
  | frameDescriptorIssue (n : Fin 10)
  /-- APHY_LINK_DROP (R199) -/
  | aphyLinkDrop (p : Fin 4)
  /-- APHY_LINK_UP (R199) -/
  | aphyLinkUp (p : Fin 4) (gears : Fin 4)
  /-- POC_TRIP (R202) -/
  | pocTrip (p : Fin 4) (mA : Nat)
  /-- PCLK_ABSENT (R232) -/
  | pclkAbsent (hz held : Nat)
  /-- FSYNC_PERIODIC_PULSE (R203) -/
  | fsyncPeriodicPulse (o : Fin 8)
  /-- INLINE_BYPASS (R213) -/
  | inlineBypass (slot : Fin 16) (value : BitVec 8)
  /-- INLINE_PATH_FAULT (R213) -/
  | inlinePathFault
  /-- CORRECTION_WRITE (R225) -/
  | correctionWrite (slot : Fin 16) (n : Fin 10) (obj : Fin 4) (sub : BitVec 8) (value : Bytes)
  /-- SETTINGS_COMMIT (R227) -/
  | settingsCommit (slot : Fin 16) (n : Fin 10) (value : Bytes)
  /-- SETTINGS_SEND (R227) -/
  | settingsSend (n : Fin 10)
  /-- I2C_WRITE_ACK (R226) -/
  | i2cWriteAck (n : Fin 10) (ack : Bool)
  /-- ENCODE_PICTURE (R229) -/
  | encodePicture (k : Fin 4) (busy : Bool)
  /-- STREAM_ENABLE (R229) -/
  | streamEnable (slot : Fin 16) (k : Fin 4) (value : BitVec 8)
  /-- SENSOR_ENABLE (R198) -/
  | sensorEnable (slot : Fin 16) (n : Fin 10) (value : BitVec 8)
  /-- CONTEXT_SAMPLE (R234) -/
  | contextSample (n : Fin 128) (parityError : Bool)
  /-- CTX_ENABLE (R246) -/
  | ctxEnable (slot : Fin 16) (n : Fin 128)
  /-- CTX_DISABLE (R256) -/
  | ctxDisable (slot : Fin 16) (n : Fin 128)
  /-- CTX_MODE (R254) -/
  | ctxMode (slot : Fin 16) (n : Fin 128) (mode : BitVec 8)
  /-- CONTEXT_ENTRY_WRITE (R249) -/
  | contextEntryWrite (slot : Fin 16) (n : Fin 128) (sub : BitVec 8) (value : Bytes)
  /-- FALLBACK_ENTRY (R255) -/
  | fallbackEntry (n : Fin 128)
  /-- FALLBACK_EXIT (R255) -/
  | fallbackExit (n : Fin 128)
  /-- REHEARSAL_START (R259) -/
  | rehearsalStart (slot : Fin 16) (n : Fin 128) (value : BitVec 8)
  /-- REHEARSAL_STOP (R262) -/
  | rehearsalStop (slot : Fin 16) (n : Fin 128) (value : BitVec 8)
  /-- NOT_TRIGGERED (R261) -/
  | notTriggered (n : Fin 128)
  /-- STICKY_CLEAR (R264) -/
  | stickyClear (slot : Fin 16) (n : Fin 128) (mask : BitVec 32)
  /-- STITCH_END (R272) -/
  | stitchEnd (ch : Fin 32) (mA : Nat)
  /-- STITCH_BOOST (R272) -/
  | stitchBoost (ch : Fin 32) (mA : Nat)
  /-- STITCH_PEAK (R283) -/
  | stitchPeak (ch : Fin 32) (mA : Nat)
  /-- STITCH_HOLD (R272) -/
  | stitchHold (ch : Fin 32) (mA : Nat)
  /-- STITCH_RAMP (R272) -/
  | stitchRamp (ch : Fin 32) (mA : Nat)
  /-- STITCH_FREEWHEEL (R272) -/
  | stitchFreewheel (ch : Fin 32) (mA : Nat)
  /-- STITCH_CLAMP (R272) -/
  | stitchClamp (ch : Fin 32) (mA : Nat)
  /-- STITCH_WINDOW (R290) -/
  | stitchWindow (ch : Fin 32)
  /-- STITCH_DITHER (R272) -/
  | stitchDither (ch : Fin 32)
  /-- STITCH_LOOP (R272) -/
  | stitchLoop (ch : Fin 32)
  /-- STITCH_HOLD_EXT (R287) -/
  | stitchHoldExt (ch : Fin 32) (mA : Nat)
  /-- STITCH_TIMER_EXPIRY (R277) -/
  | stitchTimerExpiry (ch : Fin 32)
  /-- STITCH_CURRENT_REACHED (R277) -/
  | stitchCurrentReached (ch : Fin 32) (mA : Nat)
  /-- BANK_ARBITRATE (R282) -/
  | bankArbitrate (b : Fin 8) (boost : Nat)
  /-- BOOST_DEFER_EXPIRY (R282) -/
  | boostDeferExpiry (ch : Fin 32) (mA : Nat)
  /-- MAX_ON_TIME (R285) -/
  | maxOnTime (ch : Fin 32)
  /-- DUTY_BIN_BOUNDARY (R286) -/
  | dutyBinBoundary (ch : Fin 32)
  /-- SV_COMMAND_START (R288) -/
  | svCommandStart (slot : Fin 16) (ch : Fin 32) (program : BitVec 8)
  /-- SV_COMMAND_RELEASE (R288) -/
  | svCommandRelease (slot : Fin 16) (ch : Fin 32)
  /-- SV_ENABLE (R289) -/
  | svEnable (slot : Fin 16) (ch : Fin 32) (value : BitVec 8)
  /-- SV_SELF_TEST (R292) -/
  | svSelfTest (slot : Fin 16) (ch : Fin 32) (value : BitVec 8)
  /-- SV_FAULT_CLEAR (R294) -/
  | svFaultClear (slot : Fin 16) (ch : Fin 32) (value : BitVec 8)
  /-- STITCH_PROGRAM_WRITE (R273) -/
  | stitchProgramWrite (slot : Fin 16) (p : Fin 64) (value : Bytes)
  /-- OPEN_LOAD (R295) -/
  | openLoad (ch : Fin 32) (mA held : Nat)
  /-- OVERCURRENT (R295) -/
  | overcurrent (ch : Fin 32) (mA : Nat) (desaturated : Bool)
  /-- SHORT_TO_SUPPLY (R295) -/
  | shortToSupply (ch : Fin 32) (mV held : Nat)
  /-- DECAY_STUCK (R295) -/
  | decayStuck (ch : Fin 32)
  /-- OVERTEMP (R295) -/
  | overtemp (ch : Fin 32) (temp : Int)
  /-- REG_LOW (R294) -/
  | regLow (ch : Fin 32) (mA held : Nat)
  /-- BOOST_FAILED (R295) -/
  | boostFailed (b : Fin 8) (mV held : Nat)
  /-- SUPPLY_LOW (R295) -/
  | supplyLow (b : Fin 8) (mV : Nat)
  /-- BANK_OVERLOAD (R295) -/
  | bankOverload (b : Fin 8) (mA held : Nat)
  /-- LS_DUTY (R301) -/
  | lsDuty (slot : Fin 16) (ch : Fin 48) (duty : BitVec 16)
  /-- INRUSH_END (R303) -/
  | inrushEnd (ch : Fin 48)
  /-- SLEW_FALLBACK (R304) -/
  | slewFallback (ch : Fin 48) (temp : Int)
  /-- SLEW_END (R304) -/
  | slewEnd (ch : Fin 48)
  /-- OVERLOAD (R305) -/
  | overload (ch : Fin 48) (mA held : Nat)
  /-- SHORT (R306) -/
  | short (ch : Fin 48) (mA desat low : Nat)
  /-- FUSE_STEP (R311) -/
  | fuseStep (ch : Fin 48) (mean meanSq peak : Nat)
  /-- LAMP_DUTY (R314) -/
  | lampDuty (ch : Fin 48) (vPin iMean : Nat)
  /-- FUSE_SAVE (R313) -/
  | fuseSave
  /-- THERMAL_LATCH (R315) -/
  | thermalLatch (ch : Fin 48) (temp : Int)
  /-- THERMAL_LATCH_CLEAR (R315) -/
  | thermalLatchClear (ch : Fin 48) (temp : Int)
  /-- RESTART_CHECK (R316) -/
  | restartCheck (ch : Fin 48)
  /-- RETRY_WINDOW (R317) -/
  | retryWindow (ch : Fin 48)
  /-- LS_FAULT_CLEAR (R317) -/
  | lsFaultClear (slot : Fin 16) (ch : Fin 48) (value : BitVec 8)
  /-- LS_ENABLE (R323) -/
  | lsEnable (slot : Fin 16) (ch : Fin 48) (value : BitVec 8)
  /-- GROUP_SHED (R318) -/
  | groupShed (g : Fin 4) (mean held : Nat)
  /-- GROUP_TRIP (R318) -/
  | groupTrip (g : Fin 4) (mA held : Nat)
  /-- GROUP_RECONNECT (R325) -/
  | groupReconnect (slot : Fin 16) (g : Fin 4) (value : BitVec 8)
  /-- SEGMENT_RETIRE (R319) -/
  | segmentRetire (ch : Fin 48) (ratio mA held : Nat) (gateFault : Bool)
  /-- SEGMENT_TEST (R320) -/
  | segmentTest (ch : Fin 48) (failed : Bool)
  /-- OPEN_LOAD_ON (R327) -/
  | openLoadOn (ch : Fin 48) (mA held : Nat)
  /-- OPEN_LOAD_OFF (R327) -/
  | openLoadOff (ch : Fin 48) (mV held : Nat)
  /-- LS_SHORT_TO_SUPPLY (R327) -/
  | lsShortToSupply (ch : Fin 48) (mV held : Nat)
  /-- STUCK_ON (R327) -/
  | stuckOn (ch : Fin 48) (mA held : Nat)
  /-- FEED_LOW (R327) -/
  | feedLow (g : Fin 4) (mV : Nat)
  /-- FIN_EDGE (R337) -/
  | finEdge (n : Fin 16) (p0 p : FinPin) (held peak : Nat)
  /-- NO_EDGES (R340) -/
  | noEdges (n : Fin 16)
  /-- FIN_ZERO (R341) -/
  | finZero (slot : Fin 16) (n : Fin 16) (value : BitVec 8)
  /-- AIN_OUT_OF_RANGE (R335) -/
  | ainOutOfRange (n : Fin 32)
  /-- ACU_IMPACT (R343) -/
  | acuImpact (n : Fin 16)
  /-- GRAIN_RATE_UPDATE (R344) -/
  | grainRateUpdate (n : Fin 16)
  /-- ACU_NOISE (R346) -/
  | acuNoise (n : Fin 16)
  /-- BRG_TARE_COMMAND (R348) -/
  | brgTareCommand (slot : Fin 16) (n : Fin 4) (value : BitVec 8)
  /-- BRG_TARE_END (R348) -/
  | brgTareEnd (n : Fin 4)
  /-- INPUT_FAULT_DETECT (R355) -/
  | inputFaultDetect (cls : Fin 5) (n : Fin 32) (bit : Fin 8) (held : Nat)
  /-- INPUT_FAULT_CLEAR (R355) -/
  | inputFaultClear (cls : Fin 5) (n : Fin 32) (bit : Fin 8) (held : Nat)
  /-- SENSOR_SUPPLY_LIMIT (R353) -/
  | sensorSupplyLimit (g : Fin 6) (mV : BitVec 16) (held : Nat)
  /-- CONVERTER_CHECK (R354) -/
  | converterCheck (c : Fin 8) (diff : Nat)
  /-- IMU_STUCK (R352) -/
  | imuStuck
  /-- VMAC (R362) -/
  | vmac (place : Fin 2048) (pred : Fin 8) (inv : Bool) (dst : Fin 2) (a b : Fin 16)
  /-- DOT (R362) -/
  | dot (place : Fin 2048) (pred : Fin 8) (inv : Bool) (dst : Fin 2) (a b : Fin 16)
  /-- VMUL (R362) -/
  | vmul (place : Fin 2048) (pred : Fin 8) (inv : Bool) (dst : Fin 2) (a b : Fin 16)
  /-- ACLR (R362) -/
  | aclr (place : Fin 2048) (pred : Fin 8) (inv : Bool) (dst : Fin 2)
  /-- AOUT8 (R362) -/
  | aout8 (place : Fin 2048) (pred : Fin 8) (inv : Bool) (dst : Fin 16) (a : Fin 2) (imm : BitVec 28)
  /-- AOUT32 (R362) -/
  | aout32 (place : Fin 2048) (pred : Fin 8) (inv : Bool) (dst : Fin 64) (a : Fin 2) (imm : BitVec 28)
  /-- ABIAS (R362) -/
  | abias (place : Fin 2048) (pred : Fin 8) (inv : Bool) (dst : Fin 2) (a : Fin 64)
  /-- VBCAST (R362) -/
  | vbcast (place : Fin 2048) (pred : Fin 8) (inv : Bool) (dst : Fin 16) (a : Fin 64)
  /-- ADDS (R362) -/
  | adds (place : Fin 2048) (pred : Fin 8) (inv : Bool) (dst a b : CellArg) (imm : BitVec 28)
  /-- SUBS (R362) -/
  | subs (place : Fin 2048) (pred : Fin 8) (inv : Bool) (dst a b : CellArg) (imm : BitVec 28)
  /-- MULS (R362) -/
  | muls (place : Fin 2048) (pred : Fin 8) (inv : Bool) (dst a b : CellArg) (imm : BitVec 28)
  /-- MACS (R362) -/
  | macs (place : Fin 2048) (pred : Fin 8) (inv : Bool) (dst a b : CellArg) (imm : BitVec 28)
  /-- MIN (R362) -/
  | min (place : Fin 2048) (pred : Fin 8) (inv : Bool) (dst a b : CellArg) (imm : BitVec 28)
  /-- MAX (R362) -/
  | max (place : Fin 2048) (pred : Fin 8) (inv : Bool) (dst a b : CellArg) (imm : BitVec 28)
  /-- SHLS (R362) -/
  | shls (place : Fin 2048) (pred : Fin 8) (inv : Bool) (dst a : CellArg) (imm : BitVec 28)
  /-- SHRA (R362) -/
  | shra (place : Fin 2048) (pred : Fin 8) (inv : Bool) (dst a : CellArg) (imm : BitVec 28)
  /-- CMP (R362) -/
  | cmp (place : Fin 2048) (pred : Fin 8) (inv : Bool) (dst : Fin 8) (a b : CellArg) (imm : BitVec 28)
  /-- MOV (R362) -/
  | mov (place : Fin 2048) (pred : Fin 8) (inv : Bool) (dst a : CellArg) (imm : BitVec 28)
  /-- AND (R362) -/
  | and (place : Fin 2048) (pred : Fin 8) (inv : Bool) (dst a b : CellArg) (imm : BitVec 28)
  /-- OR (R362) -/
  | or (place : Fin 2048) (pred : Fin 8) (inv : Bool) (dst a b : CellArg) (imm : BitVec 28)
  /-- XOR (R362) -/
  | xor (place : Fin 2048) (pred : Fin 8) (inv : Bool) (dst a b : CellArg) (imm : BitVec 28)
  /-- NOT (R362) -/
  | not (place : Fin 2048) (pred : Fin 8) (inv : Bool) (dst a : CellArg) (imm : BitVec 28)
  /-- SEL (R362) -/
  | sel (place : Fin 2048) (pred : Fin 8) (inv : Bool) (dst a b : CellArg) (imm : BitVec 28)
  /-- POPC (R362) -/
  | popc (place : Fin 2048) (pred : Fin 8) (inv : Bool) (dst a : CellArg) (imm : BitVec 28)
  /-- RELU (R362) -/
  | relu (place : Fin 2048) (pred : Fin 8) (inv : Bool) (dst a : CellArg) (imm : BitVec 28)
  /-- LUT (R362) -/
  | lut (place : Fin 2048) (pred : Fin 8) (inv : Bool) (dst a : Fin 16) (imm : BitVec 28)
  /-- SIGM (R362) -/
  | sigm (place : Fin 2048) (pred : Fin 8) (inv : Bool) (dst a : CellArg) (imm : BitVec 28)
  /-- TANH (R362) -/
  | tanh (place : Fin 2048) (pred : Fin 8) (inv : Bool) (dst a : CellArg) (imm : BitVec 28)
  /-- QUANT (R362) -/
  | quant (place : Fin 2048) (pred : Fin 8) (inv : Bool) (dst : Fin 16) (a : Fin 64) (imm : BitVec 28)
  /-- LD (R362) -/
  | ld (place : Fin 2048) (pred : Fin 8) (inv : Bool) (dst : Fin 64) (a : Option (Fin 64)) (imm : BitVec 28)
  /-- ST (R362) -/
  | st (place : Fin 2048) (pred : Fin 8) (inv : Bool) (a : Option (Fin 64)) (b : Fin 64) (imm : BitVec 28)
  /-- LDV (R362) -/
  | ldv (place : Fin 2048) (pred : Fin 8) (inv : Bool) (dst : Fin 16) (a : Option (Fin 64)) (imm : BitVec 28)
  /-- STV (R362) -/
  | stv (place : Fin 2048) (pred : Fin 8) (inv : Bool) (a : Option (Fin 64)) (b : Fin 16) (imm : BitVec 28)
  /-- DRD (R366) -/
  | drd (place : Fin 2048) (pred : Fin 8) (inv : Bool) (dst : Fin 8) (a b : Fin 64) (imm : BitVec 28)
  /-- DWR (R366) -/
  | dwr (place : Fin 2048) (pred : Fin 8) (inv : Bool) (dst : Fin 8) (a b : Fin 64) (imm : BitVec 28)
  /-- DMA_COMPLETE (R366) -/
  | dmaComplete (place : Fin 2048)
  /-- CELL_SEND (R364) -/
  | cellSend (place : Fin 2048) (pred : Fin 8) (inv : Bool) (a : CellArg) (imm : BitVec 28) (parityError : Bool)
  /-- RECV (R362) -/
  | recv (place : Fin 2048) (pred : Fin 8) (inv : Bool) (dst : CellArg) (imm : BitVec 28)
  /-- BCAST (R362) -/
  | bcast (place : Fin 2048) (pred : Fin 8) (inv : Bool) (a : CellArg) (imm : BitVec 28) (parityError : Bool)
  /-- NOP (R362) -/
  | cellNop (place : Fin 2048) (pred : Fin 8) (inv : Bool)
  /-- CELL_LOOP (R362) -/
  | cellLoop (place : Fin 2048) (pred : Fin 8) (inv : Bool) (imm : BitVec 28)
  /-- HANDOVER (R380) -/
  | handover (place : Fin 2048) (pred : Fin 8) (inv : Bool)
  /-- TSTAMP (R362) -/
  | tstamp (place : Fin 2048) (pred : Fin 8) (inv : Bool) (dst : Fin 64)
  /-- OBJRD (R385) -/
  | objrd (place : Fin 2048) (pred : Fin 8) (inv : Bool) (dst : Fin 64) (imm : BitVec 28)
  /-- OBJWR (R385) -/
  | objwr (place : Fin 2048) (pred : Fin 8) (inv : Bool) (a : Fin 64) (imm : BitVec 28)
  /-- LINEWR (R363) -/
  | linewr (place : Fin 2048) (pred : Fin 8) (inv : Bool) (a b : Fin 64) (imm : BitVec 28)
  /-- CUEARM (R363) -/
  | cuearm (place : Fin 2048) (pred : Fin 8) (inv : Bool) (dst : Fin 8) (imm : BitVec 28)
  /-- AXRD (R362) -/
  | axrd (place : Fin 2048) (pred : Fin 8) (inv : Bool) (dst : Fin 64) (imm : BitVec 28)
  /-- EVENT (R362) -/
  | event (place : Fin 2048) (pred : Fin 8) (inv : Bool) (a : Fin 64) (imm : BitVec 28)
  /-- REPEAT_BOUNDARY (R385) -/
  | repeatBoundary (r : Fin 32)
  /-- REGION_PANELS (R367) -/
  | regionPanels (slot : Fin 16) (r : Fin 32) (value : BitVec 32)
  /-- PRICKING_LOAD (R371) -/
  | prickingLoad (slot : Fin 16) (n : Fin 32) (value : Bytes)
  /-- PRICKING_LOAD_END (R372) -/
  | prickingLoadEnd (ok : Bool)
  /-- PRICKING_DELETE (R373) -/
  | prickingDelete (slot : Fin 16) (n : BitVec 8)
  /-- SCENE_CHANGE (R378) -/
  | sceneChange (slot : Fin 16) (value : Bytes)
  /-- SCENE_STAGING_END (R380) -/
  | sceneStagingEnd (r : Fin 32)
  /-- SCENE_TRIGGER (R380) -/
  | sceneTrigger (r : Fin 32)
  /-- SCENE_SWITCH (R381) -/
  | sceneSwitch (r : Fin 32)
  /-- SCENE_WAIT_LIMIT (R380) -/
  | sceneWaitLimit (r : Fin 32)
  /-- SCENE_CANCEL (R384) -/
  | sceneCancel (slot : Fin 16) (r : BitVec 8)
  /-- SRAM_ECC_ERROR (R390) -/
  | sramEccError (place : Fin 2048) (line : Fin 512) (uncorrectable : Bool)
  /-- CELL_ROTATION (R394) -/
  | cellRotation (q : Fin 4) (ok : Bool)
  /-- CELL_MISMATCH (R396) -/
  | cellMismatch (place : Fin 2048) (cause : Fin 3)
  /-- ROUTE_MOVE (R397) -/
  | routeMove (place : Fin 2048) (spareOk : Bool)
  /-- UNDERSTUDY_SWAP (R398) -/
  | understudySwap (slot : Fin 16) (place : BitVec 16)
  /-- DRAM_ROW_REPAIR (R404) -/
  | dramRowRepair (bank : Fin 64) (row column : BitVec 16) (event : DramEvent) (use : DramUse)
  /-- DRAM_CHANNEL_RETIRE (R404) -/
  | dramChannelRetire (channel : Fin 4)
  /-- EMMC_BLOCK_RETIRE (R405) -/
  | emmcBlockRetire (block : BitVec 20) (use : EmmcUse)
  /-- MRAM_REBUILD (R406) -/
  | mramRebuild (slot : Fin 16) (write : Option (BitVec 8)) (same : Bool)
  /-- INLINE_PATH_TEST (R407) -/
  | inlinePathTest (slot : Fin 16) (value : BitVec 8)
  /-- STANDBY_CORE_SELF_TEST (R393) -/
  | standbyCoreSelfTest (ok : Bool)
  /-- FIRMWARE_STAGE (R408) -/
  | firmwareStage (slot : Fin 16) (value : Bytes)
  /-- CANCEL (R409) -/
  | cancel (slot : Fin 16)
  /-- NEXT_START (R409) -/
  | nextStart (slot : Fin 16)
  /-- IMMEDIATE (R409) -/
  | immediate (slot : Fin 16)
  /-- FIRMWARE_CONFIRM (R410) -/
  | firmwareConfirm (slot : Fin 16) (value : BitVec 8)
  /-- CAN_FRAME_RECEIVED (R425) -/
  | canFrameReceived (p : Fin 6) (id : BitVec 32) (format : Fin 3) (remote error : Bool) (data : Bytes) (capture : BitVec 32)
  /-- CAN_FRAME_SENT (R423) -/
  | canFrameSent (p : Fin 6) (outcome : CanEnd) (capture : BitVec 32) (delay : BitVec 8)
  /-- PORT_ENABLE (R417) -/
  | portEnable (slot : Fin 16) (p : Fin 6) (value : BitVec 8)
  /-- BUS_OFF (R420) -/
  | busOff (p : Fin 6)
  /-- BUS_OFF_RECOVERY (R420) -/
  | busOffRecovery (p : Fin 6)
  /-- DETECT_DWELL (R421) -/
  | detectDwell (p : Fin 2) (error : Bool)
  /-- CAN_TX_CONFIG (R422) -/
  | canTxConfig (slot : Fin 16) (p : Fin 6) (b : Fin 64) (value : Bytes)
  /-- CAN_TX_DATA (R423) -/
  | canTxData (slot : Fin 16) (p : Fin 6) (b : Fin 64) (value : Bytes)
  /-- CYCLIC_SEND (R423) -/
  | cyclicSend (p : Fin 6) (b : Fin 64)
  /-- SOF_LATCH (R426) -/
  | sofLatch (p : Fin 6) (counter : BitVec 32)
  /-- SCHEDULE_MATRIX (R427) -/
  | scheduleMatrix (slot : Fin 16) (p : Fin 6) (value : Bytes)
  /-- SCHEDULE_ENABLE (R428) -/
  | scheduleEnable (slot : Fin 16) (p : Fin 6) (value : BitVec 8)
  /-- BASIC_CYCLE_START (R431) -/
  | basicCycleStart (p : Fin 6)
  /-- SLOT_WINDOW_START (R429) -/
  | slotWindowStart (p : Fin 6) (n : Fin 1024)
  /-- SLOT_WINDOW_WITHDRAW (R429) -/
  | slotWindowWithdraw (p : Fin 6) (n : Fin 1024)
  /-- ADDRESS_CLAIMED (R432) -/
  | addressClaimed (p : Fin 6) (a : BitVec 8) (name : BitVec 64) (request : Bool)
  /-- ISOBUS_ENABLE (R432) -/
  | isobusEnable (slot : Fin 16) (p : Fin 6) (value : BitVec 8)
  /-- TRANSPORT_PROTOCOL_MESSAGE (R433) -/
  | transportProtocolMessage (p : Fin 6) (id : BitVec 29) (data : BitVec 64) (capture : BitVec 32)
  /-- CAN_LOOP_TEST (R436) -/
  | canLoopTest (slot : Fin 16) (p : BitVec 8)
  /-- CONTROLLER_FAILED (R436) -/
  | controllerFailed (p : Fin 6)
  /-- TRANSCEIVER_FAULT (R439) -/
  | transceiverFault (p : Fin 6) (fault : Bool) (held : Nat)
  /-- SERVICE_ROLE (R435) -/
  | serviceRole (slot : Fin 16) (p : Fin 6) (value : BitVec 8)
  /-- SYNC (R455) -/
  | sync (p : Fin 6) (number : BitVec 8) (seqId : BitVec 16) (oneStep : Bool) (origin correction : Int) (log : Int) (sub : Fin 10)
  /-- FOLLOW_UP (R455) -/
  | followUp (p : Fin 6) (number : BitVec 8) (seqId : BitVec 16) (origin correction : Int)
  /-- ANNOUNCE (R450) -/
  | announce (p : Fin 6) (number : BitVec 8) (fields : GmFields) (log : Int)
  /-- PDELAY_REQ (R449) -/
  | pdelayReq (p : Fin 6) (seqId : BitVec 16) (measured : Option Nat) (sub : Fin 10)
  /-- SYNC_TRANSMIT (R451) -/
  | syncTransmit (p : Fin 6) (d : Fin 2)
  /-- TX_TIMESTAMP (R452) -/
  | txTimestamp (p : Fin 6) (sub : Fin 10) (take : Bool)
  /-- RECEIPT_TIMEOUT (R451) -/
  | receiptTimeout (d : Fin 2) (sync : Bool)
  /-- PPS_EDGE (R454) -/
  | ppsEdge
  /-- PPS_LABEL (R462) -/
  | ppsLabel (utc : Nat)
  /-- REVERT_TIME (R457) -/
  | revertTime
  /-- HOLDOVER_LIMIT (R458) -/
  | holdoverLimit
  /-- ACQUIRE_TIMEOUT (R458) -/
  | acquireTimeout
  /-- NMEA_DATAGRAM (R460) -/
  | nmeaDatagram (vlan port : BitVec 16) (l : List Nmea)
  /-- ISOBUS_GNSS_MESSAGE (R460) -/
  | isobusGnssMessage (p : Fin 6) (capture : BitVec 32) (utc : Nat) (lat lon height : Int) (quality : BitVec 8) (speed course : Int)
  /-- ETH_LINK_CHANGE (R464) -/
  | ethLinkChange (p : Fin 6) (up : Bool)
  /-- DHCP_DISCOVERY (R444) -/
  | dhcpDiscovery (n : Fin 4) (lease : Option (BitVec 32))
  /-- ETH_FRAME_INGRESS (R442) -/
  | ethFrameIngress (p : Fin 6) (fcsOk : Bool) (f : EthFrame)
  /-- PAGE_COMMIT (R472) -/
  | pageCommit (ok : Bool)
  /-- RECORD_CLEAR_ARM (R475) -/
  | recordClearArm (slot : Fin 16) (value : BitVec 8)
  /-- RECORD_CLEAR (R476) -/
  | recordClear (slot : Fin 16) (value : Bytes)
  /-- RECORD_CLEAR_ERASE_END (R476) -/
  | recordClearEraseEnd
  /-- NONCE_EXPIRY (R475) -/
  | nonceExpiry (slot : Fin 16)
  /-- YIELD_SAMPLE (R486) -/
  | yieldSample
  /-- STRIP_CLOSE (R487) -/
  | stripClose
  /-- POOL_CLOSE (R488) -/
  | poolClose
  /-- STRIP_DEPOSIT (R489) -/
  | stripDeposit
  /-- YIELD_TILE_ARCHIVE (R490) -/
  | yieldTileArchive
  /-- LOSS_UPDATE (R492) -/
  | lossUpdate
  /-- YIELD_CALIBRATE (R491) -/
  | yieldCalibrate (slot : Fin 16) (mass : BitVec 32)
  /-- LOAD_RESET (R503) -/
  | loadReset (slot : Fin 16) (value : BitVec 8)
  /-- OPEN_FIELD (R483) -/
  | openField (slot : Fin 16) (f : BitVec 16)
  /-- ARCHIVE_ERASE (R485) -/
  | archiveErase (slot : Fin 16) (f : BitVec 16)
  /-- ISO_TASKDATA (R494) -/
  | isoTaskdata (slot : Fin 16) (f : BitVec 8)
  /-- YIELD_TILES (R495) -/
  | yieldTiles (slot : Fin 16) (f : BitVec 8)
  /-- COVERAGE_TILES (R495) -/
  | coverageTiles (slot : Fin 16) (f : BitVec 8)
  /-- EXPORT_BUILD_END (R493) -/
  | exportBuildEnd (ok : Bool)
  /-- BROKER_CONNECT (R496) -/
  | brokerConnect (hello : Option ServerHello)
  /-- CONNACK (R499) -/
  | connack
  /-- BROKER_DISCONNECT (R499) -/
  | brokerDisconnect
  /-- STATUS_PUBLISH (R497) -/
  | statusPublish
  /-- POS_PUBLISH (R497) -/
  | posPublish
  /-- YIELD_PUBLISH (R497) -/
  | yieldPublish
  /-- DICT_REQ (R499) -/
  | dictReq (frame : Bytes)
  /-- RENDEZVOUS_UPDATE (R501) -/
  | rendezvousUpdate
  /-- RDV_ACCEPT (R502) -/
  | rdvAccept (cart : Bytes)
  /-- RENDEZVOUS_CANCEL (R502) -/
  | rendezvousCancel (slot : Fin 16) (value : BitVec 8)
  /-- FRAME_LATCH (R507) -/
  | frameLatch
  /-- UI_RECT_WRITE (R510) -/
  | uiRectWrite (slot : Fin 16) (value : Bytes)
  /-- UI_FLIP (R511) -/
  | uiFlip (slot : Fin 16) (value : BitVec 64)
  /-- UNIFORMITY_MAP (R512) -/
  | uniformityMap (slot : Fin 16) (value : Bytes)
  /-- PANEL_POWER_UP (R514) -/
  | panelPowerUp (slot : Fin 16) (write ok : Bool)
  /-- PANEL_POWER_DOWN (R515) -/
  | panelPowerDown (slot : Fin 16) (write : Bool)
  /-- BIAS_FAULT (R522) -/
  | biasFault (k : Fin 4) (mv : BitVec 16) (held : Nat)
  /-- VDD_OVERCURRENT (R522) -/
  | vddOvercurrent
  /-- TAG_UPDATE (R518) -/
  | tagUpdate
  /-- TAG_PHASE_END (R518) -/
  | tagPhaseEnd
  /-- TAG_STARTUP_CHECK (R519) -/
  | tagStartupCheck (cut : Bool)
  /-- TAG_RESERVOIR_READY (R518) -/
  | tagReservoirReady
  /-- ZONE_STEP (R524) -/
  | zoneStep (z : Fin 8) (temp : BitVec 16) (failed : Bool)
  /-- FAN_MEASUREMENT (R528) -/
  | fanMeasurement (f : Fin 8) (edges : Nat) (interval : BitVec 32)
  /-- FAN_STRETCH_START (R528) -/
  | fanStretchStart (f : Fin 8)
  /-- FAN_START_TIMEOUT (R530) -/
  | fanStartTimeout (f : Fin 8)
  /-- FAN_RETRY_WAIT_END (R530) -/
  | fanRetryWaitEnd (f : Fin 8)
  /-- TACH_LOST (R532) -/
  | tachLost (f : Fin 8) (ripple : BitVec 16)
  /-- FAN_RESTART (R530) -/
  | fanRestart (slot : Fin 16) (f : Fin 8) (value : BitVec 8)
  /-- FAN_ENABLE (R526) -/
  | fanEnable (slot : Fin 16) (f : Fin 8) (value : BitVec 8)
  /-- COMPARATOR (R534) -/
  | comparator (temp : BitVec 16)
  /-- ZONE_SHUTDOWN (R534) -/
  | zoneShutdown
  /-- HOLDUP_ACTIVE (R538) -/
  | holdupActive (mV : Nat)
  /-- BROWNOUT (R90) -/
  | brownout (reserve : Bool) (level : Fin 101)
  /-- OVERVOLTAGE (R542) -/
  | overvoltage (mV held : Nat)
  /-- OVERVOLTAGE_CLEAR (R542) -/
  | overvoltageClear (mV held : Nat)
  /-- LOGIC_SUPPLY_LOW (R555) -/
  | logicSupplyLow (mV : Nat)
  /-- WAKE_PIN (R543) -/
  | wakePin (active : Bool) (held : Nat)
  /-- WAKE_OFF_DELAY (R544) -/
  | wakeOffDelay
  /-- STANDBY_ENTRY_WAIT_END (R88) -/
  | standbyEntryWaitEnd
  /-- CAN_WAKE (R434) -/
  | canWake (p : Fin 6) (frame : Option (BitVec 32 × Bytes))
  /-- START_UP (R548) -/
  | startUp (b : Boot)
  /-- WATCHDOG (R550) -/
  | watchdog
  /-- MODULE_RESET (R552) -/
  | moduleReset (slot : Fin 16) (value : BitVec 8)
  /-- AUTH_CHALLENGE_REQUEST (R565) -/
  | authChallengeRequest (slot : Fin 16) (role : BitVec 8)
  /-- AUTH_RESPONSE (R566) -/
  | authResponse (slot : Fin 16) (value : Bytes)
  /-- AUTH_DROP (R566) -/
  | authDrop (slot : Fin 16) (value : BitVec 8)
  /-- CHALLENGE_EXPIRY (R565) -/
  | challengeExpiry (slot : Fin 16)
  /-- LOCKOUT_EXPIRY (R567) -/
  | lockoutExpiry
  /-- KEY_INSTALL (R558) -/
  | keyInstall (slot : Fin 16) (value : Bytes)
  /-- KEY_REVOKE (R559) -/
  | keyRevoke (slot : Fin 16) (head sig : Bytes)
  /-- KEY_STORE_CLEAR (R560) -/
  | keyStoreClear (slot : Fin 16) (value : BitVec 8)
  /-- FLEET_KEY_GENERATE (R568) -/
  | fleetKeyGenerate (slot : Fin 16) (value : BitVec 8)
  /-- GLITCH_DETECTED (R573) -/
  | glitchDetected
  /-- FIRMWARE_STAGE_END (R408) -/
  | firmwareStageEnd (ok : Bool)
  /-- ARCHIVE_ERASE_END (R485) -/
  | archiveEraseEnd
  /-- OPEN_FIELD_END (R483) -/
  | openFieldEnd
  /-- SV_SELF_TEST_END (R292) -/
  | svSelfTestEnd (ch : Fin 32) (pass : Bool)
  /-- CAN_LOOP_TEST_END (R436) -/
  | canLoopTestEnd (p : Fin 6) (pass : Bool)
  /-- INLINE_PATH_TEST_END (R407) -/
  | inlinePathTestEnd (pass : Bool)
  /-- HOLDUP_END (R538) -/
  | holdupEnd (mV : Nat)
  /-- BANK_SUPPLY_RETURN (R295) -/
  | bankSupplyReturn (b : Fin 8) (mV : Nat)
  /-- FEED_RETURN (R327) -/
  | feedReturn (g : Fin 4) (mV : Nat)
  /-- PPS_LOSS (R454) -/
  | ppsLoss
  /-- PPS_LABEL_WINDOW_END (R462) -/
  | ppsLabelWindowEnd
  /-- SIGNALING (R449) -/
  | signaling (p : Fin 6) (number : BitVec 8) (log : Int)
  /-- MODULE_TIME_SAVE (R459) -/
  | moduleTimeSave
  /-- OPERATING_TIME_SAVE (R467) -/
  | operatingTimeSave
  /-- LOCKOUT_TIME_SAVE (R567) -/
  | lockoutTimeSave
  /-- TAG_RESERVOIR_FAULT (R522) -/
  | tagReservoirFault (silent : Bool)
  /-- AIN_SAMPLE (R333) -/
  | ainSample (n : Fin 32) (x : Int)
  /-- ACU_SAMPLE (R343) -/
  | acuSample (n : Fin 16) (x : BitVec 16)
  /-- BRG_SAMPLE (R347) -/
  | brgSample (n : Fin 4) (raw : Int) (excitation : BitVec 16)
  /-- IMU_SAMPLE (R350) -/
  | imuSample (ax ay az wx wy wz : Int)
  deriving DecidableEq, Repr

end Sys2Proof
end

