-- ==== Sys2Proof/WellFormed.lean ====
section
/-!
DEFINITION. Well-formed commands: the limits on operands that a bus or a format sets and that the operand's type does not. The
meanings are total and refuse nothing on this ground: a command that is not well-formed cannot reach the module.
-/
namespace Sys2Proof

/-- Data lengths of a CAN frame (R422): up to 8 bytes in a CLASSICAL frame, the lengths of ISO 11898-1 in an FD frame. -/
def canLengthOk (format n : Nat) : Bool :=
  decide (n ≤ 8) || (format != 0 && [12, 16, 20, 24, 32, 48, 64].contains n)

/-- A UDP datagram's payload over IPv4. -/
def datagramOk (b : Bytes) : Bool := decide (b.length ≤ 65507)

/-- The fields of an Announce have their widths (IEEE 802.1AS). -/
def GmFields.ok (g : GmFields) : Bool :=
  decide (g.priority1 < 256) && decide (g.clockClass < 256) && decide (g.accuracy < 256) && decide (g.variance < 65536) &&
  decide (g.priority2 < 256) && decide (g.identity < 2 ^ 64) && decide (g.steps < 65536)

/-- An Ethernet frame has 48-bit addresses, a 12-bit VLAN and a 3-bit priority. -/
def EthFrame.ok (f : EthFrame) : Bool :=
  decide (f.dst < 2 ^ 48) && decide (f.src < 2 ^ 48) &&
  (match f.tag with
    | some (v, p) => decide (v < 4096) && decide (p < 8)
    | none => true)

/-- A well-formed command. -/
def Instr.wf : Instr → Bool
  | .openSession _ _ b | .closeSession _ _ b | .keepalive _ _ b | .read _ _ b | .write _ _ b | .describe _ _ b
  | .abort _ _ b => datagramOk b
  | .canFrameReceived _ _ f _ _ d _ => canLengthOk f d.length
  | .canWake _ (some (_, d)) => canLengthOk 0 d.length
  | .announce _ _ g _ => g.ok
  | .ethFrameIngress _ _ f => f.ok
  | .tcClientConnect _ elements sections => sections.all (fun x => decide (x.element < elements.length))
  | _ => true

end Sys2Proof
end

