-- ==== Sys2Proof/Decode.lean ====
section
/-!
DEFINITION. The commands that a word of the command table spells. No row of spec/opcode_table.json gives bits: a command comes in
a frame, a message, at a pin or from a clock, so that no word spells one.
-/
namespace Sys2Proof

/-- The command of a word: none, because the table gives no row any bits. -/
def decodeTableWord (_nbits _w : Nat) : Option Instr := none

end Sys2Proof
end

