-- ==== Sys2Proof/Machine/Objects.lean ====
section
/-!
DEFINITION. The object dictionary as the spec's object tables give it: one row per entry (R26-R40), in the order of
the chapters. A row's ranges are inclusive intervals of raw values, or of lengths for byte strings.
-/

namespace Sys2Proof.Machine

/-- The data types of R30. -/
inductive Ty where
  | bool | i8 | i16 | i32 | i64 | u8 | u16 | u32 | u64 | q7_24 | q16_16 | time64 | poslin | posang
  | enum8 | enum16 | bits8 | bits16 | bits32 | bits64 | str | octets | domain
  deriving DecidableEq, Repr

/-- The access codes of R31. -/
inductive Access where
  | const | ro | rw | rwv | cmd
  deriving DecidableEq, Repr

/-- One row of an object table (R26, R30, R31, R35, R40): indices `lo`-`hi`, subindices `slo`-`shi`. -/
structure Desc where
  lo : Nat
  hi : Nat
  slo : Nat
  shi : Nat
  name : String
  ty : Ty
  acc : Access
  /-- Bit n admits the role with code n (R39, R40, R62). -/
  rd : Nat
  wr : Nat
  dflt : Int
  ranges : List (Int × Int)
  unit : String
  deriving DecidableEq, Repr

def objects02_0 : List Desc := [
  ⟨0x1000, 0x1000, 0x01, 0x01, "DeviceName", .str, .const, 0x1F, 0x00, 0, [(14, 14)], ""⟩,
  ⟨0x1000, 0x1000, 0x02, 0x02, "OrderingCode", .str, .const, 0x1F, 0x00, 0, [(10, 10)], ""⟩,
  ⟨0x1000, 0x1000, 0x03, 0x03, "SerialNumber", .str, .const, 0x1F, 0x00, 0, [(12, 12)], ""⟩,
  ⟨0x1000, 0x1000, 0x04, 0x04, "HardwareIssue", .u16, .const, 0x1F, 0x00, 0, [(1, 65535)], ""⟩,
  ⟨0x1000, 0x1000, 0x05, 0x05, "FirmwareVersion", .u32, .ro, 0x1F, 0x00, 0, [(0, 4294967295)], ""⟩,
  ⟨0x1000, 0x1000, 0x06, 0x06, "DictionaryVersion", .u16, .ro, 0x1F, 0x00, 0, [(0, 65535)], ""⟩,
  ⟨0x1000, 0x1000, 0x07, 0x07, "IsobusName", .u64, .ro, 0x1F, 0x00, 0, [(0, 18446744073709551615)], ""⟩,
  ⟨0x1010, 0x1010, 0x01, 0x01, "UdpEnable", .bool, .rw, 0x1F, 0x0C, 1, [(0, 1)], ""⟩,
  ⟨0x1010, 0x1010, 0x02, 0x02, "DictVlanId", .u16, .rw, 0x1F, 0x0C, 100, [(1, 4094)], ""⟩,
  ⟨0x1010, 0x1010, 0x03, 0x03, "UdpPort", .u16, .const, 0x1F, 0x00, 47920, [(47920, 47920)], ""⟩,
  ⟨0x1010, 0x1010, 0x04, 0x04, "SessionIdleTimeout", .u32, .rw, 0x1F, 0x0C, 30000, [(5000, 600000)], "ms"⟩,
  ⟨0x1010, 0x1010, 0x05, 0x05, "SdoServerEnable", .bits8, .rw, 0x1F, 0x0C, 1, [(0, 63)], ""⟩,
  ⟨0x1010, 0x1010, 0x06, 0x06, "SdoTimeout", .u16, .rw, 0x1F, 0x0C, 500, [(50, 5000)], "ms"⟩,
  ⟨0x1010, 0x1010, 0x07, 0x07, "SdoBlockSize", .u8, .rw, 0x1F, 0x0C, 64, [(1, 127)], "segments"⟩,
  ⟨0x1011, 0x1011, 0x01, 0x01, "FramesDropped", .u32, .ro, 0x1F, 0x00, 0, [(0, 4294967295)], "frames"⟩,
  ⟨0x1011, 0x1011, 0x02, 0x02, "AbortsSent", .u32, .ro, 0x1F, 0x00, 0, [(0, 4294967295)], "aborts"⟩,
  ⟨0x1011, 0x1011, 0x03, 0x03, "BusyRefusals", .u32, .ro, 0x1F, 0x00, 0, [(0, 4294967295)], "requests"⟩,
  ⟨0x1011, 0x1011, 0x04, 0x04, "SessionsOpened", .u32, .ro, 0x1F, 0x00, 0, [(0, 4294967295)], "sessions"⟩,
  ⟨0x1011, 0x1011, 0x05, 0x05, "SessionsExpired", .u32, .ro, 0x1F, 0x00, 0, [(0, 4294967295)], "sessions"⟩,
  ⟨0x1012, 0x1012, 0x01, 0x06, "SdoNodeId", .u8, .rw, 0x1F, 0x0C, 16, [(1, 127)], ""⟩]

def objects02_1 : List Desc := [
  ⟨0x1020, 0x102F, 0x01, 0x01, "SourceId", .u32, .ro, 0x1C, 0x00, 0, [(0, 4294967295)], ""⟩,
  ⟨0x1020, 0x102F, 0x02, 0x02, "Transport", .enum8, .ro, 0x1C, 0x00, 0, [(0, 255)], ""⟩,
  ⟨0x1020, 0x102F, 0x03, 0x03, "Role", .enum8, .ro, 0x1C, 0x00, 0, [(0, 255)], ""⟩,
  ⟨0x1020, 0x102F, 0x04, 0x04, "SessionId", .u16, .ro, 0x1C, 0x00, 0, [(0, 65535)], ""⟩,
  ⟨0x1020, 0x102F, 0x05, 0x05, "ItemsInFlight", .u8, .ro, 0x1C, 0x00, 0, [(0, 32)], "items"⟩,
  ⟨0x1020, 0x102F, 0x06, 0x06, "LastAcceptedSeq", .u64, .ro, 0x1C, 0x00, 0, [(0, 18446744073709551615)], ""⟩,
  ⟨0x1020, 0x102F, 0x07, 0x07, "IdleTime", .u32, .ro, 0x1C, 0x00, 0, [(0, 4294967295)], "ms"⟩,
  ⟨0x1030, 0x1030, 0x01, 0x01, "SourceId", .u32, .ro, 0x1F, 0x00, 0, [(0, 4294967295)], ""⟩,
  ⟨0x1030, 0x1030, 0x02, 0x02, "Transport", .enum8, .ro, 0x1F, 0x00, 0, [(0, 255)], ""⟩,
  ⟨0x1030, 0x1030, 0x03, 0x03, "Role", .enum8, .ro, 0x1F, 0x00, 0, [(0, 255)], ""⟩,
  ⟨0x1030, 0x1030, 0x04, 0x04, "SessionId", .u16, .ro, 0x1F, 0x00, 0, [(0, 65535)], ""⟩,
  ⟨0x1030, 0x1030, 0x05, 0x05, "ItemsInFlight", .u8, .ro, 0x1F, 0x00, 0, [(0, 32)], "items"⟩,
  ⟨0x1030, 0x1030, 0x06, 0x06, "LastAcceptedSeq", .u64, .ro, 0x1F, 0x00, 0, [(0, 18446744073709551615)], ""⟩,
  ⟨0x1030, 0x1030, 0x07, 0x07, "IdleTime", .u32, .ro, 0x1F, 0x00, 0, [(0, 4294967295)], "ms"⟩,
  ⟨0x1040, 0x1040, 0x00, 0x00, "RestoreDefaults", .u16, .cmd, 0x00, 0x04, 0, [(0, 65535)], ""⟩,
  ⟨0x1F00, 0x1F00, 0x01, 0x01, "State", .enum8, .ro, 0x1F, 0x00, 0, [(0, 255)], ""⟩,
  ⟨0x1F00, 0x1F00, 0x02, 0x02, "Operation", .enum8, .ro, 0x1F, 0x00, 0, [(0, 255)], ""⟩,
  ⟨0x1F00, 0x1F00, 0x03, 0x03, "Progress", .u8, .ro, 0x1F, 0x00, 0, [(0, 100)], "%"⟩,
  ⟨0x1F00, 0x1F00, 0x04, 0x04, "StartTime", .time64, .ro, 0x1F, 0x00, 0, [(0, 18446744073709551615)], "ns"⟩,
  ⟨0x1F00, 0x1F00, 0x05, 0x05, "SourceId", .u32, .ro, 0x1F, 0x00, 0, [(0, 4294967295)], ""⟩]

def objects02_2 : List Desc := [
  ⟨0x1F00, 0x1F00, 0x06, 0x06, "JournalSeq", .u64, .ro, 0x1F, 0x00, 0, [(0, 18446744073709551615)], ""⟩]

/-- The object table of 02_object_dictionary.md. -/
def objects02 : List Desc := objects02_0 ++ objects02_1 ++ objects02_2

def objects03_0 : List Desc := [
  ⟨0x1100, 0x1100, 0x01, 0x01, "JournalState", .enum8, .ro, 0x1F, 0x00, 0, [(0, 255)], ""⟩,
  ⟨0x1100, 0x1100, 0x02, 0x02, "NextJournalSeq", .u64, .ro, 0x1F, 0x00, 1, [(0, 18446744073709551615)], ""⟩,
  ⟨0x1100, 0x1100, 0x03, 0x03, "ModuleItemsInFlight", .u8, .ro, 0x1F, 0x00, 0, [(0, 128)], "items"⟩,
  ⟨0x1100, 0x1100, 0x04, 0x04, "Epoch", .u32, .ro, 0x1F, 0x00, 0, [(0, 4294967295)], ""⟩,
  ⟨0x1100, 0x1100, 0x05, 0x05, "LastResetKind", .enum8, .ro, 0x1F, 0x00, 0, [(0, 255)], ""⟩,
  ⟨0x1100, 0x1100, 0x06, 0x06, "ReplayedItems", .u8, .ro, 0x1F, 0x00, 0, [(0, 128)], "items"⟩,
  ⟨0x1101, 0x1101, 0x01, 0x01, "SourceAccepted", .u32, .ro, 0x1F, 0x00, 0, [(0, 4294967295)], ""⟩,
  ⟨0x1101, 0x1101, 0x02, 0x02, "SourceCompleted", .u32, .ro, 0x1F, 0x00, 0, [(0, 4294967295)], ""⟩,
  ⟨0x1110, 0x1110, 0x01, 0x40, "Completion", .octets, .ro, 0x1F, 0x00, 0, [(32, 32)], ""⟩]

/-- The object table of 03_accepted_work.md. -/
def objects03 : List Desc := objects03_0

def objects04_0 : List Desc := [
  ⟨0x2400, 0x240F, 0x01, 0x01, "AxisEnable", .bool, .rw, 0x1F, 0x0C, 0, [(0, 1)], ""⟩,
  ⟨0x2400, 0x240F, 0x02, 0x02, "AxisSource", .enum8, .rw, 0x1F, 0x0C, 0, [(0, 3)], ""⟩,
  ⟨0x2400, 0x240F, 0x03, 0x03, "Implement", .u8, .rw, 0x1F, 0x0C, 0, [(0, 3)], ""⟩,
  ⟨0x2400, 0x240F, 0x04, 0x04, "ShaftInput", .u8, .rw, 0x1F, 0x0C, 0, [(0, 15)], ""⟩,
  ⟨0x2400, 0x240F, 0x05, 0x05, "FieldHeading", .u32, .rw, 0x1F, 0x0C, 0, [(0, 4294967295)], "2^-32 turn"⟩,
  ⟨0x2400, 0x240F, 0x06, 0x06, "WheelGain", .q16_16, .rw, 0x1F, 0x0C, 3277, [(0, 65536)], ""⟩,
  ⟨0x2400, 0x240F, 0x07, 0x07, "BiasGain", .q16_16, .rw, 0x1F, 0x0C, 328, [(0, 65536)], "1/s"⟩,
  ⟨0x2400, 0x240F, 0x08, 0x08, "GnssGain", .q16_16, .rw, 0x1F, 0x0C, 32768, [(0, 655360)], "1/s"⟩,
  ⟨0x2400, 0x240F, 0x09, 0x09, "GnssSlewLimit", .u32, .rw, 0x1F, 0x0C, 50000, [(0, 500000)], "µm/s"⟩,
  ⟨0x2400, 0x240F, 0x0A, 0x0A, "GnssGate", .u32, .rw, 0x1F, 0x0C, 2000, [(100, 50000)], "mm"⟩,
  ⟨0x2400, 0x240F, 0x0B, 0x0B, "GnssMinQuality", .enum8, .rw, 0x1F, 0x0C, 3, [(1, 4)], ""⟩,
  ⟨0x2400, 0x240F, 0x0C, 0x0C, "StandstillSpeed", .u32, .rw, 0x1F, 0x0C, 10000, [(1000, 200000)], "µm/s"⟩,
  ⟨0x2400, 0x240F, 0x0D, 0x0D, "StandstillTime", .u16, .rw, 0x1F, 0x0C, 200, [(10, 5000)], "ms"⟩,
  ⟨0x2400, 0x240F, 0x0E, 0x0E, "ResetBridgeLimit", .u32, .rw, 0x1F, 0x0C, 50000, [(0, 500000)], "mm"⟩,
  ⟨0x2400, 0x240F, 0x0F, 0x0F, "AxisPreset", .octets, .cmd, 0x00, 0x0C, 0, [(8, 8)], ""⟩,
  ⟨0x2410, 0x241F, 0x01, 0x01, "PositionLinear", .poslin, .ro, 0x1F, 0x00, 0, [((-9223372036854775808), 9223372036854775807)], "µm"⟩,
  ⟨0x2410, 0x241F, 0x02, 0x02, "PositionAngular", .posang, .ro, 0x1F, 0x00, 0, [((-9223372036854775808), 9223372036854775807)], ""⟩,
  ⟨0x2410, 0x241F, 0x03, 0x03, "Velocity", .i64, .ro, 0x1F, 0x00, 0, [((-9223372036854775808), 9223372036854775807)], "unit/s"⟩,
  ⟨0x2410, 0x241F, 0x04, 0x04, "Acceleration", .i64, .ro, 0x1F, 0x00, 0, [((-9223372036854775808), 9223372036854775807)], "unit/s²"⟩,
  ⟨0x2410, 0x241F, 0x05, 0x05, "AxisState", .enum8, .ro, 0x1F, 0x00, 0, [(0, 4)], ""⟩]

def objects04_1 : List Desc := [
  ⟨0x2410, 0x241F, 0x06, 0x06, "AxisFlags", .bits16, .ro, 0x1F, 0x00, 0, [(0, 65535)], ""⟩,
  ⟨0x2410, 0x241F, 0x07, 0x07, "PublishTime", .time64, .ro, 0x1F, 0x00, 0, [(0, 18446744073709551615)], "ns"⟩,
  ⟨0x2410, 0x241F, 0x08, 0x08, "Discontinuities", .u32, .ro, 0x1F, 0x00, 0, [(0, 4294967295)], ""⟩,
  ⟨0x2410, 0x241F, 0x09, 0x09, "GnssRejected", .u32, .ro, 0x1F, 0x00, 0, [(0, 4294967295)], "fixes"⟩,
  ⟨0x2410, 0x241F, 0x0A, 0x0A, "SamplesDiscarded", .u32, .ro, 0x1F, 0x00, 0, [(0, 4294967295)], "samples"⟩,
  ⟨0x2420, 0x2420, 0x00, 0x00, "CueArm", .octets, .cmd, 0x00, 0x0E, 0, [(40, 40)], ""⟩,
  ⟨0x2421, 0x2421, 0x00, 0x00, "CueDisarm", .u16, .cmd, 0x00, 0x0E, 0, [(0, 4095)], ""⟩,
  ⟨0x2422, 0x2422, 0x01, 0x01, "InternalSlots", .u16, .rw, 0x1F, 0x0C, 2048, [(0, 4096)], "slots"⟩,
  ⟨0x2422, 0x2422, 0x02, 0x02, "ArmedSlots", .u16, .ro, 0x1F, 0x00, 0, [(0, 4096)], "slots"⟩,
  ⟨0x2422, 0x2422, 0x03, 0x03, "CuesFired", .u32, .ro, 0x1F, 0x00, 0, [(0, 4294967295)], "fires"⟩,
  ⟨0x2422, 0x2422, 0x04, 0x04, "CuesMissed", .u32, .ro, 0x1F, 0x00, 0, [(0, 4294967295)], "cues"⟩,
  ⟨0x2422, 0x2422, 0x05, 0x05, "SameTickDeferrals", .u32, .ro, 0x1F, 0x00, 0, [(0, 4294967295)], "actions"⟩,
  ⟨0x2430, 0x2430, 0x01, 0x20, "SolenoidLead", .u32, .rw, 0x1F, 0x0C, 0, [(0, 500000000)], "ns"⟩,
  ⟨0x2431, 0x2431, 0x01, 0x30, "LoadLead", .u32, .rw, 0x1F, 0x0C, 0, [(0, 500000000)], "ns"⟩,
  ⟨0x2432, 0x2432, 0x01, 0x06, "CanLead", .u32, .rw, 0x1F, 0x0C, 0, [(0, 500000000)], "ns"⟩,
  ⟨0x2433, 0x2433, 0x01, 0x08, "FrameSyncLead", .u32, .rw, 0x1F, 0x0C, 0, [(0, 500000000)], "ns"⟩,
  ⟨0x2480, 0x248F, 0x01, 0x01, "LineEnable", .bool, .rw, 0x1F, 0x0C, 0, [(0, 1)], ""⟩,
  ⟨0x2480, 0x248F, 0x02, 0x02, "LineAxis", .u8, .rw, 0x1F, 0x0C, 0, [(0, 15)], ""⟩,
  ⟨0x2480, 0x248F, 0x03, 0x03, "LineWriter", .enum8, .rw, 0x1F, 0x0C, 0, [(0, 3)], ""⟩,
  ⟨0x2480, 0x248F, 0x04, 0x04, "LineLanes", .u8, .rw, 0x1F, 0x0C, 1, [(1, 16)], "lanes"⟩]

def objects04_2 : List Desc := [
  ⟨0x2480, 0x248F, 0x05, 0x0C, "TapOffset", .poslin, .rw, 0x1F, 0x0C, 0, [((-100000000), 100000000)], "µm"⟩,
  ⟨0x2490, 0x249F, 0x01, 0x01, "EntriesHeld", .u16, .ro, 0x1F, 0x00, 0, [(0, 4096)], "entries"⟩,
  ⟨0x2490, 0x249F, 0x02, 0x02, "LastKey", .poslin, .ro, 0x1F, 0x00, 0, [((-9223372036854775808), 9223372036854775807)], "µm"⟩,
  ⟨0x2490, 0x249F, 0x03, 0x03, "OrderRejects", .u32, .ro, 0x1F, 0x00, 0, [(0, 4294967295)], "entries"⟩,
  ⟨0x2490, 0x249F, 0x04, 0x04, "LateRejects", .u32, .ro, 0x1F, 0x00, 0, [(0, 4294967295)], "entries"⟩,
  ⟨0x2490, 0x249F, 0x05, 0x05, "OverflowRejects", .u32, .ro, 0x1F, 0x00, 0, [(0, 4294967295)], "entries"⟩,
  ⟨0x2490, 0x249F, 0x06, 0x06, "TapStarved", .bits8, .ro, 0x1F, 0x00, 0, [(0, 255)], ""⟩,
  ⟨0x24A0, 0x24AF, 0x00, 0x00, "DelayLineWrite", .octets, .cmd, 0x00, 0x0C, 0, [(12, 72)], ""⟩,
  ⟨0x2600, 0x27FF, 0x01, 0x08, "CueSlot", .octets, .ro, 0x1F, 0x00, 0, [(64, 64)], ""⟩]

/-- The object table of 04_position_axes_and_cues.md. -/
def objects04 : List Desc := objects04_0 ++ objects04_1 ++ objects04_2

def objects05_0 : List Desc := [
  ⟨0x2800, 0x2803, 0x01, 0x01, "ImplementEnable", .bool, .rw, 0x1F, 0x0C, 0, [(0, 1)], ""⟩,
  ⟨0x2800, 0x2803, 0x02, 0x02, "ImplementKind", .enum8, .rw, 0x1F, 0x0C, 0, [(0, 1)], ""⟩,
  ⟨0x2800, 0x2803, 0x03, 0x03, "Parent", .u8, .rw, 0x1F, 0x0C, 255, [(0, 2), (255, 255)], ""⟩,
  ⟨0x2800, 0x2803, 0x04, 0x04, "HitchX", .i32, .rw, 0x1F, 0x0C, 0, [((-30000), 30000)], "mm"⟩,
  ⟨0x2800, 0x2803, 0x05, 0x05, "HitchY", .i32, .rw, 0x1F, 0x0C, 0, [((-30000), 30000)], "mm"⟩,
  ⟨0x2800, 0x2803, 0x06, 0x06, "RefX", .i32, .rw, 0x1F, 0x0C, 0, [((-30000), 30000)], "mm"⟩,
  ⟨0x2800, 0x2803, 0x07, 0x07, "RefY", .i32, .rw, 0x1F, 0x0C, 0, [((-30000), 30000)], "mm"⟩,
  ⟨0x2800, 0x2803, 0x08, 0x08, "DrawbarLength", .u32, .rw, 0x1F, 0x0C, 6000, [(500, 30000)], "mm"⟩,
  ⟨0x2800, 0x2803, 0x09, 0x09, "HitchAngleSource", .enum8, .rw, 0x1F, 0x0C, 0, [(0, 2)], ""⟩,
  ⟨0x2800, 0x2803, 0x0A, 0x0A, "HitchAngleInput", .u8, .rw, 0x1F, 0x0C, 0, [(0, 31)], ""⟩,
  ⟨0x2800, 0x2803, 0x0B, 0x0B, "HitchCheckLimit", .u32, .rw, 0x1F, 0x0C, 59652324, [(11930465, 238609294)], "2^-32 turn"⟩,
  ⟨0x2800, 0x2803, 0x0C, 0x0C, "SectionAxis", .u8, .rw, 0x1F, 0x0C, 0, [(0, 15)], ""⟩,
  ⟨0x2800, 0x2803, 0x0D, 0x0D, "CoverageLayer", .u8, .rw, 0x1F, 0x0C, 0, [(0, 3)], ""⟩,
  ⟨0x2800, 0x2803, 0x0E, 0x0E, "OverlapOffShare", .u8, .rw, 0x1F, 0x0C, 90, [(0, 100)], "%"⟩,
  ⟨0x2800, 0x2803, 0x0F, 0x0F, "OverlapOnShare", .u8, .rw, 0x1F, 0x0C, 50, [(0, 100)], "%"⟩,
  ⟨0x2800, 0x2803, 0x10, 0x10, "BoundaryOffShare", .u8, .rw, 0x1F, 0x0C, 50, [(1, 100)], "%"⟩,
  ⟨0x2800, 0x2803, 0x11, 0x11, "OffOverlapDistance", .i16, .rw, 0x1F, 0x0C, 0, [((-2000), 2000)], "mm"⟩,
  ⟨0x2800, 0x2803, 0x12, 0x12, "OnOverlapDistance", .i16, .rw, 0x1F, 0x0C, 0, [((-2000), 2000)], "mm"⟩,
  ⟨0x2800, 0x2803, 0x13, 0x13, "HeadlandMode", .enum8, .rwv, 0x1F, 0x0E, 0, [(0, 1)], ""⟩,
  ⟨0x2800, 0x2803, 0x14, 0x14, "StandstillOff", .bool, .rw, 0x1F, 0x0C, 1, [(0, 1)], ""⟩]

def objects05_1 : List Desc := [
  ⟨0x2800, 0x2803, 0x15, 0x15, "DegradedDistance", .u32, .rw, 0x1F, 0x0C, 30000, [(0, 500000)], "mm"⟩,
  ⟨0x2800, 0x2803, 0x16, 0x16, "MarkDelay", .u32, .rw, 0x1F, 0x0C, 2000, [(0, 20000)], "mm"⟩,
  ⟨0x2800, 0x2803, 0x17, 0x17, "SectionMode", .enum8, .rwv, 0x1F, 0x0E, 0, [(0, 2)], ""⟩,
  ⟨0x2808, 0x280B, 0x01, 0x01, "HitchAngle", .i32, .ro, 0x1F, 0x00, 0, [((-2147483648), 2147483647)], "2^-32 turn"⟩,
  ⟨0x2808, 0x280B, 0x02, 0x02, "ImplementFlags", .bits8, .ro, 0x1F, 0x00, 0, [(0, 255)], ""⟩,
  ⟨0x2808, 0x280B, 0x03, 0x03, "SectionsOn", .u16, .ro, 0x1F, 0x00, 0, [(0, 1024)], "sections"⟩,
  ⟨0x2808, 0x280B, 0x04, 0x04, "LateSwitches", .u32, .ro, 0x1F, 0x00, 0, [(0, 4294967295)], "switches"⟩,
  ⟨0x2808, 0x280B, 0x05, 0x05, "DegradedTravel", .u32, .ro, 0x1F, 0x00, 0, [(0, 4294967295)], "mm"⟩,
  ⟨0x2808, 0x280B, 0x06, 0x06, "CanCoalesced", .u32, .ro, 0x1F, 0x00, 0, [(0, 4294967295)], "messages"⟩,
  ⟨0x2810, 0x2810, 0x01, 0x01, "CoveragePitch", .u16, .rw, 0x1F, 0x0C, 100, [(50, 1000)], "mm"⟩,
  ⟨0x2810, 0x2810, 0x02, 0x02, "CoverageLayers", .enum8, .rw, 0x1F, 0x0C, 1, [(1, 1), (2, 2), (4, 4)], "layers"⟩,
  ⟨0x2810, 0x2810, 0x03, 0x03, "OriginLatitude", .i32, .rw, 0x1F, 0x0C, 0, [((-900000000), 900000000)], "10^-7 °"⟩,
  ⟨0x2810, 0x2810, 0x04, 0x04, "OriginLongitude", .i32, .rw, 0x1F, 0x0C, 0, [((-1800000000), 1799999999)], "10^-7 °"⟩,
  ⟨0x2810, 0x2810, 0x05, 0x05, "OriginHeight", .i32, .rw, 0x1F, 0x0C, 0, [((-1000000), 10000000)], "mm"⟩,
  ⟨0x2810, 0x2810, 0x06, 0x06, "AntennaX", .i32, .rw, 0x1F, 0x0C, 0, [((-30000), 30000)], "mm"⟩,
  ⟨0x2810, 0x2810, 0x07, 0x07, "AntennaY", .i32, .rw, 0x1F, 0x0C, 0, [((-30000), 30000)], "mm"⟩,
  ⟨0x2810, 0x2810, 0x08, 0x08, "AntennaZ", .i32, .rw, 0x1F, 0x0C, 0, [((-30000), 30000)], "mm"⟩,
  ⟨0x2810, 0x2810, 0x09, 0x09, "RearmTolerance", .u16, .rw, 0x1F, 0x0C, 10, [(1, 500)], "mm"⟩,
  ⟨0x2810, 0x2810, 0x0A, 0x0A, "ScanHorizon", .u32, .rw, 0x1F, 0x0C, 10000, [(1000, 50000)], "mm"⟩,
  ⟨0x2811, 0x2811, 0x01, 0x01, "CoverageFlags", .bits16, .ro, 0x1F, 0x00, 0, [(0, 65535)], ""⟩]

def objects05_2 : List Desc := [
  ⟨0x2811, 0x2811, 0x02, 0x02, "TilesUsed", .u16, .ro, 0x1F, 0x00, 0, [(0, 32736)], "tiles"⟩,
  ⟨0x2811, 0x2811, 0x03, 0x03, "TilesCapacity", .u16, .ro, 0x1F, 0x00, 32736, [(0, 65535)], "tiles"⟩,
  ⟨0x2811, 0x2811, 0x04, 0x07, "CoveredArea", .u32, .ro, 0x1F, 0x00, 0, [(0, 4294967295)], "m²"⟩,
  ⟨0x2811, 0x2811, 0x08, 0x08, "ArchiveTime", .time64, .ro, 0x1F, 0x00, 0, [(0, 18446744073709551615)], "ns"⟩,
  ⟨0x2811, 0x2811, 0x09, 0x09, "TilesLost", .u32, .ro, 0x1F, 0x00, 0, [(0, 4294967295)], "tiles"⟩,
  ⟨0x2812, 0x2812, 0x00, 0x00, "CoverageClear", .bits8, .cmd, 0x00, 0x0E, 0, [(1, 15)], ""⟩,
  ⟨0x2813, 0x2813, 0x00, 0x00, "BoundaryMaskLoad", .domain, .cmd, 0x00, 0x0C, 0, [(52, 2129940)], ""⟩,
  ⟨0x2814, 0x2814, 0x00, 0x00, "BoundaryMaskClear", .u8, .cmd, 0x00, 0x0C, 0, [(1, 1)], ""⟩,
  ⟨0x2815, 0x2815, 0x01, 0x01, "MaskRings", .u16, .ro, 0x1F, 0x00, 0, [(0, 4096)], "rings"⟩,
  ⟨0x2815, 0x2815, 0x02, 0x02, "MaskCrc", .u32, .ro, 0x1F, 0x00, 0, [(0, 4294967295)], ""⟩,
  ⟨0x2820, 0x2820, 0x00, 0x00, "ManualSectionOn", .octets, .rwv, 0x1F, 0x0E, 0, [(128, 128)], ""⟩,
  ⟨0x2830, 0x2830, 0x01, 0x01, "TcEnable", .bool, .rw, 0x1F, 0x0C, 0, [(0, 1)], ""⟩,
  ⟨0x2830, 0x2830, 0x02, 0x02, "TcPort", .u8, .rw, 0x1F, 0x0C, 0, [(0, 5)], ""⟩,
  ⟨0x2830, 0x2830, 0x03, 0x03, "TcBusLead", .u32, .rw, 0x1F, 0x0C, 20000000, [(0, 500000000)], "ns"⟩,
  ⟨0x2830, 0x2830, 0x04, 0x04, "TcClients", .u8, .ro, 0x1F, 0x00, 0, [(0, 4)], "clients"⟩,
  ⟨0x2830, 0x2830, 0x05, 0x05, "TcSections", .u16, .ro, 0x1F, 0x00, 0, [(0, 1024)], "sections"⟩,
  ⟨0x2C00, 0x2C7F, 0x01, 0x08, "SectionConfig", .octets, .rw, 0x1F, 0x0C, 0, [(32, 32)], ""⟩,
  ⟨0x2E00, 0x2E7F, 0x01, 0x08, "SectionStatus", .octets, .ro, 0x1F, 0x00, 0, [(16, 16)], ""⟩]

/-- The object table of 05_sections_and_coverage.md. -/
def objects05 : List Desc := objects05_0 ++ objects05_1 ++ objects05_2

def objects06_0 : List Desc := [
  ⟨0x3000, 0x3000, 0x01, 0x01, "FusionEnable", .bool, .rw, 0x1F, 0x0C, 0, [(0, 1)], ""⟩,
  ⟨0x3000, 0x3000, 0x02, 0x02, "ReferenceSensor", .u8, .rw, 0x1F, 0x0C, 0, [(0, 7)], ""⟩,
  ⟨0x3000, 0x3000, 0x03, 0x03, "ReferencePeriod", .u32, .rw, 0x1F, 0x0C, 33333330, [(16666660, 100000000)], "ns"⟩,
  ⟨0x3000, 0x3000, 0x04, 0x04, "FusionGraceHorizon", .u8, .rw, 0x1F, 0x0C, 3, [(0, 10)], "frames"⟩,
  ⟨0x3000, 0x3000, 0x05, 0x05, "StepCloseDelay", .u32, .rw, 0x1F, 0x0C, 24000000, [(1000000, 100000000)], "ns"⟩,
  ⟨0x3000, 0x3000, 0x06, 0x06, "FusionRegion", .u8, .rw, 0x1F, 0x0C, 0, [(0, 31)], ""⟩,
  ⟨0x3000, 0x3000, 0x07, 0x07, "GridPitch", .u16, .rw, 0x1F, 0x0C, 150, [(50, 400)], "mm"⟩,
  ⟨0x3000, 0x3000, 0x08, 0x08, "GridNear", .i32, .rw, 0x1F, 0x0C, (-4000), [((-20000), 0)], "mm"⟩,
  ⟨0x3000, 0x3000, 0x09, 0x09, "GroundModel", .enum8, .rw, 0x1F, 0x0C, 0, [(0, 1)], ""⟩,
  ⟨0x3000, 0x3000, 0x0A, 0x0A, "GroundHeight", .u32, .rw, 0x1F, 0x0C, 1000, [(0, 5000)], "mm"⟩,
  ⟨0x3000, 0x3000, 0x0B, 0x0B, "StateHoldLimit", .u16, .rw, 0x1F, 0x0C, 500, [(100, 5000)], "ms"⟩,
  ⟨0x3001, 0x3001, 0x00, 0x00, "FusionReset", .u8, .cmd, 0x00, 0x0C, 0, [(1, 1)], ""⟩,
  ⟨0x3002, 0x300B, 0x01, 0x01, "SensorEnable", .bool, .rw, 0x1F, 0x0C, 0, [(0, 1)], ""⟩,
  ⟨0x3002, 0x300B, 0x02, 0x02, "TimeSource", .enum8, .rw, 0x1F, 0x0C, 0, [(0, 1)], ""⟩,
  ⟨0x3002, 0x300B, 0x03, 0x03, "SensorClockHz", .u32, .rw, 0x1F, 0x0C, 1000000, [(1000, 1000000000)], "Hz"⟩,
  ⟨0x3002, 0x300B, 0x04, 0x04, "LinkLatency", .u32, .rw, 0x1F, 0x0C, 0, [(0, 50000000)], "ns"⟩,
  ⟨0x3002, 0x300B, 0x05, 0x05, "TriggerOutput", .u8, .rw, 0x1F, 0x0C, 0, [(0, 7)], ""⟩,
  ⟨0x3002, 0x300B, 0x06, 0x06, "TriggerToCentre", .u32, .rw, 0x1F, 0x0C, 0, [(0, 50000000)], "ns"⟩,
  ⟨0x3002, 0x300B, 0x07, 0x07, "FramePeriod", .u32, .rw, 0x1F, 0x0C, 33333330, [(16666660, 200000000)], "ns"⟩,
  ⟨0x3002, 0x300B, 0x08, 0x08, "LockWindow", .u32, .rw, 0x1F, 0x0C, 200000, [(10000, 5000000)], "ns"⟩]

def objects06_1 : List Desc := [
  ⟨0x3002, 0x300B, 0x09, 0x09, "AlignSlew", .u32, .rw, 0x1F, 0x0C, 20000, [(0, 1000000)], "ns"⟩,
  ⟨0x3002, 0x300B, 0x0A, 0x0A, "RateLimit", .u16, .rw, 0x1F, 0x0C, 200, [(10, 1000)], "ppm"⟩,
  ⟨0x3002, 0x300B, 0x0B, 0x0B, "ProjectionPriority", .u8, .rw, 0x1F, 0x0C, 0, [(0, 9)], ""⟩,
  ⟨0x3010, 0x3019, 0x00, 0x00, "SensorCalibration", .octets, .rw, 0x1F, 0x0C, 0, [(96, 96)], ""⟩,
  ⟨0x3020, 0x3029, 0x01, 0x01, "AlignState", .enum8, .ro, 0x1F, 0x00, 0, [(0, 3)], ""⟩,
  ⟨0x3020, 0x3029, 0x02, 0x02, "ClockOffset", .i32, .ro, 0x1F, 0x00, 0, [((-2147483648), 2147483647)], "ns"⟩,
  ⟨0x3020, 0x3029, 0x03, 0x03, "ClockRateError", .i32, .ro, 0x1F, 0x00, 0, [((-2147483648), 2147483647)], "ppb"⟩,
  ⟨0x3020, 0x3029, 0x04, 0x04, "LockedFrames", .u8, .ro, 0x1F, 0x00, 0, [(0, 10)], "frames"⟩,
  ⟨0x3020, 0x3029, 0x05, 0x05, "FramesUsed", .u32, .ro, 0x1F, 0x00, 0, [(0, 4294967295)], "frames"⟩,
  ⟨0x3020, 0x3029, 0x06, 0x06, "LateUsed", .u32, .ro, 0x1F, 0x00, 0, [(0, 4294967295)], "frames"⟩,
  ⟨0x3020, 0x3029, 0x07, 0x07, "LateDiscarded", .u32, .ro, 0x1F, 0x00, 0, [(0, 4294967295)], "frames"⟩,
  ⟨0x3020, 0x3029, 0x08, 0x08, "UnalignedEvents", .u32, .ro, 0x1F, 0x00, 0, [(0, 4294967295)], "events"⟩,
  ⟨0x3020, 0x3029, 0x09, 0x09, "MissingFrames", .u32, .ro, 0x1F, 0x00, 0, [(0, 4294967295)], "frames"⟩,
  ⟨0x3030, 0x3030, 0x01, 0x01, "FusionState", .enum8, .ro, 0x1F, 0x00, 0, [(0, 4)], ""⟩,
  ⟨0x3030, 0x3030, 0x02, 0x02, "StepCount", .u32, .ro, 0x1F, 0x00, 0, [(0, 4294967295)], "steps"⟩,
  ⟨0x3030, 0x3030, 0x03, 0x03, "LastStepTime", .time64, .ro, 0x1F, 0x00, 0, [(0, 18446744073709551615)], "ns"⟩,
  ⟨0x3030, 0x3030, 0x04, 0x04, "StepsSkipped", .u32, .ro, 0x1F, 0x00, 0, [(0, 4294967295)], "steps"⟩,
  ⟨0x3030, 0x3030, 0x05, 0x05, "StepOverruns", .u32, .ro, 0x1F, 0x00, 0, [(0, 4294967295)], "steps"⟩,
  ⟨0x3030, 0x3030, 0x06, 0x06, "ProjectionOverruns", .u32, .ro, 0x1F, 0x00, 0, [(0, 4294967295)], "frames"⟩,
  ⟨0x3030, 0x3030, 0x07, 0x07, "StagingDiscards", .u32, .ro, 0x1F, 0x00, 0, [(0, 4294967295)], "samples"⟩]

def objects06_2 : List Desc := [
  ⟨0x3030, 0x3030, 0x08, 0x08, "StateResets", .u32, .ro, 0x1F, 0x00, 0, [(0, 4294967295)], "resets"⟩,
  ⟨0x3030, 0x3030, 0x09, 0x09, "BandWriteRefusals", .u32, .ro, 0x1F, 0x00, 0, [(0, 4294967295)], "rows"⟩,
  ⟨0x3040, 0x3040, 0x01, 0x01, "BandEnable", .bool, .rw, 0x1F, 0x0C, 0, [(0, 1)], ""⟩,
  ⟨0x3040, 0x3040, 0x02, 0x02, "BandLine", .u8, .rw, 0x1F, 0x0C, 0, [(0, 15)], ""⟩,
  ⟨0x3040, 0x3040, 0x03, 0x03, "BandImplement", .u8, .rw, 0x1F, 0x0C, 0, [(0, 3)], ""⟩,
  ⟨0x3040, 0x3040, 0x04, 0x04, "BandLanes", .u8, .rw, 0x1F, 0x0C, 4, [(1, 15)], "lanes"⟩,
  ⟨0x3040, 0x3040, 0x05, 0x05, "BandWidth", .u32, .rw, 0x1F, 0x0C, 13700, [(1000, 60000)], "mm"⟩,
  ⟨0x3040, 0x3040, 0x06, 0x06, "BandWriteDistance", .u32, .rw, 0x1F, 0x0C, 12000, [(1000, 40000)], "mm"⟩,
  ⟨0x3050, 0x3050, 0x01, 0x01, "StopEnable", .bool, .rw, 0x1F, 0x0C, 0, [(0, 1)], ""⟩,
  ⟨0x3050, 0x3050, 0x02, 0x02, "StopChannel", .u8, .rw, 0x1F, 0x0C, 255, [(24, 47), (255, 255)], ""⟩,
  ⟨0x3050, 0x3050, 0x03, 0x03, "StopZoneNear", .i32, .rw, 0x1F, 0x0C, 0, [((-10000), 30000)], "mm"⟩,
  ⟨0x3050, 0x3050, 0x04, 0x04, "StopZoneBase", .u32, .rw, 0x1F, 0x0C, 5000, [(0, 30000)], "mm"⟩,
  ⟨0x3050, 0x3050, 0x05, 0x05, "StopZoneTime", .u16, .rw, 0x1F, 0x0C, 2000, [(0, 10000)], "ms"⟩,
  ⟨0x3050, 0x3050, 0x06, 0x06, "StopZoneHalfWidth", .u32, .rw, 0x1F, 0x0C, 8000, [(500, 30000)], "mm"⟩,
  ⟨0x3050, 0x3050, 0x07, 0x07, "StopConfidence", .u8, .rw, 0x1F, 0x0C, 50, [(1, 100)], "%"⟩,
  ⟨0x3050, 0x3050, 0x08, 0x08, "StopClasses", .bits8, .rw, 0x1F, 0x0C, 127, [(0, 127)], ""⟩,
  ⟨0x3050, 0x3050, 0x09, 0x09, "StopHoldTime", .u16, .rw, 0x1F, 0x0C, 1000, [(0, 60000)], "ms"⟩,
  ⟨0x3050, 0x3050, 0x0A, 0x0A, "StopRelease", .enum8, .rw, 0x1F, 0x0C, 1, [(0, 1)], ""⟩,
  ⟨0x3050, 0x3050, 0x0B, 0x0B, "StopRequiredMask", .bits16, .rw, 0x1F, 0x0C, 1025, [(0, 8191)], ""⟩,
  ⟨0x3050, 0x3050, 0x0C, 0x0C, "StopWatchdog", .u16, .rw, 0x1F, 0x0C, 150, [(20, 2000)], "ms"⟩]

def objects06_3 : List Desc := [
  ⟨0x3050, 0x3050, 0x0D, 0x0D, "StopCanPort", .u8, .rw, 0x1F, 0x0C, 255, [(0, 5), (255, 255)], ""⟩,
  ⟨0x3050, 0x3050, 0x0E, 0x0E, "StopCanId", .u32, .rw, 0x1F, 0x0C, 419394560, [(0, 536870911)], ""⟩,
  ⟨0x3051, 0x3051, 0x00, 0x00, "StopAcknowledge", .u8, .cmd, 0x00, 0x0E, 0, [(1, 1)], ""⟩,
  ⟨0x3052, 0x3052, 0x01, 0x01, "StopState", .enum8, .ro, 0x1F, 0x00, 0, [(0, 1)], ""⟩,
  ⟨0x3052, 0x3052, 0x02, 0x02, "StopCause", .bits16, .ro, 0x1F, 0x00, 64, [(0, 65535)], ""⟩,
  ⟨0x3052, 0x3052, 0x03, 0x03, "StopEvents", .u32, .ro, 0x1F, 0x00, 0, [(0, 4294967295)], "events"⟩,
  ⟨0x3052, 0x3052, 0x04, 0x04, "LastStopTime", .time64, .ro, 0x1F, 0x00, 0, [(0, 18446744073709551615)], "ns"⟩,
  ⟨0x3052, 0x3052, 0x05, 0x05, "StopTrack", .u16, .ro, 0x1F, 0x00, 65535, [(0, 65535)], ""⟩,
  ⟨0x3100, 0x3100, 0x00, 0x00, "ResultHeader", .octets, .ro, 0x1F, 0x00, 0, [(64, 64)], ""⟩,
  ⟨0x3101, 0x3101, 0x00, 0x00, "CropEdges", .octets, .ro, 0x1F, 0x00, 0, [(536, 536)], ""⟩,
  ⟨0x3102, 0x3102, 0x00, 0x00, "DensityBand", .domain, .ro, 0x1F, 0x00, 0, [(16, 16392)], ""⟩,
  ⟨0x3103, 0x3103, 0x00, 0x00, "SpoutAlignment", .octets, .ro, 0x1F, 0x00, 0, [(32, 32)], ""⟩,
  ⟨0x3104, 0x3104, 0x00, 0x00, "TankFill", .octets, .ro, 0x1F, 0x00, 0, [(16, 16)], ""⟩,
  ⟨0x3105, 0x3105, 0x00, 0x00, "ObstacleTracks", .domain, .ro, 0x1F, 0x00, 0, [(8, 8200)], ""⟩]

/-- The object table of 06_fusion.md. -/
def objects06 : List Desc := objects06_0 ++ objects06_1 ++ objects06_2 ++ objects06_3

def objects07_0 : List Desc := [
  ⟨0x3400, 0x3400, 0x01, 0x01, "InlineSensor", .u8, .rw, 0x1F, 0x0C, 0, [(0, 7), (255, 255)], ""⟩,
  ⟨0x3400, 0x3400, 0x02, 0x02, "InlineBypass", .bool, .rw, 0x1F, 0x0C, 0, [(0, 1)], ""⟩,
  ⟨0x3400, 0x3400, 0x03, 0x03, "InlineState", .enum8, .ro, 0x1F, 0x00, 0, [(0, 2)], ""⟩,
  ⟨0x3400, 0x3400, 0x04, 0x04, "RegionUsed", .u32, .ro, 0x1F, 0x00, 0, [(0, 393216)], "KiB"⟩,
  ⟨0x3401, 0x3404, 0x01, 0x01, "PortEnable", .bool, .rw, 0x1F, 0x0C, 0, [(0, 1)], ""⟩,
  ⟨0x3401, 0x3404, 0x02, 0x02, "MaxGear", .enum8, .rw, 0x1F, 0x0C, 3, [(1, 3)], ""⟩,
  ⟨0x3401, 0x3404, 0x03, 0x03, "PocEnable", .bool, .rw, 0x1F, 0x0C, 0, [(0, 1)], ""⟩,
  ⟨0x3401, 0x3404, 0x04, 0x04, "LinkState", .enum8, .ro, 0x1F, 0x00, 0, [(0, 3)], ""⟩,
  ⟨0x3401, 0x3404, 0x05, 0x05, "Gear", .u8, .ro, 0x1F, 0x00, 0, [(0, 3)], ""⟩,
  ⟨0x3401, 0x3404, 0x06, 0x06, "Retransmissions", .u32, .ro, 0x1F, 0x00, 0, [(0, 4294967295)], "packets"⟩,
  ⟨0x3401, 0x3404, 0x07, 0x07, "LinkDrops", .u32, .ro, 0x1F, 0x00, 0, [(0, 4294967295)], "drops"⟩,
  ⟨0x3401, 0x3404, 0x08, 0x08, "PocCurrent", .u16, .ro, 0x1F, 0x00, 0, [(0, 1000)], "mA"⟩,
  ⟨0x3405, 0x3405, 0x01, 0x01, "Port3Mode", .enum8, .rw, 0x1F, 0x0C, 0, [(0, 1)], ""⟩,
  ⟨0x3405, 0x3405, 0x02, 0x02, "ParallelWidth", .u8, .rw, 0x1F, 0x0C, 12, [(8, 8), (10, 10), (12, 12), (14, 14), (16, 16)], "bits"⟩,
  ⟨0x3405, 0x3405, 0x03, 0x03, "ParallelTiming", .bits8, .rw, 0x1F, 0x0C, 0, [(0, 7)], ""⟩,
  ⟨0x3405, 0x3405, 0x04, 0x04, "ParallelEmbeddedLines", .u8, .rw, 0x1F, 0x0C, 0, [(0, 4)], "lines"⟩,
  ⟨0x3405, 0x3405, 0x05, 0x05, "PclkFrequency", .u32, .ro, 0x1F, 0x00, 0, [(0, 150000000)], "Hz"⟩,
  ⟨0x3410, 0x3419, 0x01, 0x01, "InputPort", .u8, .rw, 0x1F, 0x0C, 0, [(0, 4)], ""⟩,
  ⟨0x3410, 0x3419, 0x02, 0x02, "VirtualChannel", .u8, .rw, 0x1F, 0x0C, 0, [(0, 15)], ""⟩,
  ⟨0x3410, 0x3419, 0x03, 0x03, "DataType", .u8, .rw, 0x1F, 0x0C, 44, [(42, 46), (48, 55)], ""⟩]

def objects07_1 : List Desc := [
  ⟨0x3410, 0x3419, 0x04, 0x04, "Width", .u16, .rw, 0x1F, 0x0C, 1920, [(64, 4096)], "pixels"⟩,
  ⟨0x3410, 0x3419, 0x05, 0x05, "Height", .u16, .rw, 0x1F, 0x0C, 1080, [(64, 3072)], "lines"⟩,
  ⟨0x3410, 0x3419, 0x06, 0x06, "Mosaic", .enum8, .rw, 0x1F, 0x0C, 1, [(0, 4)], ""⟩,
  ⟨0x3410, 0x3419, 0x07, 0x07, "EmbeddedDataType", .u8, .rw, 0x1F, 0x0C, 18, [(18, 18), (48, 55)], ""⟩,
  ⟨0x3410, 0x3419, 0x08, 0x08, "TimestampOffset", .u16, .rw, 0x1F, 0x0C, 0, [(0, 4088)], "bytes"⟩,
  ⟨0x3410, 0x3419, 0x09, 0x09, "TimestampBytes", .u8, .rw, 0x1F, 0x0C, 0, [(0, 0), (4, 8)], "bytes"⟩,
  ⟨0x3410, 0x3419, 0x0A, 0x0A, "TimestampOrder", .enum8, .rw, 0x1F, 0x0C, 1, [(0, 1)], ""⟩,
  ⟨0x3410, 0x3419, 0x0B, 0x0B, "EmbeddedPacking", .enum8, .rw, 0x1F, 0x0C, 0, [(0, 2)], ""⟩,
  ⟨0x3410, 0x3419, 0x0C, 0x0C, "Outputs", .bits8, .rw, 0x1F, 0x0C, 1, [(0, 3)], ""⟩,
  ⟨0x3410, 0x3419, 0x0D, 0x0D, "DisplayWidth", .u16, .rw, 0x1F, 0x0C, 960, [(1, 65535)], "pixels"⟩,
  ⟨0x3410, 0x3419, 0x0E, 0x0E, "DisplayHeight", .u16, .rw, 0x1F, 0x0C, 540, [(1, 65535)], "lines"⟩,
  ⟨0x3410, 0x3419, 0x0F, 0x0F, "SofTimeout", .u32, .rw, 0x1F, 0x0C, 16666660, [(1000000, 200000000)], "ns"⟩,
  ⟨0x3410, 0x3419, 0x10, 0x10, "OutputDeadline", .u32, .rw, 0x1F, 0x0C, 60000000, [(1000000, 200000000)], "ns"⟩,
  ⟨0x3410, 0x3419, 0x11, 0x11, "DepthScale", .u16, .rw, 0x1F, 0x0C, 1000, [(1, 10000)], "µm"⟩,
  ⟨0x3420, 0x3429, 0x01, 0x04, "BlackLevel", .u16, .rw, 0x1F, 0x0C, 0, [(0, 32767)], "codes"⟩,
  ⟨0x3420, 0x3429, 0x05, 0x05, "DefectThreshold", .u16, .rw, 0x1F, 0x0C, 8192, [(0, 65535)], ""⟩,
  ⟨0x3420, 0x3429, 0x06, 0x06, "ColourMatrix", .octets, .rw, 0x1F, 0x0C, 0, [(24, 24)], ""⟩,
  ⟨0x3430, 0x3439, 0x00, 0x00, "LensShading", .octets, .rw, 0x1F, 0x0C, 0, [(1768, 1768)], ""⟩,
  ⟨0x3440, 0x3449, 0x00, 0x00, "DefectMap", .domain, .rw, 0x1F, 0x0C, 0, [(0, 16384)], ""⟩,
  ⟨0x3450, 0x3459, 0x00, 0x00, "GammaLut", .octets, .rw, 0x1F, 0x0C, 0, [(2048, 2048)], ""⟩]

def objects07_2 : List Desc := [
  ⟨0x3460, 0x3469, 0x01, 0x01, "I2cAddress", .u8, .rw, 0x1F, 0x0C, 16, [(8, 119)], ""⟩,
  ⟨0x3460, 0x3469, 0x02, 0x02, "RegAddrBytes", .u8, .rw, 0x1F, 0x0C, 2, [(1, 2)], "bytes"⟩,
  ⟨0x3460, 0x3469, 0x03, 0x03, "RegValueBytes", .u8, .rw, 0x1F, 0x0C, 1, [(1, 2)], "bytes"⟩,
  ⟨0x3460, 0x3469, 0x04, 0x04, "SettingsLatency", .u8, .rw, 0x1F, 0x0C, 2, [(0, 7)], "frames"⟩,
  ⟨0x3460, 0x3469, 0x05, 0x05, "TagInForce", .u16, .ro, 0x1F, 0x00, 0, [(0, 65535)], ""⟩,
  ⟨0x3460, 0x3469, 0x06, 0x06, "SetState", .enum8, .ro, 0x1F, 0x00, 0, [(0, 2)], ""⟩,
  ⟨0x3470, 0x3479, 0x00, 0x00, "SettingsCommit", .octets, .cmd, 0x00, 0x0E, 0, [(8, 68)], ""⟩,
  ⟨0x3480, 0x3489, 0x01, 0x01, "FrameDescriptor", .octets, .ro, 0x1F, 0x00, 0, [(64, 64)], ""⟩,
  ⟨0x3480, 0x3489, 0x02, 0x02, "FramesOut", .u32, .ro, 0x1F, 0x00, 0, [(0, 4294967295)], "frames"⟩,
  ⟨0x3480, 0x3489, 0x03, 0x03, "ShortLines", .u32, .ro, 0x1F, 0x00, 0, [(0, 4294967295)], "lines"⟩,
  ⟨0x3480, 0x3489, 0x04, 0x04, "LongLines", .u32, .ro, 0x1F, 0x00, 0, [(0, 4294967295)], "lines"⟩,
  ⟨0x3480, 0x3489, 0x05, 0x05, "ShortFrames", .u32, .ro, 0x1F, 0x00, 0, [(0, 4294967295)], "frames"⟩,
  ⟨0x3480, 0x3489, 0x06, 0x06, "LongFrames", .u32, .ro, 0x1F, 0x00, 0, [(0, 4294967295)], "frames"⟩,
  ⟨0x3480, 0x3489, 0x07, 0x07, "CrcErrors", .u32, .ro, 0x1F, 0x00, 0, [(0, 4294967295)], "lines"⟩,
  ⟨0x3480, 0x3489, 0x08, 0x08, "HeaderErrors", .u32, .ro, 0x1F, 0x00, 0, [(0, 4294967295)], "packets"⟩,
  ⟨0x3480, 0x3489, 0x09, 0x09, "IgnoredPackets", .u32, .ro, 0x1F, 0x00, 0, [(0, 4294967295)], "packets"⟩,
  ⟨0x3480, 0x3489, 0x0A, 0x0A, "LineOverruns", .u32, .ro, 0x1F, 0x00, 0, [(0, 4294967295)], "lines"⟩,
  ⟨0x3490, 0x3499, 0x00, 0x00, "Statistics", .octets, .ro, 0x1F, 0x00, 0, [(3104, 3104)], ""⟩,
  ⟨0x34A0, 0x34A7, 0x01, 0x01, "FsyncSource", .enum8, .rw, 0x1F, 0x0C, 0, [(0, 2)], ""⟩,
  ⟨0x34A0, 0x34A7, 0x02, 0x02, "FsyncRoute", .enum8, .rw, 0x1F, 0x0C, 0, [(0, 4)], ""⟩]

def objects07_3 : List Desc := [
  ⟨0x34A0, 0x34A7, 0x03, 0x03, "FsyncPeriod", .u32, .rw, 0x1F, 0x0C, 33333330, [(1000000, 1000000000)], "ns"⟩,
  ⟨0x34A0, 0x34A7, 0x04, 0x04, "FsyncPhase", .u32, .rw, 0x1F, 0x0C, 0, [(0, 999999990)], "ns"⟩,
  ⟨0x34A0, 0x34A7, 0x05, 0x05, "FsyncWidth", .u16, .rw, 0x1F, 0x0C, 100, [(1, 10000)], "µs"⟩,
  ⟨0x34A0, 0x34A7, 0x06, 0x06, "LastPulseTime", .time64, .ro, 0x1F, 0x00, 0, [(0, 18446744073709551615)], "ns"⟩,
  ⟨0x34A0, 0x34A7, 0x07, 0x07, "FsyncRetriggers", .u32, .ro, 0x1F, 0x00, 0, [(0, 4294967295)], "pulses"⟩,
  ⟨0x34A0, 0x34A7, 0x08, 0x08, "FsyncSkipped", .u32, .ro, 0x1F, 0x00, 0, [(0, 4294967295)], "pulses"⟩,
  ⟨0x34B0, 0x34B3, 0x01, 0x01, "StreamEnable", .bool, .rw, 0x1F, 0x0C, 0, [(0, 1)], ""⟩,
  ⟨0x34B0, 0x34B3, 0x02, 0x02, "StreamSensor", .u8, .rw, 0x1F, 0x0C, 0, [(0, 7)], ""⟩,
  ⟨0x34B0, 0x34B3, 0x03, 0x03, "CodingWidth", .u16, .rw, 0x1F, 0x0C, 1280, [(256, 1920)], "pixels"⟩,
  ⟨0x34B0, 0x34B3, 0x04, 0x04, "CodingHeight", .u16, .rw, 0x1F, 0x0C, 720, [(144, 1088)], "lines"⟩,
  ⟨0x34B0, 0x34B3, 0x05, 0x05, "RateDivider", .u8, .rw, 0x1F, 0x0C, 1, [(1, 8)], ""⟩,
  ⟨0x34B0, 0x34B3, 0x06, 0x06, "Bitrate", .u32, .rw, 0x1F, 0x0C, 4000, [(250, 20000)], "kbit/s"⟩,
  ⟨0x34B0, 0x34B3, 0x07, 0x07, "RateMode", .enum8, .rw, 0x1F, 0x0C, 0, [(0, 1)], ""⟩,
  ⟨0x34B0, 0x34B3, 0x08, 0x08, "GopLength", .u16, .rw, 0x1F, 0x0C, 30, [(1, 300)], "pictures"⟩,
  ⟨0x34B0, 0x34B3, 0x09, 0x09, "DestAddress", .u32, .rw, 0x1F, 0x0C, 0, [(0, 4294967295)], ""⟩,
  ⟨0x34B0, 0x34B3, 0x0A, 0x0A, "DestPort", .u16, .rw, 0x1F, 0x0C, 5004, [(1024, 65535)], ""⟩,
  ⟨0x34B0, 0x34B3, 0x0B, 0x0B, "StreamVlan", .u16, .rw, 0x1F, 0x0C, 100, [(1, 4094)], ""⟩,
  ⟨0x34B0, 0x34B3, 0x0C, 0x0C, "FramesEncoded", .u32, .ro, 0x1F, 0x00, 0, [(0, 4294967295)], "pictures"⟩,
  ⟨0x34B0, 0x34B3, 0x0D, 0x0D, "FramesSkipped", .u32, .ro, 0x1F, 0x00, 0, [(0, 4294967295)], "pictures"⟩]

/-- The object table of 07_camera_pipeline.md. -/
def objects07 : List Desc := objects07_0 ++ objects07_1 ++ objects07_2 ++ objects07_3

def objects08_0 : List Desc := [
  ⟨0x3800, 0x387F, 0x01, 0x01, "CtxEnable", .bool, .rw, 0x1F, 0x0C, 0, [(0, 1)], ""⟩,
  ⟨0x3800, 0x387F, 0x02, 0x02, "CtxMode", .enum8, .rw, 0x1F, 0x0C, 0, [(0, 2)], ""⟩,
  ⟨0x3800, 0x387F, 0x03, 0x03, "SamplePeriod", .u32, .rw, 0x1F, 0x0C, 1000000, [(25000, 10000000)], "ns"⟩,
  ⟨0x3800, 0x387F, 0x04, 0x04, "MeasSource", .enum8, .rw, 0x1F, 0x0C, 0, [(0, 13)], ""⟩,
  ⟨0x3800, 0x387F, 0x05, 0x05, "MeasSelect", .u16, .rw, 0x1F, 0x0C, 0, [(0, 65535)], ""⟩,
  ⟨0x3800, 0x387F, 0x06, 0x06, "MeasScale", .q16_16, .rw, 0x1F, 0x0C, 65536, [((-2147483648), 2147418112)], ""⟩,
  ⟨0x3800, 0x387F, 0x07, 0x07, "MeasShift", .u8, .rw, 0x1F, 0x0C, 16, [(0, 48)], ""⟩,
  ⟨0x3800, 0x387F, 0x08, 0x08, "MeasOffset", .i64, .rw, 0x1F, 0x0C, 0, [((-9223372036854775808), 9223372036854775807)], "native"⟩,
  ⟨0x3800, 0x387F, 0x09, 0x09, "MeasFilter", .q16_16, .rw, 0x1F, 0x0C, 65536, [(0, 65536)], ""⟩,
  ⟨0x3800, 0x387F, 0x0A, 0x0A, "SetpointSource", .enum8, .rw, 0x1F, 0x0C, 10, [(7, 10)], ""⟩,
  ⟨0x3800, 0x387F, 0x0B, 0x0B, "SetpointSelect", .u16, .rw, 0x1F, 0x0C, 0, [(0, 65535)], ""⟩,
  ⟨0x3800, 0x387F, 0x0C, 0x0C, "Setpoint", .q7_24, .rw, 0x1F, 0x0E, 0, [((-2147483648), 2147483647)], ""⟩,
  ⟨0x3800, 0x387F, 0x0D, 0x0D, "SetpointRateLimit", .q16_16, .rw, 0x1F, 0x0C, 0, [(0, 2147418112)], "1/s"⟩,
  ⟨0x3800, 0x387F, 0x0E, 0x0E, "Kp", .q16_16, .rw, 0x1F, 0x0C, 0, [((-2147483648), 2147418112)], ""⟩,
  ⟨0x3800, 0x387F, 0x0F, 0x0F, "Ki", .q16_16, .rw, 0x1F, 0x0C, 0, [((-2147483648), 2147418112)], "1/s"⟩,
  ⟨0x3800, 0x387F, 0x10, 0x10, "Kd", .q16_16, .rw, 0x1F, 0x0C, 0, [((-2147483648), 2147418112)], "s"⟩,
  ⟨0x3800, 0x387F, 0x11, 0x11, "DFilter", .q16_16, .rw, 0x1F, 0x0C, 65536, [(0, 65536)], ""⟩,
  ⟨0x3800, 0x387F, 0x12, 0x12, "IntegratorMin", .q7_24, .rw, 0x1F, 0x0C, (-16777216), [((-2147483648), 2147483647)], ""⟩,
  ⟨0x3800, 0x387F, 0x13, 0x13, "IntegratorMax", .q7_24, .rw, 0x1F, 0x0C, 16777216, [((-2147483648), 2147483647)], ""⟩,
  ⟨0x3800, 0x387F, 0x14, 0x14, "Deadband", .q7_24, .rw, 0x1F, 0x0C, 0, [(0, 16777216)], ""⟩]

def objects08_1 : List Desc := [
  ⟨0x3800, 0x387F, 0x15, 0x15, "Bias", .q7_24, .rw, 0x1F, 0x0C, 0, [((-2147483648), 2147483647)], ""⟩,
  ⟨0x3800, 0x387F, 0x16, 0x16, "Kfa", .q16_16, .rw, 0x1F, 0x0C, 0, [((-2147483648), 2147418112)], "s"⟩,
  ⟨0x3800, 0x387F, 0x17, 0x17, "Kfv", .q16_16, .rw, 0x1F, 0x0C, 0, [(0, 131072)], ""⟩,
  ⟨0x3800, 0x387F, 0x18, 0x18, "VsupSource", .enum8, .rw, 0x1F, 0x0C, 0, [(0, 2)], ""⟩,
  ⟨0x3800, 0x387F, 0x19, 0x19, "VsupSelect", .u8, .rw, 0x1F, 0x0C, 0, [(0, 31)], ""⟩,
  ⟨0x3800, 0x387F, 0x1A, 0x1A, "VsupNominal", .u16, .rw, 0x1F, 0x0C, 24000, [(9000, 36000)], "mV"⟩,
  ⟨0x3800, 0x387F, 0x1B, 0x1B, "LaLine", .u8, .rw, 0x1F, 0x0C, 255, [(0, 15), (255, 255)], ""⟩,
  ⟨0x3800, 0x387F, 0x1C, 0x1C, "LaTap", .u8, .rw, 0x1F, 0x0C, 0, [(0, 7)], ""⟩,
  ⟨0x3800, 0x387F, 0x1D, 0x1D, "LaLane", .u8, .rw, 0x1F, 0x0C, 0, [(0, 15)], ""⟩,
  ⟨0x3800, 0x387F, 0x1E, 0x1E, "Kla", .q16_16, .rw, 0x1F, 0x0C, 0, [((-2147483648), 2147418112)], ""⟩,
  ⟨0x3800, 0x387F, 0x1F, 0x1F, "LaBias", .q7_24, .rw, 0x1F, 0x0C, 0, [((-2147483648), 2147483647)], ""⟩,
  ⟨0x3800, 0x387F, 0x20, 0x20, "OutMin", .q7_24, .rw, 0x1F, 0x0C, 0, [((-2147483648), 2147483647)], ""⟩,
  ⟨0x3800, 0x387F, 0x21, 0x21, "OutMax", .q7_24, .rw, 0x1F, 0x0C, 16777216, [((-2147483648), 2147483647)], ""⟩,
  ⟨0x3800, 0x387F, 0x22, 0x22, "OutRateLimit", .q16_16, .rw, 0x1F, 0x0C, 0, [(0, 2147418112)], "1/s"⟩,
  ⟨0x3800, 0x387F, 0x23, 0x23, "OutKind", .enum8, .rw, 0x1F, 0x0C, 0, [(0, 3)], ""⟩,
  ⟨0x3800, 0x387F, 0x24, 0x24, "OutTarget", .u16, .rw, 0x1F, 0x0C, 0, [(0, 20543)], ""⟩,
  ⟨0x3800, 0x387F, 0x25, 0x25, "OutScale", .q16_16, .rw, 0x1F, 0x0C, 0, [((-2147483648), 2147418112)], "native"⟩,
  ⟨0x3800, 0x387F, 0x26, 0x26, "OutOffset", .i32, .rw, 0x1F, 0x0C, 0, [((-2147483648), 2147483647)], "native"⟩,
  ⟨0x3800, 0x387F, 0x27, 0x27, "CanField", .bits16, .rw, 0x1F, 0x0C, 0, [(0, 13119)], ""⟩,
  ⟨0x3800, 0x387F, 0x28, 0x28, "DisableOutput", .enum8, .rw, 0x1F, 0x0C, 0, [(0, 1)], ""⟩]

def objects08_2 : List Desc := [
  ⟨0x3800, 0x387F, 0x29, 0x29, "BypassValue", .q7_24, .rw, 0x1F, 0x0C, 0, [((-2147483648), 2147483647)], ""⟩,
  ⟨0x3800, 0x387F, 0x2A, 0x2A, "StaleTime", .u32, .rw, 0x1F, 0x0C, 50000000, [(0, 1000000000)], "ns"⟩,
  ⟨0x3800, 0x387F, 0x2B, 0x2B, "FallbackTime", .u32, .rw, 0x1F, 0x0C, 200000000, [(0, 10000000000)], "ns"⟩,
  ⟨0x3800, 0x387F, 0x30, 0x30, "RehSignal", .enum8, .rw, 0x1F, 0x0C, 0, [(0, 2)], ""⟩,
  ⟨0x3800, 0x387F, 0x31, 0x31, "RehPoint", .enum8, .rw, 0x1F, 0x0C, 0, [(0, 1)], ""⟩,
  ⟨0x3800, 0x387F, 0x32, 0x32, "RehAmplitude", .q7_24, .rw, 0x1F, 0x0C, 0, [(0, 16777216)], ""⟩,
  ⟨0x3800, 0x387F, 0x33, 0x33, "RehPreSamples", .u32, .rw, 0x1F, 0x0C, 1000, [(0, 524287)], "samples"⟩,
  ⟨0x3800, 0x387F, 0x34, 0x34, "RehSamples", .u32, .rw, 0x1F, 0x0C, 10000, [(1, 524287)], "samples"⟩,
  ⟨0x3800, 0x387F, 0x35, 0x35, "RehPostSamples", .u32, .rw, 0x1F, 0x0C, 1000, [(0, 524287)], "samples"⟩,
  ⟨0x3800, 0x387F, 0x36, 0x36, "RehF0", .u32, .rw, 0x1F, 0x0C, 100, [(1, 20000000)], "mHz"⟩,
  ⟨0x3800, 0x387F, 0x37, 0x37, "RehF1", .u32, .rw, 0x1F, 0x0C, 10000, [(1, 20000000)], "mHz"⟩,
  ⟨0x3800, 0x387F, 0x38, 0x38, "RehPrbsOrder", .u8, .rw, 0x1F, 0x0C, 9, [(7, 23)], ""⟩,
  ⟨0x3800, 0x387F, 0x39, 0x39, "RehPrbsHold", .u16, .rw, 0x1F, 0x0C, 1, [(1, 1000)], "samples"⟩,
  ⟨0x3800, 0x387F, 0x3A, 0x3A, "RehStartMode", .enum8, .rw, 0x1F, 0x0C, 0, [(0, 1)], ""⟩,
  ⟨0x3800, 0x387F, 0x3B, 0x3B, "RehGuard", .q7_24, .rw, 0x1F, 0x0C, 0, [(0, 2147483648)], ""⟩,
  ⟨0x3800, 0x387F, 0x3C, 0x3C, "RehExtra", .enum8, .rw, 0x1F, 0x0C, 0, [(0, 5)], ""⟩,
  ⟨0x3800, 0x387F, 0x3D, 0x3D, "RehearsalStart", .u8, .cmd, 0x00, 0x0C, 0, [(1, 1)], ""⟩,
  ⟨0x3800, 0x387F, 0x3E, 0x3E, "RehearsalStop", .u8, .cmd, 0x00, 0x0C, 0, [(1, 1)], ""⟩,
  ⟨0x3800, 0x387F, 0x40, 0x40, "CtxState", .enum8, .ro, 0x1F, 0x00, 0, [(0, 5)], ""⟩,
  ⟨0x3800, 0x387F, 0x41, 0x41, "LiveFlags", .bits32, .ro, 0x1F, 0x00, 0, [(0, 4294967295)], ""⟩]

def objects08_3 : List Desc := [
  ⟨0x3800, 0x387F, 0x42, 0x42, "StickyFlags", .bits32, .ro, 0x1F, 0x00, 0, [(0, 4294967295)], ""⟩,
  ⟨0x3800, 0x387F, 0x43, 0x43, "StickyClear", .bits32, .cmd, 0x00, 0x0C, 0, [(0, 8388607)], ""⟩,
  ⟨0x3800, 0x387F, 0x44, 0x44, "MeasValue", .q7_24, .ro, 0x1F, 0x00, 0, [((-2147483648), 2147483647)], ""⟩,
  ⟨0x3800, 0x387F, 0x45, 0x45, "SetpointValue", .q7_24, .ro, 0x1F, 0x00, 0, [((-2147483648), 2147483647)], ""⟩,
  ⟨0x3800, 0x387F, 0x46, 0x46, "Output", .q7_24, .ro, 0x1F, 0x00, 0, [((-2147483648), 2147483647)], ""⟩,
  ⟨0x3800, 0x387F, 0x47, 0x47, "Integrator", .q7_24, .ro, 0x1F, 0x00, 0, [((-2147483648), 2147483647)], ""⟩,
  ⟨0x3800, 0x387F, 0x48, 0x48, "OutputNative", .i32, .ro, 0x1F, 0x00, 0, [((-2147483648), 2147483647)], "native"⟩,
  ⟨0x3800, 0x387F, 0x49, 0x49, "LookAhead", .q7_24, .ro, 0x1F, 0x00, 0, [((-2147483648), 2147483647)], ""⟩,
  ⟨0x3800, 0x387F, 0x4A, 0x4A, "VsupGain", .q16_16, .ro, 0x1F, 0x00, 65536, [(32768, 131072)], ""⟩,
  ⟨0x3800, 0x387F, 0x4B, 0x4B, "Samples", .u32, .ro, 0x1F, 0x00, 0, [(0, 4294967295)], "samples"⟩,
  ⟨0x3800, 0x387F, 0x4C, 0x4C, "LastSampleTime", .time64, .ro, 0x1F, 0x00, 0, [(0, 18446744073709551615)], "ns"⟩,
  ⟨0x3800, 0x387F, 0x4D, 0x4D, "Slot", .u8, .ro, 0x1F, 0x00, 255, [(0, 99), (255, 255)], ""⟩,
  ⟨0x3800, 0x387F, 0x4E, 0x4E, "Phase", .u16, .ro, 0x1F, 0x00, 0, [(0, 399)], ""⟩,
  ⟨0x3800, 0x387F, 0x4F, 0x4F, "EventsApplied", .u32, .ro, 0x1F, 0x00, 0, [(0, 4294967295)], "events"⟩,
  ⟨0x3800, 0x387F, 0x50, 0x50, "RehearsalState", .enum8, .ro, 0x1F, 0x00, 0, [(0, 2)], ""⟩,
  ⟨0x3800, 0x387F, 0x51, 0x51, "RehearsalEnd", .enum8, .ro, 0x1F, 0x00, 0, [(0, 8)], ""⟩,
  ⟨0x3800, 0x387F, 0x52, 0x52, "CaptureRecords", .u32, .ro, 0x1F, 0x00, 0, [(0, 524287)], "records"⟩,
  ⟨0x3800, 0x387F, 0x53, 0x53, "RehearsalCapture", .domain, .ro, 0x1F, 0x00, 0, [(32, 16777216)], ""⟩,
  ⟨0x3800, 0x387F, 0xF0, 0xF0, "EngineLoad", .u32, .ro, 0x1F, 0x00, 0, [(0, 4000000)], "1/s"⟩,
  ⟨0x3800, 0x387F, 0xF1, 0xF1, "RehearsalsActive", .u8, .ro, 0x1F, 0x00, 0, [(0, 4)], ""⟩]

def objects08_4 : List Desc := [
  ⟨0x3800, 0x387F, 0xF2, 0xF2, "StateErrors", .u32, .ro, 0x1F, 0x00, 0, [(0, 4294967295)], "errors"⟩]

/-- The object table of 08_control_contexts.md. -/
def objects08 : List Desc := objects08_0 ++ objects08_1 ++ objects08_2 ++ objects08_3 ++ objects08_4

def objects09_0 : List Desc := [
  ⟨0x4000, 0x4007, 0x01, 0x01, "BankEnable", .bool, .rw, 0x1F, 0x0C, 0, [(0, 1)], ""⟩,
  ⟨0x4000, 0x4007, 0x02, 0x02, "BoostVoltage", .u16, .rw, 0x1F, 0x0C, 48000, [(24000, 65000)], "mV"⟩,
  ⟨0x4008, 0x400F, 0x01, 0x01, "BankState", .enum8, .ro, 0x1F, 0x00, 0, [(0, 2)], ""⟩,
  ⟨0x4008, 0x400F, 0x02, 0x02, "SupplyVoltage", .u16, .ro, 0x1F, 0x00, 0, [(0, 65535)], "mV"⟩,
  ⟨0x4008, 0x400F, 0x03, 0x03, "BoostMeasured", .u16, .ro, 0x1F, 0x00, 0, [(0, 65535)], "mV"⟩,
  ⟨0x4008, 0x400F, 0x04, 0x04, "BoostOwner", .u8, .ro, 0x1F, 0x00, 255, [(0, 31), (255, 255)], ""⟩,
  ⟨0x4008, 0x400F, 0x05, 0x05, "ClaimedCurrent", .u16, .ro, 0x1F, 0x00, 0, [(0, 16000)], "mA"⟩,
  ⟨0x4008, 0x400F, 0x06, 0x06, "BankCurrent", .u16, .ro, 0x1F, 0x00, 0, [(0, 65535)], "mA"⟩,
  ⟨0x4008, 0x400F, 0x07, 0x07, "BankFlags", .bits8, .ro, 0x1F, 0x00, 0, [(0, 255)], ""⟩,
  ⟨0x4008, 0x400F, 0x08, 0x08, "BoostDeferrals", .u32, .ro, 0x1F, 0x00, 0, [(0, 4294967295)], "starts"⟩,
  ⟨0x4008, 0x400F, 0x09, 0x09, "BankLimitDeferrals", .u32, .ro, 0x1F, 0x00, 0, [(0, 4294967295)], "starts"⟩,
  ⟨0x4008, 0x400F, 0x0A, 0x0A, "BoostStarvedRuns", .u32, .ro, 0x1F, 0x00, 0, [(0, 4294967295)], "stitches"⟩,
  ⟨0x4008, 0x400F, 0x0B, 0x0B, "BankLimitClips", .u32, .ro, 0x1F, 0x00, 0, [(0, 4294967295)], "events"⟩,
  ⟨0x4010, 0x4010, 0x01, 0x01, "EngineState", .enum8, .ro, 0x1F, 0x00, 1, [(0, 1)], ""⟩,
  ⟨0x4010, 0x4010, 0x02, 0x02, "SafeOffEvents", .u32, .ro, 0x1F, 0x00, 0, [(0, 4294967295)], "events"⟩,
  ⟨0x4012, 0x4012, 0x01, 0x01, "BankContinuousLimit", .u16, .const, 0x1F, 0x00, 16000, [(16000, 16000)], "mA"⟩,
  ⟨0x4012, 0x4012, 0x02, 0x02, "BoostReadyLevel", .u8, .rw, 0x1F, 0x0C, 90, [(50, 100)], "%"⟩,
  ⟨0x4012, 0x4012, 0x03, 0x03, "BoostDeferLimit", .u16, .rw, 0x1F, 0x0C, 200, [(0, 5000)], "µs"⟩,
  ⟨0x4012, 0x4012, 0x04, 0x04, "BankPeakLimit", .u16, .const, 0x1F, 0x00, 60000, [(60000, 60000)], "mA"⟩,
  ⟨0x4020, 0x403F, 0x01, 0x01, "SvEnable", .bool, .rw, 0x1F, 0x0C, 0, [(0, 1)], ""⟩]

def objects09_1 : List Desc := [
  ⟨0x4020, 0x403F, 0x02, 0x02, "SvOwner", .enum8, .rw, 0x1F, 0x0C, 0, [(0, 3)], ""⟩,
  ⟨0x4020, 0x403F, 0x03, 0x03, "OwnerContext", .u8, .rw, 0x1F, 0x0C, 0, [(0, 127)], ""⟩,
  ⟨0x4020, 0x403F, 0x04, 0x04, "ExtProgram", .u8, .rw, 0x1F, 0x0C, 0, [(0, 63)], ""⟩,
  ⟨0x4020, 0x403F, 0x05, 0x05, "ExtCurrentLimit", .u16, .rw, 0x1F, 0x0C, 8000, [(0, 8000)], "mA"⟩,
  ⟨0x4020, 0x403F, 0x06, 0x06, "MaxOnTime", .u32, .rw, 0x1F, 0x0C, 0, [(0, 3600000)], "ms"⟩,
  ⟨0x4020, 0x403F, 0x07, 0x07, "DutyLimit", .u8, .rw, 0x1F, 0x0C, 100, [(1, 100)], "%"⟩,
  ⟨0x4020, 0x403F, 0x08, 0x08, "DutyWindow", .u16, .rw, 0x1F, 0x0C, 10000, [(100, 60000)], "ms"⟩,
  ⟨0x4020, 0x403F, 0x09, 0x09, "DutyHysteresis", .u8, .rw, 0x1F, 0x0C, 10, [(1, 50)], "%"⟩,
  ⟨0x4020, 0x403F, 0x0A, 0x0A, "RegBand", .u16, .rw, 0x1F, 0x0C, 200, [(50, 2000)], "mA"⟩,
  ⟨0x4020, 0x403F, 0x0B, 0x0B, "TtpAction", .enum8, .rw, 0x1F, 0x0C, 0, [(0, 1)], ""⟩,
  ⟨0x4020, 0x403F, 0x0C, 0x0C, "SvCommand", .u16, .cmd, 0x00, 0x0E, 0, [(1, 16130)], ""⟩,
  ⟨0x4020, 0x403F, 0x0D, 0x0D, "SvSelfTest", .u8, .cmd, 0x00, 0x08, 0, [(1, 1)], ""⟩,
  ⟨0x4020, 0x403F, 0x0E, 0x0E, "SvFaultClear", .u8, .cmd, 0x00, 0x0C, 0, [(1, 1)], ""⟩,
  ⟨0x4040, 0x405F, 0x01, 0x01, "SvState", .enum8, .ro, 0x1F, 0x00, 0, [(0, 6)], ""⟩,
  ⟨0x4040, 0x405F, 0x02, 0x02, "Program", .u8, .ro, 0x1F, 0x00, 255, [(0, 63), (255, 255)], ""⟩,
  ⟨0x4040, 0x405F, 0x03, 0x03, "StitchIndex", .u8, .ro, 0x1F, 0x00, 0, [(0, 63)], ""⟩,
  ⟨0x4040, 0x405F, 0x04, 0x04, "Current", .u16, .ro, 0x1F, 0x00, 0, [(0, 65535)], "mA"⟩,
  ⟨0x4040, 0x405F, 0x05, 0x05, "Setpoint", .u16, .ro, 0x1F, 0x00, 0, [(0, 65535)], "mA"⟩,
  ⟨0x4040, 0x405F, 0x06, 0x06, "Grant", .u16, .ro, 0x1F, 0x00, 0, [(0, 8000)], "mA"⟩,
  ⟨0x4040, 0x405F, 0x07, 0x07, "OnTime", .u32, .ro, 0x1F, 0x00, 0, [(0, 4294967295)], "ms"⟩]

def objects09_2 : List Desc := [
  ⟨0x4040, 0x405F, 0x08, 0x08, "DutyShare", .u8, .ro, 0x1F, 0x00, 0, [(0, 100)], "%"⟩,
  ⟨0x4040, 0x405F, 0x09, 0x09, "LastTimeToPeak", .u32, .ro, 0x1F, 0x00, 0, [(0, 4294967295)], "ns"⟩,
  ⟨0x4040, 0x405F, 0x0A, 0x0A, "SvFlags", .bits16, .ro, 0x1F, 0x00, 0, [(0, 65535)], ""⟩,
  ⟨0x4040, 0x405F, 0x0B, 0x0B, "Starts", .u32, .ro, 0x1F, 0x00, 0, [(0, 4294967295)], "starts"⟩,
  ⟨0x4040, 0x405F, 0x0C, 0x0C, "StartsReplaced", .u32, .ro, 0x1F, 0x00, 0, [(0, 4294967295)], "starts"⟩,
  ⟨0x4040, 0x405F, 0x0D, 0x0D, "StartsSuppressed", .u32, .ro, 0x1F, 0x00, 0, [(0, 4294967295)], "starts"⟩,
  ⟨0x4040, 0x405F, 0x0E, 0x0E, "MaxOnTrips", .u32, .ro, 0x1F, 0x00, 0, [(0, 4294967295)], "trips"⟩,
  ⟨0x4040, 0x405F, 0x0F, 0x0F, "DutyTrips", .u32, .ro, 0x1F, 0x00, 0, [(0, 4294967295)], "trips"⟩,
  ⟨0x4040, 0x405F, 0x10, 0x10, "TtpFaults", .u32, .ro, 0x1F, 0x00, 0, [(0, 4294967295)], "checks"⟩,
  ⟨0x4040, 0x405F, 0x11, 0x11, "SelfTestResult", .enum8, .ro, 0x1F, 0x00, 0, [(0, 2)], ""⟩,
  ⟨0x4100, 0x413F, 0x00, 0x00, "StitchProgram", .octets, .rw, 0x1F, 0x0C, 0, [(0, 256)], ""⟩,
  ⟨0x4180, 0x4180, 0x01, 0x40, "ProgramClaim", .u16, .ro, 0x1F, 0x00, 0, [(0, 8000)], "mA"⟩]

/-- The object table of 09_solenoid_banks.md. -/
def objects09 : List Desc := objects09_0 ++ objects09_1 ++ objects09_2

def objects10_0 : List Desc := [
  ⟨0x4400, 0x442F, 0x01, 0x01, "LsEnable", .bool, .rw, 0x1F, 0x0C, 0, [(0, 1)], ""⟩,
  ⟨0x4400, 0x442F, 0x02, 0x02, "LsOwner", .enum8, .rw, 0x1F, 0x0C, 0, [(0, 5)], ""⟩,
  ⟨0x4400, 0x442F, 0x03, 0x03, "OwnerContext", .u8, .rw, 0x1F, 0x0C, 0, [(0, 127)], ""⟩,
  ⟨0x4400, 0x442F, 0x04, 0x04, "LoadKind", .enum8, .rw, 0x1F, 0x0C, 0, [(0, 2)], ""⟩,
  ⟨0x4400, 0x442F, 0x05, 0x05, "WireSection", .enum8, .rw, 0x1F, 0x0C, 0, [(0, 7)], ""⟩,
  ⟨0x4400, 0x442F, 0x06, 0x06, "InsulationClass", .enum8, .rw, 0x1F, 0x0C, 0, [(0, 4)], ""⟩,
  ⟨0x4400, 0x442F, 0x07, 0x07, "WireLength", .u16, .rw, 0x1F, 0x0C, 5000, [(100, 60000)], "mm"⟩,
  ⟨0x4400, 0x442F, 0x08, 0x08, "WireAmbient", .i8, .rw, 0x1F, 0x0C, 70, [((-40), 125)], "°C"⟩,
  ⟨0x4400, 0x442F, 0x09, 0x09, "InrushLimit", .u16, .rw, 0x1F, 0x0C, 0, [(1000, 65535)], "mA"⟩,
  ⟨0x4400, 0x442F, 0x0A, 0x0A, "InrushTime", .u16, .rw, 0x1F, 0x0C, 20, [(0, 500)], "ms"⟩,
  ⟨0x4400, 0x442F, 0x0B, 0x0B, "SlewTime", .u16, .rw, 0x1F, 0x0C, 50, [(1, 500)], "ms"⟩,
  ⟨0x4400, 0x442F, 0x0C, 0x0C, "PwmFrequency", .u16, .rw, 0x1F, 0x0C, 200, [(50, 2000)], "Hz"⟩,
  ⟨0x4400, 0x442F, 0x0D, 0x0D, "LampNominal", .u16, .rw, 0x1F, 0x0C, 28000, [(9000, 36000)], "mV"⟩,
  ⟨0x4400, 0x442F, 0x0E, 0x0E, "LampExponent", .q16_16, .rw, 0x1F, 0x0C, 101581, [(65536, 131072)], ""⟩,
  ⟨0x4400, 0x442F, 0x0F, 0x0F, "RetryCount", .u8, .rw, 0x1F, 0x0C, 3, [(0, 10)], "retries"⟩,
  ⟨0x4400, 0x442F, 0x10, 0x10, "RetryDelay", .u16, .rw, 0x1F, 0x0C, 500, [(10, 60000)], "ms"⟩,
  ⟨0x4400, 0x442F, 0x11, 0x11, "RetryWindow", .u16, .rw, 0x1F, 0x0C, 60, [(1, 3600)], "s"⟩,
  ⟨0x4400, 0x442F, 0x12, 0x12, "ShedPriority", .u8, .rw, 0x1F, 0x0C, 128, [(0, 255)], ""⟩,
  ⟨0x4400, 0x442F, 0x13, 0x13, "OpenLoadThreshold", .u16, .rw, 0x1F, 0x0C, 50, [(0, 2000)], "mA"⟩,
  ⟨0x4400, 0x442F, 0x14, 0x14, "OffDiagnostics", .bool, .rw, 0x1F, 0x0C, 1, [(0, 1)], ""⟩]

def objects10_1 : List Desc := [
  ⟨0x4400, 0x442F, 0x15, 0x15, "LsDuty", .u16, .rwv, 0x1F, 0x0E, 0, [(0, 1000)], "0.1 %"⟩,
  ⟨0x4400, 0x442F, 0x16, 0x16, "LsFaultClear", .u8, .cmd, 0x00, 0x0C, 0, [(1, 1)], ""⟩,
  ⟨0x4440, 0x446F, 0x01, 0x01, "LsState", .enum8, .ro, 0x1F, 0x00, 0, [(0, 6)], ""⟩,
  ⟨0x4440, 0x446F, 0x02, 0x02, "CommandedDuty", .u16, .ro, 0x1F, 0x00, 0, [(0, 1000)], "0.1 %"⟩,
  ⟨0x4440, 0x446F, 0x03, 0x03, "AppliedDuty", .u16, .ro, 0x1F, 0x00, 0, [(0, 1000)], "0.1 %"⟩,
  ⟨0x4440, 0x446F, 0x04, 0x04, "Current", .u16, .ro, 0x1F, 0x00, 0, [(0, 65535)], "mA"⟩,
  ⟨0x4440, 0x446F, 0x05, 0x05, "CurrentPeak", .u16, .ro, 0x1F, 0x00, 0, [(0, 65535)], "mA"⟩,
  ⟨0x4440, 0x446F, 0x06, 0x06, "WireTemperature", .i16, .ro, 0x1F, 0x00, 0, [((-32768), 32767)], "0.1 °C"⟩,
  ⟨0x4440, 0x446F, 0x07, 0x07, "JunctionTemperature", .i16, .ro, 0x1F, 0x00, 0, [((-32768), 32767)], "0.1 °C"⟩,
  ⟨0x4440, 0x446F, 0x08, 0x08, "LsFlags", .bits16, .ro, 0x1F, 0x00, 0, [(0, 65535)], ""⟩,
  ⟨0x4440, 0x446F, 0x09, 0x09, "TripCause", .enum8, .ro, 0x1F, 0x00, 0, [(0, 5)], ""⟩,
  ⟨0x4440, 0x446F, 0x0A, 0x0A, "RetriesUsed", .u8, .ro, 0x1F, 0x00, 0, [(0, 10)], "retries"⟩,
  ⟨0x4440, 0x446F, 0x0B, 0x0B, "EffectiveRating", .u16, .ro, 0x1F, 0x00, 0, [(0, 20000)], "mA"⟩,
  ⟨0x4440, 0x446F, 0x0C, 0x0C, "SegmentsHealthy", .u8, .ro, 0x1F, 0x00, 0, [(0, 4)], "segments"⟩,
  ⟨0x4440, 0x446F, 0x0D, 0x0D, "UnderstudyInService", .bool, .ro, 0x1F, 0x00, 0, [(0, 1)], ""⟩,
  ⟨0x4440, 0x446F, 0x0E, 0x0E, "SegmentsRetired", .u8, .ro, 0x1F, 0x00, 0, [(0, 5)], "segments"⟩,
  ⟨0x4440, 0x446F, 0x0F, 0x0F, "Trips", .u32, .ro, 0x1F, 0x00, 0, [(0, 4294967295)], "trips"⟩,
  ⟨0x4440, 0x446F, 0x10, 0x10, "SlewFallbacks", .u32, .ro, 0x1F, 0x00, 0, [(0, 4294967295)], "events"⟩,
  ⟨0x4480, 0x4483, 0x01, 0x01, "GroupVoltage", .u16, .ro, 0x1F, 0x00, 0, [(0, 65535)], "mV"⟩,
  ⟨0x4480, 0x4483, 0x02, 0x02, "GroupCurrent", .u16, .ro, 0x1F, 0x00, 0, [(0, 65535)], "mA"⟩]

def objects10_2 : List Desc := [
  ⟨0x4480, 0x4483, 0x03, 0x03, "GroupState", .enum8, .ro, 0x1F, 0x00, 1, [(0, 1)], ""⟩,
  ⟨0x4480, 0x4483, 0x04, 0x04, "GroupSheds", .u32, .ro, 0x1F, 0x00, 0, [(0, 4294967295)], "channels"⟩,
  ⟨0x4480, 0x4483, 0x05, 0x05, "GroupFlags", .bits8, .ro, 0x1F, 0x00, 0, [(0, 255)], ""⟩,
  ⟨0x4480, 0x4483, 0x06, 0x06, "GroupReconnect", .u8, .cmd, 0x00, 0x0C, 0, [(1, 1)], ""⟩,
  ⟨0x4490, 0x4490, 0x01, 0x01, "SegmentTestInterval", .u32, .rw, 0x1F, 0x0C, 600, [(0, 0), (60, 86400)], "s"⟩]

/-- The object table of 10_load_channels.md. -/
def objects10 : List Desc := objects10_0 ++ objects10_1 ++ objects10_2

def objects11_0 : List Desc := [
  ⟨0x4800, 0x481F, 0x01, 0x01, "AinEnable", .bool, .rw, 0x1F, 0x0C, 0, [(0, 1)], ""⟩,
  ⟨0x4800, 0x481F, 0x02, 0x02, "AinMode", .enum8, .rw, 0x1F, 0x0C, 0, [(0, 5)], ""⟩,
  ⟨0x4800, 0x481F, 0x03, 0x03, "AinFilter", .u16, .rw, 0x1F, 0x0C, 100, [(0, 2000)], "Hz"⟩,
  ⟨0x4800, 0x481F, 0x04, 0x04, "AinZero", .i32, .rw, 0x1F, 0x0C, 0, [((-2147483648), 2147483647)], "native"⟩,
  ⟨0x4800, 0x481F, 0x05, 0x05, "AinGain", .q16_16, .rw, 0x1F, 0x0C, 65536, [((-2147483648), 2147418112)], ""⟩,
  ⟨0x4800, 0x481F, 0x06, 0x06, "AinValidLow", .i32, .rw, 0x1F, 0x0C, (-2147483648), [((-2147483648), 2147483647)], "native"⟩,
  ⟨0x4800, 0x481F, 0x07, 0x07, "AinValidHigh", .i32, .rw, 0x1F, 0x0C, 2147483647, [((-2147483648), 2147483647)], "native"⟩,
  ⟨0x4820, 0x483F, 0x01, 0x01, "AinNative", .i32, .ro, 0x1F, 0x00, 0, [((-2147483648), 2147483647)], "native"⟩,
  ⟨0x4820, 0x483F, 0x02, 0x02, "AinValue", .i32, .ro, 0x1F, 0x00, 0, [((-2147483648), 2147483647)], ""⟩,
  ⟨0x4820, 0x483F, 0x03, 0x03, "InputFlags", .bits16, .ro, 0x1F, 0x00, 0, [(0, 65535)], ""⟩,
  ⟨0x4840, 0x484F, 0x01, 0x01, "FinEnable", .bool, .rw, 0x1F, 0x0C, 0, [(0, 1)], ""⟩,
  ⟨0x4840, 0x484F, 0x02, 0x02, "FinFrontEnd", .enum8, .rw, 0x1F, 0x0C, 0, [(0, 3)], ""⟩,
  ⟨0x4840, 0x484F, 0x03, 0x03, "FinMode", .enum8, .rw, 0x1F, 0x0C, 0, [(0, 3)], ""⟩,
  ⟨0x4840, 0x484F, 0x04, 0x04, "FinRole", .enum8, .rw, 0x1F, 0x0C, 0, [(0, 2)], ""⟩,
  ⟨0x4840, 0x484F, 0x05, 0x05, "FinThreshold", .u16, .rw, 0x1F, 0x0C, 2500, [(500, 10000)], "mV"⟩,
  ⟨0x4840, 0x484F, 0x06, 0x06, "FinGlitch", .u16, .rw, 0x1F, 0x0C, 100, [(0, 100000)], "ns"⟩,
  ⟨0x4840, 0x484F, 0x07, 0x07, "FinDistancePerPulse", .u32, .rw, 0x1F, 0x0C, 10000000, [(1000, 4000000000)], "nm"⟩,
  ⟨0x4840, 0x484F, 0x08, 0x08, "FinTeeth", .u16, .rw, 0x1F, 0x0C, 60, [(1, 65535)], ""⟩,
  ⟨0x4840, 0x484F, 0x09, 0x09, "FinMissingTeeth", .u8, .rw, 0x1F, 0x0C, 0, [(0, 3)], ""⟩,
  ⟨0x4840, 0x484F, 0x0A, 0x0A, "FinIndexAngle", .u32, .rw, 0x1F, 0x0C, 0, [(0, 4294967295)], "2^-32 turn"⟩]

def objects11_1 : List Desc := [
  ⟨0x4840, 0x484F, 0x0B, 0x0B, "FinDirection", .enum8, .rw, 0x1F, 0x0C, 0, [(0, 2)], ""⟩,
  ⟨0x4840, 0x484F, 0x0C, 0x0C, "FinWheelY", .i32, .rw, 0x1F, 0x0C, 0, [((-30000), 30000)], "mm"⟩,
  ⟨0x4840, 0x484F, 0x0D, 0x0D, "FinAverage", .u8, .rw, 0x1F, 0x0C, 1, [(1, 64)], "intervals"⟩,
  ⟨0x4840, 0x484F, 0x0E, 0x0E, "FinZeroTime", .u16, .rw, 0x1F, 0x0C, 1000, [(10, 60000)], "ms"⟩,
  ⟨0x4840, 0x484F, 0x0F, 0x0F, "FinZero", .u8, .cmd, 0x00, 0x0C, 0, [(1, 1)], ""⟩,
  ⟨0x4850, 0x485F, 0x01, 0x01, "FinFrequency", .u32, .ro, 0x1F, 0x00, 0, [(0, 200000000)], "mHz"⟩,
  ⟨0x4850, 0x485F, 0x02, 0x02, "FinCount", .i64, .ro, 0x1F, 0x00, 0, [((-9223372036854775808), 9223372036854775807)], "counts"⟩,
  ⟨0x4850, 0x485F, 0x03, 0x03, "LastEdgeTime", .time64, .ro, 0x1F, 0x00, 0, [(0, 18446744073709551615)], "ns"⟩,
  ⟨0x4850, 0x485F, 0x04, 0x04, "InputFlags", .bits16, .ro, 0x1F, 0x00, 0, [(0, 65535)], ""⟩,
  ⟨0x4860, 0x486F, 0x01, 0x01, "AcuEnable", .bool, .rw, 0x1F, 0x0C, 0, [(0, 1)], ""⟩,
  ⟨0x4860, 0x486F, 0x02, 0x02, "AcuGain", .u8, .rw, 0x1F, 0x0C, 1, [(1, 1), (2, 2), (4, 4), (8, 8), (16, 16)], ""⟩,
  ⟨0x4860, 0x486F, 0x03, 0x03, "AcuThresholdOn", .u16, .rw, 0x1F, 0x0C, 2000, [(1, 32767)], "codes"⟩,
  ⟨0x4860, 0x486F, 0x04, 0x04, "AcuThresholdOff", .u16, .rw, 0x1F, 0x0C, 1000, [(1, 32767)], "codes"⟩,
  ⟨0x4860, 0x486F, 0x05, 0x05, "AcuDeadTime", .u16, .rw, 0x1F, 0x0C, 50, [(0, 1000)], "µs"⟩,
  ⟨0x4860, 0x486F, 0x06, 0x06, "AcuMaxLength", .u16, .rw, 0x1F, 0x0C, 500, [(10, 5000)], "µs"⟩,
  ⟨0x4860, 0x486F, 0x07, 0x0A, "BandCentre", .u16, .rw, 0x1F, 0x0C, 0, [(2, 200)], "kHz"⟩,
  ⟨0x4860, 0x486F, 0x0B, 0x0B, "GrainBand", .u8, .rw, 0x1F, 0x0C, 2, [(0, 3)], ""⟩,
  ⟨0x4860, 0x486F, 0x0C, 0x0C, "GrainShare", .u8, .rw, 0x1F, 0x0C, 40, [(1, 100)], "%"⟩,
  ⟨0x4860, 0x486F, 0x0D, 0x0D, "HeavyPeak", .u16, .rw, 0x1F, 0x0C, 30000, [(1, 32767)], "codes"⟩,
  ⟨0x4860, 0x486F, 0x0E, 0x0E, "AcuRateWindow", .u16, .rw, 0x1F, 0x0C, 100, [(10, 10000)], "ms"⟩]

def objects11_2 : List Desc := [
  ⟨0x4870, 0x487F, 0x01, 0x01, "GrainRate", .u32, .ro, 0x1F, 0x00, 0, [(0, 4294967295)], "0.001 /s"⟩,
  ⟨0x4870, 0x487F, 0x02, 0x02, "GrainImpacts", .u32, .ro, 0x1F, 0x00, 0, [(0, 4294967295)], "impacts"⟩,
  ⟨0x4870, 0x487F, 0x03, 0x03, "LightImpacts", .u32, .ro, 0x1F, 0x00, 0, [(0, 4294967295)], "impacts"⟩,
  ⟨0x4870, 0x487F, 0x04, 0x04, "HeavyImpacts", .u32, .ro, 0x1F, 0x00, 0, [(0, 4294967295)], "impacts"⟩,
  ⟨0x4870, 0x487F, 0x05, 0x05, "ClippedImpacts", .u32, .ro, 0x1F, 0x00, 0, [(0, 4294967295)], "impacts"⟩,
  ⟨0x4870, 0x487F, 0x06, 0x06, "NoiseLevel", .u16, .ro, 0x1F, 0x00, 0, [(0, 65535)], "codes"⟩,
  ⟨0x4870, 0x487F, 0x07, 0x07, "LastImpactTime", .time64, .ro, 0x1F, 0x00, 0, [(0, 18446744073709551615)], "ns"⟩,
  ⟨0x4870, 0x487F, 0x08, 0x08, "InputFlags", .bits16, .ro, 0x1F, 0x00, 0, [(0, 65535)], ""⟩,
  ⟨0x4880, 0x4883, 0x01, 0x01, "BrgEnable", .bool, .rw, 0x1F, 0x0C, 0, [(0, 1)], ""⟩,
  ⟨0x4880, 0x4883, 0x02, 0x02, "BrgExcitation", .enum8, .rw, 0x1F, 0x0C, 0, [(0, 1)], ""⟩,
  ⟨0x4880, 0x4883, 0x03, 0x03, "BrgGain", .u8, .rw, 0x1F, 0x0C, 128, [(32, 32), (64, 64), (128, 128)], ""⟩,
  ⟨0x4880, 0x4883, 0x04, 0x04, "BrgRate", .u16, .rw, 0x1F, 0x0C, 1000, [(100, 100), (500, 500), (1000, 1000), (2000, 2000), (4000, 4000)], "S/s"⟩,
  ⟨0x4880, 0x4883, 0x05, 0x05, "BrgTare", .i32, .rw, 0x1F, 0x0C, 0, [((-2147483648), 2147483647)], "nV/V"⟩,
  ⟨0x4880, 0x4883, 0x06, 0x06, "BrgTareCommand", .u8, .cmd, 0x00, 0x0E, 0, [(1, 1)], ""⟩,
  ⟨0x4888, 0x488B, 0x01, 0x01, "BrgValue", .i32, .ro, 0x1F, 0x00, 0, [((-2147483648), 2147483647)], "nV/V"⟩,
  ⟨0x4888, 0x488B, 0x02, 0x02, "BrgExcitationMeasured", .u16, .ro, 0x1F, 0x00, 0, [(0, 65535)], "mV"⟩,
  ⟨0x4888, 0x488B, 0x03, 0x03, "InputFlags", .bits16, .ro, 0x1F, 0x00, 0, [(0, 65535)], ""⟩,
  ⟨0x4890, 0x4890, 0x01, 0x01, "ImuMounting", .octets, .rw, 0x1F, 0x0C, 0, [(16, 16)], ""⟩,
  ⟨0x4890, 0x4890, 0x02, 0x02, "ImuAttitudeTime", .u16, .rw, 0x1F, 0x0C, 2000, [(100, 20000)], "ms"⟩,
  ⟨0x4891, 0x4891, 0x01, 0x06, "ImuChannel", .i32, .ro, 0x1F, 0x00, 0, [((-2147483648), 2147483647)], "µm/s², µrad/s"⟩]

def objects11_3 : List Desc := [
  ⟨0x4891, 0x4891, 0x07, 0x07, "Pitch", .i32, .ro, 0x1F, 0x00, 0, [((-2147483648), 2147483647)], "µrad"⟩,
  ⟨0x4891, 0x4891, 0x08, 0x08, "Roll", .i32, .ro, 0x1F, 0x00, 0, [((-2147483648), 2147483647)], "µrad"⟩,
  ⟨0x4891, 0x4891, 0x09, 0x09, "InputFlags", .bits16, .ro, 0x1F, 0x00, 0, [(0, 65535)], ""⟩,
  ⟨0x48A0, 0x48A0, 0x01, 0x01, "SensSupplyEnable", .bits8, .rw, 0x1F, 0x0C, 63, [(0, 63)], ""⟩,
  ⟨0x48A0, 0x48A0, 0x02, 0x07, "SensSupplyVoltage", .u16, .ro, 0x1F, 0x00, 0, [(0, 65535)], "mV"⟩,
  ⟨0x48A0, 0x48A0, 0x08, 0x08, "SensSupplyFault", .bits8, .ro, 0x1F, 0x00, 0, [(0, 255)], ""⟩,
  ⟨0x48B0, 0x48B0, 0x01, 0x01, "ConverterCheckInterval", .u32, .rw, 0x1F, 0x0C, 3600, [(0, 0), (60, 86400)], "s"⟩,
  ⟨0x48B0, 0x48B0, 0x02, 0x02, "UnderstudyConverterUse", .u8, .ro, 0x1F, 0x00, 255, [(0, 7), (255, 255)], ""⟩,
  ⟨0x48B0, 0x48B0, 0x03, 0x03, "ConverterFailures", .bits8, .ro, 0x1F, 0x00, 0, [(0, 255)], ""⟩]

/-- The object table of 11_sensing_inputs.md. -/
def objects11 : List Desc := objects11_0 ++ objects11_1 ++ objects11_2 ++ objects11_3

def objects12_0 : List Desc := [
  ⟨0x5000, 0x5000, 0x01, 0x01, "FabricState", .enum8, .ro, 0x1F, 0x00, 0, [(0, 3)], ""⟩,
  ⟨0x5000, 0x5000, 0x02, 0x02, "CellsInService", .u16, .ro, 0x1F, 0x00, 0, [(0, 2048)], "cells"⟩,
  ⟨0x5000, 0x5000, 0x03, 0x03, "UnderstudiesFree", .u16, .ro, 0x1F, 0x00, 0, [(0, 256)], "cells"⟩,
  ⟨0x5000, 0x5000, 0x04, 0x04, "StoreUsed", .u32, .ro, 0x1F, 0x00, 0, [(0, 1310720)], "KiB"⟩,
  ⟨0x5000, 0x5000, 0x05, 0x05, "StoreCapacity", .u32, .const, 0x1F, 0x00, 1310720, [(1310720, 1310720)], "KiB"⟩,
  ⟨0x5000, 0x5000, 0x06, 0x06, "EccCorrected", .u32, .ro, 0x1F, 0x00, 0, [(0, 4294967295)], "errors"⟩,
  ⟨0x5000, 0x5000, 0x07, 0x07, "LinkErrors", .u32, .ro, 0x1F, 0x00, 0, [(0, 4294967295)], "words"⟩,
  ⟨0x5000, 0x5000, 0x08, 0x08, "DmaLate", .u32, .ro, 0x1F, 0x00, 0, [(0, 4294967295)], "requests"⟩,
  ⟨0x5010, 0x502F, 0x01, 0x01, "RegionPanels", .bits32, .rw, 0x1F, 0x0C, 0, [(0, 4294967295)], ""⟩,
  ⟨0x5010, 0x502F, 0x02, 0x02, "AutoStart", .bool, .rw, 0x1F, 0x0C, 1, [(0, 1)], ""⟩,
  ⟨0x5030, 0x504F, 0x01, 0x01, "RegionState", .enum8, .ro, 0x1F, 0x00, 0, [(0, 3)], ""⟩,
  ⟨0x5030, 0x504F, 0x02, 0x02, "RunningSlot", .u8, .ro, 0x1F, 0x00, 255, [(0, 31), (255, 255)], ""⟩,
  ⟨0x5030, 0x504F, 0x03, 0x03, "RunningPrickingId", .u32, .ro, 0x1F, 0x00, 0, [(0, 4294967295)], ""⟩,
  ⟨0x5030, 0x504F, 0x04, 0x04, "RunningRevision", .u16, .ro, 0x1F, 0x00, 0, [(0, 65535)], ""⟩,
  ⟨0x5030, 0x504F, 0x05, 0x05, "RepeatLength", .u32, .ro, 0x1F, 0x00, 0, [(0, 10000000)], "cycles"⟩,
  ⟨0x5030, 0x504F, 0x06, 0x06, "Repeats", .u64, .ro, 0x1F, 0x00, 0, [(0, 18446744073709551615)], "repeats"⟩,
  ⟨0x5030, 0x504F, 0x07, 0x07, "SceneState", .enum8, .ro, 0x1F, 0x00, 0, [(0, 3)], ""⟩,
  ⟨0x5030, 0x504F, 0x08, 0x08, "SceneSeq", .u64, .ro, 0x1F, 0x00, 0, [(0, 18446744073709551615)], ""⟩,
  ⟨0x5030, 0x504F, 0x09, 0x09, "PendingSeq", .u64, .ro, 0x1F, 0x00, 0, [(0, 18446744073709551615)], ""⟩,
  ⟨0x5030, 0x504F, 0x0A, 0x0A, "LastSwitchTime", .time64, .ro, 0x1F, 0x00, 0, [(0, 18446744073709551615)], "ns"⟩]

def objects12_1 : List Desc := [
  ⟨0x5030, 0x504F, 0x0B, 0x0B, "Switches", .u32, .ro, 0x1F, 0x00, 0, [(0, 4294967295)], ""⟩,
  ⟨0x5030, 0x504F, 0x0C, 0x0C, "ScenesMissed", .u32, .ro, 0x1F, 0x00, 0, [(0, 4294967295)], ""⟩,
  ⟨0x5030, 0x504F, 0x0D, 0x0D, "ScenesFailed", .u32, .ro, 0x1F, 0x00, 0, [(0, 4294967295)], ""⟩,
  ⟨0x5080, 0x5080, 0x00, 0x00, "SceneChange", .octets, .cmd, 0x00, 0x0E, 0, [(32, 32)], ""⟩,
  ⟨0x5081, 0x5081, 0x00, 0x00, "SceneCancel", .u8, .cmd, 0x00, 0x0E, 0, [(0, 31)], ""⟩,
  ⟨0x5082, 0x5082, 0x00, 0x00, "PrickingDelete", .u8, .cmd, 0x00, 0x0C, 0, [(0, 31)], ""⟩,
  ⟨0x5100, 0x511F, 0x00, 0x00, "PrickingLoad", .domain, .cmd, 0x00, 0x0C, 0, [(400, 268435456)], ""⟩,
  ⟨0x5140, 0x515F, 0x00, 0x00, "SlotInfo", .octets, .ro, 0x1F, 0x00, 0, [(64, 64)], ""⟩]

/-- The object table of 12_fabric_and_prickings.md. -/
def objects12 : List Desc := objects12_0 ++ objects12_1

def objects13_0 : List Desc := [
  ⟨0x5400, 0x5400, 0x01, 0x01, "ActivitiesRunning", .u8, .ro, 0x1F, 0x00, 0, [(0, 11)], ""⟩,
  ⟨0x5400, 0x5400, 0x02, 0x02, "Grants", .u32, .ro, 0x1F, 0x00, 0, [(0, 4294967295)], ""⟩,
  ⟨0x5400, 0x5400, 0x03, 0x03, "Conflicts", .u32, .ro, 0x1F, 0x00, 0, [(0, 4294967295)], ""⟩,
  ⟨0x5400, 0x5400, 0x04, 0x04, "Yields", .u32, .ro, 0x1F, 0x00, 0, [(0, 4294967295)], ""⟩,
  ⟨0x5401, 0x5401, 0x01, 0x04, "QuadrantActivity", .enum8, .ro, 0x1F, 0x00, 0, [(0, 3)], ""⟩,
  ⟨0x5402, 0x5402, 0x01, 0x01, "CellTestPeriod", .u32, .rw, 0x1F, 0x0C, 86400, [(0, 0), (3600, 604800)], "s"⟩,
  ⟨0x5402, 0x5402, 0x02, 0x02, "CellTestsPassed", .u32, .ro, 0x1F, 0x00, 0, [(0, 4294967295)], "tests"⟩,
  ⟨0x5410, 0x5410, 0x01, 0x01, "UnderstudyCellsFree", .u16, .ro, 0x1F, 0x00, 256, [(0, 256)], "cells"⟩,
  ⟨0x5410, 0x5410, 0x02, 0x02, "CellsRetired", .u16, .ro, 0x1F, 0x00, 0, [(0, 256)], "cells"⟩,
  ⟨0x5410, 0x5410, 0x03, 0x03, "DramRowsLeft", .u8, .ro, 0x1F, 0x00, 64, [(0, 64)], "rows"⟩,
  ⟨0x5410, 0x5410, 0x04, 0x04, "EmmcBlocksLeft", .u16, .ro, 0x1F, 0x00, 2048, [(0, 2048)], "blocks"⟩,
  ⟨0x5410, 0x5410, 0x05, 0x05, "SegmentsLeft", .u8, .ro, 0x1F, 0x00, 48, [(0, 48)], "segments"⟩,
  ⟨0x5410, 0x5410, 0x06, 0x06, "SpareFlags", .bits16, .ro, 0x1F, 0x00, 0, [(0, 65535)], ""⟩,
  ⟨0x5420, 0x5420, 0x00, 0x00, "UnderstudySwap", .u16, .cmd, 0x00, 0x08, 0, [(0, 2047)], ""⟩,
  ⟨0x5421, 0x5421, 0x00, 0x00, "InlinePathTest", .u8, .cmd, 0x00, 0x08, 0, [(1, 1)], ""⟩,
  ⟨0x5422, 0x5422, 0x00, 0x00, "MramRebuild", .u8, .cmd, 0x00, 0x08, 0, [(1, 1)], ""⟩,
  ⟨0x5430, 0x5430, 0x01, 0x01, "RowRepairs", .u8, .ro, 0x1F, 0x00, 0, [(0, 64)], "rows"⟩,
  ⟨0x5430, 0x5430, 0x02, 0x02, "RetiredChannel", .u8, .ro, 0x1F, 0x00, 255, [(0, 3), (255, 255)], ""⟩,
  ⟨0x5430, 0x5430, 0x03, 0x03, "CorrectedErrors", .u32, .ro, 0x1F, 0x00, 0, [(0, 4294967295)], "errors"⟩,
  ⟨0x5430, 0x5430, 0x04, 0x04, "LastScrubEnd", .time64, .ro, 0x1F, 0x00, 0, [(0, 18446744073709551615)], "ns"⟩]

def objects13_1 : List Desc := [
  ⟨0x5440, 0x5440, 0x01, 0x01, "BlocksRetired", .u16, .ro, 0x1F, 0x00, 0, [(0, 2048)], "blocks"⟩,
  ⟨0x5440, 0x5440, 0x02, 0x02, "LastVerifyEnd", .time64, .ro, 0x1F, 0x00, 0, [(0, 18446744073709551615)], "ns"⟩,
  ⟨0x5450, 0x5450, 0x01, 0x01, "StandbyCore", .enum8, .ro, 0x1F, 0x00, 0, [(0, 2)], ""⟩,
  ⟨0x5450, 0x5450, 0x02, 0x02, "CoreTakeovers", .u8, .ro, 0x1F, 0x00, 0, [(0, 1)], ""⟩,
  ⟨0x5480, 0x5480, 0x00, 0x00, "FirmwareStage", .domain, .cmd, 0x00, 0x08, 0, [(1024, 268435456)], ""⟩,
  ⟨0x5481, 0x5481, 0x00, 0x00, "FirmwareActivate", .enum8, .cmd, 0x00, 0x08, 0, [(0, 2)], ""⟩,
  ⟨0x5482, 0x5482, 0x00, 0x00, "FirmwareConfirm", .u8, .cmd, 0x00, 0x08, 0, [(1, 1)], ""⟩,
  ⟨0x5483, 0x5483, 0x01, 0x01, "ActiveImage", .enum8, .ro, 0x1F, 0x00, 0, [(0, 1)], ""⟩,
  ⟨0x5483, 0x5483, 0x02, 0x02, "StagedState", .enum8, .ro, 0x1F, 0x00, 0, [(0, 3)], ""⟩,
  ⟨0x5483, 0x5483, 0x03, 0x03, "StagedVersion", .u32, .ro, 0x1F, 0x00, 0, [(0, 4294967295)], ""⟩,
  ⟨0x5483, 0x5483, 0x04, 0x04, "TrialState", .enum8, .ro, 0x1F, 0x00, 0, [(0, 3)], ""⟩,
  ⟨0x5500, 0x551F, 0x01, 0x08, "StrandStatus", .bits8, .ro, 0x1F, 0x00, 15, [(0, 255)], ""⟩,
  ⟨0x5600, 0x5600, 0x01, 0x01, "LotId", .str, .const, 0x1F, 0x00, 0, [(8, 8)], ""⟩,
  ⟨0x5600, 0x5600, 0x02, 0x02, "WaferNumber", .u8, .const, 0x1F, 0x00, 0, [(1, 25)], ""⟩,
  ⟨0x5600, 0x5600, 0x03, 0x03, "DieX", .i8, .const, 0x1F, 0x00, 0, [((-32), 31)], ""⟩,
  ⟨0x5600, 0x5600, 0x04, 0x04, "DieY", .i8, .const, 0x1F, 0x00, 0, [((-32), 31)], ""⟩,
  ⟨0x5600, 0x5600, 0x05, 0x05, "RetiredPerQuadrant", .octets, .ro, 0x1F, 0x00, 0, [(8, 8)], ""⟩,
  ⟨0x5600, 0x5600, 0x06, 0x06, "FirstRetirement", .time64, .ro, 0x1F, 0x00, 0, [(0, 18446744073709551615)], "ns"⟩]

/-- The object table of 13_understudies_and_maintenance.md. -/
def objects13 : List Desc := objects13_0 ++ objects13_1

def objects14_0 : List Desc := [
  ⟨0x5800, 0x5805, 0x01, 0x01, "PortEnable", .bool, .rw, 0x1F, 0x0C, 0, [(0, 1)], ""⟩,
  ⟨0x5800, 0x5805, 0x02, 0x02, "PortMode", .enum8, .rw, 0x1F, 0x0C, 0, [(0, 2)], ""⟩,
  ⟨0x5800, 0x5805, 0x03, 0x03, "FdEnable", .bool, .rw, 0x1F, 0x0C, 0, [(0, 1)], ""⟩,
  ⟨0x5800, 0x5805, 0x04, 0x04, "NominalPrescaler", .u16, .rw, 0x1F, 0x0C, 4, [(1, 512)], ""⟩,
  ⟨0x5800, 0x5805, 0x05, 0x05, "NominalSeg1", .u16, .rw, 0x1F, 0x0C, 63, [(2, 256)], "quanta"⟩,
  ⟨0x5800, 0x5805, 0x06, 0x06, "NominalSeg2", .u8, .rw, 0x1F, 0x0C, 16, [(2, 128)], "quanta"⟩,
  ⟨0x5800, 0x5805, 0x07, 0x07, "NominalSjw", .u8, .rw, 0x1F, 0x0C, 16, [(1, 128)], "quanta"⟩,
  ⟨0x5800, 0x5805, 0x08, 0x08, "DataPrescaler", .u8, .rw, 0x1F, 0x0C, 2, [(1, 32)], ""⟩,
  ⟨0x5800, 0x5805, 0x09, 0x09, "DataSeg1", .u8, .rw, 0x1F, 0x0C, 15, [(1, 32)], "quanta"⟩,
  ⟨0x5800, 0x5805, 0x0A, 0x0A, "DataSeg2", .u8, .rw, 0x1F, 0x0C, 4, [(1, 16)], "quanta"⟩,
  ⟨0x5800, 0x5805, 0x0B, 0x0B, "DataSjw", .u8, .rw, 0x1F, 0x0C, 4, [(1, 16)], "quanta"⟩,
  ⟨0x5800, 0x5805, 0x0C, 0x0C, "TdcMode", .enum8, .rw, 0x1F, 0x0C, 0, [(0, 1)], ""⟩,
  ⟨0x5800, 0x5805, 0x0D, 0x0D, "TdcOffset", .u8, .rw, 0x1F, 0x0C, 32, [(0, 127)], "clock periods"⟩,
  ⟨0x5800, 0x5805, 0x0E, 0x0E, "BusOffRecovery", .enum8, .rw, 0x1F, 0x0C, 0, [(0, 1)], ""⟩,
  ⟨0x5800, 0x5805, 0x0F, 0x0F, "BusOffDelay", .u16, .rw, 0x1F, 0x0C, 100, [(0, 60000)], "ms"⟩,
  ⟨0x5800, 0x5805, 0x10, 0x10, "IsobusEnable", .bool, .rw, 0x1F, 0x0C, 0, [(0, 1)], ""⟩,
  ⟨0x5800, 0x5805, 0x11, 0x11, "PreferredAddress", .u8, .rw, 0x1F, 0x0C, 247, [(0, 253)], ""⟩,
  ⟨0x5800, 0x5805, 0x12, 0x12, "DetectDwell", .u16, .rw, 0x1F, 0x0C, 200, [(10, 5000)], "ms"⟩,
  ⟨0x5800, 0x5805, 0x13, 0x13, "ServiceRole", .bool, .rw, 0x1F, 0x0C, 0, [(0, 1)], ""⟩,
  ⟨0x5808, 0x580D, 0x01, 0x01, "PortState", .enum8, .ro, 0x1F, 0x00, 0, [(0, 6)], ""⟩]

def objects14_1 : List Desc := [
  ⟨0x5808, 0x580D, 0x02, 0x02, "PortFlags", .bits16, .ro, 0x1F, 0x00, 0, [(0, 65535)], ""⟩,
  ⟨0x5808, 0x580D, 0x03, 0x03, "TxErrorCount", .u8, .ro, 0x1F, 0x00, 0, [(0, 255)], ""⟩,
  ⟨0x5808, 0x580D, 0x04, 0x04, "RxErrorCount", .u8, .ro, 0x1F, 0x00, 0, [(0, 255)], ""⟩,
  ⟨0x5808, 0x580D, 0x05, 0x05, "NominalRate", .u32, .ro, 0x1F, 0x00, 0, [(0, 1000000)], "bit/s"⟩,
  ⟨0x5808, 0x580D, 0x06, 0x06, "DataRate", .u32, .ro, 0x1F, 0x00, 0, [(0, 8000000)], "bit/s"⟩,
  ⟨0x5808, 0x580D, 0x07, 0x07, "DetectedRate", .u32, .ro, 0x1F, 0x00, 0, [(0, 1000000)], "bit/s"⟩,
  ⟨0x5808, 0x580D, 0x08, 0x08, "TdcValue", .u8, .ro, 0x1F, 0x00, 0, [(0, 127)], "clock periods"⟩,
  ⟨0x5808, 0x580D, 0x09, 0x09, "FramesSent", .u32, .ro, 0x1F, 0x00, 0, [(0, 4294967295)], "frames"⟩,
  ⟨0x5808, 0x580D, 0x0A, 0x0A, "FramesReceived", .u32, .ro, 0x1F, 0x00, 0, [(0, 4294967295)], "frames"⟩,
  ⟨0x5808, 0x580D, 0x0B, 0x0B, "ErrorFrames", .u32, .ro, 0x1F, 0x00, 0, [(0, 4294967295)], "frames"⟩,
  ⟨0x5808, 0x580D, 0x0C, 0x0C, "BusOffEvents", .u32, .ro, 0x1F, 0x00, 0, [(0, 4294967295)], "events"⟩,
  ⟨0x5808, 0x580D, 0x0D, 0x0D, "FdIgnored", .u32, .ro, 0x1F, 0x00, 0, [(0, 4294967295)], "frames"⟩,
  ⟨0x5808, 0x580D, 0x0E, 0x0E, "Address", .u8, .ro, 0x1F, 0x00, 254, [(0, 254)], ""⟩,
  ⟨0x5808, 0x580D, 0x0F, 0x0F, "AddressState", .enum8, .ro, 0x1F, 0x00, 0, [(0, 3)], ""⟩,
  ⟨0x5808, 0x580D, 0x10, 0x10, "Coalesced", .u32, .ro, 0x1F, 0x00, 0, [(0, 4294967295)], "commits"⟩,
  ⟨0x5810, 0x5815, 0x01, 0x01, "WakeMode", .enum8, .rw, 0x1F, 0x0C, 0, [(0, 2)], ""⟩,
  ⟨0x5810, 0x5815, 0x02, 0x02, "WakeId", .u32, .rw, 0x1F, 0x0C, 0, [(0, 4294967295)], ""⟩,
  ⟨0x5810, 0x5815, 0x03, 0x03, "WakeIdMask", .u32, .rw, 0x1F, 0x0C, 536870911, [(0, 536870911)], ""⟩,
  ⟨0x5810, 0x5815, 0x04, 0x04, "WakeDlc", .u8, .rw, 0x1F, 0x0C, 8, [(0, 8)], "bytes"⟩,
  ⟨0x5810, 0x5815, 0x05, 0x05, "WakeDataMask", .octets, .rw, 0x1F, 0x0C, 0, [(8, 8)], ""⟩]

def objects14_2 : List Desc := [
  ⟨0x5820, 0x5825, 0x01, 0x40, "CanTxConfig", .octets, .rw, 0x1F, 0x0C, 0, [(16, 16)], ""⟩,
  ⟨0x5830, 0x5835, 0x01, 0x40, "CanTxData", .octets, .rwv, 0x1F, 0x0E, 0, [(0, 64)], ""⟩,
  ⟨0x5840, 0x5845, 0x00, 0x00, "ScheduleMatrix", .domain, .rw, 0x1F, 0x0C, 0, [(0, 16404)], ""⟩,
  ⟨0x5848, 0x584D, 0x01, 0x01, "ScheduleEnable", .bool, .rw, 0x1F, 0x0C, 0, [(0, 1)], ""⟩,
  ⟨0x5848, 0x584D, 0x02, 0x02, "WindowsMissed", .u32, .ro, 0x1F, 0x00, 0, [(0, 4294967295)], "windows"⟩,
  ⟨0x5848, 0x584D, 0x03, 0x03, "SlotsExpired", .u32, .ro, 0x1F, 0x00, 0, [(0, 4294967295)], "commits"⟩,
  ⟨0x5848, 0x584D, 0x04, 0x04, "ReferencesSent", .u32, .ro, 0x1F, 0x00, 0, [(0, 4294967295)], "frames"⟩,
  ⟨0x5848, 0x584D, 0x05, 0x05, "ScheduleFault", .u16, .ro, 0x1F, 0x00, 65535, [(0, 1023), (65535, 65535)], ""⟩,
  ⟨0x5848, 0x584D, 0x06, 0x06, "LastReferenceTime", .time64, .ro, 0x1F, 0x00, 0, [(0, 18446744073709551615)], "ns"⟩,
  ⟨0x5850, 0x5855, 0x01, 0x20, "RxFilter", .octets, .rw, 0x1F, 0x0C, 0, [(12, 12)], ""⟩,
  ⟨0x5858, 0x585D, 0x01, 0x20, "RxMailbox", .octets, .ro, 0x1F, 0x00, 0, [(80, 80)], ""⟩,
  ⟨0x5860, 0x5860, 0x01, 0x01, "NameIdentity", .u32, .const, 0x1F, 0x00, 0, [(0, 2097151)], ""⟩,
  ⟨0x5860, 0x5860, 0x02, 0x02, "NameManufacturer", .u16, .const, 0x1F, 0x00, 0, [(0, 2047)], ""⟩,
  ⟨0x5860, 0x5860, 0x03, 0x03, "NameFunction", .u8, .rw, 0x1F, 0x0C, 0, [(0, 255)], ""⟩,
  ⟨0x5860, 0x5860, 0x04, 0x04, "NameFunctionInstance", .u8, .rw, 0x1F, 0x0C, 0, [(0, 31)], ""⟩,
  ⟨0x5860, 0x5860, 0x05, 0x05, "NameEcuInstance", .u8, .rw, 0x1F, 0x0C, 0, [(0, 7)], ""⟩,
  ⟨0x5860, 0x5860, 0x06, 0x06, "NameDeviceClass", .u8, .rw, 0x1F, 0x0C, 0, [(0, 127)], ""⟩,
  ⟨0x5860, 0x5860, 0x07, 0x07, "NameDeviceClassInstance", .u8, .rw, 0x1F, 0x0C, 0, [(0, 15)], ""⟩,
  ⟨0x5860, 0x5860, 0x08, 0x08, "NameIndustryGroup", .u8, .rw, 0x1F, 0x0C, 2, [(0, 7)], ""⟩,
  ⟨0x5860, 0x5860, 0x09, 0x09, "NameSelfConfigurable", .bool, .rw, 0x1F, 0x0C, 1, [(0, 1)], ""⟩]

def objects14_3 : List Desc := [
  ⟨0x5870, 0x5870, 0x00, 0x00, "CanLoopTest", .u8, .cmd, 0x00, 0x08, 0, [(0, 5)], ""⟩]

/-- The object table of 14_can_ports.md. -/
def objects14 : List Desc := objects14_0 ++ objects14_1 ++ objects14_2 ++ objects14_3

def objects15_0 : List Desc := [
  ⟨0x5C00, 0x5C05, 0x01, 0x01, "EthPortEnable", .bool, .rw, 0x1F, 0x0C, 1, [(0, 1)], ""⟩,
  ⟨0x5C00, 0x5C05, 0x02, 0x02, "PhyRole", .enum8, .rw, 0x1F, 0x0C, 1, [(0, 1)], ""⟩,
  ⟨0x5C00, 0x5C05, 0x03, 0x03, "Pvid", .u16, .rw, 0x1F, 0x0C, 100, [(1, 4094)], ""⟩,
  ⟨0x5C00, 0x5C05, 0x04, 0x04, "DefaultPriority", .u8, .rw, 0x1F, 0x0C, 0, [(0, 7)], ""⟩,
  ⟨0x5C00, 0x5C05, 0x05, 0x05, "IngressLatency", .i32, .rw, 0x1F, 0x0C, 0, [((-1000), 1000)], "ns"⟩,
  ⟨0x5C00, 0x5C05, 0x06, 0x06, "EgressLatency", .i32, .rw, 0x1F, 0x0C, 0, [((-1000), 1000)], "ns"⟩,
  ⟨0x5C00, 0x5C05, 0x07, 0x07, "OneStepTx", .bool, .rw, 0x1F, 0x0C, 0, [(0, 1)], ""⟩,
  ⟨0x5C08, 0x5C0D, 0x01, 0x01, "LinkState", .enum8, .ro, 0x1F, 0x00, 0, [(0, 1)], ""⟩,
  ⟨0x5C08, 0x5C0D, 0x02, 0x02, "SignalQuality", .u8, .ro, 0x1F, 0x00, 0, [(0, 100)], "%"⟩,
  ⟨0x5C08, 0x5C0D, 0x03, 0x03, "FramesIn", .u32, .ro, 0x1F, 0x00, 0, [(0, 4294967295)], "frames"⟩,
  ⟨0x5C08, 0x5C0D, 0x04, 0x04, "FramesOut", .u32, .ro, 0x1F, 0x00, 0, [(0, 4294967295)], "frames"⟩,
  ⟨0x5C08, 0x5C0D, 0x05, 0x05, "FramesDropped", .u32, .ro, 0x1F, 0x00, 0, [(0, 4294967295)], "frames"⟩,
  ⟨0x5C08, 0x5C0D, 0x06, 0x06, "LinkDelay", .u32, .ro, 0x1F, 0x00, 0, [(0, 4294967295)], "ns"⟩,
  ⟨0x5C08, 0x5C0D, 0x07, 0x07, "PtpRoles", .bits8, .ro, 0x1F, 0x00, 0, [(0, 255)], ""⟩,
  ⟨0x5C08, 0x5C0D, 0x08, 0x08, "AsCapable", .bits8, .ro, 0x1F, 0x00, 0, [(0, 3)], ""⟩,
  ⟨0x5C10, 0x5C10, 0x01, 0x01, "MacAddress", .octets, .const, 0x1F, 0x00, 0, [(6, 6)], ""⟩,
  ⟨0x5C20, 0x5C20, 0x01, 0x20, "VlanTable", .octets, .rw, 0x1F, 0x0C, 0, [(8, 8)], ""⟩,
  ⟨0x5C30, 0x5C33, 0x01, 0x01, "IfEnable", .bool, .rw, 0x1F, 0x0C, 0, [(0, 1)], ""⟩,
  ⟨0x5C30, 0x5C33, 0x02, 0x02, "IfVlan", .u16, .rw, 0x1F, 0x0C, 100, [(1, 4094)], ""⟩,
  ⟨0x5C30, 0x5C33, 0x03, 0x03, "IfMode", .enum8, .rw, 0x1F, 0x0C, 0, [(0, 1)], ""⟩]

def objects15_1 : List Desc := [
  ⟨0x5C30, 0x5C33, 0x04, 0x04, "IpAddress", .u32, .rw, 0x1F, 0x0C, 3232261194, [(0, 4294967295)], ""⟩,
  ⟨0x5C30, 0x5C33, 0x05, 0x05, "IpMask", .u32, .rw, 0x1F, 0x0C, 4294967040, [(0, 4294967295)], ""⟩,
  ⟨0x5C30, 0x5C33, 0x06, 0x06, "IpGateway", .u32, .rw, 0x1F, 0x0C, 0, [(0, 4294967295)], ""⟩,
  ⟨0x5C30, 0x5C33, 0x07, 0x07, "AddressInUse", .u32, .ro, 0x1F, 0x00, 0, [(0, 4294967295)], ""⟩,
  ⟨0x5C40, 0x5C41, 0x01, 0x01, "DomainEnable", .bool, .rw, 0x1F, 0x0C, 0, [(0, 1)], ""⟩,
  ⟨0x5C40, 0x5C41, 0x02, 0x02, "DomainNumber", .u8, .rw, 0x1F, 0x0C, 0, [(0, 127)], ""⟩,
  ⟨0x5C40, 0x5C41, 0x03, 0x03, "PtpRoleMode", .enum8, .rw, 0x1F, 0x0C, 0, [(0, 1)], ""⟩,
  ⟨0x5C40, 0x5C41, 0x04, 0x04, "ExternalRoles", .bits16, .rw, 0x1F, 0x0C, 0, [(0, 4095)], ""⟩,
  ⟨0x5C40, 0x5C41, 0x05, 0x05, "GmCapable", .bool, .rw, 0x1F, 0x0C, 0, [(0, 1)], ""⟩,
  ⟨0x5C40, 0x5C41, 0x06, 0x06, "Priority1", .u8, .rw, 0x1F, 0x0C, 248, [(0, 255)], ""⟩,
  ⟨0x5C40, 0x5C41, 0x07, 0x07, "Priority2", .u8, .rw, 0x1F, 0x0C, 248, [(0, 255)], ""⟩,
  ⟨0x5C40, 0x5C41, 0x08, 0x08, "LogSyncInterval", .i8, .rw, 0x1F, 0x0C, (-3), [((-5), 0)], "log2 s"⟩,
  ⟨0x5C48, 0x5C49, 0x01, 0x01, "DomainState", .enum8, .ro, 0x1F, 0x00, 0, [(0, 3)], ""⟩,
  ⟨0x5C48, 0x5C49, 0x02, 0x02, "GmIdentity", .u64, .ro, 0x1F, 0x00, 0, [(0, 18446744073709551615)], ""⟩,
  ⟨0x5C48, 0x5C49, 0x03, 0x03, "DomainOffset", .i64, .ro, 0x1F, 0x00, 0, [((-9223372036854775808), 9223372036854775807)], "ns"⟩,
  ⟨0x5C48, 0x5C49, 0x04, 0x04, "SyncTimeouts", .u32, .ro, 0x1F, 0x00, 0, [(0, 4294967295)], "events"⟩,
  ⟨0x5C50, 0x5C50, 0x01, 0x01, "PrimaryDomain", .u8, .rw, 0x1F, 0x0C, 0, [(0, 1)], ""⟩,
  ⟨0x5C50, 0x5C50, 0x02, 0x02, "PpsEnable", .bool, .rw, 0x1F, 0x0C, 0, [(0, 1)], ""⟩,
  ⟨0x5C50, 0x5C50, 0x03, 0x03, "StepThreshold", .u32, .rw, 0x1F, 0x0C, 1000000, [(1000, 1000000000)], "ns"⟩,
  ⟨0x5C50, 0x5C50, 0x04, 0x04, "StepPolicy", .enum8, .rw, 0x1F, 0x0C, 0, [(0, 1)], ""⟩]

def objects15_2 : List Desc := [
  ⟨0x5C50, 0x5C50, 0x05, 0x05, "Kp", .q16_16, .rw, 0x1F, 0x0C, 45875, [(0, 655360)], "1/s"⟩,
  ⟨0x5C50, 0x5C50, 0x06, 0x06, "Ki", .q16_16, .rw, 0x1F, 0x0C, 19661, [(0, 655360)], "1/s²"⟩,
  ⟨0x5C50, 0x5C50, 0x07, 0x07, "MaxRate", .u32, .rw, 0x1F, 0x0C, 250000, [(1000, 500000)], "ppb"⟩,
  ⟨0x5C50, 0x5C50, 0x08, 0x08, "RevertTime", .u16, .rw, 0x1F, 0x0C, 10, [(0, 3600)], "s"⟩,
  ⟨0x5C50, 0x5C50, 0x09, 0x09, "HoldoverLimit", .u32, .rw, 0x1F, 0x0C, 300, [(0, 86400)], "s"⟩,
  ⟨0x5C50, 0x5C50, 0x0A, 0x0A, "AcquireTimeout", .u16, .rw, 0x1F, 0x0C, 10000, [(0, 60000)], "ms"⟩,
  ⟨0x5C50, 0x5C50, 0x0B, 0x0B, "UtcOffset", .i16, .rw, 0x1F, 0x0C, 37, [(0, 255)], "s"⟩,
  ⟨0x5C58, 0x5C58, 0x01, 0x01, "TimeState", .enum8, .ro, 0x1F, 0x00, 0, [(0, 3)], ""⟩,
  ⟨0x5C58, 0x5C58, 0x02, 0x02, "TimeSource", .enum8, .ro, 0x1F, 0x00, 0, [(0, 3)], ""⟩,
  ⟨0x5C58, 0x5C58, 0x03, 0x03, "RateCorrection", .i32, .ro, 0x1F, 0x00, 0, [((-2147483648), 2147483647)], "ppb"⟩,
  ⟨0x5C58, 0x5C58, 0x04, 0x04, "HeldOffset", .i64, .ro, 0x1F, 0x00, 0, [((-9223372036854775808), 9223372036854775807)], "ns"⟩,
  ⟨0x5C58, 0x5C58, 0x05, 0x05, "Steps", .u32, .ro, 0x1F, 0x00, 0, [(0, 4294967295)], "steps"⟩,
  ⟨0x5C58, 0x5C58, 0x06, 0x06, "LastStepSize", .i64, .ro, 0x1F, 0x00, 0, [((-9223372036854775808), 9223372036854775807)], "ns"⟩,
  ⟨0x5C58, 0x5C58, 0x07, 0x07, "SourceSwitches", .u32, .ro, 0x1F, 0x00, 0, [(0, 4294967295)], "switches"⟩,
  ⟨0x5C58, 0x5C58, 0x08, 0x08, "ModuleTime", .time64, .ro, 0x1F, 0x00, 0, [(0, 18446744073709551615)], "ns"⟩,
  ⟨0x5C58, 0x5C58, 0x09, 0x09, "TxStampLost", .u32, .ro, 0x1F, 0x00, 0, [(0, 4294967295)], "messages"⟩,
  ⟨0x5C60, 0x5C60, 0x01, 0x01, "GnssSource", .enum8, .rw, 0x1F, 0x0C, 0, [(0, 2)], ""⟩,
  ⟨0x5C60, 0x5C60, 0x02, 0x02, "GnssPort", .u8, .rw, 0x1F, 0x0C, 0, [(0, 5)], ""⟩,
  ⟨0x5C60, 0x5C60, 0x03, 0x03, "GnssUdpPort", .u16, .rw, 0x1F, 0x0C, 10110, [(1024, 65535)], ""⟩,
  ⟨0x5C60, 0x5C60, 0x04, 0x04, "GnssVlan", .u16, .rw, 0x1F, 0x0C, 100, [(1, 4094)], ""⟩]

def objects15_3 : List Desc := [
  ⟨0x5C60, 0x5C60, 0x05, 0x05, "GnssLatency", .u32, .rw, 0x1F, 0x0C, 0, [(0, 500000000)], "ns"⟩,
  ⟨0x5C60, 0x5C60, 0x06, 0x06, "FixesReceived", .u32, .ro, 0x1F, 0x00, 0, [(0, 4294967295)], "fixes"⟩,
  ⟨0x5C60, 0x5C60, 0x07, 0x07, "FixesRejected", .u32, .ro, 0x1F, 0x00, 0, [(0, 4294967295)], "sentences"⟩,
  ⟨0x5C60, 0x5C60, 0x08, 0x08, "PpsRejected", .u32, .ro, 0x1F, 0x00, 0, [(0, 4294967295)], "edges"⟩,
  ⟨0x5C60, 0x5C60, 0x09, 0x09, "LastPpsTime", .time64, .ro, 0x1F, 0x00, 0, [(0, 18446744073709551615)], "ns"⟩]

/-- The object table of 15_ethernet_and_time.md. -/
def objects15 : List Desc := objects15_0 ++ objects15_1 ++ objects15_2 ++ objects15_3

def objects16_0 : List Desc := [
  ⟨0x2200, 0x2200, 0x01, 0x01, "BookState", .enum8, .ro, 0x1F, 0x00, 0, [(0, 3)], ""⟩,
  ⟨0x2200, 0x2200, 0x02, 0x02, "NextRecordSeq", .u64, .ro, 0x1F, 0x00, 1, [(0, 18446744073709551615)], ""⟩,
  ⟨0x2200, 0x2200, 0x03, 0x03, "StagedRecords", .u16, .ro, 0x1F, 0x00, 0, [(0, 1024)], "records"⟩,
  ⟨0x2200, 0x2200, 0x04, 0x04, "OldestRunningSeq", .u64, .ro, 0x1F, 0x00, 1, [(0, 18446744073709551615)], ""⟩,
  ⟨0x2200, 0x2200, 0x05, 0x05, "FirstNightRecords", .u32, .ro, 0x1F, 0x00, 0, [(0, 516096)], "records"⟩,
  ⟨0x2200, 0x2200, 0x06, 0x06, "ClearingLogRecords", .u16, .ro, 0x1F, 0x00, 0, [(0, 8192)], "records"⟩,
  ⟨0x2200, 0x2200, 0x07, 0x07, "OperatingTime", .u32, .ro, 0x1F, 0x00, 0, [(0, 4294967295)], "s"⟩,
  ⟨0x2200, 0x2200, 0x08, 0x08, "PowerCycles", .u32, .ro, 0x1F, 0x00, 0, [(0, 4294967295)], ""⟩,
  ⟨0x2200, 0x2200, 0x09, 0x09, "RecordsSuppressed", .u32, .ro, 0x1F, 0x00, 0, [(0, 4294967295)], "records"⟩,
  ⟨0x2200, 0x2200, 0x0A, 0x0A, "RecordsSkipped", .u32, .ro, 0x1F, 0x00, 0, [(0, 4294967295)], "slots"⟩,
  ⟨0x2200, 0x2200, 0x0B, 0x0B, "RunningCapacity", .u32, .ro, 0x1F, 0x00, 7602176, [(0, 7602176)], "records"⟩,
  ⟨0x2201, 0x2201, 0x01, 0x15, "SuppressedCount", .u32, .ro, 0x1F, 0x00, 0, [(0, 4294967295)], "records"⟩,
  ⟨0x2210, 0x2210, 0x01, 0x01, "WindowStart", .u64, .rwv, 0x1E, 0x1E, 1, [(0, 18446744073709551615)], ""⟩,
  ⟨0x2210, 0x2210, 0x02, 0x02, "WindowCount", .u16, .rwv, 0x1E, 0x1E, 256, [(1, 8192)], "records"⟩,
  ⟨0x2210, 0x2210, 0x03, 0x03, "WindowArea", .enum8, .rwv, 0x1E, 0x1E, 0, [(0, 2)], ""⟩,
  ⟨0x2211, 0x2211, 0x00, 0x00, "RecordData", .domain, .ro, 0x1E, 0x00, 0, [(0, 1048576)], ""⟩,
  ⟨0x2220, 0x2220, 0x00, 0x00, "RecordClearArm", .u8, .cmd, 0x00, 0x18, 0, [(1, 1)], ""⟩,
  ⟨0x2221, 0x2221, 0x00, 0x00, "ClearNonce", .u32, .ro, 0x18, 0x00, 0, [(0, 4294967295)], ""⟩,
  ⟨0x2222, 0x2222, 0x00, 0x00, "RecordClear", .octets, .cmd, 0x00, 0x18, 0, [(12, 12)], ""⟩]

/-- The object table of 16_prompt_book.md. -/
def objects16 : List Desc := objects16_0

def objects17_0 : List Desc := [
  ⟨0x6000, 0x6000, 0x01, 0x01, "YieldEnable", .bool, .rw, 0x1F, 0x0C, 0, [(0, 1)], ""⟩,
  ⟨0x6000, 0x6000, 0x02, 0x02, "YieldImplement", .u8, .rw, 0x1F, 0x0C, 0, [(0, 3)], ""⟩,
  ⟨0x6000, 0x6000, 0x03, 0x03, "FlowBridge", .u8, .rw, 0x1F, 0x0C, 0, [(0, 3)], ""⟩,
  ⟨0x6000, 0x6000, 0x04, 0x04, "FlowScale", .q16_16, .rw, 0x1F, 0x0C, 327680, [(0, 65536000)], "mg/s per nV/V"⟩,
  ⟨0x6000, 0x6000, 0x05, 0x05, "TransportDelay", .u16, .rw, 0x1F, 0x0C, 11000, [(1000, 40000)], "ms"⟩,
  ⟨0x6000, 0x6000, 0x06, 0x06, "PurgeTime", .u16, .rw, 0x1F, 0x0C, 3000, [(0, 9000)], "ms"⟩,
  ⟨0x6000, 0x6000, 0x07, 0x07, "MoistureInput", .u8, .rw, 0x1F, 0x0C, 255, [(0, 31), (255, 255)], ""⟩,
  ⟨0x6000, 0x6000, 0x08, 0x08, "StandardMoisture", .u16, .rw, 0x1F, 0x0C, 1400, [(0, 4000)], "0.01 %"⟩,
  ⟨0x6000, 0x6000, 0x09, 0x09, "FallbackWidth", .u32, .rw, 0x1F, 0x0C, 0, [(0, 60000)], "mm"⟩,
  ⟨0x6001, 0x6001, 0x01, 0x01, "YieldState", .enum8, .ro, 0x1F, 0x00, 0, [(0, 2)], ""⟩,
  ⟨0x6001, 0x6001, 0x02, 0x02, "MassFlow", .u32, .ro, 0x1F, 0x00, 0, [(0, 4294967295)], "g/s"⟩,
  ⟨0x6001, 0x6001, 0x03, 0x03, "Moisture", .u16, .ro, 0x1F, 0x00, 0, [(0, 65535)], "0.01 %"⟩,
  ⟨0x6001, 0x6001, 0x04, 0x04, "LoadWetMass", .u32, .ro, 0x1F, 0x00, 0, [(0, 4294967295)], "kg"⟩,
  ⟨0x6001, 0x6001, 0x05, 0x05, "LoadDryMass", .u32, .ro, 0x1F, 0x00, 0, [(0, 4294967295)], "kg"⟩,
  ⟨0x6001, 0x6001, 0x06, 0x06, "UnassignedMass", .u32, .ro, 0x1F, 0x00, 0, [(0, 4294967295)], "kg"⟩,
  ⟨0x6001, 0x6001, 0x07, 0x07, "HarvestedArea", .u32, .ro, 0x1F, 0x00, 0, [(0, 4294967295)], "m²"⟩,
  ⟨0x6001, 0x6001, 0x08, 0x08, "YieldFlags", .bits8, .ro, 0x1F, 0x00, 0, [(0, 255)], ""⟩,
  ⟨0x6002, 0x6002, 0x00, 0x00, "YieldCalibrate", .u32, .cmd, 0x00, 0x0E, 0, [(1, 100000)], "kg"⟩,
  ⟨0x6003, 0x6003, 0x00, 0x00, "LoadReset", .u8, .cmd, 0x00, 0x0E, 0, [(1, 1)], ""⟩,
  ⟨0x6008, 0x6008, 0x01, 0x02, "LossMask", .bits16, .rw, 0x1F, 0x0C, 0, [(0, 65535)], ""⟩]

def objects17_1 : List Desc := [
  ⟨0x6008, 0x6008, 0x03, 0x03, "KernelMass", .u16, .rw, 0x1F, 0x0C, 45, [(1, 2000)], "mg"⟩,
  ⟨0x6008, 0x6008, 0x04, 0x04, "LossScale", .q16_16, .rw, 0x1F, 0x0C, 65536, [(0, 6553600)], ""⟩,
  ⟨0x6009, 0x6009, 0x01, 0x02, "LossRate", .u32, .ro, 0x1F, 0x00, 0, [(0, 4294967295)], "mg/s"⟩,
  ⟨0x6009, 0x6009, 0x03, 0x04, "LossPerArea", .u32, .ro, 0x1F, 0x00, 0, [(0, 4294967295)], "0.01 kg/ha"⟩,
  ⟨0x6010, 0x6010, 0x01, 0x01, "OpenField", .u16, .rw, 0x1F, 0x0E, 65535, [(0, 255), (65535, 65535)], ""⟩,
  ⟨0x6010, 0x6010, 0x02, 0x02, "FieldsUsed", .u16, .ro, 0x1F, 0x00, 0, [(0, 256)], "fields"⟩,
  ⟨0x6010, 0x6010, 0x03, 0x03, "ArchiveUsed", .u32, .ro, 0x1F, 0x00, 0, [(0, 4294967295)], "KiB"⟩,
  ⟨0x6010, 0x6010, 0x04, 0x04, "ArchiveFlags", .bits8, .ro, 0x1F, 0x00, 0, [(0, 255)], ""⟩,
  ⟨0x6012, 0x6012, 0x00, 0x00, "ArchiveErase", .u16, .cmd, 0x00, 0x0C, 0, [(0, 255), (65535, 65535)], ""⟩,
  ⟨0x6021, 0x6021, 0x00, 0x00, "ExportBuild", .u16, .cmd, 0x00, 0x0E, 0, [(0, 767)], ""⟩,
  ⟨0x6022, 0x6022, 0x01, 0x01, "ExportFiles", .u8, .ro, 0x1F, 0x00, 0, [(0, 16)], "files"⟩,
  ⟨0x6023, 0x6023, 0x01, 0x10, "ExportFile", .domain, .ro, 0x1E, 0x00, 0, [(0, 67108864)], ""⟩,
  ⟨0x6100, 0x61FF, 0x00, 0x00, "FieldRecord", .octets, .rw, 0x1F, 0x0E, 0, [(32, 32)], ""⟩,
  ⟨0x6200, 0x6200, 0x01, 0x01, "FleetEnable", .bool, .rw, 0x1F, 0x0C, 0, [(0, 1)], ""⟩,
  ⟨0x6200, 0x6200, 0x02, 0x02, "BrokerAddress", .u32, .rw, 0x1F, 0x0C, 0, [(0, 4294967295)], ""⟩,
  ⟨0x6200, 0x6200, 0x03, 0x03, "BrokerPort", .u16, .rw, 0x1F, 0x0C, 8883, [(1, 65535)], ""⟩,
  ⟨0x6200, 0x6200, 0x04, 0x04, "BrokerName", .str, .rw, 0x1F, 0x0C, 0, [(1, 64)], ""⟩,
  ⟨0x6200, 0x6200, 0x05, 0x05, "FleetVlan", .u16, .rw, 0x1F, 0x0C, 100, [(1, 4094)], ""⟩,
  ⟨0x6200, 0x6200, 0x06, 0x06, "MachineId", .str, .rw, 0x1F, 0x0C, 0, [(1, 16)], ""⟩,
  ⟨0x6200, 0x6200, 0x07, 0x07, "KeepAlive", .u16, .rw, 0x1F, 0x0C, 30, [(10, 600)], "s"⟩]

def objects17_2 : List Desc := [
  ⟨0x6200, 0x6200, 0x08, 0x08, "StatusInterval", .u16, .rw, 0x1F, 0x0C, 5000, [(1000, 60000)], "ms"⟩,
  ⟨0x6200, 0x6200, 0x09, 0x09, "PositionInterval", .u16, .rw, 0x1F, 0x0C, 1000, [(100, 60000)], "ms"⟩,
  ⟨0x6200, 0x6200, 0x0A, 0x0A, "AlertSources", .bits32, .rw, 0x1F, 0x0C, 0, [(0, 4194302)], ""⟩,
  ⟨0x6201, 0x6201, 0x01, 0x01, "FleetState", .enum8, .ro, 0x1F, 0x00, 0, [(0, 3)], ""⟩,
  ⟨0x6201, 0x6201, 0x02, 0x02, "MessagesSent", .u32, .ro, 0x1F, 0x00, 0, [(0, 4294967295)], "messages"⟩,
  ⟨0x6201, 0x6201, 0x03, 0x03, "MessagesDropped", .u32, .ro, 0x1F, 0x00, 0, [(0, 4294967295)], "messages"⟩,
  ⟨0x6201, 0x6201, 0x04, 0x04, "QueueUsed", .u16, .ro, 0x1F, 0x00, 0, [(0, 4096)], "KiB"⟩,
  ⟨0x6201, 0x6201, 0x05, 0x05, "Reconnects", .u32, .ro, 0x1F, 0x00, 0, [(0, 4294967295)], "attempts"⟩,
  ⟨0x6210, 0x6210, 0x01, 0x01, "RendezvousEnable", .bool, .rw, 0x1F, 0x0E, 0, [(0, 1)], ""⟩,
  ⟨0x6210, 0x6210, 0x02, 0x02, "TankCapacity", .u32, .rw, 0x1F, 0x0C, 10500, [(500, 50000)], "kg"⟩,
  ⟨0x6210, 0x6210, 0x03, 0x03, "RendezvousFill", .u8, .rw, 0x1F, 0x0E, 70, [(10, 100)], "%"⟩,
  ⟨0x6210, 0x6210, 0x04, 0x04, "RendezvousMargin", .u32, .rw, 0x1F, 0x0E, 100000, [(0, 2000000)], "mm"⟩,
  ⟨0x6210, 0x6210, 0x05, 0x05, "UnloadEndFill", .u8, .rw, 0x1F, 0x0E, 10, [(0, 50)], "%"⟩,
  ⟨0x6211, 0x6211, 0x01, 0x01, "RendezvousState", .enum8, .ro, 0x1F, 0x00, 0, [(0, 3)], ""⟩,
  ⟨0x6211, 0x6211, 0x02, 0x02, "DistanceToFull", .u32, .ro, 0x1F, 0x00, 4294967295, [(0, 4294967295)], "mm"⟩,
  ⟨0x6211, 0x6211, 0x03, 0x03, "CartId", .octets, .ro, 0x1F, 0x00, 0, [(8, 8)], ""⟩,
  ⟨0x6211, 0x6211, 0x04, 0x04, "AcceptsIgnored", .u32, .ro, 0x1F, 0x00, 0, [(0, 4294967295)], "messages"⟩,
  ⟨0x6212, 0x6212, 0x00, 0x00, "RendezvousCancel", .u8, .cmd, 0x00, 0x0E, 0, [(1, 1)], ""⟩]

/-- The object table of 17_harvest_and_fleet_services.md. -/
def objects17 : List Desc := objects17_0 ++ objects17_1 ++ objects17_2

def objects18_0 : List Desc := [
  ⟨0x6400, 0x6400, 0x01, 0x01, "PanelEnable", .bool, .rw, 0x1F, 0x0C, 0, [(0, 1)], ""⟩,
  ⟨0x6400, 0x6400, 0x02, 0x02, "LvdsLinks", .u8, .rw, 0x1F, 0x0C, 2, [(1, 2)], "links"⟩,
  ⟨0x6400, 0x6400, 0x03, 0x03, "PixelClock", .u32, .rw, 0x1F, 0x0C, 154000000, [(25000000, 170000000)], "Hz"⟩,
  ⟨0x6400, 0x6400, 0x04, 0x04, "HActive", .u16, .rw, 0x1F, 0x0C, 1920, [(640, 1920)], "pixels"⟩,
  ⟨0x6400, 0x6400, 0x05, 0x05, "HFront", .u16, .rw, 0x1F, 0x0C, 48, [(2, 1000)], "pixels"⟩,
  ⟨0x6400, 0x6400, 0x06, 0x06, "HSync", .u16, .rw, 0x1F, 0x0C, 32, [(2, 1000)], "pixels"⟩,
  ⟨0x6400, 0x6400, 0x07, 0x07, "HBack", .u16, .rw, 0x1F, 0x0C, 80, [(2, 1000)], "pixels"⟩,
  ⟨0x6400, 0x6400, 0x08, 0x08, "VActive", .u16, .rw, 0x1F, 0x0C, 1200, [(480, 1200)], "lines"⟩,
  ⟨0x6400, 0x6400, 0x09, 0x09, "VFront", .u16, .rw, 0x1F, 0x0C, 3, [(1, 500)], "lines"⟩,
  ⟨0x6400, 0x6400, 0x0A, 0x0A, "VSync", .u16, .rw, 0x1F, 0x0C, 6, [(1, 500)], "lines"⟩,
  ⟨0x6400, 0x6400, 0x0B, 0x0B, "VBack", .u16, .rw, 0x1F, 0x0C, 26, [(1, 500)], "lines"⟩,
  ⟨0x6400, 0x6400, 0x0C, 0x0C, "SyncPolarity", .bits8, .rw, 0x1F, 0x0C, 0, [(0, 7)], ""⟩,
  ⟨0x6400, 0x6400, 0x0D, 0x0D, "FillColour", .u32, .rw, 0x1F, 0x0C, 0, [(0, 16777215)], ""⟩,
  ⟨0x6400, 0x6400, 0x0E, 0x0E, "KeyColour", .u32, .rw, 0x1F, 0x0C, 16711935, [(0, 16777215)], ""⟩,
  ⟨0x6400, 0x6400, 0x0F, 0x0F, "KeyEnable", .bool, .rw, 0x1F, 0x0C, 0, [(0, 1)], ""⟩,
  ⟨0x6400, 0x6400, 0x10, 0x10, "UiOwner", .enum8, .rw, 0x1F, 0x0C, 1, [(0, 2)], ""⟩,
  ⟨0x6400, 0x6400, 0x11, 0x11, "UiRegion", .u8, .rw, 0x1F, 0x0C, 0, [(0, 31)], ""⟩,
  ⟨0x6400, 0x6400, 0x12, 0x12, "UniformityEnable", .bool, .rw, 0x1F, 0x0C, 0, [(0, 1)], ""⟩,
  ⟨0x6400, 0x6400, 0x13, 0x13, "CrcFailLimit", .u8, .rw, 0x1F, 0x0C, 3, [(1, 60)], "frames"⟩,
  ⟨0x6401, 0x6401, 0x01, 0x01, "PanelState", .enum8, .ro, 0x1F, 0x00, 0, [(0, 4)], ""⟩]

def objects18_1 : List Desc := [
  ⟨0x6401, 0x6401, 0x02, 0x02, "FrameRate", .u32, .ro, 0x1F, 0x00, 0, [(0, 4294967295)], "mHz"⟩,
  ⟨0x6401, 0x6401, 0x03, 0x03, "PixelClockActual", .u32, .ro, 0x1F, 0x00, 0, [(0, 4294967295)], "Hz"⟩,
  ⟨0x6401, 0x6401, 0x04, 0x04, "FrontBuffer", .u8, .ro, 0x1F, 0x00, 0, [(0, 1)], ""⟩,
  ⟨0x6401, 0x6401, 0x05, 0x05, "UiCrc", .u32, .ro, 0x1F, 0x00, 0, [(0, 4294967295)], ""⟩,
  ⟨0x6401, 0x6401, 0x06, 0x06, "ScanCrc", .u32, .ro, 0x1F, 0x00, 0, [(0, 4294967295)], ""⟩,
  ⟨0x6401, 0x6401, 0x07, 0x07, "CrcMismatches", .u32, .ro, 0x1F, 0x00, 0, [(0, 4294967295)], "frames"⟩,
  ⟨0x6401, 0x6401, 0x08, 0x08, "FlipsReplaced", .u32, .ro, 0x1F, 0x00, 0, [(0, 4294967295)], "flips"⟩,
  ⟨0x6401, 0x6401, 0x09, 0x09, "DisplayFlags", .bits16, .ro, 0x1F, 0x00, 0, [(0, 65535)], ""⟩,
  ⟨0x6402, 0x6402, 0x00, 0x00, "UiFlip", .octets, .cmd, 0x00, 0x0E, 0, [(8, 8)], ""⟩,
  ⟨0x6403, 0x6403, 0x00, 0x00, "UiRectWrite", .domain, .cmd, 0x00, 0x0E, 0, [(15, 6912012)], ""⟩,
  ⟨0x6404, 0x6404, 0x00, 0x00, "UniformityMap", .domain, .rw, 0x1F, 0x0C, 0, [(0, 6912000)], ""⟩,
  ⟨0x6410, 0x6413, 0x01, 0x01, "WindowEnable", .bool, .rw, 0x1F, 0x0E, 0, [(0, 1)], ""⟩,
  ⟨0x6410, 0x6413, 0x02, 0x02, "WindowSensor", .u8, .rw, 0x1F, 0x0C, 0, [(0, 7)], ""⟩,
  ⟨0x6410, 0x6413, 0x03, 0x03, "WindowX", .u16, .rw, 0x1F, 0x0C, 0, [(0, 1919)], "pixels"⟩,
  ⟨0x6410, 0x6413, 0x04, 0x04, "WindowY", .u16, .rw, 0x1F, 0x0C, 0, [(0, 1199)], "lines"⟩,
  ⟨0x6410, 0x6413, 0x05, 0x05, "VideoStaleTime", .u16, .rw, 0x1F, 0x0C, 200, [(20, 5000)], "ms"⟩,
  ⟨0x6410, 0x6413, 0x06, 0x06, "VideoSkips", .u32, .ro, 0x1F, 0x00, 0, [(0, 4294967295)], "frames"⟩,
  ⟨0x6420, 0x6420, 0x01, 0x01, "AvddVoltage", .u16, .rw, 0x1F, 0x0C, 12000, [(8000, 18000)], "mV"⟩,
  ⟨0x6420, 0x6420, 0x02, 0x02, "VghVoltage", .u16, .rw, 0x1F, 0x0C, 22000, [(15000, 35000)], "mV"⟩,
  ⟨0x6420, 0x6420, 0x03, 0x03, "VglVoltage", .i16, .rw, 0x1F, 0x0C, (-7000), [((-15000), (-4000))], "mV"⟩]

def objects18_2 : List Desc := [
  ⟨0x6420, 0x6420, 0x04, 0x04, "VcomLevel", .u16, .rw, 0x1F, 0x0C, 512, [(0, 1023)], ""⟩,
  ⟨0x6420, 0x6420, 0x05, 0x05, "GammaLadder", .octets, .rw, 0x1F, 0x0C, 0, [(28, 28)], ""⟩,
  ⟨0x6420, 0x6420, 0x06, 0x06, "BacklightDuty", .u16, .rw, 0x1F, 0x0E, 800, [(0, 1000)], "0.1 %"⟩,
  ⟨0x6420, 0x6420, 0x07, 0x07, "BacklightFrequency", .u16, .rw, 0x1F, 0x0C, 20000, [(200, 25000)], "Hz"⟩,
  ⟨0x6421, 0x6421, 0x01, 0x04, "BiasMeasured", .i16, .ro, 0x1F, 0x00, 0, [((-32768), 32767)], "mV"⟩,
  ⟨0x6430, 0x6430, 0x01, 0x01, "TagMarker", .enum8, .ro, 0x1F, 0x00, 0, [(0, 2)], ""⟩,
  ⟨0x6430, 0x6430, 0x02, 0x02, "TagRecordSeq", .u64, .ro, 0x1F, 0x00, 0, [(0, 18446744073709551615)], ""⟩,
  ⟨0x6430, 0x6430, 0x03, 0x03, "TagLastUpdate", .time64, .ro, 0x1F, 0x00, 0, [(0, 18446744073709551615)], "ns"⟩,
  ⟨0x6430, 0x6430, 0x04, 0x04, "TagRewrites", .u32, .ro, 0x1F, 0x00, 0, [(0, 4294967295)], ""⟩,
  ⟨0x6430, 0x6430, 0x05, 0x05, "TagReservoir", .enum8, .ro, 0x1F, 0x00, 0, [(0, 2)], ""⟩]

/-- The object table of 18_display_and_tag.md. -/
def objects18 : List Desc := objects18_0 ++ objects18_1 ++ objects18_2

def objects19_0 : List Desc := [
  ⟨0x4C00, 0x4C07, 0x01, 0x01, "ZoneEnable", .bool, .rw, 0x1F, 0x0C, 0, [(0, 1)], ""⟩,
  ⟨0x4C00, 0x4C07, 0x02, 0x02, "ZoneSource", .enum8, .rw, 0x1F, 0x0C, 0, [(0, 7)], ""⟩,
  ⟨0x4C00, 0x4C07, 0x03, 0x03, "ZoneSelect", .u8, .rw, 0x1F, 0x0C, 0, [(0, 31)], ""⟩,
  ⟨0x4C00, 0x4C07, 0x04, 0x04, "TempLow", .i16, .rw, 0x1F, 0x0C, 500, [((-400), 1500)], "0.1 °C"⟩,
  ⟨0x4C00, 0x4C07, 0x05, 0x05, "TempHigh", .i16, .rw, 0x1F, 0x0C, 800, [((-400), 1500)], "0.1 °C"⟩,
  ⟨0x4C00, 0x4C07, 0x06, 0x06, "ZoneHysteresis", .u16, .rw, 0x1F, 0x0C, 30, [(0, 200)], "0.1 °C"⟩,
  ⟨0x4C00, 0x4C07, 0x07, 0x07, "FailDemand", .u16, .rw, 0x1F, 0x0C, 1000, [(0, 1000)], "0.1 %"⟩,
  ⟨0x4C00, 0x4C07, 0x08, 0x08, "ShutdownLimit", .i16, .rw, 0x1F, 0x0C, 32767, [((-400), 1500), (32767, 32767)], "0.1 °C"⟩,
  ⟨0x4C10, 0x4C17, 0x01, 0x01, "ZoneTemperature", .i16, .ro, 0x1F, 0x00, 0, [((-32768), 32767)], "0.1 °C"⟩,
  ⟨0x4C10, 0x4C17, 0x02, 0x02, "ZoneDemand", .u16, .ro, 0x1F, 0x00, 0, [(0, 1000)], "0.1 %"⟩,
  ⟨0x4C10, 0x4C17, 0x03, 0x03, "ZoneFlags", .bits8, .ro, 0x1F, 0x00, 0, [(0, 255)], ""⟩,
  ⟨0x4C20, 0x4C27, 0x01, 0x01, "FanEnable", .bool, .rw, 0x1F, 0x0C, 0, [(0, 1)], ""⟩,
  ⟨0x4C20, 0x4C27, 0x02, 0x02, "FanChannel", .u8, .rw, 0x1F, 0x0C, 24, [(24, 47)], ""⟩,
  ⟨0x4C20, 0x4C27, 0x03, 0x03, "FanTachInput", .u8, .rw, 0x1F, 0x0C, 255, [(0, 15), (255, 255)], ""⟩,
  ⟨0x4C20, 0x4C27, 0x04, 0x04, "FanPulsesPerTurn", .u8, .rw, 0x1F, 0x0C, 2, [(1, 8)], ""⟩,
  ⟨0x4C20, 0x4C27, 0x05, 0x05, "FanMaxSpeed", .u16, .rw, 0x1F, 0x0C, 4000, [(500, 20000)], "rpm"⟩,
  ⟨0x4C20, 0x4C27, 0x06, 0x06, "FanZones", .bits8, .rw, 0x1F, 0x0C, 1, [(0, 255)], ""⟩,
  ⟨0x4C20, 0x4C27, 0x07, 0x07, "FanMinDemand", .u16, .rw, 0x1F, 0x0C, 0, [(0, 1000)], "0.1 %"⟩,
  ⟨0x4C20, 0x4C27, 0x08, 0x08, "FanDutyMin", .u16, .rw, 0x1F, 0x0C, 300, [(0, 1000)], "0.1 %"⟩,
  ⟨0x4C20, 0x4C27, 0x09, 0x09, "FanPwmFrequency", .u8, .rw, 0x1F, 0x0C, 25, [(10, 100)], "Hz"⟩]

def objects19_1 : List Desc := [
  ⟨0x4C20, 0x4C27, 0x0A, 0x0A, "FanStretchInterval", .u16, .rw, 0x1F, 0x0C, 1000, [(200, 10000)], "ms"⟩,
  ⟨0x4C20, 0x4C27, 0x0B, 0x0B, "FanStretchLength", .u16, .rw, 0x1F, 0x0C, 60, [(10, 500)], "ms"⟩,
  ⟨0x4C20, 0x4C27, 0x0C, 0x0C, "FanStartTime", .u16, .rw, 0x1F, 0x0C, 3000, [(500, 10000)], "ms"⟩,
  ⟨0x4C20, 0x4C27, 0x0D, 0x0D, "FanLoopGain", .q16_16, .rw, 0x1F, 0x0C, 32768, [(0, 262144)], ""⟩,
  ⟨0x4C20, 0x4C27, 0x0E, 0x0E, "FanRippleMin", .u16, .rw, 0x1F, 0x0C, 50, [(10, 2000)], "mA"⟩,
  ⟨0x4C20, 0x4C27, 0x0F, 0x0F, "FanRestart", .u8, .cmd, 0x00, 0x0E, 0, [(1, 1)], ""⟩,
  ⟨0x4C30, 0x4C37, 0x01, 0x01, "FanState", .enum8, .ro, 0x1F, 0x00, 0, [(0, 7)], ""⟩,
  ⟨0x4C30, 0x4C37, 0x02, 0x02, "FanDemand", .u16, .ro, 0x1F, 0x00, 0, [(0, 1000)], "0.1 %"⟩,
  ⟨0x4C30, 0x4C37, 0x03, 0x03, "FanSpeed", .u16, .ro, 0x1F, 0x00, 0, [(0, 65535)], "rpm"⟩,
  ⟨0x4C30, 0x4C37, 0x04, 0x04, "FanDuty", .u16, .ro, 0x1F, 0x00, 0, [(0, 1000)], "0.1 %"⟩,
  ⟨0x4C30, 0x4C37, 0x05, 0x05, "FanTries", .u8, .ro, 0x1F, 0x00, 0, [(0, 5)], "tries"⟩,
  ⟨0x4C30, 0x4C37, 0x06, 0x06, "FanFlags", .bits8, .ro, 0x1F, 0x00, 0, [(0, 255)], ""⟩,
  ⟨0x4C40, 0x4C40, 0x01, 0x01, "StrapThreshold", .u8, .ro, 0x1F, 0x00, 0, [(95, 95), (105, 105), (115, 115), (125, 125)], "°C"⟩,
  ⟨0x4C40, 0x4C40, 0x02, 0x02, "BoardTemperature", .i16, .ro, 0x1F, 0x00, 0, [((-32768), 32767)], "0.1 °C"⟩,
  ⟨0x4C40, 0x4C40, 0x03, 0x03, "ShdnState", .enum8, .ro, 0x1F, 0x00, 0, [(0, 1)], ""⟩,
  ⟨0x4C40, 0x4C40, 0x04, 0x04, "ShdnCause", .bits8, .ro, 0x1F, 0x00, 0, [(0, 255)], ""⟩,
  ⟨0x4C40, 0x4C40, 0x05, 0x05, "ShdnEvents", .u32, .ro, 0x1F, 0x00, 0, [(0, 4294967295)], "events"⟩]

/-- The object table of 19_thermal_and_fans.md. -/
def objects19 : List Desc := objects19_0 ++ objects19_1

def objects20_0 : List Desc := [
  ⟨0x2000, 0x2000, 0x01, 0x01, "PowerState", .enum8, .ro, 0x1F, 0x00, 0, [(0, 3)], ""⟩,
  ⟨0x2000, 0x2000, 0x02, 0x02, "LogicSupply", .u16, .ro, 0x1F, 0x00, 0, [(0, 65535)], "mV"⟩,
  ⟨0x2000, 0x2000, 0x03, 0x03, "HoldupLevel", .u8, .ro, 0x1F, 0x00, 0, [(0, 100)], "%"⟩,
  ⟨0x2000, 0x2000, 0x04, 0x04, "PowerFlags", .bits16, .ro, 0x1F, 0x00, 0, [(0, 65535)], ""⟩,
  ⟨0x2000, 0x2000, 0x05, 0x05, "WakeSource", .enum8, .ro, 0x1F, 0x00, 0, [(0, 4)], ""⟩,
  ⟨0x2000, 0x2000, 0x06, 0x06, "WakePort", .u8, .ro, 0x1F, 0x00, 255, [(0, 5), (255, 255)], ""⟩,
  ⟨0x2000, 0x2000, 0x07, 0x07, "DictionaryReady", .u32, .ro, 0x1F, 0x00, 0, [(0, 4294967295)], "ms"⟩,
  ⟨0x2000, 0x2000, 0x08, 0x08, "FabricReady", .u32, .ro, 0x1F, 0x00, 0, [(0, 4294967295)], "ms"⟩,
  ⟨0x2000, 0x2000, 0x09, 0x09, "SupplyMin", .u16, .ro, 0x1F, 0x00, 0, [(0, 65535)], "mV"⟩,
  ⟨0x2000, 0x2000, 0x0A, 0x0A, "Brownouts", .u32, .ro, 0x1F, 0x00, 0, [(0, 4294967295)], "events"⟩,
  ⟨0x2000, 0x2000, 0x0B, 0x0B, "OvervoltageEvents", .u32, .ro, 0x1F, 0x00, 0, [(0, 4294967295)], "events"⟩,
  ⟨0x2010, 0x2010, 0x01, 0x01, "WakeOffDelay", .u32, .rw, 0x1F, 0x0C, 2000, [(0, 600000)], "ms"⟩,
  ⟨0x2010, 0x2010, 0x02, 0x02, "ListeningEnable", .bool, .rw, 0x1F, 0x0C, 1, [(0, 1)], ""⟩,
  ⟨0x2011, 0x2011, 0x00, 0x00, "ModuleReset", .u8, .cmd, 0x00, 0x1C, 0, [(1, 1)], ""⟩]

/-- The object table of 20_power_and_startup.md. -/
def objects20 : List Desc := objects20_0

def objects21_0 : List Desc := [
  ⟨0x2100, 0x2100, 0x01, 0x01, "SecurityState", .enum8, .ro, 0x1F, 0x00, 0, [(0, 2)], ""⟩,
  ⟨0x2100, 0x2100, 0x02, 0x02, "EvaluatedConfiguration", .bool, .ro, 0x1F, 0x00, 0, [(0, 1)], ""⟩,
  ⟨0x2100, 0x2100, 0x03, 0x03, "VersionFloor", .u16, .ro, 0x1F, 0x00, 0, [(0, 65535)], ""⟩,
  ⟨0x2100, 0x2100, 0x04, 0x04, "DebugPort", .enum8, .const, 0x1F, 0x00, 1, [(1, 1)], ""⟩,
  ⟨0x2100, 0x2100, 0x05, 0x05, "SecurityFlags", .bits16, .ro, 0x1F, 0x00, 0, [(0, 65535)], ""⟩,
  ⟨0x2100, 0x2100, 0x06, 0x06, "AuthFailures", .u32, .ro, 0x1F, 0x00, 0, [(0, 4294967295)], "responses"⟩,
  ⟨0x2100, 0x2100, 0x07, 0x07, "Lockouts", .u32, .ro, 0x1F, 0x00, 0, [(0, 4294967295)], "events"⟩,
  ⟨0x2101, 0x2101, 0x01, 0x01, "CanRoleCeiling", .enum8, .rw, 0x1F, 0x0C, 3, [(0, 4)], ""⟩,
  ⟨0x2101, 0x2101, 0x02, 0x02, "FleetRoleCeiling", .enum8, .rw, 0x1F, 0x0C, 1, [(0, 4)], ""⟩,
  ⟨0x2101, 0x2101, 0x03, 0x03, "LockoutThreshold", .u8, .rw, 0x1F, 0x0C, 5, [(3, 10)], "failures"⟩,
  ⟨0x2101, 0x2101, 0x04, 0x04, "LockoutTime", .u16, .rw, 0x1F, 0x0C, 60, [(10, 600)], "s"⟩,
  ⟨0x2110, 0x2110, 0x00, 0x00, "AuthChallengeRequest", .enum8, .cmd, 0x00, 0x1F, 0, [(1, 4)], ""⟩,
  ⟨0x2111, 0x2111, 0x00, 0x00, "AuthChallenge", .octets, .ro, 0x1F, 0x00, 0, [(32, 32)], ""⟩,
  ⟨0x2112, 0x2112, 0x00, 0x00, "AuthResponse", .octets, .cmd, 0x00, 0x1F, 0, [(100, 100)], ""⟩,
  ⟨0x2113, 0x2113, 0x00, 0x00, "AuthDrop", .u8, .cmd, 0x00, 0x1F, 0, [(1, 1)], ""⟩,
  ⟨0x2120, 0x2120, 0x00, 0x00, "KeyInstall", .octets, .cmd, 0x00, 0x1F, 0, [(220, 220)], ""⟩,
  ⟨0x2121, 0x2121, 0x00, 0x00, "KeyStoreClear", .u8, .cmd, 0x00, 0x10, 0, [(1, 1)], ""⟩,
  ⟨0x2150, 0x2150, 0x01, 0x01, "FleetKeyGenerate", .u8, .cmd, 0x00, 0x0C, 0, [(1, 1)], ""⟩,
  ⟨0x2150, 0x2150, 0x02, 0x02, "FleetPublicKey", .octets, .ro, 0x1F, 0x00, 0, [(97, 97)], ""⟩,
  ⟨0x2151, 0x2151, 0x00, 0x00, "FleetCertificate", .domain, .rw, 0x1F, 0x0C, 0, [(0, 8192)], ""⟩]

def objects21_1 : List Desc := [
  ⟨0x2152, 0x2152, 0x00, 0x00, "FleetTrustAnchor", .domain, .rw, 0x1F, 0x0C, 0, [(0, 8192)], ""⟩,
  ⟨0x2180, 0x21E0, 0x00, 0x00, "KeyInfo", .octets, .ro, 0x1F, 0x00, 0, [(64, 64)], ""⟩]

/-- The object table of 21_security.md. -/
def objects21 : List Desc := objects21_0 ++ objects21_1

/-- The table of the chapter that owns an index (R28). -/
def objectsAt (idx : Nat) : List Desc :=
  if idx < 0x1100 || idx == 0x1F00 then objects02
  else if idx < 0x1200 then objects03
  else if idx < 0x2100 then objects20
  else if idx < 0x2200 then objects21
  else if idx < 0x2400 then objects16
  else if idx < 0x2800 then objects04
  else if idx < 0x3000 then objects05
  else if idx < 0x3400 then objects06
  else if idx < 0x3800 then objects07
  else if idx < 0x3880 then objects08
  else if idx < 0x4400 then objects09
  else if idx < 0x4800 then objects10
  else if idx < 0x4C00 then objects11
  else if idx < 0x5000 then objects19
  else if idx < 0x5400 then objects12
  else if idx < 0x5800 then objects13
  else if idx < 0x5C00 then objects14
  else if idx < 0x6000 then objects15
  else if idx < 0x6400 then objects17
  else if idx < 0x6800 then objects18
  else []

end Sys2Proof.Machine
end

