-- ==== Sys2Proof/Machine/Keys.lean ====
section
/-!
DEFINITION. The names of the dictionary entries (one per row of the object tables), as keys of State.regs and
State.blobs: key = index * 256 + subindex. `n` is the instance (index minus the object's first index), `j` the
position in a range of subindices (0 for its first).
-/

namespace Sys2Proof.Machine

/-- The key of an entry (R26): 16-bit index, 8-bit subindex. -/
@[simp] abbrev key (idx sub : Nat) : Nat := idx * 256 + sub

namespace K

@[simp] abbrev deviceName : Nat := key 0x1000 0x01
@[simp] abbrev orderingCode : Nat := key 0x1000 0x02
@[simp] abbrev serialNumber : Nat := key 0x1000 0x03
@[simp] abbrev hardwareIssue : Nat := key 0x1000 0x04
@[simp] abbrev firmwareVersion : Nat := key 0x1000 0x05
@[simp] abbrev dictionaryVersion : Nat := key 0x1000 0x06
@[simp] abbrev isobusName : Nat := key 0x1000 0x07
@[simp] abbrev udpEnable : Nat := key 0x1010 0x01
@[simp] abbrev dictVlanId : Nat := key 0x1010 0x02
@[simp] abbrev udpPort : Nat := key 0x1010 0x03
@[simp] abbrev sessionIdleTimeout : Nat := key 0x1010 0x04
@[simp] abbrev sdoServerEnable : Nat := key 0x1010 0x05
@[simp] abbrev sdoTimeout : Nat := key 0x1010 0x06
@[simp] abbrev sdoBlockSize : Nat := key 0x1010 0x07
@[simp] abbrev udpFramesDropped : Nat := key 0x1011 0x01
@[simp] abbrev abortsSent : Nat := key 0x1011 0x02
@[simp] abbrev busyRefusals : Nat := key 0x1011 0x03
@[simp] abbrev sessionsOpened : Nat := key 0x1011 0x04
@[simp] abbrev sessionsExpired : Nat := key 0x1011 0x05
@[simp] abbrev sdoNodeId (j : Nat) : Nat := key 0x1012 (0x01 + j)
@[simp] abbrev sourceId (n : Nat) : Nat := key (0x1020 + n) 0x01
@[simp] abbrev transport (n : Nat) : Nat := key (0x1020 + n) 0x02
@[simp] abbrev role (n : Nat) : Nat := key (0x1020 + n) 0x03
@[simp] abbrev sessionId (n : Nat) : Nat := key (0x1020 + n) 0x04
@[simp] abbrev itemsInFlight (n : Nat) : Nat := key (0x1020 + n) 0x05
@[simp] abbrev lastAcceptedSeq (n : Nat) : Nat := key (0x1020 + n) 0x06
@[simp] abbrev idleTime (n : Nat) : Nat := key (0x1020 + n) 0x07
@[simp] abbrev thisSourceId : Nat := key 0x1030 0x01
@[simp] abbrev thisTransport : Nat := key 0x1030 0x02
@[simp] abbrev thisRole : Nat := key 0x1030 0x03
@[simp] abbrev thisSessionId : Nat := key 0x1030 0x04
@[simp] abbrev thisItemsInFlight : Nat := key 0x1030 0x05
@[simp] abbrev thisLastAcceptedSeq : Nat := key 0x1030 0x06
@[simp] abbrev thisIdleTime : Nat := key 0x1030 0x07
@[simp] abbrev restoreDefaults : Nat := key 0x1040 0x00
@[simp] abbrev busyState : Nat := key 0x1F00 0x01
@[simp] abbrev busyOperation : Nat := key 0x1F00 0x02
@[simp] abbrev busyProgress : Nat := key 0x1F00 0x03
@[simp] abbrev busyStartTime : Nat := key 0x1F00 0x04
@[simp] abbrev busySourceId : Nat := key 0x1F00 0x05
@[simp] abbrev busyJournalSeq : Nat := key 0x1F00 0x06
@[simp] abbrev journalState : Nat := key 0x1100 0x01
@[simp] abbrev nextJournalSeq : Nat := key 0x1100 0x02
@[simp] abbrev moduleItemsInFlight : Nat := key 0x1100 0x03
@[simp] abbrev epoch : Nat := key 0x1100 0x04
@[simp] abbrev lastResetKind : Nat := key 0x1100 0x05
@[simp] abbrev replayedItems : Nat := key 0x1100 0x06
@[simp] abbrev sourceAccepted : Nat := key 0x1101 0x01
@[simp] abbrev sourceCompleted : Nat := key 0x1101 0x02
@[simp] abbrev completion (j : Nat) : Nat := key 0x1110 (0x01 + j)
@[simp] abbrev axisEnable (n : Nat) : Nat := key (0x2400 + n) 0x01
@[simp] abbrev axisSource (n : Nat) : Nat := key (0x2400 + n) 0x02
@[simp] abbrev implement (n : Nat) : Nat := key (0x2400 + n) 0x03
@[simp] abbrev shaftInput (n : Nat) : Nat := key (0x2400 + n) 0x04
@[simp] abbrev fieldHeading (n : Nat) : Nat := key (0x2400 + n) 0x05
@[simp] abbrev wheelGain (n : Nat) : Nat := key (0x2400 + n) 0x06
@[simp] abbrev biasGain (n : Nat) : Nat := key (0x2400 + n) 0x07
@[simp] abbrev gnssGain (n : Nat) : Nat := key (0x2400 + n) 0x08
@[simp] abbrev gnssSlewLimit (n : Nat) : Nat := key (0x2400 + n) 0x09
@[simp] abbrev gnssGate (n : Nat) : Nat := key (0x2400 + n) 0x0A
@[simp] abbrev gnssMinQuality (n : Nat) : Nat := key (0x2400 + n) 0x0B
@[simp] abbrev standstillSpeed (n : Nat) : Nat := key (0x2400 + n) 0x0C
@[simp] abbrev standstillTime (n : Nat) : Nat := key (0x2400 + n) 0x0D
@[simp] abbrev resetBridgeLimit (n : Nat) : Nat := key (0x2400 + n) 0x0E
@[simp] abbrev axisPreset (n : Nat) : Nat := key (0x2400 + n) 0x0F
@[simp] abbrev positionLinear (n : Nat) : Nat := key (0x2410 + n) 0x01
@[simp] abbrev positionAngular (n : Nat) : Nat := key (0x2410 + n) 0x02
@[simp] abbrev velocity (n : Nat) : Nat := key (0x2410 + n) 0x03
@[simp] abbrev acceleration (n : Nat) : Nat := key (0x2410 + n) 0x04
@[simp] abbrev axisState (n : Nat) : Nat := key (0x2410 + n) 0x05
@[simp] abbrev axisFlags (n : Nat) : Nat := key (0x2410 + n) 0x06
@[simp] abbrev publishTime (n : Nat) : Nat := key (0x2410 + n) 0x07
@[simp] abbrev discontinuities (n : Nat) : Nat := key (0x2410 + n) 0x08
@[simp] abbrev gnssRejected (n : Nat) : Nat := key (0x2410 + n) 0x09
@[simp] abbrev samplesDiscarded (n : Nat) : Nat := key (0x2410 + n) 0x0A
@[simp] abbrev cueArm : Nat := key 0x2420 0x00
@[simp] abbrev cueDisarm : Nat := key 0x2421 0x00
@[simp] abbrev internalSlots : Nat := key 0x2422 0x01
@[simp] abbrev armedSlots : Nat := key 0x2422 0x02
@[simp] abbrev cuesFired : Nat := key 0x2422 0x03
@[simp] abbrev cuesMissed : Nat := key 0x2422 0x04
@[simp] abbrev sameTickDeferrals : Nat := key 0x2422 0x05
@[simp] abbrev solenoidLead (j : Nat) : Nat := key 0x2430 (0x01 + j)
@[simp] abbrev loadLead (j : Nat) : Nat := key 0x2431 (0x01 + j)
@[simp] abbrev canLead (j : Nat) : Nat := key 0x2432 (0x01 + j)
@[simp] abbrev frameSyncLead (j : Nat) : Nat := key 0x2433 (0x01 + j)
@[simp] abbrev lineEnable (n : Nat) : Nat := key (0x2480 + n) 0x01
@[simp] abbrev lineAxis (n : Nat) : Nat := key (0x2480 + n) 0x02
@[simp] abbrev lineWriter (n : Nat) : Nat := key (0x2480 + n) 0x03
@[simp] abbrev lineLanes (n : Nat) : Nat := key (0x2480 + n) 0x04
@[simp] abbrev tapOffset (n : Nat) (j : Nat) : Nat := key (0x2480 + n) (0x05 + j)
@[simp] abbrev entriesHeld (n : Nat) : Nat := key (0x2490 + n) 0x01
@[simp] abbrev lastKey (n : Nat) : Nat := key (0x2490 + n) 0x02
@[simp] abbrev orderRejects (n : Nat) : Nat := key (0x2490 + n) 0x03
@[simp] abbrev lateRejects (n : Nat) : Nat := key (0x2490 + n) 0x04
@[simp] abbrev overflowRejects (n : Nat) : Nat := key (0x2490 + n) 0x05
@[simp] abbrev tapStarved (n : Nat) : Nat := key (0x2490 + n) 0x06
@[simp] abbrev delayLineWrite (n : Nat) : Nat := key (0x24A0 + n) 0x00
@[simp] abbrev cueSlot (n : Nat) (j : Nat) : Nat := key (0x2600 + n) (0x01 + j)
@[simp] abbrev implementEnable (n : Nat) : Nat := key (0x2800 + n) 0x01
@[simp] abbrev implementKind (n : Nat) : Nat := key (0x2800 + n) 0x02
@[simp] abbrev parent (n : Nat) : Nat := key (0x2800 + n) 0x03
@[simp] abbrev hitchX (n : Nat) : Nat := key (0x2800 + n) 0x04
@[simp] abbrev hitchY (n : Nat) : Nat := key (0x2800 + n) 0x05
@[simp] abbrev refX (n : Nat) : Nat := key (0x2800 + n) 0x06
@[simp] abbrev refY (n : Nat) : Nat := key (0x2800 + n) 0x07
@[simp] abbrev drawbarLength (n : Nat) : Nat := key (0x2800 + n) 0x08
@[simp] abbrev hitchAngleSource (n : Nat) : Nat := key (0x2800 + n) 0x09
@[simp] abbrev hitchAngleInput (n : Nat) : Nat := key (0x2800 + n) 0x0A
@[simp] abbrev hitchCheckLimit (n : Nat) : Nat := key (0x2800 + n) 0x0B
@[simp] abbrev sectionAxis (n : Nat) : Nat := key (0x2800 + n) 0x0C
@[simp] abbrev coverageLayer (n : Nat) : Nat := key (0x2800 + n) 0x0D
@[simp] abbrev overlapOffShare (n : Nat) : Nat := key (0x2800 + n) 0x0E
@[simp] abbrev overlapOnShare (n : Nat) : Nat := key (0x2800 + n) 0x0F
@[simp] abbrev boundaryOffShare (n : Nat) : Nat := key (0x2800 + n) 0x10
@[simp] abbrev offOverlapDistance (n : Nat) : Nat := key (0x2800 + n) 0x11
@[simp] abbrev onOverlapDistance (n : Nat) : Nat := key (0x2800 + n) 0x12
@[simp] abbrev headlandMode (n : Nat) : Nat := key (0x2800 + n) 0x13
@[simp] abbrev standstillOff (n : Nat) : Nat := key (0x2800 + n) 0x14
@[simp] abbrev degradedDistance (n : Nat) : Nat := key (0x2800 + n) 0x15
@[simp] abbrev markDelay (n : Nat) : Nat := key (0x2800 + n) 0x16
@[simp] abbrev sectionMode (n : Nat) : Nat := key (0x2800 + n) 0x17
@[simp] abbrev hitchAngle (n : Nat) : Nat := key (0x2808 + n) 0x01
@[simp] abbrev implementFlags (n : Nat) : Nat := key (0x2808 + n) 0x02
@[simp] abbrev sectionsOn (n : Nat) : Nat := key (0x2808 + n) 0x03
@[simp] abbrev lateSwitches (n : Nat) : Nat := key (0x2808 + n) 0x04
@[simp] abbrev degradedTravel (n : Nat) : Nat := key (0x2808 + n) 0x05
@[simp] abbrev canCoalesced (n : Nat) : Nat := key (0x2808 + n) 0x06
@[simp] abbrev coveragePitch : Nat := key 0x2810 0x01
@[simp] abbrev coverageLayers : Nat := key 0x2810 0x02
@[simp] abbrev originLatitude : Nat := key 0x2810 0x03
@[simp] abbrev originLongitude : Nat := key 0x2810 0x04
@[simp] abbrev originHeight : Nat := key 0x2810 0x05
@[simp] abbrev antennaX : Nat := key 0x2810 0x06
@[simp] abbrev antennaY : Nat := key 0x2810 0x07
@[simp] abbrev antennaZ : Nat := key 0x2810 0x08
@[simp] abbrev rearmTolerance : Nat := key 0x2810 0x09
@[simp] abbrev scanHorizon : Nat := key 0x2810 0x0A
@[simp] abbrev coverageFlags : Nat := key 0x2811 0x01
@[simp] abbrev tilesUsed : Nat := key 0x2811 0x02
@[simp] abbrev tilesCapacity : Nat := key 0x2811 0x03
@[simp] abbrev coveredArea (j : Nat) : Nat := key 0x2811 (0x04 + j)
@[simp] abbrev archiveTime : Nat := key 0x2811 0x08
@[simp] abbrev tilesLost : Nat := key 0x2811 0x09
@[simp] abbrev coverageClear : Nat := key 0x2812 0x00
@[simp] abbrev boundaryMaskLoad : Nat := key 0x2813 0x00
@[simp] abbrev boundaryMaskClear : Nat := key 0x2814 0x00
@[simp] abbrev maskRings : Nat := key 0x2815 0x01
@[simp] abbrev maskCrc : Nat := key 0x2815 0x02
@[simp] abbrev manualSectionOn : Nat := key 0x2820 0x00
@[simp] abbrev tcEnable : Nat := key 0x2830 0x01
@[simp] abbrev tcPort : Nat := key 0x2830 0x02
@[simp] abbrev tcBusLead : Nat := key 0x2830 0x03
@[simp] abbrev tcClients : Nat := key 0x2830 0x04
@[simp] abbrev tcSections : Nat := key 0x2830 0x05
@[simp] abbrev sectionConfig (n : Nat) (j : Nat) : Nat := key (0x2C00 + n) (0x01 + j)
@[simp] abbrev sectionStatus (n : Nat) (j : Nat) : Nat := key (0x2E00 + n) (0x01 + j)
@[simp] abbrev fusionEnable : Nat := key 0x3000 0x01
@[simp] abbrev referenceSensor : Nat := key 0x3000 0x02
@[simp] abbrev referencePeriod : Nat := key 0x3000 0x03
@[simp] abbrev fusionGraceHorizon : Nat := key 0x3000 0x04
@[simp] abbrev stepCloseDelay : Nat := key 0x3000 0x05
@[simp] abbrev fusionRegion : Nat := key 0x3000 0x06
@[simp] abbrev gridPitch : Nat := key 0x3000 0x07
@[simp] abbrev gridNear : Nat := key 0x3000 0x08
@[simp] abbrev groundModel : Nat := key 0x3000 0x09
@[simp] abbrev groundHeight : Nat := key 0x3000 0x0A
@[simp] abbrev stateHoldLimit : Nat := key 0x3000 0x0B
@[simp] abbrev fusionReset : Nat := key 0x3001 0x00
@[simp] abbrev sensorEnable (n : Nat) : Nat := key (0x3002 + n) 0x01
@[simp] abbrev sensorTimeSource (n : Nat) : Nat := key (0x3002 + n) 0x02
@[simp] abbrev sensorClockHz (n : Nat) : Nat := key (0x3002 + n) 0x03
@[simp] abbrev linkLatency (n : Nat) : Nat := key (0x3002 + n) 0x04
@[simp] abbrev triggerOutput (n : Nat) : Nat := key (0x3002 + n) 0x05
@[simp] abbrev triggerToCentre (n : Nat) : Nat := key (0x3002 + n) 0x06
@[simp] abbrev framePeriod (n : Nat) : Nat := key (0x3002 + n) 0x07
@[simp] abbrev lockWindow (n : Nat) : Nat := key (0x3002 + n) 0x08
@[simp] abbrev alignSlew (n : Nat) : Nat := key (0x3002 + n) 0x09
@[simp] abbrev rateLimit (n : Nat) : Nat := key (0x3002 + n) 0x0A
@[simp] abbrev projectionPriority (n : Nat) : Nat := key (0x3002 + n) 0x0B
@[simp] abbrev sensorCalibration (n : Nat) : Nat := key (0x3010 + n) 0x00
@[simp] abbrev alignState (n : Nat) : Nat := key (0x3020 + n) 0x01
@[simp] abbrev clockOffset (n : Nat) : Nat := key (0x3020 + n) 0x02
@[simp] abbrev clockRateError (n : Nat) : Nat := key (0x3020 + n) 0x03
@[simp] abbrev lockedFrames (n : Nat) : Nat := key (0x3020 + n) 0x04
@[simp] abbrev framesUsed (n : Nat) : Nat := key (0x3020 + n) 0x05
@[simp] abbrev lateUsed (n : Nat) : Nat := key (0x3020 + n) 0x06
@[simp] abbrev lateDiscarded (n : Nat) : Nat := key (0x3020 + n) 0x07
@[simp] abbrev unalignedEvents (n : Nat) : Nat := key (0x3020 + n) 0x08
@[simp] abbrev missingFrames (n : Nat) : Nat := key (0x3020 + n) 0x09
@[simp] abbrev fusionState : Nat := key 0x3030 0x01
@[simp] abbrev stepCount : Nat := key 0x3030 0x02
@[simp] abbrev lastStepTime : Nat := key 0x3030 0x03
@[simp] abbrev stepsSkipped : Nat := key 0x3030 0x04
@[simp] abbrev stepOverruns : Nat := key 0x3030 0x05
@[simp] abbrev projectionOverruns : Nat := key 0x3030 0x06
@[simp] abbrev stagingDiscards : Nat := key 0x3030 0x07
@[simp] abbrev stateResets : Nat := key 0x3030 0x08
@[simp] abbrev bandWriteRefusals : Nat := key 0x3030 0x09
@[simp] abbrev bandEnable : Nat := key 0x3040 0x01
@[simp] abbrev bandLine : Nat := key 0x3040 0x02
@[simp] abbrev bandImplement : Nat := key 0x3040 0x03
@[simp] abbrev bandLanes : Nat := key 0x3040 0x04
@[simp] abbrev bandWidth : Nat := key 0x3040 0x05
@[simp] abbrev bandWriteDistance : Nat := key 0x3040 0x06
@[simp] abbrev stopEnable : Nat := key 0x3050 0x01
@[simp] abbrev stopChannel : Nat := key 0x3050 0x02
@[simp] abbrev stopZoneNear : Nat := key 0x3050 0x03
@[simp] abbrev stopZoneBase : Nat := key 0x3050 0x04
@[simp] abbrev stopZoneTime : Nat := key 0x3050 0x05
@[simp] abbrev stopZoneHalfWidth : Nat := key 0x3050 0x06
@[simp] abbrev stopConfidence : Nat := key 0x3050 0x07
@[simp] abbrev stopClasses : Nat := key 0x3050 0x08
@[simp] abbrev stopHoldTime : Nat := key 0x3050 0x09
@[simp] abbrev stopRelease : Nat := key 0x3050 0x0A
@[simp] abbrev stopRequiredMask : Nat := key 0x3050 0x0B
@[simp] abbrev stopWatchdog : Nat := key 0x3050 0x0C
@[simp] abbrev stopCanPort : Nat := key 0x3050 0x0D
@[simp] abbrev stopCanId : Nat := key 0x3050 0x0E
@[simp] abbrev stopAcknowledge : Nat := key 0x3051 0x00
@[simp] abbrev stopState : Nat := key 0x3052 0x01
@[simp] abbrev stopCause : Nat := key 0x3052 0x02
@[simp] abbrev stopEvents : Nat := key 0x3052 0x03
@[simp] abbrev lastStopTime : Nat := key 0x3052 0x04
@[simp] abbrev stopTrack : Nat := key 0x3052 0x05
@[simp] abbrev resultHeader : Nat := key 0x3100 0x00
@[simp] abbrev cropEdges : Nat := key 0x3101 0x00
@[simp] abbrev densityBand : Nat := key 0x3102 0x00
@[simp] abbrev spoutAlignment : Nat := key 0x3103 0x00
@[simp] abbrev tankFill : Nat := key 0x3104 0x00
@[simp] abbrev obstacleTracks : Nat := key 0x3105 0x00
@[simp] abbrev inlineSensor : Nat := key 0x3400 0x01
@[simp] abbrev inlineBypass : Nat := key 0x3400 0x02
@[simp] abbrev inlineState : Nat := key 0x3400 0x03
@[simp] abbrev regionUsed : Nat := key 0x3400 0x04
@[simp] abbrev camPortEnable (n : Nat) : Nat := key (0x3401 + n) 0x01
@[simp] abbrev maxGear (n : Nat) : Nat := key (0x3401 + n) 0x02
@[simp] abbrev pocEnable (n : Nat) : Nat := key (0x3401 + n) 0x03
@[simp] abbrev camLinkState (n : Nat) : Nat := key (0x3401 + n) 0x04
@[simp] abbrev gear (n : Nat) : Nat := key (0x3401 + n) 0x05
@[simp] abbrev retransmissions (n : Nat) : Nat := key (0x3401 + n) 0x06
@[simp] abbrev linkDrops (n : Nat) : Nat := key (0x3401 + n) 0x07
@[simp] abbrev pocCurrent (n : Nat) : Nat := key (0x3401 + n) 0x08
@[simp] abbrev port3Mode : Nat := key 0x3405 0x01
@[simp] abbrev parallelWidth : Nat := key 0x3405 0x02
@[simp] abbrev parallelTiming : Nat := key 0x3405 0x03
@[simp] abbrev parallelEmbeddedLines : Nat := key 0x3405 0x04
@[simp] abbrev pclkFrequency : Nat := key 0x3405 0x05
@[simp] abbrev inputPort (n : Nat) : Nat := key (0x3410 + n) 0x01
@[simp] abbrev virtualChannel (n : Nat) : Nat := key (0x3410 + n) 0x02
@[simp] abbrev dataType (n : Nat) : Nat := key (0x3410 + n) 0x03
@[simp] abbrev width (n : Nat) : Nat := key (0x3410 + n) 0x04
@[simp] abbrev height (n : Nat) : Nat := key (0x3410 + n) 0x05
@[simp] abbrev mosaic (n : Nat) : Nat := key (0x3410 + n) 0x06
@[simp] abbrev embeddedDataType (n : Nat) : Nat := key (0x3410 + n) 0x07
@[simp] abbrev timestampOffset (n : Nat) : Nat := key (0x3410 + n) 0x08
@[simp] abbrev timestampBytes (n : Nat) : Nat := key (0x3410 + n) 0x09
@[simp] abbrev timestampOrder (n : Nat) : Nat := key (0x3410 + n) 0x0A
@[simp] abbrev embeddedPacking (n : Nat) : Nat := key (0x3410 + n) 0x0B
@[simp] abbrev outputs (n : Nat) : Nat := key (0x3410 + n) 0x0C
@[simp] abbrev displayWidth (n : Nat) : Nat := key (0x3410 + n) 0x0D
@[simp] abbrev displayHeight (n : Nat) : Nat := key (0x3410 + n) 0x0E
@[simp] abbrev sofTimeout (n : Nat) : Nat := key (0x3410 + n) 0x0F
@[simp] abbrev outputDeadline (n : Nat) : Nat := key (0x3410 + n) 0x10
@[simp] abbrev depthScale (n : Nat) : Nat := key (0x3410 + n) 0x11
@[simp] abbrev blackLevel (n : Nat) (j : Nat) : Nat := key (0x3420 + n) (0x01 + j)
@[simp] abbrev defectThreshold (n : Nat) : Nat := key (0x3420 + n) 0x05
@[simp] abbrev colourMatrix (n : Nat) : Nat := key (0x3420 + n) 0x06
@[simp] abbrev lensShading (n : Nat) : Nat := key (0x3430 + n) 0x00
@[simp] abbrev defectMap (n : Nat) : Nat := key (0x3440 + n) 0x00
@[simp] abbrev gammaLut (n : Nat) : Nat := key (0x3450 + n) 0x00
@[simp] abbrev i2cAddress (n : Nat) : Nat := key (0x3460 + n) 0x01
@[simp] abbrev regAddrBytes (n : Nat) : Nat := key (0x3460 + n) 0x02
@[simp] abbrev regValueBytes (n : Nat) : Nat := key (0x3460 + n) 0x03
@[simp] abbrev settingsLatency (n : Nat) : Nat := key (0x3460 + n) 0x04
@[simp] abbrev tagInForce (n : Nat) : Nat := key (0x3460 + n) 0x05
@[simp] abbrev setState (n : Nat) : Nat := key (0x3460 + n) 0x06
@[simp] abbrev settingsCommit (n : Nat) : Nat := key (0x3470 + n) 0x00
@[simp] abbrev frameDescriptor (n : Nat) : Nat := key (0x3480 + n) 0x01
@[simp] abbrev camFramesOut (n : Nat) : Nat := key (0x3480 + n) 0x02
@[simp] abbrev shortLines (n : Nat) : Nat := key (0x3480 + n) 0x03
@[simp] abbrev longLines (n : Nat) : Nat := key (0x3480 + n) 0x04
@[simp] abbrev shortFrames (n : Nat) : Nat := key (0x3480 + n) 0x05
@[simp] abbrev longFrames (n : Nat) : Nat := key (0x3480 + n) 0x06
@[simp] abbrev crcErrors (n : Nat) : Nat := key (0x3480 + n) 0x07
@[simp] abbrev headerErrors (n : Nat) : Nat := key (0x3480 + n) 0x08
@[simp] abbrev ignoredPackets (n : Nat) : Nat := key (0x3480 + n) 0x09
@[simp] abbrev lineOverruns (n : Nat) : Nat := key (0x3480 + n) 0x0A
@[simp] abbrev statistics (n : Nat) : Nat := key (0x3490 + n) 0x00
@[simp] abbrev fsyncSource (n : Nat) : Nat := key (0x34A0 + n) 0x01
@[simp] abbrev fsyncRoute (n : Nat) : Nat := key (0x34A0 + n) 0x02
@[simp] abbrev fsyncPeriod (n : Nat) : Nat := key (0x34A0 + n) 0x03
@[simp] abbrev fsyncPhase (n : Nat) : Nat := key (0x34A0 + n) 0x04
@[simp] abbrev fsyncWidth (n : Nat) : Nat := key (0x34A0 + n) 0x05
@[simp] abbrev lastPulseTime (n : Nat) : Nat := key (0x34A0 + n) 0x06
@[simp] abbrev fsyncRetriggers (n : Nat) : Nat := key (0x34A0 + n) 0x07
@[simp] abbrev fsyncSkipped (n : Nat) : Nat := key (0x34A0 + n) 0x08
@[simp] abbrev streamEnable (n : Nat) : Nat := key (0x34B0 + n) 0x01
@[simp] abbrev streamSensor (n : Nat) : Nat := key (0x34B0 + n) 0x02
@[simp] abbrev codingWidth (n : Nat) : Nat := key (0x34B0 + n) 0x03
@[simp] abbrev codingHeight (n : Nat) : Nat := key (0x34B0 + n) 0x04
@[simp] abbrev rateDivider (n : Nat) : Nat := key (0x34B0 + n) 0x05
@[simp] abbrev bitrate (n : Nat) : Nat := key (0x34B0 + n) 0x06
@[simp] abbrev rateMode (n : Nat) : Nat := key (0x34B0 + n) 0x07
@[simp] abbrev gopLength (n : Nat) : Nat := key (0x34B0 + n) 0x08
@[simp] abbrev destAddress (n : Nat) : Nat := key (0x34B0 + n) 0x09
@[simp] abbrev destPort (n : Nat) : Nat := key (0x34B0 + n) 0x0A
@[simp] abbrev streamVlan (n : Nat) : Nat := key (0x34B0 + n) 0x0B
@[simp] abbrev framesEncoded (n : Nat) : Nat := key (0x34B0 + n) 0x0C
@[simp] abbrev framesSkipped (n : Nat) : Nat := key (0x34B0 + n) 0x0D
@[simp] abbrev ctxEnable (n : Nat) : Nat := key (0x3800 + n) 0x01
@[simp] abbrev ctxMode (n : Nat) : Nat := key (0x3800 + n) 0x02
@[simp] abbrev samplePeriod (n : Nat) : Nat := key (0x3800 + n) 0x03
@[simp] abbrev measSource (n : Nat) : Nat := key (0x3800 + n) 0x04
@[simp] abbrev measSelect (n : Nat) : Nat := key (0x3800 + n) 0x05
@[simp] abbrev measScale (n : Nat) : Nat := key (0x3800 + n) 0x06
@[simp] abbrev measShift (n : Nat) : Nat := key (0x3800 + n) 0x07
@[simp] abbrev measOffset (n : Nat) : Nat := key (0x3800 + n) 0x08
@[simp] abbrev measFilter (n : Nat) : Nat := key (0x3800 + n) 0x09
@[simp] abbrev setpointSource (n : Nat) : Nat := key (0x3800 + n) 0x0A
@[simp] abbrev setpointSelect (n : Nat) : Nat := key (0x3800 + n) 0x0B
@[simp] abbrev ctxSetpoint (n : Nat) : Nat := key (0x3800 + n) 0x0C
@[simp] abbrev setpointRateLimit (n : Nat) : Nat := key (0x3800 + n) 0x0D
@[simp] abbrev ctxKp (n : Nat) : Nat := key (0x3800 + n) 0x0E
@[simp] abbrev ctxKi (n : Nat) : Nat := key (0x3800 + n) 0x0F
@[simp] abbrev kd (n : Nat) : Nat := key (0x3800 + n) 0x10
@[simp] abbrev dFilter (n : Nat) : Nat := key (0x3800 + n) 0x11
@[simp] abbrev integratorMin (n : Nat) : Nat := key (0x3800 + n) 0x12
@[simp] abbrev integratorMax (n : Nat) : Nat := key (0x3800 + n) 0x13
@[simp] abbrev deadband (n : Nat) : Nat := key (0x3800 + n) 0x14
@[simp] abbrev bias (n : Nat) : Nat := key (0x3800 + n) 0x15
@[simp] abbrev kfa (n : Nat) : Nat := key (0x3800 + n) 0x16
@[simp] abbrev kfv (n : Nat) : Nat := key (0x3800 + n) 0x17
@[simp] abbrev vsupSource (n : Nat) : Nat := key (0x3800 + n) 0x18
@[simp] abbrev vsupSelect (n : Nat) : Nat := key (0x3800 + n) 0x19
@[simp] abbrev vsupNominal (n : Nat) : Nat := key (0x3800 + n) 0x1A
@[simp] abbrev laLine (n : Nat) : Nat := key (0x3800 + n) 0x1B
@[simp] abbrev laTap (n : Nat) : Nat := key (0x3800 + n) 0x1C
@[simp] abbrev laLane (n : Nat) : Nat := key (0x3800 + n) 0x1D
@[simp] abbrev kla (n : Nat) : Nat := key (0x3800 + n) 0x1E
@[simp] abbrev laBias (n : Nat) : Nat := key (0x3800 + n) 0x1F
@[simp] abbrev outMin (n : Nat) : Nat := key (0x3800 + n) 0x20
@[simp] abbrev outMax (n : Nat) : Nat := key (0x3800 + n) 0x21
@[simp] abbrev outRateLimit (n : Nat) : Nat := key (0x3800 + n) 0x22
@[simp] abbrev outKind (n : Nat) : Nat := key (0x3800 + n) 0x23
@[simp] abbrev outTarget (n : Nat) : Nat := key (0x3800 + n) 0x24
@[simp] abbrev outScale (n : Nat) : Nat := key (0x3800 + n) 0x25
@[simp] abbrev outOffset (n : Nat) : Nat := key (0x3800 + n) 0x26
@[simp] abbrev canField (n : Nat) : Nat := key (0x3800 + n) 0x27
@[simp] abbrev disableOutput (n : Nat) : Nat := key (0x3800 + n) 0x28
@[simp] abbrev bypassValue (n : Nat) : Nat := key (0x3800 + n) 0x29
@[simp] abbrev staleTime (n : Nat) : Nat := key (0x3800 + n) 0x2A
@[simp] abbrev fallbackTime (n : Nat) : Nat := key (0x3800 + n) 0x2B
@[simp] abbrev rehSignal (n : Nat) : Nat := key (0x3800 + n) 0x30
@[simp] abbrev rehPoint (n : Nat) : Nat := key (0x3800 + n) 0x31
@[simp] abbrev rehAmplitude (n : Nat) : Nat := key (0x3800 + n) 0x32
@[simp] abbrev rehPreSamples (n : Nat) : Nat := key (0x3800 + n) 0x33
@[simp] abbrev rehSamples (n : Nat) : Nat := key (0x3800 + n) 0x34
@[simp] abbrev rehPostSamples (n : Nat) : Nat := key (0x3800 + n) 0x35
@[simp] abbrev rehF0 (n : Nat) : Nat := key (0x3800 + n) 0x36
@[simp] abbrev rehF1 (n : Nat) : Nat := key (0x3800 + n) 0x37
@[simp] abbrev rehPrbsOrder (n : Nat) : Nat := key (0x3800 + n) 0x38
@[simp] abbrev rehPrbsHold (n : Nat) : Nat := key (0x3800 + n) 0x39
@[simp] abbrev rehStartMode (n : Nat) : Nat := key (0x3800 + n) 0x3A
@[simp] abbrev rehGuard (n : Nat) : Nat := key (0x3800 + n) 0x3B
@[simp] abbrev rehExtra (n : Nat) : Nat := key (0x3800 + n) 0x3C
@[simp] abbrev rehearsalStart (n : Nat) : Nat := key (0x3800 + n) 0x3D
@[simp] abbrev rehearsalStop (n : Nat) : Nat := key (0x3800 + n) 0x3E
@[simp] abbrev ctxState (n : Nat) : Nat := key (0x3800 + n) 0x40
@[simp] abbrev liveFlags (n : Nat) : Nat := key (0x3800 + n) 0x41
@[simp] abbrev stickyFlags (n : Nat) : Nat := key (0x3800 + n) 0x42
@[simp] abbrev stickyClear (n : Nat) : Nat := key (0x3800 + n) 0x43
@[simp] abbrev measValue (n : Nat) : Nat := key (0x3800 + n) 0x44
@[simp] abbrev setpointValue (n : Nat) : Nat := key (0x3800 + n) 0x45
@[simp] abbrev output (n : Nat) : Nat := key (0x3800 + n) 0x46
@[simp] abbrev integrator (n : Nat) : Nat := key (0x3800 + n) 0x47
@[simp] abbrev outputNative (n : Nat) : Nat := key (0x3800 + n) 0x48
@[simp] abbrev lookAhead (n : Nat) : Nat := key (0x3800 + n) 0x49
@[simp] abbrev vsupGain (n : Nat) : Nat := key (0x3800 + n) 0x4A
@[simp] abbrev samples (n : Nat) : Nat := key (0x3800 + n) 0x4B
@[simp] abbrev lastSampleTime (n : Nat) : Nat := key (0x3800 + n) 0x4C
@[simp] abbrev slot (n : Nat) : Nat := key (0x3800 + n) 0x4D
@[simp] abbrev phase (n : Nat) : Nat := key (0x3800 + n) 0x4E
@[simp] abbrev eventsApplied (n : Nat) : Nat := key (0x3800 + n) 0x4F
@[simp] abbrev rehearsalState (n : Nat) : Nat := key (0x3800 + n) 0x50
@[simp] abbrev rehearsalEnd (n : Nat) : Nat := key (0x3800 + n) 0x51
@[simp] abbrev captureRecords (n : Nat) : Nat := key (0x3800 + n) 0x52
@[simp] abbrev rehearsalCapture (n : Nat) : Nat := key (0x3800 + n) 0x53
@[simp] abbrev engineLoad (n : Nat) : Nat := key (0x3800 + n) 0xF0
@[simp] abbrev rehearsalsActive (n : Nat) : Nat := key (0x3800 + n) 0xF1
@[simp] abbrev stateErrors (n : Nat) : Nat := key (0x3800 + n) 0xF2
@[simp] abbrev bankEnable (n : Nat) : Nat := key (0x4000 + n) 0x01
@[simp] abbrev boostVoltage (n : Nat) : Nat := key (0x4000 + n) 0x02
@[simp] abbrev bankState (n : Nat) : Nat := key (0x4008 + n) 0x01
@[simp] abbrev supplyVoltage (n : Nat) : Nat := key (0x4008 + n) 0x02
@[simp] abbrev boostMeasured (n : Nat) : Nat := key (0x4008 + n) 0x03
@[simp] abbrev boostOwner (n : Nat) : Nat := key (0x4008 + n) 0x04
@[simp] abbrev claimedCurrent (n : Nat) : Nat := key (0x4008 + n) 0x05
@[simp] abbrev bankCurrent (n : Nat) : Nat := key (0x4008 + n) 0x06
@[simp] abbrev bankFlags (n : Nat) : Nat := key (0x4008 + n) 0x07
@[simp] abbrev boostDeferrals (n : Nat) : Nat := key (0x4008 + n) 0x08
@[simp] abbrev bankLimitDeferrals (n : Nat) : Nat := key (0x4008 + n) 0x09
@[simp] abbrev boostStarvedRuns (n : Nat) : Nat := key (0x4008 + n) 0x0A
@[simp] abbrev bankLimitClips (n : Nat) : Nat := key (0x4008 + n) 0x0B
@[simp] abbrev engineState : Nat := key 0x4010 0x01
@[simp] abbrev safeOffEvents : Nat := key 0x4010 0x02
@[simp] abbrev bankContinuousLimit : Nat := key 0x4012 0x01
@[simp] abbrev boostReadyLevel : Nat := key 0x4012 0x02
@[simp] abbrev boostDeferLimit : Nat := key 0x4012 0x03
@[simp] abbrev bankPeakLimit : Nat := key 0x4012 0x04
@[simp] abbrev svEnable (n : Nat) : Nat := key (0x4020 + n) 0x01
@[simp] abbrev svOwner (n : Nat) : Nat := key (0x4020 + n) 0x02
@[simp] abbrev svOwnerContext (n : Nat) : Nat := key (0x4020 + n) 0x03
@[simp] abbrev extProgram (n : Nat) : Nat := key (0x4020 + n) 0x04
@[simp] abbrev extCurrentLimit (n : Nat) : Nat := key (0x4020 + n) 0x05
@[simp] abbrev maxOnTime (n : Nat) : Nat := key (0x4020 + n) 0x06
@[simp] abbrev dutyLimit (n : Nat) : Nat := key (0x4020 + n) 0x07
@[simp] abbrev dutyWindow (n : Nat) : Nat := key (0x4020 + n) 0x08
@[simp] abbrev dutyHysteresis (n : Nat) : Nat := key (0x4020 + n) 0x09
@[simp] abbrev regBand (n : Nat) : Nat := key (0x4020 + n) 0x0A
@[simp] abbrev ttpAction (n : Nat) : Nat := key (0x4020 + n) 0x0B
@[simp] abbrev svCommand (n : Nat) : Nat := key (0x4020 + n) 0x0C
@[simp] abbrev svSelfTest (n : Nat) : Nat := key (0x4020 + n) 0x0D
@[simp] abbrev svFaultClear (n : Nat) : Nat := key (0x4020 + n) 0x0E
@[simp] abbrev svState (n : Nat) : Nat := key (0x4040 + n) 0x01
@[simp] abbrev program (n : Nat) : Nat := key (0x4040 + n) 0x02
@[simp] abbrev stitchIndex (n : Nat) : Nat := key (0x4040 + n) 0x03
@[simp] abbrev svCurrent (n : Nat) : Nat := key (0x4040 + n) 0x04
@[simp] abbrev svSetpoint (n : Nat) : Nat := key (0x4040 + n) 0x05
@[simp] abbrev grant (n : Nat) : Nat := key (0x4040 + n) 0x06
@[simp] abbrev onTime (n : Nat) : Nat := key (0x4040 + n) 0x07
@[simp] abbrev dutyShare (n : Nat) : Nat := key (0x4040 + n) 0x08
@[simp] abbrev lastTimeToPeak (n : Nat) : Nat := key (0x4040 + n) 0x09
@[simp] abbrev svFlags (n : Nat) : Nat := key (0x4040 + n) 0x0A
@[simp] abbrev starts (n : Nat) : Nat := key (0x4040 + n) 0x0B
@[simp] abbrev startsReplaced (n : Nat) : Nat := key (0x4040 + n) 0x0C
@[simp] abbrev startsSuppressed (n : Nat) : Nat := key (0x4040 + n) 0x0D
@[simp] abbrev maxOnTrips (n : Nat) : Nat := key (0x4040 + n) 0x0E
@[simp] abbrev dutyTrips (n : Nat) : Nat := key (0x4040 + n) 0x0F
@[simp] abbrev ttpFaults (n : Nat) : Nat := key (0x4040 + n) 0x10
@[simp] abbrev selfTestResult (n : Nat) : Nat := key (0x4040 + n) 0x11
@[simp] abbrev stitchProgram (n : Nat) : Nat := key (0x4100 + n) 0x00
@[simp] abbrev programClaim (j : Nat) : Nat := key 0x4180 (0x01 + j)
@[simp] abbrev lsEnable (n : Nat) : Nat := key (0x4400 + n) 0x01
@[simp] abbrev lsOwner (n : Nat) : Nat := key (0x4400 + n) 0x02
@[simp] abbrev lsOwnerContext (n : Nat) : Nat := key (0x4400 + n) 0x03
@[simp] abbrev loadKind (n : Nat) : Nat := key (0x4400 + n) 0x04
@[simp] abbrev wireSection (n : Nat) : Nat := key (0x4400 + n) 0x05
@[simp] abbrev insulationClass (n : Nat) : Nat := key (0x4400 + n) 0x06
@[simp] abbrev wireLength (n : Nat) : Nat := key (0x4400 + n) 0x07
@[simp] abbrev wireAmbient (n : Nat) : Nat := key (0x4400 + n) 0x08
@[simp] abbrev inrushLimit (n : Nat) : Nat := key (0x4400 + n) 0x09
@[simp] abbrev inrushTime (n : Nat) : Nat := key (0x4400 + n) 0x0A
@[simp] abbrev slewTime (n : Nat) : Nat := key (0x4400 + n) 0x0B
@[simp] abbrev pwmFrequency (n : Nat) : Nat := key (0x4400 + n) 0x0C
@[simp] abbrev lampNominal (n : Nat) : Nat := key (0x4400 + n) 0x0D
@[simp] abbrev lampExponent (n : Nat) : Nat := key (0x4400 + n) 0x0E
@[simp] abbrev retryCount (n : Nat) : Nat := key (0x4400 + n) 0x0F
@[simp] abbrev retryDelay (n : Nat) : Nat := key (0x4400 + n) 0x10
@[simp] abbrev retryWindow (n : Nat) : Nat := key (0x4400 + n) 0x11
@[simp] abbrev shedPriority (n : Nat) : Nat := key (0x4400 + n) 0x12
@[simp] abbrev openLoadThreshold (n : Nat) : Nat := key (0x4400 + n) 0x13
@[simp] abbrev offDiagnostics (n : Nat) : Nat := key (0x4400 + n) 0x14
@[simp] abbrev lsDuty (n : Nat) : Nat := key (0x4400 + n) 0x15
@[simp] abbrev lsFaultClear (n : Nat) : Nat := key (0x4400 + n) 0x16
@[simp] abbrev lsState (n : Nat) : Nat := key (0x4440 + n) 0x01
@[simp] abbrev commandedDuty (n : Nat) : Nat := key (0x4440 + n) 0x02
@[simp] abbrev appliedDuty (n : Nat) : Nat := key (0x4440 + n) 0x03
@[simp] abbrev lsCurrent (n : Nat) : Nat := key (0x4440 + n) 0x04
@[simp] abbrev currentPeak (n : Nat) : Nat := key (0x4440 + n) 0x05
@[simp] abbrev wireTemperature (n : Nat) : Nat := key (0x4440 + n) 0x06
@[simp] abbrev junctionTemperature (n : Nat) : Nat := key (0x4440 + n) 0x07
@[simp] abbrev lsFlags (n : Nat) : Nat := key (0x4440 + n) 0x08
@[simp] abbrev tripCause (n : Nat) : Nat := key (0x4440 + n) 0x09
@[simp] abbrev retriesUsed (n : Nat) : Nat := key (0x4440 + n) 0x0A
@[simp] abbrev effectiveRating (n : Nat) : Nat := key (0x4440 + n) 0x0B
@[simp] abbrev segmentsHealthy (n : Nat) : Nat := key (0x4440 + n) 0x0C
@[simp] abbrev understudyInService (n : Nat) : Nat := key (0x4440 + n) 0x0D
@[simp] abbrev segmentsRetired (n : Nat) : Nat := key (0x4440 + n) 0x0E
@[simp] abbrev trips (n : Nat) : Nat := key (0x4440 + n) 0x0F
@[simp] abbrev slewFallbacks (n : Nat) : Nat := key (0x4440 + n) 0x10
@[simp] abbrev groupVoltage (n : Nat) : Nat := key (0x4480 + n) 0x01
@[simp] abbrev groupCurrent (n : Nat) : Nat := key (0x4480 + n) 0x02
@[simp] abbrev groupState (n : Nat) : Nat := key (0x4480 + n) 0x03
@[simp] abbrev groupSheds (n : Nat) : Nat := key (0x4480 + n) 0x04
@[simp] abbrev groupFlags (n : Nat) : Nat := key (0x4480 + n) 0x05
@[simp] abbrev groupReconnect (n : Nat) : Nat := key (0x4480 + n) 0x06
@[simp] abbrev segmentTestInterval : Nat := key 0x4490 0x01
@[simp] abbrev ainEnable (n : Nat) : Nat := key (0x4800 + n) 0x01
@[simp] abbrev ainMode (n : Nat) : Nat := key (0x4800 + n) 0x02
@[simp] abbrev ainFilter (n : Nat) : Nat := key (0x4800 + n) 0x03
@[simp] abbrev ainZero (n : Nat) : Nat := key (0x4800 + n) 0x04
@[simp] abbrev ainGain (n : Nat) : Nat := key (0x4800 + n) 0x05
@[simp] abbrev ainValidLow (n : Nat) : Nat := key (0x4800 + n) 0x06
@[simp] abbrev ainValidHigh (n : Nat) : Nat := key (0x4800 + n) 0x07
@[simp] abbrev ainNative (n : Nat) : Nat := key (0x4820 + n) 0x01
@[simp] abbrev ainValue (n : Nat) : Nat := key (0x4820 + n) 0x02
@[simp] abbrev ainFlags (n : Nat) : Nat := key (0x4820 + n) 0x03
@[simp] abbrev finEnable (n : Nat) : Nat := key (0x4840 + n) 0x01
@[simp] abbrev finFrontEnd (n : Nat) : Nat := key (0x4840 + n) 0x02
@[simp] abbrev finMode (n : Nat) : Nat := key (0x4840 + n) 0x03
@[simp] abbrev finRole (n : Nat) : Nat := key (0x4840 + n) 0x04
@[simp] abbrev finThreshold (n : Nat) : Nat := key (0x4840 + n) 0x05
@[simp] abbrev finGlitch (n : Nat) : Nat := key (0x4840 + n) 0x06
@[simp] abbrev finDistancePerPulse (n : Nat) : Nat := key (0x4840 + n) 0x07
@[simp] abbrev finTeeth (n : Nat) : Nat := key (0x4840 + n) 0x08
@[simp] abbrev finMissingTeeth (n : Nat) : Nat := key (0x4840 + n) 0x09
@[simp] abbrev finIndexAngle (n : Nat) : Nat := key (0x4840 + n) 0x0A
@[simp] abbrev finDirection (n : Nat) : Nat := key (0x4840 + n) 0x0B
@[simp] abbrev finWheelY (n : Nat) : Nat := key (0x4840 + n) 0x0C
@[simp] abbrev finAverage (n : Nat) : Nat := key (0x4840 + n) 0x0D
@[simp] abbrev finZeroTime (n : Nat) : Nat := key (0x4840 + n) 0x0E
@[simp] abbrev finZero (n : Nat) : Nat := key (0x4840 + n) 0x0F
@[simp] abbrev finFrequency (n : Nat) : Nat := key (0x4850 + n) 0x01
@[simp] abbrev finCount (n : Nat) : Nat := key (0x4850 + n) 0x02
@[simp] abbrev lastEdgeTime (n : Nat) : Nat := key (0x4850 + n) 0x03
@[simp] abbrev finFlags (n : Nat) : Nat := key (0x4850 + n) 0x04
@[simp] abbrev acuEnable (n : Nat) : Nat := key (0x4860 + n) 0x01
@[simp] abbrev acuGain (n : Nat) : Nat := key (0x4860 + n) 0x02
@[simp] abbrev acuThresholdOn (n : Nat) : Nat := key (0x4860 + n) 0x03
@[simp] abbrev acuThresholdOff (n : Nat) : Nat := key (0x4860 + n) 0x04
@[simp] abbrev acuDeadTime (n : Nat) : Nat := key (0x4860 + n) 0x05
@[simp] abbrev acuMaxLength (n : Nat) : Nat := key (0x4860 + n) 0x06
@[simp] abbrev bandCentre (n : Nat) (j : Nat) : Nat := key (0x4860 + n) (0x07 + j)
@[simp] abbrev grainBand (n : Nat) : Nat := key (0x4860 + n) 0x0B
@[simp] abbrev grainShare (n : Nat) : Nat := key (0x4860 + n) 0x0C
@[simp] abbrev heavyPeak (n : Nat) : Nat := key (0x4860 + n) 0x0D
@[simp] abbrev acuRateWindow (n : Nat) : Nat := key (0x4860 + n) 0x0E
@[simp] abbrev grainRate (n : Nat) : Nat := key (0x4870 + n) 0x01
@[simp] abbrev grainImpacts (n : Nat) : Nat := key (0x4870 + n) 0x02
@[simp] abbrev lightImpacts (n : Nat) : Nat := key (0x4870 + n) 0x03
@[simp] abbrev heavyImpacts (n : Nat) : Nat := key (0x4870 + n) 0x04
@[simp] abbrev clippedImpacts (n : Nat) : Nat := key (0x4870 + n) 0x05
@[simp] abbrev noiseLevel (n : Nat) : Nat := key (0x4870 + n) 0x06
@[simp] abbrev lastImpactTime (n : Nat) : Nat := key (0x4870 + n) 0x07
@[simp] abbrev acuFlags (n : Nat) : Nat := key (0x4870 + n) 0x08
@[simp] abbrev brgEnable (n : Nat) : Nat := key (0x4880 + n) 0x01
@[simp] abbrev brgExcitation (n : Nat) : Nat := key (0x4880 + n) 0x02
@[simp] abbrev brgGain (n : Nat) : Nat := key (0x4880 + n) 0x03
@[simp] abbrev brgRate (n : Nat) : Nat := key (0x4880 + n) 0x04
@[simp] abbrev brgTare (n : Nat) : Nat := key (0x4880 + n) 0x05
@[simp] abbrev brgTareCommand (n : Nat) : Nat := key (0x4880 + n) 0x06
@[simp] abbrev brgValue (n : Nat) : Nat := key (0x4888 + n) 0x01
@[simp] abbrev brgExcitationMeasured (n : Nat) : Nat := key (0x4888 + n) 0x02
@[simp] abbrev brgFlags (n : Nat) : Nat := key (0x4888 + n) 0x03
@[simp] abbrev imuMounting : Nat := key 0x4890 0x01
@[simp] abbrev imuAttitudeTime : Nat := key 0x4890 0x02
@[simp] abbrev imuChannel (j : Nat) : Nat := key 0x4891 (0x01 + j)
@[simp] abbrev pitch : Nat := key 0x4891 0x07
@[simp] abbrev roll : Nat := key 0x4891 0x08
@[simp] abbrev imuFlags : Nat := key 0x4891 0x09
@[simp] abbrev sensSupplyEnable : Nat := key 0x48A0 0x01
@[simp] abbrev sensSupplyVoltage (j : Nat) : Nat := key 0x48A0 (0x02 + j)
@[simp] abbrev sensSupplyFault : Nat := key 0x48A0 0x08
@[simp] abbrev converterCheckInterval : Nat := key 0x48B0 0x01
@[simp] abbrev understudyConverterUse : Nat := key 0x48B0 0x02
@[simp] abbrev converterFailures : Nat := key 0x48B0 0x03
@[simp] abbrev fabricState : Nat := key 0x5000 0x01
@[simp] abbrev cellsInService : Nat := key 0x5000 0x02
@[simp] abbrev understudiesFree : Nat := key 0x5000 0x03
@[simp] abbrev storeUsed : Nat := key 0x5000 0x04
@[simp] abbrev storeCapacity : Nat := key 0x5000 0x05
@[simp] abbrev eccCorrected : Nat := key 0x5000 0x06
@[simp] abbrev linkErrors : Nat := key 0x5000 0x07
@[simp] abbrev dmaLate : Nat := key 0x5000 0x08
@[simp] abbrev regionPanels (n : Nat) : Nat := key (0x5010 + n) 0x01
@[simp] abbrev autoStart (n : Nat) : Nat := key (0x5010 + n) 0x02
@[simp] abbrev regionState (n : Nat) : Nat := key (0x5030 + n) 0x01
@[simp] abbrev runningSlot (n : Nat) : Nat := key (0x5030 + n) 0x02
@[simp] abbrev runningPrickingId (n : Nat) : Nat := key (0x5030 + n) 0x03
@[simp] abbrev runningRevision (n : Nat) : Nat := key (0x5030 + n) 0x04
@[simp] abbrev repeatLength (n : Nat) : Nat := key (0x5030 + n) 0x05
@[simp] abbrev repeats (n : Nat) : Nat := key (0x5030 + n) 0x06
@[simp] abbrev sceneState (n : Nat) : Nat := key (0x5030 + n) 0x07
@[simp] abbrev sceneSeq (n : Nat) : Nat := key (0x5030 + n) 0x08
@[simp] abbrev pendingSeq (n : Nat) : Nat := key (0x5030 + n) 0x09
@[simp] abbrev lastSwitchTime (n : Nat) : Nat := key (0x5030 + n) 0x0A
@[simp] abbrev switches (n : Nat) : Nat := key (0x5030 + n) 0x0B
@[simp] abbrev scenesMissed (n : Nat) : Nat := key (0x5030 + n) 0x0C
@[simp] abbrev scenesFailed (n : Nat) : Nat := key (0x5030 + n) 0x0D
@[simp] abbrev sceneChange : Nat := key 0x5080 0x00
@[simp] abbrev sceneCancel : Nat := key 0x5081 0x00
@[simp] abbrev prickingDelete : Nat := key 0x5082 0x00
@[simp] abbrev prickingLoad (n : Nat) : Nat := key (0x5100 + n) 0x00
@[simp] abbrev slotInfo (n : Nat) : Nat := key (0x5140 + n) 0x00
@[simp] abbrev activitiesRunning : Nat := key 0x5400 0x01
@[simp] abbrev grants : Nat := key 0x5400 0x02
@[simp] abbrev conflicts : Nat := key 0x5400 0x03
@[simp] abbrev yields : Nat := key 0x5400 0x04
@[simp] abbrev quadrantActivity (j : Nat) : Nat := key 0x5401 (0x01 + j)
@[simp] abbrev cellTestPeriod : Nat := key 0x5402 0x01
@[simp] abbrev cellTestsPassed : Nat := key 0x5402 0x02
@[simp] abbrev understudyCellsFree : Nat := key 0x5410 0x01
@[simp] abbrev cellsRetired : Nat := key 0x5410 0x02
@[simp] abbrev dramRowsLeft : Nat := key 0x5410 0x03
@[simp] abbrev emmcBlocksLeft : Nat := key 0x5410 0x04
@[simp] abbrev segmentsLeft : Nat := key 0x5410 0x05
@[simp] abbrev spareFlags : Nat := key 0x5410 0x06
@[simp] abbrev understudySwap : Nat := key 0x5420 0x00
@[simp] abbrev inlinePathTest : Nat := key 0x5421 0x00
@[simp] abbrev mramRebuild : Nat := key 0x5422 0x00
@[simp] abbrev rowRepairs : Nat := key 0x5430 0x01
@[simp] abbrev retiredChannel : Nat := key 0x5430 0x02
@[simp] abbrev correctedErrors : Nat := key 0x5430 0x03
@[simp] abbrev lastScrubEnd : Nat := key 0x5430 0x04
@[simp] abbrev blocksRetired : Nat := key 0x5440 0x01
@[simp] abbrev lastVerifyEnd : Nat := key 0x5440 0x02
@[simp] abbrev standbyCore : Nat := key 0x5450 0x01
@[simp] abbrev coreTakeovers : Nat := key 0x5450 0x02
@[simp] abbrev firmwareStage : Nat := key 0x5480 0x00
@[simp] abbrev firmwareActivate : Nat := key 0x5481 0x00
@[simp] abbrev firmwareConfirm : Nat := key 0x5482 0x00
@[simp] abbrev activeImage : Nat := key 0x5483 0x01
@[simp] abbrev stagedState : Nat := key 0x5483 0x02
@[simp] abbrev stagedVersion : Nat := key 0x5483 0x03
@[simp] abbrev trialState : Nat := key 0x5483 0x04
@[simp] abbrev strandStatus (n : Nat) (j : Nat) : Nat := key (0x5500 + n) (0x01 + j)
@[simp] abbrev lotId : Nat := key 0x5600 0x01
@[simp] abbrev waferNumber : Nat := key 0x5600 0x02
@[simp] abbrev dieX : Nat := key 0x5600 0x03
@[simp] abbrev dieY : Nat := key 0x5600 0x04
@[simp] abbrev retiredPerQuadrant : Nat := key 0x5600 0x05
@[simp] abbrev firstRetirement : Nat := key 0x5600 0x06
@[simp] abbrev canPortEnable (n : Nat) : Nat := key (0x5800 + n) 0x01
@[simp] abbrev portMode (n : Nat) : Nat := key (0x5800 + n) 0x02
@[simp] abbrev fdEnable (n : Nat) : Nat := key (0x5800 + n) 0x03
@[simp] abbrev nominalPrescaler (n : Nat) : Nat := key (0x5800 + n) 0x04
@[simp] abbrev nominalSeg1 (n : Nat) : Nat := key (0x5800 + n) 0x05
@[simp] abbrev nominalSeg2 (n : Nat) : Nat := key (0x5800 + n) 0x06
@[simp] abbrev nominalSjw (n : Nat) : Nat := key (0x5800 + n) 0x07
@[simp] abbrev dataPrescaler (n : Nat) : Nat := key (0x5800 + n) 0x08
@[simp] abbrev dataSeg1 (n : Nat) : Nat := key (0x5800 + n) 0x09
@[simp] abbrev dataSeg2 (n : Nat) : Nat := key (0x5800 + n) 0x0A
@[simp] abbrev dataSjw (n : Nat) : Nat := key (0x5800 + n) 0x0B
@[simp] abbrev tdcMode (n : Nat) : Nat := key (0x5800 + n) 0x0C
@[simp] abbrev tdcOffset (n : Nat) : Nat := key (0x5800 + n) 0x0D
@[simp] abbrev busOffRecovery (n : Nat) : Nat := key (0x5800 + n) 0x0E
@[simp] abbrev busOffDelay (n : Nat) : Nat := key (0x5800 + n) 0x0F
@[simp] abbrev isobusEnable (n : Nat) : Nat := key (0x5800 + n) 0x10
@[simp] abbrev preferredAddress (n : Nat) : Nat := key (0x5800 + n) 0x11
@[simp] abbrev detectDwell (n : Nat) : Nat := key (0x5800 + n) 0x12
@[simp] abbrev serviceRole (n : Nat) : Nat := key (0x5800 + n) 0x13
@[simp] abbrev portState (n : Nat) : Nat := key (0x5808 + n) 0x01
@[simp] abbrev portFlags (n : Nat) : Nat := key (0x5808 + n) 0x02
@[simp] abbrev txErrorCount (n : Nat) : Nat := key (0x5808 + n) 0x03
@[simp] abbrev rxErrorCount (n : Nat) : Nat := key (0x5808 + n) 0x04
@[simp] abbrev nominalRate (n : Nat) : Nat := key (0x5808 + n) 0x05
@[simp] abbrev dataRate (n : Nat) : Nat := key (0x5808 + n) 0x06
@[simp] abbrev detectedRate (n : Nat) : Nat := key (0x5808 + n) 0x07
@[simp] abbrev tdcValue (n : Nat) : Nat := key (0x5808 + n) 0x08
@[simp] abbrev framesSent (n : Nat) : Nat := key (0x5808 + n) 0x09
@[simp] abbrev framesReceived (n : Nat) : Nat := key (0x5808 + n) 0x0A
@[simp] abbrev errorFrames (n : Nat) : Nat := key (0x5808 + n) 0x0B
@[simp] abbrev busOffEvents (n : Nat) : Nat := key (0x5808 + n) 0x0C
@[simp] abbrev fdIgnored (n : Nat) : Nat := key (0x5808 + n) 0x0D
@[simp] abbrev address (n : Nat) : Nat := key (0x5808 + n) 0x0E
@[simp] abbrev addressState (n : Nat) : Nat := key (0x5808 + n) 0x0F
@[simp] abbrev coalesced (n : Nat) : Nat := key (0x5808 + n) 0x10
@[simp] abbrev wakeMode (n : Nat) : Nat := key (0x5810 + n) 0x01
@[simp] abbrev wakeId (n : Nat) : Nat := key (0x5810 + n) 0x02
@[simp] abbrev wakeIdMask (n : Nat) : Nat := key (0x5810 + n) 0x03
@[simp] abbrev wakeDlc (n : Nat) : Nat := key (0x5810 + n) 0x04
@[simp] abbrev wakeDataMask (n : Nat) : Nat := key (0x5810 + n) 0x05
@[simp] abbrev canTxConfig (n : Nat) (j : Nat) : Nat := key (0x5820 + n) (0x01 + j)
@[simp] abbrev canTxData (n : Nat) (j : Nat) : Nat := key (0x5830 + n) (0x01 + j)
@[simp] abbrev scheduleMatrix (n : Nat) : Nat := key (0x5840 + n) 0x00
@[simp] abbrev scheduleEnable (n : Nat) : Nat := key (0x5848 + n) 0x01
@[simp] abbrev windowsMissed (n : Nat) : Nat := key (0x5848 + n) 0x02
@[simp] abbrev slotsExpired (n : Nat) : Nat := key (0x5848 + n) 0x03
@[simp] abbrev referencesSent (n : Nat) : Nat := key (0x5848 + n) 0x04
@[simp] abbrev scheduleFault (n : Nat) : Nat := key (0x5848 + n) 0x05
@[simp] abbrev lastReferenceTime (n : Nat) : Nat := key (0x5848 + n) 0x06
@[simp] abbrev rxFilter (n : Nat) (j : Nat) : Nat := key (0x5850 + n) (0x01 + j)
@[simp] abbrev rxMailbox (n : Nat) (j : Nat) : Nat := key (0x5858 + n) (0x01 + j)
@[simp] abbrev nameIdentity : Nat := key 0x5860 0x01
@[simp] abbrev nameManufacturer : Nat := key 0x5860 0x02
@[simp] abbrev nameFunction : Nat := key 0x5860 0x03
@[simp] abbrev nameFunctionInstance : Nat := key 0x5860 0x04
@[simp] abbrev nameEcuInstance : Nat := key 0x5860 0x05
@[simp] abbrev nameDeviceClass : Nat := key 0x5860 0x06
@[simp] abbrev nameDeviceClassInstance : Nat := key 0x5860 0x07
@[simp] abbrev nameIndustryGroup : Nat := key 0x5860 0x08
@[simp] abbrev nameSelfConfigurable : Nat := key 0x5860 0x09
@[simp] abbrev canLoopTest : Nat := key 0x5870 0x00
@[simp] abbrev ethPortEnable (n : Nat) : Nat := key (0x5C00 + n) 0x01
@[simp] abbrev phyRole (n : Nat) : Nat := key (0x5C00 + n) 0x02
@[simp] abbrev pvid (n : Nat) : Nat := key (0x5C00 + n) 0x03
@[simp] abbrev defaultPriority (n : Nat) : Nat := key (0x5C00 + n) 0x04
@[simp] abbrev ingressLatency (n : Nat) : Nat := key (0x5C00 + n) 0x05
@[simp] abbrev egressLatency (n : Nat) : Nat := key (0x5C00 + n) 0x06
@[simp] abbrev oneStepTx (n : Nat) : Nat := key (0x5C00 + n) 0x07
@[simp] abbrev ethLinkState (n : Nat) : Nat := key (0x5C08 + n) 0x01
@[simp] abbrev signalQuality (n : Nat) : Nat := key (0x5C08 + n) 0x02
@[simp] abbrev framesIn (n : Nat) : Nat := key (0x5C08 + n) 0x03
@[simp] abbrev ethFramesOut (n : Nat) : Nat := key (0x5C08 + n) 0x04
@[simp] abbrev ethFramesDropped (n : Nat) : Nat := key (0x5C08 + n) 0x05
@[simp] abbrev linkDelay (n : Nat) : Nat := key (0x5C08 + n) 0x06
@[simp] abbrev ptpRoles (n : Nat) : Nat := key (0x5C08 + n) 0x07
@[simp] abbrev asCapable (n : Nat) : Nat := key (0x5C08 + n) 0x08
@[simp] abbrev macAddress : Nat := key 0x5C10 0x01
@[simp] abbrev vlanTable (j : Nat) : Nat := key 0x5C20 (0x01 + j)
@[simp] abbrev ifEnable (n : Nat) : Nat := key (0x5C30 + n) 0x01
@[simp] abbrev ifVlan (n : Nat) : Nat := key (0x5C30 + n) 0x02
@[simp] abbrev ifMode (n : Nat) : Nat := key (0x5C30 + n) 0x03
@[simp] abbrev ipAddress (n : Nat) : Nat := key (0x5C30 + n) 0x04
@[simp] abbrev ipMask (n : Nat) : Nat := key (0x5C30 + n) 0x05
@[simp] abbrev ipGateway (n : Nat) : Nat := key (0x5C30 + n) 0x06
@[simp] abbrev addressInUse (n : Nat) : Nat := key (0x5C30 + n) 0x07
@[simp] abbrev domainEnable (n : Nat) : Nat := key (0x5C40 + n) 0x01
@[simp] abbrev domainNumber (n : Nat) : Nat := key (0x5C40 + n) 0x02
@[simp] abbrev ptpRoleMode (n : Nat) : Nat := key (0x5C40 + n) 0x03
@[simp] abbrev externalRoles (n : Nat) : Nat := key (0x5C40 + n) 0x04
@[simp] abbrev gmCapable (n : Nat) : Nat := key (0x5C40 + n) 0x05
@[simp] abbrev priority1 (n : Nat) : Nat := key (0x5C40 + n) 0x06
@[simp] abbrev priority2 (n : Nat) : Nat := key (0x5C40 + n) 0x07
@[simp] abbrev logSyncInterval (n : Nat) : Nat := key (0x5C40 + n) 0x08
@[simp] abbrev domainState (n : Nat) : Nat := key (0x5C48 + n) 0x01
@[simp] abbrev gmIdentity (n : Nat) : Nat := key (0x5C48 + n) 0x02
@[simp] abbrev domainOffset (n : Nat) : Nat := key (0x5C48 + n) 0x03
@[simp] abbrev syncTimeouts (n : Nat) : Nat := key (0x5C48 + n) 0x04
@[simp] abbrev primaryDomain : Nat := key 0x5C50 0x01
@[simp] abbrev ppsEnable : Nat := key 0x5C50 0x02
@[simp] abbrev stepThreshold : Nat := key 0x5C50 0x03
@[simp] abbrev stepPolicy : Nat := key 0x5C50 0x04
@[simp] abbrev servoKp : Nat := key 0x5C50 0x05
@[simp] abbrev servoKi : Nat := key 0x5C50 0x06
@[simp] abbrev maxRate : Nat := key 0x5C50 0x07
@[simp] abbrev revertTime : Nat := key 0x5C50 0x08
@[simp] abbrev holdoverLimit : Nat := key 0x5C50 0x09
@[simp] abbrev acquireTimeout : Nat := key 0x5C50 0x0A
@[simp] abbrev utcOffset : Nat := key 0x5C50 0x0B
@[simp] abbrev timeState : Nat := key 0x5C58 0x01
@[simp] abbrev timeSource : Nat := key 0x5C58 0x02
@[simp] abbrev rateCorrection : Nat := key 0x5C58 0x03
@[simp] abbrev heldOffset : Nat := key 0x5C58 0x04
@[simp] abbrev steps : Nat := key 0x5C58 0x05
@[simp] abbrev lastStepSize : Nat := key 0x5C58 0x06
@[simp] abbrev sourceSwitches : Nat := key 0x5C58 0x07
@[simp] abbrev moduleTime : Nat := key 0x5C58 0x08
@[simp] abbrev txStampLost : Nat := key 0x5C58 0x09
@[simp] abbrev gnssSource : Nat := key 0x5C60 0x01
@[simp] abbrev gnssPort : Nat := key 0x5C60 0x02
@[simp] abbrev gnssUdpPort : Nat := key 0x5C60 0x03
@[simp] abbrev gnssVlan : Nat := key 0x5C60 0x04
@[simp] abbrev gnssLatency : Nat := key 0x5C60 0x05
@[simp] abbrev fixesReceived : Nat := key 0x5C60 0x06
@[simp] abbrev fixesRejected : Nat := key 0x5C60 0x07
@[simp] abbrev ppsRejected : Nat := key 0x5C60 0x08
@[simp] abbrev lastPpsTime : Nat := key 0x5C60 0x09
@[simp] abbrev bookState : Nat := key 0x2200 0x01
@[simp] abbrev nextRecordSeq : Nat := key 0x2200 0x02
@[simp] abbrev stagedRecords : Nat := key 0x2200 0x03
@[simp] abbrev oldestRunningSeq : Nat := key 0x2200 0x04
@[simp] abbrev firstNightRecords : Nat := key 0x2200 0x05
@[simp] abbrev clearingLogRecords : Nat := key 0x2200 0x06
@[simp] abbrev operatingTime : Nat := key 0x2200 0x07
@[simp] abbrev powerCycles : Nat := key 0x2200 0x08
@[simp] abbrev recordsSuppressed : Nat := key 0x2200 0x09
@[simp] abbrev recordsSkipped : Nat := key 0x2200 0x0A
@[simp] abbrev runningCapacity : Nat := key 0x2200 0x0B
@[simp] abbrev suppressedCount (j : Nat) : Nat := key 0x2201 (0x01 + j)
@[simp] abbrev windowStart : Nat := key 0x2210 0x01
@[simp] abbrev windowCount : Nat := key 0x2210 0x02
@[simp] abbrev windowArea : Nat := key 0x2210 0x03
@[simp] abbrev recordData : Nat := key 0x2211 0x00
@[simp] abbrev recordClearArm : Nat := key 0x2220 0x00
@[simp] abbrev clearNonce : Nat := key 0x2221 0x00
@[simp] abbrev recordClear : Nat := key 0x2222 0x00
@[simp] abbrev yieldEnable : Nat := key 0x6000 0x01
@[simp] abbrev yieldImplement : Nat := key 0x6000 0x02
@[simp] abbrev flowBridge : Nat := key 0x6000 0x03
@[simp] abbrev flowScale : Nat := key 0x6000 0x04
@[simp] abbrev transportDelay : Nat := key 0x6000 0x05
@[simp] abbrev purgeTime : Nat := key 0x6000 0x06
@[simp] abbrev moistureInput : Nat := key 0x6000 0x07
@[simp] abbrev standardMoisture : Nat := key 0x6000 0x08
@[simp] abbrev fallbackWidth : Nat := key 0x6000 0x09
@[simp] abbrev yieldState : Nat := key 0x6001 0x01
@[simp] abbrev massFlow : Nat := key 0x6001 0x02
@[simp] abbrev moisture : Nat := key 0x6001 0x03
@[simp] abbrev loadWetMass : Nat := key 0x6001 0x04
@[simp] abbrev loadDryMass : Nat := key 0x6001 0x05
@[simp] abbrev unassignedMass : Nat := key 0x6001 0x06
@[simp] abbrev harvestedArea : Nat := key 0x6001 0x07
@[simp] abbrev yieldFlags : Nat := key 0x6001 0x08
@[simp] abbrev yieldCalibrate : Nat := key 0x6002 0x00
@[simp] abbrev loadReset : Nat := key 0x6003 0x00
@[simp] abbrev lossMask (j : Nat) : Nat := key 0x6008 (0x01 + j)
@[simp] abbrev kernelMass : Nat := key 0x6008 0x03
@[simp] abbrev lossScale : Nat := key 0x6008 0x04
@[simp] abbrev lossRate (j : Nat) : Nat := key 0x6009 (0x01 + j)
@[simp] abbrev lossPerArea (j : Nat) : Nat := key 0x6009 (0x03 + j)
@[simp] abbrev openField : Nat := key 0x6010 0x01
@[simp] abbrev fieldsUsed : Nat := key 0x6010 0x02
@[simp] abbrev archiveUsed : Nat := key 0x6010 0x03
@[simp] abbrev archiveFlags : Nat := key 0x6010 0x04
@[simp] abbrev archiveErase : Nat := key 0x6012 0x00
@[simp] abbrev exportBuild : Nat := key 0x6021 0x00
@[simp] abbrev exportFiles : Nat := key 0x6022 0x01
@[simp] abbrev exportFile (j : Nat) : Nat := key 0x6023 (0x01 + j)
@[simp] abbrev fieldRecord (n : Nat) : Nat := key (0x6100 + n) 0x00
@[simp] abbrev fleetEnable : Nat := key 0x6200 0x01
@[simp] abbrev brokerAddress : Nat := key 0x6200 0x02
@[simp] abbrev brokerPort : Nat := key 0x6200 0x03
@[simp] abbrev brokerName : Nat := key 0x6200 0x04
@[simp] abbrev fleetVlan : Nat := key 0x6200 0x05
@[simp] abbrev machineId : Nat := key 0x6200 0x06
@[simp] abbrev keepAlive : Nat := key 0x6200 0x07
@[simp] abbrev statusInterval : Nat := key 0x6200 0x08
@[simp] abbrev positionInterval : Nat := key 0x6200 0x09
@[simp] abbrev alertSources : Nat := key 0x6200 0x0A
@[simp] abbrev fleetState : Nat := key 0x6201 0x01
@[simp] abbrev messagesSent : Nat := key 0x6201 0x02
@[simp] abbrev messagesDropped : Nat := key 0x6201 0x03
@[simp] abbrev queueUsed : Nat := key 0x6201 0x04
@[simp] abbrev reconnects : Nat := key 0x6201 0x05
@[simp] abbrev rendezvousEnable : Nat := key 0x6210 0x01
@[simp] abbrev tankCapacity : Nat := key 0x6210 0x02
@[simp] abbrev rendezvousFill : Nat := key 0x6210 0x03
@[simp] abbrev rendezvousMargin : Nat := key 0x6210 0x04
@[simp] abbrev unloadEndFill : Nat := key 0x6210 0x05
@[simp] abbrev rendezvousState : Nat := key 0x6211 0x01
@[simp] abbrev distanceToFull : Nat := key 0x6211 0x02
@[simp] abbrev cartId : Nat := key 0x6211 0x03
@[simp] abbrev acceptsIgnored : Nat := key 0x6211 0x04
@[simp] abbrev rendezvousCancel : Nat := key 0x6212 0x00
@[simp] abbrev panelEnable : Nat := key 0x6400 0x01
@[simp] abbrev lvdsLinks : Nat := key 0x6400 0x02
@[simp] abbrev pixelClock : Nat := key 0x6400 0x03
@[simp] abbrev hActive : Nat := key 0x6400 0x04
@[simp] abbrev hFront : Nat := key 0x6400 0x05
@[simp] abbrev hSync : Nat := key 0x6400 0x06
@[simp] abbrev hBack : Nat := key 0x6400 0x07
@[simp] abbrev vActive : Nat := key 0x6400 0x08
@[simp] abbrev vFront : Nat := key 0x6400 0x09
@[simp] abbrev vSync : Nat := key 0x6400 0x0A
@[simp] abbrev vBack : Nat := key 0x6400 0x0B
@[simp] abbrev syncPolarity : Nat := key 0x6400 0x0C
@[simp] abbrev fillColour : Nat := key 0x6400 0x0D
@[simp] abbrev keyColour : Nat := key 0x6400 0x0E
@[simp] abbrev keyEnable : Nat := key 0x6400 0x0F
@[simp] abbrev uiOwner : Nat := key 0x6400 0x10
@[simp] abbrev uiRegion : Nat := key 0x6400 0x11
@[simp] abbrev uniformityEnable : Nat := key 0x6400 0x12
@[simp] abbrev crcFailLimit : Nat := key 0x6400 0x13
@[simp] abbrev panelState : Nat := key 0x6401 0x01
@[simp] abbrev frameRate : Nat := key 0x6401 0x02
@[simp] abbrev pixelClockActual : Nat := key 0x6401 0x03
@[simp] abbrev frontBuffer : Nat := key 0x6401 0x04
@[simp] abbrev uiCrc : Nat := key 0x6401 0x05
@[simp] abbrev scanCrc : Nat := key 0x6401 0x06
@[simp] abbrev crcMismatches : Nat := key 0x6401 0x07
@[simp] abbrev flipsReplaced : Nat := key 0x6401 0x08
@[simp] abbrev displayFlags : Nat := key 0x6401 0x09
@[simp] abbrev uiFlip : Nat := key 0x6402 0x00
@[simp] abbrev uiRectWrite : Nat := key 0x6403 0x00
@[simp] abbrev uniformityMap : Nat := key 0x6404 0x00
@[simp] abbrev windowEnable (n : Nat) : Nat := key (0x6410 + n) 0x01
@[simp] abbrev windowSensor (n : Nat) : Nat := key (0x6410 + n) 0x02
@[simp] abbrev windowX (n : Nat) : Nat := key (0x6410 + n) 0x03
@[simp] abbrev windowY (n : Nat) : Nat := key (0x6410 + n) 0x04
@[simp] abbrev videoStaleTime (n : Nat) : Nat := key (0x6410 + n) 0x05
@[simp] abbrev videoSkips (n : Nat) : Nat := key (0x6410 + n) 0x06
@[simp] abbrev avddVoltage : Nat := key 0x6420 0x01
@[simp] abbrev vghVoltage : Nat := key 0x6420 0x02
@[simp] abbrev vglVoltage : Nat := key 0x6420 0x03
@[simp] abbrev vcomLevel : Nat := key 0x6420 0x04
@[simp] abbrev gammaLadder : Nat := key 0x6420 0x05
@[simp] abbrev backlightDuty : Nat := key 0x6420 0x06
@[simp] abbrev backlightFrequency : Nat := key 0x6420 0x07
@[simp] abbrev biasMeasured (j : Nat) : Nat := key 0x6421 (0x01 + j)
@[simp] abbrev tagMarker : Nat := key 0x6430 0x01
@[simp] abbrev tagRecordSeq : Nat := key 0x6430 0x02
@[simp] abbrev tagLastUpdate : Nat := key 0x6430 0x03
@[simp] abbrev tagRewrites : Nat := key 0x6430 0x04
@[simp] abbrev tagReservoir : Nat := key 0x6430 0x05
@[simp] abbrev zoneEnable (n : Nat) : Nat := key (0x4C00 + n) 0x01
@[simp] abbrev zoneSource (n : Nat) : Nat := key (0x4C00 + n) 0x02
@[simp] abbrev zoneSelect (n : Nat) : Nat := key (0x4C00 + n) 0x03
@[simp] abbrev tempLow (n : Nat) : Nat := key (0x4C00 + n) 0x04
@[simp] abbrev tempHigh (n : Nat) : Nat := key (0x4C00 + n) 0x05
@[simp] abbrev zoneHysteresis (n : Nat) : Nat := key (0x4C00 + n) 0x06
@[simp] abbrev failDemand (n : Nat) : Nat := key (0x4C00 + n) 0x07
@[simp] abbrev shutdownLimit (n : Nat) : Nat := key (0x4C00 + n) 0x08
@[simp] abbrev zoneTemperature (n : Nat) : Nat := key (0x4C10 + n) 0x01
@[simp] abbrev zoneDemand (n : Nat) : Nat := key (0x4C10 + n) 0x02
@[simp] abbrev zoneFlags (n : Nat) : Nat := key (0x4C10 + n) 0x03
@[simp] abbrev fanEnable (n : Nat) : Nat := key (0x4C20 + n) 0x01
@[simp] abbrev fanChannel (n : Nat) : Nat := key (0x4C20 + n) 0x02
@[simp] abbrev fanTachInput (n : Nat) : Nat := key (0x4C20 + n) 0x03
@[simp] abbrev fanPulsesPerTurn (n : Nat) : Nat := key (0x4C20 + n) 0x04
@[simp] abbrev fanMaxSpeed (n : Nat) : Nat := key (0x4C20 + n) 0x05
@[simp] abbrev fanZones (n : Nat) : Nat := key (0x4C20 + n) 0x06
@[simp] abbrev fanMinDemand (n : Nat) : Nat := key (0x4C20 + n) 0x07
@[simp] abbrev fanDutyMin (n : Nat) : Nat := key (0x4C20 + n) 0x08
@[simp] abbrev fanPwmFrequency (n : Nat) : Nat := key (0x4C20 + n) 0x09
@[simp] abbrev fanStretchInterval (n : Nat) : Nat := key (0x4C20 + n) 0x0A
@[simp] abbrev fanStretchLength (n : Nat) : Nat := key (0x4C20 + n) 0x0B
@[simp] abbrev fanStartTime (n : Nat) : Nat := key (0x4C20 + n) 0x0C
@[simp] abbrev fanLoopGain (n : Nat) : Nat := key (0x4C20 + n) 0x0D
@[simp] abbrev fanRippleMin (n : Nat) : Nat := key (0x4C20 + n) 0x0E
@[simp] abbrev fanRestart (n : Nat) : Nat := key (0x4C20 + n) 0x0F
@[simp] abbrev fanState (n : Nat) : Nat := key (0x4C30 + n) 0x01
@[simp] abbrev fanDemand (n : Nat) : Nat := key (0x4C30 + n) 0x02
@[simp] abbrev fanSpeed (n : Nat) : Nat := key (0x4C30 + n) 0x03
@[simp] abbrev fanDuty (n : Nat) : Nat := key (0x4C30 + n) 0x04
@[simp] abbrev fanTries (n : Nat) : Nat := key (0x4C30 + n) 0x05
@[simp] abbrev fanFlags (n : Nat) : Nat := key (0x4C30 + n) 0x06
@[simp] abbrev strapThreshold : Nat := key 0x4C40 0x01
@[simp] abbrev boardTemperature : Nat := key 0x4C40 0x02
@[simp] abbrev shdnState : Nat := key 0x4C40 0x03
@[simp] abbrev shdnCause : Nat := key 0x4C40 0x04
@[simp] abbrev shdnEvents : Nat := key 0x4C40 0x05
@[simp] abbrev powerState : Nat := key 0x2000 0x01
@[simp] abbrev logicSupply : Nat := key 0x2000 0x02
@[simp] abbrev holdupLevel : Nat := key 0x2000 0x03
@[simp] abbrev powerFlags : Nat := key 0x2000 0x04
@[simp] abbrev wakeSource : Nat := key 0x2000 0x05
@[simp] abbrev wakePort : Nat := key 0x2000 0x06
@[simp] abbrev dictionaryReady : Nat := key 0x2000 0x07
@[simp] abbrev fabricReady : Nat := key 0x2000 0x08
@[simp] abbrev supplyMin : Nat := key 0x2000 0x09
@[simp] abbrev brownouts : Nat := key 0x2000 0x0A
@[simp] abbrev overvoltageEvents : Nat := key 0x2000 0x0B
@[simp] abbrev wakeOffDelay : Nat := key 0x2010 0x01
@[simp] abbrev listeningEnable : Nat := key 0x2010 0x02
@[simp] abbrev moduleReset : Nat := key 0x2011 0x00
@[simp] abbrev securityState : Nat := key 0x2100 0x01
@[simp] abbrev evaluatedConfiguration : Nat := key 0x2100 0x02
@[simp] abbrev versionFloor : Nat := key 0x2100 0x03
@[simp] abbrev debugPort : Nat := key 0x2100 0x04
@[simp] abbrev securityFlags : Nat := key 0x2100 0x05
@[simp] abbrev authFailures : Nat := key 0x2100 0x06
@[simp] abbrev lockouts : Nat := key 0x2100 0x07
@[simp] abbrev canRoleCeiling : Nat := key 0x2101 0x01
@[simp] abbrev fleetRoleCeiling : Nat := key 0x2101 0x02
@[simp] abbrev lockoutThreshold : Nat := key 0x2101 0x03
@[simp] abbrev lockoutTime : Nat := key 0x2101 0x04
@[simp] abbrev authChallengeRequest : Nat := key 0x2110 0x00
@[simp] abbrev authChallenge : Nat := key 0x2111 0x00
@[simp] abbrev authResponse : Nat := key 0x2112 0x00
@[simp] abbrev authDrop : Nat := key 0x2113 0x00
@[simp] abbrev keyInstall : Nat := key 0x2120 0x00
@[simp] abbrev keyStoreClear : Nat := key 0x2121 0x00
@[simp] abbrev fleetKeyGenerate : Nat := key 0x2150 0x01
@[simp] abbrev fleetPublicKey : Nat := key 0x2150 0x02
@[simp] abbrev fleetCertificate : Nat := key 0x2151 0x00
@[simp] abbrev fleetTrustAnchor : Nat := key 0x2152 0x00
@[simp] abbrev keyInfo (n : Nat) : Nat := key (0x2180 + n) 0x00

end K
end Sys2Proof.Machine
end

