-- ==== Sys2Proof/Machine/Codec.lean ====
section
/-!
DEFINITION. Bytes of values and frames: little-endian numbers (R9, R30), the CRC-32 of R56, valid UTF-8 (R35), bit
fields, saturation and rounding.
-/

namespace Sys2Proof.Machine

/-- The `n` low bytes of a number, least significant first (R30). -/
def leBytes : Nat → Nat → Bytes
  | 0, _ => []
  | n + 1, v => BitVec.ofNat 8 (v % 256) :: leBytes n (v / 256)

/-- The number a little-endian byte string holds (R30). -/
def leNat : Bytes → Nat
  | [] => 0
  | b :: t => b.toNat + 256 * leNat t

/-- A number as `n` bytes, most significant first. -/
def beBytes (n v : Nat) : Bytes := (leBytes n v).reverse

/-- The number a big-endian byte string holds. -/
def beNat (b : Bytes) : Nat := leNat b.reverse

/-- Two's complement of `n` bytes (R30). -/
def encInt (n : Nat) (v : Int) : Bytes := leBytes n (v % (2 ^ (8 * n) : Nat)).toNat

/-- The signed number of a little-endian byte string (R30). -/
def leInt (b : Bytes) : Int :=
  let v := leNat b
  if b.length = 0 then 0 else if v < 2 ^ (8 * b.length - 1) then v else (v : Int) - (2 ^ (8 * b.length) : Nat)

/-- `n` bytes from offset `o`. -/
def field (b : Bytes) (o n : Nat) : Bytes := (b.drop o).take n

/-- The unsigned number in `n` bytes at offset `o`. -/
def fieldU (b : Bytes) (o n : Nat) : Nat := leNat (field b o n)

/-- The signed number in `n` bytes at offset `o`. -/
def fieldI (b : Bytes) (o n : Nat) : Int := leInt (field b o n)

def zeros (n : Nat) : Bytes := List.replicate n 0

/-- `b` cut or zero-padded to `n` bytes. -/
def padTo (n : Nat) (b : Bytes) : Bytes := (b ++ zeros (n - b.length)).take n

def allZero (b : Bytes) : Bool := b.all (· == 0)

/-- One bit step of the reflected CRC-32 (R56). -/
def crcBit (c : Nat) : Nat := if c % 2 = 1 then Nat.xor (c / 2) 0xEDB88320 else c / 2

def crcByte (c : Nat) (b : Byte) : Nat :=
  crcBit (crcBit (crcBit (crcBit (crcBit (crcBit (crcBit (crcBit (Nat.xor c b.toNat))))))))

/-- CRC-32: reflected IEEE 802.3 polynomial, initial value and final XOR 0xFFFFFFFF (R56). -/
def crc32 (b : Bytes) : Nat := Nat.xor (b.foldl crcByte 0xFFFFFFFF) 0xFFFFFFFF

/-- Bytes used by one valid UTF-8 code point at the front, 0 for an invalid sequence (R35: no truncated or overlong
sequence, no surrogate, nothing above U+10FFFF). -/
def utf8Step : Bytes → Nat
  | [] => 0
  | b0 :: t =>
    let a := b0.toNat
    let cont (x : Byte) : Bool := x.toNat / 64 == 2
    if a < 0x80 then 1
    else if a < 0xC2 then 0
    else if a < 0xE0 then match t with
      | b1 :: _ => if cont b1 then 2 else 0
      | _ => 0
    else if a < 0xF0 then match t with
      | b1 :: b2 :: _ =>
        if cont b1 && cont b2 && (a != 0xE0 || 0xA0 ≤ b1.toNat) && (a != 0xED || b1.toNat < 0xA0) then 3 else 0
      | _ => 0
    else if a < 0xF5 then match t with
      | b1 :: b2 :: b3 :: _ =>
        if cont b1 && cont b2 && cont b3 && (a != 0xF0 || 0x90 ≤ b1.toNat) && (a != 0xF4 || b1.toNat < 0x90)
        then 4 else 0
      | _ => 0
    else 0

def utf8Fuel : Nat → Bytes → Bool
  | _, [] => true
  | 0, _ => false
  | f + 1, b => if utf8Step b = 0 then false else utf8Fuel f (b.drop (utf8Step b))

/-- Valid UTF-8 text (R35). -/
def utf8Ok (b : Bytes) : Bool := utf8Fuel b.length b

/-- Bit `i` of a raw register value. -/
def bitOf (v : Int) (i : Nat) : Bool := v.toNat.testBit i

/-- A raw register value with bit `i` set to `b`. -/
def withBit (v : Int) (i : Nat) (b : Bool) : Int := ((if bitOf v i = b then v.toNat else Nat.xor v.toNat (2 ^ i) : Nat) : Int)

/-- `v` limited to `lo`..`hi`. -/
def clampI (lo hi v : Int) : Int := if v < lo then lo else if hi < v then hi else v

def satI32 (v : Int) : Int := clampI (-(2 ^ 31)) (2 ^ 31 - 1) v

/-- Rounding to nearest, halves away from zero. -/
def roundAway (num den : Int) : Int :=
  if den = 0 then 0 else if 0 ≤ num then (2 * num + den) / (2 * den) else -((2 * (-num) + den) / (2 * den))

/-- Rounding to nearest, halves upward. -/
def roundHalfUp (num den : Int) : Int := if den = 0 then 0 else (2 * num + den) / (2 * den)

def absI (v : Int) : Int := if v < 0 then -v else v

/-- A signed 32-bit difference modulo 2^32. -/
def wrap32 (v : Int) : Int := (v + 2 ^ 31) % 2 ^ 32 - 2 ^ 31

def b2n (b : Bool) : Nat := if b then 1 else 0
def b2i (b : Bool) : Int := if b then 1 else 0

/-- The text of a name as bytes (UTF-8). -/
def utf8Bytes (t : String) : Bytes := t.toUTF8.toList.map (fun c => BitVec.ofNat 8 c.toNat)

/-- The first refusal of a list of checks, made in order. -/
def firstSome {α : Type} : List (Option α) → Option α
  | [] => none
  | some a :: _ => some a
  | none :: t => firstSome t

end Sys2Proof.Machine
end

