-- ==== Sys2Proof/Machine/Abort.lean ====
section
/-!
DEFINITION. The abort codes of R69: how the module refuses a request.
-/

namespace Sys2Proof.Machine

/-- The names of R69. -/
inductive Abort where
  | protocolTimeout | badCommand | toggleError | blockSequence | blockCrc | badFrame | sizeMismatch
  | noSession | sessionLimit | sequenceGap
  | noObject | noSubindex | readOnly | writeOnly | roleDenied | typeLength | valueHigh | valueLow | valueInvalid
  | ownerDenied | stateDenied | dependency | functionDisabled
  | busy | busyConflict | workLimitSession | workLimitModule | journalUnavailable | resourceExhausted
  | signatureInvalid | authFailed | authLockout
  | hardwareFault
  deriving DecidableEq, Repr

/-- The 32-bit code of a refusal (R69). -/
def Abort.code : Abort → Nat
  | .protocolTimeout => 0xC0010001 | .badCommand => 0xC0010002 | .toggleError => 0xC0010003
  | .blockSequence => 0xC0010004 | .blockCrc => 0xC0010005 | .badFrame => 0xC0010006 | .sizeMismatch => 0xC0010007
  | .noSession => 0xC0020001 | .sessionLimit => 0xC0020002 | .sequenceGap => 0xC0020003
  | .noObject => 0xC0030001 | .noSubindex => 0xC0030002 | .readOnly => 0xC0030003 | .writeOnly => 0xC0030004
  | .roleDenied => 0xC0030005 | .typeLength => 0xC0030006 | .valueHigh => 0xC0030007 | .valueLow => 0xC0030008
  | .valueInvalid => 0xC0030009 | .ownerDenied => 0xC003000A | .stateDenied => 0xC003000B
  | .dependency => 0xC003000C | .functionDisabled => 0xC003000D
  | .busy => 0xC0040001 | .busyConflict => 0xC0040002 | .workLimitSession => 0xC0040003
  | .workLimitModule => 0xC0040004 | .journalUnavailable => 0xC0040005 | .resourceExhausted => 0xC0040006
  | .signatureInvalid => 0xC0050001 | .authFailed => 0xC0050002 | .authLockout => 0xC0050003
  | .hardwareFault => 0xC0060001

/-- A refusal unless the condition holds. -/
def need (c : Bool) (a : Abort) : Option Abort := if c then none else some a

end Sys2Proof.Machine
end

