-- ==== Sys2Proof/Machine/Tab.lean ====
section
/-!
DEFINITION. Sparse tables: units of one kind by their number, and registers by their key. An entry that equals the
table's default is never listed and the keys rise strictly, so that equal tables are equal data.
-/

namespace Sys2Proof.Machine

/-- A sparse table: (key, value) cells. -/
structure Tab (α : Type) where
  cells : List (Nat × α)
  deriving DecidableEq, Repr

/-- The value at key `k` of a cell list, `d` where none is listed. -/
def cellsGet {α : Type} (d : α) : List (Nat × α) → Nat → α
  | [], _ => d
  | (j, v) :: t, k => if j = k then v else cellsGet d t k

/-- The cells without key `k`. -/
def cellsDrop {α : Type} (k : Nat) (l : List (Nat × α)) : List (Nat × α) := l.filter (fun c => c.1 != k)

/-- Puts `v` at key `k` before the first larger key. -/
def cellsPut {α : Type} (k : Nat) (v : α) : List (Nat × α) → List (Nat × α)
  | [] => [(k, v)]
  | (j, w) :: t => if j < k then (j, w) :: cellsPut k v t else (k, v) :: (j, w) :: t

/-- Writes `v` at key `k`, keeping the keys rising; `d` itself is not listed. -/
def cellsSet {α : Type} [DecidableEq α] (d : α) (k : Nat) (v : α) (l : List (Nat × α)) : List (Nat × α) :=
  if v = d then cellsDrop k l else cellsPut k v (cellsDrop k l)

/-- The canonical form: keys strictly rising from `lo`, no entry equal to `d`. -/
def cellsOk {α : Type} [DecidableEq α] (d : α) : Nat → List (Nat × α) → Bool
  | _, [] => true
  | lo, (j, v) :: t => decide (lo ≤ j) && decide (v ≠ d) && cellsOk d (j + 1) t

def Tab.empty {α : Type} : Tab α := ⟨[]⟩

def Tab.get {α : Type} (t : Tab α) (d : α) (k : Nat) : α := cellsGet d t.cells k

def Tab.set {α : Type} [DecidableEq α] (t : Tab α) (d : α) (k : Nat) (v : α) : Tab α := ⟨cellsSet d k v t.cells⟩

/-- The canonical form of a table whose default is `d`. -/
def Tab.wf {α : Type} [DecidableEq α] (t : Tab α) (d : α) : Bool := cellsOk d 0 t.cells

/-- The canonical form of a register file whose default depends on the key. -/
def cellsOkFn {α : Type} [DecidableEq α] (d : Nat → α) : Nat → List (Nat × α) → Bool
  | _, [] => true
  | lo, (j, v) :: t => decide (lo ≤ j) && decide (v ≠ d j) && cellsOkFn d (j + 1) t

/-- Keys that hold a listed value. -/
def Tab.keys {α : Type} (t : Tab α) : List Nat := t.cells.map Prod.fst

end Sys2Proof.Machine
end

