-- ==== Sys2Proof/Machine/State.lean ====
section
/-!
DEFINITION. The state of the block as plain data: the dictionary entries as registers (State.regs, State.blobs), the
internal state of every chapter's block, and the queue of commands. State.reset is the machine right after its first
reset, as INVENTORY.md lists it.
-/

namespace Sys2Proof.Machine


/-! ### The object dictionary's sessions and transports (02_object_dictionary.md) -/

/-- A UDP dictionary frame's fields (R56): `size` is the datagram's length in bytes, `vlan` and `port` where it came in
(R55). -/
structure Reply where
  op : Nat
  flags : Nat
  sessionId : Nat
  seq : Nat
  idx : Nat
  sub : Nat
  typeCode : Nat
  offset : Nat
  status : Nat
  jseq : Nat
  total : Nat
  data : Bytes
  deriving DecidableEq, Repr

/-- The unfinished write of a session (R61). -/
structure Transfer where
  idx : Nat
  sub : Nat
  complete : Bool
  typeCode : Nat
  total : Nat
  got : Bytes
  deriving DecidableEq, Repr

/-- The snapshot a chunked read is served from (R37, R61). -/
structure Snapshot where
  idx : Nat
  sub : Nat
  complete : Bool
  bytes : Bytes
  deriving DecidableEq, Repr

/-- One of the 16 session slots (R39, R43-R46, R54, R59). `lastReq` is the tick of the last request; `role` the raised
role, 0 for OBSERVER; `raisedKey` the KeyId that raised it (R559). -/
structure Session where
  isOpen : Bool := false
  generation : Nat := 0
  sourceId : Nat := 0
  role : Nat := 0
  raisedKey : Nat := 0
  lastReq : Nat := 0
  lastSeq : Nat := 0
  stored : Option Reply := none
  lastAccepted : Nat := 0
  xfer : Option Transfer := none
  snap : Option Snapshot := none
  deriving DecidableEq, Repr

def Session.init : Session := {}

/-- The forms of an SDO transfer (R50). -/
inductive SdoKind where
  | idle | segDown | blockDown | segUp | blockUp
  deriving DecidableEq, Repr

/-- The SDO server of one CAN port (R50-R53): the transfer's entry, the length announced, the data received or still to send, the
toggle bit, the segments of the present block (its size, the last one), whether the client checks a CRC, whether the last
segment has passed, and the tick of the last frame. -/
structure Sdo where
  kind : SdoKind := .idle
  idx : Nat := 0
  sub : Nat := 0
  complete : Bool := false
  total : Option Nat := none
  buf : Bytes := []
  toggle : Bool := false
  blockSize : Nat := 0
  blockSeq : Nat := 0
  crc : Bool := false
  ended : Bool := false
  lastFrame : Nat := 0
  deriving DecidableEq, Repr

def Sdo.init : Sdo := {}

/-- The answer of an SDO server: its port, identifier, abort code (0 for none) and the bytes of its frames (R50, R52). -/
structure SdoAnswer where
  port : Nat
  id : Nat
  abort : Nat
  data : Bytes
  deriving DecidableEq, Repr

/-! ### The accepted-work journal (03_accepted_work.md) -/

/-- The states of an item (R71); a COMPLETED item is no longer in flight and leaves the list. -/
inductive ItemState where
  | accepted | started | finished
  deriving DecidableEq, Repr

/-- An item in flight (R70-R75, R82). `aim` is the function instance the item is aimed at (R92), `resets` the replays it
has crossed (R85), `data` the written value. -/
structure Item where
  seq : Nat
  source : Nat
  srcSeq : Nat
  slot : Nat
  access : Access
  idx : Nat
  sub : Nat
  ty : Nat
  data : Bytes
  aim : Nat
  state : ItemState
  outcome : Nat
  detail : Nat
  resets : Nat
  deriving DecidableEq, Repr

/-- One record of the ring (R82). -/
structure JRec where
  kind : Nat
  outcome : Nat
  slot : Nat
  access : Nat
  source : Nat
  seq : Nat
  time : Nat
  srcSeq : Nat
  idx : Nat
  sub : Nat
  ty : Nat
  len : Nat
  payload : Bytes
  deriving DecidableEq, Repr

/-- A completion slot (R85). -/
structure Completion where
  seq : Nat := 0
  srcSeq : Nat := 0
  outcome : Nat := 0
  resets : Nat := 0
  idx : Nat := 0
  sub : Nat := 0
  detail : Nat := 0
  time : Nat := 0
  deriving DecidableEq, Repr

def Completion.init : Completion := {}

/-- An entry of the source table (R83). `lastAccept` orders the sources by their last acceptance. -/
structure Source where
  id : Nat
  accepted : Nat
  completed : Nat
  lastAccept : Nat
  slots : Tab Completion
  deriving DecidableEq, Repr

/-- A function instance whose disable waits for its safe point (R92): its aim, the disable item (0 for none) and the
tick by which the disable is forced. -/
structure Disabling where
  aim : Nat
  seq : Nat
  due : Nat
  deriving DecidableEq, Repr

/-- The axis snapshot of the journal header (R104). -/
structure AxisSnap where
  valid : Bool := false
  s : Int := 0
  east : Int := 0
  north : Int := 0
  heading : Int := 0
  source : Nat := 0
  input : Nat := 0
  tookFix : Bool := false
  deriving DecidableEq, Repr

def AxisSnap.init : AxisSnap := {}

/-- The journal (R71-R91): the items in flight in ascending JournalSeq, the ring's records oldest first, the source
table; `accepting` is cleared by the flush of R90. The header fields kept across resets stand here too; `replayWait` holds the
items whose replay waits for an axis or for module time (R87), `busySince` the tick at which the interface became busy (R47). -/
structure Journal where
  items : List Item := []
  records : List JRec := []
  sources : List Source := []
  accepting : Bool := true
  copyA : Bool := true
  copyB : Bool := true
  disabling : List Disabling := []
  axisSnaps : Tab AxisSnap := ⟨[]⟩
  fuseSaved : Tab Int := ⟨[]⟩
  savedTime : Nat := 0
  replayWait : List Nat := []
  busySince : Option Nat := none
  deriving DecidableEq, Repr

/-! ### Position axes, cues and delay lines (04_position_axes_and_cues.md) -/

/-- A GNSS fix on its way to the axes (R95, R461): its tick, field position in um moved to the reference point (R130),
quality (R125 codes), speed over ground in um/s and course in 2^-32 turn. -/
structure Fix where
  tick : Nat
  east : Int
  north : Int
  quality : Nat
  speed : Int
  course : Int
  deriving DecidableEq, Repr

/-- A wheel sample (R95, R339): the tick of its interval's midpoint and its speed in 2^-16 um/s. -/
structure WheelSample where
  tick : Nat
  speed : Int
  deriving DecidableEq, Repr

/-- One publish step of the history (R95, R162): tick and module time, v and vp in 2^-16 um/s, position of the axis and of
the field in 2^-32 um, heading in 2^-32 turn; for fusion the yaw rate in urad/s, pitch and roll in urad, and bits 2, 4 and 5 of
AxisFlags with the axis state (R179, R181, R188). -/
structure HistStep where
  tick : Nat := 0
  time : Nat := 0
  v : Int := 0
  vp : Int := 0
  s : Int := 0
  east : Int := 0
  north : Int := 0
  heading : Int := 0
  rate : Int := 0
  pitch : Int := 0
  roll : Int := 0
  flags : Nat := 0
  state : Int := 0
  deriving DecidableEq, Repr

/-- The resume procedure of an axis (R103): the tick at which its wait for a fix ends, and the snapshot or held value it
resumes from. -/
structure Resume where
  due : Nat
  snap : AxisSnap
  held : Int
  deriving DecidableEq, Repr

/-- An axis estimator (R93-R103). Positions are in 2^-32 of the axis unit (um, or 2^-32 turn), velocities and
accelerations in 2^-16 unit/s and unit/s^2. `pubTick` is the tick of the last publish instant. -/
structure Axis where
  s : Int := 0
  v : Int := 0
  a : Int := 0
  b : Int := 0
  vc : Int := 0
  vp : Int := 0
  pubTick : Nat := 0
  heading : Int := 0
  east : Int := 0
  north : Int := 0
  haveFix : Bool := false
  courseDue : Bool := false
  lastCourse : Option Nat := none
  wheel : List WheelSample := []
  fixes : List Fix := []
  hist : List HistStep := []
  enabledAt : Nat := 0
  lastFix : Option Nat := none
  gateSince : Option Nat := none
  lastWheel : Option Nat := none
  edgeTick : Option Nat := none
  edgeAngle : Int := 0
  lastInterval : Nat := 0
  omega : Int := 0
  awaitIndex : Bool := false
  nextPitch : Int := 0
  lostWheel : Bool := false
  resume : Option Resume := none
  deriving DecidableEq, Repr

def Axis.init : Axis := {}

/-- States of a cue slot (R119). -/
inductive CueState where
  | free | armed | held
  deriving DecidableEq, Repr

/-- A cue slot (R112, R119); `region` is the region whose pricking armed it. `armTick` is the tick of the arming, `evaluated` set once a tick after it has found the cue
not passed (R107), `pos` and `interval` in the form of the axis. -/
structure Cue where
  axis : Nat := 0
  dir : Nat := 0
  kind : Nat := 0
  flags : Nat := 0
  target : Nat := 0
  action : Nat := 0
  repeats : Nat := 0
  lead : Nat := 0
  pos : Int := 0
  interval : Int := 0
  param : Nat := 0
  tag : Nat := 0
  armedPos : Int := 0
  state : CueState := .free
  origin : Nat := 0
  fires : Nat := 0
  effLead : Nat := 0
  jseq : Nat := 0
  lastFire : Nat := 0
  armTick : Nat := 0
  evaluated : Bool := false
  slotBytes : Nat := 0
  region : Nat := 0
  deriving DecidableEq, Repr

def Cue.init : Cue := {}

/-- An action on its way to a target (R117): target kind and number, action, parameter, the fire tick and module time,
the axis and its value, and the cue's slot and tag. -/
structure Act where
  kind : Nat
  target : Nat
  action : Nat
  param : Nat
  tick : Nat
  time : Nat
  axis : Nat
  value : Int
  slot : Nat
  tag : Nat
  lead : Nat
  deriving DecidableEq, Repr

/-- A delay line (R122-R124): entries in rising key (um), and the high-water mark of each tap, in 2^-32 um. -/
structure Line where
  entries : List (Int × List Int) := []
  hasKey : Bool := false
  marks : List Int := []
  deriving DecidableEq, Repr

def Line.init : Line := {}

/-! ### Implements, sections and coverage (05_sections_and_coverage.md) -/

/-- An implement's hitch (R134, R135): angles in 2^-32 turn, vi in 2^-16 um/s, wi in urad/s; runs of disagreement and
agreement; the angles in use at the last 2,048 model steps (R136), newest first; the axis position (2^-32 um) from which
DegradedTravel counts (R154) and of the last sweep (R144); whether its sections wait for a scan with the axis VALID after
a reset (R154). -/
structure Impl where
  gamma : Int := 0
  model : Int := 0
  past : List (Nat × Int) := []
  vi : Int := 0
  wi : Int := 0
  disagree : Option Nat := none
  agree : Option Nat := none
  travelFrom : Int := 0
  sweepPos : Int := 0
  sweepTick : Nat := 0
  awaitValid : Bool := true
  deriving DecidableEq, Repr

def Impl.init : Impl := {}

/-- A section (R143, R151, R158): its commanded state, off reason, the reason that its armed off cue gives (`why`), its
applying state with the ticks and values of its coming changes, the shares of the last scan, its armed change cue, the
crossing of an imported section (axis position in 2^-32 um and the state there), and the ends of its footprint at the last
sweep. -/
structure Section where
  on : Bool := false
  reason : Nat := 0
  why : Nat := 0
  applying : Bool := false
  due : List (Nat × Bool) := []
  c : Nat := 0
  o : Nat := 0
  cue : Option Nat := none
  cuePos : Int := 0
  cross : Option (Int × Bool) := none
  swept : Option ((Int × Int) × (Int × Int)) := none
  deriving DecidableEq, Repr

def Section.init : Section := {}

/-- A coverage tile (R142): its slot, flags, and its marked bytes by byte number. -/
structure CovTile where
  present : Bool := false
  slot : Nat := 0
  dirty : Bool := false
  lost : Bool := false
  firstMark : Nat := 0
  bits : Tab Nat := ⟨[]⟩
  deriving DecidableEq, Repr

def CovTile.init : CovTile := {}

/-- A mark waiting for MarkDelay (R144): cell, layer, implement, and the axis position of its sweep (2^-32 um). -/
structure Mark where
  i : Int
  j : Int
  layer : Nat
  impl : Nat
  pos : Int
  deriving DecidableEq, Repr

/-- A ring of the boundary mask (R147): class and vertices in mm. -/
structure Ring where
  cls : Nat
  verts : List (Int × Int)
  deriving DecidableEq, Repr

/-- A TC client (R157): its address, the sections imported for it, the numbers of its device elements that carry sections,
the tick of its last actual state, and per group of 16 sections (element index * 16 + group) the state that waits and the
one last sent. -/
structure TcClient where
  connected : Bool := false
  lost : Bool := false
  address : Nat := 0
  sections : List Nat := []
  elements : List Nat := []
  lastActual : Nat := 0
  waiting : Tab Nat := ⟨[]⟩
  sent : Tab Nat := ⟨[]⟩
  deriving DecidableEq, Repr

def TcClient.init : TcClient := {}

/-- The coverage unit (R141-R148): tiles by key; pending marks; the mask as tiles of 16 KiB by key, their bytes by number
(R146); the last archive write that succeeded; the layers whose marks found no free tile (R160). -/
structure Coverage where
  tiles : Tab CovTile := ⟨[]⟩
  marks : List Mark := []
  mask : Option (Tab (Tab Nat)) := none
  lastArchiveOk : Nat := 0
  fullLayers : Nat := 0
  deriving DecidableEq, Repr


/-! ### Alignment, projection and fusion (06_fusion.md) -/

/-- A sensor's alignment tracker (R163): the map's base (sensor ticks, ns), its rate in 2^-32 ns per tick, the offset
estimate, and the instant of its last frame. -/
structure Align where
  first : Bool := true
  baseTs : Nat := 0
  baseT : Int := 0
  rate : Int := 0
  off : Int := 0
  lastInstant : Int := 0
  deriving DecidableEq, Repr

def Align.init : Align := {}

/-- A frame that waits for the projection unit (R171): sensor, instant in ns, arrival tick, and a number for its content. -/
structure ProjFrame where
  sensor : Nat
  instant : Nat
  arrival : Nat
  content : Nat
  deriving DecidableEq, Repr

/-- A staged sample (R170, R172): sensor, instant, the pose at the instant (2^-32 um, 2^-32 turn), the Sequence of its frame, and
its grid: for a covered cell 256 row + column the values Y, U, V and IR of a camera, or height and count of a depth sensor. -/
structure Sample where
  sensor : Nat
  instant : Nat
  east : Int
  north : Int
  heading : Int
  content : Nat
  cells : Tab (List Int)
  deriving DecidableEq, Repr

/-- A frame in the projection unit (R171): its sample, and the tick in which its work is done. -/
structure Projecting where
  frame : ProjFrame
  sample : Sample
  doneAt : Nat
  deriving DecidableEq, Repr

/-- The points of a depth frame (R170): instant, pose at the instant, and the points in mm in the machine frame there. -/
structure Cloud where
  instant : Nat
  east : Int
  north : Int
  heading : Int
  points : List (Int × Int × Int)
  deriving DecidableEq, Repr

/-- A closed step (R173-R181, R188): its StepCount, its input block, and what its header and result header hold; `late` are the
late samples among those used. -/
structure FStep where
  count : Nat
  block : Nat
  time : Nat
  closeTime : Nat
  flags : Nat
  presence : Nat
  lateUsed : Nat
  lateDiscarded : Nat
  egoDx : Int
  egoDy : Int
  egoDyaw : Int
  speed : Int
  poseValue : Int
  ego : Bytes
  used : List Sample
  late : List Sample
  east : Int
  north : Int
  heading : Int
  warmup : Nat
  deriving DecidableEq, Repr

/-- The fusion service (R173-R194). `clouds` are the points of recent depth frames; `count` is the StepCount of the last
assembled step; `refs` are reference instants that no closed step has taken, with their flags; `freeRun` says that a step has run
on module time since the last one; `lastT` is the last t_n; `closedT` the t_n of the last closed step; `waiting` a closed step that
waits for the network, `running` the one in the network with its start, `runEnd` the tick of the last run's end; `stepPose` the
pose of the last step and `prevPose` of the last one with a body. `inputs` and `outputs` are the blocks of R180 and `net` the
network state's bytes. `lastFlags` and `lastPresence` are of the last result, `bodyFlags` of the last one with a body. -/
structure Fuse where
  frames : List ProjFrame := []
  projecting : Option Projecting := none
  clouds : List Cloud := []
  staged : List Sample := []
  count : Nat := 0
  freeRun : Bool := false
  runEnd : Option Nat := none
  stepPose : Option (Int × Int × Int) := none
  inputs : Tab Bytes := ⟨[]⟩
  outputs : Tab Bytes := ⟨[]⟩
  net : Tab Nat := ⟨[]⟩
  lastFlags : Nat := 0
  lastPresence : Nat := 0
  refs : List (Nat × Nat) := []
  lastT : Option Nat := none
  closedT : Option Nat := none
  waiting : Option FStep := none
  running : Option (FStep × Nat) := none
  prevPose : Option (Int × Int × Int) := none
  lastBody : Option Nat := none
  issuedAt : Option Nat := none
  tracksAt : Option Nat := none
  tracks : Bytes := []
  tracksT : Nat := 0
  tracksBad : Bool := false
  bodyFlags : Nat := 0
  warmup : Nat := 0
  resetDue : Bool := false
  clearAsked : Bool := false
  resetItems : List Nat := []
  disableItems : List Nat := []
  layoutId : Nat := 0
  projOverrun : Bool := false
  bandDue : Option Nat := none
  causeClearAt : Option Nat := none
  stopCounter : Nat := 0
  stopSentAt : Nat := 0
  stopDue : Bool := false
  deriving DecidableEq, Repr


/-! ### Camera inputs and image pipeline (07_camera_pipeline.md) -/

/-- The correction values that one frame is processed with (R215-R225). -/
structure Corr where
  black : List Nat
  threshold : Nat
  matrix : Bytes
  shading : Bytes
  defects : Bytes
  gamma : Bytes
  deriving DecidableEq, Repr

/-- Where a frame stands (R205-R214): in readout, in the memory queue, in the memory pass, or read out of its raw buffer
(the in-line path and depth frames go there at their frame end). -/
inductive FrameStage where
  | reading | queued | passing | ready
  deriving DecidableEq, Repr

/-- A frame of a sensor (R205-R213): its Sequence, path (0 INLINE, 1 MEMORY, 2 DIRECT), arrival and frame end in ns,
descriptor flags and counts, sensor timestamp, correction values, and its image lines as raw codes. -/
structure VFrame where
  seq : Nat
  path : Nat
  stage : FrameStage
  csi : Nat
  flags : Nat
  arrival : Nat
  endTime : Nat
  endTick : Nat
  received : Nat
  short : Nat
  long : Nat
  blanked : Nat
  ts : Option Nat
  embedded : Nat
  corr : Corr
  rows : List (List Nat)
  deriving DecidableEq, Repr

/-- A vision output or a depth plane (R222, R223): planes row by row, empty where the frame has none. -/
structure Planes where
  seq : Nat := 0
  instant : Nat := 0
  y : List Nat := []
  u : List Nat := []
  v : List Nat := []
  ir : List Nat := []
  depth : List Nat := []
  deriving DecidableEq, Repr

/-- A register set on its way to a sensor (R226, R227): its item, tag, writes (address, value), how many are
acknowledged, whether the present one was repeated, and the period in which sending began. -/
structure RegSet where
  item : Nat
  tag : Nat
  writes : List (Nat × Nat)
  sent : Nat
  repeated : Bool
  began : Option Nat
  deriving DecidableEq, Repr

/-- A write that waits for the sensor's next frame start (R225). -/
structure PendCorr where
  idx : Nat
  sub : Nat
  data : Bytes
  item : Nat
  deriving DecidableEq, Repr

/-- A committed settings tag (R227): the first Sequence it is in force for, the tag, and the module time of its commit. -/
structure TagSpan where
  first : Nat
  tag : Nat
  time : Nat
  deriving DecidableEq, Repr

/-- A camera or depth sensor (R198-R228). `frames` are those without a descriptor, oldest first; `expect` is E of R208;
`period` the number of the present period; `startTick` the tick of the last frame start; `tags` newest first and `unsure` the
ranges of R227; `bus` the bytes of the I2C transaction in progress (R226); `newest` the newest complete output and `older`
those before it that a frame in projection pins (R214); `display` the newest display output: its frame, its buffer and its
OutputTime (R507), and `shown` the bytes of the two display buffers (R224). -/
structure Cam where
  frames : List VFrame := []
  nextSeq : Nat := 0
  period : Nat := 0
  expect : Option Nat := none
  startTick : Option Nat := none
  tags : List TagSpan := []
  unsure : List (Nat × Option Nat) := []
  set : Option RegSet := none
  bus : Option Bytes := none
  writes : List PendCorr := []
  newest : Option Planes := none
  older : List Planes := []
  display : Option (Nat × Nat × Nat) := none
  shown : Tab Bytes := ⟨[]⟩
  deriving DecidableEq, Repr

def Cam.init : Cam := {}

/-- A frame-sync output (R203, R204): the tick of its last pulse, the tick at which its pulse ends, and the A-PHY port whose
GPIO tunnel carries the last pulse with the tick in which it reaches the camera. -/
structure Fsync where
  lastTick : Option Nat := none
  until_ : Nat := 0
  tunnel : Option (Nat × Nat) := none
  deriving DecidableEq, Repr

def Fsync.init : Fsync := {}

/-- What an H.265 picture signals (R229): profile and tier, level in 1/30, VUI primaries, matrix and range, and whether its
one slice is an I slice. -/
structure CodedPicture where
  profile : Nat
  highTier : Bool
  level : Nat
  primaries : Nat
  matrix : Nat
  fullRange : Bool
  islice : Bool
  deriving DecidableEq, Repr

/-- A picture sent as RTP (R229, R230): its timestamp, whether it is an IDR picture, what it signals, where it comes from and
goes, and its RTP packets. -/
structure RtpPicture where
  ssrc : Nat
  stamp : Nat
  idr : Bool
  coded : CodedPicture
  address : Nat
  srcPort : Nat
  port : Nat
  vlan : Nat
  packets : List Bytes
  deriving DecidableEq, Repr

/-- A picture that waits for the encoder (R224, R229): its exposure centre and its NV12 bytes. -/
structure CodingInput where
  centre : Nat
  nv12 : Bytes
  deriving DecidableEq, Repr

/-- An encoder stream (R229, R230): descriptors of its source counted, pictures sent, pictures that wait for the encoder,
RTP packets sent, and the last picture sent. -/
structure Stream where
  taken : Nat := 0
  pictures : Nat := 0
  due : List CodingInput := []
  packets : Nat := 0
  sent : Option RtpPicture := none
  deriving DecidableEq, Repr

def Stream.init : Stream := {}

/-- What the pipeline holds beside its sensors (R199-R213): the begin of the frame in the memory pass, ports whose power
over coax tripped and whose PocEnable has been cleared since, and a reported absence of PCLK. -/
structure Vision where
  passFrom : Option (Nat × Nat) := none
  pocCleared : Tab Bool := ⟨[]⟩
  pclkAbsent : Bool := false
  deriving DecidableEq, Repr



/-! ### Control contexts (08_control_contexts.md) -/

/-- A captured sample of a rehearsal (R263): inj, rq, yf, u, extra, flags, phase (0 PRE, 1 INJECT, 2 POST), module time. -/
structure CapRec where
  inj : Int
  rq : Int
  yf : Int
  u : Int
  extra : Int
  flags : Nat
  phase : Nat
  time : Nat
  deriving DecidableEq, Repr

/-- A rehearsal (R259-R263): its item, the parameters in force at acceptance, the phase (0 PRE, 1 INJECT, 2 POST), the
samples done in it, the injection's generator, and the records (of an ARMED rehearsal the last `pre`). -/
structure Reh where
  item : Nat
  signal : Nat
  point : Nat
  amp : Int
  pre : Nat
  samples : Nat
  post : Nat
  f0 : Int
  f1 : Int
  order : Nat
  hold : Nat
  guard : Int
  extra : Nat
  armedAt : Nat
  armed : Bool
  phase : Nat
  done : Nat
  inj : Int
  chirpPhase : Nat
  prbs : Nat
  bit : Bool
  stop : Bool
  reason : Nat
  deriving DecidableEq, Repr

/-- A capture buffer (R263): the context whose capture it holds, or the one that has left it for another buffer while chunked
reads of it may go on; its item, sample period, settings, end reason, the records oldest first, and a number that rises with
each use. -/
structure Capture where
  ctx : Option Nat := none
  left : Option Nat := none
  item : Nat := 0
  period : Nat := 0
  signal : Nat := 0
  point : Nat := 0
  extra : Nat := 0
  reason : Nat := 0
  records : List CapRec := []
  age : Nat := 0
  deriving DecidableEq, Repr

def Capture.init : Capture := {}

/-- A write that waits for a context's next sample (R249), with the tick of its acceptance. -/
structure CtxWrite where
  sub : Nat
  data : Bytes
  item : Nat
  tick : Nat
  deriving DecidableEq, Repr

/-- A control context (R233-R257): raw values of R234 and R235, whether the next sample starts under R257, the last valid
measurement and setpoint, the begin of the present runs of invalid and of valid inputs, the value tracked, the writes and
events that wait, u as it stood before the last sample, and the tick of the last sample. -/
structure Ctx where
  fresh : Bool := true
  y : Int := 0
  yf : Int := 0
  r : Int := 0
  rr : Int := 0
  e : Int := 0
  rq : Int := 0
  p : Int := 0
  d : Int := 0
  aff : Int := 0
  la : Int := 0
  g : Int := 65536
  i : Int := 0
  u : Int := 0
  uBefore : Int := 0
  uPrev : Int := 0
  lastY : Int := 0
  lastR : Int := 0
  invalidFrom : Option Nat := none
  validFrom : Option Nat := none
  writes : List CtxWrite := []
  events : List (Nat × Nat) := []
  lastTick : Nat := 0
  sampled : Bool := false
  reh : Option Reh := none
  deriving DecidableEq, Repr

def Ctx.init : Ctx := {}

/-! ### Solenoid banks and stitch programs (09_solenoid_banks.md) -/

/-- The output conditions of R268. -/
inductive OutCond where
  | off | drive | slowDecay | fastDecay
  deriving DecidableEq, Repr

/-- How a BOOST stitch runs (R282). -/
inductive BoostMode where
  | unset | granted | starved
  deriving DecidableEq, Repr

/-- A pending start (R280-R284): its own copy of the program, request tick, claim, grant once banked, whether the grant
was clipped, the item of an SvCommand, and which waits have been counted. -/
structure PendStart where
  number : Nat
  program : List Nat
  req : Nat
  claim : Nat
  grant : Nat
  banked : Bool
  clipped : Bool
  item : Option Nat
  roomCounted : Bool
  boostCounted : Bool
  deriving DecidableEq, Repr

/-- A solenoid channel (R271-R290). Times are ticks. `begun` is set once the present stitch runs; `due` is the tick in
which it fell due. `peakI` is the current in force of a PEAK or BOOST stitch in mA; `waitCounted` and `roomCounted` say that the
present stitch's wait for the boost or for the peak budget has been counted; `setpoint` is the setpoint without its dither;
`ended` the tick in which the duty limit ended a run, with that run's begin; `shortNow` and `hotNow` say whether a short to supply or an
overheated switch is still detected. -/
structure Sv where
  program : List Nat := []
  cond : OutCond := .off
  condSince : Nat := 0
  begun : Bool := false
  due : Nat := 0
  start : Nat := 0
  boost : BoostMode := .unset
  waitCounted : Bool := false
  roomCounted : Bool := false
  peakI : Nat := 0
  rampFrom : Nat := 0
  setpoint : Nat := 0
  ditherAmp : Nat := 0
  ditherFreq : Nat := 0
  ditherStart : Nat := 0
  loops : Tab Nat := ⟨[]⟩
  runningSince : Option Nat := none
  binFrom : Nat := 0
  binAcc : Nat := 0
  bins : List Nat := []
  window : Option (Nat × Nat) := none
  checking : Bool := false
  reached : Option Nat := none
  pending : Option PendStart := none
  ext : Nat := 0
  extNeedZero : Bool := false
  ended : Option (Nat × Nat) := none
  testItem : Option Nat := none
  shortNow : Bool := false
  hotNow : Bool := false
  deriving DecidableEq, Repr

def Sv.init : Sv := {}


/-! ### Load channels (10_load_channels.md) -/

/-- A load channel (R297-R324). Times are ticks: the last switch-on, the begin of slew, the last trip, the entry into
ON; `dT` is the fuse model's rise in 2^-16 K (R311); `dc` is the duty in force of a channel that conducts, and `dcNext` the period
boundary at which a changed Dc comes into force (R301). -/
structure Ls where
  onAt : Nat := 0
  slewFrom : Option Nat := none
  tripTick : Nat := 0
  seenOff : Bool := false
  dT : Int := 0
  onSince : Option Nat := none
  stuck : Bool := false
  dc : Int := 0
  dcNext : Option Nat := none
  deriving DecidableEq, Repr

def Ls.init : Ls := {}

/-- A feed group (R298, R318): the tick of its last shedding in the present overload. -/
structure FeedGroup where
  lastShed : Option Nat := none
  deriving DecidableEq, Repr

def FeedGroup.init : FeedGroup := {}


/-! ### Sensing inputs (11_sensing_inputs.md) -/

/-- An analog input (R333, R335): the filter value, none before the first sample; the tick of the newest sample; the begin
of its run outside the valid band, and the newest tick of that band's violation. -/
structure Ain where
  y : Option Int := none
  lastTick : Nat := 0
  outFrom : Option Nat := none
  lastOut : Nat := 0
  deriving DecidableEq, Repr

def Ain.init : Ain := {}

/-- A frequency input (R337-R342): ticks of enabling and of the last edge, the last intervals (newest first), edges since
the index, whether the index is known, the position count from it (positions or quadrature counts, falling in reverse), and
the ticks of the last discarded count and of the last edge above 200 kHz, and the previous peak of a VR signal in mV. -/
structure FinIn where
  enabledAt : Nat := 0
  lastEdge : Option Nat := none
  intervals : List Nat := []
  edges : Nat := 0
  indexed : Bool := false
  pos : Int := 0
  discardAt : Option Nat := none
  overAt : Option Nat := none
  peak : Nat := 0
  deriving DecidableEq, Repr

def FinIn.init : FinIn := {}

/-- A band filter's memory (R343): the last two inputs and outputs. -/
structure Band where
  x1 : Int := 0
  x2 : Int := 0
  y1 : Int := 0
  y2 : Int := 0
  e : Nat := 0
  deriving DecidableEq, Repr

def Band.init : Band := {}

/-- An acoustic input (R343-R346). `cfg` holds the thresholds in force: on, off, dead time, longest burst, heavy peak,
grain band, grain share, and the four band centres; `grains` the t0 ticks of GRAIN impacts inside the window, `env100` the
sums of env of the last 100 ms, one per 1,000 samples; `closing` a burst that has ended and is not yet classified. -/
structure Acu where
  enabledAt : Nat := 0
  cfg : List Nat := []
  env : Int := 0
  bands : List Band := []
  open_ : Bool := false
  closing : Bool := false
  t0 : Nat := 0
  tEnd : Nat := 0
  hadBurst : Bool := false
  pk : Int := 0
  clipped : Bool := false
  clipAt : Option Nat := none
  grains : List Nat := []
  rateAt : Nat := 0
  noiseFrom : Option Nat := none
  lastNoise : Nat := 0
  envSum : Nat := 0
  envCount : Nat := 0
  env100 : List Nat := []
  deriving DecidableEq, Repr

def Acu.init : Acu := {}

/-- A tare command that averages (R348): its item, begin, sum and count. -/
structure Tare where
  item : Nat
  start : Nat
  sum : Int
  count : Nat
  deriving DecidableEq, Repr

/-- A bridge input (R347-R349): the newest sample's tick, samples at full scale in a row, the tick of the last one, and the
tare commands that average. -/
structure Brg where
  lastTick : Nat := 0
  fullRun : Nat := 0
  lastFull : Nat := 0
  tares : List Tare := []
  deriving DecidableEq, Repr

def Brg.init : Brg := {}

/-- The IMU (R350-R352): gyro bias in 2^-16 urad/s, attitude in 2^-16 urad, the newest sample, its tick, how long each
channel has repeated its value, since when data has been valid, and the last yaw rates with their ticks, newest first. -/
structure Imu where
  bias : List Int := [0, 0, 0]
  pitchQ : Int := 0
  rollQ : Int := 0
  last : List Int := []
  repeats : List Nat := []
  lastTick : Nat := 0
  validFrom : Option Nat := none
  yaw : List (Nat × Int) := []
  deriving DecidableEq, Repr

/-- A sensor supply (R353): off since a tick while it waits for its retry; the tick since which it has been on. -/
structure Supply where
  offAt : Option Nat := none
  onAt : Nat := 0
  deriving DecidableEq, Repr

def Supply.init : Supply := {}


/-! ### The cell fabric and prickings (12_fabric_and_prickings.md) -/

/-- A route entry of a plane (R376). -/
structure Route where
  dest : Nat
  level : Nat
  first : Nat
  mask : Nat
  deriving DecidableEq, Repr

/-- A configuration plane (R358): instruction words and route entries. -/
structure Plane where
  words : List Nat := []
  routes : List Route := []
  deriving DecidableEq, Repr

/-- A LOOP that runs (R362): first instruction, length, passes left with the present one. -/
structure LoopLevel where
  start : Nat
  len : Nat
  left : Nat
  deriving DecidableEq, Repr

/-- An outstanding DRD or DWR request (R362, R366): `issued` is the repeat in which it was issued. -/
structure CellDma where
  write : Bool
  addr : Nat
  line : Nat
  lines : Nat
  pred : Nat
  issued : Nat
  late : Bool
  deriving DecidableEq, Repr

/-- A cell's place (R358): `g` by 2 * register + lane, `v` and `a` by 16 * register + lane, predicates p1-p7 as bits, the
next instruction, running loops, SRAM bytes, planes, requests oldest first, and the words that have arrived on route
entries and are not yet taken. -/
structure Cell where
  g : Tab Int := ⟨[]⟩
  v : Tab Int := ⟨[]⟩
  a : Tab Int := ⟨[]⟩
  p : Nat := 0
  pc : Nat := 0
  loops : List LoopLevel := []
  sram : Tab Nat := ⟨[]⟩
  active : Plane := {}
  shadow : Plane := {}
  dma : List CellDma := []
  inbox : Tab Nat := ⟨[]⟩
  deriving DecidableEq, Repr

def Cell.init : Cell := {}

/-- A scene change in flight (R377-R383): `held` while its trigger axis is INVALID, `evaluated` set once a tick has found
the trigger not passed, `trigTick` the trigger tick. -/
structure Scene where
  item : Nat
  slot : Nat
  trigger : Nat
  dir : Nat
  axis : Nat
  pos : Int
  waitMax : Nat
  acceptTick : Nat
  ready : Bool
  held : Bool
  evaluated : Bool
  trigTick : Option Nat
  deriving DecidableEq, Repr

/-- A region (R367-R388): its running and pending scene change, whether HANDOVER ran in this pass, the end of an output
hold, the tick from which its passes count, OEM values written by the cells and by the dictionary that wait for the boundary (key, bytes, item), and the values
the cells see by entry number. -/
structure Region where
  run : Option Scene := none
  pend : Option Scene := none
  handover : Bool := false
  holdUntil : Nat := 0
  since : Nat := 0
  toDict : List (Nat × Bytes) := []
  toCells : List (Nat × Bytes × Nat) := []
  cellVals : Tab Nat := ⟨[]⟩
  deriving DecidableEq, Repr

def Region.init : Region := {}

/-- A slot of the pricking store (R370, R386): its container, the time of its load, and the kept values of its RW OEM
entries by key. -/
structure PSlot where
  content : Bytes := []
  loadTime : Nat := 0
  kept : List (Nat × Bytes) := []
  deriving DecidableEq, Repr

def PSlot.init : PSlot := {}

/-- A long PrickingLoad that runs (R372): slot, item, container, whether the write was repeated. -/
structure Loading where
  slot : Nat
  item : Nat
  content : Bytes
  repeated : Bool
  deriving DecidableEq, Repr

/-- What the fabric holds beside its cells: bytes of the fabric area of DRAM, and the load in progress. -/
structure Fabric where
  dram : Tab Nat := ⟨[]⟩
  loading : Option Loading := none
  deriving DecidableEq, Repr



/-! ### Understudies and maintenance (13_understudies_and_maintenance.md) -/

/-- The kinds of activity (R399, R401). -/
inductive ActKind where
  | scheduled | commanded | repair
  deriving DecidableEq, Repr

/-- A granted activity (R399): its code, its domain (a quadrant 0-3, a feed group 8-11, 16 converters, 17 DRAM, 18 eMMC,
19 journal, 20 image path), its unit (a place, channel, converter, row or block), the item of a commanded one, its start
and, for a cell test, the begin of its compare phase. -/
structure Activity where
  code : Nat
  domain : Nat
  unit : Nat
  kind : ActKind
  item : Nat
  start : Nat
  phase : Nat
  mark : Nat
  deriving DecidableEq, Repr

/-- What an image slot holds (R408, R561, R562): nothing, or an image with its FirmwareVersion and SecurityVersion. -/
structure FwImage where
  present : Bool
  version : Nat
  security : Nat
  deriving DecidableEq, Repr

/-- The arbiter and the repairs (R391-R410): running activities in grant order, repairs that wait for a commanded
activity (R401), the next place of each quadrant's rotation and the tick of its last start, the ticks at which each DRAM
address gave corrected errors in 24 h, the rows repaired per bank and per device channel with their ticks, the last
standby-core test, the image slots (none: as delivered), the confirmed slot, and the stage that runs: item, image, whether its
write was repeated. -/
structure Maint where
  acts : List Activity := []
  waiting : List Activity := []
  nextPlace : Tab Nat := ⟨[]⟩
  lastRotation : Tab Nat := ⟨[]⟩
  placeRetired : List Nat := []
  rowErrors : List (Nat × Nat) := []
  errorRows : List (Nat × Nat × Nat) := []
  banksUsed : List Nat := []
  singleSince : Option Nat := none
  rebuildGranted : Bool := false
  lastCoreTest : Nat := 0
  segTested : Tab Nat := ⟨[]⟩
  convTested : Tab Nat := ⟨[]⟩
  images : Tab (Option FwImage) := ⟨[]⟩
  confirmed : Nat := 0
  stage : Option (Nat × Bytes × Bool) := none
  deriving DecidableEq, Repr


/-! ### CAN ports (14_can_ports.md) -/

/-- A frame on a bus (R422, R425): the identifier with bit 31 EXTENDED, the format (0 CLASSICAL, 1 FD, 2 FD_BRS), data. -/
structure CanFrame where
  id : Nat
  format : Nat
  data : Bytes
  deriving DecidableEq, Repr

/-- What a port has in transmission or offers: a transmit buffer, or a service frame (R422). -/
inductive TxRef where
  | buffer (b : Nat)
  | service (f : CanFrame)
  deriving DecidableEq, Repr

/-- A transmit buffer (R423, R429): shadow and active copies, a copy that waits for the end of the frame, a request that
has not started, the anchor and count of a CYCLIC buffer, and the waiting commit of a SCHEDULE buffer with its action
time in ns, and whether its window has offered it. -/
structure TxBuf where
  shadow : Bytes := []
  active : Bytes := []
  copyDue : Bool := false
  requested : Bool := false
  anchor : Option Nat := none
  cycles : Nat := 0
  waiting : Bool := false
  action : Nat := 0
  offered : Bool := false
  deriving DecidableEq, Repr

def TxBuf.init : TxBuf := {}

/-- An ISO 11783-3 transport session (R433). -/
structure TpSession where
  source : Nat
  pgn : Nat
  broadcast : Bool
  extended : Bool
  size : Nat
  got : Bytes
  stamp : Nat
  deriving DecidableEq, Repr

/-- A CAN port (R419-R436): what is in transmission and its frame as it started, whether another node's frame is on the bus, the waiting
service frames, the detection (rate, begin of its dwell, good frames), bus-off, the counter latch and the ones before it (newest
first), the reference message, the
NAMEs heard by address, its claim, the transport sessions, the loop test, and the last frame sent. -/
structure CanPort where
  inTx : Option TxRef := none
  sending : Option CanFrame := none
  busBusy : Bool := false
  service : List CanFrame := []
  rateIdx : Nat := 0
  dwellFrom : Nat := 0
  goodFrames : Nat := 0
  busOffAt : Option Nat := none
  recovering : Bool := false
  c0 : Nat := 0
  k0 : Nat := 0
  latches : List (Nat × Nat) := []
  cycleAt : Nat := 0
  matrixCycle : Nat := 0
  refSeq : Nat := 0
  refSent : Option Nat := none
  refWaiting : Bool := false
  stepFlag : Bool := false
  heard : List (Nat × Nat) := []
  claimedAt : Nat := 0
  tp : List TpSession := []
  received : Option (Nat × Nat × Bytes) := none
  loopItem : Option Nat := none
  lastSent : Option CanFrame := none
  deriving DecidableEq, Repr

def CanPort.init : CanPort := {}

/-! ### Module time, gPTP and the Ethernet switch (15_ethernet_and_time.md) -/

/-- What the sources of contexts had published when the last tick ended (R247): the entries, and the ticks of the newest samples. -/
structure Published where
  regs : Tab Int := ⟨[]⟩
  blobs : Tab Bytes := ⟨[]⟩
  ains : Tab Ain := ⟨[]⟩
  fins : Tab FinIn := ⟨[]⟩
  acus : Tab Acu := ⟨[]⟩
  brgs : Tab Brg := ⟨[]⟩
  imu : Imu := {}
  issuedAt : Option Nat := none
  deriving DecidableEq, Repr

/-- The clocks (R445, R446, R456): tick count since the reset, module time in ns, the phase accumulator's fraction and
its increment in units of 2^-32 of 10 ns, and the servo. `integ` and `rate` are exact, in units of 2^-16 * 10^-8 ppb.
`lastStep` is the tick and size of the last step. -/
structure Clock where
  tick : Nat := 0
  time : Nat := 0
  frac : Nat := 0
  incr : Nat := 4294967296
  integ : Int := 0
  rate : Int := 0
  held : Int := 0
  lockedSince : Bool := false
  everSelected : Bool := false
  confirm : Nat := 0
  firstMeas : Bool := false
  returnStep : Bool := false
  lastAdv : Nat := 10
  stateSince : Nat := 0
  lastStep : Option (Nat × Int) := none
  seen : Published := {}
  deriving DecidableEq, Repr

/-- A two-step Sync waiting for its Follow_Up (R449, R455). -/
structure PendingSync where
  port : Nat
  seqId : Nat
  stampTick : Nat
  stampTime : Int
  correction : Int
  deriving DecidableEq, Repr

/-- A gPTP domain (R449-R455). -/
structure Domain where
  slavePort : Option Nat := none
  syncSeen : Bool := false
  lastSync : Nat := 0
  syncLog : Int := 0
  usableSince : Option Nat := none
  lastMeas : Option Nat := none
  pending : Option PendingSync := none
  relayTime : Int := 0
  relayTick : Nat := 0
  deriving DecidableEq, Repr

def Domain.init : Domain := {}

/-- A frame as a port sends it (R442, R443): egress queue, whether it leaves tagged, its VLAN, addresses, length and bytes. -/
structure SentFrame where
  queue : Nat
  tagged : Bool
  vlan : Nat
  dst : Nat
  src : Nat
  size : Nat
  data : Bytes
  deriving DecidableEq, Repr

/-- An Ethernet port (R440, R443, R449): the vector heard in each domain with its tick and the interval it gave, the interval asked
for, the ticks of the last Sync and Announce sent in each domain and of the last Pdelay_Req, the last sequenceId used, the frames in
its egress queues in the order of their arrival, and the tick until which it sends. -/
structure EthPort where
  annA : Option GmFields := none
  annB : Option GmFields := none
  annTick : Tab Nat := ⟨[]⟩
  annLog : Tab Int := ⟨[]⟩
  queued : List SentFrame := []
  busyUntil : Nat := 0
  askedSync : Option Int := none
  lastSyncOut : Tab Nat := ⟨[]⟩
  lastAnnOut : Tab Nat := ⟨[]⟩
  lastPdelayOut : Nat := 0
  seqOut : Nat := 0
  deriving DecidableEq, Repr

def EthPort.init : EthPort := {}

/-- The gPTP messages the module sends (R449-R453). -/
inductive GptpKind where
  | sync | syncOneStep | followUp | announce | pdelayReq | pdelayResp | pdelayRespFollowUp
  deriving DecidableEq, Repr

/-- A gPTP message handed to an egress port: its time field and its correction field in ns. -/
structure GptpMsg where
  port : Nat
  domain : Nat
  kind : GptpKind
  seqId : Nat
  stamp : Int
  correction : Int
  vector : Option GmFields
  deriving DecidableEq, Repr

/-- A learned MAC address (R441). -/
structure MacEntry where
  vlan : Nat
  addr : Nat
  port : Nat
  seen : Nat
  deriving DecidableEq, Repr

/-- What the interval of a PPS edge says of it (R454): it only starts a run, lies within the tolerance, or does not. -/
inductive PpsKind where
  | start | inTolerance | outOfTolerance
  deriving DecidableEq, Repr

/-- A PPS edge that may still take a label (R462): its tick, its stamp, and its kind. -/
structure PpsEdge where
  tick : Nat
  stamp : Nat
  kind : PpsKind
  deriving DecidableEq, Repr

/-- The switch and the PPS input. `awaiting` holds event messages waiting for their egress, `stamps` the transmit
timestamp queue (R452), `lastSent` the last frame each port sent. PPS (R454, R462): the last edge at the pin, the edges
that still wait for their label, the run of accepted edges, and the last labelled edge with its label (R461); `rmc` the day, speed and course of the last RMC
sentence (R460). -/
structure Net where
  ports : Tab EthPort := ⟨[]⟩
  domains : Tab Domain := ⟨[]⟩
  macs : List MacEntry := []
  lastSent : Tab (Option SentFrame) := ⟨[]⟩
  awaiting : List GptpMsg := []
  stamps : List (GptpMsg × Int) := []
  general : List GptpMsg := []
  ifLease : Tab Nat := ⟨[]⟩
  ifDiscover : Tab Nat := ⟨[]⟩
  ppsEdge : Option Nat := none
  ppsWaiting : List PpsEdge := []
  ppsRun : Nat := 0
  ppsLastAccepted : Option Nat := none
  ppsUsableSince : Option Nat := none
  ppsLastMeas : Option Nat := none
  ppsLabelled : Option (Nat × Nat × Nat) := none
  rmc : Option (Nat × Int × Int) := none
  height : Int := 0
  deriving DecidableEq, Repr

/-! ### The prompt book (16_prompt_book.md) -/

/-- A prompt-book record (R465), without its derived CRC. -/
structure Rec where
  seq : Nat
  time : Nat
  tick : Nat
  opTime : Nat
  cycles : Nat
  epoch : Nat
  source : Nat
  code : Nat
  unit : Nat
  flags : Nat
  payload : Bytes
  deriving DecidableEq, Repr

/-- A suppression counter (R471, R473). -/
structure Supp where
  count : Nat := 0
  first : Nat := 0
  last : Nat := 0
  deriving DecidableEq, Repr

def Supp.init : Supp := {}

/-- The prompt book (R465-R479). `running` holds (slot, record) of the running area; `head` counts the slots ever taken
and `tail` is the first slot of the oldest block; `offered` holds the records offered in the running tick in the order of offering,
`waiting` the records that are never suppressed while staging
has no free entry (R471); `oldest` is the oldest readable RecordSeq of the running
area; `eraseItem` the RecordClear whose erase runs, `erasing` its UpToSeq (also after a reset); `opSaved` the tick of the last
save of OperatingTime (R467). -/
structure Book where
  offered : List Rec := []
  staged : List Rec := []
  waiting : List Rec := []
  running : List (Nat × Rec) := []
  head : Nat := 0
  tail : Nat := 0
  oldest : Nat := 1
  firstNight : List Rec := []
  clearingLog : List Rec := []
  supp : Tab Supp := ⟨[]⟩
  closed : Bool := false
  eraseItem : Option Nat := none
  erasing : Option Nat := none
  pageBusy : Bool := false
  opSaved : Nat := 0
  deriving DecidableEq, Repr

/-- A clearing nonce of a session (R475): value and the tick at which it expires. -/
structure Nonce where
  value : Nat
  expires : Nat
  deriving DecidableEq, Repr

/-- A session's copy of 0x2210 (R477). -/
structure Window where
  start : Nat := 1
  count : Nat := 256
  area : Nat := 0
  deriving DecidableEq, Repr

def Window.init : Window := {}

/-! ### Yield, field and fleet services (17_harvest_and_fleet_services.md) -/

/-- The topics the module publishes on (R497). -/
inductive Topic where
  | status | pos | yield | alert | rdv | spout | dictRsp
  deriving DecidableEq, Repr

/-- An outbound MQTT message (R497, R500). -/
structure Msg where
  topic : Topic
  payload : Bytes
  deriving DecidableEq, Repr

/-- A CONNECT packet of the fleet client with the connection it is sent on (R496). -/
structure Connect where
  address : Nat
  port : Nat
  vlan : Nat
  serverName : Bytes
  clientId : Bytes
  cleanStart : Nat
  sessionExpiry : Nat
  keepAlive : Nat
  receiveMax : Nat
  maxPacket : Nat
  willTopic : Bytes
  willQos : Nat
  willRetain : Bool
  willPayload : Bytes
  deriving DecidableEq, Repr

/-- The fleet client (R496-R500): the outbound queue oldest first, the last message sent on each topic, the will, the CONNECT packet of
the connection, the topics it has subscribed to, the back-off interval in s, whether an attempt is under way, and the ticks of the last publications and of the
disconnection. -/
structure Fleet where
  queue : List Msg := []
  lastSent : Tab (Option Msg) := ⟨[]⟩
  will : Bytes := []
  connect : Option Connect := none
  subscriptions : List Bytes := []
  subscribed : Bool := false
  backoff : Nat := 1
  trying : Bool := false
  retryAt : Nat := 0
  lastStatus : Nat := 0
  statusSeen : Bytes := []
  lastPos : Nat := 0
  lastYield : Nat := 0
  lastRdv : Nat := 0
  lastSpout : Nat := 0
  lostAt : Option Nat := none
  deriving DecidableEq, Repr

/-- A strip of the yield service (R487, R488): its start tick, the poses of the implement reference point at its start and
end (east, north in 2^-32 um, heading), travel of the axis in 2^-32 um, width in mm, and masses in units of 10 ug (mg/s in
10 ms): assigned, and pooled, and module time at its end. `closed` is set once its pool is spread, `deposited` once it stands in the map. -/
structure Strip where
  start : Nat
  e0 : Int
  n0 : Int
  h0 : Int
  e1 : Int
  n1 : Int
  h1 : Int
  travel : Int
  width : Nat
  wet : Int
  dry : Int
  poolWet : Int
  poolDry : Int
  time : Nat
  closed : Bool
  deposited : Bool
  deriving DecidableEq, Repr

/-- A strip that is open: its start tick, pose, axis position and width. -/
structure OpenStrip where
  start : Nat
  e : Int
  n : Int
  h : Int
  pos : Int
  width : Nat
  deriving DecidableEq, Repr

/-- A yield cell (R490): wet and dry mass in units of 10 ug, area in mm2; its layout shows them in g and cm2. -/
structure YCell where
  wet : Int := 0
  dry : Int := 0
  area : Int := 0
  deriving DecidableEq, Repr

def YCell.init : YCell := {}

/-- A yield tile (R490): cells by r * 64 + c, first and last deposit, and the tick of its first unwritten deposit. -/
structure YTile where
  present : Bool := false
  cells : Tab YCell := ⟨[]⟩
  first : Nat := 0
  last : Nat := 0
  moisture : Nat := 0
  dirtyFrom : Option Nat := none
  deriving DecidableEq, Repr

def YTile.init : YTile := {}

/-- The yield service (R486-R491): strips oldest first, the open strip, the flows of the last second newest first, totals
in units of 10 ug, harvested area in mm2, tiles of the open field, the ticks at which moisture or flow was last invalid
and a tile was last wanting, and the ticks of the last sample and loss update. -/
structure Yield where
  strips : List Strip := []
  cur : Option OpenStrip := none
  flows : List Int := []
  loadWet : Int := 0
  loadDry : Int := 0
  unassigned : Int := 0
  area : Int := 0
  tiles : Tab YTile := ⟨[]⟩
  badMoisture : Option Nat := none
  badFlow : Option Nat := none
  tilesFull : Option Nat := none
  sampledAt : Nat := 0
  lossAt : Nat := 0
  deriving DecidableEq, Repr

/-- An archived coverage tile: its layers and bits (R142, R145). -/
structure CovArc where
  layers : Nat := 0
  bits : Tab Nat := ⟨[]⟩
  deriving DecidableEq, Repr

def CovArc.init : CovArc := {}

/-- What the archive holds of a field (R481-R485): its mask, its coverage tiles and yield tiles by key, and the time-log
rows of its deposited strips (R494). -/
structure FieldArc where
  mask : Bytes := []
  cov : Tab CovArc := ⟨[]⟩
  yield : Tab YTile := ⟨[]⟩
  rows : List (List Int) := []
  deriving DecidableEq, Repr

def FieldArc.init : FieldArc := {}

/-- The archive and its long works: an OpenField sequence (item, field, tick), an ArchiveErase (item, value, tick; item 0
after a reset has ended it), an ExportBuild (item, field, format), and the files of the last build. -/
structure Archive where
  fields : Tab FieldArc := ⟨[]⟩
  opening : Option (Nat × Nat × Nat) := none
  erasing : Option (Nat × Nat × Nat) := none
  building : Option (Nat × Nat × Nat) := none
  files : List Bytes := []
  blocksLost : Nat := 0
  deriving DecidableEq, Repr

/-- The unload rendezvous (R501, R502): the last valid fill in Q7.24, whether it is valid, the fill at acceptance, the tick
until which a cancel keeps IDLE, the point (east, north in um, heading), the time to full in ms, and the tick of the last
evaluation. -/
structure Rdv where
  fill : Int := 0
  valid : Bool := false
  atAccept : Int := 0
  holdUntil : Nat := 0
  east : Int := 0
  north : Int := 0
  heading : Int := 0
  timeToFull : Nat := 0xFFFFFFFF
  lastEval : Nat := 0
  deriving DecidableEq, Repr


/-! ### Panel drive and service tag (18_display_and_tag.md) -/

/-- A pending flip (R511): its item (0 for a PRICKING request), buffer and expected CRC. -/
structure Flip where
  item : Nat
  buffer : Nat
  crc : Nat
  deriving DecidableEq, Repr

/-- A video window at the frame latch (R507, R508): whether it shows a display output, its camera, the buffer that the
scan-out reads and its frame. -/
structure VideoWindow where
  shown : Bool := false
  sensor : Nat := 0
  buffer : Nat := 0
  sequence : Nat := 0
  deriving DecidableEq, Repr

def VideoWindow.init : VideoWindow := {}

/-- A setting of the panel that waits for the frame latch (R520), with its item. -/
structure LatchSetting where
  idx : Nat
  sub : Nat
  data : Bytes
  item : Nat
  deriving DecidableEq, Repr

/-- The panel drive (R505-R515): the tick and item of a running power-up, the tick of a running power-down and whether it
ends in FAULT, how many ticks of the power-up had passed when it began and whether PANEL_VDD went off at once, the display frame region by byte offset (none: as the reset left it) and the FillColour that filled its UI
buffers, the pending flip, the expected CRC of the front buffer, mismatches in a row, whether a flip has been taken since the
last frame, the FlipCount last taken, the settings that wait for the frame latch, and the windows as latched. -/
structure Panel where
  upFrom : Option Nat := none
  upItem : Nat := 0
  downFrom : Option Nat := none
  downFault : Bool := false
  upFor : Nat := 0
  vddCut : Bool := false
  mem : Tab (Option Nat) := ⟨[]⟩
  fill : Nat := 0
  flip : Option Flip := none
  expected : Nat := 0
  mismatches : Nat := 0
  flipped : Bool := false
  taken : Nat := 0
  settings : List LatchSetting := []
  windows : Tab VideoWindow := ⟨[]⟩
  deriving DecidableEq, Repr

/-- The service tag (R516-R519), which outlasts every reset: the content being written and that which waits (RecordSeq and
payload), the tick of its update (none: it began before the last reset), the content shown, whether the check of R519 has run since the start, and the OBJECT_EVENT
records since then: their number and the last three as (source, unit, index, subindex), newest first (R517). -/
structure Tag where
  writing : Option (Nat × Bytes) := none
  phaseFrom : Option Nat := none
  waiting : Option (Nat × Bytes) := none
  shown : Bytes := []
  checked : Bool := false
  faults : Nat := 0
  events : List (Nat × Nat × Nat × Nat) := []
  deriving DecidableEq, Repr



/-! ### Thermal zones and fans (19_thermal_and_fans.md) -/

/-- A zone (R524, R534): its held threshold temperature, the begin of its time at the shutdown limit and of its time below the
release temperature, and the tick of its last step. -/
structure Zone where
  th : Option Int := none
  atLimit : Option Nat := none
  belowFrom : Option Nat := none
  lastStep : Nat := 0
  deriving DecidableEq, Repr

def Zone.init : Zone := {}

/-- A fan (R526-R533): the Dc it commands outside stretch windows stands in FanDuty; `spent` are the ticks that the running
start or wait has used while the channel permitted it; the begin of the running window and of the last one; windows without a measurement in a row; the begin of a time more than 20 % below the target. -/
structure Fan where
  spent : Nat := 0
  window : Option Nat := none
  lastWindow : Nat := 0
  missed : Nat := 0
  slowFrom : Option Nat := none
  deriving DecidableEq, Repr

def Fan.init : Fan := {}



/-! ### Power, standby and start-up (20_power_and_startup.md) -/

/-- Where the module's logic stands (R544-R548): off before the first supply, in standby, running a start or running. -/
inductive PowerPhase where
  | off | sealedStandby | listening | up
  deriving DecidableEq, Repr

/-- The kinds of reset (R86, R550). -/
inductive ResetKind where
  | supplyLoss | standbyWake | commanded | watchdog
  deriving DecidableEq, Repr

/-- A start that is due (R548): the kind of its reset, its WakeSource and WakePort. -/
structure Start where
  kind : ResetKind
  source : Nat
  port : Nat
  deriving DecidableEq, Repr

/-- The power service: the phase of the logic and the start that is due; since when WAKE has read inactive (R544); the tick at
which a standby entry began its wait (R545); since when the hold-up store carries the logic (R539). -/
structure Power where
  phase : PowerPhase := .off
  start : Option Start := some ⟨.supplyLoss, 4, 0xFF⟩
  inactiveFrom : Option Nat := none
  entry : Option Nat := none
  holdFrom : Option Nat := none
  deriving DecidableEq, Repr



/-! ### Security functions (21_security.md) -/

/-- A key slot that a key record can install (R556, R557): state 0 EMPTY, 1 INSTALLED, 2 REVOKED. -/
structure KeySlot where
  state : Nat := 0
  counter : Nat := 0
  installed : Nat := 0
  pub : Bytes := []
  deriving DecidableEq, Repr

def KeySlot.init : KeySlot := {}

/-- A session's challenge (R565): value, role, the session's generation, and the tick at which it ends. -/
structure Challenge where
  value : Bytes
  role : Nat
  generation : Nat
  expires : Nat
  deriving DecidableEq, Repr

/-- The failures of a source identity (R567): in a row, lockouts since its last success, and the end of its lockout. -/
structure SourceFails where
  source : Nat
  fails : Nat
  locks : Nat
  until_ : Nat
  deriving DecidableEq, Repr

/-- The security island (R556-R573): ticks of the module's failures in the last 60 s, the end of the module lockout, of a
hold after a glitch, the ticks of glitches, whether the fleet key pair exists, and what the island has saved of its lockouts:
per source its counts and the remaining ticks, and the module's remaining ticks. -/
structure Island where
  sources : List SourceFails := []
  fails : List Nat := []
  lockedUntil : Nat := 0
  heldUntil : Nat := 0
  glitches : List Nat := []
  fleetKey : Bool := false
  saved : List SourceFails := []
  savedModule : Nat := 0
  deriving DecidableEq, Repr


/-- Why the block stops. No command of this block stops it (INVENTORY.md, Faults): the one reason is kept for a command
whose operand names a unit that the spec says does not exist. -/
inductive Fault where
  /-- An operand names a unit the block does not have. Raised by no meaning; safe. -/
  | noSuchUnit
  deriving DecidableEq, Repr

/-- Why the model gives a command no meaning. -/
inductive Refusal where
  /-- The command has no meaning in this model yet. Raised by the dispatch only; safe. -/
  | notModelled (mnemonic : String)
  deriving DecidableEq, Repr

/-- The state (INVENTORY.md, State). `regs` holds the numeric dictionary entries by key (index * 256 + subindex), an
unlisted one being at its Default; `blobs` the byte-string entries. `fresh` counts the free values drawn: it is the
model's own field. `pending` is the queue of waiting commands, first in first out. -/
structure State where
  regs : Tab Int
  blobs : Tab Bytes
  sessions : Tab Session
  sdo : Tab Sdo
  lastReply : Option Reply
  lastSdo : Option SdoAnswer
  ifcPending : List (Nat × Int × Nat)
  jr : Journal
  clock : Clock
  net : Net
  book : Book
  nonces : Tab (Option Nonce)
  windows : Tab Window
  fleet : Fleet
  axes : Tab Axis
  cues : Tab Cue
  lines : Tab Line
  deferred : List Act
  lastAct : Tab Nat
  impls : Tab Impl
  sections : Tab Section
  cov : Coverage
  tc : Tab TcClient
  sv : Tab Sv
  ls : Tab Ls
  feeds : Tab FeedGroup
  maint : Maint
  canBufs : Tab TxBuf
  canPorts : Tab CanPort
  ctxs : Tab Ctx
  caps : Tab Capture
  ains : Tab Ain
  fins : Tab FinIn
  acus : Tab Acu
  brgs : Tab Brg
  imu : Imu
  supplies : Tab Supply
  aligns : Tab Align
  fuse : Fuse
  cams : Tab Cam
  fsync : Tab Fsync
  streams : Tab Stream
  vision : Vision
  cells : Tab Cell
  regions : Tab Region
  slots : Tab PSlot
  fabric : Fabric
  keys : Tab KeySlot
  challenges : Tab (Option Challenge)
  island : Island
  yield : Yield
  archive : Archive
  rdv : Rdv
  panel : Panel
  tag : Tag
  zones : Tab Zone
  fans : Tab Fan
  power : Power
  fresh : Nat
  pending : List Instr
  deriving DecidableEq, Repr

/-- The machine right after its first reset: every register at its Default, every block idle, nothing pending. -/
def State.reset : State where
  regs := ⟨[]⟩
  blobs := ⟨[]⟩
  sessions := ⟨[]⟩
  sdo := ⟨[]⟩
  lastReply := none
  lastSdo := none
  ifcPending := []
  jr := {}
  clock := {}
  net := {}
  book := {}
  nonces := ⟨[]⟩
  windows := ⟨[]⟩
  fleet := {}
  axes := ⟨[]⟩
  cues := ⟨[]⟩
  lines := ⟨[]⟩
  deferred := []
  lastAct := ⟨[]⟩
  impls := ⟨[]⟩
  sections := ⟨[]⟩
  cov := {}
  tc := ⟨[]⟩
  sv := ⟨[]⟩
  ls := ⟨[]⟩
  feeds := ⟨[]⟩
  maint := {}
  canBufs := ⟨[]⟩
  canPorts := ⟨[]⟩
  ctxs := ⟨[]⟩
  caps := ⟨[]⟩
  ains := ⟨[]⟩
  fins := ⟨[]⟩
  acus := ⟨[]⟩
  brgs := ⟨[]⟩
  imu := {}
  supplies := ⟨[]⟩
  aligns := ⟨[]⟩
  fuse := {}
  cams := ⟨[]⟩
  fsync := ⟨[]⟩
  streams := ⟨[]⟩
  vision := {}
  cells := ⟨[]⟩
  regions := ⟨[]⟩
  slots := ⟨[]⟩
  fabric := {}
  keys := ⟨[]⟩
  challenges := ⟨[]⟩
  island := {}
  yield := {}
  archive := {}
  rdv := {}
  panel := {}
  tag := {}
  zones := ⟨[]⟩
  fans := ⟨[]⟩
  power := {}
  fresh := 0
  pending := []

end Sys2Proof.Machine
end

