-- ==== Sys2Proof/Machine/Ops.lean ====
section
/-!
DEFINITION. The named operations over the registers of the block: reading and writing an entry, counters, flags,
times and free values. Every read of a dictionary entry goes through State.reg or State.blob.
-/

namespace Sys2Proof.Machine

/-- Puts an element before the first one that it does not follow. -/
def insertBy {α : Type} (le : α → α → Bool) (x : α) : List α → List α
  | [] => [x]
  | y :: t => if le x y then x :: y :: t else y :: insertBy le x t

/-- A list in order; equal elements keep their order. -/
def sortBy {α : Type} (le : α → α → Bool) (l : List α) : List α := l.foldr (insertBy le) []

/-- Class rating of load channel `n` in mA (R297). -/
def lsClassRating (n : Nat) : Int := if n < 8 then 20000 else if n < 24 then 10000 else 4000

/-- Active segments of load channel `n` (R297). -/
def lsActiveSegments (n : Nat) : Nat := if n < 8 then 4 else if n < 24 then 2 else 1

/-- The row of the object table that holds an entry (R26-R28). -/
def descOf (idx sub : Nat) : Option Desc :=
  (objectsAt idx).find? (fun d => decide (d.lo ≤ idx) && decide (idx ≤ d.hi) && decide (d.slo ≤ sub) && decide (sub ≤ d.shi))

/-- Defaults that the tables give by instance, or that are set at manufacture (R62, R297, R343, R389, R412, R437,
R463, R520, R571). -/
def specialDefault (idx sub : Nat) : Option Int :=
  if idx = 0x1000 then
    if sub = 4 || sub = 6 then some (Config.unitNumber idx sub)
    else if sub = 5 then some (2 * 2 ^ 24 + Config.unitNumber idx sub % 2 ^ 24) else none
  else if idx = 0x2100 && sub = 3 then some (Config.unitNumber idx sub)
  else if idx = 0x2000 && sub = 4 then some 32
  else if 0x4400 ≤ idx && idx < 0x4430 && sub = 9 then some (2 * lsClassRating (idx - 0x4400))
  else if 0x4440 ≤ idx && idx < 0x4470 && sub = 0x0B then some (lsClassRating (idx - 0x4440))
  else if 0x4440 ≤ idx && idx < 0x4470 && sub = 0x0C then some (lsActiveSegments (idx - 0x4440) : Nat)
  else if 0x4860 ≤ idx && idx < 0x4870 && 7 ≤ sub && sub ≤ 0x0A then some (4 * 2 ^ (sub - 7) : Nat)
  else if idx = 0x5600 && 2 ≤ sub then some (Config.unitNumber idx sub)
  else if idx = 0x5860 && sub ≤ 2 then some (Config.unitNumber idx sub)
  else if idx = 0x5C30 && sub = 1 then some 1
  else if idx = 0x5C41 && sub = 2 then some 20
  else none

/-- The Default of a numeric entry (R31). -/
def regDefault (k : Nat) : Int :=
  match specialDefault (k / 256) (k % 256) with
  | some v => v
  | none => match descOf (k / 256) (k % 256) with
    | some d => d.dflt
    | none => 0

/-- The default colour matrix: 4,096 on the diagonal of channels 0-2 (R221). -/
def colourMatrixDefault : Bytes :=
  (List.range 12).flatMap (fun i => encInt 2 (if i % 5 = 0 then 4096 else 0))

/-- The Default of a byte-string entry (R31). -/
def blobDefault (k : Nat) : Bytes :=
  let idx := k / 256
  let sub := k % 256
  if idx = 0x1000 then
    if sub = 1 then utf8Bytes "Casantord 7400" else if sub = 2 then utf8Bytes "CST7400-AQ" else Config.unitBytes idx sub
  else if idx = 0x5600 then Config.unitBytes idx sub
  else if idx = 0x5C10 then Config.unitBytes idx sub
  else if 0x3420 ≤ idx && idx ≤ 0x3429 && sub = 6 then colourMatrixDefault
  else if 0x3430 ≤ idx && idx ≤ 0x3439 then (List.range 884).flatMap (fun _ => leBytes 2 4096)
  else if 0x3450 ≤ idx && idx ≤ 0x3459 then (List.range 1024).flatMap (fun i => leBytes 2 (64 * i))
  else if idx = 0x4890 && sub = 1 then leBytes 4 (2 ^ 30) ++ zeros 12
  else if 0x5810 ≤ idx && idx ≤ 0x5815 && sub = 5 then List.replicate 8 255
  else if idx = 0x5C20 then if sub = 1 then [0x64, 0, 0x7F, 0x3F, 0, 0, 0, 0] else zeros 8
  else if idx = 0x6420 && sub = 5 then (List.range 14).flatMap (fun t => leBytes 2 (1023 - 78 * t))
  else match descOf idx sub with
    | some d => match d.ty with
      | .octets => match d.ranges with
        | [(lo, hi)] => if lo = hi && d.acc ≠ .cmd then zeros hi.toNat else []
        | _ => []
      | _ => []
    | none => []

/-- The value of a numeric entry. -/
def State.reg (s : State) (k : Nat) : Int := s.regs.get (regDefault k) k

/-- Writes a numeric entry; the canonical form is kept. -/
def State.setReg (s : State) (k : Nat) (v : Int) : State := { s with regs := s.regs.set (regDefault k) k v }

/-- The value of a numeric entry that is never negative. -/
def State.regN (s : State) (k : Nat) : Nat := (s.reg k).toNat

/-- The value of a byte-string entry. -/
def State.blob (s : State) (k : Nat) : Bytes := s.blobs.get (blobDefault k) k

def State.setBlob (s : State) (k : Nat) (v : Bytes) : State := { s with blobs := s.blobs.set (blobDefault k) k v }

/-- Bytes of a value of a numeric type (R30); 0 for byte strings. -/
def Ty.size : Ty → Nat
  | .bool | .i8 | .u8 | .enum8 | .bits8 => 1
  | .i16 | .u16 | .enum16 | .bits16 => 2
  | .i32 | .u32 | .q7_24 | .q16_16 | .bits32 => 4
  | .i64 | .u64 | .time64 | .poslin | .posang | .bits64 => 8
  | .str | .octets | .domain => 0

/-- Types whose raw value is signed (R30; POSANG is the signed 64-bit count of R93). -/
def Ty.signed : Ty → Bool
  | .i8 | .i16 | .i32 | .i64 | .q7_24 | .q16_16 | .poslin | .posang => true
  | _ => false

/-- The type codes of R30. -/
def Ty.code : Ty → Nat
  | .bool => 0x01 | .i8 => 0x02 | .i16 => 0x03 | .i32 => 0x04 | .i64 => 0x05
  | .u8 => 0x06 | .u16 => 0x07 | .u32 => 0x08 | .u64 => 0x09
  | .q7_24 => 0x10 | .q16_16 => 0x11 | .time64 => 0x12 | .poslin => 0x13 | .posang => 0x14
  | .enum8 => 0x18 | .enum16 => 0x19 | .bits8 => 0x1A | .bits16 => 0x1B | .bits32 => 0x1C | .bits64 => 0x1D
  | .str => 0x20 | .octets => 0x21 | .domain => 0x22

def Ty.isBytes : Ty → Bool
  | .str | .octets | .domain => true
  | _ => false

def Ty.isBits : Ty → Bool
  | .bits8 | .bits16 | .bits32 | .bits64 => true
  | _ => false

/-- The raw value that the bytes of a numeric value hold (R30). -/
def Ty.decode (t : Ty) (b : Bytes) : Int := if t.signed then leInt b else (leNat b : Nat)

/-- The bytes of a raw value (R30). -/
def Ty.encode (t : Ty) (v : Int) : Bytes := encInt t.size v

/-- The greatest raw value of a numeric type. -/
def Ty.max (t : Ty) : Int := if t.signed then 2 ^ (8 * t.size - 1) - 1 else 2 ^ (8 * t.size) - 1

/-- The least raw value of a numeric type. -/
def Ty.min (t : Ty) : Int := if t.signed then -(2 ^ (8 * t.size - 1)) else 0

/-- The greatest value of an entry's type; counters saturate there (R66, R125, R479 and the other object tables). -/
def regMax (k : Nat) : Int :=
  match descOf (k / 256) (k % 256) with
  | some d => d.ty.max
  | none => 2 ^ 32 - 1

/-- Adds to a counter, saturating. -/
def State.bumpBy (s : State) (k : Nat) (n : Int) : State :=
  s.setReg k (if regMax k < s.reg k + n then regMax k else s.reg k + n)

def State.bump (s : State) (k : Nat) : State := s.bumpBy k 1

/-- Bit `i` of a flag entry. -/
def State.flag (s : State) (k i : Nat) : Bool := bitOf (s.reg k) i

/-- Sets or clears bit `i` of a flag entry. -/
def State.setFlag (s : State) (k i : Nat) (b : Bool) : State := s.setReg k (withBit (s.reg k) i b)

/-- Module time in ns (R446). -/
def State.now (s : State) : Nat := s.clock.time

/-- The tick count, 10 ns a tick (R445). -/
def State.tick (s : State) : Nat := s.clock.tick

/-- Module time of tick `k`, by the map in force in that tick (R426, R446, R447). -/
def State.timeOfTick (s : State) (k : Nat) : Nat :=
  let back : Int := (s.clock.time : Int) - (((s.tick : Int) - k) * (s.clock.incr : Int) * 10) / 2 ^ 32
  match s.clock.lastStep with
  | some (t, d) => if k < t then (back - d).toNat else back.toNat
  | none => back.toNat

/-- Ticks of a time span. -/
abbrev ticksMs (n : Nat) : Nat := n * 100000
abbrev ticksUs (n : Nat) : Nat := n * 100
abbrev ticksS (n : Nat) : Nat := n * 100000000

/-- A condition has held since tick `t0` for at least `d` ticks. -/
def State.heldFor (s : State) (t0 : Option Nat) (d : Nat) : Bool :=
  match t0 with
  | some t => decide (t + d ≤ s.tick)
  | none => false

/-- Keeps the start of a condition's present run: set when the condition begins, cleared when it ends. -/
def since (old : Option Nat) (cond : Bool) (t : Nat) : Option Nat :=
  if cond then (match old with | some x => some x | none => some t) else none

/-- A fresh free value (notes/assumptions/2.md): nothing constrains it. -/
def State.draw (s : State) : Nat × State := (Config.freeValue s.fresh, { s with fresh := s.fresh + 1 })

/-- A fresh free byte string of `n` bytes. -/
def State.drawBytes (s : State) (n : Nat) : Bytes × State :=
  (padTo n (Config.freeBytes s.fresh), { s with fresh := s.fresh + 1 })

/-- The raw bytes that an entry holds in its own registers (R30, R37); entries derived from other state are answered
by Machine/Entries.lean. -/
def State.rawEntry (s : State) (idx sub : Nat) : Bytes :=
  match descOf idx sub with
  | some d => if d.ty.isBytes then s.blob (key idx sub) else d.ty.encode (s.reg (key idx sub))
  | none => []

end Sys2Proof.Machine
end

