-- ==== Sys2Proof/Machine/FleetOps.lean ====
section
/-!
DEFINITION. Publishing on the fleet link: the 4 MiB queue and its drop rule (R497, R500).
-/

namespace Sys2Proof.Machine

/-- QoS of a topic (R497). -/
def Topic.qos : Topic → Nat
  | .pos | .spout => 0
  | _ => 1

def Topic.code : Topic → Nat
  | .status => 0 | .pos => 1 | .yield => 2 | .alert => 3 | .rdv => 4 | .spout => 5 | .dictRsp => 6

/-- Bytes that queued messages take (R500; the payload is what is counted, notes/assumptions/17.md). -/
def queueBytes (q : List Msg) : Nat := (q.map (fun m => m.payload.length)).sum

/-- The queue without its first message of QoS `q`. -/
def dropFirstQos (q : Nat) : List Msg → List Msg
  | [] => []
  | m :: t => if m.topic.qos = q then t else m :: dropFirstQos q t

/-- Drops the oldest QoS 0 message first, then the oldest QoS 1 message, until the queue fits; counts the drops. -/
def dropToFit : Nat → List Msg → List Msg × Nat
  | 0, q => (q, 0)
  | n + 1, q =>
    if queueBytes q ≤ 4194304 then (q, 0)
    else
      let q' := if q.any (fun m => m.topic.qos == 0) then dropFirstQos 0 q else dropFirstQos 1 q
      let r := dropToFit n q'
      (r.1, r.2 + 1)

/-- Sends a message, or queues it while the connection is down (R500). A status or rdv message replaces an older queued
one of its topic. Nothing is published with FleetEnable 0. -/
def State.publish (s : State) (m : Msg) : State :=
  if s.reg K.fleetEnable ≠ 1 then s
  else if s.reg K.fleetState = 2 && s.fleet.queue.isEmpty then
    let s := { s with fleet := { s.fleet with lastSent := s.fleet.lastSent.set none m.topic.code (some m) } }
    s.bump K.messagesSent
  else
    let q := if m.topic = .status || m.topic = .rdv then s.fleet.queue.filter (fun x => x.topic ≠ m.topic) else s.fleet.queue
    let r := dropToFit (q.length + 1) (q ++ [m])
    let s := { s with fleet := { s.fleet with queue := r.1 } }
    let s := s.setReg K.queueUsed ((queueBytes r.1 + 1023) / 1024 : Nat)
    s.bumpBy K.messagesDropped (r.2 : Nat)

/-- Sends every queued message in its order (R500). -/
def State.drainQueue (s : State) : State :=
  let sent := s.fleet.queue.foldl (fun t m => t.set none m.topic.code (some m)) s.fleet.lastSent
  let n := s.fleet.queue.length
  let s := { s with fleet := { s.fleet with queue := [], lastSent := sent } }
  (s.setReg K.queueUsed 0).bumpBy K.messagesSent (n : Nat)

end Sys2Proof.Machine
end

