-- ==== Sys2Proof/Machine/BookOps.lean ====
section
/-!
DEFINITION. Offering records to the prompt book and admitting them (R465-R471, R478).
-/

namespace Sys2Proof.Machine

/-- The record sources of R466. -/
inductive Src where
  | stageManager | journal | axesCues | sections | fusion | vision | control | solenoids | loads | sensing | thermal
  | fabric | maintenance | can | ethernetTime | services | display | security | power | cueMark | prickingEvent
  deriving DecidableEq, Repr

def Src.code : Src → Nat
  | .stageManager => 1 | .journal => 2 | .axesCues => 3 | .sections => 4 | .fusion => 5 | .vision => 6 | .control => 7
  | .solenoids => 8 | .loads => 9 | .sensing => 10 | .thermal => 11 | .fabric => 12 | .maintenance => 13 | .can => 14
  | .ethernetTime => 15 | .services => 16 | .display => 17 | .security => 18 | .power => 19 | .cueMark => 20
  | .prickingEvent => 21

/-- The 128 bytes of a record (R465). -/
def Rec.bytes (r : Rec) : Bytes :=
  let b := leBytes 8 r.seq ++ leBytes 8 r.time ++ leBytes 8 r.tick ++ leBytes 4 r.opTime ++ leBytes 4 r.cycles ++
    leBytes 4 r.epoch ++ leBytes 2 r.source ++ leBytes 2 r.code ++ leBytes 2 r.unit ++ leBytes 1 r.flags ++ zeros 5 ++
    padTo 72 r.payload ++ zeros 4
  b ++ leBytes 4 (crc32 b)

/-- Records that are never suppressed: CLEARED and TAG_CONTENT (R471). -/
def neverSuppressed (code : Nat) : Bool := code == 4 || code == 9

/-- An admitted record whose source is set in AlertSources goes out on the alert topic (R497). -/
def State.alert (s : State) (r : Rec) : State :=
  if s.flag K.alertSources r.source then s.publish ⟨.alert, r.bytes⟩ else s

/-- The tag's count of OBJECT_EVENT records since start-up, and the last three (R517). -/
def State.noteFault (s : State) (source unit idx sub : Nat) : State :=
  { s with tag := { s.tag with
      faults := min 65535 (s.tag.faults + 1), events := ((source, unit, idx, sub) :: s.tag.events).take 3 } }

/-- The head needs a block and none is free (R474): the blocks with the oldest records
are erased. -/
def State.circulate (s : State) : State :=
  let b := s.book
  let tail := b.head + 4096 - s.regN K.runningCapacity
  if b.head % 4096 = 0 && b.tail < tail then
    let left := b.running.filter (fun p => decide (tail ≤ p.1))
    let first := match left with
      | p :: _ => p.2.seq
      | [] => match b.staged with
        | r :: _ => r.seq
        | [] => s.regN K.nextRecordSeq
    { s with book := { b with tail := tail, running := left, oldest := max b.oldest first } }
  else s

/-- A CLEARED record goes to the clearing log, and the area header is written: the records up to its UpToSeq are not readable from
then on, and their blocks are erased (R476). -/
def State.clearUpTo (s : State) (r : Rec) : State :=
  let upTo := fieldU r.payload 8 8
  { s with book := { s.book with clearingLog := s.book.clearingLog ++ [r], oldest := upTo + 1, erasing := some upTo } }

/-- Admits a record into staging with the next RecordSeq (R470); a CLEARED record then clears (R476). -/
def State.admitRecord (s : State) (time tick source code unit : Nat) (payload : Bytes) : State :=
  let seq := s.regN K.nextRecordSeq
  let direct := s.reg K.journalState == 2
  let flags := b2n (s.reg K.timeState == 1) + 2 * b2n (decide (seq ≤ 516096)) + 4 * b2n direct
  let r : Rec := ⟨seq, time, tick, s.regN K.operatingTime, s.regN K.powerCycles, s.regN K.epoch, source, code, unit, flags,
    payload⟩
  let s := s.setReg K.nextRecordSeq (seq + 1 : Nat)
  let s : State := if direct
    then
      let s := s.circulate
      { s with book := { s.book with
             running := s.book.running ++ [(s.book.head, r)], head := s.book.head + 1,
             firstNight := if seq ≤ 516096 then s.book.firstNight ++ [r] else s.book.firstNight,
             pageBusy := true } }
    else { s with book := { s.book with staged := s.book.staged ++ [r] } }
  let s := if code = 4 then s.clearUpTo r else s
  let s := if code = 5 then s.noteFault source unit (fieldU payload 0 2) (fieldU payload 2 1) else s
  s.alert r

/-- Counts a record that is not admitted against its source (R471). -/
def State.suppress (s : State) (source : Nat) : State :=
  let i := source - 1
  let c := s.book.supp.get Supp.init i
  let c' : Supp := ⟨if c.count < 0xFFFFFFFF then c.count + 1 else c.count, if c.count = 0 then s.now else c.first, s.now⟩
  let s := { s with book := { s.book with supp := s.book.supp.set Supp.init i c' } }
  (s.setReg (K.suppressedCount i) c'.count).bump K.recordsSuppressed

/-- Admits a record that was offered or held. -/
def State.admitRec (s : State) (r : Rec) : State := s.admitRecord r.time r.tick r.source r.code r.unit r.payload

/-- An offered record is admitted, counted as suppressed, or, where it is never suppressed, held for the first free entry (R470,
R471, R478). -/
def State.admitOffer (s : State) (r : Rec) : State :=
  if s.reg K.journalState = 2 then
    if s.book.pageBusy then s.suppress r.source else s.admitRec r
  else if s.book.staged.length < 1024 && s.reg K.bookState != 1 then s.admitRec r
  else
    let s := if s.book.staged.length < 1024 then s else if s.reg K.bookState = 3 then s else s.setReg K.bookState 1
    if neverSuppressed r.code then
      if s.book.staged.length < 1024 then s.admitRec r
      else { s with book := { s.book with waiting := s.book.waiting ++ [r] } }
    else s.suppress r.source

/-- Records in ascending Source, and in order of offering within one source (R470). -/
def bySource (l : List Rec) : List Rec := (List.range 21).flatMap (fun i => l.filter (fun r => r.source == i + 1))

/-- The records offered in the tick are admitted (R470). -/
def State.admitOffers (s : State) : State :=
  match s.book.offered with
  | [] => s
  | l => (bySource l).foldl State.admitOffer { s with book := { s.book with offered := [] } }

/-- Offers a record of the instant (`time`, `tick`) (R470); after beat 4 of the flush it is neither admitted nor counted (R478). -/
def State.offerAt (s : State) (time tick : Nat) (source : Src) (code unit : Nat) (payload : Bytes) : State :=
  if s.book.closed then s
  else { s with book := { s.book with offered := s.book.offered ++ [⟨0, time, tick, 0, 0, 0, source.code, code, unit, 0, payload⟩] } }

/-- Offers a record of this tick. -/
def State.offer (s : State) (source : Src) (code unit : Nat) (payload : Bytes) : State :=
  s.offerAt s.now s.tick source code unit payload

/-- An OBJECT_EVENT record (R468, R469): the entry with its value after the change. -/
def State.event (s : State) (source : Src) (unit idx sub : Nat) (detail : Nat := 0) : State :=
  let v := s.rawEntry idx sub
  let ty := match descOf idx sub with
    | some d => d.ty.code
    | none => 0
  let len := if v.length = 0 then 1 else min v.length 8
  s.offer source 5 unit
    (leBytes 2 idx ++ leBytes 1 sub ++ leBytes 1 ty ++ leBytes 1 len ++ zeros 3 ++ padTo 8 v ++ leBytes 4 detail)

/-- An OBJECT_EVENT record that names an entry by its key. -/
def State.eventKey (s : State) (source : Src) (unit k : Nat) (detail : Nat := 0) : State :=
  s.event source unit (k / 256) (k % 256) detail

end Sys2Proof.Machine
end

