-- ==== Sys2Proof/Machine/JournalOps.lean ====
section
/-!
DEFINITION. The accepted-work journal as shared operations: accepting an item, fixing its outcome, its completion
record, and the items aimed at a function (R70-R92).
-/
namespace Sys2Proof.Machine

/-- Outcomes of R78. -/
inductive Outcome where
  | done | cancelled | missed | interrupted | failed
  deriving DecidableEq, Repr

def Outcome.code : Outcome → Nat
  | .done => 1 | .cancelled => 2 | .missed => 3 | .interrupted => 4 | .failed => 5

/-- Function instances that items are aimed at (R92), as numbers: 0 for no function. -/
abbrev aimSv (n : Nat) : Nat := 0x1000 + n
abbrev aimLs (n : Nat) : Nat := 0x2000 + n
abbrev aimCtx (n : Nat) : Nat := 0x3000 + n
abbrev aimCam (n : Nat) : Nat := 0x4000 + n
abbrev aimAxis (n : Nat) : Nat := 0x5000 + n
abbrev aimLine (n : Nat) : Nat := 0x6000 + n
abbrev aimRegion (n : Nat) : Nat := 0x7000 + n
/-- The cue of a dictionary slot: its own aim; the axis or target it depends on is read from the slot. -/
abbrev aimCue (n : Nat) : Nat := 0x10000 + n

def Access.code : Access → Nat
  | .const => 0 | .ro => 1 | .rw => 2 | .rwv => 3 | .cmd => 4

/-- The ring's records without the oldest one that belongs to no item in flight (R80). -/
def dropOldest (inFlight : List Nat) : List JRec → List JRec
  | [] => []
  | r :: t => if r.seq ∈ inFlight then r :: dropOldest inFlight t else t

/-- Writes a record to the ring (R79, R80); none is written while both copies have failed (R91). -/
def State.jwrite (s : State) (r : JRec) : State :=
  if s.reg K.journalState = 2 then s
  else
    let l := s.jr.records ++ [r]
    let l := if l.length ≤ 65536 then l else dropOldest (s.jr.items.map Item.seq) l
    { s with jr := { s.jr with records := l } }

def State.item (s : State) (seq : Nat) : Option Item := s.jr.items.find? (fun i => i.seq == seq)

def setItems (seq : Nat) (f : Item → Item) (l : List Item) : List Item := l.map (fun i => if i.seq = seq then f i else i)

def State.source (s : State) (id : Nat) : Option Source := s.jr.sources.find? (fun x => x.id == id)

/-- Items of a source in flight (R72). -/
def State.itemsOf (s : State) (id : Nat) : Nat := (s.jr.items.filter (fun i => i.source == id)).length

/-- The source whose last acceptance is oldest among those with no item in flight (R83). -/
def State.reusableSource (s : State) : Option Source :=
  let free := s.jr.sources.filter (fun x => s.itemsOf x.id == 0)
  free.foldl (fun acc x => match acc with
    | none => some x
    | some y => if x.lastAccept < y.lastAccept then some x else some y) none

/-- An entry of the source table exists or can be allocated (R83). -/
def State.sourceAvailable (s : State) (id : Nat) : Bool :=
  (s.source id).isSome || decide (s.jr.sources.length < 64) || (s.reusableSource).isSome

/-- The source table with an entry for `id` (R83); a reused entry starts anew. -/
def State.allocSource (s : State) (id : Nat) : State :=
  if (s.source id).isSome then s
  else
    let fresh : Source := ⟨id, 0, 0, 0, ⟨[]⟩⟩
    let l := if s.jr.sources.length < 64 then s.jr.sources ++ [fresh]
      else match s.reusableSource with
        | some y => s.jr.sources.map (fun x => if x.id = y.id then fresh else x)
        | none => s.jr.sources
    { s with jr := { s.jr with sources := l } }

/-- Changes the source table's entry of `id`. -/
def State.updSource (s : State) (id : Nat) (f : Source → Source) : State :=
  { s with jr := { s.jr with sources := s.jr.sources.map (fun x => if x.id = id then f x else x) } }

/-- The store of a value that is not held inline (R81, R82): 1 for the value area, 2 for the eMMC. -/
def valueStore (ty : Ty) (data : Bytes) : Nat := if data.length ≤ 8192 && ty ≠ .domain then 1 else 2

/-- Where in its store the value of an item lies: no rule says which free place is taken (notes/assumptions/165.md). -/
def valueOffset (store seq : Nat) : Nat := (Config.openResult 82 [(store : Nat), (seq : Nat)]).toNat

/-- The payload of an acceptance record (R81, R82): inline up to 24 bytes, else the store, the offset and the CRC of the stored
value. -/
def acceptPayload (seq : Nat) (ty : Ty) (data : Bytes) : Bytes :=
  if data.length ≤ 24 && ty ≠ .domain then padTo 24 data
  else
    let store := valueStore ty data
    padTo 24 (leBytes 1 store ++ zeros 3 ++ leBytes 8 (valueOffset store seq) ++ leBytes 4 (crc32 data))

/-- The 64 bytes of a record in the ring (R82); both copies of the journal hold them (R79). -/
def JRec.bytes (r : JRec) : Bytes :=
  let b := leBytes 1 r.kind ++ leBytes 1 r.outcome ++ leBytes 1 r.slot ++ leBytes 1 r.access ++ leBytes 4 r.source ++
    leBytes 8 r.seq ++ leBytes 8 r.time ++ leBytes 4 r.srcSeq ++ leBytes 2 r.idx ++ leBytes 1 r.sub ++ leBytes 1 r.ty ++
    leBytes 4 r.len ++ padTo 24 r.payload
  b ++ leBytes 4 (crc32 b)

/-- Accepts an item (R33, R70-R75): it takes the next JournalSeq and its source's next SourceSeq, and its acceptance
record is written. -/
def State.accept (s : State) (slot source : Nat) (access : Access) (idx sub : Nat) (ty : Ty) (data : Bytes) (aim : Nat) :
    State :=
  let s := s.allocSource source
  let seq := s.regN K.nextJournalSeq
  let srcSeq := match s.source source with
    | some x => x.accepted + 1
    | none => 1
  let it : Item := ⟨seq, source, srcSeq, slot, access, idx, sub, ty.code, data, aim, .accepted, 0, 0, 0⟩
  let s := s.updSource source (fun x => { x with accepted := srcSeq, lastAccept := seq })
  let s := { s with jr := { s.jr with items := s.jr.items ++ [it] } }
  let s := s.setReg K.nextJournalSeq (seq + 1 : Nat)
  s.jwrite ⟨0x41, 0, slot, access.code, source, seq, s.now, srcSeq, idx, sub, ty.code, data.length, acceptPayload seq ty data⟩

/-- Changes an item in flight. -/
def State.mapItem (s : State) (seq : Nat) (f : Item → Item) : State :=
  { s with jr := { s.jr with items := setItems seq f s.jr.items } }

/-- The action of an item has begun (R71). -/
def State.startItem (s : State) (seq : Nat) : State :=
  s.mapItem seq (fun i => if i.state = .accepted then { i with state := .started } else i)

/-- Fixes an item's outcome and writes its outcome record (R71, R73); a finished item keeps its outcome. -/
def State.finish (s : State) (seq : Nat) (o : Outcome) (detail : Nat := 0) : State :=
  match s.item seq with
  | some i =>
    if i.state = .finished then s
    else
      let s := s.mapItem seq (fun i => { i with state := .finished, outcome := o.code, detail := detail })
      s.jwrite ⟨0x4F, o.code, i.slot, 0, i.source, seq, s.now, i.srcSeq, i.idx, i.sub, i.ty, i.data.length,
        padTo 24 (leBytes 4 detail)⟩
  | none => s

/-- Finishes an item that a function holds as an optional number. -/
def State.finishOpt (s : State) (seq : Option Nat) (o : Outcome) (detail : Nat := 0) : State :=
  match seq with
  | some q => s.finish q o detail
  | none => s

/-- Every item of a list of numbers finishes. -/
def State.finishAll (s : State) (seqs : List Nat) (o : Outcome) (detail : Nat := 0) : State :=
  seqs.foldl (fun s q => s.finish q o detail) s

/-- Every unfinished item aimed at a function ends CANCELLED (R92). -/
def State.cancelAimed (s : State) (aim : Nat) : State :=
  s.finishAll ((s.jr.items.filter (fun i => i.aim == aim && i.state != .finished)).map Item.seq) .cancelled

/-- An item's completion record may be written: it is FINISHED and no earlier item of its source is in flight (R76). -/
def State.mayComplete (s : State) (i : Item) : Bool :=
  i.state == .finished && s.jr.items.all (fun j => j.source != i.source || decide (i.srcSeq ≤ j.srcSeq))

/-- Ticks for which a session has been idle, without those of a busy interface (R47). -/
def State.idleFrom (s : State) (last : Nat) : Nat :=
  match s.jr.busySince with
  | some b => if b ≤ last then 0 else b - last
  | none => s.tick - last

/-- The interface is idle again (R63, R66); the idle timers go on from where they stood (R47). -/
def State.clearBusy (s : State) : State :=
  let sessions := (List.range 16).foldl (fun (t : Tab Session) (n : Nat) =>
    let x := t.get Session.init n
    if x.isOpen then t.set Session.init n { x with lastReq := s.tick - s.idleFrom x.lastReq } else t) s.sessions
  let s := { s with sessions := sessions, jr := { s.jr with busySince := none } }
  ((((((s.setReg K.busyState 0).setReg K.busyOperation 0).setReg K.busyProgress 0).setReg K.busyStartTime 0).setReg
    K.busySourceId 0).setReg K.busyJournalSeq 0)

/-- Writes an item's completion record (R70, R76, R80, R82, R85): the record while the item is still in flight; then its completion
slot is set, the item leaves the list, and the busy state ends with the item that began it (R63). -/
def State.complete (s : State) (i : Item) : State :=
  let s := s.jwrite ⟨0x43, i.outcome, i.slot, 0, i.source, i.seq, s.now, i.srcSeq, i.idx, i.sub, i.ty, i.data.length,
    padTo 24 (leBytes 4 i.detail)⟩
  let s := { s with jr := { s.jr with items := s.jr.items.filter (fun j => j.seq != i.seq) } }
  let c : Completion := ⟨i.seq, i.srcSeq, i.outcome, i.resets, i.idx, i.sub, i.detail, s.now⟩
  let s := s.updSource i.source (fun x => { x with completed := i.srcSeq, slots := x.slots.set Completion.init (i.srcSeq % 64) c })
  if s.reg K.busyState = 1 && s.regN K.busyJournalSeq = i.seq then s.clearBusy else s

/-- Writes every completion record that R76 allows, in ascending JournalSeq. -/
def State.completeAllowed (s : State) : State :=
  if s.reg K.journalState = 2 then s
  else s.jr.items.foldl (fun s i => match s.item i.seq with
    | some j => if s.mayComplete j then s.complete j else s
    | none => s) s

/-- Acceptance of a long operation makes the interface busy (R63, R65). -/
def State.beginBusy (s : State) (op source seq : Nat) : State :=
  let s := { s with jr := { s.jr with busySince := some s.tick } }
  ((((((s.setReg K.busyState 1).setReg K.busyOperation op).setReg K.busyProgress 0).setReg K.busyStartTime s.now).setReg
    K.busySourceId source).setReg K.busyJournalSeq seq)

/-- A function instance waits for the safe point of its disable (R92). -/
def State.isDisabling (s : State) (aim : Nat) : Bool := s.jr.disabling.any (fun d => d.aim == aim)

def State.beginDisable (s : State) (aim seq due : Nat) : State :=
  { s with jr := { s.jr with disabling := s.jr.disabling ++ [⟨aim, seq, due⟩] } }

/-- The disable of a function takes effect (R92): its item is DONE and every item aimed at the function CANCELLED. -/
def State.endDisable (s : State) (aim : Nat) : State :=
  let seqs := (s.jr.disabling.filter (fun d => d.aim == aim)).map Disabling.seq
  let s := { s with jr := { s.jr with disabling := s.jr.disabling.filter (fun d => d.aim != aim) } }
  (s.finishAll seqs .done).cancelAimed aim

end Sys2Proof.Machine
end

