-- ==== Sys2Proof/Machine/Pricking.lean ====
section
/-!
DEFINITION. Containers of prickings: their sections (R374-R376), the checks that refuse one, the fusion declaration (R182)
and the OEM declarations (R385).
-/
namespace Sys2Proof.Machine

/-- The header of a container (R375). -/
structure PHeader where
  keyId : Nat
  sections : Nat
  id : Nat
  revision : Nat
  flags : Nat
  panels : Nat
  repeatLength : Nat
  total : Nat
  minFirmware : Nat
  name : Bytes
  deriving DecidableEq, Repr

def pHeader (b : Bytes) : PHeader :=
  ⟨fieldU b 3 1, fieldU b 6 2, fieldU b 8 4, fieldU b 12 2, fieldU b 14 2, fieldU b 16 4, fieldU b 20 4, fieldU b 24 4,
    fieldU b 28 4, field b 40 32⟩

/-- A directory entry (R375): type, offset, length, CRC. -/
structure PSection where
  ty : Nat
  offset : Nat
  len : Nat
  crc : Nat
  deriving DecidableEq, Repr

def pSections (b : Bytes) : List PSection :=
  (List.range (pHeader b).sections).map (fun i =>
    let o := 128 + 16 * i
    ⟨fieldU b o 2, fieldU b (o + 4) 4, fieldU b (o + 8) 4, fieldU b (o + 12) 4⟩)

/-- The bytes of the section of one type, empty where it is absent. -/
def pSection (b : Bytes) (ty : Nat) : Bytes :=
  match (pSections b).find? (fun x => x.ty == ty) with
  | some x => field b x.offset x.len
  | none => []

/-! Instruction words (R361, R362) -/

def wImm (w : Nat) : Nat := w % 2 ^ 28
def wSrcB (w : Nat) : Nat := w / 2 ^ 28 % 256
def wSrcA (w : Nat) : Nat := w / 2 ^ 36 % 256
def wDst (w : Nat) : Nat := w / 2 ^ 44 % 256
def wOp (w : Nat) : Nat := w / 2 ^ 56 % 32
def wClass (w : Nat) : Nat := w / 2 ^ 61 % 8

/-- Operations of each class (R362). -/
def opsOfClass (c : Nat) : Nat := [8, 10, 6, 5, 6, 3, 4, 6].getD c 0

/-- Operand codes that R361 lists. -/
def operandOk (c : Nat) : Bool :=
  decide (c ≤ 0x3F) || (0x40 ≤ c && c ≤ 0x4F) || c == 0x50 || c == 0x51 || (0x58 ≤ c && c ≤ 0x5F) || c == 0xFF

/-- The word is one of R362's, its operands are listed, and the 4 lines of a LUT's table lie in the SRAM (R376). -/
def wordOk (w : Nat) : Bool :=
  decide (wOp w < opsOfClass (wClass w)) && operandOk (wDst w) && operandOk (wSrcA w) && operandOk (wSrcB w) &&
  (!(wClass w == 3 && wOp w == 1) || decide (wImm w + 4 ≤ 512))

/-- A LOOP word (R362): instructions in its body and passes. -/
def isLoop (w : Nat) : Bool := wClass w == 6 && wOp w == 1
def loopBody (w : Nat) : Nat := wImm w % 512
def loopTimes (w : Nat) : Nat := wImm w / 512 % 65536

/-- Cycles of a program, loops included; none where a loop is empty, runs out of the program, or nests deeper than
`depth` (R359, R376). `fuel` is the number of words. -/
def passCycles : Nat → Nat → List Nat → Option Nat
  | _, _, [] => some 0
  | 0, _, _ :: _ => none
  | fuel + 1, depth, w :: t =>
    if isLoop w then
      if depth = 0 || loopBody w = 0 || loopTimes w = 0 || t.length < loopBody w then none
      else match passCycles fuel (depth - 1) (t.take (loopBody w)), passCycles fuel depth (t.drop (loopBody w)) with
        | some b, some r => some (1 + b * loopTimes w + r)
        | _, _ => none
    else match passCycles fuel depth t with
      | some r => some (1 + r)
      | none => none

/-! Sections (R376) -/

/-- The planes of one cell. -/
structure CellPlane where
  cell : Nat
  plane : Plane
  deriving DecidableEq, Repr

def readWords : Nat → Bytes → List Nat
  | 0, _ => []
  | n + 1, b => leNat (b.take 8) :: readWords n (b.drop 8)

def readRoutes : Nat → Bytes → List Route
  | 0, _ => []
  | n + 1, b => ⟨fieldU b 0 2, fieldU b 2 1, fieldU b 3 1, fieldU b 4 4⟩ :: readRoutes n (b.drop 16)

/-- The records of PLANES, none where they do not fill the section. `fuel` bounds the records. -/
def readPlanes : Nat → Bytes → Option (List CellPlane)
  | _, [] => some []
  | 0, _ => none
  | fuel + 1, b =>
    let words := fieldU b 2 2
    let routes := fieldU b 4 2
    let size := 8 + 8 * words + 16 * routes
    if b.length < size || words = 0 || 512 < words || 64 < routes then none
    else match readPlanes fuel (b.drop size) with
      | some l => some (⟨fieldU b 0 2, ⟨readWords words (b.drop 8), readRoutes routes (b.drop (8 + 8 * words))⟩⟩ :: l)
      | none => none

/-- Lines of one cell's SRAM with their content (SRAM_INIT) or their handover register (STATE). -/
structure SramBlock where
  hid : Nat
  cell : Nat
  first : Nat
  lines : Nat
  data : Bytes
  deriving DecidableEq, Repr

def readInit : Nat → Bytes → Option (List SramBlock)
  | _, [] => some []
  | 0, _ => none
  | fuel + 1, b =>
    let lines := fieldU b 4 2
    let size := 8 + 64 * lines
    if b.length < size then none
    else match readInit fuel (b.drop size) with
      | some l => some (⟨0, fieldU b 0 2, fieldU b 2 2, lines, field b 8 (64 * lines)⟩ :: l)
      | none => none

def readState : Nat → Bytes → Option (List SramBlock)
  | _, [] => some []
  | 0, _ => none
  | fuel + 1, b =>
    if b.length < 8 then none
    else match readState fuel (b.drop 8) with
      | some l => some (⟨fieldU b 0 2, fieldU b 2 2, fieldU b 4 2, fieldU b 6 2, []⟩ :: l)
      | none => none

/-- A DRAM window: base, length, kind (0 CONSTANT, 1 STATE, 2 SCRATCH), handover register, image. -/
structure Window' where
  base : Nat
  len : Nat
  kind : Nat
  hid : Nat
  data : Bytes
  deriving DecidableEq, Repr

def readWindows : Nat → Bytes → Option (List Window')
  | _, [] => some []
  | 0, _ => none
  | fuel + 1, b =>
    let len := fieldU b 8 4
    let kind := fieldU b 12 1
    let size := 16 + (if kind = 0 then len else 0)
    if b.length < size || 2 < kind then none
    else match readWindows fuel (b.drop size) with
      | some l => some (⟨fieldU b 0 8, len, kind, fieldU b 14 2, if kind = 0 then field b 16 len else []⟩ :: l)
      | none => none

/-- An OEM entry's declaration; `unit` and `name` as in R62. -/
structure OemEntry where
  idx : Nat
  sub : Nat
  ty : Ty
  acc : Access
  rd : Nat
  wr : Nat
  dflt : Int
  lo : Int
  hi : Int
  name : Bytes
  deriving DecidableEq, Repr

def tyOfCode (c : Nat) : Option Ty :=
  [Ty.bool, .i8, .i16, .i32, .i64, .u8, .u16, .u32, .u64, .q7_24, .q16_16, .time64, .poslin, .posang, .enum8, .enum16,
    .bits8, .bits16, .bits32, .bits64, .str, .octets, .domain].find? (fun t => match t with
      | .bool => c == 1 | .i8 => c == 2 | .i16 => c == 3 | .i32 => c == 4 | .i64 => c == 5 | .u8 => c == 6 | .u16 => c == 7
      | .u32 => c == 8 | .u64 => c == 9 | .q7_24 => c == 0x10 | .q16_16 => c == 0x11 | .time64 => c == 0x12
      | .poslin => c == 0x13 | .posang => c == 0x14 | .enum8 => c == 0x18 | .enum16 => c == 0x19 | .bits8 => c == 0x1A
      | .bits16 => c == 0x1B | .bits32 => c == 0x1C | .bits64 => c == 0x1D | .str => c == 0x20 | .octets => c == 0x21
      | .domain => c == 0x22)

def accessOfCode (c : Nat) : Option Access :=
  match c with
  | 0 => some .const | 1 => some .ro | 2 => some .rw | 3 => some .rwv | 4 => some .cmd | _ => none

/-- The signedness of a declared bound follows its type. -/
def boundOf (t : Ty) (b : Bytes) : Int := if t.signed then leInt b else (leNat b : Nat)

/-- The records of OBJECTS: 7 bytes, Default, Minimum and Maximum of 8 bytes each, then a length byte and the name
(notes/assumptions/51.md). -/
def readObjects : Nat → Bytes → Option (List OemEntry)
  | _, [] => some []
  | 0, _ => none
  | fuel + 1, b =>
    let nl := fieldU b 31 1
    if b.length < 32 + nl then none
    else match tyOfCode (fieldU b 3 1), accessOfCode (fieldU b 4 1), readObjects fuel (b.drop (32 + nl)) with
      | some t, some a, some l =>
        some (⟨fieldU b 0 2, fieldU b 2 1, t, a, fieldU b 5 1, fieldU b 6 1, boundOf t (field b 7 8),
          boundOf t (field b 15 8), boundOf t (field b 23 8), field b 32 nl⟩ :: l)
      | _, _, _ => none

def pPlanes (b : Bytes) : List CellPlane := (readPlanes 4096 (pSection b 1)).getD []
def pInit (b : Bytes) : List SramBlock := (readInit (pSection b 2).length (pSection b 2)).getD []
def pState (b : Bytes) : List SramBlock := (readState (pSection b 3).length (pSection b 3)).getD []
def pWindows (b : Bytes) : List Window' := (readWindows (pSection b 4).length (pSection b 4)).getD []
def pObjects (b : Bytes) : List OemEntry := (readObjects 257 (pSection b 5)).getD []

/-- Claimed delay lines (bit n: line n), internal cue slots, and ring and die-link slots as numbers of 2 bytes
(notes/assumptions/51.md). -/
def pLineMask (b : Bytes) : Nat := fieldU (pSection b 6) 0 2
def pCueClaim (b : Bytes) : Nat := fieldU (pSection b 6) 2 2
def pairsOf : Bytes → List Nat
  | a :: b :: t => leNat [a, b] :: pairsOf t
  | _ => []
def pLinkSlots (b : Bytes) : List Nat := pairsOf ((pSection b 6).drop 4)

/-- The fusion declaration (R182); its fields stand in the order of the table as 4-byte numbers (notes/assumptions/51.md). -/
structure FusionDecl where
  inputLayout : Nat
  outputLayout : Nat
  planes : Nat
  other : Nat
  layoutId : Nat
  warmup : Nat
  stepMax : Nat
  deriving DecidableEq, Repr

def pFusion (b : Bytes) : Option FusionDecl :=
  let x := pSection b 7
  if x.length = 28 && (fieldU b 14 2).testBit 1 then
    some ⟨fieldU x 0 4, fieldU x 4 4, fieldU x 8 4, fieldU x 12 4, fieldU x 16 4, fieldU x 20 4, fieldU x 24 4⟩
  else none

/-- The checks of R182. -/
def fusionDeclOk (period : Nat) (d : FusionDecl) : Bool :=
  d.inputLayout == 1 && d.outputLayout == 1 && decide (d.planes ≤ 1024) && decide (d.other ≤ 33554432) &&
  decide (1 ≤ d.warmup) && decide (d.warmup ≤ 60) && decide (d.stepMax + 2000000 ≤ period)

/-- The panel of a place q * 512 + p * 64 + s * 8 + c, as a bit of RegionPanels (R367). -/
def panelOf (place : Nat) : Nat := place / 64

/-- Lines `a` and `b` of one cell overlap. -/
def blocksOverlap (a b : SramBlock) : Bool :=
  a.cell == b.cell && decide (a.first < b.first + b.lines) && decide (b.first < a.first + a.lines)

def windowsOverlap (a b : Window') : Bool := decide (a.base < b.base + b.len) && decide (b.base < a.base + a.len)

/-- Zero padding after a name. -/
def nameOk (b : Bytes) : Bool :=
  let t := b.takeWhile (· != 0)
  utf8Ok t && allZero (b.drop t.length)

/-- The container is well formed (R374-R376). -/
def containerOk (b : Bytes) : Bool :=
  let h := pHeader b
  let ss := pSections b
  let cells (c : Nat) : Bool := decide (c < 2048) && h.panels.testBit (panelOf c)
  let regs := (pState b).map SramBlock.hid ++ ((pWindows b).filter (fun w => w.kind == 1 && w.hid != 0)).map Window'.hid
  decide (400 ≤ b.length) && fieldU b 0 2 == 0x5052 && fieldU b 2 1 == 1 && fieldU b 4 2 == 128 &&
  decide (1 ≤ h.sections) && decide (h.sections ≤ 16) && h.id != 0 && decide (h.flags < 4) && h.panels != 0 &&
  decide (16 ≤ h.repeatLength) && decide (h.repeatLength ≤ 10000000) && h.total == b.length && nameOk h.name &&
  allZero (field b 72 56) && h.keyId == fieldU b (b.length - 104) 1 &&
  ss.all (fun x => 1 ≤ x.ty && x.ty ≤ 7 && decide (128 + 16 * h.sections ≤ x.offset) &&
    decide (x.offset + x.len + 104 ≤ b.length) && crc32 (field b x.offset x.len) == x.crc) &&
  decide (ss.map PSection.ty).Nodup && ss.any (fun x => x.ty == 1) &&
  (ss.any (fun x => x.ty == 7) == h.flags.testBit 1) && (!h.flags.testBit 1 || (pFusion b).isSome) &&
  (match readPlanes 4096 (pSection b 1) with
    | some l => l.all (fun c => cells c.cell && c.plane.words.all wordOk &&
        passCycles c.plane.words.length 4 c.plane.words == some h.repeatLength)
    | none => false) &&
  (readInit (pSection b 2).length (pSection b 2)).isSome && (readState (pSection b 3).length (pSection b 3)).isSome &&
  (readWindows (pSection b 4).length (pSection b 4)).isSome && (readObjects 257 (pSection b 5)).isSome &&
  decide ((pObjects b).length ≤ 256) && (pObjects b).all (fun o => 0x7000 ≤ o.idx && o.idx < 0x8000) &&
  (pInit b ++ pState b).all (fun x => cells x.cell && decide (x.first + x.lines ≤ 512)) &&
  (pWindows b).all (fun w => decide (w.base + w.len ≤ 2 ^ 32)) &&
  (pInit b).all (fun x => (pState b).all (fun y => !blocksOverlap x y)) &&
  decide regs.Nodup && regs.all (fun x => x != 0)

/-- What the signature covers, and the signature (R374). -/
def signedPart (b : Bytes) : Bytes := b.take (b.length - 104)
def signatureOf (b : Bytes) : Bytes := field b (b.length - 96) 96

/-! Slots and running prickings -/

def State.pslot (s : State) (n : Nat) : PSlot := s.slots.get PSlot.init n
def State.setPslot (s : State) (n : Nat) (x : PSlot) : State := { s with slots := s.slots.set PSlot.init n x }
def State.region (s : State) (n : Nat) : Region := s.regions.get Region.init n
def State.setRegion (s : State) (n : Nat) (x : Region) : State := { s with regions := s.regions.set Region.init n x }

/-- RegionState codes (R368). -/
abbrev rgUndefined : Int := 0
abbrev rgEmpty : Int := 1
abbrev rgRunning : Int := 2
abbrev rgFault : Int := 3

/-- The container that region `r` runs; empty where none runs. A region in FAULT keeps its pricking's objects. -/
def State.runningOf (s : State) (r : Nat) : Bytes :=
  if s.regN (K.runningSlot r) < 32 then (s.pslot (s.regN (K.runningSlot r))).content else []

/-- Regions with a running slot. -/
def State.activeRegions (s : State) : List Nat := (List.range 32).filter (fun r => decide (s.regN (K.runningSlot r) < 32))

/-- The containers whose claims are held: of running prickings, and of scene changes in flight (R387). -/
def State.claimHolders (s : State) : List Bytes :=
  (List.range 32).flatMap (fun r =>
    let x := s.region r
    let of (c : Option Scene) : List Bytes := match c with
      | some c => [(s.pslot c.slot).content]
      | none => []
    s.runningOf r :: of x.run ++ of x.pend)

/-- Internal cue slots that prickings claim (R387). -/
def State.cueClaims (s : State) : Nat := (s.claimHolders.map pCueClaim).sum

/-- The region and declaration of an OEM entry that is present (R29). -/
def State.oemEntry (s : State) (idx sub : Nat) : Option (Nat × OemEntry) :=
  s.activeRegions.findSome? (fun r =>
    match (pObjects (s.runningOf r)).find? (fun o => o.idx == idx && o.sub == sub) with
    | some o => some (r, o)
    | none => none)

end Sys2Proof.Machine
end

