-- ==== Sys2Proof/Machine/OemOps.lean ====
section
/-!
DEFINITION. OEM objects: entries that running prickings declare (R29, R385).
-/
namespace Sys2Proof.Machine

/-- The description of an OEM entry (R29, R62, R376). -/
def State.oemDesc (s : State) (idx sub : Nat) : Option Desc :=
  match s.oemEntry idx sub with
  | some (_, o) => some ⟨idx, idx, sub, sub, "", o.ty, o.acc, o.rd, o.wr, o.dflt, [(o.lo, o.hi)], ""⟩
  | none => none

/-- Whether a running pricking declares an entry at an index. -/
def State.oemIndex (s : State) (idx : Nat) : Bool :=
  s.activeRegions.any (fun r => (pObjects (s.runningOf r)).any (fun o => o.idx == idx))

end Sys2Proof.Machine
end

