-- ==== Sys2Proof/Machine/RequestOps.lean ====
section
/-!
DEFINITION. Requests as one shared operation: the checks of R41 in their order, acceptance, and the effect that the
entry's own chapter gives (WriteRule). Every write command and every transport goes through State.submit.
-/
namespace Sys2Proof.Machine

/-- What an entry's chapter adds to R41: the owner check of R19, the long operation it starts (R63, R77), the function
checks, the function it is aimed at (R92), its effect on acceptance (given the item's number, which it starts or
finishes), and what a refusal does beside refusing (R69). -/
structure WriteRule where
  owner : State → Bytes → Bool := fun _ _ => false
  long : Option Nat := none
  check : State → Nat → Bytes → Option Abort := fun _ _ _ => none
  aim : State → Bytes → Nat := fun _ _ => 0
  effect : State → Nat → Nat → Bytes → State
  refused : State → Nat → Abort → State := fun s _ _ => s

def State.sess (s : State) (slot : Nat) : Session := s.sessions.get Session.init slot

def State.setSess (s : State) (slot : Nat) (x : Session) : State :=
  { s with sessions := s.sessions.set Session.init slot x }

/-- SessionId: slot in bits 0-7, generation in bits 8-15 (R43). -/
def State.sessionId (s : State) (slot : Nat) : Nat :=
  if (s.sess slot).isOpen then slot + 256 * (s.sess slot).generation else 0

/-- The transport of a slot (R43): 1 CAN_SDO, 2 UDP, 3 INTERNAL. -/
def slotTransport (slot : Nat) : Nat := if slot < 6 then 1 else if slot = 6 then 3 else 2

/-- The roles a session holds, bit n for the role with code n (R39). -/
def State.roles (s : State) (slot : Nat) : Nat := Nat.lor 1 (2 ^ (s.sess slot).role)

/-- A row that names an index (R28, R571: only listed KeyIds have a KeyInfo index). -/
def keyIdListed (k : Nat) : Bool :=
  k == 1 || k == 2 || k == 3 || k == 0x10 || (0x20 ≤ k && k ≤ 0x23) || (0x30 ≤ k && k ≤ 0x33) ||
  (0x40 ≤ k && k ≤ 0x43) || (0x50 ≤ k && k ≤ 0x53) || k == 0x60

/-- The description of an entry: an object-table row, or an OEM declaration (R29). -/
def State.entryDesc (s : State) (idx sub : Nat) : Option Desc :=
  if 0x7000 ≤ idx && idx < 0x8000 then s.oemDesc idx sub
  else if 0x2180 ≤ idx && idx ≤ 0x21E0 && !keyIdListed (idx - 0x2180) then none
  else descOf idx sub

/-- The rows of an object. -/
def objRows (idx : Nat) : List Desc := (objectsAt idx).filter (fun d => decide (d.lo ≤ idx) && decide (idx ≤ d.hi))

/-- The kinds of object (R26). -/
inductive ObjKind where
  | var | array | record
  deriving DecidableEq, Repr

/-- The kind of an object: VAR with an entry at subindex 0, ARRAY with one row of entries, RECORD otherwise
(notes/assumptions/160.md). -/
def objKind (idx : Nat) : ObjKind :=
  match objRows idx with
  | [d] => if d.slo = 0 then .var else .array
  | [] => .var
  | _ => .record

/-- The highest subindex in use (R27). -/
def highestSub (idx : Nat) : Nat := (objRows idx).foldl (fun m d => max m d.shi) 0

/-- The recovery loader runs (R564). -/
def State.inRecovery (s : State) : Bool := s.reg K.securityState == 1

/-- The node-ID of a port's SDO server: SdoNodeId, or 16 while the recovery loader serves it (R50, R564). -/
def State.sdoNode (s : State) (p : Nat) : Nat := if s.inRecovery then 16 else s.regN (K.sdoNodeId p)

/-- The indices that the recovery loader serves (R564). -/
def recoveryIndex (idx : Nat) : Bool :=
  idx == 0x1000 || idx == 0x1F00 || (0x2100 ≤ idx && idx ≤ 0x21FF) || (0x5480 ≤ idx && idx ≤ 0x5483)

/-- Requests are served: from dictionary-ready on while the logic runs, or by the recovery loader (R548, R564). -/
def State.serves (s : State) : Bool := s.power.phase == .up && (s.reg K.powerState != 0 || s.inRecovery)

/-- An index is present (R28, R29, R571); the recovery loader serves only its own (R564). OEM indices are present while a running pricking declares an entry there. -/
def State.indexPresent (s : State) (idx : Nat) : Bool :=
  if s.inRecovery && !recoveryIndex idx then false
  else if 0x7000 ≤ idx && idx < 0x8000 then s.oemIndex idx
  else if 0x2180 ≤ idx && idx ≤ 0x21E0 && !keyIdListed (idx - 0x2180) then false
  else !(objRows idx).isEmpty

/-- Subindex 0 of an ARRAY or RECORD: a U8 CONST entry (R27, R62). -/
def State.isSubZero (s : State) (idx sub : Nat) : Bool :=
  sub == 0 && (if 0x7000 ≤ idx && idx < 0x8000 then (s.oemDesc idx 0).isNone else objKind idx != .var)

/-- The value has one size in bytes: a type of fixed size, or a byte string whose Range is one length (R36). -/
def Desc.fixedSize (d : Desc) : Bool :=
  !d.ty.isBytes || (d.ty == .octets && (match d.ranges with
    | [(a, b)] => a == b
    | _ => false))

/-- The bytes of a value of fixed size. -/
def Desc.size (d : Desc) : Nat := if d.ty.isBytes then (match d.ranges with
  | (a, _) :: _ => a.toNat
  | [] => 0) else d.ty.size

def inRanges (rs : List (Int × Int)) (v : Int) : Bool := rs.any (fun r => decide (r.1 ≤ v) && decide (v ≤ r.2))

/-- The ranges in force for an entry; InrushLimit, DisplayWidth and DisplayHeight take theirs from another value (R224,
R303). -/
def State.rangesOf (s : State) (d : Desc) (idx sub : Nat) : List (Int × Int) :=
  if 0x4400 ≤ idx && idx < 0x4430 && sub = 9 then [(1000, 5 * lsClassRating (idx - 0x4400) / 2)]
  else if 0x3410 ≤ idx && idx ≤ 0x3419 && sub = 0x0D then
    [((s.reg (K.width (idx - 0x3410)) + 7) / 8, s.reg (K.width (idx - 0x3410)))]
  else if 0x3410 ≤ idx && idx ≤ 0x3419 && sub = 0x0E then
    [((s.reg (K.height (idx - 0x3410)) + 7) / 8, s.reg (K.height (idx - 0x3410)))]
  else d.ranges

/-- The least and greatest value of a list of ranges. -/
def rangeMin (rs : List (Int × Int)) : Int := match rs with
  | [] => 0
  | r :: _ => r.1

def rangeMax (rs : List (Int × Int)) : Int := match rs.getLast? with
  | some r => r.2
  | none => 0

/-- A value between two ranges: above the range proper when the last range is one marker value (R503), below it when the
first is, otherwise an unlisted code (notes/assumptions/20.md). -/
def gapAbort (rs : List (Int × Int)) : Abort :=
  match rs with
  | [a, b] => if b.1 = b.2 && a.1 ≠ a.2 then .valueHigh else if a.1 = a.2 && b.1 ≠ b.2 then .valueLow else .valueInvalid
  | _ => .valueInvalid

/-- The type check of R41: the expected type of a UDP request, the length of a numeric value, the length Range of a byte
string (R35). -/
def typeCheck (d : Desc) (typeCode : Nat) (data : Bytes) : Option Abort :=
  if typeCode ≠ 0 && typeCode ≠ d.ty.code then some .typeLength
  else if d.ty.isBytes then need (inRanges d.ranges (data.length : Nat)) .typeLength
  else need (data.length == d.ty.size) .typeLength

/-- Fields of BITS entries hold codes that their tables list (R35): a CanField's length has no code 3 (R244). -/
def fieldCodesOk (idx v : Nat) : Bool := !(0x3800 ≤ idx && idx ≤ 0x387F && v % 2 ^ 16 / 256 % 4 == 3)

/-- The range and value checks of R35. An unlisted ENUM code is VALUE_INVALID wherever it lies (notes/assumptions/130.md). -/
def State.valueCheck (s : State) (d : Desc) (idx sub : Nat) (data : Bytes) : Option Abort :=
  let v := d.ty.decode data
  let rs := s.rangesOf d idx sub
  match d.ty with
  | .octets | .domain => none
  | .str => need (utf8Ok data) .valueInvalid
  | .bool => need (v == 0 || v == 1) .valueInvalid
  | .bits8 | .bits16 | .bits32 | .bits64 =>
    need (Nat.land v.toNat (rangeMax rs).toNat == v.toNat && (v != 0 || rangeMin rs == 0) && fieldCodesOk idx v.toNat) .valueInvalid
  | .enum8 | .enum16 => need (inRanges rs v) .valueInvalid
  | ty =>
    if rangeMax rs < v then some .valueHigh
    else if v < rangeMin rs then some .valueLow
    else if !inRanges rs v then some (gapAbort rs)
    else if ty = .time64 && v % 10 ≠ 0 then some .valueInvalid
    else none

/-- A request to write one entry. -/
structure WriteReq where
  idx : Nat
  sub : Nat
  typeCode : Nat
  data : Bytes
  deriving DecidableEq, Repr

/-- The object, access and role checks of R41 for a write. -/
def State.accessCheck (s : State) (slot idx sub : Nat) : Option Abort :=
  if !s.indexPresent idx then some .noObject
  else if s.isSubZero idx sub then some .readOnly
  else match s.entryDesc idx sub with
    | none => some .noSubindex
    | some d =>
      if d.acc = .const || d.acc = .ro then some .readOnly
      else need (Nat.land (s.roles slot) d.wr != 0) .roleDenied

/-- The work limits, the source table and the journal (R41, R45, R72, R83, R90, R91). -/
def State.limitCheck (s : State) (source : Nat) : Option Abort :=
  if 32 ≤ s.itemsOf source then some .workLimitSession
  else if 128 ≤ s.jr.items.length then some .workLimitModule
  else if !s.sourceAvailable source then some .resourceExhausted
  else if s.reg K.journalState = 2 || !s.jr.accepting then some .journalUnavailable
  else none

/-- The checks of R41 on a single-entry write, in their order (the busy check comes before, from the transport). A write
aimed at a function whose disable is pending is refused (R92). -/
def State.checkWrite (s : State) (slot : Nat) (q : WriteReq) (r : WriteRule) : Option Abort :=
  match s.accessCheck slot q.idx q.sub with
  | some a => some a
  | none => match s.entryDesc q.idx q.sub with
    | none => some .noSubindex
    | some d =>
      match typeCheck d q.typeCode q.data with
      | some a => some a
      | none => match s.valueCheck d q.idx q.sub q.data with
        | some a => some a
        | none =>
          if r.owner s q.data then some .ownerDenied
          else if r.long.isSome && s.itemsOf (s.sess slot).sourceId != 0 then some .stateDenied
          else if r.aim s q.data != 0 && s.isDisabling (r.aim s q.data) then some .functionDisabled
          else match r.check s slot q.data with
            | some a => some a
            | none => s.limitCheck (s.sess slot).sourceId

/-- Refuses a request: nothing changes but what R69 names and the counter of BUSY_CONFLICT refusals (R412). -/
def State.refuse (s : State) (slot : Nat) (r : WriteRule) (a : Abort) : State :=
  let s := if a = .busyConflict then s.bump K.conflicts else s
  r.refused (s.bump K.abortsSent) slot a

/-- Accepts a checked write: the item, the busy state of a long operation, then the effect (R33, R63). -/
def State.acceptWrite (s : State) (slot : Nat) (q : WriteReq) (r : WriteRule) : State :=
  let d := s.entryDesc q.idx q.sub
  let seq := s.regN K.nextJournalSeq
  let src := (s.sess slot).sourceId
  let s := s.accept slot src (match d with
    | some d => d.acc
    | none => .rw) q.idx q.sub (match d with
    | some d => d.ty
    | none => .octets) q.data (r.aim s q.data)
  let s := s.setSess slot { s.sess slot with lastAccepted := seq }
  let s := match r.long with
    | some op => s.beginBusy op src seq
    | none => s
  r.effect s slot seq q.data

/-- A response: status 0 or an abort code, and the item's number (R56). -/
structure Result where
  status : Nat
  jseq : Nat
  deriving DecidableEq, Repr

/-- Judges and carries out a single-entry write (R32, R33, R41). -/
def State.submit (s : State) (slot : Nat) (q : WriteReq) (r : WriteRule) : State × Result :=
  match s.checkWrite slot q r with
  | some a => (s.refuse slot r a, ⟨a.code, 0⟩)
  | none => (s.acceptWrite slot q r, ⟨0, s.regN K.nextJournalSeq⟩)

/-- The type code that a response shows (R56): the entry's, U8 for the count at subindex 0, 0 where there is no such entry. -/
def State.entryType (s : State) (idx sub : Nat) : Nat :=
  if s.isSubZero idx sub then Ty.u8.code
  else match s.entryDesc idx sub with
    | some d => d.ty.code
    | none => 0

/-- The last response, as a session's client reads it: it carries the request's session and number and the entry's type `ty` (R56), also
where the request has ended its session. -/
def State.respond (s : State) (id num op idx sub ty : Nat) (x : Result) : State :=
  { s with lastReply := some ⟨op, 0x0B, id, num, idx, sub, ty, 0, x.status, x.jseq, 0, []⟩ }

/-- A request of a session restarts its idle timer (R47). -/
def State.heard (s : State) (slot : Nat) : State := s.setSess slot { s.sess slot with lastReq := s.tick }

/-- A write request that a transport has delivered whole to slot `slot`: the session and busy checks, then State.submit;
the response is the last one sent (R59, R63, R595; notes/assumptions/7.md). Before dictionary-ready there is no answer (R548). -/
def State.request (s : State) (slot idx sub : Nat) (data : Bytes) (r : WriteRule) : State :=
  let id := s.sessionId slot
  let num := (s.sess slot).lastSeq
  let ty := s.entryType idx sub
  if !s.serves then s
  else if !(s.sess slot).isOpen then (s.bump K.abortsSent).respond id num 0x11 idx sub ty ⟨Abort.noSession.code, 0⟩
  else if s.reg K.busyState = 1 then
    (((s.heard slot).refuse slot r .busy).bump K.busyRefusals).respond id num 0x11 idx sub ty ⟨Abort.busy.code, 0⟩
  else
    let s := s.heard slot
    let x := s.submit slot ⟨idx, sub, 0, data⟩ r
    x.1.respond id num 0x11 idx sub ty x.2

/-- A setting's value comes into force (R32, R38). -/
def State.putEntry (s : State) (idx sub : Nat) (data : Bytes) : State :=
  match s.entryDesc idx sub with
  | some d => if d.ty.isBytes then s.setBlob (key idx sub) data else s.setReg (key idx sub) (d.ty.decode data)
  | none => s

/-- The value of a numeric write. -/
def wval (data : Bytes) : Nat := leNat data

/-- A setting comes into force and its item completes DONE (R32, R38). -/
def State.settle (s : State) (idx sub seq : Nat) (data : Bytes) : State := (s.putEntry idx sub data).finish seq .done

/-- The rule of a setting: a chapter's check and what follows once the value is in force. -/
def settingRule (idx sub : Nat) (check : State → Bytes → Option Abort := fun _ _ => none)
    (after : State → State := fun s => s) : WriteRule where
  check := fun s _ d => check s d
  effect := fun s _ seq d => after (s.settle idx sub seq d)

/-- A setting that is refused while its function is enabled. -/
def lockedRule (idx sub : Nat) (locked : State → Bool) : WriteRule :=
  settingRule idx sub (fun s _ => need (!locked s) .stateDenied)

/-- A command whose action ends in the tick of its acceptance. -/
def commandRule (check : State → Bytes → Option Abort) (act : State → Bytes → State) : WriteRule where
  check := fun s _ d => check s d
  effect := fun s _ seq d => (act s d).finish seq .done

end Sys2Proof.Machine
end

