-- ==== Sys2Proof/Machine/RealOps.lean ====
section
/-!
DEFINITION. Real functions that the spec names: trigonometry, square roots and the tangent plane of R129. Each is computed in
fixed point; what the spec leaves open of its last digits is a value of Config held within the stated bound
(notes/assumptions/4.md).
-/
namespace Sys2Proof.Machine

/-- One in the fixed point of the trigonometric functions: 2^-30. -/
abbrev oneQ : Int := 2 ^ 30

/-- One in the working fixed point: 2^-60. -/
abbrev one60 : Int := 2 ^ 60

/-- A computed value whose last digits are open: any value within `bound` of it. -/
def nearOpen (bound v open_ : Int) : Int := clampI (v - bound) (v + bound) open_

/-- Terms of a Taylor series: each is the one before it times -x^2 / (k (k + 1)), in 2^-60. -/
def taylorFrom (x2 term k : Int) : Nat → Int
  | 0 => 0
  | n + 1 => term + taylorFrom x2 (-(term * x2 / one60) / (k * (k + 1))) (k + 2) n

/-- Sine and cosine of an angle of the first quarter turn, `u` in 2^-62 turn, in 2^-60; pi/2 is 1811004864519280710 there. -/
def sinCosQuarter (u : Int) : Int × Int :=
  let x := u * 1811004864519280710 / one60
  let x2 := x * x / one60
  (taylorFrom x2 x 2 16, taylorFrom x2 one60 1 16)

/-- Sine and cosine of an angle in 2^-62 turn, in 2^-60. -/
def sinCos60 (t : Int) : Int × Int :=
  let r := t % 2 ^ 62
  let p := sinCosQuarter (r % one60)
  if r < one60 then p else if r < 2 * one60 then (p.2, -p.1) else if r < 3 * one60 then (-p.1, -p.2) else (-p.2, p.1)

/-- Rounds a value in 2^-60 to 2^-30. -/
def to30 (v : Int) : Int := (v + 2 ^ 29) / 2 ^ 30

/-- Sine of an angle in 2^-32 turn, in 2^-30: at least 24 fraction bits of it are right (R134). -/
def sinQ (a : Int) : Int :=
  let r := a % 2 ^ 32
  if r = 0 || r = 2 ^ 31 then 0 else if r = 2 ^ 30 then oneQ else if r = 3 * 2 ^ 30 then -oneQ
  else nearOpen 63 (to30 (sinCos60 (r * 2 ^ 30)).1) (Config.realFn 1 r 0)

/-- Cosine of an angle in 2^-32 turn, in 2^-30: at least 24 fraction bits of it are right (R134). -/
def cosQ (a : Int) : Int :=
  let r := a % 2 ^ 32
  if r = 2 ^ 30 || r = 3 * 2 ^ 30 then 0 else if r = 0 then oneQ else if r = 2 ^ 31 then -oneQ
  else nearOpen 63 (to30 (sinCos60 (r * 2 ^ 30)).2) (Config.realFn 2 r 0)

/-- Bits of an angle in the first quarter turn, from 2^-62 turn times 2^(n - 1) down: the greatest angle whose tangent is
not above y / x. -/
def atanBits (y x : Int) : Nat → Int → Int
  | 0, t => t
  | n + 1, t =>
    let u := t + 2 ^ n
    let p := sinCosQuarter u
    atanBits y x n (if p.1 * x ≤ p.2 * y then u else t)

/-- The angle of (x, y) counted from x toward y, in 2^-62 turn, above -2^61 and up to 2^61. -/
def atan62 (y x : Int) : Int :=
  let q := if absI x = 0 then (if y = 0 then 0 else one60) else atanBits (absI y) (absI x) 60 0
  let h := if x < 0 then 2 ^ 61 - q else q
  if y < 0 then -h else h

/-- The angle of (x, y) counted from x toward y, in 2^-32 turn, its last digit open. -/
def atan2Q (y x : Int) : Int :=
  if y = 0 then (if x < 0 then 2 ^ 31 else 0) else if x = 0 then (if 0 < y then 2 ^ 30 else -(2 ^ 30))
  else nearOpen 1 (atan62 y x / 2 ^ 30) (Config.realFn 3 y x)

/-- Bits of an integer square root, from 2^(n - 1) down. -/
def sqrtBits (v : Nat) : Nat → Nat → Nat
  | 0, r => r
  | n + 1, r => sqrtBits v n (if (r + 2 ^ n) * (r + 2 ^ n) ≤ v then r + 2 ^ n else r)

/-- Integer square root of a value that is not negative. -/
def sqrtI (v : Int) : Int := (sqrtBits v.toNat (v.toNat.log2 / 2 + 1) 0 : Nat)

/-- `acc * x ^ (f / 2^16)` for a positive `x`, both in 2^-60: a square root for each of the 16 bits of `f`, the highest first. -/
def rootPow : Nat → Nat → Int → Int → Int
  | 0, _, _, acc => acc
  | n + 1, f, x, acc =>
    let r := sqrtI (x * one60)
    rootPow n (2 * f % 65536) r (if 65536 ≤ 2 * f then acc * r / one60 else acc)

/-- `(a / b) ^ (k / 2^16)` in 2^-60, for positive `a` and `b`. -/
def ratioPow (a b : Int) (k : Nat) : Int :=
  let x := a * one60 / b
  rootPow 16 (k % 65536) x ((List.range (k / 65536)).foldl (fun p _ => p * x / one60) one60)

/-- `v` times a 2^-30 factor, truncated (R15). -/
def mulQ (v f : Int) : Int := (v * f).tdiv oneQ

/-- A point (x, y) of a frame with origin (e, n) and heading `h` in the field frame (R129). -/
def toField (e n h x y : Int) : Int × Int :=
  (e + mulQ x (sinQ h) - mulQ y (cosQ h), n + mulQ x (cosQ h) + mulQ y (sinQ h))

/-- The component of a field difference along heading `h` (R95, R103). -/
def alongHeading (de dn h : Int) : Int := mulQ de (sinQ h) + mulQ dn (cosQ h)

/-! The WGS 84 ellipsoid and the tangent plane (R129) -/

/-- A geodetic position: latitude and longitude in 10^-9 degree, height above the ellipsoid in um. -/
structure Geo where
  lat : Int
  lon : Int
  height : Int
  deriving DecidableEq, Repr

/-- An angle in 10^-9 degree, in 2^-62 turn. -/
def turnOfDegree (d : Int) : Int := d * 2 ^ 62 / (360 * 10 ^ 9)

/-- Semi-major axis of WGS 84 in 2^-20 um, and the square of its eccentricity in 2^-60. -/
abbrev wgsA : Int := 6378137000000 * 2 ^ 20
abbrev wgsE2 : Int := one60 * 66943799901413 / 10 ^ 16

/-- Radius of curvature in the prime vertical at a latitude of this sine, in 2^-20 um. -/
def primeVertical (sinLat : Int) : Int :=
  wgsA * one60 / sqrtI ((one60 - wgsE2 * (sinLat * sinLat / one60) / one60) * one60)

/-- Earth-centred coordinates of a position, in 2^-20 um. -/
def Geo.ecef (g : Geo) : Int × Int × Int :=
  let la := sinCos60 (turnOfDegree g.lat)
  let lo := sinCos60 (turnOfDegree g.lon)
  let r := primeVertical la.1
  let h := g.height * 2 ^ 20
  let flat := (r + h) * la.2 / one60
  (flat * lo.2 / one60, flat * lo.1 / one60, ((one60 - wgsE2) * r / one60 + h) * la.1 / one60)

/-- East and north of a position in the plane tangent at an origin, in um (R129). -/
def Geo.inPlane (o g : Geo) : Int × Int :=
  let a := o.ecef
  let b := g.ecef
  let dx := b.1 - a.1
  let dy := b.2.1 - a.2.1
  let dz := b.2.2 - a.2.2
  let la := sinCos60 (turnOfDegree o.lat)
  let lo := sinCos60 (turnOfDegree o.lon)
  let out := (lo.2 * dx + lo.1 * dy) / one60
  (((lo.2 * dy - lo.1 * dx) / one60) / 2 ^ 20, ((la.2 * dz - la.1 * out) / one60) / 2 ^ 20)

/-- The latitude, in 2^-62 turn, at a distance `p` from the axis and a height `z` over the equator's plane: the iteration
tan(lat) = (z + e^2 N sin(lat)) / p. -/
def latOf (p z : Int) : Nat → Int → Int
  | 0, t => t
  | n + 1, t =>
    let sn := (sinCos60 t).1
    latOf p z n (atan62 (z + wgsE2 * (primeVertical sn * sn / one60) / one60) p)

/-- Latitude and longitude, in 10^-7 degree, of a point of the tangent plane at an origin, `e` and `n` in um (R129). -/
def Geo.ofPlane (o : Geo) (e n : Int) : Int × Int :=
  let a := o.ecef
  let la := sinCos60 (turnOfDegree o.lat)
  let lo := sinCos60 (turnOfDegree o.lon)
  let e := e * 2 ^ 20
  let n := n * 2 ^ 20
  let x := a.1 - (lo.1 * e + la.1 * lo.2 / one60 * n) / one60
  let y := a.2.1 + (lo.2 * e - la.1 * lo.1 / one60 * n) / one60
  let z := a.2.2 + la.2 * n / one60
  let p := sqrtI (x * x + y * y)
  let degree (t : Int) : Int := (t * (360 * 10 ^ 7) + 2 ^ 61) / 2 ^ 62
  (degree (latOf p z 8 (atan62 z p)), degree (atan62 y x))

end Sys2Proof.Machine
end

