-- ==== Sys2Proof/Machine/SceneOps.lean ====
section
/-!
DEFINITION. Scene changes as shared operations (R377-R384): fit, the end of a change and what follows for the pending one,
and what a lost or resumed trigger axis does to them.
-/
namespace Sys2Proof.Machine

/-- SceneState codes (R380). -/
abbrev scNone : Int := 0
abbrev scStaging : Int := 1
abbrev scReady : Int := 2
abbrev scHeld : Int := 3

/-- The container of a scene change's slot; empty for EMPTY. -/
def State.sceneContent (s : State) (slot : Nat) : Bytes := if slot < 32 then (s.pslot slot).content else []

/-- A handover register in two prickings has the same place and length in each (R379). -/
def handoverFits (a b : Bytes) : Bool :=
  (pState a).all (fun x =>
    (pState b).all (fun y => x.hid != y.hid || (x.cell == y.cell && x.first == y.first && x.lines == y.lines)) &&
    (pWindows b).all (fun y => y.kind != 1 || x.hid != y.hid)) &&
  ((pWindows a).filter (fun x => x.kind == 1 && x.hid != 0)).all (fun x =>
    (pWindows b).all (fun y => y.kind != 1 || x.hid != y.hid || (x.base == y.base && x.len == y.len)) &&
    (pState b).all (fun y => x.hid != y.hid))

/-- Claims that two prickings of different regions cannot share: OEM indices, delay lines, ring and die-link slots. -/
def claimsClash (a b : Bytes) : Bool :=
  (pObjects a).any (fun x => (pObjects b).any (fun y => x.idx == y.idx)) ||
  Nat.land (pLineMask a) (pLineMask b) != 0 || (pLinkSlots a).any (fun x => (pLinkSlots b).contains x)

/-- Prickings of other regions: running, or incoming by an accepted change (R379). -/
def State.otherHolders (s : State) (r : Nat) : List Bytes :=
  ((List.range 32).filter (fun q => q != r)).flatMap (fun q =>
    let x := s.region q
    let of (c : Option Scene) : List Bytes := match c with
      | some c => [s.sceneContent c.slot]
      | none => []
    s.runningOf q :: of x.run ++ of x.pend)

/-- Fit of an incoming pricking in a region against an outgoing one (R379). -/
def State.sceneFits (s : State) (r : Nat) (incoming outgoing : Bytes) : Bool :=
  (pHeader incoming).panels == s.regN (K.regionPanels r) &&
  (pInit incoming).all (fun x => (pInit outgoing ++ pState outgoing).all (fun y => !blocksOverlap x y)) &&
  ((pWindows incoming).filter (fun x => x.kind == 0)).all (fun x => (pWindows outgoing).all (fun y => !windowsOverlap x y)) &&
  handoverFits incoming outgoing && (s.otherHolders r).all (fun o => !claimsClash incoming o)

/-- Shows the changes of a region (R389). -/
def State.showScene (s : State) (r : Nat) : State :=
  let x := s.region r
  let s := match x.run with
    | some c => (s.setReg (K.sceneState r) (if c.held then scHeld else if c.ready then scReady else scStaging)).setReg
        (K.sceneSeq r) (c.item : Nat)
    | none => (s.setReg (K.sceneState r) scNone).setReg (K.sceneSeq r) 0
  s.setReg (K.pendingSeq r) (match x.pend with
    | some c => (c.item : Nat)
    | none => 0)

/-- An outcome of a scene change is counted and its item finishes (R383). -/
def State.sceneOutcome (s : State) (r item : Nat) (o : Outcome) (detail : Nat) : State :=
  let s := match o with
    | .missed => s.bump (K.scenesMissed r)
    | .failed => s.bump (K.scenesFailed r)
    | _ => s
  s.finish item o detail

/-- The pending change becomes the running one and begins staging; it fails where it no longer fits (R382). -/
def State.scenePromote (s : State) (r : Nat) : State :=
  let x := s.region r
  match x.run, x.pend with
  | none, some c =>
    if c.slot = 0xFF || s.sceneFits r (s.sceneContent c.slot) (s.runningOf r) then
      ((s.setRegion r { x with run := some c, pend := none }).startItem c.item).showScene r
    else ((s.setRegion r { x with pend := none }).sceneOutcome r c.item .failed Abort.dependency.code).showScene r
  | _, _ => s.showScene r

/-- Cells of a region's panels, active places only (R358, R367). -/
def State.regionPlaces (s : State) (r : Nat) : List Nat :=
  (List.range 2048).filter (fun p => (s.regN (K.regionPanels r)).testBit (panelOf p))

def State.cell (s : State) (p : Nat) : Cell := s.cells.get Cell.init p
def State.setCell (s : State) (p : Nat) (x : Cell) : State := { s with cells := s.cells.set Cell.init p x }

/-- The shadow of a region's cells is discarded. -/
def State.dropShadow (s : State) (r : Nat) : State :=
  (s.regionPlaces r).foldl (fun (s : State) (p : Nat) => s.setCell p { s.cell p with shadow := {} }) s

/-- The running change of a region ends (R382, R383). -/
def State.sceneEnd (s : State) (r : Nat) (o : Outcome) (detail : Nat := 0) : State :=
  match (s.region r).run with
  | none => s
  | some c =>
    let s := if o = .done then s else s.dropShadow r
    let s := s.setRegion r { s.region r with run := none }
    (s.sceneOutcome r c.item o detail).scenePromote r

/-- The pending change of a region ends. -/
def State.scenePendEnd (s : State) (r : Nat) (o : Outcome) (detail : Nat := 0) : State :=
  match (s.region r).pend with
  | none => s
  | some c =>
    ((s.setRegion r { s.region r with pend := none }).sceneOutcome r c.item o detail).showScene r

/-- A change whose trigger is the position of an axis. -/
def Scene.onAxis (c : Scene) (n : Nat) : Bool := c.trigger == 2 && c.axis == n && c.trigTick.isNone

/-- Changes that wait for an axis that has become INVALID are HELD (R101, R380). -/
def State.holdScenes (s : State) (n : Nat) : State :=
  (List.range 32).foldl (fun (s : State) (r : Nat) =>
    let x := s.region r
    let h (c : Option Scene) : Option Scene := c.map (fun c => if c.onAxis n then { c with held := true } else c)
    if x.run.any (fun c => c.onAxis n) || x.pend.any (fun c => c.onAxis n) then
      (s.setRegion r { x with run := h x.run, pend := h x.pend }).showScene r
    else s) s

/-- Held changes at the resume of their axis (R105, R380): MISSED where it is not continuous or was passed, else evaluated
again. `held` and `new` are axis values in 2^-32 unit. -/
def State.resumeScenes (s : State) (n : Nat) (continuous : Bool) (held new : Int) : State :=
  (List.range 32).foldl (fun (s : State) (r : Nat) =>
    let gone (c : Scene) : Bool := c.onAxis n && c.held &&
      (!continuous || (decide (min held new ≤ c.pos * 2 ^ 32) && decide (c.pos * 2 ^ 32 ≤ max held new)))
    let free (c : Scene) : Scene := if c.onAxis n then { c with held := false, evaluated := false, acceptTick := s.tick } else c
    let s : State := if (s.region r).pend.any gone then s.scenePendEnd r .missed else s
    let s : State := if (s.region r).run.any gone then s.sceneEnd r .missed else s
    let x := s.region r
    if x.run.any (fun c => c.onAxis n) || x.pend.any (fun c => c.onAxis n) then
      (s.setRegion r { x with run := x.run.map free, pend := x.pend.map free }).showScene r
    else s) s

end Sys2Proof.Machine
end

