-- ==== Sys2Proof/Machine/AxisOps.lean ====
section
/-!
DEFINITION. Position axes as shared operations: values (R100), prediction (R106), the hold of an INVALID axis,
discontinuities (R103, R124), and the speed of an implement's reference point (R128-R136).
-/
namespace Sys2Proof.Machine

/-- AxisState codes (R101). -/
abbrev axDisabled : Int := 0
abbrev axInitialising : Int := 1
abbrev axValid : Int := 2
abbrev axDegraded : Int := 3
abbrev axInvalid : Int := 4

def State.axis (s : State) (n : Nat) : Axis := s.axes.get Axis.init n
def State.setAxis (s : State) (n : Nat) (x : Axis) : State := { s with axes := s.axes.set Axis.init n x }
def State.cue (s : State) (n : Nat) : Cue := s.cues.get Cue.init n
def State.setCue (s : State) (n : Nat) (x : Cue) : State := { s with cues := s.cues.set Cue.init n x }
def State.line (s : State) (n : Nat) : Line := s.lines.get Line.init n
def State.setLine (s : State) (n : Nat) (x : Line) : State := { s with lines := s.lines.set Line.init n x }
def State.impl (s : State) (n : Nat) : Impl := s.impls.get Impl.init n
def State.setImpl (s : State) (n : Nat) (x : Impl) : State := { s with impls := s.impls.set Impl.init n x }

/-- AxisSource codes (R94). -/
def State.axisSource (s : State) (n : Nat) : Int := s.reg (K.axisSource n)
def State.axisIs (s : State) (n : Nat) (src : Int) : Bool := s.reg (K.axisEnable n) == 1 && s.axisSource n == src
def State.axisAngular (s : State) (n : Nat) : Bool := s.axisSource n == 2
def State.axisState (s : State) (n : Nat) : Int := s.reg (K.axisState n)

/-- The axis holds a value that can be followed: VALID or DEGRADED. -/
def State.axisUsable (s : State) (n : Nat) : Bool := s.axisState n == axValid || s.axisState n == axDegraded

/-- The scale in which axis values are exact at every tick (R100): 2^-32 unit / (2 * 10^16). -/
abbrev exactScale : Int := 2 ^ 32 * (2 * 10 ^ 16)

/-- s + vp * dt + a * dt^2 / 2 with dt in ticks of 10 ns, exact in units of 1 / exactScale (R100). -/
def motionExact (pos vp a : Int) (dt : Int) : Int :=
  pos * (2 * 10 ^ 16) + vp * dt * (2 ^ 16 * (2 * 10 ^ 8)) + a * dt * dt * 2 ^ 16

/-- An INVALID or INITIALISING axis holds its value; the others move between publish instants (R100, R101). -/
def State.axisExact (s : State) (n : Nat) : Int :=
  let x := s.axis n
  if s.axisUsable n then motionExact x.s x.vp x.a ((s.tick : Int) - x.pubTick) else x.s * (2 * 10 ^ 16)

/-- The axis value in its unit, rounded down (R93, R100). -/
def State.axisValue (s : State) (n : Nat) : Int := s.axisExact n / exactScale

/-- The axis value at an earlier or later tick of the present publish step, in 2^-32 unit. -/
def State.axisFine (s : State) (n : Nat) : Int := s.axisExact n / (2 * 10 ^ 16)

/-- The scale in which predicted values are exact for a lead in ns: 100 times exactScale. -/
abbrev predictScale : Int := 100 * exactScale

/-- The value predicted `l` ns ahead of `pos` (1 / exactScale), in 1 / predictScale (R106): no reversal is predicted. -/
def predictExact (pos vp a l : Int) : Int :=
  let ahead := 100 * pos + vp * l * (2 ^ 16 * (2 * 10 ^ 9)) + a * l * l * 2 ^ 16
  if 0 ≤ vp * a then ahead
  else if l * absI a ≤ absI vp * 10 ^ 9 then ahead
  else 100 * pos - (vp * vp * (2 ^ 16 * 10 ^ 18)).tdiv a

/-- The predicted position of axis `n` with lead `lead` ns (R106), in 1 / predictScale. -/
def State.predicted (s : State) (n lead : Nat) : Int :=
  let x := s.axis n
  predictExact (s.axisExact n) x.vp x.a (lead : Nat)

/-- The field origin (R129). -/
def State.fieldOrigin (s : State) : Geo :=
  ⟨100 * s.reg K.originLatitude, 100 * s.reg K.originLongitude, 1000 * s.reg K.originHeight⟩

/-- The implement-0 axis (R131). -/
def State.impl0Axis (s : State) : Option Nat :=
  let n := s.regN (K.sectionAxis 0)
  if s.reg (K.implementEnable 0) = 1 && s.axisIs n 1 then some n else none

/-- Angular rate about z in urad/s (R350). -/
def State.yawRate (s : State) : Int := s.reg (K.imuChannel 5)

/-- The IMU is absent: a failed self-test or a signal error (R127, R352). -/
def State.imuAbsent (s : State) : Bool := s.flag K.imuFlags 5 || s.flag K.imuFlags 7

/-- The newest yaw rate at or before a tick (R339). -/
def State.yawAt (s : State) (t : Nat) : Int :=
  match s.imu.yaw.find? (fun p => decide (p.1 ≤ t)) with
  | some p => p.2
  | none => s.yawRate

/-- The hitch angle of an implement in use at a tick (R136). -/
def State.gammaAt (s : State) (t k : Nat) : Int :=
  match (s.impl k).past.find? (fun p => decide (p.1 ≤ t)) with
  | some p => p.2
  | none => (s.impl k).gamma

/-- Speed (2^-16 um/s) and yaw rate (urad/s) of the reference point of implement `n` with hitch angle `g`, from those of its
parent (R133, R134). -/
def State.childRates (s : State) (n : Nat) (g v w : Int) : Int × Int :=
  if s.reg (K.implementKind n) = 0 then (v - (w * s.reg (K.refY n) * 65536).tdiv 1000, w)
  else
    let hvx := v - (w * s.reg (K.hitchY n) * 65536).tdiv 1000
    let hvy := (w * s.reg (K.hitchX n) * 65536).tdiv 1000
    let vi := mulQ hvx (cosQ g) + mulQ hvy (sinQ g)
    let lat := mulQ hvy (cosQ g) - mulQ hvx (sinQ g)
    (vi, (lat * 1000).tdiv (s.reg (K.drawbarLength n) * 65536))

/-- The same from the machine's, with given hitch angles; `fuel` bounds the chain of parents, which have lower numbers. -/
def State.implRates (s : State) (v w : Int) (g : Nat → Int) : Nat → Nat → Int × Int
  | 0, _ => (v, w)
  | fuel + 1, n =>
    let p := s.regN (K.parent n)
    let vw := if p < n then s.implRates v w g fuel p else (v, w)
    s.childRates n (g n) vw.1 vw.2

/-- The hitch angles in use. -/
def State.gammas (s : State) (k : Nat) : Int := (s.impl k).gamma

/-- Below this speed of the machine, 0.1 m/s, a sample is used unscaled (R136). -/
abbrev slowSpeed : Int := 100000 * 65536

/-- A machine speed of tick `t` as the speed of the axis's implement, with the yaw rate and hitch angles of that tick (R136). -/
def State.axisSpeedAt (s : State) (n t : Nat) (v : Int) : Int :=
  if absI v < slowSpeed then v else (s.implRates v (s.yawAt t) (s.gammaAt t) 4 (s.regN (K.implement n))).1

/-- The machine speed at which implement `n` moves at `vi` (R134, R136): R134 is linear in the machine speed, so two speeds fix
it; open where the implement's speed does not depend on it. Below 0.1 m/s the speed stands unscaled
(notes/assumptions/170.md). -/
def State.machineOf (s : State) (n : Nat) (vi : Int) : Int :=
  let f (v : Int) : Int := (s.implRates v s.yawRate s.gammas 4 n).1
  let unit : Int := 2 ^ 36
  let d := f unit - f 0
  let m := if d = 0 then Config.openResult 136 [vi, s.yawRate, (n : Int)] else ((vi - f 0) * unit).tdiv d
  if absI m < slowSpeed then vi else m

/-- The IMU's longitudinal acceleration with gravity removed by the estimated pitch, scaled by the ratio of the implement's
speed to the machine's (R95, R136, R351), in 2^-16 um/s^2. -/
def State.imuLong (s : State) (n : Nat) : Int :=
  let pitch := s.reg K.pitch
  let g := mulQ 9806650 (sinQ (pitch * 2 ^ 32 / 6283185))
  let acc := (s.reg (K.imuChannel 0) + g) * 65536
  let v := (s.axis n).v
  let m := s.machineOf (s.regN (K.implement n)) v
  if absI m < slowSpeed then acc else (acc * v).tdiv m

/-- A cue slot that is ARMED or HELD. -/
def Cue.active (c : Cue) : Bool := c.state != .free

/-- Numbers of the slots that are ARMED or HELD, in ascending order. -/
def State.activeSlots (s : State) : List Nat := (s.cues.cells.filter (fun p => p.2.active)).map Prod.fst

/-- A cue ends: its slot is FREE in this tick and a dictionary cue's item finishes (R115). -/
def State.endCue (s : State) (slot : Nat) (o : Outcome) (detail : Nat := 0) : State :=
  let c := s.cue slot
  if c.state = .free then s
  else
    let s := s.setCue slot { c with state := .free }
    let s := s.setReg K.armedSlots (s.reg K.armedSlots - 1)
    let s := if o = .missed then s.bump K.cuesMissed else s
    if c.jseq = 0 then s else s.finish c.jseq o detail

/-- Every active cue of a list of slots ends in the same way. -/
def State.endCues (s : State) (slots : List Nat) (o : Outcome) (detail : Nat := 0) : State :=
  slots.foldl (fun s k => s.endCue k o detail) s

/-- Active slots armed on an axis. -/
def State.cuesOnAxis (s : State) (n : Nat) : List Nat := s.activeSlots.filter (fun k => (s.cue k).axis == n)

/-- Active slots aimed at a target. -/
def State.cuesOnTarget (s : State) (kind target : Nat) : List Nat :=
  s.activeSlots.filter (fun k => (s.cue k).kind == kind && (s.cue k).target == target)

/-- Every cue of a disabled target or axis ends CANCELLED (R92, R115). -/
def State.cancelCuesOnTarget (s : State) (kind target : Nat) : State :=
  s.endCues (s.cuesOnTarget kind target) .cancelled

/-- Armed cues of an INVALID axis are HELD (R101). -/
def State.holdCues (s : State) (n : Nat) : State :=
  (s.cuesOnAxis n).foldl (fun s k => s.setCue k { s.cue k with state := .held }) s

/-- The tap positions of a line: the axis value plus each offset (R123), in 2^-32 um. -/
def State.tapPositions (s : State) (n : Nat) : List Int :=
  let v := s.axisFine (s.regN (K.lineAxis n))
  (List.range 8).map (fun j => v + s.reg (K.tapOffset n j) * 2 ^ 32)

/-- Clears a delay line; its marks stand at the tap positions (R124). -/
def State.clearLine (s : State) (n : Nat) : State :=
  let s := s.setLine n ⟨[], false, s.tapPositions n⟩
  ((s.setReg (K.entriesHeld n) 0).setReg (K.lastKey n) 0).setReg (K.tapStarved n) 0xFF

/-- Enabled delay lines of an axis. -/
def State.linesOnAxis (s : State) (n : Nat) : List Nat :=
  (List.range 16).filter (fun l => s.reg (K.lineEnable l) == 1 && s.regN (K.lineAxis l) == n)

/-- A discontinuity clears the delay lines of the axis (R124). -/
def State.clearLinesOf (s : State) (n : Nat) : State := (s.linesOnAxis n).foldl State.clearLine s

/-- Pending coverage marks of implements on an axis are discarded at a discontinuity (R144). -/
def State.dropMarks (s : State) (n : Nat) : State :=
  { s with cov := { s.cov with marks := s.cov.marks.filter (fun m => s.regN (K.sectionAxis m.impl) != n) } }

/-- The snapshot of an axis (R104). -/
def State.axisSnapshot (s : State) (n : Nat) : AxisSnap :=
  let x := s.axis n
  ⟨true, s.axisFine n, x.east, x.north, x.heading, s.regN (K.axisSource n),
    if s.axisAngular n then s.regN (K.shaftInput n) else s.regN (K.implement n), x.haveFix⟩

/-- The snapshot fits the configuration of the axis as it stands and its estimator had taken a fix (R103). -/
def State.snapUsable (s : State) (n : Nat) (k : AxisSnap) : Bool :=
  k.valid && k.tookFix && k.source == s.regN (K.axisSource n) &&
  k.input == (if s.axisAngular n then s.regN (K.shaftInput n) else s.regN (K.implement n))

/-- Shows the axis value and velocities in their entries (R125), rounded down to whole units (notes/assumptions/173.md). -/
def State.showAxis (s : State) (n : Nat) : State :=
  let x := s.axis n
  let s := if s.axisAngular n then s.setReg (K.positionAngular n) (s.axisValue n) else s.setReg (K.positionLinear n) (s.axisValue n)
  (s.setReg (K.velocity n) (x.vp / 65536)).setReg (K.acceleration n) (x.a / 65536)

/-- The axis becomes INVALID: it holds its value, and its armed cues are HELD (R101); the event is recorded (R127). -/
def State.axisLost (s : State) (n : Nat) : State :=
  let fine := s.axisFine n
  let x := s.axis n
  let s := s.setAxis n { x with s := fine, pubTick := s.tick, v := 0, vp := 0, a := 0, vc := 0 }
  let s := ((s.setReg (K.axisState n) axInvalid).holdCues n).holdScenes n
  s.showAxis n

/-- An axis that was INVALID, or that a reset found with a snapshot, begins its resume procedure (R103). -/
def State.beginResume (s : State) (n : Nat) (snap : AxisSnap) : State :=
  let x := s.axis n
  (s.setAxis n { x with resume := some ⟨s.tick + ticksS 10, snap, x.s⟩ }).setReg (K.axisState n) axInitialising

/-- The cues of an axis at its resume (R105): MISSED when it is not continuous or the crossing was passed (both ends
included, notes/assumptions/24.md), otherwise ARMED again. Scene changes on the axis follow the same rules (R380). -/
def State.resumeCues (s : State) (n : Nat) (continuous : Bool) (held new : Int) : State :=
  (s.cuesOnAxis n).foldl (fun (s : State) (k : Nat) =>
    let c := s.cue k
    let p := c.pos * 2 ^ 32
    let passed := decide (min held new ≤ p) && decide (p ≤ max held new)
    if !continuous || passed then s.endCue k .missed
    else s.setCue k { c with state := .armed, armTick := s.tick, evaluated := false })
    (s.resumeScenes n continuous held new)

end Sys2Proof.Machine
end

