-- ==== Sys2Proof/Machine/SolenoidOps.lean ====
section
/-!
DEFINITION. Solenoid channels as shared operations: stitches and programs (R271-R276), starts and releases (R279,
R280), claims and room (R281-R283), ends, faults and safe off (R270, R289, R294).
-/
namespace Sys2Proof.Machine

def State.svCh (s : State) (n : Nat) : Sv := s.sv.get Sv.init n
def State.setSv (s : State) (n : Nat) (x : Sv) : State := { s with sv := s.sv.set Sv.init n x }

/-- SvState codes (R278). -/
abbrev svDisabled : Int := 0
abbrev svOff : Int := 1
abbrev svWaiting : Int := 2
abbrev svRunning : Int := 3
abbrev svDecaying : Int := 4
abbrev svFault : Int := 5
abbrev svTesting : Int := 6

/-- Fields of a stitch word (R271): opcode, I in mA, T in ticks of 10 ns. -/
def stOp (w : Nat) : Nat := w / 2 ^ 28 % 16
def stI (w : Nat) : Nat := w % 1024
def stCount (w : Nat) : Nat := w / 4096 % 65536
def stUnit (w : Nat) : Nat := w / 1024 % 4
def stT (w : Nat) : Nat := stCount w * 10 ^ stUnit w * 100
def stMa (w : Nat) : Nat := stI w * 25

/-- The words of a program's bytes (R271). -/
def programWords : Bytes → List Nat
  | a :: b :: c :: d :: t => leNat [a, b, c, d] :: programWords t
  | _ => []

/-- The fields of a stitch lie in their ranges and unused bits are 0 (R271, R272). -/
def stitchOk (w : Nat) : Bool :=
  match stOp w with
  | 0 => w / 2048 % 2 ^ 17 == 0
  | 1 => 1 ≤ stI w && stI w ≤ 1000 && 100 ≤ stT w && stT w ≤ 200000
  | 2 => 1 ≤ stI w && stI w ≤ 1000 && 1 ≤ stCount w
  | 3 => stI w ≤ 320
  | 4 => stI w ≤ 320 && 1 ≤ stCount w
  | 5 => true
  | 6 => true
  | 7 => w % 16384 < w / 16384 % 16384
  | 8 => w / 2 ^ 20 % 256 == 0 && (w / 256 % 4096 == 0 || (20 ≤ w / 256 % 4096 && w / 256 % 4096 ≤ 1000))
  | 9 => 1 ≤ w / 64 % 65536 && w / 2 ^ 22 % 64 == 0
  | 10 => stI w == 0
  | _ => false

/-- The stitch at index `i`. -/
def stitchAt (p : List Nat) (i : Nat) : Nat := p.getD i 0

/-- The largest dither amplitude of a program in mA. -/
def ditherMax (p : List Nat) : Nat := p.foldl (fun m w => if stOp w = 8 then max m (w % 256 * 10) else m) 0

/-- The largest HOLD or RAMP current of a program in mA. -/
def holdMax (p : List Nat) : Nat := p.foldl (fun m w => if stOp w = 3 || stOp w = 4 then max m (stMa w) else m) 0

/-- The claim of a program without HOLD_EXT (R275). -/
def programClaim (p : List Nat) : Nat := if p.isEmpty then 0 else holdMax p + ditherMax p

def holdsExt (p : List Nat) : Bool := p.any (fun w => stOp w == 10)

/-- How often the stitch at index `i` runs because of a LOOP around it (R274). -/
def loopRuns (p : List Nat) (i : Nat) : Nat :=
  match (p.zipIdx).find? (fun x => stOp x.1 == 9 && decide (x.1 % 64 ≤ i) && decide (i < x.2)) with
  | some x => x.1 / 64 % 65536 + 1
  | none => 1

/-- The peak time of a program in ticks (R274). -/
def peakTime (p : List Nat) : Nat :=
  (p.zipIdx.map (fun x => if (stOp x.1 == 1 || stOp x.1 == 2) && 320 < stI x.1 then stT x.1 * loopRuns p x.2 else 0)).sum

/-- The checks of a StitchProgram write (R273). An empty program is valid. -/
def programOk (data : Bytes) : Bool :=
  let p := programWords data
  let idx := p.zipIdx
  data.length % 4 == 0 && decide (p.length ≤ 64) && (p.isEmpty || (
    p.all stitchOk &&
    (match p.getLast? with
      | some w => stOp w == 0
      | none => false) &&
    idx.all (fun x => stOp x.1 != 0 || x.2 + 1 == p.length) &&
    idx.all (fun x => stOp x.1 != 7 || (stOp (stitchAt p (x.2 + 1)) == 1 || stOp (stitchAt p (x.2 + 1)) == 2)) &&
    idx.all (fun x => stOp x.1 != 9 || (decide (x.1 % 64 < x.2) &&
      idx.all (fun y => stOp y.1 != 9 || y.2 == x.2 || decide (y.2 < x.1 % 64) || decide (x.2 < y.2)))) &&
    decide (holdMax p + ditherMax p ≤ 8000) &&
    decide (peakTime p ≤ 1000000)))

/-- The first stitch that takes time is a BOOST: WINDOW and DITHER take none (R282, R290). -/
def firstIsBoost : List Nat → Bool
  | [] => false
  | w :: t => if stOp w = 7 || stOp w = 8 then firstIsBoost t else stOp w == 1

/-- The stitches of program `p` as it stands (R276). -/
def State.programOf (s : State) (p : Nat) : List Nat := programWords (s.blob (K.stitchProgram p))

/-- The bank of a channel (R267). -/
def svBank (ch : Nat) : Nat := ch / 4

/-- The supply input of a bank, SVB0 or SVB1, and the banks that draw from it (R267). -/
def svInput (b : Nat) : Nat := b / 4

def inputBanks (b : Nat) : List Nat := (List.range 8).filter (fun c => svInput c == svInput b)

/-- The high-side switch of a bank is closed (R267, R270): the bank is enabled, no safe off holds, and no overload has opened it. -/
def State.highSide (s : State) (b : Nat) : Bool :=
  s.reg (K.bankEnable b) == 1 && s.reg K.engineState == 0 && !s.flag (K.bankFlags b) 2

/-- The voltage of a bank's rail in mV (R269): the boost voltage during a boost phase, which follows the supply where it is set at or
below it; else the supply; nothing while the high-side switch is open. -/
def State.railVoltage (s : State) (b : Nat) : Int :=
  if !s.highSide b then 0
  else if s.reg (K.boostOwner b) != 0xFF && decide (s.reg (K.supplyVoltage b) < s.reg (K.boostVoltage b)) then s.reg (K.boostMeasured b)
  else s.reg (K.supplyVoltage b)

/-- The channel switch and the free-wheel switch in an output condition (R268). -/
def OutCond.switches : OutCond → Bool × Bool
  | .drive => (true, false)
  | .slowDecay => (false, true)
  | .fastDecay => (false, false)
  | .off => (false, false)

def bankChannels (b : Nat) : List Nat := [4 * b, 4 * b + 1, 4 * b + 2, 4 * b + 3]

/-- The claim of a start of a program on a channel (R275). -/
def State.claimOn (s : State) (ch : Nat) (p : List Nat) : Nat :=
  if holdsExt p then max (programClaim p) (s.regN (K.extCurrentLimit ch)) else programClaim p

/-- The held claim of a channel (R281); a DECAYING channel holds none. -/
def State.heldClaim (s : State) (ch : Nat) : Nat :=
  let run := if s.reg (K.svState ch) = svRunning then s.regN (K.grant ch) else 0
  match (s.svCh ch).pending with
  | some p => if p.banked && s.reg (K.svState ch) != svDecaying then max run p.grant else run
  | none => run

/-- Held claims of the other channels of a bank. -/
def State.claimsOfOthers (s : State) (ch : Nat) : Nat :=
  (((bankChannels (svBank ch)).filter (· != ch)).map s.heldClaim).sum

/-- The stitch a channel runs. -/
def State.presentStitch (s : State) (ch : Nat) : Nat := stitchAt (s.svCh ch).program (s.regN (K.stitchIndex ch))

/-- A channel's PEAK or BOOST stitch is running. -/
def State.inPeak (s : State) (ch : Nat) : Bool :=
  s.reg (K.svState ch) == svRunning && (s.svCh ch).begun && (stOp (s.presentStitch ch) == 1 || stOp (s.presentStitch ch) == 2)

/-- A channel's PEAK or BOOST stitch has fallen due and has not begun. -/
def State.peakDue (s : State) (ch : Nat) : Bool :=
  s.reg (K.svState ch) == svRunning && !(s.svCh ch).begun && (stOp (s.presentStitch ch) == 1 || stOp (s.presentStitch ch) == 2)

/-- What a channel adds to the peak load of its bank (R283): the I of a running PEAK or BOOST, the held claim where it runs any other
stitch. A channel that waits, or whose peak has not begun, adds nothing. -/
def State.peakLoad (s : State) (c : Nat) : Nat :=
  if s.inPeak c then (s.svCh c).peakI else if s.reg (K.svState c) = svRunning && !s.peakDue c then s.heldClaim c else 0

/-- The peak load of the other channels of a channel's bank (R283). -/
def State.peakLoadOfOthers (s : State) (ch : Nat) : Nat :=
  (((bankChannels (svBank ch)).filter (· != ch)).map s.peakLoad).sum

/-- Shows the sum of a bank's held claims (R293). -/
def State.showClaims (s : State) (b : Nat) : State :=
  s.setReg (K.claimedCurrent b) (min 16000 ((bankChannels b).map s.heldClaim).sum : Nat)

/-- The channel stops counting RUNNING time: OnTime restarts, the bin keeps what it has (R285, R286). -/
def State.svStopRunning (s : State) (ch : Nat) : State :=
  let x := s.svCh ch
  match x.runningSince with
  | some _ =>
    (s.setSv ch { x with runningSince := none, binAcc := x.binAcc + (s.tick - x.binFrom), extNeedZero := x.extNeedZero }).setReg (K.onTime ch) 0
  | none => s

/-- The channel gives the boost supply back (R269, R282). -/
def State.svDropBoost (s : State) (ch : Nat) : State :=
  let b := svBank ch
  if s.reg (K.boostOwner b) = (ch : Nat) then s.setReg (K.boostOwner b) 0xFF else s

/-- A pending start is discarded; its SvCommand item ends FAILED with the given detail (R288). -/
def State.svDiscardPending (s : State) (ch : Nat) (detail : Abort) : State :=
  let x := s.svCh ch
  match x.pending with
  | some p =>
    let s := s.setSv ch { x with pending := none }
    let s := s.setFlag (K.svFlags ch) 14 false
    let s := if s.reg (K.svState ch) = svWaiting then s.setReg (K.svState ch) svOff else s
    s.finishOpt p.item .failed detail.code
  | none => s

/-- RELEASE commands of a channel that has reached END or OFF complete (R288). -/
def State.svReleaseDone (s : State) (ch : Nat) : State :=
  s.finishAll ((s.jr.items.filter (fun i => i.idx == 0x4020 + ch && i.sub == 0x0C && i.state != .finished &&
    decide (fieldU i.data 0 1 = 2))).map Item.seq) .done

/-- A channel whose disable waits has reached its safe point (R92, R289): the setting is in force, every item and cue
aimed at the channel ends CANCELLED. -/
def State.svDisableDone (s : State) (ch : Nat) : State :=
  let s := s.setReg (K.svEnable ch) 0
  let s := if s.reg (K.svState ch) = svOff || s.reg (K.svState ch) = svWaiting then s.setReg (K.svState ch) svDisabled else s
  (s.cancelCuesOnTarget 1 ch).endDisable (aimSv ch)

/-- The channel enters its END stitch: SLOW_DECAY begins and its claim ends (R279, R281). This is the safe point of a
disable (R92, R289). -/
def State.svToEnd (s : State) (ch : Nat) : State :=
  let x := s.svCh ch
  let s := (s.svStopRunning ch).svDropBoost ch
  let y := s.svCh ch
  let s := s.setSv ch { y with
    begun := true, due := s.tick, start := s.tick, cond := .slowDecay, condSince := s.tick,
    boost := .unset, window := none, checking := false, ditherAmp := 0, setpoint := 0 }
  let s := ((s.setReg (K.svState ch) svDecaying).setReg (K.stitchIndex ch) (x.program.length - 1 : Nat)).setReg (K.grant ch) 0
  let s := (s.setReg (K.svSetpoint ch) 0).svReleaseDone ch
  let s := if s.isDisabling (aimSv ch) then s.svDisableDone ch else s
  s.showClaims (svBank ch)

/-- The channel is OFF: no program and no current (R278). A pending start shows WAITING. -/
def State.svToOff (s : State) (ch : Nat) : State :=
  let s := (s.svStopRunning ch).svDropBoost ch
  let x := s.svCh ch
  let s := s.setSv ch { x with
    program := [], cond := .off, condSince := s.tick, begun := false, boost := .unset,
    window := none, checking := false, ditherAmp := 0, setpoint := 0 }
  let st := if s.reg (K.svEnable ch) = 0 then svDisabled else if x.pending.isSome then svWaiting else svOff
  let s := ((s.setReg (K.svState ch) st).setReg (K.program ch) 0xFF).setReg (K.stitchIndex ch) 0
  let s := ((s.setReg (K.grant ch) 0).setReg (K.svSetpoint ch) 0).svReleaseDone ch
  let s := if s.isDisabling (aimSv ch) then s.svDisableDone ch else s
  (s.setFlag (K.svFlags ch) 14 false).showClaims (svBank ch)

/-- What still flows in a coil falls by FAST_DECAY (R268, R270); the sample that finds no current ends it. -/
def State.svClamp (s : State) (ch : Nat) : State := s.setSv ch { s.svCh ch with cond := .fastDecay, condSince := s.tick }

/-- A fault holds the channel OFF (R278, R294, R295): the flag is set and the event recorded. -/
def State.svFail (s : State) (ch bit : Nat) : State :=
  let s := ((s.svDiscardPending ch .hardwareFault).svToOff ch).svClamp ch
  let s := (s.setReg (K.svState ch) svFault).setFlag (K.svFlags ch) bit true
  s.eventKey .solenoids ch (K.svFlags ch)

/-- Fault flags of R294: OPEN_LOAD to SELF_TEST_FAILED. -/
def svFaultBits : List Nat := [8, 9, 10, 11, 12, 13]

def State.svHasFault (s : State) (ch : Nat) : Bool := svFaultBits.any (s.flag (K.svFlags ch))

/-- A start reaches a channel (R280, R284, R286, R542): replaced, suppressed, or pending from this tick. A channel that
is disabled, FAULT or TESTING takes no start. -/
def State.svStart (s : State) (ch number : Nat) (item : Option Nat) : State :=
  let st := s.reg (K.svState ch)
  let p := s.programOf number
  if st = svDisabled || st = svFault || st = svTesting || s.reg (K.svEnable ch) = 0 then s
  else if p.isEmpty || s.flag (K.svFlags ch) 3 || s.flag K.powerFlags 2 then
    (s.bump (K.startsSuppressed ch)).finishOpt item .failed Abort.stateDenied.code
  else
    let s := match (s.svCh ch).pending with
      | some q => (s.bump (K.startsReplaced ch)).finishOpt q.item .failed Abort.stateDenied.code
      | none => s
    let q : PendStart := ⟨number, p, s.tick, s.claimOn ch p, 0, false, false, item, false, false⟩
    let s := s.setSv ch { s.svCh ch with pending := some q }
    if st = svOff || st = svWaiting then s.setReg (K.svState ch) svWaiting else s.setFlag (K.svFlags ch) 14 true

/-- RELEASE (R279): a RUNNING channel discards its pending start and moves to END, a WAITING one returns to OFF; an OFF or DECAYING
channel changes nothing. -/
def State.svRelease (s : State) (ch : Nat) : State :=
  let st := s.reg (K.svState ch)
  if st = svRunning then (s.svDiscardPending ch .stateDenied).svToEnd ch
  else if st = svWaiting then ((s.svDiscardPending ch .stateDenied).svReleaseDone ch).showClaims (svBank ch)
  else s.svReleaseDone ch

/-- A context's delivery to its channel (R287): above 0 on an OFF channel a start of ExtProgram, which a set DUTY_LIMIT suppresses
(R286); 0 a release. A channel in FAULT takes none (R295). -/
def State.svDeliver (s : State) (ch : Nat) (v : Nat) : State :=
  let x := s.svCh ch
  let s := s.setSv ch { x with ext := min v (s.regN (K.extCurrentLimit ch)), extNeedZero := x.extNeedZero && v != 0 }
  if v = 0 then (if x.ext = 0 && s.reg (K.svState ch) ≠ svRunning && x.pending.isNone then s else s.svRelease ch)
  else if s.reg (K.svState ch) = svOff && !x.extNeedZero then s.svStart ch (s.regN (K.extProgram ch)) none
  else s

/-- The channel belongs to context `n` (R19, R287). -/
def State.svOwnedBy (s : State) (ch n : Nat) : Bool := s.reg (K.svOwner ch) == 2 && s.reg (K.svOwnerContext ch) == (n : Nat)

/-- The state of a channel that no program holds (R278, R294). -/
def State.svIdleState (s : State) (ch : Nat) : Int :=
  if s.svHasFault ch then svFault else if s.reg (K.svEnable ch) = 1 then svOff else svDisabled

/-- Safe off of one channel (R270, R541, R542): every switch opens and starts that wait are discarded. A running program enters END with
FAST_DECAY, until the sample that finds no current (notes/assumptions/167.md); a self-test ends. -/
def State.svSafeOff (s : State) (ch : Nat) : State :=
  let st := s.reg (K.svState ch)
  if st = svRunning || st = svDecaying then
    let s := s.svDiscardPending ch .stateDenied
    (if st = svRunning then s.svToEnd ch else s).svClamp ch
  else if st = svWaiting then (s.svDiscardPending ch .stateDenied).showClaims (svBank ch)
  else if st = svTesting then
    let s := s.finishOpt (s.svCh ch).testItem .failed Abort.hardwareFault.code
    let s := (s.setSv ch { s.svCh ch with testItem := none }).svClamp ch
    s.setReg (K.svState ch) (s.svIdleState ch)
  else s

/-- Safe off of every bank (R270). -/
def State.banksSafeOff (s : State) : State :=
  let s := (List.range 32).foldl State.svSafeOff s
  if s.reg K.engineState = 1 then s else (s.setReg K.engineState 1).bump K.safeOffEvents

end Sys2Proof.Machine
end

