-- ==== Sys2Proof/Machine/MaintOps.lean ====
section
/-!
DEFINITION. The maintenance arbiter and the spare inventory as shared operations (R391, R392, R399-R403).
-/
namespace Sys2Proof.Machine

/-- A step's result. -/
abbrev Out := Host.Outcome State Fault Refusal

/-- Codes of R399. -/
abbrev actRotation : Nat := 1
abbrev actSwap : Nat := 2
abbrev actCellRepair : Nat := 3
abbrev actSegmentTest : Nat := 4
abbrev actConverterCheck : Nat := 5
abbrev actRowRepair : Nat := 6
abbrev actChannelRetire : Nat := 7
abbrev actBlockRetire : Nat := 8
abbrev actMramRebuild : Nat := 9
abbrev actInlineTest : Nat := 10
abbrev actFirmwareStage : Nat := 11

/-- Domains of R399. -/
abbrev domFeed (g : Nat) : Nat := 8 + g
abbrev domConverters : Nat := 16
abbrev domDram : Nat := 17
abbrev domEmmc : Nat := 18
abbrev domJournal : Nat := 19
abbrev domImage : Nat := 20

/-- Strand of a place q*512 + p*64 + s*8 + c (R398): its StrandStatus entry. -/
def strandKey (place : Nat) : Nat := K.strandStatus (place / 64) (place / 8 % 8)

def State.actsIn (s : State) (d : Nat) : List Activity := s.maint.acts.filter (fun a => a.domain == d)

/-- Running quadrant-domain activities (R400). -/
def State.quadActs (s : State) : List Activity := s.maint.acts.filter (fun a => decide (a.domain < 4))

/-- Shows the running activities (R412). -/
def State.showActs (s : State) : State :=
  let s := s.setReg K.activitiesRunning (s.maint.acts.length : Nat)
  (List.range 4).foldl (fun s q => s.setReg (K.quadrantActivity q) (match s.actsIn q with
    | a :: _ => (a.code : Nat)
    | [] => 0)) s

/-- The arbiter grants an activity in this tick (R401). -/
def State.grantAct (s : State) (a : Activity) : State :=
  let s := { s with maint := { s.maint with acts := s.maint.acts ++ [a] } }
  let s := if a.code = actSegmentTest then s.setFlag (K.lsFlags a.unit) 14 true else s
  let s := if a.code = actRotation then s.setFlag (strandKey a.unit) 5 true else s
  (s.bump K.grants).showActs

/-- An activity's grant ends. -/
def State.endAct (s : State) (a : Activity) : State :=
  let s := { s with maint := { s.maint with acts := s.maint.acts.filter (fun x => x ≠ a) } }
  let s := if a.code = actSegmentTest then s.setFlag (K.lsFlags a.unit) 14 false else s
  let s := if a.code = actRotation then s.setFlag (strandKey a.unit) 5 false else s
  s.showActs

/-- A scheduled activity yields: it ends without a result and is counted (R401). -/
def State.yieldAct (s : State) (a : Activity) : State := (s.endAct a).bump K.yields

def State.yieldAll (s : State) (l : List Activity) : State := l.foldl State.yieldAct s

/-- A scheduled activity may be granted: its domain and the die limit are free (R400-R402). -/
def State.schedulable (s : State) (d : Nat) : Bool :=
  (s.actsIn d).isEmpty && (decide (4 ≤ d) || decide (s.quadActs.length < 2))

/-- What a commanded request finds (R401, R402): none for a refusal with BUSY_CONFLICT, else the scheduled activities
that yield to it. -/
def State.commandedYields (s : State) (d : Nat) : Option (List Activity) :=
  let inDom := s.actsIn d
  if inDom.any (fun a => a.kind ≠ .scheduled) then none
  else if d < 4 && 2 ≤ (s.quadActs.filter (fun a => a.domain != d)).length then
    match (s.quadActs.filter (fun a => a.code == actRotation)).getLast? with
    | some a => if s.quadActs.length = 2 then some [a] else none
    | none => none
  else some inDom

/-- The arbiter refuses a commanded request (R401). -/
def State.arbRefuses (s : State) (d : Nat) : Option Abort :=
  match s.commandedYields d with
  | none => some .busyConflict
  | some _ => none

/-- Grants a commanded request; scheduled activities that it displaces yield. -/
def State.grantCommanded (s : State) (a : Activity) : State :=
  match s.commandedYields a.domain with
  | some l => (s.yieldAll l).grantAct a
  | none => s

/-- A repair asks for its domain (R401): scheduled activities yield; a commanded activity is waited for. -/
def State.requestRepair (s : State) (a : Activity) : State :=
  let inDom := s.actsIn a.domain
  if inDom.any (fun x => x.kind ≠ .scheduled) then { s with maint := { s.maint with waiting := s.maint.waiting ++ [a] } }
  else (s.yieldAll inDom).grantAct a

/-- Repairs that waited for the domain of an ended activity are granted before anything else of it (R401). -/
def State.grantWaiting (s : State) (d : Nat) : State :=
  match s.maint.waiting.find? (fun a => a.domain == d) with
  | some a =>
    if (s.actsIn d).isEmpty then
      let s := { s with maint := { s.maint with waiting := s.maint.waiting.filter (fun x => x ≠ a) } }
      s.grantAct { a with start := s.tick }
    else s
  | none => s

/-- An activity ends and the repair that waits for its domain is granted. -/
def State.finishAct (s : State) (a : Activity) : State := (s.endAct a).grantWaiting a.domain

/-- The running activity of a kind on a unit. -/
def State.runningAct (s : State) (code unit : Nat) : Option Activity :=
  s.maint.acts.find? (fun a => a.code == code && a.unit == unit)

/-- Sets a bit of SpareFlags and records it once (R392, R413). -/
def State.spareFlag (s : State) (bit : Nat) : State :=
  if s.flag K.spareFlags bit then s
  else (s.setFlag K.spareFlags bit true).eventKey .maintenance 0 K.spareFlags

/-- A spare counted in entry `k` goes into service; the last one is recorded (R392). -/
def State.takeSpare (s : State) (k : Nat) : State :=
  let s := s.setReg k (s.reg k - 1)
  if s.reg k = 0 then s.eventKey .maintenance 0 k else s

/-- An understudy segment goes into service (R319, R391, R413). -/
def State.takeSegment (s : State) : State :=
  let s := s.takeSpare K.segmentsLeft
  if s.reg K.segmentsLeft < 8 then s.spareFlag 5 else s

end Sys2Proof.Machine
end

