-- ==== Sys2Proof/Machine/LoadOps.lean ====
section
/-!
DEFINITION. Load channels as shared operations: switching on and off, trips, the fuse and lamp models, restart, and the
feed groups (R297-R327).
-/
namespace Sys2Proof.Machine

def State.lsCh (s : State) (n : Nat) : Ls := s.ls.get Ls.init n
def State.setLs (s : State) (n : Nat) (x : Ls) : State := { s with ls := s.ls.set Ls.init n x }
def State.feed (s : State) (g : Nat) : FeedGroup := s.feeds.get FeedGroup.init g
def State.setFeed (s : State) (g : Nat) (x : FeedGroup) : State := { s with feeds := s.feeds.set FeedGroup.init g x }

/-- LsState codes (R322). -/
abbrev lsDisabled : Int := 0
abbrev lsOff : Int := 1
abbrev lsInrush : Int := 2
abbrev lsOn : Int := 3
abbrev lsTripped : Int := 4
abbrev lsLatched : Int := 5
abbrev lsFault : Int := 6

/-- TripCause codes (R325). -/
abbrev tcShort : Nat := 1
abbrev tcOverload : Nat := 2
abbrev tcThermal : Nat := 3
abbrev tcFuse : Nat := 4
abbrev tcShed : Nat := 5

/-- LsFlags bits (R326). -/
abbrev lfShort : Nat := 0
abbrev lfOverload : Nat := 1
abbrev lfFuseWarn : Nat := 2
abbrev lfFuseTrip : Nat := 3
abbrev lfThermal : Nat := 4
abbrev lfLockedOut : Nat := 5
abbrev lfSlew : Nat := 6
abbrev lfOpenOn : Nat := 7
abbrev lfOpenOff : Nat := 8
abbrev lfSupply : Nat := 9
abbrev lfStuck : Nat := 10
abbrev lfDerated : Nat := 11
abbrev lfShed : Nat := 12
abbrev lfCompLimit : Nat := 13

/-- The short threshold of a class in mA (R297). -/
def lsShortThreshold (n : Nat) : Nat := if n < 8 then 60000 else if n < 24 then 30000 else 12000

/-- The feed group of a channel (R298). -/
def lsGroup (n : Nat) : Nat := if n < 8 then n / 2 else if n < 24 then (n - 8) / 4 else (n - 24) / 6

def groupChannels (g : Nat) : List Nat := (List.range 48).filter (fun n => lsGroup n == g)

/-- The power stages are held in safe off (R541, R542). -/
def State.safeOff (s : State) : Bool := s.flag K.powerFlags 5

/-- The channel conducts: INRUSH or ON. -/
def State.lsConducts (s : State) (n : Nat) : Bool := s.reg (K.lsState n) == lsInrush || s.reg (K.lsState n) == lsOn

/-- The applied duty of a commanded duty before lamp compensation (R301). -/
def State.appliedOf (s : State) (n : Nat) (dc : Int) : Int :=
  if s.reg (K.loadKind n) = 2 && 0 < dc then 1000 else dc

/-- The enabled fan of a channel (R526). -/
def State.fanOf (s : State) (n : Nat) : Option Nat :=
  if s.reg (K.lsOwner n) ≠ 4 then none
  else (List.range 8).find? (fun f => s.reg (K.fanEnable f) == 1 && s.regN (K.fanChannel f) == n)

/-- The PWM period of a channel in ticks: by PwmFrequency, or by FanPwmFrequency for the channel of an enabled fan (R301, R527). -/
def State.lsPeriod (s : State) (n : Nat) : Nat :=
  match s.fanOf n with
  | some f => 10 ^ 8 / s.regN (K.fanPwmFrequency f)
  | none => 10 ^ 8 / s.regN (K.pwmFrequency n)

/-- The first period boundary of a channel from this tick on; its periods count from the switch-on (R301, notes/assumptions/184.md). -/
def State.lsBoundary (s : State) (n : Nat) : Nat :=
  let p := s.lsPeriod n
  s.tick + (p - (s.tick - (s.lsCh n).onAt) % p) % p

/-- The part of its applied duty that a channel in slew has reached, in 0.1 %: a straight line over SlewTime (R304). -/
def State.slewDuty (s : State) (n start : Nat) : Int :=
  let whole := ticksMs (s.regN (K.slewTime n))
  s.reg (K.appliedDuty n) * (min (s.tick - start) whole : Nat) / (max 1 whole : Nat)

/-- The gates of a channel are on in this tick: its applied duty at PwmFrequency, in slew at 2 kHz (R301, R304). -/
def State.lsDriven (s : State) (n : Nat) : Bool :=
  let x := s.lsCh n
  s.lsConducts n && (match x.slewFrom with
    | some t => decide (1000 * (((s.tick - t) % 50000 : Nat) : Int) < s.slewDuty n t * 50000)
    | none => decide (1000 * (((s.tick - x.onAt) % s.lsPeriod n : Nat) : Int) < s.reg (K.appliedDuty n) * (s.lsPeriod n : Nat)))

/-- The current in mA at which the switch of a channel limits (R303, R304): InrushLimit in the inrush window and in slew, the effective
rating where the channel has no window. -/
def State.lsLimit (s : State) (n : Nat) : Option Int :=
  if s.reg (K.lsState n) = lsInrush then some (s.reg (K.inrushLimit n))
  else if s.reg (K.lsState n) = lsOn && s.reg (K.inrushTime n) = 0 then some (s.reg (K.effectiveRating n))
  else none

/-- The segments open: no applied duty, no slew (R304). -/
def State.lsOpen (s : State) (n : Nat) : State :=
  let s := s.setLs n { s.lsCh n with slewFrom := none, onSince := none, dc := 0, dcNext := none }
  (s.setReg (K.appliedDuty n) 0).setFlag (K.lsFlags n) lfSlew false

/-- A switch-on (R303, R549): INRUSH for InrushTime, or ON where that is 0. The first switch-on of a feed group closes its
switch unless it has tripped. While safe off holds, the channel stays off with its Dc. -/
def State.lsSwitchOn (s : State) (n : Nat) : State :=
  if s.safeOff then s.setReg (K.lsState n) lsOff
  else
    let g := lsGroup n
    let s := if s.flag (K.groupFlags g) 1 then s else s.setReg (K.groupState g) 0
    let s := ((s.setFlag (K.lsFlags n) lfShort false).setFlag (K.lsFlags n) lfOverload false).setFlag (K.lsFlags n) lfShed false
    let now := s.reg (K.inrushTime n) = 0
    let s := s.setLs n { s.lsCh n with
      onAt := s.tick, slewFrom := none, onSince := if now then some s.tick else none, dc := s.reg (K.commandedDuty n), dcNext := none }
    let s := s.setReg (K.lsState n) (if now then lsOn else lsInrush)
    s.setReg (K.appliedDuty n) (s.appliedOf n (s.reg (K.commandedDuty n)))

/-- A trip (R305, R306, R312, R315, R316, R318): off, counted, with its cause; a FUSE trip is LATCHED, and an enabled
channel that has tripped waits for R316. -/
def State.lsTrip (s : State) (n cause : Nat) : State :=
  let s := s.lsOpen n
  let s := s.setLs n { s.lsCh n with tripTick := s.tick, seenOff := false }
  let s := (s.setReg (K.tripCause n) (cause : Nat)).bump (K.trips n)
  let s := s.setReg (K.lsState n) (if cause = tcFuse then lsLatched else lsTripped)
  if cause = tcShort then s.setFlag (K.lsFlags n) lfShort true
  else if cause = tcOverload then s.setFlag (K.lsFlags n) lfOverload true
  else if cause = tcFuse then s.setFlag (K.lsFlags n) lfFuseTrip true
  else if cause = tcShed then s.setFlag (K.lsFlags n) lfShed true
  else s

/-- The channel's record in the prompt book names its flags (R327). -/
def State.lsEvent (s : State) (n : Nat) : State := s.eventKey .loads n (K.lsFlags n)

/-- A channel with no healthy segment left, or stuck on, is in FAULT: off, holding nothing (R321, R327). -/
def State.lsFail (s : State) (n : Nat) : State := (s.lsOpen n).setReg (K.lsState n) lsFault

/-- A changed Dc of a channel that conducts waits for the period boundary (R301). -/
def State.lsNextDuty (s : State) (n : Nat) : State :=
  s.setLs n { s.lsCh n with dcNext := some (s.lsBoundary n) }

/-- The changed Dc of a channel comes into force at its period boundary (R301). -/
def State.lsDutyDue (s : State) (n : Nat) : State :=
  match (s.lsCh n).dcNext with
  | some t =>
    if t ≤ s.tick then
      let dc := s.reg (K.commandedDuty n)
      (s.setLs n { s.lsCh n with dc := dc, dcNext := none }).setReg (K.appliedDuty n) (s.appliedOf n dc)
    else s
  | none => s

/-- The load channels at a tick. -/
def State.loadsTick (s : State) : State := (s.ls.cells.map Prod.fst).foldl State.lsDutyDue s

/-- The commanded duty changes (R301, R315, R324). A TRIPPED, LATCHED or FAULT channel keeps its state; a channel that
waits at OFF while its latch is set trips THERMAL instead of switching on (notes/assumptions/184.md). -/
def State.lsSetDuty (s : State) (n : Nat) (v : Int) : State :=
  let st := s.reg (K.lsState n)
  let old := s.reg (K.commandedDuty n)
  if st = lsDisabled then s
  else
    let s := s.setReg (K.commandedDuty n) v
    if st = lsTripped then (if v = 0 then s.setLs n { s.lsCh n with seenOff := true } else s)
    else if st = lsLatched || st = lsFault then s
    else if v = 0 then (s.lsOpen n).setReg (K.lsState n) lsOff
    else if old = 0 then (if s.flag (K.lsFlags n) lfThermal then s.lsTrip n tcThermal else s.lsSwitchOn n)
    else if s.lsConducts n && v ≠ old then (s.lsNextDuty n).lsDutyDue n
    else s

/-- LATCHED and FAULT count as failed (R324). -/
def State.lsFailed (s : State) (n : Nat) : Bool := s.reg (K.lsState n) == lsLatched || s.reg (K.lsState n) == lsFault

/-- The channel is off and DISABLED at once, and everything aimed at it ends CANCELLED (R92, R323). -/
def State.lsDisable (s : State) (n : Nat) : State :=
  let s := (s.lsOpen n).setReg (K.commandedDuty n) 0
  let s := s.setReg (K.lsState n) lsDisabled
  (s.cancelCuesOnTarget 2 n).cancelAimed (aimLs n)

/-- Enabling starts the channel OFF, in FAULT where its hardware has failed, and LATCHED where it was (R312, R322). -/
def State.lsEnableNow (s : State) (n : Nat) : State :=
  let s := s.setReg (K.commandedDuty n) 0
  s.setReg (K.lsState n) (if (s.lsCh n).stuck || s.reg (K.segmentsHealthy n) = 0 then lsFault
    else if s.flag (K.lsFlags n) lfFuseTrip || s.flag (K.lsFlags n) lfLockedOut then lsLatched else lsOff)

/-- R20 in 10 uohm/m, Rth in 0.1 K*m/W and the time constant in s of a wire code (R309). -/
def wireR20 (c : Nat) : Int := [5200, 3710, 2470, 1850, 1270, 760, 471, 314].getD c 0
def wireRth (c : Nat) : Int := [140, 130, 120, 110, 100, 85, 75, 65].getD c 0
def wireTau (c : Nat) : Int := [10, 14, 20, 26, 36, 55, 80, 110].getD c 1

/-- Tclass in degrees (R310). -/
def wireTclass (c : Nat) : Int := [85, 100, 125, 150, 175].getD c 0

/-- The wire temperature in 2^-16 degree (R311). -/
def State.wireTemp (s : State) (n : Nat) : Int := s.reg (K.wireAmbient n) * 65536 + (s.lsCh n).dT

def State.tclass (s : State) (n : Nat) : Int := wireTclass (s.regN (K.insulationClass n)) * 65536

/-- 1 + 0.00393 * (t - 20), in units of 1 / (10^5 * 2^16), for `t` in 2^-16 degree (R309). -/
def copperFactor (t : Int) : Int := 100000 * 65536 + 393 * (t - 20 * 65536)

/-- The rise after one fuse step, in 2^-16 K, truncated (R311); `i2` is the mean square current in mA^2. The exact value
of the formula is taken before the truncation (notes/assumptions/30.md). -/
def fuseRise (wire : Nat) (temp dT i2 : Int) : Int :=
  let num := i2 * wireR20 wire * wireRth wire * copperFactor temp
  let den := 10 ^ 17 * (1000 * wireTau wire)
  max 0 ((dT * den + num - dT * 10 ^ 17).tdiv den)

/-- Shows the wire temperature in 0.1 degree (R311). -/
def State.showWire (s : State) (n : Nat) : State := s.setReg (K.wireTemperature n) (s.wireTemp n * 10 / 65536)

/-- The voltage at the lamp in mV, times 10^13 * 2^16 (R314): pin voltage less the drop of the wire. -/
def lampVolts (wire len : Nat) (temp vPin iMean : Int) : Int :=
  vPin * (10 ^ 13 * 65536) - iMean * wireR20 wire * (len : Int) * copperFactor temp

/-- (v_nom / vl)^k in 2^-60, with an open error of at most 0.1 % (R314, notes/assumptions/4.md). -/
def lampPower (vNom vl k : Int) : Int :=
  let p := ratioPow vNom vl k.toNat
  nearOpen (p / 1000) p (Config.openResult 314 [vNom, vl, k])

/-- dc * (v_nom / vl)^k, rounded (R314). -/
def lampDuty (dc vNom vl k : Int) : Int := roundAway (dc * lampPower vNom vl k) one60

/-- The 100 ms mean of a channel's group in mA (R316). -/
def State.groupMean (s : State) (n : Nat) : Int := s.reg (K.groupCurrent (lsGroup n))

/-- Effective rating: the lesser of the class rating and 5 A for each healthy segment in service (R297). -/
def State.showRating (s : State) (n : Nat) : State :=
  s.setReg (K.effectiveRating n) (min (lsClassRating n) (5000 * s.reg (K.segmentsHealthy n)))

/-- A segment is retired (R319, R321): the understudy stands in; with none left, the channel is derated or fails. -/
def State.lsRetire (s : State) (n : Nat) : State :=
  if s.reg (K.segmentsHealthy n) ≤ 0 then s
  else
  let s := s.bump (K.segmentsRetired n)
  let s := if s.reg (K.understudyInService n) = 0 then (s.setReg (K.understudyInService n) 1).takeSegment
    else
      let s := s.setReg (K.segmentsHealthy n) (s.reg (K.segmentsHealthy n) - 1)
      let s := (s.setFlag (K.lsFlags n) lfDerated true).showRating n
      if s.reg (K.segmentsHealthy n) ≤ 0 then (if s.reg (K.lsEnable n) = 1 then s.lsFail n else s.lsOpen n) else s
  s.eventKey .loads n (K.segmentsRetired n)

/-- Every channel of a group is off; Dc falls to 0 in the channels that were on or waited for a restart (R318). -/
def State.groupOff (s : State) (g : Nat) : State :=
  (groupChannels g).foldl (fun s n =>
    let st := s.reg (K.lsState n)
    if st = lsInrush || st = lsOn || st = lsTripped then
      ((s.lsOpen n).setReg (K.commandedDuty n) 0).setReg (K.lsState n) lsOff
    else s) s

/-- The group switch opens (R318, R327). -/
def State.groupTrip (s : State) (g : Nat) : State :=
  let s := (s.setReg (K.groupState g) 1).groupOff g
  s.setFlag (K.groupFlags g) 1 true

/-- The channel that is shed next (R318): the ON channel with the highest ShedPriority above 0, then the highest number. -/
def State.shedPick (s : State) (g : Nat) : Option Nat :=
  ((groupChannels g).filter (fun n => s.reg (K.lsState n) == lsOn && decide (0 < s.reg (K.shedPriority n)))).foldl
    (fun acc n => match acc with
      | none => some n
      | some m => if s.reg (K.shedPriority m) ≤ s.reg (K.shedPriority n) then some n else some m) none

/-- Safe off of the load stages: every segment and group switch opens; each channel keeps its Dc (R323, R542). -/
def State.loadsSafeOff (s : State) : State :=
  let s := (List.range 48).foldl (fun s n => if s.lsConducts n then (s.lsOpen n).setReg (K.lsState n) lsOff else s) s
  (List.range 4).foldl (fun s g => s.setReg (K.groupState g) 1) s

/-- Overvoltage has ended: every channel that kept a Dc switches on again (R542). -/
def State.loadsReturn (s : State) : State :=
  (List.range 48).foldl (fun s n =>
    if s.reg (K.lsState n) = lsOff && 0 < s.reg (K.commandedDuty n) then s.lsSwitchOn n else s) s

end Sys2Proof.Machine
end

