-- ==== Sys2Proof/Machine/CanOps.lean ====
section
/-!
DEFINITION. CAN ports as shared operations: bit rates and frame times (R417, R428), transmit buffers and their commits
(R422-R424), the schedule matrix (R427-R431), and the ISOBUS address (R432).
-/
namespace Sys2Proof.Machine

def State.can (s : State) (p : Nat) : CanPort := s.canPorts.get CanPort.init p
def State.setCan (s : State) (p : Nat) (x : CanPort) : State := { s with canPorts := s.canPorts.set CanPort.init p x }
def State.txBuf (s : State) (p b : Nat) : TxBuf := s.canBufs.get TxBuf.init (p * 64 + b)
def State.setTxBuf (s : State) (p b : Nat) (x : TxBuf) : State :=
  { s with canBufs := s.canBufs.set TxBuf.init (p * 64 + b) x }

/-- PortState codes (R419). -/
abbrev cpOffline : Int := 0
abbrev cpDetecting : Int := 1
abbrev cpActive : Int := 2
abbrev cpListening : Int := 3
abbrev cpBusOff : Int := 4
abbrev cpTesting : Int := 5
abbrev cpFailed : Int := 6

/-- The configured nominal and data rates in bit/s, rounded down (R417). -/
def State.nominalBits (s : State) (p : Nat) : Int :=
  80000000 / (s.reg (K.nominalPrescaler p) * (1 + s.reg (K.nominalSeg1 p) + s.reg (K.nominalSeg2 p)))
def State.dataBits (s : State) (p : Nat) : Int :=
  80000000 / (s.reg (K.dataPrescaler p) * (1 + s.reg (K.dataSeg1 p) + s.reg (K.dataSeg2 p)))

/-- The nominal rate lies in 10 kbit/s-1 Mbit/s, compared exactly (R417). -/
def State.nominalRateOk (s : State) (p : Nat) : Bool :=
  let q := s.reg (K.nominalPrescaler p) * (1 + s.reg (K.nominalSeg1 p) + s.reg (K.nominalSeg2 p))
  decide (80 ≤ q) && decide (q ≤ 8000)

/-- Clock periods of a bit of each phase. -/
def State.nominalBitClocks (s : State) (p : Nat) : Nat :=
  s.regN (K.nominalPrescaler p) * (1 + s.regN (K.nominalSeg1 p) + s.regN (K.nominalSeg2 p))
def State.dataBitClocks (s : State) (p : Nat) : Nat :=
  s.regN (K.dataPrescaler p) * (1 + s.regN (K.dataSeg1 p) + s.regN (K.dataSeg2 p))

/-- Fields of a CanTxConfig value (R422). -/
def txId (v : Bytes) : Nat := fieldU v 0 4
def txFormat (v : Bytes) : Nat := fieldU v 4 1
def txLength (v : Bytes) : Nat := fieldU v 5 1
def txOwner (v : Bytes) : Nat := fieldU v 6 1
def txContext (v : Bytes) : Nat := fieldU v 7 1
def txMode (v : Bytes) : Nat := fieldU v 8 1
def txPeriod (v : Bytes) : Nat := fieldU v 12 4

def idExtended (id : Nat) : Bool := id.testBit 31

/-- An identifier field has its reserved bits 0 (R422). -/
def idOk (id : Nat) : Bool := id / 2 ^ 29 % 4 == 0 && (idExtended id || decide (id % 2 ^ 29 < 2048))

/-- The data lengths of FD frames (R422). -/
def fdLength (n : Nat) : Bool := decide (n ≤ 8) || n == 12 || n == 16 || n == 20 || n == 24 || n == 32 || n == 48 || n == 64

/-- A CanTxConfig value keeps the table of R422. -/
def txConfigOk (v : Bytes) : Bool :=
  idOk (txId v) && decide (txFormat v ≤ 2) && (if txFormat v = 0 then decide (txLength v ≤ 8) else fdLength (txLength v)) &&
  decide (txOwner v ≤ 3) && decide (txContext v ≤ 127) && decide (txMode v ≤ 1) && (txOwner v != 3 || txMode v == 0) &&
  allZero (field v 9 3) &&
  (if txMode v = 1 then decide (1000 ≤ txPeriod v) && decide (txPeriod v ≤ 10000000) else txPeriod v == 0)

def State.txConfig (s : State) (p b : Nat) : Bytes := s.blob (K.canTxConfig p b)

/-- The data length code's padded length for CRC and stuffing of FD frames: the CRC field is 17 bits up to 16 bytes. -/
def fdCrcBits (len : Nat) : Nat := if len ≤ 16 then 17 else 21

/-- Worst-case frame time in protocol clock periods (12.5 ns), with every stuff bit and the intermission (R428;
notes/assumptions/31.md): the bits up to and after the data phase at the nominal rate, the rest at the data rate. -/
def frameClocks (ext : Bool) (format len nomBit dataBit : Nat) : Nat :=
  if format = 0 then
    let stuffable := (if ext then 54 else 34) + 8 * len
    (stuffable + 13 + (stuffable - 1) / 4) * nomBit
  else
    let head := if ext then 36 else 17
    let fast := 5 + 8 * len
    let crc := 4 + fdCrcBits len + (4 + fdCrcBits len + 3) / 4 + 1
    (head + (head - 1) / 4 + 12) * nomBit + (fast + fast / 4 + crc) * (if format = 2 then dataBit else nomBit)

/-- Frame time in ns of a frame on port `p`, rounded up. -/
def State.frameTime (s : State) (p : Nat) (id format len : Nat) : Nat :=
  (frameClocks (idExtended id) format len (s.nominalBitClocks p) (s.dataBitClocks p) * 25 + 1) / 2

/-! The schedule matrix (R427) -/

/-- An entry of the matrix. -/
structure SlotEntry where
  slot : Nat
  buffer : Nat
  flags : Nat
  repeats : Nat
  base : Nat
  start : Nat
  length : Nat
  paramOffset : Nat
  paramLength : Nat
  actionOffset : Nat
  deriving DecidableEq, Repr

def slotEntry (v : Bytes) (k : Nat) : SlotEntry :=
  let o := 16 + 16 * k
  ⟨fieldU v o 2, fieldU v (o + 2) 1, fieldU v (o + 3) 1, fieldU v (o + 4) 1, fieldU v (o + 5) 1, fieldU v (o + 6) 2,
    fieldU v (o + 8) 2, fieldU v (o + 10) 1, fieldU v (o + 11) 1, fieldU v (o + 12) 1⟩

def matrixCount (v : Bytes) : Nat := fieldU v 4 2
def matrixCycles (v : Bytes) : Nat := fieldU v 3 1
def matrixRefWindow (v : Bytes) : Nat := fieldU v 6 2
def matrixBasic (v : Bytes) : Nat := fieldU v 8 4
def matrixRefId (v : Bytes) : Nat := fieldU v 12 4

/-- The entries of a loaded matrix. -/
def matrixSlots (v : Bytes) : List SlotEntry := (List.range (matrixCount v)).map (slotEntry v)

def powerOfTwoTo (m n : Nat) : Bool := [1, 2, 4, 8, 16, 32, 64].contains n && decide (n ≤ m)

/-- One entry keeps the format (R427). -/
def slotEntryOk (cycles : Nat) (v : Bytes) (k : Nat) : Bool :=
  let e := slotEntry v k
  decide (e.slot ≤ 1023) && decide (e.buffer ≤ 63) && decide (e.flags ≤ 1) && powerOfTwoTo cycles e.repeats &&
  decide (e.base < e.repeats) && decide (e.paramOffset ≤ 63) && [0, 1, 2, 4].contains e.paramLength &&
  (decide (e.actionOffset ≤ 60) || e.actionOffset == 0xFF) && allZero (field v (16 + 16 * k + 13) 3)

/-- A ScheduleMatrix value keeps the format and its CRC (R427); an empty value is valid and holds no matrix. -/
def matrixOk (v : Bytes) : Bool :=
  v.isEmpty ||
  (decide (20 ≤ v.length) && fieldU v 0 2 == 0x5354 && fieldU v 2 1 == 1 && powerOfTwoTo 64 (matrixCycles v) &&
    decide (matrixCount v ≤ 1024) && v.length == 16 + 16 * matrixCount v + 4 && decide (100 ≤ matrixRefWindow v) &&
    decide (matrixRefWindow v ≤ 10000) && decide (100 ≤ matrixBasic v) && decide (matrixBasic v ≤ 100000) &&
    (matrixRefId v == 0xFFFFFFFF || idOk (matrixRefId v)) &&
    fieldU v (v.length - 4) 4 == crc32 (v.take (v.length - 4)) &&
    (List.range (matrixCount v)).all (slotEntryOk (matrixCycles v) v) &&
    decide ((matrixSlots v).map SlotEntry.slot).Nodup)

def State.matrix (s : State) (p : Nat) : Bytes := s.blob (K.scheduleMatrix p)

/-- The entry of slot `n` in the matrix of a port. -/
def State.slotOf (s : State) (p n : Nat) : Option SlotEntry := (matrixSlots (s.matrix p)).find? (fun e => e.slot == n)

/-- A CAN_SLOT target is valid: an enabled schedule whose matrix holds the slot (R430). -/
def State.canSlotValid (s : State) (target : Nat) : Bool :=
  let p := target / 4096
  decide (target / 1024 % 4 = 0) && decide (p ≤ 5) && s.reg (K.scheduleEnable p) == 1 && (s.slotOf p (target % 1024)).isSome

/-- Two windows of a matrix overlap and can fall in one basic cycle (R428). -/
def slotsClash (a b : SlotEntry) : Bool :=
  decide (a.start < b.start + b.length) && decide (b.start < a.start + a.length) &&
  a.base % min a.repeats b.repeats == b.base % min a.repeats b.repeats

/-! Sending -/

/-- What waits to be sent on a port, in no order: requests of buffers, offered slot frames, service frames. -/
def State.waitingTx (s : State) (p : Nat) : List TxRef :=
  (s.can p).service.map TxRef.service ++
  ((List.range 64).filter (fun b => (s.txBuf p b).requested || (s.txBuf p b).offered)).map TxRef.buffer

/-- The frame of a waiting reference. -/
def State.txFrame (s : State) (p : Nat) : TxRef → CanFrame
  | .service f => f
  | .buffer b => ⟨txId (s.txConfig p b), txFormat (s.txConfig p b), padTo (txLength (s.txConfig p b)) (s.txBuf p b).active⟩

/-- The order in which the bus arbitrates identifiers: the base identifier first, then a base frame before an extended
one, then the extension. -/
def arbKey (id : Nat) : Nat :=
  if idExtended id then (id % 2 ^ 29 / 2 ^ 18) * 2 ^ 19 + 2 ^ 18 + id % 2 ^ 18 else (id % 2048) * 2 ^ 19

/-- The rank of a waiting frame (R424): slot and reference frames first, then by arbitration, service buffers before
others, then the buffer number. -/
def State.txRank (s : State) (p : Nat) (r : TxRef) : Nat :=
  let first := match r with
    | .buffer b => (s.txBuf p b).offered
    | .service f => (s.can p).refWaiting && f.id == matrixRefId (s.matrix p)
  let num := match r with
    | .buffer b => b + 1
    | .service _ => 0
  (if first then 0 else 2 ^ 40) + arbKey (s.txFrame p r).id * 2 ^ 7 + num

/-- The window of an EXCLUSIVE slot, open now, in which a frame that starts now would end (R429). -/
def State.exclusiveHit (s : State) (p : Nat) (r : TxRef) : Bool :=
  let f := s.txFrame p r
  let slotFrame := match r with
    | .buffer b => (s.txBuf p b).offered
    | .service _ => false
  let x := s.can p
  let endTick := s.tick + (s.frameTime p f.id f.format f.data.length + 9) / 10
  !slotFrame && s.reg (K.scheduleEnable p) == 1 &&
  (matrixSlots (s.matrix p)).any (fun e => e.flags == 1 && x.matrixCycle % e.repeats == e.base &&
    decide (x.cycleAt + ticksUs e.start ≤ s.tick) && decide (endTick ≤ x.cycleAt + ticksUs (e.start + e.length)))

/-- A reference message that would end outside its window is not started (R431). -/
def State.referenceLate (s : State) (p : Nat) (r : TxRef) : Bool :=
  let x := s.can p
  let m := s.matrix p
  match r with
  | .service f => x.refWaiting && f.id == matrixRefId m &&
      decide (x.cycleAt + ticksUs (matrixRefWindow m) < s.tick + (s.frameTime p f.id f.format f.data.length + 9) / 10)
  | .buffer _ => false

/-- The best waiting frame of a port (R424). -/
def State.bestTx (s : State) (p : Nat) : Option TxRef :=
  ((s.waitingTx p).filter (fun r => !s.exclusiveHit p r && !s.referenceLate p r)).foldl (fun acc r => match acc with
    | none => some r
    | some q => if s.txRank p r < s.txRank p q then some r else some q) none

/-- An ACTIVE port with an idle bus starts its best waiting frame (R424; notes/assumptions/32.md). -/
def State.canStart (s : State) (p : Nat) : State :=
  let x := s.can p
  if s.reg (K.portState p) ≠ cpActive || x.inTx.isSome || x.busBusy then s
  else match s.bestTx p with
    | none => s
    | some (.buffer b) =>
      (s.setTxBuf p b { s.txBuf p b with requested := false }).setCan p { x with
        inTx := some (.buffer b), sending := some (s.txFrame p (.buffer b)) }
    | some (.service f) => s.setCan p { x with inTx := some (.service f), sending := some f, service := x.service.erase f }

/-- The buffer's frame is in transmission. -/
def State.inTransmission (s : State) (p b : Nat) : Bool := (s.can p).inTx == some (.buffer b)

/-- A commit of a buffer (R423): the shadow copy goes to the active copy now or at the end of the frame; an ON_COMMIT
buffer asks for one frame; a CYCLIC one counts from its first commit. -/
def State.canCommit (s : State) (p b : Nat) (data : Bytes) : State :=
  let x := s.txBuf p b
  let busy := s.inTransmission p b
  let x := if busy then { x with shadow := data, copyDue := true } else { x with shadow := data, active := data }
  let cfg := s.txConfig p b
  if txMode cfg = 1 then s.setTxBuf p b { x with anchor := some (x.anchor.getD s.tick) }
  else if txOwner cfg = 3 then s.setTxBuf p b x
  else if s.reg (K.portState p) ≠ cpActive then s.setTxBuf p b x
  else
    let s := if x.requested then s.bump (K.coalesced p) else s
    (s.setTxBuf p b { x with requested := true }).canStart p

/-- A service frame waits for the bus (R422). -/
def State.canService (s : State) (p : Nat) (f : CanFrame) : State :=
  if s.reg (K.portState p) ≠ cpActive then s
  else (s.setCan p { s.can p with service := (s.can p).service ++ [f] }).canStart p

/-- Writes `v` over bytes `o` onward of `b`. -/
def patch (b : Bytes) (o : Nat) (v : Bytes) : Bytes := b.take o ++ v ++ b.drop (o + v.length)

/-- Bytes and byte order of a CAN field (R244). -/
def canFieldLength (f : Nat) : Nat := 2 ^ (f / 256 % 4)
def canFieldBytes (f : Nat) (v : Int) : Bytes :=
  let b := encInt (canFieldLength f) v
  if f / 4096 % 2 = 1 then b.reverse else b

/-- The range of a CAN field (R244). -/
def canFieldMin (f : Nat) : Int := if f / 8192 % 2 = 1 then -(2 ^ (8 * canFieldLength f - 1) : Nat) else 0
def canFieldMax (f : Nat) : Int :=
  if f / 8192 % 2 = 1 then (2 ^ (8 * canFieldLength f - 1) : Nat) - 1 else (2 ^ (8 * canFieldLength f) : Nat) - 1

/-- A context's delivery into its buffer (R243, R423): bytes outside the field stay as they are. -/
def State.canDeliver (s : State) (target field : Nat) (v : Int) : State :=
  let p := target / 4096
  let b := target % 64
  let x := s.txBuf p b
  let data := padTo (txLength (s.txConfig p b)) x.shadow
  s.canCommit p b (patch data (field % 64) (canFieldBytes field v))

/-- A CAN_SLOT fire (R430): Param and the action time go into the slot's buffer; a waiting commit is replaced, and a port that is not
ACTIVE waits for no window (R423). -/
def State.canSlotSend (s : State) (target param fireTime lead : Nat) : State :=
  let p := target / 4096
  match s.slotOf p (target % 1024) with
  | none => s
  | some e =>
    let x := s.txBuf p e.buffer
    let at_ := fireTime + lead
    let data := padTo (txLength (s.txConfig p e.buffer)) x.shadow
    let data := patch data e.paramOffset (leBytes e.paramLength param)
    let data := if e.actionOffset = 0xFF then data else patch data e.actionOffset (leBytes 4 (at_ / 1000))
    let s := if x.waiting then s.bump (K.coalesced p) else s
    let s := s.canCommit p e.buffer data
    s.setTxBuf p e.buffer { s.txBuf p e.buffer with waiting := x.waiting || s.reg (K.portState p) == cpActive, action := at_ }

/-- A port that leaves the bus drops what it has in transmission and asks nothing more of it (R420, R439). -/
def State.canLeave (s : State) (p : Nat) : State :=
  s.setCan p { s.can p with inTx := none, sending := none, busBusy := false }

/-- Frames that waited are dropped with the port's disable. -/
def State.canDropAll (s : State) (p : Nat) : State :=
  let s := s.setCan p { s.can p with inTx := none, sending := none, busBusy := false, service := [], refWaiting := false }
  (List.range 64).foldl (fun s b =>
    let x := s.txBuf p b
    s.setTxBuf p b { x with
                            requested := false, offered := false,
                            active := if x.copyDue then x.shadow else x.active, copyDue := false }) s

/-- Every waiting commit of a schedule is discarded (R430). -/
def State.scheduleDrop (s : State) (p : Nat) : State :=
  (matrixSlots (s.matrix p)).foldl (fun s e =>
    s.setTxBuf p e.buffer { s.txBuf p e.buffer with waiting := false, offered := false }) s

/-- Cues armed on the schedule of a port end CANCELLED (R430). -/
def State.cancelSlotCues (s : State) (p : Nat) : State :=
  s.endCues (s.activeSlots.filter (fun k => (s.cue k).kind == 4 && (s.cue k).target / 4096 == p)) .cancelled

/-- The converted stamp of a capture (R426). -/
def sofTick (c c0 k0 : Nat) : Nat := k0 + ((c + 2 ^ 32 - c0) % 2 ^ 32 * 5) / 4

/-- The stamp of a capture (R426): the module time of the tick that the latest latch at or before it gives. -/
def State.sofStamp (s : State) (p c : Nat) : Nat :=
  let x := s.can p
  s.timeOfTick (match ((x.c0, x.k0) :: x.latches).find? (fun l => decide ((c + 2 ^ 32 - l.1) % 2 ^ 32 < 2 ^ 31)) with
    | some l => sofTick c l.1 l.2
    | none => sofTick c x.c0 x.k0)

/-- The ISO 11783-5 NAME of the present 0x5860 entries (R432). -/
def State.isobusNameOf (s : State) : Nat :=
  s.regN K.nameIdentity % 2 ^ 21 + s.regN K.nameManufacturer % 2 ^ 11 * 2 ^ 21 + s.regN K.nameEcuInstance % 8 * 2 ^ 32 +
  s.regN K.nameFunctionInstance % 32 * 2 ^ 35 + s.regN K.nameFunction % 256 * 2 ^ 40 +
  s.regN K.nameDeviceClass % 128 * 2 ^ 49 + s.regN K.nameDeviceClassInstance % 16 * 2 ^ 56 +
  s.regN K.nameIndustryGroup % 8 * 2 ^ 60 + s.regN K.nameSelfConfigurable % 2 * 2 ^ 63

/-- The Address Claimed frame from source address `a` (ISO 11783-5; notes/assumptions/33.md). -/
def State.claimFrame (s : State) (a : Nat) : CanFrame := ⟨0x80000000 + 0x18EEFF00 + a, 0, leBytes 8 s.isobusNameOf⟩

end Sys2Proof.Machine
end

