-- ==== Sys2Proof/Machine/LineOps.lean ====
section
/-!
DEFINITION. Delay lines (R122-R124): tap outputs, writes and retirement.
-/
namespace Sys2Proof.Machine

/-- The high-water mark of tap `j` at this tick, in 2^-32 um (R123). -/
def State.tapMark (s : State) (n j : Nat) : Int :=
  let p := s.axisFine (s.regN (K.lineAxis n)) + s.reg (K.tapOffset n j) * 2 ^ 32
  match (s.line n).marks[j]? with
  | some m => max m p
  | none => p

/-- The highest tap mark of a line (R122). -/
def State.foremostMark (s : State) (n : Nat) : Int :=
  ((List.range 8).map (s.tapMark n)).foldl max (s.tapMark n 0)

/-- The entry with the greatest key at or below a mark (R123); entries are in rising key. -/
def entryAt (mark : Int) (l : List (Int × List Int)) : Option (Int × List Int) :=
  (l.filter (fun e => decide (e.1 * 2 ^ 32 ≤ mark))).getLast?

/-- The output of a tap, none when it is starved (R123). -/
def State.tapOutput (s : State) (n j : Nat) : Option (Int × List Int) := entryAt (s.tapMark n j) (s.line n).entries

/-- One lane of a tap's output; a starved tap outputs 0 (R123). -/
def State.tapLane (s : State) (n j lane : Nat) : Int :=
  match s.tapOutput n j with
  | some e => e.2.getD lane 0
  | none => 0

/-- Why a delay line refuses an entry (R122). -/
inductive LineReject where
  | order | late | overflow
  deriving DecidableEq, Repr

/-- The refusal of an entry with key `k`, in the order of R122. -/
def State.lineReject (s : State) (n : Nat) (k : Int) : Option LineReject :=
  if (s.line n).hasKey && decide (k ≤ s.reg (K.lastKey n)) then some .order
  else if k * 2 ^ 32 ≤ s.foremostMark n then some .late
  else if 4096 ≤ (s.line n).entries.length then some .overflow
  else none

/-- Counts a refused write (R122). -/
def State.countReject (s : State) (n : Nat) : LineReject → State
  | .order => s.bump (K.orderRejects n)
  | .late => s.bump (K.lateRejects n)
  | .overflow => s.bump (K.overflowRejects n)

/-- Adds an entry with key `k` (um) and its lanes (R122). -/
def State.lineAdd (s : State) (n : Nat) (k : Int) (lanes : List Int) : State :=
  let x := s.line n
  let s := s.setLine n { x with entries := x.entries ++ [(k, lanes)], hasKey := true }
  (s.setReg (K.entriesHeld n) (x.entries.length + 1 : Nat)).setReg (K.lastKey n) k

/-- A write of the line's writer: added, or refused and counted (R122). -/
def State.lineWrite (s : State) (n : Nat) (k : Int) (lanes : List Int) : State :=
  match s.lineReject n k with
  | some r => s.countReject n r
  | none => s.lineAdd n k lanes

/-- Entries that every mark has left behind: the first goes while the next one's key is reached by every tap (R124). -/
def retireEntries (low : Int) : List (Int × List Int) → List (Int × List Int)
  | a :: b :: t => if b.1 * 2 ^ 32 ≤ low then retireEntries low (b :: t) else a :: b :: t
  | l => l

/-- The marks rise to the tap positions, passed entries retire, and starved taps are shown (R123, R124). -/
def State.lineStep (s : State) (n : Nat) : State :=
  let marks := (List.range 8).map (s.tapMark n)
  let low := marks.foldl min (marks.headD 0)
  let x := s.line n
  let es := retireEntries low x.entries
  let s := s.setLine n { x with entries := es, marks := marks }
  let starved := (marks.zipIdx.map (fun m => if (entryAt m.1 es).isNone then 2 ^ m.2 else 0)).sum
  (s.setReg (K.entriesHeld n) (es.length : Nat)).setReg (K.tapStarved n) (starved : Nat)

end Sys2Proof.Machine
end

