-- ==== Sys2Proof/Machine/SensingOps.lean ====
section
/-!
DEFINITION. Sensing inputs as shared operations: flags and faults (R355), and the values that other blocks take from an
input.
-/
namespace Sys2Proof.Machine

def State.ain (s : State) (n : Nat) : Ain := s.ains.get Ain.init n
def State.setAin (s : State) (n : Nat) (x : Ain) : State := { s with ains := s.ains.set Ain.init n x }
def State.fin (s : State) (n : Nat) : FinIn := s.fins.get FinIn.init n
def State.setFin (s : State) (n : Nat) (x : FinIn) : State := { s with fins := s.fins.set FinIn.init n x }
def State.acu (s : State) (n : Nat) : Acu := s.acus.get Acu.init n
def State.setAcu (s : State) (n : Nat) (x : Acu) : State := { s with acus := s.acus.set Acu.init n x }
def State.brg (s : State) (n : Nat) : Brg := s.brgs.get Brg.init n
def State.setBrg (s : State) (n : Nat) (x : Brg) : State := { s with brgs := s.brgs.set Brg.init n x }

/-- InputFlags bits (R355). -/
abbrev ifOpen : Nat := 0
abbrev ifShort : Nat := 1
abbrev ifSupplyShort : Nat := 2
abbrev ifRange : Nat := 3
abbrev ifSupply : Nat := 4
abbrev ifSignal : Nat := 5
abbrev ifConverter : Nat := 6
abbrev ifSelfTest : Nat := 7
abbrev ifUnderstudy : Nat := 8
abbrev ifClipped : Nat := 9
abbrev ifNoEdges : Nat := 10

/-- Any of the fault bits 0-7 is set (R355). -/
def faultBits (v : Int) : Bool := v % 256 != 0

/-- An input reports a fault: a fault bit is set, or it is not enabled (R355). -/
def State.ainFault (s : State) (n : Nat) : Bool := s.reg (K.ainEnable n) != 1 || faultBits (s.reg (K.ainFlags n))
def State.finFault (s : State) (n : Nat) : Bool := s.reg (K.finEnable n) != 1 || faultBits (s.reg (K.finFlags n))
def State.acuFault (s : State) (n : Nat) : Bool := s.reg (K.acuEnable n) != 1 || faultBits (s.reg (K.acuFlags n))
def State.brgFault (s : State) (n : Nat) : Bool := s.reg (K.brgEnable n) != 1 || faultBits (s.reg (K.brgFlags n))
def State.imuFault (s : State) : Bool := faultBits (s.reg K.imuFlags)

/-- The classes of input that have InputFlags. -/
inductive InClass where
  | ain | fin | acu | brg | imu
  deriving DecidableEq, Repr

/-- How many inputs a class has (R331). -/
def InClass.count : InClass → Nat
  | .ain => 32 | .fin => 16 | .acu => 16 | .brg => 4 | .imu => 1

/-- The flag entry of an input. -/
def InClass.flags : InClass → Nat → Nat
  | .ain, n => K.ainFlags n
  | .fin, n => K.finFlags n
  | .acu, n => K.acuFlags n
  | .brg, n => K.brgFlags n
  | .imu, _ => K.imuFlags

/-- A fault bit becomes set: it is recorded once (R355). -/
def State.inputFault (s : State) (c : InClass) (n bit : Nat) : State :=
  if s.flag (c.flags n) bit then s
  else (s.setFlag (c.flags n) bit true).eventKey .sensing n (c.flags n)

/-- AinValue of a native value (R333). -/
def State.ainScaled (s : State) (n : Nat) (native : Int) : Int :=
  satI32 ((native - s.reg (K.ainZero n)) * s.reg (K.ainGain n) / 65536)

/-- The frequency at this tick (R340): from the last intervals, or from the time since the last edge once that is longer
than the last interval. -/
def State.finFreq (s : State) (n : Nat) : Int :=
  let x := s.fin n
  match x.lastEdge, x.intervals with
  | some t, iv :: _ =>
    if s.flag (K.finFlags n) ifNoEdges then 0
    else
      let since := s.tick - t
      if iv < since then min 200000000 (10 ^ 12 / ((since * 10 : Nat) : Int))
      else
        let l := x.intervals.take (s.regN (K.finAverage n))
        min 200000000 (((l.length * 10 ^ 11 / max 1 l.sum : Nat)) : Int)
  | _, _ => 0

/-- The hitch angle of a FIN input, in 2^-32 turn (R341), rounded down (notes/assumptions/175.md). -/
def State.finAngle (s : State) (n : Nat) : Int := s.reg (K.finCount n) * 2 ^ 32 / (4 * s.reg (K.finTeeth n))

/-- The converter of an input (R354). -/
def ainConverter (n : Nat) : Nat := n / 8
def acuConverter (n : Nat) : Nat := 4 + n / 4

/-- The understudy converter is no longer free (R391, R413). -/
def State.converterTaken (s : State) : Bool := s.reg K.understudyConverterUse != 0xFF

end Sys2Proof.Machine
end

