-- ==== Sys2Proof/Machine/ContextOps.lean ====
section
/-!
DEFINITION. Control contexts as shared operations: inputs (R237-R242), the law (R234-R236), delivery (R243), placement
(R246), tracking (R253) and rehearsals (R259-R263).
-/
namespace Sys2Proof.Machine

def State.ctx (s : State) (n : Nat) : Ctx := s.ctxs.get Ctx.init n
def State.setCtx (s : State) (n : Nat) (x : Ctx) : State := { s with ctxs := s.ctxs.set Ctx.init n x }
def State.capture (s : State) (b : Nat) : Capture := s.caps.get Capture.init b
def State.setCapture (s : State) (b : Nat) (x : Capture) : State := { s with caps := s.caps.set Capture.init b x }

/-- CtxState codes (R252). -/
abbrev cxDisabled : Int := 0
abbrev cxRunning : Int := 1
abbrev cxHold : Int := 2
abbrev cxDict : Int := 3
abbrev cxFallback : Int := 4
abbrev cxFault : Int := 5

/-- LiveFlags bits (R265). -/
abbrev cfInput : Nat := 0
abbrev cfSetpoint : Nat := 1
abbrev cfError : Nat := 2
abbrev cfP : Nat := 3
abbrev cfI : Nat := 4
abbrev cfD : Nat := 5
abbrev cfFf : Nat := 6
abbrev cfLa : Nat := 7
abbrev cfSum : Nat := 8
abbrev cfVcomp : Nat := 9
abbrev cfRate : Nat := 10
abbrev cfHigh : Nat := 11
abbrev cfLow : Nat := 12
abbrev cfNative : Nat := 13
abbrev cfInStale : Nat := 14
abbrev cfSpStale : Nat := 15
abbrev cfStarved : Nat := 16
abbrev cfVsup : Nat := 17
abbrev cfLag : Nat := 18
abbrev cfIntHeld : Nat := 19
abbrev cfLaOff : Nat := 20
abbrev cfFrozen : Nat := 21
abbrev cfStateError : Nat := 22

/-- A value limited to Q7.24, and whether it was cut (R236). -/
def sat24 (v : Int) : Int × Bool := (satI32 v, satI32 v != v)

/-- Numbers of units that a source code can select (R237, R238). -/
def sourceSelects (src : Int) (sel : Nat) : Bool :=
  if src = 1 then decide (sel < 32) else if src = 2 then decide (sel < 16) else if src = 3 then decide (sel < 4)
  else if src = 4 then decide (sel < 16) else if src = 5 || src = 6 then decide (sel < 16)
  else if src = 7 then 1 ≤ sel % 256 && sel % 256 ≤ 6 && (sel % 256 != 6 || (1 ≤ sel / 256 && sel / 256 ≤ 15))
  else if src = 8 then sel / 128 % 2 == 0 && sel / 4096 == 0
  else if src = 9 then decide (sel < 128) else if src = 11 then decide (sel < 32)
  else if src = 12 then decide (sel < 48) else if src = 13 then decide (sel < 6) else src == 10

/-- A millimetre value in m, Q7.24 (R238). -/
def mmToQ (v : Int) : Int := (v * 2 ^ 24).tdiv 1000

/-- The crop edge of one side: Y of its nearest point in mm, none while no valid line of that side is held (R189, R238). -/
def edgeY (b : Bytes) (side : Nat) : Option Int :=
  ((List.range (min 4 (fieldU b 4 1))).find? (fun k => fieldU b (8 + 132 * k) 1 == side && fieldU b (9 + 132 * k) 1 == 1)).map
    (fun k => fieldI b (8 + 132 * k + 8) 4)

/-- A fusion output field of the last issued result, none while it is invalid (R238). -/
def State.fusionField (s : State) (sel : Nat) : Option Int :=
  let lane := sel / 256
  let warming := fieldU (s.blob K.resultHeader) 4 2 / 2 % 2 == 1
  if warming then none
  else match sel % 256 with
    | 1 => if fieldU (s.blob K.spoutAlignment) 4 1 = 1 then some (mmToQ (fieldI (s.blob K.spoutAlignment) 16 4)) else none
    | 2 => if fieldU (s.blob K.spoutAlignment) 4 1 = 1 then some (mmToQ (fieldI (s.blob K.spoutAlignment) 20 4)) else none
    | 3 => if fieldU (s.blob K.tankFill) 4 1 = 1 then some (fieldI (s.blob K.tankFill) 8 4) else none
    | 4 => (edgeY (s.blob K.cropEdges) 0).map mmToQ
    | 5 => (edgeY (s.blob K.cropEdges) 1).map mmToQ
    | 6 =>
      let b := s.blob K.densityBand
      if fieldU b 7 1 = 1 && 1 ≤ lane && lane ≤ fieldU b 6 1 then some (fieldI b (8 + 4 * lane) 4) else none
    | _ => none

/-- u of a context as another block sees it at this tick: the new value shows 350 ns after its sample (R247, R248). -/
def State.seenOutput (s : State) (n : Nat) : Int :=
  let x := s.ctx n
  if x.sampled && s.tick < x.lastTick + 35 then x.uBefore else x.u

/-- An input of a context: its native value, whether the source is invalid, and the tick of its newest value where that
can age (R237, R240). -/
structure CtxInput where
  value : Int
  bad : Bool
  newest : Option Nat
  deriving DecidableEq, Repr

/-- The state as the ticks before this one have published it (R247). -/
def State.published (s : State) : State :=
  let p := s.clock.seen
  { s with
    regs := p.regs, blobs := p.blobs, ains := p.ains, fins := p.fins, acus := p.acus, brgs := p.brgs, imu := p.imu,
    fuse := { s.fuse with issuedAt := p.issuedAt } }

/-- What the sources of contexts publish up to the end of this tick. -/
def State.notePublished (s : State) : State :=
  { s with clock := { s.clock with seen := ⟨s.regs, s.blobs, s.ains, s.fins, s.acus, s.brgs, s.imu, s.fuse.issuedAt⟩ } }

/-- An input at a sample: axis values and tap outputs of this tick, and of every other source the newest value of a tick before
(R247). -/
def State.ctxInput (s : State) (src : Int) (sel : Nat) (n : Nat) : CtxInput :=
  let p := s.published
  if src = 1 then ⟨p.reg (K.ainValue sel), p.ainFault sel, some (p.ain sel).lastTick⟩
  else if src = 2 then ⟨p.finFreq sel, p.finFault sel, none⟩
  else if src = 3 then ⟨p.reg (K.brgValue sel), p.brgFault sel, some (p.brg sel).lastTick⟩
  else if src = 4 then ⟨p.reg (K.grainRate sel), p.acuFault sel, some (p.acu sel).rateAt⟩
  else if src = 5 then ⟨s.axisValue sel, s.axisState sel == axDisabled || s.axisState sel == axInvalid, none⟩
  else if src = 6 then ⟨(s.axis sel).vp / 65536, s.axisState sel == axDisabled || s.axisState sel == axInvalid, none⟩
  else if src = 7 then match p.fusionField sel with
    | some v => ⟨v, false, p.fuse.issuedAt⟩
    | none => ⟨0, true, none⟩
  else if src = 8 then ⟨s.tapLane (sel % 16) (sel / 16 % 8) (sel / 256 % 16), s.reg (K.lineEnable (sel % 16)) != 1, none⟩
  else if src = 9 then ⟨s.seenOutput sel, s.reg (K.ctxState sel) != cxRunning, some (s.ctx sel).lastTick⟩
  else if src = 10 then ⟨s.reg (K.ctxSetpoint n), false, none⟩
  else if src = 11 then ⟨p.reg (K.svCurrent sel), false, none⟩
  else if src = 12 then ⟨p.reg (K.lsCurrent sel), false, none⟩
  else if src = 13 then ⟨p.reg (K.imuChannel sel), p.imuFault, some p.imu.lastTick⟩
  else ⟨0, false, none⟩

/-- The input is invalid in this sample (R240). -/
def State.inputInvalid (s : State) (n : Nat) (x : CtxInput) : Bool :=
  x.bad || (s.reg (K.staleTime n) != 0 && (match x.newest with
    | some t => decide (s.reg (K.staleTime n) < ((s.tick - t) * 10 : Nat))
    | none => false))

/-- A source context's u comes from an earlier sample than its latest sample instant (R248). -/
def State.cascadeLag (s : State) (src : Int) (sel : Nat) : Bool :=
  src == 9 && (s.ctx sel).sampled && decide (s.tick < (s.ctx sel).lastTick + 35)

/-- The supply voltage of the voltage gain in mV, none where it is not used or not valid; the flag says that it should
have been (R242, R334). -/
def State.ctxSupply (s : State) (n : Nat) : Option Int × Bool :=
  if s.reg (K.vsupSource n) = 0 || s.reg (K.kfv n) = 0 then (none, false)
  else
    let tgt := s.regN (K.outTarget n)
    let p := s.published
    let vb := if s.reg (K.vsupSource n) = 2 then
        let a := s.regN (K.vsupSelect n)
        ((p.reg (K.ainNative a)).tdiv 1000, p.ainFault a)
      else if s.reg (K.outKind n) = 1 then (p.reg (K.supplyVoltage (svBank tgt)), false)
      else (p.reg (K.groupVoltage (lsGroup tgt)), false)
    if vb.2 || vb.1 < 6000 then (none, true) else (some vb.1, false)

/-- The voltage gain in Q16.16 and whether it was clamped (R242). -/
def vGain (kfv nominal : Int) : Option Int → Int × Bool
  | some vin =>
    let g := 65536 + (kfv * (nominal - vin)).tdiv vin
    (clampI 32768 131072 g, clampI 32768 131072 g != g)
  | none => (65536, false)

/-- floor(SamplePeriod * 2^32 / 10^9) and the rate in Hz (R234). -/
def hq (period : Int) : Int := period * 2 ^ 32 / 10 ^ 9
def ctxRate (period : Int) : Int := 10 ^ 9 / period

/-- step(x) of R234. -/
def rateStep (x period : Int) : Int := x * hq period / 2 ^ 24

/-- sign(e) * db taken from e, 0 inside the deadband (R234). -/
def deadbanded (e db : Int) : Int := if absI e ≤ db then 0 else if 0 < e then e - db else e + db

/-- What a sample's inputs give to the law. -/
structure EvalIn where
  y : Int
  r : Int
  la : Int
  laSat : Bool
  g : Int
  gSat : Bool
  injSet : Int
  injOut : Int
  held : Bool
  frozen : Bool
  noRate : Bool
  deriving DecidableEq, Repr

/-- The parameters of the law in force. -/
structure CtxPar where
  period : Int
  mf : Int
  spr : Int
  kfa : Int
  kp : Int
  kd : Int
  df : Int
  bias : Int
  orl : Int
  ki : Int
  db : Int
  imin : Int
  imax : Int
  outmin : Int
  outmax : Int
  deriving DecidableEq, Repr

def State.ctxPar (s : State) (n : Nat) : CtxPar :=
  ⟨s.reg (K.samplePeriod n), s.reg (K.measFilter n), s.reg (K.setpointRateLimit n), s.reg (K.kfa n), s.reg (K.ctxKp n),
    s.reg (K.kd n), s.reg (K.dFilter n), s.reg (K.bias n), s.reg (K.outRateLimit n), s.reg (K.ctxKi n), s.reg (K.deadband n),
    s.reg (K.integratorMin n), s.reg (K.integratorMax n), s.reg (K.outMin n), s.reg (K.outMax n)⟩

/-- Flags as a raw value from (bit, set) pairs. -/
def flagsOf (l : List (Nat × Bool)) : Int := (l.map (fun x => if x.2 then ((2 ^ x.1 : Nat) : Int) else 0)).sum

/-- One evaluation (R234): the new values, u and the saturation flags. -/
def evaluate (c : CtxPar) (x : Ctx) (i : EvalIn) : Ctx × Int :=
  let rate := ctxRate c.period
  let yfPrev := x.yf
  let yf := x.yf + c.mf * (i.y - x.yf) / 2 ^ 16
  let r := if i.frozen then x.rr else i.r
  let r := if 0 < c.spr then clampI (x.rr - rateStep c.spr c.period) (x.rr + rateStep c.spr c.period) r else r
  let aff := sat24 (c.kfa * (r - x.rr) * rate / 2 ^ 16)
  let rr := r
  let rq := if i.injSet ≠ 0 then (sat24 (rr + i.injSet)).1 else rr
  let e0 := sat24 (rq - yf)
  let e := deadbanded e0.1 c.db
  let p := sat24 (c.kp * e / 2 ^ 16)
  let dd := sat24 (-c.kd * (yf - yfPrev) * rate / 2 ^ 16)
  let d := sat24 (x.d + c.df * (dd.1 - x.d) / 2 ^ 16)
  let acc := x.i / 2 ^ 16 + p.1 + d.1 + aff.1 + i.la + c.bias + i.injOut
  let pre := sat24 acc
  let ug := sat24 (pre.1 * i.g / 2 ^ 16)
  let lim := rateStep c.orl c.period
  let u1 := if 0 < c.orl && !i.noRate then clampI (x.uPrev - lim) (x.uPrev + lim) ug.1 else ug.1
  let u := clampI c.outmin c.outmax u1
  let pushes := (u == c.outmax && decide (0 < e)) || (u == c.outmin && decide (e < 0)) ||
    (decide (u1 < ug.1) && decide (0 < e)) || (decide (ug.1 < u1) && decide (e < 0))
  let inext := x.i + c.ki * e * hq c.period / 2 ^ 32
  let lo := c.imin * 2 ^ 16
  let hi := c.imax * 2 ^ 16
  let change := !i.held && !pushes
  let iv := if change then clampI lo hi inext else x.i
  let flags := flagsOf [(cfError, e0.2), (cfP, p.2), (cfI, change && iv != inext), (cfD, dd.2 || d.2), (cfFf, aff.2),
    (cfLa, i.laSat), (cfSum, pre.2), (cfVcomp, i.gSat || ug.2), (cfRate, u1 != ug.1), (cfHigh, decide (c.outmax < u1)),
    (cfLow, decide (u1 < c.outmin))]
  ({ x with
            y := i.y, yf := yf, r := r, rr := rr, e := e, rq := rq, p := p.1, d := d.1, aff := aff.1, la := i.la, g := i.g,
            i := iv, u := u, uPrev := u }, flags)

/-- Tracking (R253): us stands for u, and the integrator follows. -/
def track (c : CtxPar) (x : Ctx) (us : Int) : Ctx :=
  let v := ((us * 65536).tdiv x.g - x.p - x.d - x.aff - x.la - c.bias) * 65536
  { x with u := us, uPrev := us, i := clampI (c.imin * 65536) (c.imax * 65536) v }

/-- The range of a target's native value (R243, R244). -/
def nativeRange (kind canField : Nat) : Int × Int :=
  if kind = 1 then (0, 8000) else if kind = 2 then (0, 1000) else if kind = 3 then (canFieldMin canField, canFieldMax canField)
  else (-(2 ^ 31), 2 ^ 31 - 1)

/-- The channel or buffer that the context drives is owned by it, and a CAN field fits its buffer (R19, R243, R244). -/
def State.ctxTargetOk (s : State) (n : Nat) : Bool :=
  let t := s.regN (K.outTarget n)
  let k := s.reg (K.outKind n)
  if k = 1 then decide (t < 32) && s.svOwnedBy t n
  else if k = 2 then decide (t < 48) && s.reg (K.lsOwner t) == 2 && s.regN (K.lsOwnerContext t) == n
  else if k = 3 then
    let c := s.txConfig (t / 4096) (t % 64)
    let f := s.regN (K.canField n)
    decide (t / 4096 < 6) && t / 64 % 64 == 0 && txOwner c == 2 && txContext c == n &&
      decide (f % 64 + canFieldLength f ≤ txLength c)
  else true

/-- A delivery (R243): the native value of a signal reaches the target while the context owns it (R19, R287); NATIVE_SAT comes
back. -/
def State.deliver (s : State) (n : Nat) (u : Int) : State × Bool :=
  let kind := s.regN (K.outKind n)
  if kind = 0 then (s, false)
  else
    let raw := s.reg (K.outOffset n) + u * s.reg (K.outScale n) / 2 ^ 40
    let rg := nativeRange kind (s.regN (K.canField n))
    let v := clampI rg.1 rg.2 raw
    let t := s.regN (K.outTarget n)
    let s := s.setReg (K.outputNative n) v
    let s := if !s.ctxTargetOk n then s else if kind = 1 then s.svDeliver t v.toNat else if kind = 2 then s.lsSetDuty t v
      else s.canDeliver t (s.regN (K.canField n)) v
    (s, v != raw)

/-- The target channel has failed (R252, R324). -/
def State.ctxTargetFailed (s : State) (n : Nat) : Bool :=
  let t := s.regN (K.outTarget n)
  if s.reg (K.outKind n) = 1 then s.reg (K.svState t) == svFault
  else if s.reg (K.outKind n) = 2 then s.lsFailed t else false

/-! Placement (R245, R246) -/

/-- Windows between the samples of a context: N of R245. -/
def State.ctxN (s : State) (n : Nat) : Nat := s.regN (K.samplePeriod n) / 25000

/-- The contexts that hold a place. -/
def State.placed (s : State) : List Nat := (List.range 128).filter (fun m => s.reg (K.slot m) != 0xFF)

/-- A slot and phase are free of conflict for period N (R246). -/
def placeFree (taken : List (Nat × Nat × Nat)) (slot n p : Nat) : Bool :=
  taken.all (fun t => t.1 != slot || p % Nat.gcd n t.2.1 != t.2.2 % Nat.gcd n t.2.1)

/-- The first free place among the slots given, phases in ascending order. -/
def findPlace (taken : List (Nat × Nat × Nat)) (n : Nat) (slots phases : List Nat) : Option (Nat × Nat) :=
  slots.findSome? (fun sl => (phases.find? (placeFree taken sl n)).map (fun p => (sl, p)))

/-- The context that a context follows in a cascade of equal period (R246): its measurement source, else its setpoint source. -/
def State.cascadeSource (s : State) (n : Nat) : Option Nat :=
  [(s.reg (K.measSource n), s.regN (K.measSelect n)), (s.reg (K.setpointSource n), s.regN (K.setpointSelect n))].findSome?
    (fun q => if q.1 = 9 && s.reg (K.slot q.2) ≠ 0xFF && s.reg (K.samplePeriod q.2) = s.reg (K.samplePeriod n) then some q.2
      else none)

/-- The place of a context (R246): after its source where a cascade of equal period allows, else the first free one. -/
def State.ctxPlace (s : State) (n : Nat) : Option (Nat × Nat) :=
  let per := s.ctxN n
  let taken := s.placed.map (fun m => (s.regN (K.slot m), s.ctxN m, s.regN (K.phase m)))
  let after := match s.cascadeSource n with
    | some m =>
      let from_ := s.regN (K.slot m) + 2
      findPlace taken per ((List.range (100 - from_)).map (· + from_)) [s.regN (K.phase m)]
    | none => none
  match after with
  | some p => some p
  | none => findPlace taken per (List.range 100) (List.range per)

/-- Shows the evaluations per second on the grid (R264). -/
def State.showLoad (s : State) : State :=
  s.setReg (K.engineLoad 0) ((s.placed.map (fun m => ctxRate (s.reg (K.samplePeriod m)))).sum)

/-- A context's state by its mode (R252, R254). -/
def State.ctxModeState (s : State) (n : Nat) : Int :=
  if s.reg (K.ctxMode n) = 1 then cxHold else if s.reg (K.ctxMode n) = 2 then cxDict else cxRunning

/-- A context takes its place and starts under R257; its event state is clear (R246, R250, R257). -/
def State.ctxStart (s : State) (n : Nat) (pl : Nat × Nat) : State :=
  let s := (s.setReg (K.slot n) (pl.1 : Nat)).setReg (K.phase n) (pl.2 : Nat)
  let s := (s.setReg (K.ctxState n) (s.ctxModeState n)).setReg (K.liveFlags n) 0
  let x := s.ctx n
  (s.setCtx n { x with fresh := true, invalidFrom := none, validFrom := none, events := [], sampled := false }).showLoad

/-! Rehearsals (R259-R263) -/

/-- pi in 2^-80. -/
def pi80 : Int := 3797952473636338580787993

/-- Sine of x (2^-80 rad, in the first quadrant) by its series, in 2^-80. -/
def sinSeries (x : Int) : Nat → Int → Int → Int
  | 0, _, _ => 0
  | fuel + 1, term, k => term + sinSeries x fuel (-(term * x / 2 ^ 80 * x / 2 ^ 80) / (2 * k * (2 * k + 1))) (k + 1)

/-- Entry `j` of the sine table: round(2^24 * sin(2 pi j / 4096)) (R260). -/
def sineEntry (j : Nat) : Int :=
  let m := j % 4096
  let q := m % 2048
  let a := if q ≤ 1024 then q else 2048 - q
  let x := pi80 * a / 2048
  let v := (2 * sinSeries x 20 x 1 + 2 ^ 56) / 2 ^ 57
  if m < 2048 then v else -v

/-- sine(ph) of R260: linear between table entries. -/
def sineOf (ph : Nat) : Int :=
  let j := ph / 2 ^ 20 % 4096
  let a := sineEntry j
  a + (sineEntry (j + 1) - a) * (ph % 2 ^ 20 : Nat) / 2 ^ 20

/-- The tap of a PRBS order (R260). -/
def prbsTap (order : Nat) : Option Nat :=
  match order with
  | 7 => some 6 | 9 => some 5 | 11 => some 9 | 15 => some 14 | 23 => some 18 | _ => none

/-- The injection of sample `k` of the INJECT phase and the generator after it (R260). -/
def Reh.inject (r : Reh) (rate : Int) (k : Nat) : Int × Reh :=
  if r.signal = 0 then (r.amp, r)
  else if r.signal = 1 then
    let f := r.f0 + ((r.f1 - r.f0) * (k : Int)).tdiv (r.samples : Int)
    let ph := (((r.chirpPhase : Int) + (f * 2 ^ 32).tdiv (1000 * rate)) % 2 ^ 32).toNat
    (r.amp * sineOf ph / 2 ^ 24, { r with chirpPhase := ph })
  else
    let r := if k % (max 1 r.hold) = 0 then
        let b := Nat.xor (r.prbs / 2 ^ (r.order - 1)) (r.prbs / 2 ^ ((prbsTap r.order).getD 1 - 1)) % 2
        { r with bit := b == 1, prbs := (2 * r.prbs + b) % 2 ^ r.order }
      else r
    (if r.bit then r.amp else -r.amp, r)

/-- The capture buffer of a context, by the item that uses it. -/
def State.captureOf (s : State) (n : Nat) : Option Nat := (List.range 4).find? (fun b => (s.capture b).ctx == some n)

/-- A buffer's rehearsal is ARMED or RUNNING, or an unfinished chunked read uses it (R37, R263). -/
def State.captureBusy (s : State) (b : Nat) : Bool :=
  let read (o : Option Nat) : Bool := match o with
    | some n => (List.range 16).any (fun sl => match (s.sess sl).snap with
      | some q => q.idx == 0x3800 + n && q.sub == 0x53
      | none => false)
    | none => false
  (match (s.capture b).ctx with
    | some n => (s.ctx n).reh.isSome
    | none => false) || read (s.capture b).ctx || read (s.capture b).left

/-- The rehearsal takes part in the samples after the tick of its acceptance (R261). -/
def State.rehBegun (s : State) (r : Reh) : Bool := decide (r.armedAt < s.tick)

/-- The free buffer whose capture is oldest (R263). -/
def State.freeCapture (s : State) : Option Nat :=
  ((List.range 4).filter (fun b => !s.captureBusy b)).foldl (fun acc b => match acc with
    | none => some b
    | some c => if (s.capture b).age < (s.capture c).age then some b else some c) none

/-- Rehearsals ARMED or RUNNING. -/
def State.rehearsals (s : State) : Nat := ((List.range 128).filter (fun n => (s.ctx n).reh.isSome)).length

def State.showRehearsals (s : State) : State := s.setReg (K.rehearsalsActive 0) (s.rehearsals : Nat)

/-- A rehearsal ends with a reason and an outcome (R262); an ARMED one holds no records. -/
def State.rehEnd (s : State) (n reason : Nat) (o : Outcome) (detail : Nat := 0) : State :=
  match (s.ctx n).reh with
  | none => s
  | some r =>
    let s := s.setCtx n { s.ctx n with reh := none }
    let s := match s.captureOf n with
      | some b =>
        let c := s.capture b
        s.setCapture b { c with reason := reason, records := if r.armed then [] else c.records }
      | none => s
    let s := if r.armed then s.setReg (K.captureRecords n) 0 else s
    let s := (s.setReg (K.rehearsalState n) 0).setReg (K.rehearsalEnd n) (reason : Nat)
    (s.showRehearsals).finish r.item o detail

/-- The sample's extra value (R263). -/
def Ctx.extra (x : Ctx) (k : Nat) : Int :=
  match k with
  | 0 => x.i / 65536 | 1 => x.d | 2 => x.aff | 3 => x.la | 4 => x.g | _ => x.y

/-- A record goes into the capture (R261, R263); an ARMED rehearsal keeps the last RehPreSamples. -/
def State.rehRecord (s : State) (n : Nat) (r : Reh) (inj : Int) (phase : Nat) : State :=
  match s.captureOf n with
  | none => s
  | some b =>
    let c := s.capture b
    let x := s.ctx n
    let rec_ : CapRec := ⟨inj, x.rq, x.yf, x.u, x.extra r.extra, s.regN (K.liveFlags n) % 65536, phase, s.now⟩
    let l := c.records ++ [rec_]
    let l := if r.armed then l.drop (l.length - r.pre) else l
    (s.setCapture b { c with records := l }).setReg (K.captureRecords n) (l.length : Nat)

/-- The capture as `RehearsalCapture` reads (R263). -/
def CapRec.bytes (k : Nat) (r : CapRec) : Bytes :=
  leBytes 4 k ++ encInt 4 r.inj ++ encInt 4 r.rq ++ encInt 4 r.yf ++ encInt 4 r.u ++ encInt 4 r.extra ++ leBytes 2 r.flags ++
  leBytes 1 r.phase ++ [0] ++ leBytes 4 (r.time / 10 % 2 ^ 32)

/-- Module time of the first record's sample. -/
def Capture.startTime (c : Capture) : Nat :=
  match c.records with
  | r :: _ => r.time
  | [] => 0

def Capture.bytes (n : Nat) (c : Capture) : Bytes :=
  leBytes 8 c.startTime ++ leBytes 4 c.period ++ leBytes 4 c.records.length ++ leBytes 1 n ++ leBytes 1 c.signal ++
  leBytes 1 c.point ++ leBytes 1 c.reason ++ leBytes 1 c.extra ++ zeros 3 ++ leBytes 8 c.item ++
  (c.records.zipIdx.map (fun x => x.1.bytes x.2)).flatten

def State.captureBytes (s : State) (n : Nat) : Bytes :=
  match s.captureOf n with
  | some b => (s.capture b).bytes n
  | none => Capture.bytes n Capture.init

/-- The hand-over of a disabled context (R256): BypassValue once with DICTIONARY, nothing new with HOLD; the slot is freed,
a rehearsal ends CANCELLED, and everything aimed at the context ends (R92). -/
def State.ctxHandOver (s : State) (n : Nat) : State :=
  let s := if s.reg (K.disableOutput n) = 1 && s.reg (K.ctxState n) ≠ cxFault then (s.deliver n (s.reg (K.bypassValue n))).1 else s
  let s := s.rehEnd n 6 .cancelled
  let s := ((s.setReg (K.ctxEnable n) 0).setReg (K.ctxState n) cxDisabled).setReg (K.slot n) 0xFF
  let s := s.setReg (K.phase n) 0
  let s := s.setCtx n { s.ctx n with writes := [], events := [] }
  ((s.showLoad).cancelCuesOnTarget 3 n).endDisable (aimCtx n)

/-- A CONTEXT event is latched at the context's input (R250); a DISABLED context takes none. -/
def State.ctxEvent (s : State) (n code : Nat) : State :=
  if s.reg (K.ctxState n) = cxDisabled then s
  else s.setCtx n { s.ctx n with events := (s.ctx n).events ++ [(code, s.tick)] }

end Sys2Proof.Machine
end

