-- ==== Sys2Proof/Machine/CoverOps.lean ====
section
/-!
DEFINITION. Cells and tiles of the coverage grid (R141, R142).
-/
namespace Sys2Proof.Machine

/-- One millimetre in the unit of positions, 2^-32 um. -/
abbrev fineMm : Int := 1000 * 2 ^ 32

/-- A cell number from a coordinate in 2^-32 um. -/
def cellNumber (pitch : Nat) (x : Int) : Int := x / ((pitch : Int) * fineMm)

/-- Key of a tile as one number, none outside the range of I16 keys (R142). -/
def tileKey (a b : Int) : Option Nat :=
  if -32768 ≤ a && a ≤ 32767 && -32768 ≤ b && b ≤ 32767 then some ((a + 32768).toNat * 65536 + (b + 32768).toNat) else none

/-- The tile coordinates of a key. -/
def tileX (k : Nat) : Int := (k / 65536 : Nat) - 32768
def tileY (k : Nat) : Int := (k % 65536 : Nat) - 32768

/-- Bit index of a cell in its tile (R142). -/
def cellBit (layers layer : Nat) (i j : Int) : Nat :=
  (((j % 256).toNat * 256 + (i % 256).toNat) * layers) + layer

def State.tile (s : State) (k : Nat) : CovTile := s.cov.tiles.get CovTile.init k
def State.setTile (s : State) (k : Nat) (x : CovTile) : State :=
  { s with cov := { s.cov with tiles := s.cov.tiles.set CovTile.init k x } }

/-- A cell reads covered on a layer; one in no tile reads as not covered (R142). -/
def State.covered (s : State) (layer : Nat) (i j : Int) : Bool :=
  match tileKey (i / 256) (j / 256) with
  | some k =>
    let b := cellBit (s.regN K.coverageLayers) layer i j
    ((s.tile k).bits.get 0 (b / 8)).testBit (b % 8)
  | none => false

end Sys2Proof.Machine
end

