-- ==== Sys2Proof/Machine/Pixels.lean ====
section
/-!
DEFINITION. The image processing of the camera pipeline as functions of a frame (R215-R224) and its statistics (R228).
-/
namespace Sys2Proof.Machine

/-- What the processing of a frame reads: size, mosaic code, bits per pixel, correction values and raw rows. -/
structure Picture where
  w : Nat
  h : Nat
  mosaic : Nat
  bits : Nat
  corr : Corr
  rows : List (List Nat)
  deriving DecidableEq, Repr

/-- The index that coordinate `i` reads: frames are mirrored at their edges (R217, R220). -/
def mirror (n : Nat) (i : Int) : Nat :=
  if i < 0 then (-i).toNat else if (n : Int) ≤ i then (2 * ((n : Int) - 1) - i).toNat else i.toNat

/-- The mosaic channel of an image pixel (R219). -/
def mosaicChannel (mosaic x y : Nat) : Nat :=
  if mosaic = 1 || mosaic = 2 then x % 2 + y % 2
  else if mosaic = 3 then
    if y % 4 = 0 then [2, 1, 0, 1].getD (x % 4) 0 else if y % 4 = 2 then [0, 1, 2, 1].getD (x % 4) 0
    else if x % 2 = 0 then 1 else 3
  else 0

/-- The repeat distance of a channel (R219). -/
def repeatDistance (mosaic c : Nat) : Nat :=
  if mosaic = 0 then 1 else if mosaic = 3 && (c = 0 || c = 2) then 4 else 2

/-- Channels of a mosaic (R219). -/
def channelCount (mosaic : Nat) : Nat := if mosaic = 0 then 1 else if mosaic = 3 then 4 else 3

/-- Black-level correction (R216). -/
def blackLevel (w bl : Nat) : Nat :=
  let g := 65535 * 65536 / (65535 - bl)
  if w ≤ bl then 0 else min 65535 ((w - bl) * g / 65536)

def Picture.raw (p : Picture) (x y : Nat) : Nat := (p.rows.getD y []).getD x 0

/-- The unpacked, black-corrected value of a pixel (R216). -/
def Picture.black (p : Picture) (x y : Nat) : Nat :=
  let up := 2 ^ (16 - p.bits)
  blackLevel (p.raw x y * up) (p.corr.black.getD (mosaicChannel p.mosaic x y) 0 * up)

/-- The same at mirrored coordinates. -/
def Picture.blackAt (p : Picture) (x y : Int) : Nat := p.black (mirror p.w x) (mirror p.h y)

/-- A pixel stands in a defect map (R217). -/
def inDefectMap : Bytes → Nat → Nat → Bool
  | a :: b :: c :: d :: t, x, y => (leNat [a, b] == x && leNat [c, d] == y) || inDefectMap t x y
  | _, _, _ => false

/-- Defect correction (R217). -/
def Picture.defect (p : Picture) (x y : Nat) : Nat :=
  let dist := repeatDistance p.mosaic (mosaicChannel p.mosaic x y)
  let v := p.black x y
  let l := p.blackAt ((x : Int) - dist) y
  let r := p.blackAt ((x : Int) + dist) y
  let u := p.blackAt x ((y : Int) - dist)
  let d := p.blackAt x ((y : Int) + dist)
  let t := p.corr.threshold
  let bad := inDefectMap p.corr.defects x y || (t != 65535 &&
    (decide (max (max l r) (max u d) + t < v) || decide (v + t < min (min l r) (min u d))))
  if !bad then v else if absI ((u : Int) - d) < absI ((l : Int) - r) then (u + d + 1) / 2 else (l + r + 1) / 2

/-- A node of the lens-shading table (R218). -/
def shadingNode (b : Bytes) (c i j : Nat) : Nat := fieldU b (2 * (c * 221 + j * 17 + i)) 2

/-- The gain at a pixel, Q4.12 (R218): bilinear with 16 fraction bits of position. -/
def shadingGain (b : Bytes) (w h c x y : Nat) : Nat :=
  let px := x * 16 * 65536 / (w - 1)
  let py := y * 12 * 65536 / (h - 1)
  let i := min 15 (px / 65536)
  let j := min 11 (py / 65536)
  let fx := px - i * 65536
  let fy := py - j * 65536
  let top := shadingNode b c i j * (65536 - fx) + shadingNode b c (i + 1) j * fx
  let bot := shadingNode b c i (j + 1) * (65536 - fx) + shadingNode b c (i + 1) (j + 1) * fx
  (top * (65536 - fy) + bot * fy) / 2 ^ 32

/-- The shaded value of a pixel (R218). -/
def Picture.shaded (p : Picture) (x y : Nat) : Nat :=
  min 65535 (p.defect x y * shadingGain p.corr.shading p.w p.h (mosaicChannel p.mosaic x y) x y / 4096)

/-- Shaded values of channel `c` in the mirrored square window of radius `r` (R220). -/
def Picture.window (p : Picture) (c x y r : Nat) : List Nat :=
  (List.range (2 * r + 1)).flatMap (fun dy => (List.range (2 * r + 1)).filterMap (fun dx =>
    let mx := mirror p.w ((x : Int) + dx - r)
    let my := mirror p.h ((y : Int) + dy - r)
    if mosaicChannel p.mosaic mx my = c then some (p.shaded mx my) else none))

/-- The rounded mean of R220. -/
def roundedMean (l : List Nat) : Nat := if l.length = 0 then 0 else (l.sum + l.length / 2) / l.length

/-- The demosaiced value of channel `c` (R220). -/
def Picture.demosaic (p : Picture) (c x y : Nat) : Nat :=
  if mosaicChannel p.mosaic x y = c then p.shaded x y
  else
    let l := p.window c x y 1
    if l.isEmpty then roundedMean (p.window c x y 2) else roundedMean l

/-- R', G', B' of a pixel (R221). -/
def Picture.rgb (p : Picture) (x y : Nat) : Nat × Nat × Nat :=
  if p.mosaic = 0 then (p.shaded x y, p.shaded x y, p.shaded x y)
  else
    let inp := (List.range 4).map (fun c => if c < channelCount p.mosaic then p.demosaic c x y else 0)
    let out (row : Nat) : Nat :=
      let acc := ((List.range 4).map (fun c => fieldI p.corr.matrix (2 * (4 * row + c)) 2 * (inp.getD c 0 : Nat))).sum
      (clampI 0 65535 ((acc + 2048) / 4096)).toNat
    (out 0, out 1, out 2)

/-- The linear luminance of R222. -/
def y16 (c : Nat × Nat × Nat) : Nat := (871 * c.1 + 2929 * c.2.1 + 296 * c.2.2 + 2048) / 4096
def u16 (c : Nat × Nat × Nat) : Nat :=
  (clampI 0 65535 ((((c.2.2 : Int) - y16 c) * 2207 + 2048) / 4096 + 32768)).toNat
def v16 (c : Nat × Nat × Nat) : Nat :=
  (clampI 0 65535 ((((c.1 : Int) - y16 c) * 2601 + 2048) / 4096 + 32768)).toNat

/-- Values of a full plane, rows from the top. -/
def fullPlane (w h : Nat) (f : Nat → Nat → Nat) : List Nat :=
  (List.range h).flatMap (fun y => (List.range w).map (fun x => f x y))

/-- The rounded means of the 2 x 2 blocks of a plane. -/
def halfPlane (w h : Nat) (f : Nat → Nat → Nat) : List Nat :=
  fullPlane (w / 2) (h / 2) (fun x y =>
    (f (2 * x) (2 * y) + f (2 * x + 1) (2 * y) + f (2 * x) (2 * y + 1) + f (2 * x + 1) (2 * y + 1) + 2) / 4)

/-- The vision output (R222). -/
def Picture.vision (p : Picture) (seq instant : Nat) : Planes :=
  if p.mosaic = 0 then
    ⟨seq, instant, fullPlane p.w p.h (fun x y => p.shaded x y / 16),
      fullPlane (p.w / 2) (p.h / 2) (fun _ _ => 2048), fullPlane (p.w / 2) (p.h / 2) (fun _ _ => 2048), [], []⟩
  else
    ⟨seq, instant, fullPlane p.w p.h (fun x y => y16 (p.rgb x y) / 16),
      (halfPlane p.w p.h (fun x y => u16 (p.rgb x y))).map (· / 16),
      (halfPlane p.w p.h (fun x y => v16 (p.rgb x y))).map (· / 16),
      if p.mosaic = 3 then (halfPlane p.w p.h (fun x y => p.demosaic 3 x y)).map (· / 16) else [], []⟩

/-- The depth plane in mm (R223). -/
def Picture.depth (p : Picture) (scale seq instant : Nat) : Planes :=
  ⟨seq, instant, [], [], [], [], fullPlane p.w p.h (fun x y =>
    let r := p.raw x y
    if r = 0 || r = 0xFFFF then 0 else min 65534 ((r * scale + 500) / 1000))⟩

/-- A gamma value (R224). -/
def gammaOf (lut : Bytes) (x : Nat) : Nat := fieldU lut (2 * (x / 64)) 2

/-- The 8-bit gamma value of channel `k` (0 R, 1 G, 2 B) of a pixel, before scaling (R224). -/
def Picture.rgb8 (p : Picture) (k x y : Nat) : Nat :=
  let c := p.rgb x y
  gammaOf p.corr.gamma ([c.1, c.2.1, c.2.2].getD k 0) / 256

/-- A bilinear sample at (x, y) in 1/16 pixel of a `w` x `h` plane, with weights in steps of 1/16 (R169, R224). The rounding of
the weighted mean is open (notes/assumptions/177.md). -/
def bilinear (w h : Nat) (f : Nat → Nat → Nat) (x y : Int) : Nat :=
  let x := (clampI 0 (16 * ((w : Int) - 1)) x).toNat
  let y := (clampI 0 (16 * ((h : Int) - 1)) y).toNat
  let i := x / 16
  let j := y / 16
  let i' := min (i + 1) (w - 1)
  let j' := min (j + 1) (h - 1)
  let v := (f i j * (16 - x % 16) + f i' j * (x % 16)) * (16 - y % 16) +
    (f i j' * (16 - x % 16) + f i' j' * (x % 16)) * (y % 16)
  v / 256 + (if v % 256 = 0 then 0 else (Config.openResult 225 [(v : Int)]).toNat % 2)

/-- Where sample `i` of `n` scaled from `w` samples lies, in 1/16 sample: centre on centre, within half a source sample
(notes/assumptions/177.md). -/
def scalePos (w n i : Nat) : Int :=
  if n = w then 16 * i
  else
    let p : Int := ((2 * (i : Int) + 1) * w * 16 / n - 16) / 2
    clampI (p - 8) (p + 8) (Config.openResult 224 [(w : Int), (n : Int), (i : Int)])

/-- Channel `k` of the 8-bit colours scaled to `dw` x `dh` (R224). -/
def Picture.scaled (p : Picture) (dw dh k x y : Nat) : Nat :=
  bilinear p.w p.h (p.rgb8 k) (scalePos p.w dw x) (scalePos p.h dh y)

/-- The display output (R224): R, G, B bytes, rows from the top. -/
def Picture.display (p : Picture) (dw dh : Nat) : Bytes :=
  (List.range dh).flatMap (fun y => (List.range dw).flatMap (fun x =>
    (List.range 3).map (fun k => BitVec.ofNat 8 (p.scaled dw dh k x y))))

/-- BT.709 limited-range coding values of an 8-bit colour (R224). -/
def codingY (c : Nat × Nat × Nat) : Nat := 16 + (47 * c.1 + 157 * c.2.1 + 16 * c.2.2 + 128) / 256
def codingCb (c : Nat × Nat × Nat) : Int := 128 + (-26 * (c.1 : Int) - 87 * c.2.1 + 113 * c.2.2 + 128) / 256
def codingCr (c : Nat × Nat × Nat) : Int := 128 + (112 * (c.1 : Int) - 102 * c.2.1 - 10 * c.2.2 + 128) / 256

/-- The rounded mean of a 2 x 2 block of a plane. -/
def blockMean (f : Nat → Nat → Int) (x y : Nat) : Int :=
  (f (2 * x) (2 * y) + f (2 * x + 1) (2 * y) + f (2 * x) (2 * y + 1) + f (2 * x + 1) (2 * y + 1) + 2) / 4

/-- The coding output (R224): NV12, the Y plane and then Cb and Cr in turn. -/
def Picture.nv12 (p : Picture) (cw ch : Nat) : Bytes :=
  let c (x y : Nat) : Nat × Nat × Nat := (p.scaled cw ch 0 x y, p.scaled cw ch 1 x y, p.scaled cw ch 2 x y)
  (List.range ch).flatMap (fun y => (List.range cw).map (fun x => BitVec.ofNat 8 (codingY (c x y)))) ++
  (List.range (ch / 2)).flatMap (fun y => (List.range (cw / 2)).flatMap (fun x =>
    [BitVec.ofInt 8 (blockMean (fun x y => codingCb (c x y)) x y), BitVec.ofInt 8 (blockMean (fun x y => codingCr (c x y)) x y)]))

/-- Pixels of the frame with a raw code of all ones (R228). -/
def Picture.saturated (p : Picture) : Nat := ((fullPlane p.w p.h p.raw).filter (· == 2 ^ p.bits - 1)).length

/-- The mean of a channel in a zone, 0 where it is absent (R228). -/
def Picture.zoneMean (p : Picture) (zx zy c : Nat) : Nat :=
  let xs := (List.range p.w).filter (fun x => decide (zx * p.w / 16 ≤ x) && decide (x < (zx + 1) * p.w / 16))
  let ys := (List.range p.h).filter (fun y => decide (zy * p.h / 16 ≤ y) && decide (y < (zy + 1) * p.h / 16))
  let l := ys.flatMap (fun y => xs.filterMap (fun x => if mosaicChannel p.mosaic x y = c then some (p.shaded x y) else none))
  if l.isEmpty then 0 else l.sum / l.length

/-- The shaded values that the histogram counts: channel 1, or channel 0 for MONO (R228). -/
def Picture.histogramValues (p : Picture) : List Nat :=
  let c := if p.mosaic = 0 then 0 else 1
  (List.range p.h).flatMap (fun y => (List.range p.w).filterMap (fun x =>
    if mosaicChannel p.mosaic x y = c then some (p.shaded x y / 256) else none))

/-- The statistics of a frame (R228). -/
def Picture.statistics (p : Picture) (seq tag centre : Nat) : Bytes :=
  let hist := p.histogramValues
  leBytes 4 seq ++ leBytes 2 tag ++ zeros 2 ++ leBytes 8 centre ++ leBytes 4 p.saturated ++ leBytes 4 (p.w * p.h) ++
  zeros 8 ++
  (List.range 16).flatMap (fun zy => (List.range 16).flatMap (fun zx =>
    (List.range 4).flatMap (fun c => leBytes 2 (if c < channelCount p.mosaic then p.zoneMean zx zy c else 0)))) ++
  (List.range 256).flatMap (fun b => leBytes 4 ((hist.filter (· == b)).length))

end Sys2Proof.Machine
end

