-- ==== Sys2Proof/Machine/VisionOps.lean ====
section
/-!
DEFINITION. The camera pipeline as shared operations: sensors and their frames (R198-R214), frame-sync pulses (R203,
R204), buffers (R214), settings tags (R227) and descriptors (R209).
-/
namespace Sys2Proof.Machine

def State.cam (s : State) (n : Nat) : Cam := s.cams.get Cam.init n
def State.setCam (s : State) (n : Nat) (x : Cam) : State := { s with cams := s.cams.set Cam.init n x }
def State.fsyncOut (s : State) (o : Nat) : Fsync := s.fsync.get Fsync.init o
def State.setFsync (s : State) (o : Nat) (x : Fsync) : State := { s with fsync := s.fsync.set Fsync.init o x }
def State.stream (s : State) (k : Nat) : Stream := s.streams.get Stream.init k
def State.setStream (s : State) (k : Nat) (x : Stream) : State := { s with streams := s.streams.set Stream.init k x }

/-- Codes of LinkState (R231). -/
abbrev lkDown : Int := 0
abbrev lkTraining : Int := 1
abbrev lkUp : Int := 2
abbrev lkPocTripped : Int := 3

/-- Bits of the descriptor flags (R209). -/
abbrev dfShortLine : Nat := 0
abbrev dfLongLine : Nat := 1
abbrev dfShortFrame : Nat := 2
abbrev dfLongFrame : Nat := 3
abbrev dfFeMissing : Nat := 4
abbrev dfCrc : Nat := 5
abbrev dfHeader : Nat := 6
abbrev dfNoTimestamp : Nat := 7
abbrev dfUncertain : Nat := 8
abbrev dfBypass : Nat := 9
abbrev dfExcluded : Nat := 10
abbrev dfOverrun : Nat := 11
abbrev dfMissing : Nat := 12

/-- A flag word with bit `i` set. -/
def setBit (v i : Nat) : Nat := if v.testBit i then v else v + 2 ^ i

/-- The sensor runs: SensorEnable is set (R198). -/
def State.sensorOn (s : State) (n : Nat) : Bool := s.reg (K.sensorEnable n) == 1

/-- A depth sensor (R161). -/
def isDepth (n : Nat) : Bool := decide (8 ≤ n)

/-- A user-defined 8-bit type, for depth frames only (R200). -/
def isUserType (ty : Nat) : Bool := decide (0x30 ≤ ty) && decide (ty ≤ 0x37)

/-- Bits per pixel of a sensor (R200, R201, R216); two bytes of a user-defined type make a U16 (R223). -/
def State.sensorBits (s : State) (n : Nat) : Nat :=
  if s.reg (K.inputPort n) = 4 then s.regN K.parallelWidth
  else match s.regN (K.dataType n) with
    | 0x2A => 8 | 0x2B => 10 | 0x2C => 12 | 0x2D => 14 | _ => 16

/-- The enabled sensor mapped to a port and virtual channel (R198); the parallel port has no virtual channel. -/
def State.sensorAt (s : State) (port vc : Nat) : Option Nat :=
  (List.range 10).find? (fun n => s.sensorOn n && s.regN (K.inputPort n) == port &&
    (port == 4 || s.regN (K.virtualChannel n) == vc))

/-- Port3Mode leaves an A-PHY port powered: port 3 is not while PARALLEL is selected (R24, R201). -/
def State.aphyPowered (s : State) (port : Nat) : Bool := port != 3 || s.reg K.port3Mode == 0

/-- A port delivers packets: an A-PHY link that is up, or the parallel port while Port3Mode selects it (R201). -/
def State.portLive (s : State) (port : Nat) : Bool :=
  if port = 4 then s.reg K.port3Mode == 1 else s.aphyPowered port && s.reg (K.camLinkState port) == lkUp

/-- Retransmissions of an A-PHY link count as its frames start, an amount that the link alone knows (R199, R231,
notes/assumptions/119.md). -/
def State.retransmit (s : State) (port : Nat) : State :=
  if port = 4 then s else s.bumpBy (K.retransmissions port) ((Config.openResult 199 [(port : Int), (s.tick : Int)]) % 2 ^ 32)

/-- The correction values in force (R225). -/
def State.corrOf (s : State) (n : Nat) : Corr :=
  ⟨(List.range 4).map (fun c => s.regN (K.blackLevel n c)), s.regN (K.defectThreshold n), s.blob (K.colourMatrix n),
    s.blob (K.lensShading n), s.blob (K.defectMap n), s.blob (K.gammaLut n)⟩

/-- A frame as the processing reads it. -/
def State.picture (s : State) (n : Nat) (f : VFrame) : Picture :=
  ⟨s.regN (K.width n), s.regN (K.height n), s.regN (K.mosaic n), s.sensorBits n, f.corr, f.rows⟩

/-- The pedestal of a pixel (R206); a depth frame has no mosaic channel and is padded with 0, its invalid value. -/
def pedestal (depth : Bool) (mosaic : Nat) (c : Corr) (x y : Nat) : Nat :=
  if depth then 0 else c.black.getD (mosaicChannel mosaic x y) 0

/-! Buffers (R214) -/

/-- B(x). -/
def roundUp4K (x : Nat) : Nat := (x + 4095) / 4096 * 4096

/-- Bytes that an enabled sensor takes. -/
def State.sensorBytes (s : State) (n : Nat) : Nat :=
  let wh := s.regN (K.width n) * s.regN (K.height n)
  let ir := if s.reg (K.mosaic n) = 3 then wh / 2 else 0
  if isDepth n then 3 * roundUp4K (2 * wh) + 16384
  else
    3 * roundUp4K (2 * wh) + 3 * roundUp4K (2 * wh + wh / 2 + wh / 2 + ir) + 16384 +
    (if s.flag (K.outputs n) 1 then 2 * roundUp4K (3 * s.regN (K.displayWidth n) * s.regN (K.displayHeight n)) else 0)

/-- Bytes that an enabled stream takes. -/
def State.streamBytes (s : State) (k : Nat) : Nat :=
  3 * roundUp4K (3 * s.regN (K.codingWidth k) * s.regN (K.codingHeight k) / 2)

/-- Bytes allocated in the camera-frame region. -/
def State.regionBytes (s : State) : Nat :=
  (((List.range 10).filter s.sensorOn).map s.sensorBytes).sum +
  (((List.range 4).filter (fun k => s.reg (K.streamEnable k) == 1)).map s.streamBytes).sum

/-- The region holds `more` further bytes. -/
def State.regionFits (s : State) (more : Nat) : Bool := decide (s.regionBytes + more ≤ 384 * 1024 * 1024)

def State.showRegion (s : State) : State := s.setReg K.regionUsed (s.regionBytes / 1024 : Nat)

/-! Frame-sync outputs (R203, R204) -/

/-- A pulse of `us` microseconds starts in this tick; one on an active output extends it. -/
def State.fsyncPulse (s : State) (o us : Nat) : State :=
  let x := s.fsyncOut o
  let s := if s.tick < x.until_ then s.bump (K.fsyncRetriggers o) else s
  let route := s.regN (K.fsyncRoute o)
  let arrival := nearOpen 10 300 (Config.openResult 204 [(o : Int), (s.tick : Int)])
  (s.setFsync o ⟨some s.tick, s.tick + ticksUs us, if route = 0 then none else some (route - 1, s.tick + arrival.toNat)⟩).setReg
    (K.lastPulseTime o) (s.now : Nat)

/-- The level of an output; with source NONE it is low (R203). -/
def State.fsyncLevel (s : State) (o : Nat) : Bool :=
  s.reg (K.fsyncSource o) != 0 && decide (s.tick < (s.fsyncOut o).until_)

/-- The source of an output has been written: NONE ends its pulse (R203). -/
def State.fsyncSourceSet (s : State) (o : Nat) : State :=
  let x := s.fsyncOut o
  if s.reg (K.fsyncSource o) = 0 then s.setFsync o { x with until_ := min x.until_ s.tick } else s

/-! Settings tags (R227) -/

/-- The tag in force for the frame with Sequence `q`. -/
def tagOf (tags : List TagSpan) (q : Nat) : Nat :=
  match tags.find? (fun t => decide (t.first ≤ q)) with
  | some t => t.tag
  | none => 0

/-- The frame with Sequence `q` carries SETTINGS_UNCERTAIN. -/
def tagUnsure (l : List (Nat × Option Nat)) (q : Nat) : Bool :=
  l.any (fun r => decide (r.1 ≤ q) && (match r.2 with
    | some e => decide (q ≤ e)
    | none => true))

/-- Commits that an earlier frame can no longer need are dropped: those behind the first that covers `q`. -/
def pruneTags (q : Nat) : List TagSpan → List TagSpan
  | [] => []
  | t :: l => if t.first ≤ q then [t] else t :: pruneTags q l

/-- A NO_START whose period began at `e` moves a set that was committed since then into that period (R227): its tag comes
into force a frame later, and the frame before it is uncertain. -/
def Cam.shiftCommits (x : Cam) (e : Nat) : Cam :=
  { x with
    tags := x.tags.map (fun t => if e ≤ t.time then { t with first := t.first + 1 } else t)
    unsure := x.unsure ++ (x.tags.filter (fun t => decide (e ≤ t.time))).map (fun t => (t.first, some t.first)) }

/-- The bytes of an I2C write transaction between START and STOP (R226): address and write bit, register address, value. -/
def State.i2cBytes (s : State) (n : Nat) (w : Nat × Nat) : Bytes :=
  leBytes 1 (2 * s.regN (K.i2cAddress n)) ++ beBytes (s.regN (K.regAddrBytes n)) w.1 ++ beBytes (s.regN (K.regValueBytes n)) w.2

/-- A set is committed in the present period. -/
def State.commitSet (s : State) (n : Nat) (r : RegSet) : State :=
  let x := s.cam n
  let k := s.regN (K.settingsLatency n)
  let begun := r.began.getD x.period
  let oldest := match x.frames with
    | f :: _ => f.seq
    | [] => x.nextSeq
  let unsure := x.unsure.map (fun u => match u.2 with
    | some e => (u.1, some e)
    | none => (u.1, some (x.period + k - 1)))
  let unsure := if begun < x.period then unsure ++ [(begun + k, some (x.period + k - 1))] else unsure
  let unsure := unsure.filter (fun u => match u.2 with
    | some e => decide (oldest ≤ e)
    | none => true)
  let s := s.setCam n { x with
    set := none, bus := none, tags := pruneTags oldest (⟨x.period + k, r.tag, s.now⟩ :: x.tags), unsure := unsure }
  (s.setReg (K.setState n) 0).finish r.item .done

/-- A set fails: its frames are uncertain until the next commit (R226, R227). -/
def State.failSet (s : State) (n : Nat) (r : RegSet) : State :=
  let x := s.cam n
  let k := s.regN (K.settingsLatency n)
  let s := s.setCam n { x with set := none, bus := none, unsure := x.unsure ++ [(r.began.getD x.period + k, none)] }
  let s := (s.setReg (K.setState n) 0).finish r.item .failed Abort.hardwareFault.code
  s.eventKey .vision n (K.setState n) Abort.hardwareFault.code

/-! Frames and descriptors (R205-R209) -/

/-- The frame in readout. -/
def Cam.reading (x : Cam) : Option VFrame := x.frames.find? (fun f => f.stage == .reading)

/-- Replaces the frame with the same Sequence. -/
def Cam.setFrame (x : Cam) (f : VFrame) : Cam := { x with frames := x.frames.map (fun g => if g.seq = f.seq then f else g) }

def Cam.dropFrame (x : Cam) (seq : Nat) : Cam := { x with frames := x.frames.filter (fun g => g.seq != seq) }

def State.putFrame (s : State) (n : Nat) (f : VFrame) : State := s.setCam n ((s.cam n).setFrame f)

/-- Raw buffers of a sensor that are held (R214). -/
def Cam.rawHeld (x : Cam) : Nat := (x.frames.filter (fun f => f.path == 1 && f.stage != .ready)).length

/-- The 64 bytes of a frame descriptor (R209). -/
def descriptorBytes (n kind cause path seq csi tag flags arrival centre ts endTime received short long blanked out : Nat) :
    Bytes :=
  leBytes 1 n ++ leBytes 1 kind ++ leBytes 1 cause ++ leBytes 1 path ++ leBytes 4 (seq % 2 ^ 32) ++ leBytes 2 csi ++
  leBytes 2 tag ++ leBytes 4 flags ++ leBytes 8 arrival ++ leBytes 8 centre ++ leBytes 8 ts ++ leBytes 8 endTime ++
  leBytes 2 (min received 65535) ++ leBytes 2 (min short 65535) ++ leBytes 2 (min long 65535) ++
  leBytes 2 (min blanked 65535) ++ leBytes 8 out

/-- A frame's flags with what its settings give (R227). -/
def State.frameFlags (s : State) (n : Nat) (f : VFrame) : Nat :=
  if tagUnsure (s.cam n).unsure f.seq then setBit f.flags dfUncertain else f.flags

/-- Shows a descriptor and its tag. -/
def State.showDescriptor (s : State) (n tag : Nat) (b : Bytes) : State :=
  (s.setBlob (K.frameDescriptor n) b).setReg (K.tagInForce n) (tag : Nat)

/-- A MISSING descriptor of a frame (R208): INCOMPLETE or LATE_OUTPUT; its outputs and buffers are given up. -/
def State.missFrame (s : State) (n : Nat) (f : VFrame) (cause : Nat) : State :=
  let tag := tagOf (s.cam n).tags f.seq
  let s := s.showDescriptor n tag (descriptorBytes n 1 cause f.path f.seq f.csi tag (setBit (s.frameFlags n f) dfMissing)
    f.arrival 0 (f.ts.getD 0) f.endTime f.received f.short f.long f.blanked s.now)
  let s := if f.stage = .passing then { s with vision := { s.vision with passFrom := none } } else s
  (s.setCam n ((s.cam n).dropFrame f.seq)).bump (K.missingFrames n)

/-- The lines of a frame that has ended: padded with the pedestal to its height (R207). -/
def padRows (depth : Bool) (mosaic w h : Nat) (c : Corr) (rows : List (List Nat)) : List (List Nat) :=
  rows ++ (List.range (h - rows.length)).map (fun i =>
    (List.range w).map (fun x => pedestal depth mosaic c x (rows.length + i)))

/-- A frame ends (R207): padded, flagged, and on its way to its outputs (R211-R213). -/
def State.closeFrame (s : State) (n : Nat) (f : VFrame) (feMissing : Bool) : State :=
  let h := s.regN (K.height n)
  let short := decide (f.rows.length < h)
  let flags := if short then setBit f.flags dfShortFrame else f.flags
  let flags := if feMissing then setBit flags dfFeMissing else flags
  let tsRule := f.ts.isNone
  let flags := if tsRule then setBit flags dfNoTimestamp else flags
  let rows := padRows (isDepth n) (s.regN (K.mosaic n)) (s.regN (K.width n)) h f.corr f.rows
  let s := s.putFrame n { f with
    rows := rows, flags := flags, endTime := s.now, endTick := s.tick,
    stage := if f.path = 1 then .queued else .ready }
  let s := if short then s.bump (K.shortFrames n) else s
  if f.flags.testBit dfLongFrame then s.bump (K.longFrames n) else s

/-- The next frame of the memory pass (R212): by frame end, then sensor. -/
def State.nextForPass (s : State) : Option (Nat × VFrame) :=
  ((List.range 10).flatMap (fun n => ((s.cam n).frames.filter (fun f => f.stage == .queued)).map (fun f => (n, f)))).foldl
    (fun acc x => match acc with
      | none => some x
      | some y => if x.2.endTick < y.2.endTick then some x else some y) none

/-- The frame in the memory pass is read: Width x Height pixels at 1.6 Gpixel/s (R212). -/
def State.passDone (s : State) : State :=
  match s.vision.passFrom with
  | none => s
  | some (n, t) =>
    match (s.cam n).frames.find? (fun f => f.stage == .passing) with
    | none => { s with vision := { s.vision with passFrom := none } }
    | some f =>
      if s.tick * 16 < t * 16 + s.regN (K.width n) * s.regN (K.height n) then s
      else { (s.putFrame n { f with stage := .ready }) with vision := { s.vision with passFrom := none } }

/-- Writes that waited for the frame start come into force (R225). -/
def State.applyCorrections (s : State) (n : Nat) : State :=
  let l := (s.cam n).writes
  let s := s.setCam n { s.cam n with writes := [] }
  l.foldl (fun s w => s.settle w.idx w.sub w.item w.data) s

/-- The in-line path takes no frames: bypassed or failed (R213). -/
def State.inlineOff (s : State) : Bool := s.reg K.inlineBypass == 1 || s.reg K.inlineState == 2

/-- The path of a frame that starts now (R211-R213). -/
def State.pathOf (s : State) (n : Nat) : Nat :=
  if isDepth n then 2 else if s.regN K.inlineSensor = n && !s.inlineOff then 0 else 1

/-- What a frame start changes before its frame opens (R213, R225): the corrections that waited, and InlineState. -/
def State.atFrameStart (s : State) (n : Nat) : State :=
  let s := s.applyCorrections n
  if s.regN K.inlineSensor = n && s.reg K.inlineState ≠ 2 then s.setReg K.inlineState (s.reg K.inlineBypass) else s

/-- The queued frame whose raw buffer a frame start takes (R214). -/
def State.rawVictim (s : State) (n : Nat) : Option VFrame :=
  if s.pathOf n = 1 && 3 ≤ (s.cam n).rawHeld then (s.cam n).frames.find? (fun f => f.stage == .queued) else none

/-- A frame opens (R205, R208). -/
def State.openFrame (s : State) (n csi : Nat) : State :=
  let inl := s.regN K.inlineSensor == n
  let path := s.pathOf n
  let x := s.cam n
  let f : VFrame := ⟨x.nextSeq, path, .reading, csi, if inl && path = 1 then 2 ^ dfBypass else 0, s.now, 0, 0, 0, 0, 0, 0,
    none, 0, s.corrOf n, []⟩
  s.setCam n { x with
    frames := x.frames ++ [f], nextSeq := x.nextSeq + 1, period := x.nextSeq, startTick := some s.tick,
    expect := some (s.now + s.regN (K.framePeriod n)) }

end Sys2Proof.Machine
end

