-- ==== Sys2Proof/Machine/GridOps.lean ====
section
/-!
DEFINITION. The geometry of fusion: the pose history (R162), the calibration of a sensor and its mappings (R166-R169), staging
grids (R170), the step grid and the input block (R175, R181), and the planes of the network state (R183).
-/
namespace Sys2Proof.Machine

/-! Pose history (R162) -/

/-- The two steps of a history (newest first) around a time; none where the time is older than the oldest entry. -/
def histAround (t : Int) : List HistStep → Option (HistStep × HistStep)
  | [] => none
  | [a] => if (a.time : Int) ≤ t then some (a, a) else none
  | b :: a :: l => if (b.time : Int) ≤ t then some (b, b) else if (a.time : Int) ≤ t then some (a, b) else histAround t (a :: l)

/-- Linear interpolation between `x` at `t0` and `y` at `t1`. -/
def interp (x y t0 t1 t : Int) : Int := if t1 ≤ t0 then x else x + ((y - x) * (t - t0)).tdiv (t1 - t0)

/-- A step of the history at a time: E, N, position, speeds and angles linear, heading the shorter way round (R162); state and
flags as the step before the time left them. -/
def histAt (t : Int) (l : List HistStep) : Option HistStep :=
  match histAround t l with
  | none => none
  | some (a, b) =>
    let f (x y : Int) : Int := interp x y a.time b.time t
    some { a with
      time := t.toNat, v := f a.v b.v, vp := f a.vp b.vp, s := f a.s b.s, east := f a.east b.east, north := f a.north b.north,
      heading := a.heading + f 0 (wrap32 (b.heading - a.heading)), rate := f a.rate b.rate, pitch := f a.pitch b.pitch,
      roll := f a.roll b.roll }

/-- The pose of the machine at a module time, from the implement-0 axis. -/
def State.poseAt (s : State) (t : Int) : Option HistStep :=
  match s.impl0Axis with
  | some n => histAt t (s.axis n).hist
  | none => none

/-- The value of an axis at a module time, in 2^-32 unit; outside its history the axis value of this tick. -/
def State.axisAtTime (s : State) (n : Nat) (t : Int) : Int :=
  match histAt t (s.axis n).hist with
  | some h => h.s
  | none => s.axisFine n

/-- The pose axis can be followed. -/
def State.poseUsable (s : State) : Bool :=
  match s.impl0Axis with
  | some n => s.axisUsable n
  | none => false

/-- A point (x, y) in um of the machine frame at pose `a`, in the machine frame at pose `b` (R128, R129). -/
def movePoint (a b : Int × Int × Int) (p : Int × Int) : Int × Int :=
  if a = b then p
  else
    let f := toField a.1 a.2.1 a.2.2 (p.1 * 2 ^ 32) (p.2 * 2 ^ 32)
    let e := f.1 - b.1
    let n := f.2 - b.2.1
    (alongHeading e n b.2.2 / 2 ^ 32, (mulQ n (sinQ b.2.2) - mulQ e (cosQ b.2.2)) / 2 ^ 32)

/-- Field position and heading of a step of the history. -/
def HistStep.pose (h : HistStep) : Int × Int × Int := (h.east, h.north, h.heading)

/-! Calibration and mapping (R166-R169) -/

/-- A calibration record (R166): focal lengths and centre in 2^-16 pixel, coefficients in 2^-24, rotation in 2^-30, origin in
mm. -/
structure Calib where
  model : Nat
  width : Nat
  height : Nat
  fx : Int
  fy : Int
  cx : Int
  cy : Int
  k1 : Int
  k2 : Int
  k3 : Int
  p1 : Int
  p2 : Int
  k4 : Int
  lineTime : Nat
  qw : Int
  qx : Int
  qy : Int
  qz : Int
  tx : Int
  ty : Int
  tz : Int
  deriving DecidableEq, Repr

def calibOf (b : Bytes) : Calib :=
  ⟨fieldU b 0 1, fieldU b 4 2, fieldU b 6 2, fieldU b 8 4, fieldU b 12 4, fieldU b 16 4, fieldU b 20 4, fieldI b 24 4,
    fieldI b 28 4, fieldI b 32 4, fieldI b 36 4, fieldI b 40 4, fieldI b 44 4, fieldU b 48 4, fieldI b 52 4, fieldI b 56 4,
    fieldI b 60 4, fieldI b 64 4, fieldI b 68 4, fieldI b 72 4, fieldI b 76 4⟩

def State.calib (s : State) (n : Nat) : Calib := calibOf (s.blob (K.sensorCalibration n))

/-- |q|^2, in 2^-60. -/
def Calib.norm (c : Calib) : Int := c.qw * c.qw + c.qx * c.qx + c.qy * c.qy + c.qz * c.qz

/-- Row `i` of rot(q), each entry times |q|^2, in 2^-60. -/
def Calib.rot (c : Calib) (i : Nat) : Int × Int × Int :=
  match i with
  | 0 => (c.qw * c.qw + c.qx * c.qx - c.qy * c.qy - c.qz * c.qz, 2 * (c.qx * c.qy - c.qw * c.qz), 2 * (c.qx * c.qz + c.qw * c.qy))
  | 1 => (2 * (c.qx * c.qy + c.qw * c.qz), c.qw * c.qw - c.qx * c.qx + c.qy * c.qy - c.qz * c.qz, 2 * (c.qy * c.qz - c.qw * c.qx))
  | _ => (2 * (c.qx * c.qz - c.qw * c.qy), 2 * (c.qy * c.qz + c.qw * c.qx), c.qw * c.qw - c.qx * c.qx - c.qy * c.qy + c.qz * c.qz)

/-- S = rot(q)^T x (X - T) of a machine point in mm (R167), each coordinate times |q|^2, in 2^-60 um. -/
def Calib.toSensor (c : Calib) (x y z : Int) : Int × Int × Int :=
  let d := (1000 * (x - c.tx), 1000 * (y - c.ty), 1000 * (z - c.tz))
  let a := c.rot 0
  let b := c.rot 1
  let e := c.rot 2
  (a.1 * d.1 + b.1 * d.2.1 + e.1 * d.2.2, a.2.1 * d.1 + b.2.1 * d.2.1 + e.2.1 * d.2.2, a.2.2 * d.1 + b.2.2 * d.2.1 + e.2.2 * d.2.2)

/-- A product in 2^-30. -/
def mul30 (x y : Int) : Int := x * y / 2 ^ 30

/-- a' and b' of R167 for a and b, all in 2^-30. -/
def Calib.distort (c : Calib) (a b : Int) : Int × Int :=
  let r2 := mul30 a a + mul30 b b
  if c.model = 0 then (a, b)
  else if c.model = 1 then
    let r4 := mul30 r2 r2
    let d := 2 ^ 30 + (c.k1 * r2 + c.k2 * r4 + c.k3 * mul30 r4 r2) / 2 ^ 24
    let ab := mul30 a b
    (mul30 a d + (2 * c.p1 * ab + c.p2 * (r2 + 2 * mul30 a a)) / 2 ^ 24,
      mul30 b d + (c.p1 * (r2 + 2 * mul30 b b) + 2 * c.p2 * ab) / 2 ^ 24)
  else
    let r := sqrtI (r2 * 2 ^ 30)
    let th := atan62 r (2 ^ 30) * 1811004864519280710 / 2 ^ 90
    let t2 := mul30 th th
    let t4 := mul30 t2 t2
    let thd := mul30 th (2 ^ 30 + (c.k1 * t2 + c.k2 * t4 + c.k3 * mul30 t4 t2 + c.k4 * mul30 t4 t4) / 2 ^ 24)
    if r = 0 then (0, 0) else (a * thd / r, b * thd / r)

/-- The pixel of a machine point in mm, in 2^-8 pixel (R167, R169); none where it is not visible. It lies within 1/16 pixel of
the exact evaluation; beyond |a|, |b| of 2 the error of RADTAN is open. -/
def Calib.pixel (c : Calib) (x y z : Int) : Option (Int × Int) :=
  let q := c.toSensor x y z
  if c.norm = 0 || q.2.2 < 100000 * c.norm then none
  else
    let a := q.1 * 2 ^ 30 / q.2.2
    let b := q.2.1 * 2 ^ 30 / q.2.2
    let d := c.distort a b
    let u := (mul30 c.fx d.1 + c.cx) / 2 ^ 8
    let v := (mul30 c.fy d.2 + c.cy) / 2 ^ 8
    let ou := Config.openResult 169 [0, u, x, y, z]
    let ov := Config.openResult 169 [1, v, x, y, z]
    if c.model = 1 && (2 ^ 31 < absI a || 2 ^ 31 < absI b) then some (ou, ov) else some (nearOpen 16 u ou, nearOpen 16 v ov)

/-- A machine-frame position in um as the unit holds it, in mm: within `bound` um of it (R169). -/
def openMm (bound v open_ : Int) : Int := clampI (-((bound - v) / 1000)) ((v + bound) / 1000) open_

/-- The instant of a row, `row2` in half rows from the top (R168). -/
def Calib.rowTime (c : Calib) (t : Nat) (row2 : Int) : Int := (t : Int) + ((row2 - c.height) * c.lineTime).tdiv 2

/-- The pixel of a point of the machine frame at t_s in an image whose rows have their own instants (R168): mapped with the pose
at t_s, then with the pose of the row found. -/
def State.mapPoint (s : State) (c : Calib) (h : HistStep) (x y z : Int) : Option (Int × Int) :=
  match c.pixel x y z with
  | none => none
  | some (u, v) =>
    if c.lineTime = 0 then some (u, v)
    else match s.poseAt (c.rowTime h.time (2 * ((v + 128) / 256))) with
      | none => none
      | some g =>
        let p := movePoint h.pose g.pose (1000 * x, 1000 * y)
        c.pixel (openMm 1000 p.1 (Config.openResult 170 [0, p.1])) (openMm 1000 p.2 (Config.openResult 170 [1, p.2])) z

/-- The machine point in mm of a depth pixel with depth `z` mm along the optical axis (R167, R169), in the machine frame at t_s. -/
def State.depthPoint (s : State) (c : Calib) (h : HistStep) (u v z : Nat) : Option (Int × Int × Int) :=
  if c.norm = 0 || c.fx = 0 || c.fy = 0 then none
  else
    let x := ((u : Int) * 65536 - c.cx) * (1000 * z) / c.fx
    let y := ((v : Int) * 65536 - c.cy) * (1000 * z) / c.fy
    let w : Int := 1000 * z
    let at_ (i : Nat) (t : Int) : Int := ((c.rot i).1 * x + (c.rot i).2.1 * y + (c.rot i).2.2 * w) / c.norm + 1000 * t
    let bound := 1000 + sqrtI (x * x + y * y + w * w) / 2 ^ 20
    let near (k i : Int) : Int := openMm bound k (Config.openResult 171 [i, k])
    let g := if c.lineTime = 0 then some h else s.poseAt (c.rowTime h.time (2 * (v : Int)))
    g.map (fun g =>
      let p := movePoint g.pose h.pose (at_ 0 c.tx, at_ 1 c.ty)
      (near p.1 0, near p.2 1, near (at_ 2 c.tz) 2))

/-! Staging grids (R170) -/

/-- The centre of cell `k` = 256 row + column of the fusion grid, in um. -/
def State.gridX (s : State) (k : Nat) : Int := 1000 * s.reg K.gridNear + (2 * ((k / 256 : Nat) : Int) + 1) * s.reg K.gridPitch * 500
def State.gridY (s : State) (k : Nat) : Int := (255 - 2 * ((k % 256 : Nat) : Int)) * s.reg K.gridPitch * 500

/-- The cell of the fusion grid that holds a point, in um. -/
def State.gridCell (s : State) (x y : Int) : Option Nat :=
  let r := (x - 1000 * s.reg K.gridNear) / (1000 * s.reg K.gridPitch)
  let c := 127 - y / (1000 * s.reg K.gridPitch)
  if 0 ≤ r && r < 256 && 0 ≤ c && c < 256 then some (r.toNat * 256 + c.toNat) else none

/-- A value of a plane as an int8 (R170). -/
def int8Of (v : Nat) : Int := (v / 16 : Nat) - 128

/-- Y, U, V and IR of an image at a pixel in 2^-8 pixel, none outside it (R169, R170). -/
def Planes.at (p : Planes) (w h : Nat) (u v : Int) : Option (List Int) :=
  if u < 0 || 256 * ((w : Int) - 1) < u || v < 0 || 256 * ((h : Int) - 1) < v then none
  else
    let half (l : List Nat) : Int := int8Of (bilinear (w / 2) (h / 2) (fun x y => l.getD (y * (w / 2) + x) 0) ((u - 128) / 32) ((v - 128) / 32))
    some [int8Of (bilinear w h (fun x y => p.y.getD (y * w + x) 0) (u / 16) (v / 16)), half p.u, half p.v,
      if p.ir.isEmpty then -128 else half p.ir]

/-- Points of depth samples within one frame of `t`, in the machine frame at pose `h` (R170). -/
def State.pointsNear (s : State) (n t : Nat) (h : HistStep) : List (Int × Int × Int) :=
  (s.fuse.clouds.filter (fun c => decide (c.instant ≤ t + s.regN (K.framePeriod n)) &&
      decide (t ≤ c.instant + s.regN (K.framePeriod n)))).flatMap
    (fun c => c.points.map (fun p =>
      let q := movePoint (c.east, c.north, c.heading) h.pose (1000 * p.1, 1000 * p.2.1)
      (openMm 1000 q.1 (Config.openResult 170 [2, q.1]), openMm 1000 q.2 (Config.openResult 170 [3, q.2]), p.2.2)))

/-- The highest point of each cell. -/
def State.highest (s : State) (l : List (Int × Int × Int)) : Tab (Option (Int × Int × Int)) :=
  l.foldl (fun t p => match s.gridCell (1000 * p.1) (1000 * p.2.1) with
    | none => t
    | some k => match t.get none k with
      | some q => if q.2.2 < p.2.2 then t.set none k (some p) else t
      | none => t.set none k (some p)) ⟨[]⟩

/-- The cells of a camera sample (R170): each at its centre on the ground plane, or under DEPTH at its highest point. -/
def State.cameraCells (s : State) (n : Nat) (p : Planes) (h : HistStep) (tops : Tab (Option (Int × Int × Int))) : Tab (List Int) :=
  let c := s.calib n
  ⟨(List.range 65536).filterMap (fun k =>
    let g := match tops.get none k with
      | some q => q
      | none => (openMm 1000 (s.gridX k) (Config.openResult 170 [4, s.gridX k]),
        openMm 1000 (s.gridY k) (Config.openResult 170 [5, s.gridY k]), -s.reg K.groundHeight)
    match s.mapPoint c h g.1 g.2.1 g.2.2 with
    | none => none
    | some (u, v) => (p.at (s.regN (K.width n)) (s.regN (K.height n)) u v).map (fun l => (k, l)))⟩

/-- The points of a depth plane in the machine frame at its instant (R167, R223). -/
def State.depthPoints (s : State) (n : Nat) (p : Planes) (h : HistStep) : List (Int × Int × Int) :=
  let w := s.regN (K.width n)
  p.depth.zipIdx.filterMap (fun q => if q.1 = 0 then none else s.depthPoint (s.calib n) h (q.2 % w) (q.2 / w) q.1)

/-- The cells of a depth sample (R170): greatest height above the ground plane in 20 mm steps, and point count. -/
def State.depthCells (s : State) (l : List (Int × Int × Int)) : Tab (List Int) :=
  l.foldl (fun t p => match s.gridCell (1000 * p.1) (1000 * p.2.1) with
    | none => t
    | some k =>
      let z := clampI (-127) 127 ((p.2.2 + s.reg K.groundHeight) / 20)
      match t.get [] k with
      | a :: b :: _ => t.set [] k [max a z, min 127 (b + 1)]
      | _ => t.set [] k [z, 1]) ⟨[]⟩

/-! The step grid (R175) -/

/-- Resampling of a plane through a pose difference, at cell `k` of the grid at pose `b`, from the grid at pose `a`: none where
its point lies in no cell that `f` covers; the cell's value where the grids meet exactly, else a value between those of the
covered cells around the point (notes/assumptions/181.md). -/
def State.resample (s : State) (a b : Int × Int × Int) (f : Nat → Option Int) (k : Nat) : Option Int :=
  let x := s.gridX k
  let y := s.gridY k
  let p := movePoint b a (x, y)
  match s.gridCell p.1 p.2 with
  | none => none
  | some j =>
    let pitch := 500 * s.reg K.gridPitch
    let around := [(-1, -1), (-1, 1), (1, -1), (1, 1)].filterMap (fun (d : Int × Int) =>
      match s.gridCell (p.1 + d.1 * pitch) (p.2 + d.2 * pitch) with
      | some i => f i
      | none => none)
    (f j).map (fun v =>
      if p = (s.gridX j, s.gridY j) then v
      else clampI (around.foldl min v) (around.foldl max v) (Config.openResult 183 [v, x, y, p.1, p.2]))

/-- The sample of a sensor that a step cell takes: the latest one that covers it (R175). -/
def State.cellSample (s : State) (l : List Sample) (pose : Int × Int × Int) (n k : Nat) : Option Sample :=
  (l.filter (fun u => u.sensor == n &&
      (s.resample (u.east, u.north, u.heading) pose (fun j => (u.cells.get [] j).head?) k).isSome)).foldl
    (fun acc u => match acc with
      | none => some u
      | some v => if v.instant < u.instant then some u else some v) none

/-- Value `i` of sensor `n` in a step cell, 0 where no sample covers it (R181). -/
def State.stepValue (s : State) (l : List Sample) (pose : Int × Int × Int) (n i k : Nat) : Int :=
  match s.cellSample l pose n k with
  | some u => (s.resample (u.east, u.north, u.heading) pose (fun j => (u.cells.get [] j)[i]?) k).getD 0
  | none => 0

/-- Channel `ch` of the grid tensor at cell `k` of a step at `t` (R181). -/
def State.tensorAt (s : State) (l : List Sample) (t : Nat) (pose : Int × Int × Int) (ch k : Nat) : Int :=
  if ch < 32 then s.stepValue l pose (ch / 4) (ch % 4) k
  else if ch < 36 then s.stepValue l pose (8 + (ch - 32) / 2) (ch % 2) k
  else if ch = 36 then
    ((List.range 8).map (fun c => if (s.cellSample l pose c k).isSome then (2 ^ c : Int) else 0)).sum
  else if ch = 37 then
    ((List.range 10).filterMap (fun n => (s.cellSample l pose n k).map (fun u => ((t : Int) - u.instant) / 10000000))).foldl min 127
  else if ch = 38 then
    if s.reg K.groundModel = 0 then 0
    else clampI (-127) 127 (Config.openResult 182 [s.stepValue l pose 8 0 k, s.stepValue l pose 9 0 k, (k : Int)])
  else
    let p := toField pose.1 pose.2.1 pose.2.2 (s.gridX k * 2 ^ 32) (s.gridY k * 2 ^ 32)
    if s.covered (s.regN (K.coverageLayer 0)) (cellNumber (s.regN K.coveragePitch) p.1) (cellNumber (s.regN K.coveragePitch) p.2)
    then 1 else 0

/-- The grid tensor, channel by channel and row by row (R181). -/
def State.tensor (s : State) (l : List Sample) (t : Nat) (pose : Int × Int × Int) : Bytes :=
  (List.range 40).flatMap (fun ch => (List.range 65536).map (fun k => BitVec.ofInt 8 (s.tensorAt l t pose ch k)))

/-- A value in Q7.24. -/
def q724 (num den : Int) : Bytes := encInt 4 (satI32 ((num * 2 ^ 24).tdiv den))

/-- The ego vector (R181): displacement of the previous step's grid origin (2^-32 um), yaw change (2^-32 turn), speed
(2^-16 um/s), yaw rate (urad/s), pitch and roll (urad), step interval and ReferencePeriod (ns), and zeros. -/
def egoVector (dx dy dyaw speed rate pitch roll interval period : Int) : Bytes :=
  q724 dx (10 ^ 6 * 2 ^ 32) ++ q724 dy (10 ^ 6 * 2 ^ 32) ++ q724 dyaw (2 ^ 32) ++ q724 speed (10 ^ 6 * 2 ^ 16) ++
  q724 rate (10 ^ 6) ++ q724 pitch (10 ^ 6) ++ q724 roll (10 ^ 6) ++ q724 interval (10 ^ 9) ++ q724 period (10 ^ 9) ++ zeros 28

/-- The 128-byte header of an input block (R181). -/
def FStep.header (x : FStep) : Bytes :=
  leBytes 4 x.count ++ leBytes 2 x.presence ++
  leBytes 2 ((if x.flags.testBit 6 then 1 else 0) + (if x.flags.testBit 0 then 2 else 0) + (if x.flags.testBit 1 then 4 else 0)) ++
  leBytes 8 x.time ++ padTo 64 x.ego ++ zeros 48

/-! The network state (R180, R183) -/

/-- A byte as an int8. -/
def signed8 (b : Nat) : Int := if b < 128 then b else (b : Int) - 256

/-- The state planes through the pose difference between the steps: cells that enter the grid are 0 (R183). Plane `k` lies at
65,536 k (notes/assumptions/180.md). -/
def State.resampledNet (s : State) (planes : Nat) (a b : Int × Int × Int) : Tab Nat :=
  if a = b then s.fuse.net
  else (List.range (65536 * planes)).foldl (fun (t : Tab Nat) (i : Nat) =>
    let base := i / 65536 * 65536
    let v := (s.resample a b (fun j => some (signed8 (s.fuse.net.get 0 (base + j)))) (i % 65536)).getD 0
    t.set 0 i (v % 256).toNat) s.fuse.net

/-- A byte of the fusion state region at an offset (R180): input blocks, output blocks and network state; none elsewhere, where the
spec does not say how the unit stores its poses and samples. -/
def State.fusionByte (s : State) (o : Nat) : Option Nat :=
  let of (t : Tab Bytes) (k j : Nat) : Nat := (((t.get [] k)[j]?).getD 0).toNat
  if o < 0x600000 then some (of s.fuse.inputs (o / 0x300000) (o % 0x300000))
  else if o < 0x700000 then some (of s.fuse.outputs ((o - 0x600000) / 0x80000) (o % 0x80000))
  else if 0x1000000 ≤ o && o < 0x7000000 then some (s.fuse.net.get 0 (o - 0x1000000))
  else none

/-- Writes a byte of the output blocks or of the network state. -/
def State.fusionWrite (s : State) (o b : Nat) : State :=
  if 0x600000 ≤ o && o < 0x700000 then
    let k := (o - 0x600000) / 0x80000
    let m := s.fuse.outputs.get [] k
    { s with fuse := { s.fuse with
      outputs := s.fuse.outputs.set [] k ((padTo (max m.length (o % 0x80000 + 1)) m).set (o % 0x80000) (BitVec.ofNat 8 b)) } }
  else if 0x1000000 ≤ o && o < 0x7000000 then
    { s with fuse := { s.fuse with net := s.fuse.net.set 0 (o - 0x1000000) (b % 256) } }
  else s

end Sys2Proof.Machine
end

