-- ==== Sys2Proof/Machine/SecurityOps.lean ====
section
/-!
DEFINITION. The security island as shared operations: keys and signatures (R556-R559), role authorisation and lockouts
(R565-R567).
-/
namespace Sys2Proof.Machine

/-- Keys that every module holds from manufacture (R556). -/
def keyBuiltIn (k : Nat) : Bool := k == 1 || k == 2 || k == 3 || k == 0x10 || k == 0x60

def State.keySlot (s : State) (k : Nat) : KeySlot := s.keys.get KeySlot.init k
def State.setKeySlot (s : State) (k : Nat) (x : KeySlot) : State := { s with keys := s.keys.set KeySlot.init k x }

/-- The key is INSTALLED (R556). -/
def State.keyInstalled (s : State) (k : Nat) : Bool := keyBuiltIn k || (s.keySlot k).state == 1

/-- The public point of a KeyId. -/
def State.keyPub (s : State) (k : Nat) : Bytes := if keyBuiltIn k then Config.unitBytes 0x2180 k else (s.keySlot k).pub

/-- The island verifies a signature over the SHA-384 of `data` with an INSTALLED key (R556). -/
def State.verify (s : State) (k : Nat) (data sig : Bytes) : Bool :=
  s.keyInstalled k && Config.ecdsaVerify (s.keyPub k) (Config.sha384 data) sig

/-- Rows of R556 by what their keys sign. -/
def isFirmwareKey (k : Nat) : Bool := k == 1 || k == 2
def isPrickingKey (k : Nat) : Bool := k == 0x10 || (0x20 ≤ k && k ≤ 0x23)

/-- Keys of a role (R39, R556). -/
def roleKeys (role : Nat) : List Nat :=
  match role with
  | 1 => [0x30, 0x31, 0x32, 0x33]
  | 2 => [0x40, 0x41, 0x42, 0x43]
  | 3 => [0x50, 0x51, 0x52, 0x53]
  | 4 => [0x60]
  | _ => []

/-- Authorities of a target slot (R556). -/
def keyAuthority (target : Nat) : List Nat :=
  if 0x20 ≤ target && target ≤ 0x23 then [3] else if 0x40 ≤ target && target ≤ 0x43 then [3]
  else if (0x30 ≤ target && target ≤ 0x33) || (0x50 ≤ target && target ≤ 0x53) then [0x40, 0x41, 0x42, 0x43] else []

/-- The 64 bytes of KeyInfo (R571); an emptied or revoked slot shows no digest. -/
def State.keyInfoBytes (s : State) (k : Nat) : Bytes :=
  if keyBuiltIn k then leBytes 1 1 ++ zeros 15 ++ padTo 48 (Config.sha384 (s.keyPub k))
  else
    let x := s.keySlot k
    leBytes 1 x.state ++ zeros 3 ++ leBytes 4 x.counter ++ leBytes 8 x.installed ++
      (if x.state = 1 then padTo 48 (Config.sha384 x.pub) else zeros 48)

/-- Sessions that raised their role with a key fall back to OBSERVER (R559). -/
def State.dropRaised (s : State) (k : Nat) : State :=
  (List.range 16).foldl (fun s n =>
    if (s.sess n).isOpen && (s.sess n).raisedKey = k then s.setSess n { s.sess n with role := 0, raisedKey := 0 } else s) s

/-! Lockouts (R567) -/

def State.failsOf (s : State) (src : Nat) : SourceFails :=
  (s.island.sources.find? (fun x => x.source == src)).getD ⟨src, 0, 0, 0⟩

def State.setFails (s : State) (x : SourceFails) : State :=
  { s with island := { s.island with sources := s.island.sources.filter (fun y => y.source != x.source) ++ [x] } }

/-- The source or the module is locked out. -/
def State.lockedOut (s : State) (src : Nat) : Bool :=
  decide (s.tick < s.island.lockedUntil) || decide (s.tick < (s.failsOf src).until_)

/-- A success sets the failure count and the count of lockouts to 0. -/
def State.authSuccess (s : State) (src : Nat) : State :=
  { s with island := { s.island with sources := s.island.sources.filter (fun y => y.source != src) } }

/-- An AUTH_FAILED refusal counts against its source and the module (R567). -/
def State.authFailure (s : State) (src : Nat) : State :=
  let s := s.bump K.authFailures
  let x := s.failsOf src
  let th := s.regN K.lockoutThreshold
  let lt := s.regN K.lockoutTime
  let hit := decide (th ≤ x.fails + 1)
  let s := s.setFails ⟨src, x.fails + 1, if hit then x.locks + 1 else x.locks,
    if hit then s.tick + ticksS (min 3600 (lt * 2 ^ x.locks)) else x.until_⟩
  let s := if hit then (s.bump K.lockouts).eventKey .security 0 K.lockouts else s
  let fails := s.island.fails.filter (fun t => decide (s.tick < t + ticksS 60)) ++ [s.tick]
  let s := { s with island := { s.island with fails := fails } }
  if 4 * th ≤ fails.length then
    let s := { s with island := { s.island with lockedUntil := s.tick + ticksS lt } }
    ((s.setFlag K.securityFlags 3 true).bump K.lockouts).eventKey .security 0 K.lockouts
  else s

/-- The island holds its requests after a glitch, or has failed (R573). -/
def State.islandHeld (s : State) : Bool := decide (s.tick < s.island.heldUntil) || s.reg K.securityState == 2

def State.challenge (s : State) (slot : Nat) : Option Challenge := s.challenges.get none slot

/-- The valid challenge of a session (R565). -/
def State.validChallenge (s : State) (slot : Nat) : Option Challenge :=
  match s.challenge slot with
  | some c =>
    if s.tick < c.expires && (s.sess slot).isOpen && c.generation = (s.sess slot).generation then some c else none
  | none => none

def State.dropChallenge (s : State) (slot : Nat) : State := { s with challenges := s.challenges.set none slot none }

end Sys2Proof.Machine
end

