-- ==== Sys2Proof/Machine/FusionOps.lean ====
section
/-!
DEFINITION. Sensor alignment (R163-R165), the projection unit's queue (R171, R172), fusion steps and results (R173-R189), and the
obstacle stop (R192-R194) as shared operations.
-/
namespace Sys2Proof.Machine

def State.alignOf (s : State) (n : Nat) : Align := s.aligns.get Align.init n
def State.setAlign (s : State) (n : Nat) (x : Align) : State := { s with aligns := s.aligns.set Align.init n x }
def State.setFuse (s : State) (x : Fuse) : State := { s with fuse := x }

/-- AlignState codes (R164). -/
abbrev alDisabled : Int := 0
abbrev alLocking : Int := 1
abbrev alAligned : Int := 2
abbrev alUnaligned : Int := 3

/-- FusionState codes (R196). -/
abbrev fsDisabled : Int := 0
abbrev fsWaiting : Int := 1
abbrev fsWarming : Int := 2
abbrev fsRunning : Int := 3
abbrev fsFault : Int := 4

/-! Alignment (R163) -/

/-- The starting rate of a map, in 2^-32 ns per tick. -/
def State.nominalRate (s : State) (n : Nat) : Int := 10 ^ 9 * 2 ^ 32 / s.reg (K.sensorClockHz n)

/-- A sensor is enabled: its tracker starts LOCKING, and its first frame forces a rebase. -/
def State.alignStart (s : State) (n : Nat) : State :=
  let s := s.setAlign n { Align.init with rate := s.nominalRate n }
  (((s.setReg (K.alignState n) alLocking).setReg (K.lockedFrames n) 0).setReg (K.clockOffset n) 0).setReg (K.clockRateError n) 0

/-- Shows the offset and the rate against nominal in ppb. -/
def State.showAlign (s : State) (n : Nat) : State :=
  let x := s.alignOf n
  (s.setReg (K.clockOffset n) (satI32 x.off)).setReg (K.clockRateError n)
    (satI32 (((x.rate - s.nominalRate n) * 10 ^ 9).tdiv (s.nominalRate n)))

/-- The procedure of R163 for one frame: whether the frame is used, its instant, and the state after. -/
def State.align (s : State) (n ts arr : Nat) : (Bool × Int) × State :=
  let x := s.alignOf n
  let trig := s.reg (K.sensorTimeSource n) = 1
  let obs : Int := (arr : Int) - s.reg (K.linkLatency n)
  let dts : Int := (ts : Int) - x.baseTs
  let force := !trig && (x.first || decide (dts ≤ 0))
  let pred : Int :=
    if trig then s.reg (K.lastPulseTime (s.regN (K.triggerOutput n))) + s.reg (K.triggerToCentre n)
    else if force then obs else x.baseT + dts * x.rate / 2 ^ 32
  let e := obs - pred
  let off := x.off + (e - x.off).tdiv 8
  let st := s.reg (K.alignState n)
  if force || s.reg (K.framePeriod n) < absI off then
    let s := s.setAlign n { x with first := false, off := 0, baseT := obs, baseTs := ts, lastInstant := obs }
    let s := s.setReg (K.lockedFrames n) 0
    let s := if st = alAligned
      then ((s.setReg (K.alignState n) alUnaligned).bump (K.unalignedEvents n)).eventKey .fusion n (K.alignState n)
      else s
    ((false, obs), s.showAlign n)
  else
    let nom := s.nominalRate n
    let span := nom * s.reg (K.rateLimit n) / 1000000
    let rate := if trig then x.rate else clampI (nom - span) (nom + span) (x.rate + (e * 2 ^ 26).tdiv dts)
    let slew := s.reg (K.alignSlew n)
    let t := if trig then pred else pred + clampI (-slew) slew (e.tdiv 8)
    let x' := if trig then { x with first := false, off := off, lastInstant := t }
      else { x with first := false, off := off, rate := rate, baseT := t, baseTs := ts, lastInstant := t }
    let locked : Int := if absI e ≤ s.reg (K.lockWindow n) then min (s.reg (K.lockedFrames n) + 1) 10 else 0
    let s := ((s.setAlign n x').setReg (K.lockedFrames n) locked).showAlign n
    if st = alAligned then ((true, t), s)
    else if locked = 10 then ((false, t), s.setReg (K.alignState n) alAligned)
    else ((false, t), s)

/-- The instant that a sensor's map predicts for its next frame (R173, R174). -/
def State.predictedInstant (s : State) (n : Nat) : Int := (s.alignOf n).lastInstant + s.reg (K.framePeriod n)

/-! The service -/

/-- Fusion is enabled (R196). -/
def State.fusionOn (s : State) : Bool := s.reg K.fusionEnable == 1

/-- The declaration of the pricking in FusionRegion (R182). -/
def State.fusionDecl (s : State) : Option FusionDecl :=
  let r := s.regN K.fusionRegion
  if s.reg (K.regionState r) = rgRunning then pFusion (s.runningOf r) else none

/-- The declaration passes its checks (R182). -/
def State.fusionDeclFits (s : State) : Bool :=
  match s.fusionDecl with
  | some d => fusionDeclOk (s.regN K.referencePeriod) d
  | none => false

/-- Shows FusionState (R196). -/
def State.showFusion (s : State) : State :=
  if !s.fusionOn then s.setReg K.fusionState fsDisabled
  else if s.reg K.fusionState = fsFault then s
  else s.setReg K.fusionState
    (if !s.poseUsable || s.fuse.lastT.isNone then fsWaiting else if 0 < s.fuse.warmup then fsWarming else fsRunning)

/-- A flag word with bits of `m` set. -/
def orBits (v m : Nat) : Nat := Nat.lor v m

/-- A step that waits when the state is cleared is the first one after the clear (R184): it carries STATE_RESET and WARMING_UP, also
in its input block. -/
def State.clearWaiting (s : State) (warmup : Nat) : State :=
  match s.fuse.waiting with
  | none => s.setFuse { s.fuse with warmup := warmup, resetDue := true }
  | some x =>
    let x : FStep := { x with flags := orBits x.flags 66, warmup := warmup - 1 }
    s.setFuse { s.fuse with
      waiting := some x, warmup := warmup - 1, resetDue := false
      inputs := s.fuse.inputs.set [] x.block (x.header ++ (s.fuse.inputs.get [] x.block).drop 128) }

/-- The whole network state is cleared and the warm-up starts (R184). -/
def State.fuseClear (s : State) : State :=
  let items := s.fuse.resetItems
  let s := s.clearWaiting (match s.fusionDecl with
    | some d => d.warmup
    | none => 1)
  let s := s.setFuse { s.fuse with net := ⟨[]⟩, clearAsked := false, lastBody := none, prevPose := none, resetItems := [] }
  ((s.bump K.stateResets).finishAll items .done).showFusion

/-- A clear that waits for the end of the step in progress (R184). -/
def State.fuseClearAtEnd (s : State) : State :=
  if s.fuse.running.isSome then s.setFuse { s.fuse with clearAsked := true } else s.fuseClear

/-- A new reference instant (R173). An instant that is not after the last one sets no step, unless steps have run on module time
since the reference sensor's last frame. -/
def State.addReference (s : State) (t : Int) (flags : Nat) : State :=
  let late := !s.fuse.freeRun && (match s.fuse.lastT with
    | some l => decide (t ≤ l)
    | none => false)
  if !s.fusionOn || s.reg K.fusionState = fsFault || t < 0 || late then s
  else
    let s := s.setFuse { s.fuse with
      refs := s.fuse.refs ++ [(t.toNat, flags)], lastT := some t.toNat, freeRun := flags == 8 }
    s.showFusion

/-- The reference instant of a frame of sensor `n`, where it is the reference sensor (R173). -/
def State.referenceAt (s : State) (n : Nat) (t : Int) (flags : Nat) : State :=
  if s.fusionOn && s.regN K.referenceSensor = n then s.addReference t flags else s

/-- A frame of an aligned sensor is missing: its map passes on to the instant it predicts for it (R174), and the step of a
missing reference frame takes that instant (R173). -/
def State.frameMissing (s : State) (n : Nat) : State :=
  if s.reg (K.alignState n) = alAligned then
    let t := s.predictedInstant n
    (s.setAlign n { s.alignOf n with lastInstant := t }).referenceAt n t 4
  else s

/-- A frame ends with a MISSING descriptor (R173, R208). -/
def State.loseFrame (s : State) (n : Nat) (f : VFrame) (cause : Nat) : State := (s.missFrame n f cause).frameMissing n

/-- A used frame joins the projection queue where it has an output to project (R171, R222), and a reference frame sets t_n
(R173). -/
def State.fuseFrame (s : State) (n seq : Nat) (t : Int) (output : Bool) : State :=
  if !s.fusionOn || s.reg K.fusionState = fsFault then s
  else
    let s := if output then s.setFuse { s.fuse with frames := s.fuse.frames ++ [⟨n, t.toNat, s.tick, seq⟩] } else s
    s.referenceAt n t 0

/-- Waiting frames of a sensor. -/
def State.waitingFrames (s : State) (n : Nat) : List ProjFrame := s.fuse.frames.filter (fun f => f.sensor == n)

/-- A waiting frame is discarded and counted (R171, R214). -/
def State.projectionDrop (s : State) (f : ProjFrame) : State :=
  (s.setFuse { s.fuse with frames := s.fuse.frames.erase f, projOverrun := true }).bump K.projectionOverruns

/-- The frame that the projection unit serves next (R171). -/
def State.nextProjection (s : State) : Option ProjFrame :=
  s.fuse.frames.foldl (fun acc f => match acc with
    | none => some f
    | some g => if s.reg (K.projectionPriority f.sensor) < s.reg (K.projectionPriority g.sensor) then some f else some g) none

/-- The staged sample with the oldest instant (R172). -/
def oldestSample (l : List Sample) : Option Sample :=
  l.foldl (fun acc x => match acc with
    | none => some x
    | some y => if x.instant < y.instant then some x else some y) none

/-- A sample is staged; without a free slot the oldest one goes (R172). -/
def State.stageSample (s : State) (x : Sample) : State :=
  let s := if 32 ≤ s.fuse.staged.length then
      (match oldestSample s.fuse.staged with
        | some o => (s.setFuse { s.fuse with staged := s.fuse.staged.erase o }).bump K.stagingDiscards
        | none => s)
    else s
  s.setFuse { s.fuse with staged := s.fuse.staged ++ [x] }

/-- The output of a frame that waits for projection: the newest one or one that the frame pins (R214). -/
def State.outputOf (s : State) (f : ProjFrame) : Option Planes :=
  let x := s.cam f.sensor
  let l : List Planes := match x.newest with
    | some p => p :: x.older
    | none => x.older
  l.find? (fun p => p.seq == f.content)

/-- Depth points that are kept: those of the longest FramePeriod before an instant (R170). -/
def State.keptClouds (s : State) (t : Nat) : List Cloud := s.fuse.clouds.filter (fun c => decide (t ≤ c.instant + 200000000))

/-- The projection unit starts a frame with the pose at its instant (R168-R171): its grid, and how long its work takes at four
samples a tick, one for each cell filled and one for each depth point mapped. -/
def State.project (s : State) (f : ProjFrame) (h : HistStep) : State :=
  let out := (s.outputOf f).getD {}
  if isDepth f.sensor then
    let pts := s.depthPoints f.sensor out h
    let cells := s.depthCells pts
    let x : Sample := ⟨f.sensor, f.instant, h.east, h.north, h.heading, f.content, cells⟩
    s.setFuse { s.fuse with
      clouds := s.keptClouds f.instant ++ [⟨f.instant, h.east, h.north, h.heading, pts⟩]
      projecting := some ⟨f, x, s.tick + (cells.cells.length + 3) / 4⟩ }
  else
    let pts := if s.reg K.groundModel = 1 then s.pointsNear f.sensor f.instant h else []
    let cells := s.cameraCells f.sensor out h (s.highest pts)
    let x : Sample := ⟨f.sensor, f.instant, h.east, h.north, h.heading, f.content, cells⟩
    s.setFuse { s.fuse with projecting := some ⟨f, x, s.tick + (cells.cells.length + pts.length + 3) / 4⟩ }

/-- The projection unit has done its work on a frame: its sample is staged, but not while the pose axis is lost (R171, R172,
R197). -/
def State.projectionDone (s : State) : State :=
  match s.fuse.projecting with
  | none => s
  | some p =>
    if s.tick < p.doneAt then s
    else
      let s := s.setFuse { s.fuse with projecting := none }
      if s.poseUsable then s.stageSample p.sample else s

/-- A frame that no projection has started within one FramePeriod of its arrival (R171). -/
def State.projectionOverdue (s : State) (f : ProjFrame) : Bool :=
  decide (f.arrival + s.regN (K.framePeriod f.sensor) / 10 ≤ s.tick)

/-- The presence mask (R179): samples used, and what the pose axis had at t_n. -/
def presenceOf (used : List Sample) (flags : Nat) : Nat :=
  let base := ((List.range 10).map (fun n => if used.any (fun u => u.sensor == n) then 2 ^ n else 0)).sum
  base + (if flags.testBit 4 then 0 else 1024) + (if flags.testBit 5 then 0 else 2048) + (if flags.testBit 2 then 4096 else 0)

/-- Step n closes with instant `t` and the pose `h` at it (R175-R179, R181): its StepCount, its samples, late samples under the
grace rule, the presence mask, the ego values against the step before, and its input block. -/
def State.closedStep (s : State) (t flags : Nat) (h : HistStep) : FStep × State :=
  let limit := s.regN K.fusionGraceHorizon * s.regN K.referencePeriod
  let isLate (x : Sample) : Bool := match s.fuse.closedT with
    | some c => decide (x.instant ≤ c)
    | none => false
  let due := s.fuse.staged.filter (fun x => decide (x.instant ≤ t))
  let gone := due.filter (fun x => isLate x && decide (limit < t - x.instant))
  let used := due.filter (fun x => !(isLate x && decide (limit < t - x.instant)))
  let late := used.filter isLate
  let s := gone.foldl (fun s x => s.bump (K.lateDiscarded x.sensor)) s
  let warm := s.fuse.warmup
  let pose := s.fuse.stepPose.getD h.pose
  let dx := alongHeading (pose.1 - h.east) (pose.2.1 - h.north) h.heading
  let dy := mulQ (pose.2.1 - h.north) (sinQ h.heading) - mulQ (pose.1 - h.east) (cosQ h.heading)
  let dyaw := wrap32 (pose.2.2 - h.heading)
  let fl := flags + (if late.isEmpty then 0 else 1) + (if 0 < warm then 2 else 0) + (if s.fuse.resetDue then 64 else 0) +
    (if h.state = axDegraded then 512 else 0)
  let block := match s.fuse.running with
    | some r => 1 - r.1.block
    | none => 0
  let interval : Int := match s.fuse.closedT with
    | some c => (t : Int) - c
    | none => 0
  let st : FStep := ⟨(s.fuse.count + 1) % 2 ^ 32, block, t, s.now, fl, presenceOf used h.flags, late.length, gone.length,
    dx.tdiv (1000 * 2 ^ 32), dy.tdiv (1000 * 2 ^ 32), dyaw, h.vp.tdiv (1000 * 65536), h.s / 2 ^ 32,
    egoVector dx dy dyaw h.vp h.rate h.pitch h.roll interval (s.reg K.referencePeriod), used, late,
    h.east, h.north, h.heading, warm - 1⟩
  (st, s.setFuse { s.fuse with
    staged := s.fuse.staged.filter (fun x => decide (t < x.instant)), closedT := some t, warmup := warm - 1,
    resetDue := false, count := st.count, stepPose := some h.pose
    inputs := s.fuse.inputs.set [] block (st.header ++ s.tensor used t h.pose) })

/-- Issues a result header (R188); `flags` on top of the step's own. -/
def State.issueHeader (s : State) (x : FStep) (flags tracks : Nat) : State :=
  let fl := x.flags + flags + (if s.fuse.projOverrun then 128 else 0)
  let s := s.setFuse { s.fuse with projOverrun := false, lastFlags := fl, lastPresence := x.presence }
  let s := (s.setReg K.stepCount (x.count : Nat)).setReg K.lastStepTime (x.time : Nat)
  s.setBlob K.resultHeader (leBytes 4 x.count ++ leBytes 2 fl ++ leBytes 2 x.presence ++ leBytes 8 x.time ++
    leBytes 8 x.closeTime ++ leBytes 8 s.now ++ leBytes 2 (min x.lateUsed 65535) ++ leBytes 2 (min x.lateDiscarded 65535) ++
    leBytes 2 tracks ++ leBytes 1 x.warmup ++ zeros 1 ++ encInt 4 (satI32 x.egoDx) ++ encInt 4 (satI32 x.egoDy) ++
    encInt 4 x.egoDyaw ++ encInt 4 (satI32 x.speed) ++ encInt 8 x.poseValue)

/-- A waiting step is issued SKIPPED; its samples are late samples from now on (R178). -/
def State.skipStep (s : State) (x : FStep) : State :=
  let s := (s.issueHeader x 16 0).bump K.stepsSkipped
  x.used.foldl State.stageSample s

/-- A step enters the network: its samples count as used (R176, R178), and the state planes have moved with the machine since the
last step with a body (R183). -/
def State.runStep (s : State) (x : FStep) : State :=
  let s := x.used.foldl (fun s u => s.bump (K.framesUsed u.sensor)) s
  let s := x.late.foldl (fun s u => s.bump (K.lateUsed u.sensor)) s
  let net := match s.fuse.prevPose, s.fusionDecl with
    | some p, some d => s.resampledNet d.planes p (x.east, x.north, x.heading)
    | _, _ => s.fuse.net
  s.setFuse { s.fuse with running := some (x, s.tick), net := net }

/-- A scene change of FusionRegion switches now: a run has ended at or after its trigger and no other has begun (R185). -/
def State.fusionSwitches (s : State) : Bool :=
  s.fuse.running.isNone && (match (s.region (s.regN K.fusionRegion)).run, s.fuse.runEnd with
    | some c, some e => (match c.trigTick with
      | some t => decide (t ≤ e)
      | none => false)
    | _, _ => false)

/-- A waiting step enters the network where none runs and no scene change stands before it (R178, R185). -/
def State.startWaiting (s : State) : State :=
  if s.fuse.running.isSome || s.fusionSwitches then s
  else match s.fuse.waiting with
    | some w => (s.setFuse { s.fuse with waiting := none }).runStep w
    | none => s

/-- Fusion ends: nothing runs and nothing is staged. -/
def State.fuseHalt (s : State) : State :=
  s.setFuse { s.fuse with
    frames := [], projecting := none, clouds := [], staged := [], refs := [], waiting := none, running := none, closedT := none,
    lastT := none, freeRun := false, runEnd := none, stepPose := none, clearAsked := false, bandDue := none }

/-! The obstacle stop (R192-R194) -/

/-- A track of the last valid list: id, class, confidence, position (mm), velocity (10 mm/s), length and width (mm). -/
structure Track where
  id : Nat
  cls : Nat
  conf : Nat
  x : Int
  y : Int
  vx : Int
  vy : Int
  len : Nat
  width : Nat
  flags : Nat
  deriving DecidableEq, Repr

/-- Track `k` of a track list with its header (R189). -/
def trackAt (b : Bytes) (k : Nat) : Track :=
  let o := 8 + 32 * k
  ⟨fieldU b o 2, fieldU b (o + 2) 1, fieldU b (o + 3) 1, fieldI b (o + 4) 4, fieldI b (o + 8) 4, fieldI b (o + 12) 2,
    fieldI b (o + 14) 2, fieldU b (o + 16) 2, fieldU b (o + 18) 2, fieldU b (o + 24) 1⟩

def trackCount (b : Bytes) : Nat := fieldU b 4 2

/-- 1 mm in 2^-32 um. -/
abbrev mmFine : Int := 1000 * 2 ^ 32

/-- The evaluation of R192: the TrackId of a track in the zone. -/
def State.obstacleTrack (s : State) (n : Nat) : Option Nat :=
  let b := s.fuse.tracks
  let x := s.axis n
  match histAt s.fuse.tracksT x.hist with
  | none => none
  | some r =>
    let dt : Int := (s.now : Int) - s.fuse.tracksT
    let len := (s.reg K.stopZoneBase * 1000000 + max (x.vp / 65536) 0 * s.reg K.stopZoneTime) * (2 ^ 32 / 1000)
    let near := s.reg K.stopZoneNear * mmFine
    ((List.range (trackCount b)).map (trackAt b)).findSome? (fun k =>
      if !(bitOf (s.reg K.stopClasses) k.cls) || (k.conf : Int) < s.reg K.stopConfidence then none
      else
        let p0 := toField r.east r.north r.heading (k.x * mmFine) (k.y * mmFine)
        let d := toField 0 0 r.heading (k.vx * 10 * mmFine * dt / 10 ^ 9) (k.vy * 10 * mmFine * dt / 10 ^ 9)
        let e := p0.1 + d.1 - x.east
        let m := p0.2 + d.2 - x.north
        let qx := alongHeading e m x.heading
        let qy := mulQ m (sinQ x.heading) - mulQ e (cosQ x.heading)
        if near ≤ qx + k.len * mmFine / 2 && qx - k.len * mmFine / 2 ≤ near + len &&
            absI qy ≤ s.reg K.stopZoneHalfWidth * mmFine + k.width * mmFine / 2 then some k.id else none)

/-- StopChannel reports a fault: it is not in OFF, INRUSH or ON (R193, R322). -/
def State.stopChannelFault (s : State) : Bool :=
  let c := s.reg K.stopChannel
  c != 0xFF && !(s.reg (K.lsState c.toNat) == lsOff || s.lsConducts c.toNat)

/-- StopCause at this tick (R193). -/
def State.stopCauses (s : State) (obstacle : Bool) : Nat :=
  let stale := match s.fuse.tracksAt with
    | some t => decide (t + ticksMs (s.regN K.stopWatchdog) < s.tick)
    | none => true
  let need := s.regN K.stopRequiredMask
  let pose := match s.impl0Axis with
    | some n => s.axisState n == axInvalid
    | none => true
  let fs := s.reg K.fusionState
  (if obstacle then 1 else 0) + (if stale then 2 else 0) +
  (if Nat.land s.fuse.lastPresence need = need then 0 else 4) + (if s.fuse.lastFlags.testBit 1 then 8 else 0) +
  (if pose then 16 else 0) + (if s.fuse.tracksBad then 32 else 0) +
  (if (fs = fsWarming || fs = fsRunning) && s.fuse.disableItems.isEmpty then 0 else 64) +
  (if s.stopChannelFault then 128 else 0)

/-- Drives StopChannel, which the service commands only while it owns the channel (R19), and asks for a stop frame (R194). -/
def State.stopDrive (s : State) (run : Bool) : State :=
  let c := s.reg K.stopChannel
  let s := if c = 0xFF || s.reg (K.lsOwner c.toNat) ≠ 5 then s else s.lsSetDuty c.toNat (if run then 1000 else 0)
  s.setFuse { s.fuse with stopDue := true }

/-- StopState becomes STOP. -/
def State.stopNow (s : State) : State :=
  if s.reg K.stopState = 0 then s
  else (((s.setReg K.stopState 0).bump K.stopEvents).setReg K.lastStopTime (s.now : Nat)).stopDrive false

/-- The track that R192 finds in this publish step of the pose axis. -/
def State.foundTrack (s : State) : Option Nat :=
  match s.impl0Axis, s.fuse.tracksAt with
  | some n, some t => if t ≤ s.tick && !s.fuse.tracks.isEmpty then s.obstacleTrack n else none
  | _, _ => none

/-- The causes are taken over (R193), also while the stop is not enabled: STOP while one is set, and for StopHoldTime after the
last; then RUN under AUTO. -/
def State.stopEvaluate (s : State) : State :=
  let track := s.foundTrack
  let c := s.stopCauses track.isSome
  let fault := c ≥ 128 && !(s.flag K.stopCause 7)
  let s := (s.setReg K.stopCause (c : Nat)).setReg K.stopTrack ((track.getD 0xFFFF : Nat) : Int)
  let s := if fault then s.eventKey .fusion 0 K.stopCause else s
  if c ≠ 0 then (s.setFuse { s.fuse with causeClearAt := none }).stopNow
  else
    let at_ := s.fuse.causeClearAt.getD s.tick
    let s := s.setFuse { s.fuse with causeClearAt := some at_ }
    if s.reg K.stopEnable = 1 && s.reg K.stopState = 0 && s.reg K.stopRelease = 0 &&
        at_ + ticksMs (s.regN K.stopHoldTime) ≤ s.tick then
      (s.setReg K.stopState 1).stopDrive true
    else s

/-- The disable of fusion takes effect (R196). -/
def State.fuseDisable (s : State) : State :=
  let off := s.fuse.disableItems
  let items := s.fuse.resetItems
  let s := (s.fuseHalt).setFuse { s.fuseHalt.fuse with disableItems := [], resetItems := [], lastBody := none }
  let s := (s.setReg K.fusionEnable 0).setReg K.fusionState fsDisabled
  ((s.finishAll items .cancelled).finishAll off .done).stopNow

/-- Fusion stops in FAULT (R197): StopState is STOP. -/
def State.fuseFault (s : State) : State :=
  if !s.fusionOn then s
  else
    let s := (s.fuseHalt.setReg K.fusionState fsFault).eventKey .fusion 0 K.fusionState
    if !s.fuse.disableItems.isEmpty then s.fuseDisable else s.stopNow

end Sys2Proof.Machine
end

