-- ==== Sys2Proof/Machine/Fusion.lean ====
section
/-!
DEFINITION. The commands of 06_fusion.md.
-/
namespace Sys2Proof.Machine

/-- A value in ns is a multiple of 10 (R196, R231). -/
def nsCheck (idx sub : Nat) (d : Bytes) : Option Abort :=
  match descOf idx sub with
  | some e => need (e.unit != "ns" || e.ty.decode d % 10 == 0) .valueInvalid
  | none => none

/-- The rule of FusionEnable (R131, R182, R184, R196). -/
def fusionEnableRule : WriteRule where
  check := fun s _ d => need (wval d == 0 || s.fusionOn || (s.impl0Axis.isSome && s.sensorOn (s.regN K.referenceSensor) &&
    s.fusionDeclFits)) .dependency
  effect := fun s _ seq d =>
    if wval d = 0 then
      if !s.fusionOn then s.settle 0x3000 1 seq d
      else
        let s := (s.startItem seq).setFuse { s.fuse with disableItems := s.fuse.disableItems ++ [seq] }
        if s.fuse.running.isSome then s.stopNow else s.fuseDisable
    else if s.fusionOn then
      ((s.setFuse { s.fuse with disableItems := [] }).finishAll s.fuse.disableItems .cancelled).settle 0x3000 1 seq d
    else
      let s := s.settle 0x3000 1 seq d
      let s := s.fuseHalt
      let s := s.setFuse { s.fuse with
        layoutId := (match s.fusionDecl with
          | some f => f.layoutId
          | none => 0) }
      (s.setReg K.fusionState fsWaiting).fuseClear

/-- The rule of FusionReset (R184): the clear comes at the end of the step in progress; a disabled fusion has no state to
clear. -/
def fusionResetRule : WriteRule where
  effect := fun s _ seq _ =>
    let s := s.startItem seq
    if !s.fusionOn then s.finish seq .done
    else (s.setFuse { s.fuse with resetItems := s.fuse.resetItems ++ [seq] }).fuseClearAtEnd

/-- A calibration record is acceptable (R166). -/
def calibrationOk (n : Nat) (d : Bytes) : Bool :=
  let q (i : Nat) : Int := fieldI d (52 + 4 * i) 4
  let m := fieldU d 0 1
  let n2 := q 0 * q 0 + q 1 * q 1 + q 2 * q 2 + q 3 * q 3
  decide (m ≤ 2) && (!isDepth n || m == 0) &&
  decide ((2 ^ 60 - 2 ^ 50 : Int) ≤ n2) && decide (n2 ≤ (2 ^ 60 + 2 ^ 50 : Int))

/-- The band fits its line (R191). -/
def State.bandFits (s : State) : Bool :=
  let l := s.regN K.bandLine
  let i := s.regN K.bandImplement
  s.reg (K.lineWriter l) == 1 && s.reg (K.lineAxis l) == s.reg (K.sectionAxis i) &&
  s.reg (K.lineLanes l) == s.reg K.bandLanes + 1 &&
  decide (s.reg (K.refX i) + s.reg K.bandWriteDistance ≤ s.reg K.gridNear + 256 * s.reg K.gridPitch)

def bandEnableRule : WriteRule :=
  settingRule 0x3040 1 (fun s d => need (wval d == 0 || s.reg K.bandEnable == 1 || s.bandFits) .dependency)

/-- The rule of StopEnable (R194, R196): clearing makes StopState STOP in the same tick. -/
def stopEnableRule : WriteRule where
  check := fun s _ d =>
    let c := s.reg K.stopChannel
    need (wval d == 0 || s.reg K.stopEnable == 1 ||
      ((c != 0xFF || s.reg K.stopCanPort != 0xFF) && (c == 0xFF || s.reg (K.lsOwner c.toNat) == 5))) .dependency
  effect := fun s _ seq d =>
    let s := s.settle 0x3050 1 seq d
    if wval d = 0 then s.stopNow else s

/-- The rule of StopAcknowledge (R193). -/
def stopAcknowledgeRule : WriteRule :=
  commandRule (fun s _ => need (s.reg K.stopState == 1 || (s.reg K.stopCause == 0 && s.reg K.stopEnable == 1 &&
      s.heldFor s.fuse.causeClearAt (ticksMs (s.regN K.stopHoldTime)))) .stateDenied)
    (fun s _ => if s.reg K.stopState = 1 then s else (s.setReg K.stopState 1).stopDrive true)

/-- The write rules of 0x3000-0x3051 (R196) other than SensorEnable. -/
def rule06 (idx sub : Nat) : Option WriteRule :=
  if idx = 0x3000 then
    if sub = 1 then some fusionEnableRule
    else some (settingRule idx sub (fun s d => firstSome [nsCheck idx sub d, need (!s.fusionOn) .stateDenied]))
  else if idx = 0x3001 then some fusionResetRule
  else if 0x3002 ≤ idx && idx ≤ 0x300B && sub ≠ 1 then
    some (settingRule idx sub (fun s d => firstSome [nsCheck idx sub d, need (!s.sensorOn (idx - 0x3002)) .stateDenied]))
  else if 0x3010 ≤ idx && idx ≤ 0x3019 then
    some (settingRule idx sub (fun s d => firstSome [need (!s.sensorOn (idx - 0x3010)) .stateDenied,
      need (calibrationOk (idx - 0x3010) d) .valueInvalid]))
  else if idx = 0x3040 then
    if sub = 1 then some bandEnableRule else some (lockedRule idx sub (fun s => s.reg K.bandEnable == 1))
  else if idx = 0x3050 then
    if sub = 1 then some stopEnableRule else some (lockedRule idx sub (fun s => s.reg K.stopEnable == 1))
  else if idx = 0x3051 then some stopAcknowledgeRule
  else none

/-- FUSION_ENABLE (R184). -/
def execFusionEnable (slot : Fin 16) (value : BitVec 8) (s : State) : Out :=
  .next (s.request slot 0x3000 1 (leBytes 1 value.toNat) fusionEnableRule)

/-- FUSION_RESET (R184). -/
def execFusionReset (slot : Fin 16) (value : BitVec 8) (s : State) : Out :=
  .next (s.request slot 0x3001 0 (leBytes 1 value.toNat) fusionResetRule)

/-- STOP_ENABLE (R194). -/
def execStopEnable (slot : Fin 16) (value : BitVec 8) (s : State) : Out :=
  .next (s.request slot 0x3050 1 (leBytes 1 value.toNat) stopEnableRule)

/-- STOP_ACKNOWLEDGE (R193). -/
def execStopAcknowledge (slot : Fin 16) (value : BitVec 8) (s : State) : Out :=
  .next (s.request slot 0x3051 0 (leBytes 1 value.toNat) stopAcknowledgeRule)

/-- Frames that no projection has started in time go (R171). -/
def State.dropOverdue (s : State) : State := (s.fuse.frames.filter s.projectionOverdue).foldl State.projectionDrop s

/-- PROJECTION_FRAME (R162, R168-R172): a frame whose work is done is staged, and with the unit free the next waiting frame is
placed on its grid. -/
def execProjectionFrame (s : State) : Out :=
  let s := s.projectionDone.dropOverdue
  if s.fuse.projecting.isSome then .next s
  else match s.nextProjection with
    | none => .next s
    | some f =>
      let s := s.setFuse { s.fuse with frames := s.fuse.frames.erase f }
      if !s.poseUsable then .next s
      else match s.poseAt f.instant with
        | none => .next (s.bump (K.lateDiscarded f.sensor))
        | some h => .next (s.project f h)

/-- PROJECTION_OVERRUN (R171): frames that no projection has started within one FramePeriod go. -/
def execProjectionOverrun (s : State) : Out := .next s.dropOverdue

/-- The step with instant `t` closes at this tick (R174). -/
def State.stepCloses (s : State) (t : Nat) : Bool :=
  decide (t + s.regN K.stepCloseDelay ≤ s.now) ||
  (List.range 10).all (fun n => s.reg (K.alignState n) != alAligned || decide ((t : Int) < s.predictedInstant n))

/-- A closed step enters the network or waits for it; one that has waited until now is issued SKIPPED (R178, R185). -/
def State.offerStep (s : State) (x : FStep) : State :=
  if s.fuse.running.isNone && !s.fusionSwitches then s.runStep x
  else
    let s := match s.fuse.waiting with
      | some w => s.skipStep w
      | none => s
    s.setFuse { s.fuse with waiting := some x }

/-- FUSION_STEP_CLOSE (R174-R179). -/
def execFusionStepClose (s : State) : Out :=
  match s.fuse.refs with
  | [] => .next s
  | (t, flags) :: rest =>
    if !s.fusionOn || s.reg K.fusionState = fsFault || !s.stepCloses t then .next s
    else
      let s := (s.setFuse { s.fuse with refs := rest }).projectionDone.startWaiting
      let pose := if s.poseUsable then s.poseAt t else none
      match pose with
      | none =>
        let s := if s.poseUsable then s else s.setFuse { s.fuse with staged := [] }
        let last := s.fuse.stepPose
        let x := s.closedStep t flags { flags := 0x30 }
        let s := x.2.skipStep x.1
        .next (s.setFuse { s.fuse with stepPose := last }).showFusion
      | some h =>
        let r := s.closedStep t flags h
        .next (r.2.offerStep r.1).showFusion

/-- What follows the end of a network run (R178, R184, R196): a disable or clear that waited, then the waiting step. -/
def State.networkFree (s : State) : State :=
  let s := s.setFuse { s.fuse with running := none, runEnd := some s.tick }
  if !s.fuse.disableItems.isEmpty then s.fuseDisable
  else (if s.fuse.clearAsked then s.fuseClear else s).startWaiting.showFusion

/-- A run has lasted longer than StepTimeMax: its step is issued without a body (R178). -/
def State.overrunStep (s : State) (x : FStep) : State :=
  (((s.issueHeader x 32 0).bump K.stepOverruns).eventKey .fusion 0 K.stepOverruns).networkFree

/-- The tick at which a run that began at `t0` reaches StepTimeMax. -/
def State.runLimit (s : State) (t0 : Nat) : Option Nat := s.fusionDecl.map (fun d => t0 + d.stepMax / 10)

/-- A coordinate within 60 m (R186). -/
def posOk (v : Int) : Bool := decide (-60000 ≤ v) && decide (v ≤ 60000)

/-- The checks of R186 on each object, without its StepCount field's content. -/
def edgesOk (b : Bytes) : Bool :=
  decide (fieldU b 4 1 ≤ 4) && (List.range (min 4 (fieldU b 4 1))).all (fun k =>
    decide (fieldU b (8 + 132 * k + 2) 1 ≤ 100) && (List.range 32).all (fun i => posOk (fieldI b (8 + 132 * k + 4 + 4 * i) 4)))

def bandOk (lanes : Nat) (b : Bytes) : Bool :=
  (List.range 256).all (fun r =>
    let o := 8 + 4 * r * (1 + lanes)
    decide (0 ≤ fieldI b o 4) && decide (fieldI b o 4 ≤ 2 ^ 24) && (List.range lanes).all (fun l =>
      decide (0 ≤ fieldI b (o + 4 + 4 * l) 4) && decide (fieldI b (o + 4 + 4 * l) 4 ≤ 16 * 2 ^ 24)))

def spoutOk (b : Bytes) : Bool :=
  decide (fieldU b 6 1 ≤ 100) && posOk (fieldI b 8 4) && posOk (fieldI b 12 4) && decide (fieldU b 24 1 ≤ 100)

def tankOk (b : Bytes) : Bool :=
  decide (fieldU b 5 1 ≤ 100) && decide (0 ≤ fieldI b 8 4) && decide (fieldI b 8 4 ≤ 2 ^ 24)

def tracksOk (b : Bytes) : Bool :=
  decide (trackCount b ≤ 256) &&
  (let l := (List.range (min 256 (trackCount b))).map (trackAt b)
   l.all (fun k => decide (k.conf ≤ 100) && decide (k.cls ≤ 6) && posOk k.x && posOk k.y) &&
   decide (l.map Track.id).Nodup)

/-- Writes a StepCount at the front and, where an object fails, 0 over its Valid bytes (R186, R187). -/
def issuedObject (size step : Nat) (ok : Bool) (valids : List Nat) (b : Bytes) : Bytes :=
  let b := patch (padTo size b) 0 (leBytes 4 step)
  if ok then b else valids.foldl (fun b o => patch b o [0]) b

/-- The spout topic (R497): a valid result while a cart is accepted or unloads, at most 10 per second. -/
def State.publishSpout (s : State) (p : Bytes) : State :=
  if (s.reg K.rendezvousState = 2 || s.reg K.rendezvousState = 3) && fieldU p 4 1 = 1 && s.fleet.lastSpout + ticksMs 100 ≤ s.tick then
    let s := { s with fleet := { s.fleet with lastSpout := s.tick } }
    s.publish ⟨.spout, [1] ++ field p 4 3 ++ field p 16 8 ++ field p 24 1 ++ zeros 3⟩
  else s

/-- NETWORK_RUN_END (R186-R189, R497): the network's output objects, each in the layout of R189. -/
def execNetworkRunEnd (edges band spout tank tracks : Bytes) (s : State) : Out :=
  match s.fuse.running with
  | none => .next s
  | some (x, t0) =>
    if (match s.runLimit t0 with
      | some l => decide (l < s.tick)
      | none => false) then .next (s.overrunStep x)
    else
    let lanes := s.regN K.bandLanes
    let step := x.count
    let eok := edgesOk edges
    let bok := bandOk lanes band
    let sok := spoutOk spout
    let tok := tankOk tank
    let kok := tracksOk tracks
    let count := if trackCount tracks ≤ 256 then trackCount tracks else 0
    let bad := !(eok && bok && sok && tok && kok)
    let e := issuedObject 536 step eok [9, 141, 273, 405] edges
    let b := patch (issuedObject (8 + 1024 * (1 + lanes)) step bok [7] band) 4 (leBytes 2 256 ++ leBytes 1 lanes)
    let p := issuedObject 32 step sok [4] spout
    let t := issuedObject 16 step tok [4] tank
    let k := patch (issuedObject (8 + 32 * count) step kok [6] tracks) 4 (leBytes 2 count)
    let s := s.issueHeader x (if bad then 256 else 0) count
    let s := ((((s.setBlob K.cropEdges e).setBlob K.densityBand b).setBlob K.spoutAlignment p).setBlob K.tankFill t).setBlob
      K.obstacleTracks k
    let valid := fieldU k 6 1 = 1
    let s := s.setFuse { s.fuse with
      prevPose := some (x.east, x.north, x.heading), lastBody := some s.tick, issuedAt := some s.tick,
      outputs := s.fuse.outputs.set [] x.block (edges ++ band ++ spout ++ tank ++ tracks),
      bodyFlags := x.flags, tracksBad := !valid,
      tracks := if valid then k else s.fuse.tracks, tracksT := if valid then x.time else s.fuse.tracksT,
      tracksAt := if valid then some s.tick else s.fuse.tracksAt,
      bandDue := if s.reg K.bandEnable = 1 && fieldU b 7 1 = 1 then some x.time else s.fuse.bandDue }
    .next (s.publishSpout p).networkFree

/-- STEP_OVERRUN (R178): the run has lasted StepTimeMax. -/
def execStepOverrun (s : State) : Out :=
  match s.fuse.running with
  | some (x, t0) => .next (if (match s.runLimit t0 with
      | some l => decide (l ≤ s.tick)
      | none => false) then s.overrunStep x else s)
  | none => .next s

/-- STEP_FREE_RUN (R173): the reference sensor is not aligned. -/
def execStepFreeRun (s : State) : Out :=
  match s.fuse.lastT with
  | none => .next s
  | some t =>
    .next (if s.fusionOn && s.reg (K.alignState (s.regN K.referenceSensor)) ≠ alAligned &&
        t + s.regN K.referencePeriod ≤ s.now then
      s.addReference (t + s.regN K.referencePeriod : Nat) 8
    else s)

/-- STATE_HOLD_LIMIT (R184). -/
def execStateHoldLimit (s : State) : Out :=
  .next (match s.fuse.lastBody with
    | some t => if s.fusionOn && decide (t + ticksMs (s.regN K.stateHoldLimit) < s.tick) then s.fuseClearAtEnd else s
    | none => s)

/-- BAND_WRITE (R122, R190): the rows of the band issued for the step at `tn`. A line of another writer refuses every row. -/
def execBandWrite (s : State) : Out :=
  match s.fuse.bandDue with
  | none => .next s
  | some tn =>
    let s := s.setFuse { s.fuse with bandDue := none }
    let b := s.blob K.densityBand
    let i := s.regN K.bandImplement
    let l := s.regN K.bandLine
    let lanes := fieldU b 6 1
    let sh := s.axisAtTime (s.regN (K.sectionAxis i)) (tn : Nat) / 2 ^ 32
    if s.reg K.bandEnable ≠ 1 || s.reg (K.lineEnable l) ≠ 1 then .next s
    else .next ((List.range 256).foldl (fun (s : State) (r : Nat) =>
      let x := s.reg K.gridNear * 1000 + (2 * (r : Int) + 1) * s.reg K.gridPitch * 500 - s.reg (K.refX i) * 1000
      let k := sh + x
      if x < 0 || s.reg K.bandWriteDistance * 1000 < x || ((s.line l).hasKey && k ≤ s.reg (K.lastKey l)) then s
      else
        let vals := (List.range (lanes + 1)).map (fun j => fieldI b (8 + 4 * (r * (lanes + 1) + j)) 4)
        if s.reg (K.lineWriter l) ≠ 1 then s.bump K.bandWriteRefusals
        else match s.lineReject l k with
          | some j => (s.countReject l j).bump K.bandWriteRefusals
          | none => s.lineAdd l k vals) s)

/-- STOP_HOLD_END (R193). -/
def execStopHoldEnd (s : State) : Out := .next s.stopEvaluate

/-- STOP_WATCHDOG (R193). -/
def execStopWatchdog (s : State) : Out := .next s.stopEvaluate

/-- The stop frame (R194). -/
def State.stopFrame (s : State) : CanFrame :=
  let b := leBytes 1 (s.regN K.stopState) ++ leBytes 2 (s.regN K.stopCause) ++ leBytes 1 s.fuse.stopCounter ++ [255, 255, 255]
  ⟨2 ^ 31 + s.regN K.stopCanId, 0, b ++ leBytes 1 ((b.map BitVec.toNat).sum % 256)⟩

/-- STOP_CAN_FRAME (R194): after each change and every 100 ms. -/
def execStopCanFrame (s : State) : Out :=
  let p := s.reg K.stopCanPort
  let due := s.fuse.stopDue || (s.reg K.stopEnable == 1 && decide (s.fuse.stopSentAt + ticksMs 100 ≤ s.tick))
  if !due then .next s
  else if p = 0xFF then .next (s.setFuse { s.fuse with stopDue := false })
  else
    let f := s.stopFrame
    let s := s.setFuse { s.fuse with
      stopDue := false, stopSentAt := s.tick, stopCounter := (s.fuse.stopCounter + 1) % 256 }
    .next (s.canService p.toNat f)

end Sys2Proof.Machine
end

