-- ==== Sys2Proof/Machine/Vision.lean ====
section
/-!
DEFINITION. The commands of 07_camera_pipeline.md.
-/
namespace Sys2Proof.Machine

/-! Enabling and settings -/

/-- The input mapping keeps R198 with sensor `n` enabled. -/
def State.mappingOk (s : State) (n : Nat) : Bool :=
  let p := s.regN (K.inputPort n)
  let others := (List.range 10).filter (fun m => m != n && s.sensorOn m && s.regN (K.inputPort m) == p)
  if p = 4 then others.isEmpty && !isDepth n
  else decide (others.length < 4) && others.all (fun m => s.reg (K.virtualChannel m) != s.reg (K.virtualChannel n))

/-- A black level of a sensor with this many bits (R216). -/
def blackOk (bits : Nat) (v : Int) : Bool := decide (v < 2 ^ (bits - 1))

/-- Every entry of a defect map lies inside the image (R217). -/
def defectsInside (w h : Nat) : Bytes → Bool
  | a :: b :: c :: d :: t => decide (leNat [a, b] < w) && decide (leNat [c, d] < h) && defectsInside w h t
  | _ => true

/-- The checks of an enabling (R198, R208, R210, R214, R216, R217, R219). -/
def State.sensorCheck (s : State) (n : Nat) : Option Abort :=
  let w := s.regN (K.width n)
  let h := s.regN (K.height n)
  let m := s.reg (K.mosaic n)
  firstSome [
    need (s.mappingOk n) .dependency,
    need (s.reg (K.timestampBytes n) != 0 || s.reg (K.sensorTimeSource n) == 1) .dependency,
    need ((List.range 4).all (fun c => blackOk (s.sensorBits n) (s.reg (K.blackLevel n c)))) .dependency,
    need (defectsInside w h (s.blob (K.defectMap n))) .dependency,
    need (isDepth n == (m == 4)) .dependency,
    need (if m = 3 then w % 4 == 0 && h % 4 == 0 else w % 2 == 0 && h % 2 == 0) .dependency,
    need (decide (s.reg (K.sofTimeout n) ≤ s.reg (K.framePeriod n))) .dependency,
    need (s.regionFits (s.sensorBytes n)) .resourceExhausted]

/-- A sensor's disable takes effect (R92, R227): nothing of it is in flight. -/
def State.sensorOff (s : State) (n : Nat) : State :=
  let x := s.cam n
  let pass := match s.vision.passFrom with
    | some (m, t) => if m = n then none else some (m, t)
    | none => none
  let s : State := { s with vision := { s.vision with passFrom := pass } }
  let s := s.setCam n { Cam.init with nextSeq := x.nextSeq }
  let s := s.setFuse { s.fuse with frames := s.fuse.frames.filter (fun f => f.sensor != n) }
  let s := ((s.setReg (K.sensorEnable n) 0).setReg (K.alignState n) alDisabled).setReg (K.setState n) 0
  (s.endDisable (aimCam n)).showRegion

/-- The rule of SensorEnable (R92, R163, R198). -/
def sensorEnableRule (n : Nat) : WriteRule where
  check := fun s _ d => if wval d = 0 || s.sensorOn n then none else s.sensorCheck n
  aim := fun s d => if wval d = 0 && !s.isDisabling (aimCam n) then 0 else aimCam n
  effect := fun s _ seq d =>
    if wval d = 0 then
      if !s.sensorOn n then s.settle (0x3002 + n) 1 seq d
      else
        let s := (s.startItem seq).beginDisable (aimCam n) seq (s.tick + ticksMs 100)
        if (s.cam n).reading.isSome then s else s.sensorOff n
    else if s.sensorOn n then s.settle (0x3002 + n) 1 seq d
    else
      let s := s.settle (0x3002 + n) 1 seq d
      let s := s.setCam n { Cam.init with nextSeq := (s.cam n).nextSeq }
      (s.alignStart n).showRegion

/-- An enabled port trains, a disabled or unpowered one is down; a tripped one stays so (R199, R202, R24). -/
def State.portLink (s : State) (p : Nat) : State :=
  if s.reg (K.camLinkState p) = lkPocTripped then s
  else if s.reg (K.camPortEnable p) = 0 || !s.aphyPowered p then (s.setReg (K.camLinkState p) lkDown).setReg (K.gear p) 0
  else if s.reg (K.camLinkState p) = lkUp then s else s.setReg (K.camLinkState p) lkTraining

/-- The rule of a port entry (R199, R202, R231). -/
def camPortRule (p sub : Nat) : WriteRule :=
  if sub = 1 then
    { check := fun s _ d => need (wval d == 0 || p != 3 || s.reg K.port3Mode == 0) .dependency
      effect := fun s _ seq d => (s.settle (0x3401 + p) 1 seq d).portLink p }
  else if sub = 3 then
    { effect := fun s _ seq d =>
        let s := s.settle (0x3401 + p) 3 seq d
        if s.reg (K.camLinkState p) ≠ lkPocTripped then s
        else if wval d = 0 then { s with vision := { s.vision with pocCleared := s.vision.pocCleared.set false p true } }
        else if s.vision.pocCleared.get false p then
          let s : State := { s with vision := { s.vision with pocCleared := s.vision.pocCleared.set false p false } }
          (s.setReg (K.camLinkState p) lkDown).portLink p
        else s }
  else lockedRule (0x3401 + p) sub (fun s => s.reg (K.camPortEnable p) == 1)

/-- The rule of InlineBypass (R213, R403). -/
def inlineBypassRule : WriteRule :=
  settingRule 0x3400 2 (fun s d => need (wval d == 1 || (s.runningAct actInlineTest 0).isNone) .busyConflict)
    (fun s =>
      let n := s.regN K.inlineSensor
      if (n < 10 && s.sensorOn n) || s.reg K.inlineState = 2 then s else s.setReg K.inlineState (s.reg K.inlineBypass))

/-- A sensor named by InlineSensor is enabled. -/
def State.inlineLocked (s : State) (n : Nat) : Bool := decide (n < 10) && s.sensorOn n

def inlineSensorRule : WriteRule :=
  settingRule 0x3400 1 (fun s d => firstSome [
    need (!s.inlineLocked (s.regN K.inlineSensor) && !s.inlineLocked (wval d)) .stateDenied,
    need (decide (10 ≤ wval d) || s.reg (K.mosaic (wval d)) != 4) .dependency])

/-- The check of a correction write to an enabled sensor (R225); DefectMap's length (R231). -/
def State.corrCheck (s : State) (n obj sub : Nat) (d : Bytes) : Option Abort :=
  firstSome [
    need (obj != 2 || d.length % 4 == 0) .typeLength,
    need (!s.sensorOn n || obj != 0 || 4 < sub || blackOk (s.sensorBits n) (wval d : Nat)) .dependency,
    need (!s.sensorOn n || obj != 2 || defectsInside (s.regN (K.width n)) (s.regN (K.height n)) d) .dependency]

/-- The rule of a correction object (R225): in force at the next frame start of an enabled sensor. -/
def correctionRule (n obj sub : Nat) : WriteRule where
  check := fun s _ d => s.corrCheck n obj sub d
  aim := fun s _ => if s.sensorOn n then aimCam n else 0
  effect := fun s _ seq d =>
    let idx := 0x3420 + 16 * obj + n
    if s.sensorOn n then s.setCam n { s.cam n with writes := (s.cam n).writes ++ [⟨idx, sub, d, seq⟩] }
    else s.settle idx sub seq d

/-- The rule of SettingsCommit (R227). -/
def settingsCommitRule (n : Nat) : WriteRule where
  check := fun s _ d => firstSome [
    need (d.length == 4 + 4 * fieldU d 2 1) .typeLength,
    need (fieldU d 0 2 != 0 && 1 ≤ fieldU d 2 1 && fieldU d 2 1 ≤ 16 && fieldU d 3 1 == 0) .valueInvalid,
    need (s.sensorOn n) .functionDisabled,
    need (s.cam n).set.isNone .busy]
  aim := fun _ _ => aimCam n
  effect := fun s _ seq d =>
    let w := (List.range (fieldU d 2 1)).map (fun i => (fieldU d (4 + 4 * i) 2, fieldU d (6 + 4 * i) 2))
    (s.setCam n { s.cam n with set := some ⟨seq, fieldU d 0 2, w, 0, false, none⟩ }).setReg (K.setState n) 1

/-- Samples per second of a stream, as an exact fraction (R229). -/
def State.streamRate (s : State) (k : Nat) : Rat :=
  (s.regN (K.codingWidth k) * s.regN (K.codingHeight k) * 10 ^ 9 : Nat) /
    ((s.regN (K.framePeriod (s.regN (K.streamSensor k))) * s.regN (K.rateDivider k) : Nat) : Rat)

/-- The limits of a stream (R229, R231). -/
def State.streamCheck (s : State) (k : Nat) : Option Abort :=
  let n := s.regN (K.streamSensor k)
  let w := s.reg (K.codingWidth k)
  let h := s.reg (K.codingHeight k)
  let on := (List.range 4).filter (fun j => j == k || s.reg (K.streamEnable j) == 1)
  firstSome [
    need (w % 8 == 0 && h % 8 == 0 && decide (w ≤ s.reg (K.width n)) && decide (h ≤ s.reg (K.height n))) .dependency,
    need (s.reg (K.destAddress k) != 0) .dependency,
    need (decide ((on.map s.streamRate).sum ≤ 62208000)) .dependency,
    need (s.regionFits (s.streamBytes k)) .resourceExhausted]

/-- The rule of StreamEnable (R214, R229). -/
def streamEnableRule (k : Nat) : WriteRule :=
  { check := fun s _ d => if wval d = 0 || s.reg (K.streamEnable k) = 1 then none else s.streamCheck k
    effect := fun s _ seq d =>
      let s := if s.reg (K.streamEnable k) = wval d then s else s.setStream k Stream.init
      (s.settle (0x34B0 + k) 1 seq d).showRegion }

/-- The rule of a frame-sync entry (R203, R231). -/
def fsyncRule (o sub : Nat) : WriteRule :=
  settingRule (0x34A0 + o) sub (fun s d =>
    if sub = 1 then
      need (!(s.reg (K.fsyncSource o) == 2 && wval d != 2 && !(s.cuesOnTarget 5 o).isEmpty)) .stateDenied
    else firstSome [nsCheck (0x34A0 + o) sub d, need (s.reg (K.fsyncSource o) == 0) .stateDenied])
    (fun s => s.fsyncSourceSet o)

/-- The rule of 0x3405 (R231); Port3Mode gives port 3 its link or takes it (R24, R201). -/
def parallelRule (sub : Nat) : WriteRule :=
  settingRule 0x3405 sub (fun s _ => need (!(List.range 10).any (fun n => s.sensorOn n && decide (3 ≤ s.regN (K.inputPort n)))) .stateDenied)
    (fun s => if sub = 1 then s.portLink 3 else s)

/-- The write rules of 0x3400-0x34B3 and of SensorEnable (R231). -/
def rule07 (idx sub : Nat) : Option WriteRule :=
  if 0x3002 ≤ idx && idx ≤ 0x300B && sub = 1 then some (sensorEnableRule (idx - 0x3002))
  else if idx = 0x3400 then
    if sub = 1 then some inlineSensorRule else if sub = 2 then some inlineBypassRule else none
  else if 0x3401 ≤ idx && idx ≤ 0x3404 then some (camPortRule (idx - 0x3401) sub)
  else if idx = 0x3405 then some (parallelRule sub)
  else if 0x3410 ≤ idx && idx ≤ 0x3419 then
    some (settingRule idx sub (fun s d => firstSome [nsCheck idx sub d, need (!s.sensorOn (idx - 0x3410)) .stateDenied]))
  else if 0x3420 ≤ idx && idx ≤ 0x3459 && idx % 16 < 10 then
    some (correctionRule (idx % 16) (idx / 16 - 0x342) sub)
  else if 0x3460 ≤ idx && idx ≤ 0x3469 then
    some (lockedRule idx sub (fun s => s.sensorOn (idx - 0x3460) && decide (sub ≤ 3)))
  else if 0x3470 ≤ idx && idx ≤ 0x3479 then some (settingsCommitRule (idx - 0x3470))
  else if 0x34A0 ≤ idx && idx ≤ 0x34A7 then some (fsyncRule (idx - 0x34A0) sub)
  else if 0x34B0 ≤ idx && idx ≤ 0x34B3 then
    if sub = 1 then some (streamEnableRule (idx - 0x34B0))
    else some (lockedRule idx sub (fun s => s.reg (K.streamEnable (idx - 0x34B0)) == 1))
  else none

/-- SENSOR_ENABLE (R198). -/
def execSensorEnable (slot : Fin 16) (n : Fin 10) (value : BitVec 8) (s : State) : Out :=
  .next (s.request slot (0x3002 + n) 1 (leBytes 1 value.toNat) (sensorEnableRule n))

/-- STREAM_ENABLE (R229). -/
def execStreamEnable (slot : Fin 16) (k : Fin 4) (value : BitVec 8) (s : State) : Out :=
  .next (s.request slot (0x34B0 + k) 1 (leBytes 1 value.toNat) (streamEnableRule k))

/-- INLINE_BYPASS (R213). -/
def execInlineBypass (slot : Fin 16) (value : BitVec 8) (s : State) : Out :=
  .next (s.request slot 0x3400 2 (leBytes 1 value.toNat) inlineBypassRule)

/-- CORRECTION_WRITE (R225): object 0 is 0x3420, 1 LensShading, 2 DefectMap, 3 GammaLut. -/
def execCorrectionWrite (slot : Fin 16) (n : Fin 10) (obj : Fin 4) (sub : BitVec 8) (value : Bytes) (s : State) : Out :=
  .next (s.request slot (0x3420 + 16 * obj + n) sub.toNat value (correctionRule n obj sub.toNat))

/-- SETTINGS_COMMIT (R227). -/
def execSettingsCommit (slot : Fin 16) (n : Fin 10) (value : Bytes) (s : State) : Out :=
  .next (s.request slot (0x3470 + n) 0 value (settingsCommitRule n))

/-! Frames -/

/-- The safe point of a camera's disable: the end of the frame in readout (R92). -/
def State.afterReadout (s : State) (n : Nat) : State := if s.isDisabling (aimCam n) then s.sensorOff n else s

/-- A packet or line that is discarded and counted (R200). -/
def State.ignorePacket (s : State) (n : Nat) : State := s.bump (K.ignoredPackets n)

/-- A packet of an unmapped virtual channel is discarded; the lowest enabled sensor of its port counts it
(notes/assumptions/176.md). -/
def State.ignoreUnmapped (s : State) (port : Nat) : State :=
  match (List.range 10).find? (fun n => s.sensorOn n && s.regN (K.inputPort n) == port) with
  | some n => s.ignorePacket n
  | none => s

/-- Vision buffers of a sensor that may not be written (R214): the newest complete one, the one that the projection unit reads,
and those of frames that wait for projection. -/
def State.pinnedBuffers (s : State) (n : Nat) : List Nat :=
  let newest : List Nat := match (s.cam n).newest with
    | some p => [p.seq]
    | none => []
  let read : List Nat := match s.fuse.projecting with
    | some p => if p.frame.sensor = n then [p.frame.content] else []
    | none => []
  (newest ++ read ++ (s.waitingFrames n).map ProjFrame.content).eraseDups

/-- A sensor begins to write an output (R214): where all three buffers are pinned, the oldest waiting frame in another buffer
than the newest one gives up its own. -/
def State.freeVisionBuffer (s : State) (n : Nat) : State :=
  if (s.pinnedBuffers n).length < 3 then s
  else match (s.waitingFrames n).find? (fun f => match (s.cam n).newest with
      | some p => f.content != p.seq
      | none => true) with
    | some f => s.projectionDrop f
    | none => s

/-- A frame start of a sensor (R205, R213, R214, R225): the corrections come into force, a raw buffer is taken where none is
free, the frame opens, and the in-line path or the depth conversion begins to write. -/
def State.frameStart (s : State) (n csi : Nat) : State :=
  let s := s.atFrameStart n
  let s := match s.rawVictim n with
    | some f => s.loseFrame n f 3
    | none => s
  let s := if s.pathOf n = 1 then s else s.freeVisionBuffer n
  s.openFrame n csi

/-- FRAME_START (R205, R207, R208): on a port and virtual channel, with the packet's frame number. -/
def execFrameStart (port : Fin 5) (vc : Fin 16) (number : BitVec 16) (s : State) : Out :=
  if !s.portLive port then .next s
  else
    let s := s.retransmit port
    match s.sensorAt port vc with
    | none => .next (s.ignoreUnmapped port)
    | some n =>
      let s := match (s.cam n).reading with
        | some f => (s.closeFrame n f true).afterReadout n
        | none => s
      .next (if s.sensorOn n then s.frameStart n (if port.val = 4 then 0 else number.toNat) else s)

/-- Pairs of payload bytes joined, the first the lower one (R223). -/
def joinPairs : List Nat → List Nat
  | a :: b :: t => (a % 256 + 256 * (b % 256)) :: joinPairs t
  | _ => []

/-- The pixels of a line as a sensor's type gives them: a user-defined type carries bytes (R223), any other pixel has n bits
(R200, R201). -/
def State.linePixels (s : State) (n : Nat) (px : List Nat) : List Nat :=
  if s.reg (K.inputPort n) ≠ 4 && isUserType (s.regN (K.dataType n)) then joinPairs px
  else px.map (· % 2 ^ s.sensorBits n)

/-- The pixels of a received line by the first matching rule of R206, with the flag and counts it gives: `taken` is how
many of them the in-line path could take. -/
def State.takeLine (s : State) (n : Nat) (f : VFrame) (crcBad : Bool) (taken : Nat) (px : List Nat) :
    VFrame × Option Nat :=
  let w := s.regN (K.width n)
  let row := f.rows.length
  let ped (x : Nat) : Nat := pedestal (isDepth n) (s.regN (K.mosaic n)) f.corr x row
  let blank (k : Nat) : List Nat := px.take k ++ (List.range (w - k)).map (fun i => ped (k + i))
  if crcBad then
    ({ f with rows := f.rows ++ [(List.range w).map ped], flags := setBit f.flags dfCrc, blanked := f.blanked + 1 },
      some (K.crcErrors n))
  else if px.length < w then
    ({ f with
        rows := f.rows ++ [blank px.length], flags := setBit f.flags dfShortLine, short := f.short + 1 },
      some (K.shortLines n))
  else if w < px.length then
    ({ f with rows := f.rows ++ [px.take w], flags := setBit f.flags dfLongLine, long := f.long + 1 }, some (K.longLines n))
  else if f.path = 0 && taken < w then
    ({ f with
        rows := f.rows ++ [blank taken], flags := setBit f.flags dfOverrun, blanked := f.blanked + 1 },
      some (K.lineOverruns n))
  else ({ f with rows := f.rows ++ [px] }, none)

/-- Payload bytes with the packing bytes skipped (R210): every `k`-th byte goes, 0 for none. -/
def unpackBytes (k : Nat) (b : Bytes) : Bytes :=
  if k = 0 then b else (b.zipIdx.filter (fun x => x.2 % k != k - 1)).map Prod.fst

/-- The timestamp of a line (R210), none where it is too short to hold the field. -/
def State.lineTimestamp (s : State) (n : Nat) (payload : Bytes) : Option Nat :=
  let k := [0, 5, 3].getD (s.regN (K.embeddedPacking n)) 0
  let b := unpackBytes k payload
  let o := s.regN (K.timestampOffset n)
  let c := s.regN (K.timestampBytes n)
  if b.length < o + c then none
  else some (if s.reg (K.timestampOrder n) = 0 then leNat (field b o c) else beNat (field b o c))

/-- An embedded line: the first one of a frame gives its timestamp. -/
def State.embeddedLine (s : State) (n : Nat) (f : VFrame) (payload : Bytes) : State :=
  s.putFrame n { f with
    ts := if f.embedded = 0 then s.lineTimestamp n payload else f.ts, embedded := f.embedded + 1 }

/-- IMAGE_LINE (R200, R201, R206, R207): a packet of type `ty`; `headerBad` for an uncorrectable header. -/
def execImageLine (port : Fin 5) (vc : Fin 16) (ty : BitVec 8) (headerBad crcBad : Bool) (taken : Nat)
    (pixels : List (BitVec 16)) (s : State) : Out :=
  if !s.portLive port then .next s
  else match s.sensorAt port vc with
    | none => .next (s.ignoreUnmapped port)
    | some n =>
      match (s.cam n).reading with
      | none => .next (s.ignorePacket n)
      | some f =>
        let px := s.linePixels n (pixels.map BitVec.toNat)
        if headerBad then .next ((s.putFrame n { f with flags := setBit f.flags dfHeader }).bump (K.headerErrors n))
        else if port.val = 4 && f.embedded < s.regN K.parallelEmbeddedLines then
          .next (s.embeddedLine n f (px.map (BitVec.ofNat 8)))
        else if port.val ≠ 4 && (s.regN (K.dataType n) ≠ ty.toNat || (isUserType ty.toNat && !isDepth n)) then
          .next (s.ignorePacket n)
        else
          let f := { f with received := f.received + 1 }
          if s.regN (K.height n) ≤ f.rows.length then
            .next (s.putFrame n { f with flags := setBit f.flags dfLongFrame })
          else
            let r := s.takeLine n f crcBad taken px
            let s := s.putFrame n r.1
            .next (match r.2 with
              | some k => s.bump k
              | none => s)

/-- EMBEDDED_DATA_LINE (R200, R201, R210). -/
def execEmbeddedDataLine (port : Fin 5) (vc : Fin 16) (ty : BitVec 8) (payload : Bytes) (s : State) : Out :=
  if !s.portLive port then .next s
  else match s.sensorAt port vc with
    | none => .next (s.ignoreUnmapped port)
    | some n =>
      match (s.cam n).reading with
      | none => .next (s.ignorePacket n)
      | some f =>
        if port.val = 4 then
          .next (if f.embedded < s.regN K.parallelEmbeddedLines then s.embeddedLine n f payload else s)
        else if s.regN (K.embeddedDataType n) ≠ ty.toNat then .next (s.ignorePacket n)
        else .next (s.embeddedLine n f payload)

/-- FRAME_END (R205, R207): the frame end that matches the frame's number, or VSYNC's inactive edge. -/
def execFrameEnd (port : Fin 5) (vc : Fin 16) (number : BitVec 16) (s : State) : Out :=
  if !s.portLive port then .next s
  else match s.sensorAt port vc with
    | none => .next (s.ignoreUnmapped port)
    | some n =>
      match (s.cam n).reading with
      | none => .next s
      | some f =>
        .next (if port.val = 4 || f.csi = number.toNat then (s.closeFrame n f false).afterReadout n else s)

/-- NO_START (R208). -/
def execNoStart (n : Fin 10) (s : State) : Out :=
  match (s.cam n).expect with
  | none => .next s
  | some e =>
    if !s.sensorOn n || s.now < e + s.regN (K.sofTimeout n) then .next s
    else
      let x := (s.cam n).shiftCommits e
      let q := x.nextSeq
      let tag := tagOf x.tags q
      let fl := if tagUnsure x.unsure q then 2 ^ dfMissing + 2 ^ dfUncertain else 2 ^ dfMissing
      let s := s.setCam n { x with nextSeq := q + 1, period := q, expect := some (e + s.regN (K.framePeriod n)) }
      let s := s.showDescriptor n tag (descriptorBytes n 1 1 (s.pathOf n) q 0 tag fl e 0 0 0 0 0 0 0 s.now)
      .next ((s.bump (K.missingFrames n)).frameMissing n)

/-- OUTPUT_DEADLINE (R208): the oldest frame past its arrival + OutputDeadline. -/
def execOutputDeadline (n : Fin 10) (s : State) : Out :=
  match (s.cam n).frames.find? (fun f => decide (f.arrival + s.regN (K.outputDeadline n) ≤ s.now)) with
  | none => .next s
  | some f =>
    let reading := f.stage == .reading
    let s := s.loseFrame n f (if reading then 2 else 3)
    .next (if reading then s.afterReadout n else s)

/-- MEMORY_PASS_FRAME (R212): a pass whose frame is read ends, and the next queued frame begins. -/
def execMemoryPassFrame (s : State) : Out :=
  let s := s.passDone
  if s.vision.passFrom.isSome then .next s
  else match s.nextForPass with
    | none => .next s
    | some (n, f) =>
      let s := (s.putFrame n { f with stage := .passing }).freeVisionBuffer n
      .next { s with vision := { s.vision with passFrom := some (n, s.tick) } }

/-- Streams of a sensor take every RateDivider-th FRAME descriptor with its coding output (R224, R229). -/
def State.feedStreams (s : State) (n : Nat) (p : Picture) (centre : Nat) : State :=
  (List.range 4).foldl (fun s k =>
    if s.reg (K.streamEnable k) = 1 && s.regN (K.streamSensor k) = n then
      let x := s.stream k
      let c := x.taken + 1
      if c % s.regN (K.rateDivider k) = 0 then
        s.setStream k { x with
          taken := 0, due := x.due ++ [⟨centre, p.nv12 (s.regN (K.codingWidth k)) (s.regN (K.codingHeight k))⟩] }
      else s.setStream k { x with taken := c }
    else s) s

/-- The display output of a frame goes into the buffer that its camera's last one did not use. While the scan-out reads that
buffer no output is written, and the windows that show it count the skip (R507). -/
def State.displayOutput (s : State) (n : Nat) (p : Picture) (seq : Nat) : State :=
  if !s.flag (K.outputs n) 1 then s
  else
    let buf := match (s.cam n).display with
      | some (_, b, _) => 1 - b
      | none => 0
    let readers := (List.range 4).filter (fun w =>
      let x := s.panel.windows.get VideoWindow.init w
      x.shown && x.sensor == n && x.buffer == buf)
    if readers.isEmpty then
      let x := s.cam n
      s.setCam n { x with
        display := some (seq, buf, s.now)
        shown := x.shown.set [] buf (p.display (s.regN (K.displayWidth n)) (s.regN (K.displayHeight n))) }
    else readers.foldl (fun (s : State) w => s.bump (K.videoSkips w)) s

/-- A sensor's output is written whole: it is the newest, and those before it stay while a frame in projection pins them
(R214). -/
def State.newOutput (s : State) (n : Nat) (out : Planes) : State :=
  let x := s.cam n
  let before : List Planes := match x.newest with
    | some p => p :: x.older
    | none => x.older
  let s := s.setCam n { x with newest := some out }
  s.setCam n { s.cam n with older := before.filter (fun p => (s.pinnedBuffers n).contains p.seq) }

/-- The FRAME descriptor of a frame whose outputs are written (R163, R209, R210, R227, R228). -/
def State.issueFrame (s : State) (n : Nat) (f : VFrame) : State :=
  let trig := s.reg (K.sensorTimeSource n) = 1
  let noTs := f.ts.isNone && !trig
  let aligned := s.reg (K.alignState n) = alAligned
  let predicted := s.predictedInstant n
  let writes := isDepth n || s.flag (K.outputs n) 0
  let r : (Bool × Int) × State := if noTs then ((false, 0), s) else s.align n (f.ts.getD 0) f.arrival
  let s := r.2
  let centre := r.1.2.toNat
  let fl := s.frameFlags n f
  let fl := if noTs || r.1.1 then fl else setBit fl dfExcluded
  let tag := tagOf (s.cam n).tags f.seq
  let p := s.picture n f
  let out := if isDepth n then p.depth (s.regN (K.depthScale n)) f.seq centre else p.vision f.seq centre
  let s := s.showDescriptor n tag (descriptorBytes n 0 0 f.path f.seq f.csi tag fl f.arrival centre (f.ts.getD 0) f.endTime
    f.received f.short f.long f.blanked s.now)
  let s := if isDepth n then s else s.setBlob (K.statistics n) (p.statistics (f.seq % 2 ^ 32) tag centre)
  let s := s.setCam n ((s.cam n).dropFrame f.seq)
  let s := if writes then s.newOutput n out else s
  let s := if isDepth n then s else s.displayOutput n p f.seq
  let s := (s.bump (K.camFramesOut n)).feedStreams n p centre
  if noTs then s.frameMissing n else if r.1.1 then s.fuseFrame n f.seq r.1.2 writes
  else if aligned then s.referenceAt n predicted 4 else s

/-- FRAME_DESCRIPTOR_ISSUE (R209): the oldest frame whose last output is written. -/
def execFrameDescriptorIssue (n : Fin 10) (s : State) : Out :=
  let s := s.passDone
  match (s.cam n).frames.find? (fun f => f.stage == .ready) with
  | none => .next s
  | some f => .next (s.issueFrame n f)

/-! Ports, pulses, paths, settings, encoder -/

/-- APHY_LINK_DROP (R199, R232): the port retrains. -/
def execAphyLinkDrop (p : Fin 4) (s : State) : Out :=
  .next (if s.reg (K.camLinkState p) = lkUp then
    (((s.setReg (K.camLinkState p) lkDown).setReg (K.gear p) 0).bump (K.linkDrops p)).eventKey .vision p (K.camLinkState p)
  else s)

/-- APHY_LINK_UP (R199): `gears` is the highest gear of the other end. -/
def execAphyLinkUp (p : Fin 4) (gears : Fin 4) (s : State) : Out :=
  .next (if s.reg (K.camPortEnable p) = 1 && s.aphyPowered p && s.reg (K.camLinkState p) ≠ lkPocTripped && gears.val ≠ 0 then
    (s.setReg (K.camLinkState p) lkUp).setReg (K.gear p) (min (s.reg (K.maxGear p)) (gears.val : Nat))
  else s)

/-- POC_TRIP (R202): the measured current, 0 on a port without power (R24). -/
def execPocTrip (p : Fin 4) (current : Nat) (s : State) : Out :=
  let mA := if s.aphyPowered p then current else 0
  let s := s.setReg (K.pocCurrent p) (min mA 1000 : Nat)
  .next (if s.reg (K.pocEnable p) = 1 && 750 ≤ mA && s.reg (K.camLinkState p) ≠ lkPocTripped then
    ((s.setReg (K.camLinkState p) lkPocTripped).setReg (K.gear p) 0).eventKey .vision p (K.camLinkState p)
  else s)

/-- PCLK_ABSENT (R232): the frequency measured over 1 ms, and for how long it has read 0. -/
def execPclkAbsent (hz held : Nat) (s : State) : Out :=
  let s := s.setReg K.pclkFrequency (min hz 150000000 : Nat)
  if hz ≠ 0 then .next { s with vision := { s.vision with pclkAbsent := false } }
  else if s.reg K.port3Mode = 1 && ticksMs 10 ≤ held && !s.vision.pclkAbsent then
    .next (({ s with vision := { s.vision with pclkAbsent := true } } : State).eventKey .vision 0 K.pclkFrequency)
  else .next s

/-- FSYNC_PERIODIC_PULSE (R203). -/
def execFsyncPeriodicPulse (o : Fin 8) (s : State) : Out :=
  let per := s.reg (K.fsyncPeriod o)
  let last := (s.fsyncOut o).lastTick
  .next (if s.reg (K.fsyncSource o) = 1 && ((s.now : Int) - s.reg (K.fsyncPhase o)) % per = 0 && last ≠ some s.tick then
    (match last with
      | some t => if ((s.tick - t : Nat) : Int) * 20 < per then s.bump (K.fsyncSkipped o)
        else s.fsyncPulse o (s.regN (K.fsyncWidth o))
      | none => s.fsyncPulse o (s.regN (K.fsyncWidth o)))
  else s)

/-- INLINE_PATH_FAULT (R213). -/
def execInlinePathFault (s : State) : Out :=
  .next (if s.reg K.inlineState = 2 then s else (s.setReg K.inlineState 2).eventKey .vision 0 K.inlineState)

/-- Waiting sets that were accepted before `item` on a port, or one that is being sent there (R227). -/
def State.tunnelBusy (s : State) (n item : Nat) : Bool :=
  (List.range 10).any (fun m => m != n && s.reg (K.inputPort m) == s.reg (K.inputPort n) && (match (s.cam m).set with
    | some r => r.began.isSome || decide (r.item < item)
    | none => false))

/-- SETTINGS_SEND (R227): at a frame start of the sensor, with the tunnel of its port free. -/
def execSettingsSend (n : Fin 10) (s : State) : Out :=
  let x := s.cam n
  match x.set with
  | none => .next s
  | some r =>
    .next (if r.began.isNone && x.startTick = some s.tick && !s.tunnelBusy n r.item then
      ((s.startItem r.item).setCam n { x with
        set := some { r with began := some x.period }, bus := r.writes[0]?.map (s.i2cBytes n) }).setReg (K.setState n) 2
    else s)

/-- I2C_WRITE_ACK (R226, R227): the present write is acknowledged or not. -/
def execI2cWriteAck (n : Fin 10) (ack : Bool) (s : State) : Out :=
  let x := s.cam n
  match x.set with
  | none => .next s
  | some r =>
    if r.began.isNone then .next s
    else if ack then
      .next (if r.writes.length ≤ r.sent + 1 then s.commitSet n r
        else s.setCam n { x with
          set := some { r with sent := r.sent + 1, repeated := false }, bus := r.writes[r.sent + 1]?.map (s.i2cBytes n) })
    else .next (if r.repeated then s.failSet n r else s.setCam n { x with set := some { r with repeated := true } })

/-! RTP (R230): H.265 NAL units as RFC 7798 packs them (notes/assumptions/178.md) -/

/-- A NAL unit of a type. -/
def nalUnit (ty : Nat) (payload : Bytes) : Bytes := [BitVec.ofNat 8 (2 * ty), 1] ++ payload

/-- Fragmentation units of a NAL unit's payload, at most 1,400 bytes each. -/
def fuPayloads (ty : Nat) : Nat → Bool → Bytes → List Bytes
  | 0, _, _ => []
  | k + 1, first, b =>
    let last := decide (b.length ≤ 1397)
    ([98, 1, BitVec.ofNat 8 ((if first then 128 else 0) + (if last then 64 else 0) + ty)] ++ b.take 1397) ::
      (if last then [] else fuPayloads ty k false (b.drop 1397))

/-- The RTP payloads of a NAL unit: a single NAL unit packet, or fragmentation units. -/
def rtpPayloads (ty : Nat) (payload : Bytes) : List Bytes :=
  if payload.length + 2 ≤ 1400 then [nalUnit ty payload] else fuPayloads ty payload.length true payload

/-- An RTP packet (RFC 3550) of payload type 96; the marker is on the last packet of a picture. -/
def rtpPacket (seq stamp ssrc : Nat) (marker : Bool) (payload : Bytes) : Bytes :=
  [0x80, if marker then 224 else 96] ++ beBytes 2 (seq % 65536) ++ beBytes 4 stamp ++ beBytes 4 ssrc ++ payload

/-- The payloads of a picture: VPS, SPS and PPS before an IDR picture, then its one slice. What the encoder writes into them is
open. -/
def picturePayloads (fresh : Nat) (idr : Bool) : List Bytes :=
  if idr then
    rtpPayloads 32 (Config.freeBytes fresh) ++ rtpPayloads 33 (Config.freeBytes (fresh + 1)) ++
    rtpPayloads 34 (Config.freeBytes (fresh + 2)) ++ rtpPayloads 19 (Config.freeBytes (fresh + 3))
  else rtpPayloads 1 (Config.freeBytes (fresh + 3))

/-- What a picture of a stream signals (R229): Main profile, Main tier, a level up to 4.1, BT.709 in limited range. -/
def State.codedAs (s : State) (k : Nat) (idr : Bool) : CodedPicture :=
  ⟨1, false, (Config.openResult 229 [s.reg (K.codingWidth k), s.reg (K.codingHeight k)]).toNat % 124, 1, 1, false, idr⟩

/-- ENCODE_PICTURE (R229, R230): `busy` says that the encoder is still at work on the picture before. -/
def execEncodePicture (k : Fin 4) (busy : Bool) (s : State) : Out :=
  let x := s.stream k
  match x.due with
  | [] => .next s
  | c :: t =>
    if busy then .next ((s.setStream k { x with due := t }).bump (K.framesSkipped k))
    else
      let ssrc := 0x74000000 + k.val
      let stamp := c.centre * 9 / 100000 % 2 ^ 32
      let idr := x.pictures % s.regN (K.gopLength k) == 0
      let l := picturePayloads s.fresh idr
      let seq := (Config.openResult 230 [(k.val : Int)]).toNat + x.packets
      let pic : RtpPicture := ⟨ssrc, stamp, idr, s.codedAs k idr, s.regN (K.destAddress k), s.regN (K.destPort k),
        s.regN (K.destPort k), s.regN (K.streamVlan k),
        l.zipIdx.map (fun q => rtpPacket (seq + q.2) stamp ssrc (q.2 + 1 == l.length) q.1)⟩
      let s : State := { s with fresh := s.fresh + 4 }
      .next ((s.setStream k { x with
        due := t, pictures := x.pictures + 1, packets := x.packets + l.length, sent := some pic }).bump (K.framesEncoded k))

end Sys2Proof.Machine
end

