-- ==== Sys2Proof/Machine/CueOps.lean ====
section
/-!
DEFINITION. The cue sheet as shared operations: arming (R111-R114), crossing (R106, R107, R110), firing and the dispatch of
actions to their targets (R113-R117, R143, R156).
-/
namespace Sys2Proof.Machine

/-- An arming record (R112). `pos` and `interval` are in the form that the axis requires. -/
structure CueRec where
  slot : Nat
  axis : Nat
  dir : Nat
  kind : Nat
  flags : Nat
  target : Nat
  action : Nat
  repeats : Nat
  lead : Nat
  pos : Int
  interval : Int
  param : Nat
  tag : Nat
  deriving DecidableEq, Repr

/-- The fields of the 40 bytes of R112; a module-time position is unsigned (R30). -/
def cueRec (b : Bytes) : CueRec :=
  let axis := fieldU b 2 1
  let form (o : Nat) : Int := if axis = 16 then (fieldU b o 8 : Nat) else fieldI b o 8
  ⟨fieldU b 0 2, axis, fieldU b 3 1, fieldU b 4 1, fieldU b 5 1, fieldU b 6 2, fieldU b 8 2, fieldU b 10 2, fieldU b 12 4,
    form 16, form 24, fieldU b 32 4, fieldU b 36 4⟩

def CueRec.addLead (c : CueRec) : Bool := c.flags.testBit 0
def CueRec.repeating (c : CueRec) : Bool := c.flags.testBit 1

/-- Target, Action and Param of a target kind (R113, R204, R250, R430). -/
def State.cueTargetOk (s : State) (c : CueRec) : Bool :=
  match c.kind with
  | 1 => decide (c.target < 32) && ((c.action == 1 && decide (c.param < 64)) || c.action == 2)
  | 2 => decide (c.target < 48) && (c.action == 1 || c.action == 2 || (c.action == 3 && decide (c.param ≤ 1000)))
  | 3 => decide (c.target < 128) && c.action == 1 && decide (1 ≤ c.param) && decide (c.param ≤ 8)
  | 4 => c.action == 1 && s.canSlotValid c.target
  | 5 => decide (c.target < 8) && c.action == 1 && decide (1 ≤ c.param) && decide (c.param ≤ 10000)
  | 6 => c.target == 0 && c.action == 1
  | _ => false

/-- The least RepeatInterval of an axis (R112). -/
def State.leastInterval (s : State) (axis : Nat) : Int :=
  if axis = 16 then 10000 else if s.axisAngular axis then 2 ^ 20 else 1000

/-- The record keeps the layout of R112; a module-time position is a TIME64 value (R30). -/
def State.cueForm (s : State) (c : CueRec) : Bool :=
  decide (c.axis ≤ 16) && (c.dir == 1 || c.dir == 2) && decide (c.flags < 4) && s.cueTargetOk c &&
  (if c.repeating then decide (2 ≤ c.repeats) && decide (s.leastInterval c.axis ≤ c.interval)
    else c.repeats == 0 && c.interval == 0) &&
  c.lead % 10 == 0 && decide (c.lead ≤ 500000000) && (c.axis != 16 || (c.pos % 10 == 0 && c.interval % 10 == 0))

/-- The lead of a target (R111). -/
def State.targetLead (s : State) (kind target : Nat) : Nat :=
  match kind with
  | 1 => s.regN (K.solenoidLead target)
  | 2 => s.regN (K.loadLead target)
  | 4 => s.regN (K.canLead (target / 4096))
  | 5 => s.regN (K.frameSyncLead target)
  | _ => 0

/-- The effective lead of an arming (R111). -/
def State.effLead (s : State) (c : CueRec) : Nat := c.lead + (if c.addLead then s.targetLead c.kind c.target else 0)

/-- A SOLENOID or LOAD target must be owned by the cue sheet (R19, R114). -/
def State.cueOwnerBad (s : State) (c : CueRec) : Bool :=
  (c.kind == 1 && decide (c.target < 32) && s.reg (K.svOwner c.target) != 1) ||
  (c.kind == 2 && decide (c.target < 48) && s.reg (K.lsOwner c.target) != 1)

/-- The target is disabled, or its disable waits for its safe point (R92). -/
def State.cueTargetOff (s : State) (kind target : Nat) : Bool :=
  match kind with
  | 1 => s.reg (K.svEnable target) != 1 || s.isDisabling (aimSv target)
  | 2 => s.reg (K.lsEnable target) != 1 || s.isDisabling (aimLs target)
  | 3 => s.reg (K.ctxEnable target) != 1 || s.isDisabling (aimCtx target)
  | _ => false

/-- The target channel has failed with no understudy left (R114, R115). -/
def State.cueTargetFailed (s : State) (kind target : Nat) : Bool :=
  match kind with
  | 1 => s.reg (K.svState target) == svFault || s.svHasFault target
  | 2 => s.lsFailed target
  | 4 => s.reg (K.portState (target / 4096)) == cpFailed
  | _ => false

/-- The function checks of an arming, in the order of R114. -/
def State.armCheck (s : State) (c : CueRec) : Option Abort :=
  firstSome [
    need (c.kind != 5 || s.reg (K.fsyncSource c.target) == 2) .dependency,
    need (!s.cueTargetOff c.kind c.target) .functionDisabled,
    need (c.axis == 16 || s.axisState c.axis != axDisabled) .functionDisabled,
    need (c.axis == 16 || s.axisUsable c.axis) .stateDenied,
    need (!(c.axis == 16 && c.dir == 2)) .valueInvalid,
    need (decide (s.effLead c ≤ 500000000)) .dependency,
    need (!(s.cue c.slot).active) .busy,
    need (!s.cueTargetFailed c.kind c.target) .hardwareFault]

/-- The cue that an arming in this tick makes (R107, R112, R119). -/
def State.newCue (s : State) (c : CueRec) (origin jseq region : Nat) : Cue :=
  { axis := c.axis, dir := c.dir, kind := c.kind, flags := c.flags, target := c.target, action := c.action,
    repeats := c.repeats, lead := c.lead, pos := c.pos, interval := c.interval, param := c.param, tag := c.tag,
    armedPos := c.pos, state := .armed, origin := origin, fires := 0, effLead := s.effLead c, jseq := jseq,
    lastFire := 0, armTick := s.tick, evaluated := false, slotBytes := c.slot, region := region }

/-- Arms a slot in this tick. -/
def State.armCue (s : State) (c : CueRec) (origin jseq : Nat) (region : Nat := 0) : State :=
  (s.setCue c.slot (s.newCue c origin jseq region)).setReg K.armedSlots (s.reg K.armedSlots + 1)

/-! Crossing (R106, R107, R110) -/

/-- A number above 0 when the predicted position is past the cue's position in its direction, 0 at it, negative before
it. On module time, the values that this tick's advance reaches count as at it (R110, R446). -/
def State.cuePast (s : State) (c : Cue) : Int :=
  if c.axis = 16 then
    let d := (s.now + c.effLead : Nat) - c.pos
    if d < 0 then -1 else if d < (max 10 s.clock.lastAdv : Nat) then 0 else 1
  else
    let d := s.predicted c.axis c.effLead - c.pos * predictScale
    if c.dir = 2 then -d else d

/-- The cue is evaluated in this tick: ARMED, and written in an earlier one (R107). -/
def State.cueEvaluated (s : State) (c : Cue) : Bool := c.state == .armed && decide (c.armTick < s.tick)

/-- The cue fires in this tick (R107, R110): reached, and not passed at its first evaluation or by a step of module time. -/
def State.firesNow (s : State) (c : Cue) : Bool :=
  s.cueEvaluated c && decide (0 ≤ s.cuePast c) && !(decide (0 < s.cuePast c) && (!c.evaluated || c.axis == 16))

/-- A tick has found the cue not passed: the first evaluation is over (R107). -/
def State.markEvaluated (s : State) (k : Nat) : State :=
  let c := s.cue k
  if s.cueEvaluated c && !c.evaluated && decide (s.cuePast c ≤ 0) then s.setCue k { c with evaluated := true } else s

/-! Sections at their cue fires (R138, R143, R156) -/

/-- A section's configuration (R138). -/
structure SecCfg where
  impl : Nat
  path : Nat
  target : Nat
  x : Int
  y : Int
  width : Nat
  onLead : Nat
  offLead : Nat
  onParam : Nat
  flags : Nat
  deriving DecidableEq, Repr

def secCfgOf (b : Bytes) : SecCfg :=
  ⟨fieldU b 0 1, fieldU b 1 1, fieldU b 2 2, fieldI b 4 4, fieldI b 8 4, fieldU b 12 4, fieldU b 16 4, fieldU b 20 4,
    fieldU b 24 4, fieldU b 28 1⟩

def State.section (s : State) (n : Nat) : Section := s.sections.get Section.init n
def State.setSection (s : State) (n : Nat) (x : Section) : State := { s with sections := s.sections.set Section.init n x }
def State.secCfg (s : State) (n : Nat) : SecCfg := secCfgOf (s.blob (K.sectionConfig (n / 8) (n % 8)))

/-- Sections in use (R139). -/
def State.usedSections (s : State) : List Nat :=
  (List.range 1024).filter (fun n => (s.secCfg n).path != 0)

/-- Sections of an implement in use. -/
def State.sectionsOf (s : State) (i : Nat) : List Nat := s.usedSections.filter (fun n => (s.secCfg n).impl == i)

/-- The target kind of a section's cues (R113, R138). -/
def secKind (path : Nat) : Nat := match path with
  | 1 => 1
  | 2 => 2
  | _ => 4

/-- The actuation latency of a change (R143): its own lead with the target lead. -/
def State.sectionLead (s : State) (n : Nat) (on : Bool) : Nat :=
  let c := s.secCfg n
  let own := if on then c.onLead else c.offLead
  if c.path = 4 then own else own + s.targetLead (secKind c.path) c.target

/-- The commanded state of a section changes in this tick; its valve acts after its latency (R143). An imported section
applies what its implement reports (R157). A change that acts no later than one commanded before it takes that one's place. -/
def State.sectionSet (s : State) (n : Nat) (on : Bool) (why : Nat) : State :=
  let c := s.secCfg n
  let x := s.section n
  let t := s.tick + (s.sectionLead n on + 9) / 10
  let due := if c.path = 4 then x.due else x.due.filter (fun d => decide (d.1 < t)) ++ [(t, on)]
  let s := s.setSection n { x with on := on, reason := if on then 0 else why, due := due }
  if x.on = on then s
  else s.setReg (K.sectionsOn c.impl) (s.reg (K.sectionsOn c.impl) + (if on then 1 else -1))

/-- The section map of a CAN slot (R156). -/
def State.slotMap (s : State) (target : Nat) : Nat :=
  (s.usedSections.filter (fun n => (s.secCfg n).path == 3 && (s.secCfg n).target == target && (s.section n).on)).foldl
    (fun m n => Nat.lor m (2 ^ (s.secCfg n).onParam)) 0

/-! Dispatch (R113, R117) -/

/-- The target block takes an action (R113). -/
def State.takeAction (s : State) (a : Act) : State :=
  match a.kind with
  | 1 => if a.action = 1 then s.svStart a.target a.param none else s.svRelease a.target
  | 2 => s.lsSetDuty a.target (if a.action = 1 then 1000 else if a.action = 2 then 0 else a.param)
  | 3 => s.ctxEvent a.target a.param
  | 4 => s.canSlotSend a.target a.param a.time a.lead
  | 5 => s.fsyncPulse a.target a.param
  | _ => s.offerAt a.time a.tick .cueMark 6 0
      (leBytes 4 a.param ++ leBytes 1 a.axis ++ zeros 3 ++ encInt 8 a.value ++ leBytes 2 a.slot ++ zeros 2 ++ leBytes 4 a.tag)

/-- The number of a target in State.lastAct. -/
def actKey (a : Act) : Nat := a.kind * 65536 + a.target

/-- A target takes an action in this tick. -/
def State.deliverAct (s : State) (a : Act) : State :=
  ({ s with lastAct := s.lastAct.set 0 (actKey a) (s.tick + 1) }).takeAction a

/-- An action comes before another at their target: by fire tick, then by slot (R117). -/
def actBefore (a b : Act) : Bool := decide (a.tick < b.tick) || (a.tick == b.tick && decide (a.slot ≤ b.slot))

/-- The target takes another action before this one (R117): in this tick already, one that waits, or the cue of a lower slot
that fires in this tick. -/
def State.targetTaken (s : State) (a : Act) : Bool :=
  s.lastAct.get 0 (actKey a) == s.tick + 1 ||
  s.deferred.any (fun b => actKey b == actKey a && actBefore b a) ||
  s.activeSlots.any (fun j => decide (j < a.slot) && (s.cue j).kind == a.kind && (s.cue j).target == a.target &&
    s.firesNow (s.cue j))

/-- An action goes to its target, or waits for a later tick in ascending slot order and is counted (R117). -/
def State.dispatch (s : State) (a : Act) : State :=
  if s.targetTaken a then ({ s with deferred := insertBy actBefore a s.deferred }).bump K.sameTickDeferrals
  else s.deliverAct a

/-- The deferred actions that their targets take in this tick: the first of each target (R117). -/
def dueActs : List Nat → List Act → List Act × List Act
  | _, [] => ([], [])
  | seen, a :: t =>
    let r := dueActs (actKey a :: seen) t
    if seen.contains (actKey a) then (r.1, a :: r.2) else (a :: r.1, r.2)

def State.runDeferred (s : State) : State :=
  let r := dueActs [] s.deferred
  r.1.foldl State.deliverAct { s with deferred := r.2 }

/-- The action of a fire, with the axis value of the fire tick. -/
def State.cueAct (s : State) (k : Nat) (c : Cue) (param : Nat) : Act :=
  ⟨c.kind, c.target, c.action, param, s.tick, s.now, c.axis, if c.axis = 16 then (s.now : Nat) else s.axisValue c.axis, k,
    c.tag, c.effLead⟩

/-- Whether a section cue switches on: START, ON, or a slot message whose Param names the new state. -/
def Cue.switchesOn (c : Cue) : Bool := if c.kind = 4 then c.param == 1 else c.action == 1

/-- A section's cue fires: its commanded state changes, and a CAN slot takes the map as it then is (R143, R156). The Param
of the action follows. -/
def State.sectionFire (s : State) (c : Cue) : Nat × State :=
  let s := s.sectionSet c.tag c.switchesOn (s.section c.tag).why
  if c.kind = 4 then
    let waiting := match s.slotOf (c.target / 4096) (c.target % 1024) with
      | some e => (s.txBuf (c.target / 4096) e.buffer).waiting
      | none => false
    (s.slotMap c.target, if waiting then s.bump (K.canCoalesced (s.secCfg c.tag).impl) else s)
  else (c.param, s)

/-- A section whose cue finds its target failed is off with reason TARGET_FAILED (R160). -/
def State.sectionTargetFailed (s : State) (c : Cue) : State :=
  if c.origin = 1 then s.sectionSet c.tag false 11 else s

/-- A cue fires (R115, R116, R119): its action goes to the target, or it ends FAILED at a failed target. A REPEAT cue moves
by its interval as a new arming until its last fire. -/
def State.fireCue (s : State) (k : Nat) : State :=
  let c := s.cue k
  if s.cueTargetFailed c.kind c.target then (s.sectionTargetFailed c).endCue k .failed Abort.hardwareFault.code
  else
    let r := if c.origin = 1 then s.sectionFire c else (c.param, s)
    let s := (r.2.bump K.cuesFired).dispatch (s.cueAct k c r.1)
    let fires := min 65535 (c.fires + 1)
    let last := !c.flags.testBit 1 || decide (c.repeats ≤ c.fires + 1)
    let step := if c.dir = 2 then -c.interval else c.interval
    let s := s.setCue k { c with
      fires := fires, lastFire := s.now, pos := if last then c.pos else c.pos + step,
      armTick := s.tick, evaluated := false }
    if last then s.endCue k .done else s

/-- One evaluation of an armed cue (R107, R110): it fires, ends MISSED where its first evaluation finds it passed or a step
of module time has passed it, or stays armed. -/
def State.evalCue (s : State) (k : Nat) : State :=
  let c := s.cue k
  if !s.cueEvaluated c then s
  else
    let past := s.cuePast c
    if past < 0 then s
    else if 0 < past && (!c.evaluated || c.axis = 16) then s.endCue k .missed
    else s.fireCue k

/-- Module-time cues that a forward step of module time has passed end MISSED (R110). -/
def State.stepCues (s : State) : State :=
  s.activeSlots.foldl (fun s k =>
    let c := s.cue k
    if c.axis = 16 && decide (0 < s.cuePast c) then s.endCue k .missed else s) s

/-- The write rule of CueArm (R112-R114). -/
def cueArmRule : WriteRule where
  owner := fun s d => s.cueOwnerBad (cueRec d)
  check := fun s _ d =>
    let c := cueRec d
    if decide (c.slot + s.regN K.internalSlots < 4096) && s.cueForm c then s.armCheck c else some .valueInvalid
  aim := fun _ d => aimCue (cueRec d).slot
  effect := fun s _ seq d => (s.startItem seq).armCue (cueRec d) 0 seq

/-- The write rule of CueDisarm (R118). -/
def cueDisarmRule : WriteRule where
  check := fun s _ d => need (decide (wval d + s.regN K.internalSlots < 4096)) .valueHigh
  effect := fun s _ seq d => (s.endCue (wval d) .cancelled).finish seq .done

end Sys2Proof.Machine
end

