-- ==== Sys2Proof/Machine/SectionOps.lean ====
section
/-!
DEFINITION. Sections and coverage as shared operations: implement poses (R129-R135), the coverage grid (R141-R144), the
boundary mask (R146-R148), shares and decisions (R150, R151), predicted poses, and the switching of sections (R149-R157).
-/
namespace Sys2Proof.Machine

/-- A pose in the field frame: east and north in 2^-32 um, heading in 2^-32 turn (R129). -/
structure Pose where
  e : Int
  n : Int
  h : Int
  deriving DecidableEq, Repr

/-- A point of a frame, in mm, in the field frame (R129). -/
def Pose.point (p : Pose) (x y : Int) : Int × Int := toField p.e p.n p.h (x * fineMm) (y * fineMm)

/-- The pose of the machine reference point (R131): the estimator of the implement-0 axis. -/
def State.machinePose (s : State) : Pose :=
  match s.impl0Axis with
  | some a => ⟨(s.axis a).east, (s.axis a).north, (s.axis a).heading⟩
  | none => ⟨0, 0, 0⟩

/-- The pose of an implement from its parent's (R133, R134); headings run clockwise, the hitch angle counterclockwise. -/
def State.childPose (s : State) (n : Nat) (gamma : Int) (p : Pose) : Pose :=
  if s.reg (K.implementKind n) = 0 then
    let q := p.point (s.reg (K.refX n)) (s.reg (K.refY n))
    ⟨q.1, q.2, p.h⟩
  else
    let q := p.point (s.reg (K.hitchX n)) (s.reg (K.hitchY n))
    let h := p.h - gamma
    let r := toField q.1 q.2 h (-(s.reg (K.drawbarLength n) * fineMm)) 0
    ⟨r.1, r.2, h⟩

/-- The pose of implement `n` with the machine at `m` and hitch angles `g`; `fuel` bounds the chain of parents. -/
def State.implPose (s : State) (m : Pose) (g : Nat → Int) : Nat → Nat → Pose
  | 0, _ => m
  | fuel + 1, n =>
    let p := s.regN (K.parent n)
    s.childPose n (g n) (if p < n then s.implPose m g fuel p else m)

/-- The present pose of an implement. -/
def State.poseOf (s : State) (n : Nat) : Pose := s.implPose s.machinePose (fun k => (s.impl k).gamma) 4 n

/-- Machine speed in 2^-16 um/s: the implement-0 axis gives that of its implement (R136). -/
def State.machineSpeed (s : State) : Int :=
  match s.impl0Axis with
  | some a => s.machineOf (s.regN (K.implement a)) (s.axis a).vp
  | none => 0

/-- An angle in 2^-32 turn that a rate in urad/s covers in 100 us; 2 pi is taken as 6.283185307. -/
def turn100us (w : Int) : Int := (w * 2 ^ 32 * 1000).tdiv (6283185307 * 10000)

/-- Speed and yaw rate of an implement's parent: the machine's, or those of an implement (R134). -/
def State.parentRates (s : State) (v w : Int) (g : Nat → Int) (n : Nat) : Int × Int :=
  let p := s.regN (K.parent n)
  if p < n then s.implRates v w g 4 p else (v, w)

/-- The present pose of an implement's parent. -/
def State.parentPose (s : State) (n : Nat) : Pose :=
  let p := s.regN (K.parent n)
  if p < n then s.poseOf p else s.machinePose

/-! Tiles of the coverage grid (R142, R145) -/

/-- Tiles that the region holds (R142). -/
def State.tileCapacity (s : State) : Nat := 32736 / s.regN K.coverageLayers

/-- The number of present tiles, and the lowest free slot. -/
def State.presentTiles (s : State) : List CovTile := (s.cov.tiles.cells.map Prod.snd).filter CovTile.present

def State.freeTileSlot (s : State) : Nat :=
  let used := s.presentTiles.map CovTile.slot
  ((List.range (used.length + 1)).find? (fun k => !used.contains k)).getD used.length

/-- Marks a cell (R142, R145): a tile is allocated at its first mark; without a free one the mark is dropped (R160). -/
def State.markCell (s : State) (layer : Nat) (i j : Int) : State :=
  match tileKey (i / 256) (j / 256) with
  | none => s
  | some k =>
    let t := s.tile k
    if !t.present && s.tileCapacity ≤ s.presentTiles.length then
      let s := { s with cov := { s.cov with fullLayers := Nat.lor s.cov.fullLayers (2 ^ layer) } }
      if s.flag K.coverageFlags 0 then s
      else (s.setFlag K.coverageFlags 0 true).eventKey .sections 0 K.coverageFlags
    else
      let b := cellBit (s.regN K.coverageLayers) layer i j
      let byte := t.bits.get 0 (b / 8)
      let t := { t with
        slot := if t.present then t.slot else s.freeTileSlot,
        firstMark := if t.dirty then t.firstMark else s.tick,
        bits := t.bits.set 0 (b / 8) (Nat.lor byte (2 ^ (b % 8))) }
      let s := s.setTile k { t with present := true, dirty := true }
      s.setReg K.tilesUsed (s.presentTiles.length : Nat)

/-- Marked cells of a layer. -/
def CovTile.marked (t : CovTile) (layers layer : Nat) : Nat :=
  (t.bits.cells.map (fun c =>
    ((List.range 8).filter (fun b => c.2.testBit b && (c.1 * 8 + b) % layers == layer)).length)).sum

/-- CoveredArea of a layer in m2 (R158). -/
def State.coveredArea (s : State) (layer : Nat) : Nat :=
  let n := (s.presentTiles.map (fun t => t.marked (s.regN K.coverageLayers) layer)).sum
  n * s.regN K.coveragePitch ^ 2 / 1000000

/-! The boundary mask (R146-R148) -/

/-- Rings of a mask value, `n` of them; none where the bytes run out (R147). -/
def readVerts : Nat → Bytes → List (Int × Int)
  | 0, _ => []
  | n + 1, b => (fieldI b 0 4, fieldI b 4 4) :: readVerts n (b.drop 8)

def readRings : Nat → Bytes → Option (List Ring × Bytes)
  | 0, b => some ([], b)
  | n + 1, b =>
    let count := fieldU b 4 4
    if b.length < 8 || fieldU b 0 1 < 1 || 3 < fieldU b 0 1 || !allZero (field b 1 3) || count < 3 || 65536 < count ||
        b.length < 8 + 8 * count then none
    else match readRings n (b.drop (8 + 8 * count)) with
      | some (l, rest) => some (⟨fieldU b 0 1, readVerts count (b.drop 8)⟩ :: l, rest)
      | none => none

/-- The rings of a BoundaryMaskLoad value that keeps R147. -/
def maskRingsOf (b : Bytes) : Option (List Ring) :=
  if fieldU b 0 2 ≠ 0x4D42 || fieldU b 2 1 ≠ 1 || fieldU b 3 1 ≠ 0 || fieldU b 4 4 < 1 || 4096 < fieldU b 4 4 ||
      fieldU b 8 4 < 3 || 262144 < fieldU b 8 4 || fieldU b 12 4 ≠ 0 || b.length < 20 ||
      fieldU b (b.length - 4) 4 ≠ crc32 (b.take (b.length - 4)) then none
  else match readRings (fieldU b 4 4) (field b 16 (b.length - 20)) with
    | some (l, []) => if (l.map (fun r => r.verts.length)).sum = fieldU b 8 4 then some l else none
    | _ => none

/-- An edge of a ring is crossed by the ray from (x, y) toward growing x (the even-odd rule of R148). -/
def crossesEdge (x y : Int) (a b : Int × Int) : Bool :=
  if decide (a.2 > y) == decide (b.2 > y) then false
  else
    let l := (x - a.1) * (b.2 - a.2)
    let r := (b.1 - a.1) * (y - a.2)
    if 0 < b.2 - a.2 then decide (l < r) else decide (r < l)

/-- Crossings of the edges of an open chain of vertices that ends at `last`. -/
def crossings (x y : Int) (last : Int × Int) : List (Int × Int) → Nat
  | [] => 0
  | [a] => b2n (crossesEdge x y a last)
  | a :: b :: t => b2n (crossesEdge x y a b) + crossings x y last (b :: t)

def inRing (x y : Int) (r : Ring) : Bool :=
  match r.verts with
  | [] => false
  | v :: t => crossings x y v (v :: t) % 2 == 1

/-- The class of a mask cell at pitch 2P (R146, R148): the last ring that its centre lies in. -/
def ringsClass (pitch : Nat) (l : List Ring) (i j : Int) : Nat :=
  let x := (2 * i + 1) * pitch
  let y := (2 * j + 1) * pitch
  l.foldl (fun c r => if inRing x y r then r.cls else c) 0

/-- Byte `b` of a mask tile: four cells of 2 bits, in the order of R142 (R146). -/
def maskByte (pitch : Nat) (l : List Ring) (tx ty : Int) (b : Nat) : Nat :=
  ((List.range 4).map (fun k =>
    ringsClass pitch l (256 * tx + ((4 * b + k) % 256 : Nat)) (256 * ty + ((4 * b + k) / 256 : Nat)) * 4 ^ k)).sum

/-- A mask tile: its bytes that are not 0 (R146). -/
def maskTile (pitch : Nat) (l : List Ring) (tx ty : Int) : Tab Nat :=
  ⟨(List.range 16384).filterMap (fun b =>
    let v := maskByte pitch l tx ty b
    if v = 0 then none else some (b, v))⟩

/-- Tiles that the 128 MiB of the mask hold (R146). -/
abbrev maskTiles : Nat := 8192

/-- The raster of a mask (R146, R148): the tiles of its rings that hold a cell other than OUTSIDE, in ascending key, as many as
fit (notes/assumptions/171.md). -/
def rasterOf (pitch : Nat) (l : List Ring) : Tab (Tab Nat) :=
  let v := l.flatMap (fun r => r.verts)
  let side : Int := 512 * pitch
  let low (c : List Int) : Int := c.foldl min (c.headD 0) / side
  let high (c : List Int) : Int := c.foldl max (c.headD 0) / side
  let x0 := low (v.map Prod.fst)
  let y0 := low (v.map Prod.snd)
  let nx := (high (v.map Prod.fst) - x0 + 1).toNat
  let ny := (high (v.map Prod.snd) - y0 + 1).toNat
  ⟨((List.range nx).flatMap (fun i => (List.range ny).filterMap (fun j =>
    match tileKey (x0 + (i : Nat)) (y0 + (j : Nat)) with
    | none => none
    | some k =>
      let t := maskTile pitch l (x0 + (i : Nat)) (y0 + (j : Nat))
      if t.cells.isEmpty then none else some (k, t)))).take maskTiles⟩

/-- The class of a cell in the raster: 2 bits at the bit index of R142 (R146). -/
def rasterClass (t : Tab (Tab Nat)) (i j : Int) : Nat :=
  match tileKey (i / 256) (j / 256) with
  | none => 0
  | some k =>
    let c := (j % 256).toNat * 256 + (i % 256).toNat
    (t.get ⟨[]⟩ k).get 0 (c / 4) / 4 ^ (c % 4) % 4

/-- The mask class at a point; every cell reads WORK while no mask is loaded (R148). -/
def State.maskClass (s : State) (e n : Int) : Nat :=
  match s.cov.mask with
  | none => 1
  | some t =>
    let p := s.regN K.coveragePitch
    rasterClass t (cellNumber (2 * p) e) (cellNumber (2 * p) n)

/-- Puts a mask into force, or removes it (R148, R158). -/
def State.putMask (s : State) (value : Option Bytes) : State :=
  match value with
  | some b =>
    let l := (maskRingsOf b).getD []
    let s := { s with cov := { s.cov with mask := some (rasterOf (s.regN K.coveragePitch) l) } }
    ((s.setReg K.maskRings (l.length : Nat)).setReg K.maskCrc (fieldU b (b.length - 4) 4 : Nat)).setFlag K.coverageFlags 1 true
  | none =>
    let s := { s with cov := { s.cov with mask := none } }
    ((s.setReg K.maskRings 0).setReg K.maskCrc 0).setFlag K.coverageFlags 1 false

/-! Shares and decisions (R150, R151) -/

/-- Points of a footprint (R150): at least two, P / 2 apart or less. -/
def sharePoints (pitch width : Nat) : Nat := max 2 ((2 * width + pitch - 1) / pitch)

/-- The sample points of a section's footprint with its implement at pose `p`. -/
def State.footprint (s : State) (c : SecCfg) (p : Pose) : List (Int × Int) :=
  let n := sharePoints (s.regN K.coveragePitch) c.width
  let w := (c.width : Int) * fineMm
  (List.range n).map (fun k => toField p.e p.n p.h (c.x * fineMm) (c.y * fineMm - w / 2 + w * k / ((n : Int) - 1)))

/-- The counts of covered, outside and headland points, and the number of points (R150). -/
def State.shares (s : State) (c : SecCfg) (p : Pose) : Nat × Nat × Nat × Nat :=
  let pts := s.footprint c p
  let pitch := s.regN K.coveragePitch
  let cov := pts.filter (fun q => s.covered (s.regN (K.coverageLayer c.impl)) (cellNumber pitch q.1) (cellNumber pitch q.2))
  let cls := pts.map (fun q => s.maskClass q.1 q.2)
  (cov.length, (cls.filter (fun k => k == 0 || k == 3)).length, (cls.filter (· == 2)).length, pts.length)

/-- The desired state of a section at a pose, and the reason where it is off (R151). -/
def State.decideAt (s : State) (c : SecCfg) (p : Pose) (st : Bool) : Bool × Nat :=
  let x := s.shares c p
  let boundary := s.regN (K.boundaryOffShare c.impl) * x.2.2.2
  if boundary ≤ 100 * x.2.1 then (false, 4)
  else if !c.flags.testBit 1 && s.reg (K.headlandMode c.impl) == 1 && decide (boundary ≤ 100 * x.2.2.1) then (false, 5)
  else if c.flags.testBit 0 then (true, 0)
  else if st then
    (if s.regN (K.overlapOffShare c.impl) * x.2.2.2 ≤ 100 * x.1 then (false, 3) else (true, 0))
  else if 100 * x.1 < s.regN (K.overlapOnShare c.impl) * x.2.2.2 then (true, 0) else (false, 3)

/-- The shares of the last scan, in % (R158). -/
def State.showShares (s : State) (n : Nat) (c : SecCfg) (p : Pose) : State :=
  let x := s.shares c p
  s.setSection n { s.section n with c := 100 * x.1 / x.2.2.2, o := 100 * x.2.1 / x.2.2.2 }

/-! Predicted poses (R152) -/

/-- A point of the prediction: the pose of the implement's parent, the hitch angle, and the travel of the implement's reference
point in 2^-32 um. -/
structure Ahead where
  p : Pose
  g : Int
  travel : Int
  deriving DecidableEq, Repr

/-- One step of 100 us with the parent's speed and yaw rate held (R134, R152). -/
def State.aheadStep (s : State) (v w : Int) (n : Nat) (a : Ahead) : Ahead :=
  let d := (v * 65536).tdiv 10000
  let q := toField a.p.e a.p.n a.p.h d 0
  let r := s.childRates n a.g v w
  ⟨⟨q.1, q.2, a.p.h - turn100us w⟩,
    (if s.reg (K.implementKind n) = 0 then a.g else a.g + turn100us (r.2 - w)),
    a.travel + (r.1 * 65536).tdiv 10000⟩

/-- Steps until the travel reaches `d`; `fuel` bounds them. -/
def State.aheadTo (s : State) (v w : Int) (n : Nat) (d : Int) : Nat → Ahead → Ahead
  | 0, a => a
  | fuel + 1, a => if d ≤ a.travel then a else s.aheadTo v w n d fuel (s.aheadStep v w n a)

/-- The first point j with a wanted change (R152): its number, the wanted state and its reason. -/
def State.findChange (s : State) (c : SecCfg) (st : Bool) (v w step : Int) : Nat → Nat → Ahead → Option (Nat × Bool × Nat)
  | 0, _, _ => none
  | fuel + 1, j, a =>
    let a := s.aheadTo v w c.impl (step * j) 1000000 a
    let r := s.decideAt c (s.childPose c.impl a.g a.p) st
    if r.1 ≠ st then some (j, r.1, r.2) else s.findChange c st v w step fuel (j + 1) a

/-! Task controller groups (R157) -/

/-- Fields of an imported section's Target. -/
def tcSection (target : Nat) : Nat := target % 256
def tcClientOf (target : Nat) : Nat := target / 256 % 4
def tcElement (target : Nat) : Nat := target / 1024

def State.client (s : State) (c : Nat) : TcClient := s.tc.get TcClient.init c
def State.setClient (s : State) (c : Nat) (x : TcClient) : State := { s with tc := s.tc.set TcClient.init c x }

/-- The condensed state of a group of 16 sections, 2 bits each: 1 on, 0 off, 3 for a section that is not there. -/
def State.condensed (s : State) (client elem group : Nat) : Nat :=
  ((List.range 16).map (fun k =>
    let n := (s.client client).sections.find? (fun n =>
      let t := (s.secCfg n).target
      tcElement t == elem && tcSection t == group * 16 + k)
    (match n with
      | some n => b2n (s.section n).on
      | none => 3) * 4 ^ k)).sum

/-- A changed section's group waits to be sent; only its latest state is kept (R157). -/
def State.tcChanged (s : State) (n : Nat) : State :=
  let t := (s.secCfg n).target
  let c := tcClientOf t
  let x := s.client c
  let g := tcSection t / 16
  if x.connected && !x.lost then
    s.setClient c { x with waiting := x.waiting.set 0 (tcElement t * 16 + g) (s.condensed c (tcElement t) g + 1) }
  else s

/-- The process-data frame that carries a group's setpoint (ISO 11783-10 value command; notes/assumptions/57.md). -/
def State.setpointFrame (s : State) (c key value : Nat) : CanFrame :=
  let x := s.client c
  let elem := x.elements.getD (key / 16) 0
  ⟨0x80000000 + 0x0CCB0000 + x.address * 256 + s.regN (K.address (s.regN K.tcPort)), 0,
    leBytes 1 (3 + elem % 16 * 16) ++ leBytes 1 (elem / 16) ++ leBytes 2 (290 + key % 16) ++ leBytes 4 value⟩

/-- The groups that wait leave (R157), once the port has held its address for 250 ms (R432). -/
def State.tcFlush (s : State) : State :=
  if s.reg (K.addressState (s.regN K.tcPort)) ≠ 2 then s
  else (List.range 4).foldl (fun (s : State) (c : Nat) =>
    let x := s.client c
    let s := x.waiting.cells.foldl (fun s g => s.canService (s.regN K.tcPort) (s.setpointFrame c g.1 (g.2 - 1))) s
    let y := s.client c
    s.setClient c { y with waiting := ⟨[]⟩, sent := x.waiting.cells.foldl (fun t g => t.set 0 g.1 g.2) y.sent }) s

/-! Switching (R149-R154) -/

/-- The section's change cue, while it is armed or held. -/
def State.armedChange (s : State) (n : Nat) : Option Nat :=
  match (s.section n).cue with
  | some k => if (s.cue k).active && (s.cue k).origin == 1 && (s.cue k).tag == n then some k else none
  | none => none

/-- Disarms a section's change cue and forgets an imported section's crossing. -/
def State.disarmSection (s : State) (n : Nat) : State :=
  let s := match s.armedChange n with
    | some k => s.endCue k .cancelled
    | none => s
  s.setSection n { s.section n with cue := none, cuePos := 0, cross := none }

/-- The lowest free internal slot that no pricking claims (notes/assumptions/58.md). -/
def State.freeInternal (s : State) : Option Nat :=
  let i := s.regN K.internalSlots
  (List.range (i - s.cueClaims)).findSome? (fun k => if (s.cue (4096 - i + k)).active then none else some (4096 - i + k))

/-- The arming of a section's change (R139): target lead, own lead, action and Param. -/
def State.sectionCue (s : State) (n : Nat) (on : Bool) (slot axis : Nat) (pos : Int) : CueRec :=
  let c := s.secCfg n
  ⟨slot, axis, 1, secKind c.path, 1, c.target, if c.path = 3 then 1 else if on then 1 else 2, 0,
    if on then c.onLead else c.offLead, pos, 0, if c.path = 3 then b2n on else if c.path = 1 && on then c.onParam else 0, n⟩

/-- Arms a section's change cue at an axis position in um, or on module time; none without a free slot, or where the checks of
R114 refuse it. -/
def State.tryArm (s : State) (n : Nat) (on : Bool) (why axis : Nat) (pos : Int) : Option State :=
  match s.freeInternal with
  | none => none
  | some k =>
    let c := s.sectionCue n on k axis pos
    if (s.armCheck c).isSome then none
    else some ((s.armCue c 1 0).setSection n { s.section n with cue := some k, cuePos := if axis = 16 then 0 else pos, why := why })

/-- Arms a section's change cue in place of the one it has. -/
def State.armSection (s : State) (n : Nat) (on : Bool) (why axis : Nat) (pos : Int) : State :=
  let s := s.disarmSection n
  (s.tryArm n on why axis pos).getD s

/-- A section's change acts in this tick, without a slot (notes/assumptions/172.md). -/
def State.switchDirect (s : State) (n : Nat) (on : Bool) (why : Nat) : State :=
  let s := s.setSection n { s.section n with why := why }
  let x := s.newCue (s.sectionCue n on 4096 16 (s.now : Nat)) 1 0 0
  let r := s.sectionFire x
  r.2.dispatch (s.cueAct 4096 x r.1)

/-- A section switches now (R149, R152): by a module-time cue for the next tick, or in this tick where none can be armed; an
imported section changes at once. A target that is disabled or has failed takes no action: its section is off. -/
def State.switchNow (s : State) (n : Nat) (on : Bool) (why : Nat) : State :=
  let c := s.secCfg n
  let was := (s.section n).on
  let s := s.disarmSection n
  if was = on then s
  else if c.path = 4 then (s.sectionSet n on why).tcChanged n
  else if s.cueTargetOff (secKind c.path) c.target || s.cueTargetFailed (secKind c.path) c.target then
    (if on then s else s.sectionSet n false why)
  else (s.tryArm n on why 16 ((s.now + 10 + s.sectionLead n on : Nat))).getD (s.switchDirect n on why)

/-- Every section of an implement switches off. -/
def State.allOff (s : State) (i why : Nat) : State :=
  (s.sectionsOf i).foldl (fun s n => s.switchNow n false why) s

/-- The bit of a section in ManualSectionOn. -/
def State.manualBit (s : State) (n : Nat) : Bool :=
  ((s.blob K.manualSectionOn).getD (n / 8) 0).toNat.testBit (n % 8)

/-- An implement's sections are held off, with the reason: its axis was INVALID, or it has gone too far without a fix (R154). -/
def State.heldReason (s : State) (i : Nat) : Nat :=
  if s.flag (K.implementFlags i) 3 then 9 else if s.flag (K.implementFlags i) 2 then 10 else 0

/-- Applies mode OFF or MANUAL to an implement's sections (R149); held ones stay off (R154). -/
def State.applyMode (s : State) (i : Nat) : State :=
  let m := s.reg (K.sectionMode i)
  let held := s.heldReason i
  if m = 2 then s
  else (s.sectionsOf i).foldl (fun s n =>
    if m = 1 && s.manualBit n then (if held = 0 then s.switchNow n true 0 else s.switchNow n false held)
    else s.switchNow n false (if m = 1 then 2 else 1)) s

/-- A section is in a tight turn (R140). -/
def State.tightTurn (s : State) (c : SecCfg) : Bool :=
  let r := s.implRates s.machineSpeed s.yawRate (fun k => (s.impl k).gamma) 4 c.impl
  decide (20 * (r.1 - (r.2 * c.y * 65536).tdiv 1000) ≤ r.1)

/-- TIGHT_TURN of an implement (R159). -/
def State.showTight (s : State) (i : Nat) : State :=
  s.setFlag (K.implementFlags i) 1 ((s.sectionsOf i).any (fun n => s.tightTurn (s.secCfg n)))

/-- REVERSE and STANDSTILL of an implement's axis (R153). -/
def State.sectionMotion (s : State) (i : Nat) : State :=
  let a := s.regN (K.sectionAxis i)
  let rev := s.flag (K.axisFlags a) 1
  let s := s.setFlag (K.implementFlags i) 4 rev
  if s.reg (K.sectionMode i) ≠ 2 then s
  else if rev then s.allOff i 7
  else if s.flag (K.axisFlags a) 0 && s.reg (K.standstillOff i) == 1 then s.allOff i 8
  else s

/-- Holds of an implement end once its axis is VALID (R154, R160); MANUAL then commands its sections again (R149). -/
def State.clearHolds (s : State) (i : Nat) : State :=
  if s.axisState (s.regN (K.sectionAxis i)) ≠ axValid then s
  else
    let held := s.heldReason i != 0
    let s := (s.setFlag (K.implementFlags i) 3 false).setFlag (K.implementFlags i) 2 false
    let s := s.setImpl i { s.impl i with awaitValid := false }
    if held then s.applyMode i else s

/-- The scan may run (R152-R154, R157). -/
def State.scanRuns (s : State) (i : Nat) : Bool :=
  let a := s.regN (K.sectionAxis i)
  s.reg (K.implementEnable i) == 1 && s.reg (K.sectionMode i) == 2 && s.axisUsable a && !(s.impl i).awaitValid &&
  !s.flag (K.axisFlags a) 0 && !s.flag (K.axisFlags a) 1 && !s.flag (K.implementFlags i) 2 &&
  !s.flag (K.implementFlags i) 3 && !s.flag (K.implementFlags i) 5

/-- The target of a section has failed (R160). -/
def State.sectionFailed (s : State) (c : SecCfg) : Bool := c.path != 4 && s.cueTargetFailed (secKind c.path) c.target

/-- The look at one section every 10 ms: a failed target switches it off (R160), and in AUTO it is scanned (R152). -/
def State.scanSection (s : State) (n : Nat) : State :=
  let c := s.secCfg n
  let s := s.clearHolds c.impl
  if c.path = 0 then s
  else if s.sectionFailed c then (if (s.section n).on then s.sectionSet n false 11 else s)
  else if !s.scanRuns c.impl then s
  else
    let s := (s.showTight c.impl).showShares n c (s.poseOf c.impl)
    let st := (s.section n).on
    if s.tightTurn c then (if st then s.switchNow n false 6 else s.disarmSection n)
    else
      let a := s.regN (K.sectionAxis c.impl)
      let l := s.sectionLead n (!st)
      let v := (s.axis a).vp
      let h := max (s.reg K.scanHorizon * fineMm) (v * 65536 * (l + 20000000) / 10 ^ 9)
      let step := (s.reg K.coveragePitch * fineMm) / 2
      let count := ((h + step - 1) / step).toNat + 1
      let vw := s.parentRates s.machineSpeed s.yawRate s.gammas c.impl
      match s.findChange c st vw.1 vw.2 step count 0 ⟨s.parentPose c.impl, s.gammas c.impl, 0⟩ with
      | none => s.disarmSection n
      | some (j, want, why) =>
        let shift := if want then -(s.reg (K.onOverlapDistance c.impl)) else s.reg (K.offOverlapDistance c.impl)
        let q := s.axisFine a + step * j + shift * fineMm
        if j = 0 then s.switchNow n want why
        else if q * (2 * 10 ^ 18) ≤ s.predicted a l then (s.switchNow n want why).bump (K.lateSwitches c.impl)
        else if c.path = 4 then s.setSection n { s.section n with cross := some (q, want), why := why }
        else
          let um := q / 2 ^ 32
          let keep := match s.armedChange n with
            | some k => (s.cue k).axis == a &&
                decide (absI ((s.section n).cuePos - um) ≤ s.reg K.rearmTolerance * 1000)
            | none => false
          if keep then s else s.armSection n want why a um

/-- Crossings of imported sections on an axis, checked at its publish step (R157). -/
def State.tcCross (s : State) (a : Nat) : State :=
  s.usedSections.foldl (fun s n =>
    let c := s.secCfg n
    match (s.section n).cross with
    | some (q, want) =>
      if s.regN (K.sectionAxis c.impl) = a && s.axisUsable a &&
          decide (q * (2 * 10 ^ 18) ≤ s.predicted a (s.sectionLead n want)) then
        s.switchNow n want (s.section n).why
      else s
    | none => s) s

/-- The applying state of a section in this tick (R143). -/
def Section.applyingAt (x : Section) (t : Nat) : Bool :=
  match (x.due.filter (fun d => decide (d.1 ≤ t))).getLast? with
  | some d => d.2
  | none => x.applying

/-- Changes whose tick has come are taken over (R143). -/
def Section.settleDue (x : Section) (t : Nat) : Section :=
  { x with applying := x.applyingAt t, due := x.due.filter (fun d => decide (t < d.1)) }

end Sys2Proof.Machine
end

