-- ==== Sys2Proof/Machine/Estimator.lean ====
section
/-!
DEFINITION. The estimators of the position axes (R95-R103): the publish step of each axis kind, states and flags, and the
resume procedure.
-/
namespace Sys2Proof.Machine

/-- The two steps of a history (newest first) around a tick; none where the tick is older than the oldest entry (R96). -/
def stepsAround (t : Nat) : List HistStep → Option (HistStep × HistStep)
  | [] => none
  | [a] => if a.tick ≤ t then some (a, a) else none
  | b :: a :: l => if b.tick ≤ t then some (b, b) else if a.tick ≤ t then some (a, b) else stepsAround t (a :: l)

/-- A history at a tick, interpolated linearly (R95). -/
def histTick (t : Nat) (l : List HistStep) : Option HistStep :=
  match stepsAround t l with
  | none => none
  | some (a, b) =>
    let f (x y : Int) : Int := interp x y a.tick b.tick t
    some { a with
      tick := t, time := 0, v := f a.v b.v, vp := f a.vp b.vp, s := f a.s b.s, east := f a.east b.east,
      north := f a.north b.north, heading := a.heading + f 0 (wrap32 (b.heading - a.heading)) }

/-- One wheel sample on an estimator (R95, R96): the speed of the reference point is compared with the history's v. -/
def State.useWheel (s : State) (n : Nat) (l : List HistStep) (x : Axis × Nat) (w : WheelSample) : Axis × Nat :=
  match histTick w.tick l with
  | none => (x.1, x.2 + 1)
  | some h =>
    let e := s.axisSpeedAt n w.tick w.speed - h.v
    let a := x.1
    ({ a with
      v := a.v + (s.reg (K.wheelGain n) * e).tdiv 65536,
      b := if s.imuAbsent then a.b else a.b - (s.reg (K.biasGain n) * e).tdiv 65536 }, x.2)

/-- What the fixes of a step have done: the estimator, fixes discarded, fixes rejected by the gate. -/
structure FixResult where
  x : Axis
  discarded : Nat
  rejected : Nat
  accepted : Bool
  deriving DecidableEq, Repr

/-- The course correction of an accepted fix above 1.0 m/s (R95). -/
def State.courseStep (s : State) (n : Nat) (x : Axis) (g : Fix) : Axis :=
  if g.speed ≤ 1000000 then x
  else
    let d := wrap32 (g.course - x.heading)
    let moved := match x.lastCourse with
      | some t =>
        let f := s.reg (K.gnssGain n) * ((g.tick : Int) - t)
        if 65536 * 10 ^ 8 ≤ f then d else (d * f).tdiv (65536 * 10 ^ 8)
      | none => d
    { x with heading := x.heading + (if x.courseDue then d else moved), courseDue := false, lastCourse := some g.tick }

/-- One GNSS fix on an estimator (R95-R97). -/
def State.useFix (s : State) (n : Nat) (l : List HistStep) (r : FixResult) (g : Fix) : FixResult :=
  let x := r.x
  if (g.quality : Int) < s.reg (K.gnssMinQuality n) then r
  else match histTick g.tick l with
    | none => { r with discarded := r.discarded + 1 }
    | some h =>
      if !x.haveFix then
        let x := { x with
                          east := g.east * 2 ^ 32, north := g.north * 2 ^ 32, haveFix := true, lastFix := some s.tick,
                          courseDue := true, gateSince := none }
        { r with x := s.courseStep n x g, accepted := true }
      else
        let e := alongHeading (g.east * 2 ^ 32 - h.east) (g.north * 2 ^ 32 - h.north) h.heading
        if s.reg (K.gnssGate n) * fineMm < absI e then
          { r with x := { x with gateSince := some (x.gateSince.getD s.tick) }, rejected := r.rejected + 1 }
        else
          let lim := s.reg (K.gnssSlewLimit n) * 65536
          let x := { x with
                            vc := clampI (-lim) lim ((s.reg (K.gnssGain n) * e).tdiv (2 ^ 32)), lastFix := some s.tick,
                            gateSince := none }
          { r with x := s.courseStep n x g, accepted := true }

/-- The published velocity (R95, R97): a correction never turns it around, and never moves a stationary axis. -/
def publishedSpeed (v vc : Int) : Int :=
  let vp := v + vc
  if v = 0 then 0 else if (0 < v && vp < 0) || (v < 0 && 0 < vp) then 0 else vp

/-- A fix was accepted in the last `d` ticks; before any, the time counts from enabling. -/
def Axis.fixWithin (x : Axis) (t d : Nat) : Bool :=
  match x.lastFix with
  | some f => decide (t < f + d)
  | none => false

/-- VALID or DEGRADED of an axis that is followed (R101). -/
def State.followedState (s : State) (x : Axis) : Int :=
  if x.fixWithin s.tick (ticksS 2) && !s.imuAbsent then axValid else axDegraded

/-- Publish steps that the estimators' history holds, and those that are kept for the poses of samples (R95, R162). -/
abbrev estimatorSteps : Nat := 2048
abbrev keptSteps : Nat := 20000

/-- What an axis's history keeps of this publish step (R162, R179, R181, R188). -/
def State.histStep (s : State) (n : Nat) (x : Axis) : HistStep where
  tick := s.tick
  time := s.now
  v := x.v
  vp := x.vp
  s := x.s
  east := x.east
  north := x.north
  heading := x.heading
  rate := s.yawRate
  pitch := s.reg (K.imuChannel 6)
  roll := s.reg (K.imuChannel 7)
  flags := (if x.fixWithin s.tick (ticksS 2) then 4 else 0) + (if s.imuAbsent then 16 else 0) +
    (if s.flag (K.axisFlags n) 5 then 32 else 0)
  state := s.followedState x

/-- Adds a publish step to an axis's history of 2.0 s (R162). -/
def State.remember (s : State) (n : Nat) (x : Axis) : Axis := { x with hist := (s.histStep n x :: x.hist).take keptSteps }

/-- AxisFlags of an axis after its publish step (R126); WHEEL_ABSENT and STANDSTILL have steps of their own. -/
def State.showAxisFlags (s : State) (n : Nat) : State :=
  let x := s.axis n
  let lim := s.reg (K.gnssSlewLimit n) * 65536
  let k := K.axisFlags n
  let s := s.setFlag k 1 (decide (x.vp < 0))
  if s.axisAngular n then s
  else
    let s := (s.setFlag k 2 (x.fixWithin s.tick (ticksS 2))).setFlag k 4 s.imuAbsent
    if s.axisSource n = 1 then s.setFlag k 3 (decide (x.vc ≠ 0) && decide (lim ≤ absI x.vc)) else s

/-- The distance on an axis since the last accepted fix, or since the axis left INITIALISING, for its implements (R154,
R158). -/
def State.showTravel (s : State) (n : Nat) (accepted : Bool) : State :=
  (List.range 4).foldl (fun (s : State) (i : Nat) =>
    if s.reg (K.implementEnable i) = 1 && s.regN (K.sectionAxis i) = n then
      let pos := (s.axis n).s
      let s := if accepted then s.setImpl i { s.impl i with travelFrom := pos } else s
      s.setReg (K.degradedTravel i) (min (2 ^ 32 - 1) (absI (pos - (s.impl i).travelFrom) / fineMm))
    else s) s

/-- The publish step of a DEAD_RECKONING axis that follows its position (R95). -/
def State.stepDead (s : State) (n : Nat) : State :=
  let x := s.axis n
  let ds := (x.vp * 65536).tdiv 10000 + (x.a * 65536).tdiv (2 * 10 ^ 8)
  let q := toField x.east x.north x.heading ds 0
  let x := { x with
                    s := x.s + ds, v := x.v + x.a.tdiv 10000, east := q.1, north := q.2,
                    heading := x.heading - turn100us s.yawRate }
  let l := (s.histStep n x :: x.hist).take estimatorSteps
  let now := x.wheel.filter (fun w => decide (w.tick < s.tick))
  let w := now.foldl (s.useWheel n l) ({ x with wheel := x.wheel.filter (fun w => !decide (w.tick < s.tick)) }, 0)
  let r := w.1.fixes.foldl (s.useFix n l) ⟨{ w.1 with fixes := [] }, w.2, 0, false⟩
  let x := r.x
  let x := { x with a := if s.imuAbsent then 0 else s.imuLong n - x.b }
  let x := if s.flag (K.axisFlags n) 0 then { x with v := 0, a := 0, vc := 0 } else x
  let x := { x with vp := publishedSpeed x.v x.vc, pubTick := s.tick }
  let s := s.setAxis n (s.remember n x)
  let left := s.axisState n == axInitialising
  let s := (s.bumpBy (K.samplesDiscarded n) (r.discarded : Nat)).bumpBy (K.gnssRejected n) (r.rejected : Nat)
  ((s.setReg (K.axisState n) (s.followedState x)).showAxis n).showTravel n (r.accepted || left)

/-- The publish step of a SHAFT axis (R98): the angle of the last edge and what its rate adds, never beyond the next
tooth, never backward within one direction. -/
def State.stepShaft (s : State) (n : Nat) : State :=
  let x := s.axis n
  match x.edgeTick with
  | none => s.setAxis n { x with pubTick := s.tick }
  | some t =>
    let pitch := x.nextPitch * 2 ^ 32
    let run := (x.omega * ((s.tick : Int) - t) * 2 ^ 16).tdiv (10 ^ 8)
    let held := decide (pitch ≤ absI run) || s.flag (K.axisFlags n) 0
    let run := clampI (-pitch) pitch run
    let pos := x.edgeAngle * 2 ^ 32 + run
    let pos := if 0 < x.omega then max pos x.s else if x.omega < 0 then min pos x.s else pos
    let x := { x with s := pos, v := x.omega, vp := if held then 0 else x.omega, a := if held then 0 else x.a, pubTick := s.tick }
    ((s.setAxis n (s.remember n x)).setReg (K.axisState n) axValid).showAxis n

/-- The value of a FIELD axis and its derivatives from the estimator of the implement-0 axis (R99). -/
def State.fieldValue (s : State) (n : Nat) : Option (Int × Int × Int) :=
  match s.impl0Axis with
  | none => none
  | some d =>
    let x := s.axis d
    let phi := s.reg (K.fieldHeading n)
    let c := cosQ (x.heading - phi)
    if s.axisUsable d && x.haveFix then
      some (mulQ x.east (sinQ phi) + mulQ x.north (cosQ phi), mulQ x.vp c, mulQ x.a c)
    else none

/-- An axis becomes INVALID, and fusion shows that it waits for it (R101, R196). -/
def State.loseAxis (s : State) (n : Nat) : State := (s.axisLost n).showFusion

/-- The publish step of a FIELD axis (R99, R101): without its estimator's position it is lost; in standstill it holds its value
(R102). -/
def State.stepField (s : State) (n : Nat) : State :=
  match s.fieldValue n, s.impl0Axis with
  | some (p, v, a), some d =>
    let y := s.axis d
    let x := s.axis n
    let x := { x with
                      pubTick := s.tick, east := y.east, north := y.north,
                      heading := y.heading, haveFix := true, lastFix := y.lastFix }
    let x := if s.flag (K.axisFlags n) 0 then { x with v := 0, vp := 0, a := 0 } else { x with s := p, v := v, vp := v, a := a }
    ((s.setAxis n (s.remember n x)).setReg (K.axisState n) (s.followedState x)).showAxis n
  | _, _ => if s.axisUsable n then s.loseAxis n else s

/-- The first source data of an INITIALISING axis has come (R101). -/
def State.sourceData (s : State) (n : Nat) : Bool :=
  let x := s.axis n
  match s.axisSource n with
  | 1 => !x.wheel.isEmpty || !x.fixes.isEmpty || (!s.imuAbsent && !s.imu.last.isEmpty)
  | 2 => x.edgeTick.isSome && !x.awaitIndex
  | _ => (s.fieldValue n).isSome

/-- A lost axis may resume (R101, R103, R127): a DEAD_RECKONING axis at the next wheel sample where it lost them, else at a fix
of sufficient quality; a SHAFT axis with a healthy input; a FIELD axis with the estimator and a fix within 30 s. -/
def State.mayResume (s : State) (n : Nat) : Bool :=
  let x := s.axis n
  match s.axisSource n with
  | 1 => if x.lostWheel then !x.wheel.isEmpty
    else x.fixes.any (fun g => decide (s.reg (K.gnssMinQuality n) ≤ (g.quality : Int)))
  | 2 => !s.finFault (s.regN (K.shaftInput n))
  | _ => (s.fieldValue n).isSome && (match s.impl0Axis with
    | some d => (s.axis d).fixWithin s.tick (ticksS 30)
    | none => false)

/-- The publish step of one enabled axis. -/
def State.publishAxis (s : State) (n : Nat) : State :=
  let st := s.axisState n
  let s : State :=
    if st = axDisabled || (s.axis n).resume.isSome then s
    else if st = axInvalid then (if s.mayResume n then s.beginResume n (s.axisSnapshot n) else s)
    else if st = axInitialising && !s.sourceData n then s.setAxis n { s.axis n with pubTick := s.tick }
    else if s.axisSource n = 1 then s.stepDead n
    else if s.axisSource n = 2 then s.stepShaft n
    else s.stepField n
  if st = axDisabled then s else (s.showAxisFlags n).setReg (K.publishTime n) (s.now : Nat)

/-- A SHAFT axis becomes INVALID when its input reports a fault (R101). -/
def State.shaftFaults (s : State) (n : Nat) : State :=
  if s.axisIs n 2 && s.axisUsable n && s.finFault (s.regN (K.shaftInput n)) then
    (s.loseAxis n).eventKey .axesCues n (K.axisState n)
  else s

/-! Resume (R103) -/

/-- A discontinuity of an axis: counted, its delay lines cleared, its pending marks dropped, and the network state of
fusion cleared where the pose stands on it (R103, R124, R144, R184). -/
def State.discontinuity (s : State) (n : Nat) : State :=
  let s := ((s.bump (K.discontinuities n)).clearLinesOf n).dropMarks n
  if s.impl0Axis = some n && s.fusionOn then s.fuseClear else s

/-- The first waiting fix of sufficient quality. -/
def State.goodFix (s : State) (n : Nat) : Option Fix :=
  (s.axis n).fixes.find? (fun g => decide (s.reg (K.gnssMinQuality n) ≤ (g.quality : Int)))

/-- The estimator at a restart: at a position, with the field position and heading given. -/
def State.restartAxis (s : State) (n : Nat) (pos east north heading : Int) (haveFix : Bool) : State :=
  let x := s.axis n
  let lastFix := if haveFix then some s.tick else none
  let x := { x with
                    s := pos, v := 0, vp := 0, a := 0, vc := 0, pubTick := s.tick, east := east, north := north,
                    heading := heading, haveFix := haveFix, courseDue := !haveFix, lastFix := lastFix,
                    gateSince := none, lastWheel := some s.tick, lostWheel := false, resume := none, hist := [],
                    enabledAt := s.tick }
  ((s.setAxis n x).setReg (K.axisState n) (if haveFix && !s.imuAbsent then axValid else axDegraded)).showAxis n

/-- An axis that ends its resume procedure without continuity (R103). -/
def State.resumeBroken (s : State) (n : Nat) (held new : Int) : State :=
  (s.discontinuity n).resumeCues n false held new

/-- The end of the resume procedure of a DEAD_RECKONING axis with a fix, or without one after 10 s. -/
def State.resumeDead (s : State) (n : Nat) (r : Resume) (fix : Option Fix) : State :=
  let k := r.snap
  match fix with
  | some g =>
    let gap := alongHeading (g.east * 2 ^ 32 - k.east) (g.north * 2 ^ 32 - k.north) k.heading
    if s.snapUsable n k && decide (absI gap ≤ s.reg (K.resetBridgeLimit n) * fineMm) then
      let s := s.restartAxis n (k.s + gap) (g.east * 2 ^ 32) (g.north * 2 ^ 32) k.heading true
      let s := s.setAxis n { s.axis n with fixes := [] }
      (s.showTravel n true).resumeCues n true r.held (k.s + gap)
    else ((s.restartAxis n k.s 0 0 0 false).showTravel n true).resumeBroken n r.held k.s
  | none => ((s.restartAxis n k.s 0 0 0 false).showTravel n true).resumeBroken n r.held k.s

/-- The end of the resume procedure of a FIELD axis. -/
def State.resumeField (s : State) (n : Nat) (r : Resume) (value : Option (Int × Int × Int)) : State :=
  match value with
  | some (p, _, _) =>
    let ok := r.snap.valid && decide (absI (p - r.snap.s) ≤ s.reg (K.resetBridgeLimit n) * fineMm)
    let s := s.restartAxis n p 0 0 0 true
    if ok then s.resumeCues n true r.held p else s.resumeBroken n r.held p
  | none => (s.restartAxis n r.snap.s 0 0 0 false).resumeBroken n r.held r.snap.s

/-- A SHAFT axis restarts at turn 0 and the angle of the next index mark; it is never continuous. -/
def State.resumeShaft (s : State) (n : Nat) (r : Resume) : State :=
  let x := s.axis n
  let s := s.setAxis n { x with
                                s := 0, v := 0, vp := 0, a := 0, pubTick := s.tick, edgeTick := none, edgeAngle := 0,
                                omega := 0, nextPitch := 0, awaitIndex := true, resume := none, hist := [] }
  ((s.setReg (K.axisState n) axInitialising).showAxis n).resumeBroken n r.held 0

/-- One look at a resume procedure: it ends with a fix, at the end of its wait, or at once on a SHAFT axis. -/
def State.resumeLook (s : State) (n : Nat) : State :=
  match (s.axis n).resume with
  | none => s
  | some r =>
    let late := decide (r.due ≤ s.tick)
    match s.axisSource n with
    | 2 => s.resumeShaft n r
    | 1 => match s.goodFix n with
      | some g => s.resumeDead n r (some g)
      | none => if late then s.resumeDead n r none else s
    | _ => match s.fieldValue n with
      | some v => s.resumeField n r (some v)
      | none => if late then s.resumeField n r none else s

/-! Enabling -/

/-- An axis starts (R95, R101): INITIALISING at 0, its field position at the origin and heading north. -/
def State.axisStart (s : State) (n : Nat) : State :=
  let x : Axis := { Axis.init with pubTick := s.tick, enabledAt := s.tick, awaitIndex := s.axisAngular n }
  let s := (s.setAxis n x).setReg (K.axisState n) axInitialising
  (((s.setReg (K.axisFlags n) 0).showAxis n).setReg (K.publishTime n) (s.now : Nat))

/-- An axis is disabled at once (R92, R101): it holds no value, and everything aimed at it ends CANCELLED. -/
def State.axisStop (s : State) (n : Nat) : State :=
  let s := (s.setAxis n Axis.init).setReg (K.axisState n) axDisabled
  let s := ((s.setReg (K.axisFlags n) 0).setReg (K.positionLinear n) 0).setReg (K.positionAngular n) 0
  let s := (s.setReg (K.velocity n) 0).setReg (K.acceleration n) 0
  (s.endCues (s.cuesOnAxis n) .cancelled).cancelAimed (aimAxis n)

end Sys2Proof.Machine
end

