-- ==== Sys2Proof/Machine/Axes.lean ====
section
/-!
DEFINITION. The commands of 04_position_axes_and_cues.md: axes, cues and delay lines.
-/
namespace Sys2Proof.Machine

/-- The rule of AxisEnable (R94, R101, R131). -/
def axisEnableRule (n : Nat) : WriteRule where
  check := fun s _ d =>
    if wval d = 0 || s.reg (K.axisEnable n) = 1 then none
    else firstSome [need (s.axisSource n != 0) .dependency, need (s.axisSource n != 3 || s.axisIs (s.regN (K.sectionAxis 0)) 1) .dependency]
  effect := fun s _ seq d =>
    let was := s.reg (K.axisEnable n)
    let s := s.putEntry (0x2400 + n) 1 d
    let s := if wval d = 0 then (if was = 1 then s.axisStop n else s) else if was = 1 then s else s.axisStart n
    s.finish seq .done

/-- The rule of AxisSource (R122, R125): an axis that an enabled delay line runs on stays LINEAR. -/
def axisSourceRule (n : Nat) : WriteRule :=
  settingRule (0x2400 + n) 2 (fun s d => firstSome [need (s.reg (K.axisEnable n) != 1) .stateDenied,
    need (wval d == 1 || wval d == 3 || (s.linesOnAxis n).isEmpty) .dependency])

/-- The places that implements keep on an axis move with its value (R144, R154, R157). -/
def State.shiftImplements (s : State) (n : Nat) (d : Int) : State :=
  (List.range 4).foldl (fun (s : State) (i : Nat) =>
    if s.regN (K.sectionAxis i) ≠ n then s
    else
      let x := s.impl i
      let s := s.setImpl i { x with travelFrom := x.travelFrom + d, sweepPos := x.sweepPos + d }
      (s.sectionsOf i).foldl (fun s k => s.setSection k { s.section k with cross := none }) s) s

/-- The rule of AxisPreset (R125): a discontinuity in the tick of acceptance. The motion of the publish step goes on from the
new value (R100). -/
def axisPresetRule (n : Nat) : WriteRule where
  check := fun s _ _ => firstSome [need (s.reg (K.axisEnable n) == 1) .functionDisabled,
    need ((s.cuesOnAxis n).isEmpty && (s.linesOnAxis n).isEmpty) .stateDenied]
  aim := fun _ _ => aimAxis n
  effect := fun s _ seq d =>
    let x := s.axis n
    let move := leInt d * 2 ^ 32 - s.axisFine n
    let shift := leInt d - s.axisValue n
    let s := (s.setAxis n { x with s := x.s + move, edgeAngle := x.edgeAngle + shift }).shiftImplements n move
    ((s.showAxis n).discontinuity n).finish seq .done

/-- The rule of LineEnable (R122, R125): a delay line runs on a LINEAR axis. -/
def lineEnableRule (n : Nat) : WriteRule where
  check := fun s _ d =>
    let src := s.axisSource (s.regN (K.lineAxis n))
    need (wval d == 0 || s.reg (K.lineEnable n) == 1 || src == 1 || src == 3) .dependency
  effect := fun s _ seq d =>
    let was := s.reg (K.lineEnable n)
    let s := s.putEntry (0x2480 + n) 1 d
    let s := if wval d = 1 && was = 0 then s.clearLine n else if wval d = 0 && was = 1 then s.cancelAimed (aimLine n) else s
    s.finish seq .done

/-- The values of a DelayLineWrite: its key and lanes. -/
def lineKey (d : Bytes) : Int := fieldI d 0 8
def lineLanesOf (d : Bytes) : List Int := (List.range ((d.length - 8) / 4)).map (fun j => fieldI d (8 + 4 * j) 4)

/-- The rule of DelayLineWrite (R122, R125). -/
def lineWriteRule (n : Nat) : WriteRule where
  check := fun s _ d => firstSome [
    need (d.length == 8 + 4 * s.regN (K.lineLanes n)) .typeLength,
    need (s.reg (K.lineEnable n) == 1) .functionDisabled,
    need (s.reg (K.lineWriter n) == 3) .stateDenied,
    (match s.lineReject n (lineKey d) with
      | some .overflow => some .resourceExhausted
      | some _ => some .stateDenied
      | none => none)]
  aim := fun _ _ => aimLine n
  effect := fun s _ seq d => (s.lineAdd n (lineKey d) (lineLanesOf d)).finish seq .done

/-- The write rules of 0x2400-0x24AF (R125). -/
def rule04 (idx sub : Nat) : Option WriteRule :=
  if 0x2400 ≤ idx && idx < 0x2410 then
    let n := idx - 0x2400
    if sub = 1 then some (axisEnableRule n)
    else if sub = 2 then some (axisSourceRule n)
    else if sub = 0x0F then some (axisPresetRule n)
    else some (lockedRule idx sub (fun s => s.reg (K.axisEnable n) == 1))
  else if idx = 0x2420 then some cueArmRule
  else if idx = 0x2421 then some cueDisarmRule
  else if idx = 0x2422 && sub = 1 then some (lockedRule idx sub (fun s => !s.activeSlots.isEmpty))
  else if 0x2430 ≤ idx && idx ≤ 0x2433 then some (settingRule idx sub)
  else if 0x2480 ≤ idx && idx < 0x2490 then
    let n := idx - 0x2480
    if sub = 1 then some (lineEnableRule n) else some (lockedRule idx sub (fun s => s.reg (K.lineEnable n) == 1))
  else if 0x24A0 ≤ idx && idx < 0x24B0 then some (lineWriteRule (idx - 0x24A0))
  else none

/-- AXIS_PUBLISH_STEP (R95): in every tick whose count is a multiple of 10,000 (R445), each enabled axis publishes, the
estimators before the axes that take from them; then the delay lines (R123, R124), imported sections (R157) and the stop
evaluation (R192) take their step. -/
def execAxisPublishStep (s : State) : Out :=
  if s.tick % 10000 ≠ 0 then .next s
  else
    let axes := List.range 16
    let s := axes.foldl State.shaftFaults s
    let s := (axes.filter (fun n => s.axisSource n != 3)).foldl State.publishAxis s
    let s := (axes.filter (fun n => s.axisSource n == 3)).foldl State.publishAxis s
    let s := ((List.range 16).filter (fun l => s.reg (K.lineEnable l) == 1)).foldl State.lineStep s
    let s := (axes.foldl State.tcCross s).tcFlush
    let s := ((List.range 4).filter (fun i => s.reg (K.implementEnable i) == 1)).foldl State.sectionMotion s
    .next s.showFusion.stopEvaluate

/-- AXIS_ENABLE (R101). -/
def execAxisEnable (slot : Fin 16) (n : Fin 16) (value : BitVec 8) (s : State) : Out :=
  .next (s.request slot (0x2400 + n) 0x01 (leBytes 1 value.toNat) (axisEnableRule n))

/-- WHEEL_SAMPLE_TIMEOUT (R101, R126, R127): no wheel sample for 100 ms outside standstill. With motion shown by the IMU,
or without the IMU, the axis is INVALID. -/
def execWheelSampleTimeout (n : Fin 16) (s : State) : Out :=
  let x := s.axis n
  let from_ := x.lastWheel.getD x.enabledAt
  if !s.axisIs n 1 || s.flag (K.axisFlags n) 0 || s.tick < from_ + ticksMs 100 then .next s
  else
    let s := s.setFlag (K.axisFlags n) 5 true
    let moving := decide (s.reg (K.standstillSpeed n) * 65536 ≤ absI x.v)
    .next (if s.axisUsable n && (s.imuAbsent || moving) then
      ((s.setAxis n { x with lostWheel := true }).loseAxis n).eventKey .axesCues n (K.axisState n)
    else s)

/-- GNSS_ABSENT_TIMEOUT (R101, R127): no accepted fix for 2 s, and for 30 s on a FIELD axis. -/
def execGnssAbsentTimeout (n : Fin 16) (s : State) : Out :=
  let src := s.axisSource n
  if s.reg (K.axisEnable n) ≠ 1 || (src ≠ 1 && src ≠ 3) then .next s
  else
    let x := match s.impl0Axis with
      | some d => if src = 3 then s.axis d else s.axis n
      | none => s.axis n
    let from_ := x.lastFix.getD x.enabledAt
    if s.tick < from_ + ticksS 2 then .next s
    else
      let s := s.setFlag (K.axisFlags n) 2 false
      if src = 3 && from_ + ticksS 30 ≤ s.tick && s.axisUsable n then .next (s.loseAxis n)
      else .next (if s.axisState n = axValid then s.setReg (K.axisState n) axDegraded else s)

/-- GNSS_GATE_TIMEOUT (R101): fixes refused by the gate for 10 s without a break. -/
def execGnssGateTimeout (n : Fin 16) (s : State) : Out :=
  .next (if s.axisIs n 1 && s.axisUsable n && s.heldFor (s.axis n).gateSince (ticksS 10) then s.loseAxis n else s)

/-- STANDSTILL_ENTRY (R102): no wheel sample is missed in standstill (R126). -/
def execStandstillEntry (n : Fin 16) (s : State) : Out :=
  let x := s.axis n
  let still := if s.axisAngular n then
      (match x.edgeTick with
        | some t => decide (0 < x.lastInterval) && decide (t + 4 * x.lastInterval ≤ s.tick)
        | none => false)
    else decide (absI x.v < s.reg (K.standstillSpeed n) * 65536) &&
      decide (x.lastWheel.getD x.enabledAt + ticksMs (s.regN (K.standstillTime n)) ≤ s.tick)
  if s.reg (K.axisEnable n) ≠ 1 || !s.axisUsable n || !still then .next s
  else
    let pos := s.axisFine n
    let s := s.setAxis n { x with s := pos, pubTick := s.tick, v := 0, vp := 0, a := 0, vc := 0 }
    let s := ((s.setFlag (K.axisFlags n) 0 true).setFlag (K.axisFlags n) 5 false).showAxis n
    .next (((List.range 4).filter (fun i => s.reg (K.implementEnable i) == 1 && s.regN (K.sectionAxis i) == n.val)).foldl
      State.sectionMotion s)

/-- AXIS_RESUME (R103, R105, R196). -/
def execAxisResume (n : Fin 16) (s : State) : Out := .next (s.resumeLook n).showFusion

/-- AXIS_SNAPSHOT (R104): the snapshots of the enabled axes go to the journal header. -/
def execAxisSnapshot (s : State) : Out :=
  .next { s with jr := { s.jr with
    axisSnaps :=
    (List.range 16).foldl (fun (t : Tab AxisSnap) (n : Nat) =>
      if s.reg (K.axisEnable n) = 1 then t.set AxisSnap.init n (s.axisSnapshot n) else t) ⟨[]⟩ } }

/-- AXIS_PRESET (R125). -/
def execAxisPreset (slot : Fin 16) (n : Fin 16) (value : Bytes) (s : State) : Out :=
  .next (s.request slot (0x2400 + n) 0x0F value (axisPresetRule n))

/-- CUE_ARM (R112-R114). -/
def execCueArm (slot : Fin 16) (value : Bytes) (s : State) : Out :=
  .next (s.request slot 0x2420 0 value cueArmRule)

/-- CUE_DISARM (R118). -/
def execCueDisarm (slot : Fin 16) (cue : BitVec 16) (s : State) : Out :=
  .next (s.request slot 0x2421 0 (leBytes 2 cue.toNat) cueDisarmRule)

/-- CUE_FIRE (R107, R110, R115-R117): one evaluation of a slot's cue. -/
def execCueFire (k : Fin 4096) (s : State) : Out := .next (s.evalCue k)

/-- DELAY_LINE_WRITE (R122). -/
def execDelayLineWrite (slot : Fin 16) (n : Fin 16) (value : Bytes) (s : State) : Out :=
  .next (s.request slot (0x24A0 + n) 0 value (lineWriteRule n))

/-- LINE_ENABLE (R125). -/
def execLineEnable (slot : Fin 16) (n : Fin 16) (value : BitVec 8) (s : State) : Out :=
  .next (s.request slot (0x2480 + n) 0x01 (leBytes 1 value.toNat) (lineEnableRule n))

end Sys2Proof.Machine
end

