-- ==== Sys2Proof/Machine/Book.lean ====
section
/-!
DEFINITION. The prompt book's commands: committing pages and leaving a flood (R471-R474), clearing (R475, R476), the
operating time (R467).
-/
namespace Sys2Proof.Machine

/-- One staged record goes to the head of the running area, and to the first-night area (R472, R474). -/
def State.commitOne (s : State) : State :=
  match s.book.staged with
  | [] => s
  | r :: t =>
    let s := s.circulate
    let b := s.book
    { s with book := { b with
        staged := t, running := b.running ++ [(b.head, r)], head := b.head + 1,
        firstNight := if r.seq ≤ 516096 then b.firstNight ++ [r] else b.firstNight } }

/-- Held records take the free staging entries (R471). -/
def State.admitHeld (s : State) : State :=
  let n := 1024 - s.book.staged.length
  let now := s.book.waiting.take n
  let s := { s with book := { s.book with waiting := s.book.waiting.drop n } }
  now.foldl State.admitRec s

/-- The queue leaves FLOODED with at least 64 entries free (R471): one SUPPRESSED record for each source whose counter is
above 0. -/
def State.leaveFlood (s : State) : State :=
  if s.reg K.bookState = 1 && s.book.staged.length ≤ 960 then
    let s := s.setReg K.bookState 0
    (List.range 21).foldl (fun (s : State) (i : Nat) =>
      let c := s.book.supp.get Supp.init i
      if c.count = 0 then s
      else
        let s := { s with book := { s.book with supp := s.book.supp.set Supp.init i Supp.init } }
        (s.setReg (K.suppressedCount i) 0).admitRecord s.now s.tick (i + 1) 3 0
          (leBytes 4 c.count ++ zeros 4 ++ leBytes 8 c.first ++ leBytes 8 c.last)) s
  else s

/-- The block of the partition that holds a slot of the running area. -/
def bookBlock (slot : Nat) : Nat := 192 + slot / 4096 % 1856

/-- PAGE_COMMIT (R472, R474, R480): a page is written and read back. A page that fails is written again on the next one and
its block is retired. -/
def execPageCommit (ok : Bool) (s : State) : Out :=
  let room := 32 - s.book.head % 32
  let s := { s with book := { s.book with pageBusy := false } }
  if s.reg K.journalState = 2 || s.regN K.runningCapacity = 0 || s.book.staged.isEmpty then .next s
  else if ok then
    let s := (List.range (min room s.book.staged.length)).foldl (fun (s : State) (_ : Nat) => s.commitOne) s
    .next s.admitHeld.leaveFlood
  else
    let block := bookBlock s.book.head
    let s := s.circulate
    let s := { s with book := { s.book with head := s.book.head + room } }
    let s := (s.bumpBy K.recordsSkipped (room : Nat)).eventKey .stageManager 0 K.recordsSkipped
    .next (s.requestRepair ⟨actBlockRetire, domEmmc, block, .repair, 0, s.tick, 1, s.tick⟩)

/-! Clearing -/

def State.nonceOf (s : State) (slot : Nat) : Option Nonce := s.nonces.get none slot
def State.dropNonce (s : State) (slot : Nat) : State := { s with nonces := s.nonces.set none slot none }

/-- The valid nonce of a session (R475). -/
def State.validNonce (s : State) (slot : Nat) : Option Nat :=
  match s.nonceOf slot with
  | some x => if s.tick < x.expires then some x.value else none
  | none => none

/-- The rule of RecordClearArm (R475). -/
def recordClearArmRule : WriteRule where
  effect := fun s slot seq _ =>
    let d := s.draw
    let s := { d.2 with nonces := d.2.nonces.set none slot (some ⟨d.1 % 2 ^ 32, s.tick + ticksS 30⟩) }
    s.finish seq .done

/-- RECORD_CLEAR_ARM (R475). -/
def execRecordClearArm (slot : Fin 16) (value : BitVec 8) (s : State) : Out :=
  .next (s.request slot 0x2220 0 (leBytes 1 value.toNat) recordClearArmRule)

/-- The rule of RecordClear (R475, R476): the clearing itself comes with the admission of the CLEARED record. A refusal consumes the
nonce, AUTH_FAILED counts toward the lockouts, and a write that passes its AUTH_FAILED check is a success (R567). -/
def recordClearRule : WriteRule where
  long := some 2
  check := fun s slot d =>
    let upTo := fieldU d 0 8
    firstSome [
      need (!s.lockedOut (s.sess slot).sourceId) .authLockout,
      need (s.validNonce slot == some (fieldU d 8 4)) .authFailed,
      need (decide (s.book.oldest ≤ upTo) && decide (upTo < s.regN K.nextRecordSeq)) .dependency,
      need (decide (s.book.clearingLog.length < 8192)) .resourceExhausted]
  effect := fun s slot seq d =>
    let upTo := fieldU d 0 8
    let s := ((s.dropNonce slot).authSuccess (s.sess slot).sourceId).startItem seq
    let payload := leBytes 8 s.book.oldest ++ leBytes 8 upTo ++ leBytes 4 (s.sess slot).sourceId ++
      leBytes 1 (s.sess slot).role ++ zeros 3 ++ leBytes 8 seq
    let s := s.offer .stageManager 4 0 payload
    { s with book := { s.book with eraseItem := some seq } }
  refused := fun s slot a =>
    let s := s.dropNonce slot
    if a = .authFailed then s.authFailure (s.sess slot).sourceId
    else if a = .dependency || (a = .resourceExhausted && decide (8192 ≤ s.book.clearingLog.length)) then
      s.authSuccess (s.sess slot).sourceId
    else s

/-- RECORD_CLEAR (R476). -/
def execRecordClear (slot : Fin 16) (value : Bytes) (s : State) : Out := .next (s.request slot 0x2222 0 value recordClearRule)

/-- RECORD_CLEAR_ERASE_END (R476): the blocks that hold only cleared records are erased. -/
def execRecordClearEraseEnd (s : State) : Out :=
  match s.book.erasing with
  | none => .next s
  | some upTo =>
    let b := s.book
    let live := b.running.filter (fun p => decide (upTo < p.2.seq))
    let tail := match live with
      | p :: _ => max b.tail (p.1 / 4096 * 4096)
      | [] => max b.tail (b.head / 4096 * 4096)
    let item := b.eraseItem
    let s := { s with book := { b with
                 tail := tail, running := b.running.filter (fun p => decide (tail ≤ p.1)), eraseItem := none, erasing := none } }
    .next (s.finishOpt item .done)

/-- NONCE_EXPIRY (R475). -/
def execNonceExpiry (slot : Fin 16) (s : State) : Out :=
  match s.nonceOf slot with
  | some x => .next (if x.expires ≤ s.tick then s.dropNonce slot else s)
  | none => .next s

/-- OPERATING_TIME_SAVE (R467): every 1 s that the module has spent started. -/
def execOperatingTimeSave (s : State) : Out :=
  if s.book.opSaved + ticksS 1 ≤ s.tick then
    let s := { s with book := { s.book with opSaved := s.book.opSaved + ticksS 1 } }
    .next (s.bump K.operatingTime)
  else .next s

/-! The MRAM staging region (R473) -/

/-- The control area: next RecordSeq, highest committed RecordSeq, OperatingTime, PowerCycles. -/
def State.stagingControl (s : State) : Bytes :=
  let committed := match s.book.running.getLast? with
    | some p => p.2.seq
    | none => 0
  leBytes 8 (s.regN K.nextRecordSeq) ++ leBytes 8 committed ++ leBytes 4 (s.regN K.operatingTime) ++ leBytes 4 (s.regN K.powerCycles)

/-- The suppression table: 21 entries of 24 bytes. -/
def State.suppressionTable (s : State) : Bytes :=
  (List.range 21).flatMap (fun i =>
    let c := s.book.supp.get Supp.init i
    leBytes 4 c.count ++ zeros 4 ++ leBytes 8 c.first ++ leBytes 8 c.last)

/-- The entry of the staging ring at a place; a staged record stands at RecordSeq - 1 modulo 1,024 (notes/assumptions/188.md). -/
def State.stagingEntry (s : State) (place : Nat) : Bytes :=
  match s.book.staged.find? (fun r => (r.seq - 1) % 1024 == place) with
  | some r => r.bytes
  | none => zeros 128

/-- The bytes of the staging region from offset 0x600000 of an MRAM copy on. -/
def State.stagingRegion (s : State) : Bytes :=
  padTo 0x1000 s.stagingControl ++ padTo 0x1000 s.suppressionTable ++ (List.range 1024).flatMap s.stagingEntry

/-! The window of a session -/

/-- A write to a session's copy of 0x2210 (R477). -/
def windowRule (sub : Nat) : WriteRule where
  effect := fun s slot seq d =>
    let w := s.windows.get Window.init slot
    let v := wval d
    let w := match sub with
      | 1 => { w with start := v }
      | 2 => { w with count := v }
      | _ => { w with area := v }
    ({ s with windows := s.windows.set Window.init slot w } : State).finish seq .done

/-- The records that a session's window shows (R477). -/
def State.recordData (s : State) (slot : Nat) : Bytes :=
  let w := s.windows.get Window.init slot
  let all : List Rec := match w.area with
    | 0 => (s.book.running.map Prod.snd ++ s.book.staged).filter (fun r => decide (s.book.oldest ≤ r.seq))
    | 1 => s.book.firstNight
    | _ => s.book.clearingLog
  ((all.filter (fun r => decide (w.start ≤ r.seq))).take w.count).flatMap Rec.bytes

/-- The write rules of 0x2210-0x2222 (R479). -/
def rule16 (idx sub : Nat) : Option WriteRule :=
  if idx = 0x2210 then some (windowRule sub)
  else if idx = 0x2220 then some recordClearArmRule
  else if idx = 0x2222 then some recordClearRule
  else none

end Sys2Proof.Machine
end

