-- ==== Sys2Proof/Machine/ArchiveOps.lean ====
section
/-!
DEFINITION. The archive of fields (R481-R485): tile units, coverage tiles written and reloaded (R145), and the mask of a
field.
-/
namespace Sys2Proof.Machine

/-- Units of 64 KiB in the tile store: 12 GiB less the field directory and the export area (R481), and less the 106 units of
the uniformity map (R512). -/
abbrev tileUnits : Nat := (12 * 1024 - 64 - 512) * 16 - 106

def State.fieldArc (s : State) (f : Nat) : FieldArc := s.archive.fields.get FieldArc.init f

/-- Units in use: every archived tile takes one (R142, R481, R490). -/
def State.unitsUsed (s : State) : Nat :=
  (s.archive.fields.cells.map (fun p => p.2.cov.cells.length + p.2.yield.cells.length)).sum

def State.setFieldArc (s : State) (f : Nat) (x : FieldArc) : State :=
  let s := { s with archive := { s.archive with fields := s.archive.fields.set FieldArc.init f x } }
  s.setReg K.archiveUsed (64 * s.unitsUsed : Nat)

/-- The open field (R483). -/
def State.openFieldNo (s : State) : Option Nat :=
  if s.reg K.openField = 0xFFFF then none else some (s.regN K.openField)

/-- A free unit for a tile that is not archived yet; a block lost without an understudy takes 8 units (R405). -/
def State.hasUnit (s : State) (held : Bool) : Bool := held || decide (s.unitsUsed + 8 * s.archive.blocksLost < tileUnits)

/-- Writes one tile to the archive of a field; without a free unit it stays unarchived (R481). -/
def State.archiveTile (s : State) (f k : Nat) : State :=
  let x := s.fieldArc f
  let t := s.tile k
  if s.hasUnit (x.cov.get CovArc.init k != CovArc.init) then
    let s := s.setFieldArc f { x with cov := x.cov.set CovArc.init k ⟨s.regN K.coverageLayers, t.bits⟩ }
    s.setTile k { t with dirty := false }
  else
    let s := if s.flag K.archiveFlags 0 then s else (s.setFlag K.archiveFlags 0 true).eventKey .services 0 K.archiveFlags
    s

/-- Keys of the DIRTY tiles. -/
def State.dirtyTiles (s : State) : List Nat := (s.cov.tiles.cells.filter (fun p => p.2.dirty)).map Prod.fst

/-- Writes every DIRTY tile to a field's archive (R145, R483, R493). -/
def State.archiveAll (s : State) (f : Nat) : State := s.dirtyTiles.foldl (fun s k => s.archiveTile f k) s

/-- A successful archive write (R145). -/
def State.archiveDone (s : State) : State :=
  let s := { s with cov := { s.cov with lastArchiveOk := s.tick } }
  (s.setReg K.archiveTime (s.now : Nat)).setFlag K.coverageFlags 3 false

/-- Frees the DRAM tiles. -/
def State.freeTiles (s : State) : State :=
  let s := { s with cov := { s.cov with tiles := ⟨[]⟩, marks := [], fullLayers := 0 } }
  (s.setReg K.tilesUsed 0).setFlag K.coverageFlags 0 false

/-- Loads a field's mask and coverage tiles (R145, R483, R484). -/
def State.loadField (s : State) (f : Nat) : State :=
  let x := s.fieldArc f
  let s := s.putMask (if x.mask.isEmpty then none else some x.mask)
  let s := (x.cov.cells.zipIdx).foldl (fun (s : State) p =>
    s.setTile p.1.1 { present := true, slot := p.2, dirty := false, lost := false, firstMark := 0, bits := p.1.2.bits }) s
  (s.setReg K.tilesUsed (s.presentTiles.length : Nat)).setFlag K.coverageFlags 2 true

end Sys2Proof.Machine
end

