-- ==== Sys2Proof/Machine/Sections.lean ====
section
/-!
DEFINITION. The commands of 05_sections_and_coverage.md. What a device description of a Task Controller client gives is an
operand (Forms.lean).
-/
namespace Sys2Proof.Machine

/-! Hitches (R134, R135) -/

/-- The measured hitch angle of an implement, and whether its input reports a fault. -/
def State.hitchMeasured (s : State) (n : Nat) : Int × Bool :=
  let i := s.regN (K.hitchAngleInput n)
  if s.reg (K.hitchAngleSource n) = 1 then (s.reg (K.ainValue i), s.ainFault i) else (s.finAngle i, s.finFault i)

/-- The implement has a hitch that is modelled. -/
def State.trailed (s : State) (n : Nat) : Bool := s.reg (K.implementEnable n) == 1 && s.reg (K.implementKind n) == 1

/-- HITCH_MODEL_STEP (R134, R135): every 100 us the model runs, and the angle in use is the measured one or the model's. -/
def execHitchModelStep (n : Fin 4) (s : State) : Out :=
  if !s.trailed n then .next s
  else
    let x := s.impl n
    let v := s.machineSpeed
    let p := s.parentRates v s.yawRate s.gammas n
    let model := x.model + turn100us ((s.childRates n x.model p.1 p.2).2 - p.2)
    let m := s.hitchMeasured n
    let measured := s.reg (K.hitchAngleSource n) != 0
    let apart := decide (s.reg (K.hitchCheckLimit n) < absI (wrap32 (m.1 - model)))
    let gamma := if measured && !s.flag (K.implementFlags n) 0 then m.1 else model
    let r := s.childRates n gamma p.1 p.2
    let s := s.setImpl n { x with
      model := model, gamma := gamma, vi := r.1, wi := r.2, past := ((s.tick, gamma) :: x.past).take 2048,
      disagree := since x.disagree (measured && apart) s.tick,
      agree := since x.agree (measured && !apart && !m.2) s.tick }
    .next (s.setReg (K.hitchAngle n) (wrap32 gamma))

/-- HITCH_FALLBACK (R135): a disagreement of 1 s, or an input fault at once. -/
def execHitchFallback (n : Fin 4) (s : State) : Out :=
  let x := s.impl n
  if !s.trailed n || s.reg (K.hitchAngleSource n) = 0 || s.flag (K.implementFlags n) 0 then .next s
  else if (s.hitchMeasured n).2 || s.heldFor x.disagree (ticksS 1) then
    let s := (s.setImpl n { x with gamma := x.model, agree := none }).setFlag (K.implementFlags n) 0 true
    .next ((s.setReg (K.hitchAngle n) (wrap32 x.model)).eventKey .sections n (K.implementFlags n))
  else .next s

/-- HITCH_FALLBACK_CLEAR (R135): after 10 s of agreement the model is reset to the measured angle. -/
def execHitchFallbackClear (n : Fin 4) (s : State) : Out :=
  let x := s.impl n
  let m := (s.hitchMeasured n).1
  .next (if s.flag (K.implementFlags n) 0 && !(s.hitchMeasured n).2 && s.heldFor x.agree (ticksS 10) then
    ((s.setImpl n { x with model := m, gamma := m, disagree := none }).setFlag (K.implementFlags n) 0 false).setReg
      (K.hitchAngle n) (wrap32 m)
  else s)

/-! Implements (R131, R158) -/

/-- The rule of ImplementEnable (R131, R341). -/
def implementEnableRule (n : Nat) : WriteRule where
  check := fun s _ d => firstSome [
    need (s.reg (K.sectionMode n) == 0) .stateDenied,
    need (wval d == 0 || s.reg (K.implementEnable n) == 1 || s.axisIs (s.regN (K.sectionAxis 0)) 1) .dependency,
    need (wval d == 0 || s.reg (K.implementEnable n) == 1 || s.reg (K.hitchAngleSource n) != 2 ||
      (decide (s.reg (K.hitchAngleInput n) < 16) && s.reg (K.finMode (s.regN (K.hitchAngleInput n))) == 2)) .dependency]
  effect := fun s _ seq d =>
    let was := s.reg (K.implementEnable n)
    let s := s.putEntry (0x2800 + n) 1 d
    let s := if s.reg (K.implementEnable n) = was then s
      else
        let x := { Impl.init with travelFrom := s.axisFine (s.regN (K.sectionAxis n)), awaitValid := false }
        let s := (s.setImpl n x).setReg (K.hitchAngle n) 0
        (s.setReg (K.implementFlags n) 0).setReg (K.degradedTravel n) 0
    s.finish seq .done

/-- The checks of the other settings of an implement (R151, R158). -/
def State.implementCheck (s : State) (n sub : Nat) (d : Bytes) : Option Abort :=
  let v := wval d
  firstSome [
    need (sub == 0x13 || s.reg (K.sectionMode n) == 0) .stateDenied,
    need (sub != 3 || v == 0xFF || decide (v < n)) .dependency,
    need (sub != 0x0C || (s.axisSource v == 1 && s.regN (K.implement v) == n)) .dependency,
    need (sub != 0x0D || decide (v < s.regN K.coverageLayers)) .dependency,
    need (sub != 0x0E || decide (s.regN (K.overlapOnShare n) ≤ v)) .dependency,
    need (sub != 0x0F || decide (v ≤ s.regN (K.overlapOffShare n))) .dependency]

/-- Cue slots of the sections in use (R149). -/
def State.sectionSlotsOk (s : State) : Bool := decide (2 * s.usedSections.length ≤ s.regN K.internalSlots)

/-- The rule of SectionMode (R149, R483). -/
def sectionModeRule (n : Nat) : WriteRule where
  check := fun s _ d => firstSome [
    need (wval d != 2 || s.axisUsable (s.regN (K.sectionAxis n))) .stateDenied,
    need (wval d == 0 || s.archive.opening.isNone) .stateDenied,
    need (wval d != 2 || s.sectionSlotsOk) .resourceExhausted]
  effect := fun s _ seq d => (s.settle (0x2800 + n) 0x17 seq d).applyMode n

/-- The rule of ManualSectionOn (R149). -/
def manualRule : WriteRule :=
  settingRule 0x2820 0 (fun _ _ => none)
    (fun s => ((List.range 4).filter (fun i => s.reg (K.sectionMode i) == 1)).foldl State.applyMode s)

/-! Section configuration (R138, R139) -/

/-- The fields of a SectionConfig value lie in their ranges (R138). With DrivePath NONE the default's Width of 0 stands too, and no
Target is stated (notes/assumptions/174.md). -/
def secCfgOk (d : Bytes) : Bool :=
  let c := secCfgOf d
  let lever (v : Int) : Bool := decide (-30000 ≤ v) && decide (v ≤ 30000)
  let lead (v : Nat) : Bool := v % 10 == 0 && decide (v ≤ 500000000)
  decide (c.impl ≤ 3) && decide (c.path ≤ 4) && decide (c.flags < 4) && allZero (field d 29 3) &&
  lever c.x && lever c.y && lead c.onLead && lead c.offLead &&
  (match c.path with
    | 0 => c.onParam == 0
    | 1 => decide (c.target < 32) && decide (c.onParam < 64)
    | 2 => decide (c.target < 48) && c.onParam == 0
    | 3 => decide (c.target / 4096 ≤ 5) && decide (c.target / 1024 % 4 = 0) && decide (c.onParam < 32)
    | _ => true) &&
  ((c.path == 0 && c.width == 0) || (decide (20 ≤ c.width) && decide (c.width ≤ 20000)))

/-- Another section has the same target (R139). -/
def State.targetShared (s : State) (n : Nat) (c : SecCfg) : Bool :=
  s.usedSections.any (fun m => let x := s.secCfg m
    m != n && x.path == c.path && x.target == c.target && (c.path != 3 || x.onParam == c.onParam))

/-- The checks of a SectionConfig write (R139). -/
def State.sectionConfigCheck (s : State) (n : Nat) (d : Bytes) : Option Abort :=
  let c := secCfgOf d
  let old := s.secCfg n
  let lead := s.targetLead (secKind c.path) c.target
  firstSome [
    need (secCfgOk d) .valueInvalid,
    need (c.path != 4) .stateDenied,
    need (s.reg (K.sectionMode c.impl) == 0 && (old.path == 0 || s.reg (K.sectionMode old.impl) == 0)) .stateDenied,
    need (s.reg (K.implementEnable c.impl) == 1) .dependency,
    need (c.path != 1 || s.reg (K.svOwner c.target) == 1) .dependency,
    need (c.path != 2 || s.reg (K.lsOwner c.target) == 1) .dependency,
    need (c.path == 0 || !s.targetShared n c) .dependency,
    need (c.path == 0 || (decide (c.onLead + lead ≤ 500000000) && decide (c.offLead + lead ≤ 500000000))) .dependency]

/-- A section starts anew: off, with nothing armed. -/
def State.clearSection (s : State) (n : Nat) : State :=
  let s := s.disarmSection n
  let s := if (s.section n).on then s.sectionSet n false 0 else s
  s.setSection n Section.init

/-- The rule of SectionConfig (R139). -/
def sectionConfigRule (n : Nat) : WriteRule where
  check := fun s _ d => s.sectionConfigCheck n d
  effect := fun s _ seq d => (s.clearSection n).settle (0x2C00 + n / 8) (n % 8 + 1) seq d

/-! Coverage, mask and Task Controller settings (R147, R157, R158) -/

/-- The grid may change (R158). -/
def State.gridFixed (s : State) : Bool :=
  !s.presentTiles.isEmpty || s.cov.mask.isSome || (List.range 16).any (fun n => s.axisIs n 3)

/-- Bits of one byte of a tile that are not of the cleared layers. -/
def keptByte (layers mask : Nat) (k v : Nat) : Nat :=
  (List.range 8).foldl (fun a b =>
    if v.testBit b && !mask.testBit ((k * 8 + b) % layers) then a + 2 ^ b else a) 0

def keptBits (layers mask : Nat) (t : Tab Nat) : Tab Nat :=
  t.cells.foldl (fun (u : Tab Nat) c => u.set 0 c.1 (keptByte layers mask c.1 c.2)) ⟨[]⟩

/-- CoverageClear (R158): the layers' bits go, in DRAM and in the open field's archive; a tile without bits is free. -/
def State.clearLayers (s : State) (mask : Nat) : State :=
  let layers := s.regN K.coverageLayers
  let s := s.cov.tiles.cells.foldl (fun s c =>
    let b := keptBits layers mask c.2.bits
    s.setTile c.1 (if b.cells.isEmpty then CovTile.init else { c.2 with bits := b })) s
  let full := (List.range 4).foldl (fun (a b : Nat) =>
    if s.cov.fullLayers.testBit b && !mask.testBit b then a + 2 ^ b else a) 0
  let s := { s with cov := { s.cov with fullLayers := full } }
  let s := (s.setReg K.tilesUsed (s.presentTiles.length : Nat)).setFlag K.coverageFlags 0
    (s.flag K.coverageFlags 0 && full != 0)
  match s.openFieldNo with
  | none => s
  | some f =>
    let x := s.fieldArc f
    s.setFieldArc f { x with
      cov := x.cov.cells.foldl (fun (t : Tab CovArc) c =>
      let b := keptBits c.2.layers mask c.2.bits
      t.set CovArc.init c.1 (if b.cells.isEmpty then CovArc.init else ⟨c.2.layers, b⟩)) ⟨[]⟩ }

/-- The rule of CoverageClear. -/
def coverageClearRule : WriteRule :=
  commandRule (fun s d => need ((List.range 4).all (fun i =>
      !(wval d).testBit (s.regN (K.coverageLayer i)) || s.reg (K.sectionMode i) == 0)) .stateDenied)
    (fun s d => s.clearLayers (wval d))

def State.anyAuto (s : State) : Bool := (List.range 4).any (fun i => s.reg (K.sectionMode i) == 2)

/-- The open field keeps its mask (R484). -/
def State.storeMask (s : State) (b : Bytes) : State :=
  match s.openFieldNo with
  | some f => s.setFieldArc f { s.fieldArc f with mask := b }
  | none => s

/-- The rule of BoundaryMaskLoad (R147, R148, R484). -/
def maskLoadRule : WriteRule :=
  commandRule (fun s d => firstSome [need (!s.anyAuto) .stateDenied, need (maskRingsOf d).isSome .valueInvalid])
    (fun s d => (s.putMask (some d)).storeMask d)

/-- The rule of BoundaryMaskClear. -/
def maskClearRule : WriteRule :=
  commandRule (fun s _ => need (!s.anyAuto) .stateDenied) (fun s _ => (s.putMask none).storeMask [])

/-- A Task Controller client is lost (R157, R160): its sections are off and no further messages go to it. -/
def State.tcLose (s : State) (c : Nat) : State :=
  let x := s.client c
  if !x.connected || x.lost then s
  else
    let s := s.setClient c { x with lost := true, waiting := ⟨[]⟩ }
    let s := x.sections.foldl (fun s n => (s.disarmSection n).sectionSet n false 12) s
    (s.setFlag (K.implementFlags c) 5 true).eventKey .sections c (K.implementFlags c)

/-- Every client is lost, as when the port loses its address (R432). -/
def State.tcLoseAll (s : State) : State := (List.range 4).foldl State.tcLose s

/-- Shows the connected clients and imported sections (R158). -/
def State.showTc (s : State) : State :=
  let l := (List.range 4).map s.client
  let s := s.setReg K.tcClients ((l.filter (fun x => x.connected && !x.lost)).length : Nat)
  s.setReg K.tcSections ((l.map (fun x => x.sections.length)).sum : Nat)

/-- The rule of TcEnable (R157, R432). -/
def tcEnableRule : WriteRule :=
  settingRule 0x2830 1 (fun s d => need (wval d == 0 || s.reg (K.isobusEnable (s.regN K.tcPort)) == 1) .dependency)
    (fun s => if s.reg K.tcEnable = 0 then s.tcLoseAll.showTc else s)

/-- The write rules of 0x2800-0x2EFF (R158). -/
def rule05 (idx sub : Nat) : Option WriteRule :=
  if 0x2800 ≤ idx && idx < 0x2804 then
    let n := idx - 0x2800
    if sub = 1 then some (implementEnableRule n)
    else if sub = 0x17 then some (sectionModeRule n)
    else some (settingRule idx sub (fun s d => s.implementCheck n sub d))
  else if idx = 0x2810 then
    if sub ≤ 5 then some (settingRule idx sub (fun s _ => need (!s.gridFixed) .stateDenied)
      (fun s => if sub = 2 then s.setReg K.tilesCapacity (s.tileCapacity : Nat) else s))
    else some (settingRule idx sub)
  else if idx = 0x2812 then some coverageClearRule
  else if idx = 0x2813 then some maskLoadRule
  else if idx = 0x2814 then some maskClearRule
  else if idx = 0x2820 then some manualRule
  else if idx = 0x2830 then if sub = 1 then some tcEnableRule else some (settingRule idx sub)
  else if 0x2C00 ≤ idx && idx < 0x2C80 then some (sectionConfigRule ((idx - 0x2C00) * 8 + (sub - 1)))
  else none

/-- SECTION_CONFIG (R139). -/
def execSectionConfig (slot : Fin 16) (n : Fin 1024) (value : Bytes) (s : State) : Out :=
  .next (s.request slot (0x2C00 + n / 8) (n % 8 + 1) value (sectionConfigRule n))

/-- SECTION_MODE (R149). -/
def execSectionMode (slot : Fin 16) (n : Fin 4) (mode : BitVec 8) (s : State) : Out :=
  .next (s.request slot (0x2800 + n) 0x17 (leBytes 1 mode.toNat) (sectionModeRule n))

/-- MANUAL_SECTION_ON (R149). -/
def execManualSectionOn (slot : Fin 16) (value : Bytes) (s : State) : Out :=
  .next (s.request slot 0x2820 0 value manualRule)

/-- SECTION_SCAN (R151-R153): one section. -/
def execSectionScan (n : Fin 1024) (s : State) : Out := .next (s.scanSection n)

/-- AXIS_HELD_SWITCH_OFF (R154, R160). -/
def execAxisHeldSwitchOff (i : Fin 4) (s : State) : Out :=
  .next (if s.reg (K.implementEnable i) = 1 && s.axisState (s.regN (K.sectionAxis i)) = axInvalid then
    (s.allOff i 9).setFlag (K.implementFlags i) 3 true else s)

/-- DEGRADED_LIMIT (R154, R160). -/
def execDegradedLimit (i : Fin 4) (s : State) : Out :=
  .next (if s.reg (K.implementEnable i) = 1 && s.axisState (s.regN (K.sectionAxis i)) = axDegraded &&
      decide (s.reg (K.degradedDistance i) ≤ s.reg (K.degradedTravel i)) then
    (s.allOff i 10).setFlag (K.implementFlags i) 2 true else s)

/-! Sweeps and marks (R144) -/

/-- Twice the signed area of a triangle. -/
def area2 (a b c : Int × Int) : Int := (b.1 - a.1) * (c.2 - a.2) - (b.2 - a.2) * (c.1 - a.1)

/-- A point lies inside or on a triangle. -/
def inTriangle (a b c p : Int × Int) : Bool :=
  let x := area2 a b p
  let y := area2 b c p
  let z := area2 c a p
  (decide (0 ≤ x) && decide (0 ≤ y) && decide (0 ≤ z)) || (decide (x ≤ 0) && decide (y ≤ 0) && decide (z ≤ 0))

/-- A point lies inside or on the quadrilateral that a segment sweeps from (a, b) to (c, d). -/
def inSweep (a b c d p : Int × Int) : Bool :=
  (area2 a b c != 0 || area2 b c d != 0 || area2 a b d != 0) && (inTriangle a b c p || inTriangle b c d p)

def min4 (a b c d : Int) : Int := min (min a b) (min c d)
def max4 (a b c d : Int) : Int := max (max a b) (max c d)

/-- Cells of pitch `p` whose centre lies inside or on a swept quadrilateral; corners in 2^-32 um. -/
def sweptCells (p : Nat) (a b c d : Int × Int) : List (Int × Int) :=
  let u := (p : Int) * fineMm
  let i0 := min4 a.1 b.1 c.1 d.1 / u
  let i1 := max4 a.1 b.1 c.1 d.1 / u
  let j0 := min4 a.2 b.2 c.2 d.2 / u
  let j1 := max4 a.2 b.2 c.2 d.2 / u
  (List.range (i1 - i0 + 1).toNat).flatMap (fun x =>
    (List.range (j1 - j0 + 1).toNat).filterMap (fun y =>
      let i := i0 + x
      let j := j0 + y
      if inSweep a b c d (i * u + u / 2, j * u + u / 2) then some (i, j) else none))

/-- The ends of a section's footprint. -/
def State.footEnds (s : State) (c : SecCfg) : (Int × Int) × (Int × Int) :=
  let p := s.poseOf c.impl
  let w := (c.width : Int) * fineMm / 2
  (toField p.e p.n p.h (c.x * fineMm) (c.y * fineMm + w), toField p.e p.n p.h (c.x * fineMm) (c.y * fineMm - w))

/-- The sweep of one section: an applying one marks what its footprint passed since the last sweep. -/
def State.sweepSection (s : State) (n : Nat) : State :=
  let c := s.secCfg n
  let x := (s.section n).settleDue s.tick
  if !x.applying then s.setSection n { x with swept := none }
  else
    let e := s.footEnds c
    let pos := s.axisFine (s.regN (K.sectionAxis c.impl))
    let cells := match x.swept with
      | some o => sweptCells (s.regN K.coveragePitch) o.1 o.2 e.1 e.2
      | none => []
    let marks := cells.map (fun q => (⟨q.1, q.2, s.regN (K.coverageLayer c.impl), c.impl, pos⟩ : Mark))
    let s := s.setSection n { x with swept := some e }
    { s with cov := { s.cov with marks := s.cov.marks ++ marks } }

/-- COVERAGE_SWEEP (R144): each time the axis has moved half a pitch, and at least every 10 ms. -/
def execCoverageSweep (i : Fin 4) (s : State) : Out :=
  let x := s.impl i
  let pos := s.axisFine (s.regN (K.sectionAxis i))
  if s.reg (K.implementEnable i) ≠ 1 then .next s
  else if 2 * absI (pos - x.sweepPos) < s.reg K.coveragePitch * fineMm && s.tick < x.sweepTick + ticksMs 10 then .next s
  else .next ((s.sectionsOf i).foldl State.sweepSection (s.setImpl i { x with sweepPos := pos, sweepTick := s.tick }))

/-- MARK_COMMIT (R144): marks whose axis has advanced MarkDelay past their sweep. -/
def execMarkCommit (i : Fin 4) (s : State) : Out :=
  let pos := s.axisFine (s.regN (K.sectionAxis i))
  let ripe (m : Mark) : Bool := m.impl == i && decide (m.pos + s.reg (K.markDelay i) * fineMm ≤ pos)
  let l := s.cov.marks.filter ripe
  let s := { s with cov := { s.cov with marks := s.cov.marks.filter (fun m => !ripe m) } }
  .next (l.foldl (fun s m => s.markCell m.layer m.i m.j) s)

/-- COVERAGE_ARCHIVE_WRITE (R145, R160): `ok` says whether the eMMC took the write. -/
def execCoverageArchiveWrite (ok : Bool) (s : State) : Out :=
  match s.openFieldNo with
  | none => .next s
  | some f =>
    if s.dirtyTiles.isEmpty then .next s
    else if ok then .next (s.archiveAll f).archiveDone
    else if s.cov.lastArchiveOk + ticksS 30 ≤ s.tick && !s.flag K.coverageFlags 3 then
      .next ((s.setFlag K.coverageFlags 3 true).eventKey .sections 0 K.coverageFlags)
    else .next s

/-- COVERAGE_CLEAR (R158). -/
def execCoverageClear (slot : Fin 16) (layers : BitVec 8) (s : State) : Out :=
  .next (s.request slot 0x2812 0 (leBytes 1 layers.toNat) coverageClearRule)

/-- BOUNDARY_MASK_LOAD (R147, R148). -/
def execBoundaryMaskLoad (slot : Fin 16) (value : Bytes) (s : State) : Out :=
  .next (s.request slot 0x2813 0 value maskLoadRule)

/-- BOUNDARY_MASK_CLEAR (R158). -/
def execBoundaryMaskClear (slot : Fin 16) (value : BitVec 8) (s : State) : Out :=
  .next (s.request slot 0x2814 0 (leBytes 1 value.toNat) maskClearRule)

/-! Task Controller clients (R157) -/

/-- The SectionConfig bytes of an imported section. -/
def State.importedConfig (s : State) (c : Nat) (x : TcSec) : Bytes :=
  let lead (ms : Nat) : Nat := min 500000000 (ms * 1000000 + s.regN K.tcBusLead)
  leBytes 1 c ++ leBytes 1 4 ++ leBytes 2 (x.number + 256 * c + 1024 * x.element) ++ encInt 4 x.x ++ encInt 4 (-x.y) ++
  leBytes 4 x.width ++ leBytes 4 (lead x.onMs) ++ leBytes 4 (lead x.offMs) ++ zeros 8

/-- Imports one section into the lowest section number that is not in use. -/
def State.importSection (s : State) (c : Nat) (x : TcSec) : State :=
  match (List.range 1024).find? (fun n => (s.secCfg n).path == 0) with
  | none => s
  | some n =>
    let s := (s.setSection n Section.init).setBlob (K.sectionConfig (n / 8) (n % 8)) (s.importedConfig c x)
    s.setClient c { s.client c with sections := (s.client c).sections ++ [n] }

/-- Sections of a client that SectionConfig holds, also from before a reset. -/
def State.importsOf (s : State) (c : Nat) : List Nat :=
  s.usedSections.filter (fun n => (s.secCfg n).path == 4 && tcClientOf (s.secCfg n).target == c)

/-- The sections imported before leave (R157). -/
def State.dropImports (s : State) (c : Nat) : State :=
  (s.importsOf c).foldl (fun s n => (s.clearSection n).setBlob (K.sectionConfig (n / 8) (n % 8)) (zeros 32)) s

/-- TC_CLIENT_CONNECT (R157): the client's address, the numbers of its device elements that carry sections, and its
sections, up to 256 for each element (R155). A client that was lost takes its place again. -/
def execTcClientConnect (address : BitVec 8) (elements : List Nat) (sections : List TcSec) (s : State) : Out :=
  let a := address.toNat
  let again := (List.range 4).find? (fun c => (s.client c).connected && (s.client c).address == a)
  let free := (List.range 4).find? (fun c => !(s.client c).connected)
  let old := (List.range 4).find? (fun c => (s.client c).lost)
  if s.reg K.tcEnable ≠ 1 then .next s
  else match again.or (free.or old) with
    | none => .next s
    | some c =>
      let s := s.dropImports c
      let x : TcClient := { connected := true, address := a, elements := elements, lastActual := s.tick }
      let s := (s.setClient c x).setFlag (K.implementFlags c) 5 false
      if 64 < elements.length then .next ((s.tcLose c).showTc)
      else
        let ok (x : TcSec) : Bool := decide (x.element < elements.length) && decide (x.number < 256)
        let s := (sections.filter ok).foldl (fun s x => s.importSection c x) s
        let s := (s.client c).sections.foldl State.tcChanged s
        .next s.showTc.tcFlush

/-- ACTUAL_CONDENSED_WORK_STATE (R157): 2 bits for each of 16 sections of one element. -/
def execActualCondensedWorkState (c : Fin 4) (element : Fin 64) (group : Fin 16) (value : BitVec 32) (s : State) : Out :=
  let x := s.client c
  if !x.connected || x.lost then .next s
  else
    let s := s.setClient c { x with lastActual := s.tick }
    .next ((List.range 16).foldl (fun (s : State) (k : Nat) =>
      let v := value.toNat / 4 ^ k % 4
      match x.sections.find? (fun n => let t := (s.secCfg n).target
          tcElement t == element.val && tcSection t == group.val * 16 + k) with
      | some n => if v < 2 then s.setSection n { s.section n with applying := v == 1, due := [] } else s
      | none => s) s)

/-- TC_CLIENT_LOST (R157, R160): no actual state for 3 s, or its address is lost. -/
def execTcClientLost (c : Fin 4) (addressLost : Bool) (s : State) : Out :=
  let x := s.client c
  .next (if x.connected && (addressLost || decide (x.lastActual + ticksS 3 ≤ s.tick)) then (s.tcLose c).showTc else s)

end Sys2Proof.Machine
end

