-- ==== Sys2Proof/Machine/SessionOps.lean ====
section
/-!
DEFINITION. Opening and closing sessions as shared operations (R43-R46), and the SDO servers that hold the CAN slots (R46,
R435, R436).
-/
namespace Sys2Proof.Machine

/-- A session opens in a slot with the next generation (R43). -/
def State.openSession (s : State) (slot source : Nat) : State :=
  let g := (s.sess slot).generation
  s.setSess slot { isOpen := true, generation := if g = 255 then 1 else g + 1, sourceId := source, lastReq := s.tick }

/-- A session closes (R46): its transfer, snapshot, raised role, challenge, nonce and window go; items stay. -/
def State.closeSession (s : State) (slot : Nat) : State :=
  let s := s.setSess slot { generation := (s.sess slot).generation }
  let s := s.dropChallenge slot
  { s with nonces := s.nonces.set none slot none, windows := s.windows.set Window.init slot Window.init }

/-- The unfinished transfer of a session is discarded. -/
def State.dropTransfer (s : State) (slot : Nat) : State := s.setSess slot { s.sess slot with xfer := none, snap := none }

/-- The source identity of a slot's holder (R44). -/
def slotSource (slot : Nat) : Nat := if slot = 6 then 0xFFFFFFF0 else 0xFFFFFF00 + slot

def State.sdoOf (s : State) (p : Nat) : Sdo := s.sdo.get Sdo.init p
def State.setSdo (s : State) (p : Nat) (x : Sdo) : State := { s with sdo := s.sdo.set Sdo.init p x }

/-- A port's SDO server runs (R46, R435). -/
def State.sdoRuns (s : State) (p : Nat) : Bool :=
  s.flag K.sdoServerEnable p || (p == 0 && s.reg (K.serviceRole 0) == 1)

/-- Opens or closes the CAN session of a port as its server now stands: not while the controller has failed (R436). -/
def State.syncSdo (s : State) (p : Nat) (failed : Bool) : State :=
  let want := s.sdoRuns p && !failed
  if want && !(s.sess p).isOpen then s.openSession p (slotSource p)
  else if !want && (s.sess p).isOpen then (s.closeSession p).setSdo p Sdo.init
  else s

end Sys2Proof.Machine
end

