-- ==== Sys2Proof/Machine/Can.lean ====
section
/-!
DEFINITION. The CAN ports (14_can_ports.md): ports and bus errors, buffers and mailboxes, the time-triggered schedule, the
ISOBUS address and transport protocol, loop tests and faults.
-/
namespace Sys2Proof.Machine

/-! Ports (R415-R421) -/

def pfWarning : Nat := 0
def pfPassive : Nat := 1
def pfBusOff : Nat := 2
def pfTdc : Nat := 3
def pfDetected : Nat := 4
def pfAddressLost : Nat := 5
def pfFailed : Nat := 6
def pfTransceiver : Nat := 7

/-- The error counters and the flags that follow them (R420, R438); the counts shown saturate. -/
def State.canErrors (s : State) (p : Nat) (tec rec : Int) : State :=
  let s := (s.setReg (K.txErrorCount p) (clampI 0 255 tec)).setReg (K.rxErrorCount p) (clampI 0 255 rec)
  (s.setFlag (K.portFlags p) pfWarning (decide (96 ≤ tec) || decide (96 ≤ rec))).setFlag (K.portFlags p) pfPassive
    (decide (128 ≤ tec) || decide (128 ≤ rec))

/-- The module sends Address Claimed and begins its 250 ms (R432). -/
def State.claimAddress (s : State) (p a : Nat) : State :=
  let s := (s.setReg (K.address p) a).setReg (K.addressState p) 1
  (s.setCan p { s.can p with claimedAt := s.tick }).canService p (s.claimFrame a)

/-- The port becomes ACTIVE (R420, R432). -/
def State.portActive (s : State) (p : Nat) : State :=
  let s := s.setReg (K.portState p) cpActive
  let s := s.setCan p { s.can p with heard := [], tp := [] }
  let s : State := if s.reg (K.isobusEnable p) = 1 then s.claimAddress p (s.regN (K.preferredAddress p)) else s
  s.canStart p

/-- The port has no address any more: its Task Controller clients are lost (R432). -/
def State.addressGone (s : State) (p state : Nat) : State :=
  let s := (s.setReg (K.address p) 0xFE).setReg (K.addressState p) state
  if s.regN K.tcPort = p then s.tcLoseAll.showTc else s

/-- The port leaves ACTIVE (R420, R432, R436). -/
def State.portLeaves (s : State) (p : Nat) (state : Int) : State :=
  let s := s.setReg (K.portState p) state
  if s.reg (K.addressState p) = 0 then s else s.addressGone p 0

/-- The rates of detection, in order (R421). -/
def detectRates : List Nat := [250000, 500000, 1000000, 125000, 50000]

/-- Detection goes on at rate number `i`. -/
def State.detectAt (s : State) (p i : Nat) : State :=
  let s := s.setCan p { s.can p with rateIdx := i % 5, dwellFrom := s.tick, goodFrames := 0 }
  s.setReg (K.nominalRate p) (detectRates.getD (i % 5) 0 : Nat)

/-- What enabling a port refuses (R417, R436). -/
def State.portCheck (s : State) (p : Nat) : Option Abort :=
  let fd := s.reg (K.fdEnable p) == 1
  let n := s.nominalBitClocks p
  let d := s.dataBitClocks p
  let slow := decide (40 ≤ d)
  firstSome [
    need (s.nominalRateOk p) .dependency,
    need (!fd || (decide (d ≤ n) && (if p < 2 then slow else decide (10 ≤ d)))) .dependency,
    need (decide (s.reg (K.nominalSjw p) ≤ s.reg (K.nominalSeg2 p)) && decide (s.reg (K.dataSjw p) ≤ s.reg (K.dataSeg2 p))) .dependency,
    need (p < 2 || !fd || slow || s.reg (K.tdcMode p) == 1) .dependency,
    need (!s.flag (K.portFlags p) pfFailed) .hardwareFault]

/-- An enabled port starts in the state of its mode (R419, R421). -/
def State.portStart (s : State) (p : Nat) : State :=
  let s := s.canErrors p 0 0
  let s := ((s.setFlag (K.portFlags p) pfBusOff false).setFlag (K.portFlags p) pfDetected false).setReg (K.detectedRate p) 0
  let s := (s.setReg (K.nominalRate p) (s.nominalBits p)).setReg (K.dataRate p) (s.dataBits p)
  let s := s.setCan p { s.can p with busOffAt := none, recovering := false }
  match s.regN (K.portMode p) with
  | 0 => s.portActive p
  | 1 => s.setReg (K.portState p) cpListening
  | _ => (s.setReg (K.portState p) cpDetecting).detectAt p 0

/-- A port is disabled (R419). -/
def State.portStop (s : State) (p : Nat) : State :=
  let s := (s.canDropAll p).portLeaves p cpOffline
  let s := (s.setReg (K.nominalRate p) 0).setReg (K.dataRate p) 0
  s.setFlag (K.portFlags p) pfBusOff false

/-- The rule of PortEnable (R417, R419). -/
def portEnableRule (p : Nat) : WriteRule where
  check := fun s _ d => if wval d = 1 && s.reg (K.canPortEnable p) = 0 then s.portCheck p else none
  effect := fun s _ seq d =>
    let was := s.reg (K.canPortEnable p)
    let s := s.putEntry (0x5800 + p) 1 d
    let s : State := if wval d = 1 && was = 0 then s.portStart p else if wval d = 0 && was = 1 then s.portStop p else s
    (s.syncSdo p false).finish seq .done

/-- PORT_ENABLE (R417). -/
def execPortEnable (slot : Fin 16) (p : Fin 6) (value : BitVec 8) (s : State) : Out :=
  .next (s.request slot (0x5800 + p) 1 (leBytes 1 value.toNat) (portEnableRule p))

/-- A port enters bus-off (R420): it leaves the bus; commits are kept. -/
def State.busOff (s : State) (p : Nat) : State :=
  let s := (s.canDropAll p).portLeaves p cpBusOff
  let s := s.setCan p { s.can p with busOffAt := some s.tick, recovering := false }
  ((s.setFlag (K.portFlags p) pfBusOff true).bump (K.busOffEvents p)).eventKey .can p (K.portFlags p)

/-- BUS_OFF (R420). -/
def execBusOff (p : Fin 6) (s : State) : Out :=
  .next (if s.reg (K.portState p) ≠ cpActive then s else s.busOff p)

/-- BUS_OFF_RECOVERY (R420): the begin of the recovery after BusOffDelay, or its end after 128 times 11 recessive bits. -/
def execBusOffRecovery (p : Fin 6) (s : State) : Out :=
  let x := s.can p
  match x.busOffAt with
  | none => .next s
  | some t =>
    if s.reg (K.portState p) ≠ cpBusOff || s.reg (K.busOffRecovery p) ≠ 0 then .next s
    else if !x.recovering then
      .next (if t + ticksMs (s.regN (K.busOffDelay p)) ≤ s.tick then
        s.setCan p { x with recovering := true, busOffAt := some s.tick } else s)
    else if s.tick < t + 1408 * s.nominalBitClocks p * 5 / 4 then .next s
    else
      let s := (s.setCan p { x with recovering := false, busOffAt := none }).canErrors p 0 0
      .next ((s.setFlag (K.portFlags p) pfBusOff false).portActive p)

/-- DETECT_DWELL (R421): DetectDwell without a frame, or a received error. -/
def execDetectDwell (p : Fin 2) (error : Bool) (s : State) : Out :=
  if s.reg (K.portState p) ≠ cpDetecting then .next s
  else
    let x := s.can p
    let s := if error then s.bump (K.errorFrames p) else s
    .next (if error || decide (x.dwellFrom + ticksMs (s.regN (K.detectDwell p)) ≤ s.tick) then s.detectAt p (x.rateIdx + 1) else s)

/-! Frames received and sent (R416-R426) -/

/-- A received frame matches an identifier and mask (R425). -/
def idMatches (id want mask : Nat) : Bool :=
  idExtended id == idExtended want && Nat.land (Nat.xor id want % 2 ^ 29) (mask % 2 ^ 29) == 0

/-- The frame is stored in every enabled mailbox that it matches (R425). -/
def State.mailboxes (s : State) (p : Nat) (f : CanFrame) (stamp : Nat) : State :=
  (List.range 32).foldl (fun (s : State) (m : Nat) =>
    let v := s.blob (K.rxFilter p m)
    if fieldU v 8 1 ≠ 0 && idMatches f.id (fieldU v 0 4) (fieldU v 4 4) then
      let n := min 65535 (fieldU (s.blob (K.rxMailbox p m)) 14 2 + 1)
      s.setBlob (K.rxMailbox p m) (leBytes 8 stamp ++ leBytes 4 f.id ++ leBytes 1 f.format ++ leBytes 1 f.data.length ++
        leBytes 2 n ++ padTo 64 f.data)
    else s) s

/-- The receive error counter after a frame without error (ISO 11898-1: one less, or from above 127 a value of 119-127). -/
def State.recLess (s : State) (p : Nat) : State :=
  let r := s.reg (K.rxErrorCount p)
  if r = 0 then s
  else if r ≤ 127 then s.canErrors p (s.reg (K.txErrorCount p)) (r - 1)
  else
    let d := s.draw
    d.2.canErrors p (s.reg (K.txErrorCount p)) (119 + d.1 % 9 : Nat)

/-- A frame without error while a rate is tried: three in a row end the detection (R421). -/
def State.detectGood (s : State) (p : Nat) : State :=
  if s.reg (K.portState p) ≠ cpDetecting then s
  else
    let x := s.can p
    if x.goodFrames < 2 then s.setCan p { x with goodFrames := x.goodFrames + 1, dwellFrom := s.tick }
    else
      let s := (s.setReg (K.portState p) cpListening).setFlag (K.portFlags p) pfDetected true
      s.setReg (K.detectedRate p) (detectRates.getD x.rateIdx 0 : Nat)

/-- CAN_FRAME_RECEIVED (R416, R425, R426): a frame of another node ends on the bus: its identifier as in R422, its format,
whether it is a remote frame or ends in an error, its data, and the controller's capture of its start of frame. -/
def execCanFrameReceived (p : Fin 6) (id : BitVec 32) (format : Fin 3) (remote error : Bool) (data : Bytes)
    (capture : BitVec 32) (s : State) : Out :=
  let st := s.reg (K.portState p)
  if st ≠ cpActive && st ≠ cpListening && st ≠ cpDetecting then .next s
  else
    let s := s.setCan p { s.can p with busBusy := false }
    if error then
      let s := s.bump (K.errorFrames p)
      if st = cpDetecting then .next (s.detectAt p ((s.can p).rateIdx + 1))
      else .next ((s.canErrors p (s.reg (K.txErrorCount p)) (s.reg (K.rxErrorCount p) + 1)).canStart p)
    else if 0 < format.val && s.reg (K.fdEnable p) = 0 then .next ((s.bump (K.fdIgnored p)).canStart p)
    else
      let s := ((s.recLess p).bump (K.framesReceived p)).detectGood p
      if remote then .next (s.canStart p)
      else
        let f : CanFrame := ⟨id.toNat, format, data.take 64⟩
        .next ((s.mailboxes p f (s.sofStamp p capture.toNat)).canStart p)

/-- The frame in transmission leaves the bus; a commit that waited for it is copied (R423). -/
def State.txOver (s : State) (p : Nat) (r : TxRef) : State :=
  let s := s.setCan p { s.can p with inTx := none, sending := none }
  match r with
  | .buffer b =>
    let x := s.txBuf p b
    s.setTxBuf p b { x with active := if x.copyDue then x.shadow else x.active, copyDue := false }
  | .service _ => s

/-- A frame that was not sent waits again. -/
def State.txAgain (s : State) (p : Nat) (r : TxRef) : State :=
  match r with
  | .buffer b =>
    let x := s.txBuf p b
    s.setTxBuf p b { x with requested := x.requested || !x.offered }
  | .service f => s.setCan p { s.can p with service := f :: (s.can p).service }

/-- CAN_FRAME_SENT (R418, R420, R423, R424): the frame in transmission is sent, loses arbitration or ends in an error; the measured
transmitter delay in clock periods. An error that takes the transmit error count above 255 is a bus-off. -/
def execCanFrameSent (p : Fin 6) (outcome : CanEnd) (capture : BitVec 32) (delay : BitVec 8) (s : State) : Out :=
  match (s.can p).inTx with
  | none => .next s
  | some r =>
    let f := (s.can p).sending.getD (s.txFrame p r)
    let auto := decide (2 ≤ p.val) && s.reg (K.tdcMode p) == 1 && f.format == 2 && outcome != .lost
    let late := auto && decide (127 < delay.toNat + s.regN (K.tdcOffset p))
    let s : State := if auto then (s.setReg (K.tdcValue p) (min 127 delay.toNat : Nat)).setFlag (K.portFlags p) pfTdc late
      else if 0 < f.format && outcome = .sent then s.setFlag (K.portFlags p) pfTdc false else s
    let s := s.txOver p r
    let tec := s.reg (K.txErrorCount p)
    if outcome = .lost then .next ((s.txAgain p r).setCan p { (s.txAgain p r).can p with busBusy := true })
    else if late || outcome = .error then
      let s := (s.bump (K.errorFrames p)).txAgain p r
      let s := s.canErrors p (s.reg (K.txErrorCount p) + 8) (s.reg (K.rxErrorCount p))
      .next (if 255 < tec + 8 then s.busOff p else s.canStart p)
    else
      let t := s.sofStamp p capture.toNat
      let s := (s.bump (K.framesSent p)).setCan p { s.can p with lastSent := some f }
      let s := s.canErrors p (if tec = 0 then 0 else tec - 1) (s.reg (K.rxErrorCount p))
      let s : State := match r with
        | .buffer b =>
          let y := s.txBuf p b
          if y.offered then s.setTxBuf p b { y with offered := false, waiting := false } else s
        | .service g =>
          if (s.can p).refWaiting && g.id = matrixRefId (s.matrix p) then
            let s := s.setCan p { s.can p with refWaiting := false, refSent := some t }
            (s.bump (K.referencesSent p)).setReg (K.lastReferenceTime p) (t : Nat)
          else s
      .next (s.canStart p)

/-- SOF_LATCH (R426): every 1 ms; the latches before it are kept for the longest frames. -/
def execSofLatch (p : Fin 6) (counter : BitVec 32) (s : State) : Out :=
  let x := s.can p
  .next (if s.tick % ticksMs 1 = 0 then
    s.setCan p { x with c0 := counter.toNat, k0 := s.tick, latches := ((x.c0, x.k0) :: x.latches).take 128 } else s)

/-! Transmit buffers (R422, R423) -/

/-- An enabled context or the enabled schedule uses a buffer (R422). -/
def State.bufferUsed (s : State) (p b : Nat) : Bool :=
  (List.range 128).any (fun n => s.reg (K.ctxEnable n) == 1 && s.reg (K.outKind n) == 3 && s.regN (K.outTarget n) == p * 4096 + b) ||
  (s.reg (K.scheduleEnable p) == 1 && (matrixSlots (s.matrix p)).any (fun e => e.buffer == b))

/-- The rule of CanTxConfig (R422). -/
def canTxConfigRule (p b : Nat) : WriteRule where
  check := fun s _ d => firstSome [
    need (txConfigOk d) .valueInvalid,
    need (txFormat d == 0 || s.reg (K.fdEnable p) == 1) .dependency,
    need (!s.bufferUsed p b) .stateDenied]
  effect := fun s _ seq d => (s.setTxBuf p b TxBuf.init).settle (0x5820 + p) (b + 1) seq d

/-- CAN_TX_CONFIG (R422). -/
def execCanTxConfig (slot : Fin 16) (p : Fin 6) (b : Fin 64) (value : Bytes) (s : State) : Out :=
  .next (s.request slot (0x5820 + p) (b + 1) value (canTxConfigRule p b))

/-- The rule of CanTxData (R423). -/
def canTxDataRule (p b : Nat) : WriteRule where
  owner := fun s _ => txOwner (s.txConfig p b) != 1
  check := fun s _ d => need (d.length == txLength (s.txConfig p b)) .typeLength
  effect := fun s _ seq d => (s.canCommit p b d).finish seq .done

/-- CAN_TX_DATA (R423). -/
def execCanTxData (slot : Fin 16) (p : Fin 6) (b : Fin 64) (value : Bytes) (s : State) : Out :=
  .next (s.request slot (0x5830 + p) (b + 1) value (canTxDataRule p b))

/-- CYCLIC_SEND (R423): a period of a CYCLIC buffer, counted from its first commit, has passed. -/
def execCyclicSend (p : Fin 6) (b : Fin 64) (s : State) : Out :=
  let x := s.txBuf p b
  let cfg := s.txConfig p b
  match x.anchor with
  | none => .next s
  | some t =>
    let n := (s.tick - t) / ticksUs (txPeriod cfg)
    if txMode cfg ≠ 1 || txPeriod cfg = 0 || n ≤ x.cycles then .next s
    else
      let s := s.setTxBuf p b { x with cycles := n, requested := x.requested || s.reg (K.portState p) == cpActive }
      .next (s.canStart p)

/-! The schedule (R427-R431) -/

/-- The rule of ScheduleMatrix (R427, R428). -/
def scheduleMatrixRule (p : Nat) : WriteRule :=
  settingRule (0x5840 + p) 0 (fun s d => firstSome [need (matrixOk d) .valueInvalid,
    need (s.reg (K.scheduleEnable p) == 0) .stateDenied])

/-- SCHEDULE_MATRIX (R427). -/
def execScheduleMatrix (slot : Fin 16) (p : Fin 6) (value : Bytes) (s : State) : Out :=
  .next (s.request slot (0x5840 + p) 0 value (scheduleMatrixRule p))

/-- Frame time in ns of a slot. -/
def State.slotTime (s : State) (p : Nat) (e : SlotEntry) : Nat :=
  let v := s.txConfig p e.buffer
  s.frameTime p (txId v) (txFormat v) (txLength v)

/-- The header passes R428. -/
def State.scheduleHeaderOk (s : State) (p : Nat) : Bool :=
  let m := s.matrix p
  s.reg (K.canPortEnable p) == 1 && s.reg (K.portMode p) == 0 && !m.isEmpty &&
  (matrixRefId m == 0xFFFFFFFF || decide (s.frameTime p (matrixRefId m) 0 8 ≤ 1000 * matrixRefWindow m))

/-- A slot passes R428. -/
def State.scheduleSlotOk (s : State) (p : Nat) (e : SlotEntry) : Bool :=
  let m := s.matrix p
  let v := s.txConfig p e.buffer
  txOwner v == 3 && decide (e.paramOffset + e.paramLength ≤ txLength v) &&
  (e.actionOffset == 0xFF || decide (e.actionOffset + 4 ≤ txLength v)) && decide (s.slotTime p e ≤ 1000 * e.length) &&
  decide (matrixRefWindow m ≤ e.start) && decide (e.start + e.length ≤ matrixBasic m) &&
  (matrixSlots m).all (fun f => f.slot == e.slot || !slotsClash e f)

/-- The first thing that fails R428: a slot, or 0xFFFF for the header. -/
def State.scheduleFails (s : State) (p : Nat) : Option Nat :=
  if !s.scheduleHeaderOk p then some 0xFFFF
  else ((matrixSlots (s.matrix p)).find? (fun e => !s.scheduleSlotOk p e)).map SlotEntry.slot

/-- The rule of ScheduleEnable (R428, R430, R435). -/
def scheduleEnableRule (p : Nat) : WriteRule where
  check := fun s _ d =>
    if wval d = 0 then none
    else firstSome [need (p != 0 || s.reg (K.serviceRole 0) == 0) .dependency, need (s.scheduleFails p).isNone .dependency]
  effect := fun s _ seq d =>
    let s := s.putEntry (0x5848 + p) 1 d
    let s : State := if wval d = 0 then (s.scheduleDrop p).cancelSlotCues p
      else
        let s := s.setReg (K.scheduleFault p) 0xFFFF
        s.setCan p { s.can p with refSent := none, refWaiting := false, stepFlag := false }
    s.finish seq .done
  refused := fun s _ a =>
    if a = .dependency then
      match s.scheduleFails p with
      | some n => s.setReg (K.scheduleFault p) (n : Nat)
      | none => s
    else s

/-- SCHEDULE_ENABLE (R428, R430). -/
def execScheduleEnable (slot : Fin 16) (p : Fin 6) (value : BitVec 8) (s : State) : Out :=
  .next (s.request slot (0x5848 + p) 1 (leBytes 1 value.toNat) (scheduleEnableRule p))

/-- The reference message that was not sent in its window is given up (R431). -/
def State.dropReference (s : State) (p : Nat) : State :=
  let x := s.can p
  if x.refWaiting && !(match x.inTx with
      | some (.service f) => f.id == matrixRefId (s.matrix p)
      | _ => false) then
    s.setCan p { x with refWaiting := false, service := x.service.filter (fun f => f.id != matrixRefId (s.matrix p)) }
  else s

/-- The 8 bytes of a reference message (R431). -/
def State.referenceBytes (s : State) (p : Nat) : Bytes :=
  let x := s.can p
  let b := leBytes 1 x.matrixCycle ++ leBytes 1 (x.refSeq % 128 + 128 * b2n x.stepFlag) ++ (match x.refSent with
    | some t => leBytes 4 (t / 1000) ++ leBytes 1 (t % 1000 / 10)
    | none => List.replicate 5 255)
  b ++ leBytes 1 ((b.map BitVec.toNat).sum)

/-- BASIC_CYCLE_START (R429, R431). -/
def execBasicCycleStart (p : Fin 6) (s : State) : Out :=
  let m := s.matrix p
  let len := ticksUs (matrixBasic m)
  if s.reg (K.scheduleEnable p) ≠ 1 || len = 0 || s.tick % len ≠ 0 then .next s
  else
    let s := s.dropReference p
    let s := s.setCan p { s.can p with cycleAt := s.tick, matrixCycle := s.tick / len % matrixCycles m }
    if matrixRefId m = 0xFFFFFFFF || s.reg (K.portState p) ≠ cpActive then
      .next (s.setCan p { s.can p with refSent := none })
    else
      let f : CanFrame := ⟨matrixRefId m, 0, s.referenceBytes p⟩
      let x := s.can p
      let s := s.setCan p { x with refSeq := (x.refSeq + 1) % 128, refSent := none, refWaiting := true, stepFlag := false }
      .next (s.canService p f)

/-- The entry of a slot whose window belongs to the present basic cycle. -/
def State.dueSlot (s : State) (p n : Nat) : Option SlotEntry :=
  (s.slotOf p n).filter (fun e => s.reg (K.scheduleEnable p) == 1 && (s.can p).matrixCycle % e.repeats == e.base)

/-- SLOT_WINDOW_START (R429, R430). -/
def execSlotWindowStart (p : Fin 6) (n : Fin 1024) (s : State) : Out :=
  match s.dueSlot p n with
  | none => .next s
  | some e =>
    let x := s.txBuf p e.buffer
    if s.tick ≠ (s.can p).cycleAt + ticksUs e.start then .next s
    else
      let s := s.dropReference p
      if !x.waiting then .next s
      else if x.action < s.now + s.slotTime p e then
        .next (((s.setTxBuf p e.buffer { x with waiting := false }).bump (K.slotsExpired p)).eventKey .can p (K.slotsExpired p))
      else .next ((s.setTxBuf p e.buffer { x with offered := true }).canStart p)

/-- SLOT_WINDOW_WITHDRAW (R429). -/
def execSlotWindowWithdraw (p : Fin 6) (n : Fin 1024) (s : State) : Out :=
  match s.dueSlot p n with
  | none => .next s
  | some e =>
    let x := s.txBuf p e.buffer
    if !x.offered || s.inTransmission p e.buffer ||
        s.tick + (s.slotTime p e + 9) / 10 < (s.can p).cycleAt + ticksUs (e.start + e.length) then .next s
    else .next ((s.setTxBuf p e.buffer { x with offered := false }).bump (K.windowsMissed p))

/-! ISOBUS (R432, R433) -/

/-- The lowest free address of 128-247 (R432). -/
def State.freeAddress (s : State) (p : Nat) : Option Nat :=
  ((List.range 120).map (· + 128)).find? (fun a => !(s.can p).heard.any (fun h => h.1 == a))

/-- The port loses its address to a lower NAME (R432). -/
def State.loseAddress (s : State) (p : Nat) : State :=
  let s := s.addressGone p 0
  let next := if s.reg K.nameSelfConfigurable = 1 then s.freeAddress p else none
  let s := (s.setFlag (K.portFlags p) pfAddressLost true).eventKey .can p (K.portFlags p)
  match next with
  | some a => s.claimAddress p a
  | none => (s.setReg (K.addressState p) 3).canService p (s.claimFrame 0xFE)

/-- ADDRESS_CLAIMED (R432): a received Address Claimed of address `a` with its NAME, or a Request for Address Claimed. -/
def execAddressClaimed (p : Fin 6) (a : BitVec 8) (name : BitVec 64) (request : Bool) (s : State) : Out :=
  if s.reg (K.isobusEnable p) ≠ 1 || s.reg (K.portState p) ≠ cpActive then .next s
  else
    let mine := s.regN (K.address p)
    let held := s.reg (K.addressState p) == 1 || s.reg (K.addressState p) == 2
    if request then .next (s.canService p (s.claimFrame (if held then mine else 0xFE)))
    else
      let x := s.can p
      let s := s.setCan p { x with heard := x.heard.filter (fun h => h.1 != a.toNat) ++ [(a.toNat, name.toNat)] }
      if !held || mine ≠ a.toNat then .next s
      else if name.toNat < s.isobusNameOf then .next (s.loseAddress p)
      else .next (s.canService p (s.claimFrame mine))

/-- A claim that has stood for 250 ms is CLAIMED (R432, R438). -/
def State.claimStands (s : State) : State :=
  (List.range 6).foldl (fun (s : State) (p : Nat) =>
    if s.reg (K.addressState p) = 1 && (s.can p).claimedAt + ticksMs 250 ≤ s.tick then
      (s.setReg (K.addressState p) 2).setFlag (K.portFlags p) pfAddressLost false
    else s) s

/-- The rule of IsobusEnable (R435, R437). -/
def isobusEnableRule (p : Nat) : WriteRule :=
  settingRule (0x5800 + p) 0x10 (fun s d => firstSome [
    need (s.reg (K.canPortEnable p) == 0) .stateDenied,
    need (p != 0 || wval d == 0 || s.reg (K.serviceRole 0) == 0) .dependency])

/-- ISOBUS_ENABLE (R432). -/
def execIsobusEnable (slot : Fin 16) (p : Fin 6) (value : BitVec 8) (s : State) : Out :=
  .next (s.request slot (0x5800 + p) 0x10 (leBytes 1 value.toNat) (isobusEnableRule p))

/-- A transport session of a port by its sender and form. -/
def State.tpOf (s : State) (p src : Nat) (broadcast extended : Bool) : Option TpSession :=
  (s.can p).tp.find? (fun t => t.source == src && t.broadcast == broadcast && t.extended == extended)

def State.tpDrop (s : State) (p src : Nat) (broadcast extended : Bool) : State :=
  let x := s.can p
  s.setCan p { x with tp := x.tp.filter (fun t => !(t.source == src && t.broadcast == broadcast && t.extended == extended)) }

/-- A connection-management answer to `dst` (ISO 11783-3; notes/assumptions/81.md); none is sent in the 250 ms after a claim (R432). -/
def State.tpAnswer (s : State) (p dst : Nat) (extended : Bool) (data : Bytes) : State :=
  if s.reg (K.addressState p) ≠ 2 then s
  else s.canService p ⟨0x80000000 + 0x1C000000 + (if extended then 0xC8 else 0xEC) * 65536 + dst * 256 + s.regN (K.address p), 0, data⟩

/-- A session begins with its announced size and PGN; at most 8 are held (R433). -/
def State.tpOpen (s : State) (p src pgn size stamp : Nat) (broadcast extended : Bool) : State :=
  let s := s.tpDrop p src broadcast extended
  let x := s.can p
  let fits := if extended then decide (size ≤ 117440505) else decide (size ≤ 1785)
  if 8 ≤ x.tp.length || !fits then
    if broadcast then s else s.tpAnswer p src extended (leBytes 1 255 ++ leBytes 1 1 ++ List.replicate 3 255 ++ leBytes 3 pgn)
  else
    let s := s.setCan p { x with tp := x.tp ++ [⟨src, pgn, broadcast, extended, size, [], stamp⟩] }
    if broadcast then s
    else if extended then s.tpAnswer p src true (leBytes 1 21 ++ leBytes 1 255 ++ leBytes 3 1 ++ leBytes 3 pgn)
    else s.tpAnswer p src false (leBytes 1 17 ++ leBytes 1 (min 255 ((size + 6) / 7)) ++ leBytes 1 1 ++ [255, 255] ++ leBytes 3 pgn)

/-- The data of a packet joins its session; a whole message is handed on with the stamp of its first frame (R433). -/
def State.tpData (s : State) (p : Nat) (t : TpSession) (data : Bytes) : State :=
  let got := (t.got ++ data.drop 1).take t.size
  let s := s.tpDrop p t.source t.broadcast t.extended
  if got.length < t.size then
    let x := s.can p
    s.setCan p { x with tp := x.tp ++ [{ t with got := got }] }
  else
    let s := s.setCan p { s.can p with received := some (t.stamp, t.pgn, got) }
    if t.broadcast then s
    else if t.extended then s.tpAnswer p t.source true (leBytes 1 23 ++ leBytes 4 t.size ++ leBytes 3 t.pgn)
    else s.tpAnswer p t.source false (leBytes 1 19 ++ leBytes 2 t.size ++ leBytes 1 ((t.size + 6) / 7) ++ [255] ++ leBytes 3 t.pgn)

/-- TRANSPORT_PROTOCOL_MESSAGE (R433): a received frame of ISO 11783-3: its 29-bit identifier, its 8 bytes and the capture of
its start of frame. -/
def execTransportProtocolMessage (p : Fin 6) (id : BitVec 29) (data : BitVec 64) (capture : BitVec 32) (s : State) : Out :=
  let pf := id.toNat / 65536 % 256
  let dst := id.toNat / 256 % 256
  let src := id.toNat % 256
  let b := leBytes 8 data.toNat
  let broadcast := dst == 255
  let stamp := s.sofStamp p capture.toNat
  let extended := pf == 0xC8 || pf == 0xC7
  let pgn := fieldU b 5 3
  if s.reg (K.isobusEnable p) ≠ 1 || s.reg (K.portState p) ≠ cpActive || !(broadcast || dst == s.regN (K.address p)) then .next s
  else if pf = 0xEC || pf = 0xC8 then
    match fieldU b 0 1 with
    | 16 => .next (if extended then s else s.tpOpen p src pgn (fieldU b 1 2) stamp false false)
    | 32 => .next (if extended then s else s.tpOpen p src pgn (fieldU b 1 2) stamp true false)
    | 20 => .next (if extended then s.tpOpen p src pgn (fieldU b 1 4) stamp false true else s)
    | 255 => .next (s.tpDrop p src broadcast extended)
    | _ => .next s
  else if pf = 0xEB || pf = 0xC7 then
    match s.tpOf p src broadcast extended with
    | some t => .next (s.tpData p t b)
    | none => .next s
  else .next s

/-! Tests, failures and the service role (R435, R436, R439) -/

/-- The rule of CanLoopTest (R436). -/
def canLoopTestRule : WriteRule where
  check := fun s _ d => need (s.reg (K.portState (wval d)) == cpOffline) .stateDenied
  effect := fun s _ seq d =>
    let p := wval d
    let s := (s.setReg (K.portState p) cpTesting).startItem seq
    s.setCan p { s.can p with loopItem := some seq }

/-- CAN_LOOP_TEST (R436). -/
def execCanLoopTest (slot : Fin 16) (p : BitVec 8) (s : State) : Out :=
  .next (s.request slot 0x5870 0 (leBytes 1 p.toNat) canLoopTestRule)

/-- CAN_LOOP_TEST_END (R436). -/
def execCanLoopTestEnd (p : Fin 6) (pass : Bool) (s : State) : Out :=
  match (s.can p).loopItem with
  | none => .next s
  | some item =>
    let s := s.setCan p { s.can p with loopItem := none }
    let s : State := if s.reg (K.portState p) = cpTesting then s.setReg (K.portState p) cpOffline else s
    let s := s.setFlag (K.portFlags p) pfFailed !pass
    .next (if pass then s.finish item .done else s.finish item .failed Abort.hardwareFault.code)

/-- CONTROLLER_FAILED (R436, R439). -/
def execControllerFailed (p : Fin 6) (s : State) : Out :=
  if s.flag (K.portFlags p) pfFailed then .next s
  else
    let s := s.setFlag (K.portFlags p) pfFailed true
    let s : State := if s.reg (K.canPortEnable p) = 1 then (s.canDropAll p).portLeaves p cpFailed else s
    .next ((s.syncSdo p true).eventKey .can p (K.portFlags p))

/-- TRANSCEIVER_FAULT (R439): a bus line is shorted or TX has stood dominant for 2 ms, or that condition has been over for
`held` ticks. -/
def execTransceiverFault (p : Fin 6) (fault : Bool) (held : Nat) (s : State) : Out :=
  let on := s.flag (K.portFlags p) pfTransceiver
  if fault && !on then
    let s := s.setFlag (K.portFlags p) pfTransceiver true
    let s : State := if s.reg (K.canPortEnable p) = 1 && s.reg (K.portState p) ≠ cpFailed then (s.canDropAll p).portLeaves p cpOffline else s
    .next (s.eventKey .can p (K.portFlags p))
  else if !fault && on && ticksMs 100 ≤ held then
    let s := s.setFlag (K.portFlags p) pfTransceiver false
    .next (if s.reg (K.canPortEnable p) = 1 && s.reg (K.portState p) = cpOffline then s.portStart p else s)
  else .next s

/-- The rule of ServiceRole (R435). -/
def serviceRoleRule (p : Nat) : WriteRule :=
  settingRule (0x5800 + p) 0x13 (fun s d => firstSome [
    need (p == 0 || wval d == 0) .valueInvalid,
    need (wval d == 0 || (s.reg (K.isobusEnable 0) == 0 && s.reg (K.scheduleEnable 0) == 0)) .dependency])
    (fun s => s.syncSdo 0 (s.flag (K.portFlags 0) pfFailed))

/-- SERVICE_ROLE (R435). -/
def execServiceRole (slot : Fin 16) (p : Fin 6) (value : BitVec 8) (s : State) : Out :=
  .next (s.request slot (0x5800 + p) 0x13 (leBytes 1 value.toNat) (serviceRoleRule p))

/-- Nominal rates at which a wake-up frame can be recognised (R434). -/
def State.wakeRate (s : State) (p : Nat) : Bool := [320, 160, 80, 640].contains (s.nominalBitClocks p)

/-- The write rules of 0x5800-0x5870 (R437). -/
def rule14 (idx sub : Nat) : Option WriteRule :=
  if 0x5800 ≤ idx && idx < 0x5806 then
    let p := idx - 0x5800
    let locked (s : State) : Option Abort := need (s.reg (K.canPortEnable p) == 0) .stateDenied
    if sub = 1 then some (portEnableRule p)
    else if sub = 2 then some (settingRule idx sub (fun s d => firstSome [locked s, need (p < 2 || wval d != 2) .dependency]))
    else if sub = 0x0C then some (settingRule idx sub (fun s d => firstSome [locked s, need (2 ≤ p || wval d == 0) .dependency]))
    else if sub = 0x10 then some (isobusEnableRule p)
    else if sub = 0x13 then some (serviceRoleRule p)
    else some (settingRule idx sub (fun s _ => locked s))
  else if 0x5810 ≤ idx && idx < 0x5816 then
    let p := idx - 0x5810
    some (settingRule idx sub (fun s d => firstSome [
      need (s.reg (K.canPortEnable p) == 0) .stateDenied,
      need (sub != 1 || wval d != 2 || s.wakeRate p) .dependency]))
  else if 0x5820 ≤ idx && idx < 0x5826 then some (canTxConfigRule (idx - 0x5820) (sub - 1))
  else if 0x5830 ≤ idx && idx < 0x5836 then some (canTxDataRule (idx - 0x5830) (sub - 1))
  else if 0x5840 ≤ idx && idx < 0x5846 then some (scheduleMatrixRule (idx - 0x5840))
  else if 0x5848 ≤ idx && idx < 0x584E then if sub = 1 then some (scheduleEnableRule (idx - 0x5848)) else none
  else if 0x5850 ≤ idx && idx < 0x5856 then some (settingRule idx sub)
  else if idx = 0x5860 then
    some (settingRule idx sub (fun s _ => need (!(List.range 6).any (fun p => s.reg (K.isobusEnable p) == 1)) .stateDenied))
  else if idx = 0x5870 then some canLoopTestRule
  else none

end Sys2Proof.Machine
end

