-- ==== Sys2Proof/Machine/Expo.lean ====
section
/-!
DEFINITION. The exponential of the filters of R333 and R351, computed in fixed point.
-/
namespace Sys2Proof.Machine

/-- One in the fixed point of the exponential: 2^96. -/
abbrev expOne : Int := 2 ^ 96

/-- Terms of the series of exp(-x) from the k-th on. -/
def expTerms (x : Int) : Nat → Nat → Int → Int
  | 0, _, _ => 0
  | f + 1, k, t => t + expTerms x f (k + 1) (-(t * x) / (expOne * ((k : Int) + 1)))

/-- exp(-x) for x in 2^-96, up to 8. -/
def expNeg (x : Int) : Int := expTerms x 48 0 expOne

/-- exp(-x) for any x in 2^-96 that is not negative: the eighth power of exp(-x / 8); nothing from 64 on. -/
def expFall (x : Int) : Int :=
  if 64 * expOne ≤ x then 0
  else
    let sq (y : Int) : Int := y * y / expOne
    sq (sq (sq (expNeg (x / 8))))

/-- pi in 2^-96. -/
abbrev piQ : Int := 3141592653589793238462643383279503 * expOne / 10 ^ 33

end Sys2Proof.Machine
end

