-- ==== Sys2Proof/Machine/Solenoids.lean ====
section
/-!
DEFINITION. The commands of 09_solenoid_banks.md. A stitch's own command takes the present sample of the channel current in
mA; `held` is for how many ticks, up to this one, a measured condition has held without a break.
-/
namespace Sys2Proof.Machine

/-! ### Stitches in a run (R271-R284) -/

/-- The next stitch of the program falls due in this tick; END is entered at once (R274, R277). -/
def State.svGoto (s : State) (ch i : Nat) : State :=
  let x := s.svCh ch
  if stOp (stitchAt x.program i) = 0 then s.svToEnd ch
  else
    let s := s.setSv ch { x with
                                 begun := false, due := s.tick, boost := .unset, waitCounted := false, roomCounted := false,
                                 checking := false, reached := none }
    s.setReg (K.stitchIndex ch) (i : Nat)

def State.svNext (s : State) (ch : Nat) : State := s.svGoto ch (s.regN (K.stitchIndex ch) + 1)

/-- The present stitch begins (R277). -/
def State.svBegin (s : State) (ch : Nat) (c : OutCond) : State :=
  let x := s.svCh ch
  s.setSv ch { x with begun := true, start := s.tick, cond := c, condSince := if x.cond = c then x.condSince else s.tick }

/-- The triangle of a dither (R272): it starts at phase 0 and rises first; `t` in ticks since its stitch. -/
def dither (amp freq t : Nat) : Int :=
  if amp = 0 || freq = 0 then 0
  else
    let p := 10 ^ 8 / freq
    let x := t % p
    let q : Int := amp * 4 * (if 4 * x ≤ p then (x : Int) else if 4 * x ≤ 3 * p then (p : Int) / 2 - x else (x : Int) - p)
    q.tdiv p

/-- The setpoint with dither, between 0 and the grant (R272, R282). -/
def State.svTarget (s : State) (ch base : Nat) : Nat :=
  let x := s.svCh ch
  (clampI 0 (s.reg (K.grant ch)) ((base : Nat) + dither x.ditherAmp x.ditherFreq (s.tick - x.ditherStart))).toNat

/-- One sample of the regulator at `target` (R277): outside the band DRIVE or SLOW_DECAY, inside it the condition stays, and each
condition lasts at least 5 us. `base` is the setpoint without its dither, from which a RAMP goes on. -/
def State.svRegulate (s : State) (ch base target mA : Nat) : State :=
  let x := s.svCh ch
  let s := s.setReg (K.svSetpoint ch) (target : Nat)
  let band := s.regN (K.regBand ch)
  let want := if 2 * mA + band < 2 * target then OutCond.drive else if 2 * target + band < 2 * mA then .slowDecay else x.cond
  if want = x.cond || s.tick < x.condSince + ticksUs 5 then s.setSv ch { s.svCh ch with setpoint := base }
  else s.setSv ch { s.svCh ch with setpoint := base, cond := want, condSince := s.tick }

/-- The regulator of a stitch whose setpoint the grant limits and the dither shifts (R272, R282). -/
def State.svHold (s : State) (ch base mA : Nat) : State :=
  s.svRegulate ch (min base (s.regN (K.grant ch))) (s.svTarget ch base) mA

/-- A sample of the channel current (R277, R293): it is shown, and a channel that runs nothing is OFF once it is below 50 mA
(R268, R278). -/
def State.svMeasured (s : State) (ch mA : Nat) : State :=
  let s := s.setReg (K.svCurrent ch) (min 65535 mA : Nat)
  let st := s.reg (K.svState ch)
  if mA < 50 && st ≠ svRunning && st ≠ svDecaying && (s.svCh ch).cond = .fastDecay then
    s.setSv ch { s.svCh ch with cond := .off, condSince := s.tick }
  else s

/-- The channel runs a stitch with opcode `op`. -/
def State.runs (s : State) (ch op : Nat) : Bool := s.reg (K.svState ch) == svRunning && stOp (s.presentStitch ch) == op

/-- A failed time-to-peak check (R290). -/
def State.ttpFail (s : State) (ch bit : Nat) : State :=
  let s := (s.setFlag (K.svFlags ch) bit true).bump (K.ttpFaults ch)
  if s.reg (K.ttpAction ch) = 1 then s.svFail ch bit else s

/-- A peak stitch's current is at its I for the first time (R290): its time is recorded and checked. -/
def State.ttpReached (s : State) (ch mA : Nat) : State :=
  let x := s.svCh ch
  match x.window with
  | some (lo, hi) =>
    if x.checking && x.reached.isNone && decide (x.peakI ≤ mA) then
      let t := s.tick - x.start
      let s := (s.setSv ch { x with reached := some t }).setReg (K.lastTimeToPeak ch) (min (2 ^ 32 - 1) (t * 10) : Nat)
      if t < ticksUs lo then s.ttpFail ch 4 else if ticksUs hi < t then s.ttpFail ch 5 else s
    else s
  | none => s

/-- A peak stitch ends (R290): without its current the check fails late, and the stitch length is recorded; the window is used up. -/
def State.ttpEnd (s : State) (ch : Nat) : State :=
  let x := s.svCh ch
  let late := x.checking && x.reached.isNone && x.window.isSome
  let s := s.setSv ch { x with window := none, checking := false }
  if late then (s.setReg (K.lastTimeToPeak ch) (min (2 ^ 32 - 1) (stT (s.presentStitch ch) * 10) : Nat)).ttpFail ch 5 else s

/-- A peak stitch ends with its boost phase, and the next one follows, where the check has not stopped the channel. -/
def State.peakEnd (s : State) (ch : Nat) : State :=
  let s := (s.ttpEnd ch).svDropBoost ch
  if s.reg (K.svState ch) = svRunning then s.svNext ch else s

/-! ### The boost and the peak budget (R282, R283) -/

/-- The boost of a bank is free (R282). -/
def State.boostFree (s : State) (b : Nat) : Bool :=
  s.reg (K.boostOwner b) == 0xFF &&
  decide (s.reg K.boostReadyLevel * s.reg (K.boostVoltage b) ≤ 100 * s.reg (K.boostMeasured b))

/-- The request tick of a channel in the boost queue (R282): a banked start whose program boosts first, or a BOOST stitch
that has fallen due. -/
def State.boostRequest (s : State) (ch : Nat) : Option Nat :=
  let x := s.svCh ch
  let stitch := if s.runs ch 1 && !x.begun && x.boost == .unset then some x.due else none
  match x.pending with
  | some p => if p.banked && firstIsBoost p.program then some (match stitch with
      | some d => min d p.req
      | none => p.req) else stitch
  | none => stitch

/-- A channel heads the boost queue of its bank. -/
def State.headsBoost (s : State) (ch req : Nat) : Bool :=
  (bankChannels (svBank ch)).all (fun c => match s.boostRequest c with
    | some r => c == ch || decide (req < r) || (req == r && decide (ch < c))
    | none => true)

/-- The wait limit in ticks. -/
def State.deferTicks (s : State) : Nat := ticksUs (s.regN K.boostDeferLimit)

/-- The boost supply of a bank has failed (R295). -/
def State.boostFailed (s : State) (b : Nat) : Bool := s.flag (K.bankFlags b) 0

/-- How a BOOST stitch that has fallen due goes on (R282): with the boost, without it, or waiting. -/
def State.decideBoost (s : State) (ch req : Nat) : BoostMode :=
  if s.boostFailed (svBank ch) then .starved
  else if s.boostFree (svBank ch) && s.headsBoost ch req then .granted
  else if req + s.deferTicks ≤ s.tick then .starved
  else .unset

/-- Counts a wait for the boost once (R282). -/
def State.countBoostWait (s : State) (ch : Nat) : State := s.bump (K.boostDeferrals (svBank ch))
def State.countRoomWait (s : State) (ch : Nat) : State := s.bump (K.bankLimitDeferrals (svBank ch))

/-- The boost phase of a channel (R269, R282). -/
def State.takeBoost (s : State) (ch : Nat) (m : BoostMode) : State :=
  let b := svBank ch
  let was := (s.svCh ch).boost
  let s := s.setSv ch { s.svCh ch with boost := m }
  if m = .granted then s.setReg (K.boostOwner b) (ch : Nat)
  else if m = .starved && was ≠ .starved then (s.setFlag (K.svFlags ch) 0 true).bump (K.boostStarvedRuns b)
  else s

/-- How the due PEAK or BOOST stitch of a channel goes on (R282); a PEAK needs no boost. -/
def State.peakMode (s : State) (ch : Nat) : BoostMode :=
  let x := s.svCh ch
  if stOp (s.presentStitch ch) ≠ 1 || x.boost ≠ .unset then x.boost else s.decideBoost ch x.due

/-- A due stitch may begin as far as the boost is concerned. -/
def State.peakReady (s : State) (ch : Nat) : Bool :=
  s.peakDue ch && (stOp (s.presentStitch ch) == 2 || s.peakMode ch != .unset)

/-- The due stitches of the other channels of a bank that the queue takes before the one of a channel (R283): by the tick in which they
fell due, then by channel. -/
def State.peakQueue (s : State) (ch : Nat) : List Nat :=
  let due (c : Nat) : Nat := (s.svCh c).due * 64 + c
  (sortBy (fun a c => decide (due a ≤ due c)) ((bankChannels (svBank ch)).filter (fun c => c != ch && s.peakReady c))).filter
    (fun c => decide (due c < due ch))

/-- The room in the peak budget for a channel's stitch of current `i` (R283): what the running stitches leave, less the stitches that
the queue takes before it. -/
def State.peakRoom (s : State) (ch : Nat) : Nat :=
  (s.peakQueue ch).foldl (fun room c => if stMa (s.presentStitch c) ≤ room then room - stMa (s.presentStitch c) else room)
    (s.regN K.bankPeakLimit - s.peakLoadOfOthers ch)

/-- The stitch begins with current `i`: a BOOST takes its boost and drives, a PEAK keeps its condition for the regulator (R277). -/
def State.peakRun (s : State) (ch i : Nat) (m : BoostMode) (check : Bool) : State :=
  let s := if stOp (s.presentStitch ch) = 1 then (s.takeBoost ch m).svBegin ch .drive else s.svBegin ch (s.svCh ch).cond
  (s.setSv ch { s.svCh ch with peakI := i, setpoint := i, checking := check, reached := none }).setReg (K.svSetpoint ch) (i : Nat)

/-- A PEAK or BOOST stitch that may run asks the peak budget of its bank (R283): it begins, begins lowered or is skipped at the defer
limit, or waits, its channel regulating from the supply meanwhile. -/
def State.peakBegin (s : State) (ch mA : Nat) (m : BoostMode) : State :=
  let x := s.svCh ch
  let i := stMa (s.presentStitch ch)
  let room := s.peakRoom ch
  if i ≤ room then s.peakRun ch i m (x.window.isSome && m != .starved)
  else if x.due + s.deferTicks ≤ s.tick then
    let s := ((s.setFlag (K.svFlags ch) 1 true).bump (K.bankLimitClips (svBank ch))).setSv ch { x with window := none, checking := false }
    if room < 1000 then (s.svDropBoost ch).svNext ch else s.peakRun ch room m false
  else
    let s := if m = .granted then (s.svDropBoost ch).setSv ch { x with boost := .unset } else s
    let s := if x.roomCounted then s else (s.setSv ch { s.svCh ch with roomCounted := true }).countRoomWait ch
    s.svRegulate ch (min (s.regN (K.grant ch)) i) (min (s.regN (K.grant ch)) i) mA

/-- A due BOOST stitch (R282, R283): it begins, or waits for the boost in its present condition. -/
def State.boostBegin (s : State) (ch mA : Nat) : State :=
  let m := s.peakMode ch
  if m ≠ .unset then s.peakBegin ch mA m
  else if (s.svCh ch).waitCounted then s
  else (s.setSv ch { s.svCh ch with waitCounted := true }).countBoostWait ch

/-- A due PEAK stitch, with the first sample of its regulator where it begins (R277, R283). -/
def State.supplyPeak (s : State) (ch mA : Nat) : State :=
  let t := s.peakBegin ch mA (s.svCh ch).boost
  if t.inPeak ch then t.svRegulate ch (t.svCh ch).peakI (t.svCh ch).peakI mA else t

/-! ### Starts (R280-R284) -/

/-- The current of a program's first stitch that takes time, where that is a BOOST (R282, R290). -/
def firstBoostMa : List Nat → Nat
  | [] => 0
  | w :: t => if stOp w = 7 || stOp w = 8 then firstBoostMa t else stMa w

/-- The boost of a program that begins with it: its phase begins at once where the peak budget has room for it (R282, R283); else the
stitch asks again as it waits (notes/assumptions/168.md). -/
def State.firstBoost (s : State) (ch : Nat) (program : List Nat) (m : BoostMode) : State :=
  if m = .granted && s.regN K.bankPeakLimit < s.peakLoadOfOthers ch + firstBoostMa program then s else s.takeBoost ch m

/-- A program begins (R282, R284, R294): stitch 0 falls due as of the request tick, OnTime continues across a restart. -/
def State.svBeginProgram (s : State) (ch : Nat) (p : PendStart) (m : BoostMode) : State :=
  let s := s.svDropBoost ch
  let x := s.svCh ch
  let was := x.runningSince
  let s := s.setSv ch { x with
    program := p.program, begun := false, due := p.req, start := s.tick, boost := .unset, waitCounted := p.boostCounted,
    roomCounted := false, ditherAmp := 0, loops := ⟨[]⟩, window := none, checking := false, reached := none, pending := none,
    runningSince := some (was.getD s.tick), binFrom := if was.isSome then x.binFrom else s.tick }
  let s := ([0, 1, 2, 4, 5, 7, 14].foldl (fun s b => s.setFlag (K.svFlags ch) b false) s).setReg (K.svState ch) svRunning
  let s := ((s.setReg (K.program ch) (p.number : Nat)).setReg (K.stitchIndex ch) 0).setReg (K.grant ch) (p.grant : Nat)
  let s := (s.bump (K.starts ch)).finishOpt p.item .done
  let s := if p.clipped then s.setFlag (K.svFlags ch) 1 true else s
  let s := if firstIsBoost p.program then s.firstBoost ch p.program m else s
  let s := if stOp (stitchAt p.program 0) = 0 then s.svToEnd ch else s
  s.showClaims (svBank ch)

def State.setPend (s : State) (ch : Nat) (p : PendStart) : State := s.setSv ch { s.svCh ch with pending := some p }

/-- The arbitration of one pending start (R282). -/
def State.arbitrateOne (s : State) (ch : Nat) : State :=
  match (s.svCh ch).pending with
  | none => s
  | some p =>
    let late := decide (p.req + s.deferTicks ≤ s.tick)
    let room : Int := s.reg K.bankContinuousLimit - (s.claimsOfOthers ch : Nat)
    let s : State :=
      if p.banked then s
      else if (p.claim : Int) ≤ room then s.setPend ch { p with grant := p.claim, banked := true }
      else if late then
        (s.setPend ch { p with grant := (max room 0).toNat, banked := true, clipped := true }).bump (K.bankLimitClips (svBank ch))
      else if p.roomCounted then s
      else (s.setPend ch { p with roomCounted := true }).countRoomWait ch
    match (s.svCh ch).pending with
    | none => s
    | some p =>
      if !p.banked then s
      else if !firstIsBoost p.program then s.svBeginProgram ch p .unset
      else match s.decideBoost ch p.req with
        | .unset => if p.boostCounted then s else (s.setPend ch { p with boostCounted := true }).countBoostWait ch
        | m => s.svBeginProgram ch p m

/-- Channels of a bank with a pending start, by request tick, then channel number. -/
def State.startOrder (s : State) (b : Nat) : List Nat :=
  let key (ch : Nat) : Nat := match (s.svCh ch).pending with
    | some p => p.req * 64 + ch
    | none => 0
  sortBy (fun a c => decide (key a ≤ key c)) ((bankChannels b).filter (fun ch => (s.svCh ch).pending.isSome))

/-! ### Write rules (R273, R288-R294) -/

/-- Fields of an SvCommand value. -/
def svAction (d : Bytes) : Nat := fieldU d 0 1
def svProgram (d : Bytes) : Nat := fieldU d 1 1

/-- The rule of SvCommand (R288). -/
def svCommandRule (ch : Nat) : WriteRule where
  owner := fun s _ => s.reg (K.svOwner ch) != 3
  aim := fun _ _ => aimSv ch
  check := fun s _ d =>
    let st := s.reg (K.svState ch)
    let p := s.programOf (svProgram d)
    let start := svAction d == 1
    firstSome [
      need ((start && decide (svProgram d < 64)) || (svAction d == 2 && svProgram d == 0)) .valueInvalid,
      need (st != svDisabled && st != svTesting && (st == svFault || s.reg (K.svEnable ch) == 1)) .functionDisabled,
      need (st != svFault) .hardwareFault,
      need (!start || (!p.isEmpty && !holdsExt p)) .dependency,
      need (!start || !s.flag (K.svFlags ch) 3) .stateDenied,
      need (!start || (s.svCh ch).pending.isNone) .busy]
  effect := fun s _ seq d =>
    let s := s.startItem seq
    if svAction d = 1 then s.svStart ch (svProgram d) (some seq) else s.svRelease ch

/-- The rule of SvEnable (R289, R293). -/
def svEnableRule (ch : Nat) : WriteRule where
  aim := fun _ _ => aimSv ch
  check := fun s _ d =>
    if wval d = 0 || s.reg (K.svEnable ch) = 1 then none
    else firstSome [need (s.reg (K.bankEnable (svBank ch)) == 1) .dependency, need (s.reg (K.svOwner ch) != 0) .dependency]
  effect := fun s _ seq d =>
    if wval d = 1 then
      let s := s.settle (0x4020 + ch) 1 seq d
      if s.reg (K.svState ch) = svDisabled then s.setReg (K.svState ch) svOff else s
    else if s.reg (K.svEnable ch) ≠ 1 then s.settle (0x4020 + ch) 1 seq d
    else
      let s := (s.startItem seq).beginDisable (aimSv ch) seq (s.tick + ticksMs 10)
      let s := (s.setSv ch { s.svCh ch with pending := none }).setFlag (K.svFlags ch) 14 false
      let s := if s.reg (K.svState ch) = svWaiting then s.setReg (K.svState ch) svOff else s
      if s.reg (K.svState ch) = svRunning then s else s.svDisableDone ch

/-- The rule of SvSelfTest (R292). -/
def svSelfTestRule (ch : Nat) : WriteRule where
  aim := fun _ _ => aimSv ch
  check := fun s _ _ => need (s.reg (K.svEnable ch) == 0 &&
    (s.reg (K.svState ch) == svDisabled || s.reg (K.svState ch) == svFault)) .stateDenied
  effect := fun s _ seq _ =>
    ((s.startItem seq).setSv ch { (s.startItem seq).svCh ch with testItem := some seq }).setReg (K.svState ch) svTesting

/-- BANK_OVERLOAD clears once no channel of the bank is in FAULT (R295). -/
def State.showOverload (s : State) (b : Nat) : State :=
  if (bankChannels b).any (fun c => s.reg (K.svState c) == svFault) then s else s.setFlag (K.bankFlags b) 2 false

/-- The rule of SvFaultClear (R294, R295): a failed self-test clears by a passing one only. -/
def svFaultClearRule (ch : Nat) : WriteRule where
  check := fun s _ _ => need (!(s.flag (K.svFlags ch) 10 && (s.svCh ch).shortNow) &&
    !(s.flag (K.svFlags ch) 11 && (s.svCh ch).hotNow)) .stateDenied
  aim := fun _ _ => aimSv ch
  effect := fun s _ seq _ =>
    let s := [4, 5, 8, 9, 10, 11, 12].foldl (fun s b => s.setFlag (K.svFlags ch) b false) s
    let s := if s.reg (K.svState ch) = svFault then s.setReg (K.svState ch) (s.svIdleState ch) else s
    (s.showOverload (svBank ch)).finish seq .done

/-- The rule of StitchProgram (R273, R276). -/
def stitchProgramRule (p : Nat) : WriteRule :=
  settingRule (0x4100 + p) 0 (fun _ d => need (programOk d) .valueInvalid)
    (fun s => s.setReg (K.programClaim p) (programClaim (s.programOf p) : Nat))

/-- The rule of BankEnable (R293, R295). -/
def bankEnableRule (b : Nat) : WriteRule :=
  settingRule (0x4000 + b) 1
    (fun s d => need (wval d == 1 || (bankChannels b).all (fun c => s.reg (K.svEnable c) == 0)) .dependency)
    (fun s =>
      if s.reg (K.bankEnable b) = 0 then (s.setReg (K.bankState b) 0).setFlag (K.bankFlags b) 0 false
      else if s.reg (K.bankState b) = 0 then s.setReg (K.bankState b) 1 else s)

/-- The rule of a setting of a channel (R92, R293). -/
def svSettingRule (idx sub ch : Nat) : WriteRule :=
  { lockedRule idx sub (fun s => s.reg (K.svEnable ch) == 1) with aim := fun _ _ => aimSv ch }

/-- The write rules of 0x4000-0x4180 (R293). -/
def rule09 (idx sub : Nat) : Option WriteRule :=
  if 0x4000 ≤ idx && idx < 0x4008 then
    let b := idx - 0x4000
    if sub = 1 then some (bankEnableRule b) else some (lockedRule idx sub (fun s => s.reg (K.bankEnable b) == 1))
  else if idx = 0x4012 then some (settingRule idx sub)
  else if 0x4020 ≤ idx && idx < 0x4040 then
    let ch := idx - 0x4020
    if sub = 1 then some (svEnableRule ch)
    else if sub = 0x0C then some (svCommandRule ch)
    else if sub = 0x0D then some (svSelfTestRule ch)
    else if sub = 0x0E then some (svFaultClearRule ch)
    else some (svSettingRule idx sub ch)
  else if 0x4100 ≤ idx && idx < 0x4140 then some (stitchProgramRule (idx - 0x4100))
  else none

/-! ### Commands -/

/-- STITCH_END (R272): SLOW_DECAY to Ic, with FAST then FAST_DECAY; OFF below 50 mA. -/
def execStitchEnd (ch : Fin 32) (mA : Nat) (s : State) : Out :=
  let s := s.svMeasured ch mA
  if s.reg (K.svState ch) ≠ svDecaying then .next s
  else
    let w := s.presentStitch ch
    let x := s.svCh ch
    if mA < 50 then .next (s.svToOff ch)
    else if w / 1024 % 2 = 1 && mA ≤ stMa w && x.cond = .slowDecay then
      .next (s.setSv ch { x with cond := .fastDecay, condSince := s.tick })
    else .next s

/-- STITCH_BOOST (R272, R282, R283). -/
def execStitchBoost (ch : Fin 32) (mA : Nat) (s : State) : Out :=
  let s := s.svMeasured ch mA
  if !s.runs ch 1 then .next s
  else
    let x := s.svCh ch
    if x.begun then .next (s.ttpReached ch mA) else .next (s.boostBegin ch mA)

/-- STITCH_PEAK (R272, R283): regulation at I from the supply. -/
def execStitchPeak (ch : Fin 32) (mA : Nat) (s : State) : Out :=
  let s := s.svMeasured ch mA
  if !s.runs ch 2 then .next s
  else if (s.svCh ch).begun then
    let s := s.ttpReached ch mA
    .next (if s.reg (K.svState ch) = svRunning then s.svRegulate ch (s.svCh ch).peakI (s.svCh ch).peakI mA else s)
  else .next (s.supplyPeak ch mA)

/-- STITCH_HOLD (R272). -/
def execStitchHold (ch : Fin 32) (mA : Nat) (s : State) : Out :=
  let s := s.svMeasured ch mA
  if !s.runs ch 3 then .next s
  else
    let s := if (s.svCh ch).begun then s else s.svBegin ch (s.svCh ch).cond
    .next (s.svHold ch (stMa (s.presentStitch ch)) mA)

/-- STITCH_RAMP (R272): a straight line from the present setpoint. -/
def execStitchRamp (ch : Fin 32) (mA : Nat) (s : State) : Out :=
  let s := s.svMeasured ch mA
  if !s.runs ch 4 then .next s
  else
    let x := s.svCh ch
    let s := if x.begun then s
      else (s.svBegin ch x.cond).setSv ch { (s.svBegin ch x.cond).svCh ch with rampFrom := x.setpoint }
    let x := s.svCh ch
    let w := s.presentStitch ch
    let t : Int := (min (s.tick - x.start) (stT w) : Nat)
    let base := (x.rampFrom : Int) + (((stMa w : Int) - x.rampFrom) * t).tdiv (max 1 (stT w) : Nat)
    .next (s.svHold ch base.toNat mA)

/-- FREEWHEEL and CLAMP begin with their decay and a setpoint of 0. -/
def State.svDecayStitch (s : State) (ch op : Nat) (c : OutCond) : State :=
  if !s.runs ch op || (s.svCh ch).begun then s
  else
    let s := s.svBegin ch c
    (s.setSv ch { s.svCh ch with setpoint := 0 }).setReg (K.svSetpoint ch) 0

/-- STITCH_FREEWHEEL (R272). -/
def execStitchFreewheel (ch : Fin 32) (mA : Nat) (s : State) : Out :=
  .next ((s.svMeasured ch mA).svDecayStitch ch 5 .slowDecay)

/-- STITCH_CLAMP (R272). -/
def execStitchClamp (ch : Fin 32) (mA : Nat) (s : State) : Out :=
  .next ((s.svMeasured ch mA).svDecayStitch ch 6 .fastDecay)

/-- STITCH_WINDOW (R290). -/
def execStitchWindow (ch : Fin 32) (s : State) : Out :=
  if !s.runs ch 7 then .next s
  else
    let w := s.presentStitch ch
    let x := s.svCh ch
    let s := s.svNext ch
    .next (s.setSv ch { s.svCh ch with window := some (w % 16384, w / 16384 % 16384), boost := x.boost, due := x.due })

/-- STITCH_DITHER (R272). -/
def execStitchDither (ch : Fin 32) (s : State) : Out :=
  if !s.runs ch 8 then .next s
  else
    let w := s.presentStitch ch
    let x := s.svCh ch
    let s := s.svNext ch
    .next (s.setSv ch { s.svCh ch with
      ditherAmp := w % 256 * 10, ditherFreq := w / 256 % 4096, ditherStart := s.tick, boost := x.boost, due := x.due,
      window := x.window })

/-- STITCH_LOOP (R272): jumps to its target count times, then falls through. -/
def execStitchLoop (ch : Fin 32) (s : State) : Out :=
  if !s.runs ch 9 then .next s
  else
    let w := s.presentStitch ch
    let i := s.regN (K.stitchIndex ch)
    let x := s.svCh ch
    let done := x.loops.get 0 i
    if done < w / 64 % 65536 then .next ((s.setSv ch { x with loops := x.loops.set 0 i (done + 1) }).svGoto ch (w % 64))
    else .next ((s.setSv ch { x with loops := x.loops.set 0 i 0 }).svNext ch)

/-- STITCH_HOLD_EXT (R272, R287). -/
def execStitchHoldExt (ch : Fin 32) (mA : Nat) (s : State) : Out :=
  let s := s.svMeasured ch mA
  if !s.runs ch 10 then .next s
  else
    let s := if (s.svCh ch).begun then s else s.svBegin ch (s.svCh ch).cond
    if s.reg (K.svOwner ch) = 2 then .next (s.svHold ch (s.svCh ch).ext mA)
    else .next ((s.setFlag (K.svFlags ch) 7 true).svRegulate ch 0 0 mA)

/-- The stitch has a time limit (R272): BOOST, PEAK and RAMP always, the others with a count above 0. -/
def timedStitch (w : Nat) : Bool :=
  match stOp w with
  | 1 => true
  | 2 => true
  | 4 => true
  | 3 => stCount w != 0
  | 5 => stCount w != 0
  | 6 => stCount w != 0
  | 10 => stCount w != 0
  | _ => false

/-- STITCH_TIMER_EXPIRY (R277). -/
def execStitchTimerExpiry (ch : Fin 32) (s : State) : Out :=
  let w := s.presentStitch ch
  let x := s.svCh ch
  if s.reg (K.svState ch) ≠ svRunning || !x.begun || !timedStitch w || s.tick < x.start + stT w then .next s
  else if stOp w = 1 || stOp w = 2 then .next (s.peakEnd ch)
  else if stOp w = 4 then
    .next (((s.setSv ch { x with setpoint := min (stMa w) (s.regN (K.grant ch)) }).setReg (K.svSetpoint ch)
      (s.svTarget ch (stMa w) : Nat)).svNext ch)
  else .next (s.svNext ch)

/-- STITCH_CURRENT_REACHED (R272, R277): BOOST ends at its I; FREEWHEEL and CLAMP end at or below theirs. -/
def execStitchCurrentReached (ch : Fin 32) (mA : Nat) (s : State) : Out :=
  let s := s.svMeasured ch mA
  let w := s.presentStitch ch
  let x := s.svCh ch
  let low := if stI w = 0 then decide (mA < 50) else decide (mA ≤ stMa w)
  if s.reg (K.svState ch) ≠ svRunning || !x.begun then .next s
  else if stOp w = 1 then
    if x.peakI ≤ mA then
      let s := s.ttpReached ch mA
      .next (if s.reg (K.svState ch) = svRunning then s.peakEnd ch else s)
    else .next s
  else if (stOp w = 5 || stOp w = 6) && low then .next (s.svNext ch)
  else .next s

/-- BANK_ARBITRATE (R282): `boost` is the bank's boost supply in mV. -/
def execBankArbitrate (b : Fin 8) (boost : Nat) (s : State) : Out :=
  let s := s.setReg (K.boostMeasured b) (min 65535 boost : Nat)
  .next (((s.startOrder b).foldl State.arbitrateOne s).showClaims b)

/-- BOOST_DEFER_EXPIRY (R282, R283): a start or a stitch that has waited BoostDeferLimit goes on. -/
def execBoostDeferExpiry (ch : Fin 32) (mA : Nat) (s : State) : Out :=
  let x := s.svCh ch
  match x.pending with
  | some p => if p.req + s.deferTicks ≤ s.tick then .next ((s.arbitrateOne ch).showClaims (svBank ch)) else .next s
  | none =>
    if s.tick < x.due + s.deferTicks || x.begun then .next s
    else if s.runs ch 1 then .next (s.boostBegin ch mA)
    else if s.runs ch 2 then .next (s.supplyPeak ch mA)
    else .next s

/-- The maximum on-time has been reached: the trip is shown, and a context must deliver 0 before the next start (R285, R287). -/
def State.maxOnTrip (s : State) (ch : Nat) : State :=
  let s := s.setSv ch { s.svCh ch with extNeedZero := s.reg (K.svOwner ch) == 2, ended := none }
  (s.setFlag (K.svFlags ch) 2 true).bump (K.maxOnTrips ch)

/-- MAX_ON_TIME (R285). Where the duty limit has ended the run in this tick, END is not entered again (R286). -/
def execMaxOnTime (ch : Fin 32) (s : State) : Out :=
  let m := s.regN (K.maxOnTime ch)
  if m = 0 then .next s
  else if s.reg (K.svState ch) = svRunning && s.heldFor (s.svCh ch).runningSince (ticksMs m) then
    .next (((s.svDiscardPending ch .stateDenied).svToEnd ch).maxOnTrip ch)
  else match (s.svCh ch).ended with
    | some (t, from_) => .next (if t = s.tick && from_ + ticksMs m ≤ s.tick then s.maxOnTrip ch else s)
    | none => .next s

/-- DUTY_BIN_BOUNDARY (R286): at each millisecond of tick count. -/
def execDutyBinBoundary (ch : Fin 32) (s : State) : Out :=
  if s.tick % ticksMs 1 ≠ 0 then .next s
  else
    let x := s.svCh ch
    let bin := x.binAcc + (if x.runningSince.isSome then s.tick - x.binFrom else 0)
    let window := s.regN (K.dutyWindow ch)
    let bins := (bin :: x.bins).take 60000
    let s := s.setSv ch { x with bins := bins, binAcc := 0, binFrom := s.tick }
    let sum := (bins.take window).sum
    let whole := ticksMs window
    let s := s.setReg (K.dutyShare ch) (min 100 (100 * sum / whole) : Nat)
    let lim := s.regN (K.dutyLimit ch)
    if lim < 100 && lim * whole ≤ 100 * sum then
      if s.flag (K.svFlags ch) 3 then .next s
      else
        let s := s.svDiscardPending ch .stateDenied
        let run := (s.svCh ch).runningSince
        let s := if s.reg (K.svState ch) = svRunning then
            (s.svToEnd ch).setSv ch { (s.svToEnd ch).svCh ch with ended := run.map (fun t => (s.tick, t)) }
          else s
        .next ((s.setFlag (K.svFlags ch) 3 true).bump (K.dutyTrips ch))
    else if 100 * sum ≤ (lim - s.regN (K.dutyHysteresis ch)) * whole then .next (s.setFlag (K.svFlags ch) 3 false)
    else .next s

/-- SV_COMMAND_START (R288). -/
def execSvCommandStart (slot : Fin 16) (ch : Fin 32) (program : BitVec 8) (s : State) : Out :=
  .next (s.request slot (0x4020 + ch) 0x0C (leBytes 1 1 ++ leBytes 1 program.toNat) (svCommandRule ch))

/-- SV_COMMAND_RELEASE (R288). -/
def execSvCommandRelease (slot : Fin 16) (ch : Fin 32) (s : State) : Out :=
  .next (s.request slot (0x4020 + ch) 0x0C (leBytes 1 2 ++ leBytes 1 0) (svCommandRule ch))

/-- SV_ENABLE (R289). -/
def execSvEnable (slot : Fin 16) (ch : Fin 32) (value : BitVec 8) (s : State) : Out :=
  .next (s.request slot (0x4020 + ch) 0x01 (leBytes 1 value.toNat) (svEnableRule ch))

/-- SV_SELF_TEST (R292). -/
def execSvSelfTest (slot : Fin 16) (ch : Fin 32) (value : BitVec 8) (s : State) : Out :=
  .next (s.request slot (0x4020 + ch) 0x0D (leBytes 1 value.toNat) (svSelfTestRule ch))

/-- SV_SELF_TEST_END (R292). -/
def execSvSelfTestEnd (ch : Fin 32) (pass : Bool) (s : State) : Out :=
  if s.reg (K.svState ch) ≠ svTesting then .next s
  else
    let item := (s.svCh ch).testItem
    let s := s.setSv ch { s.svCh ch with testItem := none }
    if pass then
      let s := (s.setFlag (K.svFlags ch) 13 false).setReg (K.selfTestResult ch) 1
      .next ((s.setReg (K.svState ch) (s.svIdleState ch)).finishOpt item .done)
    else
      let s := (s.setReg (K.selfTestResult ch) 2).finishOpt item .failed Abort.hardwareFault.code
      .next (s.svFail ch 13)

/-- SV_FAULT_CLEAR (R294). -/
def execSvFaultClear (slot : Fin 16) (ch : Fin 32) (value : BitVec 8) (s : State) : Out :=
  .next (s.request slot (0x4020 + ch) 0x0E (leBytes 1 value.toNat) (svFaultClearRule ch))

/-- STITCH_PROGRAM_WRITE (R273). -/
def execStitchProgramWrite (slot : Fin 16) (p : Fin 64) (value : Bytes) (s : State) : Out :=
  .next (s.request slot (0x4100 + p) 0 value (stitchProgramRule p))

/-- OPEN_LOAD (R295). -/
def execOpenLoad (ch : Fin 32) (mA held : Nat) (s : State) : Out :=
  let s := s.svMeasured ch mA
  .next (if s.reg (K.svState ch) = svRunning && decide (200 ≤ s.reg (K.svSetpoint ch)) && decide (mA < 50) &&
    decide (ticksMs 2 ≤ held) then s.svFail ch 8 else s)

/-- OVERCURRENT (R295): the current, and a desaturation of the channel switch. -/
def execOvercurrent (ch : Fin 32) (mA : Nat) (desaturated : Bool) (s : State) : Out :=
  .next (if (desaturated || decide (30000 < mA)) && s.reg (K.svState ch) ≠ svFault then s.svFail ch 9 else s)

/-- SHORT_TO_SUPPLY (R295): the SV pin in mV and for how long it has been above 3 V in OFF. -/
def execShortToSupply (ch : Fin 32) (mV held : Nat) (s : State) : Out :=
  let x := s.svCh ch
  let st := s.reg (K.svState ch)
  if mV ≤ 3000 then .next (s.setSv ch { x with shortNow := false })
  else if held < ticksMs 10 || x.cond ≠ .off then .next s
  else
    let s := s.setSv ch { x with shortNow := true }
    .next (if st = svOff || st = svWaiting || st = svDisabled then s.svFail ch 10 else s)

/-- DECAY_STUCK (R295). -/
def execDecayStuck (ch : Fin 32) (s : State) : Out :=
  .next (if s.reg (K.svState ch) = svDecaying && decide ((s.svCh ch).start + ticksMs 100 ≤ s.tick) then s.svFail ch 12 else s)

/-- OVERTEMP (R295): the junction in 0.1 degree. -/
def execOvertemp (ch : Fin 32) (temp : Int) (s : State) : Out :=
  let x := s.svCh ch
  if temp < 1300 then .next (s.setSv ch { x with hotNow := false })
  else if temp ≤ 1500 then .next s
  else
    let s := s.setSv ch { x with hotNow := true }
    .next (if s.flag (K.svFlags ch) 11 then s else s.svFail ch 11)

/-- REG_LOW (R294): the current and for how long it has been below the setpoint less RegBand. -/
def execRegLow (ch : Fin 32) (mA held : Nat) (s : State) : Out :=
  let sp := s.regN (K.svSetpoint ch)
  .next (if sp ≤ mA then s.setFlag (K.svFlags ch) 6 false
    else if s.reg (K.svState ch) = svRunning && decide (mA + s.regN (K.regBand ch) < sp) && decide (ticksMs 5 ≤ held) then
      s.setFlag (K.svFlags ch) 6 true
    else s)

/-- BOOST_FAILED (R295): the boost supply in mV and for how long it has been outside 10 % of its setting, outside a boost
phase. -/
def execBoostFailed (b : Fin 8) (mV held : Nat) (s : State) : Out :=
  let s := s.setReg (K.boostMeasured b) (min 65535 mV : Nat)
  let v := s.regN (K.boostVoltage b)
  if s.reg (K.bankEnable b) = 1 && s.reg (K.boostOwner b) = 0xFF && (decide (10 * mV < 9 * v) || decide (11 * v < 10 * mV)) &&
      decide (ticksMs 10 ≤ held) && !s.flag (K.bankFlags b) 0 then
    .next (((s.setFlag (K.bankFlags b) 0 true).setReg (K.bankState b) 2).eventKey .solenoids b (K.bankFlags b))
  else .next s

/-- The voltage of a supply input at each bank that draws from it (R267, R293), with what becomes of its SUPPLY_LOW flag. -/
def State.inputVoltage (s : State) (b mV : Nat) (low : Bool → Bool) : State :=
  (inputBanks b).foldl (fun (s : State) (c : Nat) =>
    (s.setReg (K.supplyVoltage c) (min 65535 mV : Nat)).setFlag (K.bankFlags c) 1 (low (s.flag (K.bankFlags c) 1))) s

/-- SUPPLY_LOW (R295): the supply of a bank, which every bank of its input shares (R267, notes/assumptions/169.md). -/
def execSupplyLow (b : Fin 8) (mV : Nat) (s : State) : Out := .next (s.inputVoltage b mV (fun f => f || decide (mV < 6000)))

/-- BANK_SUPPLY_RETURN (R295). -/
def execBankSupplyReturn (b : Fin 8) (mV : Nat) (s : State) : Out := .next (s.inputVoltage b mV (fun f => f && !decide (6500 ≤ mV)))

/-- BANK_OVERLOAD (R270, R295): safe off of the bank, and FAULT on its channels. -/
def execBankOverload (b : Fin 8) (mA held : Nat) (s : State) : Out :=
  let s := s.setReg (K.bankCurrent b) (min 65535 mA : Nat)
  if mA ≤ 70000 || held < ticksUs 20 then .next s
  else
    let s := (bankChannels b).foldl (fun (s : State) (ch : Nat) =>
      (((s.svSafeOff ch).svToOff ch).svClamp ch).setReg (K.svState ch) svFault) s
    .next (((s.setFlag (K.bankFlags b) 2 true).bump K.safeOffEvents).eventKey .solenoids b (K.bankFlags b))

end Sys2Proof.Machine
end

