-- ==== Sys2Proof/Machine/Sensing.lean ====
section
/-!
DEFINITION. Sensing inputs (11_sensing_inputs.md): samples, edges, the acoustic detector, bridges, the IMU, sensor supplies
and converters.
-/
namespace Sys2Proof.Machine

/-! Analog inputs (R333, R335) -/

/-- The end of the range of an analog input in its native unit (R331, R332). -/
def ainFull (mode : Int) : Int :=
  if mode = 0 then 5500000 else if mode = 1 then 11000000 else if mode = 2 then 36000000
  else if mode = 3 then 25000000 else if mode = 4 then 1000000 else 10000000

/-- The filter factor round(65,536 * (1 - exp(-2 pi f / 10,000 Hz))) (R333). -/
def ainFactor (f : Int) : Int := roundHalfUp (65536 * (expOne - expNeg (2 * piQ * f / 10000))) expOne

/-- AIN_SAMPLE (R333): one conversion in the native unit of R332; a converter gives no value outside its range
(notes/assumptions/185.md). -/
def execAinSample (n : Fin 32) (x : Int) (s : State) : Out :=
  if s.reg (K.ainEnable n) ≠ 1 then .next s
  else
    let x := clampI 0 (ainFull (s.reg (K.ainMode n))) x
    let f := s.reg (K.ainFilter n)
    let a := s.ain n
    let y := match a.y with
      | none => x
      | some y => if f = 0 then x else y + ainFactor f * (x - y) / 65536
    let out := decide (y < s.reg (K.ainValidLow n)) || decide (s.reg (K.ainValidHigh n) < y)
    let s := s.setAin n ⟨some y, s.tick, since a.outFrom out s.tick, if out then s.tick else a.lastOut⟩
    .next ((s.setReg (K.ainNative n) y).setReg (K.ainValue n) (s.ainScaled n y))

/-- AIN_OUT_OF_RANGE (R335). -/
def execAinOutOfRange (n : Fin 32) (s : State) : Out :=
  .next (if s.reg (K.ainEnable n) = 1 && s.heldFor (s.ain n).outFrom (ticksMs 10) then s.inputFault .ain n ifRange else s)

/-! Frequency inputs (R336-R342) -/

/-- The direction that the mode gives an edge (R336): phase order in QUADRATURE, A leading B counting up; the partner's level
in DIRECTIONAL; forward otherwise. -/
def pairDirection (mode : Int) (a0 a b : Bool) : Int :=
  if mode = 2 then (if a0 != a then (if a != b then 1 else -1) else (if a == b then 1 else -1))
  else if mode = 3 then (if b then 1 else -1)
  else 1

/-- The direction sense of an input (R338, R339): FinDirection, or the mode's direction. -/
def State.finSense (s : State) (n : Nat) (dir : Int) : Int :=
  let d := s.reg (K.finDirection n)
  if d = 0 then 1 else if d = 1 then -1 else dir

/-- Positions or counts in one turn (R338, R339). -/
def State.finPositions (s : State) (n : Nat) : Int :=
  if s.reg (K.finMode n) = 2 then 4 * s.reg (K.finTeeth n) else s.reg (K.finTeeth n)

/-- The missing teeth that an input's mode uses (R336, R338). -/
def State.finMissing (s : State) (n : Nat) : Int := if s.reg (K.finMode n) = 1 then s.reg (K.finMissingTeeth n) else 0

/-- The angle of position `k` after the index, in 2^-32 turn; it falls in reverse (R338). -/
def posAngle (positions k : Int) : Int :=
  if 0 ≤ k then k * 2 ^ 32 / positions else -(-k * 2 ^ 32 / positions)

/-- What an edge gives: the interval it ends, the positions that interval covers, whether it is the index, the position before
and after it. -/
structure EdgeInfo where
  iv : Option Nat
  span : Int
  index : Bool
  old : Int
  new : Int
  turnOk : Option Bool
  deriving DecidableEq, Repr

/-- A SHAFT axis of this input waits for its index (R103, R338). -/
def State.indexAwaited (s : State) (n : Nat) : Bool :=
  (List.range 16).any (fun k => s.axisIs k 2 && s.regN (K.shaftInput k) == n && (s.axis k).awaitIndex)

/-- The index and the positions at an edge with its stamp `at_` (R338). -/
def State.edgeInfo (s : State) (n : Nat) (at_ : Nat) (sense : Int) : EdgeInfo :=
  let x := s.fin n
  let m := s.finMissing n
  let teeth := s.finPositions n
  let iv := x.lastEdge.map (fun t => at_ - t)
  let gap := decide (0 < m) && (match iv, x.intervals with
    | some i, p :: _ => decide (3 * (m + 1) * p ≤ 4 * (i : Int))
    | _, _ => false)
  if gap then
    let ok := decide ((x.edges : Int) + 1 = teeth - m)
    let new := if 0 < sense then (if x.indexed then (x.pos / teeth + 1) * teeth else 0)
      else -((if x.indexed then (-x.pos + teeth - 1) / teeth * teeth else 0) + m + 1)
    ⟨iv, m + 1, true, x.pos, new, if x.indexed then some ok else none⟩
  else if m = 0 && (!x.indexed || s.indexAwaited n) then ⟨iv, 1, true, x.pos, 0, none⟩
  else ⟨iv, 1, false, x.pos, x.pos + sense, none⟩

/-- A wheel sample reaches every DEAD_RECKONING estimator (R95, R339), and the wheel's edge ends a standstill of every linear
axis (R102). -/
def State.wheelEdge (s : State) (n : Nat) (at_ : Nat) (e : EdgeInfo) (sense : Int) : State :=
  (List.range 16).foldl (fun (s : State) (k : Nat) =>
    if s.axisIs k 3 then (s.setAxis k { s.axis k with lastWheel := some at_ }).setFlag (K.axisFlags k) 0 false
    else if !s.axisIs k 1 then s
    else
      let x := s.axis k
      let w := match e.iv with
        | some i =>
          let mid := at_ - i / 2
          let v := (sense * e.span * s.reg (K.finDistancePerPulse n) * 10 ^ 5 * 65536).tdiv ((max 1 i : Nat) : Int)
          [WheelSample.mk mid (v + (s.yawAt mid * s.reg (K.finWheelY n) * 65536).tdiv 1000)]
        | none => []
      let s := s.setAxis k { x with wheel := x.wheel ++ w, lastWheel := some at_ }
      (s.setFlag (K.axisFlags k) 0 false).setFlag (K.axisFlags k) 5 false) s

/-- A SHAFT axis takes the angle and stamp of an edge as exact (R98, R338). -/
def State.shaftEdge (s : State) (n : Nat) (at_ : Nat) (e : EdgeInfo) (sense : Int) (k : Nat) : State :=
  let x := s.axis k
  if !s.axisIs k 2 || s.regN (K.shaftInput k) ≠ n || (x.awaitIndex && !e.index) then s
  else
    let p := s.finPositions n
    let first := (s.reg (K.finIndexAngle n) + posAngle p e.new) % 2 ^ 32
    let angle := if x.awaitIndex then first else x.edgeAngle + (posAngle p e.new - posAngle p e.old)
    let y := s.fin n
    let gap := decide (0 < s.finMissing n) && y.indexed && decide ((y.edges : Int) + 1 = p - s.finMissing n)
    let next := sense * (if gap then s.finMissing n + 1 else 1)
    let iv := e.iv.getD 0
    let w : Int := if iv = 0 then 0 else (sense * e.span * 2 ^ 48 * 10 ^ 8).tdiv (p * iv)
    let a : Int := if iv = 0 || x.lastInterval = 0 then 0 else ((w - x.omega) * 10 ^ 8).tdiv iv
    let s := s.setAxis k { x with
                                  edgeTick := some at_, edgeAngle := angle, lastInterval := iv, omega := w, a := a,
                                  nextPitch := absI (posAngle p (e.new + next) - posAngle p e.new), awaitIndex := false }
    s.setFlag (K.axisFlags k) 0 false

/-- An accepted edge that counts (R337-R342), with its stamp. -/
def State.finAccept (s : State) (n : Nat) (at_ : Nat) (dir : Int) : State :=
  let sense := s.finSense n dir
  let e := s.edgeInfo n at_ sense
  let x := s.fin n
  let fast := match e.iv with
    | some i => decide (i < 500)
    | none => false
  let ivs := match e.iv with
    | some i => (i :: x.intervals).take 64
    | none => x.intervals
  let x := { x with
                    lastEdge := some at_, intervals := ivs, edges := if e.index then 0 else x.edges + 1,
                    indexed := x.indexed || e.index, pos := e.new, overAt := if fast then some s.tick else x.overAt }
  let s := s.setFin n x
  let counted := if 2 ≤ s.reg (K.finMode n) then dir else sense
  let s := s.setReg (K.finCount n) (clampI (-(2 ^ 63)) (2 ^ 63 - 1) (s.reg (K.finCount n) + counted))
  let s := (s.setReg (K.lastEdgeTime n) (s.timeOfTick at_ : Nat)).setFlag (K.finFlags n) ifNoEdges false
  let s := if fast then s.inputFault .fin n ifRange else s
  let s := match e.turnOk with
    | some true => s.setFlag (K.finFlags n) ifSignal false
    | some false => s.inputFault .fin n ifSignal
    | none => s
  if s.reg (K.finRole n) = 1 then s.wheelEdge n at_ e sense
  else if s.reg (K.finRole n) = 2 then
    (List.range 16).foldl (fun (s : State) (k : Nat) => s.shaftEdge n at_ e sense k) s
  else s

/-- The level of an input by its front-end (R337): the pin in mV at FinThreshold, the negative side of zero for VR; the current in uA
at 10.5 mA for CURRENT. -/
def State.finHigh (s : State) (n : Nat) (v : Int) : Bool :=
  let f := s.reg (K.finFrontEnd n)
  if f = 2 then decide (v < 0) else if f = 3 then decide (10500 ≤ v) else decide (s.reg (K.finThreshold n) ≤ v)

/-- A VR crossing is armed (R337): the signal has exceeded one third of the previous peak, and at least 100 mV
(notes/assumptions/186.md). -/
def State.finArmed (s : State) (n peak : Nat) : Bool :=
  s.reg (K.finFrontEnd n) != 2 || (decide ((s.fin n).peak < 3 * peak) && decide (100 ≤ peak))

/-- FIN_EDGE (R337-R342): input `n` and its partner have changed from `p0` to `p`, where they have stayed for `held` ticks, after a
peak of `peak` mV. An active edge is accepted after FinGlitch, and its stamp is its first
transition; in QUADRATURE every edge of either input is active. -/
def execFinEdge (n : Fin 16) (p0 p : FinPin) (held peak : Nat) (s : State) : Out :=
  let mode := s.reg (K.finMode n)
  let a0 := s.finHigh n p0.value
  let a := s.finHigh n p.value
  let falls := a0 && !a
  let armed := s.finArmed n peak
  if s.reg (K.finEnable n) ≠ 1 || held * 10 < s.regN (K.finGlitch n) then .next s
  else
    let s := if a0 = a then s else s.setFin n { s.fin n with peak := if falls then (s.fin n).peak else peak }
    if mode = 2 then
      .next (if a0 != a && p0.partner != p.partner then (s.inputFault .fin n ifSignal).setFin n { s.fin n with discardAt := some s.tick }
        else if a0 == a && p0.partner == p.partner then s
        else s.finAccept n (s.tick - held) (pairDirection mode a0 a p.partner))
    else .next (if !a0 && a && armed then s.finAccept n (s.tick - held) (pairDirection mode a0 a p.partner) else s)

/-- NO_EDGES (R340). -/
def execNoEdges (n : Fin 16) (s : State) : Out :=
  let x := s.fin n
  let from_ := x.lastEdge.getD x.enabledAt
  .next (if s.reg (K.finEnable n) = 1 && decide (from_ + ticksMs (s.regN (K.finZeroTime n)) ≤ s.tick) then
    (s.setFlag (K.finFlags n) ifNoEdges true).setReg (K.finFrequency n) 0
  else s)

/-- The rule of FinZero (R341). -/
def finZeroRule (n : Nat) : WriteRule := commandRule (fun _ _ => none) (fun s _ => s.setReg (K.finCount n) 0)

/-- FIN_ZERO (R341). -/
def execFinZero (slot : Fin 16) (n : Fin 16) (value : BitVec 8) (s : State) : Out :=
  .next (s.request slot (0x4840 + n) 0x0F (leBytes 1 value.toNat) (finZeroRule n))

/-! Acoustic loss sensors (R343-R346) -/

/-- The values in force for an acoustic input (R345). -/
def State.acuConfig (s : State) (n : Nat) : List Nat :=
  [s.regN (K.acuThresholdOn n), s.regN (K.acuThresholdOff n), s.regN (K.acuDeadTime n), s.regN (K.acuMaxLength n),
    s.regN (K.heavyPeak n), s.regN (K.grainBand n), s.regN (K.grainShare n)] ++
    (List.range 4).map (fun j => s.regN (K.bandCentre n j))

/-- sin(w0) / 4 and cos(w0) of a band with its centre in kHz, in Q2.30, their last digit open (R343; notes/assumptions/4.md). -/
def bandAlpha (kHz : Nat) : Int :=
  nearOpen 1 (((sinCos60 ((kHz : Int) * 2 ^ 62 / 1000)).1 + 2 ^ 31) / 2 ^ 32) (Config.realFn 10 kHz 0)
def bandCos (kHz : Nat) : Int := nearOpen 1 (to30 (sinCos60 ((kHz : Int) * 2 ^ 62 / 1000)).2) (Config.realFn 11 kHz 0)

/-- One sample through a band filter (R343): its output, and its memory. -/
def bandStep (kHz : Nat) (f : Band) (x : Int) : Int × Band :=
  let al := bandAlpha kHz
  let y := (al * x - al * f.x2 + 2 * bandCos kHz * f.y1 - (oneQ - al) * f.y2).tdiv (oneQ + al)
  (y, { f with x1 := x, x2 := f.x1, y1 := y, y2 := f.y1 })

/-- An acoustic input counts impacts: enabled for 2 s (R346), without NOISE and neither open nor shorted (R357). -/
def State.acuCounts (s : State) (n : Nat) : Bool :=
  decide ((s.acu n).enabledAt + ticksS 2 ≤ s.tick) && !([ifOpen, ifShort, ifSupplyShort, ifSignal].any (s.flag (K.acuFlags n)))

/-- A closed burst is classified and counted at its t0 (R343). -/
def State.acuClassify (s : State) (n : Nat) : State :=
  let a := s.acu n
  if !a.closing then s
  else
    let e := a.bands.map Band.e
    let sum := e.sum
    let grain := e.getD (a.cfg.getD 5 0) 0
    let heavy := decide (((a.cfg.getD 4 0 : Nat) : Int) ≤ a.pk)
    let isGrain := !heavy && decide (a.cfg.getD 6 0 * sum ≤ grain * 100)
    let counts := s.acuCounts n
    let s := s.setAcu n { a with closing := false, grains := if counts && isGrain then a.grains ++ [a.t0] else a.grains }
    if !counts then s
    else
      let s := s.bump (if heavy then K.heavyImpacts n else if isGrain then K.grainImpacts n else K.lightImpacts n)
      let s := s.setReg (K.lastImpactTime n) (s.timeOfTick a.t0 : Nat)
      if a.clipped then s.bump (K.clippedImpacts n) else s

/-- Env of the last 100 ms as a mean, one sum per 1,000 samples (R356). -/
def noiseMean (l : List Nat) : Nat := if l.isEmpty then 0 else l.sum / (1000 * l.length)

/-- ACU_SAMPLE (R343): one sample after the high-pass. A burst that has ended waits for ACU_IMPACT. -/
def execAcuSample (n : Fin 16) (x : BitVec 16) (s : State) : Out :=
  if s.reg (K.acuEnable n) ≠ 1 then .next s
  else
    let s := s.acuClassify n
    let v := x.toInt
    let a := s.acu n
    let cfg := if a.open_ then a.cfg else s.acuConfig n
    let env := a.env + (absI v - a.env) / 16
    let fs := (List.range 4).map (fun b => bandStep (cfg.getD (7 + b) 0) (a.bands.getD b Band.init) v)
    let opens := !a.open_ && decide (((cfg.getD 0 0 : Nat) : Int) ≤ env) &&
      (!a.hadBurst || decide (a.tEnd + ticksUs (cfg.getD 2 0) ≤ s.tick))
    let isOpen := a.open_ || opens
    let t0 := if opens then s.tick else a.t0
    let bands := fs.map (fun q =>
      let e0 := if opens then 0 else q.2.e
      { q.2 with e := if isOpen then e0 + (q.1 * q.1).toNat else q.2.e })
    let pk0 := if opens then 0 else a.pk
    let clip := decide (32767 ≤ v) || decide (v ≤ -32768)
    let closes := isOpen && (decide (env < ((cfg.getD 1 0 : Nat) : Int)) || decide (t0 + ticksUs (cfg.getD 3 0) ≤ s.tick))
    let noisy := decide (s.reg (K.acuThresholdOff n) ≤ env)
    let full := decide (a.envCount + 1 = 1000)
    let sum := a.envSum + env.toNat
    let l := if full then (sum :: a.env100).take 100 else a.env100
    let clipAt := if clip then some s.tick else a.clipAt
    let a := { a with
                      cfg := cfg, env := env, bands := bands, open_ := isOpen && !closes, closing := closes, t0 := t0,
                      tEnd := if closes then s.tick else a.tEnd, hadBurst := a.hadBurst || closes,
                      pk := if isOpen then max pk0 (absI v) else a.pk,
                      clipped := if isOpen then ((a.clipped && !opens) || clip) else a.clipped, clipAt := clipAt,
                      noiseFrom := since a.noiseFrom noisy s.tick, lastNoise := if noisy then s.tick else a.lastNoise,
                      envSum := if full then 0 else sum, envCount := if full then 0 else a.envCount + 1, env100 := l }
    let s := s.setAcu n a
    let s := if full then s.setReg (K.noiseLevel n) (min 65535 (noiseMean l) : Nat) else s
    .next (s.setFlag (K.acuFlags n) ifClipped (match clipAt with
      | some t => decide (s.tick < t + ticksS 1)
      | none => false))

/-- ACU_IMPACT (R343): the burst that has ended is classified. -/
def execAcuImpact (n : Fin 16) (s : State) : Out := .next (s.acuClassify n)

/-- GRAIN_RATE_UPDATE (R344). -/
def execGrainRateUpdate (n : Fin 16) (s : State) : Out :=
  let a := s.acu n
  if s.reg (K.acuEnable n) ≠ 1 || decide (s.tick < a.rateAt + ticksMs 1) then .next s
  else
    let w := s.regN (K.acuRateWindow n)
    let g := a.grains.filter (fun t => decide (s.tick < t + ticksMs w))
    let kept := a.grains.filter (fun t => decide (s.tick < t + ticksMs 10000))
    .next ((s.setAcu n { a with grains := kept, rateAt := s.tick }).setReg (K.grainRate n)
      (g.length * 10 ^ 6 / max 1 w : Nat))

/-- ACU_NOISE (R346). -/
def execAcuNoise (n : Fin 16) (s : State) : Out :=
  .next (if s.reg (K.acuEnable n) = 1 && s.heldFor (s.acu n).noiseFrom (ticksMs 100) then s.inputFault .acu n ifSignal else s)

/-! Bridges (R347-R349) -/

/-- The full scale of a bridge in nV/V (R331). -/
def State.brgFullScale (s : State) (n : Nat) : Int :=
  let g := s.reg (K.brgGain n)
  if g = 32 then 15600000 else if g = 64 then 7800000 else 3900000

/-- BRG_SAMPLE (R347, R349): the bridge output over the sensed excitation in nV/V, and that excitation in mV. -/
def execBrgSample (n : Fin 4) (raw : Int) (excitation : BitVec 16) (s : State) : Out :=
  if s.reg (K.brgEnable n) ≠ 1 then .next s
  else
    let fs := s.brgFullScale n
    let full := decide (fs ≤ absI raw)
    let value := satI32 (clampI (-fs) fs raw - s.reg (K.brgTare n))
    let b := s.brg n
    let s := s.setBrg n { b with
                                lastTick := s.tick, fullRun := if full then b.fullRun + 1 else 0,
                                lastFull := if full then s.tick else b.lastFull,
                                tares := b.tares.map (fun t => if s.tick < t.start + ticksS 1 then
                                  { t with sum := t.sum + value, count := t.count + 1 } else t) }
    .next ((s.setReg (K.brgValue n) value).setReg (K.brgExcitationMeasured n) (excitation.toNat : Nat))

/-- The rule of BrgTareCommand (R348). -/
def brgTareRule (n : Nat) : WriteRule where
  check := fun s _ _ => need (!s.brgFault n) .stateDenied
  effect := fun s _ seq _ =>
    let b := s.brg n
    (s.setBrg n { b with tares := b.tares ++ [⟨seq, s.tick, 0, 0⟩] }).startItem seq

/-- BRG_TARE_COMMAND (R348). -/
def execBrgTareCommand (slot : Fin 16) (n : Fin 4) (value : BitVec 8) (s : State) : Out :=
  .next (s.request slot (0x4880 + n) 0x06 (leBytes 1 value.toNat) (brgTareRule n))

/-- BRG_TARE_END (R348): the mean of the second is added to BrgTare. -/
def execBrgTareEnd (n : Fin 4) (s : State) : Out :=
  let b := s.brg n
  match b.tares with
  | [] => .next s
  | t :: l =>
    if s.tick < t.start + ticksS 1 then .next s
    else
      let mean := if t.count = 0 then s.reg (K.brgValue n) else t.sum.tdiv t.count
      let s := s.setBrg n { b with tares := l }
      .next ((s.setReg (K.brgTare n) (satI32 (s.reg (K.brgTare n) + mean))).finish t.item .done)

/-! Converters and sensor supplies (R353, R354) -/

/-- Inputs that a converter serves. -/
def converterInputs (c : Nat) : List (InClass × Nat) :=
  if c < 4 then (List.range 8).map (fun k => (InClass.ain, 8 * c + k)) else (List.range 4).map (fun k => (InClass.acu, 4 * (c - 4) + k))

/-- A converter fails (R354): the understudy takes over, or its inputs report the failure. -/
def State.converterFail (s : State) (c : Nat) : State :=
  if s.flag K.converterFailures c then s
  else
    let s := s.setFlag K.converterFailures c true
    if !s.converterTaken then
      let s := (s.setReg K.understudyConverterUse (c : Nat)).eventKey .sensing c K.understudyConverterUse
      let s := (converterInputs c).foldl (fun (s : State) (i : InClass × Nat) => s.setFlag (i.1.flags i.2) ifUnderstudy true) s
      (s.spareFlag 4).eventKey .maintenance 0 K.understudyConverterUse
    else (converterInputs c).foldl (fun (s : State) (i : InClass × Nat) => s.inputFault i.1 i.2 ifConverter) s

/-- CONVERTER_CHECK (R354): the grant of a comparison, and a second later its end with the difference in 0.001 % of full
scale. -/
def execConverterCheck (c : Fin 8) (diff : Nat) (s : State) : Out :=
  match s.runningAct actConverterCheck c with
  | some a =>
    if s.tick < a.start + ticksS 1 then .next s
    else
      let s := { s with maint := { s.maint with convTested := s.maint.convTested.set 0 c s.tick } }
      let s := s.finishAct a
      .next (if 500 < diff then s.converterFail c else s)
  | none =>
    .next (if s.reg K.converterCheckInterval ≠ 0 &&
        decide (s.maint.convTested.get 0 c + ticksS (s.regN K.converterCheckInterval) ≤ s.tick) &&
        s.schedulable domConverters && !s.converterTaken && !s.flag K.converterFailures c then
      s.grantAct ⟨actConverterCheck, domConverters, c, .scheduled, 0, s.tick, 0, 0⟩
    else s)

/-- Inputs that a sensor supply serves (R353). -/
def supplyInputs (g : Nat) : List (InClass × Nat) :=
  if g < 4 then (List.range 8).map (fun k => (InClass.ain, 8 * g + k))
  else (List.range 8).map (fun k => (InClass.fin, 8 * (g - 4) + k))

def State.supply (s : State) (g : Nat) : Supply := s.supplies.get Supply.init g

/-- A sensor supply is on (R353). -/
def State.supplyOn (s : State) (g : Nat) : Bool := s.flag K.sensSupplyEnable g && (s.supply g).offAt.isNone

/-- Every input of a supply that is off sets SUPPLY_FAULT (R353). -/
def State.supplyFaults (s : State) (g : Nat) : State :=
  (supplyInputs g).foldl (fun (s : State) (i : InClass × Nat) => s.inputFault i.1 i.2 ifSupply) s

/-- SENSOR_SUPPLY_LIMIT (R353): the supply in mV and how long it has been in limit. It switches off after 10 ms and is
switched on again a second later; out of limit it is in regulation. -/
def execSensorSupplyLimit (g : Fin 6) (mV : BitVec 16) (held : Nat) (s : State) : Out :=
  let s := s.setReg (K.sensSupplyVoltage g) (mV.toNat : Nat)
  if !s.flag K.sensSupplyEnable g then .next s
  else match (s.supply g).offAt with
    | some t =>
      .next (if s.tick < t + ticksS 1 then s else { s with supplies := s.supplies.set Supply.init g ⟨none, s.tick⟩ })
    | none =>
      if held = 0 then .next (s.setFlag K.sensSupplyFault g false)
      else if held < ticksMs 10 then .next s
      else
        let s := { s with supplies := s.supplies.set Supply.init g ⟨some s.tick, 0⟩ }
        let s := if s.flag K.sensSupplyFault g then s else (s.setFlag K.sensSupplyFault g true).eventKey .sensing g K.sensSupplyFault
        .next (s.supplyFaults g)

/-! Input faults (R355) -/

/-- The class of an operand. -/
def inClassOf (c : Fin 5) : InClass :=
  if c.val = 0 then .ain else if c.val = 1 then .fin else if c.val = 2 then .acu else if c.val = 3 then .brg else .imu

/-- The enable entry of an input; the IMU has none. -/
def State.inputOn (s : State) (c : InClass) (n : Nat) : Bool :=
  match c with
  | .ain => s.reg (K.ainEnable n) == 1
  | .fin => s.reg (K.finEnable n) == 1
  | .acu => s.reg (K.acuEnable n) == 1
  | .brg => s.reg (K.brgEnable n) == 1
  | .imu => true

/-- The front-end conditions that set a bit, and how long each must hold (R346, R349, R355). -/
def State.frontEndTime (s : State) (c : InClass) (n bit : Nat) : Option Nat :=
  match c with
  | .fin => if bit ≤ 1 then (if 2 ≤ s.reg (K.finFrontEnd n) then some 0 else none)
    else if bit = 2 then some (ticksMs 10) else none
  | .acu => if bit ≤ 2 then some (ticksMs 10) else none
  | .brg => if bit ≤ 1 then some 0 else none
  | _ => none

/-- INPUT_FAULT_DETECT (R346, R349, R354, R355): a front-end reports a condition that has held for `held` ticks; a bridge's
overrange stands in its own samples, and a converter's failure concerns all its inputs. -/
def execInputFaultDetect (cls : Fin 5) (n : Fin 32) (bit : Fin 8) (held : Nat) (s : State) : Out :=
  let c := inClassOf cls
  if c.count ≤ n.val || !s.inputOn c n then .next s
  else if bit.val = ifConverter then
    .next (match c with
      | .ain => s.converterFail (ainConverter n)
      | .acu => s.converterFail (acuConverter n)
      | _ => s)
  else if c = .brg && bit.val = ifRange then
    .next (if 10 ≤ (s.brg n).fullRun then s.inputFault c n ifRange else s)
  else match s.frontEndTime c n bit with
    | some d => .next (if d ≤ held then s.inputFault c n bit else s)
    | none => .next s

/-- A fault bit may clear (R338, R342, R346, R352-R355): its condition has been absent for 100 ms, where the module itself
observes it from the state, else `held` ticks as the front-end reports. -/
def State.faultGone (s : State) (c : InClass) (n bit held : Nat) : Bool :=
  let long (t : Nat) : Bool := decide (t + ticksMs 100 ≤ s.tick)
  if bit = ifConverter || bit = ifSelfTest then false
  else if bit = ifSupply then
    let g := if c = .ain then n / 8 else 4 + n / 8
    s.supplyOn g && long (s.supply g).onAt
  else match c with
    | .ain => bit == ifRange && (s.ain n).outFrom.isNone && long (s.ain n).lastOut
    | .fin =>
      if bit = ifRange then long ((s.fin n).overAt.getD 0)
      else if bit = ifSignal then (match (s.fin n).discardAt with
        | some t => s.reg (K.finMode n) == 2 && long t
        | none => false)
      else decide (ticksMs 100 ≤ held)
    | .acu => if bit = ifSignal then (s.acu n).noiseFrom.isNone && long (s.acu n).lastNoise else decide (ticksMs 100 ≤ held)
    | .brg => if bit = ifRange then decide ((s.brg n).fullRun < 10) && long (s.brg n).lastFull else decide (ticksMs 100 ≤ held)
    | .imu => bit == ifSignal && s.heldFor s.imu.validFrom (ticksMs 100) && decide (s.tick < s.imu.lastTick + ticksMs 5)

/-- INPUT_FAULT_CLEAR (R355). -/
def execInputFaultClear (cls : Fin 5) (n : Fin 32) (bit : Fin 8) (held : Nat) (s : State) : Out :=
  let c := inClassOf cls
  .next (if c.count ≤ n.val then s else if s.faultGone c n bit held then s.setFlag (c.flags n) bit false else s)

/-! The IMU (R350-R352) -/

/-- A vector rotated by a quaternion Qw, Qx, Qy, Qz in Q1.30 (R350). -/
def rotateQ (q : List Int) (x y z : Int) : List Int :=
  let w := q.getD 0 0
  let a := q.getD 1 0
  let b := q.getD 2 0
  let c := q.getD 3 0
  [((w * w + a * a - b * b - c * c) * x + 2 * (a * b - w * c) * y + 2 * (a * c + w * b) * z).tdiv (2 ^ 60),
   (2 * (a * b + w * c) * x + (w * w - a * a + b * b - c * c) * y + 2 * (b * c - w * a) * z).tdiv (2 ^ 60),
   (2 * (a * c - w * b) * x + 2 * (b * c + w * a) * y + (w * w - a * a - b * b + c * c) * z).tdiv (2 ^ 60)]

/-- The four numbers of ImuMounting. -/
def quatOf (d : Bytes) : List Int := (List.range 4).map (fun k => fieldI d (4 * k) 4)

/-- The part exp(-dt / tau) of its old value that a first-order filter keeps, in 2^-96; `dt` and `tau` in ticks. -/
def filterKeep (dt tau : Int) : Int := expFall (dt * expOne / max 1 tau)

/-- The standstill average of a rate with a time constant of 10 s, in 2^-16 urad/s, its last digit open (R351,
notes/assumptions/70.md). -/
def biasStep (bias rate dt : Int) : Int :=
  let aim := rate * 65536
  nearOpen 1 (aim + (bias - aim) * filterKeep dt (10 ^ 9) / expOne) (Config.openResult 351 [bias, rate, dt])

/-- The tilt of an acceleration, in 2^-16 urad: the angle of (z, a) counted from z toward a. -/
def tiltOf (a z : Int) : Int := atan62 a z * (2 * 65536 * 10 ^ 6) * piQ / (2 ^ 62 * expOne)

/-- One step of the complementary filter of an angle in 2^-16 urad (R351): the integrated rate `w` in urad/s blended with the tilt by the
time constant `tau` in ms; its last digit is open (notes/assumptions/70.md). -/
def attitudeStep (axis old w dt tau tilt : Int) : Int :=
  let turned := old + w * 65536 * dt / 10 ^ 8
  nearOpen 1 (tilt + (turned - tilt) * filterKeep dt (tau * 10 ^ 5) / expOne) (Config.openResult 352 [axis, old, w, dt, tau, tilt])

/-- IMU_SAMPLE (R350, R351): accelerations in um/s2 and rates in urad/s in the IMU's own frame. -/
def execImuSample (ax ay az wx wy wz : Int) (s : State) : Out :=
  let raw := [ax, ay, az, wx, wy, wz]
  let m := s.imu
  let q := quatOf (s.blob K.imuMounting)
  let acc := rotateQ q ax ay az
  let rate := rotateQ q wx wy wz
  let still := match s.impl0Axis with
    | some d => s.flag (K.axisFlags d) 0
    | none => false
  let dt : Int := (s.tick : Int) - m.lastTick
  let bias := if still then (List.range 3).map (fun k => biasStep (m.bias.getD k 0) (rate.getD k 0) dt) else m.bias
  let w := (List.range 3).map (fun k => satI32 (rate.getD k 0 - bias.getD k 0 / 65536))
  let motion : Int × Int := match s.impl0Axis with
    | some d => ((s.axis d).a / 65536, w.getD 2 0 * (s.axis d).v / (65536 * 10 ^ 6))
    | none => (0, 0)
  let tau := s.reg K.imuAttitudeTime
  let pitch := attitudeStep 1 m.pitchQ (w.getD 1 0) dt tau (tiltOf (motion.1 - acc.getD 0 0) (acc.getD 2 0))
  let roll := attitudeStep 0 m.rollQ (w.getD 0 0) dt tau (tiltOf (acc.getD 1 0 - motion.2) (acc.getD 2 0))
  let reps := (List.range 6).map (fun k =>
    if m.last.length = 6 && m.last.getD k 0 = raw.getD k 0 then m.repeats.getD k 0 + 1 else 1)
  let bad := reps.any (fun r => decide (50 ≤ r)) || decide (m.lastTick + ticksMs 5 ≤ s.tick)
  let s := { s with imu := { m with
    bias := bias, pitchQ := pitch, rollQ := roll, last := raw, repeats := reps, lastTick := s.tick,
    validFrom := if bad then none else some (m.validFrom.getD s.tick), yaw := ((s.tick, w.getD 2 0) :: m.yaw).take 512 } }
  let s := (List.range 3).foldl (fun (s : State) (k : Nat) =>
    (s.setReg (K.imuChannel k) (satI32 (acc.getD k 0))).setReg (K.imuChannel (3 + k)) (w.getD k 0)) s
  .next ((s.setReg K.pitch (satI32 (pitch / 65536))).setReg K.roll (satI32 (roll / 65536)))

/-- IMU_STUCK (R352): a channel that repeats its value for 50 samples, or 5 ms without a sample. -/
def execImuStuck (s : State) : Out :=
  .next (if s.imu.repeats.any (fun r => decide (50 ≤ r)) || decide (s.imu.lastTick + ticksMs 5 ≤ s.tick) then
    ({ s with imu := { s.imu with validFrom := none } } : State).inputFault .imu 0 ifSignal
  else s)

/-! Settings (R356) -/

/-- An enable entry of an input: `start` runs when it rises. -/
def inputEnableRule (idx : Nat) (check : State → Option Abort) (start : State → State) : WriteRule where
  check := fun s _ d => if wval d = 1 then check s else none
  effect := fun s _ seq d =>
    let rises := decide (wval d = 1) && s.reg (key idx 1) != 1
    let s := s.settle idx 1 seq d
    if rises then start s else s

/-- Enabling a frequency input (R336): the pair modes need an even input and a partner left disabled. -/
def State.finEnableCheck (s : State) (n : Nat) : Option Abort :=
  let pair := decide (2 ≤ s.reg (K.finMode n))
  if n % 2 = 1 then need (!pair && !(s.reg (K.finEnable (n - 1)) == 1 && decide (2 ≤ s.reg (K.finMode (n - 1))))) .dependency
  else need (!(pair && s.reg (K.finEnable (n + 1)) == 1)) .dependency

/-- A configuration entry that is refused while its input is enabled, with a check of its own. -/
def inputLocked (idx sub : Nat) (enable : Nat) (check : State → Bytes → Option Abort := fun _ _ => none) : WriteRule :=
  settingRule idx sub (fun s d => if s.reg enable = 1 then some .stateDenied else check s d)

/-- |q|^2 lies in 1 +- 2^-10 (R350). -/
def quatOk (d : Bytes) : Bool :=
  let n := ((quatOf d).map (fun x => x * x)).sum
  decide (absI (n - 2 ^ 60) ≤ 2 ^ 50)

/-- The rule of SensSupplyEnable (R353): a supply that is switched on starts again, and the inputs of one that is off report it. -/
def sensSupplyRule : WriteRule where
  effect := fun s _ seq d =>
    let t := s.settle 0x48A0 1 seq d
    (List.range 6).foldl (fun (t : State) (g : Nat) =>
      if !t.flag K.sensSupplyEnable g then t.supplyFaults g
      else if s.flag K.sensSupplyEnable g then t
      else { t with supplies := t.supplies.set Supply.init g ⟨none, t.tick⟩ }) t

/-- The write rules of 0x4800-0x48B0 (R356). -/
def rule11 (idx sub : Nat) : Option WriteRule :=
  if 0x4800 ≤ idx && idx < 0x4820 then
    let n := idx - 0x4800
    if sub = 1 then some (inputEnableRule idx (fun _ => none) (fun s => s.setAin n { s.ain n with y := none, outFrom := none }))
    else if sub = 7 then some (settingRule idx sub (fun s d => need (decide (s.reg (K.ainValidLow n) ≤ leInt d)) .dependency))
    else if 4 ≤ sub && sub ≤ 6 then some (settingRule idx sub)
    else some (inputLocked idx sub (K.ainEnable n))
  else if 0x4840 ≤ idx && idx < 0x4850 then
    let n := idx - 0x4840
    if sub = 1 then some (inputEnableRule idx (fun s => s.finEnableCheck n) (fun s =>
      (s.setFin n { FinIn.init with enabledAt := s.tick }).setFlag (K.finFlags n) ifNoEdges false))
    else if sub = 6 then some (inputLocked idx sub (K.finEnable n) (fun _ d => need (wval d % 10 == 0) .valueInvalid))
    else if sub = 9 then some (inputLocked idx sub (K.finEnable n) (fun s d => need (decide (wval d < s.regN (K.finTeeth n))) .dependency))
    else if sub = 0x0B then some (inputLocked idx sub (K.finEnable n) (fun s d =>
      need (wval d != 2 || decide (2 ≤ s.reg (K.finMode n))) .dependency))
    else if sub = 0x0F then some (finZeroRule n)
    else some (inputLocked idx sub (K.finEnable n))
  else if 0x4860 ≤ idx && idx < 0x4870 then
    let n := idx - 0x4860
    if sub = 1 then some (inputEnableRule idx (fun _ => none) (fun s => s.setAcu n { Acu.init with enabledAt := s.tick, rateAt := s.tick }))
    else if sub = 2 then some (inputLocked idx sub (K.acuEnable n))
    else if sub = 4 then some (settingRule idx sub (fun s d => need (decide (wval d ≤ s.regN (K.acuThresholdOn n))) .dependency))
    else some (settingRule idx sub)
  else if 0x4880 ≤ idx && idx < 0x4884 then
    let n := idx - 0x4880
    if sub = 1 then some (inputEnableRule idx (fun _ => none) (fun s => s.setBrg n { s.brg n with fullRun := 0 }))
    else if sub = 6 then some (brgTareRule n)
    else some (inputLocked idx sub (K.brgEnable n))
  else if idx = 0x4890 && sub = 1 then some (settingRule idx sub (fun _ d => need (quatOk d) .valueInvalid))
  else if idx = 0x48A0 && sub = 1 then some sensSupplyRule
  else none

end Sys2Proof.Machine
end

