-- ==== Sys2Proof/Machine/CellOps.lean ====
section
/-!
DEFINITION. Cells as shared operations (R358-R366): issuing the word at the program's place, operands and lanes, saturation
and rounding, SRAM and the words on routes.
-/
namespace Sys2Proof.Machine

/-- What an instruction word must hold for an operation (R361): class, operation, predicate, and the operand codes and Imm
that the operation uses. -/
structure CellWord where
  cls : Nat
  op : Nat
  pred : Nat
  invert : Bool
  dst : Option Nat := none
  srcA : Option Nat := none
  srcB : Option Nat := none
  imm : Option Nat := none
  deriving DecidableEq, Repr

/-- The code of an operand (R361). -/
def argCode : CellArg → Nat
  | .g r => r | .v r => 0x40 + r | .a r => 0x50 + r | .p r => 0x58 + r | .imm => 0xFF

def wPred (w : Nat) : Nat := w / 2 ^ 52 % 8
def wInvert (w : Nat) : Bool := w.testBit 55

def optIs (o : Option Nat) (v : Nat) : Bool := match o with
  | some x => x == v
  | none => true

/-- A word is one of the operation's (R361, R362). -/
def CellWord.fits (q : CellWord) (w : Nat) : Bool :=
  wClass w == q.cls && wOp w == q.op && wPred w == q.pred && wInvert w == q.invert && optIs q.dst (wDst w) &&
  optIs q.srcA (wSrcA w) && optIs q.srcB (wSrcB w) && optIs q.imm (wImm w)

/-- The region that holds a place (R367). -/
def State.regionOf (s : State) (p : Nat) : Option Nat :=
  (List.range 32).find? (fun r => (s.regN (K.regionPanels r)).testBit (panelOf p))

/-- Predicate `k` of a cell; p0 reads 1 (R358). -/
def Cell.pred (x : Cell) (k : Nat) : Bool := k == 0 || x.p.testBit k

/-- Writes a predicate; writes to p0 are ignored (R358). -/
def Cell.setPred (x : Cell) (k : Nat) (b : Bool) : Cell :=
  if k = 0 || x.p.testBit k = b then x else { x with p := if b then x.p + 2 ^ k else x.p - 2 ^ k }

/-- Loops that end at an instruction number: passes left begin again, finished ones go (R362). -/
def unwindLoops (pc : Nat) : List LoopLevel → Nat × List LoopLevel
  | [] => (pc, [])
  | l :: t =>
    if pc = l.start + l.len then
      (if 1 < l.left then (l.start, { l with left := l.left - 1 } :: t) else unwindLoops pc t)
    else (pc, l :: t)

/-- The cell goes on to its next instruction (R359). -/
def Cell.advance (x : Cell) : Cell :=
  let r := unwindLoops (x.pc + 1) x.loops
  { x with pc := r.1, loops := r.2 }

/-- The cycles of 1 ns that a region has run since its passes began to count (R359). -/
def State.regionCycles (s : State) (r : Nat) : Nat := 10 * (s.tick - (s.region r).since)

/-- A repeat boundary of a region lies in this tick (R359): a whole number of passes has ended. -/
def State.atBoundary (s : State) (r : Nat) : Bool :=
  let n := s.regN (K.repeatLength r)
  decide ((s.region r).since ≤ s.tick) && decide (n ≤ s.regionCycles r) && decide (s.regionCycles r % n < 10)

/-- A pass of a region has ended that is not yet counted (R359). -/
def State.passEnded (s : State) (r : Nat) : Bool :=
  decide ((s.region r).since ≤ s.tick) && decide ((s.regN (K.repeats r) + 1) * s.regN (K.repeatLength r) ≤ s.regionCycles r)

/-- A cell of a running region issues: the region's cells are not held for a route move (R368, R397). -/
def State.cellRuns (s : State) (p : Nat) : Bool :=
  match s.regionOf p with
  | some r => s.reg (K.regionState r) == rgRunning && decide ((s.region r).holdUntil ≤ s.tick)
  | none => false

/-- The word that a cell issues in this cycle. -/
def State.nextWord (s : State) (p : Nat) : Option Nat := (s.cell p).active.words[(s.cell p).pc]?

/-- The cell at place `p` is about to issue a word of the operation (R359, R362). -/
def State.issues (s : State) (p : Nat) (q : CellWord) : Bool :=
  s.cellRuns p && (match s.nextWord p with
    | some w => q.fits w
    | none => false)

/-- The cell issues a word: with a false predicate it takes its cycle and changes nothing (R359). -/
def State.issue (s : State) (p : Nat) (q : CellWord) (act : State → State) : State :=
  if !s.issues p q then s
  else
    let s := if (s.cell p).pred q.pred != q.invert then act s else s
    s.setCell p (s.cell p).advance

/-! Lanes (R358, R360) -/

/-- The width and the number of lanes of an operand's kind. -/
def argWidth : CellArg → Nat
  | .v _ => 8 | .p _ => 1 | _ => 32

def argLanes : CellArg → Nat
  | .g _ => 2 | .p _ => 1 | .imm => 2 | _ => 16

/-- Saturation to a lane (R360). -/
def satLane (w : Nat) (x : Int) : Int :=
  if w = 1 then (if x = 0 then 0 else 1) else clampI (-(2 ^ (w - 1))) (2 ^ (w - 1) - 1) x

/-- A right shift with rounding: half of the last kept bit is added (R360). -/
def rshr (x : Int) (n : Nat) : Int :=
  let n := min n 96
  if n = 0 then x else (x + 2 ^ (n - 1)) / 2 ^ n

def immOf (i : BitVec 28) : Int := i.toInt

/-- One lane of a register. -/
def Cell.lane (x : Cell) (r : CellArg) (k : Nat) : Int :=
  match r with
  | .g n => x.g.get 0 (2 * n + k)
  | .v n => x.v.get 0 (16 * n + k)
  | .a n => x.a.get 0 (16 * n + k)
  | .p n => b2i (x.pred n)
  | .imm => 0

/-- Operands of one kind. -/
def argSame : CellArg → CellArg → Bool
  | .g _, .g _ | .v _, .v _ | .a _, .a _ | .p _, .p _ => true
  | _, _ => false

/-- The lanes of an operand for a destination: its own, IMM in each lane, or, where the kinds differ, lanes that the spec
leaves open (notes/assumptions/71.md). -/
def Cell.operand (x : Cell) (dst r : CellArg) (imm : Int) : List Int :=
  (List.range (argLanes dst)).map (fun k =>
    if r = .imm then imm
    else if argSame dst r then x.lane r k
    else satLane (argWidth dst) (Config.openResult 361 [(argCode dst), (argCode r), k, x.lane r 0, x.lane r 1]))

/-- Writes the lanes of a register, saturated. -/
def Cell.put (x : Cell) (dst : CellArg) (l : List Int) : Cell :=
  match dst with
  | .g n => { x with g := l.zipIdx.foldl (fun (t : Tab Int) p => t.set 0 (2 * n + p.2) (satLane 32 p.1)) x.g }
  | .v n => { x with v := l.zipIdx.foldl (fun (t : Tab Int) p => t.set 0 (16 * n + p.2) (satLane 8 p.1)) x.v }
  | .a n => { x with a := l.zipIdx.foldl (fun (t : Tab Int) p => t.set 0 (16 * n + p.2) (satLane 32 p.1)) x.a }
  | .p n => x.setPred n (l.headD 0 != 0)
  | .imm => x

/-- An operation lane by lane on one operand, on two, and on two with the destination's own lanes. -/
def State.cellMap1 (s : State) (p : Nat) (dst a : CellArg) (imm : Int) (f : Int → Int) : State :=
  let x := s.cell p
  s.setCell p (x.put dst ((x.operand dst a imm).map f))

def State.cellMap2 (s : State) (p : Nat) (dst a b : CellArg) (imm : Int) (f : Int → Int → Int) : State :=
  let x := s.cell p
  s.setCell p (x.put dst (List.zipWith f (x.operand dst a imm) (x.operand dst b imm)))

def State.cellMap3 (s : State) (p : Nat) (dst a b : CellArg) (imm : Int) (f : Int → Int → Int → Int) : State :=
  let x := s.cell p
  let own := x.operand dst dst imm
  s.setCell p (x.put dst ((own.zip ((x.operand dst a imm).zip (x.operand dst b imm))).map (fun q => f q.1 q.2.1 q.2.2)))

/-- A bitwise operation on lanes of a width. -/
def bitsOp (w : Nat) (f : Nat → Nat → Nat) (a b : Int) : Int :=
  let m : Int := 2 ^ w
  let r := f (a % m).toNat (b % m).toNat
  if w = 1 then (r % 2 : Nat) else (BitVec.ofNat w r).toInt

/-- Set bits of a lane. -/
def popCount (w : Nat) (a : Int) : Int :=
  (((List.range w).filter (fun i => ((a % (2 : Int) ^ w).toNat).testBit i)).length : Nat)

/-- The accumulator lanes of a set and the lanes of a vector register. -/
def Cell.accLanes (x : Cell) (r : Fin 2) : List Int := (List.range 16).map (x.lane (.a r))
def Cell.vecLanes (x : Cell) (r : Fin 16) : List Int := (List.range 16).map (x.lane (.v r))

/-! 64-bit values and SRAM -/

/-- A pair of lanes as 64 bits: lane 0 low (R358). -/
def pairNat (l0 l1 : Int) : Nat := (l0 % 2 ^ 32).toNat + 2 ^ 32 * (l1 % 2 ^ 32).toNat

def Cell.gNat (x : Cell) (r : Fin 64) : Nat := pairNat (x.lane (.g r) 0) (x.lane (.g r) 1)

/-- The lanes of 64 bits. -/
def natPair (v : Nat) : List Int := [(BitVec.ofNat 32 v).toInt, (BitVec.ofNat 32 (v / 2 ^ 32)).toInt]

/-- A byte of SRAM; an address outside the SRAM gives an open value (R358). -/
def Cell.byteAt (x : Cell) (a : Int) : Nat :=
  if 0 ≤ a && a < 32768 then x.sram.get 0 a.toNat else (Config.openResult 362 [a]).toNat % 256

/-- Stores bytes; those outside the SRAM are not stored. -/
def Cell.storeBytes (x : Cell) (a : Int) (l : List Nat) : Cell :=
  { x with
      sram := l.zipIdx.foldl (fun (t : Tab Nat) p =>
      let q := a + p.2
      if 0 ≤ q && q < 32768 then t.set 0 q.toNat (p.1 % 256) else t) x.sram }

def Cell.loadBytes (x : Cell) (a : Int) (n : Nat) : List Nat := (List.range n).map (fun k => x.byteAt (a + k))

/-- The little-endian number of bytes given as numbers, and its bytes. -/
def natLe (l : List Nat) : Nat := leNat (l.map (BitVec.ofNat 8))
def leNats (n v : Nat) : List Nat := (leBytes n v).map BitVec.toNat

/-- The SRAM address of LD, ST, LDV and STV (R362): Imm, or lane 0 of gA. -/
def Cell.address (x : Cell) (a : Option (Fin 64)) (imm : Int) : Int :=
  match a with
  | some r => x.lane (.g r) 0
  | none => imm

def addrCode (a : Option (Fin 64)) : Nat := match a with
  | some r => r
  | none => 0xFF

/-! Words on routes (R364) -/

/-- What SEND and BCAST send: the bits of an operand, IMM in both lanes. -/
def Cell.sendWord (x : Cell) (a : CellArg) (imm : Int) : Nat :=
  match a with
  | .g r => x.gNat r
  | .imm => pairNat imm imm
  | r => ((List.range (argLanes r)).map (fun k => (x.lane r k % 2 ^ (argWidth r)).toNat * 2 ^ ((argWidth r) * k))).sum

/-- A register from the bits of a word. -/
def Cell.takeWord (x : Cell) (dst : CellArg) (w : Nat) : Cell :=
  x.put dst ((List.range (argLanes dst)).map (fun k =>
    let b := w / 2 ^ ((argWidth dst) * k)
    if (argWidth dst) = 1 then ((b % 2 : Nat) : Int) else (BitVec.ofNat (argWidth dst) b).toInt))

/-- A word arrives on a route entry; with a parity error it is delivered as 0, counted (R365) and recorded (R390). -/
def State.deliverWord (s : State) (dest entry word : Nat) (parityError : Bool) : State :=
  let s := s.setCell dest { s.cell dest with inbox := (s.cell dest).inbox.set 0 entry (if parityError then 0 else word) }
  if parityError then (s.bump K.linkErrors).eventKey .fabric dest K.linkErrors else s

end Sys2Proof.Machine
end

