-- ==== Sys2Proof/Machine/Cells.lean ====
section
/-!
DEFINITION. The operations of the cells (R362), one meaning for each: the cell at `place` issues the word at its program's
place when that word is this operation with these operands.
-/
namespace Sys2Proof.Machine

/-! TENSOR -/

/-- VMAC. -/
def execVmac (place : Fin 2048) (pred : Fin 8) (inv : Bool) (dst : Fin 2) (a b : Fin 16) (s : State) : Out :=
  .next (s.issue place ⟨0, 0, pred, inv, some (0x50 + dst), some (0x40 + a), some (0x40 + b), none⟩ (fun s =>
    let x := s.cell place
    let prod := List.zipWith (· * ·) (x.vecLanes a) (x.vecLanes b)
    s.setCell place (x.put (.a dst) (List.zipWith (· + ·) (x.accLanes dst) prod))))

/-- DOT. -/
def execDot (place : Fin 2048) (pred : Fin 8) (inv : Bool) (dst : Fin 2) (a b : Fin 16) (s : State) : Out :=
  .next (s.issue place ⟨0, 1, pred, inv, some (0x50 + dst), some (0x40 + a), some (0x40 + b), none⟩ (fun s =>
    let x := s.cell place
    let sum := (List.zipWith (· * ·) (x.vecLanes a) (x.vecLanes b)).sum
    s.setCell place (x.put (.a dst) [x.lane (.a dst) 0 + sum])))

/-- VMUL. -/
def execVmul (place : Fin 2048) (pred : Fin 8) (inv : Bool) (dst : Fin 2) (a b : Fin 16) (s : State) : Out :=
  .next (s.issue place ⟨0, 2, pred, inv, some (0x50 + dst), some (0x40 + a), some (0x40 + b), none⟩ (fun s =>
    let x := s.cell place
    s.setCell place (x.put (.a dst) (List.zipWith (· * ·) (x.vecLanes a) (x.vecLanes b)))))

/-- ACLR. -/
def execAclr (place : Fin 2048) (pred : Fin 8) (inv : Bool) (dst : Fin 2) (s : State) : Out :=
  .next (s.issue place ⟨0, 3, pred, inv, some (0x50 + dst), none, none, none⟩ (fun s =>
    s.setCell place ((s.cell place).put (.a dst) (List.replicate 16 0))))

/-- AOUT8. -/
def execAout8 (place : Fin 2048) (pred : Fin 8) (inv : Bool) (dst : Fin 16) (a : Fin 2) (imm : BitVec 28) (s : State) : Out :=
  .next (s.issue place ⟨0, 4, pred, inv, some (0x40 + dst), some (0x50 + a), none, some imm.toNat⟩ (fun s =>
    let x := s.cell place
    s.setCell place (x.put (.v dst) ((x.accLanes a).map (fun v => rshr v imm.toNat)))))

/-- AOUT32: an accumulator lane that does not exist gives an open value. -/
def execAout32 (place : Fin 2048) (pred : Fin 8) (inv : Bool) (dst : Fin 64) (a : Fin 2) (imm : BitVec 28) (s : State) : Out :=
  .next (s.issue place ⟨0, 5, pred, inv, some dst, some (0x50 + a), none, some imm.toNat⟩ (fun s =>
    let x := s.cell place
    let lane (k : Nat) : Int := if k < 16 then x.lane (.a a) k else Config.openResult 363 [k]
    s.setCell place (x.put (.g dst) [lane imm.toNat, lane (imm.toNat + 1)])))

/-- ABIAS. -/
def execAbias (place : Fin 2048) (pred : Fin 8) (inv : Bool) (dst : Fin 2) (a : Fin 64) (s : State) : Out :=
  .next (s.issue place ⟨0, 6, pred, inv, some (0x50 + dst), some a, none, none⟩ (fun s =>
    let x := s.cell place
    s.setCell place (x.put (.a dst) ((x.accLanes dst).map (fun v => v + x.lane (.g a) 0)))))

/-- VBCAST. -/
def execVbcast (place : Fin 2048) (pred : Fin 8) (inv : Bool) (dst : Fin 16) (a : Fin 64) (s : State) : Out :=
  .next (s.issue place ⟨0, 7, pred, inv, some (0x40 + dst), some a, none, none⟩ (fun s =>
    let x := s.cell place
    s.setCell place (x.put (.v dst) (List.replicate 16 (BitVec.ofInt 8 (x.lane (.g a) 0)).toInt))))

/-! SCALAR -/

/-- The word of an operation with a destination, two sources and Imm. -/
def word3 (cls op : Nat) (pred : Fin 8) (inv : Bool) (dst a b : CellArg) (imm : BitVec 28) : CellWord :=
  ⟨cls, op, pred, inv, some (argCode dst), some (argCode a), some (argCode b), some imm.toNat⟩

def word2 (cls op : Nat) (pred : Fin 8) (inv : Bool) (dst a : CellArg) (imm : BitVec 28) : CellWord :=
  ⟨cls, op, pred, inv, some (argCode dst), some (argCode a), none, some imm.toNat⟩

/-- ADDS. -/
def execAdds (place : Fin 2048) (pred : Fin 8) (inv : Bool) (dst a b : CellArg) (imm : BitVec 28) (s : State) : Out :=
  .next (s.issue place (word3 1 0 pred inv dst a b imm) (fun s => s.cellMap2 place dst a b (immOf imm) (· + ·)))

/-- SUBS. -/
def execSubs (place : Fin 2048) (pred : Fin 8) (inv : Bool) (dst a b : CellArg) (imm : BitVec 28) (s : State) : Out :=
  .next (s.issue place (word3 1 1 pred inv dst a b imm) (fun s => s.cellMap2 place dst a b (immOf imm) (· - ·)))

/-- MULS. -/
def execMuls (place : Fin 2048) (pred : Fin 8) (inv : Bool) (dst a b : CellArg) (imm : BitVec 28) (s : State) : Out :=
  .next (s.issue place (word3 1 2 pred inv dst a b imm) (fun s =>
    s.cellMap2 place dst a b (immOf imm) (fun x y => rshr (x * y) imm.toNat)))

/-- MACS. -/
def execMacs (place : Fin 2048) (pred : Fin 8) (inv : Bool) (dst a b : CellArg) (imm : BitVec 28) (s : State) : Out :=
  .next (s.issue place (word3 1 3 pred inv dst a b imm) (fun s =>
    s.cellMap3 place dst a b (immOf imm) (fun d x y => d + rshr (x * y) imm.toNat)))

/-- MIN. -/
def execMin (place : Fin 2048) (pred : Fin 8) (inv : Bool) (dst a b : CellArg) (imm : BitVec 28) (s : State) : Out :=
  .next (s.issue place (word3 1 4 pred inv dst a b imm) (fun s => s.cellMap2 place dst a b (immOf imm) min))

/-- MAX. -/
def execMax (place : Fin 2048) (pred : Fin 8) (inv : Bool) (dst a b : CellArg) (imm : BitVec 28) (s : State) : Out :=
  .next (s.issue place (word3 1 5 pred inv dst a b imm) (fun s => s.cellMap2 place dst a b (immOf imm) max))

/-- SHLS: beyond 64 places every value but 0 is saturated. -/
def execShls (place : Fin 2048) (pred : Fin 8) (inv : Bool) (dst a : CellArg) (imm : BitVec 28) (s : State) : Out :=
  .next (s.issue place (word2 1 6 pred inv dst a imm) (fun s =>
    s.cellMap1 place dst a (immOf imm) (fun x => x * 2 ^ min imm.toNat 64)))

/-- SHRA: beyond 64 places only the sign is left. -/
def execShra (place : Fin 2048) (pred : Fin 8) (inv : Bool) (dst a : CellArg) (imm : BitVec 28) (s : State) : Out :=
  .next (s.issue place (word2 1 7 pred inv dst a imm) (fun s =>
    s.cellMap1 place dst a (immOf imm) (fun x => x / 2 ^ min imm.toNat 64)))

/-- The comparison that Imm names (R362); none for another code. -/
def compareLanes (code : Nat) (x y : Int) : Option Bool :=
  match code with
  | 0 => some (decide (x = y))
  | 1 => some (decide (x ≠ y))
  | 2 => some (decide (x < y))
  | 3 => some (decide (x ≤ y))
  | 4 => some (decide (y < x))
  | 5 => some (decide (y ≤ x))
  | _ => none

/-- CMP: a comparison code that the table does not list gives an open predicate. -/
def execCmp (place : Fin 2048) (pred : Fin 8) (inv : Bool) (dst : Fin 8) (a b : CellArg) (imm : BitVec 28) (s : State) : Out :=
  .next (s.issue place (word3 1 8 pred inv (.p dst) a b imm) (fun s =>
    let x := s.cell place
    let va := if a = .imm then immOf imm else x.lane a 0
    let vb := if b = .imm then immOf imm else x.lane b 0
    let r := (compareLanes imm.toNat va vb).getD (Config.openResult 364 [imm.toNat, va, vb] != 0)
    s.setCell place (x.setPred dst r)))

/-- MOV. -/
def execMov (place : Fin 2048) (pred : Fin 8) (inv : Bool) (dst a : CellArg) (imm : BitVec 28) (s : State) : Out :=
  .next (s.issue place (word2 1 9 pred inv dst a imm) (fun s => s.cellMap1 place dst a (immOf imm) id))

/-! LOGIC -/

/-- AND. -/
def execAnd (place : Fin 2048) (pred : Fin 8) (inv : Bool) (dst a b : CellArg) (imm : BitVec 28) (s : State) : Out :=
  .next (s.issue place (word3 2 0 pred inv dst a b imm) (fun s =>
    s.cellMap2 place dst a b (immOf imm) (bitsOp (argWidth dst) Nat.land)))

/-- OR. -/
def execOr (place : Fin 2048) (pred : Fin 8) (inv : Bool) (dst a b : CellArg) (imm : BitVec 28) (s : State) : Out :=
  .next (s.issue place (word3 2 1 pred inv dst a b imm) (fun s =>
    s.cellMap2 place dst a b (immOf imm) (bitsOp (argWidth dst) Nat.lor)))

/-- XOR. -/
def execXor (place : Fin 2048) (pred : Fin 8) (inv : Bool) (dst a b : CellArg) (imm : BitVec 28) (s : State) : Out :=
  .next (s.issue place (word3 2 2 pred inv dst a b imm) (fun s =>
    s.cellMap2 place dst a b (immOf imm) (bitsOp (argWidth dst) Nat.xor)))

/-- NOT. -/
def execNot (place : Fin 2048) (pred : Fin 8) (inv : Bool) (dst a : CellArg) (imm : BitVec 28) (s : State) : Out :=
  .next (s.issue place (word2 2 3 pred inv dst a imm) (fun s =>
    s.cellMap1 place dst a (immOf imm) (fun x => bitsOp (argWidth dst) (fun y _ => 2 ^ (argWidth dst) - 1 - y) x 0)))

/-- SEL. -/
def execSel (place : Fin 2048) (pred : Fin 8) (inv : Bool) (dst a b : CellArg) (imm : BitVec 28) (s : State) : Out :=
  .next (s.issue place (word3 2 4 pred inv dst a b imm) (fun s =>
    s.cellMap2 place dst a b (immOf imm) (fun x y => if (s.cell place).pred (imm.toNat % 8) then x else y)))

/-- POPC. -/
def execPopc (place : Fin 2048) (pred : Fin 8) (inv : Bool) (dst a : CellArg) (imm : BitVec 28) (s : State) : Out :=
  .next (s.issue place (word2 2 5 pred inv dst a imm) (fun s =>
    s.cellMap1 place dst a (immOf imm) (popCount (argWidth dst))))

/-! FUNCTION -/

/-- RELU. -/
def execRelu (place : Fin 2048) (pred : Fin 8) (inv : Bool) (dst a : CellArg) (imm : BitVec 28) (s : State) : Out :=
  .next (s.issue place (word2 3 0 pred inv dst a imm) (fun s => s.cellMap1 place dst a (immOf imm) (fun x => max x 0)))

/-- LUT: byte vA[k] + 128 of the table that starts at SRAM line Imm. -/
def execLut (place : Fin 2048) (pred : Fin 8) (inv : Bool) (dst a : Fin 16) (imm : BitVec 28) (s : State) : Out :=
  .next (s.issue place ⟨3, 1, pred, inv, some (0x40 + dst), some (0x40 + a), none, some imm.toNat⟩ (fun s =>
    let x := s.cell place
    s.setCell place (x.put (.v dst) ((x.vecLanes a).map (fun v =>
      (BitVec.ofNat 8 (x.byteAt (64 * imm.toNat + (v + 128)))).toInt)))))

/-- SIGM: the digits of the 32 segments are open, between 0 and 1 (notes/assumptions/72.md). -/
def execSigm (place : Fin 2048) (pred : Fin 8) (inv : Bool) (dst a : CellArg) (imm : BitVec 28) (s : State) : Out :=
  .next (s.issue place (word2 3 2 pred inv dst a imm) (fun s =>
    s.cellMap1 place dst a (immOf imm) (fun x => clampI 0 (2 ^ 24) (Config.openResult 365 [x]))))

/-- TANH: the digits of the 32 segments are open, between -1 and 1 (notes/assumptions/72.md). -/
def execTanh (place : Fin 2048) (pred : Fin 8) (inv : Bool) (dst a : CellArg) (imm : BitVec 28) (s : State) : Out :=
  .next (s.issue place (word2 3 3 pred inv dst a imm) (fun s =>
    s.cellMap1 place dst a (immOf imm) (fun x => clampI (-(2 ^ 24)) (2 ^ 24) (Config.openResult 366 [x]))))

/-- Lane `k` of register number `r`; a register that does not exist gives an open value. -/
def Cell.laneNo (x : Cell) (r k : Nat) : Int := if r < 64 then x.g.get 0 (2 * r + k) else Config.openResult 367 [r, k]

/-- QUANT: bytes 0-7 of vDst; the others stay. -/
def execQuant (place : Fin 2048) (pred : Fin 8) (inv : Bool) (dst : Fin 16) (a : Fin 64) (imm : BitVec 28) (s : State) : Out :=
  .next (s.issue place ⟨3, 4, pred, inv, some (0x40 + dst), some a, none, some imm.toNat⟩ (fun s =>
    let x := s.cell place
    s.setCell place (x.put (.v dst) ((List.range 8).map (fun k => rshr (x.laneNo (a + k / 2) (k % 2)) imm.toNat)))))

/-! MEMORY -/

/-- LD: 8 bytes at Imm, or at lane 0 of gA. -/
def execLd (place : Fin 2048) (pred : Fin 8) (inv : Bool) (dst : Fin 64) (a : Option (Fin 64)) (imm : BitVec 28) (s : State) : Out :=
  .next (s.issue place ⟨4, 0, pred, inv, some dst, some (addrCode a), none, some imm.toNat⟩ (fun s =>
    let x := s.cell place
    s.setCell place (x.put (.g dst) (natPair (natLe (x.loadBytes (x.address a (immOf imm)) 8))))))

/-- ST. -/
def execSt (place : Fin 2048) (pred : Fin 8) (inv : Bool) (a : Option (Fin 64)) (b : Fin 64) (imm : BitVec 28) (s : State) : Out :=
  .next (s.issue place ⟨4, 1, pred, inv, none, some (addrCode a), some b, some imm.toNat⟩ (fun s =>
    let x := s.cell place
    s.setCell place (x.storeBytes (x.address a (immOf imm)) (leNats 8 (x.gNat b)))))

/-- LDV. -/
def execLdv (place : Fin 2048) (pred : Fin 8) (inv : Bool) (dst : Fin 16) (a : Option (Fin 64)) (imm : BitVec 28) (s : State) : Out :=
  .next (s.issue place ⟨4, 2, pred, inv, some (0x40 + dst), some (addrCode a), none, some imm.toNat⟩ (fun s =>
    let x := s.cell place
    s.setCell place (x.put (.v dst) ((x.loadBytes (x.address a (immOf imm)) 16).map (fun b => (BitVec.ofNat 8 b).toInt)))))

/-- STV. -/
def execStv (place : Fin 2048) (pred : Fin 8) (inv : Bool) (a : Option (Fin 64)) (b : Fin 16) (imm : BitVec 28) (s : State) : Out :=
  .next (s.issue place ⟨4, 3, pred, inv, none, some (addrCode a), some (0x40 + b), some imm.toNat⟩ (fun s =>
    let x := s.cell place
    s.setCell place (x.storeBytes (x.address a (immOf imm)) ((x.vecLanes b).map (fun v => (v % 256).toNat)))))

/-- A DRAM request is issued: its predicate is clear until it completes, and at most 16 are outstanding (R366,
notes/assumptions/73.md). -/
def State.issueDma (s : State) (place : Nat) (write : Bool) (dst : Fin 8) (a b : Fin 64) (imm : Nat) : State :=
  let x := s.cell place
  if 16 ≤ x.dma.length then s
  else
    let r := (s.regionOf place).getD 0
    let q : CellDma := ⟨write, x.gNat a, (x.lane (.g b) 0).toNat, imm % 256, dst, s.regN (K.repeats r), false⟩
    s.setCell place { x.setPred dst false with dma := x.dma ++ [q] }

/-- DRD. -/
def execDrd (place : Fin 2048) (pred : Fin 8) (inv : Bool) (dst : Fin 8) (a b : Fin 64) (imm : BitVec 28) (s : State) : Out :=
  .next (s.issue place ⟨4, 4, pred, inv, some (0x58 + dst), some a, some b, some imm.toNat⟩ (fun s =>
    s.issueDma place false dst a b imm.toNat))

/-- DWR. -/
def execDwr (place : Fin 2048) (pred : Fin 8) (inv : Bool) (dst : Fin 8) (a b : Fin 64) (imm : BitVec 28) (s : State) : Out :=
  .next (s.issue place ⟨4, 5, pred, inv, some (0x58 + dst), some a, some b, some imm.toNat⟩ (fun s =>
    s.issueDma place true dst a b imm.toNat))

/-- Where the display frame region lies in the addresses of DRAM windows; the spec gives no address (notes/assumptions/74.md). -/
def displayBase : Nat := 2 ^ 32 + (Config.openResult 509 []).toNat

/-- A pricking owns the UI layer and may window the control area and both UI buffers (R509). -/
def State.ownsUi (s : State) (place : Nat) : Bool :=
  s.reg K.uiOwner == 2 && s.regionOf place == some (s.regN K.uiRegion)

/-- A byte of the display frame region (R506): as the last reset filled it until it is written. -/
def State.displayByte (s : State) (o : Nat) : Nat :=
  match s.panel.mem.get none o with
  | some b => b
  | none =>
    if 0x100000 ≤ o && o < 0xF00000 then
      let k := if o < 0x800000 then o - 0x100000 else o - 0x800000
      s.panel.fill / 2 ^ (8 * (2 - k % 3)) % 256
    else 0

/-- Where the fusion state region lies in those addresses; the spec gives no address (notes/assumptions/180.md). -/
def fusionBase : Nat := 2 ^ 33 + (Config.openResult 180 []).toNat

/-- The network of fusion runs on the cell's region: it reaches the fusion state region (R180). -/
def State.ownsFusion (s : State) (place : Nat) : Bool := s.fusionOn && s.regionOf place == some (s.regN K.fusionRegion)

/-- A byte that a DRAM window reads: the fabric area (also where the pricking declares no window, notes/assumptions/182.md), the
display frame region for its owner, the fusion state region for the network, else an open value. -/
def State.dramByte (s : State) (place a : Nat) : Nat :=
  if a < 2 ^ 32 then s.fabric.dram.get 0 a
  else if displayBase ≤ a && a < displayBase + 0xF00000 && s.ownsUi place then s.displayByte (a - displayBase)
  else match (if fusionBase ≤ a && a < fusionBase + 2 ^ 27 && s.ownsFusion place then s.fusionByte (a - fusionBase) else none) with
    | some b => b
    | none => (Config.openResult 368 [a]).toNat % 256

/-- Writes a byte through a DRAM window. -/
def State.dramWrite (s : State) (place a b : Nat) : State :=
  if a < 2 ^ 32 then { s with fabric := { s.fabric with dram := s.fabric.dram.set 0 a b } }
  else if displayBase ≤ a && a < displayBase + 0xF00000 && s.ownsUi place then
    { s with panel := { s.panel with mem := s.panel.mem.set none (a - displayBase) (some b) } }
  else if fusionBase ≤ a && a < fusionBase + 2 ^ 27 && s.ownsFusion place then s.fusionWrite (a - fusionBase) b
  else s

/-- DMA_COMPLETE (R366): the oldest request of a cell moves its lines and sets its predicate. -/
def execDmaComplete (place : Fin 2048) (s : State) : Out :=
  match (s.cell place).dma with
  | [] => .next s
  | q :: t =>
    let n := 64 * q.lines
    let s : State :=
      if q.write then
        ((s.cell place).loadBytes (64 * q.line) n).zipIdx.foldl (fun (s : State) b => s.dramWrite place (q.addr + b.2) b.1) s
      else s.setCell place ((s.cell place).storeBytes (64 * q.line) ((List.range n).map (fun k => s.dramByte place (q.addr + k))))
    .next (s.setCell place { (s.cell place).setPred q.pred true with dma := t })

/-! LINK -/

/-- SEND (R364, R365): the word goes to the destination of the cell's route entry Imm. -/
def execCellSend (place : Fin 2048) (pred : Fin 8) (inv : Bool) (a : CellArg) (imm : BitVec 28) (parityError : Bool) (s : State) : Out :=
  .next (s.issue place ⟨5, 0, pred, inv, none, some (argCode a), none, some imm.toNat⟩ (fun s =>
    let x := s.cell place
    match x.active.routes[imm.toNat]? with
    | some r => s.deliverWord r.dest imm.toNat (x.sendWord a (immOf imm)) parityError
    | none => s))

/-- RECV: the word that has arrived on route entry Imm, or 0. -/
def execRecv (place : Fin 2048) (pred : Fin 8) (inv : Bool) (dst : CellArg) (imm : BitVec 28) (s : State) : Out :=
  .next (s.issue place ⟨5, 1, pred, inv, some (argCode dst), none, none, some imm.toNat⟩ (fun s =>
    let x := s.cell place
    s.setCell place ({ x with inbox := x.inbox.set 0 imm.toNat 0 }.takeWord dst (x.inbox.get 0 imm.toNat))))

/-- BCAST: to every cell of the panel. -/
def execBcast (place : Fin 2048) (pred : Fin 8) (inv : Bool) (a : CellArg) (imm : BitVec 28) (parityError : Bool) (s : State) : Out :=
  .next (s.issue place ⟨5, 2, pred, inv, none, some (argCode a), none, some imm.toNat⟩ (fun s =>
    let w := (s.cell place).sendWord a (immOf imm)
    (List.range 64).foldl (fun (s : State) (k : Nat) => s.deliverWord (64 * panelOf place + k) imm.toNat w parityError) s))

/-! CONTROL -/

/-- NOP. -/
def execCellNop (place : Fin 2048) (pred : Fin 8) (inv : Bool) (s : State) : Out :=
  .next (s.issue place ⟨6, 0, pred, inv, none, none, none, none⟩ id)

/-- LOOP: the body and its passes stand in Imm. -/
def execCellLoop (place : Fin 2048) (pred : Fin 8) (inv : Bool) (imm : BitVec 28) (s : State) : Out :=
  let q : CellWord := ⟨6, 1, pred, inv, none, none, none, some imm.toNat⟩
  if !s.issues place q then .next s
  else
    let x := s.cell place
    if x.pred pred != inv then
      .next (s.setCell place { x with
        pc := x.pc + 1, loops := ⟨x.pc + 1, imm.toNat % 512, imm.toNat / 512 % 65536⟩ :: x.loops })
    else .next (s.setCell place x.advance)

/-- HANDOVER (R380): a switch is permitted at the next repeat boundary. -/
def execHandover (place : Fin 2048) (pred : Fin 8) (inv : Bool) (s : State) : Out :=
  .next (s.issue place ⟨6, 2, pred, inv, none, none, none, none⟩ (fun s =>
    match s.regionOf place with
    | some r => s.setRegion r { s.region r with handover := true }
    | none => s))

/-- TSTAMP. -/
def execTstamp (place : Fin 2048) (pred : Fin 8) (inv : Bool) (dst : Fin 64) (s : State) : Out :=
  .next (s.issue place ⟨6, 3, pred, inv, some dst, none, none, none⟩ (fun s =>
    s.setCell place ((s.cell place).put (.g dst) (natPair s.now))))

/-! SYSTEM -/

/-- OBJRD: the value that the region's mailbox holds for OEM entry Imm (R385). -/
def execObjrd (place : Fin 2048) (pred : Fin 8) (inv : Bool) (dst : Fin 64) (imm : BitVec 28) (s : State) : Out :=
  .next (s.issue place ⟨7, 0, pred, inv, some dst, none, none, some imm.toNat⟩ (fun s =>
    let r := (s.regionOf place).getD 0
    s.setCell place ((s.cell place).put (.g dst) (natPair ((s.region r).cellVals.get 0 imm.toNat)))))

/-- OBJWR: readable through the dictionary from the next boundary (R385). -/
def execObjwr (place : Fin 2048) (pred : Fin 8) (inv : Bool) (a : Fin 64) (imm : BitVec 28) (s : State) : Out :=
  .next (s.issue place ⟨7, 1, pred, inv, none, some a, none, some imm.toNat⟩ (fun s =>
    let r := (s.regionOf place).getD 0
    match (pObjects (s.runningOf r))[imm.toNat]? with
    | some o =>
      let n := if o.ty.isBytes then 8 else o.ty.size
      let x := s.region r
      s.setRegion r { x with toDict := x.toDict ++ [(key o.idx o.sub, leBytes n ((s.cell place).gNat a))] }
    | none => s))

/-- LINEWR (R363, R387): a line that the pricking claims and whose writer is PRICKING; refusals are counted (R122). -/
def execLinewr (place : Fin 2048) (pred : Fin 8) (inv : Bool) (a b : Fin 64) (imm : BitVec 28) (s : State) : Out :=
  .next (s.issue place ⟨7, 2, pred, inv, none, some a, some b, some imm.toNat⟩ (fun s =>
    let n := imm.toNat
    let r := (s.regionOf place).getD 0
    let x := s.cell place
    if n < 16 && (pLineMask (s.runningOf r)).testBit n && s.reg (K.lineEnable n) = 1 && s.reg (K.lineWriter n) = 2 then
      let k := (BitVec.ofNat 64 (x.gNat a)).toInt
      s.lineWrite n k (((List.range 16).map (fun j => x.laneNo (b + j / 2) (j % 2))).take (s.regN (K.lineLanes n)))
    else s))

/-- The highest internal slot that a region's pricking claims (R363, R387; notes/assumptions/58.md). -/
def State.claimTop (s : State) (r : Nat) : Nat := 4095 - ((List.range r).map (fun q => pCueClaim (s.runningOf q))).sum

/-- CUEARM (R363): a cue in a claimed internal slot, with the checks of R114; a refused arming clears pDst. -/
def execCuearm (place : Fin 2048) (pred : Fin 8) (inv : Bool) (dst : Fin 8) (imm : BitVec 28) (s : State) : Out :=
  .next (s.issue place ⟨7, 3, pred, inv, some (0x58 + dst), none, none, some imm.toNat⟩ (fun s =>
    let r := (s.regionOf place).getD 0
    let x := s.cell place
    let c := cueRec ((x.loadBytes (immOf imm) 40).map (BitVec.ofNat 8))
    let c' := { c with slot := s.claimTop r - c.slot }
    if decide (c.slot < pCueClaim (s.runningOf r)) && s.cueForm c' && !s.cueOwnerBad c' && (s.armCheck c').isNone then
      s.armCue c' 2 0 r
    else s.setCell place (x.setPred dst false)))

/-- AXRD: the axis value at the current tick (R100). -/
def execAxrd (place : Fin 2048) (pred : Fin 8) (inv : Bool) (dst : Fin 64) (imm : BitVec 28) (s : State) : Out :=
  .next (s.issue place ⟨7, 4, pred, inv, some dst, none, none, some imm.toNat⟩ (fun s =>
    let v := if imm.toNat < 16 then s.axisValue imm.toNat else Config.openResult 369 [imm.toNat]
    s.setCell place ((s.cell place).put (.g dst) (natPair (v % 2 ^ 64).toNat))))

/-- EVENT (R468): a prompt-book mark with code Imm and value gA. -/
def execEvent (place : Fin 2048) (pred : Fin 8) (inv : Bool) (a : Fin 64) (imm : BitVec 28) (s : State) : Out :=
  .next (s.issue place ⟨7, 5, pred, inv, none, some a, none, some imm.toNat⟩ (fun s =>
    let r := (s.regionOf place).getD 0
    s.offer .prickingEvent 7 r (leBytes 4 (immOf imm % 2 ^ 32).toNat ++ leBytes 1 r ++ zeros 3 ++
      leBytes 4 (s.regN (K.runningPrickingId r)) ++ zeros 4 ++ leBytes 8 ((s.cell place).gNat a) ++
      leBytes 8 (s.regN (K.repeats r)))))

end Sys2Proof.Machine
end

