-- ==== Sys2Proof/Machine/Contexts.lean ====
section
/-!
DEFINITION. The commands of 08_control_contexts.md.
-/
namespace Sys2Proof.Machine

/-- Periods that R245 admits: multiples of 25 us whose factor divides 400. -/
def periodOk (p : Nat) : Bool := p % 25000 == 0 && p != 0 && 400 % (p / 25000) == 0

/-- A numeric entry as last accepted: a waiting write, else the value in force (R249). -/
def State.ctxAccepted (s : State) (n sub : Nat) : Int :=
  match ((s.ctx n).writes.filter (fun w => w.sub == sub)).getLast?, descOf (0x3800 + n) sub with
  | some w, some d => d.ty.decode w.data
  | _, _ => s.reg (key (0x3800 + n) sub)

/-- The checks of an enabling (R237, R239, R241-R243, R246, R334). -/
def State.ctxEnableCheck (s : State) (n : Nat) : Option Abort :=
  let ms := s.reg (K.measSource n)
  let ss := s.reg (K.setpointSource n)
  let msel := s.regN (K.measSelect n)
  let ssel := s.regN (K.setpointSelect n)
  let ll := s.regN (K.laLine n)
  let k := s.reg (K.outKind n)
  let vs := s.reg (K.vsupSource n)
  firstSome [
    need (ms != 0 && ms != 10 && sourceSelects ms msel) .dependency,
    need (7 ≤ ss && ss ≤ 10 && sourceSelects ss ssel) .dependency,
    need (!(ms == 9 && msel == n) && !(ss == 9 && ssel == n)) .dependency,
    need (ll == 0xFF || (!s.axisAngular (s.regN (K.lineAxis ll)) && s.axisSource (s.regN (K.lineAxis ll)) != 0 &&
      decide (s.reg (K.laLane n) < s.reg (K.lineLanes ll)))) .dependency,
    need (vs != 1 || k == 1 || k == 2) .dependency,
    need (vs != 2 || decide (s.reg (K.ainMode (s.regN (K.vsupSelect n))) ≤ 2)) .dependency,
    need (s.ctxTargetOk n) .dependency,
    need (s.ctxPlace n).isSome .resourceExhausted]

/-- The rule of CtxEnable (R246, R256, R257, R92). -/
def ctxEnableRule (n : Nat) : WriteRule where
  check := fun s _ d => if wval d = 0 || s.reg (K.ctxEnable n) = 1 then none else s.ctxEnableCheck n
  aim := fun s d => if wval d = 0 && !s.isDisabling (aimCtx n) then 0 else aimCtx n
  effect := fun s _ seq d =>
    if wval d = 0 then
      if s.reg (K.ctxEnable n) = 1 then (s.startItem seq).beginDisable (aimCtx n) seq (s.tick + ticksMs 10)
      else s.settle (0x3800 + n) 1 seq d
    else if s.reg (K.ctxEnable n) = 1 then s.settle (0x3800 + n) 1 seq d
    else
      let s := s.settle (0x3800 + n) 1 seq d
      match s.ctxPlace n with
      | some pl => s.ctxStart n pl
      | none => s

/-- A write to an entry of a context: in force at once while it is disabled, else at its next sample (R249). -/
def ctxEntryRule (n sub : Nat) (check : State → Bytes → Option Abort := fun _ _ => none) : WriteRule where
  check := fun s _ d => check s d
  aim := fun _ _ => aimCtx n
  effect := fun s _ seq d =>
    if s.reg (K.ctxEnable n) = 1 then s.setCtx n { s.ctx n with writes := (s.ctx n).writes ++ [⟨sub, d, seq, s.tick⟩] }
    else s.settle (0x3800 + n) sub seq d

/-- The checks of an entry by its subindex (R244, R245, R259, R264). -/
def State.ctxEntryCheck (s : State) (n sub : Nat) (d : Bytes) : Option Abort :=
  let v := match descOf (0x3800 + n) sub with
    | some e => e.ty.decode d
    | none => 0
  let locked := (3 ≤ sub && sub ≤ 0x0B) || (0x18 ≤ sub && sub ≤ 0x1D) || (0x23 ≤ sub && sub ≤ 0x28) || sub == 0x2A || sub == 0x2B
  firstSome [
    need (sub != 3 || periodOk v.toNat) .valueInvalid,
    need (sub != 0x27 || v / 256 % 4 != 3) .valueInvalid,
    need (!(sub == 0x2A || sub == 0x2B) || v % 10 == 0) .valueInvalid,
    need (!locked || s.reg (K.ctxEnable n) != 1) .stateDenied,
    need (!((0x30 ≤ sub && sub ≤ 0x3C) || sub == 2) || (s.ctx n).reh.isNone) .stateDenied,
    need (sub != 0x12 || decide (v ≤ s.ctxAccepted n 0x13)) .dependency,
    need (sub != 0x13 || decide (s.ctxAccepted n 0x12 ≤ v)) .dependency,
    need (sub != 0x20 || decide (v ≤ s.ctxAccepted n 0x21)) .dependency,
    need (sub != 0x21 || decide (s.ctxAccepted n 0x20 ≤ v)) .dependency]

/-- The injection parameters keep R260. -/
def State.rehParamsOk (s : State) (n : Nat) : Bool :=
  decide (s.reg (K.rehF1 n) ≤ ctxRate (s.reg (K.samplePeriod n)) * 500) && (prbsTap (s.regN (K.rehPrbsOrder n))).isSome

/-- The rule of RehearsalStart (R259, R261, R263). An immediate rehearsal is RUNNING from its first sample on. -/
def rehStartRule (n : Nat) : WriteRule where
  check := fun s _ _ => firstSome [
    need (s.reg (K.ctxState n) != cxDisabled) .functionDisabled,
    need (s.reg (K.ctxState n) == cxRunning) .stateDenied,
    need (s.ctx n).reh.isNone .busy,
    need (decide (s.reg (K.rehPreSamples n) + s.reg (K.rehSamples n) + s.reg (K.rehPostSamples n) ≤ 524287) &&
      s.rehParamsOk n) .dependency,
    need (decide (s.rehearsals < 4) && s.freeCapture.isSome) .resourceExhausted]
  aim := fun _ _ => aimCtx n
  effect := fun s _ seq _ =>
    match s.freeCapture with
    | none => s
    | some b =>
      let armed := s.reg (K.rehStartMode n) = 1
      let order := s.regN (K.rehPrbsOrder n)
      let pre := s.regN (K.rehPreSamples n)
      let r : Reh := ⟨seq, s.regN (K.rehSignal n), s.regN (K.rehPoint n), s.reg (K.rehAmplitude n), pre,
        s.regN (K.rehSamples n), s.regN (K.rehPostSamples n), s.reg (K.rehF0 n), s.reg (K.rehF1 n), order,
        s.regN (K.rehPrbsHold n), s.reg (K.rehGuard n), s.regN (K.rehExtra n), s.tick, armed,
        if pre = 0 && !armed then 1 else 0, 0, 0, 0, 2 ^ order - 1, false, false, 1⟩
      let s := match s.captureOf n with
        | some o => s.setCapture o { s.capture o with ctx := none, left := some n }
        | none => s
      let s := s.setCapture b ⟨some n, none, seq, s.regN (K.samplePeriod n), r.signal, r.point, r.extra, 0, [], seq⟩
      let s := s.setCtx n { s.ctx n with reh := some r }
      let s := (s.setReg (K.rehearsalState n) (if armed then 1 else 0)).setReg (K.captureRecords n) 0
      (s.showRehearsals).startItem seq

/-- The rule of RehearsalStop (R262): an ARMED rehearsal ends now, a RUNNING one's INJECT phase at the next sample. -/
def rehStopRule (n : Nat) : WriteRule where
  aim := fun _ _ => aimCtx n
  effect := fun s _ seq _ =>
    match (s.ctx n).reh with
    | none => s.finish seq .done
    | some r =>
      if r.armed then (s.rehEnd n 2 .done).finish seq .done
      else s.setCtx n { s.ctx n with writes := (s.ctx n).writes ++ [⟨0x3E, [], seq, s.tick⟩] }

/-- The rule of StickyClear (R236, R264). -/
def stickyClearRule (n : Nat) : WriteRule :=
  { commandRule (fun _ _ => none) (fun s d =>
      s.setReg (K.stickyFlags n) (s.regN (K.stickyFlags n) - Nat.land (s.regN (K.stickyFlags n)) (wval d) : Nat)) with
    aim := fun _ _ => aimCtx n }

/-- The write rules of 0x3800-0x387F (R264). -/
def rule08 (idx sub : Nat) : Option WriteRule :=
  if 0x3800 ≤ idx && idx < 0x3880 then
    let n := idx - 0x3800
    if sub = 1 then some (ctxEnableRule n)
    else if sub = 0x3D then some (rehStartRule n)
    else if sub = 0x3E then some (rehStopRule n)
    else if sub = 0x43 then some (stickyClearRule n)
    else some (ctxEntryRule n sub (fun s d => s.ctxEntryCheck n sub d))
  else none

/-- CTX_ENABLE (R246). -/
def execCtxEnable (slot : Fin 16) (n : Fin 128) (s : State) : Out :=
  .next (s.request slot (0x3800 + n) 0x01 [1] (ctxEnableRule n))

/-- CTX_DISABLE (R256). -/
def execCtxDisable (slot : Fin 16) (n : Fin 128) (s : State) : Out :=
  .next (s.request slot (0x3800 + n) 0x01 [0] (ctxEnableRule n))

/-- CTX_MODE (R254). -/
def execCtxMode (slot : Fin 16) (n : Fin 128) (mode : BitVec 8) (s : State) : Out :=
  .next (s.request slot (0x3800 + n) 0x02 (leBytes 1 mode.toNat) (ctxEntryRule n 2 (fun s d => s.ctxEntryCheck n 2 d)))

/-- CONTEXT_ENTRY_WRITE (R249): a write to any entry of a context. -/
def execContextEntryWrite (slot : Fin 16) (n : Fin 128) (sub : BitVec 8) (value : Bytes) (s : State) : Out :=
  .next (s.request slot (0x3800 + n) sub.toNat value
    (match rule08 (0x3800 + n) sub.toNat with
      | some r => r
      | none => settingRule (0x3800 + n) sub.toNat))

/-- REHEARSAL_START (R259). -/
def execRehearsalStart (slot : Fin 16) (n : Fin 128) (value : BitVec 8) (s : State) : Out :=
  .next (s.request slot (0x3800 + n) 0x3D (leBytes 1 value.toNat) (rehStartRule n))

/-- REHEARSAL_STOP (R262). -/
def execRehearsalStop (slot : Fin 16) (n : Fin 128) (value : BitVec 8) (s : State) : Out :=
  .next (s.request slot (0x3800 + n) 0x3E (leBytes 1 value.toNat) (rehStopRule n))

/-- STICKY_CLEAR (R264). -/
def execStickyClear (slot : Fin 16) (n : Fin 128) (mask : BitVec 32) (s : State) : Out :=
  .next (s.request slot (0x3800 + n) 0x43 (leBytes 4 mask.toNat) (stickyClearRule n))

/-- NOT_TRIGGERED (R261): ARMED for 60 s. -/
def execNotTriggered (n : Fin 128) (s : State) : Out :=
  .next (match (s.ctx n).reh with
    | some r => if r.armed && decide (r.armedAt + ticksS 60 ≤ s.tick) then s.rehEnd n 5 .done else s
    | none => s)

/-- FALLBACK_ENTRY (R255, R266): an input invalid for FallbackTime in RUN mode; a rehearsal ends INPUT_INVALID. -/
def execFallbackEntry (n : Fin 128) (s : State) : Out :=
  .next (if s.reg (K.ctxState n) = cxRunning && s.heldFor (s.ctx n).invalidFrom (s.regN (K.fallbackTime n) / 10) then
    ((s.setReg (K.ctxState n) cxFallback).rehEnd n 4 .done).eventKey .control n (K.ctxState n)
  else s)

/-- FALLBACK_EXIT (R255): both inputs valid for FallbackTime. -/
def execFallbackExit (n : Fin 128) (s : State) : Out :=
  .next (if s.reg (K.ctxState n) = cxFallback && s.heldFor (s.ctx n).validFrom (s.regN (K.fallbackTime n) / 10) then
    s.setReg (K.ctxState n) cxRunning else s)

/-- Writes of the ticks before this one come into force, in order of acceptance, and complete (R249, R251). -/
def State.ctxApplyWrites (s : State) (n : Nat) : State :=
  let ws := (s.ctx n).writes.filter (fun w => decide (w.tick < s.tick))
  let s := s.setCtx n { s.ctx n with writes := (s.ctx n).writes.filter (fun w => decide (s.tick ≤ w.tick)) }
  ws.foldl (fun s w =>
    if w.sub = 0x3E then
      let s := match (s.ctx n).reh with
        | some r => s.setCtx n { s.ctx n with reh := some { r with stop := true } }
        | none => s
      s.finish w.item .done
    else
      let s := s.settle (0x3800 + n) w.sub w.item w.data
      if w.sub = 2 && s.reg (K.ctxState n) ≠ cxFault && !(s.reg (K.ctxState n) = cxFallback && s.reg (K.ctxMode n) = 0) then
        s.setReg (K.ctxState n) (s.ctxModeState n)
      else s) s

/-- One event (R250). -/
def State.ctxApplyEvent (s : State) (n code : Nat) : State :=
  let s := s.bump (K.eventsApplied n)
  match code with
  | 1 => s.setFlag (K.liveFlags n) cfIntHeld true
  | 2 => s.setFlag (K.liveFlags n) cfIntHeld false
  | 3 => s.setCtx n { s.ctx n with i := 0 }
  | 4 => s.setFlag (K.liveFlags n) cfLaOff true
  | 5 => s.setFlag (K.liveFlags n) cfLaOff false
  | 6 => s.setFlag (K.liveFlags n) cfFrozen true
  | 7 => s.setFlag (K.liveFlags n) cfFrozen false
  | 8 => match (s.ctx n).reh with
    | some r =>
      if r.armed then
        (s.setCtx n { s.ctx n with reh := some { r with armed := false, phase := 1, done := 0 } }).setReg (K.rehearsalState n) 2
      else s
    | none => s
  | _ => s

/-- Events latched before this tick, in order of latching (R251). -/
def State.ctxApplyEvents (s : State) (n : Nat) : State :=
  let due := (s.ctx n).events.filter (fun e => decide (e.2 < s.tick))
  let s := s.setCtx n { s.ctx n with events := (s.ctx n).events.filter (fun e => decide (s.tick ≤ e.2)) }
  due.foldl (fun s e => s.ctxApplyEvent n e.1) s

/-- The rehearsal moves on by one sample (R261, R262): `inj` was injected, `e` is the error. -/
def State.rehStep (s : State) (n : Nat) (r : Reh) (inj e : Int) : State :=
  if r.phase = 2 && r.post ≤ r.done then s.rehEnd n r.reason .done
  else
  let s := s.rehRecord n r inj r.phase
  if r.armed then s
  else
    let s := s.setReg (K.rehearsalState n) 2
    let done := r.done + 1
    let guard := r.phase = 1 && r.guard ≠ 0 && decide (r.guard < absI e)
    let r := if guard then { r with reason := 3 } else r
    let nx : Reh :=
      if r.phase = 0 then (if r.pre ≤ done then { r with phase := 1, done := 0 } else { r with done := done })
      else if r.phase = 1 then
        (if guard || r.samples ≤ done then { r with phase := 2, done := 0 } else { r with done := done })
      else { r with done := done }
    if nx.phase = 2 && nx.post ≤ nx.done then
      (s.setCtx n { s.ctx n with reh := some nx }).rehEnd n nx.reason .done
    else s.setCtx n { s.ctx n with reh := some nx }

/-- A stopped rehearsal enters POST (R262). -/
def Reh.stopped (r : Reh) : Reh := if r.stop && r.phase < 2 && !r.armed then { r with phase := 2, done := 0, reason := 2, stop := false } else r

/-- A sample's internal values, and its output to the context's target; in HOLD nothing is sent (R248). -/
def State.ctxOutput (s : State) (n : Nat) (x : Ctx) : State × Bool :=
  let s := s.setCtx n x
  if s.reg (K.ctxState n) = cxHold then (s, false) else s.deliver n x.u

/-- What a sample shows in the dictionary, and its part of a rehearsal. -/
def State.ctxShow (s : State) (n : Nat) (live : Int) (x : Ctx) (inj : Int) : State :=
  let s := s.setReg (K.liveFlags n) live
  let s := s.setReg (K.stickyFlags n) (Nat.lor (s.regN (K.stickyFlags n)) live.toNat : Nat)
  let s := ((s.setReg (K.measValue n) x.yf).setReg (K.setpointValue n) x.rr).setReg (K.output n) x.u
  let s := ((s.setReg (K.integrator n) (x.i / 65536)).setReg (K.lookAhead n) x.la).setReg (K.vsupGain n) x.g
  let s := s.bump (K.samples n)
  match x.reh with
  | some h => if s.rehBegun h then s.rehStep n h inj x.e else s
  | none => s

/-- The evaluation of a sample (R234, R253, R255, R257): `start` says whether R257 applies. -/
def State.ctxEvaluate (s : State) (n : Nat) (start : Bool) : State :=
  let x := s.ctx n
  let ms := s.reg (K.measSource n)
  let ss := s.reg (K.setpointSource n)
  let mi := s.ctxInput ms (s.regN (K.measSelect n)) n
  let si := s.ctxInput ss (s.regN (K.setpointSelect n)) n
  let mBad := s.inputInvalid n mi
  let sBad := s.inputInvalid n si
  let y := if mBad then (x.lastY, false)
    else sat24 ((mi.value - s.reg (K.measOffset n)) * s.reg (K.measScale n) / 2 ^ s.regN (K.measShift n))
  let r := if sBad then (x.lastR, false) else sat24 si.value
  let ll := s.regN (K.laLine n)
  let tap := s.tapOutput ll (s.regN (K.laTap n))
  let laUsed := ll ≠ 0xFF && s.reg (K.lineEnable ll) = 1 && !s.flag (K.liveFlags n) cfLaOff
  let starved := ll ≠ 0xFF && s.reg (K.lineEnable ll) = 1 && tap.isNone
  let lane := match tap with
    | some e => e.2.getD (s.regN (K.laLane n)) 0
    | none => 0
  let la := if laUsed && tap.isSome then sat24 (s.reg (K.kla n) * (lane - s.reg (K.laBias n)) / 2 ^ 16) else (0, false)
  let vs := s.ctxSupply n
  let g := vGain (s.reg (K.kfv n)) (s.reg (K.vsupNominal n)) vs.1
  let rh := (x.reh.filter s.rehBegun).map Reh.stopped
  let inj := match rh with
    | some h => if !h.armed && h.phase = 1 then (h.inject (ctxRate (s.reg (K.samplePeriod n))) h.done) else (0, h)
    | none => (0, ⟨0, 0, 0, 0, 0, 0, 0, 0, 0, 0, 0, 0, 0, 0, false, 0, 0, 0, 0, 0, false, false, 0⟩)
  let point := inj.2.point
  let x0 := if start then { x with yf := y.1, rr := r.1, d := 0, aff := 0, i := 0 } else x
  let par := s.ctxPar n
  let ev := evaluate par x0 ⟨y.1, r.1, la.1, la.2, g.1, g.2, if point = 0 then inj.1 else 0, if point = 1 then inj.1 else 0,
    s.flag (K.liveFlags n) cfIntHeld, s.flag (K.liveFlags n) cfFrozen, start⟩
  let st := s.reg (K.ctxState n)
  let held := x.u
  let us := if st = cxDict || (st = cxFallback && s.reg (K.disableOutput n) = 1) then s.reg (K.bypassValue n) else held
  let x1 := if st = cxRunning then ev.1 else track par ev.1 us
  let bad := mBad || sBad
  let x2 := { x1 with
    fresh := false, uBefore := held, lastTick := s.tick, sampled := true,
    lastY := if mBad then x.lastY else y.1, lastR := if sBad then x.lastR else r.1,
    invalidFrom := since x.invalidFrom bad s.tick, validFrom := since x.validFrom (!bad) s.tick,
    reh := if rh.isSome then some inj.2 else x.reh }
  let dl := s.ctxOutput n x2
  let keep := flagsOf [(cfIntHeld, dl.1.flag (K.liveFlags n) cfIntHeld), (cfLaOff, dl.1.flag (K.liveFlags n) cfLaOff),
    (cfFrozen, dl.1.flag (K.liveFlags n) cfFrozen), (cfStateError, dl.1.flag (K.liveFlags n) cfStateError)]
  let live := keep + ev.2 + flagsOf [(cfInput, y.2), (cfSetpoint, r.2), (cfNative, dl.2), (cfInStale, mBad), (cfSpStale, sBad),
    (cfStarved, starved), (cfVsup, vs.2), (cfLag, dl.1.cascadeLag ms (dl.1.regN (K.measSelect n)) ||
      dl.1.cascadeLag ss (dl.1.regN (K.setpointSelect n)))]
  dl.1.ctxShow n live x2 inj.1

/-- The context's sample instant: its slot in a window of its phase (R245). -/
def State.ctxDue (s : State) (n : Nat) : Bool :=
  s.reg (K.slot n) != 0xFF && s.tick % 2500 == s.regN (K.slot n) * 25 && s.ctxN n != 0 &&
  s.tick / 2500 % s.ctxN n == s.regN (K.phase n)

/-- CONTEXT_SAMPLE (R234, R247, R249, R251, R252, R256, R266): the sample of context `n` at its slot; `parityError` says
whether the engine finds an error in its state. -/
def execContextSample (n : Fin 128) (parityError : Bool) (s : State) : Out :=
  if !s.ctxDue n then .next s
  else if s.isDisabling (aimCtx n) then .next ((s.setReg (K.lastSampleTime n) s.now).ctxHandOver n)
  else
    let s := (s.setReg (K.lastSampleTime n) s.now).ctxApplyWrites n
    let s := s.setFlag (K.liveFlags n) cfStateError parityError
    let s := if parityError then
        (((s.bump (K.stateErrors 0)).setFlag (K.stickyFlags n) cfStateError true).setCtx n { s.ctx n with fresh := true }).eventKey
          .control n (K.liveFlags n)
      else s
    let failed := s.ctxTargetFailed n
    let back := s.reg (K.ctxState n) = cxFault && !failed
    let s := if back then (s.setReg (K.ctxState n) (s.ctxModeState n)).setCtx n { s.ctx n with fresh := true } else s
    let start := (s.ctx n).fresh
    let s := if start then
        ((s.setFlag (K.liveFlags n) cfIntHeld false).setFlag (K.liveFlags n) cfLaOff false).setFlag (K.liveFlags n) cfFrozen false
      else s
    let s := if start then s.setCtx n { s.ctx n with i := 0 } else s
    let s := s.ctxApplyEvents n
    if failed then
      if s.reg (K.ctxState n) = cxFault then .next s
      else .next (((s.setReg (K.ctxState n) cxFault).rehEnd n 7 .failed Abort.hardwareFault.code).eventKey .control n (K.ctxState n))
    else .next (s.ctxEvaluate n start)

end Sys2Proof.Machine
end

