-- ==== Sys2Proof/Machine/Display.lean ====
section
/-!
DEFINITION. The panel drive and the service tag (18_display_and_tag.md).
-/
namespace Sys2Proof.Machine

abbrev panelOff : Int := 0
abbrev panelPoweringUp : Int := 1
abbrev panelRunning : Int := 2
abbrev panelPoweringDown : Int := 3
abbrev panelFault : Int := 4

def State.setPanel (s : State) (x : Panel) : State := { s with panel := x }

/-! Composition (R508, R512) -/

/-- Pixels of the active area. -/
def State.activePixels (s : State) : Nat := s.regN K.hActive * s.regN K.vActive

/-- The offset of a UI buffer in the display frame region (R506). -/
def uiBase (b : Nat) : Nat := 0x100000 + b * 0x700000

/-- The active pixels of a UI buffer in scan order. -/
def State.uiBytes (s : State) (b : Nat) : Bytes :=
  (List.range (3 * s.activePixels)).map (fun k => BitVec.ofNat 8 (s.displayByte (uiBase b + k)))

/-- Uniformity correction of one channel value (R512). -/
def corrected (v g : Nat) : Nat := min 255 ((v * g + 64) / 128)

/-- A channel of what stands below the UI layer at a pixel (R508): the video window with the highest number that covers it, as
latched, else the fill. -/
def State.underUi (s : State) (x y c : Nat) : Nat :=
  (List.range 4).foldl (fun (v : Nat) (w : Nat) =>
    let l := s.panel.windows.get VideoWindow.init w
    let wide := s.regN (K.displayWidth l.sensor)
    let dx := x - s.regN (K.windowX w)
    let dy := y - s.regN (K.windowY w)
    if l.shown && decide (s.regN (K.windowX w) ≤ x) && decide (s.regN (K.windowY w) ≤ y) && decide (dx < wide) &&
        decide (dy < s.regN (K.displayHeight l.sensor))
    then (((s.cam l.sensor).shown.get [] l.buffer).getD (3 * (dy * wide + dx) + c) 0).toNat else v)
    (s.regN K.fillColour / 2 ^ (8 * (2 - c)) % 256)

/-- A channel of the composed output in scan order (R508): the fill and the video windows, the UI layer unless its pixel is the key
colour or the layer is left out, and the correction. -/
def State.scanByte (s : State) (k : Nat) : Byte :=
  let pixel (c : Nat) : Nat := s.displayByte (uiBase (s.regN K.frontBuffer) + k / 3 * 3 + c)
  let colour := pixel 0 * 65536 + pixel 1 * 256 + pixel 2
  let hidden := s.flag K.displayFlags 0 || (s.reg K.keyEnable == 1 && (colour : Int) == s.reg K.keyColour)
  let v := if hidden then s.underUi (k / 3 % s.regN K.hActive) (k / 3 / s.regN K.hActive) (k % 3) else pixel (k % 3)
  let m := s.blob K.uniformityMap
  BitVec.ofNat 8 (if s.reg K.uniformityEnable = 1 && !m.isEmpty then corrected v (m.getD k 0).toNat else v)

/-- ScanCrc of a frame: the CRC-32 of the composed output in scan order (R511). -/
def State.scanCrcOf (s : State) : Nat := crc32 ((List.range (3 * s.activePixels)).map s.scanByte)

/-! The LVDS output (R505) -/

/-- What the output carries at a column and line counted from the first active ones: the levels of DE, HSYNC and VSYNC, and in the active
area the link and the pixel's channels. -/
structure LvdsSlot where
  de : Bool
  hsync : Bool
  vsync : Bool
  pixel : Option (Nat × List Byte)
  deriving DecidableEq, Repr

/-- The levels and the pixel at a column of a line (R505): sync intervals after the front porches, polarities by SyncPolarity, and with
two links the odd columns on link 1. -/
def State.lvdsSlot (s : State) (col line : Nat) : LvdsSlot :=
  let active := decide (col < s.regN K.hActive) && decide (line < s.regN K.vActive)
  let within (v a n : Nat) : Bool := decide (a ≤ v) && decide (v < a + n)
  let h := within col (s.regN K.hActive + s.regN K.hFront) (s.regN K.hSync)
  let v := within line (s.regN K.vActive + s.regN K.vFront) (s.regN K.vSync)
  let level (on : Bool) (bit : Nat) : Bool := on != s.flag K.syncPolarity bit
  let at' := line * s.regN K.hActive + col
  { de := level active 2, hsync := level h 0, vsync := level v 1,
    pixel := if active then some (if s.reg K.lvdsLinks = 2 then col % 2 else 0, (List.range 3).map (fun c => s.scanByte (3 * at' + c)))
      else none }

/-- The frame that ends: its CRCs, and the check against the expected CRC (R511). -/
def State.scanFrame (s : State) : State :=
  let crc := crc32 (s.uiBytes (s.regN K.frontBuffer))
  let s := (s.setReg K.uiCrc (crc : Nat)).setReg K.scanCrc (s.scanCrcOf : Nat)
  let p := s.panel
  let bad := p.expected != 0 && crc != p.expected
  let ok := p.expected != 0 && crc == p.expected
  let n := if bad then p.mismatches + 1 else 0
  let s := s.setPanel { p with mismatches := n, flipped := false }
  let s := if bad then s.bump K.crcMismatches else s
  let s := if p.flipped && ok then s.setFlag K.displayFlags 0 false else s
  if bad && s.regN K.crcFailLimit ≤ n && !s.flag K.displayFlags 0 then
    (s.setFlag K.displayFlags 0 true).eventKey .display 0 K.displayFlags
  else s

/-! Flips (R511) -/

/-- A flip takes effect. -/
def State.takeFlip (s : State) (f : Flip) : State :=
  let s := s.setPanel { s.panel with flip := none, expected := f.crc, flipped := true }
  let s := (s.setFlag K.displayFlags 4 false).setReg K.frontBuffer (f.buffer : Nat)
  if f.item = 0 then s else s.finish f.item .done

/-- A flip that waits ends CANCELLED. -/
def State.dropFlip (s : State) : State :=
  match s.panel.flip with
  | none => s
  | some f =>
    let s := (s.setPanel { s.panel with flip := none }).setFlag K.displayFlags 4 false
    if f.item = 0 then s else s.finish f.item .cancelled

/-- The request of a PRICKING owner at control-area offset 0 (R509) is taken: it waits for the frame latch in the place of one that
waits, or takes effect at once while the panel does not run; requests replaced are counted (R511). -/
def State.prickingFlip (s : State) : State :=
  let b : Bytes := (List.range 12).map (fun k => BitVec.ofNat 8 (s.displayByte k))
  let count := fieldU b 8 4
  if s.reg K.uiOwner ≠ 2 || count = s.panel.taken then s
  else
    let skipped := (count + 2 ^ 32 - s.panel.taken - 1) % 2 ^ 32
    let s := s.setPanel { s.panel with taken := count }
    let s := s.bumpBy K.flipsReplaced ((skipped + b2n s.panel.flip.isSome : Nat) : Int)
    let f : Flip := ⟨0, fieldU b 0 1, fieldU b 4 4⟩
    if 1 < f.buffer then s
    else if s.reg K.panelState = panelRunning then
      let s := s.dropFlip
      (s.setPanel { s.panel with flip := some f }).setFlag K.displayFlags 4 true
    else s.dropFlip.takeFlip f

/-! The frame latch (R507) -/

/-- A video window at the latch: the newest display output of its camera, or fill where it is missing or stale (R508). -/
def State.latchWindow (s : State) (w : Nat) : VideoWindow × Bool :=
  if s.reg (K.windowEnable w) ≠ 1 then (VideoWindow.init, false)
  else
    let c := s.regN (K.windowSensor w)
    match (s.cam c).display with
    | some (seq, b, t) =>
      if t + s.regN (K.videoStaleTime w) * 1000000 < s.now then (VideoWindow.init, true)
      else ({ shown := true, sensor := c, buffer := b, sequence := seq }, false)
    | none => (VideoWindow.init, true)

def State.latchWindows (s : State) : State :=
  let l := (List.range 4).map (fun w => (w, s.latchWindow w))
  let t := l.foldl (fun (t : Tab VideoWindow) x => t.set VideoWindow.init x.1 x.2.1) s.panel.windows
  (s.setPanel { s.panel with windows := t }).setFlag K.displayFlags 1 (l.any (fun x => x.2.2))

/-- Settings that wait for the frame latch come into force (R512, R520). -/
def State.takeSettings (s : State) : State :=
  let l := s.panel.settings
  l.foldl (fun (s : State) x => s.settle x.idx x.sub x.item x.data) (s.setPanel { s.panel with settings := [] })

/-- Composed frames are scanned out: the panel runs, is past beat 7 of its power-up (R514), or has them still on its links in a
power-down (R515). -/
def State.composing (s : State) : Bool :=
  s.reg K.panelState == panelRunning ||
  (s.reg K.panelState == panelPoweringUp && s.panel.upFrom.any (fun t => decide (t + ticksMs 50 ≤ s.tick))) ||
  (s.reg K.panelState == panelPoweringDown && decide (ticksMs 50 ≤ s.panel.upFor) && !s.panel.vddCut &&
    s.panel.downFrom.any (fun t => decide (s.tick < t + ticksMs 8)))

/-- FRAME_LATCH (R507-R512): the end of the last active line of a frame. -/
def execFrameLatch (s : State) : Out :=
  if !s.composing then .next s
  else
    let s := s.scanFrame.takeSettings
    let s := match s.panel.flip with
      | some f => s.takeFlip f
      | none => s
    .next s.latchWindows

/-! Writers (R509-R512) -/

/-- The fields of a UiRectWrite value: X, Y, W, H and the buffer (R510). -/
def rectOf (d : Bytes) : Nat × Nat × Nat × Nat × Nat := (fieldU d 0 2, fieldU d 2 2, fieldU d 4 2, fieldU d 6 2, fieldU d 8 1)

/-- The rule of UiRectWrite (R509, R510). -/
def uiRectRule : WriteRule where
  owner := fun s _ => s.reg K.uiOwner != 1
  check := fun s _ d =>
    let r := rectOf d
    firstSome [
      need (d.length == 12 + 3 * r.2.2.1 * r.2.2.2.1) .typeLength,
      need (decide (r.2.2.2.2 ≤ 1) && allZero (field d 9 3) && decide (r.1 + r.2.2.1 ≤ s.regN K.hActive) &&
        decide (r.2.1 + r.2.2.2.1 ≤ s.regN K.vActive)) .valueInvalid,
      need (s.regN K.frontBuffer != r.2.2.2.2 && !s.panel.flip.any (fun f => f.buffer == r.2.2.2.2)) .stateDenied]
  effect := fun s _ seq d =>
    let r := rectOf d
    let w := r.2.2.1
    let bytes := (d.drop 12).map BitVec.toNat
    let mem := bytes.zipIdx.foldl (fun (t : Tab (Option Nat)) x =>
      let px := x.2 / 3
      let at' := (r.2.1 + px / w) * s.regN K.hActive + r.1 + px % w
      t.set none (uiBase r.2.2.2.2 + 3 * at' + x.2 % 3) (some x.1)) s.panel.mem
    (s.setPanel { s.panel with mem := mem }).finish seq .done

/-- UI_RECT_WRITE (R510). -/
def execUiRectWrite (slot : Fin 16) (value : Bytes) (s : State) : Out := .next (s.request slot 0x6403 0 value uiRectRule)

/-- The rule of UiFlip (R509, R511). -/
def uiFlipRule : WriteRule where
  owner := fun s _ => s.reg K.uiOwner != 1
  check := fun s _ d => firstSome [
    need (decide (fieldU d 0 1 ≤ 1) && allZero (field d 1 3)) .valueInvalid,
    need s.panel.flip.isNone .busy]
  effect := fun s _ seq d =>
    let f : Flip := ⟨seq, fieldU d 0 1, fieldU d 4 4⟩
    if s.reg K.panelState = panelRunning then
      ((s.startItem seq).setPanel { s.panel with flip := some f }).setFlag K.displayFlags 4 true
    else s.takeFlip f

/-- UI_FLIP (R511). -/
def execUiFlip (slot : Fin 16) (value : BitVec 64) (s : State) : Out :=
  .next (s.request slot 0x6402 0 (leBytes 8 value.toNat) uiFlipRule)

/-- A setting of the panel that comes into force at the next frame latch (R512, R520), or at once while no frame is scanned. -/
def latchRule (idx sub : Nat) (check : State → Bytes → Option Abort := fun _ _ => none) : WriteRule where
  check := fun s _ d => check s d
  effect := fun s _ seq d =>
    if s.reg K.panelState = panelRunning then
      let s := s.startItem seq
      s.setPanel { s.panel with settings := s.panel.settings ++ [⟨idx, sub, d, seq⟩] }
    else s.settle idx sub seq d

/-- The rule of UniformityMap (R512). -/
def uniformityRule : WriteRule :=
  latchRule 0x6404 0 (fun s d => need (d.isEmpty || d.length == 3 * s.activePixels) .typeLength)

/-- UNIFORMITY_MAP (R512). -/
def execUniformityMap (slot : Fin 16) (value : Bytes) (s : State) : Out := .next (s.request slot 0x6404 0 value uniformityRule)

/-! Supplies (R513-R515) -/

/-- The power-down sequence starts (R515); `fault` when it ends in FAULT. Nothing waits for a frame latch any more. -/
def State.panelDown (s : State) (fault : Bool) : State :=
  let st := s.reg K.panelState
  if st = panelOff || st = panelFault then s
  else if st = panelPoweringDown then s.setPanel { s.panel with downFault := s.panel.downFault || fault }
  else
    let p := s.panel
    let upFor := match p.upFrom with
      | some t => s.tick - t
      | none => ticksMs 200
    let s := s.setPanel { p with
      upFrom := none, upItem := 0, downFrom := some s.tick, downFault := fault, upFor := upFor, vddCut := false }
    s.takeSettings.setReg K.panelState panelPoweringDown

/-- The power-up sequence starts (R514). -/
def State.panelUp (s : State) (item : Nat) : State :=
  let r := s.draw
  let s := r.2
  let clock := s.regN K.pixelClock
  let actual := clock - clock / 2000 + r.1 % (2 * (clock / 2000) + 1)
  let total := (s.regN K.hActive + s.regN K.hFront + s.regN K.hSync + s.regN K.hBack) *
    (s.regN K.vActive + s.regN K.vFront + s.regN K.vSync + s.regN K.vBack)
  let s := ((s.setFlag K.displayFlags 2 false).setFlag K.displayFlags 3 false).setReg K.panelState panelPoweringUp
  let s := (s.setReg K.pixelClockActual (actual : Nat)).setReg K.frameRate (actual * 1000 / total : Nat)
  s.setPanel { s.panel with upFrom := some s.tick, upItem := item, downFrom := none, downFault := false }

/-- Enabling checks (R505, R512). -/
def State.panelChecks (s : State) : Bool :=
  let even (k : Nat) : Bool := s.reg k % 2 == 0
  let clock := s.reg K.pixelClock
  let m := s.blob K.uniformityMap
  (s.reg K.lvdsLinks == 1 || (even K.hActive && even K.hFront && even K.hSync && even K.hBack)) &&
  (if s.reg K.lvdsLinks = 1 then decide (25000000 ≤ clock) && decide (clock ≤ 85000000)
    else decide (50000000 ≤ clock) && decide (clock ≤ 170000000)) &&
  (m.isEmpty || m.length == 3 * s.activePixels)

/-- The rule of PanelEnable (R505, R514, R515). -/
def panelEnableRule : WriteRule where
  check := fun s _ d => need (wval d == 0 || s.reg K.panelEnable == 1 || s.panelChecks) .dependency
  effect := fun s _ seq d =>
    let was := s.reg K.panelEnable
    let s := s.putEntry 0x6400 1 d
    if s.reg K.panelEnable = was then s.finish seq .done
    else if wval d = 1 then (s.startItem seq).panelUp seq
    else
      let item := s.panel.upItem
      let s := (s.dropFlip.panelDown false).finish seq .done
      let s := if s.reg K.panelState = panelFault then s.setReg K.panelState panelOff
        else s.setPanel { s.panel with downFault := false }
      if item = 0 then s else s.finish item .cancelled

/-- PANEL_POWER_UP (R514): a write of 1 to PanelEnable, else a look at the running sequence: at 200 ms the panel runs, and a
supply that has not reached its setting (`ok` false) ends it in FAULT. -/
def execPanelPowerUp (slot : Fin 16) (write ok : Bool) (s : State) : Out :=
  if write then .next (s.request slot 0x6400 1 [1] panelEnableRule)
  else match s.panel.upFrom with
    | none => .next s
    | some t =>
      let item := s.panel.upItem
      if !ok then
        let s := (s.panelDown true).setFlag K.displayFlags 2 true
        let s := s.eventKey .display 0 K.displayFlags
        .next (if item = 0 then s else s.finish item .failed Abort.hardwareFault.code)
      else if s.tick < t + ticksMs 200 then .next s
      else
        let s := s.setPanel { s.panel with upFrom := none, upItem := 0 }
        let s := s.setReg K.panelState panelRunning
        .next (if item = 0 then s else s.finish item .done)

/-- PANEL_POWER_DOWN (R515): a write of 0 to PanelEnable, else the end of the running sequence after 10 ms. -/
def execPanelPowerDown (slot : Fin 16) (write : Bool) (s : State) : Out :=
  if write then .next (s.request slot 0x6400 1 [0] panelEnableRule)
  else match s.panel.downFrom with
    | none => .next s
    | some t =>
      if s.tick < t + ticksMs 10 then .next s
      else
        let fault := s.panel.downFault
        let s := s.setPanel { s.panel with downFrom := none, downFault := false, vddCut := false, windows := ⟨[]⟩ }
        let s := (s.setReg K.frameRate 0).setReg K.pixelClockActual 0
        let s := match s.panel.flip with
          | some f => s.takeFlip f
          | none => s
        .next (s.setReg K.panelState (if fault then panelFault else panelOff))

/-- The panel's supplies are on. -/
def State.panelOn (s : State) : Bool := s.reg K.panelState == panelPoweringUp || s.reg K.panelState == panelRunning

/-- The outputs to the panel. -/
inductive PanelRail where
  | vdd | lvds | avdd | vgl | vgh | vcomGamma | backlight
  deriving DecidableEq, Repr

/-- The beat of an output in the power-up and in the power-down sequence, in ms (R514, R515). -/
def PanelRail.beats : PanelRail → Nat × Nat
  | .vdd => (0, 10) | .lvds => (10, 8) | .avdd => (20, 7) | .vgl => (30, 5) | .vgh => (35, 3) | .vcomGamma => (40, 2)
  | .backlight => (200, 0)

/-- An output to the panel is on: its beat of the power-up has come, and that of the power-down has not (R514, R515). -/
def State.railOn (s : State) (r : PanelRail) : Bool :=
  if s.reg K.panelState = panelRunning then true
  else if s.reg K.panelState = panelPoweringUp then s.panel.upFrom.any (fun t => decide (t + ticksMs r.beats.1 ≤ s.tick))
  else if s.reg K.panelState = panelPoweringDown then
    decide (ticksMs r.beats.1 ≤ s.panel.upFor) && !(r == .vdd && s.panel.vddCut) &&
      s.panel.downFrom.any (fun t => decide (s.tick < t + ticksMs r.beats.2))
  else false

/-- The output that a bias supply is: AVDD, VGH, VGL, VCOM. -/
def biasRail (k : Nat) : PanelRail := [PanelRail.avdd, .vgh, .vgl, .vcomGamma].getD k .vcomGamma

/-- The setting of a bias supply in mV: AVDD, VGH, VGL, VCOM (R513). -/
def State.biasSetting (s : State) (k : Nat) : Int :=
  match k with
  | 0 => s.reg K.avddVoltage
  | 1 => s.reg K.vghVoltage
  | 2 => s.reg K.vglVoltage
  | _ => s.reg K.vcomLevel * s.reg K.avddVoltage / 1023

/-- BIAS_FAULT (R522): a reading of a bias supply that has stood for `held` ticks; a supply that is not on yet is not judged. -/
def execBiasFault (k : Fin 4) (mv : BitVec 16) (held : Nat) (s : State) : Out :=
  let v := mv.toInt
  let set := s.biasSetting k
  let s := s.setReg (K.biasMeasured k) v
  if s.panelOn && s.railOn (biasRail k) && absI set < 10 * absI (v - set) && ticksMs 10 ≤ held then
    let item := s.panel.upItem
    let s := (s.panelDown true).setFlag K.displayFlags 2 true
    let s := s.eventKey .display 0 K.displayFlags
    .next (if item = 0 then s else s.finish item .failed Abort.hardwareFault.code)
  else .next s

/-- VDD_OVERCURRENT (R513, R522): PANEL_VDD above 2 A trips. -/
def execVddOvercurrent (s : State) : Out :=
  if s.panelOn || s.reg K.panelState = panelPoweringDown then
    let item := s.panel.upItem
    let s := s.panelDown true
    let s := (s.setPanel { s.panel with vddCut := true }).setFlag K.displayFlags 3 true
    let s := s.eventKey .display 0 K.displayFlags
    .next (if item = 0 then s else s.finish item .failed Abort.hardwareFault.code)
  else .next s

/-! The service tag (R516-R519) -/

def State.setTag (s : State) (x : Tag) : State := { s with tag := x }

/-- Content passes to the tag controller; only the newest waits (R518). -/
def State.tagContent (s : State) (seq : Nat) (payload : Bytes) : State := s.setTag { s.tag with waiting := some (seq, payload) }

/-- TAG_UPDATE (R518): the controller takes the waiting content while the reservoir is READY. -/
def execTagUpdate (s : State) : Out :=
  match s.tag.writing, s.tag.waiting with
  | none, some c =>
    if s.reg K.tagReservoir = 1 then
      .next ((s.setTag { s.tag with writing := some c, waiting := none, phaseFrom := some s.tick }).setReg K.tagMarker 1)
    else .next s
  | _, _ => .next s

/-- An update has run for `d` ticks. The tick count says nothing of it while the logic is off, nor of an update that began before the
last reset: the controller goes on from its reservoir. -/
def State.tagPhaseDue (s : State) (d : Nat) : Bool :=
  s.power.phase != .up || s.tag.phaseFrom.all (fun t => decide (t + d ≤ s.tick))

/-- TAG_PHASE_END (R518): phase 1 ends 600 ms and phase 2 1,500 ms after the update's begin. -/
def execTagPhaseEnd (s : State) : Out :=
  match s.tag.writing with
  | none => .next s
  | some (seq, payload) =>
    if s.reg K.tagMarker = 1 && s.tagPhaseDue (ticksMs 600) then .next (s.setReg K.tagMarker 2)
    else if s.reg K.tagMarker = 2 && s.tagPhaseDue (ticksMs 1500) then
      let s := s.setTag { s.tag with writing := none, shown := payload }
      .next (((s.setReg K.tagMarker 0).setReg K.tagRecordSeq (seq : Nat)).setReg K.tagLastUpdate (s.now : Nat))
    else .next s

/-- The payload of a TAG_CONTENT record (R517). -/
def tagPayload (serial head : Bytes) (fieldOpen : Bool) : Bytes :=
  let o : Bytes := leBytes 1 (b2n fieldOpen)
  head ++ leBytes 4 (crc32 (serial ++ head ++ o)) ++ o ++ zeros 11

/-- The TAG_CONTENT payload of this shutdown (R517). -/
def State.tagPayloadNow (s : State) (cause : Nat) : Bytes :=
  let ev (k : Nat) : Bytes := match s.tag.events[k]? with
    | some (src, unit, idx, sub) => leBytes 2 src ++ leBytes 2 unit ++ leBytes 2 idx ++ leBytes 1 sub ++ zeros 1
    | none => zeros 8
  let f := s.openFieldNo
  let head := leBytes 1 1 ++ leBytes 1 cause ++ leBytes 1 (b2n (s.reg K.timeState == 1)) ++ zeros 1 ++ leBytes 8 s.now ++
    leBytes 4 (s.regN K.operatingTime) ++ leBytes 4 (s.regN K.powerCycles) ++ leBytes 4 (s.regN K.firmwareVersion) ++
    leBytes 2 (s.regN K.spareFlags) ++ leBytes 2 s.tag.faults ++ ev 0 ++ ev 1 ++ ev 2 ++
    leBytes 1 (f.getD 0) ++ leBytes 1 (s.regN K.stopState) ++ leBytes 1 (s.regN K.journalState) ++ leBytes 1 (s.regN K.bookState)
  tagPayload (s.blob K.serialNumber) head f.isSome

/-- The identity items alone, with Cause 0xFF (R519). -/
def State.tagIdentity (s : State) : Bytes :=
  tagPayload (s.blob K.serialNumber) ([1, 255] ++ zeros 54) false

/-- What the tag shows, top to bottom (R516): the identity entries, the firmware version, the shutdown cause, the UTC time in ns
where it is known, the operating hours and power cycles, SpareFlags and FaultCount, the last events, and TagCheck as two groups of
16 bits. -/
structure TagFace where
  deviceName : Bytes
  orderingCode : Bytes
  serialNumber : Bytes
  firmware : Nat
  cause : Nat
  time : Option Int
  hours : Nat
  cycles : Nat
  spareFlags : Nat
  faults : Nat
  events : List (Nat × Nat × Nat × Nat)
  check : Nat × Nat
  deriving DecidableEq, Repr

/-- The face of the content shown (R516). -/
def State.tagFace (s : State) : TagFace :=
  let p := s.tag.shown
  let ev (k : Nat) : Nat × Nat × Nat × Nat := (fieldU p (28 + 8 * k) 2, fieldU p (30 + 8 * k) 2, fieldU p (32 + 8 * k) 2, fieldU p (34 + 8 * k) 1)
  { deviceName := s.blob K.deviceName, orderingCode := s.blob K.orderingCode, serialNumber := s.blob K.serialNumber,
    firmware := fieldU p 20 4, cause := fieldU p 1 1,
    time := if fieldU p 2 1 = 1 then some ((fieldU p 4 8 : Nat) - s.reg K.utcOffset * 10 ^ 9) else none,
    hours := fieldU p 12 4 / 3600, cycles := fieldU p 16 4, spareFlags := fieldU p 24 2, faults := fieldU p 26 2,
    events := ((List.range 3).map ev).filter (fun e => e.1 != 0), check := (fieldU p 58 2, fieldU p 56 2) }

/-- The readable TAG_CONTENT records of every area (R477, R519). -/
def State.tagRecords (s : State) : List Rec :=
  let run := (s.book.running.map Prod.snd).filter (fun r => decide (s.book.oldest ≤ r.seq))
  (run ++ s.book.staged ++ s.book.firstNight ++ s.book.clearingLog).filter (fun r => r.code == 9)

/-- TAG_STARTUP_CHECK (R519): once the book is readable and the marker reads IDLE; `cut` when the marker was left in CLEARING or
WRITING. -/
def execTagStartupCheck (cut : Bool) (s : State) : Out :=
  if s.tag.checked || s.reg K.powerState = 0 || (!cut && s.reg K.tagMarker ≠ 0) then .next s
  else
    let s := s.setTag { s.tag with checked := true, writing := none }
    let s := s.setReg K.tagMarker 0
    let best := s.tagRecords.foldl (fun (m : Option Rec) r => match m with
      | some x => if x.seq < r.seq then some r else some x
      | none => some r) none
    match best with
    | none => .next (s.tagContent 0 s.tagIdentity)
    | some r =>
      if cut || s.regN K.tagRecordSeq ≠ r.seq then .next ((s.tagContent r.seq r.payload).bump K.tagRewrites) else .next s

/-- TAG_RESERVOIR_READY (R518): 20 s after start-up. -/
def execTagReservoirReady (s : State) : Out :=
  .next (if s.reg K.tagReservoir = 0 && ticksS 20 ≤ s.tick then s.setReg K.tagReservoir 1 else s)

/-- TAG_RESERVOIR_FAULT (R522): not charged within 60 s, or the controller is silent at start-up. -/
def execTagReservoirFault (silent : Bool) (s : State) : Out :=
  if s.reg K.tagReservoir ≠ 2 && (silent || (s.reg K.tagReservoir = 0 && ticksS 60 ≤ s.tick)) then
    .next (((s.setReg K.tagReservoir 2).setFlag K.displayFlags 5 true).eventKey .display 0 K.displayFlags)
  else .next s

/-! Settings (R520) -/

/-- A video window may be enabled (R508). -/
def State.windowFits (s : State) (w : Nat) : Bool :=
  let c := s.regN (K.windowSensor w)
  s.flag (K.outputs c) 1 && decide (s.reg (K.windowX w) + s.reg (K.displayWidth c) ≤ s.reg K.hActive) &&
  decide (s.reg (K.windowY w) + s.reg (K.displayHeight c) ≤ s.reg K.vActive)

/-- GammaLadder does not increase, and its codes fit (R513). -/
def gammaOk (d : Bytes) : Bool :=
  (List.range 14).all (fun k => decide (fieldU d (2 * k) 2 ≤ 1023)) &&
  (List.range 13).all (fun k => decide (fieldU d (2 * k + 2) 2 ≤ fieldU d (2 * k) 2))

/-- The write rules of 0x6400-0x64FF (R520). -/
def rule18 (idx sub : Nat) : Option WriteRule :=
  if idx = 0x6400 then
    if sub = 1 then some panelEnableRule
    else if sub ≤ 0x0B then some (lockedRule idx sub (fun s => s.reg K.panelEnable == 1))
    else some (latchRule idx sub)
  else if idx = 0x6402 then some uiFlipRule
  else if idx = 0x6403 then some uiRectRule
  else if idx = 0x6404 then some uniformityRule
  else if 0x6410 ≤ idx && idx < 0x6414 then
    let w := idx - 0x6410
    if sub = 1 then some (latchRule idx sub (fun s d => need (wval d == 0 || s.reg (K.windowEnable w) == 1 || s.windowFits w) .dependency))
    else some (latchRule idx sub)
  else if idx = 0x6420 then
    if sub = 5 then some (latchRule idx sub (fun _ d => need (gammaOk d) .valueInvalid)) else some (latchRule idx sub)
  else none

end Sys2Proof.Machine
end

