-- ==== Sys2Proof/Machine/FabricOps.lean ====
section
/-!
DEFINITION. Regions as shared operations: OEM values at a switch (R385, R386), the switch itself (R381), staging (R380),
triggers, and cells that fail (R390, R396).
-/
namespace Sys2Proof.Machine

/-! Failed cells -/

/-- The place of its strand that C8 serves, 0xF for none (R413). -/
def State.servedPlace (s : State) (place : Nat) : Nat := s.regN (strandKey place) % 16

/-- A place whose cell is retired and which no understudy serves. -/
def State.placeLost (s : State) (place : Nat) : Bool :=
  s.maint.placeRetired.contains place && s.servedPlace place != place % 8

/-- The strand's understudy can still stand in: not in service and not failed. -/
def State.spareFree (s : State) (place : Nat) : Bool := s.servedPlace place == 0xF && !s.flag (strandKey place) 4

/-- Shows the counts of places served and of understudies not in service (R389, R412). -/
def State.showCells (s : State) : State :=
  let lost := (s.maint.placeRetired.filter s.placeLost).length
  (s.setReg K.cellsInService (2048 - lost : Nat)).setReg K.understudiesFree (s.reg K.understudyCellsFree)

/-- The pricking of a container uses a place. -/
def usesPlace (b : Bytes) (place : Nat) : Bool := (pPlanes b).any (fun c => c.cell == place)

/-- Scene changes whose pricking uses a lost cell end FAILED (R383). -/
def State.failScenes (s : State) (place : Nat) : State :=
  (List.range 32).foldl (fun (s : State) (r : Nat) =>
    let s : State := if (s.region r).pend.any (fun c => usesPlace (s.sceneContent c.slot) place) then
      s.scenePendEnd r .failed Abort.hardwareFault.code else s
    if (s.region r).run.any (fun c => usesPlace (s.sceneContent c.slot) place) then
      s.sceneEnd r .failed Abort.hardwareFault.code else s) s

/-- A running image that uses a lost place ends in FAULT (R396), and fusion with it where it ran there (R197). -/
def State.regionFails (s : State) (place : Nat) : State :=
  match s.regionOf place with
  | some r =>
    if s.reg (K.regionState r) = rgRunning && usesPlace (s.runningOf r) place then
      let s := (s.setReg (K.regionState r) rgFault).eventKey .fabric r (K.regionState r)
      if s.regN K.fusionRegion = r then s.fuseFault else s
    else s
  | none => s

/-- A place fails with no understudy left: its cell is retired and its region stops in FAULT (R390, R396, R413). -/
def State.placeFails (s : State) (place : Nat) : State :=
  let s := { s with maint := { s.maint with placeRetired := s.maint.placeRetired ++ [place] } }
  let s := (s.setFlag (strandKey place) 6 true).eventKey .maintenance (place / 64) (strandKey place)
  (s.regionFails place).failScenes place |>.showCells

/-- A cell fails: its strand's understudy takes its work over in a repair, or the place is lost (R396). The repair's phase is
1 while it copies, 2 once it waits for the boundary of the route move. -/
def State.cellFails (s : State) (place phase : Nat) : State :=
  if s.maint.placeRetired.contains place then s
  else if s.spareFree place then s.requestRepair ⟨actCellRepair, place / 512, place, .repair, 0, s.tick, phase, s.tick⟩
  else s.placeFails place

/-! OEM values (R385, R386) -/

/-- The value of an OEM entry that the dictionary shows. -/
def State.oemRaw (s : State) (o : OemEntry) : Bytes :=
  if o.ty.isBytes then s.blob (key o.idx o.sub) else o.ty.encode (s.reg (key o.idx o.sub))

def State.putOem (s : State) (o : OemEntry) (v : Bytes) : State :=
  if o.ty.isBytes then s.setBlob (key o.idx o.sub) v else s.setReg (key o.idx o.sub) (o.ty.decode v)

/-- The declared default. -/
def oemDefault (o : OemEntry) : Bytes := if o.ty.isBytes then [] else o.ty.encode o.dflt

/-- The value that the cells see: the first 8 bytes as a number. -/
def oemWord (v : Bytes) : Nat := leNat (v.take 8)

/-- The OEM entries of a region's outgoing pricking cease to exist; its RW values stay with its slot. -/
def State.oemLeave (s : State) (r : Nat) : State :=
  let out := pObjects (s.runningOf r)
  let n := s.regN (K.runningSlot r)
  let kept := (out.filter (fun o => o.acc == .rw)).map (fun o => (key o.idx o.sub, s.oemRaw o))
  let s := if n < 32 then s.setPslot n { s.pslot n with kept := kept } else s
  let s := out.foldl (fun (s : State) (o : OemEntry) =>
    if o.ty.isBytes then s.setBlob (key o.idx o.sub) [] else s.setReg (key o.idx o.sub) 0) s
  s.setRegion r { s.region r with toDict := [], cellVals := ⟨[]⟩ }

/-- The value of an incoming entry: the outgoing pricking's, the slot's kept one, or its default. -/
def incomingValue (old : List (OemEntry × Bytes)) (kept : List (Nat × Bytes)) (o : OemEntry) : Bytes :=
  match old.find? (fun q => q.1.idx == o.idx && q.1.sub == o.sub && q.1.ty == o.ty) with
  | some q => q.2
  | none => match kept.find? (fun q => o.acc == .rw && q.1 == key o.idx o.sub) with
    | some q => q.2
    | none => oemDefault o

/-- The OEM entries of an incoming pricking come into being (R29, R386). -/
def State.oemEnter (s : State) (r slot : Nat) (old : List (OemEntry × Bytes)) : State :=
  let objs := pObjects (s.sceneContent slot)
  let kept := (s.pslot slot).kept
  let s := objs.foldl (fun (s : State) (o : OemEntry) => s.putOem o (incomingValue old kept o)) s
  let vals := objs.zipIdx.foldl (fun (t : Tab Nat) q => t.set 0 q.2 (oemWord (incomingValue old kept q.1))) ⟨[]⟩
  s.setRegion r { s.region r with cellVals := vals }

/-- Values that OBJWR has written become readable (R385). -/
def State.oemToDict (s : State) (r : Nat) : State :=
  let objs := pObjects (s.runningOf r)
  let s := (s.region r).toDict.foldl (fun (s : State) (q : Nat × Bytes) =>
    match objs.find? (fun o => key o.idx o.sub == q.1) with
    | some o => s.putOem o q.2
    | none => s) s
  s.setRegion r { s.region r with toDict := [] }

/-- Dictionary writes come into force for the cells and their items complete (R385). -/
def State.oemToCells (s : State) (r : Nat) : State :=
  let objs := pObjects (s.runningOf r)
  let s := (s.region r).toCells.foldl (fun (s : State) (q : Nat × Bytes × Nat) =>
    match objs.zipIdx.find? (fun o => key o.1.idx o.1.sub == q.1) with
    | some o =>
      let s := if o.1.acc = .cmd then s else s.putOem o.1 q.2.1
      let x := s.region r
      (s.setRegion r { x with cellVals := x.cellVals.set 0 o.2 (oemWord q.2.1) }).finish q.2.2 .done
    | none => s.finish q.2.2 .cancelled) s
  s.setRegion r { s.region r with toCells := [] }

/-- The rule of a write to an OEM entry (R385, R390). -/
def oemRule (idx sub : Nat) : WriteRule where
  check := fun s _ _ => match s.oemEntry idx sub with
    | some (r, _) => need (s.reg (K.regionState r) != rgFault) .hardwareFault
    | none => some .noObject
  effect := fun s _ seq d => match s.oemEntry idx sub with
    | some (r, _) =>
      let x := s.region r
      s.setRegion r { x with toCells := x.toCells ++ [(key idx sub, d, seq)] }
    | none => s.finish seq .cancelled

/-! Staging and the switch (R380, R381) -/

/-- Staging writes the shadow planes, the constant SRAM lines and the CONSTANT windows. -/
def State.stageScene (s : State) (b : Bytes) : State :=
  let s := (pPlanes b).foldl (fun (s : State) (c : CellPlane) => s.setCell c.cell { s.cell c.cell with shadow := c.plane }) s
  let s := (pInit b).foldl (fun (s : State) (k : SramBlock) =>
    s.setCell k.cell ((s.cell k.cell).storeBytes (64 * k.first) (k.data.map BitVec.toNat))) s
  { s with fabric := { s.fabric with
    dram :=
    ((pWindows b).filter (fun w => w.kind == 0)).foldl (fun (t : Tab Nat) (w : Window') =>
      w.data.zipIdx.foldl (fun (t : Tab Nat) q => t.set 0 (w.base + q.2) q.1.toNat) t) s.fabric.dram } }

/-- STATE lines and windows whose handover register is not in the outgoing pricking read 0 (R381). -/
def State.clearStates (s : State) (incoming outgoing : Bytes) : State :=
  let had (h : Nat) : Bool := (pState outgoing).any (fun y => y.hid == h) || (pWindows outgoing).any (fun y => y.kind == 1 && y.hid == h)
  let s := ((pState incoming).filter (fun x => !had x.hid)).foldl (fun (s : State) (k : SramBlock) =>
    s.setCell k.cell ((s.cell k.cell).storeBytes (64 * k.first) (List.replicate (64 * k.lines) 0))) s
  { s with fabric := { s.fabric with
    dram :=
    ((pWindows incoming).filter (fun w => w.kind == 1 && !(had w.hid && w.hid != 0))).foldl (fun (t : Tab Nat) (w : Window') =>
      (List.range w.len).foldl (fun (t : Tab Nat) k => t.set 0 (w.base + k) 0) t) s.fabric.dram } }

/-- Every cell of a region takes SHADOW as ACTIVE and starts cleared; its SRAM stays (R381). -/
def State.takeShadow (s : State) (r : Nat) : State :=
  (s.regionPlaces r).foldl (fun (s : State) (p : Nat) =>
    let x := s.cell p
    s.setCell p { Cell.init with sram := x.sram, active := x.shadow }) s

/-- Shows what a region runs (R389). -/
def State.showRunning (s : State) (r slot : Nat) : State :=
  let h := pHeader (s.sceneContent slot)
  let run := decide (slot < 32)
  let s := (s.setReg (K.regionState r) (if run then rgRunning else rgEmpty)).setReg (K.runningSlot r) (if run then slot else 0xFF : Nat)
  let s := (s.setReg (K.runningPrickingId r) (if run then h.id else 0 : Nat)).setReg (K.runningRevision r) (if run then h.revision else 0 : Nat)
  let s := (s.setReg (K.repeatLength r) (if run then h.repeatLength else 0 : Nat)).setReg (K.repeats r) 0
  s.setRegion r { s.region r with since := s.tick }

/-- Cues that a region's pricking has armed are disarmed (R381). -/
def State.disarmPricking (s : State) (r : Nat) : State :=
  s.endCues (s.activeSlots.filter (fun k => (s.cue k).origin == 2 && (s.cue k).region == r)) .cancelled

/-- Fusion after a switch of its region: a failed declaration is a FAULT, a conforming one ends it, and another layout clears the
state (R182, R184, R197). -/
def State.fusionSwitch (s : State) (r : Nat) : State :=
  if !s.fusionOn || s.regN K.fusionRegion ≠ r then s
  else if !s.fusionDeclFits then s.fuseFault
  else match s.fusionDecl with
    | some d =>
      let fault := s.reg K.fusionState = fsFault
      let s := if fault then s.setReg K.fusionState fsWaiting else s
      if d.layoutId = s.fuse.layoutId && !fault then s else (s.setFuse { s.fuse with layoutId := d.layoutId }).fuseClear
    | none => s

/-- The switch of a region to a slot, or to EMPTY (R381). -/
def State.switchRegion (s : State) (r slot : Nat) : State :=
  let out := s.runningOf r
  let s := s.oemToDict r
  let old := (pObjects out).map (fun o => (o, s.oemRaw o))
  let s := s.oemLeave r
  let s := (s.clearStates (s.sceneContent slot) out).takeShadow r
  let s := s.disarmPricking r
  let s := s.showRunning r slot
  let s := if slot < 32 then s.oemEnter r slot old else s
  let s := (s.oemToCells r).setRegion r { (s.oemToCells r).region r with handover := false }
  (s.setReg (K.lastSwitchTime r) (s.now : Nat)).fusionSwitch r

/-! Triggers (R380) -/

/-- What an evaluation of a trigger finds. -/
inductive TriggerFind where
  | waits | met | passed
  deriving DecidableEq, Repr

def State.sceneTrigger (s : State) (c : Scene) : TriggerFind :=
  if c.trigTick.isSome || c.held || decide (s.tick ≤ c.acceptTick) || c.trigger = 0 then .waits
  else if c.trigger = 1 then
    let d := (s.now : Int) - c.pos
    if d < 0 then .waits else if d < (max 10 s.clock.lastAdv : Nat) then .met else .passed
  else if !s.axisUsable c.axis then .waits
  else
    let d := s.axisExact c.axis - c.pos * exactScale
    let d := if c.dir = 2 then -d else d
    if d < 0 then .waits else if 0 < d && !c.evaluated then .passed else .met

/-- A tick has found an AXIS trigger not passed (R107). -/
def State.markScene (s : State) (c : Scene) : Scene :=
  if c.trigger = 2 && !c.held && decide (c.acceptTick < s.tick) && s.axisUsable c.axis && s.sceneTrigger c ≠ .passed then
    { c with evaluated := true }
  else c

/-- Every waiting change is marked at the end of a tick. -/
def State.markScenes (s : State) : State :=
  (List.range 32).foldl (fun (s : State) (r : Nat) =>
    let x := s.region r
    if x.run.isSome || x.pend.isSome then s.setRegion r { x with run := x.run.map s.markScene, pend := x.pend.map s.markScene } else s) s

/-- A look at the triggers of a region's changes (R380): met in READY it is the trigger tick, met before it the change is
MISSED. -/
def State.lookTriggers (s : State) (r : Nat) : State :=
  let s : State := match (s.region r).pend with
    | some c => if s.sceneTrigger c = .waits then s else s.scenePendEnd r .missed
    | none => s
  match (s.region r).run with
  | some c =>
    match s.sceneTrigger c with
    | .waits => s
    | .met => if c.ready then s.setRegion r { s.region r with run := some { c with trigTick := some s.tick } } else s.sceneEnd r .missed
    | .passed => s.sceneEnd r .missed
  | none => s

/-- A step of module time passes TIME triggers (R110, R383). -/
def State.stepScenes (s : State) : State :=
  (List.range 32).foldl (fun (s : State) (r : Nat) =>
    let gone (c : Scene) : Bool := c.trigger == 1 && c.trigTick.isNone && decide (c.pos + 10 ≤ (s.now : Int))
    let s : State := if (s.region r).pend.any gone then s.scenePendEnd r .missed else s
    if (s.region r).run.any gone then s.sceneEnd r .missed else s) s

/-! The store (R370-R373) -/

/-- KiB that the slots take (R370). -/
def State.showStore (s : State) : State :=
  s.setReg K.storeUsed (((List.range 32).map (fun n => ((s.pslot n).content.length + 1023) / 1024)).sum : Nat)

/-- A slot that runs, or that a change in flight names (R371). -/
def State.slotBusy (s : State) (n : Nat) : Bool :=
  (List.range 32).any (fun r =>
    let of (c : Option Scene) : Bool := c.any (fun c => c.slot == n)
    s.regN (K.runningSlot r) == n || of (s.region r).run || of (s.region r).pend)

/-- Activities that hold a region's quadrants (R400, R403). -/
def State.regionActs (s : State) (r : Nat) : List Activity :=
  s.maint.acts.filter (fun a => decide (a.domain < 4) && (s.regN (K.regionPanels r) / 2 ^ (8 * a.domain) % 256 != 0))

/-- The arbiter refuses a scene change of a region (R403). -/
def State.sceneConflict (s : State) (r : Nat) : Bool :=
  (s.regionActs r).any (fun a => a.code == actSwap || a.code == actCellRepair) ||
  s.maint.acts.any (fun a => a.code == actChannelRetire)

end Sys2Proof.Machine
end

