-- ==== Sys2Proof/Machine/TimeOps.lean ====
section
/-!
DEFINITION. Module time as shared operations: the map of the tick count (R446), steps (R447), the servo (R456), and the
selection of the time source (R454, R457, R458).
-/
namespace Sys2Proof.Machine

def State.dom (s : State) (d : Nat) : Domain := s.net.domains.get Domain.init d
def State.setDom (s : State) (d : Nat) (x : Domain) : State :=
  { s with net := { s.net with domains := s.net.domains.set Domain.init d x } }
def State.eth (s : State) (p : Nat) : EthPort := s.net.ports.get EthPort.init p
def State.setEth (s : State) (p : Nat) (x : EthPort) : State :=
  { s with net := { s.net with ports := s.net.ports.set EthPort.init p x } }

/-- The module's services reach a VLAN: an enabled interface with an address is bound to it (R444). -/
def State.carries (s : State) (vlan : Nat) : Bool :=
  (List.range 4).any (fun n => s.reg (K.ifEnable n) == 1 && s.regN (K.ifVlan n) == vlan && s.reg (K.addressInUse n) != 0)

abbrev tsUnsynchronised : Int := 0
abbrev tsLocked : Int := 1
abbrev tsHoldover : Int := 2
abbrev tsFreeRun : Int := 3

/-- One tick of the two clocks (R445, R446). -/
def State.advanceClock (s : State) : State :=
  let c := s.clock
  let acc := c.frac + c.incr
  let adv := 10 * (acc / 2 ^ 32)
  { s with clock := { c with tick := c.tick + 1, time := c.time + adv, frac := acc % 2 ^ 32, lastAdv := adv } }

/-- The unit of rate and integ: ppb times 2^16 * 10^8. -/
abbrev ppbUnit : Int := 65536 * 10 ^ 8

/-- The rate comes into force (R446, R458). -/
def State.setRate (s : State) (r : Int) : State :=
  let s := { s with clock := { s.clock with rate := r, incr := (2 ^ 32 + roundAway (2 ^ 32 * r) (ppbUnit * 10 ^ 9)).toNat } }
  s.setReg K.rateCorrection (roundAway r ppbUnit)

/-- The held offset of the selected source (R457). -/
def State.setHeld (s : State) (h : Int) : State :=
  ({ s with clock := { s.clock with held := h } } : State).setReg K.heldOffset h

/-- A step of module time (R447): its record and counters, the cues and triggers that it passes, and TIME_STEP in the next
reference frames. -/
def State.stepTime (s : State) (d : Int) : State :=
  let s := (s.setHeld 0)
  let s := { s with clock := { s.clock with
               time := ((s.clock.time : Int) + d).toNat, lastStep := some (s.tick, d), confirm := 0, firstMeas := false, returnStep := false } }
  let s := (s.bump K.steps).setReg K.lastStepSize d
  let s := s.offer .ethernetTime 8 0 (encInt 8 d ++ leBytes 1 (s.regN K.timeSource))
  let s := (List.range 6).foldl (fun (s : State) (p : Nat) => s.setCan p { s.can p with stepFlag := true }) s
  s.stepCues.stepScenes

/-- The nearest multiple of 10 ns, halfway away from zero (R456). -/
def round10 (x : Int) : Int := 10 * roundAway x 10

/-- A measurement of the selected source (R456): `m` in ns, `dt` in ticks. -/
def State.discipline (s : State) (m : Int) (dt : Nat) : State :=
  let c := s.clock
  let thr := s.reg K.stepThreshold
  if !c.lockedSince then
    let s := { s with clock := { c with lockedSince := true, integ := 0 } }
    ((s.setReg K.timeState tsLocked).setFlag K.securityFlags 4 false).stepTime (round10 m)
  else if c.returnStep then s.stepTime (round10 m)
  else
    let s : State := if c.firstMeas then
        ({ s with clock := { c with firstMeas := false, confirm := 0 } } : State).setHeld (if thr < absI m then m else 0) else s
    let o := m - s.clock.held
    let wide := decide (thr < absI o)
    let n := if wide then s.clock.confirm + 1 else 0
    let s := { s with clock := { s.clock with confirm := n } }
    if 3 ≤ n && s.reg K.stepPolicy = 1 then s.stepTime (round10 m)
    else
      let s := if n = 3 then s.eventKey .ethernetTime 0 K.rateCorrection else s
      let lim := s.reg K.maxRate * ppbUnit
      let integ := clampI (-lim) lim (s.clock.integ + s.reg K.servoKi * o * (dt : Int))
      let s := { s with clock := { s.clock with integ := integ } }
      s.setRate (clampI (-lim) lim (integ + s.reg K.servoKp * o * 10 ^ 8))

/-! The selected source (R454, R457) -/

/-- Since when a source has been usable: 1 and 2 the domains, 3 PPS. -/
def State.usableSince (s : State) (k : Nat) : Option Nat :=
  match k with
  | 1 => (s.dom 0).usableSince
  | 2 => (s.dom 1).usableSince
  | 3 => s.net.ppsUsableSince
  | _ => none

/-- The sources in the order of their rank. -/
def State.sourceRank (s : State) : List Nat := if s.reg K.primaryDomain = 0 then [1, 2, 3] else [2, 1, 3]

/-- A source is selected: a switch, but for the first one since the reset (R457, R458). -/
def State.selectSource (s : State) (k : Nat) : State :=
  let c := s.clock
  let back := s.reg K.timeState == tsFreeRun && c.lockedSince && s.reg K.stepPolicy == 1
  let s := { s with clock := { c with everSelected := true, firstMeas := true, returnStep := back } }
  let s := s.setReg K.timeSource (k : Nat)
  let s : State := if c.lockedSince then s.setReg K.timeState tsLocked else s
  if c.everSelected then (s.bump K.sourceSwitches).eventKey .ethernetTime 0 K.sourceSwitches else s

/-- No source is usable any more (R458). -/
def State.noSource (s : State) : State :=
  let s := s.setReg K.timeSource 0
  if s.reg K.timeState = tsLocked then
    let s := { s with clock := { s.clock with stateSince := s.tick } }
    ((s.setReg K.timeState tsHoldover).setRate s.clock.integ).eventKey .ethernetTime 0 K.sourceSwitches
  else s

/-- A look at the selected source (R457): one that is not usable is replaced by the highest-ranked usable one. -/
def State.reselect (s : State) : State :=
  let k := s.regN K.timeSource
  if (s.usableSince k).isSome then s
  else match s.sourceRank.find? (fun j => (s.usableSince j).isSome) with
    | some j => s.selectSource j
    | none => if k = 0 then s else s.noSource

/-- A measurement of a source at the tick of its stamp (R455). -/
def State.measure (s : State) (k : Nat) (m : Int) (stampTick : Nat) : State :=
  let last := if k = 3 then s.net.ppsLastMeas else (s.dom (k - 1)).lastMeas
  let dt := match last with
    | some t => stampTick - t
    | none => 0
  let s : State := if k = 3 then { s with net := { s.net with ppsLastMeas := some stampTick } }
    else (s.setDom (k - 1) { s.dom (k - 1) with lastMeas := some stampTick }).setReg (K.domainOffset (k - 1)) m
  if s.regN K.timeSource = k then s.discipline m dt else s

/-- Ticks of an interval of 2^`l` seconds. -/
def logTicks (l : Int) : Nat := if 0 ≤ l then ticksS 1 * 2 ^ l.toNat else ticksS 1 / 2 ^ (-l).toNat

/-- No time source is enabled: the module runs free from start-up (R458). -/
def State.freeRunStart (s : State) : State :=
  if s.reg (K.domainEnable 0) = 0 && s.reg (K.domainEnable 1) = 0 && s.reg K.ppsEnable = 0 then s.setReg K.timeState tsFreeRun else s

/-- The tick of a module time, by the map in force (R446, R461). -/
def State.tickOfTime (s : State) (t : Int) : Int :=
  (s.tick : Int) - (((s.now : Int) - t) * 2 ^ 32) / (10 * (s.clock.incr : Int))

end Sys2Proof.Machine
end

