-- ==== Sys2Proof/Machine/PtpOps.lean ====
section
/-!
DEFINITION. gPTP as shared operations: port roles and the best master (R449, R450), usability of a domain (R454), and the
messages the module sends (R451-R453).
-/
namespace Sys2Proof.Machine

abbrev roleDisabled : Nat := 0
abbrev roleMaster : Nat := 1
abbrev roleSlave : Nat := 2
abbrev rolePassive : Nat := 3

/-- The role of a port in a domain (R463). -/
def State.ptpRole (s : State) (p d : Nat) : Nat := s.regN (K.ptpRoles p) / 4 ^ d % 4

def State.setPtpRole (s : State) (p d r : Nat) : State :=
  let v := s.regN (K.ptpRoles p)
  s.setReg (K.ptpRoles p) (v - v / 4 ^ d % 4 * 4 ^ d + r * 4 ^ d : Nat)

def State.isAsCapable (s : State) (p d : Nat) : Bool := s.flag (K.asCapable p) d

/-- A port carries frames. -/
def State.linkUp (s : State) (p : Nat) : Bool := s.reg (K.ethPortEnable p) == 1 && s.reg (K.ethLinkState p) == 1

def State.domainOn (s : State) (d : Nat) : Bool := s.reg (K.domainEnable d) == 1

/-- The domain's enabled index of a domain number. -/
def State.domainOf (s : State) (number : Nat) : Option Nat :=
  [0, 1].find? (fun d => s.domainOn d && s.regN (K.domainNumber d) == number)

/-- The clockIdentity of the module: its MAC address as EUI-64 (notes/assumptions/86.md). -/
def State.ownIdentity (s : State) : Nat :=
  let m := s.blob K.macAddress
  beNat (m.take 3 ++ [0xFF, 0xFE] ++ (m.drop 3).take 3)

/-- The module offers itself as grandmaster of a domain (R450). -/
def State.offersGm (s : State) (d : Nat) : Bool :=
  s.domainOn d && s.reg (K.gmCapable d) == 1 && s.reg K.timeState == tsLocked && s.regN K.timeSource != d + 1

/-- The vector that the module announces of itself (R450); the variance is open. -/
def State.ownVector (s : State) (d : Nat) : GmFields :=
  let pps := s.reg K.timeSource == 3
  ⟨s.regN (K.priority1 d), if pps then 6 else 248, if pps then 0x21 else 0xFE, (Config.openResult 451 []).toNat,
    s.regN (K.priority2 d), s.ownIdentity, 0⟩

/-- The order of the best master clock algorithm, the better first. -/
def gmBetter (a b : GmFields) : Bool :=
  let key (v : GmFields) : List Nat := [v.priority1, v.clockClass, v.accuracy, v.variance, v.priority2, v.identity, v.steps]
  decide (key a < key b)

/-- What a port has heard in a domain. -/
def State.heardOn (s : State) (p d : Nat) : Option GmFields := if d = 0 then (s.eth p).annA else (s.eth p).annB

def State.setHeard (s : State) (p d : Nat) (v : Option GmFields) : State :=
  if d = 0 then s.setEth p { s.eth p with annA := v } else s.setEth p { s.eth p with annB := v }

/-- The port on which the best foreign grandmaster of a domain is heard. -/
def State.bestPort (s : State) (d : Nat) : Option (Nat × GmFields) :=
  (List.range 6).foldl (fun (acc : Option (Nat × GmFields)) (p : Nat) =>
    match s.heardOn p d with
    | none => acc
    | some v => if !s.linkUp p then acc else match acc with
      | none => some (p, v)
      | some (_, w) => if gmBetter v w then some (p, v) else acc) none

/-- Shows the state of a domain (R463). -/
def State.showDomain (s : State) (d : Nat) : State :=
  let st : Nat := if !s.domainOn d then 0 else if (s.dom d).usableSince.isSome then 2
    else if (s.dom d).slavePort.isNone && s.offersGm d then 3 else 1
  s.setReg (K.domainState d) (st : Nat)

/-- A domain is usable or is not (R454): enabled, a SLAVE port that is asCapable, and a Sync within its timeout. -/
def State.judgeDomain (s : State) (d : Nat) : State :=
  let x := s.dom d
  let ok := s.domainOn d && x.syncSeen && (match x.slavePort with
    | some p => s.linkUp p && s.isAsCapable p d
    | none => false)
  let s := if ok then s.setDom d { x with usableSince := some (x.usableSince.getD s.tick) }
    else s.setDom d { x with usableSince := none, lastMeas := none, pending := none }
  (s.showDomain d).reselect

/-- The SLAVE port of a domain; a change forgets the Sync of the port before. -/
def State.setSlave (s : State) (d : Nat) (p : Option Nat) : State :=
  let x := s.dom d
  if x.slavePort = p then s
  else s.setDom d { x with slavePort := p, syncSeen := false, lastSync := s.tick, pending := none }

/-- The SLAVE port and the grandmaster of a domain. In a source domain that stays usable, a change of the grandmaster's identity
counts as a switch (R454, R457). -/
def State.setGm (s : State) (d : Nat) (slave : Option Nat) (identity : Nat) : State :=
  let old := s.reg (K.gmIdentity d)
  let src := s.regN K.timeSource
  let s := ((s.setSlave d slave).setReg (K.gmIdentity d) (identity : Nat)).judgeDomain d
  if old ≠ 0 && identity ≠ 0 && old ≠ (identity : Int) && src = d + 1 && s.regN K.timeSource = d + 1 then
    let s := { s with clock := { s.clock with firstMeas := true } }
    (s.bump K.sourceSwitches).eventKey .ethernetTime 0 K.sourceSwitches
  else s

/-- Decides the roles of the ports of a domain (R450). -/
def State.decideRoles (s : State) (d : Nat) : State :=
  if !s.domainOn d then
    let s := (List.range 6).foldl (fun (s : State) (p : Nat) => s.setPtpRole p d roleDisabled) s
    s.setGm d none 0
  else if s.reg (K.ptpRoleMode d) = 1 then
    let role (p : Nat) : Nat := if s.linkUp p then s.regN (K.externalRoles d) / 4 ^ p % 4 else roleDisabled
    let slave := (List.range 6).find? (fun p => role p == roleSlave)
    let gm := match slave with
      | some p => ((s.heardOn p d).map GmFields.identity).getD 0
      | none => if s.offersGm d then s.ownIdentity else 0
    let s := (List.range 6).foldl (fun (s : State) (p : Nat) => s.setPtpRole p d (role p)) s
    s.setGm d slave gm
  else
    let own := s.ownVector d
    let best := (s.bestPort d).filter (fun b => !(s.offersGm d && gmBetter own b.2))
    let role (p : Nat) : Nat :=
      if !s.linkUp p then roleDisabled
      else match best with
        | none => roleMaster
        | some (q, v) => if p = q then roleSlave else match s.heardOn p d with
          | none => roleMaster
          | some w => if gmBetter w { v with steps := v.steps + 1 } then rolePassive else roleMaster
    let gm := match best with
      | some (_, v) => v.identity
      | none => if s.offersGm d then s.ownIdentity else 0
    let slave := best.map Prod.fst
    let s := (List.range 6).foldl (fun (s : State) (p : Nat) => s.setPtpRole p d (role p)) s
    s.setGm d slave gm

/-- A change of the time state or of the selected source lets the module offer itself as grandmaster of a domain, or ends that
(R450): the roles of a domain other than the selected source are decided anew. -/
def State.offerTurn (s was : State) (d : Nat) : State :=
  if s.regN K.timeSource = d + 1 || s.offersGm d == was.offersGm d then s else s.decideRoles d

def State.decideAll (s : State) : State := ((s.decideRoles 0).decideRoles 1).offerTurn s 0

/-- Ticks of the sync receipt timeout of a domain (R451). -/
def State.syncTimeout (s : State) (d : Nat) : Nat :=
  3 * logTicks (if (s.dom d).syncSeen then (s.dom d).syncLog else s.reg (K.logSyncInterval d))

/-- The announce receipt timeout of what a port has heard in a domain has run out (R451). -/
def State.annExpired (s : State) (p d : Nat) : Bool :=
  (s.heardOn p d).isSome && decide ((s.eth p).annTick.get 0 d + 3 * logTicks ((s.eth p).annLog.get 0 d) ≤ s.tick)

/-- The interval at which a port sends Sync in a domain: its own, or the one its partner asked for (R449, R451). -/
def State.syncInterval (s : State) (p d : Nat) : Nat := logTicks ((s.eth p).askedSync.getD (s.reg (K.logSyncInterval d)))

/-- The time of a domain at a tick, as the module relays or gives it (R450, R451): origin and correction in ns. The residence
time is scaled to the grandmaster's rate, which is open within 0.1 % and 16 ns (notes/assumptions/86.md). -/
def State.relayed (s : State) (d : Nat) (egress : Int) : Int × Int :=
  if (s.dom d).slavePort.isSome then
    let x := s.dom d
    let stay := egress - (s.timeOfTick x.relayTick : Nat)
    (x.relayTime, nearOpen (absI stay / 1000 + 16) stay (Config.openResult 452 [stay, d]))
  else (egress, 0)

/-- A message handed to an egress port. -/
def State.sendEvent (s : State) (m : GptpMsg) : State := { s with net := { s.net with awaiting := s.net.awaiting ++ [m] } }
def State.sendGeneral (s : State) (m : GptpMsg) : State :=
  ({ s with net := { s.net with general := s.net.general ++ [m] } } : State).bump (K.ethFramesOut m.port)

/-- The follow-up of an event message whose egress stamp is known (R452). -/
def followUp (m : GptpMsg) (stamp : Int) : Option GptpMsg :=
  match m.kind with
  | .sync => some { m with kind := .followUp, stamp := m.stamp }
  | .pdelayResp => some { m with kind := .pdelayRespFollowUp, stamp := stamp }
  | _ => none

end Sys2Proof.Machine
end

