-- ==== Sys2Proof/Machine/Ethernet.lean ====
section
/-!
DEFINITION. Ethernet and network time (15_ethernet_and_time.md): gPTP messages, PPS, the time states, GNSS fixes, links, leases
and the switch.
-/
namespace Sys2Proof.Machine

/-! gPTP (R449-R455) -/

/-- The ingress stamp of an event message: module time of the tick, a sub-tick of 0-9 ns, and the port's latency (R448). -/
def State.ingressStamp (s : State) (p sub : Nat) : Int := (s.now : Int) + sub - s.reg (K.ingressLatency p)
def State.egressStamp (s : State) (p sub : Nat) : Int := (s.now : Int) + sub + s.reg (K.egressLatency p)

/-- A Sync is complete: its measurement, and what the module relays (R451, R455). -/
def State.syncMeasured (s : State) (d p : Nat) (origin correction : Int) (stamp : Int) (stampTick : Nat) : State :=
  let t := origin + correction + s.reg (K.linkDelay p)
  let s := s.setDom d { s.dom d with relayTime := t, relayTick := stampTick, pending := none }
  s.measure (d + 1) (t - stamp) stampTick

/-- SYNC (R451, R453, R455): a Sync at a port: domain number, sequenceId, whether it is one-step, its origin time and
correction in ns, the interval it gives, and the sub-tick of its stamp. -/
def execSync (p : Fin 6) (number : BitVec 8) (seqId : BitVec 16) (oneStep : Bool) (origin correction : Int) (log : Int)
    (sub : Fin 10) (s : State) : Out :=
  match s.domainOf number.toNat with
  | none => .next s
  | some d =>
    if !s.linkUp p || (s.dom d).slavePort ≠ some p.val || !s.isAsCapable p d then .next s
    else
      let s := (s.bump (K.framesIn p)).setDom d { s.dom d with syncSeen := true, lastSync := s.tick, syncLog := log }
      let s := s.judgeDomain d
      let stamp := s.ingressStamp p sub
      if oneStep then .next ((s.syncMeasured d p origin correction stamp s.tick).offerTurn s (1 - d))
      else .next (s.setDom d { s.dom d with pending := some ⟨p, seqId.toNat, s.tick, stamp, correction⟩ })

/-- FOLLOW_UP (R449, R455). -/
def execFollowUp (p : Fin 6) (number : BitVec 8) (seqId : BitVec 16) (origin correction : Int) (s : State) : Out :=
  match s.domainOf number.toNat with
  | none => .next s
  | some d =>
    match (s.dom d).pending with
    | none => .next s
    | some q =>
      if q.port ≠ p.val || q.seqId ≠ seqId.toNat then .next s
      else .next (((s.bump (K.framesIn p)).syncMeasured d p origin (q.correction + correction) q.stampTime q.stampTick).offerTurn s (1 - d))

/-- ANNOUNCE (R450, R451). -/
def execAnnounce (p : Fin 6) (number : BitVec 8) (fields : GmFields) (log : Int) (s : State) : Out :=
  match s.domainOf number.toNat with
  | none => .next s
  | some d =>
    if !s.linkUp p || fields.identity = s.ownIdentity then .next s
    else
      let s := (s.bump (K.framesIn p)).setHeard p d (some fields)
      let s := s.setEth p { s.eth p with annTick := (s.eth p).annTick.set 0 d s.tick, annLog := (s.eth p).annLog.set 0 d log }
      .next ((s.decideRoles d).offerTurn s (1 - d))

/-- PDELAY_REQ (R449): a received Pdelay_Req is answered (`measured` none), or the module's own request has been answered and
gives the mean link delay in ns, which serves both domains. -/
def execPdelayReq (p : Fin 6) (seqId : BitVec 16) (measured : Option Nat) (sub : Fin 10) (s : State) : Out :=
  if !s.linkUp p then .next s
  else
    let s := s.bump (K.framesIn p)
    match measured with
    | none => .next (s.sendEvent ⟨p, 0, .pdelayResp, seqId.toNat, s.ingressStamp p sub, 0, none⟩)
    | some ns => .next (((s.setReg (K.linkDelay p) (ns : Nat)).setReg (K.asCapable p) 3).decideAll)

/-- SIGNALING (R449): the message interval request TLV asks for a Sync interval; 126 and -128 return to the port's own. -/
def execSignaling (p : Fin 6) (number : BitVec 8) (log : Int) (s : State) : Out :=
  match s.domainOf number.toNat with
  | none => .next s
  | some _ =>
    if !s.linkUp p then .next s
    else .next ((s.bump (K.framesIn p)).setEth p { s.eth p with
                                                     askedSync := if log = 126 || log = -128 then none else some log })

/-- SYNC_TRANSMIT (R450, R451): what is due on a port in a domain: Sync and Announce from a MASTER port, Pdelay_Req from every
port. -/
def execSyncTransmit (p : Fin 6) (d : Fin 2) (s : State) : Out :=
  if !s.linkUp p || !s.domainOn d then .next s
  else
    let master := s.ptpRole p d == roleMaster && ((s.dom d).slavePort.isSome || s.offersGm d)
    let n := (s.eth p).seqOut % 65536
    let due (last interval : Nat) : Bool := decide (last + interval ≤ s.tick)
    let number := s.regN (K.domainNumber d)
    let s : State := if master && due ((s.eth p).lastSyncOut.get 0 d) (s.syncInterval p d) then
        let r := s.relayed d (s.now : Nat)
        let s := s.setEth p { s.eth p with lastSyncOut := (s.eth p).lastSyncOut.set 0 d s.tick, seqOut := n + 1 }
        s.sendEvent ⟨p, number, if s.reg (K.oneStepTx p) = 1 then .syncOneStep else .sync, n, r.1, r.2, none⟩
      else s
    let s : State := if master && due ((s.eth p).lastAnnOut.get 0 d) (ticksS 1) then
        let v := match s.bestPort d with
          | some (_, v) => if (s.dom d).slavePort.isSome then { v with steps := v.steps + 1 } else s.ownVector d
          | none => s.ownVector d
        let s := s.setEth p { s.eth p with lastAnnOut := (s.eth p).lastAnnOut.set 0 d s.tick }
        s.sendGeneral ⟨p, number, .announce, n, 0, 0, some v⟩
      else s
    .next (if due (s.eth p).lastPdelayOut (ticksS 1) then
        (s.setEth p { s.eth p with lastPdelayOut := s.tick }).sendEvent ⟨p, 0, .pdelayReq, n, 0, 0, none⟩
      else s)

/-- TX_TIMESTAMP (R452, R453): the oldest event message that waits at a port leaves it, or (`take`) the stack takes the oldest
entry of the queue and sends its follow-up. -/
def execTxTimestamp (p : Fin 6) (sub : Fin 10) (take : Bool) (s : State) : Out :=
  if take then
    match s.net.stamps with
    | [] => .next s
    | (m, t) :: rest =>
      let s := { s with net := { s.net with stamps := rest } }
      .next (match followUp m t with
        | some f => s.sendGeneral f
        | none => s)
  else match s.net.awaiting.find? (fun m => m.port == p.val) with
    | none => .next s
    | some m =>
      let t := s.egressStamp p sub
      let s := ({ s with net := { s.net with awaiting := s.net.awaiting.erase m } } : State).bump (K.ethFramesOut p)
      if m.kind = .syncOneStep then
        let d := (s.domainOf m.domain).getD 0
        let r := s.relayed d t
        .next { s with net := { s.net with general := s.net.general ++ [{ m with stamp := r.1, correction := r.2 }] } }
      else if s.net.stamps.length < 64 then .next { s with net := { s.net with stamps := s.net.stamps ++ [(m, t)] } }
      else .next (s.bump K.txStampLost)

/-- What the ports have heard in a domain is forgotten where its announce receipt timeout has run out (R451). -/
def State.forgetHeard (s : State) (d : Nat) : State :=
  (List.range 6).foldl (fun (s : State) (p : Nat) => if s.annExpired p d then s.setHeard p d none else s) s

/-- RECEIPT_TIMEOUT (R451, R454): the sync receipt timeout of a domain or the announce receipt timeouts of its ports run out. -/
def execReceiptTimeout (d : Fin 2) (sync : Bool) (s : State) : Out :=
  let x := s.dom d
  if sync then
    if x.slavePort.isNone || s.tick < x.lastSync + s.syncTimeout d then .next s
    else
      let t := ((s.setDom d { x with syncSeen := false, lastSync := s.tick }).bump (K.syncTimeouts d)).judgeDomain d
      .next ((t.offerTurn s 0).offerTurn s 1)
  else if (List.range 6).any (fun p => s.annExpired p d) then .next (((s.forgetHeard d).decideRoles d).offerTurn s (1 - d))
  else .next s

/-! PPS (R454, R455, R462) -/

/-- PPS is not usable any more. -/
def State.ppsLost (s : State) : State :=
  ({ s with net := { s.net with ppsUsableSince := none, ppsLastMeas := none, ppsRun := 0, ppsLastAccepted := none } } : State).reselect

/-- What the interval of an edge from the edge before it says (R454). -/
def ppsKind (gap : Option Nat) : PpsKind :=
  match gap with
  | none => .start
  | some g => if ticksMs 1500 < g then .start else if ticksUs 999900 ≤ g && g ≤ ticksUs 1000100 then .inTolerance else .outOfTolerance

/-- PPS_EDGE (R454): a rising edge at the pin. It waits for its label; one out of tolerance is rejected at once. -/
def execPpsEdge (s : State) : Out :=
  if s.reg K.ppsEnable = 0 then .next s
  else
    let x := s.net
    let kind := ppsKind (x.ppsEdge.map (fun t => s.tick - t))
    let run := if kind = .inTolerance || (kind = .outOfTolerance && !x.ppsWaiting.isEmpty) then x.ppsRun else 0
    let s := { s with net := { x with ppsEdge := some s.tick, ppsRun := run, ppsWaiting := x.ppsWaiting ++ [⟨s.tick, s.now, kind⟩] } }
    .next (if kind = .outOfTolerance then s.bump K.ppsRejected else s)

/-- An edge takes its label (R454, R462): it counts in the run where its interval lies within the tolerance, and one beyond it ends
the run. -/
def State.ppsTake (s : State) (label : Nat) (e : PpsEdge) : State :=
  let s := { s with net := { s.net with ppsLabelled := some (e.tick, e.stamp, label) } }
  let s := s.setReg K.lastPpsTime (e.stamp : Nat)
  match e.kind with
  | .start => s
  | .outOfTolerance => { s with net := { s.net with ppsRun := 0 } }
  | .inTolerance =>
    let run := s.net.ppsRun + 1
    let usable := s.net.ppsUsableSince.isSome || decide (3 ≤ run)
    let s := { s with net := { s.net with
                 ppsRun := run, ppsLastAccepted := some e.tick,
                 ppsUsableSince := if usable then some (s.net.ppsUsableSince.getD s.tick) else none } }
    if usable then s.reselect.measure 3 ((label : Int) - e.stamp) e.tick else s

/-- PPS_LABEL (R454, R455, R462): a GGA or RMC of a whole second, in UTC seconds since 1970, labels every edge whose 900 ms it
arrives in. -/
def execPpsLabel (utc : Nat) (s : State) : Out :=
  let takes (e : PpsEdge) : Bool := decide (e.tick < s.tick) && decide (s.tick ≤ e.tick + ticksMs 900)
  let l := s.net.ppsWaiting.filter takes
  let label : Nat := (utc + s.regN K.utcOffset) * 1000000000
  let t : State := { s with net := { s.net with ppsWaiting := s.net.ppsWaiting.filter (fun e => !takes e) } }
  let t := l.foldl (fun t e => t.ppsTake label e) t
  .next ((t.offerTurn s 0).offerTurn s 1)

/-- PPS_LABEL_WINDOW_END (R454, R462): an edge without a label ends the run; one that only starts a run, or that was rejected
already, is not counted. -/
def execPpsLabelWindowEnd (s : State) : Out :=
  let ended (e : PpsEdge) : Bool := decide (e.tick + ticksMs 900 < s.tick)
  let l := s.net.ppsWaiting.filter ended
  if l.isEmpty then .next s
  else
    let s := { s with net := { s.net with ppsRun := 0, ppsWaiting := s.net.ppsWaiting.filter (fun e => !ended e) } }
    .next (l.foldl (fun s e => if e.kind = .inTolerance then s.bump K.ppsRejected else s) s)

/-- PPS_LOSS (R454). -/
def execPpsLoss (s : State) : Out :=
  if s.net.ppsUsableSince.isSome && s.heldFor s.net.ppsLastAccepted (ticksMs 1500) then .next ((s.ppsLost.offerTurn s 0).offerTurn s 1)
  else .next s

/-! Time states (R457-R459) -/

/-- REVERT_TIME (R457): a source of higher rank has been usable for RevertTime. -/
def execRevertTime (s : State) : Out :=
  let k := s.regN K.timeSource
  let higher := s.sourceRank.takeWhile (· != k)
  if k = 0 then .next s
  else match higher.find? (fun j => s.heldFor (s.usableSince j) (ticksS (s.regN K.revertTime))) with
    | some j => .next (((s.selectSource j).offerTurn s 0).offerTurn s 1)
    | none => .next s

/-- HOLDOVER_LIMIT (R458). -/
def execHoldoverLimit (s : State) : Out :=
  if s.reg K.timeState = tsHoldover && decide (s.clock.stateSince + ticksS (s.regN K.holdoverLimit) ≤ s.tick) then
    .next ((s.setReg K.timeState tsFreeRun).eventKey .ethernetTime 0 K.timeState)
  else .next s

/-- ACQUIRE_TIMEOUT (R458). -/
def execAcquireTimeout (s : State) : Out :=
  .next (if s.reg K.timeState = tsUnsynchronised && decide (ticksMs (s.regN K.acquireTimeout) ≤ s.tick) then
    s.setReg K.timeState tsFreeRun else s)

/-- MODULE_TIME_SAVE (R459): every 10 ms. -/
def execModuleTimeSave (s : State) : Out :=
  .next (if s.tick % ticksMs 10 = 0 then { s with jr := { s.jr with savedTime := s.now } } else s)

/-! GNSS (R460, R461) -/

/-- The quality codes of R125 for those of NMEA and ISO 11783-7; 0 for a rejected value. -/
def fixQuality (q : Nat) : Nat := if q = 1 then 1 else if q = 2 then 2 else if q = 5 then 3 else if q = 4 then 4 else 0

/-- A position in the field frame, in um (R129): latitude and longitude in 10^-9 degree, height in mm. It is 0 at the origin;
elsewhere the digits below 1 mm are open (notes/assumptions/4.md). -/
def State.fieldPosition (s : State) (lat lon height : Int) : Int × Int :=
  let o := s.fieldOrigin
  if lat = o.lat && lon = o.lon then (0, 0)
  else
    let p := o.inPlane ⟨lat, lon, 1000 * height⟩
    let l := [lat, lon, height, o.lat, o.lon, o.height]
    (nearOpen 999 p.1 (Config.openResult 441 l), nearOpen 999 p.2 (Config.openResult 442 l))

/-- The antenna in the levelled machine frame, in um (R128, R130, R351): x forward, y to the left. -/
def State.antenna (s : State) : Int × Int :=
  let turn (a : Int) : Int := a * 4294967296000000000 / 6283185307179586
  let ph := turn (s.reg K.roll)
  let th := turn (s.reg K.pitch)
  let x := 1000 * s.reg K.antennaX
  let y := 1000 * s.reg K.antennaY
  let z := 1000 * s.reg K.antennaZ
  (mulQ x (cosQ th) + mulQ (mulQ y (sinQ ph) + mulQ z (cosQ ph)) (sinQ th), mulQ y (cosQ ph) - mulQ z (sinQ ph))

/-- The tick of a fix (R461): `utc` in ns since 1970 where its day is known, `stamp` the arrival in module time. -/
def State.fixTick (s : State) (utc : Option Nat) (stamp : Int) : Nat :=
  let tp := utc.map (fun t => (t : Int) + s.reg K.utcOffset * 10 ^ 9)
  let late := stamp - s.reg K.gnssLatency
  let t := match s.net.ppsLabelled, tp with
    | some (_, e, l), some t => if s.reg K.ppsEnable = 1 && absI (t - l) < 2 * 10 ^ 9 then (e : Int) + (t - l) else late
    | _, _ => late
  (s.tickOfTime t).toNat

/-- A fix goes to the estimators of every DEAD_RECKONING axis, moved to its reference point (R95, R130). -/
def State.passFix (s : State) (tick : Nat) (lat lon height : Int) (quality : Nat) (speed course : Int) : State :=
  let f := s.fieldPosition lat lon height
  let a := s.antenna
  let s := { s with net := { s.net with height := height } }
  let s := (List.range 16).foldl (fun (s : State) (n : Nat) =>
    if s.axisIs n 1 then
      let x := s.axis n
      let o := toField 0 0 x.heading a.1 a.2
      s.setAxis n { x with fixes := x.fixes ++ [⟨tick, f.1 - o.1, f.2 - o.2, quality, speed, course⟩] }
    else s) s
  s.bump K.fixesReceived

/-- One sentence of a datagram (R460). -/
def State.nmeaSentence (s : State) (n : Nmea) : State :=
  match n with
  | .other ok => if ok then s else s.bump K.fixesRejected
  | .rmc ok day _ speed course =>
    if ok then { s with net := { s.net with rmc := some (day, speed, course) } } else s.bump K.fixesRejected
  | .gga ok time lat lon alt sep quality =>
    if !ok || fixQuality quality = 0 then s.bump K.fixesRejected
    else
      let r := s.net.rmc
      let utc := r.map (fun x => x.1 * 86400 * 10 ^ 9 + time)
      let sc := match r with
        | some (_, v, c) => (v, c)
        | none => (0, 0)
      s.passFix (s.fixTick utc (s.now : Nat)) lat lon (alt + sep) (fixQuality quality) sc.1 sc.2

/-- NMEA_DATAGRAM (R444, R460, R461): a datagram to a UDP port of the module on a VLAN that an interface carries. The RMC of a
datagram serves its GGA in either order. -/
def execNmeaDatagram (vlan port : BitVec 16) (l : List Nmea) (s : State) : Out :=
  if s.reg K.gnssSource ≠ 1 || vlan.toNat ≠ s.regN K.gnssVlan || port.toNat ≠ s.regN K.gnssUdpPort || !s.carries vlan.toNat then .next s
  else
    let first := l.filter (fun n => match n with
      | .rmc .. => true
      | _ => false)
    let rest := l.filter (fun n => match n with
      | .rmc .. => false
      | _ => true)
    .next ((first ++ rest).foldl State.nmeaSentence s)

/-- ISOBUS_GNSS_MESSAGE (R433, R460, R461): a position message of ISO 11783-7 on a CAN port: the capture of its first frame, UTC
in ns since 1970, position, quality, speed and course. -/
def execIsobusGnssMessage (p : Fin 6) (capture : BitVec 32) (utc : Nat) (lat lon height : Int) (quality : BitVec 8)
    (speed course : Int) (s : State) : Out :=
  if s.reg K.gnssSource ≠ 2 || s.regN K.gnssPort ≠ p.val || s.reg (K.isobusEnable p) ≠ 1 then .next s
  else
    let q := fixQuality quality.toNat
    if q = 0 then .next (s.bump K.fixesRejected)
    else
      let stamp := s.sofStamp p capture.toNat
      .next (s.passFix (s.fixTick (some utc) (stamp : Nat)) lat lon height q speed course)

/-! Links, addresses and the switch (R440-R444) -/

/-- The roles of a port whose link is down are DISABLED, and nothing heard on it or queued for it stands (R464). -/
def State.linkLost (s : State) (p : Nat) : State :=
  let s := ((s.setHeard p 0 none).setHeard p 1 none).setReg (K.asCapable p) 0
  let s := s.setEth p { s.eth p with queued := [] }
  let s := { s with net := { s.net with
               macs := s.net.macs.filter (fun m => m.port != p), awaiting := s.net.awaiting.filter (fun m => m.port != p) } }
  s.decideAll

/-- ETH_LINK_CHANGE (R464). -/
def execEthLinkChange (p : Fin 6) (up : Bool) (s : State) : Out :=
  let was := s.reg (K.ethLinkState p) == 1
  if up && !was && s.reg (K.ethPortEnable p) = 1 then .next ((s.setReg (K.ethLinkState p) 1).decideAll)
  else if !up && was then
    .next (((s.setReg (K.ethLinkState p) 0).linkLost p).eventKey .ethernetTime p (K.ethLinkState p))
  else .next s

/-- DHCP_DISCOVERY (R444): the discovery of an interface without a lease ends with a lease, or is repeated after 10 s. -/
def execDhcpDiscovery (n : Fin 4) (lease : Option (BitVec 32)) (s : State) : Out :=
  if s.reg (K.ifEnable n) ≠ 1 || s.reg (K.ifMode n) ≠ 1 || s.net.ifLease.get 0 n ≠ 0 then .next s
  else match lease with
    | some a =>
      let s := { s with net := { s.net with ifLease := s.net.ifLease.set 0 n a.toNat } }
      .next (s.setReg (K.addressInUse n) (a.toNat : Nat))
    | none =>
      .next (if s.net.ifDiscover.get 0 n + ticksS 10 ≤ s.tick then
        { s with net := { s.net with ifDiscover := s.net.ifDiscover.set 0 n s.tick } } else s)

/-- The entry of a VLAN in VlanTable (R442). -/
def State.vlanEntry (s : State) (vlan : Nat) : Option Bytes :=
  ((List.range 32).map (fun j => s.blob (K.vlanTable j))).find? (fun b => fieldU b 0 2 == vlan && vlan != 0)

def vlanMember (b : Bytes) (p : Nat) : Bool := (fieldU b 2 1).testBit p
def vlanUntagged (b : Bytes) (p : Nat) : Bool := (fieldU b 3 1).testBit p

/-- A learned address is kept for 300 s, 4,096 of them in a VLAN (R441). -/
def State.learn (s : State) (vlan addr p : Nat) : State :=
  let l := s.net.macs.filter (fun m => decide (s.tick < m.seen + ticksS 300) && !(m.vlan == vlan && m.addr == addr))
  let l := if (l.filter (fun m => m.vlan == vlan)).length < 4096 then l ++ [⟨vlan, addr, p, s.tick⟩] else l
  { s with net := { s.net with macs := l } }

/-- The ports to which a frame of a VLAN goes: the learned one, else every other member (R441, R442); 6 is the internal port. -/
def State.egressPorts (s : State) (b : Bytes) (vlan dst p : Nat) : List Nat :=
  let members := ((List.range 6).filter (fun q => q != p && vlanMember b q)) ++ [6]
  if dst = beNat (s.blob K.macAddress) then [6]
  else match s.net.macs.find? (fun m => m.vlan == vlan && m.addr == dst && decide (s.tick < m.seen + ticksS 300)) with
    | some m => if m.port = p then [] else if members.contains m.port then [m.port] else []
    | none => members

/-- A frame goes to the egress queues of its ports (R442, R443); what goes to the internal port or to a link that is down is not
queued. -/
def State.forward (s : State) (b : Bytes) (vlan queue from_ : Nat) (f : EthFrame) : State :=
  (s.egressPorts b vlan f.dst from_).foldl (fun (s : State) (q : Nat) =>
    if 6 ≤ q || !s.linkUp q then s
    else s.setEth q { s.eth q with queued := (s.eth q).queued ++ [⟨queue, !vlanUntagged b q, vlan, f.dst, f.src, f.size, f.data⟩] }) s

/-- The checksum of the Internet protocols: the complement of the ones' complement sum of the 16-bit words. -/
def inetSum : Bytes → Nat
  | a :: b :: rest => 256 * a.toNat + b.toNat + inetSum rest
  | [a] => 256 * a.toNat
  | [] => 0
def inetCheck (b : Bytes) : Nat :=
  let t := inetSum b % 65536 + inetSum b / 65536
  65535 - (t % 65536 + t / 65536)

/-- A field of a frame's bytes in network byte order. -/
def netField (b : Bytes) (o n : Nat) : Nat := beNat (field b o n)

/-- The answer of an interface with address `ip` to an ARP request (PRESUMED RFC 826, notes/assumptions/187.md). -/
def arpAnswer (mac : Bytes) (ip : Nat) (d : Bytes) : Option Bytes :=
  if netField d 0 8 = 0x0806000108000604 && netField d 8 2 = 1 && netField d 26 4 = ip && 30 ≤ d.length then
    some (field d 0 8 ++ [0, 2] ++ mac ++ beBytes 4 ip ++ field d 10 10)
  else none

/-- The answer of an interface with address `ip` to an ICMP echo request (PRESUMED RFC 792, notes/assumptions/187.md): addresses
reversed, type 0, checksum anew. -/
def echoAnswer (ip : Nat) (d : Bytes) : Option Bytes :=
  let h := 4 * (netField d 2 1 % 16)
  let total := netField d 4 2
  let body := field d (2 + h) (total - h)
  if netField d 0 2 = 0x0800 && netField d 2 1 / 16 = 4 && netField d 11 1 = 1 && netField d 18 4 = ip && 20 ≤ h && h + 8 ≤ total &&
      2 + total ≤ d.length && body.headD 0 = 8 && inetCheck body = 0 then
    let c := inetCheck ([0, 0, 0, 0] ++ body.drop 4)
    some (field d 0 14 ++ field d 18 4 ++ field d 14 4 ++ field d 22 (h - 20) ++ [0, 0] ++ beBytes 2 c ++ body.drop 4)
  else none

/-- What the module's interfaces answer to a frame that reaches the internal port on a VLAN (R444): ARP and ICMP echo. The queue
of the module's own untagged frames is open (notes/assumptions/187.md). -/
def State.ifAnswers (s : State) (b : Bytes) (vlan : Nat) (f : EthFrame) : State :=
  let mac := s.blob K.macAddress
  if f.dst ≠ beNat mac && f.dst ≠ 0xFFFFFFFFFFFF then s
  else (List.range 4).foldl (fun (s : State) (n : Nat) =>
    let ip := s.regN (K.addressInUse n)
    if s.reg (K.ifEnable n) ≠ 1 || s.regN (K.ifVlan n) ≠ vlan || ip = 0 then s
    else match (arpAnswer mac ip f.data).orElse (fun _ => echoAnswer ip f.data) with
      | some d => s.forward b vlan ((Config.openResult 453 [(vlan : Nat)]).toNat % 8) 6
          ⟨max 64 (d.length + 16), none, f.src, beNat mac, false, d⟩
      | none => s) s

/-- Ticks that a frame takes on the wire of a port, with 20 bytes of preamble and gap: ET0-ET1 carry 10 bits in a tick, the others
one (R440; PRESUMED IEEE 802.3, notes/assumptions/187.md). -/
def wireTicks (p size : Nat) : Nat := if p < 2 then ((size + 20) * 8 + 9) / 10 else (size + 20) * 8

/-- A free port sends the oldest frame of its highest queue that is not empty (R443). -/
def State.egressPort (s : State) (p : Nat) : State :=
  let e := s.eth p
  if s.tick < e.busyUntil then s
  else match e.queued.find? (fun f => e.queued.all (fun g => decide (g.queue ≤ f.queue))) with
    | none => s
    | some f =>
      let s := s.setEth p { e with queued := e.queued.erase f, busyUntil := s.tick + wireTicks p f.size }
      ({ s with net := { s.net with lastSent := s.net.lastSent.set none p (some f) } } : State).bump (K.ethFramesOut p)

/-- The egress of the six ports in a tick (R443). -/
def State.egressTick (s : State) : State := (List.range 6).foldl State.egressPort s

/-- ETH_FRAME_INGRESS (R441-R444, R464): a frame arrives whole at a port. -/
def execEthFrameIngress (p : Fin 6) (fcsOk : Bool) (f : EthFrame) (s : State) : Out :=
  if !s.linkUp p then .next s
  else
    let s := s.bump (K.framesIn p)
    if !fcsOk || 1522 < f.size then .next (s.bump (K.ethFramesDropped p))
    else if f.ptp then .next s
    else
      let vlan := match f.tag with
        | some (v, _) => if v = 0 then s.regN (K.pvid p) else v
        | none => s.regN (K.pvid p)
      let queue := match f.tag with
        | some (_, pcp) => pcp
        | none => s.regN (K.defaultPriority p)
      match s.vlanEntry vlan with
      | none => .next (s.bump (K.ethFramesDropped p))
      | some b =>
        if !vlanMember b p then .next (s.bump (K.ethFramesDropped p))
        else
          .next (((s.learn vlan f.src p).forward b vlan queue p f).ifAnswers b vlan f)

/-! Settings -/

/-- The address of an interface as it comes into use (R444). -/
def State.showIf (s : State) (n : Nat) : State :=
  let a : Int := if s.reg (K.ifEnable n) ≠ 1 then 0 else if s.reg (K.ifMode n) = 0 then s.reg (K.ipAddress n) else 0
  let s := { s with net := { s.net with ifLease := s.net.ifLease.set 0 n 0, ifDiscover := s.net.ifDiscover.set 0 n s.tick } }
  s.setReg (K.addressInUse n) a

/-- A setting that is locked while the unit's enable entry is 1 (R463). -/
def lockedBy (idx sub enable : Nat) : WriteRule := lockedRule idx sub (fun s => s.reg enable == 1)

/-- The write rules of 0x5C00-0x5C60 (R463). -/
def rule15 (idx sub : Nat) : Option WriteRule :=
  if 0x5C00 ≤ idx && idx < 0x5C06 then
    let p := idx - 0x5C00
    if sub = 1 then some (settingRule idx sub (fun _ _ => none) (fun s =>
      if s.reg (K.ethPortEnable p) = 1 then s else (s.setReg (K.ethLinkState p) 0).linkLost p))
    else some (lockedBy idx sub (K.ethPortEnable p))
  else if idx = 0x5C20 then some (settingRule idx sub)
  else if 0x5C30 ≤ idx && idx < 0x5C34 then
    let n := idx - 0x5C30
    if sub = 1 then some (settingRule idx sub
      (fun s d => need (wval d == 0 || (List.range 4).all (fun m => m == n || s.reg (K.ifEnable m) == 0 ||
        s.reg (K.ifVlan m) != s.reg (K.ifVlan n))) .dependency)
      (fun s => s.showIf n))
    else some (lockedBy idx sub (K.ifEnable n))
  else if idx = 0x5C40 || idx = 0x5C41 then
    let d := idx - 0x5C40
    if sub = 1 then some (settingRule idx sub
      (fun s v => need (wval v == 0 || s.reg (K.domainNumber 0) != s.reg (K.domainNumber 1)) .dependency)
      (fun s => ((s.decideRoles d).offerTurn s (1 - d))))
    else some (lockedBy idx sub (K.domainEnable d))
  else if idx = 0x5C50 then
    if sub = 2 then some (settingRule idx sub (fun _ _ => none) (fun s =>
      let t := ({ s with net := { s.net with ppsEdge := none, ppsWaiting := [] } } : State).ppsLost
      (t.offerTurn s 0).offerTurn s 1))
    else some (settingRule idx sub)
  else if idx = 0x5C60 then
    if sub = 5 then some (settingRule idx sub (fun _ d => need (wval d % 10 == 0) .valueInvalid)) else some (settingRule idx sub)
  else none

end Sys2Proof.Machine
end

