-- ==== Sys2Proof/Machine/Fabric.lean ====
section
/-!
DEFINITION. Regions, the pricking store and scene changes (12_fabric_and_prickings.md).
-/
namespace Sys2Proof.Machine

/-- The rule of RegionPanels (R367, R368); what a region in FAULT held ends with its panels. -/
def regionPanelsRule (r : Nat) : WriteRule where
  check := fun s _ d => firstSome [
    need (s.reg (K.regionState r) != rgRunning && (s.region r).run.isNone && (s.region r).pend.isNone) .stateDenied,
    need ((List.range 32).all (fun q => q == r || Nat.land (s.regN (K.regionPanels q)) (wval d) == 0)) .dependency]
  effect := fun s _ seq d =>
    let s := if s.regN (K.runningSlot r) < 32 then ((s.oemLeave r).disarmPricking r).showRunning r 0xFF else s
    (s.setReg (K.regionState r) (if wval d = 0 then rgUndefined else rgEmpty)).settle (0x5010 + r) 1 seq d

/-- REGION_PANELS (R367). -/
def execRegionPanels (slot : Fin 16) (r : Fin 32) (value : BitVec 32) (s : State) : Out :=
  .next (s.request slot (0x5010 + r) 1 (leBytes 4 value.toNat) (regionPanelsRule r))

/-- The rule of PrickingLoad (R371, R372, R403). -/
def prickingLoadRule (n : Nat) : WriteRule where
  long := some 1
  check := fun s _ d =>
    let h := pHeader d
    firstSome [
      need (containerOk d) .valueInvalid,
      need (!s.islandHeld) .hardwareFault,
      need (isPrickingKey h.keyId && s.verify h.keyId (signedPart d) (signatureOf d)) .signatureInvalid,
      need (decide (h.minFirmware ≤ s.regN K.firmwareVersion)) .dependency,
      need (!s.slotBusy n) .stateDenied,
      need (decide ((((List.range 32).filter (fun k => k != n)).map (fun k => (s.pslot k).content.length)).sum + d.length
        ≤ 1280 * 2 ^ 20)) .resourceExhausted,
      need (!s.maint.acts.any (fun a => a.code == actChannelRetire)) .busyConflict]
  effect := fun s _ seq d =>
    let s := (s.setPslot n PSlot.init).showStore
    ({ s with fabric := { s.fabric with loading := some ⟨n, seq, d, false⟩ } } : State).startItem seq

/-- PRICKING_LOAD (R371). -/
def execPrickingLoad (slot : Fin 16) (n : Fin 32) (value : Bytes) (s : State) : Out :=
  .next (s.request slot (0x5100 + n) 0 value (prickingLoadRule n))

/-- PRICKING_LOAD_END (R372): the read-back has the hash of the arrival or not; a mismatch is written once more. -/
def execPrickingLoadEnd (ok : Bool) (s : State) : Out :=
  match s.fabric.loading with
  | none => .next s
  | some l =>
    if ok then
      let s := { s with fabric := { s.fabric with loading := none } }
      .next (((s.setPslot l.slot ⟨l.content, s.now, []⟩).showStore).finish l.item .done)
    else if !l.repeated then .next { s with fabric := { s.fabric with loading := some { l with repeated := true } } }
    else
      let s := { s with fabric := { s.fabric with loading := none } }
      .next ((s.event .fabric l.slot (0x5140 + l.slot) 0 Abort.hardwareFault.code).finish l.item .failed Abort.hardwareFault.code)

/-- The rule of PrickingDelete (R373). -/
def prickingDeleteRule : WriteRule :=
  commandRule (fun s d => need (!s.slotBusy (wval d)) .stateDenied) (fun s d => (s.setPslot (wval d) PSlot.init).showStore)

/-- PRICKING_DELETE (R373). -/
def execPrickingDelete (slot : Fin 16) (n : BitVec 8) (s : State) : Out :=
  .next (s.request slot 0x5082 0 (leBytes 1 n.toNat) prickingDeleteRule)

/-! Scene changes -/

/-- A SceneChange value (R377). -/
structure SceneReq where
  region : Nat
  slot : Nat
  trigger : Nat
  dir : Nat
  axis : Nat
  pos : Int
  waitMax : Nat
  deriving DecidableEq, Repr

def sceneReq (b : Bytes) : SceneReq :=
  let trig := fieldU b 2 1
  ⟨fieldU b 0 1, fieldU b 1 1, trig, fieldU b 3 1, fieldU b 4 1, if trig = 2 then fieldI b 8 8 else (fieldU b 8 8 : Nat), fieldU b 16 4⟩

/-- The value keeps its layout (R377). -/
def sceneForm (b : Bytes) : Bool :=
  let c := sceneReq b
  decide (c.region < 32) && (decide (c.slot < 32) || c.slot == 0xFF) && decide (c.trigger ≤ 2) &&
  (if c.trigger = 2 then (c.dir == 1 || c.dir == 2) && decide (c.axis < 16) else c.dir == 0 && c.axis == 0) &&
  allZero (field b 5 3) && allZero (field b 20 8) && (c.trigger != 0 || c.pos == 0) && (c.trigger != 1 || c.pos % 10 == 0) &&
  decide (1000 ≤ c.waitMax) && decide (c.waitMax ≤ 10000000)

/-- The pricking that a request would replace: the one that runs, or the running change's (R378). -/
def State.sceneOutgoing (s : State) (r : Nat) : Bytes :=
  match (s.region r).run with
  | some c => s.sceneContent c.slot
  | none => s.runningOf r

/-- The function checks of R378, with R559's after the check that the slot holds a pricking (notes/assumptions/122.md). -/
def State.sceneCheck (s : State) (c : SceneReq) : Option Abort :=
  let r := c.region
  let b := s.sceneContent c.slot
  let empty := c.slot == 0xFF
  firstSome [
    need (s.reg (K.regionState r) != rgUndefined) .stateDenied,
    need (!((s.region r).run.isSome && (s.region r).pend.isSome)) .busy,
    need (empty || !b.isEmpty) .dependency,
    need (empty || s.keyInstalled (pHeader b).keyId) .signatureInvalid,
    need (c.trigger != 2 || s.axisState c.axis != axDisabled) .functionDisabled,
    need (c.trigger != 2 || s.axisUsable c.axis) .stateDenied,
    need (empty || s.sceneFits r b (s.sceneOutgoing r)) .dependency,
    need (empty || !(pPlanes b).any (fun p => s.placeLost p.cell)) .hardwareFault,
    need (empty || decide (pCueClaim b + s.cueClaims + 2 * s.usedSections.length ≤ s.regN K.internalSlots)) .resourceExhausted,
    need (!s.sceneConflict r) .busyConflict]

/-- The rule of SceneChange (R377, R378, R400-R403). -/
def sceneChangeRule : WriteRule where
  check := fun s _ d => if sceneForm d then s.sceneCheck (sceneReq d) else some .valueInvalid
  aim := fun _ d => aimRegion (sceneReq d).region
  effect := fun s _ seq d =>
    let c := sceneReq d
    let r := c.region
    let s := s.yieldAll ((s.regionActs r).filter (fun a => a.code == actRotation))
    let q : Scene := ⟨seq, c.slot, c.trigger, c.dir, c.axis, c.pos, c.waitMax, s.tick, false, false, false, none⟩
    let x := s.region r
    if x.run.isNone then ((s.setRegion r { x with run := some q }).startItem seq).showScene r
    else (s.setRegion r { x with pend := some q }).showScene r

/-- SCENE_CHANGE (R378). -/
def execSceneChange (slot : Fin 16) (value : Bytes) (s : State) : Out := .next (s.request slot 0x5080 0 value sceneChangeRule)

/-- SCENE_STAGING_END (R380): the running change becomes READY; NOW is met in this tick. -/
def execSceneStagingEnd (r : Fin 32) (s : State) : Out :=
  match (s.region r).run with
  | none => .next s
  | some c =>
    if c.ready then .next s
    else
      let s := s.stageScene (s.sceneContent c.slot)
      let c := { c with ready := true, trigTick := if c.trigger = 0 then some s.tick else c.trigTick }
      .next ((s.setRegion r { s.region r with run := some c }).showScene r)

/-- SCENE_TRIGGER (R380). -/
def execSceneTrigger (r : Fin 32) (s : State) : Out := .next (s.lookTriggers r)

/-- Fusion runs on a region: its scene changes switch at the end of a network run (R185). -/
def State.fusionRuns (s : State) (r : Nat) : Bool :=
  s.fusionOn && s.reg K.fusionState != fsFault && s.regN K.fusionRegion == r

/-- SCENE_SWITCH (R185, R380, R381): a switch cycle comes: the end of a network run on FusionRegion; else a repeat boundary, which
ends a pass with HANDOVER where the outgoing pricking asks for it, or any tick of a region that runs nothing. -/
def execSceneSwitch (r : Fin 32) (s : State) : Out :=
  match (s.region r).run with
  | none => .next s
  | some c =>
    let due := match c.trigTick with
      | some t => c.ready && decide (t < s.tick)
      | none => false
    let x := s.region r
    let open_ := if s.fusionRuns r then s.fusionSwitches else s.reg (K.regionState r) != rgRunning ||
      (s.atBoundary r && decide (x.holdUntil ≤ s.tick) && (!(pHeader (s.runningOf r)).flags.testBit 0 || x.handover))
    if !due || !open_ then .next s
    else .next (((s.switchRegion r c.slot).bump (K.switches r)).sceneEnd r .done).startWaiting

/-- SCENE_WAIT_LIMIT (R380). -/
def execSceneWaitLimit (r : Fin 32) (s : State) : Out :=
  match (s.region r).run with
  | none => .next s
  | some c => match c.trigTick with
    | some t => .next (if t + ticksUs c.waitMax ≤ s.tick then s.sceneEnd r .failed Abort.stateDenied.code else s)
    | none => .next s

/-- The rule of SceneCancel (R384). -/
def sceneCancelRule : WriteRule :=
  commandRule (fun _ _ => none) (fun s d => (s.scenePendEnd (wval d) .cancelled).sceneEnd (wval d) .cancelled)

/-- SCENE_CANCEL (R384). -/
def execSceneCancel (slot : Fin 16) (r : BitVec 8) (s : State) : Out :=
  .next (s.request slot 0x5081 0 (leBytes 1 r.toNat) sceneCancelRule)

/-- REPEAT_BOUNDARY (R359, R366, R385): a pass of a running region ends, RepeatLength cycles after it began. -/
def execRepeatBoundary (r : Fin 32) (s : State) : Out :=
  if s.reg (K.regionState r) ≠ rgRunning || !s.passEnded r then .next s
  else
    let n := s.regN (K.repeats r)
    let s := (s.regionPlaces r).foldl (fun (s : State) (p : Nat) =>
      let x := s.cell p
      let late := x.dma.filter (fun q => !q.late && decide (q.issued < n))
      let s := s.setCell p { x with
                                    pc := 0, loops := [], inbox := ⟨[]⟩,
                                    dma := x.dma.map (fun q => if q.issued < n then { q with late := true } else q) }
      s.bumpBy K.dmaLate (late.length : Nat)) s
    let s := (s.oemToDict r).oemToCells r
    let s := s.setRegion r { s.region r with handover := false }
    .next (s.bump (K.repeats r))

/-- SRAM_ECC_ERROR (R358, R390, R396): an error in one line of a cell; an uncorrectable one makes the line read 0 and moves
the cell's work to its understudy. -/
def execSramEccError (place : Fin 2048) (line : Fin 512) (uncorrectable : Bool) (s : State) : Out :=
  if !uncorrectable then .next (s.bump K.eccCorrected)
  else
    let s := s.setCell place ((s.cell place).storeBytes (64 * line) (List.replicate 64 0))
    .next ((s.eventKey .fabric place K.eccCorrected).cellFails place 1)

/-- The write rules of 0x5010-0x511F (R389) and of OEM entries. -/
def rule12 (idx sub : Nat) : Option WriteRule :=
  if 0x5010 ≤ idx && idx < 0x5030 && sub = 1 then some (regionPanelsRule (idx - 0x5010))
  else if idx = 0x5080 then some sceneChangeRule
  else if idx = 0x5081 then some sceneCancelRule
  else if idx = 0x5082 then some prickingDeleteRule
  else if 0x5100 ≤ idx && idx < 0x5120 then some (prickingLoadRule (idx - 0x5100))
  else if 0x7000 ≤ idx && idx < 0x8000 then some (oemRule idx sub)
  else none

end Sys2Proof.Machine
end

