-- ==== Sys2Proof/Machine/Maintenance.lean ====
section
/-!
DEFINITION. Cell tests, swaps and repairs, repairs of the memories and stores, the in-line path test, the standby core, and
staging of firmware (13_understudies_and_maintenance.md).
-/
namespace Sys2Proof.Machine

/-! Cell rotation, repair and swap (R394-R398) -/

/-- A scene change in flight occupies a quadrant (R400). -/
def State.sceneIn (s : State) (q : Nat) : Bool :=
  (List.range 32).any (fun r => ((s.region r).run.isSome || (s.region r).pend.isSome) &&
    s.regN (K.regionPanels r) / 2 ^ (8 * q) % 256 != 0)

/-- The next place of a quadrant's rotation from number `k` on (R394): C8 free and its cell not retired. -/
def State.rotationPlace (s : State) (q k : Nat) : Option Nat :=
  ((List.range 512).map (fun i => q * 512 + (k + i) % 512)).find? (fun p => s.spareFree p && !s.maint.placeRetired.contains p)

/-- The region that runs a pricking on a place. -/
def State.runningRegion (s : State) (place : Nat) : Option Nat :=
  (s.regionOf place).filter (fun r => s.reg (K.regionState r) == rgRunning)

/-- A strand's understudy fails its self-test (R395, R413, R414). -/
def State.spareFails (s : State) (place : Nat) : State :=
  ((s.setFlag (strandKey place) 4 true).takeSpare K.understudyCellsFree).eventKey .maintenance (place / 64) (strandKey place)

/-- CELLS_LOW with fewer than 8 understudies free in a quadrant (R413). -/
def State.cellsLow (s : State) (q : Nat) : State :=
  if ((List.range 64).filter (fun i => s.spareFree (q * 512 + 8 * i))).length < 8 then s.spareFlag 0 else s

/-- An activity enters its next phase. -/
def State.actPhase (s : State) (a : Activity) (phase : Nat) : State :=
  { s with maint := { s.maint with acts := s.maint.acts.map (fun x => if x = a then { a with phase := phase, mark := s.tick } else x) } }

/-- The cell of a strand's understudy while it does no other cell's work: what its last mirror left in it (R395). It is held beside the
active places. -/
def spareNo (place : Nat) : Nat := 2048 + place / 8

/-- The understudy of a strand (R358, R395, R396): it works as the place that it serves, or that it runs in lockstep with in a compare
phase; else it keeps what it holds. -/
def State.spareCell (s : State) (place : Nat) : Cell :=
  let base := place / 8 * 8
  match s.maint.acts.find? (fun a => a.code == actRotation && a.phase == 2 && a.unit / 8 == place / 8) with
  | some a => s.cell a.unit
  | none => if s.servedPlace place < 8 then s.cell (base + s.servedPlace place) else s.cell (spareNo place)

/-- The understudy stops at the end of a compare phase, with what it holds (R395). -/
def State.spareStops (s : State) (place : Nat) : State := s.setCell (spareNo place) (s.cell place)

/-- A quadrant's next rotation begins once its share of the period has passed (R394). -/
def State.startRotation (s : State) (q : Nat) : State :=
  let period := s.regN K.cellTestPeriod
  if period = 0 || s.tick < s.maint.lastRotation.get 0 q + ticksS period / 512 then s
  else
    let s := { s with maint := { s.maint with lastRotation := s.maint.lastRotation.set 0 q s.tick } }
    if !s.schedulable q || s.sceneIn q then s
    else match s.rotationPlace q (s.maint.nextPlace.get 0 q) with
      | some p =>
        let s := { s with maint := { s.maint with nextPlace := s.maint.nextPlace.set 0 q ((p + 1) % 512) } }
        s.grantAct ⟨actRotation, q, p, .scheduled, 0, s.tick, 0, s.tick⟩
      | none => s

/-- CELL_ROTATION (R394, R395): the grant of a due test of quadrant `q`, the end of its self-test (`ok`), the repeat boundary
at which its compare phase begins, and its end with a pass. -/
def execCellRotation (q : Fin 4) (ok : Bool) (s : State) : Out :=
  match (s.actsIn q).find? (fun a => a.code == actRotation) with
  | some a =>
    let rep := match s.runningRegion a.unit with
      | some r => (4 * s.regN (K.repeatLength r) + 9) / 10
      | none => 0
    if a.phase = 0 then
      if s.tick < a.start + ticksUs 2 then .next s
      else if !ok then .next (((s.finishAct a).spareFails a.unit).cellsLow q)
      else if (s.runningRegion a.unit).isNone then .next ((s.finishAct a).bump K.cellTestsPassed)
      else .next (s.actPhase a 1)
    else if a.phase = 1 then
      .next (if (s.runningRegion a.unit).all s.atBoundary then s.actPhase a 2 else s)
    else if s.tick < a.mark + max (ticksMs 10) rep then .next s
    else .next (((s.spareStops a.unit).finishAct a).bump K.cellTestsPassed)
  | none => .next (s.startRotation q)

/-- What makes the cell of a place fail (R396): its compare phase, the parity of its planes, or that it stops issuing. -/
inductive CellFailure where
  | mismatch | parity | stopped
  deriving DecidableEq, Repr

def cellFailure (cause : Fin 3) : CellFailure := if cause = 0 then .mismatch else if cause = 1 then .parity else .stopped

/-- The understudy of a cell that has stopped starts from the region's running slot; its STATE lines are 0 (R396). -/
def State.reloadCell (s : State) (place : Nat) : State :=
  match s.runningRegion place with
  | none => s
  | some r =>
    let b := s.runningOf r
    let s := match (pPlanes b).find? (fun c => c.cell == place) with
      | some c => s.setCell place { Cell.init with active := c.plane }
      | none => s.setCell place Cell.init
    let s := ((pInit b).filter (fun k => k.cell == place)).foldl (fun (s : State) (k : SramBlock) =>
      s.setCell k.cell ((s.cell k.cell).storeBytes (64 * k.first) (k.data.map BitVec.toNat))) s
    s.eventKey .maintenance (place / 64) (strandKey place) Abort.hardwareFault.code

/-- CELL_MISMATCH (R396): the cell of a place fails: a mismatch in its compare phase, a parity error in its planes, or a cell
that stops issuing and sends nothing until the route move, after which its understudy runs. -/
def execCellMismatch (place : Fin 2048) (cause : Fin 3) (s : State) : Out :=
  match cellFailure cause with
  | .mismatch =>
    match s.runningAct actRotation place with
    | some a => .next (if a.phase = 2 then (s.endAct a).cellFails place 2 else s)
    | none => .next s
  | .parity => .next (s.cellFails place 1)
  | .stopped =>
    let s := if s.maint.placeRetired.contains place then s else s.setCell place { s.cell place with active := { (s.cell place).active with words := [] } }
    .next (s.cellFails place 3)

/-- Route entries of a place's active plane. -/
def State.routesOf (s : State) (place : Nat) : Nat := (s.cell place).active.routes.length

/-- A place's cell is retired and C8 serves it (R396, R398, R411, R413). -/
def State.retirePlace (s : State) (place : Nat) : State :=
  let q := place / 512
  let k := strandKey place
  let s := { s with maint := { s.maint with placeRetired := s.maint.placeRetired ++ [place] } }
  let s := s.setReg k (s.reg k / 16 * 16 + (place % 8 : Nat))
  let s := (s.takeSpare K.understudyCellsFree).bump K.cellsRetired
  let b := s.blob K.retiredPerQuadrant
  let s := s.setBlob K.retiredPerQuadrant (patch b (2 * q) (leBytes 2 (fieldU b (2 * q) 2 + 1)))
  let s := if s.reg K.firstRetirement = 0 then s.setReg K.firstRetirement (s.now : Nat) else s
  ((s.eventKey .maintenance (place / 64) k).cellsLow q).showCells

/-- The activity that waits to move the routes of a place. -/
def State.moveDue (s : State) (place : Nat) : Option Activity :=
  s.maint.acts.find? (fun a => (a.code == actSwap || a.code == actCellRepair) && a.unit == place)

/-- The routes of a place move to C8 (R396, R397): the strand holds its outputs, and the region's later boundaries fall later by the
hold; the understudy of a cell that has stopped starts from the running slot. -/
def State.moveRoutes (s : State) (place phase : Nat) : State :=
  let hold := min (100 + 23 * s.routesOf place) 1600
  let s := match s.runningRegion place with
    | some r => s.setRegion r { s.region r with holdUntil := s.tick + hold, since := (s.region r).since + hold }
    | none => s
  if phase = 3 then s.reloadCell place else s

/-- ROUTE_MOVE (R397, R398): a repeat boundary at which the routes of a place move to C8; a swap's self-test has passed or not.
-/
def execRouteMove (place : Fin 2048) (spareOk : Bool) (s : State) : Out :=
  match s.moveDue place with
  | none => .next s
  | some a =>
    if !(s.runningRegion place).all s.atBoundary then .next s
    else if a.code = actSwap && !spareOk then
      let s := ((s.finishAct a).spareFails place).cellsLow (place / 512)
      .next (s.finish a.item .failed Abort.hardwareFault.code)
    else
      let s := ((s.moveRoutes place a.phase).retirePlace place).finishAct a
      .next (if a.code = actSwap then s.finish a.item .done else s)

/-- The rule of UnderstudySwap (R398, R403). -/
def understudySwapRule : WriteRule where
  long := some 5
  check := fun s _ d =>
    let p := wval d
    firstSome [
      need (!s.maint.placeRetired.contains p) .stateDenied,
      need (s.spareFree p) .resourceExhausted,
      s.arbRefuses (p / 512),
      need (!s.sceneIn (p / 512)) .busyConflict]
  effect := fun s _ seq d =>
    (s.startItem seq).grantCommanded ⟨actSwap, wval d / 512, wval d, .commanded, seq, s.tick, 0, s.tick⟩

/-- UNDERSTUDY_SWAP (R398). -/
def execUnderstudySwap (slot : Fin 16) (place : BitVec 16) (s : State) : Out :=
  .next (s.request slot 0x5420 0 (leBytes 2 place.toNat) understudySwapRule)

/-! DRAM (R404) -/

/-- A repair of a kind on a unit runs or waits. -/
def State.repairAsked (s : State) (code unit : Nat) : Bool :=
  (s.maint.acts ++ s.maint.waiting).any (fun a => a.code == code && a.unit == unit)

/-- A device channel is moved into the reserve, which holds one (R404). -/
def State.askChannel (s : State) (c : Nat) : State :=
  if s.reg K.retiredChannel ≠ 0xFF || (s.maint.acts ++ s.maint.waiting).any (fun a => a.code == actChannelRetire) then s
  else s.requestRepair ⟨actChannelRetire, domDram, c, .repair, 0, s.tick, 0, s.tick⟩

/-- A row asks for its repair; without a spare row in its bank its channel is retired. -/
def State.askRow (s : State) (bank row : Nat) : State :=
  let unit := bank * 65536 + row
  if s.repairAsked actRowRepair unit then s
  else if s.maint.banksUsed.contains bank then s.askChannel (bank / 16)
  else s.requestRepair ⟨actRowRepair, domDram, unit, .repair, 0, s.tick, 0, s.tick⟩

/-- The cue and axis tables are rebuilt from the journal within 2 ms; a cue passed meanwhile ends MISSED (R91). -/
def State.tablesRebuild (s : State) : State :=
  s.activeSlots.foldl (fun (s : State) (n : Nat) =>
    s.setCue n { s.cue n with armTick := s.tick + ticksMs 2, evaluated := false }) s

/-- What an uncorrectable error does to the data of its row (R91, R127, R184 and the fault tables of the chapters). -/
def State.dramLoss (s : State) : DramUse → State
  | .other => s
  | .covTile k =>
    let bits := match s.openFieldNo with
      | some f => ((s.fieldArc f).cov.get CovArc.init k).bits
      | none => ⟨[]⟩
    let s := s.setTile k { s.tile k with bits := bits, dirty := false, lost := true }
    (s.bump K.tilesLost).eventKey .sections 0 K.tilesLost
  | .cueTable lines =>
    let s := s.tablesRebuild
    let s := ((List.range 16).filter (fun n => lines.toNat.testBit n)).foldl (fun (s : State) (n : Nat) => s.clearLine n) s
    s.eventKey .axesCues 0 K.correctedErrors
  | .fusion =>
    let s := match s.fuse.running with
      | some x => (s.skipStep x.1).fuseClear.networkFree
      | none => s.fuseClear
    s.eventKey .fusion 0 K.stateResets
  | .cameraFrame n =>
    match (s.cam n).frames with
    | f :: _ => (s.loseFrame n f 3).eventKey .vision n (K.missingFrames n)
    | [] => s

/-- DRAM_ROW_REPAIR (R404): a corrected or uncorrectable error at a column of a row of a bank, or the end of the row's repair.
-/
def execDramRowRepair (bank : Fin 64) (row column : BitVec 16) (event : DramEvent) (use : DramUse) (s : State) : Out :=
  let b : Nat := bank
  let unit := b * 65536 + row.toNat
  let addr := unit * 65536 + column.toNat
  let day := ticksS 86400
  match event with
  | .corrected =>
    let recent := (s.maint.rowErrors ++ [(addr, s.tick)]).filter (fun p => decide (s.tick < p.2 + day))
    let rows := (s.maint.errorRows.filter (fun p => decide (s.tick < p.2.2 + day) && !(p.1 == b && p.2.1 == row.toNat))) ++
      [(b, row.toNat, s.tick)]
    let s := ({ s with maint := { s.maint with rowErrors := recent, errorRows := rows } } : State).bump K.correctedErrors
    let s := if 3 ≤ (recent.filter (fun p => p.1 == addr)).length then s.askRow b row.toNat else s
    .next (if 64 ≤ (rows.filter (fun p => p.1 / 16 == b / 16)).length then s.askChannel (b / 16) else s)
  | .uncorrectable => .next ((s.dramLoss use).askRow b row.toNat)
  | .repaired =>
    match s.runningAct actRowRepair unit with
    | none => .next s
    | some a =>
      let s := { s with maint := { s.maint with
                   banksUsed := s.maint.banksUsed ++ [b],
                   rowErrors := s.maint.rowErrors.filter (fun p => p.1 / 65536 != unit),
                   errorRows := s.maint.errorRows.filter (fun p => !(p.1 == b && p.2.1 == row.toNat)) } }
      let s := ((s.takeSpare K.dramRowsLeft).bump K.rowRepairs).spareFlag 2
      .next ((s.finishAct a).eventKey .maintenance b K.rowRepairs)

/-- DRAM_CHANNEL_RETIRE (R404): the end of a channel's move into the reserve, or a channel that fails (R91). -/
def execDramChannelRetire (channel : Fin 4) (s : State) : Out :=
  match s.runningAct actChannelRetire channel with
  | some a =>
    let s := (s.setReg K.retiredChannel (channel : Nat)).finishAct a
    .next (((s.spareFlag 2).spareFlag 6).eventKey .maintenance channel K.retiredChannel)
  | none => .next ((s.tablesRebuild.eventKey .axesCues 0 K.correctedErrors).askChannel channel)

/-! eMMC (R405) -/

/-- A block is retired with no understudy left: the store that owns it shrinks (R405, R414, R474, R480). -/
def State.storeShrinks (s : State) : EmmcUse → State
  | .other => s
  | .book =>
    let s := s.setReg K.runningCapacity (s.reg K.runningCapacity - 4096)
    if s.reg K.runningCapacity ≤ 0 then (s.setReg K.runningCapacity 0).setReg K.bookState 3 else s
  | .archive _ => { s with archive := { s.archive with blocksLost := s.archive.blocksLost + 1 } }

/-- EMMC_BLOCK_RETIRE (R405): a block fails its read verify, a program or an erase, or the copy of its content ends. -/
def execEmmcBlockRetire (block : BitVec 20) (use : EmmcUse) (s : State) : Out :=
  match s.runningAct actBlockRetire block.toNat with
  | none =>
    .next (if s.repairAsked actBlockRetire block.toNat then s
      else s.requestRepair ⟨actBlockRetire, domEmmc, block.toNat, .repair, 0, s.tick, 0, s.tick⟩)
  | some a =>
    let s : State := match use with
      | .archive (some (f, k)) =>
        let x := s.fieldArc f
        let s := s.setFieldArc f { x with cov := x.cov.set CovArc.init k CovArc.init }
        let s : State := if s.openFieldNo = some f && (s.tile k).present then s.setTile k { s.tile k with lost := true } else s
        (s.bump K.tilesLost).eventKey .sections 0 K.tilesLost
      | _ => s
    let s := s.bump K.blocksRetired
    let s : State := if decide (0 < s.reg K.emmcBlocksLeft) then s.takeSpare K.emmcBlocksLeft else s.storeShrinks use
    let s : State := if decide (s.reg K.emmcBlocksLeft < 128) then s.spareFlag 3 else s
    .next ((s.finishAct a).eventKey .maintenance 0 K.blocksRetired)

/-! The MRAM copies (R406) -/

/-- The rule of MramRebuild (R406). -/
def mramRebuildRule : WriteRule where
  check := fun s _ _ => s.arbRefuses domJournal
  effect := fun s _ seq _ =>
    (s.startItem seq).grantCommanded ⟨actMramRebuild, domJournal, 0, .commanded, seq, s.tick, 0, s.tick⟩

/-- MRAM_REBUILD (R406): a write of MramRebuild, else the end of the running rebuild, whose compare finds the copies the same
or not, or the grant that follows 10 s of SINGLE_COPY. -/
def execMramRebuild (slot : Fin 16) (write : Option (BitVec 8)) (same : Bool) (s : State) : Out :=
  match write with
  | some v => .next (s.request slot 0x5422 0 (leBytes 1 v.toNat) mramRebuildRule)
  | none =>
    match s.runningAct actMramRebuild 0 with
    | some a =>
      let item : Option Nat := if a.kind = .commanded then some a.item else none
      let s := s.finishAct a
      if same && (s.jr.copyA || s.jr.copyB) then
        let s := { s with jr := { s.jr with copyA := true, copyB := true }, maint := { s.maint with singleSince := none } }
        .next (((s.setReg K.journalState 0).setFlag K.spareFlags 7 false).finishOpt item .done)
      else .next ((s.eventKey .maintenance 0 K.journalState).finishOpt item .failed Abort.hardwareFault.code)
    | none =>
      .next (if s.reg K.journalState = 1 && s.heldFor s.maint.singleSince (ticksS 10) && !s.maint.rebuildGranted &&
          s.schedulable domJournal then
        ({ s with maint := { s.maint with rebuildGranted := true } } : State).grantAct
          ⟨actMramRebuild, domJournal, 0, .scheduled, 0, s.tick, 0, s.tick⟩
      else s)

/-! The in-line path (R407) -/

/-- The rule of InlinePathTest (R407). -/
def inlinePathTestRule : WriteRule where
  check := fun s _ _ => firstSome [need (s.reg K.inlineState == 1 || s.reg K.inlineState == 2) .stateDenied, s.arbRefuses domImage]
  effect := fun s _ seq _ =>
    (s.startItem seq).grantCommanded ⟨actInlineTest, domImage, 0, .commanded, seq, s.tick, 0, s.tick⟩

/-- INLINE_PATH_TEST (R407). -/
def execInlinePathTest (slot : Fin 16) (value : BitVec 8) (s : State) : Out :=
  .next (s.request slot 0x5421 0 (leBytes 1 value.toNat) inlinePathTestRule)

/-- INLINE_PATH_TEST_END (R407). -/
def execInlinePathTestEnd (pass : Bool) (s : State) : Out :=
  match s.runningAct actInlineTest 0 with
  | none => .next s
  | some a =>
    let s := s.finishAct a
    .next (if pass then (s.setReg K.inlineState 1).finish a.item .done
      else (s.setReg K.inlineState 2).finish a.item .failed Abort.hardwareFault.code)

/-- STANDBY_CORE_SELF_TEST (R393, R414): every 600 s while the core stands by. -/
def execStandbyCoreSelfTest (ok : Bool) (s : State) : Out :=
  if s.reg K.standbyCore ≠ 0 || s.tick < s.maint.lastCoreTest + ticksS 600 then .next s
  else
    let s := { s with maint := { s.maint with lastCoreTest := s.tick } }
    .next (if ok then s
      else ((s.setReg K.standbyCore 2).eventKey .maintenance 0 K.standbyCore).spareFlag 1)

/-! Firmware staging (R408, R561) -/

/-- What an image slot holds: as delivered, A the confirmed image at the version floor (R562). -/
def State.image (s : State) (n : Nat) : FwImage :=
  match s.maint.images.get none n with
  | some x => x
  | none => if n = 0 then ⟨true, (regDefault K.firmwareVersion).toNat, (regDefault K.versionFloor).toNat⟩ else ⟨false, 0, 0⟩

def State.setImage (s : State) (n : Nat) (x : FwImage) : State :=
  { s with maint := { s.maint with images := s.maint.images.set none n (some x) } }

/-- The slot beside the active image (R408). -/
def State.otherImage (s : State) : Nat := 1 - s.regN K.activeImage

/-- The image is well formed (R561). -/
def State.imageOk (s : State) (b : Bytes) : Bool :=
  fieldU b 0 2 == 0x4657 && fieldU b 2 1 == 1 && fieldU b 4 2 == 128 && fieldU b 8 4 / 2 ^ 24 == 2 &&
  fieldU b 12 4 == b.length && decide (fieldU b 16 2 ≤ s.regN K.hardwareIssue) && allZero (field b 18 6) &&
  allZero (field b 32 96) && fieldU b 3 1 == fieldU b (b.length - 104) 1 && allZero (field b (b.length - 103) 7)

/-- The rule of FirmwareStage (R408). -/
def firmwareStageRule : WriteRule where
  long := some 4
  check := fun s _ d =>
    let k := fieldU d 3 1
    firstSome [
      need (s.imageOk d) .valueInvalid,
      need (!s.islandHeld) .hardwareFault,
      need (isFirmwareKey k && s.verify k (signedPart d) (signatureOf d)) .signatureInvalid,
      need (decide (s.regN K.versionFloor ≤ fieldU d 6 2)) .dependency,
      need (s.reg K.stagedState != 2 && s.reg K.trialState != 1) .stateDenied,
      s.arbRefuses domEmmc]
  effect := fun s _ seq d =>
    let s := (s.setImage s.otherImage ⟨false, 0, 0⟩).setReg K.stagedState 0
    let s := ({ s with maint := { s.maint with stage := some (seq, d, false), confirmed := s.regN K.activeImage } } : State).setReg
      K.stagedVersion 0
    (s.startItem seq).grantCommanded ⟨actFirmwareStage, domEmmc, 0, .commanded, seq, s.tick, 0, s.tick⟩

/-- FIRMWARE_STAGE (R408). -/
def execFirmwareStage (slot : Fin 16) (value : Bytes) (s : State) : Out := .next (s.request slot 0x5480 0 value firmwareStageRule)

/-- FIRMWARE_STAGE_END (R372, R408): the read-back has the hash of the arrival or not; a mismatch is written once more. -/
def execFirmwareStageEnd (ok : Bool) (s : State) : Out :=
  match s.maint.stage with
  | none => .next s
  | some (item, b, repeated) =>
    if !ok && !repeated then .next { s with maint := { s.maint with stage := some (item, b, true) } }
    else
      let s := { s with maint := { s.maint with stage := none } }
      let s := match s.runningAct actFirmwareStage 0 with
        | some a => s.finishAct a
        | none => s
      if ok then
        let s := s.setImage s.otherImage ⟨true, fieldU b 8 4, fieldU b 6 2⟩
        .next (((s.setReg K.stagedState 1).setReg K.stagedVersion (fieldU b 8 4 : Nat)).finish item .done)
      else
        let s := s.event .maintenance 0 0x5480 0 Abort.hardwareFault.code
        .next (s.finish item .failed Abort.hardwareFault.code)

/-- The write rules of 0x5400-0x547F and of FirmwareStage (R412). -/
def rule13 (idx sub : Nat) : Option WriteRule :=
  if idx = 0x5402 then some (settingRule idx sub)
  else if idx = 0x5420 then some understudySwapRule
  else if idx = 0x5421 then some inlinePathTestRule
  else if idx = 0x5422 then some mramRebuildRule
  else if idx = 0x5480 then some firmwareStageRule
  else none

end Sys2Proof.Machine
end

