-- ==== Sys2Proof/Machine/ServiceOps.lean ====
section
/-!
DEFINITION. The yield service, the files of an export and the payloads of the fleet service as shared operations
(17_harvest_and_fleet_services.md).
-/
namespace Sys2Proof.Machine

/-! Yield (R486-R491). Masses are in units of 10 ug: a flow of 1 mg/s in one sample of 10 ms. -/

/-- One kilogram and one gram. -/
abbrev massKg : Int := 10 ^ 8
abbrev massG : Int := 10 ^ 5

/-- A value as an unsigned 32-bit entry shows it. -/
def sat32 (v : Int) : Int := clampI 0 (2 ^ 32 - 1) v

def State.setYield (s : State) (y : Yield) : State := { s with yield := y }

/-- The entries of the yield service (R503). -/
def State.showYield (s : State) : State :=
  let y := s.yield
  let recent (t : Option Nat) : Bool := t.any (fun t => decide (s.tick < t + ticksS 10))
  let s := s.setReg K.yieldState (if s.reg K.yieldEnable = 0 then 0 else if s.openFieldNo.isNone then 1 else 2)
  let s := s.setReg K.massFlow (sat32 (y.flows.sum / (1000 * max 1 (y.flows.length : Int))))
  let s := (s.setReg K.loadWetMass (sat32 (y.loadWet / massKg))).setReg K.loadDryMass (sat32 (y.loadDry / massKg))
  let s := (s.setReg K.unassignedMass (sat32 (y.unassigned / massKg))).setReg K.harvestedArea (sat32 (y.area / 10 ^ 6))
  let flow := recent y.badFlow
  let full := recent y.tilesFull
  let new := (flow && !s.flag K.yieldFlags 1) || (full && !s.flag K.yieldFlags 2)
  let s := ((s.setFlag K.yieldFlags 0 (recent y.badMoisture)).setFlag K.yieldFlags 1 flow).setFlag K.yieldFlags 2 full
  if new then s.eventKey .services 0 K.yieldFlags else s

/-- Mass that enters no strip or cell (R483, R488, R490). -/
def State.unassign (s : State) (wet : Int) : State :=
  s.setYield { s.yield with unassigned := s.yield.unassigned + wet }

/-- Moisture in use in 0.01 %, and whether it is invalid (R486). -/
def State.moistureNow (s : State) : Int × Bool :=
  let i := s.regN K.moistureInput
  if i = 0xFF then (s.reg K.standardMoisture, false)
  else
    let m := s.reg (K.ainValue i)
    if s.ainFault i || m < 0 || 9000 < m then (s.reg K.standardMoisture, true) else (m, false)

/-- The width that harvests: the sections of the yield implement that apply, or FallbackWidth (R487). -/
def State.workWidth (s : State) : Nat :=
  let i := s.regN K.yieldImplement
  let l := s.sectionsOf i
  if l.isEmpty then (if s.reg (K.sectionMode i) = 0 then 0 else s.regN K.fallbackWidth)
  else ((l.filter (fun n => (s.section n).applyingAt s.tick)).map (fun n => (s.secCfg n).width)).sum

/-- A strip opens at tick `t` (R487). -/
def State.openStripAt (s : State) (t : Nat) : State :=
  let i := s.regN K.yieldImplement
  let p := s.poseOf i
  s.setYield { s.yield with cur := some ⟨t, p.e, p.n, p.h, s.axisFine (s.regN (K.sectionAxis i)), s.workWidth⟩ }

/-- The open strip closes and the next one opens; the last 600 are held (R487). -/
def State.closeStrip (s : State) (o : OpenStrip) : State :=
  let i := s.regN K.yieldImplement
  let p := s.poseOf i
  let k : Strip := {
    start := o.start, e0 := o.e, n0 := o.n, h0 := o.h, e1 := p.e, n1 := p.n, h1 := p.h,
    travel := s.axisFine (s.regN (K.sectionAxis i)) - o.pos, width := o.width,
    wet := 0, dry := 0, poolWet := 0, poolDry := 0, time := s.now, closed := false, deposited := false }
  let l := s.yield.strips ++ [k]
  (s.setYield { s.yield with strips := l.drop (l.length - 600) }).openStripAt (o.start + ticksMs 100)

/-- Area of a strip in mm2 (R487). -/
def Strip.area (k : Strip) : Int := if k.travel ≤ 0 then 0 else (k.width : Int) * (k.travel / fineMm)

/-- Changes the strip that starts at a tick. -/
def State.mapStrip (s : State) (start : Nat) (f : Strip → Strip) : State :=
  s.setYield { s.yield with strips := s.yield.strips.map (fun k => if k.start = start then f k else k) }

/-- Assigns a sample (R488). -/
def State.assignSample (s : State) (wet dry : Int) : State :=
  let d := ticksMs (s.regN K.transportDelay)
  let purge := ticksMs (s.regN K.purgeTime)
  let at' : Int := (s.tick : Int) - d
  let l := s.yield.strips
  match l.find? (fun k => decide ((k.start : Int) ≤ at') && decide (at' < k.start + ticksMs 100)) with
  | none => s.unassign wet
  | some k =>
    if 0 < k.width then
      if k.deposited then s.unassign wet
      else s.mapStrip k.start (fun x => { x with wet := x.wet + wet, dry := x.dry + dry })
    else match (l.filter (fun g => decide (g.start < k.start) && decide (0 < g.width))).getLast? with
      | some g =>
        if k.start - g.start ≤ purge && !g.closed && !g.deposited then
          s.mapStrip g.start (fun x => { x with poolWet := x.poolWet + wet, poolDry := x.poolDry + dry })
        else s.unassign wet
      | none => s.unassign wet

/-- `total` in shares proportional to weights, equal ones where the weights sum to 0; the shares sum to it exactly. -/
def shareOut (total : Int) (weights : List Int) : List Int :=
  let w := if weights.sum = 0 then weights.map (fun _ => (1 : Int)) else weights
  let whole := w.sum
  (List.range w.length).map (fun k =>
    let lo := (w.take k).sum
    let hi := (w.take (k + 1)).sum
    if whole = 0 then 0 else (total * hi).tdiv whole - (total * lo).tdiv whole)

/-- The pool of strip `g` is spread (R488). -/
def State.closePool (s : State) (g : Strip) : State :=
  let purge := ticksMs (s.regN K.purgeTime)
  let l := s.yield.strips.filter (fun h => decide (0 < h.width) && decide (g.start < h.start + max purge 1) && decide (h.start ≤ g.start))
  let wet := shareOut g.poolWet (l.map Strip.area)
  let dry := shareOut g.poolDry (l.map Strip.area)
  let s := (l.zip (wet.zip dry)).foldl (fun (s : State) p =>
    s.mapStrip p.1.start (fun x => { x with wet := x.wet + p.2.1, dry := x.dry + p.2.2 })) s
  s.mapStrip g.start (fun x => { x with poolWet := 0, poolDry := 0, closed := true })

/-- The tick at which the pool of a strip closes. -/
def State.poolDue (s : State) (g : Strip) : Nat :=
  g.start + ticksMs 100 + ticksMs (s.regN K.transportDelay) + ticksMs (s.regN K.purgeTime)

/-- The tick at which a strip is deposited (R489). -/
def State.depositDue (s : State) (g : Strip) : Nat := s.poolDue g + ticksMs (s.regN K.purgeTime)

/-- Fields of a FieldRecord (R482). -/
def State.yieldPitch (s : State) (f : Nat) : Nat := fieldU (s.blob (K.fieldRecord f)) 16 2
def State.fieldUsed (s : State) (f : Nat) : Bool := fieldU (s.blob (K.fieldRecord f)) 0 1 == 1

/-- A yield tile of the open field: in DRAM, else as the archive holds it (R490). -/
def State.yieldTile (s : State) (f k : Nat) : YTile :=
  let t := s.yield.tiles.get YTile.init k
  if t.present then t else (s.fieldArc f).yield.get YTile.init k

/-- A share of a strip enters a cell (R490). -/
def State.depositCell (s : State) (f : Nat) (i j : Int) (wet dry area : Int) : State :=
  match tileKey (i / 64) (j / 64) with
  | none => s.unassign wet
  | some k =>
    if !(s.yield.tiles.get YTile.init k).present && 1024 ≤ s.yield.tiles.cells.length then
      let s := s.unassign wet
      s.setYield { s.yield with tilesFull := some s.tick }
    else
      let t := s.yieldTile f k
      let n := (j % 64).toNat * 64 + (i % 64).toNat
      let c := t.cells.get YCell.init n
      let t : YTile := {
        present := true, cells := t.cells.set YCell.init n ⟨c.wet + wet, c.dry + dry, c.area + area⟩,
        first := if t.present then t.first else s.now, last := s.now, moisture := s.regN K.standardMoisture,
        dirtyFrom := match t.dirtyFrom with
          | some d => some d
          | none => some s.tick }
      s.setYield { s.yield with tiles := s.yield.tiles.set YTile.init k t }

/-- A position of the field frame (2^-32 um) as latitude and longitude in 10^-7 degree (R129): the origin itself; elsewhere the
last digit is open (notes/assumptions/4.md). -/
def State.geoOf (s : State) (e n : Int) : Int × Int :=
  let o := s.fieldOrigin
  if e = 0 && n = 0 then (s.reg K.originLatitude, s.reg K.originLongitude)
  else
    let p := o.ofPlane (e / 2 ^ 32) (n / 2 ^ 32)
    let l := [e, n, o.lat, o.lon, o.height]
    (nearOpen 1 p.1 (Config.openResult 443 l), nearOpen 1 p.2 (Config.openResult 444 l))

/-- The ends of a strip's footprint: its width, centred on the reference point (R487, R489). -/
def stripEnds (e n h : Int) (width : Nat) : (Int × Int) × (Int × Int) :=
  let w := (width : Int) * fineMm / 2
  (toField e n h 0 w, toField e n h 0 (-w))

/-- Deposits a strip (R489): into the cells of the open field, or nowhere. -/
def State.depositStrip (s : State) (k : Strip) : State :=
  let s := s.mapStrip k.start (fun x => { x with deposited := true })
  match s.openFieldNo with
  | none => s
  | some f =>
    if k.width = 0 then s
    else
      let p := s.yieldPitch f
      let u := (p : Int) * fineMm
      let a := stripEnds k.e0 k.n0 k.h0 k.width
      let b := stripEnds k.e1 k.n1 k.h1 k.width
      let l := sweptCells p a.1 a.2 b.1 b.2
      let l := if l.isEmpty then [((k.e0 + k.e1) / 2 / u, (k.n0 + k.n1) / 2 / u)] else l
      let ones := l.map (fun _ => (1 : Int))
      let shares := (shareOut k.wet ones).zip ((shareOut k.dry ones).zip (shareOut k.area ones))
      let s := (l.zip shares).foldl (fun (s : State) q => s.depositCell f q.1.1 q.1.2 q.2.1 q.2.2.1 q.2.2.2) s
      let g := s.geoOf k.e1 k.n1
      let x := s.fieldArc f
      let s := s.setFieldArc f { x with rows := x.rows ++ [[(k.time : Int), g.1, g.2, k.wet, k.dry, k.width, k.area]] }
      s.setYield { s.yield with area := s.yield.area + k.area }

/-- Archives a yield tile of a field; without a free unit it stays unarchived (R481, R490). -/
def State.archiveYield (s : State) (f k : Nat) : State :=
  let x := s.fieldArc f
  let t := { s.yield.tiles.get YTile.init k with dirtyFrom := none }
  if s.hasUnit (x.yield.get YTile.init k != YTile.init) then
    let s := s.setFieldArc f { x with yield := x.yield.set YTile.init k t }
    s.setYield { s.yield with tiles := s.yield.tiles.set YTile.init k t }
  else if s.flag K.archiveFlags 0 then s
  else (s.setFlag K.archiveFlags 0 true).eventKey .services 0 K.archiveFlags

/-- Archives every yield tile with unwritten deposits. -/
def State.archiveYields (s : State) (f : Nat) : State :=
  ((s.yield.tiles.cells.filter (fun c => c.2.dirtyFrom.isSome)).map Prod.fst).foldl (fun (s : State) k => s.archiveYield f k) s

/-! Exports (R493-R495) -/

/-- The bytes of a yield tile (R490). -/
def YTile.bytes (t : YTile) (f k pitch : Nat) : Bytes :=
  let head := leBytes 2 0x5459 ++ [1] ++ leBytes 1 f ++ encInt 2 (tileX k) ++ encInt 2 (tileY k) ++ leBytes 2 pitch ++
    leBytes 2 t.moisture ++ leBytes 8 t.first ++ leBytes 8 t.last ++ zeros 36
  let cells := (List.range 4096).flatMap (fun n =>
    let c := t.cells.get YCell.init n
    encInt 4 (sat32 (c.wet / massG)) ++ encInt 4 (sat32 (c.dry / massG)) ++ encInt 4 (sat32 (c.area / 100)))
  let b := head ++ cells
  b ++ leBytes 4 (crc32 b)

/-- Lists of `n` at a time. -/
def chunksOf {α : Type} (n : Nat) : Nat → List α → List (List α)
  | 0, _ => []
  | _, [] => []
  | fuel + 1, l => l.take n :: chunksOf n fuel (l.drop n)

/-- Yield-tile keys in ascending TileY and then TileX (R495). -/
def exportOrder (l : List (Nat × YTile)) : List (Nat × YTile) :=
  sortBy (fun a b => decide (a.1 % 65536 < b.1 % 65536) || (a.1 % 65536 == b.1 % 65536 && decide (a.1 ≤ b.1))) l

def State.yieldFiles (s : State) (f : Nat) : List Bytes :=
  let l := exportOrder (s.fieldArc f).yield.cells
  (chunksOf 256 l.length l).map (fun g => g.flatMap (fun c => c.2.bytes f c.1 (s.yieldPitch f)))

/-- A coverage tile with its key (R142, R495). -/
def CovArc.bytes (t : CovArc) (k : Nat) : Bytes :=
  encInt 2 (tileX k) ++ encInt 2 (tileY k) ++ (List.range (8192 * t.layers)).map (fun i => BitVec.ofNat 8 (t.bits.get 0 i))

def State.coverageFiles (s : State) (f : Nat) : List Bytes := [(s.fieldArc f).cov.cells.flatMap (fun c => c.2.bytes c.1)]

/-- Deposited strips of the same second of module time (R494). -/
def groupRows : Nat → List (List Int) → List (List (List Int))
  | 0, _ => []
  | _, [] => []
  | fuel + 1, r :: t =>
    let sec (x : List Int) : Int := x.getD 0 0 / 10 ^ 9
    let same := t.takeWhile (fun x => sec x == sec r)
    (r :: same) :: groupRows fuel (t.drop same.length)

/-- A row of the time log (R494; the record of ISO 11783-10, notes/assumptions/100.md): time and date, north and east position,
and four values: mass per area in mg/m2, moisture in ppm, working width in mm, total mass in kg. -/
def State.logRow (s : State) (before : Int) (g : List (List Int)) : Bytes :=
  let col (k : Nat) : Int := (g.map (fun r => r.getD k 0)).sum
  let last := g.getLastD []
  let t := (last.getD 0 0) / 10 ^ 6 - s.reg K.utcOffset * 1000
  let wet := col 3
  let dry := col 4
  let area := col 6
  let moisture := if wet = 0 then s.reg K.standardMoisture else 10000 - (dry * (10000 - s.reg K.standardMoisture)).tdiv wet
  let value (n : Nat) (v : Int) : Bytes := leBytes 1 n ++ encInt 4 v
  encInt 4 (t % 86400000) ++ encInt 2 (t / 86400000 - 3652) ++ encInt 4 (last.getD 1 0) ++ encInt 4 (last.getD 2 0) ++ [4] ++
    value 0 (if area = 0 then 0 else wet * 10 ^ 4 / area) ++ value 1 (moisture * 100) ++ value 2 (last.getD 5 0) ++
    value 3 ((before + wet) / massKg)

/-- TLG00001.BIN. -/
def State.timeLog (s : State) (f : Nat) : Bytes :=
  let rows := (s.fieldArc f).rows
  ((groupRows rows.length rows).foldl (fun (acc : Int × Bytes) g =>
    (acc.1 + (g.map (fun r => r.getD 3 0)).sum, acc.2 ++ s.logRow acc.1 g)) (0, [])).2

/-- The files of a build (R494, R495); the text of the two XML files is open. -/
def State.exportFiles (s : State) (f format : Nat) : List Bytes × State :=
  if format = 0 then
    ([Config.freeBytes s.fresh, Config.freeBytes (s.fresh + 1), s.timeLog f], { s with fresh := s.fresh + 2 })
  else ((if format = 1 then s.yieldFiles f else s.coverageFiles f).take 16, s)

/-! Payloads of the fleet service (R497, R498, R501) -/

/-- The status payload; `state` 0 OFFLINE, 1 ONLINE (R498). -/
def State.statusPayload (s : State) (state : Nat) : Bytes :=
  let f := s.openFieldNo
  leBytes 1 1 ++ leBytes 1 state ++ leBytes 1 (s.regN K.timeState) ++ leBytes 1 (s.regN K.bookState) ++ leBytes 8 s.now ++
  leBytes 4 (s.regN K.operatingTime) ++ leBytes 1 (f.getD 0) ++
  leBytes 1 ((List.range 4).map (fun n => s.regN (K.sectionMode n) * 4 ^ n)).sum ++ leBytes 1 (s.regN K.yieldState) ++
  leBytes 1 (s.regN K.rendezvousState) ++ leBytes 1 (s.regN K.stopState) ++ leBytes 1 (b2n f.isSome) ++ zeros 2 ++
  leBytes 4 (s.regN K.firmwareVersion) ++ zeros 4

/-- A topic by its suffix (R497). -/
def State.topicName (s : State) (suffix : String) : Bytes := utf8Bytes "zf/" ++ s.blob K.machineId ++ utf8Bytes ("/" ++ suffix)

/-- The CONNECT packet of an attempt (R496). -/
def State.connectPacket (s : State) : Connect := {
  address := s.regN K.brokerAddress, port := s.regN K.brokerPort, vlan := s.regN K.fleetVlan, serverName := s.blob K.brokerName,
  clientId := s.blob K.serialNumber, cleanStart := 0, sessionExpiry := 3600, keepAlive := s.regN K.keepAlive, receiveMax := 16,
  maxPacket := 1048576, willTopic := s.topicName "status", willQos := 1, willRetain := true, willPayload := s.statusPayload 0 }

/-- The fields whose change sends a status message: all but ModuleTime and OperatingTime. -/
def statusFields (b : Bytes) : Bytes := field b 0 4 ++ field b 16 16

/-- Machine speed in mm/s. -/
def State.speedMm (s : State) : Int := s.machineSpeed.tdiv (65536 * 1000)

def State.posPayload (s : State) : Bytes :=
  let p := s.machinePose
  let g := s.geoOf p.e p.n
  let st := match s.impl0Axis with
    | some a => s.axisState a
    | none => 0
  leBytes 1 1 ++ encInt 1 st ++ zeros 2 ++ leBytes 8 s.now ++ encInt 4 g.1 ++ encInt 4 g.2 ++ encInt 4 p.h ++
  encInt 4 (satI32 s.speedMm) ++ encInt 4 (satI32 s.net.height)

def State.yieldPayload (s : State) : Bytes :=
  leBytes 1 1 ++ leBytes 1 (s.regN K.yieldState) ++ zeros 2 ++ leBytes 8 s.now ++ leBytes 4 (s.regN K.loadWetMass) ++
  leBytes 4 (s.regN K.loadDryMass) ++ leBytes 4 (s.regN K.harvestedArea) ++ leBytes 2 (s.regN K.moisture) ++ zeros 2 ++
  leBytes 4 (s.regN K.massFlow) ++ leBytes 4 (s.regN (K.lossPerArea 0)) ++ leBytes 4 (s.regN (K.lossPerArea 1))

/-- The rendezvous point in 2^-32 um (R501). -/
def State.rdvPayload (s : State) : Bytes :=
  let r := s.rdv
  let g := s.geoOf r.east r.north
  leBytes 1 1 ++ leBytes 1 (s.regN K.rendezvousState) ++ encInt 1 (if r.valid then r.fill * 100 / 2 ^ 24 else 0xFF) ++ zeros 1 ++
  leBytes 8 s.now ++ encInt 4 g.1 ++ encInt 4 g.2 ++ encInt 4 r.heading ++ leBytes 4 (s.regN K.distanceToFull) ++
  leBytes 4 r.timeToFull ++ encInt 4 (satI32 s.speedMm) ++ zeros 4 ++ padTo 8 (s.blob K.cartId)

/-- The rdv topic goes out (R497). -/
def State.publishRdv (s : State) : State :=
  let s := { s with fleet := { s.fleet with lastRdv := s.tick } }
  s.publish ⟨.rdv, s.rdvPayload⟩

/-- The rendezvous moves to a state (R502); IDLE has no cart. -/
def State.rdvMove (s : State) (st : Int) : State :=
  if s.reg K.rendezvousState = st then s
  else
    let s := s.setReg K.rendezvousState st
    let s := if st = 0 then s.setBlob K.cartId (zeros 8) else s
    s.publishRdv

end Sys2Proof.Machine
end

