-- ==== Sys2Proof/Machine/Services.lean ====
section
/-!
DEFINITION. The commands of 17_harvest_and_fleet_services.md.
-/
namespace Sys2Proof.Machine

/-! Yield (R486-R492) -/

/-- The rule of YieldEnable (R503): strips and samples start anew. -/
def yieldEnableRule : WriteRule where
  check := fun s _ d => need (wval d == 0 || s.reg K.yieldEnable == 1 ||
    (s.reg (K.implementEnable (s.regN K.yieldImplement)) == 1 && s.reg (K.brgEnable (s.regN K.flowBridge)) == 1)) .dependency
  effect := fun s _ seq d =>
    let was := s.reg K.yieldEnable
    let s := s.putEntry 0x6000 1 d
    let s : State := if s.reg K.yieldEnable = was then s
      else if wval d = 0 then s.setYield { s.yield with cur := none, flows := [] }
      else (s.setYield { s.yield with flows := [], sampledAt := s.tick }).openStripAt s.tick
    s.showYield.finish seq .done

/-- YIELD_SAMPLE (R486, R488, R491): every 10 ms. -/
def execYieldSample (s : State) : Out :=
  if s.reg K.yieldEnable ≠ 1 || s.tick < s.yield.sampledAt + ticksMs 10 then .next s
  else
    let b := s.regN K.flowBridge
    let bad := s.brgFault b
    let q : Int := if bad then 0 else s.reg (K.brgValue b) * s.reg K.flowScale / 65536
    let m := s.moistureNow
    let dry := (q * (10000 - m.1)).tdiv (10000 - s.reg K.standardMoisture)
    let y := s.yield
    let s := s.setYield { y with
      sampledAt := y.sampledAt + ticksMs 10, flows := (q :: y.flows).take 100, loadWet := y.loadWet + q,
      loadDry := y.loadDry + dry, badMoisture := if m.2 then some s.tick else y.badMoisture,
      badFlow := if bad then some s.tick else y.badFlow }
    .next ((s.setReg K.moisture m.1).assignSample q dry).showYield

/-- STRIP_CLOSE (R487): every 100 ms; the first strip opens with the service. -/
def execStripClose (s : State) : Out :=
  if s.reg K.yieldEnable ≠ 1 then .next s
  else match s.yield.cur with
    | none => .next (s.openStripAt s.tick)
    | some o => .next (if o.start + ticksMs 100 ≤ s.tick then s.closeStrip o else s)

/-- POOL_CLOSE (R488): the oldest strip whose pool is due. -/
def execPoolClose (s : State) : Out :=
  match s.yield.strips.find? (fun g => !g.closed && decide (0 < g.width) && decide (s.poolDue g ≤ s.tick)) with
  | some g => .next (s.closePool g)
  | none => .next s

/-- STRIP_DEPOSIT (R489, R490): the oldest strip whose deposit is due; its pool has closed before. -/
def execStripDeposit (s : State) : Out :=
  match s.yield.strips.find? (fun g => !g.deposited && decide (s.depositDue g ≤ s.tick)) with
  | some g =>
    let s : State := if g.closed || g.width = 0 then s else s.closePool g
    match s.yield.strips.find? (fun k => k.start == g.start) with
    | some k => .next (s.depositStrip k).showYield
    | none => .next s
  | none => .next s

/-- YIELD_TILE_ARCHIVE (R490): every tile with unwritten deposits is written. -/
def execYieldTileArchive (s : State) : Out :=
  match s.openFieldNo with
  | some f => .next (s.archiveYields f)
  | none => .next s

/-- LOSS_UPDATE (R492): both groups, every 100 ms. -/
def execLossUpdate (s : State) : Out :=
  if s.tick < s.yield.lossAt + ticksMs 100 then .next s
  else
    let s := s.setYield { s.yield with lossAt := s.tick }
    let i := s.regN K.yieldImplement
    let v := (s.axis (s.regN (K.sectionAxis i))).vp
    let w : Int := match s.yield.cur with
      | some o => (o.width : Int)
      | none => 0
    .next ((List.range 2).foldl (fun (s : State) (j : Nat) =>
      let inputs := (List.range 16).filter (fun n => s.flag (K.lossMask j) n && !s.acuFault n)
      let sum := (inputs.map (fun n => s.reg (K.grainRate n))).sum
      let rate := sat32 (sum * s.reg K.kernelMass * s.reg K.lossScale / 65536 / 1000)
      let area := if v ≤ 0 || w ≤ 0 then 0 else sat32 (rate * 10 ^ 9 * 65536 / (v * w))
      (s.setReg (K.lossRate j) rate).setReg (K.lossPerArea j) area) s)

/-- The rule of YieldCalibrate (R491). -/
def yieldCalibrateRule : WriteRule :=
  commandRule (fun s d =>
      let l := s.reg K.loadWetMass
      let w : Int := (wval d : Nat)
      need (decide (500 ≤ l) && decide (l ≤ 2 * w) && decide (w ≤ 2 * l)) .dependency)
    (fun s d =>
      let s := s.setReg K.flowScale ((s.reg K.flowScale * (wval d : Nat)).tdiv (s.reg K.loadWetMass))
      (s.setYield { s.yield with loadWet := 0, loadDry := 0 }).showYield)

/-- YIELD_CALIBRATE (R491). -/
def execYieldCalibrate (slot : Fin 16) (mass : BitVec 32) (s : State) : Out :=
  .next (s.request slot 0x6002 0 (leBytes 4 mass.toNat) yieldCalibrateRule)

/-- The rule of LoadReset (R503). -/
def loadResetRule : WriteRule :=
  commandRule (fun _ _ => none) (fun s _ => (s.setYield { s.yield with loadWet := 0, loadDry := 0, area := 0 }).showYield)

/-- LOAD_RESET (R503). -/
def execLoadReset (slot : Fin 16) (value : BitVec 8) (s : State) : Out :=
  .next (s.request slot 0x6003 0 (leBytes 1 value.toNat) loadResetRule)

/-! Fields and the archive (R481-R485) -/

/-- A FieldRecord value keeps its layout (R482). -/
def fieldRecordOk (d : Bytes) : Bool :=
  let layers := fieldU d 1 1
  decide (fieldU d 0 1 ≤ 1) && fieldU d 18 2 == 0 && utf8Ok (field d 20 12) &&
  (fieldU d 0 1 == 0 || ((layers == 1 || layers == 2 || layers == 4) &&
    decide (50 ≤ fieldU d 2 2) && decide (fieldU d 2 2 ≤ 1000) && decide (1000 ≤ fieldU d 16 2) && decide (fieldU d 16 2 ≤ 20000) &&
    decide (absI (fieldI d 4 4) ≤ 900000000) && decide (-1800000000 ≤ fieldI d 8 4) && decide (fieldI d 8 4 < 1800000000) &&
    decide (-1000000 ≤ fieldI d 12 4) && decide (fieldI d 12 4 ≤ 10000000)))

/-- The rule of FieldRecord (R482). -/
def fieldRecordRule (f : Nat) : WriteRule :=
  settingRule (0x6100 + f) 0
    (fun s d => firstSome [need (s.openFieldNo != some f) .stateDenied, need (fieldRecordOk d) .valueInvalid])
    (fun s => s.setReg K.fieldsUsed (((List.range 256).filter s.fieldUsed).length : Nat))

/-- The closing field's marks and strips, the running one among them, go to the archive, and its tiles and mask leave DRAM (R483). -/
def State.closeField (s : State) : State :=
  match s.openFieldNo with
  | none => s.freeTiles.putMask none
  | some f =>
    let s := (s.archiveAll f).archiveYields f
    let s := match s.yield.cur with
      | some o => s.closeStrip o
      | none => s
    let open' := s.yield.strips.filter (fun k => !k.deposited)
    let s := open'.foldl (fun (s : State) g => if g.closed || g.width = 0 then s else s.closePool g) s
    let s := (s.yield.strips.filter (fun k => !k.deposited)).foldl State.depositStrip s
    let s := s.archiveYields f
    (s.setYield { s.yield with tiles := ⟨[]⟩, tilesFull := none }).freeTiles.putMask none

/-- The grid and origin of the new field's record come into force (R483). -/
def State.takeRecord (s : State) (f : Nat) : State :=
  let b := s.blob (K.fieldRecord f)
  let s := (s.setReg K.coveragePitch (fieldU b 2 2 : Nat)).setReg K.coverageLayers (fieldU b 1 1 : Nat)
  ((s.setReg K.originLatitude (fieldI b 4 4)).setReg K.originLongitude (fieldI b 8 4)).setReg K.originHeight (fieldI b 12 4)

/-- The sequence of an OpenField write ends (R483). -/
def State.openEnds (s : State) : State :=
  match s.archive.opening with
  | none => s
  | some (item, f, _) =>
    let s := { s with archive := { s.archive with opening := none } }
    let s : State := if f = 0xFFFF then s.setFlag K.coverageFlags 2 false else s.loadField f
    s.showYield.finish item .done

/-- The rule of OpenField (R483). -/
def openFieldRule : WriteRule where
  check := fun s _ d => firstSome [
    need ((List.range 4).all (fun i => s.reg (K.sectionMode i) == 0) && !(List.range 16).any (fun n => s.axisIs n 3)) .stateDenied,
    need (wval d == 0xFFFF || s.fieldUsed (wval d)) .dependency]
  effect := fun s _ seq d =>
    let f := wval d
    let s := (s.openEnds.startItem seq).closeField
    let s := s.putEntry 0x6010 1 d
    let s : State := if f = 0xFFFF then s else s.takeRecord f
    ({ s with archive := { s.archive with opening := some (seq, f, s.tick) } } : State).showYield

/-- OPEN_FIELD (R483). -/
def execOpenField (slot : Fin 16) (f : BitVec 16) (s : State) : Out :=
  .next (s.request slot 0x6010 1 (leBytes 2 f.toNat) openFieldRule)

/-- OPEN_FIELD_END (R483). -/
def execOpenFieldEnd (s : State) : Out := .next s.openEnds

/-- The rule of ArchiveErase (R485). -/
def archiveEraseRule : WriteRule where
  long := some 3
  check := fun s _ d => need (match s.openFieldNo with
    | some f => wval d != f && wval d != 0xFFFF
    | none => true) .stateDenied
  effect := fun s _ seq d =>
    ({ s with archive := { s.archive with erasing := some (seq, wval d, s.tick) } } : State).startItem seq

/-- ARCHIVE_ERASE (R485). -/
def execArchiveErase (slot : Fin 16) (f : BitVec 16) (s : State) : Out :=
  .next (s.request slot 0x6012 0 (leBytes 2 f.toNat) archiveEraseRule)

/-- ARCHIVE_ERASE_END (R485, R504). An erase that a reset has ended has no item. -/
def execArchiveEraseEnd (s : State) : Out :=
  match s.archive.erasing with
  | none => .next s
  | some (item, v, _) =>
    let s := { s with archive := { s.archive with erasing := none } }
    let s := ((List.range 256).filter (fun f => v == 0xFFFF || v == f)).foldl (fun (s : State) (f : Nat) => s.setFieldArc f FieldArc.init) s
    let s := s.setFlag K.archiveFlags 0 false
    .next (if item = 0 then s else s.finish item .done)

/-! Export (R493-R495) -/

/-- The rule of ExportBuild (R493). -/
def exportBuildRule : WriteRule where
  check := fun s _ d => firstSome [
    need (s.fieldUsed (wval d % 256)) .dependency,
    need s.archive.building.isNone .busy]
  effect := fun s _ seq d =>
    let f := wval d % 256
    let s : State := if s.openFieldNo = some f then (s.archiveAll f).archiveYields f else s
    let s := { s with archive := { s.archive with building := some (seq, f, wval d / 256), files := [] } }
    ((s.setReg K.exportFiles 0).setFlag K.archiveFlags 1 false).startItem seq

/-- ISO_TASKDATA (R493, R494): a write of ExportBuild with format 0. -/
def execIsoTaskdata (slot : Fin 16) (f : BitVec 8) (s : State) : Out :=
  .next (s.request slot 0x6021 0 (leBytes 2 f.toNat) exportBuildRule)

/-- YIELD_TILES (R493, R495): a write of ExportBuild with format 1. -/
def execYieldTiles (slot : Fin 16) (f : BitVec 8) (s : State) : Out :=
  .next (s.request slot 0x6021 0 (leBytes 2 (256 + f.toNat)) exportBuildRule)

/-- COVERAGE_TILES (R493, R495): a write of ExportBuild with format 2. -/
def execCoverageTiles (slot : Fin 16) (f : BitVec 8) (s : State) : Out :=
  .next (s.request slot 0x6021 0 (leBytes 2 (512 + f.toNat)) exportBuildRule)

/-- EXPORT_BUILD_END (R493, R504). -/
def execExportBuildEnd (ok : Bool) (s : State) : Out :=
  match s.archive.building with
  | none => .next s
  | some (item, f, format) =>
    let s := { s with archive := { s.archive with building := none } }
    if ok then
      let r := s.exportFiles f format
      let s := r.2
      let s := { s with archive := { s.archive with files := r.1 } }
      .next (((s.setReg K.exportFiles (r.1.length : Nat)).setFlag K.archiveFlags 1 true).finish item .done)
    else .next ((s.event .services 0 0x6021 0 Abort.hardwareFault.code).finish item .failed Abort.hardwareFault.code)

/-! The fleet service (R496-R500) -/

/-- An interface on FleetVlan: enabled, and enabled with an address (R444, R496). -/
def State.fleetIf (s : State) : Bool := (List.range 4).any (fun n => s.reg (K.ifEnable n) == 1 && s.reg (K.ifVlan n) == s.reg K.fleetVlan)
def State.fleetUp (s : State) : Bool := s.carries (s.regN K.fleetVlan)

/-- TIME_UNVERIFIED (R569): the fleet client waits for the first lock of module time. -/
def State.showUnverified (s : State) : State :=
  s.setFlag K.securityFlags 4 (s.reg K.fleetEnable == 1 && !s.clock.lockedSince)

/-- The connection ends: slot 6 closes (R499). -/
def State.fleetDown (s : State) : State :=
  let s := if (s.sess 6).isOpen then s.closeSession 6 else s
  { s with fleet := { s.fleet with subscribed := false, trying := false, connect := none, subscriptions := [] } }

/-- The client backs off (R496). -/
def State.fleetBackoff (s : State) : State :=
  let b := s.fleet.backoff
  let s := if s.reg K.fleetState = 3 then s else (s.setReg K.fleetState 3).eventKey .services 0 K.fleetState
  { s with fleet := { s.fleet with trying := false, retryAt := s.tick + ticksS b, backoff := min 60 (2 * b) } }

/-- The rule of FleetEnable (R503, R568). -/
def fleetEnableRule : WriteRule where
  check := fun s _ d => need (wval d == 0 || s.reg K.fleetEnable == 1 || (s.reg K.brokerAddress != 0 && s.fleetIf &&
    !(s.blob K.fleetCertificate).isEmpty && !(s.blob K.fleetTrustAnchor).isEmpty)) .dependency
  effect := fun s _ seq d =>
    let was := s.reg K.fleetEnable
    let s := s.putEntry 0x6200 1 d
    let s : State := if s.reg K.fleetEnable = was then s
      else if wval d = 0 then
        s.fleetDown.setReg K.fleetState 0
      else
        let s := { s with fleet := { s.fleet with trying := false, backoff := 1, retryAt := s.tick, lostAt := some s.tick } }
        s.setReg K.fleetState 1
    s.showUnverified.finish seq .done

/-- UTC in seconds since 1970, from module time (R450, R569). -/
def State.utcSeconds (s : State) : Int := ((s.now : Int) - s.reg K.utcOffset * 10 ^ 9) / 10 ^ 9

/-- The client accepts a broker's handshake (R496, R569): TLS 1.3 with a suite, group and signature it offers, a chain of depth 4 at
most to a root of FleetTrustAnchor, the name of the broker, and UTC within the certificate's validity. -/
def State.acceptsServer (s : State) (h : ServerHello) : Bool :=
  h.tls13 && h.suite != .other && h.group != .other && h.signature != .other && decide (h.depth ≤ 4) && h.trusted &&
  !(s.blob K.fleetTrustAnchor).isEmpty && h.names.contains (s.blob K.brokerName) && decide ((h.notBefore : Int) ≤ s.utcSeconds) &&
  decide (s.utcSeconds ≤ h.notAfter)

/-- BROKER_CONNECT (R496, R504, R569): an attempt, once it is due; `hello` is what the broker shows, none where it is not reached. -/
def execBrokerConnect (hello : Option ServerHello) (s : State) : Out :=
  let st := s.reg K.fleetState
  if s.reg K.fleetEnable ≠ 1 || st = 2 || s.fleet.trying || s.tick < s.fleet.retryAt || !s.clock.lockedSince then .next s
  else
    let s := s.bump K.reconnects
    if hello.any s.acceptsServer && s.fleetUp && !(s.blob K.fleetCertificate).isEmpty then
      let s := { s with fleet := { s.fleet with trying := true, will := s.statusPayload 0, connect := some s.connectPacket } }
      .next (s.setReg K.fleetState 1)
    else .next s.fleetBackoff

/-- CONNACK (R496, R499, R500): slot 6 opens, the module subscribes and sends what waited. -/
def execConnack (s : State) : Out :=
  if !s.fleet.trying then .next s
  else
    let s := { s with fleet := { s.fleet with
                 trying := false, subscribed := true, backoff := 1, lostAt := none,
                 subscriptions := [s.topicName "rdv/accept", s.topicName "dict/req"] } }
    .next ((s.setReg K.fleetState 2).openSession 6 0xFFFFFFF0).drainQueue

/-- The connection, or an attempt after its handshake, is lost (R499, R500). -/
def State.fleetLost (s : State) : State :=
  if s.reg K.fleetState = 2 then
    let s := { s.fleetDown with fleet := { s.fleetDown.fleet with backoff := 1, lostAt := some s.tick } }
    s.fleetBackoff
  else if s.fleet.trying then s.fleetBackoff
  else s

/-- BROKER_DISCONNECT (R499, R500). -/
def execBrokerDisconnect (s : State) : Out := .next s.fleetLost

/-- STATUS_PUBLISH (R497, R498): every StatusInterval, and when a field other than the times has changed. -/
def execStatusPublish (s : State) : Out :=
  let b := s.statusPayload 1
  if s.reg K.fleetEnable = 1 &&
      (s.fleet.lastStatus + ticksMs (s.regN K.statusInterval) ≤ s.tick || statusFields b ≠ s.fleet.statusSeen) then
    let s := { s with fleet := { s.fleet with lastStatus := s.tick, statusSeen := statusFields b } }
    .next (s.publish ⟨.status, b⟩)
  else .next s

/-- POS_PUBLISH (R497): every PositionInterval while a field is open. -/
def execPosPublish (s : State) : Out :=
  if s.reg K.fleetEnable = 1 && s.openFieldNo.isSome && s.fleet.lastPos + ticksMs (s.regN K.positionInterval) ≤ s.tick then
    let s := { s with fleet := { s.fleet with lastPos := s.tick } }
    .next (s.publish ⟨.pos, s.posPayload⟩)
  else .next s

/-- YIELD_PUBLISH (R497): every 10 s while LOGGING. -/
def execYieldPublish (s : State) : Out :=
  if s.reg K.fleetEnable = 1 && s.reg K.yieldState = 2 && s.fleet.lastYield + ticksS 10 ≤ s.tick then
    let s := { s with fleet := { s.fleet with lastYield := s.tick } }
    .next (s.publish ⟨.yield, s.yieldPayload⟩)
  else .next s

/-! The unload rendezvous (R501, R502) -/

/-- Wet mass and travel of the last 30 s of harvesting strips whose mass has arrived (R501). -/
def State.harvestRate (s : State) : Int × Int :=
  let done := s.yield.strips.filter (fun k => decide (0 < k.width) &&
    decide (k.start + ticksMs 100 + ticksMs (s.regN K.transportDelay) ≤ s.tick))
  let l := done.drop (done.length - 300)
  ((l.map Strip.wet).sum, (l.map Strip.travel).sum)

/-- The point, the distance and the time (R501). -/
def State.rdvCompute (s : State) : State :=
  let t := s.blob K.tankFill
  let valid := fieldU t 4 1 == 1 && !s.fuse.bodyFlags.testBit 1
  let fill := if valid then fieldI t 8 4 else s.rdv.fill
  let m := s.harvestRate
  let dist : Int := if m.1 ≤ 0 then 0xFFFFFFFF
    else sat32 ((2 ^ 24 - fill) * s.reg K.tankCapacity * massKg * m.2 / (2 ^ 24 * m.1 * fineMm))
  let v := s.machineSpeed
  let time : Int := if v ≤ 0 || dist = 0xFFFFFFFF then 0xFFFFFFFF else sat32 (dist * 10 ^ 6 * 65536 / v)
  let p := s.machinePose
  let ahead := max 0 (dist - s.reg K.rendezvousMargin)
  let q := p.point ahead 0
  let s := { s with rdv := { s.rdv with
               fill := fill, valid := valid, east := q.1, north := q.2, heading := p.h, timeToFull := time.toNat, lastEval := s.tick } }
  s.setReg K.distanceToFull dist

/-- The fill rules (R502). -/
def State.rdvFillRule (s : State) : State :=
  let r := s.rdv
  if !r.valid then s
  else match s.regN K.rendezvousState with
    | 0 => if s.reg K.rendezvousFill * 2 ^ 24 ≤ r.fill * 100 && r.holdUntil ≤ s.tick then s.rdvMove 1 else s
    | 2 =>
      let cart := fieldU (s.blob K.spoutAlignment) 5 1
      if cart = 1 && 5 * 2 ^ 24 ≤ (r.atAccept - r.fill) * 100 then s.rdvMove 3 else s
    | 3 => if r.fill * 100 ≤ s.reg K.unloadEndFill * 2 ^ 24 then s.rdvMove 0 else s
    | _ => s

/-- RENDEZVOUS_UPDATE (R497, R501, R502): every 1 s. -/
def execRendezvousUpdate (s : State) : Out :=
  if s.reg K.rendezvousEnable ≠ 1 || s.tick < s.rdv.lastEval + ticksS 1 then .next s
  else
    let s := s.rdvCompute
    let s := if s.heldFor s.fleet.lostAt (ticksS 60 + 1) then s.rdvMove 0 else s.rdvFillRule
    .next (if s.reg K.rendezvousState ≠ 0 && s.fleet.lastRdv + ticksS 5 ≤ s.tick then s.publishRdv else s)

/-- RDV_ACCEPT (R497, R502): a cart's message of 8 bytes. -/
def execRdvAccept (cart : Bytes) (s : State) : Out :=
  if !s.fleet.subscribed || cart.length ≠ 8 || !utf8Ok cart then .next s
  else if s.reg K.rendezvousState = 1 then
    let s := { s with rdv := { s.rdv with atAccept := s.rdv.fill } }
    .next ((s.setBlob K.cartId cart).rdvMove 2)
  else .next (if s.reg K.rendezvousState = 2 then s.bump K.acceptsIgnored else s)

/-- The rule of RendezvousCancel (R502). -/
def rendezvousCancelRule : WriteRule :=
  commandRule (fun _ _ => none)
    (fun s _ =>
      let s := { s with rdv := { s.rdv with holdUntil := s.tick + ticksS 30 } }
      s.rdvMove 0)

/-- RENDEZVOUS_CANCEL (R502). -/
def execRendezvousCancel (slot : Fin 16) (value : BitVec 8) (s : State) : Out :=
  .next (s.request slot 0x6212 0 (leBytes 1 value.toNat) rendezvousCancelRule)

/-- The rule of RendezvousEnable (R502, R503). -/
def rendezvousEnableRule : WriteRule :=
  settingRule 0x6210 1
    (fun s d => need (wval d == 0 || s.reg K.rendezvousEnable == 1 || (s.reg K.yieldEnable == 1 && s.reg K.fleetEnable == 1)) .dependency)
    (fun s => if s.reg K.rendezvousEnable = 0 then s.rdvMove 0 else s)

/-- MachineId holds only letters, digits and "-" (R503). -/
def machineIdOk (b : Bytes) : Bool :=
  b.all (fun c => let n := c.toNat
    (0x30 ≤ n && n ≤ 0x39) || (0x41 ≤ n && n ≤ 0x5A) || (0x61 ≤ n && n ≤ 0x7A) || n == 0x2D)

/-- The write rules of 0x6000-0x62FF (R503). -/
def rule17 (idx sub : Nat) : Option WriteRule :=
  if idx = 0x6000 then
    if sub = 1 then some yieldEnableRule else some (lockedRule idx sub (fun s => s.reg K.yieldEnable == 1))
  else if idx = 0x6002 then some yieldCalibrateRule
  else if idx = 0x6003 then some loadResetRule
  else if idx = 0x6008 then some (settingRule idx sub)
  else if idx = 0x6010 then some openFieldRule
  else if idx = 0x6012 then some archiveEraseRule
  else if idx = 0x6021 then some exportBuildRule
  else if 0x6100 ≤ idx && idx < 0x6200 then some (fieldRecordRule (idx - 0x6100))
  else if idx = 0x6200 then
    if sub = 1 then some fleetEnableRule
    else some (settingRule idx sub (fun s d => firstSome [
      need (s.reg K.fleetEnable == 0) .stateDenied, need (sub != 6 || machineIdOk d) .valueInvalid]))
  else if idx = 0x6210 then
    if sub = 1 then some rendezvousEnableRule
    else some (settingRule idx sub (fun s d => firstSome [
      need (s.reg K.rendezvousEnable == 0) .stateDenied,
      need (sub != 5 || decide ((wval d : Int) < s.reg K.rendezvousFill)) .dependency]))
  else if idx = 0x6212 then some rendezvousCancelRule
  else none

end Sys2Proof.Machine
end

