-- ==== Sys2Proof/Machine/Security.lean ====
section
/-!
DEFINITION. The commands of 21_security.md: key records, role authorisation, lockouts and the fleet identity.
-/
namespace Sys2Proof.Machine

/-! Roles by challenge and response (R565-R567) -/

/-- The highest role of a slot's transport (R566). -/
def State.roleCeiling (s : State) (slot : Nat) : Nat :=
  if slot < 6 then s.regN K.canRoleCeiling else if slot = 6 then s.regN K.fleetRoleCeiling else 4

/-- The rule of AuthChallengeRequest (R565, R566). -/
def challengeRule : WriteRule where
  check := fun s slot d => firstSome [
    need (!s.islandHeld) .hardwareFault,
    need (!s.lockedOut (s.sess slot).sourceId) .authLockout,
    need (decide (wval d ≤ s.roleCeiling slot)) .roleDenied,
    need ((roleKeys (wval d)).any s.keyInstalled) .dependency]
  effect := fun s slot seq d =>
    let r := s.drawBytes 32
    let s := r.2
    let c : Challenge := ⟨r.1, wval d, (s.sess slot).generation, s.tick + ticksS 30⟩
    ({ s with challenges := s.challenges.set none slot (some c) } : State).finish seq .done

/-- AUTH_CHALLENGE_REQUEST (R565). -/
def execAuthChallengeRequest (slot : Fin 16) (role : BitVec 8) (s : State) : Out :=
  .next (s.request slot 0x2110 0 (leBytes 1 role.toNat) challengeRule)

/-- The 60 bytes that an authorisation signature covers (R565). -/
def State.authMessage (s : State) (slot : Nat) (c : Challenge) (keyId : Nat) : Bytes :=
  utf8Bytes "ZFAUTH01" ++ c.value ++ padTo 12 (s.blob K.serialNumber) ++ leBytes 4 (s.sess slot).sourceId ++
  leBytes 2 (s.sessionId slot) ++ leBytes 1 c.role ++ leBytes 1 keyId

/-- The rule of AuthResponse (R565-R567). The challenge serves one response, whatever the result. -/
def authResponseRule : WriteRule where
  check := fun s slot d =>
    let k := fieldU d 0 1
    firstSome [
      need (!s.islandHeld) .hardwareFault,
      need (!s.lockedOut (s.sess slot).sourceId) .authLockout,
      match s.validChallenge slot with
        | none => some .stateDenied
        | some c => need ((roleKeys c.role).contains k && s.verify k (s.authMessage slot c k) (d.drop 4)) .authFailed]
  effect := fun s slot seq d =>
    let role := match s.validChallenge slot with
      | some c => c.role
      | none => 0
    let s := (s.dropChallenge slot).authSuccess (s.sess slot).sourceId
    (s.setSess slot { s.sess slot with role := role, raisedKey := fieldU d 0 1 }).finish seq .done
  refused := fun s slot a =>
    let s := s.dropChallenge slot
    if a = .authFailed then s.authFailure (s.sess slot).sourceId else s

/-- AUTH_RESPONSE (R566). -/
def execAuthResponse (slot : Fin 16) (value : Bytes) (s : State) : Out := .next (s.request slot 0x2112 0 value authResponseRule)

/-- The rule of AuthDrop (R566). -/
def authDropRule : WriteRule where
  effect := fun s slot seq _ => (s.setSess slot { s.sess slot with role := 0, raisedKey := 0 }).finish seq .done

/-- AUTH_DROP (R566). -/
def execAuthDrop (slot : Fin 16) (value : BitVec 8) (s : State) : Out :=
  .next (s.request slot 0x2113 0 (leBytes 1 value.toNat) authDropRule)

/-- CHALLENGE_EXPIRY (R565): 30 s after the challenge was drawn. -/
def execChallengeExpiry (slot : Fin 16) (s : State) : Out :=
  match s.challenge slot with
  | some c => .next (if c.expires ≤ s.tick then s.dropChallenge slot else s)
  | none => .next s

/-- LOCKOUT_EXPIRY (R567, R572): lockouts whose time has run out. -/
def execLockoutExpiry (s : State) : Out :=
  let l := s.island.sources.map (fun x => if x.until_ ≤ s.tick then { x with until_ := 0 } else x)
  let s := { s with island := { s.island with sources := l } }
  .next (if s.island.lockedUntil ≤ s.tick then
      ({ s with island := { s.island with lockedUntil := 0 } } : State).setFlag K.securityFlags 3 false
    else s)

/-- LOCKOUT_TIME_SAVE (R567): every 1 s the island saves what remains of each lockout. -/
def execLockoutTimeSave (s : State) : Out :=
  let l := s.island.sources.map (fun x => { x with until_ := x.until_ - s.tick })
  .next { s with island := { s.island with saved := l, savedModule := s.island.lockedUntil - s.tick } }

/-! Key records (R557-R560) -/

/-- Slots that a key record can name (R558). -/
def keyTarget (k : Nat) : Bool := !(keyAuthority k).isEmpty

/-- A key record keeps its layout (R557, R558). -/
def keyRecordOk (d : Bytes) : Bool :=
  fieldU d 0 2 == 0x4B52 && fieldU d 2 1 == 1 && allZero (field d 5 3) && allZero (field d 121 3) && keyTarget (fieldU d 3 1) &&
  (allZero (field d 24 97) || fieldU d 24 1 == 4)

/-- A key is in use: a session has raised its role with it, or a pricking runs under it (R559). -/
def State.keyInUse (s : State) (k : Nat) : Bool :=
  (List.range 16).any (fun n => (s.sess n).isOpen && (s.sess n).raisedKey == k) ||
  s.activeRegions.any (fun r => (pHeader (s.runningOf r)).keyId == k)

/-- What a revocation brings (R559, R573): sessions raised with the key fall back, and a key in use leaves a record. `was` is the
state before it. -/
def State.revoked (s was : State) (k : Nat) : State :=
  let s := s.dropRaised k
  if was.keyInUse k then s.event .security 0 (0x2180 + k) 0 else s

/-- The rule of KeyInstall (R557-R559). -/
def keyInstallRule : WriteRule where
  check := fun s _ d =>
    let t := fieldU d 3 1
    let a := fieldU d 4 1
    firstSome [
      need (!s.islandHeld) .hardwareFault,
      need (keyRecordOk d) .valueInvalid,
      need (allZero (field d 8 12) || field d 8 12 == padTo 12 (s.blob K.serialNumber)) .dependency,
      need ((keyAuthority t).contains a && s.keyInstalled a) .dependency,
      need (s.verify a (d.take 124) (d.drop 124)) .signatureInvalid,
      need (decide ((s.keySlot t).counter < fieldU d 20 4)) .stateDenied]
  effect := fun s _ seq d =>
    let t := fieldU d 3 1
    let revoke := allZero (field d 24 97)
    let x := s.setKeySlot t {
      state := if revoke then 2 else 1, counter := fieldU d 20 4, installed := s.now, pub := if revoke then [] else field d 24 97 }
    (if revoke then x.revoked s t else x).finish seq .done

/-- KEY_INSTALL (R558): a key record with a public key. -/
def execKeyInstall (slot : Fin 16) (value : Bytes) (s : State) : Out := .next (s.request slot 0x2120 0 value keyInstallRule)

/-- KEY_REVOKE (R559): a key record whose public key is zero. -/
def execKeyRevoke (slot : Fin 16) (head sig : Bytes) (s : State) : Out :=
  .next (s.request slot 0x2120 0 (padTo 24 head ++ zeros 100 ++ sig) keyInstallRule)

/-- Slots that KeyStoreClear empties (R560). -/
def clearedKeys : List Nat := (List.range 0x60).filter keyTarget

/-- The rule of KeyStoreClear (R560). -/
def keyStoreClearRule : WriteRule where
  check := fun s _ _ => firstSome [need (!s.islandHeld) .hardwareFault, need (s.reg K.fleetEnable == 0) .stateDenied]
  effect := fun s _ seq _ =>
    let s := clearedKeys.foldl (fun (s : State) k => (s.setKeySlot k KeySlot.init).revoked s k) s
    let s := { s with island := { s.island with fleetKey := false } }
    let s := ((s.setBlob K.fleetPublicKey (blobDefault K.fleetPublicKey)).setBlob K.fleetCertificate []).setBlob K.fleetTrustAnchor []
    let s := [K.canRoleCeiling, K.fleetRoleCeiling, K.lockoutThreshold, K.lockoutTime].foldl
      (fun (s : State) k => s.setReg k (regDefault k)) s
    s.finish seq .done

/-- KEY_STORE_CLEAR (R560). -/
def execKeyStoreClear (slot : Fin 16) (value : BitVec 8) (s : State) : Out :=
  .next (s.request slot 0x2121 0 (leBytes 1 value.toNat) keyStoreClearRule)

/-! The fleet identity (R568) -/

/-- The rule of FleetKeyGenerate: the new key pair's public point is open. -/
def fleetKeyRule : WriteRule where
  check := fun s _ _ => need (!s.islandHeld) .hardwareFault
  effect := fun s _ seq _ =>
    let r := s.drawBytes 96
    let s := r.2
    let s := { s with island := { s.island with fleetKey := true } }
    ((s.setBlob K.fleetPublicKey (4 :: r.1)).setBlob K.fleetCertificate []).fleetLost.finish seq .done

/-- FLEET_KEY_GENERATE (R568). -/
def execFleetKeyGenerate (slot : Fin 16) (value : BitVec 8) (s : State) : Out :=
  .next (s.request slot 0x2150 1 (leBytes 1 value.toNat) fleetKeyRule)

/-- The rules of FleetCertificate and FleetTrustAnchor (R568); an empty value is their default. -/
def fleetCertRule : WriteRule :=
  settingRule 0x2151 0 (fun s d => firstSome [
    need (s.reg K.fleetEnable == 0) .stateDenied,
    need (d.isEmpty || (decide (1 ≤ Config.certificates d) && decide (Config.certificates d ≤ 4))) .valueInvalid,
    need (d.isEmpty || Config.leafKey d == s.blob K.fleetPublicKey) .dependency])

def fleetAnchorRule : WriteRule :=
  settingRule 0x2152 0 (fun s d => firstSome [
    need (s.reg K.fleetEnable == 0) .stateDenied,
    need (d.isEmpty || (decide (1 ≤ Config.certificates d) && decide (Config.certificates d ≤ 4))) .valueInvalid])

/-- GLITCH_DETECTED (R573): a supply or clock glitch at the island. -/
def execGlitchDetected (s : State) : Out :=
  let l := s.island.glitches.filter (fun t => decide (s.tick < t + ticksS 60)) ++ [s.tick]
  let s := { s with island := { s.island with heldUntil := s.tick + ticksMs 10, glitches := l } }
  let s := if 3 ≤ l.length then s.setReg K.securityState 2 else s
  .next ((s.setFlag K.securityFlags 2 true).eventKey .security 0 K.securityFlags)

/-- The write rules of 0x2100-0x21FF (R571). -/
def rule21 (idx sub : Nat) : Option WriteRule :=
  if idx = 0x2101 then some (settingRule idx sub)
  else if idx = 0x2110 then some challengeRule
  else if idx = 0x2112 then some authResponseRule
  else if idx = 0x2113 then some authDropRule
  else if idx = 0x2120 then some keyInstallRule
  else if idx = 0x2121 then some keyStoreClearRule
  else if idx = 0x2150 then some fleetKeyRule
  else if idx = 0x2151 then some fleetCertRule
  else if idx = 0x2152 then some fleetAnchorRule
  else none

end Sys2Proof.Machine
end

