-- ==== Sys2Proof/Machine/Thermal.lean ====
section
/-!
DEFINITION. Temperature zones, fans and the thermal shutdown output (19_thermal_and_fans.md). Temperatures of the module's own
sensors are operands.
-/
namespace Sys2Proof.Machine

def State.zone (s : State) (n : Nat) : Zone := s.zones.get Zone.init n
def State.setZone (s : State) (n : Nat) (x : Zone) : State := { s with zones := s.zones.set Zone.init n x }
def State.fan (s : State) (f : Nat) : Fan := s.fans.get Fan.init f
def State.setFan (s : State) (f : Nat) (x : Fan) : State := { s with fans := s.fans.set Fan.init f x }

/-- FanState codes (R533). -/
abbrev fanDisabled : Int := 0
abbrev fanIdle : Int := 1
abbrev fanStarting : Int := 2
abbrev fanRunning : Int := 3
abbrev fanOpenLoop : Int := 4
abbrev fanRetryWait : Int := 5
abbrev fanStalled : Int := 6
abbrev fanHeld : Int := 7

/-- The fan has a tach (R529). -/
def State.hasTach (s : State) (f : Nat) : Bool := s.reg (K.fanTachInput f) != 0xFF

/-- The channel permits a switch-on (R531). -/
def State.fanPermitted (s : State) (f : Nat) : Bool :=
  let n := s.regN (K.fanChannel f)
  let st := s.reg (K.lsState n)
  st != lsDisabled && st != lsTripped && st != lsLatched && st != lsFault && !s.flag (K.lsFlags n) lfThermal

/-- The Dc of a fan outside stretch windows (R527). -/
def State.fanDc (s : State) (f : Nat) (v : Int) : State :=
  let s := s.setReg (K.fanDuty f) v
  if v ≠ 0 && (s.fan f).window.isSome then s else s.lsSetDuty (s.regN (K.fanChannel f)) v

/-- The open-loop duty at a demand (R529). -/
def State.openDuty (s : State) (f : Nat) : Int :=
  let m := s.reg (K.fanDutyMin f)
  m + (s.reg (K.fanDemand f) * (1000 - m)).tdiv 1000

/-- The highest demand among the fan's enabled zones, never less than FanMinDemand (R525). -/
def State.demandOf (s : State) (f : Nat) : Int :=
  ((List.range 8).filter (fun z => s.flag (K.fanZones f) z && s.reg (K.zoneEnable z) == 1)).foldl
    (fun m z => max m (s.reg (K.zoneDemand z))) (s.reg (K.fanMinDemand f))

/-- A running window ends without a measurement. -/
def State.endWindow (s : State) (f : Nat) : State :=
  (s.setFan f { s.fan f with window := none }).setFlag (K.fanFlags f) 2 false

/-- A try begins: the fan switches on, or waits for its channel (R530, R531). -/
def State.fanTry (s : State) (f : Nat) : State :=
  let s := s.setFan f { s.fan f with spent := 0, missed := 0, slowFrom := none, lastWindow := s.tick }
  if !s.fanPermitted f then s.setReg (K.fanState f) fanHeld
  else
    let s := s.setReg (K.fanState f) (if s.hasTach f then fanStarting else fanOpenLoop)
    s.fanDc f (s.openDuty f)

/-- Dc goes to 0 in a state. -/
def State.fanStop (s : State) (f : Nat) (st : Int) : State :=
  let s := (s.endWindow f).setReg (K.fanState f) st
  (s.setFan f { s.fan f with spent := 0, missed := 0, slowFrom := none }).setFlag (K.fanFlags f) 3 false |>.fanDc f 0

/-- A try fails (R530): the next one comes after 10 s, none after the fifth. -/
def State.fanFails (s : State) (f : Nat) : State :=
  if 5 ≤ s.reg (K.fanTries f) then
    ((s.fanStop f fanStalled).setFlag (K.fanFlags f) 1 true).eventKey .thermal f (K.fanFlags f)
  else s.fanStop f fanRetryWait

/-- The demand of a fan (R525, R527, R529): a start from IDLE is try 1; without demand the fan is IDLE. -/
def State.fanDemandStep (s : State) (f : Nat) : State :=
  if s.reg (K.fanEnable f) ≠ 1 then s
  else
    let d := s.demandOf f
    let s := s.setReg (K.fanDemand f) d
    let st := s.reg (K.fanState f)
    if st = fanIdle then (if d = 0 then s else (s.setReg (K.fanTries f) 1).fanTry f)
    else if st = fanStalled || st = fanRetryWait then s
    else if d = 0 then s.fanStop f fanIdle
    else if st = fanOpenLoop || st = fanStarting then s.fanDc f (s.openDuty f)
    else s

/-- What each tick does to a fan (R530, R531): its timers run only while the channel permits a switch-on; a fan whose channel
does not is held, and starts its try again in the first tick in which it does. -/
def State.fanTick (s : State) (f : Nat) : State :=
  let st := s.reg (K.fanState f)
  if st = fanDisabled || st = fanIdle || st = fanStalled then s
  else if !s.fanPermitted f then
    (if st = fanStarting || st = fanRunning || st = fanOpenLoop then (s.endWindow f).setReg (K.fanState f) fanHeld else s)
  else if st = fanHeld then (if s.reg (K.fanDemand f) = 0 then s.fanStop f fanIdle else s.fanTry f)
  else if st = fanStarting || st = fanRetryWait then s.setFan f { s.fan f with spent := (s.fan f).spent + 1 }
  else s

def State.fansTick (s : State) : State := (List.range 8).foldl State.fanTick s

/-! Zones (R523-R525, R534) -/

/-- A zone's demand at a temperature (R524). -/
def State.demandAt (s : State) (z : Nat) (t : Int) : Int :=
  let low := s.reg (K.tempLow z)
  let high := s.reg (K.tempHigh z)
  clampI 0 1000 (if high = low then Config.openResult 524 [t, low] else ((t - low) * 1000).tdiv (high - low))

/-- ZONE_STEP (R523-R525): every 100 ms an enabled zone takes its reading: `temp` of an internal sensor, whose self-check may
have failed, or AinValue. -/
def execZoneStep (z : Fin 8) (temp : BitVec 16) (failed : Bool) (s : State) : Out :=
  if s.reg (K.zoneEnable z) ≠ 1 || s.tick < (s.zone z).lastStep + ticksMs 100 then .next s
  else
    let i := s.regN (K.zoneSelect z)
    let ain := s.reg (K.zoneSource z) == 6
    let bad := if ain then s.ainFault i else failed
    let t := if ain then s.reg (K.ainValue i) else temp.toInt
    let x := { s.zone z with lastStep := s.tick }
    let s : State := if bad then
        let s := (s.setZone z { x with atLimit := none, belowFrom := none }).setReg (K.zoneDemand z) (s.reg (K.failDemand z))
        if s.flag (K.zoneFlags z) 0 then s else (s.setFlag (K.zoneFlags z) 0 true).eventKey .thermal z (K.zoneFlags z)
      else
        let hyst := s.reg (K.zoneHysteresis z)
        let th := match x.th with
          | none => t
          | some h => if h < t then t else if t < h - hyst then t + hyst else h
        let lim := s.reg (K.shutdownLimit z)
        let used := lim != 32767
        let s := s.setZone z { x with
          th := some th, atLimit := since x.atLimit (used && decide (lim ≤ t)) s.tick,
          belowFrom := since x.belowFrom (used && decide (t < lim - hyst)) s.tick }
        let s := (s.setReg (K.zoneTemperature z) t).setFlag (K.zoneFlags z) 0 false
        let s := if s.reg (K.zoneSource z) = 1 then s.setReg K.boardTemperature t else s
        s.setReg (K.zoneDemand z) (s.demandAt z th)
    .next (((List.range 8).filter (fun f => s.flag (K.fanZones f) z)).foldl State.fanDemandStep s)

/-- A cause of THERM_SHDN_N begins or ends (R534, R535): bit 0 COMPARATOR, bit 1 ZONE. -/
def State.shdnCause (s : State) (bit : Nat) (on : Bool) : State :=
  let was := s.reg K.shdnCause != 0
  let s := s.setFlag K.shdnCause bit on
  let now := s.reg K.shdnCause != 0
  let s := s.setReg K.shdnState (b2i now)
  if now && !was then (s.bump K.shdnEvents).eventKey .thermal 0 K.shdnCause else s

/-- The comparator is supplied (R535): the logic runs, or a reset passes that no loss of the supply or standby has brought. -/
def State.comparatorOn (s : State) : Bool :=
  s.power.phase == .up || (s.power.phase == .off && s.power.start.any (fun x => x.kind == .commanded || x.kind == .watchdog))

/-- COMPARATOR (R534, R535): what the comparator's own sensor reads, in 0.1 degree. It runs while the logic is supplied, also through a
reset. -/
def execComparator (temp : BitVec 16) (s : State) : Out :=
  let t := temp.toInt
  let lim := 10 * s.reg K.strapThreshold
  if !s.comparatorOn then .next s
  else if lim ≤ t then .next (s.shdnCause 0 true)
  else if t ≤ lim - 100 then .next (s.shdnCause 0 false)
  else .next s

/-- Zones that can request a shutdown: a limit, and no sensor fault (R534). -/
def State.shdnZones (s : State) : List Nat :=
  (List.range 8).filter (fun z => s.reg (K.zoneEnable z) == 1 && s.reg (K.shutdownLimit z) != 32767 && !s.flag (K.zoneFlags z) 0)

/-- ZONE_SHUTDOWN (R534). -/
def execZoneShutdown (s : State) : Out :=
  let l := s.shdnZones
  let hot := l.filter (fun z => s.heldFor (s.zone z).atLimit (ticksS 1))
  let s := hot.foldl (fun (s : State) z => s.setFlag (K.zoneFlags z) 1 true) s
  if !hot.isEmpty then .next (s.shdnCause 1 true)
  else if s.flag K.shdnCause 1 && l.all (fun z => s.heldFor (s.zone z).belowFrom (ticksS 10)) then
    .next (((List.range 8).foldl (fun (s : State) z => s.setFlag (K.zoneFlags z) 1 false) s).shdnCause 1 false)
  else .next s

/-! Fans (R526-R533) -/

/-- A fan that turns. -/
def State.fanTurns (s : State) (f : Nat) : Bool :=
  let st := s.reg (K.fanState f)
  st == fanStarting || st == fanRunning || st == fanOpenLoop

/-- FAN_STRETCH_START (R528). -/
def execFanStretchStart (f : Fin 8) (s : State) : Out :=
  let x := s.fan f
  if !s.hasTach f || !s.fanTurns f || x.window.isSome || s.tick < x.lastWindow + ticksMs (s.regN (K.fanStretchInterval f)) then .next s
  else
    let s := s.setFan f { x with window := some s.tick, lastWindow := s.tick }
    if s.reg (K.fanDuty f) = 1000 then .next s
    else .next ((s.setFlag (K.fanFlags f) 2 true).lsSetDuty (s.regN (K.fanChannel f)) 1000)

/-- SPEED_LIMITED (R529). -/
def State.speedLimit (s : State) (f : Nat) (speed target : Int) : State :=
  let low := s.reg (K.fanDuty f) == 1000 && decide (10 * speed < 8 * target)
  let from' := since (s.fan f).slowFrom low s.tick
  let s := s.setFan f { s.fan f with slowFrom := from' }
  s.setFlag (K.fanFlags f) 3 (s.heldFor from' (ticksS 10))

/-- The loop after a measurement (R529). -/
def State.fanLoop (s : State) (f : Nat) (speed : Int) : State :=
  let max' := s.reg (K.fanMaxSpeed f)
  let target := (s.reg (K.fanDemand f) * max').tdiv 1000
  let e := ((target - speed) * 1000).tdiv max'
  let duty := clampI (s.reg (K.fanDutyMin f)) 1000 (s.reg (K.fanDuty f) + s.reg (K.fanLoopGain f) * e / 65536)
  (s.fanDc f duty).speedLimit f speed target

/-- FAN_MEASUREMENT (R528, R529, R532): a window ends with `edges` tach edges in its second half, the last interval between two
of them in ns. -/
def execFanMeasurement (f : Fin 8) (edges : Nat) (interval : BitVec 32) (s : State) : Out :=
  match (s.fan f).window with
  | none => .next s
  | some t =>
    if s.tick < t + ticksMs (s.regN (K.fanStretchLength f)) then .next s
    else
      let s := (s.endWindow f).fanDc f (s.reg (K.fanDuty f))
      if edges < 2 || interval = 0 then
        .next (s.setFan f { s.fan f with missed := (s.fan f).missed + 1 })
      else
        let speed : Int := min 65535 (60 * 10 ^ 9 / (interval.toNat * s.regN (K.fanPulsesPerTurn f)) : Nat)
        let s := (s.setReg (K.fanSpeed f) speed).setFlag (K.fanFlags f) 0 false
        let s := s.setFan f { s.fan f with missed := 0 }
        .next ((s.setReg (K.fanState f) fanRunning).fanLoop f speed)

/-- FAN_START_TIMEOUT (R530, R531). -/
def execFanStartTimeout (f : Fin 8) (s : State) : Out :=
  .next (if s.reg (K.fanState f) = fanStarting && ticksMs (s.regN (K.fanStartTime f)) ≤ (s.fan f).spent then s.fanFails f else s)

/-- FAN_RETRY_WAIT_END (R530, R531). -/
def execFanRetryWaitEnd (f : Fin 8) (s : State) : Out :=
  if s.reg (K.fanState f) = fanRetryWait && ticksS 10 ≤ (s.fan f).spent then
    if s.reg (K.fanDemand f) = 0 then .next (s.fanStop f fanIdle)
    else .next ((s.setReg (K.fanTries f) (s.reg (K.fanTries f) + 1)).fanTry f)
  else .next s

/-- TACH_LOST (R532): two windows without a measurement; the ripple of the channel current at 20-2,000 Hz in mA. -/
def execTachLost (f : Fin 8) (ripple : BitVec 16) (s : State) : Out :=
  if s.reg (K.fanState f) ≠ fanRunning || (s.fan f).missed < 2 then .next s
  else if s.regN (K.fanRippleMin f) ≤ ripple.toNat then
    let s := (s.setFlag (K.fanFlags f) 0 true).setReg (K.fanState f) fanOpenLoop
    .next ((s.fanDc f (s.openDuty f)).eventKey .thermal f (K.fanFlags f))
  else .next ((s.eventKey .thermal f (K.fanTries f)).fanFails f)

/-- The rule of FanRestart (R530): a STALLED fan starts again. -/
def fanRestartRule (f : Nat) : WriteRule where
  effect := fun s _ seq _ =>
    let s := s.setReg (K.fanTries f) 0
    let s := if s.reg (K.fanState f) = fanStalled then
        ((s.setFlag (K.fanFlags f) 1 false).setReg (K.fanState f) fanIdle).fanDemandStep f
      else s
    s.finish seq .done

/-- FAN_RESTART (R530). -/
def execFanRestart (slot : Fin 16) (f : Fin 8) (value : BitVec 8) (s : State) : Out :=
  .next (s.request slot (0x4C20 + f) 0x0F (leBytes 1 value.toNat) (fanRestartRule f))

/-- The dependencies of a fan (R525, R526). -/
def State.fanDepends (s : State) (f : Nat) : Bool :=
  let n := s.regN (K.fanChannel f)
  let t := s.regN (K.fanTachInput f)
  (List.range 8).any (fun z => s.flag (K.fanZones f) z && s.reg (K.zoneEnable z) == 1) &&
  s.reg (K.lsEnable n) == 1 && s.reg (K.lsOwner n) == 4 && s.reg (K.loadKind n) != 2 &&
  !(List.range 8).any (fun g => g != f && s.reg (K.fanEnable g) == 1 && s.regN (K.fanChannel g) == n) &&
  (t == 0xFF || (s.reg (K.finEnable t) == 1 && s.reg (K.finMode t) == 0 && s.reg (K.finRole t) == 0))

/-- A fan starts IDLE and takes its demand. -/
def State.fanStart (s : State) (f : Nat) : State :=
  let s := (s.setFan f Fan.init).setReg (K.fanState f) fanIdle
  ((s.setReg (K.fanTries f) 0).setReg (K.fanFlags f) 0).fanDemandStep f

/-- The rule of FanEnable (R526, R533). -/
def fanEnableRule (f : Nat) : WriteRule where
  check := fun s _ d => need (wval d == 0 || s.reg (K.fanEnable f) == 1 || s.fanDepends f) .dependency
  effect := fun s _ seq d =>
    let was := s.reg (K.fanEnable f)
    let s := s.putEntry (0x4C20 + f) 1 d
    let s := if s.reg (K.fanEnable f) = was then s
      else if wval d = 1 then s.fanStart f
      else ((s.fanStop f fanDisabled).setReg (K.fanDemand f) 0).setReg (K.fanFlags f) 0
    s.finish seq .done

/-- FAN_ENABLE (R526). -/
def execFanEnable (slot : Fin 16) (f : Fin 8) (value : BitVec 8) (s : State) : Out :=
  .next (s.request slot (0x4C20 + f) 1 (leBytes 1 value.toNat) (fanEnableRule f))

/-- The rule of ZoneEnable (R523-R525): a zone that is disabled takes no part in the demand of its fans any more. -/
def zoneEnableRule (z : Nat) : WriteRule where
  check := fun s _ d => need (wval d == 0 || s.reg (K.zoneEnable z) == 1 || s.reg (K.zoneSource z) != 0) .dependency
  effect := fun s _ seq d =>
    let was := s.reg (K.zoneEnable z)
    let s := s.putEntry (0x4C00 + z) 1 d
    let s := if s.reg (K.zoneEnable z) = was then s
      else
        let s := ((s.setZone z Zone.init).setReg (K.zoneFlags z) 0).setReg (K.zoneDemand z) 0
        ((List.range 8).filter (fun f => s.flag (K.fanZones f) z)).foldl State.fanDemandStep s
    s.finish seq .done

/-- The write rules of 0x4C00-0x4FFF (R536). -/
def rule19 (idx sub : Nat) : Option WriteRule :=
  if 0x4C00 ≤ idx && idx < 0x4C08 then
    let z := idx - 0x4C00
    if sub = 1 then some (zoneEnableRule z)
    else some (settingRule idx sub (fun s d => firstSome [
      need (s.reg (K.zoneEnable z) != 1) .stateDenied,
      need (sub != 5 || decide (s.reg (K.tempLow z) < leInt d)) .dependency]))
  else if 0x4C20 ≤ idx && idx < 0x4C28 then
    let f := idx - 0x4C20
    if sub = 1 then some (fanEnableRule f)
    else if sub = 0x0F then some (fanRestartRule f)
    else some (lockedRule idx sub (fun s => s.reg (K.fanEnable f) == 1))
  else none

end Sys2Proof.Machine
end

