-- ==== Sys2Proof/Machine/PowerOps.lean ====
section
/-!
DEFINITION. Safe off and the ends of a run as shared operations: the flush of R90, standby entry (R88, R544), and the
commanded reset (R550, R552).
-/
namespace Sys2Proof.Machine

/-- Safe off of every power stage and of the panel (R541). -/
def State.allSafeOff (s : State) : State := ((s.banksSafeOff.loadsSafeOff).panelDown false).setFlag K.powerFlags 5 true

/-- The checkpoints of beat 3 of R90: the axis snapshots (R104), the fuse models (R313) and module time (R459). -/
def State.checkpoints (s : State) : State :=
  { s with jr := { s.jr with
      axisSnaps := (List.range 16).foldl (fun (t : Tab AxisSnap) (n : Nat) =>
        if s.reg (K.axisEnable n) = 1 then t.set AxisSnap.init n (s.axisSnapshot n) else t) ⟨[]⟩
      fuseSaved := (List.range 48).foldl (fun (t : Tab Int) (n : Nat) => t.set 0 n (s.lsCh n).dT) s.jr.fuseSaved
      savedTime := s.now } }

/-- The TAG_CONTENT and SHUTDOWN records of a shutdown (R468, R478, R518): the content goes to the tag controller while its
reservoir is READY, and SHUTDOWN is the last record admitted. -/
def State.shutdownRecords (s : State) (cause items : Nat) : State :=
  let s := s.admitOffers
  let p := s.tagPayloadNow cause
  let seq := s.regN K.nextRecordSeq
  let s := (s.offer .display 9 0 p).admitOffers
  let s := if s.reg K.tagReservoir = 1 then s.tagContent seq p else s
  let s := (s.offer .stageManager 2 0 (leBytes 1 cause ++ leBytes 1 (min 255 items))).admitOffers
  { s with book := { s.book with closed := true } }

/-- The SHUTDOWN record of the journal (R82). -/
def State.shutdownMark (s : State) (kind : Nat) : State :=
  s.jwrite ⟨0x53, 0, 0xFF, 0, 0, 0, s.now, 0, 0, 0, 0, 0, padTo 24 (leBytes 4 (s.regN K.epoch) ++ leBytes 1 kind)⟩

/-- The code of a reset kind (R86). -/
def ResetKind.code : ResetKind → Nat
  | .supplyLoss => 1 | .standbyWake => 2 | .commanded => 3 | .watchdog => 4

/-- THERM_SHDN_N while the logic stands still (R535): the comparator holds it through a reset that keeps its supply; otherwise the
output is released. -/
def State.shdnHeld (s : State) : State :=
  let c : Nat := if s.comparatorOn then s.regN K.shdnCause % 2 else 0
  (s.setReg K.shdnCause (c : Nat)).setReg K.shdnState (c : Nat)

/-- The logic stops; the next start is due or not. -/
def State.logicOff (s : State) (phase : PowerPhase) (next : Option Start) : State :=
  ({ s with power := { s.power with phase := phase, start := next, entry := none } } : State).shdnHeld

/-- Safe off at the end of a run (R90, R541): the outputs stop, and no item is decided by it; replay decides every one that is still
in flight (R87). -/
def State.resetSafeOff (s : State) : State := { s.allSafeOff with jr := s.jr }

/-- Beats 1-5 of R90: acceptance stops, checkpoints, the completion records that R76 allows, the SHUTDOWN records, safe
off. -/
def State.flush (s : State) (cause : Nat) (kind : ResetKind) : State :=
  let s := { s with jr := { s.jr with accepting := false } }
  let s := (s.setReg K.powerState 3).checkpoints.completeAllowed
  ((s.shutdownRecords cause s.jr.items.length).shutdownMark kind.code).resetSafeOff

/-- A commanded reset (R409, R550, R552): the flush, then the start (notes/assumptions/61.md). -/
def State.commandedReset (s : State) (cause : Nat) : State :=
  (s.flush cause .commanded).logicOff .off (some ⟨.commanded, 0, 0xFF⟩)

/-- The kinds of standby (R434, R544): listening where it is enabled and an enabled port wakes. -/
def State.standbyPhase (s : State) : PowerPhase :=
  if s.reg K.listeningEnable = 1 && (List.range 6).any (fun p => s.reg (K.canPortEnable p) == 1 && s.reg (K.wakeMode p) != 0)
  then .listening else .sealedStandby

/-- The wait of a standby entry ends (R88, R544): cues end CANCELLED, other unfinished items INTERRUPTED, every completion
record is written; the panel and the power stages go down, the shutdown is recorded and the logic leaves. Steps 2-4 of
R544 end in this tick, so that no wake arrives between them (R545, notes/assumptions/61.md). -/
def State.enterStandby (s : State) : State :=
  let open' := (s.jr.items.filter (fun i => i.state != .finished)).length
  let s := s.endCues (s.activeSlots.filter (fun k => (s.cue k).jseq != 0)) .cancelled
  let s := s.finishAll ((s.jr.items.filter (fun i => i.state != .finished)).map Item.seq) .interrupted
  let s := s.completeAllowed.allSafeOff
  let s := (s.shutdownRecords 0 open').shutdownMark 2
  (s.setReg K.powerState 0).logicOff s.standbyPhase none

end Sys2Proof.Machine
end

