-- ==== Sys2Proof/Machine/Power.lean ====
section
/-!
DEFINITION. The commands of 20_power_and_startup.md other than START_UP. Supply voltages are operands in mV; `held` is for how
many ticks, up to this one, the condition has held without a break.
-/
namespace Sys2Proof.Machine

/-- The logic runs. -/
def State.isUp (s : State) : Bool := s.power.phase == .up

/-- The supply as it is read (R553). -/
def State.supplyRead (s : State) (mV : Nat) : State :=
  let v := min 65535 mV
  (s.setReg K.logicSupply (v : Nat)).setReg K.supplyMin (min (s.reg K.supplyMin) (v : Nat))

/-- LOGIC_SUPPLY_LOW (R555): below 9.0 V the flag is set, from 9.5 V it is clear. -/
def execLogicSupplyLow (mV : Nat) (s : State) : Out :=
  if !s.isUp then .next s
  else
    let s := s.supplyRead mV
    .next (if mV < 9000 then s.setFlag K.powerFlags 0 true else if 9500 ≤ mV then s.setFlag K.powerFlags 0 false else s)

/-- HOLDUP_ACTIVE (R538): below 6.0 V the logic runs from the hold-up store. -/
def execHoldupActive (mV : Nat) (s : State) : Out :=
  if !s.isUp || 6000 ≤ mV then .next s
  else
    let s := (s.supplyRead mV).setFlag K.powerFlags 0 true
    let s := { s with power := { s.power with holdFrom := some (s.power.holdFrom.getD s.tick) } }
    .next (s.setFlag K.powerFlags 1 true)

/-- Brownout is detected (R539): 10 ms below 6.0 V, or the store at its reserve; a weak store is judged by its reserve alone. -/
def State.brownoutNow (s : State) (reserve : Bool) : Bool :=
  s.flag K.powerFlags 1 && (reserve || (!s.flag K.powerFlags 3 && s.heldFor s.power.holdFrom (ticksMs 10)))

/-- HOLDUP_END (R538): the supply is back above 6.0 V before brownout is detected. -/
def execHoldupEnd (mV : Nat) (s : State) : Out :=
  if !s.isUp || mV < 6000 || !s.flag K.powerFlags 1 || s.brownoutNow false then .next s
  else
    let s := s.supplyRead mV
    let s := { s with power := { s.power with holdFrom := none } }
    .next (s.setFlag K.powerFlags 1 false)

/-- BROWNOUT (R90, R539, R550): the flush, then a SUPPLY_LOSS reset once the supply rises. Before dictionary-ready nothing is
flushed, and the next start has reset kind SUPPLY_LOSS (R548). `level` is the store's charge in %. -/
def execBrownout (reserve : Bool) (level : Fin 101) (s : State) : Out :=
  let next : Start := ⟨.supplyLoss, 4, 0xFF⟩
  if !s.isUp then .next (if reserve then s.logicOff .off (some next) else s)
  else
    let s := s.setReg K.holdupLevel (level : Nat)
    if !s.brownoutNow reserve then .next s
    else
      let s := s.bump K.brownouts
      let s := if s.reg K.powerState = 0 then s.resetSafeOff else s.flush 1 .supplyLoss
      .next (s.logicOff .off (some next))

/-- OVERVOLTAGE (R542): above 38 V for 100 us. -/
def execOvervoltage (mV held : Nat) (s : State) : Out :=
  if !s.isUp || mV ≤ 38000 || held < ticksUs 100 || s.flag K.powerFlags 2 then .next s
  else
    let s := ((s.supplyRead mV).setFlag K.powerFlags 2 true).setFlag K.powerFlags 5 true
    let s := (s.banksSafeOff.loadsSafeOff).bump K.overvoltageEvents
    .next (s.eventKey .power 0 K.powerFlags)

/-- OVERVOLTAGE_CLEAR (R542): below 36 V for 100 ms. The loads that kept a Dc switch on again; the fans follow their demand. -/
def execOvervoltageClear (mV held : Nat) (s : State) : Out :=
  if !s.isUp || 36000 ≤ mV || held < ticksMs 100 || !s.flag K.powerFlags 2 then .next s
  else
    let s := ((s.supplyRead mV).setFlag K.powerFlags 2 false).setFlag K.powerFlags 5 false
    .next (s.setReg K.engineState 0).loadsReturn

/-- WAKE_PIN (R543-R546): a level held 10 ms is read. An active level abandons a standby entry in its wait and wakes the
module from standby. -/
def execWakePin (active : Bool) (held : Nat) (s : State) : Out :=
  if held < ticksMs 10 then .next s
  else if s.power.phase = .sealedStandby || s.power.phase = .listening then
    .next (if active && s.power.start.isNone then
        { s with power := { s.power with start := some ⟨.standbyWake, 1, 0xFF⟩ } } else s)
  else if !s.isUp then .next s
  else if active then
    let s := { s with power := { s.power with inactiveFrom := none, entry := none } }
    let s := if s.reg K.powerState = 2 then s.setReg K.powerState 1 else s
    .next (s.setFlag K.powerFlags 4 true)
  else
    let s := { s with power := { s.power with inactiveFrom := some (s.power.inactiveFrom.getD s.tick) } }
    .next (s.setFlag K.powerFlags 4 false)

/-- WAKE_OFF_DELAY (R544): WAKE inactive for WakeOffDelay begins the entry into standby. -/
def execWakeOffDelay (s : State) : Out :=
  if s.isUp && s.reg K.powerState = 1 && s.heldFor s.power.inactiveFrom (ticksMs (s.regN K.wakeOffDelay)) then
    .next (({ s with power := { s.power with entry := some s.tick } } : State).setReg K.powerState 2)
  else .next s

/-- STANDBY_ENTRY_WAIT_END (R88, R544): no item is in flight, or 5 s have passed. -/
def execStandbyEntryWaitEnd (s : State) : Out :=
  if s.isUp && s.power.entry.isSome && (s.jr.items.isEmpty || s.heldFor s.power.entry (ticksS 5)) then .next s.enterStandby
  else .next s

/-- A wake-up frame (R434). -/
def State.wakeFrame (s : State) (p : Nat) (id : Nat) (data : Bytes) : Bool :=
  s.wakeRate p && idMatches id (s.regN (K.wakeId p)) (s.regN (K.wakeIdMask p)) && s.regN (K.wakeDlc p) == data.length &&
  (List.range data.length).any (fun k =>
    Nat.land (fieldU data k 1) (fieldU (s.blob (K.wakeDataMask p)) k 1) != 0)

/-- A port wakes the module, with its WakeSource (R546, R553). -/
def State.wakeBy (s : State) (p src : Nat) : State := { s with power := { s.power with start := some ⟨.standbyWake, src, p⟩ } }

/-- CAN_WAKE (R434, R546): a wake-up pattern (`frame` none) or a Classical frame, as identifier and data. -/
def execCanWake (p : Fin 6) (frame : Option (BitVec 32 × Bytes)) (s : State) : Out :=
  if s.power.phase ≠ .listening || s.power.start.isSome || s.reg (K.canPortEnable p) ≠ 1 then .next s
  else
    match frame with
    | none => .next (if s.reg (K.wakeMode p) = 1 then s.wakeBy p 2 else s)
    | some (id, data) => .next (if s.reg (K.wakeMode p) = 2 && s.wakeFrame p id.toNat data then s.wakeBy p 3 else s)

/-- A WATCHDOG reset (R541, R550): safe off by hardware, no flush. -/
def State.watchdogReset (s : State) : State :=
  (s.resetSafeOff.setReg K.powerState 0).logicOff .off (some ⟨.watchdog, 0, 0xFF⟩)

/-- WATCHDOG (R550): the stage manager has not served its watchdog for 50 ms. -/
def execWatchdog (s : State) : Out := .next (if s.isUp then s.watchdogReset else s)

/-- Every implement has SectionMode OFF. -/
def State.sectionsOff (s : State) : Bool := (List.range 4).all (fun i => s.reg (K.sectionMode i) == 0)

/-- The rule of ModuleReset (R552). -/
def moduleResetRule : WriteRule where
  check := fun s _ _ => need s.sectionsOff .stateDenied
  effect := fun s _ seq _ => (s.finish seq .done).commandedReset 2

/-- MODULE_RESET (R552). -/
def execModuleReset (slot : Fin 16) (value : BitVec 8) (s : State) : Out :=
  .next (s.request slot 0x2011 0 (leBytes 1 value.toNat) moduleResetRule)

/-- The write rules of 0x2000-0x20FF (R553). -/
def rule20 (idx sub : Nat) : Option WriteRule :=
  if idx = 0x2010 then some (settingRule idx sub)
  else if idx = 0x2011 then some moduleResetRule
  else none

end Sys2Proof.Machine
end

