-- ==== Sys2Proof/Machine/Firmware.lean ====
section
/-!
DEFINITION. The firmware commands of 13_understudies_and_maintenance.md (R408-R410, R562): activation and confirmation.
-/
namespace Sys2Proof.Machine

/-- FirmwareActivate CANCEL removes a pending activation (R409). -/
def State.activationCancel (s : State) : State := if s.reg K.stagedState = 2 && s.reg K.trialState ≠ 1 then s.setReg K.stagedState 1 else s

/-- IMMEDIATE is safe now (R409): every SectionMode OFF and the implement-0 axis, where there is one, at a standstill. The
recovery loader runs no axis. -/
def State.atRest (s : State) : Bool :=
  s.sectionsOff && (match s.impl0Axis with
    | some n => s.inRecovery || s.flag (K.axisFlags n) 0
    | none => true)

/-- Activities that refuse IMMEDIATE (R403): an MRAM rebuild, a commanded activity, a repair. -/
def State.resetConflict (s : State) : Bool := s.maint.acts.any (fun a => a.code == actMramRebuild || a.kind != .scheduled)

/-- The rule of FirmwareActivate (R409). -/
def firmwareActivateRule : WriteRule where
  check := fun s _ d =>
    if wval d = 0 then none
    else firstSome [need (s.reg K.stagedState == 1) .stateDenied, need (wval d == 1 || s.atRest) .stateDenied,
      need (wval d == 1 || !s.resetConflict) .busyConflict]
  effect := fun s _ seq d =>
    if wval d = 0 then s.activationCancel.finish seq .done
    else
      let s := (s.setReg K.stagedState 2).finish seq .done
      if wval d = 2 then (s.yieldAll s.maint.acts).commandedReset 3 else s

/-- CANCEL (R409). -/
def execCancel (slot : Fin 16) (s : State) : Out := .next (s.request slot 0x5481 0 [0] firmwareActivateRule)

/-- NEXT_START (R409). -/
def execNextStart (slot : Fin 16) (s : State) : Out := .next (s.request slot 0x5481 0 [1] firmwareActivateRule)

/-- IMMEDIATE (R409). -/
def execImmediate (slot : Fin 16) (s : State) : Out := .next (s.request slot 0x5481 0 [2] firmwareActivateRule)

/-- The rule of FirmwareConfirm (R410, R562): the trial image is active, the floor rises to its SecurityVersion. -/
def firmwareConfirmRule : WriteRule where
  check := fun s _ _ => firstSome [need (s.reg K.trialState == 1) .stateDenied, need (!s.islandHeld) .hardwareFault]
  effect := fun s _ seq _ =>
    let n := s.regN K.activeImage
    let s := (s.setReg K.trialState 2).setReg K.stagedState 3
    let s := { s with maint := { s.maint with confirmed := n } }
    (s.setReg K.versionFloor (max (s.regN K.versionFloor) (s.image n).security : Nat)).finish seq .done

/-- FIRMWARE_CONFIRM (R410). -/
def execFirmwareConfirm (slot : Fin 16) (value : BitVec 8) (s : State) : Out :=
  .next (s.request slot 0x5482 0 (leBytes 1 value.toNat) firmwareConfirmRule)

/-- The write rules of 0x5481 and 0x5482. -/
def ruleFirmware (idx : Nat) : Option WriteRule :=
  if idx = 0x5481 then some firmwareActivateRule
  else if idx = 0x5482 then some firmwareConfirmRule
  else none

end Sys2Proof.Machine
end

