-- ==== Sys2Proof/Machine/Entries.lean ====
section
/-!
DEFINITION. Reading the dictionary (R37, R41, R62): the value that every entry shows, also where it is derived from other
state; reads with complete access; descriptions.
-/
namespace Sys2Proof.Machine

/-- An entry of a session slot (R65): of 0x1020 + slot, and of ThisSession. -/
def State.sessionEntry (s : State) (slot sub : Nat) : Bytes :=
  let x := s.sess slot
  let v (n k : Nat) : Bytes := leBytes n (if x.isOpen then k else 0)
  match sub with
  | 1 => v 4 x.sourceId
  | 2 => v 1 (slotTransport slot)
  | 3 => v 1 x.role
  | 4 => v 2 (s.sessionId slot)
  | 5 => v 1 (s.itemsOf x.sourceId)
  | 6 => v 8 x.lastAccepted
  | _ => v 4 (min (2 ^ 32 - 1) (s.idleFrom x.lastReq / 100000))

/-- A completion slot (R85). -/
def Completion.bytes (c : Completion) : Bytes :=
  leBytes 8 c.seq ++ leBytes 4 c.srcSeq ++ leBytes 1 c.outcome ++ leBytes 1 c.resets ++ leBytes 2 c.idx ++ leBytes 1 c.sub ++
  zeros 3 ++ leBytes 4 c.detail ++ leBytes 8 c.time

/-- A cue slot (R112, R119): bytes 0-39 as written, the rest as the slot stands. -/
def Cue.bytes (c : Cue) : Bytes :=
  leBytes 2 c.slotBytes ++ leBytes 1 c.axis ++ leBytes 1 c.dir ++ leBytes 1 c.kind ++ leBytes 1 c.flags ++
  leBytes 2 c.target ++ leBytes 2 c.action ++ leBytes 2 c.repeats ++ leBytes 4 c.lead ++ encInt 8 c.armedPos ++
  encInt 8 c.interval ++ leBytes 4 c.param ++ leBytes 4 c.tag ++
  leBytes 1 (match c.state with
    | .free => 0
    | .armed => 1
    | .held => 2) ++
  leBytes 1 c.origin ++ leBytes 2 (min 65535 c.fires) ++ leBytes 4 c.effLead ++ leBytes 8 c.jseq ++ leBytes 8 c.lastFire

/-- The sections' states (R158). -/
def State.sectionStatusBytes (s : State) (n : Nat) : Bytes :=
  let x := s.section n
  let used := s.usedSections.contains n
  let state := if !used then 0 else if x.on then 2 else 1
  let pos : Int := if (s.armedChange n).isSome then x.cuePos else 0
  leBytes 1 state ++ leBytes 1 x.reason ++ leBytes 1 (b2n (x.applyingAt s.tick)) ++ [0] ++ leBytes 1 x.c ++ leBytes 1 x.o ++ zeros 2 ++
  encInt 8 pos

/-- SlotInfo (R389). -/
def State.slotInfoBytes (s : State) (n : Nat) : Bytes :=
  let x := s.pslot n
  if x.content.isEmpty then zeros 64
  else
    let h := pHeader x.content
    leBytes 1 1 ++ [0] ++ leBytes 2 h.revision ++ leBytes 4 h.id ++ leBytes 4 h.panels ++ leBytes 4 h.repeatLength ++
    leBytes 4 h.total ++ leBytes 1 h.keyId ++ zeros 3 ++ leBytes 8 x.loadTime ++ padTo 32 h.name

/-- EvaluatedConfiguration (R570); DebugPort always reads LOCKED. -/
def State.evaluated (s : State) : Bool :=
  s.reg K.securityState == 0 && s.reg K.trialState != 1 &&
  (s.image (s.regN K.activeImage)).security == s.regN K.versionFloor &&
  decide (s.reg K.canRoleCeiling ≤ 1) && decide (s.reg K.fleetRoleCeiling ≤ 1) && decide (s.reg K.lockoutThreshold ≤ 5)

/-- The highest subindex in use (R27), also of an OEM object. -/
def State.topSub (s : State) (idx : Nat) : Nat :=
  if 0x7000 ≤ idx && idx < 0x8000 then
    (s.activeRegions.flatMap (fun r => pObjects (s.runningOf r))).foldl (fun m o => if o.idx = idx then max m o.sub else m) 0
  else highestSub idx

/-- Quantities that the PHY or an operation tells and no rule fixes: an open value of the reading instant
(notes/assumptions/119.md). -/
def State.openReading (s : State) (place unit bound : Nat) : Nat :=
  (Config.openResult place [(unit : Int), (s.tick : Int)]).toNat % bound

/-- The value of an entry that is derived from other state than its own register, as session slot `slot` reads it. -/
def State.derivedEntry (s : State) (slot idx sub : Nat) : Option Bytes :=
  let src := s.source (s.sess slot).sourceId
  if idx = 0x1000 && sub = 7 then some (leBytes 8 s.isobusNameOf)
  else if 0x1020 ≤ idx && idx < 0x1030 then some (s.sessionEntry (idx - 0x1020) sub)
  else if idx = 0x1030 then some (s.sessionEntry slot sub)
  else if idx = 0x1100 && sub = 3 then some (leBytes 1 s.jr.items.length)
  else if idx = 0x1101 then
    some (leBytes 4 (match src with
      | some x => if sub = 1 then x.accepted else x.completed
      | none => 0))
  else if idx = 0x1110 then
    some (match src with
      | some x => (x.slots.get Completion.init (sub - 1)).bytes
      | none => zeros 32)
  else if idx = 0x1F00 && sub = 3 then
    some (leBytes 1 (match s.jr.busySince with
      | some t => if s.reg K.busyState = 1 && t < s.tick then s.openReading 1 (s.regN K.busyOperation) 101 else 0
      | none => 0))
  else if idx = 0x2100 && sub = 2 then some (leBytes 1 (b2n s.evaluated))
  else if idx = 0x2111 then
    some (match s.validChallenge slot with
      | some c => padTo 32 c.value
      | none => zeros 32)
  else if 0x2180 ≤ idx && idx ≤ 0x21E0 then some (s.keyInfoBytes (idx - 0x2180))
  else if idx = 0x2200 && sub = 3 then some (leBytes 2 s.book.staged.length)
  else if idx = 0x2200 && sub = 4 then some (leBytes 8 s.book.oldest)
  else if idx = 0x2200 && sub = 5 then some (leBytes 4 s.book.firstNight.length)
  else if idx = 0x2200 && sub = 6 then some (leBytes 2 s.book.clearingLog.length)
  else if idx = 0x2210 then
    let w := s.windows.get Window.init slot
    some (if sub = 1 then leBytes 8 w.start else if sub = 2 then leBytes 2 w.count else leBytes 1 w.area)
  else if idx = 0x2211 then some (s.recordData slot)
  else if idx = 0x2221 then some (leBytes 4 ((s.validNonce slot).getD 0))
  else if 0x2410 ≤ idx && idx < 0x2420 && (sub = 1 || sub = 2) then
    let n := idx - 0x2410
    some (encInt 8 (if s.axisState n = axDisabled || s.axisAngular n != (sub == 2) then 0 else s.axisValue n))
  else if 0x2600 ≤ idx && idx < 0x2800 then some (s.cue (8 * (idx - 0x2600) + (sub - 1))).bytes
  else if idx = 0x2811 && 4 ≤ sub && sub ≤ 7 then some (leBytes 4 (min (2 ^ 32 - 1) (s.coveredArea (sub - 4))))
  else if 0x2E00 ≤ idx && idx < 0x2E80 then some (s.sectionStatusBytes (8 * (idx - 0x2E00) + (sub - 1)))
  else if 0x3800 ≤ idx && idx < 0x3880 && sub = 0x53 then some (s.captureBytes (idx - 0x3800))
  else if 0x3800 ≤ idx && idx < 0x3880 && 0xF0 ≤ sub then some (s.rawEntry 0x3800 sub)
  else if 0x4040 ≤ idx && idx < 0x4060 && sub = 7 then
    some (leBytes 4 (match (s.svCh (idx - 0x4040)).runningSince with
      | some t => min (2 ^ 32 - 1) ((s.tick - t) / 100000)
      | none => 0))
  else if 0x4850 ≤ idx && idx < 0x4860 && sub = 1 then some (encInt 4 (s.finFreq (idx - 0x4850)))
  else if 0x5140 ≤ idx && idx < 0x5160 then some (s.slotInfoBytes (idx - 0x5140))
  else if 0x5830 ≤ idx && idx < 0x5836 then
    let p := idx - 0x5830
    some (padTo (txLength (s.txConfig p (sub - 1))) (s.txBuf p (sub - 1)).shadow)
  else if 0x5C08 ≤ idx && idx < 0x5C0E && sub = 2 then
    some (leBytes 1 (if s.linkUp (idx - 0x5C08) then s.openReading 3 (idx - 0x5C08) 101 else 0))
  else if idx = 0x5C58 && sub = 8 then some (leBytes 8 s.now)
  else if idx = 0x6023 then some (s.archive.files.getD (sub - 1) [])
  else none

/-- The value of an entry, as session slot `slot` reads it (R27, R30, R37). -/
def State.readEntry (s : State) (slot idx sub : Nat) : Bytes :=
  if s.isSubZero idx sub then leBytes 1 (s.topSub idx)
  else match s.derivedEntry slot idx sub with
    | some b => b
    | none => match s.entryDesc idx sub with
      | some d => if d.ty.isBytes then s.blob (key idx sub) else d.ty.encode (s.reg (key idx sub))
      | none => []

/-! ### Complete access (R36, R37) -/

/-- The entries of an object at subindex 1 and above, with their descriptions, in subindex order. -/
def State.entriesOf (s : State) (idx : Nat) : List (Nat × Desc) :=
  (List.range 256).filterMap (fun sub => if sub = 0 then none else (s.entryDesc idx sub).map (fun d => (sub, d)))

/-- The kind of an object (R26); OEM objects are judged by the entries that their prickings declare (notes/assumptions/160.md). -/
def State.kindOf (s : State) (idx : Nat) : ObjKind :=
  if 0x7000 ≤ idx && idx < 0x8000 then
    if (s.oemDesc idx 0).isSome then .var
    else match s.entriesOf idx with
      | [] => .record
      | p :: t => if t.all (fun q => q.2.ty == p.2.ty) then .array else .record
  else objKind idx

def Access.isSetting (a : Access) : Bool := a == .rw || a == .rwv

/-- The entries that a complete read returns: all but the CMD entries (R37). -/
def State.completeRead (s : State) (idx : Nat) : List (Nat × Desc) := (s.entriesOf idx).filter (fun p => p.2.acc != .cmd)

/-- The entries that a complete write carries: RW and RWV (R36). -/
def State.completeWrite (s : State) (idx : Nat) : List (Nat × Desc) := (s.entriesOf idx).filter (fun p => p.2.acc.isSetting)

/-- The access is complete access to an ARRAY or RECORD; on a VAR it is a single-entry access (R36). -/
def State.isComplete (s : State) (idx : Nat) (complete : Bool) : Bool := complete && s.kindOf idx != .var

/-- A read's checks (R41) and its value (R37). -/
def State.readValue (s : State) (slot idx sub : Nat) (complete : Bool) (typeCode : Nat) : Option Abort × Bytes :=
  let no (a : Abort) : Option Abort × Bytes := (some a, [])
  if !s.indexPresent idx then no .noObject
  else if s.isComplete idx complete then
    let l := s.completeRead idx
    if sub != 0 && (s.entryDesc idx sub).isNone then no .noSubindex
    else if l.isEmpty then no .writeOnly
    else if l.any (fun p => Nat.land (s.roles slot) p.2.rd == 0) then no .roleDenied
    else if l.any (fun p => !p.2.fixedSize || (typeCode != 0 && typeCode != p.2.ty.code)) then no .typeLength
    else (none, l.flatMap (fun p => s.readEntry slot idx p.1))
  else if complete && sub != 0 then no .noSubindex
  else
    if s.isSubZero idx sub then
      if typeCode ≠ 0 && typeCode ≠ Ty.u8.code then no .typeLength else (none, s.readEntry slot idx sub)
    else match s.entryDesc idx sub with
      | none => no .noSubindex
      | some d =>
        if d.acc = .cmd then no .writeOnly
        else if Nat.land (s.roles slot) d.rd = 0 then no .roleDenied
        else if typeCode ≠ 0 && typeCode ≠ d.ty.code then no .typeLength
        else (none, s.readEntry slot idx sub)

/-- The type code that a response shows (R56); 0 for complete access to an ARRAY or RECORD, which has no one type
(notes/assumptions/161.md). -/
def State.typeOf (s : State) (idx sub : Nat) (complete : Bool) : Nat :=
  if s.isComplete idx complete then 0 else s.entryType idx sub

/-! ### Descriptions (R62) -/

def ObjKind.code : ObjKind → Nat
  | .var => 0 | .array => 1 | .record => 2

/-- The bytes of a description. -/
def describeBytes (kind ty acc rd wr high : Nat) (dflt lo hi : Int) (unit name : Bytes) : Bytes :=
  [kind, ty, acc, rd, wr, high, 0, 0].map (BitVec.ofNat 8) ++ encInt 8 dflt ++ encInt 8 lo ++ encInt 8 hi ++
  leBytes 1 unit.length ++ leBytes 1 name.length ++ unit ++ name

/-- The name of an entry; an OEM entry carries its own. -/
def State.nameOf (s : State) (idx sub : Nat) (d : Desc) : Bytes :=
  match s.oemEntry idx sub with
  | some (_, o) => if 0x7000 ≤ idx && idx < 0x8000 then o.name else utf8Bytes d.name
  | none => utf8Bytes d.name

/-- The Default that a description shows; 0 where the table gives none, as for 0x1000.05 and .06. PowerFlags shows its Default, which
differs from the Reset of its SAFE_OFF bit (R553, R554). -/
def defaultOf (idx sub : Nat) (d : Desc) : Int :=
  if d.ty.isBytes || d.acc == .cmd || (idx == 0x1000 && (sub == 5 || sub == 6)) || (idx == 0x2000 && sub == 4) then 0
  else match specialDefault idx sub with
    | some v => v
    | none => d.dflt

/-- The description of an entry or object (R62); none where there is no such entry. -/
def State.describe (s : State) (idx sub : Nat) : Option Bytes :=
  let kind := s.kindOf idx
  let high := if kind = .var then 0 else s.topSub idx
  if s.isSubZero idx sub then
    let name : Bytes := if kind = .array then (match s.entriesOf idx with
      | p :: _ => s.nameOf idx p.1 p.2
      | [] => []) else []
    some (describeBytes kind.code Ty.u8.code 0 0x1F 0 high high high high [] name)
  else match s.entryDesc idx sub with
    | none => none
    | some d =>
      let rs := if idx = 0x1040 then [(0, 0x6400)] else s.rangesOf d idx sub
      some (describeBytes kind.code d.ty.code d.acc.code d.rd d.wr high (defaultOf idx sub d) (rangeMin rs) (rangeMax rs)
        (utf8Bytes d.unit) (s.nameOf idx sub d))

end Sys2Proof.Machine
end

