-- ==== Sys2Proof/Machine/Loads.lean ====
section
/-!
DEFINITION. The commands of 10_load_channels.md. Measured quantities are operands; `held` is for how many ticks, up to this
one, the measured condition has held without a break.
-/
namespace Sys2Proof.Machine

/-- The rule of LsDuty (R301, R325). -/
def lsDutyRule (n : Nat) : WriteRule where
  owner := fun s _ => s.reg (K.lsOwner n) != 3
  check := fun s _ _ => firstSome [need (s.reg (K.lsEnable n) == 1) .functionDisabled,
    need (s.reg (K.lsState n) != lsFault) .hardwareFault]
  aim := fun _ _ => aimLs n
  effect := fun s _ seq d => ((s.putEntry (0x4400 + n) 0x15 d).lsSetDuty n (wval d : Nat)).finish seq .done

/-- Enabled FAN_SERVICE channels (R300). -/
def State.fanChannels (s : State) : Nat :=
  ((List.range 48).filter (fun n => s.reg (K.lsEnable n) == 1 && s.reg (K.lsOwner n) == 4)).length

/-- The rule of LsEnable (R300, R323). -/
def lsEnableRule (n : Nat) : WriteRule where
  check := fun s _ d =>
    if wval d = 0 || s.reg (K.lsEnable n) = 1 then none
    else
      let o := s.reg (K.lsOwner n)
      firstSome [need (o != 0) .dependency, need (!(o == 4 || o == 5) || decide (24 ≤ n)) .dependency,
        need (o != 4 || decide (s.fanChannels < 8)) .resourceExhausted,
        need (!(s.lsCh n).stuck && s.reg (K.segmentsHealthy n) != 0) .hardwareFault]
  effect := fun s _ seq d =>
    let was := s.reg (K.lsEnable n)
    let s := s.settle (0x4400 + n) 0x01 seq d
    if wval d = 0 then (if was = 1 then s.lsDisable n else s) else if was = 1 then s else s.lsEnableNow n

/-- The rule of LsFaultClear (R312, R317, R403). -/
def lsFaultClearRule (n : Nat) : WriteRule where
  check := fun s _ _ => firstSome [need (s.reg (K.lsState n) != lsFault) .hardwareFault,
    need (!s.flag (K.lsFlags n) lfFuseTrip || decide (s.wireTemp n ≤ s.tclass n - 20 * 65536)) .stateDenied]
  aim := fun _ _ => aimLs n
  effect := fun s _ seq _ =>
    let s := match s.runningAct actSegmentTest n with
      | some a => s.yieldAct a
      | none => s
    let s := s.setReg (K.retriesUsed n) 0
    let s : State :=
      if s.reg (K.lsState n) = lsTripped then s
      else
        let s := (s.setFlag (K.lsFlags n) lfLockedOut false).setFlag (K.lsFlags n) lfFuseTrip false
        if s.reg (K.lsState n) = lsLatched then
          if s.reg (K.commandedDuty n) = (0 : Int) then s.setReg (K.lsState n) lsOff
          else if s.flag (K.lsFlags n) lfThermal then
            ((s.setLs n { s.lsCh n with seenOff := false }).setReg (K.tripCause n) (tcThermal : Nat)).setReg (K.lsState n) lsTripped
          else s.lsSwitchOn n
        else s
    s.finish seq .done

/-- The rule of GroupReconnect (R318, R325). -/
def groupReconnectRule (g : Nat) : WriteRule :=
  commandRule (fun s _ => need (!(groupChannels g).any (fun n => (s.lsCh n).stuck)) .hardwareFault)
    (fun s _ => if s.flag (K.groupFlags g) 1 then
        let s := s.setFlag (K.groupFlags g) 1 false
        if s.safeOff then s else s.setReg (K.groupState g) 0
      else s)

/-- The write rules of 0x4400-0x4490 (R325). -/
def rule10 (idx sub : Nat) : Option WriteRule :=
  if 0x4400 ≤ idx && idx < 0x4430 then
    let n := idx - 0x4400
    if sub = 1 then some (lsEnableRule n)
    else if 2 ≤ sub && sub ≤ 0x0C then some (lockedRule idx sub (fun s => s.reg (K.lsEnable n) == 1))
    else if 0x0D ≤ sub && sub ≤ 0x14 then
      some (settingRule idx sub (fun s _ => need (s.reg (K.lsState n) != lsFault || s.reg (K.segmentsHealthy n) != 0) .hardwareFault))
    else if sub = 0x15 then some (lsDutyRule n)
    else if sub = 0x16 then some (lsFaultClearRule n)
    else none
  else if 0x4480 ≤ idx && idx < 0x4484 && sub = 6 then some (groupReconnectRule (idx - 0x4480))
  else none

/-- LS_DUTY (R301). -/
def execLsDuty (slot : Fin 16) (ch : Fin 48) (duty : BitVec 16) (s : State) : Out :=
  .next (s.request slot (0x4400 + ch) 0x15 (leBytes 2 duty.toNat) (lsDutyRule ch))

/-- LS_ENABLE (R323). -/
def execLsEnable (slot : Fin 16) (ch : Fin 48) (value : BitVec 8) (s : State) : Out :=
  .next (s.request slot (0x4400 + ch) 0x01 (leBytes 1 value.toNat) (lsEnableRule ch))

/-- LS_FAULT_CLEAR (R317). -/
def execLsFaultClear (slot : Fin 16) (ch : Fin 48) (value : BitVec 8) (s : State) : Out :=
  .next (s.request slot (0x4400 + ch) 0x16 (leBytes 1 value.toNat) (lsFaultClearRule ch))

/-- GROUP_RECONNECT (R325). -/
def execGroupReconnect (slot : Fin 16) (g : Fin 4) (value : BitVec 8) (s : State) : Out :=
  .next (s.request slot (0x4480 + g) 0x06 (leBytes 1 value.toNat) (groupReconnectRule g))

/-- INRUSH_END (R303): the window ends at its own tick, outside slew. -/
def execInrushEnd (ch : Fin 48) (s : State) : Out :=
  .next (if s.reg (K.lsState ch) = lsInrush && (s.lsCh ch).slewFrom.isNone &&
      decide ((s.lsCh ch).onAt + ticksMs (s.regN (K.inrushTime ch)) ≤ s.tick) then
    (s.setLs ch { s.lsCh ch with onSince := some s.tick }).setReg (K.lsState ch) lsOn
  else s)

/-- SLEW_FALLBACK (R304): `temp` is the hottest junction in 0.1 degree. -/
def execSlewFallback (ch : Fin 48) (temp : Int) (s : State) : Out :=
  let s := s.setReg (K.junctionTemperature ch) (clampI (-32768) 32767 temp)
  .next (if s.reg (K.lsState ch) = lsInrush && (s.lsCh ch).slewFrom.isNone && decide (1400 ≤ temp) then
    ((s.setLs ch { s.lsCh ch with slewFrom := some s.tick }).setFlag (K.lsFlags ch) lfSlew true).bump (K.slewFallbacks ch)
  else s)

/-- SLEW_END (R304). -/
def execSlewEnd (ch : Fin 48) (s : State) : Out :=
  .next (if s.reg (K.lsState ch) = lsInrush && s.heldFor (s.lsCh ch).slewFrom (ticksMs (s.regN (K.slewTime ch))) then
    (s.setLs ch { s.lsCh ch with slewFrom := none, onSince := some s.tick }).setReg (K.lsState ch) lsOn
  else s)

/-- OVERLOAD (R305): above 1.5 times the effective rating for 1 ms, outside INRUSH and slew. -/
def execOverload (ch : Fin 48) (mA held : Nat) (s : State) : Out :=
  .next (if s.reg (K.lsState ch) = lsOn && decide (3 * s.reg (K.effectiveRating ch) < 2 * (mA : Int)) && decide (ticksMs 1 ≤ held)
  then s.lsTrip ch tcOverload else s)

/-- SHORT (R306): the current, for how long a segment has desaturated, and for how long the pin has been below 1.0 V. -/
def execShort (ch : Fin 48) (mA desat low : Nat) (s : State) : Out :=
  let regulating := s.reg (K.lsState ch) = lsInrush && (s.lsCh ch).slewFrom.isNone
  .next (if s.lsConducts ch &&
      (decide (lsShortThreshold ch < mA) || decide (ticksUs 1 ≤ desat) || (regulating && decide (ticksUs 5 ≤ low))) then
    (s.lsTrip ch tcShort).lsEvent ch
  else s)

/-- FUSE_STEP (R302, R311, R312): the step of one enabled channel with the mean, the mean square (mA^2) and the 100 ms
peak of its current samples. -/
def execFuseStep (ch : Fin 48) (mean meanSq peak : Nat) (s : State) : Out :=
  let s := (s.setReg (K.lsCurrent ch) (min mean 65535 : Nat)).setReg (K.currentPeak ch) (min peak 65535 : Nat)
  if s.reg (K.lsEnable ch) ≠ 1 then .next s
  else
    let x := s.lsCh ch
    let s := (s.setLs ch { x with dT := fuseRise (s.regN (K.wireSection ch)) (s.wireTemp ch) x.dT meanSq }).showWire ch
    let t := s.wireTemp ch
    let cl := s.tclass ch
    .next (if cl ≤ t then
        (if s.flag (K.lsFlags ch) lfFuseTrip || s.reg (K.lsState ch) = lsFault then s else (s.lsTrip ch tcFuse).lsEvent ch)
      else if cl - 10 * 65536 ≤ t then s.setFlag (K.lsFlags ch) lfFuseWarn true
      else if t < cl - 15 * 65536 then s.setFlag (K.lsFlags ch) lfFuseWarn false
      else s)

/-- LAMP_DUTY (R314): the 1 ms means of the pin voltage (mV) and the current (mA) of a LAMP channel. -/
def execLampDuty (ch : Fin 48) (vPin iMean : Nat) (s : State) : Out :=
  let dc := (s.lsCh ch).dc
  if s.reg (K.loadKind ch) ≠ 1 || !s.lsConducts ch then .next s
  else
    let vl := lampVolts (s.regN (K.wireSection ch)) (s.regN (K.wireLength ch)) (s.wireTemp ch) vPin iMean
    if dc = 0 || vl < 6000 * (10 ^ 13 * 65536) || s.flag (K.groupFlags (lsGroup ch)) 2 then .next (s.setReg (K.appliedDuty ch) dc)
    else
      let d := lampDuty dc (s.reg (K.lampNominal ch) * (10 ^ 13 * 65536)) vl (s.reg (K.lampExponent ch))
      .next (if 1000 < d then (s.setFlag (K.lsFlags ch) lfCompLimit true).setReg (K.appliedDuty ch) 1000
        else (s.setFlag (K.lsFlags ch) lfCompLimit false).setReg (K.appliedDuty ch) d)

/-- FUSE_SAVE (R313): dT of every channel goes to the journal header. -/
def execFuseSave (s : State) : Out :=
  .next { s with jr := { s.jr with
    fuseSaved := (List.range 48).foldl (fun t n => t.set 0 n (s.lsCh n).dT) s.jr.fuseSaved } }

/-- THERMAL_LATCH (R315): `temp` is the hottest segment in 0.1 degree. -/
def execThermalLatch (ch : Fin 48) (temp : Int) (s : State) : Out :=
  let s := s.setReg (K.junctionTemperature ch) (clampI (-32768) 32767 temp)
  if temp < 1500 then .next s
  else
    let latched := s.flag (K.lsFlags ch) lfThermal
    let s := s.setFlag (K.lsFlags ch) lfThermal true
    let st := s.reg (K.lsState ch)
    let s := if st = lsOff || st = lsInrush || st = lsOn then s.lsTrip ch tcThermal else s
    .next (if latched then s else s.lsEvent ch)

/-- THERMAL_LATCH_CLEAR (R315). -/
def execThermalLatchClear (ch : Fin 48) (temp : Int) (s : State) : Out :=
  let s := s.setReg (K.junctionTemperature ch) (clampI (-32768) 32767 temp)
  .next (if temp < 1300 then s.setFlag (K.lsFlags ch) lfThermal false else s)

/-- RESTART_CHECK (R316). -/
def execRestartCheck (ch : Fin 48) (s : State) : Out :=
  let x := s.lsCh ch
  if s.reg (K.lsState ch) ≠ lsTripped then .next s
  else if s.reg (K.commandedDuty ch) = 0 then .next (s.setLs ch { x with seenOff := true })
  else if s.reg (K.tripCause ch) = (tcShed : Nat) then
    .next (if x.seenOff && decide (s.groupMean ch < 36000) then s.lsSwitchOn ch else s)
  else if s.flag (K.lsFlags ch) lfThermal then .next s
  else if s.tick < x.tripTick + ticksMs (s.regN (K.retryDelay ch)) then .next s
  else if s.reg (K.retryCount ch) ≤ s.reg (K.retriesUsed ch) then
    .next (((s.setReg (K.lsState ch) lsLatched).setFlag (K.lsFlags ch) lfLockedOut true).lsEvent ch)
  else .next ((s.setReg (K.retriesUsed ch) (s.reg (K.retriesUsed ch) + 1)).lsSwitchOn ch)

/-- RETRY_WINDOW (R317). -/
def execRetryWindow (ch : Fin 48) (s : State) : Out :=
  .next (if s.reg (K.lsState ch) = lsOn && s.heldFor (s.lsCh ch).onSince (ticksS (s.regN (K.retryWindow ch))) then
    s.setReg (K.retriesUsed ch) 0 else s)

/-- GROUP_SHED (R318): `mean` is the group's 100 ms mean in mA. -/
def execGroupShed (g : Fin 4) (mean held : Nat) (s : State) : Out :=
  let s := s.setReg (K.groupCurrent g) (min mean 65535 : Nat)
  if mean ≤ 40000 then .next ((s.setFeed g FeedGroup.init).setFlag (K.groupFlags g) 0 false)
  else if held < ticksS 2 || (match (s.feed g).lastShed with
      | some t => decide (s.tick < t + ticksMs 100)
      | none => false) then .next s
  else
    let s := (s.setFeed g ⟨some s.tick⟩).setFlag (K.groupFlags g) 0 true
    .next (match s.shedPick g with
      | some n => (s.lsTrip n tcShed).bump (K.groupSheds g)
      | none => s)

/-- GROUP_TRIP (R318): above 250 A for 50 us. -/
def execGroupTrip (g : Fin 4) (mA held : Nat) (s : State) : Out :=
  .next (if 250000 < mA && ticksUs 50 ≤ held then (s.groupTrip g).eventKey .loads g (K.groupFlags g) else s)

/-- SEGMENT_RETIRE (R319): the on-resistance in per mille of its factory value, the segment's current in mA, for how long,
and a gate fault. -/
def execSegmentRetire (ch : Fin 48) (ratio mA held : Nat) (gateFault : Bool) (s : State) : Out :=
  .next (if gateFault || (decide (1500 < ratio) && decide (1000 ≤ mA) && decide (ticksS 10 ≤ held)) then s.lsRetire ch else s)

/-- SEGMENT_TEST (R320, R399-R401): a due test is granted, and a running one ends 2 ms per segment later; `failed` says
whether a segment fails it. -/
def execSegmentTest (ch : Fin 48) (failed : Bool) (s : State) : Out :=
  match s.runningAct actSegmentTest ch with
  | some a =>
    if s.tick < a.start + ticksMs (2 * lsActiveSegments ch) then .next s
    else
      let s := { s with maint := { s.maint with segTested := s.maint.segTested.set 0 ch s.tick } }
      let s := s.finishAct a
      .next (if failed then s.lsRetire ch else s)
  | none =>
    if s.reg K.segmentTestInterval ≠ 0 &&
        decide (s.maint.segTested.get 0 ch + ticksS (s.regN K.segmentTestInterval) ≤ s.tick) &&
        s.schedulable (domFeed (lsGroup ch)) &&
        (s.reg (K.understudyInService ch) == 0 || s.reg (K.lsState ch) == lsOff) then
      .next (s.grantAct ⟨actSegmentTest, domFeed (lsGroup ch), ch, .scheduled, 0, s.tick, 0, 0⟩)
    else .next s

/-- OPEN_LOAD_ON (R327): the current in mA and for how long it has been below OpenLoadThreshold. -/
def execOpenLoadOn (ch : Fin 48) (mA held : Nat) (s : State) : Out :=
  let th := s.reg (K.openLoadThreshold ch)
  .next (if th ≤ (mA : Int) || !s.lsConducts ch || s.reg (K.appliedDuty ch) < 100 then s.setFlag (K.lsFlags ch) lfOpenOn false
    else if ticksMs 100 ≤ held then s.setFlag (K.lsFlags ch) lfOpenOn true
    else s)

/-- OPEN_LOAD_OFF (R327): the pin in mV and for how long it has stood at 3.0-5.5 V in OFF. -/
def execOpenLoadOff (ch : Fin 48) (mV held : Nat) (s : State) : Out :=
  let inBand := decide (3000 ≤ mV) && decide (mV ≤ 5500) && s.reg (K.lsState ch) == lsOff && s.reg (K.offDiagnostics ch) == 1
  .next (if !inBand then s.setFlag (K.lsFlags ch) lfOpenOff false
    else if ticksMs 10 ≤ held then s.setFlag (K.lsFlags ch) lfOpenOff true else s)

/-- LS_SHORT_TO_SUPPLY (R327): the pin in mV and for how long it has been above 6.5 V in OFF. -/
def execLsShortToSupply (ch : Fin 48) (mV held : Nat) (s : State) : Out :=
  let cond := decide (6500 < mV) && s.reg (K.lsState ch) == lsOff
  .next (if !cond then s.setFlag (K.lsFlags ch) lfSupply false
    else if ticksMs 10 ≤ held && !s.flag (K.lsFlags ch) lfSupply then (s.setFlag (K.lsFlags ch) lfSupply true).lsEvent ch else s)

/-- STUCK_ON (R327): above 500 mA with every gate off for 100 us. -/
def execStuckOn (ch : Fin 48) (mA held : Nat) (s : State) : Out :=
  if s.lsDriven ch || mA ≤ 500 || held < ticksUs 100 || (s.lsCh ch).stuck then .next s
  else
    let s := (s.setLs ch { s.lsCh ch with stuck := true }).groupTrip (lsGroup ch)
    let s := if s.reg (K.lsEnable ch) = 1 then s.lsFail ch else s
    .next ((s.setFlag (K.lsFlags ch) lfStuck true).lsEvent ch)

/-- FEED_LOW (R327): the feed input in mV. -/
def execFeedLow (g : Fin 4) (mV : Nat) (s : State) : Out :=
  let s := s.setReg (K.groupVoltage g) (min mV 65535 : Nat)
  .next (if mV < 6000 then s.setFlag (K.groupFlags g) 2 true else s)

/-- FEED_RETURN (R327). -/
def execFeedReturn (g : Fin 4) (mV : Nat) (s : State) : Out :=
  let s := s.setReg (K.groupVoltage g) (min mV 65535 : Nat)
  .next (if 6500 ≤ mV then s.setFlag (K.groupFlags g) 2 false else s)

end Sys2Proof.Machine
end

