-- ==== Sys2Proof/Machine/Settings.lean ====
section
/-!
DEFINITION. The write rule of every entry; writes with complete access (R36); the interface's own settings (R46, R67) and
RestoreDefaults (R68).
-/
namespace Sys2Proof.Machine

/-- The write rule that an entry's chapter gives it, for the chapters after 02; none: a setting without more. -/
def chapterRule (idx sub : Nat) : Option WriteRule :=
  if idx < 0x2000 then none
  else if idx < 0x2100 then rule20 idx sub
  else if idx < 0x2200 then rule21 idx sub
  else if idx < 0x2400 then rule16 idx sub
  else if idx < 0x2800 then rule04 idx sub
  else if idx < 0x3000 then rule05 idx sub
  else if idx < 0x3400 then rule06 idx sub
  else if idx < 0x3800 then rule07 idx sub
  else if idx < 0x4000 then rule08 idx sub
  else if idx < 0x4400 then rule09 idx sub
  else if idx < 0x4800 then rule10 idx sub
  else if idx < 0x4C00 then rule11 idx sub
  else if idx < 0x5000 then rule19 idx sub
  else if idx < 0x5400 then rule12 idx sub
  else if idx < 0x5800 then (match ruleFirmware idx with
    | some r => some r
    | none => rule13 idx sub)
  else if idx < 0x5C00 then rule14 idx sub
  else if idx < 0x6000 then rule15 idx sub
  else if idx < 0x6400 then rule17 idx sub
  else if idx < 0x7000 then rule18 idx sub
  else rule12 idx sub

/-- A value is brought into force for an item that several entries share: the entry's effect finishes the item only when it
comes later, and `true` then says that the item waits for it. -/
def State.applyEntry (s : State) (slot seq : Nat) (data : Bytes) (r : WriteRule) : State × Bool :=
  let t := r.effect s slot seq data
  match t.item seq with
  | some i => if i.state = .finished then (r.effect s slot 0 data, false) else (t, true)
  | none => (t, false)

/-- The values of one item come into force in one tick, the enable entry of subindex 1 last (R36, R68); the item is DONE once
each is in force. -/
def State.applyEntries (s : State) (slot seq : Nat) (l : List ((Nat × Nat) × (Bytes × WriteRule))) : State :=
  let x := l.reverse.foldl (fun (x : State × Bool) (p : (Nat × Nat) × (Bytes × WriteRule)) =>
    let y := x.1.applyEntry slot seq p.2.1 p.2.2
    (y.1, x.2 || y.2)) (s, false)
  if x.2 then x.1 else x.1.finish seq .done

/-! ### The interface's settings (R67) -/

/-- The rule of 0x1010 and 0x1012: the value comes into force after the response (R67). -/
def interfaceRule (idx sub : Nat) : WriteRule where
  effect := fun s _ seq d =>
    let s := s.startItem seq
    { s with ifcPending := s.ifcPending ++ [(key idx sub, ((wval d : Nat) : Int), seq)] }

/-- The rule of a setting of the dictionary. -/
def settingOf (idx sub : Nat) : WriteRule :=
  if idx = 0x1010 || idx = 0x1012 then interfaceRule idx sub
  else match chapterRule idx sub with
    | some r => r
    | none => settingRule idx sub

/-! ### RestoreDefaults (R68) -/

/-- The write rule under which a restore writes an entry (R68): the values come into force in the one tick, those of an enabled
sensor's corrections too (notes/assumptions/183.md); a frame being processed keeps the values it began with (R225). -/
def restoredBy (idx sub : Nat) : WriteRule :=
  if 0x3420 ≤ idx && idx ≤ 0x3459 then { settingOf idx sub with effect := fun s _ seq d => s.settle idx sub seq d }
  else settingOf idx sub

/-- The ranges of R28 that RestoreDefaults takes, by their bases, with their last indices. -/
def restoreRanges : List (Nat × Nat) :=
  [(0x0000, 0x6FFF), (0x1000, 0x10FF), (0x1100, 0x11FF), (0x1F00, 0x1F00), (0x2000, 0x20FF), (0x2200, 0x23FF),
   (0x2400, 0x27FF), (0x2800, 0x2FFF), (0x3000, 0x33FF), (0x3400, 0x37FF), (0x3800, 0x387F), (0x4000, 0x43FF),
   (0x4400, 0x47FF), (0x4800, 0x4BFF), (0x4C00, 0x4FFF), (0x5000, 0x53FF), (0x5400, 0x57FF), (0x5800, 0x5BFF),
   (0x5C00, 0x5FFF), (0x6000, 0x63FF), (0x6400, 0x67FF)]

/-- The span of a value of RestoreDefaults; the value 0 restores 0x2200-0x6FFF. -/
def restoreSpan (v : Nat) : Option (Nat × Nat) :=
  match restoreRanges.find? (fun r => r.1 == v) with
  | some r => some (if v = 0 then 0x2200 else r.1, r.2)
  | none => none

/-- The enable entries of function instances, as (first index, last index, subindex). -/
def enableEntries : List (Nat × Nat × Nat) :=
  [(0x2400, 0x240F, 1), (0x2480, 0x248F, 1), (0x2800, 0x2803, 1), (0x2830, 0x2830, 1), (0x3000, 0x3000, 1),
   (0x3002, 0x300B, 1), (0x3040, 0x3040, 1), (0x3050, 0x3050, 1), (0x3401, 0x3404, 1), (0x3401, 0x3404, 3),
   (0x34B0, 0x34B3, 1), (0x3800, 0x387F, 1), (0x4000, 0x4007, 1), (0x4020, 0x403F, 1), (0x4400, 0x442F, 1),
   (0x4800, 0x481F, 1), (0x4840, 0x484F, 1), (0x4860, 0x486F, 1), (0x4880, 0x4883, 1), (0x4C00, 0x4C07, 1),
   (0x4C20, 0x4C27, 1), (0x5800, 0x5805, 1), (0x5800, 0x5805, 0x10), (0x5848, 0x584D, 1), (0x5C00, 0x5C05, 1),
   (0x5C30, 0x5C33, 1), (0x5C40, 0x5C41, 1), (0x5C50, 0x5C50, 2), (0x6000, 0x6000, 1), (0x6200, 0x6200, 1),
   (0x6210, 0x6210, 1), (0x6400, 0x6400, 1), (0x6410, 0x6413, 1)]

def isEnable (idx sub : Nat) : Bool := enableEntries.any (fun e => decide (e.1 ≤ idx) && decide (idx ≤ e.2.1) && e.2.2 == sub)

/-- The default of an entry as bytes (R31); transmit data are zeros of their buffer's length (R423, R438). -/
def State.defaultBytes (s : State) (idx sub : Nat) (d : Desc) : Bytes :=
  if 0x5830 ≤ idx && idx ≤ 0x5835 then zeros (txLength (s.txConfig (idx - 0x5830) (sub - 1)))
  else if d.ty.isBytes then blobDefault (key idx sub) else d.ty.encode (regDefault (key idx sub))

/-- The entries away from their defaults that are held outside the registers (R423, R477): transmit data, and the session's
copy of the record window. -/
def State.heldApart (s : State) (slot : Nat) : List Nat :=
  let tx := (s.canBufs.cells.filter (fun c => !allZero c.2.shadow)).map (fun c => key (0x5830 + c.1 / 64) (c.1 % 64 + 1))
  let w := s.windows.get Window.init slot
  tx ++ (if w.start = 1 then [] else [key 0x2210 1]) ++ (if w.count = 256 then [] else [key 0x2210 2]) ++
    (if w.area = 0 then [] else [key 0x2210 3])

/-- What a restore writes (R68): each RW and RWV entry of the span whose value differs from its default, in ascending order. -/
def State.restoreList (s : State) (slot v : Nat) : List ((Nat × Nat) × (Bytes × WriteRule)) :=
  match restoreSpan v with
  | none => []
  | some (lo, hi) =>
    (sortBy (fun a b => decide (a ≤ b)) (s.regs.keys ++ s.blobs.keys ++ s.heldApart slot)).filterMap (fun k =>
      let idx := k / 256
      let sub := k % 256
      if idx < lo || hi < idx then none
      else match descOf idx sub with
        | some d => if d.acc.isSetting then some ((idx, sub), (s.defaultBytes idx sub d, restoredBy idx sub)) else none
        | none => none)

/-- A restore would write an entry that cannot be written now, or disable a function instance (R68). -/
def State.restoreBlocked (s : State) (slot v : Nat) : Bool :=
  (s.restoreList slot v).any (fun p =>
    (p.2.2.check s slot p.2.1).isSome || p.2.2.owner s p.2.1 || s.isDisabling (p.2.2.aim s p.2.1) ||
    (isEnable p.1.1 p.1.2 && s.reg (key p.1.1 p.1.2) != 0 && allZero p.2.1))

/-- The rule of RestoreDefaults (R68). -/
def restoreRule : WriteRule where
  check := fun s slot d =>
    firstSome [need (restoreSpan (wval d)).isSome .valueInvalid, need (!s.restoreBlocked slot (wval d)) .stateDenied]
  effect := fun s slot seq d => s.applyEntries slot seq (s.restoreList slot (wval d))

/-- The write rule of every entry. -/
def ruleOf (idx sub : Nat) : WriteRule := if idx = 0x1040 then restoreRule else settingOf idx sub

/-- RESTORE_DEFAULTS (R68). -/
def execRestoreDefaults (slot : Fin 16) (value : BitVec 16) (s : State) : Out :=
  .next (s.request slot 0x1040 0 (leBytes 2 value.toNat) restoreRule)

/-- ENTRY_WRITE (R32): a write to any entry. -/
def execEntryWrite (slot : Fin 16) (idx : BitVec 16) (sub : BitVec 8) (value : Bytes) (s : State) : Out :=
  .next (s.request slot idx.toNat sub.toNat value (ruleOf idx.toNat sub.toNat))

/-! ### Complete access -/

/-- Cuts the data of a complete write into its entries' values; none where the lengths disagree. -/
def splitEntries : List (Nat × Desc) → Bytes → Option (List (Nat × Desc × Bytes))
  | [], b => if b.isEmpty then some [] else none
  | (sub, d) :: t, b =>
    if b.length < d.size then none
    else (splitEntries t (b.drop d.size)).map (fun l => (sub, d, b.take d.size) :: l)

/-- The function checks of one entry of a complete write (R35, R36; notes/assumptions/120.md): a conflict with another entry is
judged against the values that come into force with it. -/
def State.completeEntryCheck (s : State) (slot idx : Nat) (l : List (Nat × Desc × Bytes)) (sub : Nat) (data : Bytes) :
    Option Abort :=
  let r := ruleOf idx sub
  let after := l.foldl (fun (t : State) (p : Nat × Desc × Bytes) => if p.1 = sub then t else t.putEntry idx p.1 p.2.2) s
  match r.check s slot data with
  | some .dependency => if r.check after slot data = some .dependency then some .dependency else none
  | some a => some a
  | none => if r.check after slot data = some .dependency then some .dependency else none

/-- The object, access and role checks of R41 on a complete write to an ARRAY or RECORD. -/
def State.completeAccess (s : State) (slot idx sub : Nat) : Option Abort :=
  let l := s.completeWrite idx
  if !s.indexPresent idx then some .noObject
  else if sub != 0 && (s.entryDesc idx sub).isNone then some .noSubindex
  else if l.isEmpty then some .readOnly
  else need (l.all (fun p => Nat.land (s.roles slot) p.2.wr != 0)) .roleDenied

/-- The checks of R41, from NO_OBJECT to ROLE_DENIED, that a write meets with its first frame. -/
def State.firstCheck (s : State) (slot idx sub : Nat) (complete : Bool) : Option Abort :=
  if s.isComplete idx complete then s.completeAccess slot idx sub
  else s.accessCheck slot idx sub

/-- The checks of R41 on a complete write to an ARRAY or RECORD. -/
def State.completeCheck (s : State) (slot idx sub typeCode : Nat) (data : Bytes) : Option Abort :=
  let l := s.completeWrite idx
  match s.completeAccess slot idx sub with
  | some a => some a
  | none =>
  if l.any (fun p => !p.2.fixedSize || (typeCode != 0 && typeCode != p.2.ty.code)) then some .typeLength
  else match splitEntries l data with
    | none => some .typeLength
    | some v =>
      match firstSome (v.map (fun p => s.valueCheck p.2.1 idx p.1 p.2.2)) with
      | some a => some a
      | none =>
        if v.any (fun p => (ruleOf idx p.1).owner s p.2.2) then some .ownerDenied
        else if v.any (fun p => (ruleOf idx p.1).aim s p.2.2 != 0 && s.isDisabling ((ruleOf idx p.1).aim s p.2.2)) then
          some .functionDisabled
        else match firstSome (v.map (fun p => s.completeEntryCheck slot idx v p.1 p.2.2)) with
          | some a => some a
          | none => s.limitCheck (s.sess slot).sourceId

/-- Accepts a complete write: one item, all values in force in one tick (R36). -/
def State.acceptComplete (s : State) (slot idx : Nat) (data : Bytes) : State :=
  let v := (splitEntries (s.completeWrite idx) data).getD []
  let seq := s.regN K.nextJournalSeq
  let aim := ((v.map (fun p => (ruleOf idx p.1).aim s p.2.2)).find? (fun a => a != 0)).getD 0
  let acc : Access := if v.any (fun p => p.2.1.acc == .rw) then .rw else .rwv
  let s := s.accept slot (s.sess slot).sourceId acc idx 0 .octets data aim
  let s := s.setSess slot { s.sess slot with lastAccepted := seq }
  s.applyEntries slot seq (v.map (fun p => ((idx, p.1), (p.2.2, ruleOf idx p.1))))

/-- A write as a transport has delivered it, with or without complete access (R36, R41). -/
def State.submitAny (s : State) (slot idx sub : Nat) (complete : Bool) (typeCode : Nat) (data : Bytes) : State × Result :=
  if s.isComplete idx complete then
    match s.completeCheck slot idx sub typeCode data with
    | some a => (s.refuse slot (ruleOf idx 0) a, ⟨a.code, 0⟩)
    | none => (s.acceptComplete slot idx data, ⟨0, s.regN K.nextJournalSeq⟩)
  else
    s.submit slot ⟨idx, sub, typeCode, data⟩ (ruleOf idx sub)

/-! ### The settings come into force -/

/-- The abort transfer message that a port's server sends for an entry (R52). -/
def State.sdoAbortFrame (s : State) (p idx sub code : Nat) : State :=
  { s with lastSdo := some ⟨p, 0x580 + s.sdoNode p, code, leBytes 1 0x80 ++ leBytes 2 idx ++ leBytes 1 sub ++ leBytes 4 code⟩ }

/-- An SDO transfer ends with an abort that the module sends (R52). -/
def State.sdoAbort (s : State) (p : Nat) (a : Abort) : State :=
  let t := s.sdoOf p
  ((s.setSdo p Sdo.init).bump K.abortsSent).sdoAbortFrame p t.idx t.sub a.code

/-- Running SDO transfers that a setting of the interface affects abort with STATE_DENIED (R67). -/
def State.sdoAffected (s : State) (ports : List Nat) : State :=
  ports.foldl (fun (s : State) (p : Nat) => if (s.sdoOf p).kind = .idle then s else s.sdoAbort p .stateDenied) s

/-- Every UDP session closes (R46). -/
def State.closeUdp (s : State) : State :=
  (List.range 9).foldl (fun (s : State) (n : Nat) => if (s.sess (n + 7)).isOpen then s.closeSession (n + 7) else s) s

/-- The idle limit of a session is reached (R46): a UDP session closes, a CAN session falls back to OBSERVER. -/
def State.idleEnd (s : State) (slot : Nat) : State :=
  let x := s.sess slot
  if !x.isOpen || s.idleFrom x.lastReq < ticksMs (s.regN K.sessionIdleTimeout) then s
  else if 7 ≤ slot then (s.closeSession slot).bump K.sessionsExpired
  else if slot < 6 then s.setSess slot { x with role := 0, raisedKey := 0 }
  else s

/-- Whether a port's CAN controller has failed (R46, R436). -/
def State.canFailed (s : State) (p : Nat) : Bool := s.reg (K.portState p) == cpFailed

def State.syncAllSdo (s : State) : State := (List.range 6).foldl (fun (s : State) (p : Nat) => s.syncSdo p (s.canFailed p)) s

/-- One setting of 0x1010 or 0x1012 comes into force (R46, R67); which transfers it affects: notes/assumptions/162.md. -/
def State.applyInterface (s : State) (k : Nat) (v : Int) : State :=
  let old := s.reg k
  let s := s.setReg k v
  if v = old then s
  else if k = K.udpEnable || k = K.dictVlanId then s.closeUdp
  else if k = K.sessionIdleTimeout then (List.range 16).foldl State.idleEnd s
  else if k = K.sdoServerEnable then
    (s.sdoAffected ((List.range 6).filter (fun p => bitOf old p != bitOf v p))).syncAllSdo
  else if k = K.sdoTimeout || k = K.sdoBlockSize then s.sdoAffected (List.range 6)
  else if k / 256 = 0x1012 then s.sdoAffected [k % 256 - 1]
  else s

/-- INTERFACE_SETTINGS_CHANGE (R67): the response has gone out; the settings that wait come into force, and their items are
DONE. -/
def execInterfaceSettingsChange (s : State) : Out :=
  let l := s.ifcPending
  .next (l.foldl (fun (s : State) (p : Nat × Int × Nat) => (s.applyInterface p.1 p.2.1).finish p.2.2 .done)
    ({ s with ifcPending := [] } : State))

/-- SESSION_IDLE_TIMEOUT (R46, R47). -/
def execSessionIdleTimeout (slot : Fin 16) (s : State) : Out := .next (if s.serves then s.idleEnd slot else s)

/-- SDO_SERVER_ENABLE_CHANGE (R46): the CAN session of a port follows its server. -/
def execSdoServerEnableChange (p : Fin 6) (s : State) : Out := .next (if s.serves then s.syncSdo p (s.canFailed p) else s)

end Sys2Proof.Machine
end

