-- ==== Sys2Proof/Machine/JournalRows.lean ====
section
/-!
DEFINITION. The journal's own events (03_accepted_work.md): completion records, safe points of disables, and the failures of
an MRAM copy and of a lockstep core.
-/
namespace Sys2Proof.Machine

/-- COMPLETION_RECORD_WRITE (R76): every completion record that may be written. -/
def execCompletionRecordWrite (s : State) : Out := .next s.completeAllowed

/-- The maximum of a disable has passed (R92): slow decay is forced, a context hands over, a camera input ends its frame; any
other function is at its safe point. -/
def State.forceDisable (s : State) (aim : Nat) : State :=
  if aimSv 0 ≤ aim && aim < aimSv 32 then
    let ch := aim - aimSv 0
    if s.reg (K.svState ch) = svRunning then s.svToEnd ch else s.svDisableDone ch
  else if aimCtx 0 ≤ aim && aim < aimCtx 128 then s.ctxHandOver (aim - aimCtx 0)
  else if aimCam 0 ≤ aim && aim < aimCam 10 then s.sensorOff (aim - aimCam 0)
  else s.endDisable aim

/-- FUNCTION_DISABLE_SAFE_POINT (R92): the disables whose maximum has come take effect. A safe point that comes first takes
effect with the event that brings it. -/
def execFunctionDisableSafePoint (s : State) : Out :=
  .next ((s.jr.disabling.filter (fun d => decide (d.due ≤ s.tick))).foldl
    (fun (s : State) (d : Disabling) => s.forceDisable d.aim) s)

/-- MRAM_COPY_FAILURE (R91, R406, R413, R478): the journal runs on the healthy copy, or on none. -/
def execMramCopyFailure (b : Bool) (s : State) : Out :=
  if (if b then s.jr.copyB else s.jr.copyA) = false then .next s
  else
    let s : State := { s with jr := { s.jr with copyA := s.jr.copyA && b, copyB := s.jr.copyB && !b } }
    let s : State :=
      if s.jr.copyA || s.jr.copyB then
        let s : State := { s with maint := { s.maint with singleSince := some s.tick, rebuildGranted := false } }
        s.setReg K.journalState 1
      else (s.setReg K.journalState 2).setReg K.bookState 2
    .next ((s.eventKey .journal 0 K.journalState).spareFlag 7)

/-- LOCKSTEP_CORE_FAILURE (R89, R91, R414, R550): the standby core takes the failed core's place, and CAN transfers end; with
no standby core left the module resets. -/
def execLockstepCoreFailure (s : State) : Out :=
  if !s.isUp then .next s
  else if s.reg K.standbyCore = 0 then
    let s := (s.setReg K.standbyCore 1).bump K.coreTakeovers
    let s := (s.eventKey .stageManager 0 K.standbyCore).spareFlag 1
    .next ((List.range 6).foldl (fun (s : State) (p : Nat) =>
      if (s.sdoOf p).kind = .idle then s else s.sdoAbort p .protocolTimeout) s)
  else .next s.watchdogReset

end Sys2Proof.Machine
end

