-- ==== Sys2Proof/Machine/Transports.lean ====
section
/-!
DEFINITION. The UDP dictionary transport (R55-R63, R595) and the dictionary frames of the fleet link (R499). A frame is its
bytes; the last response sent stands in State.lastReply.
-/
namespace Sys2Proof.Machine

/-- The fields of a request frame (R56). -/
structure UdpReq where
  op : Nat
  flags : Nat
  sessionId : Nat
  seq : Nat
  idx : Nat
  sub : Nat
  ty : Nat
  offset : Nat
  total : Nat
  data : Bytes
  deriving DecidableEq, Repr

def udpReq (b : Bytes) : UdpReq :=
  ⟨fieldU b 3 1, fieldU b 4 1, fieldU b 6 2, fieldU b 8 4, fieldU b 12 2, fieldU b 14 1, fieldU b 15 1, fieldU b 16 4,
    fieldU b 36 4, field b 40 (b.length - 44)⟩

/-- A response frame (R56). -/
def Reply.bytes (r : Reply) : Bytes :=
  let b := leBytes 2 0x5A46 ++ leBytes 1 1 ++ leBytes 1 r.op ++ leBytes 1 r.flags ++ [0] ++ leBytes 2 r.sessionId ++
    leBytes 4 r.seq ++ leBytes 2 r.idx ++ leBytes 1 r.sub ++ leBytes 1 r.typeCode ++ leBytes 4 r.offset ++
    leBytes 4 r.data.length ++ leBytes 4 r.status ++ leBytes 8 r.jseq ++ leBytes 4 r.total ++ r.data
  b ++ leBytes 4 (crc32 b)

/-- Check 1 of R595: Magic, Length and CRC; a frame with more than the 1,024 bytes that R56 allows is dropped with them
(notes/assumptions/163.md). -/
def udpFramed (b : Bytes) : Bool :=
  decide (44 ≤ b.length) && fieldU b 0 2 == 0x5A46 && fieldU b 20 4 + 44 == b.length && decide (b.length ≤ 1068) &&
  crc32 (b.take (b.length - 4)) == fieldU b (b.length - 4) 4

/-- The codes of R58. -/
abbrev opOpen : Nat := 0x01
abbrev opClose : Nat := 0x02
abbrev opKeepalive : Nat := 0x03
abbrev opRead : Nat := 0x10
abbrev opWrite : Nat := 0x11
abbrev opDescribe : Nat := 0x12
abbrev opAbort : Nat := 0x7F

def knownOp (op : Nat) : Bool := [opOpen, opClose, opKeepalive, opRead, opWrite, opDescribe, opAbort].contains op

def UdpReq.first (q : UdpReq) : Bool := q.flags.testBit 0
def UdpReq.last (q : UdpReq) : Bool := q.flags.testBit 1
def UdpReq.complete (q : UdpReq) : Bool := q.flags.testBit 2

/-- A response without data: the RW flags are echoed, RESPONSE is set (R57); `ty` is the entry's type (R56). -/
def UdpReq.answer (q : UdpReq) (status jseq : Nat) (ty : Nat := 0) : Reply :=
  ⟨q.op, q.flags % 8 + 8, q.sessionId, q.seq, q.idx, q.sub, ty, q.offset, status, jseq, 0, []⟩

/-- The type that the responses of a request show: that of its entry, 0 for an operation on no entry (R56). -/
def State.answerType (s : State) (q : UdpReq) : Nat :=
  if q.op = opRead || q.op = opWrite || q.op = opDescribe then s.typeOf q.idx q.sub q.complete else 0

/-- Sends a response; the session keeps it for a repeat (R59). -/
def State.sendReply (s : State) (slot : Option Nat) (r : Reply) : State :=
  let s : State := match slot with
    | some n => if (s.sess n).isOpen then s.setSess n { s.sess n with stored := some r } else s
    | none => s
  { s with lastReply := some r }

/-- The rule that a refused request concerns: the entry's for a write. -/
def UdpReq.rule (q : UdpReq) : WriteRule :=
  if q.op = opWrite then ruleOf q.idx (if q.complete then 0 else q.sub) else { effect := fun s _ _ _ => s }

/-- Refuses a request of an open session (R69). -/
def State.udpRefuse (s : State) (n : Nat) (q : UdpReq) (a : Abort) (keep : Bool := true) : State :=
  (s.refuse n q.rule a).sendReply (if keep then some n else none) (q.answer a.code 0 (s.answerType q))

/-- Refuses a frame that reaches no session. -/
def State.udpNo (s : State) (q : UdpReq) (a : Abort) : State :=
  (s.bump K.abortsSent).sendReply none (q.answer a.code 0 (s.answerType q))

/-- The slot of the open session that a SessionId names (R60). -/
def State.udpSlot (s : State) (lo hi sid : Nat) : Option Nat :=
  let n := sid % 256
  if lo ≤ n && n ≤ hi && (s.sess n).isOpen && s.sessionId n = sid then some n else none

def State.isBusy (s : State) : Bool := s.reg K.busyState == 1

/-- Checks 4 to 6 of R595, then the operation. -/
def State.inSession (s : State) (lo hi : Nat) (q : UdpReq) (exempt : Bool) (act : State → Nat → State) : State :=
  match s.udpSlot lo hi q.sessionId with
  | none => s.udpNo q .noSession
  | some n =>
    let x := s.sess n
    let s := s.setSess n { x with lastReq := s.tick }
    if q.seq = x.lastSeq && x.stored.isSome then { s with lastReply := x.stored }
    else if q.seq ≠ (x.lastSeq + 1) % 2 ^ 32 then s.udpRefuse n q .sequenceGap false
    else
      let s := s.setSess n { s.sess n with lastSeq := q.seq }
      if s.isBusy && !exempt then ((s.dropTransfer n).bump K.busyRefusals).udpRefuse n q .busy
      else act s n

/-- OPEN (R43, R44, R46, R58, R595). -/
def State.udpOpen (s : State) (q : UdpReq) : State :=
  let id := if q.data.length = 4 then leNat q.data else 0
  if s.isBusy then (s.bump K.busyRefusals).udpNo q .busy
  else if id = 0 || 0xFFFFFF00 ≤ id then s.udpNo q .valueInvalid
  else
    let s := ((List.range 9).filter (fun n => (s.sess (n + 7)).isOpen && (s.sess (n + 7)).sourceId = id)).foldl
      (fun (s : State) (n : Nat) => s.closeSession (n + 7)) s
    match (List.range 9).find? (fun n => !(s.sess (n + 7)).isOpen) with
    | none => s.udpNo q .sessionLimit
    | some n =>
      let s := (s.openSession (n + 7) id).bump K.sessionsOpened
      s.sendReply (some (n + 7)) { q.answer 0 0 with sessionId := s.sessionId (n + 7) }

/-- An OPEN on the fleet link receives the SessionId of slot 6 (R499). -/
def State.fleetOpen (s : State) (q : UdpReq) : State :=
  if s.isBusy then (s.bump K.busyRefusals).udpNo q .busy
  else if !(s.sess 6).isOpen then s.udpNo q .sessionLimit
  else
    let s := s.setSess 6 { s.sess 6 with lastSeq := 0, lastReq := s.tick }
    s.sendReply (some 6) { q.answer 0 0 with sessionId := s.sessionId 6 }

/-- A chunk of a read goes out from the snapshot (R37, R61); an Offset beyond the value: notes/assumptions/164.md. -/
def State.udpChunk (s : State) (n : Nat) (q : UdpReq) (k : Snapshot) : State :=
  if k.bytes.length < q.offset || (k.bytes.length = q.offset && q.offset ≠ 0) then
    (s.dropTransfer n).udpRefuse n q .sizeMismatch
  else
    let data := (k.bytes.drop q.offset).take 1024
    let last := decide (k.bytes.length ≤ q.offset + data.length)
    let s := s.setSess n { s.sess n with xfer := none, snap := if last then none else some k }
    s.sendReply (some n) { q.answer 0 0 with
      flags := b2n q.first + 2 * b2n last + 4 * b2n q.complete + 8, typeCode := s.answerType q,
      total := if q.first then k.bytes.length else 0, data := data }

/-- READ (R41, R61). -/
def State.udpRead (s : State) (n : Nat) (q : UdpReq) : State :=
  let begin' : State :=
    match s.readValue n q.idx q.sub q.complete q.ty with
    | (some a, _) => (s.dropTransfer n).udpRefuse n q a
    | (none, b) => s.udpChunk n q ⟨q.idx, q.sub, q.complete, b⟩
  match (s.sess n).snap with
  | some k => if !q.first && k.idx = q.idx && k.sub = q.sub && k.complete = q.complete then s.udpChunk n q k else begin'
  | none => begin'

/-- A DOMAIN entry. -/
def State.isDomain (s : State) (idx sub : Nat) : Bool :=
  match s.entryDesc idx sub with
  | some d => d.ty == .domain
  | none => false

/-- Another session holds an unfinished write of the same entry (R61). -/
def State.writeTaken (s : State) (n idx sub : Nat) : Bool :=
  (List.range 16).any (fun m => m != n && (match (s.sess m).xfer with
    | some t => t.idx == idx && t.sub == sub
    | none => false)) ||
  (List.range 6).any (fun p => p != n && ((s.sdoOf p).kind == .segDown || (s.sdoOf p).kind == .blockDown) &&
    (s.sdoOf p).idx == idx && (s.sdoOf p).sub == sub)

/-- Free bytes of the store of an entry's long values (R81): a firmware image has its own (R408), every other value the staging area
of 256 MiB. Items in flight hold their long values there, and unfinished transfers of other sessions the length that they
announced. -/
def State.stagingFree (s : State) (n idx : Nat) : Nat :=
  let own (k : Nat) : Bool := (k == 0x5480) == (idx == 0x5480)
  let held := ((s.jr.items.filter (fun i => own i.idx && (i.ty == Ty.domain.code || decide (8192 < i.data.length)))).map
    (fun i => i.data.length)).sum
  let coming := ((List.range 16).map (fun m => match (s.sess m).xfer with
    | some t => if m = n || !own t.idx then 0 else t.total
    | none => 0)).sum
  let sdo := ((List.range 6).map (fun p =>
    let t := s.sdoOf p
    if p = n || !own t.idx || !(t.kind == .segDown || t.kind == .blockDown) then 0 else t.total.getD t.buf.length)).sum
  2 ^ 28 - held - coming - sdo

/-- A value goes to a store on the eMMC (R81). -/
def State.staged (s : State) (idx sub len : Nat) : Bool := decide (8192 < len) || s.isDomain idx sub

/-- The write is whole: it is judged and accepted (R33, R61). -/
def State.udpWhole (s : State) (n : Nat) (q : UdpReq) (data : Bytes) : State :=
  let s := s.dropTransfer n
  let x := s.submitAny n q.idx q.sub q.complete q.ty data
  x.1.sendReply (some n) (q.answer x.2.status x.2.jseq (s.answerType q))

/-- WRITE (R33, R61, R81). -/
def State.udpWrite (s : State) (n : Nat) (q : UdpReq) : State :=
  let len := q.data.length
  if q.first then
    let s := s.dropTransfer n
    match s.firstCheck n q.idx q.sub q.complete with
    | some a => s.udpRefuse n q a
    | none =>
      if q.offset ≠ 0 || q.total < len || (q.last && len ≠ q.total) then s.udpRefuse n q .sizeMismatch
      else if s.isDomain q.idx q.sub && s.writeTaken n q.idx q.sub then s.udpRefuse n q .busy
      else if s.staged q.idx q.sub q.total && s.stagingFree n q.idx < q.total then s.udpRefuse n q .resourceExhausted
      else if q.last then s.udpWhole n q q.data
      else
        let s := s.setSess n { s.sess n with xfer := some ⟨q.idx, q.sub, q.complete, q.ty, q.total, q.data⟩ }
        s.sendReply (some n) (q.answer 0 0 (s.answerType q))
  else
    match (s.sess n).xfer with
    | none => (s.dropTransfer n).udpRefuse n q .sizeMismatch
    | some t =>
      let got := t.got.length + len
      if t.idx ≠ q.idx || t.sub ≠ q.sub || t.complete ≠ q.complete || q.offset ≠ t.got.length || t.total < got ||
          (q.last && got ≠ t.total) then
        (s.dropTransfer n).udpRefuse n q .sizeMismatch
      else if q.last then s.udpWhole n q (t.got ++ q.data)
      else
        (s.setSess n { s.sess n with xfer := some { t with got := t.got ++ q.data } }).sendReply (some n)
          (q.answer 0 0 (s.answerType q))

/-- DESCRIBE (R62). -/
def State.udpDescribe (s : State) (n : Nat) (q : UdpReq) : State :=
  if !s.indexPresent q.idx then s.udpRefuse n q .noObject
  else match s.describe q.idx q.sub with
    | none => s.udpRefuse n q .noSubindex
    | some b => s.sendReply (some n) { q.answer 0 0 (s.entryType q.idx q.sub) with data := b }

/-- An operation of R58 on the session slots `lo`-`hi`. -/
def State.udpOp (s : State) (lo hi : Nat) (q : UdpReq) : State :=
  if q.op = opOpen then (if lo = 6 then s.fleetOpen q else s.udpOpen q)
  else if q.op = opClose then
    s.inSession lo hi q true (fun s n => (s.closeSession n).sendReply none (q.answer 0 0))
  else if q.op = opKeepalive then s.inSession lo hi q false (fun s n => s.sendReply (some n) (q.answer 0 0))
  else if q.op = opRead then s.inSession lo hi q (q.idx == 0x1F00) (fun s n => s.udpRead n q)
  else if q.op = opWrite then s.inSession lo hi q false (fun s n => s.udpWrite n q)
  else if q.op = opDescribe then s.inSession lo hi q false (fun s n => s.udpDescribe n q)
  else s.inSession lo hi q false (fun s n => (s.dropTransfer n).sendReply (some n) (q.answer 0 0))

/-- A whole frame through checks 1 to 3 of R595; `only` is the operation of the row, none for every one. -/
def State.udpFrame (s : State) (lo hi : Nat) (frame : Bytes) (only : Option Nat) : State :=
  let q := udpReq frame
  if !udpFramed frame then s.bump K.udpFramesDropped
  else if fieldU frame 2 1 ≠ 1 then s.udpNo q .badFrame
  else if !knownOp q.op then s.udpNo q .badCommand
  else if only.isSome && only ≠ some q.op then s
  else s.udpOp lo hi q

/-- The transport is served on a VLAN (R55, R444, R564): UdpEnable, DictVlanId, and an enabled interface with an address there. -/
def State.udpServed (s : State) (vlan : Nat) : Bool :=
  if s.inRecovery then vlan == 100
  else s.reg K.udpEnable == 1 && s.regN K.dictVlanId == vlan &&
    (List.range 4).any (fun n => s.reg (K.ifEnable n) == 1 && s.regN (K.ifVlan n) == vlan && s.reg (K.addressInUse n) != 0)

/-- A datagram of the row with operation `op` (R55): another VLAN or port drops it, a frame of another operation is another
row's. -/
def State.udpRow (s : State) (vlan port : Nat) (frame : Bytes) (op : Nat) : State :=
  if s.serves && s.udpServed vlan && port = 47920 then s.udpFrame 7 15 frame (some op) else s

/-- OPEN (R58). -/
def execOpenSession (vlan port : BitVec 16) (frame : Bytes) (s : State) : Out := .next (s.udpRow vlan.toNat port.toNat frame opOpen)

/-- CLOSE (R46, R58). -/
def execCloseSession (vlan port : BitVec 16) (frame : Bytes) (s : State) : Out := .next (s.udpRow vlan.toNat port.toNat frame opClose)

/-- KEEPALIVE (R58). -/
def execKeepalive (vlan port : BitVec 16) (frame : Bytes) (s : State) : Out :=
  .next (s.udpRow vlan.toNat port.toNat frame opKeepalive)

/-- READ (R61). -/
def execRead (vlan port : BitVec 16) (frame : Bytes) (s : State) : Out := .next (s.udpRow vlan.toNat port.toNat frame opRead)

/-- WRITE (R61). -/
def execWrite (vlan port : BitVec 16) (frame : Bytes) (s : State) : Out := .next (s.udpRow vlan.toNat port.toNat frame opWrite)

/-- DESCRIBE (R62). -/
def execDescribe (vlan port : BitVec 16) (frame : Bytes) (s : State) : Out :=
  .next (s.udpRow vlan.toNat port.toNat frame opDescribe)

/-- ABORT (R58). -/
def execAbort (vlan port : BitVec 16) (frame : Bytes) (s : State) : Out := .next (s.udpRow vlan.toNat port.toNat frame opAbort)

/-- DICT_REQ (R499): the frame is handled on slot 6 and its response goes out on dict/rsp. -/
def execDictReq (frame : Bytes) (s : State) : Out :=
  if !s.serves || s.reg K.fleetState ≠ 2 then .next s
  else
    let old := s.lastReply
    let t := ({ s with lastReply := none } : State).udpFrame 6 6 frame none
    match t.lastReply with
    | some r => .next (t.publish ⟨.dictRsp, r.bytes⟩)
    | none => .next { t with lastReply := old }

end Sys2Proof.Machine
end

