-- ==== Sys2Proof/Machine/SdoServer.lean ====
section
/-!
DEFINITION. The SDO servers of the CAN ports (R50-R53): expedited, segmented and block transfer. The frame layouts and the CRC
are those of CiA 301, which R50 names and does not restate (PRESUMED, notes/assumptions/121.md); bit 4 of the first byte of
an initiate asks for complete access (R51). State.lastSdo holds the last answer: its identifier, its abort code or 0, and the frames sent.
-/
namespace Sys2Proof.Machine

/-- One byte step of the CRC of block transfer: polynomial 0x1021, initial value 0, most significant bit first. -/
def crc16Bit (c : Nat) : Nat := if c.testBit 15 then Nat.xor (c * 2 % 65536) 0x1021 else c * 2 % 65536

def crc16Byte (c : Nat) (b : Byte) : Nat :=
  let c := Nat.xor c (b.toNat * 256)
  crc16Bit (crc16Bit (crc16Bit (crc16Bit (crc16Bit (crc16Bit (crc16Bit (crc16Bit c)))))))

def crc16 (b : Bytes) : Nat := b.foldl crc16Byte 0

/-- The fields of a client's frame: its first byte, index, subindex and the number in bytes 4-7. -/
def sdoCs (f : Bytes) : Nat := fieldU f 0 1
def sdoIdx (f : Bytes) : Nat := fieldU f 1 2
def sdoSub (f : Bytes) : Nat := fieldU f 3 1

/-- An answer frame with index and subindex. -/
def sdoFrame (cs idx sub : Nat) (rest : Bytes) : Bytes := leBytes 1 cs ++ leBytes 2 idx ++ leBytes 1 sub ++ padTo 4 rest

/-- The server sends frames with its response identifier (R50). -/
def State.sdoSend (s : State) (p : Nat) (b : Bytes) : State :=
  { s with lastSdo := some ⟨p, 0x580 + s.sdoNode p, 0, b⟩ }

/-- A refusal of a write that the server has judged, or of a request for an entry: the transfer ends with an abort message for the
entry (R52, R69). -/
def State.sdoRefuse (s : State) (p idx sub : Nat) (r : WriteRule) (a : Abort) : State :=
  ((s.setSdo p Sdo.init).refuse p r a).sdoAbortFrame p idx sub a.code

/-- The rule of the entry that a transfer writes. -/
def sdoRule (idx sub : Nat) (complete : Bool) : WriteRule := ruleOf idx (if complete then 0 else sub)

/-- An expedited download of a DOMAIN (R30): TYPE_LENGTH, after the checks that R41 puts before it. -/
def State.sdoExpeditedDomain (s : State) (p idx sub : Nat) (complete : Bool) : State :=
  s.sdoRefuse p idx sub (sdoRule idx sub complete) ((s.firstCheck p idx sub complete).getD .typeLength)

/-- BUSY ends a transfer or refuses a request (R63). -/
def State.sdoBusy (s : State) (p idx sub : Nat) (r : WriteRule) : State := (s.bump K.busyRefusals).sdoRefuse p idx sub r .busy

/-- A frame has come for the port's server: its session's timer and the transfer's timer restart. -/
def State.sdoHeard (s : State) (p : Nat) : State :=
  let s := s.setSess p { s.sess p with lastReq := s.tick }
  if (s.sdoOf p).kind = .idle then s else s.setSdo p { s.sdoOf p with lastFrame := s.tick }

/-- The server of a port takes frames: requests are served and its session is open. -/
def State.sdoOpen (s : State) (p : Nat) : Bool := s.serves && (s.sess p).isOpen

/-- A frame is a request to the port's server: the server takes frames, and the identifier is 0x600 + node-ID (R50). -/
def State.sdoTakes (s : State) (p : Nat) (id : BitVec 11) : Bool := s.sdoOpen p && id.toNat == 0x600 + s.sdoNode p

/-- The client sends a frame that no rule of the running transfer takes (R69). -/
def State.sdoBad (s : State) (p : Nat) : State := s.sdoAbort p .badCommand

/-- The write is whole: judged, accepted, and answered with `ok` (R33). -/
def State.sdoWhole (s : State) (p : Nat) (t : Sdo) (data ok : Bytes) : State :=
  let s := s.setSdo p Sdo.init
  let x := s.submitAny p t.idx t.sub t.complete 0 data
  if x.2.status = 0 then x.1.sdoSend p ok else x.1.sdoAbortFrame p t.idx t.sub x.2.status

/-- A download that announces its length, or none, begins (R53, R61, R81). -/
def State.sdoDownBegin (s : State) (p : Nat) (t : Sdo) (answer : Bytes) : State :=
  let r := sdoRule t.idx t.sub t.complete
  let len := t.total.getD 0
  match s.firstCheck p t.idx t.sub t.complete with
  | some a => s.sdoRefuse p t.idx t.sub r a
  | none =>
    if s.isDomain t.idx t.sub && s.writeTaken p t.idx t.sub then s.sdoRefuse p t.idx t.sub r .busy
    else if s.staged t.idx t.sub len && s.stagingFree p t.idx < len then s.sdoRefuse p t.idx t.sub r .resourceExhausted
    else (s.setSdo p t).sdoSend p answer

/-- SDO_INITIATE_DOWNLOAD (R50, R51, R53, R69): expedited, segmented (specifier 1) or block (specifier 6); a frame with an
unknown specifier is refused here. -/
def execSdoInitiateDownload (p : Fin 6) (frame : SdoRequest) (s : State) : Out :=
  let f := leBytes 8 frame.data.toNat
  let cs := sdoCs f
  let x := s.sdoOf p
  let block := cs / 32 == 6 && cs % 2 == 0
  if !s.sdoTakes p frame.id || !(cs / 32 == 1 || cs / 32 == 7 || block) || (x.kind == .blockDown && !x.ended) then .next s
  else if x.kind ≠ .idle || cs / 32 = 7 then .next ((s.sdoHeard p).sdoBad p)
  else
    let s := s.sdoHeard p
    let idx := sdoIdx f
    let sub := sdoSub f
    let complete := cs.testBit 4
    if s.isBusy then .next (s.sdoBusy p idx sub (sdoRule idx sub complete))
    else
      let size : Option Nat := some (fieldU f 4 4)
      let t : Sdo := { idx := idx, sub := sub, complete := complete, lastFrame := s.tick }
      if block then
        let n := s.regN K.sdoBlockSize
        let t := { t with kind := .blockDown, total := if cs.testBit 1 then size else none, blockSize := n, crc := cs.testBit 2 }
        .next (s.sdoDownBegin p t (sdoFrame 0xA4 idx sub (leBytes 1 n)))
      else if cs.testBit 1 then
        let n := if cs.testBit 0 then 4 - cs / 4 % 4 else 4
        if s.isDomain idx sub then .next (s.sdoExpeditedDomain p idx sub complete)
        else .next (s.sdoWhole p t (field f 4 n) (sdoFrame 0x60 idx sub []))
      else
        let t := { t with kind := .segDown, total := if cs.testBit 0 then size else none }
        .next (s.sdoDownBegin p t (sdoFrame 0x60 idx sub []))

/-- Data of a download that does not fit what was announced, or the free staging area (R61, R69, R81). -/
def State.sdoMisfit (s : State) (p : Nat) (t : Sdo) (len : Nat) (last : Bool) : Option Abort :=
  match t.total with
  | some n => need (decide (len ≤ n) && (!last || len == n)) .sizeMismatch
  | none => need (!(s.staged t.idx t.sub len && decide (s.stagingFree p t.idx < len))) .resourceExhausted

/-- A segment of a segmented download. -/
def State.sdoDownSegment (s : State) (p : Nat) (t : Sdo) (f : Bytes) : State :=
  let cs := sdoCs f
  let r := sdoRule t.idx t.sub t.complete
  if cs.testBit 4 ≠ t.toggle then s.sdoRefuse p t.idx t.sub r .toggleError
  else
    let data := t.buf ++ field f 1 (7 - cs / 2 % 8)
    let last := cs.testBit 0
    let ok := leBytes 1 (0x20 + 16 * b2n t.toggle) ++ zeros 7
    match s.sdoMisfit p t data.length last with
    | some a => s.sdoRefuse p t.idx t.sub r a
    | none =>
      if last then s.sdoWhole p t data ok
      else (s.setSdo p { t with buf := data, toggle := !t.toggle }).sdoSend p ok

/-- A segment of a block download: one out of order is not taken, and the block's acknowledgement names the last in order. -/
def State.sdoBlockSegment (s : State) (p : Nat) (t : Sdo) (f : Bytes) : State :=
  let seq := sdoCs f % 128
  let last := (sdoCs f).testBit 7
  let r := sdoRule t.idx t.sub t.complete
  if seq = 0 || t.blockSize < seq then s.sdoRefuse p t.idx t.sub r .blockSequence
  else
    let good := seq == t.blockSeq + 1
    let t := if good then { t with buf := t.buf ++ field f 1 7, blockSeq := seq, ended := last } else t
    match (if last then none else s.sdoMisfit p t t.buf.length false) with
    | some a => s.sdoRefuse p t.idx t.sub r a
    | none =>
      if last || seq = t.blockSize then
        let n := s.regN K.sdoBlockSize
        (s.setSdo p { t with blockSeq := 0, blockSize := n }).sdoSend p
          (leBytes 1 0xA2 ++ leBytes 1 t.blockSeq ++ leBytes 1 n ++ zeros 5)
      else s.setSdo p t

/-- The end of a block download: the CRC, the length, then the write. -/
def State.sdoBlockEnd (s : State) (p : Nat) (t : Sdo) (f : Bytes) : State :=
  let data := t.buf.take (t.buf.length - sdoCs f / 4 % 8)
  let r := sdoRule t.idx t.sub t.complete
  if t.crc && crc16 data ≠ fieldU f 1 2 then s.sdoRefuse p t.idx t.sub r .blockCrc
  else match s.sdoMisfit p t data.length true with
    | some a => s.sdoRefuse p t.idx t.sub r a
    | none => s.sdoWhole p t data (leBytes 1 0xA1 ++ zeros 7)

/-- SDO_DOWNLOAD_SEGMENT (R50, R53): a segment (specifier 0), a segment of a block, or the end of a block download. -/
def execSdoDownloadSegment (p : Fin 6) (frame : SdoRequest) (s : State) : Out :=
  let f := leBytes 8 frame.data.toNat
  let cs := sdoCs f
  let x := s.sdoOf p
  let inBlock := x.kind == .blockDown && !x.ended
  let isEnd := cs / 32 == 6 && cs % 2 == 1
  if !s.sdoTakes p frame.id || cs = 0x80 || !(inBlock || cs / 32 == 0 || isEnd) then .next s
  else
    let s := s.sdoHeard p
    let t := s.sdoOf p
    if s.isBusy then .next (s.sdoBusy p t.idx t.sub (sdoRule t.idx t.sub t.complete))
    else if inBlock then .next (s.sdoBlockSegment p t f)
    else if x.kind = .blockDown && isEnd then .next (s.sdoBlockEnd p t f)
    else if x.kind = .segDown && !isEnd then .next (s.sdoDownSegment p t f)
    else .next (s.sdoBad p)

/-- The answer to an initiate upload: expedited up to 4 bytes, but for a DOMAIN, else segmented. -/
def State.sdoUpAnswer (s : State) (p : Nat) (t : Sdo) (data : Bytes) : State :=
  let len := data.length
  if 0 < len && len ≤ 4 && !s.isDomain t.idx t.sub then
    s.sdoSend p (sdoFrame (0x43 + 4 * (4 - len)) t.idx t.sub data)
  else (s.setSdo p { t with kind := .segUp, buf := data }).sdoSend p (sdoFrame 0x41 t.idx t.sub (leBytes 4 len))

/-- SDO_INITIATE_UPLOAD (R50, R51, R53): a read (specifier 2) or a block read (specifier 5), from the snapshot that its first
frame takes (R37). -/
def execSdoInitiateUpload (p : Fin 6) (frame : SdoRequest) (s : State) : Out :=
  let f := leBytes 8 frame.data.toNat
  let cs := sdoCs f
  let x := s.sdoOf p
  let block := cs / 32 == 5 && cs % 4 == 0
  if !s.sdoTakes p frame.id || !(cs / 32 == 2 || block) || (x.kind == .blockDown && !x.ended) then .next s
  else if x.kind ≠ .idle then .next ((s.sdoHeard p).sdoBad p)
  else
    let s := s.sdoHeard p
    let idx := sdoIdx f
    let sub := sdoSub f
    let complete := cs.testBit 4
    let none' : WriteRule := { effect := fun s _ _ _ => s }
    if s.isBusy && idx ≠ 0x1F00 then .next (s.sdoBusy p idx sub none')
    else match s.readValue p idx sub complete 0 with
      | (some a, _) => .next (s.sdoRefuse p idx sub none' a)
      | (none, data) =>
        let t : Sdo := { idx := idx, sub := sub, complete := complete, lastFrame := s.tick }
        let n := fieldU f 4 1
        let pst := fieldU f 5 1
        if !block || (pst ≠ 0 && data.length ≤ pst) then .next (s.sdoUpAnswer p t data)
        else if n = 0 || 127 < n then .next (s.sdoBad p)
        else
          let t := { t with kind := .blockUp, buf := data, total := some 0, blockSize := n, crc := cs.testBit 2 }
          .next ((s.setSdo p t).sdoSend p (sdoFrame 0xC6 idx sub (leBytes 4 data.length)))

/-- The segments of a block: numbered from 1, the last of the data marked. -/
def blockFrames : Nat → Nat → Bytes → Bytes
  | 0, _, _ => []
  | n + 1, k, b =>
    if b.length ≤ 7 then leBytes 1 (0x80 + k) ++ padTo 7 b
    else leBytes 1 k ++ b.take 7 ++ blockFrames n (k + 1) (b.drop 7)

/-- Sends the next block of an upload. -/
def State.sdoUpBlock (s : State) (p : Nat) (t : Sdo) : State :=
  let rest := t.buf.drop (t.total.getD 0)
  let segments := min t.blockSize (max 1 ((rest.length + 6) / 7))
  (s.setSdo p { t with blockSeq := segments }).sdoSend p (blockFrames t.blockSize 1 rest)

/-- The client acknowledges a block of an upload: the next block, or the end with its CRC. -/
def State.sdoUpAck (s : State) (p : Nat) (t : Sdo) (f : Bytes) : State :=
  let ack := fieldU f 1 1
  let n := fieldU f 2 1
  let done := t.total.getD 0 + 7 * ack
  if t.blockSeq < ack then s.sdoAbort p .blockSequence
  else if n = 0 || 127 < n then s.sdoBad p
  else if t.buf.length ≤ done && ack ≠ 0 then
    let unused := if t.buf.isEmpty then 7 else (7 - t.buf.length % 7) % 7
    (s.setSdo p { t with ended := true }).sdoSend p
      (leBytes 1 (0xC1 + 4 * unused) ++ leBytes 2 (if t.crc then crc16 t.buf else 0) ++ zeros 5)
  else s.sdoUpBlock p { t with total := some done, blockSize := n }

/-- A segment of a segmented upload. -/
def State.sdoUpSegment (s : State) (p : Nat) (t : Sdo) (cs : Nat) : State :=
  if cs.testBit 4 ≠ t.toggle then s.sdoAbort p .toggleError
  else
    let data := t.buf.take 7
    let last := decide (t.buf.length ≤ 7)
    let b := leBytes 1 (16 * b2n t.toggle + 2 * (7 - data.length) + b2n last) ++ padTo 7 data
    (s.setSdo p (if last then Sdo.init else { t with buf := t.buf.drop 7, toggle := !t.toggle })).sdoSend p b

/-- SDO_UPLOAD_SEGMENT (R50, R53): a segment request (specifier 3), or the start, an acknowledgement or the end of a block
upload (specifier 5). -/
def execSdoUploadSegment (p : Fin 6) (frame : SdoRequest) (s : State) : Out :=
  let f := leBytes 8 frame.data.toNat
  let cs := sdoCs f
  let x := s.sdoOf p
  let sub := if cs / 32 = 5 then cs % 4 else 0
  if !s.sdoTakes p frame.id || !(cs / 32 == 3 || sub != 0) || (x.kind == .blockDown && !x.ended) then .next s
  else
    let s := s.sdoHeard p
    let t := s.sdoOf p
    if s.isBusy && x.idx ≠ 0x1F00 then .next (s.sdoBusy p t.idx t.sub { effect := fun s _ _ _ => s })
    else if x.kind = .segUp && sub = 0 then .next (s.sdoUpSegment p t cs)
    else if x.kind = .blockUp && sub = 3 && t.blockSeq = 0 then .next (s.sdoUpBlock p t)
    else if x.kind = .blockUp && sub = 2 && t.blockSeq ≠ 0 && !t.ended then .next (s.sdoUpAck p t f)
    else if x.kind = .blockUp && sub = 1 && t.ended then .next (s.setSdo p Sdo.init)
    else .next (s.sdoBad p)

/-- SDO_ABORT_TRANSFER (R52): the transfer ends, nothing is accepted, and there is no reply. -/
def execSdoAbortTransfer (p : Fin 6) (frame : SdoRequest) (s : State) : Out :=
  let cs := sdoCs (leBytes 8 frame.data.toNat)
  let t := s.sdoOf p
  if s.sdoTakes p frame.id && (cs = 0x80 || (cs / 32 = 4 && !(t.kind == .blockDown && !t.ended))) then .next ((s.sdoHeard p).setSdo p Sdo.init) else .next s

/-- SDO_TIMEOUT (R53): no expected frame within SdoTimeout. -/
def execSdoTimeout (p : Fin 6) (s : State) : Out :=
  let t := s.sdoOf p
  if s.sdoOpen p && t.kind ≠ .idle && t.lastFrame + ticksMs (s.regN K.sdoTimeout) ≤ s.tick then
    .next (s.sdoAbort p .protocolTimeout)
  else .next s

end Sys2Proof.Machine
end

