-- ==== Sys2Proof/Machine/StartUp.lean ====
section
/-!
DEFINITION. The start of the module (R548): what a reset keeps (R551), secure boot (R410, R563, R564), replay (R87), the axes'
resume after a reset (R103), and the start of the functions and of the fabric (R388). A start runs at tick 0 as one command
(notes/assumptions/62.md).
-/
namespace Sys2Proof.Machine

/-! What a reset keeps (R551) -/

/-- RO entries whose tables or rules keep them across every reset. -/
def keptRo (idx sub : Nat) : Bool :=
  idx == 0x1000 || idx == 0x5410 || idx == 0x5450 || idx == 0x5483 || (0x5500 ≤ idx && idx ≤ 0x551F) || idx == 0x5600 ||
  (idx == 0x1100 && (sub == 1 || sub == 2 || sub == 4 || sub == 5)) || (idx == 0x2000 && sub == 0x0A) ||
  (idx == 0x2100 && sub == 3) || (idx == 0x2150 && sub == 2) ||
  (idx == 0x2200 && (sub == 2 || sub == 7 || sub == 8 || sub == 0x0B)) ||
  (0x4440 ≤ idx && idx ≤ 0x446F && 0x0B ≤ sub && sub ≤ 0x0E) || (idx == 0x48B0 && (sub == 2 || sub == 3)) ||
  (0x5030 ≤ idx && idx ≤ 0x504F && sub == 2) || (idx == 0x5430 && sub ≤ 2) || (idx == 0x5440 && sub == 1) ||
  (idx == 0x6010 && (sub == 2 || sub == 3)) || (idx == 0x6430 && sub ≤ 3)

/-- An entry keeps its value: CONST, RW, or a kept RO entry. -/
def keptKey (k : Nat) : Bool :=
  match descOf (k / 256) (k % 256) with
  | some d => d.acc == .const || d.acc == .rw || keptRo (k / 256) (k % 256)
  | none => false

def Tab.keep {α : Type} (t : Tab α) (p : Nat → Bool) : Tab α := ⟨t.cells.filter (fun c => p c.1)⟩

/-- The values of RW OEM entries stay with the slots of their prickings (R386). -/
def State.keepOem (s : State) : State :=
  (List.range 32).foldl (fun (s : State) (r : Nat) =>
    let n := s.regN (K.runningSlot r)
    if s.reg (K.regionState r) = rgRunning && n < 32 then
      let kept := ((pObjects (s.runningOf r)).filter (fun o => o.acc == .rw)).map (fun o => (key o.idx o.sub, s.oemRaw o))
      s.setPslot n { s.pslot n with kept := kept }
    else s) s

/-- The InputFlags of an entry without those that a reset clears: a failed converter and its understudy stay (R353, R355). -/
def keptInputFlags (v : Int) : Int := ((v.toNat / 64 % 2 * 64 + v.toNat / 256 % 2 * 256 : Nat) : Int)

/-- A reset (R551): what no reset reinitialises stays, everything else is as at the first start. -/
def State.cleared (s : State) : State :=
  let sessions := (List.range 16).foldl (fun (t : Tab Session) (n : Nat) =>
    t.set Session.init n { generation := (s.sess n).generation, stored := (s.sess n).stored }) ⟨[]⟩
  let jr := { s.jr with accepting := true, disabling := [], replayWait := [], busySince := none }
  let book := { s.book with offered := [], waiting := [], supp := ⟨[]⟩, closed := false, eraseItem := none, pageBusy := false, opSaved := 0 }
  let lock (x : SourceFails) : SourceFails :=
    match s.island.saved.find? (fun y => y.source == x.source) with
    | some y => { x with until_ := y.until_ }
    | none => { x with until_ := 0 }
  let island : Island := { Island.mk [] [] 0 0 [] false [] 0 with
    sources := s.island.sources.map lock, lockedUntil := s.island.savedModule, fleetKey := s.island.fleetKey,
    saved := s.island.saved, savedModule := s.island.savedModule }
  let single : Option Nat := if s.reg K.journalState = 1 then some 0 else none
  let maint : Maint := { ({} : Maint) with
    nextPlace := s.maint.nextPlace, placeRetired := s.maint.placeRetired, banksUsed := s.maint.banksUsed,
    singleSince := single, rebuildGranted := s.maint.rebuildGranted, images := s.maint.images, confirmed := s.maint.confirmed }
  let archive := { s.archive with opening := none, building := none, files := [], erasing := s.archive.erasing.map (fun e => (0, e.2)) }
  let clock : Clock := { ({} : Clock) with time := s.jr.savedTime }
  { State.reset with
    regs := s.regs.keep keptKey, blobs := s.blobs.keep keptKey, sessions := sessions, jr := jr, book := book, keys := s.keys,
    island := island, maint := maint, slots := s.slots, archive := archive, clock := clock, fresh := s.fresh,
    pending := s.pending, tag := { s.tag with faults := 0, events := [], checked := false, phaseFrom := none }, lastReply := none }

/-- The state after a reset (R551), with the latched input flags that it keeps and what the comparator holds (R535). -/
def State.rebooted (s : State) : State :=
  let s := s.admitOffers.keepOem
  let held : Nat := if s.comparatorOn then s.regN K.shdnCause % 2 else 0
  let t := (s.cleared.setReg K.shdnCause (held : Nat)).setReg K.shdnState (held : Nat)
  let t := (List.range 32).foldl (fun (t : State) (n : Nat) => t.setReg (K.ainFlags n) (keptInputFlags (s.reg (K.ainFlags n)))) t
  let t := (List.range 16).foldl (fun (t : State) (n : Nat) => t.setReg (K.acuFlags n) (keptInputFlags (s.reg (K.acuFlags n)))) t
  (List.range 256).foldl (fun (t : State) (i : Nat) =>
    let k := K.strandStatus (i / 8) (i % 8)
    t.setFlag k 5 false) t

/-! Secure boot (R410, R562, R563) -/

/-- An image can start: it is present, its signature is valid and it does not lie below the floor. -/
def State.imageStarts (s : State) (b : Boot) (n : Nat) : Bool :=
  (s.image n).present && (if n = 0 then b.imageA else b.imageB) && decide (s.regN K.versionFloor ≤ (s.image n).security)

/-- A trial has ended without its confirmation: the image beside the active one is not pending any more; what StagedState reads
is open (notes/assumptions/123.md). -/
def State.trialReverts (s : State) : State :=
  let d := s.draw
  d.2.setReg K.trialState 3 |>.setReg K.stagedState (([0, 1, 3] : List Int).getD (d.1 % 3) 0)

/-- What secure boot finds: the image that starts, whether as a trial, a trial that reverted, and a fallback. -/
structure BootChoice where
  image : Option Nat
  trial : Bool
  reverted : Bool
  fallback : Bool
  deriving DecidableEq, Repr

/-- Secure boot selects an image (R410, R563). -/
def State.selectImage (s : State) (b : Boot) : BootChoice :=
  let active := s.regN K.activeImage
  let pend := s.reg K.stagedState == 2 && s.reg K.trialState != 1
  if pend && s.imageStarts b (1 - active) then ⟨some (1 - active), true, false, false⟩
  else
    let was := s.reg K.trialState == 1
    let n := if was then 1 - active else if pend then active else s.maint.confirmed
    if s.imageStarts b n then ⟨some n, false, was || pend, false⟩
    else if s.imageStarts b (1 - n) then ⟨some (1 - n), false, was || pend, true⟩
    else ⟨none, false, was || pend, false⟩

/-! Replay (R87) -/

/-- A complete write names an ARRAY or RECORD at subindex 0 (R36). -/
def State.itemComplete (s : State) (i : Item) : Bool := i.sub == 0 && (s.entryDesc i.idx 0).isNone

/-- The RW OEM entry of an item, with the slot of its pricking. -/
def State.oemItem (s : State) (i : Item) : Option (Nat × OemEntry) :=
  (List.range 32).findSome? (fun r =>
    let n := s.regN (K.runningSlot r)
    if n < 32 then
      ((pObjects (s.pslot n).content).find? (fun o => o.idx == i.idx && o.sub == i.sub)).map (fun o => (n, o))
    else none)

/-- The value of an RW item comes into force: before the functions start, the entry alone; an OEM value goes to its slot's kept
ones. -/
def State.applyItem (s : State) (i : Item) : State :=
  if 0x7000 ≤ i.idx && i.idx < 0x8000 then
    match s.oemItem i with
    | some (n, o) =>
      let x := s.pslot n
      let k := key o.idx o.sub
      s.setPslot n { x with kept := x.kept.filter (fun q => q.1 != k) ++ [(k, i.data)] }
    | none => s
  else if s.itemComplete i then
    ((splitEntries (s.completeWrite i.idx) i.data).getD []).foldl (fun (s : State) (p : Nat × Desc × Bytes) =>
      if p.2.1.acc = .rw then s.putEntry i.idx p.1 p.2.2 else s) s
  else s.putEntry i.idx i.sub i.data

/-- An item that starts again once its function has started: a set of sensor registers that waited (R227), a command to an OEM
entry (R385). -/
def restarts (i : Item) : Bool :=
  i.access == .cmd && i.state == .accepted && ((0x3470 ≤ i.idx && i.idx ≤ 0x3479) || (0x7000 ≤ i.idx && i.idx < 0x8000))

/-- A cue of replay waits in its slot (R87, R105). -/
def State.holdCue (s : State) (i : Item) : State :=
  let c := cueRec i.data
  let s := s.armCue c 0 i.seq
  let s := s.setCue c.slot { s.cue c.slot with state := .held }
  { s with jr := { s.jr with replayWait := s.jr.replayWait ++ [i.seq] } }

/-- Replay of one item (R87). -/
def State.replayItem (s : State) (i : Item) : State :=
  if i.state = .finished then s
  else match i.access with
    | .rw => (s.applyItem i).finish i.seq .done
    | .rwv => s.finish i.seq .interrupted
    | _ =>
      if i.idx = 0x2420 then s.holdCue i
      else if restarts i then s
      else if 0x3800 ≤ i.idx && i.idx < 0x3880 && i.sub = 0x3D then
        (s.setReg (K.rehearsalEnd (i.idx - 0x3800)) 8).finish i.seq .interrupted
      else s.finish i.seq .interrupted

/-! The first part of the start -/

/-- An enabled function starts as its enabling starts it; its Enable entry reads 0 until then. -/
def State.startEntry (s : State) (idx sub : Nat) : State :=
  if s.reg (key idx sub) = 1 then (ruleOf idx sub).effect (s.setReg (key idx sub) 0) 6 0 [1] else s

def State.startEntries (s : State) (lo n sub : Nat) : State :=
  (List.range n).foldl (fun (s : State) (k : Nat) => s.startEntry (lo + k) sub) s

/-- An axis after a reset (R103): with a snapshot it resumes, without one it starts as at every enabling. A snapshot whose CRC
fails gives an open position. -/
def State.axisReboot (s : State) (bad : BitVec 16) (n : Nat) : State :=
  if s.reg (K.axisEnable n) ≠ 1 then s
  else
    let k := s.jr.axisSnaps.get AxisSnap.init n
    let s := s.axisStart n
    if !k.valid then s
    else if bad.getLsbD n then
      let d := s.draw
      let pos : Int := if d.1 % 2 = 0 then (d.1 / 2 : Nat) else -((d.1 / 2 : Nat) : Int)
      let s := d.2.setAxis n { d.2.axis n with s := pos }
      s.beginResume n { k with valid := false, s := pos }
    else
      let s := s.setAxis n { s.axis n with s := k.s, heading := k.heading }
      s.beginResume n k

/-- A waiting cue of replay is settled where its axis has come to an end of its wait (R87, R103, R105). -/
def State.settleCue (s : State) (k : Nat) : State :=
  let c := s.cue k
  let late := decide (ticksS 10 ≤ s.tick)
  let s : State :=
    if c.state ≠ .held then s
    else if c.axis = 16 then
      if s.clock.lockedSince then
        if 0 < s.cuePast c then s.endCue k .missed
        else s.setCue k { c with state := .armed, armTick := s.tick, evaluated := false }
      else if late then s.endCue k .missed else s
    else if (s.axis c.axis).resume.isSome && !late then s
    else s.endCue k .missed
  if c.jseq ∈ s.jr.replayWait && (s.cue k).state ≠ .held then
    { s with jr := { s.jr with replayWait := s.jr.replayWait.filter (fun q => q != c.jseq) } }
  else s

/-- The slots of cues that replay waits for. -/
def State.waitingCues (s : State) : List Nat := s.activeSlots.filter (fun k => s.jr.replayWait.contains (s.cue k).jseq)

/-- Functions that replay itself needs: time sources, addresses and CAN ports (R460), sensing inputs, implements, axes and delay
lines. -/
def State.startEarly (s : State) (bad : BitVec 16) : State :=
  let s := (List.range 4).foldl State.showIf s
  let s := ((s.startEntries 0x5C40 2 1).freeRunStart).startEntries 0x5800 6 1
  let s := ((s.startEntries 0x4800 32 1).startEntries 0x4840 16 1).startEntries 0x4860 16 1
  let s := (s.startEntries 0x4880 4 1).startEntries 0x2800 4 1
  let s := (List.range 16).foldl (fun (s : State) (n : Nat) => s.axisReboot bad n) s
  (List.range 16).foldl (fun (s : State) (n : Nat) => if s.reg (K.lineEnable n) = 1 then s.clearLine n else s) s

/-! The fabric starts (R388) -/

/-- A region's slot cannot start: it fails its check, its key has been revoked (R559), it holds no pricking, or a cell it uses is
lost. -/
def State.slotBad (s : State) (failed : Bool) (slot : Nat) : Bool :=
  let b := (s.pslot slot).content
  failed || b.isEmpty || !s.keyInstalled (pHeader b).keyId || (pPlanes b).any (fun p => s.placeLost p.cell)

/-- The check of a region as its staging begins: AutoStart 0 leaves it EMPTY, a bad slot in FAULT. -/
def State.regionReboot (s : State) (bad : BitVec 32) (r : Nat) : State :=
  let n := s.regN (K.runningSlot r)
  let s := s.setReg (K.regionState r) (if s.reg (K.regionPanels r) = 0 then rgUndefined else rgEmpty)
  if s.reg (K.regionState r) = rgUndefined || s.reg (K.autoStart r) ≠ 1 || 32 ≤ n then s.setReg (K.runningSlot r) 0xFF
  else if s.slotBad (bad.getLsbD r) n then
    (s.setReg (K.regionState r) rgFault).eventKey .fabric r (K.regionState r)
  else s

/-- A region starts its slot at repeat 0. -/
def State.regionStart (s : State) (r : Nat) : State :=
  let n := s.regN (K.runningSlot r)
  if s.reg (K.regionState r) = rgEmpty && n < 32 then
    let b := (s.pslot n).content
    let s := ((s.stageScene b).clearStates b []).takeShadow r
    (s.showRunning r n).oemEnter r n []
  else s

/-- FabricState and the start time of the fabric. -/
def State.fabricStart (s : State) : State :=
  let s := (List.range 32).foldl State.regionStart s
  let runs := (List.range 32).any (fun r => s.reg (K.regionState r) == rgRunning)
  let fails := (List.range 32).any (fun r => s.reg (K.regionState r) == rgFault)
  s.setReg K.fabricState (if fails && !runs then 3 else 2)

/-! The functions start -/

/-- The item of replay that starts again with its function (R87). -/
def State.restartItem (s : State) (i : Item) : State :=
  if !restarts i then s
  else if i.idx < 0x7000 && !s.sensorOn (i.idx - 0x3470) then s.finish i.seq .cancelled
  else (ruleOf i.idx i.sub).effect s i.slot i.seq i.data

/-- The sensors, the cameras, fusion and the streams. -/
def State.startSight (s : State) : State :=
  let s := (s.startEntries 0x3002 10 1).startEntry 0x3000 1
  let s := (s.startEntries 0x3401 4 1).startEntries 0x34B0 4 1
  if s.reg K.inlineState = 2 then s else s.setReg K.inlineState (s.reg K.inlineBypass)

/-- The CAN schedules, the banks, channels, contexts, zones and fans, and the Task Controller. -/
def State.startOutputs (s : State) : State :=
  let s := s.startEntries 0x5848 6 1
  let s := ((s.startEntries 0x4000 8 1).startEntries 0x4020 32 1).startEntries 0x4400 48 1
  let s := (s.startEntries 0x3800 128 1).startEntries 0x4C00 8 1
  (s.startEntries 0x4C20 8 1).startEntry 0x2830 1

/-- The open field (R145, R483), the services and the panel. -/
def State.startServices (s : State) : State :=
  let s := s.setReg K.tilesCapacity (s.tileCapacity : Nat)
  let s : State := match s.openFieldNo with
    | some f => s.loadField f
    | none => s
  let s := ((s.startEntry 0x6000 1).startEntry 0x6200 1).startEntry 0x6210 1
  let s := (s.setPanel { s.panel with fill := s.regN K.fillColour }).startEntry 0x6400 1
  s.showYield.showUnverified

/-- Claims of the stitch programs, and the counts that tables show (R273, R370, R389). -/
def State.showStored (s : State) : State :=
  let s := (List.range 64).foldl (fun (s : State) (p : Nat) => s.setReg (K.programClaim p) (programClaim (s.programOf p) : Nat)) s
  s.showStore.showCells

/-- Dictionary-ready (beat 9 of R548) and fabric-ready (beat 10): the functions start, requests are served. `DictionaryReady`
and `FabricReady` are open within the maxima of R548 (notes/assumptions/124.md). -/
def State.dictionaryReady (s : State) : State :=
  let s := ((s.setReg K.powerState 1).setFlag K.powerFlags 5 false).setReg K.engineState 0
  let s := s.startOutputs.startSight.startServices.showStored
  let s := s.fabricStart
  let s := s.jr.items.foldl State.restartItem s
  let s := s.syncAllSdo
  let d := s.draw
  let f := d.2.draw
  let ready := d.1 % 341 + s.tick / 100000
  (f.2.setReg K.dictionaryReady (ready : Nat)).setReg K.fabricReady (ready + f.1 % 8192 : Nat)

/-- Replay has ended once it waits for no cue. -/
def State.replayEnd (s : State) : State :=
  if s.reg K.powerState = 0 && !s.inRecovery && s.jr.replayWait.isEmpty then s.completeAllowed.dictionaryReady else s

/-- Every item in flight has crossed one more replay (R85). -/
def State.crossReset (s : State) : State :=
  { s with jr := { s.jr with items := s.jr.items.map (fun i => { i with resets := min 255 (i.resets + 1) }) } }

/-- Replay (R87): the EPOCH record, the items in flight in ascending JournalSeq, the axes; then the completion records. Epoch stays at
the greatest U32 (notes/assumptions/166.md). -/
def State.replay (s : State) (kind : Nat) (b : Boot) : State :=
  let s := s.crossReset
  let s := s.setReg K.epoch (min (2 ^ 32 - 1) (s.reg K.epoch + 1))
  let s := s.jwrite ⟨0x45, 0, 0xFF, 0, 0, 0, s.now, 0, 0, 0, 0, 0, padTo 24 (leBytes 4 (s.regN K.epoch) ++ leBytes 1 kind)⟩
  let s := s.setReg K.replayedItems (s.jr.items.length : Nat)
  let s := s.jr.items.foldl State.replayItem s
  let s := (List.range 32).foldl (fun (s : State) (r : Nat) => s.regionReboot b.regionsBad r) s
  let s := s.startEarly b.snapsBad
  let s := s.waitingCues.foldl State.settleCue s
  s.completeAllowed.replayEnd

/-! The start -/

/-- The prompt book's recovery (R478), `staged` records having been staged before the start: the valid records of a partly written page count as committed, its other slots stay
empty. -/
def State.bookRecover (s : State) (page : Option (Fin 32)) (staged : Nat) : State :=
  match page with
  | none => s
  | some k =>
    let k := min k.val staged
    let s := (List.range k).foldl (fun (s : State) (_ : Nat) => s.commitOne) s
    let skip := if k ≠ 0 && s.book.head % 32 = 0 then 0 else 32 - s.book.head % 32
    ({ s with book := { s.book with head := s.book.head + skip } } : State).bumpBy K.recordsSkipped (skip : Nat)

/-- The thresholds of the straps in C (R535). -/
def strapCelsius (straps : Nat) : Int := [95, 105, 115, 125].getD straps 95

/-- The pins, the supply, the hold-up store and the straps as a start finds them (R538, R539, R543, R553). -/
def State.readPins (s : State) (st : Start) (b : Boot) : State :=
  let mV := b.mV.toNat
  let s : State := { s with power := { phase := .up, start := none, inactiveFrom := if b.wake then none else some 0,
                                       entry := none, holdFrom := none } }
  let s := (s.setReg K.wakeSource (st.source : Nat)).setReg K.wakePort (st.port : Nat)
  let s := ((s.setReg K.logicSupply (mV : Nat)).setReg K.supplyMin (mV : Nat)).setReg K.holdupLevel (b.charge : Nat)
  let s := ((s.setFlag K.powerFlags 0 (decide (mV < 9000))).setFlag K.powerFlags 3 (decide (b.charge.val < 100))).setFlag
    K.powerFlags 4 b.wake
  (s.setFlag K.powerFlags 5 true).setReg K.strapThreshold (strapCelsius b.straps)

/-- A normal start with the image that secure boot has chosen (R548): the STARTUP record, the records of what the start has
found, the fuse models (R313), then replay. `recovered` says that the recovery loader ran before. -/
def State.normalStart (s : State) (st : Start) (b : Boot) (c : BootChoice) (n : Nat) (recovered : Bool) : State :=
  let kind := st.kind.code
  let s : State := if c.reverted then s.trialReverts else if c.trial then s.setReg K.trialState 1 else s
  let s := (s.setReg K.activeImage (n : Nat)).setReg K.firmwareVersion ((s.image n).version : Nat)
  let s := (s.setFlag K.securityFlags 1 c.fallback).setReg K.lastResetKind (kind : Nat)
  let s : State := if st.kind = .supplyLoss || st.kind = .standbyWake then s.bump K.powerCycles else s
  let staged := s.book.staged.length
  let s := s.offer .stageManager 1 0 (leBytes 1 kind ++ leBytes 1 n ++ leBytes 1 (s.regN K.trialState) ++ zeros 1 ++
    leBytes 4 (s.image n).version)
  let s := s.bookRecover b.page staged
  let s : State := if s.reg K.journalState = 2 then s.setReg K.bookState 2
    else if s.reg K.runningCapacity = 0 then s.setReg K.bookState 3 else s
  let s : State := if st.kind = .watchdog then s.eventKey .stageManager 0 K.lastResetKind else s
  let s : State := if s.flag K.powerFlags 3 then s.eventKey .power 0 K.powerFlags else s
  let s : State := if c.reverted then s.eventKey .maintenance 0 K.trialState else s
  let s : State := if c.fallback || recovered then s.eventKey .security 0 K.securityFlags else s
  let s : State := if b.header then s else s.event .stageManager 0 0x2200 4
  let s : State := if b.imu then s else s.inputFault .imu 0 ifSelfTest
  let s := (List.range 48).foldl (fun (s : State) (n : Nat) =>
    ((s.setLs n { Ls.init with dT := s.jr.fuseSaved.get 0 n }).showWire n).showRating n) s
  s.replay kind b

/-- The recovery loader starts (R564): only CAN0 has an SDO session, items in flight stay. -/
def State.recoveryStart (s : State) (c : BootChoice) : State :=
  let s : State := if c.reverted then s.trialReverts else s
  let s := (s.setReg K.securityState 1).setFlag K.securityFlags 0 true
  s.openSession 0 (slotSource 0)

/-- The start that is due: on applying the supply, or the one that the last reset or a wake left (R546, R548, R550). -/
def State.startDue (s : State) (b : Boot) : Option Start :=
  if s.power.phase = .up || b.mV.toNat < 6000 then none
  else if b.supply then some ⟨.supplyLoss, 4, 0xFF⟩ else s.power.start

/-- START_UP (R541, R548, R563, R564). An island runtime that fails its check leaves the module in safe off, serving nothing. -/
def execStartUp (b : Boot) (s : State) : Out :=
  match s.startDue b with
  | none => .next s
  | some st =>
    if !b.island then .next (s.logicOff .off none)
    else
      let recovered := s.inRecovery
      let c := s.selectImage b
      let s := s.rebooted.readPins st b
      match c.image with
      | some n => .next (s.normalStart st b c n recovered)
      | none => .next (s.recoveryStart c)

/-- REPLAY_CUE_WAIT_END (R87): the wait of the cue in slot `k` ends, and with the last one replay. -/
def execReplayCueWaitEnd (k : Fin 4096) (s : State) : Out :=
  if (s.cue k).jseq ∈ s.jr.replayWait then .next (s.settleCue k).replayEnd else .next s

end Sys2Proof.Machine
end

