-- ==== Sys2Proof/Machine/Dispatch.lean ====
section
/-!
DEFINITION. The dispatch: each command's meaning.
-/
namespace Sys2Proof.Machine

/-- A command's effect on everything but the queue. -/
def exec (i : Instr) (s : State) : Host.Outcome State Fault Refusal :=
  match i with
  | .openSession vlan port frame => Sys2Proof.Machine.execOpenSession vlan port frame s
  | .closeSession vlan port frame => Sys2Proof.Machine.execCloseSession vlan port frame s
  | .keepalive vlan port frame => Sys2Proof.Machine.execKeepalive vlan port frame s
  | .read vlan port frame => Sys2Proof.Machine.execRead vlan port frame s
  | .write vlan port frame => Sys2Proof.Machine.execWrite vlan port frame s
  | .describe vlan port frame => Sys2Proof.Machine.execDescribe vlan port frame s
  | .abort vlan port frame => Sys2Proof.Machine.execAbort vlan port frame s
  | .sdoInitiateDownload p frame => Sys2Proof.Machine.execSdoInitiateDownload p frame s
  | .sdoDownloadSegment p frame => Sys2Proof.Machine.execSdoDownloadSegment p frame s
  | .sdoInitiateUpload p frame => Sys2Proof.Machine.execSdoInitiateUpload p frame s
  | .sdoUploadSegment p frame => Sys2Proof.Machine.execSdoUploadSegment p frame s
  | .sdoAbortTransfer p frame => Sys2Proof.Machine.execSdoAbortTransfer p frame s
  | .sdoTimeout p => Sys2Proof.Machine.execSdoTimeout p s
  | .sessionIdleTimeout slot => Sys2Proof.Machine.execSessionIdleTimeout slot s
  | .sdoServerEnableChange p => Sys2Proof.Machine.execSdoServerEnableChange p s
  | .entryWrite slot idx sub value => Sys2Proof.Machine.execEntryWrite slot idx sub value s
  | .interfaceSettingsChange => Sys2Proof.Machine.execInterfaceSettingsChange s
  | .restoreDefaults slot value => Sys2Proof.Machine.execRestoreDefaults slot value s
  | .completionRecordWrite => Sys2Proof.Machine.execCompletionRecordWrite s
  | .functionDisableSafePoint => Sys2Proof.Machine.execFunctionDisableSafePoint s
  | .replayCueWaitEnd k => Sys2Proof.Machine.execReplayCueWaitEnd k s
  | .mramCopyFailure b => Sys2Proof.Machine.execMramCopyFailure b s
  | .lockstepCoreFailure => Sys2Proof.Machine.execLockstepCoreFailure s
  | .axisPublishStep => Sys2Proof.Machine.execAxisPublishStep s
  | .axisEnable slot n value => Sys2Proof.Machine.execAxisEnable slot n value s
  | .wheelSampleTimeout n => Sys2Proof.Machine.execWheelSampleTimeout n s
  | .gnssAbsentTimeout n => Sys2Proof.Machine.execGnssAbsentTimeout n s
  | .gnssGateTimeout n => Sys2Proof.Machine.execGnssGateTimeout n s
  | .standstillEntry n => Sys2Proof.Machine.execStandstillEntry n s
  | .axisResume n => Sys2Proof.Machine.execAxisResume n s
  | .axisSnapshot => Sys2Proof.Machine.execAxisSnapshot s
  | .axisPreset slot n value => Sys2Proof.Machine.execAxisPreset slot n value s
  | .cueArm slot value => Sys2Proof.Machine.execCueArm slot value s
  | .cueDisarm slot cue => Sys2Proof.Machine.execCueDisarm slot cue s
  | .cueFire k => Sys2Proof.Machine.execCueFire k s
  | .delayLineWrite slot n value => Sys2Proof.Machine.execDelayLineWrite slot n value s
  | .lineEnable slot n value => Sys2Proof.Machine.execLineEnable slot n value s
  | .hitchModelStep n => Sys2Proof.Machine.execHitchModelStep n s
  | .hitchFallback n => Sys2Proof.Machine.execHitchFallback n s
  | .hitchFallbackClear n => Sys2Proof.Machine.execHitchFallbackClear n s
  | .sectionConfig slot n value => Sys2Proof.Machine.execSectionConfig slot n value s
  | .sectionMode slot n mode => Sys2Proof.Machine.execSectionMode slot n mode s
  | .manualSectionOn slot value => Sys2Proof.Machine.execManualSectionOn slot value s
  | .sectionScan n => Sys2Proof.Machine.execSectionScan n s
  | .axisHeldSwitchOff n => Sys2Proof.Machine.execAxisHeldSwitchOff n s
  | .degradedLimit n => Sys2Proof.Machine.execDegradedLimit n s
  | .coverageSweep n => Sys2Proof.Machine.execCoverageSweep n s
  | .markCommit n => Sys2Proof.Machine.execMarkCommit n s
  | .coverageArchiveWrite ok => Sys2Proof.Machine.execCoverageArchiveWrite ok s
  | .coverageClear slot layers => Sys2Proof.Machine.execCoverageClear slot layers s
  | .boundaryMaskLoad slot value => Sys2Proof.Machine.execBoundaryMaskLoad slot value s
  | .boundaryMaskClear slot value => Sys2Proof.Machine.execBoundaryMaskClear slot value s
  | .tcClientConnect address elements sections => Sys2Proof.Machine.execTcClientConnect address elements sections s
  | .actualCondensedWorkState c element group value => Sys2Proof.Machine.execActualCondensedWorkState c element group value s
  | .tcClientLost c addressLost => Sys2Proof.Machine.execTcClientLost c addressLost s
  | .fusionEnable slot value => Sys2Proof.Machine.execFusionEnable slot value s
  | .projectionFrame => Sys2Proof.Machine.execProjectionFrame s
  | .projectionOverrun => Sys2Proof.Machine.execProjectionOverrun s
  | .fusionStepClose => Sys2Proof.Machine.execFusionStepClose s
  | .networkRunEnd edges band spout tank tracks => Sys2Proof.Machine.execNetworkRunEnd edges band spout tank tracks s
  | .stepOverrun => Sys2Proof.Machine.execStepOverrun s
  | .stepFreeRun => Sys2Proof.Machine.execStepFreeRun s
  | .fusionReset slot value => Sys2Proof.Machine.execFusionReset slot value s
  | .stateHoldLimit => Sys2Proof.Machine.execStateHoldLimit s
  | .bandWrite => Sys2Proof.Machine.execBandWrite s
  | .stopHoldEnd => Sys2Proof.Machine.execStopHoldEnd s
  | .stopWatchdog => Sys2Proof.Machine.execStopWatchdog s
  | .stopAcknowledge slot value => Sys2Proof.Machine.execStopAcknowledge slot value s
  | .stopCanFrame => Sys2Proof.Machine.execStopCanFrame s
  | .stopEnable slot value => Sys2Proof.Machine.execStopEnable slot value s
  | .frameStart port vc number => Sys2Proof.Machine.execFrameStart port vc number s
  | .imageLine port vc ty headerBad crcBad taken pixels => Sys2Proof.Machine.execImageLine port vc ty headerBad crcBad taken pixels s
  | .embeddedDataLine port vc ty payload => Sys2Proof.Machine.execEmbeddedDataLine port vc ty payload s
  | .frameEnd port vc number => Sys2Proof.Machine.execFrameEnd port vc number s
  | .noStart n => Sys2Proof.Machine.execNoStart n s
  | .outputDeadline n => Sys2Proof.Machine.execOutputDeadline n s
  | .memoryPassFrame => Sys2Proof.Machine.execMemoryPassFrame s
  | .frameDescriptorIssue n => Sys2Proof.Machine.execFrameDescriptorIssue n s
  | .aphyLinkDrop p => Sys2Proof.Machine.execAphyLinkDrop p s
  | .aphyLinkUp p gears => Sys2Proof.Machine.execAphyLinkUp p gears s
  | .pocTrip p mA => Sys2Proof.Machine.execPocTrip p mA s
  | .pclkAbsent hz held => Sys2Proof.Machine.execPclkAbsent hz held s
  | .fsyncPeriodicPulse o => Sys2Proof.Machine.execFsyncPeriodicPulse o s
  | .inlineBypass slot value => Sys2Proof.Machine.execInlineBypass slot value s
  | .inlinePathFault => Sys2Proof.Machine.execInlinePathFault s
  | .correctionWrite slot n obj sub value => Sys2Proof.Machine.execCorrectionWrite slot n obj sub value s
  | .settingsCommit slot n value => Sys2Proof.Machine.execSettingsCommit slot n value s
  | .settingsSend n => Sys2Proof.Machine.execSettingsSend n s
  | .i2cWriteAck n ack => Sys2Proof.Machine.execI2cWriteAck n ack s
  | .encodePicture k busy => Sys2Proof.Machine.execEncodePicture k busy s
  | .streamEnable slot k value => Sys2Proof.Machine.execStreamEnable slot k value s
  | .sensorEnable slot n value => Sys2Proof.Machine.execSensorEnable slot n value s
  | .contextSample n parityError => Sys2Proof.Machine.execContextSample n parityError s
  | .ctxEnable slot n => Sys2Proof.Machine.execCtxEnable slot n s
  | .ctxDisable slot n => Sys2Proof.Machine.execCtxDisable slot n s
  | .ctxMode slot n mode => Sys2Proof.Machine.execCtxMode slot n mode s
  | .contextEntryWrite slot n sub value => Sys2Proof.Machine.execContextEntryWrite slot n sub value s
  | .fallbackEntry n => Sys2Proof.Machine.execFallbackEntry n s
  | .fallbackExit n => Sys2Proof.Machine.execFallbackExit n s
  | .rehearsalStart slot n value => Sys2Proof.Machine.execRehearsalStart slot n value s
  | .rehearsalStop slot n value => Sys2Proof.Machine.execRehearsalStop slot n value s
  | .notTriggered n => Sys2Proof.Machine.execNotTriggered n s
  | .stickyClear slot n mask => Sys2Proof.Machine.execStickyClear slot n mask s
  | .stitchEnd ch mA => Sys2Proof.Machine.execStitchEnd ch mA s
  | .stitchBoost ch mA => Sys2Proof.Machine.execStitchBoost ch mA s
  | .stitchPeak ch mA => Sys2Proof.Machine.execStitchPeak ch mA s
  | .stitchHold ch mA => Sys2Proof.Machine.execStitchHold ch mA s
  | .stitchRamp ch mA => Sys2Proof.Machine.execStitchRamp ch mA s
  | .stitchFreewheel ch mA => Sys2Proof.Machine.execStitchFreewheel ch mA s
  | .stitchClamp ch mA => Sys2Proof.Machine.execStitchClamp ch mA s
  | .stitchWindow ch => Sys2Proof.Machine.execStitchWindow ch s
  | .stitchDither ch => Sys2Proof.Machine.execStitchDither ch s
  | .stitchLoop ch => Sys2Proof.Machine.execStitchLoop ch s
  | .stitchHoldExt ch mA => Sys2Proof.Machine.execStitchHoldExt ch mA s
  | .stitchTimerExpiry ch => Sys2Proof.Machine.execStitchTimerExpiry ch s
  | .stitchCurrentReached ch mA => Sys2Proof.Machine.execStitchCurrentReached ch mA s
  | .bankArbitrate b boost => Sys2Proof.Machine.execBankArbitrate b boost s
  | .boostDeferExpiry ch mA => Sys2Proof.Machine.execBoostDeferExpiry ch mA s
  | .maxOnTime ch => Sys2Proof.Machine.execMaxOnTime ch s
  | .dutyBinBoundary ch => Sys2Proof.Machine.execDutyBinBoundary ch s
  | .svCommandStart slot ch program => Sys2Proof.Machine.execSvCommandStart slot ch program s
  | .svCommandRelease slot ch => Sys2Proof.Machine.execSvCommandRelease slot ch s
  | .svEnable slot ch value => Sys2Proof.Machine.execSvEnable slot ch value s
  | .svSelfTest slot ch value => Sys2Proof.Machine.execSvSelfTest slot ch value s
  | .svFaultClear slot ch value => Sys2Proof.Machine.execSvFaultClear slot ch value s
  | .stitchProgramWrite slot p value => Sys2Proof.Machine.execStitchProgramWrite slot p value s
  | .openLoad ch mA held => Sys2Proof.Machine.execOpenLoad ch mA held s
  | .overcurrent ch mA desaturated => Sys2Proof.Machine.execOvercurrent ch mA desaturated s
  | .shortToSupply ch mV held => Sys2Proof.Machine.execShortToSupply ch mV held s
  | .decayStuck ch => Sys2Proof.Machine.execDecayStuck ch s
  | .overtemp ch temp => Sys2Proof.Machine.execOvertemp ch temp s
  | .regLow ch mA held => Sys2Proof.Machine.execRegLow ch mA held s
  | .boostFailed b mV held => Sys2Proof.Machine.execBoostFailed b mV held s
  | .supplyLow b mV => Sys2Proof.Machine.execSupplyLow b mV s
  | .bankOverload b mA held => Sys2Proof.Machine.execBankOverload b mA held s
  | .lsDuty slot ch duty => Sys2Proof.Machine.execLsDuty slot ch duty s
  | .inrushEnd ch => Sys2Proof.Machine.execInrushEnd ch s
  | .slewFallback ch temp => Sys2Proof.Machine.execSlewFallback ch temp s
  | .slewEnd ch => Sys2Proof.Machine.execSlewEnd ch s
  | .overload ch mA held => Sys2Proof.Machine.execOverload ch mA held s
  | .short ch mA desat low => Sys2Proof.Machine.execShort ch mA desat low s
  | .fuseStep ch mean meanSq peak => Sys2Proof.Machine.execFuseStep ch mean meanSq peak s
  | .lampDuty ch vPin iMean => Sys2Proof.Machine.execLampDuty ch vPin iMean s
  | .fuseSave => Sys2Proof.Machine.execFuseSave s
  | .thermalLatch ch temp => Sys2Proof.Machine.execThermalLatch ch temp s
  | .thermalLatchClear ch temp => Sys2Proof.Machine.execThermalLatchClear ch temp s
  | .restartCheck ch => Sys2Proof.Machine.execRestartCheck ch s
  | .retryWindow ch => Sys2Proof.Machine.execRetryWindow ch s
  | .lsFaultClear slot ch value => Sys2Proof.Machine.execLsFaultClear slot ch value s
  | .lsEnable slot ch value => Sys2Proof.Machine.execLsEnable slot ch value s
  | .groupShed g mean held => Sys2Proof.Machine.execGroupShed g mean held s
  | .groupTrip g mA held => Sys2Proof.Machine.execGroupTrip g mA held s
  | .groupReconnect slot g value => Sys2Proof.Machine.execGroupReconnect slot g value s
  | .segmentRetire ch ratio mA held gateFault => Sys2Proof.Machine.execSegmentRetire ch ratio mA held gateFault s
  | .segmentTest ch failed => Sys2Proof.Machine.execSegmentTest ch failed s
  | .openLoadOn ch mA held => Sys2Proof.Machine.execOpenLoadOn ch mA held s
  | .openLoadOff ch mV held => Sys2Proof.Machine.execOpenLoadOff ch mV held s
  | .lsShortToSupply ch mV held => Sys2Proof.Machine.execLsShortToSupply ch mV held s
  | .stuckOn ch mA held => Sys2Proof.Machine.execStuckOn ch mA held s
  | .feedLow g mV => Sys2Proof.Machine.execFeedLow g mV s
  | .finEdge n p0 p held peak => Sys2Proof.Machine.execFinEdge n p0 p held peak s
  | .noEdges n => Sys2Proof.Machine.execNoEdges n s
  | .finZero slot n value => Sys2Proof.Machine.execFinZero slot n value s
  | .ainOutOfRange n => Sys2Proof.Machine.execAinOutOfRange n s
  | .acuImpact n => Sys2Proof.Machine.execAcuImpact n s
  | .grainRateUpdate n => Sys2Proof.Machine.execGrainRateUpdate n s
  | .acuNoise n => Sys2Proof.Machine.execAcuNoise n s
  | .brgTareCommand slot n value => Sys2Proof.Machine.execBrgTareCommand slot n value s
  | .brgTareEnd n => Sys2Proof.Machine.execBrgTareEnd n s
  | .inputFaultDetect cls n bit held => Sys2Proof.Machine.execInputFaultDetect cls n bit held s
  | .inputFaultClear cls n bit held => Sys2Proof.Machine.execInputFaultClear cls n bit held s
  | .sensorSupplyLimit g mV held => Sys2Proof.Machine.execSensorSupplyLimit g mV held s
  | .converterCheck c diff => Sys2Proof.Machine.execConverterCheck c diff s
  | .imuStuck => Sys2Proof.Machine.execImuStuck s
  | .vmac place pred inv dst a b => Sys2Proof.Machine.execVmac place pred inv dst a b s
  | .dot place pred inv dst a b => Sys2Proof.Machine.execDot place pred inv dst a b s
  | .vmul place pred inv dst a b => Sys2Proof.Machine.execVmul place pred inv dst a b s
  | .aclr place pred inv dst => Sys2Proof.Machine.execAclr place pred inv dst s
  | .aout8 place pred inv dst a imm => Sys2Proof.Machine.execAout8 place pred inv dst a imm s
  | .aout32 place pred inv dst a imm => Sys2Proof.Machine.execAout32 place pred inv dst a imm s
  | .abias place pred inv dst a => Sys2Proof.Machine.execAbias place pred inv dst a s
  | .vbcast place pred inv dst a => Sys2Proof.Machine.execVbcast place pred inv dst a s
  | .adds place pred inv dst a b imm => Sys2Proof.Machine.execAdds place pred inv dst a b imm s
  | .subs place pred inv dst a b imm => Sys2Proof.Machine.execSubs place pred inv dst a b imm s
  | .muls place pred inv dst a b imm => Sys2Proof.Machine.execMuls place pred inv dst a b imm s
  | .macs place pred inv dst a b imm => Sys2Proof.Machine.execMacs place pred inv dst a b imm s
  | .min place pred inv dst a b imm => Sys2Proof.Machine.execMin place pred inv dst a b imm s
  | .max place pred inv dst a b imm => Sys2Proof.Machine.execMax place pred inv dst a b imm s
  | .shls place pred inv dst a imm => Sys2Proof.Machine.execShls place pred inv dst a imm s
  | .shra place pred inv dst a imm => Sys2Proof.Machine.execShra place pred inv dst a imm s
  | .cmp place pred inv dst a b imm => Sys2Proof.Machine.execCmp place pred inv dst a b imm s
  | .mov place pred inv dst a imm => Sys2Proof.Machine.execMov place pred inv dst a imm s
  | .and place pred inv dst a b imm => Sys2Proof.Machine.execAnd place pred inv dst a b imm s
  | .or place pred inv dst a b imm => Sys2Proof.Machine.execOr place pred inv dst a b imm s
  | .xor place pred inv dst a b imm => Sys2Proof.Machine.execXor place pred inv dst a b imm s
  | .not place pred inv dst a imm => Sys2Proof.Machine.execNot place pred inv dst a imm s
  | .sel place pred inv dst a b imm => Sys2Proof.Machine.execSel place pred inv dst a b imm s
  | .popc place pred inv dst a imm => Sys2Proof.Machine.execPopc place pred inv dst a imm s
  | .relu place pred inv dst a imm => Sys2Proof.Machine.execRelu place pred inv dst a imm s
  | .lut place pred inv dst a imm => Sys2Proof.Machine.execLut place pred inv dst a imm s
  | .sigm place pred inv dst a imm => Sys2Proof.Machine.execSigm place pred inv dst a imm s
  | .tanh place pred inv dst a imm => Sys2Proof.Machine.execTanh place pred inv dst a imm s
  | .quant place pred inv dst a imm => Sys2Proof.Machine.execQuant place pred inv dst a imm s
  | .ld place pred inv dst a imm => Sys2Proof.Machine.execLd place pred inv dst a imm s
  | .st place pred inv a b imm => Sys2Proof.Machine.execSt place pred inv a b imm s
  | .ldv place pred inv dst a imm => Sys2Proof.Machine.execLdv place pred inv dst a imm s
  | .stv place pred inv a b imm => Sys2Proof.Machine.execStv place pred inv a b imm s
  | .drd place pred inv dst a b imm => Sys2Proof.Machine.execDrd place pred inv dst a b imm s
  | .dwr place pred inv dst a b imm => Sys2Proof.Machine.execDwr place pred inv dst a b imm s
  | .dmaComplete place => Sys2Proof.Machine.execDmaComplete place s
  | .cellSend place pred inv a imm parityError => Sys2Proof.Machine.execCellSend place pred inv a imm parityError s
  | .recv place pred inv dst imm => Sys2Proof.Machine.execRecv place pred inv dst imm s
  | .bcast place pred inv a imm parityError => Sys2Proof.Machine.execBcast place pred inv a imm parityError s
  | .cellNop place pred inv => Sys2Proof.Machine.execCellNop place pred inv s
  | .cellLoop place pred inv imm => Sys2Proof.Machine.execCellLoop place pred inv imm s
  | .handover place pred inv => Sys2Proof.Machine.execHandover place pred inv s
  | .tstamp place pred inv dst => Sys2Proof.Machine.execTstamp place pred inv dst s
  | .objrd place pred inv dst imm => Sys2Proof.Machine.execObjrd place pred inv dst imm s
  | .objwr place pred inv a imm => Sys2Proof.Machine.execObjwr place pred inv a imm s
  | .linewr place pred inv a b imm => Sys2Proof.Machine.execLinewr place pred inv a b imm s
  | .cuearm place pred inv dst imm => Sys2Proof.Machine.execCuearm place pred inv dst imm s
  | .axrd place pred inv dst imm => Sys2Proof.Machine.execAxrd place pred inv dst imm s
  | .event place pred inv a imm => Sys2Proof.Machine.execEvent place pred inv a imm s
  | .repeatBoundary r => Sys2Proof.Machine.execRepeatBoundary r s
  | .regionPanels slot r value => Sys2Proof.Machine.execRegionPanels slot r value s
  | .prickingLoad slot n value => Sys2Proof.Machine.execPrickingLoad slot n value s
  | .prickingLoadEnd ok => Sys2Proof.Machine.execPrickingLoadEnd ok s
  | .prickingDelete slot n => Sys2Proof.Machine.execPrickingDelete slot n s
  | .sceneChange slot value => Sys2Proof.Machine.execSceneChange slot value s
  | .sceneStagingEnd r => Sys2Proof.Machine.execSceneStagingEnd r s
  | .sceneTrigger r => Sys2Proof.Machine.execSceneTrigger r s
  | .sceneSwitch r => Sys2Proof.Machine.execSceneSwitch r s
  | .sceneWaitLimit r => Sys2Proof.Machine.execSceneWaitLimit r s
  | .sceneCancel slot r => Sys2Proof.Machine.execSceneCancel slot r s
  | .sramEccError place line uncorrectable => Sys2Proof.Machine.execSramEccError place line uncorrectable s
  | .cellRotation q ok => Sys2Proof.Machine.execCellRotation q ok s
  | .cellMismatch place cause => Sys2Proof.Machine.execCellMismatch place cause s
  | .routeMove place spareOk => Sys2Proof.Machine.execRouteMove place spareOk s
  | .understudySwap slot place => Sys2Proof.Machine.execUnderstudySwap slot place s
  | .dramRowRepair bank row column event use => Sys2Proof.Machine.execDramRowRepair bank row column event use s
  | .dramChannelRetire channel => Sys2Proof.Machine.execDramChannelRetire channel s
  | .emmcBlockRetire block use => Sys2Proof.Machine.execEmmcBlockRetire block use s
  | .mramRebuild slot write same => Sys2Proof.Machine.execMramRebuild slot write same s
  | .inlinePathTest slot value => Sys2Proof.Machine.execInlinePathTest slot value s
  | .standbyCoreSelfTest ok => Sys2Proof.Machine.execStandbyCoreSelfTest ok s
  | .firmwareStage slot value => Sys2Proof.Machine.execFirmwareStage slot value s
  | .cancel slot => Sys2Proof.Machine.execCancel slot s
  | .nextStart slot => Sys2Proof.Machine.execNextStart slot s
  | .immediate slot => Sys2Proof.Machine.execImmediate slot s
  | .firmwareConfirm slot value => Sys2Proof.Machine.execFirmwareConfirm slot value s
  | .canFrameReceived p id format remote error data capture => Sys2Proof.Machine.execCanFrameReceived p id format remote error data capture s
  | .canFrameSent p outcome capture delay => Sys2Proof.Machine.execCanFrameSent p outcome capture delay s
  | .portEnable slot p value => Sys2Proof.Machine.execPortEnable slot p value s
  | .busOff p => Sys2Proof.Machine.execBusOff p s
  | .busOffRecovery p => Sys2Proof.Machine.execBusOffRecovery p s
  | .detectDwell p error => Sys2Proof.Machine.execDetectDwell p error s
  | .canTxConfig slot p b value => Sys2Proof.Machine.execCanTxConfig slot p b value s
  | .canTxData slot p b value => Sys2Proof.Machine.execCanTxData slot p b value s
  | .cyclicSend p b => Sys2Proof.Machine.execCyclicSend p b s
  | .sofLatch p counter => Sys2Proof.Machine.execSofLatch p counter s
  | .scheduleMatrix slot p value => Sys2Proof.Machine.execScheduleMatrix slot p value s
  | .scheduleEnable slot p value => Sys2Proof.Machine.execScheduleEnable slot p value s
  | .basicCycleStart p => Sys2Proof.Machine.execBasicCycleStart p s
  | .slotWindowStart p n => Sys2Proof.Machine.execSlotWindowStart p n s
  | .slotWindowWithdraw p n => Sys2Proof.Machine.execSlotWindowWithdraw p n s
  | .addressClaimed p a name request => Sys2Proof.Machine.execAddressClaimed p a name request s
  | .isobusEnable slot p value => Sys2Proof.Machine.execIsobusEnable slot p value s
  | .transportProtocolMessage p id data capture => Sys2Proof.Machine.execTransportProtocolMessage p id data capture s
  | .canLoopTest slot p => Sys2Proof.Machine.execCanLoopTest slot p s
  | .controllerFailed p => Sys2Proof.Machine.execControllerFailed p s
  | .transceiverFault p fault held => Sys2Proof.Machine.execTransceiverFault p fault held s
  | .serviceRole slot p value => Sys2Proof.Machine.execServiceRole slot p value s
  | .sync p number seqId oneStep origin correction log sub => Sys2Proof.Machine.execSync p number seqId oneStep origin correction log sub s
  | .followUp p number seqId origin correction => Sys2Proof.Machine.execFollowUp p number seqId origin correction s
  | .announce p number fields log => Sys2Proof.Machine.execAnnounce p number fields log s
  | .pdelayReq p seqId measured sub => Sys2Proof.Machine.execPdelayReq p seqId measured sub s
  | .syncTransmit p d => Sys2Proof.Machine.execSyncTransmit p d s
  | .txTimestamp p sub take => Sys2Proof.Machine.execTxTimestamp p sub take s
  | .receiptTimeout d sync => Sys2Proof.Machine.execReceiptTimeout d sync s
  | .ppsEdge => Sys2Proof.Machine.execPpsEdge s
  | .ppsLabel utc => Sys2Proof.Machine.execPpsLabel utc s
  | .revertTime => Sys2Proof.Machine.execRevertTime s
  | .holdoverLimit => Sys2Proof.Machine.execHoldoverLimit s
  | .acquireTimeout => Sys2Proof.Machine.execAcquireTimeout s
  | .nmeaDatagram vlan port l => Sys2Proof.Machine.execNmeaDatagram vlan port l s
  | .isobusGnssMessage p capture utc lat lon height quality speed course => Sys2Proof.Machine.execIsobusGnssMessage p capture utc lat lon height quality speed course s
  | .ethLinkChange p up => Sys2Proof.Machine.execEthLinkChange p up s
  | .dhcpDiscovery n lease => Sys2Proof.Machine.execDhcpDiscovery n lease s
  | .ethFrameIngress p fcsOk f => Sys2Proof.Machine.execEthFrameIngress p fcsOk f s
  | .pageCommit ok => Sys2Proof.Machine.execPageCommit ok s
  | .recordClearArm slot value => Sys2Proof.Machine.execRecordClearArm slot value s
  | .recordClear slot value => Sys2Proof.Machine.execRecordClear slot value s
  | .recordClearEraseEnd => Sys2Proof.Machine.execRecordClearEraseEnd s
  | .nonceExpiry slot => Sys2Proof.Machine.execNonceExpiry slot s
  | .yieldSample => Sys2Proof.Machine.execYieldSample s
  | .stripClose => Sys2Proof.Machine.execStripClose s
  | .poolClose => Sys2Proof.Machine.execPoolClose s
  | .stripDeposit => Sys2Proof.Machine.execStripDeposit s
  | .yieldTileArchive => Sys2Proof.Machine.execYieldTileArchive s
  | .lossUpdate => Sys2Proof.Machine.execLossUpdate s
  | .yieldCalibrate slot mass => Sys2Proof.Machine.execYieldCalibrate slot mass s
  | .loadReset slot value => Sys2Proof.Machine.execLoadReset slot value s
  | .openField slot f => Sys2Proof.Machine.execOpenField slot f s
  | .archiveErase slot f => Sys2Proof.Machine.execArchiveErase slot f s
  | .isoTaskdata slot f => Sys2Proof.Machine.execIsoTaskdata slot f s
  | .yieldTiles slot f => Sys2Proof.Machine.execYieldTiles slot f s
  | .coverageTiles slot f => Sys2Proof.Machine.execCoverageTiles slot f s
  | .exportBuildEnd ok => Sys2Proof.Machine.execExportBuildEnd ok s
  | .brokerConnect hello => Sys2Proof.Machine.execBrokerConnect hello s
  | .connack => Sys2Proof.Machine.execConnack s
  | .brokerDisconnect => Sys2Proof.Machine.execBrokerDisconnect s
  | .statusPublish => Sys2Proof.Machine.execStatusPublish s
  | .posPublish => Sys2Proof.Machine.execPosPublish s
  | .yieldPublish => Sys2Proof.Machine.execYieldPublish s
  | .dictReq frame => Sys2Proof.Machine.execDictReq frame s
  | .rendezvousUpdate => Sys2Proof.Machine.execRendezvousUpdate s
  | .rdvAccept cart => Sys2Proof.Machine.execRdvAccept cart s
  | .rendezvousCancel slot value => Sys2Proof.Machine.execRendezvousCancel slot value s
  | .frameLatch => Sys2Proof.Machine.execFrameLatch s
  | .uiRectWrite slot value => Sys2Proof.Machine.execUiRectWrite slot value s
  | .uiFlip slot value => Sys2Proof.Machine.execUiFlip slot value s
  | .uniformityMap slot value => Sys2Proof.Machine.execUniformityMap slot value s
  | .panelPowerUp slot write ok => Sys2Proof.Machine.execPanelPowerUp slot write ok s
  | .panelPowerDown slot write => Sys2Proof.Machine.execPanelPowerDown slot write s
  | .biasFault k mv held => Sys2Proof.Machine.execBiasFault k mv held s
  | .vddOvercurrent => Sys2Proof.Machine.execVddOvercurrent s
  | .tagUpdate => Sys2Proof.Machine.execTagUpdate s
  | .tagPhaseEnd => Sys2Proof.Machine.execTagPhaseEnd s
  | .tagStartupCheck cut => Sys2Proof.Machine.execTagStartupCheck cut s
  | .tagReservoirReady => Sys2Proof.Machine.execTagReservoirReady s
  | .zoneStep z temp failed => Sys2Proof.Machine.execZoneStep z temp failed s
  | .fanMeasurement f edges interval => Sys2Proof.Machine.execFanMeasurement f edges interval s
  | .fanStretchStart f => Sys2Proof.Machine.execFanStretchStart f s
  | .fanStartTimeout f => Sys2Proof.Machine.execFanStartTimeout f s
  | .fanRetryWaitEnd f => Sys2Proof.Machine.execFanRetryWaitEnd f s
  | .tachLost f ripple => Sys2Proof.Machine.execTachLost f ripple s
  | .fanRestart slot f value => Sys2Proof.Machine.execFanRestart slot f value s
  | .fanEnable slot f value => Sys2Proof.Machine.execFanEnable slot f value s
  | .comparator temp => Sys2Proof.Machine.execComparator temp s
  | .zoneShutdown => Sys2Proof.Machine.execZoneShutdown s
  | .holdupActive mV => Sys2Proof.Machine.execHoldupActive mV s
  | .brownout reserve level => Sys2Proof.Machine.execBrownout reserve level s
  | .overvoltage mV held => Sys2Proof.Machine.execOvervoltage mV held s
  | .overvoltageClear mV held => Sys2Proof.Machine.execOvervoltageClear mV held s
  | .logicSupplyLow mV => Sys2Proof.Machine.execLogicSupplyLow mV s
  | .wakePin active held => Sys2Proof.Machine.execWakePin active held s
  | .wakeOffDelay => Sys2Proof.Machine.execWakeOffDelay s
  | .standbyEntryWaitEnd => Sys2Proof.Machine.execStandbyEntryWaitEnd s
  | .canWake p frame => Sys2Proof.Machine.execCanWake p frame s
  | .startUp b => Sys2Proof.Machine.execStartUp b s
  | .watchdog => Sys2Proof.Machine.execWatchdog s
  | .moduleReset slot value => Sys2Proof.Machine.execModuleReset slot value s
  | .authChallengeRequest slot role => Sys2Proof.Machine.execAuthChallengeRequest slot role s
  | .authResponse slot value => Sys2Proof.Machine.execAuthResponse slot value s
  | .authDrop slot value => Sys2Proof.Machine.execAuthDrop slot value s
  | .challengeExpiry slot => Sys2Proof.Machine.execChallengeExpiry slot s
  | .lockoutExpiry => Sys2Proof.Machine.execLockoutExpiry s
  | .keyInstall slot value => Sys2Proof.Machine.execKeyInstall slot value s
  | .keyRevoke slot head sig => Sys2Proof.Machine.execKeyRevoke slot head sig s
  | .keyStoreClear slot value => Sys2Proof.Machine.execKeyStoreClear slot value s
  | .fleetKeyGenerate slot value => Sys2Proof.Machine.execFleetKeyGenerate slot value s
  | .glitchDetected => Sys2Proof.Machine.execGlitchDetected s
  | .firmwareStageEnd ok => Sys2Proof.Machine.execFirmwareStageEnd ok s
  | .archiveEraseEnd => Sys2Proof.Machine.execArchiveEraseEnd s
  | .openFieldEnd => Sys2Proof.Machine.execOpenFieldEnd s
  | .svSelfTestEnd ch pass => Sys2Proof.Machine.execSvSelfTestEnd ch pass s
  | .canLoopTestEnd p pass => Sys2Proof.Machine.execCanLoopTestEnd p pass s
  | .inlinePathTestEnd pass => Sys2Proof.Machine.execInlinePathTestEnd pass s
  | .holdupEnd mV => Sys2Proof.Machine.execHoldupEnd mV s
  | .bankSupplyReturn b mV => Sys2Proof.Machine.execBankSupplyReturn b mV s
  | .feedReturn g mV => Sys2Proof.Machine.execFeedReturn g mV s
  | .ppsLoss => Sys2Proof.Machine.execPpsLoss s
  | .ppsLabelWindowEnd => Sys2Proof.Machine.execPpsLabelWindowEnd s
  | .signaling p number log => Sys2Proof.Machine.execSignaling p number log s
  | .moduleTimeSave => Sys2Proof.Machine.execModuleTimeSave s
  | .operatingTimeSave => Sys2Proof.Machine.execOperatingTimeSave s
  | .lockoutTimeSave => Sys2Proof.Machine.execLockoutTimeSave s
  | .tagReservoirFault silent => Sys2Proof.Machine.execTagReservoirFault silent s
  | .ainSample n x => Sys2Proof.Machine.execAinSample n x s
  | .acuSample n x => Sys2Proof.Machine.execAcuSample n x s
  | .brgSample n raw excitation => Sys2Proof.Machine.execBrgSample n raw excitation s
  | .imuSample ax ay az wx wy wz => Sys2Proof.Machine.execImuSample ax ay az wx wy wz s

end Sys2Proof.Machine
end

