-- ==== Sys2Proof/Machine/Tick.lean ====
section
/-!
DEFINITION. One tick of the module clock (R2, R445, R446): what happens of itself while no command waits.
-/
namespace Sys2Proof.Machine

/-- What an ending tick has found: cues and scene triggers not yet passed (R107, R380), and the records offered in it (R470). -/
def State.endTick (s : State) : State := ((s.activeSlots.foldl State.markEvaluated s).markScenes).admitOffers

/-- The ends of the scrub and of the eMMC pass (R393), which take 24 h and 7 days (notes/assumptions/125.md). -/
def State.passEnds (s : State) : State :=
  let s : State := if s.tick % ticksS 86400 = 0 then s.setReg K.lastScrubEnd (s.now : Nat) else s
  if s.tick % ticksS 604800 = 0 then s.setReg K.lastVerifyEnd (s.now : Nat) else s

/-- A tick while the logic runs; in standby and without supply nothing changes (R459, R544). -/
def State.clockTick (s : State) : State :=
  if s.power.phase = .up then (s.endTick.notePublished.advanceClock.runDeferred.claimStands.loadsTick.fansTick.egressTick.prickingFlip).passEnds else s

end Sys2Proof.Machine
end

