-- ==== Sys2Proof/Safety.lean ====
section
/-!
DEFINITION. What counts as a safe run: the state keeps its canonical form, and no command stops the block.
-/
namespace Sys2Proof

open Sys2Proof.Machine

/-- The canonical form of the entries: rising keys, no listed value at its default. -/
abbrev Canonical (s : State) : Prop := cellsOkFn regDefault 0 s.regs.cells = true ∧ cellsOkFn blobDefault 0 s.blobs.cells = true

/-- A state from which one step goes on. -/
def SafeStep (s : State) : Prop := ∃ t, Machine.step s = .next t

/-- A command goes on, to a state that has `P`. -/
def Runs (c : Instr) (s : State) (P : State → Prop) : Prop := ∃ t, Machine.exec c s = .next t ∧ P t

/-- A command that does not act leaves the state as it is. -/
def Idles (c : Instr) (s : State) : Prop := Machine.exec c s = .next s

/-- A write that the module serves now and that passes every check of R41. -/
abbrev Writable (s : State) (slot idx sub : Nat) (data : Bytes) (r : WriteRule) : Prop :=
  s.serves = true ∧ (s.sess slot).isOpen = true ∧ s.reg K.busyState ≠ 1 ∧
  (s.heard slot).checkWrite slot ⟨idx, sub, 0, data⟩ r = none

/-- What every accepted write shows: the response with the entry's type, status 0 and the item's JournalSeq. -/
def Accepted (s t : State) (slot idx sub : Nat) : Prop :=
  t.lastReply =
    some ⟨0x11, 0x0B, s.sessionId slot, (s.sess slot).lastSeq, idx, sub, s.entryType idx sub, 0, 0, s.regN K.nextJournalSeq, 0, []⟩

/-- A write command completes: whenever its request passes every check, the command goes on, the write is accepted, and the
state after it has `P`. -/
def Writes (c : Instr) (s : State) (slot idx sub : Nat) (data : Bytes) (r : WriteRule) (P : State → Prop) : Prop :=
  Writable s slot idx sub data r → Runs c s (fun t => Accepted s t slot idx sub ∧ P t)

/-- The state that the acceptance of a write leaves, before the effect of the entry's rule (R33, R63): the item stands in the
journal, the session knows its number, and a long operation has made the interface busy. -/
def Machine.State.afterAccept (s : State) (slot : Nat) (q : WriteReq) (r : WriteRule) : State :=
  let d := s.entryDesc q.idx q.sub
  let src := (s.sess slot).sourceId
  let a := s.accept slot src (match d with
    | some d => d.acc
    | none => .rw) q.idx q.sub (match d with
    | some d => d.ty
    | none => .octets) q.data (r.aim s q.data)
  let a := a.setSess slot { a.sess slot with lastAccepted := s.regN K.nextJournalSeq }
  match r.long with
  | some op => a.beginBusy op src (s.regN K.nextJournalSeq)
  | none => a

/-- The state in which an accepted write takes its effect: the request is heard and accepted. -/
def Machine.State.taken (s : State) (slot idx sub : Nat) (data : Bytes) (r : WriteRule) : State :=
  (s.heard slot).afterAccept slot ⟨idx, sub, 0, data⟩ r

/-- A UDP frame reaches the operation `op` (R55, checks 1 to 3 of R595). -/
abbrev UdpFrameOk (s : State) (vlan port : BitVec 16) (frame : Bytes) (op : Nat) : Prop :=
  s.serves = true ∧ s.udpServed vlan.toNat = true ∧ port.toNat = 47920 ∧ udpFramed frame = true ∧ fieldU frame 2 1 = 1 ∧
  (udpReq frame).op = op

/-- The frame names the open session `n` and carries its next number (R59, R60, checks 4 to 6 of R595). -/
abbrev UdpInSession (s : State) (frame : Bytes) (n : Nat) : Prop :=
  s.udpSlot 7 15 (udpReq frame).sessionId = some n ∧ (udpReq frame).seq = ((s.sess n).lastSeq + 1) % 2 ^ 32

/-- The state in which a session's operation runs: the frame is heard and its number counted. -/
def Machine.State.counted (s : State) (n : Nat) (seq : Nat) : State :=
  let s := s.setSess n { s.sess n with lastReq := s.tick }
  s.setSess n { s.sess n with lastSeq := seq }

/-! Words of the statements. -/

/-- The cell at a place issues a word of the operation `q`, and its predicate lets it act (R359, R362). -/
abbrev CellGoes (s : State) (place : Nat) (q : CellWord) : Prop :=
  s.issues place q = true ∧ ((s.cell place).pred q.pred != q.invert) = true

/-- An operation of a cell completes: whenever the cell issues it, the cell goes on to its next instruction and the state after it has `P`. -/
def CellDoes (c : Instr) (s : State) (place : Nat) (q : CellWord) (P : State → Prop) : Prop :=
  CellGoes s place q → Runs c s fun t =>
    (t.cell place).pc = (s.cell place).advance.pc ∧ (t.cell place).loops = (s.cell place).advance.loops ∧ P t

/-- An operation of a cell writes the values `l`, saturated, to the lanes of `dst`, and nothing else: p0 and a destination that is no register stay. -/
def CellWrites (c : Instr) (s : State) (place : Nat) (q : CellWord) (dst : CellArg) (l : List Int) : Prop :=
  CellDoes c s place q fun t =>
    (∀ k, k < argLanes dst → dst ≠ .imm → dst ≠ .p 0 →
      (t.cell place).lane dst k = (match l[k]? with
        | some v => satLane (argWidth dst) v
        | none => (s.cell place).lane dst k)) ∧
    (∀ r k, r ≠ dst → k < argLanes r → (t.cell place).lane r k = (s.cell place).lane r k) ∧
    (t.cell place).sram = (s.cell place).sram ∧ (∀ p, p ≠ place → t.cell p = s.cell p) ∧ t = { s with cells := t.cells }

/-- Lane `k` of an operand for a destination. -/
def opLane (s : State) (place : Nat) (dst r : CellArg) (imm : BitVec 28) (k : Nat) : Int :=
  ((s.cell place).operand dst r (immOf imm)).getD k 0

/-- A result for each lane of a destination. -/
def lanesOf (dst : CellArg) (f : Nat → Int) : List Int := (List.range (argLanes dst)).map f

/-- Every field but the numbered entries is as in `s`. -/
abbrev Machine.State.afterEvent (s t : State) : State := { s with regs := t.regs }

/-- Every field is as in `s` but those that a write command changes: the numbered entries, the sessions, the last response and the
journal. -/
abbrev Machine.State.afterWrite (s t : State) : State :=
  { s with regs := t.regs, sessions := t.sessions, lastReply := t.lastReply, jr := t.jr }

/-- As State.afterWrite; the entries of bytes may change too. -/
abbrev Machine.State.afterSetting (s t : State) : State := { s.afterWrite t with blobs := t.blobs }

/-- What a command leaves unchanged: every next state of `c` is the state before it, but for the fields that `f` takes from the next
state. -/
def Changes (c : Instr) (f : State → State → State) : Prop := ∀ s t : State, Machine.exec c s = .next t → t = f s t

end Sys2Proof
end

