-- ==== Sys2Proof/Certificates/Slice0/Obligations.lean ====
section
/-!
DEFINITION. The statements for the provers, chapter by chapter of the spec. `Runs c s P` says that the command goes on to a next state
with P; `Writes` says the same of a write that passes its checks, and that it is accepted; both are in Sys2Proof/Safety.lean.
-/
open Sys2Proof Sys2Proof.Machine

/-! ### The queue, the clock and the state after reset -/

/-- The command at the front of the queue runs on the state with the queue's rest. -/
def Obligations.StepRunsFrontCommand : Prop :=
  ∀ (s : State) (c : Instr) (rest : List Instr), s.pending = c :: rest →
    Machine.step s = Machine.exec c { s with pending := rest }

/-- With no command waiting a step is one tick of the module clock: while the logic runs the tick count rises by one and module
time by what R446 gives; in standby and without supply nothing changes (the model's choice, notes/assumptions/1.md). -/
def Obligations.EmptyQueueStepIsOneTick : Prop :=
  ∀ s : State, s.pending = [] →
    ∃ t, Machine.step s = .next t ∧ t.pending = [] ∧
      (s.power.phase = .up → t.tick = s.tick + 1 ∧ t.now = s.now + 10 * ((s.clock.frac + s.clock.incr) / 2 ^ 32)) ∧
      (s.power.phase ≠ .up → t = s)

/-- The state after reset: every entry at its default, in canonical form, no command waiting; the values that the tables of
R65, R84, R125 and R439 give for the first start are the ones that a read shows. -/
def Obligations.ResetHoldsTheDefaults : Prop :=
  Canonical State.reset ∧ State.reset.pending = [] ∧
  (∀ k, State.reset.reg k = regDefault k) ∧ (∀ k, State.reset.blob k = blobDefault k) ∧
  State.reset.reg K.nextJournalSeq = 1 ∧ State.reset.reg K.journalState = 0 ∧ State.reset.reg K.epoch = 0 ∧
  State.reset.reg K.lastResetKind = 0 ∧ State.reset.reg K.busyState = 0 ∧ State.reset.reg K.dictVlanId = 100 ∧
  State.reset.reg K.sessionIdleTimeout = 30000 ∧ State.reset.reg K.sdoServerEnable = 1 ∧ State.reset.reg K.sdoTimeout = 500 ∧
  State.reset.reg K.sdoBlockSize = 64 ∧ (∀ n : Fin 16, State.reset.axisState n = axDisabled) ∧
  (∀ k : Fin 4096, (State.reset.cue k).state = .free)

/-- Every step keeps the canonical form of the entries: keys rise strictly and no listed entry stands at its default, so that
equal entries are equal data. It holds from every state that has the form, for every command and for the tick. -/
def Obligations.EveryStepKeepsCanonicalForm : Prop :=
  ∀ s t : State, Canonical s → Machine.step s = .next t → Canonical t

/-- No command stops the block, and none touches the queue: from every state in canonical form exec answers a next state with
the same queue, in canonical form, and the count of free values drawn never falls. -/
def Obligations.NoCommandStopsTheBlock : Prop :=
  ∀ (c : Instr) (s : State), Canonical s →
    ∃ t, Machine.exec c s = .next t ∧ Canonical t ∧ t.pending = s.pending ∧ s.fresh ≤ t.fresh

/-! ### Requests (02_object_dictionary.md) -/

/-- A write that a check of R41 refuses is answered with that check's code and leaves no item: the items in flight, the records
of the journal and the next JournalSeq stay as they are, and the interface does not become busy (R33). While the interface is busy a
write is refused with BUSY and counted in BusyRefusals, and nothing is accepted (R63). -/
def Obligations.RefusedWritesLeaveNoItem : Prop :=
  (∀ (s : State) (slot : Fin 16) (idx : BitVec 16) (sub : BitVec 8) (d : Bytes) (a : Abort),
    s.serves = true → (s.sess slot).isOpen = true → s.reg K.busyState ≠ 1 →
    (s.heard slot).checkWrite slot ⟨idx.toNat, sub.toNat, 0, d⟩ (ruleOf idx.toNat sub.toNat) = some a →
    Runs (.entryWrite slot idx sub d) s fun t =>
      t.lastReply = some ⟨0x11, 0x0B, s.sessionId slot, (s.sess slot).lastSeq, idx.toNat, sub.toNat,
        s.entryType idx.toNat sub.toNat, 0, a.code, 0, 0, []⟩ ∧
      t.jr = s.jr ∧ t.reg K.nextJournalSeq = s.reg K.nextJournalSeq ∧ t.reg K.busyState = s.reg K.busyState) ∧
  (∀ (s : State) (slot : Fin 16) (idx : BitVec 16) (sub : BitVec 8) (d : Bytes),
    s.serves = true → (s.sess slot).isOpen = true → s.reg K.busyState = 1 →
    Runs (.entryWrite slot idx sub d) s fun t =>
      t.lastReply = some ⟨0x11, 0x0B, s.sessionId slot, (s.sess slot).lastSeq, idx.toNat, sub.toNat,
        s.entryType idx.toNat sub.toNat, 0, Abort.busy.code, 0, 0, []⟩ ∧
      t.jr = s.jr ∧ t.reg K.nextJournalSeq = s.reg K.nextJournalSeq ∧ t.reg K.busyState = 1 ∧
      t.reg K.busyRefusals = (s.bump K.busyRefusals).reg K.busyRefusals)

/-- An accepted write is one item: it takes the next JournalSeq of the module and the next SourceSeq of its source, and stands
last among the items in flight with the written value, until the effect of its entry takes it further. A source's first item receives 1, and each further one the number after the last
that the source table holds; the table then holds the new number (R75). -/
def Obligations.AcceptedWriteTakesTheNextNumbers : Prop :=
  ∀ (s : State) (slot : Fin 16) (idx sub : Nat) (d : Bytes) (r : WriteRule),
    ∃ it : Item, (s.taken slot idx sub d r).jr.items = s.jr.items ++ [it] ∧
      it.seq = s.regN K.nextJournalSeq ∧ it.source = (s.sess slot).sourceId ∧ it.slot = slot.val ∧ it.idx = idx ∧ it.sub = sub ∧
      it.data = d ∧ it.state = .accepted ∧ it.outcome = 0 ∧
      (s.taken slot idx sub d r).reg K.nextJournalSeq = (s.regN K.nextJournalSeq + 1 : Nat) ∧
      ((s.taken slot idx sub d r).sess slot).lastAccepted = it.seq ∧
      (∀ x, s.source (s.sess slot).sourceId = some x → it.srcSeq = x.accepted + 1) ∧
      (s.source (s.sess slot).sourceId = none → it.srcSeq = 1) ∧
      (∀ y, (s.taken slot idx sub d r).source (s.sess slot).sourceId = some y → y.accepted = it.srcSeq)

/-- A read is never accepted work: a READ, a DESCRIBE, an SDO upload and a READ on the fleet link leave the journal and the next
JournalSeq as they are. Each successful write is one item: whatever entry it is for, a write that passes the checks is accepted, its item
stands last among the items in flight with the next JournalSeq, the next number of the series is one higher, and the response carries
the item's number (R32). -/
def Obligations.OnlyWritesAreAcceptedWork : Prop :=
  (∀ (s : State) (vlan port : BitVec 16) (f : Bytes), ∀ c ∈ ([.read vlan port f, .describe vlan port f] : List Instr),
    Runs c s fun t => t.jr = s.jr ∧ t.reg K.nextJournalSeq = s.reg K.nextJournalSeq) ∧
  (∀ (s : State) (p : Fin 6) (id : BitVec 11) (w : BitVec 64), ∀ c ∈ ([.sdoInitiateUpload p ⟨id, w⟩, .sdoUploadSegment p ⟨id, w⟩] : List Instr),
    Runs c s fun t => t.jr = s.jr ∧ t.reg K.nextJournalSeq = s.reg K.nextJournalSeq) ∧
  (∀ (s : State) (f : Bytes), (udpReq f).op = opRead →
    Runs (.dictReq f) s fun t => t.jr = s.jr ∧ t.reg K.nextJournalSeq = s.reg K.nextJournalSeq) ∧
  (∀ (s : State) (slot : Fin 16) (idx : BitVec 16) (sub : BitVec 8) (d : Bytes) (u : State),
    u = s.taken slot idx.toNat sub.toNat d (ruleOf idx.toNat sub.toNat) →
    Writes (.entryWrite slot idx sub d) s slot idx.toNat sub.toNat d (ruleOf idx.toNat sub.toNat) fun t =>
      (∃ it, u.jr.items = s.jr.items ++ [it] ∧ it.seq = s.regN K.nextJournalSeq ∧ it.idx = idx.toNat ∧ it.sub = sub.toNat ∧ it.data = d) ∧
      u.reg K.nextJournalSeq = (s.regN K.nextJournalSeq + 1 : Nat) ∧
      t = { (ruleOf idx.toNat sub.toNat).effect u slot (s.regN K.nextJournalSeq) d with lastReply := t.lastReply })

/-- A write to a setting whose chapter gives it no more than a check is in force when its item is DONE (R32, R34): the entry holds
the written value, whether or not it is the value in force, and its response carries the item's number. RESTORE_DEFAULTS with one such entry in
its list puts that entry's default in force; with the interface's settings waiting, INTERFACE_SETTINGS_CHANGE puts the waiting
value in force and no setting waits any more (R67, R68). -/
def Obligations.SettingsComeIntoForce : Prop :=
  (∀ (s : State) (slot : Fin 16) (idx : BitVec 16) (sub : BitVec 8) (d : Bytes) (x : Desc)
    (chk : State → Bytes → Option Abort),
    ruleOf idx.toNat sub.toNat = settingRule idx.toNat sub.toNat chk → s.entryDesc idx.toNat sub.toNat = some x →
    Writes (.entryWrite slot idx sub d) s slot idx.toNat sub.toNat d (ruleOf idx.toNat sub.toNat) fun t =>
      (x.ty.isBytes = false → t.reg (key idx.toNat sub.toNat) = x.ty.decode d) ∧
      (x.ty.isBytes = true → t.blob (key idx.toNat sub.toNat) = d)) ∧
  (∀ (s : State) (slot : Fin 16) (v : BitVec 16) (idx sub : Nat) (x : Desc) (chk : State → Bytes → Option Abort),
    (s.taken slot 0x1040 0 (leBytes 2 v.toNat) restoreRule).restoreList slot (wval (leBytes 2 v.toNat)) =
      [((idx, sub), (x.ty.encode (regDefault (key idx sub)), settingOf idx sub))] →
    settingOf idx sub = settingRule idx sub chk → s.entryDesc idx sub = some x → x.ty.isBytes = false →
    Writes (.restoreDefaults slot v) s slot 0x1040 0 (leBytes 2 v.toNat) restoreRule fun t =>
      t.reg (key idx sub) = x.ty.decode (x.ty.encode (regDefault (key idx sub)))) ∧
  (∀ (s : State) (k : Nat) (v : Int) (seq : Nat), s.ifcPending = [(k, v, seq)] →
    Runs .interfaceSettingsChange s fun t => t.reg k = v ∧ t.ifcPending = [])

/-- The operations of a UDP session (R46, R58, R61, R62): a frame that passes checks 1 to 6 of R595 on an idle interface
has its operation's effect. OPEN opens the lowest free slot of 7-15 with the next generation; CLOSE ends the session;
KEEPALIVE restarts the idle timer; READ returns the value of an entry of up to 1,024 bytes in one frame; WRITE delivers a whole value, which is accepted
and answered with its number; DESCRIBE returns the description; ABORT discards the unfinished transfer. -/
def Obligations.UdpOperationsTakeEffect : Prop :=
  (∀ (s : State) (vlan port : BitVec 16) (f : Bytes) (n : Nat),
    UdpFrameOk s vlan port f opOpen → s.reg K.busyState ≠ 1 → (udpReq f).data.length = 4 →
    0 < leNat (udpReq f).data → leNat (udpReq f).data < 0xFFFFFF00 → n < 9 → (s.sess (n + 7)).isOpen = false →
    (∀ m < 9, (s.sess (m + 7)).isOpen = true → (s.sess (m + 7)).sourceId ≠ leNat (udpReq f).data) →
    (∀ m < n, (s.sess (m + 7)).isOpen = true) →
    Runs (.openSession vlan port f) s fun t =>
      (t.sess (n + 7)).isOpen = true ∧ (t.sess (n + 7)).sourceId = leNat (udpReq f).data ∧
      (t.sess (n + 7)).generation = (if (s.sess (n + 7)).generation = 255 then 1 else (s.sess (n + 7)).generation + 1) ∧
      (∃ r, t.lastReply = some r ∧ r.status = 0 ∧ r.sessionId = t.sessionId (n + 7))) ∧
  (∀ (s : State) (vlan port : BitVec 16) (f : Bytes) (n : Nat),
    UdpFrameOk s vlan port f opClose → UdpInSession s f n →
    Runs (.closeSession vlan port f) s fun t =>
      (t.sess n).isOpen = false ∧ (t.sess n).xfer = none ∧ (t.sess n).snap = none ∧ (t.sess n).role = 0 ∧
      t.lastReply = some ((udpReq f).answer 0 0)) ∧
  (∀ (s : State) (vlan port : BitVec 16) (f : Bytes) (n : Nat),
    UdpFrameOk s vlan port f opKeepalive → UdpInSession s f n → s.reg K.busyState ≠ 1 →
    Runs (.keepalive vlan port f) s fun t =>
      (t.sess n).lastReq = s.tick ∧ (t.sess n).isOpen = true ∧ t.lastReply = some ((udpReq f).answer 0 0)) ∧
  (∀ (s : State) (vlan port : BitVec 16) (f : Bytes) (n : Nat) (b : Bytes),
    UdpFrameOk s vlan port f opRead → UdpInSession s f n → s.reg K.busyState ≠ 1 → (udpReq f).first = true →
    (udpReq f).offset = 0 → b.length ≤ 1024 →
    (s.counted n (udpReq f).seq).readValue n (udpReq f).idx (udpReq f).sub (udpReq f).complete (udpReq f).ty = (none, b) →
    Runs (.read vlan port f) s fun t =>
      ∃ r, t.lastReply = some r ∧ r.status = 0 ∧ r.data = b ∧ r.total = b.length ∧ r.seq = (udpReq f).seq) ∧
  (∀ (s : State) (vlan port : BitVec 16) (f : Bytes) (n : Nat),
    UdpFrameOk s vlan port f opWrite → UdpInSession s f n → s.reg K.busyState ≠ 1 → (udpReq f).first = true →
    (udpReq f).last = true → (udpReq f).complete = false → (udpReq f).offset = 0 →
    (udpReq f).total = (udpReq f).data.length → s.isDomain (udpReq f).idx (udpReq f).sub = false →
    (((s.counted n (udpReq f).seq).dropTransfer n).dropTransfer n).checkWrite n
      ⟨(udpReq f).idx, (udpReq f).sub, (udpReq f).ty, (udpReq f).data⟩ (ruleOf (udpReq f).idx (udpReq f).sub) = none →
    Runs (.write vlan port f) s fun t =>
      ∃ r, t.lastReply = some r ∧ r.status = 0 ∧ r.jseq = s.regN K.nextJournalSeq ∧ r.seq = (udpReq f).seq) ∧
  (∀ (s : State) (vlan port : BitVec 16) (f : Bytes) (n : Nat) (b : Bytes),
    UdpFrameOk s vlan port f opDescribe → UdpInSession s f n → s.reg K.busyState ≠ 1 →
    (s.counted n (udpReq f).seq).indexPresent (udpReq f).idx = true →
    (s.counted n (udpReq f).seq).describe (udpReq f).idx (udpReq f).sub = some b →
    Runs (.describe vlan port f) s fun t => ∃ r, t.lastReply = some r ∧ r.status = 0 ∧ r.data = b) ∧
  (∀ (s : State) (vlan port : BitVec 16) (f : Bytes) (n : Nat),
    UdpFrameOk s vlan port f opAbort → UdpInSession s f n → s.reg K.busyState ≠ 1 →
    Runs (.abort vlan port f) s fun t =>
      (t.sess n).xfer = none ∧ (t.sess n).snap = none ∧ (t.sess n).isOpen = true ∧
      t.lastReply = some ((udpReq f).answer 0 0))

/-- The SDO servers (R50, R52, R53): requests come with identifier 0x600 and answers go out with 0x580, each plus the port's node-ID; an
expedited download that passes its checks is accepted and confirmed; a segment in order is taken
and confirmed with its toggle; an upload of up to 4 bytes returns the value at once; a segment of an upload carries the next 7 bytes; an abort
of the client ends the transfer with nothing accepted and no reply; no frame within SdoTimeout ends it with the abort message of
PROTOCOL_TIMEOUT; and a frame with another identifier is not the server's. -/
def Obligations.SdoTransfersTakeEffect : Prop :=
  (∀ (s : State) (p : Fin 6) (id : BitVec 11) (w : BitVec 64),
    s.sdoTakes p id = true → (s.sdoOf p).kind = .idle → s.reg K.busyState ≠ 1 →
    sdoCs (leBytes 8 w.toNat) / 32 = 1 → (sdoCs (leBytes 8 w.toNat)).testBit 1 = true →
    (sdoCs (leBytes 8 w.toNat)).testBit 4 = false →
    s.isDomain (sdoIdx (leBytes 8 w.toNat)) (sdoSub (leBytes 8 w.toNat)) = false →
    ((s.sdoHeard p).setSdo p Sdo.init).checkWrite p
      ⟨sdoIdx (leBytes 8 w.toNat), sdoSub (leBytes 8 w.toNat), 0, field (leBytes 8 w.toNat) 4
        (if (sdoCs (leBytes 8 w.toNat)).testBit 0 then 4 - sdoCs (leBytes 8 w.toNat) / 4 % 4 else 4)⟩
      (ruleOf (sdoIdx (leBytes 8 w.toNat)) (sdoSub (leBytes 8 w.toNat))) = none →
    Runs (.sdoInitiateDownload p ⟨id, w⟩) s fun t =>
      t.lastSdo = some ⟨p, 0x580 + t.sdoNode p, 0, sdoFrame 0x60 (sdoIdx (leBytes 8 w.toNat)) (sdoSub (leBytes 8 w.toNat)) []⟩) ∧
  (∀ (s : State) (p : Fin 6) (id : BitVec 11) (w : BitVec 64),
    s.sdoTakes p id = true → (s.sdoOf p).kind = .segDown → s.reg K.busyState ≠ 1 →
    sdoCs (leBytes 8 w.toNat) / 32 = 0 → (sdoCs (leBytes 8 w.toNat)).testBit 4 = (s.sdoOf p).toggle →
    (sdoCs (leBytes 8 w.toNat)).testBit 0 = false →
    (s.sdoHeard p).sdoMisfit p ((s.sdoHeard p).sdoOf p)
      ((s.sdoOf p).buf ++ field (leBytes 8 w.toNat) 1 (7 - sdoCs (leBytes 8 w.toNat) / 2 % 8)).length false = none →
    Runs (.sdoDownloadSegment p ⟨id, w⟩) s fun t =>
      (t.sdoOf p).buf = (s.sdoOf p).buf ++ field (leBytes 8 w.toNat) 1 (7 - sdoCs (leBytes 8 w.toNat) / 2 % 8) ∧
      (t.sdoOf p).toggle = !(s.sdoOf p).toggle ∧ (t.sdoOf p).lastFrame = s.tick ∧
      t.lastSdo = some ⟨p, 0x580 + s.sdoNode p, 0, leBytes 1 (0x20 + 16 * b2n (s.sdoOf p).toggle) ++ zeros 7⟩) ∧
  (∀ (s : State) (p : Fin 6) (id : BitVec 11) (w : BitVec 64) (b : Bytes),
    s.sdoTakes p id = true → (s.sdoOf p).kind = .idle → s.reg K.busyState ≠ 1 →
    sdoCs (leBytes 8 w.toNat) / 32 = 2 →
    (s.sdoHeard p).readValue p (sdoIdx (leBytes 8 w.toNat)) (sdoSub (leBytes 8 w.toNat))
      ((sdoCs (leBytes 8 w.toNat)).testBit 4) 0 = (none, b) →
    0 < b.length → b.length ≤ 4 → s.isDomain (sdoIdx (leBytes 8 w.toNat)) (sdoSub (leBytes 8 w.toNat)) = false →
    Runs (.sdoInitiateUpload p ⟨id, w⟩) s fun t =>
      t.lastSdo = some ⟨p, 0x580 + s.sdoNode p, 0,
        sdoFrame (0x43 + 4 * (4 - b.length)) (sdoIdx (leBytes 8 w.toNat)) (sdoSub (leBytes 8 w.toNat)) b⟩) ∧
  (∀ (s : State) (p : Fin 6) (id : BitVec 11) (w : BitVec 64),
    s.sdoTakes p id = true → (s.sdoOf p).kind = .segUp → s.reg K.busyState ≠ 1 → sdoCs (leBytes 8 w.toNat) / 32 = 3 →
    (sdoCs (leBytes 8 w.toNat)).testBit 4 = (s.sdoOf p).toggle → 7 < (s.sdoOf p).buf.length →
    Runs (.sdoUploadSegment p ⟨id, w⟩) s fun t =>
      t.lastSdo = some ⟨p, 0x580 + s.sdoNode p, 0, leBytes 1 (16 * b2n (s.sdoOf p).toggle) ++ (s.sdoOf p).buf.take 7⟩ ∧
      (t.sdoOf p).buf = (s.sdoOf p).buf.drop 7 ∧ (t.sdoOf p).toggle = !(s.sdoOf p).toggle) ∧
  (∀ (s : State) (p : Fin 6) (id : BitVec 11) (w : BitVec 64),
    s.sdoTakes p id = true → sdoCs (leBytes 8 w.toNat) = 0x80 →
    Runs (.sdoAbortTransfer p ⟨id, w⟩) s fun t => t.sdoOf p = Sdo.init ∧ t.lastSdo = s.lastSdo ∧ t.jr = s.jr ∧ t.regs = s.regs) ∧
  (∀ (s : State) (p : Fin 6) (id : BitVec 11) (w : BitVec 64), id.toNat ≠ 0x600 + s.sdoNode p →
    ∀ c ∈ ([.sdoInitiateDownload p ⟨id, w⟩, .sdoDownloadSegment p ⟨id, w⟩, .sdoInitiateUpload p ⟨id, w⟩, .sdoUploadSegment p ⟨id, w⟩,
      .sdoAbortTransfer p ⟨id, w⟩] : List Instr), Idles c s) ∧
  (∀ (s : State) (p : Fin 6),
    s.sdoOpen p = true → (s.sdoOf p).kind ≠ .idle → (s.sdoOf p).lastFrame + ticksMs (s.regN K.sdoTimeout) ≤ s.tick →
    Runs (.sdoTimeout p) s fun t =>
      t.sdoOf p = Sdo.init ∧ t.jr = s.jr ∧
      t.lastSdo = some ⟨p, 0x580 + s.sdoNode p, Abort.protocolTimeout.code,
        leBytes 1 0x80 ++ leBytes 2 (s.sdoOf p).idx ++ leBytes 1 (s.sdoOf p).sub ++ leBytes 4 Abort.protocolTimeout.code⟩)

/-- Sessions end and open of themselves (R43, R46): after SessionIdleTimeout a UDP session closes and is counted, a CAN session
falls back to OBSERVER and stays open; a CAN slot opens with its port's identity and the next generation when the port's server is
enabled, and closes when it is not. -/
def Obligations.SessionsFollowTimersAndServers : Prop :=
  (∀ (s : State) (n : Fin 16), s.serves = true → (s.sess n).isOpen = true → 7 ≤ n.val →
    ticksMs (s.regN K.sessionIdleTimeout) ≤ s.idleFrom (s.sess n).lastReq →
    Runs (.sessionIdleTimeout n) s fun t =>
      (t.sess n).isOpen = false ∧ (t.sess n).generation = (s.sess n).generation ∧
      t.reg K.sessionsExpired = (s.bump K.sessionsExpired).reg K.sessionsExpired) ∧
  (∀ (s : State) (n : Fin 16), s.serves = true → (s.sess n).isOpen = true → n.val < 6 →
    ticksMs (s.regN K.sessionIdleTimeout) ≤ s.idleFrom (s.sess n).lastReq →
    Runs (.sessionIdleTimeout n) s fun t =>
      (t.sess n).role = 0 ∧ (t.sess n).isOpen = true ∧ (t.sess n).sourceId = (s.sess n).sourceId) ∧
  (∀ (s : State) (p : Fin 6), s.serves = true → s.sdoRuns p = true → s.canFailed p = false → (s.sess p).isOpen = false →
    Runs (.sdoServerEnableChange p) s fun t =>
      (t.sess p).isOpen = true ∧ (t.sess p).sourceId = 0xFFFFFF00 + p.val ∧ (t.sess p).role = 0 ∧
      (t.sess p).generation = if (s.sess p).generation = 255 then 1 else (s.sess p).generation + 1) ∧
  (∀ (s : State) (p : Fin 6), s.serves = true → s.sdoRuns p = false → (s.sess p).isOpen = true →
    Runs (.sdoServerEnableChange p) s fun t => (t.sess p).isOpen = false ∧ t.sdoOf p = Sdo.init)

/-! ### The journal (03_accepted_work.md) -/

/-- A finished item gets its completion record once no earlier item of its source is in flight (R76): it leaves the items in
flight. An item that an earlier one of its source holds back stays. -/
def Obligations.CompletionKeepsTheOrderOfASource : Prop :=
  (∀ (s : State) (i : Item), s.reg K.journalState ≠ 2 → s.item i.seq = some i → i.state = .finished →
    (∀ j ∈ s.jr.items, j.source = i.source → i.srcSeq ≤ j.srcSeq) →
    Runs .completionRecordWrite s fun t => t.item i.seq = none) ∧
  (∀ (s : State) (i j : Item), s.item i.seq = some i → s.item j.seq = some j →
    j.source = i.source → j.srcSeq < i.srcSeq → j.state ≠ .finished →
    Runs .completionRecordWrite s fun t => t.item i.seq = some i ∧ t.item j.seq = some j)

/-- The journal's own events: a solenoid channel at rest whose disable has reached its maximum is disabled, with its item DONE
(R92); a cue that replay still holds once the resume of its axis has ended is MISSED and waited for no more (R87, R103, R105); a failed MRAM copy leaves SINGLE_COPY, both
UNAVAILABLE (R91); the standby core takes a failed core's place without a reset, sessions and items as they are (R89). -/
def Obligations.JournalEventsTakeEffect : Prop :=
  (∀ (s : State) (ch : Fin 32) (seq due : Nat), s.jr.disabling = [⟨aimSv ch, seq, due⟩] → due ≤ s.tick →
    s.reg (K.svState ch) = svOff →
    Runs .functionDisableSafePoint s fun t => t.jr.disabling = [] ∧ t.reg (K.svState ch) = svDisabled) ∧
  (∀ (s : State) (k : Fin 4096), (s.cue k).jseq ∈ s.jr.replayWait → (s.cue k).state = .held → (s.cue k).axis ≠ 16 →
    (s.axis (s.cue k).axis).resume = none → (∃ q ∈ s.jr.replayWait, q ≠ (s.cue k).jseq) →
    Runs (.replayCueWaitEnd k) s fun t => (t.cue k).state = .free ∧ (s.cue k).jseq ∉ t.jr.replayWait) ∧
  (∀ (s : State) (b : Bool), s.jr.copyA = true → s.jr.copyB = true →
    Runs (.mramCopyFailure b) s fun t => t.reg K.journalState = 1 ∧ t.jr.copyA = b ∧ t.jr.copyB = !b) ∧
  (∀ (s : State) (b : Bool), s.jr.copyA = !b → s.jr.copyB = b →
    Runs (.mramCopyFailure b) s fun t => t.reg K.journalState = 2 ∧ t.jr.copyA = false ∧ t.jr.copyB = false) ∧
  (∀ s : State, s.isUp = true → s.reg K.standbyCore = 0 →
    Runs .lockstepCoreFailure s fun t =>
      t.reg K.standbyCore = 1 ∧ t.sessions = s.sessions ∧ t.jr = s.jr ∧ t.power = s.power)

/-! ### Position axes, cues and delay lines (04_position_axes_and_cues.md) -/

/-- Axes start, stop and lose their sources (R95, R101, R102, R125). An accepted enable sets the axis INITIALISING at 0, an accepted disable
DISABLED; a preset puts the axis at its value, in motion as it was. At a publish instant each enabled axis that is not DISABLED stamps its publish step with
module time. A moving DEAD_RECKONING axis without a wheel sample for 100 ms is INVALID and holds its value; a VALID axis without an accepted fix
for 2 s is DEGRADED; a gate that has refused fixes for 10 s makes the axis INVALID; standstill sets the velocity to 0. At the
end of its resume a SHAFT axis restarts at 0 and waits for its index, its discontinuity counted; the snapshot of every enabled axis goes to the
journal header with its value and source (R103, R104). -/
def Obligations.AxesTakeEffect : Prop :=
  (∀ (s : State) (slot n : Fin 16), s.reg (K.axisEnable n) = 0 →
    Writes (.axisEnable slot n 1) s slot (0x2400 + n) 1 (leBytes 1 (1 : BitVec 8).toNat) (axisEnableRule n) fun t =>
      t.reg (K.axisEnable n) = 1 ∧ t.axisState n = axInitialising ∧ (t.axis n).s = 0 ∧ (t.axis n).v = 0 ∧ t.reg (K.axisFlags n) = 0) ∧
  (∀ (s : State) (slot n : Fin 16), s.reg (K.axisEnable n) = 1 →
    Writes (.axisEnable slot n 0) s slot (0x2400 + n) 1 (leBytes 1 (0 : BitVec 8).toNat) (axisEnableRule n) fun t =>
      t.reg (K.axisEnable n) = 0 ∧ t.axisState n = axDisabled ∧ t.axis n = Axis.init) ∧
  (∀ (s : State) (slot n : Fin 16) (v : Bytes),
    Writes (.axisPreset slot n v) s slot (0x2400 + n) 0x0F v (axisPresetRule n) fun t =>
      t.axisValue n = leInt v ∧ t.axisFine n = leInt v * 2 ^ 32 ∧ (t.axis n).vp = (s.axis n).vp ∧ (t.axis n).a = (s.axis n).a ∧
      t.reg (K.discontinuities n) = (s.bump (K.discontinuities n)).reg (K.discontinuities n)) ∧
  (∀ s : State, s.tick % 10000 = 0 →
    Runs .axisPublishStep s fun t => ∀ n : Fin 16, s.axisState n ≠ axDisabled → t.reg (K.publishTime n) = (s.now : Nat)) ∧
  (∀ (s : State) (n : Fin 16), s.axisIs n 1 = true → s.flag (K.axisFlags n) 0 = false →
    (s.axis n).lastWheel.getD (s.axis n).enabledAt + ticksMs 100 ≤ s.tick → s.axisUsable n = true →
    s.reg (K.standstillSpeed n) * 65536 ≤ absI (s.axis n).v →
    Runs (.wheelSampleTimeout n) s fun t =>
      t.axisState n = axInvalid ∧ (t.axis n).s = s.axisFine n ∧ (t.axis n).vp = 0 ∧ t.flag (K.axisFlags n) 5 = true) ∧
  (∀ (s : State) (n : Fin 16), s.axisIs n 1 = true → s.axisState n = axValid →
    (s.axis n).lastFix.getD (s.axis n).enabledAt + ticksS 2 ≤ s.tick →
    Runs (.gnssAbsentTimeout n) s fun t =>
      t.axisState n = axDegraded ∧ t.flag (K.axisFlags n) 2 = false ∧ t.axis n = s.axis n) ∧
  (∀ (s : State) (n : Fin 16) (t0 : Nat), s.axisIs n 1 = true → s.axisUsable n = true → (s.axis n).gateSince = some t0 →
    t0 + ticksS 10 ≤ s.tick →
    Runs (.gnssGateTimeout n) s fun t => t.axisState n = axInvalid ∧ (t.axis n).s = s.axisFine n ∧ (t.axis n).vp = 0) ∧
  (∀ (s : State) (n : Fin 16), s.reg (K.axisEnable n) = 1 → s.axisUsable n = true → s.axisAngular n = false →
    absI (s.axis n).v < s.reg (K.standstillSpeed n) * 65536 →
    (s.axis n).lastWheel.getD (s.axis n).enabledAt + ticksMs (s.regN (K.standstillTime n)) ≤ s.tick →
    Runs (.standstillEntry n) s fun t =>
      t.flag (K.axisFlags n) 0 = true ∧ (t.axis n).v = 0 ∧ (t.axis n).vp = 0 ∧ (t.axis n).a = 0 ∧ (t.axis n).vc = 0 ∧
      (t.axis n).s = s.axisFine n) ∧
  (∀ (s : State) (n : Fin 16) (r : Resume), (s.axis n).resume = some r → s.axisSource n = 2 →
    Runs (.axisResume n) s fun t =>
      (t.axis n).resume = none ∧ (t.axis n).s = 0 ∧ (t.axis n).awaitIndex = true ∧ t.axisState n = axInitialising ∧
      t.reg (K.discontinuities n) = (s.bump (K.discontinuities n)).reg (K.discontinuities n)) ∧
  (∀ (s : State) (n : Fin 16), s.reg (K.axisEnable n) = 1 →
    Runs .axisSnapshot s fun t =>
      t.jr.axisSnaps.get AxisSnap.init n = s.axisSnapshot n ∧ (s.axisSnapshot n).valid = true ∧
      (s.axisSnapshot n).source = s.regN (K.axisSource n) ∧ t.jr.items = s.jr.items ∧ t.axes = s.axes)

/-- A cue is armed and fires (R107, R112, R115, R119). An accepted arming puts the record into its slot, ARMED from
this tick, and counts it; a non-repeating dictionary cue that an evaluated tick finds exactly reached fires and frees its slot, a repeating one moves by its interval until its last fire (R116); one whose
first evaluation finds it passed is MISSED and counted. -/
def Obligations.CuesArmAndFire : Prop :=
  (∀ (s : State) (slot : Fin 16) (v : Bytes),
    Writes (.cueArm slot v) s slot 0x2420 0 v cueArmRule fun t =>
      (t.cue (cueRec v).slot).state = .armed ∧ (t.cue (cueRec v).slot).axis = (cueRec v).axis ∧
      (t.cue (cueRec v).slot).pos = (cueRec v).pos ∧ (t.cue (cueRec v).slot).armTick = s.tick ∧
      (t.cue (cueRec v).slot).effLead = s.effLead (cueRec v) ∧ (t.cue (cueRec v).slot).fires = 0 ∧
      (t.cue (cueRec v).slot).jseq = s.regN K.nextJournalSeq ∧ t.reg K.armedSlots = s.reg K.armedSlots + 1 ∧
      ∀ k, k ≠ (cueRec v).slot → t.cue k = s.cue k) ∧
  (∀ (s : State) (k : Fin 4096), (s.cue k).state = .armed → (s.cue k).armTick < s.tick → s.cuePast (s.cue k) = 0 →
    s.cueTargetFailed (s.cue k).kind (s.cue k).target = false → (s.cue k).flags.testBit 1 = false → (s.cue k).origin = 0 →
    (s.cue k).kind = 6 →
    Runs (.cueFire k) s fun t =>
      (t.cue k).state = .free ∧ (t.cue k).fires = min 65535 ((s.cue k).fires + 1) ∧ (t.cue k).lastFire = s.now ∧
      t.reg K.cuesFired = (s.bump K.cuesFired).reg K.cuesFired ∧ t.reg K.armedSlots = s.reg K.armedSlots - 1) ∧
  (∀ (s : State) (k : Fin 4096), (s.cue k).state = .armed → (s.cue k).armTick < s.tick → s.cuePast (s.cue k) = 0 →
    s.cueTargetFailed (s.cue k).kind (s.cue k).target = false →
    Runs (.cueFire k) s fun t =>
      (t.cue k).fires = min 65535 ((s.cue k).fires + 1) ∧
      ((s.cue k).flags.testBit 1 = false → (t.cue k).state = .free) ∧
      ((s.cue k).flags.testBit 1 = true → (s.cue k).fires + 1 < (s.cue k).repeats →
        (t.cue k).state = .armed ∧ (t.cue k).evaluated = false ∧
        (t.cue k).pos = (s.cue k).pos + (if (s.cue k).dir = 2 then -(s.cue k).interval else (s.cue k).interval))) ∧
  (∀ (s : State) (k : Fin 4096), (s.cue k).state = .armed → (s.cue k).armTick < s.tick → 0 < s.cuePast (s.cue k) →
    (s.cue k).evaluated = false →
    Runs (.cueFire k) s fun t =>
      (t.cue k).state = .free ∧ (t.cue k).fires = (s.cue k).fires ∧ t.lastAct = s.lastAct ∧
      t.reg K.cuesMissed = (s.bump K.cuesMissed).reg K.cuesMissed)

/-- A write to CueDisarm disarms the named slot in its tick (R118): the disarm completes DONE, and the cue ends CANCELLED; the slot is free and
counted out, the other slots stay. A disarm of a FREE slot completes DONE and changes no slot. A disarm of an internal slot aborts with
VALUE_HIGH and changes nothing. -/
def Obligations.CueDisarmEndsTheCue : Prop :=
  (∀ (s : State) (slot : Fin 16) (k : BitVec 16), s.item (s.regN K.nextJournalSeq) = none →
    (s.cue k.toNat).jseq ≠ s.regN K.nextJournalSeq →
    Writes (.cueDisarm slot k) s slot 0x2421 0 (leBytes 2 k.toNat) cueDisarmRule fun t =>
      t.tick = s.tick ∧ (t.cue k.toNat).state = .free ∧ (∀ j, j ≠ k.toNat → t.cue j = s.cue j) ∧
      (∃ i, t.item (s.regN K.nextJournalSeq) = some i ∧ i.state = .finished ∧ i.outcome = Outcome.done.code) ∧
      ((s.cue k.toNat).state = .free → t.cues = s.cues ∧ t.reg K.armedSlots = s.reg K.armedSlots) ∧
      ((s.cue k.toNat).state ≠ .free → t.reg K.armedSlots = s.reg K.armedSlots - 1 ∧
        ∀ i, (s.cue k.toNat).jseq ≠ 0 → s.item (s.cue k.toNat).jseq = some i → i.state ≠ .finished →
          ∃ j, t.item (s.cue k.toNat).jseq = some j ∧ j.state = .finished ∧ j.outcome = Outcome.cancelled.code)) ∧
  (∀ (s : State) (slot : Fin 16) (k : BitVec 16),
    s.serves = true → (s.sess slot).isOpen = true → s.reg K.busyState ≠ 1 →
    (s.heard slot).accessCheck slot 0x2421 0 = none → 4096 ≤ k.toNat + s.regN K.internalSlots →
    Runs (.cueDisarm slot k) s fun t =>
      (∃ r, t.lastReply = some r ∧ r.status = Abort.valueHigh.code) ∧ t.cues = s.cues ∧ t.jr = s.jr)

/-- An enabled delay line takes the entries of its writer in rising key (R122, R124): enabling clears the line, with its marks at the
tap positions; a write adds its entry last and moves LastKey; an entry at or below LastKey is refused, and nothing is added. -/
def Obligations.DelayLinesTakeEntries : Prop :=
  (∀ (s : State) (slot n : Fin 16), s.reg (K.lineEnable n) = 0 →
    Writes (.lineEnable slot n 1) s slot (0x2480 + n) 1 (leBytes 1 (1 : BitVec 8).toNat) (lineEnableRule n) fun t =>
      t.reg (K.lineEnable n) = 1 ∧ (t.line n).entries = [] ∧ (t.line n).hasKey = false ∧ (t.line n).marks = s.tapPositions n ∧
      t.reg (K.entriesHeld n) = 0) ∧
  (∀ (s : State) (slot n : Fin 16) (v : Bytes),
    Writes (.delayLineWrite slot n v) s slot (0x24A0 + n) 0 v (lineWriteRule n) fun t =>
      (t.line n).entries = (s.line n).entries ++ [(lineKey v, lineLanesOf v)] ∧ (t.line n).hasKey = true ∧
      (t.line n).marks = (s.line n).marks ∧ t.reg (K.lastKey n) = lineKey v ∧
      t.reg (K.entriesHeld n) = ((s.line n).entries.length + 1 : Nat) ∧ ∀ m, m ≠ n.val → t.line m = s.line m) ∧
  (∀ (s : State) (slot n : Fin 16) (v : Bytes), s.serves = true → (s.sess slot).isOpen = true → s.reg K.busyState ≠ 1 →
    (s.line n).hasKey = true → lineKey v ≤ s.reg (K.lastKey n) →
    Runs (.delayLineWrite slot n v) s fun t => t.lines = s.lines ∧ t.jr = s.jr ∧ t.reg (K.lastKey n) = s.reg (K.lastKey n))

/-! ### Implements, sections and coverage (05_sections_and_coverage.md) -/

/-- The hitch of a trailed implement (R134, R135). A model step turns the model by its yaw rate against its parent's; the angle in use is
the measured one, or the model's where there is no sensor or HITCH_FALLBACK stands. A disagreement of 1 s sets HITCH_FALLBACK and puts the model's
angle in use; 10 s of agreement clear it and set the model to the measured angle. -/
def Obligations.HitchFollowsSensorOrModel : Prop :=
  (∀ (s : State) (n : Fin 4), s.trailed n = true →
    Runs (.hitchModelStep n) s fun t =>
      (t.impl n).model = (s.impl n).model + turn100us
        ((s.childRates n (s.impl n).model (s.parentRates s.machineSpeed s.yawRate s.gammas n).1
            (s.parentRates s.machineSpeed s.yawRate s.gammas n).2).2 -
          (s.parentRates s.machineSpeed s.yawRate s.gammas n).2) ∧
      (t.impl n).gamma = (if s.reg (K.hitchAngleSource n) != 0 && !s.flag (K.implementFlags n) 0 then (s.hitchMeasured n).1
        else (t.impl n).model) ∧
      t.reg (K.hitchAngle n) = wrap32 (t.impl n).gamma ∧ ∀ m, m ≠ n.val → t.impl m = s.impl m) ∧
  (∀ (s : State) (n : Fin 4) (t0 : Nat), s.trailed n = true → s.reg (K.hitchAngleSource n) ≠ 0 → s.flag (K.implementFlags n) 0 = false →
    (s.impl n).disagree = some t0 → t0 + ticksS 1 ≤ s.tick →
    Runs (.hitchFallback n) s fun t =>
      t.flag (K.implementFlags n) 0 = true ∧ (t.impl n).gamma = (s.impl n).model ∧ t.reg (K.hitchAngle n) = wrap32 (s.impl n).model) ∧
  (∀ (s : State) (n : Fin 4) (t0 : Nat), s.flag (K.implementFlags n) 0 = true → (s.hitchMeasured n).2 = false →
    (s.impl n).agree = some t0 → t0 + ticksS 10 ≤ s.tick →
    Runs (.hitchFallbackClear n) s fun t =>
      t.flag (K.implementFlags n) 0 = false ∧ (t.impl n).gamma = (s.hitchMeasured n).1 ∧ (t.impl n).model = (s.hitchMeasured n).1)

/-- Sections are configured and switched (R139, R149, R151-R154). A SectionConfig write is in force and starts the section anew, off; the
mode and the manual map are in force; a scan shows the shares of the footprint at the present pose; an implement whose axis is
INVALID, or DEGRADED beyond its distance, gets its hold flag, and its sections that are off lose their armed change. -/
def Obligations.SectionsSwitch : Prop :=
  (∀ (s : State) (slot : Fin 16) (n : Fin 1024) (v : Bytes),
    Writes (.sectionConfig slot n v) s slot (0x2C00 + n.val / 8) (n.val % 8 + 1) v (sectionConfigRule n) fun t =>
      t.blob (K.sectionConfig (n.val / 8) (n.val % 8)) = v ∧ t.section n = Section.init) ∧
  (∀ (s : State) (slot : Fin 16) (n : Fin 4) (m : BitVec 8),
    Writes (.sectionMode slot n m) s slot (0x2800 + n) 0x17 (leBytes 1 m.toNat) (sectionModeRule n) fun t =>
      t.reg (K.sectionMode n) = (m.toNat : Int)) ∧
  (∀ (s : State) (slot : Fin 16) (v : Bytes),
    Writes (.manualSectionOn slot v) s slot 0x2820 0 v manualRule fun t => t.blob K.manualSectionOn = v) ∧
  (∀ (s : State) (n : Fin 1024), (s.secCfg n).path ≠ 0 → (s.secCfg n).impl < 4 →
    (s.clearHolds (s.secCfg n).impl).scanRuns (s.secCfg n).impl = true →
    (s.clearHolds (s.secCfg n).impl).sectionFailed (s.secCfg n) = false →
    Runs (.sectionScan n) s fun t =>
      (t.section n).c = 100 * (s.shares (s.secCfg n) (s.poseOf (s.secCfg n).impl)).1 / (s.shares (s.secCfg n) (s.poseOf (s.secCfg n).impl)).2.2.2 ∧
      (t.section n).o = 100 * (s.shares (s.secCfg n) (s.poseOf (s.secCfg n).impl)).2.1 / (s.shares (s.secCfg n) (s.poseOf (s.secCfg n).impl)).2.2.2) ∧
  (∀ (s : State) (i : Fin 4), s.reg (K.implementEnable i) = 1 → s.axisState (s.regN (K.sectionAxis i)) = axInvalid →
    Runs (.axisHeldSwitchOff i) s fun t =>
      t.flag (K.implementFlags i) 3 = true ∧
      ∀ n ∈ s.sectionsOf i, (s.section n).on = false → (t.section n).on = false ∧ (t.section n).cue = none) ∧
  (∀ (s : State) (i : Fin 4), s.reg (K.implementEnable i) = 1 → s.axisState (s.regN (K.sectionAxis i)) = axDegraded →
    s.reg (K.degradedDistance i) ≤ s.reg (K.degradedTravel i) →
    Runs (.degradedLimit i) s fun t =>
      t.flag (K.implementFlags i) 2 = true ∧
      ∀ n ∈ s.sectionsOf i, (s.section n).on = false → (t.section n).on = false ∧ (t.section n).cue = none)

/-- Coverage is swept, marked, archived and cleared, and the mask is loaded and removed (R142, R144, R145, R147, R148, R158). A due sweep
adds its marks behind the waiting ones; a ripe mark leaves the waiting marks and covers its cell; an archive write stores the DIRTY
tile in the open field; a cleared layer reads covered nowhere, and COVERAGE_FULL clears where no other layer has met a full region; the mask in force is the raster
of the value's rings. -/
def Obligations.CoverageIsMarkedAndCleared : Prop :=
  (∀ (s : State) (i : Fin 4), s.reg (K.implementEnable i) = 1 → (s.impl i).sweepTick + ticksMs 10 ≤ s.tick →
    Runs (.coverageSweep i) s fun t =>
      (t.impl i).sweepTick = s.tick ∧ (t.impl i).sweepPos = s.axisFine (s.regN (K.sectionAxis i)) ∧ s.cov.marks <+: t.cov.marks ∧
      t.cov.tiles = s.cov.tiles) ∧
  (∀ (s : State) (i : Fin 4) (m : Mark) (k : Nat), s.cov.marks = [m] → m.impl = i.val →
    m.pos + s.reg (K.markDelay i) * fineMm ≤ s.axisFine (s.regN (K.sectionAxis i)) →
    tileKey (m.i / 256) (m.j / 256) = some k → (s.tile k).present = true →
    Runs (.markCommit i) s fun t => t.cov.marks = [] ∧ t.covered m.layer m.i m.j = true ∧ (t.tile k).dirty = true) ∧
  (∀ (s : State) (i : Fin 4),
    Runs (.markCommit i) s fun t => ∀ m, m ∈ t.cov.marks ↔ m ∈ s.cov.marks ∧
      ¬ (m.impl = i.val ∧ m.pos + s.reg (K.markDelay i) * fineMm ≤ s.axisFine (s.regN (K.sectionAxis i)))) ∧
  (∀ (s : State) (f k : Nat), s.openFieldNo = some f → s.dirtyTiles = [k] →
    s.hasUnit ((s.fieldArc f).cov.get CovArc.init k != CovArc.init) = true →
    Runs (.coverageArchiveWrite true) s fun t =>
      (t.tile k).dirty = false ∧ (t.tile k).bits = (s.tile k).bits ∧
      (t.fieldArc f).cov.get CovArc.init k = ⟨s.regN K.coverageLayers, (s.tile k).bits⟩ ∧
      t.reg K.archiveTime = (s.now : Nat) ∧ t.cov.lastArchiveOk = s.tick ∧ t.flag K.coverageFlags 3 = false) ∧
  (∀ (s : State) (slot : Fin 16) (l : BitVec 8),
    Writes (.coverageClear slot l) s slot 0x2812 0 (leBytes 1 l.toNat) coverageClearRule fun t =>
      ((∀ b : Fin 4, s.cov.fullLayers.testBit b = true → l.toNat.testBit b = true) → t.flag K.coverageFlags 0 = false) ∧
      ∀ (layer : Nat) (i j : Int), l.toNat.testBit layer = true → layer < s.regN K.coverageLayers → t.covered layer i j = false) ∧
  (∀ (s : State) (slot : Fin 16) (v : Bytes) (l : List Ring), maskRingsOf v = some l →
    Writes (.boundaryMaskLoad slot v) s slot 0x2813 0 v maskLoadRule fun t =>
      t.cov.mask = some (rasterOf (s.regN K.coveragePitch) l) ∧ t.reg K.maskRings = (l.length : Nat) ∧ t.reg K.maskCrc = (fieldU v (v.length - 4) 4 : Nat) ∧
      t.flag K.coverageFlags 1 = true ∧ t.cov.tiles = s.cov.tiles) ∧
  (∀ (s : State) (slot : Fin 16) (v : BitVec 8),
    Writes (.boundaryMaskClear slot v) s slot 0x2814 0 (leBytes 1 v.toNat) maskClearRule fun t =>
      t.cov.mask = none ∧ t.reg K.maskRings = 0 ∧ t.reg K.maskCrc = 0 ∧ t.flag K.coverageFlags 1 = false ∧
      ∀ e n : Int, t.maskClass e n = 1)

/-- Task controller clients (R157, R160): a new client takes the first free place with its address and elements; a report of actual
states restarts the client's time and sets the applying state of each section that it names on or off; a lost client's
sections are off and its implement shows it. -/
def Obligations.TaskControllerClients : Prop :=
  (∀ (s : State) (a : BitVec 8) (el : List Nat) (secs : List TcSec) (c : Fin 4), s.reg K.tcEnable = 1 → el.length ≤ 64 →
    (∀ m < 4, ¬ ((s.client m).connected = true ∧ (s.client m).address = a.toNat)) → (s.client c).connected = false →
    (∀ m < c.val, (s.client m).connected = true) →
    Runs (.tcClientConnect a el secs) s fun t =>
      (t.client c).connected = true ∧ (t.client c).lost = false ∧ (t.client c).address = a.toNat ∧ (t.client c).elements = el ∧
      t.flag (K.implementFlags c) 5 = false) ∧
  (∀ (s : State) (c : Fin 4) (e : Fin 64) (g : Fin 16) (w : BitVec 32), (s.client c).connected = true → (s.client c).lost = false →
    Runs (.actualCondensedWorkState c e g w) s fun t =>
      (t.client c).lastActual = s.tick ∧
      ∀ (k : Fin 16) (n : Nat), (s.client c).sections.find? (fun n => let t := (s.secCfg n).target
          tcElement t == e.val && tcSection t == g.val * 16 + k.val) = some n → w.toNat / 4 ^ k.val % 4 < 2 →
        (t.section n).applying = (w.toNat / 4 ^ k.val % 4 == 1) ∧ (t.section n).due = []) ∧
  (∀ (s : State) (c : Fin 4), (s.client c).connected = true → (s.client c).lost = false →
    Runs (.tcClientLost c true) s fun t =>
      (t.client c).lost = true ∧ t.flag (K.implementFlags c) 5 = true ∧ ∀ n ∈ (s.client c).sections, (t.section n).on = false) ∧
  (∀ (s : State) (c : Fin 4), (s.client c).connected = true → (s.client c).lost = false → (s.client c).lastActual + ticksS 3 ≤ s.tick →
    Runs (.tcClientLost c false) s fun t => (t.client c).lost = true ∧ t.flag (K.implementFlags c) 5 = true)

/-! ### Alignment, fusion and the obstacle stop (06_fusion.md) -/

/-- The fusion service (R173, R184, R196). An accepted enable starts it WAITING with nothing staged and a reset due; a disable of an idle
network ends it DISABLED, with the stop output at STOP. A reset clears the network state, and the next step, or the one that waits, carries
STATE_RESET; or it waits for the end of the run. Without an
aligned reference sensor the next instant is one reference period on; a body older than StateHoldLimit clears the state. -/
def Obligations.FusionServiceStartsAndClears : Prop :=
  (∀ (s : State) (slot : Fin 16), s.reg K.fusionEnable ≠ 1 →
    Writes (.fusionEnable slot 1) s slot 0x3000 1 (leBytes 1 (1 : BitVec 8).toNat) fusionEnableRule fun t =>
      t.reg K.fusionEnable = 1 ∧ t.reg K.fusionState = fsWaiting ∧ t.fuse.staged = [] ∧ t.fuse.frames = [] ∧
      t.fuse.resetDue = true ∧ t.fuse.lastT = none) ∧
  (∀ (s : State) (slot : Fin 16), s.reg K.fusionEnable = 1 → s.fuse.running = none →
    Writes (.fusionEnable slot 0) s slot 0x3000 1 (leBytes 1 (0 : BitVec 8).toNat) fusionEnableRule fun t =>
      t.reg K.fusionEnable = 0 ∧ t.reg K.fusionState = fsDisabled ∧ t.reg K.stopState = 0 ∧ t.fuse.staged = [] ∧
      t.fuse.disableItems = []) ∧
  (∀ (s : State) (slot : Fin 16) (v : BitVec 8), s.reg K.fusionEnable = 1 → s.fuse.running = none →
    Writes (.fusionReset slot v) s slot 0x3001 0 (leBytes 1 v.toNat) fusionResetRule fun t =>
      (s.fuse.waiting = none → t.fuse.resetDue = true) ∧
      (∀ x, s.fuse.waiting = some x → ∃ y, t.fuse.waiting = some y ∧ y.flags = orBits x.flags 66) ∧
      t.fuse.net = ⟨[]⟩ ∧ t.fuse.prevPose = none ∧ t.fuse.lastBody = none ∧ t.fuse.resetItems = [] ∧
      t.reg K.stateResets = (s.bump K.stateResets).reg K.stateResets) ∧
  (∀ (s : State) (slot : Fin 16) (v : BitVec 8), s.reg K.fusionEnable = 1 → s.fuse.running.isSome = true →
    Writes (.fusionReset slot v) s slot 0x3001 0 (leBytes 1 v.toNat) fusionResetRule fun t =>
      t.fuse.clearAsked = true ∧ t.fuse.resetItems = s.fuse.resetItems ++ [s.regN K.nextJournalSeq] ∧ t.fuse.running = s.fuse.running) ∧
  (∀ (s : State) (t0 : Nat), s.fuse.lastT = some t0 → s.reg K.fusionEnable = 1 → s.reg K.fusionState ≠ fsFault →
    s.reg (K.alignState (s.regN K.referenceSensor)) ≠ alAligned → 0 < s.regN K.referencePeriod → t0 + s.regN K.referencePeriod ≤ s.now →
    Runs .stepFreeRun s fun t =>
      t.fuse.refs = s.fuse.refs ++ [(t0 + s.regN K.referencePeriod, 8)] ∧ t.fuse.lastT = some (t0 + s.regN K.referencePeriod)) ∧
  (∀ (s : State) (t0 : Nat), s.fuse.lastBody = some t0 → s.reg K.fusionEnable = 1 → s.fuse.running = none →
    t0 + ticksMs (s.regN K.stateHoldLimit) < s.tick →
    Runs .stateHoldLimit s fun t =>
      t.fuse.lastBody = none ∧ t.fuse.net = ⟨[]⟩ ∧ (s.fuse.waiting = none → t.fuse.resetDue = true) ∧
      t.reg K.stateResets = (s.bump K.stateResets).reg K.stateResets)

/-- Frames become samples, samples steps, and steps results (R171-R179, R186-R190). The free projection unit places its next frame at the
pose of its instant; once its work is done the sample is staged; frames that have waited one period are discarded. A step that closes on an idle network enters it, and
one that closes during a run waits; one without a pose is issued SKIPPED. The end of a run issues its result; a run of StepTimeMax is issued as an overrun; the
band's rows go behind the entries of its line. -/
def Obligations.FusionStepsAreIssued : Prop :=
  (∀ (s : State) (f : ProjFrame) (h : HistStep), s.fuse.projecting = none → (∀ g ∈ s.fuse.frames, s.projectionOverdue g = false) →
    s.nextProjection = some f → s.poseUsable = true → s.poseAt f.instant = some h →
    Runs .projectionFrame s fun t =>
      t.fuse.frames = s.fuse.frames.erase f ∧ t.fuse.staged = s.fuse.staged ∧
      ∃ p, t.fuse.projecting = some p ∧ p.frame = f ∧ p.sample.sensor = f.sensor ∧ p.sample.instant = f.instant ∧
        p.sample.east = h.east ∧ p.sample.north = h.north ∧ p.sample.heading = h.heading) ∧
  (∀ (s : State) (p : Projecting), s.fuse.projecting = some p → p.doneAt ≤ s.tick → s.poseUsable = true → s.fuse.frames = [] →
    s.fuse.staged.length < 32 →
    Runs .projectionFrame s fun t => t.fuse.projecting = none ∧ t.fuse.staged = s.fuse.staged ++ [p.sample]) ∧
  (∀ s : State,
    Runs .projectionOverrun s fun t =>
      t.fuse.frames = s.fuse.frames.filter (fun f => decide (s.tick < f.arrival + s.regN (K.framePeriod f.sensor) / 10)) ∧
      ((∃ f ∈ s.fuse.frames, f.arrival + s.regN (K.framePeriod f.sensor) / 10 ≤ s.tick) → t.fuse.projOverrun = true)) ∧
  (∀ (s : State) (tr fl : Nat) (rest : List (Nat × Nat)) (h : HistStep), s.fuse.refs = (tr, fl) :: rest → s.reg K.fusionEnable = 1 →
    s.reg K.fusionState ≠ fsFault → s.stepCloses tr = true → s.poseUsable = true → s.poseAt tr = some h → s.fuse.projecting = none →
    s.fuse.waiting = none →
    Runs .fusionStepClose s fun t =>
      t.fuse.refs = rest ∧ t.fuse.closedT = some tr ∧
      t.fuse.staged = s.fuse.staged.filter (fun x => decide (tr < x.instant)) ∧ t.fuse.stepPose = some h.pose ∧
      ∃ x : FStep, x.time = tr ∧ x.count = (s.fuse.count + 1) % 2 ^ 32 ∧ x.closeTime = s.now ∧
        (s.fuse.running = none → s.fusionSwitches = false → t.fuse.running = some (x, s.tick) ∧ t.fuse.waiting = none) ∧
        (s.fuse.running.isSome = true → t.fuse.waiting = some x ∧ t.fuse.running = s.fuse.running)) ∧
  (∀ (s : State) (tr fl : Nat) (rest : List (Nat × Nat)), s.fuse.refs = (tr, fl) :: rest → s.reg K.fusionEnable = 1 →
    s.reg K.fusionState ≠ fsFault → s.stepCloses tr = true → s.poseUsable = false → s.fuse.waiting = none →
    Runs .fusionStepClose s fun t =>
      t.fuse.refs = rest ∧ t.reg K.lastStepTime = (tr : Nat) ∧ t.reg K.stepsSkipped = (s.bump K.stepsSkipped).reg K.stepsSkipped ∧
      t.reg K.stepCount = (((s.fuse.count + 1) % 2 ^ 32 : Nat) : Int) ∧ t.fuse.running = s.fuse.running) ∧
  (∀ (s : State) (x : FStep) (t0 : Nat) (e b p k o : Bytes), s.fuse.running = some (x, t0) → s.fuse.waiting = none →
    (∀ l, s.runLimit t0 = some l → s.tick ≤ l) → s.fuse.disableItems = [] → s.fuse.clearAsked = false →
    Runs (.networkRunEnd e b p k o) s fun t =>
      t.fuse.running = none ∧ t.fuse.lastBody = some s.tick ∧ t.fuse.prevPose = some (x.east, x.north, x.heading) ∧
      t.fuse.lastPresence = x.presence ∧ t.reg K.stepCount = (x.count : Nat) ∧ t.reg K.lastStepTime = (x.time : Nat) ∧
      t.blob K.tankFill = issuedObject 16 x.count (tankOk k) [4] k ∧
      t.blob K.cropEdges = issuedObject 536 x.count (edgesOk e) [9, 141, 273, 405] e) ∧
  (∀ (s : State) (x : FStep) (t0 : Nat) (d : FusionDecl), s.fuse.running = some (x, t0) → s.fusionDecl = some d →
    t0 + d.stepMax / 10 ≤ s.tick → s.fuse.waiting = none → s.fuse.disableItems = [] → s.fuse.clearAsked = false →
    Runs .stepOverrun s fun t =>
      t.fuse.running = none ∧ t.reg K.stepOverruns = (s.bump K.stepOverruns).reg K.stepOverruns ∧
      t.reg K.lastStepTime = (x.time : Nat) ∧ t.fuse.lastBody = s.fuse.lastBody) ∧
  (∀ (s : State) (t0 : Nat), s.fuse.bandDue = some t0 →
    Runs .bandWrite s fun t =>
      t.fuse.bandDue = none ∧ (s.line (s.regN K.bandLine)).entries <+: (t.line (s.regN K.bandLine)).entries ∧
      ∀ m, m ≠ s.regN K.bandLine → t.line m = s.line m)

/-- The stop output (R192-R194). While enabled it goes to RUN by itself once no cause has stood for StopHoldTime under AUTO release, and to
STOP in the tick in which the track list is older than StopWatchdog, counted and stamped; an accepted acknowledgement gives RUN; clearing
StopEnable gives STOP. A due stop frame advances its counter and restarts its time. -/
def Obligations.StopOutputFollowsItsCauses : Prop :=
  (∀ (s : State) (t0 : Nat), s.reg K.stopEnable = 1 → s.reg K.stopState = 0 → s.reg K.stopRelease = 0 →
    (∀ n, s.impl0Axis = some n → s.obstacleTrack n = none) → s.stopCauses false = 0 → s.fuse.causeClearAt = some t0 →
    t0 + ticksMs (s.regN K.stopHoldTime) ≤ s.tick →
    Runs .stopHoldEnd s fun t => t.reg K.stopState = 1 ∧ t.reg K.stopCause = 0 ∧ t.fuse.stopDue = true) ∧
  (∀ (s : State) (t0 : Nat), s.reg K.stopEnable = 1 → s.reg K.stopState = 1 → s.fuse.tracksAt = some t0 →
    t0 + ticksMs (s.regN K.stopWatchdog) < s.tick →
    Runs .stopWatchdog s fun t =>
      t.reg K.stopState = 0 ∧ t.flag K.stopCause 1 = true ∧ t.reg K.lastStopTime = (s.now : Nat) ∧
      t.reg K.stopEvents = (s.bump K.stopEvents).reg K.stopEvents ∧ t.fuse.stopDue = true) ∧
  (∀ (s : State) (slot : Fin 16) (v : BitVec 8),
    Writes (.stopAcknowledge slot v) s slot 0x3051 0 (leBytes 1 v.toNat) stopAcknowledgeRule fun t => t.reg K.stopState = 1) ∧
  (∀ (s : State) (slot : Fin 16),
    Writes (.stopEnable slot 1) s slot 0x3050 1 (leBytes 1 (1 : BitVec 8).toNat) stopEnableRule fun t =>
      t.reg K.stopEnable = 1 ∧ t.reg K.stopState = s.reg K.stopState) ∧
  (∀ (s : State) (slot : Fin 16),
    Writes (.stopEnable slot 0) s slot 0x3050 1 (leBytes 1 (0 : BitVec 8).toNat) stopEnableRule fun t =>
      t.reg K.stopEnable = 0 ∧ t.reg K.stopState = 0) ∧
  (∀ s : State, s.fuse.stopDue = true → s.reg K.stopCanPort ≠ 0xFF →
    Runs .stopCanFrame s fun t =>
      t.fuse.stopDue = false ∧ t.fuse.stopSentAt = s.tick ∧ t.fuse.stopCounter = (s.fuse.stopCounter + 1) % 256 ∧
      (s.reg (K.portState (s.reg K.stopCanPort).toNat) ≠ cpActive → t.canPorts = s.canPorts))

/-! ### Camera inputs and image pipeline (07_camera_pipeline.md) -/

/-- Frames are read out (R200, R205-R207, R210). A frame start opens the frame with the next Sequence in readout; a line of the sensor's
type adds its pixels as the next row (two bytes of a user-defined type as one), and a line with a CRC error adds the pedestal, flagged and counted; the first embedded line gives the
timestamp; the frame end pads the frame to its height, stamps it and passes it on. Then frames leave the pipeline (R208, R209, R212): one
whose outputs are written is issued with its settings tag; a queued one enters the free memory pass; without a frame start by
SofTimeout, or an output by OutputDeadline, the Sequence is used up as a MISSING frame. -/
def Obligations.FramesAreReadOutAndIssued : Prop :=
  (∀ (s : State) (port : Fin 5) (vc : Fin 16) (number : BitVec 16) (n : Nat), s.portLive port = true → s.sensorAt port vc = some n →
    (s.cam n).reading = none →
    Runs (.frameStart port vc number) s fun t =>
      (t.cam n).nextSeq = (s.cam n).nextSeq + 1 ∧ (t.cam n).period = (s.cam n).nextSeq ∧ (t.cam n).startTick = some s.tick ∧
      (t.cam n).writes = [] ∧
      ∃ f ∈ (t.cam n).frames, f.seq = (s.cam n).nextSeq ∧ f.stage = .reading ∧ f.rows = [] ∧ f.arrival = s.now) ∧
  (∀ (s : State) (port : Fin 5) (vc : Fin 16) (ty : BitVec 8) (taken n : Nat) (px : List (BitVec 16)) (f : VFrame),
    s.portLive port = true → s.sensorAt port vc = some n → (s.cam n).reading = some f → port.val ≠ 4 →
    s.regN (K.dataType n) = ty.toNat → (isUserType ty.toNat = true → isDepth n = true) → f.rows.length < s.regN (K.height n) →
    (s.linePixels n (px.map BitVec.toNat)).length = s.regN (K.width n) → (f.path ≠ 0 ∨ s.regN (K.width n) ≤ taken) →
    Runs (.imageLine port vc ty false false taken px) s fun t =>
      (t.cam n).frames = (s.cam n).frames.map (fun g => if g.seq = f.seq then
        { f with rows := f.rows ++ [s.linePixels n (px.map BitVec.toNat)], received := f.received + 1 } else g)) ∧
  (∀ (s : State) (port : Fin 5) (vc : Fin 16) (ty : BitVec 8) (taken n : Nat) (px : List (BitVec 16)) (f : VFrame),
    s.portLive port = true → s.sensorAt port vc = some n → (s.cam n).reading = some f → port.val ≠ 4 →
    s.regN (K.dataType n) = ty.toNat → (isUserType ty.toNat = true → isDepth n = true) → f.rows.length < s.regN (K.height n) →
    Runs (.imageLine port vc ty false true taken px) s fun t =>
      t.reg (K.crcErrors n) = (s.bump (K.crcErrors n)).reg (K.crcErrors n) ∧
      (t.cam n).frames = (s.cam n).frames.map (fun g => if g.seq = f.seq then
        { f with rows := f.rows ++ [(List.range (s.regN (K.width n))).map (fun x =>
                   pedestal (isDepth n) (s.regN (K.mosaic n)) f.corr x f.rows.length)],
                 received := f.received + 1, flags := setBit f.flags dfCrc, blanked := f.blanked + 1 } else g)) ∧
  (∀ (s : State) (port : Fin 5) (vc : Fin 16) (ty : BitVec 8) (payload : Bytes) (n : Nat) (f : VFrame),
    s.portLive port = true → s.sensorAt port vc = some n → (s.cam n).reading = some f → port.val ≠ 4 →
    s.regN (K.embeddedDataType n) = ty.toNat → f.embedded = 0 →
    Runs (.embeddedDataLine port vc ty payload) s fun t =>
      (t.cam n).frames = (s.cam n).frames.map (fun g => if g.seq = f.seq then
        { f with ts := s.lineTimestamp n payload, embedded := 1 } else g)) ∧
  (∀ (s : State) (port : Fin 5) (vc : Fin 16) (number : BitVec 16) (n : Nat) (f : VFrame), s.portLive port = true →
    s.sensorAt port vc = some n → (s.cam n).reading = some f → (port.val = 4 ∨ f.csi = number.toNat) →
    s.isDisabling (aimCam n) = false →
    Runs (.frameEnd port vc number) s fun t =>
      ∃ g ∈ (t.cam n).frames, g.seq = f.seq ∧ g.endTime = s.now ∧ g.stage = (if f.path = 1 then .queued else .ready) ∧
        g.rows.length = max f.rows.length (s.regN (K.height n))) ∧
  (∀ (s : State) (n : Fin 10) (f : VFrame), s.vision.passFrom = none → (s.cam n).frames.find? (fun f => f.stage == .ready) = some f →
    Runs (.frameDescriptorIssue n) s fun t =>
      (t.cam n).frames = (s.cam n).frames.filter (fun g => g.seq != f.seq) ∧
      t.reg (K.camFramesOut n) = (s.bump (K.camFramesOut n)).reg (K.camFramesOut n) ∧
      t.reg (K.tagInForce n) = (tagOf (s.cam n).tags f.seq : Nat)) ∧
  (∀ (s : State) (n : Nat) (f : VFrame), s.vision.passFrom = none → s.nextForPass = some (n, f) →
    Runs .memoryPassFrame s fun t =>
      t.vision.passFrom = some (n, s.tick) ∧
      (t.cam n).frames = (s.cam n).frames.map (fun g => if g.seq = f.seq then { f with stage := .passing } else g)) ∧
  (∀ (s : State) (n : Fin 10) (e : Nat), (s.cam n).expect = some e → s.sensorOn n = true → e + s.regN (K.sofTimeout n) ≤ s.now →
    Runs (.noStart n) s fun t =>
      (t.cam n).nextSeq = (s.cam n).nextSeq + 1 ∧ (t.cam n).period = (s.cam n).nextSeq ∧
      (t.cam n).expect = some (e + s.regN (K.framePeriod n)) ∧
      t.reg (K.missingFrames n) = (s.bump (K.missingFrames n)).reg (K.missingFrames n)) ∧
  (∀ (s : State) (n : Fin 10) (f : VFrame),
    (s.cam n).frames.find? (fun f => decide (f.arrival + s.regN (K.outputDeadline n) ≤ s.now)) = some f →
    Runs (.outputDeadline n) s fun t =>
      (∀ g ∈ (t.cam n).frames, g.seq ≠ f.seq) ∧
      t.reg (K.missingFrames n) = (s.bump (K.missingFrames n)).reg (K.missingFrames n))

/-- Camera ports, PCLK, the frame-sync outputs and the in-line path (R199, R202, R203, R213, R232): each event shows in its entry, and an
output's pulse starts in its tick and ends after its width. -/
def Obligations.CameraPortsAndPulses : Prop :=
  (∀ (s : State) (p : Fin 4), s.reg (K.camLinkState p) = lkUp →
    Runs (.aphyLinkDrop p) s fun t =>
      t.reg (K.camLinkState p) = lkDown ∧ t.reg (K.gear p) = 0 ∧ t.reg (K.linkDrops p) = (s.bump (K.linkDrops p)).reg (K.linkDrops p)) ∧
  (∀ (s : State) (p g : Fin 4), s.reg (K.camPortEnable p) = 1 → s.aphyPowered p = true → s.reg (K.camLinkState p) ≠ lkPocTripped →
    g.val ≠ 0 →
    Runs (.aphyLinkUp p g) s fun t =>
      t.reg (K.camLinkState p) = lkUp ∧ t.reg (K.gear p) = min (s.reg (K.maxGear p)) (g.val : Nat)) ∧
  (∀ (s : State) (p : Fin 4) (mA : Nat), s.reg (K.pocEnable p) = 1 → s.aphyPowered p = true → 750 ≤ mA →
    s.reg (K.camLinkState p) ≠ lkPocTripped →
    Runs (.pocTrip p mA) s fun t =>
      t.reg (K.camLinkState p) = lkPocTripped ∧ t.reg (K.gear p) = 0 ∧ t.reg (K.pocCurrent p) = (min mA 1000 : Nat)) ∧
  (∀ (s : State) (hz held : Nat), hz ≠ 0 →
    Runs (.pclkAbsent hz held) s fun t =>
      t.reg K.pclkFrequency = (min hz 150000000 : Nat) ∧ t.vision.pclkAbsent = false ∧ t.book = s.book) ∧
  (∀ (s : State) (held : Nat), s.reg K.port3Mode = 1 → ticksMs 10 ≤ held →
    Runs (.pclkAbsent 0 held) s fun t => t.reg K.pclkFrequency = 0 ∧ t.vision.pclkAbsent = true) ∧
  (∀ (s : State) (o : Fin 8), s.reg (K.fsyncSource o) = 1 →
    ((s.now : Int) - s.reg (K.fsyncPhase o)) % s.reg (K.fsyncPeriod o) = 0 → (s.fsyncOut o).lastTick = none →
    Runs (.fsyncPeriodicPulse o) s fun t =>
      (t.fsyncOut o).lastTick = some s.tick ∧ (t.fsyncOut o).until_ = s.tick + ticksUs (s.regN (K.fsyncWidth o)) ∧
      t.fsyncLevel o = decide (0 < ticksUs (s.regN (K.fsyncWidth o))) ∧
      (s.regN (K.fsyncRoute o) = 0 → (t.fsyncOut o).tunnel = none) ∧
      (s.regN (K.fsyncRoute o) ≠ 0 → ∃ a, (t.fsyncOut o).tunnel = some (s.regN (K.fsyncRoute o) - 1, s.tick + a)) ∧
      t.reg (K.lastPulseTime o) = (s.now : Nat)) ∧
  (∀ (s : State) (slot : Fin 16) (v : BitVec 8),
    Writes (.inlineBypass slot v) s slot 0x3400 2 (leBytes 1 v.toNat) inlineBypassRule fun t =>
      t.reg K.inlineBypass = (v.toNat : Int)) ∧
  (∀ s : State, s.reg K.inlineState ≠ 2 → Runs .inlinePathFault s fun t => t.reg K.inlineState = 2)

/-- Settings of sensors and streams (R198, R225-R230). A sensor starts with an empty pipeline in LOCKING and stops at once outside readout; a
correction is in force, or waits for the frame start of an enabled sensor; a register set waits, is sent, and is committed with its
last acknowledged write or fails with its second refusal; a stream codes its waiting picture or skips it. -/
def Obligations.SensorsAndStreamsTakeSettings : Prop :=
  (∀ (s : State) (slot : Fin 16) (n : Fin 10), s.reg (K.sensorEnable n) = 0 →
    Writes (.sensorEnable slot n 1) s slot (0x3002 + n) 1 (leBytes 1 (1 : BitVec 8).toNat) (sensorEnableRule n) fun t =>
      t.reg (K.sensorEnable n) = 1 ∧ t.reg (K.alignState n) = alLocking ∧ t.cam n = { Cam.init with nextSeq := (s.cam n).nextSeq }) ∧
  (∀ (s : State) (slot : Fin 16) (n : Fin 10), s.reg (K.sensorEnable n) = 1 → (s.cam n).reading = none →
    Writes (.sensorEnable slot n 0) s slot (0x3002 + n) 1 (leBytes 1 (0 : BitVec 8).toNat) (sensorEnableRule n) fun t =>
      t.reg (K.sensorEnable n) = 0 ∧ t.reg (K.alignState n) = alDisabled ∧ t.cam n = { Cam.init with nextSeq := (s.cam n).nextSeq }) ∧
  (∀ (s : State) (slot : Fin 16) (n : Fin 10) (obj : Fin 4) (sub : BitVec 8) (v : Bytes), s.sensorOn n = true →
    Writes (.correctionWrite slot n obj sub v) s slot (0x3420 + 16 * obj + n) sub.toNat v (correctionRule n obj sub.toNat) fun t =>
      (t.cam n).writes = (s.cam n).writes ++ [⟨0x3420 + 16 * obj.val + n.val, sub.toNat, v, s.regN K.nextJournalSeq⟩] ∧ t.blobs = s.blobs) ∧
  (∀ (s : State) (slot : Fin 16) (n : Fin 10) (obj : Fin 4) (sub : BitVec 8) (v : Bytes) (x : Desc), s.sensorOn n = false →
    s.entryDesc (0x3420 + 16 * obj.val + n.val) sub.toNat = some x →
    Writes (.correctionWrite slot n obj sub v) s slot (0x3420 + 16 * obj + n) sub.toNat v (correctionRule n obj sub.toNat) fun t =>
      (x.ty.isBytes = true → t.blob (key (0x3420 + 16 * obj.val + n.val) sub.toNat) = v) ∧
      (x.ty.isBytes = false → t.reg (key (0x3420 + 16 * obj.val + n.val) sub.toNat) = x.ty.decode v)) ∧
  (∀ (s : State) (slot : Fin 16) (n : Fin 10) (v : Bytes),
    Writes (.settingsCommit slot n v) s slot (0x3470 + n) 0 v (settingsCommitRule n) fun t =>
      (∃ r, (t.cam n).set = some r ∧ r.item = s.regN K.nextJournalSeq ∧ r.tag = fieldU v 0 2 ∧ r.sent = 0 ∧ r.began = none ∧
        r.writes.length = fieldU v 2 1) ∧ t.reg (K.setState n) = 1) ∧
  (∀ (s : State) (n : Fin 10) (r : RegSet), (s.cam n).set = some r → r.began = none → (s.cam n).startTick = some s.tick →
    s.tunnelBusy n r.item = false →
    Runs (.settingsSend n) s fun t =>
      (t.cam n).set = some { r with began := some (s.cam n).period } ∧ t.reg (K.setState n) = 2) ∧
  (∀ (s : State) (n : Fin 10) (r : RegSet), (s.cam n).set = some r → r.began.isSome = true → r.sent + 1 < r.writes.length →
    Runs (.i2cWriteAck n true) s fun t => (t.cam n).set = some { r with sent := r.sent + 1, repeated := false }) ∧
  (∀ (s : State) (n : Fin 10) (r : RegSet), (s.cam n).set = some r → r.began.isSome = true → r.writes.length ≤ r.sent + 1 →
    Runs (.i2cWriteAck n true) s fun t =>
      (t.cam n).set = none ∧ t.reg (K.setState n) = 0 ∧ (t.cam n).tags.head? = some ⟨(s.cam n).period + s.regN (K.settingsLatency n), r.tag, s.now⟩) ∧
  (∀ (s : State) (n : Fin 10) (r : RegSet), (s.cam n).set = some r → r.began.isSome = true →
    Runs (.i2cWriteAck n false) s fun t =>
      (r.repeated = false → (t.cam n).set = some { r with repeated := true }) ∧
      (r.repeated = true → (t.cam n).set = none ∧ t.reg (K.setState n) = 0 ∧ (t.cam n).tags = (s.cam n).tags)) ∧
  (∀ (s : State) (slot : Fin 16) (k : Fin 4) (v : BitVec 8),
    Writes (.streamEnable slot k v) s slot (0x34B0 + k) 1 (leBytes 1 v.toNat) (streamEnableRule k) fun t =>
      t.reg (K.streamEnable k) = (v.toNat : Int) ∧ (s.reg (K.streamEnable k) ≠ (v.toNat : Int) → t.stream k = Stream.init)) ∧
  (∀ (s : State) (k : Fin 4) (c : CodingInput) (rest : List CodingInput), (s.stream k).due = c :: rest →
    Runs (.encodePicture k false) s fun t =>
      (t.stream k).due = rest ∧ (t.stream k).pictures = (s.stream k).pictures + 1 ∧
      (∃ p, (t.stream k).sent = some p ∧ p.stamp = c.centre * 9 / 100000 % 2 ^ 32 ∧ p.address = s.regN (K.destAddress k) ∧
        p.port = s.regN (K.destPort k)) ∧
      t.reg (K.framesEncoded k) = (s.bump (K.framesEncoded k)).reg (K.framesEncoded k)) ∧
  (∀ (s : State) (k : Fin 4) (c : CodingInput) (rest : List CodingInput), (s.stream k).due = c :: rest →
    Runs (.encodePicture k true) s fun t =>
      (t.stream k).due = rest ∧ (t.stream k).sent = (s.stream k).sent ∧
      t.reg (K.framesSkipped k) = (s.bump (K.framesSkipped k)).reg (K.framesSkipped k))

/-! ### Control contexts (08_control_contexts.md) -/

/-- The sample of a context (R234, R236, R247, R253, R257). A due sample with its target in service is stamped and counted and shows the new values; a
RUNNING context's output lies within its limits; a context in HOLD keeps its output and sends nothing; a sample that finds the context's
disable waiting hands over and leaves it DISABLED without a place. -/
def Obligations.ContextSamplesKeepTheirLimits : Prop :=
  (∀ (s : State) (n : Fin 128) (b : Bool), s.ctxDue n = true → s.isDisabling (aimCtx n) = false → (s.ctx n).writes = [] →
    s.ctxTargetFailed n = false → s.reg (K.ctxState n) = cxRunning → s.reg (K.outMin n) ≤ s.reg (K.outMax n) →
    (s.reg (K.outKind n) = 1 → s.regN (K.outTarget n) < 32) → (s.reg (K.outKind n) = 2 → s.regN (K.outTarget n) < 48) →
    (2 < s.reg (K.outKind n) → s.regN (K.outTarget n) / 4096 < 6) →
    Runs (.contextSample n b) s fun t =>
      t.reg (K.lastSampleTime n) = (s.now : Nat) ∧ t.reg (K.samples n) = (s.bump (K.samples n)).reg (K.samples n) ∧
      (t.ctx n).lastTick = s.tick ∧ (t.ctx n).sampled = true ∧ (t.ctx n).fresh = false ∧ (t.ctx n).uBefore = (s.ctx n).u ∧
      s.reg (K.outMin n) ≤ (t.ctx n).u ∧ (t.ctx n).u ≤ s.reg (K.outMax n) ∧ t.reg (K.output n) = (t.ctx n).u ∧
      t.reg (K.measValue n) = (t.ctx n).yf ∧ t.reg (K.setpointValue n) = (t.ctx n).rr) ∧
  (∀ (s : State) (n : Fin 128) (b : Bool), s.ctxDue n = true → s.isDisabling (aimCtx n) = false → (s.ctx n).writes = [] →
    s.ctxTargetFailed n = false → s.reg (K.ctxState n) = cxHold →
    Runs (.contextSample n b) s fun t =>
      (t.ctx n).u = (s.ctx n).u ∧ t.reg (K.output n) = (s.ctx n).u ∧ t.reg (K.outputNative n) = s.reg (K.outputNative n) ∧
      t.sv = s.sv ∧ t.ls = s.ls ∧ t.canBufs = s.canBufs) ∧
  (∀ (s : State) (n : Fin 128) (b : Bool), s.ctxDue n = true → s.isDisabling (aimCtx n) = true →
    Runs (.contextSample n b) s fun t =>
      t.reg (K.ctxEnable n) = 0 ∧ t.reg (K.ctxState n) = cxDisabled ∧ t.reg (K.slot n) = 0xFF ∧ t.isDisabling (aimCtx n) = false ∧
      (t.ctx n).events = [] ∧ (t.ctx n).reh = none)

/-- Contexts take their settings (R246, R249, R252, R254-R257, R264). Enabling gives the context its place and its mode's state, to start
fresh; disabling waits for the next sample; a write waits for the next sample of an enabled context and is in force at once on a
disabled one; inputs invalid for FallbackTime give FALLBACK and end a rehearsal, inputs valid for it give RUNNING again; StickyClear clears the
flags it names. -/
def Obligations.ContextsTakeSettings : Prop :=
  (∀ (s : State) (slot : Fin 16) (n : Fin 128) (pl : Nat × Nat), s.reg (K.ctxEnable n) = 0 → s.ctxPlace n = some pl →
    Writes (.ctxEnable slot n) s slot (0x3800 + n) 0x01 [1] (ctxEnableRule n) fun t =>
      t.reg (K.ctxEnable n) = 1 ∧ t.reg (K.slot n) = (pl.1 : Nat) ∧ t.reg (K.phase n) = (pl.2 : Nat) ∧
      t.reg (K.ctxState n) = s.ctxModeState n ∧ t.reg (K.liveFlags n) = 0 ∧ (t.ctx n).fresh = true ∧ (t.ctx n).events = []) ∧
  (∀ (s : State) (slot : Fin 16) (n : Fin 128), s.reg (K.ctxEnable n) = 1 →
    Writes (.ctxDisable slot n) s slot (0x3800 + n) 0x01 [0] (ctxEnableRule n) fun t =>
      t.isDisabling (aimCtx n) = true ∧ t.reg (K.ctxEnable n) = 1 ∧ t.ctx n = s.ctx n) ∧
  (∀ (s : State) (slot : Fin 16) (n : Fin 128) (m : BitVec 8),
    Writes (.ctxMode slot n m) s slot (0x3800 + n) 0x02 (leBytes 1 m.toNat) (ctxEntryRule n 2 (fun s d => s.ctxEntryCheck n 2 d)) fun t =>
      (s.reg (K.ctxEnable n) = 1 → (t.ctx n).writes = (s.ctx n).writes ++ [⟨2, leBytes 1 m.toNat, s.regN K.nextJournalSeq, s.tick⟩] ∧
        t.reg (K.ctxMode n) = s.reg (K.ctxMode n)) ∧
      (s.reg (K.ctxEnable n) ≠ 1 → t.reg (K.ctxMode n) = (m.toNat : Int) ∧ t.ctx n = s.ctx n)) ∧
  (∀ (s : State) (slot : Fin 16) (n : Fin 128) (sub : BitVec 8) (v : Bytes) (x : Desc),
    sub.toNat ≠ 1 → sub.toNat ≠ 0x3D → sub.toNat ≠ 0x3E → sub.toNat ≠ 0x43 →
    s.entryDesc (0x3800 + n.val) sub.toNat = some x → x.ty.isBytes = false →
    Writes (.contextEntryWrite slot n sub v) s slot (0x3800 + n) sub.toNat v
      (ctxEntryRule n sub.toNat (fun s d => s.ctxEntryCheck n sub.toNat d)) fun t =>
      (s.reg (K.ctxEnable n) = 1 → (t.ctx n).writes = (s.ctx n).writes ++ [⟨sub.toNat, v, s.regN K.nextJournalSeq, s.tick⟩]) ∧
      (s.reg (K.ctxEnable n) ≠ 1 → t.reg (key (0x3800 + n.val) sub.toNat) = x.ty.decode v)) ∧
  (∀ (s : State) (n : Fin 128) (t0 : Nat), s.reg (K.ctxState n) = cxRunning → (s.ctx n).invalidFrom = some t0 →
    t0 + s.regN (K.fallbackTime n) / 10 ≤ s.tick →
    Runs (.fallbackEntry n) s fun t => t.reg (K.ctxState n) = cxFallback ∧ (t.ctx n).reh = none ∧ (t.ctx n).u = (s.ctx n).u) ∧
  (∀ (s : State) (n : Fin 128) (t0 : Nat), s.reg (K.ctxState n) = cxFallback → (s.ctx n).validFrom = some t0 →
    t0 + s.regN (K.fallbackTime n) / 10 ≤ s.tick →
    Runs (.fallbackExit n) s fun t => t.reg (K.ctxState n) = cxRunning ∧ t.ctxs = s.ctxs) ∧
  (∀ (s : State) (slot : Fin 16) (n : Fin 128) (m : BitVec 32),
    Writes (.stickyClear slot n m) s slot (0x3800 + n) 0x43 (leBytes 4 m.toNat) (stickyClearRule n) fun t =>
      t.reg (K.stickyFlags n) = (s.regN (K.stickyFlags n) - Nat.land (s.regN (K.stickyFlags n)) m.toNat : Nat) ∧
      t.reg (K.liveFlags n) = s.reg (K.liveFlags n))

/-- Rehearsals (R259-R263). An accepted start makes the rehearsal of the context, ARMED or to be RUNNING from its first sample, with an empty capture;
a stop ends an ARMED one, waits for the next sample of a RUNNING one, and changes nothing without one; one ARMED for 60 s ends
NOT_TRIGGERED. -/
def Obligations.RehearsalsStartAndEnd : Prop :=
  (∀ (s : State) (slot : Fin 16) (n : Fin 128) (v : BitVec 8),
    Writes (.rehearsalStart slot n v) s slot (0x3800 + n) 0x3D (leBytes 1 v.toNat) (rehStartRule n) fun t =>
      (∃ r, (t.ctx n).reh = some r ∧ r.item = s.regN K.nextJournalSeq ∧ r.done = 0 ∧ r.armed = decide (s.reg (K.rehStartMode n) = 1) ∧
        r.amp = s.reg (K.rehAmplitude n) ∧ r.samples = s.regN (K.rehSamples n) ∧ r.stop = false) ∧
      t.reg (K.rehearsalState n) = (if s.reg (K.rehStartMode n) = 1 then 1 else 0) ∧ t.reg (K.captureRecords n) = 0) ∧
  (∀ (s : State) (slot : Fin 16) (n : Fin 128) (v : BitVec 8), (s.ctx n).reh = none →
    Writes (.rehearsalStop slot n v) s slot (0x3800 + n) 0x3E (leBytes 1 v.toNat) (rehStopRule n) fun t => t.ctx n = s.ctx n) ∧
  (∀ (s : State) (slot : Fin 16) (n : Fin 128) (v : BitVec 8) (r : Reh), (s.ctx n).reh = some r → r.armed = true →
    Writes (.rehearsalStop slot n v) s slot (0x3800 + n) 0x3E (leBytes 1 v.toNat) (rehStopRule n) fun t =>
      (t.ctx n).reh = none ∧ t.reg (K.rehearsalState n) = 0 ∧ t.reg (K.rehearsalEnd n) = 2 ∧ t.reg (K.captureRecords n) = 0) ∧
  (∀ (s : State) (slot : Fin 16) (n : Fin 128) (v : BitVec 8) (r : Reh), (s.ctx n).reh = some r → r.armed = false →
    Writes (.rehearsalStop slot n v) s slot (0x3800 + n) 0x3E (leBytes 1 v.toNat) (rehStopRule n) fun t =>
      (t.ctx n).reh = some r ∧ (t.ctx n).writes = (s.ctx n).writes ++ [⟨0x3E, [], s.regN K.nextJournalSeq, s.tick⟩]) ∧
  (∀ (s : State) (n : Fin 128) (r : Reh), (s.ctx n).reh = some r → r.armed = true → r.armedAt + ticksS 60 ≤ s.tick →
    Runs (.notTriggered n) s fun t =>
      (t.ctx n).reh = none ∧ t.reg (K.rehearsalState n) = 0 ∧ t.reg (K.rehearsalEnd n) = 5)

/-! ### Solenoid banks (09_solenoid_banks.md) -/

/-- The stitches of a running program (R272, R277, R282, R283, R290). A BOOST that gets the boost begins in DRIVE, and it and a PEAK that fit the peak budget begin
at their I; HOLD, RAMP and HOLD_EXT regulate to their setpoint with dither, never above the grant; FREEWHEEL and CLAMP decay; WINDOW, DITHER and LOOP take no
time; a timed stitch ends at its T, a decay at its current; END falls to OFF below 50 mA. No stitch of a channel changes another channel. -/
def Obligations.StitchesTakeEffect : Prop :=
  (∀ (s : State) (ch : Fin 32) (mA : Nat), s.reg (K.svState ch) = svDecaying → mA < 50 → s.reg (K.svEnable ch) = 1 →
    s.isDisabling (aimSv ch) = false → (s.svCh ch).pending = none →
    Runs (.stitchEnd ch mA) s fun t =>
      t.reg (K.svState ch) = svOff ∧ (t.svCh ch).program = [] ∧ (t.svCh ch).cond = .off ∧ t.reg (K.grant ch) = 0 ∧ t.reg (K.svSetpoint ch) = 0) ∧
  (∀ (s : State) (ch : Fin 32) (mA : Nat), s.runs ch 1 = true → (s.svCh ch).begun = false → (s.svCh ch).boost = .unset →
    s.decideBoost ch (s.svCh ch).due = .granted → stMa (s.presentStitch ch) ≤ s.peakRoom ch →
    Runs (.stitchBoost ch mA) s fun t =>
      (t.svCh ch).begun = true ∧ (t.svCh ch).start = s.tick ∧ (t.svCh ch).cond = .drive ∧ (t.svCh ch).peakI = stMa (s.presentStitch ch) ∧
      t.reg (K.boostOwner (svBank ch)) = (ch : Nat)) ∧
  (∀ (s : State) (ch : Fin 32) (mA : Nat), s.runs ch 2 = true → (s.svCh ch).begun = false →
    stMa (s.presentStitch ch) ≤ s.peakRoom ch →
    Runs (.stitchPeak ch mA) s fun t =>
      (t.svCh ch).begun = true ∧ (t.svCh ch).start = s.tick ∧ (t.svCh ch).peakI = stMa (s.presentStitch ch) ∧
      t.reg (K.svSetpoint ch) = (stMa (s.presentStitch ch) : Nat) ∧
      (2 * mA + s.regN (K.regBand ch) < 2 * stMa (s.presentStitch ch) → (s.svCh ch).condSince + ticksUs 5 ≤ s.tick →
        (t.svCh ch).cond = .drive)) ∧
  (∀ (s : State) (ch : Fin 32) (mA : Nat), s.runs ch 3 = true →
    Runs (.stitchHold ch mA) s fun t =>
      (t.svCh ch).begun = true ∧ t.reg (K.svSetpoint ch) = (s.svTarget ch (stMa (s.presentStitch ch)) : Nat)) ∧
  (∀ (s : State) (ch : Fin 32) (mA : Nat), s.runs ch 4 = true → (s.svCh ch).begun = false →
    Runs (.stitchRamp ch mA) s fun t =>
      (t.svCh ch).begun = true ∧ (t.svCh ch).rampFrom = (s.svCh ch).setpoint ∧
      t.reg (K.svSetpoint ch) = (s.svTarget ch (s.svCh ch).setpoint : Nat)) ∧
  (∀ (s : State) (ch : Fin 32) (mA : Nat), s.runs ch 5 = true → (s.svCh ch).begun = false →
    Runs (.stitchFreewheel ch mA) s fun t =>
      (t.svCh ch).begun = true ∧ (t.svCh ch).cond = .slowDecay ∧ t.reg (K.svSetpoint ch) = 0) ∧
  (∀ (s : State) (ch : Fin 32) (mA : Nat), s.runs ch 6 = true → (s.svCh ch).begun = false →
    Runs (.stitchClamp ch mA) s fun t =>
      (t.svCh ch).begun = true ∧ (t.svCh ch).cond = .fastDecay ∧ t.reg (K.svSetpoint ch) = 0) ∧
  (∀ (s : State) (ch : Fin 32), s.runs ch 7 = true → stOp (stitchAt (s.svCh ch).program (s.regN (K.stitchIndex ch) + 1)) ≠ 0 →
    Runs (.stitchWindow ch) s fun t =>
      (t.svCh ch).window = some (s.presentStitch ch % 16384, s.presentStitch ch / 16384 % 16384) ∧
      t.reg (K.stitchIndex ch) = (s.regN (K.stitchIndex ch) + 1 : Nat) ∧ (t.svCh ch).begun = false) ∧
  (∀ (s : State) (ch : Fin 32), s.runs ch 8 = true → stOp (stitchAt (s.svCh ch).program (s.regN (K.stitchIndex ch) + 1)) ≠ 0 →
    Runs (.stitchDither ch) s fun t =>
      (t.svCh ch).ditherAmp = s.presentStitch ch % 256 * 10 ∧ (t.svCh ch).ditherFreq = s.presentStitch ch / 256 % 4096 ∧
      (t.svCh ch).ditherStart = s.tick ∧ t.reg (K.stitchIndex ch) = (s.regN (K.stitchIndex ch) + 1 : Nat)) ∧
  (∀ (s : State) (ch : Fin 32), s.runs ch 9 = true →
    (s.svCh ch).loops.get 0 (s.regN (K.stitchIndex ch)) < s.presentStitch ch / 64 % 65536 →
    stOp (stitchAt (s.svCh ch).program (s.presentStitch ch % 64)) ≠ 0 →
    Runs (.stitchLoop ch) s fun t =>
      t.reg (K.stitchIndex ch) = (s.presentStitch ch % 64 : Nat) ∧
      (t.svCh ch).loops.get 0 (s.regN (K.stitchIndex ch)) = (s.svCh ch).loops.get 0 (s.regN (K.stitchIndex ch)) + 1) ∧
  (∀ (s : State) (ch : Fin 32), s.runs ch 9 = true →
    s.presentStitch ch / 64 % 65536 ≤ (s.svCh ch).loops.get 0 (s.regN (K.stitchIndex ch)) →
    stOp (stitchAt (s.svCh ch).program (s.regN (K.stitchIndex ch) + 1)) ≠ 0 →
    Runs (.stitchLoop ch) s fun t => t.reg (K.stitchIndex ch) = (s.regN (K.stitchIndex ch) + 1 : Nat)) ∧
  (∀ (s : State) (ch : Fin 32) (mA : Nat), s.runs ch 10 = true →
    Runs (.stitchHoldExt ch mA) s fun t =>
      (t.svCh ch).begun = true ∧
      (s.reg (K.svOwner ch) = 2 → t.reg (K.svSetpoint ch) = (s.svTarget ch (s.svCh ch).ext : Nat)) ∧
      (s.reg (K.svOwner ch) ≠ 2 → t.reg (K.svSetpoint ch) = 0 ∧ t.flag (K.svFlags ch) 7 = true)) ∧
  (∀ (s : State) (ch : Fin 32), s.reg (K.svState ch) = svRunning → (s.svCh ch).begun = true → timedStitch (s.presentStitch ch) = true →
    stOp (s.presentStitch ch) ≠ 1 → stOp (s.presentStitch ch) ≠ 2 → (s.svCh ch).start + stT (s.presentStitch ch) ≤ s.tick →
    Runs (.stitchTimerExpiry ch) s fun t =>
      (stOp (stitchAt (s.svCh ch).program (s.regN (K.stitchIndex ch) + 1)) ≠ 0 →
        t.reg (K.stitchIndex ch) = (s.regN (K.stitchIndex ch) + 1 : Nat) ∧ (t.svCh ch).begun = false ∧ (t.svCh ch).due = s.tick) ∧
      (stOp (stitchAt (s.svCh ch).program (s.regN (K.stitchIndex ch) + 1)) = 0 →
        t.reg (K.svState ch) = svDecaying ∧ (t.svCh ch).cond = .slowDecay ∧ t.reg (K.grant ch) = 0)) ∧
  (∀ (s : State) (ch : Fin 32) (mA : Nat), s.reg (K.svState ch) = svRunning → (s.svCh ch).begun = true →
    (stOp (s.presentStitch ch) = 5 ∨ stOp (s.presentStitch ch) = 6) →
    (if stI (s.presentStitch ch) = 0 then mA < 50 else mA ≤ stMa (s.presentStitch ch)) →
    stOp (stitchAt (s.svCh ch).program (s.regN (K.stitchIndex ch) + 1)) ≠ 0 →
    Runs (.stitchCurrentReached ch mA) s fun t =>
      t.reg (K.stitchIndex ch) = (s.regN (K.stitchIndex ch) + 1 : Nat) ∧ (t.svCh ch).begun = false) ∧
  (∀ (s : State) (ch : Fin 32) (mA : Nat), s.reg (K.svState ch) = svRunning → (s.svCh ch).begun = true → stOp (s.presentStitch ch) = 1 →
    (s.svCh ch).peakI ≤ mA → (s.svCh ch).window = none →
    stOp (stitchAt (s.svCh ch).program (s.regN (K.stitchIndex ch) + 1)) ≠ 0 →
    Runs (.stitchCurrentReached ch mA) s fun t =>
      t.reg (K.stitchIndex ch) = (s.regN (K.stitchIndex ch) + 1 : Nat) ∧ t.reg (K.boostOwner (svBank ch)) ≠ (ch : Nat)) ∧
  (∀ (s : State) (ch : Fin 32) (mA : Nat) (c : Instr),
    c ∈ [.stitchEnd ch mA, .stitchBoost ch mA, .stitchPeak ch mA, .stitchHold ch mA, .stitchRamp ch mA, .stitchFreewheel ch mA,
      .stitchClamp ch mA, .stitchWindow ch, .stitchDither ch, .stitchLoop ch, .stitchHoldExt ch mA, .stitchTimerExpiry ch,
      .stitchCurrentReached ch mA, .maxOnTime ch, .dutyBinBoundary ch, .boostDeferExpiry ch mA] →
    Runs c s fun t => (∀ k : Fin 32, k ≠ ch → t.svCh k = s.svCh k ∧ t.reg (K.svState k) = s.reg (K.svState k)) ∧
      t.ls = s.ls ∧ t.ctxs = s.ctxs ∧ t.axes = s.axes ∧ t.sections = s.sections ∧ t.blobs = s.blobs)

/-- Starts are arbitrated, and the limits end them (R282, R285, R286). A start whose claim fits begins with its claim as grant; one that has waited
BoostDeferLimit begins with the room there is, and BANK_LIMIT; MaxOnTime moves the channel to END; a millisecond bin gives DutyShare, and a channel that
reaches DutyLimit stops RUNNING. -/
def Obligations.StartsAreArbitratedAndLimited : Prop :=
  (∀ (s : State) (b : Fin 8) (ch : Nat) (p : PendStart) (boost : Nat), s.startOrder b = [ch] → (s.svCh ch).pending = some p →
    p.banked = false → (p.claim : Int) ≤ s.reg K.bankContinuousLimit - (s.claimsOfOthers ch : Nat) → firstIsBoost p.program = false →
    stOp (stitchAt p.program 0) ≠ 0 →
    Runs (.bankArbitrate b boost) s fun t =>
      t.reg (K.svState ch) = svRunning ∧ t.reg (K.grant ch) = (p.claim : Nat) ∧ t.reg (K.program ch) = (p.number : Nat) ∧
      t.reg (K.stitchIndex ch) = 0 ∧ (t.svCh ch).program = p.program ∧ (t.svCh ch).pending = none ∧ (t.svCh ch).due = p.req ∧
      t.reg (K.starts ch) = (s.bump (K.starts ch)).reg (K.starts ch) ∧ t.reg (K.boostMeasured b) = (min 65535 boost : Nat)) ∧
  (∀ (s : State) (ch : Fin 32) (mA : Nat) (p : PendStart), (s.svCh ch).pending = some p → p.req + s.deferTicks ≤ s.tick → p.banked = false →
    s.reg K.bankContinuousLimit - (s.claimsOfOthers ch : Nat) < (p.claim : Int) → firstIsBoost p.program = false →
    stOp (stitchAt p.program 0) ≠ 0 →
    Runs (.boostDeferExpiry ch mA) s fun t =>
      t.reg (K.svState ch) = svRunning ∧
      t.reg (K.grant ch) = ((max (s.reg K.bankContinuousLimit - (s.claimsOfOthers ch : Nat)) 0).toNat : Nat) ∧
      t.flag (K.svFlags ch) 1 = true ∧ (t.svCh ch).program = p.program ∧
      t.reg (K.bankLimitClips (svBank ch)) = (s.bump (K.bankLimitClips (svBank ch))).reg (K.bankLimitClips (svBank ch))) ∧
  (∀ (s : State) (ch : Fin 32) (t0 : Nat), s.reg (K.svState ch) = svRunning → s.regN (K.maxOnTime ch) ≠ 0 →
    (s.svCh ch).runningSince = some t0 → t0 + ticksMs (s.regN (K.maxOnTime ch)) ≤ s.tick →
    Runs (.maxOnTime ch) s fun t =>
      t.reg (K.svState ch) = svDecaying ∧ t.reg (K.onTime ch) = 0 ∧ t.reg (K.grant ch) = 0 ∧ t.flag (K.svFlags ch) 2 = true ∧
      (t.svCh ch).pending = none ∧ t.reg (K.maxOnTrips ch) = (s.bump (K.maxOnTrips ch)).reg (K.maxOnTrips ch)) ∧
  (∀ (s : State) (ch : Fin 32) (bins : List Nat), s.tick % ticksMs 1 = 0 →
    bins = ((s.svCh ch).binAcc + (if (s.svCh ch).runningSince.isSome then s.tick - (s.svCh ch).binFrom else 0)) :: (s.svCh ch).bins →
    Runs (.dutyBinBoundary ch) s fun t =>
      (t.svCh ch).bins = bins.take 60000 ∧
      t.reg (K.dutyShare ch) =
        (min 100 (100 * (((bins.take 60000).take (s.regN (K.dutyWindow ch))).sum) / ticksMs (s.regN (K.dutyWindow ch))) : Nat) ∧
      (s.regN (K.dutyLimit ch) < 100 → s.flag (K.svFlags ch) 3 = false →
        s.regN (K.dutyLimit ch) * ticksMs (s.regN (K.dutyWindow ch)) ≤ 100 * ((bins.take 60000).take (s.regN (K.dutyWindow ch))).sum →
        t.flag (K.svFlags ch) 3 = true ∧ t.reg (K.svState ch) ≠ svRunning ∧ (t.svCh ch).pending = none ∧
        t.reg (K.dutyTrips ch) = (s.bump (K.dutyTrips ch)).reg (K.dutyTrips ch)))

/-- Solenoid channels take their commands (R273, R276, R279, R280, R288, R289, R292, R294). START makes a start that waits, RELEASE ends a run at
END, discards the start of a RUNNING or WAITING channel and changes nothing on an OFF or DECAYING one, clearing the enable of a RUNNING channel waits for END and of another takes effect at once, a self-test is TESTING until it ends, a fault clear
returns the channel; a new program leaves every running profile as it is. -/
def Obligations.SolenoidChannelsTakeCommands : Prop :=
  (∀ (s : State) (slot : Fin 16) (ch : Fin 32) (p : BitVec 8), s.flag K.powerFlags 2 = false →
    Writes (.svCommandStart slot ch p) s slot (0x4020 + ch) 0x0C (leBytes 1 1 ++ leBytes 1 p.toNat) (svCommandRule ch) fun t =>
      (t.svCh ch).pending = some ⟨p.toNat, s.programOf p.toNat, s.tick, programClaim (s.programOf p.toNat), 0, false, false,
        some (s.regN K.nextJournalSeq), false, false⟩ ∧
      (s.reg (K.svState ch) = svOff → t.reg (K.svState ch) = svWaiting) ∧
      (s.reg (K.svState ch) = svRunning → t.reg (K.svState ch) = svRunning ∧ t.flag (K.svFlags ch) 14 = true)) ∧
  (∀ (s : State) (slot : Fin 16) (ch : Fin 32),
    Writes (.svCommandRelease slot ch) s slot (0x4020 + ch) 0x0C (leBytes 1 2 ++ leBytes 1 0) (svCommandRule ch) fun t =>
      (s.reg (K.svState ch) = svRunning ∨ s.reg (K.svState ch) = svWaiting → (t.svCh ch).pending = none) ∧
      (s.reg (K.svState ch) = svOff ∨ s.reg (K.svState ch) = svDecaying →
        t.svCh ch = s.svCh ch ∧ t.reg (K.svState ch) = s.reg (K.svState ch)) ∧
      (s.reg (K.svState ch) = svWaiting → (s.svCh ch).pending.isSome = true → t.reg (K.svState ch) = svOff) ∧
      (s.reg (K.svState ch) = svRunning → t.reg (K.svState ch) = svDecaying ∧ (t.svCh ch).cond = .slowDecay ∧ t.reg (K.grant ch) = 0 ∧
        t.reg (K.stitchIndex ch) = ((s.svCh ch).program.length - 1 : Nat))) ∧
  (∀ (s : State) (slot : Fin 16) (ch : Fin 32),
    Writes (.svEnable slot ch 1) s slot (0x4020 + ch) 0x01 (leBytes 1 (1 : BitVec 8).toNat) (svEnableRule ch) fun t =>
      t.reg (K.svEnable ch) = 1 ∧ (s.reg (K.svState ch) = svDisabled → t.reg (K.svState ch) = svOff) ∧ t.sv = s.sv) ∧
  (∀ (s : State) (slot : Fin 16) (ch : Fin 32), s.reg (K.svEnable ch) = 1 →
    Writes (.svEnable slot ch 0) s slot (0x4020 + ch) 0x01 (leBytes 1 (0 : BitVec 8).toNat) (svEnableRule ch) fun t =>
      (t.svCh ch).pending = none ∧
      (s.reg (K.svState ch) = svRunning → t.isDisabling (aimSv ch) = true ∧ t.reg (K.svEnable ch) = 1 ∧ t.reg (K.svState ch) = svRunning) ∧
      (s.reg (K.svState ch) = svOff ∨ s.reg (K.svState ch) = svWaiting →
        t.isDisabling (aimSv ch) = false ∧ t.reg (K.svEnable ch) = 0 ∧ t.reg (K.svState ch) = svDisabled)) ∧
  (∀ (s : State) (slot : Fin 16) (ch : Fin 32) (v : BitVec 8),
    Writes (.svSelfTest slot ch v) s slot (0x4020 + ch) 0x0D (leBytes 1 v.toNat) (svSelfTestRule ch) fun t =>
      t.reg (K.svState ch) = svTesting ∧ (t.svCh ch).testItem = some (s.regN K.nextJournalSeq)) ∧
  (∀ (s : State) (ch : Fin 32), s.reg (K.svState ch) = svTesting → [8, 9, 10, 11, 12].any (s.flag (K.svFlags ch)) = false →
    Runs (.svSelfTestEnd ch true) s fun t =>
      t.reg (K.selfTestResult ch) = 1 ∧ t.flag (K.svFlags ch) 13 = false ∧
      t.reg (K.svState ch) = (if s.reg (K.svEnable ch) = 1 then svOff else svDisabled) ∧ (t.svCh ch).testItem = none) ∧
  (∀ (s : State) (ch : Fin 32), s.reg (K.svState ch) = svTesting →
    Runs (.svSelfTestEnd ch false) s fun t =>
      t.reg (K.selfTestResult ch) = 2 ∧ t.flag (K.svFlags ch) 13 = true ∧ t.reg (K.svState ch) = svFault) ∧
  (∀ (s : State) (slot : Fin 16) (ch : Fin 32) (v : BitVec 8),
    Writes (.svFaultClear slot ch v) s slot (0x4020 + ch) 0x0E (leBytes 1 v.toNat) (svFaultClearRule ch) fun t =>
      (∀ b ∈ [4, 5, 8, 9, 10, 11, 12], t.flag (K.svFlags ch) b = false) ∧
      (s.reg (K.svState ch) = svFault → s.flag (K.svFlags ch) 13 = false →
        t.reg (K.svState ch) = (if s.reg (K.svEnable ch) = 1 then svOff else svDisabled)) ∧
      (s.reg (K.svState ch) = svFault → s.flag (K.svFlags ch) 13 = true → t.reg (K.svState ch) = svFault)) ∧
  (∀ (s : State) (slot : Fin 16) (p : Fin 64) (v : Bytes),
    Writes (.stitchProgramWrite slot p v) s slot (0x4100 + p) 0 v (stitchProgramRule p) fun t =>
      t.blob (K.stitchProgram p) = v ∧ t.reg (K.programClaim p) = (programClaim (programWords v) : Nat) ∧ t.sv = s.sv)

/-- The faults of the solenoid banks (R294, R295). A channel fault stops its channel in FAULT with its flag; a bank overload stops every channel of
its bank; BOOST_FAILED puts the bank in FAULT; REG_LOW and SUPPLY_LOW come and go with their condition, SUPPLY_LOW at every bank of the supply input (log entry 169). -/
def Obligations.SolenoidFaultsStopTheirChannels : Prop :=
  (∀ (s : State) (ch : Fin 32) (mA held : Nat), s.reg (K.svState ch) = svRunning → 200 ≤ s.reg (K.svSetpoint ch) → mA < 50 → ticksMs 2 ≤ held →
    Runs (.openLoad ch mA held) s fun t =>
      t.reg (K.svState ch) = svFault ∧ t.flag (K.svFlags ch) 8 = true ∧ (t.svCh ch).program = [] ∧ (t.svCh ch).pending = none ∧ t.reg (K.grant ch) = 0) ∧
  (∀ (s : State) (ch : Fin 32) (mA : Nat) (d : Bool), (d = true ∨ 30000 < mA) → s.reg (K.svState ch) ≠ svFault →
    Runs (.overcurrent ch mA d) s fun t =>
      t.reg (K.svState ch) = svFault ∧ t.flag (K.svFlags ch) 9 = true ∧ (t.svCh ch).cond = .fastDecay) ∧
  (∀ (s : State) (ch : Fin 32) (mV held : Nat), 3000 < mV → ticksMs 10 ≤ held → (s.svCh ch).cond = .off → s.reg (K.svState ch) = svOff →
    Runs (.shortToSupply ch mV held) s fun t =>
      t.reg (K.svState ch) = svFault ∧ t.flag (K.svFlags ch) 10 = true ∧ (t.svCh ch).shortNow = true) ∧
  (∀ (s : State) (ch : Fin 32), s.reg (K.svState ch) = svDecaying → (s.svCh ch).start + ticksMs 100 ≤ s.tick →
    Runs (.decayStuck ch) s fun t => t.reg (K.svState ch) = svFault ∧ t.flag (K.svFlags ch) 12 = true) ∧
  (∀ (s : State) (ch : Fin 32) (c : Int), 1500 < c → s.flag (K.svFlags ch) 11 = false →
    Runs (.overtemp ch c) s fun t => t.reg (K.svState ch) = svFault ∧ t.flag (K.svFlags ch) 11 = true ∧ (t.svCh ch).hotNow = true) ∧
  (∀ (s : State) (ch : Fin 32) (mA held : Nat),
    Runs (.regLow ch mA held) s fun t =>
      (s.regN (K.svSetpoint ch) ≤ mA → t.flag (K.svFlags ch) 6 = false) ∧
      (s.reg (K.svState ch) = svRunning → mA + s.regN (K.regBand ch) < s.regN (K.svSetpoint ch) → ticksMs 5 ≤ held →
        t.flag (K.svFlags ch) 6 = true) ∧ t.sv = s.sv) ∧
  (∀ (s : State) (b : Fin 8) (mV held : Nat), s.reg (K.bankEnable b) = 1 → s.reg (K.boostOwner b) = 0xFF →
    (10 * mV < 9 * s.regN (K.boostVoltage b) ∨ 11 * s.regN (K.boostVoltage b) < 10 * mV) → ticksMs 10 ≤ held →
    s.flag (K.bankFlags b) 0 = false →
    Runs (.boostFailed b mV held) s fun t =>
      t.flag (K.bankFlags b) 0 = true ∧ t.reg (K.bankState b) = 2 ∧ t.reg (K.boostMeasured b) = (min 65535 mV : Nat) ∧ t.sv = s.sv) ∧
  (∀ (s : State) (b : Fin 8) (mV : Nat),
    Runs (.supplyLow b mV) s fun t => ∀ c : Fin 8,
      (svInput c = svInput b → t.reg (K.supplyVoltage c) = (min 65535 mV : Nat) ∧
        t.flag (K.bankFlags c) 1 = (decide (mV < 6000) || s.flag (K.bankFlags c) 1)) ∧
      (svInput c ≠ svInput b → t.reg (K.supplyVoltage c) = s.reg (K.supplyVoltage c) ∧
        t.reg (K.bankFlags c) = s.reg (K.bankFlags c))) ∧
  (∀ (s : State) (b : Fin 8) (mV : Nat),
    Runs (.bankSupplyReturn b mV) s fun t => ∀ c : Fin 8,
      (svInput c = svInput b → t.reg (K.supplyVoltage c) = (min 65535 mV : Nat) ∧
        t.flag (K.bankFlags c) 1 = (!decide (6500 ≤ mV) && s.flag (K.bankFlags c) 1)) ∧
      (svInput c ≠ svInput b → t.reg (K.supplyVoltage c) = s.reg (K.supplyVoltage c) ∧
        t.reg (K.bankFlags c) = s.reg (K.bankFlags c))) ∧
  (∀ (s : State) (b : Fin 8) (mA held : Nat), 70000 < mA → ticksUs 20 ≤ held →
    Runs (.bankOverload b mA held) s fun t =>
      t.flag (K.bankFlags b) 2 = true ∧ (∀ c ∈ bankChannels b, t.reg (K.svState c) = svFault ∧ t.inPeak c = false) ∧
      (∀ c, svBank c ≠ b.val → t.svCh c = s.svCh c))

/-! ### Load channels (10_load_channels.md) -/

/-- Load channels take their commands (R301, R303, R312, R316-R318, R323). A duty switches a channel on, changes it from its period boundary on or switches it off, and a tripped channel
keeps its state; an enable starts it OFF, LATCHED where it was, a disable leaves it DISABLED at once; a fault clear forgets the retries and frees a LATCHED channel; a reconnect closes a tripped group's switch. -/
def Obligations.LoadChannelsTakeCommands : Prop :=
  (∀ (s : State) (slot : Fin 16) (ch : Fin 48) (d : BitVec 16), s.reg (K.lsState ch) = lsOff → s.reg (K.commandedDuty ch) = 0 →
    s.flag (K.lsFlags ch) lfThermal = false → s.safeOff = false → d ≠ 0 →
    Writes (.lsDuty slot ch d) s slot (0x4400 + ch) 0x15 (leBytes 2 d.toNat) (lsDutyRule ch) fun t =>
      t.reg (K.commandedDuty ch) = (d.toNat : Int) ∧ t.reg (K.lsState ch) = (if s.reg (K.inrushTime ch) = 0 then lsOn else lsInrush) ∧
      t.reg (K.appliedDuty ch) = s.appliedOf ch d.toNat ∧ (t.lsCh ch).onAt = s.tick ∧
      (s.flag (K.groupFlags (lsGroup ch)) 1 = false → t.reg (K.groupState (lsGroup ch)) = 0)) ∧
  (∀ (s : State) (slot : Fin 16) (ch : Fin 48) (d : BitVec 16), s.reg (K.commandedDuty ch) ≠ 0 → s.lsConducts ch = true →
    Writes (.lsDuty slot ch d) s slot (0x4400 + ch) 0x15 (leBytes 2 d.toNat) (lsDutyRule ch) fun t =>
      t.reg (K.commandedDuty ch) = (d.toNat : Int) ∧
      (d = 0 → t.reg (K.lsState ch) = lsOff ∧ t.reg (K.appliedDuty ch) = 0) ∧
      (d ≠ 0 → t.reg (K.lsState ch) = s.reg (K.lsState ch)) ∧
      (d ≠ 0 → (d.toNat : Int) ≠ s.reg (K.commandedDuty ch) → s.lsBoundary ch = s.tick → t.reg (K.appliedDuty ch) = s.appliedOf ch d.toNat) ∧
      (d ≠ 0 → (d.toNat : Int) ≠ s.reg (K.commandedDuty ch) → s.tick < s.lsBoundary ch →
        t.reg (K.appliedDuty ch) = s.reg (K.appliedDuty ch) ∧ (t.lsCh ch).dcNext = some (s.lsBoundary ch))) ∧
  (∀ (s : State) (slot : Fin 16) (ch : Fin 48) (d : BitVec 16), s.reg (K.lsState ch) = lsTripped ∨ s.reg (K.lsState ch) = lsLatched →
    Writes (.lsDuty slot ch d) s slot (0x4400 + ch) 0x15 (leBytes 2 d.toNat) (lsDutyRule ch) fun t =>
      t.reg (K.commandedDuty ch) = (d.toNat : Int) ∧ t.reg (K.lsState ch) = s.reg (K.lsState ch) ∧
      t.reg (K.appliedDuty ch) = s.reg (K.appliedDuty ch)) ∧
  (∀ (s : State) (slot : Fin 16) (ch : Fin 48), s.reg (K.lsEnable ch) = 0 →
    Writes (.lsEnable slot ch 1) s slot (0x4400 + ch) 0x01 (leBytes 1 (1 : BitVec 8).toNat) (lsEnableRule ch) fun t =>
      t.reg (K.lsEnable ch) = 1 ∧ t.reg (K.commandedDuty ch) = 0 ∧ t.ls = s.ls ∧
      t.reg (K.lsState ch) = (if s.flag (K.lsFlags ch) lfFuseTrip || s.flag (K.lsFlags ch) lfLockedOut then lsLatched else lsOff)) ∧
  (∀ (s : State) (slot : Fin 16) (ch : Fin 48), s.reg (K.lsEnable ch) = 1 →
    Writes (.lsEnable slot ch 0) s slot (0x4400 + ch) 0x01 (leBytes 1 (0 : BitVec 8).toNat) (lsEnableRule ch) fun t =>
      t.reg (K.lsEnable ch) = 0 ∧ t.reg (K.lsState ch) = lsDisabled ∧ t.reg (K.commandedDuty ch) = 0 ∧ t.reg (K.appliedDuty ch) = 0) ∧
  (∀ (s : State) (slot : Fin 16) (ch : Fin 48) (v : BitVec 8),
    Writes (.lsFaultClear slot ch v) s slot (0x4400 + ch) 0x16 (leBytes 1 v.toNat) (lsFaultClearRule ch) fun t =>
      t.reg (K.retriesUsed ch) = 0 ∧
      (s.reg (K.lsState ch) = lsTripped → t.reg (K.lsState ch) = lsTripped) ∧
      (s.reg (K.lsState ch) = lsLatched → t.flag (K.lsFlags ch) lfLockedOut = false ∧ t.flag (K.lsFlags ch) lfFuseTrip = false ∧
        (s.reg (K.commandedDuty ch) = 0 → t.reg (K.lsState ch) = lsOff) ∧
        (s.reg (K.commandedDuty ch) ≠ 0 → s.flag (K.lsFlags ch) lfThermal = false → s.safeOff = false →
          t.reg (K.lsState ch) = (if s.reg (K.inrushTime ch) = 0 then lsOn else lsInrush)))) ∧
  (∀ (s : State) (slot : Fin 16) (g : Fin 4) (v : BitVec 8), s.flag (K.groupFlags g) 1 = true → s.safeOff = false →
    Writes (.groupReconnect slot g v) s slot (0x4480 + g) 0x06 (leBytes 1 v.toNat) (groupReconnectRule g) fun t =>
      t.flag (K.groupFlags g) 1 = false ∧ t.reg (K.groupState g) = 0 ∧ t.ls = s.ls)

/-- Load channels run and restart (R303, R304, R311, R313, R314, R316, R317, R319, R320). The inrush window and slew end in ON; the fuse model takes its step and warns; a
lamp's duty is compensated up to 100 %; a tripped channel restarts after its delay until its retries are used, then is LATCHED; a retired segment's understudy goes into service. -/
def Obligations.LoadChannelsRunAndRestart : Prop :=
  (∀ (s : State) (ch : Fin 48), s.reg (K.lsState ch) = lsInrush → (s.lsCh ch).slewFrom = none →
    (s.lsCh ch).onAt + ticksMs (s.regN (K.inrushTime ch)) ≤ s.tick →
    Runs (.inrushEnd ch) s fun t => t.reg (K.lsState ch) = lsOn ∧ (t.lsCh ch).onSince = some s.tick) ∧
  (∀ (s : State) (ch : Fin 48) (c : Int), s.reg (K.lsState ch) = lsInrush → (s.lsCh ch).slewFrom = none → 1400 ≤ c →
    Runs (.slewFallback ch c) s fun t =>
      (t.lsCh ch).slewFrom = some s.tick ∧ t.flag (K.lsFlags ch) lfSlew = true ∧ t.reg (K.lsState ch) = lsInrush ∧
      t.reg (K.slewFallbacks ch) = (s.bump (K.slewFallbacks ch)).reg (K.slewFallbacks ch)) ∧
  (∀ (s : State) (ch : Fin 48) (t0 : Nat), s.reg (K.lsState ch) = lsInrush → (s.lsCh ch).slewFrom = some t0 →
    t0 + ticksMs (s.regN (K.slewTime ch)) ≤ s.tick →
    Runs (.slewEnd ch) s fun t => t.reg (K.lsState ch) = lsOn ∧ (t.lsCh ch).slewFrom = none) ∧
  (∀ (s : State) (ch : Fin 48) (mean meanSq peak : Nat), s.reg (K.lsEnable ch) = 1 →
    Runs (.fuseStep ch mean meanSq peak) s fun t =>
      (t.lsCh ch).dT = fuseRise (s.regN (K.wireSection ch)) (s.wireTemp ch) (s.lsCh ch).dT meanSq ∧
      t.reg (K.lsCurrent ch) = (min mean 65535 : Nat) ∧ t.reg (K.wireTemperature ch) = t.wireTemp ch * 10 / 65536 ∧
      (t.wireTemp ch < t.tclass ch → t.tclass ch - 10 * 65536 ≤ t.wireTemp ch → t.flag (K.lsFlags ch) lfFuseWarn = true) ∧
      (t.wireTemp ch < t.tclass ch - 15 * 65536 → t.flag (K.lsFlags ch) lfFuseWarn = false) ∧
      (t.tclass ch ≤ t.wireTemp ch → s.flag (K.lsFlags ch) lfFuseTrip = false → s.reg (K.lsState ch) ≠ lsFault →
        t.reg (K.lsState ch) = lsLatched ∧ t.flag (K.lsFlags ch) lfFuseTrip = true ∧ t.reg (K.tripCause ch) = 4)) ∧
  (∀ (s : State) (ch : Fin 48) (v i : Nat), s.reg (K.loadKind ch) = 1 → s.lsConducts ch = true → (s.lsCh ch).dc ≠ 0 →
    6000 * (10 ^ 13 * 65536) ≤ lampVolts (s.regN (K.wireSection ch)) (s.regN (K.wireLength ch)) (s.wireTemp ch) v i →
    s.flag (K.groupFlags (lsGroup ch)) 2 = false →
    Runs (.lampDuty ch v i) s fun t =>
      t.reg (K.appliedDuty ch) = min 1000 (lampDuty (s.lsCh ch).dc (s.reg (K.lampNominal ch) * (10 ^ 13 * 65536))
        (lampVolts (s.regN (K.wireSection ch)) (s.regN (K.wireLength ch)) (s.wireTemp ch) v i) (s.reg (K.lampExponent ch))) ∧
      t.reg (K.commandedDuty ch) = s.reg (K.commandedDuty ch)) ∧
  (∀ (s : State), Runs .fuseSave s fun t =>
      (∀ n : Fin 48, t.jr.fuseSaved.get 0 n = (s.lsCh n).dT) ∧ t.jr.items = s.jr.items ∧ t.ls = s.ls ∧ t.regs = s.regs) ∧
  (∀ (s : State) (ch : Fin 48), s.reg (K.lsState ch) = lsTripped → s.reg (K.commandedDuty ch) ≠ 0 → s.reg (K.tripCause ch) ≠ (tcShed : Nat) →
    s.flag (K.lsFlags ch) lfThermal = false → (s.lsCh ch).tripTick + ticksMs (s.regN (K.retryDelay ch)) ≤ s.tick →
    Runs (.restartCheck ch) s fun t =>
      (s.reg (K.retriesUsed ch) < s.reg (K.retryCount ch) → s.safeOff = false →
        t.reg (K.retriesUsed ch) = s.reg (K.retriesUsed ch) + 1 ∧
        t.reg (K.lsState ch) = (if s.reg (K.inrushTime ch) = 0 then lsOn else lsInrush) ∧
        t.reg (K.appliedDuty ch) = s.appliedOf ch (s.reg (K.commandedDuty ch))) ∧
      (s.reg (K.retryCount ch) ≤ s.reg (K.retriesUsed ch) →
        t.reg (K.lsState ch) = lsLatched ∧ t.flag (K.lsFlags ch) lfLockedOut = true)) ∧
  (∀ (s : State) (ch : Fin 48) (t0 : Nat), s.reg (K.lsState ch) = lsOn → (s.lsCh ch).onSince = some t0 →
    t0 + ticksS (s.regN (K.retryWindow ch)) ≤ s.tick →
    Runs (.retryWindow ch) s fun t => t.reg (K.retriesUsed ch) = 0 ∧ t.reg (K.lsState ch) = lsOn ∧ t.ls = s.ls) ∧
  (∀ (s : State) (ch : Fin 48) (r mA h : Nat), s.reg (K.understudyInService ch) = 0 → 0 < s.reg (K.segmentsHealthy ch) →
    Runs (.segmentRetire ch r mA h true) s fun t =>
      t.reg (K.understudyInService ch) = 1 ∧ t.reg (K.segmentsHealthy ch) = s.reg (K.segmentsHealthy ch) ∧
      t.reg (K.segmentsRetired ch) = (s.bump (K.segmentsRetired ch)).reg (K.segmentsRetired ch) ∧
      t.reg K.segmentsLeft = s.reg K.segmentsLeft - 1 ∧ t.ls = s.ls) ∧
  (∀ (s : State) (ch : Fin 48) (r mA h : Nat), s.reg (K.understudyInService ch) ≠ 0 → 0 < s.reg (K.segmentsHealthy ch) → 1500 < r →
    1000 ≤ mA → ticksS 10 ≤ h →
    Runs (.segmentRetire ch r mA h false) s fun t =>
      t.reg (K.segmentsHealthy ch) = s.reg (K.segmentsHealthy ch) - 1 ∧ t.flag (K.lsFlags ch) lfDerated = true ∧
      t.reg (K.effectiveRating ch) = min (lsClassRating ch) (5000 * (s.reg (K.segmentsHealthy ch) - 1))) ∧
  (∀ (s : State) (ch : Fin 48), s.runningAct actSegmentTest ch = none → s.reg K.segmentTestInterval ≠ 0 →
    s.maint.segTested.get 0 ch + ticksS (s.regN K.segmentTestInterval) ≤ s.tick → s.schedulable (domFeed (lsGroup ch)) = true →
    s.reg (K.understudyInService ch) = 0 →
    Runs (.segmentTest ch false) s fun t =>
      t.maint.acts = s.maint.acts ++ [⟨actSegmentTest, domFeed (lsGroup ch), ch, .scheduled, 0, s.tick, 0, 0⟩] ∧
      t.flag (K.lsFlags ch) 14 = true) ∧
  (∀ (s : State) (ch : Fin 48) (a : Activity), s.runningAct actSegmentTest ch = some a → a.start + ticksMs (2 * lsActiveSegments ch) ≤ s.tick →
    s.maint.waiting = [] →
    Runs (.segmentTest ch false) s fun t =>
      t.maint.segTested.get 0 ch = s.tick ∧ a ∉ t.maint.acts ∧ t.flag (K.lsFlags ch) 14 = false ∧
      t.reg (K.segmentsHealthy ch) = s.reg (K.segmentsHealthy ch))

/-- Loads trip and show their faults (R305, R306, R315, R318, R327). A trip opens the channel, counts it and names its cause; a group over its limit sheds its lowest-ranked
channel, and one over 250 A opens; the thermal latch, the open-load and supply flags and FEED_LOW come and go with their condition. -/
def Obligations.LoadsTripAndShowFaults : Prop :=
  (∀ (s : State) (ch : Fin 48) (mA h : Nat), s.reg (K.lsState ch) = lsOn → 3 * s.reg (K.effectiveRating ch) < 2 * (mA : Int) → ticksMs 1 ≤ h →
    Runs (.overload ch mA h) s fun t =>
      t.reg (K.lsState ch) = lsTripped ∧ t.reg (K.tripCause ch) = 2 ∧ t.reg (K.appliedDuty ch) = 0 ∧ t.flag (K.lsFlags ch) lfOverload = true ∧
      t.reg (K.trips ch) = (s.bump (K.trips ch)).reg (K.trips ch) ∧ (t.lsCh ch).tripTick = s.tick ∧
      t.reg (K.commandedDuty ch) = s.reg (K.commandedDuty ch) ∧ ∀ k : Fin 48, k ≠ ch → t.lsCh k = s.lsCh k) ∧
  (∀ (s : State) (ch : Fin 48) (mA d l : Nat), s.lsConducts ch = true → lsShortThreshold ch < mA ∨ ticksUs 1 ≤ d →
    Runs (.short ch mA d l) s fun t =>
      t.reg (K.lsState ch) = lsTripped ∧ t.reg (K.tripCause ch) = 1 ∧ t.reg (K.appliedDuty ch) = 0 ∧ t.flag (K.lsFlags ch) lfShort = true) ∧
  (∀ (s : State) (ch : Fin 48) (mA d l : Nat), s.reg (K.lsState ch) = lsInrush → (s.lsCh ch).slewFrom = none → ticksUs 5 ≤ l →
    Runs (.short ch mA d l) s fun t => t.reg (K.lsState ch) = lsTripped ∧ t.reg (K.tripCause ch) = 1) ∧
  (∀ (s : State) (ch : Fin 48) (c : Int), 1500 ≤ c →
    Runs (.thermalLatch ch c) s fun t =>
      t.flag (K.lsFlags ch) lfThermal = true ∧
      (s.reg (K.lsState ch) = lsOff ∨ s.lsConducts ch = true → t.reg (K.lsState ch) = lsTripped ∧ t.reg (K.tripCause ch) = 3)) ∧
  (∀ (s : State) (ch : Fin 48) (c : Int), c < 1300 →
    Runs (.thermalLatchClear ch c) s fun t =>
      t.flag (K.lsFlags ch) lfThermal = false ∧ t.reg (K.lsState ch) = s.reg (K.lsState ch) ∧ t.ls = s.ls) ∧
  (∀ (s : State) (g : Fin 4) (mean h : Nat) (n : Nat), 40000 < mean → ticksS 2 ≤ h → (s.feed g).lastShed = none → s.shedPick g = some n →
    Runs (.groupShed g mean h) s fun t =>
      t.reg (K.lsState n) = lsTripped ∧ t.reg (K.tripCause n) = 5 ∧ t.flag (K.lsFlags n) lfShed = true ∧ t.flag (K.groupFlags g) 0 = true ∧
      (t.feed g).lastShed = some s.tick ∧ t.reg (K.groupSheds g) = (s.bump (K.groupSheds g)).reg (K.groupSheds g)) ∧
  (∀ (s : State) (g : Fin 4) (mean h : Nat), mean ≤ 40000 →
    Runs (.groupShed g mean h) s fun t =>
      t.flag (K.groupFlags g) 0 = false ∧ (t.feed g).lastShed = none ∧ t.reg (K.groupCurrent g) = (min mean 65535 : Nat) ∧ t.ls = s.ls) ∧
  (∀ (s : State) (g : Fin 4) (mA h : Nat), 250000 < mA → ticksUs 50 ≤ h →
    Runs (.groupTrip g mA h) s fun t =>
      t.reg (K.groupState g) = 1 ∧ t.flag (K.groupFlags g) 1 = true ∧
      ∀ n ∈ groupChannels g, t.lsConducts n = false ∧ t.reg (K.lsState n) ≠ lsTripped) ∧
  (∀ (s : State) (ch : Fin 48) (mA h : Nat),
    Runs (.openLoadOn ch mA h) s fun t =>
      (s.reg (K.openLoadThreshold ch) ≤ (mA : Int) ∨ s.lsConducts ch = false ∨ s.reg (K.appliedDuty ch) < 100 →
        t.flag (K.lsFlags ch) lfOpenOn = false) ∧
      ((mA : Int) < s.reg (K.openLoadThreshold ch) → s.lsConducts ch = true → 100 ≤ s.reg (K.appliedDuty ch) → ticksMs 100 ≤ h →
        t.flag (K.lsFlags ch) lfOpenOn = true) ∧ t.ls = s.ls) ∧
  (∀ (s : State) (ch : Fin 48) (mV h : Nat),
    Runs (.openLoadOff ch mV h) s fun t =>
      (3000 ≤ mV → mV ≤ 5500 → s.reg (K.lsState ch) = lsOff → s.reg (K.offDiagnostics ch) = 1 → ticksMs 10 ≤ h →
        t.flag (K.lsFlags ch) lfOpenOff = true) ∧
      (mV < 3000 ∨ 5500 < mV ∨ s.reg (K.lsState ch) ≠ lsOff → t.flag (K.lsFlags ch) lfOpenOff = false) ∧ t.ls = s.ls) ∧
  (∀ (s : State) (ch : Fin 48) (mV h : Nat),
    Runs (.lsShortToSupply ch mV h) s fun t =>
      (6500 < mV → s.reg (K.lsState ch) = lsOff → ticksMs 10 ≤ h → t.flag (K.lsFlags ch) lfSupply = true) ∧
      (mV ≤ 6500 ∨ s.reg (K.lsState ch) ≠ lsOff → t.flag (K.lsFlags ch) lfSupply = false) ∧ t.ls = s.ls) ∧
  (∀ (s : State) (ch : Fin 48) (mA h : Nat), s.lsDriven ch = false → 500 < mA → ticksUs 100 ≤ h → (s.lsCh ch).stuck = false →
    s.reg (K.lsEnable ch) = 1 →
    Runs (.stuckOn ch mA h) s fun t =>
      (t.lsCh ch).stuck = true ∧ t.flag (K.lsFlags ch) lfStuck = true ∧ t.reg (K.lsState ch) = lsFault ∧
      t.reg (K.groupState (lsGroup ch)) = 1) ∧
  (∀ (s : State) (g : Fin 4) (mV : Nat),
    Runs (.feedLow g mV) s fun t =>
      t.reg (K.groupVoltage g) = (min mV 65535 : Nat) ∧ t.flag (K.groupFlags g) 2 = (decide (mV < 6000) || s.flag (K.groupFlags g) 2)) ∧
  (∀ (s : State) (g : Fin 4) (mV : Nat),
    Runs (.feedReturn g mV) s fun t =>
      t.reg (K.groupVoltage g) = (min mV 65535 : Nat) ∧ t.flag (K.groupFlags g) 2 = (!decide (6500 ≤ mV) && s.flag (K.groupFlags g) 2))

/-! ### Sensing inputs (11_sensing_inputs.md) -/

/-- Samples and edges reach their inputs (R333, R336-R344, R347, R350). An analog input filters and scales its sample; an edge that has stood for FinGlitch is counted by its direction and stamped with its first transition,
a quadrature edge of both channels at once is discarded; an acoustic burst opens at its threshold and is counted once; a bridge and the IMU show their
samples, rotated and saturated. A sample changes no output channel, no context and no cue. -/
def Obligations.SamplesReachTheirInputs : Prop :=
  (∀ (s : State) (n : Fin 32) (x : Int), s.reg (K.ainEnable n) = 1 →
    Runs (.ainSample n x) s fun t =>
      ((s.ain n).y = none ∨ s.reg (K.ainFilter n) = 0 → t.reg (K.ainNative n) = clampI 0 (ainFull (s.reg (K.ainMode n))) x) ∧
      (∀ y, (s.ain n).y = some y → s.reg (K.ainFilter n) ≠ 0 → t.reg (K.ainNative n) =
        y + ainFactor (s.reg (K.ainFilter n)) * (clampI 0 (ainFull (s.reg (K.ainMode n))) x - y) / 65536) ∧
      (t.ain n).y = some (t.reg (K.ainNative n)) ∧ t.reg (K.ainValue n) = s.ainScaled n (t.reg (K.ainNative n)) ∧ (t.ain n).lastTick = s.tick) ∧
  (∀ (s : State) (n : Fin 16) (v0 v : Int) (b0 b : Bool) (h peak : Nat), s.reg (K.finEnable n) = 1 → s.regN (K.finGlitch n) ≤ h * 10 →
    (s.reg (K.finMode n) ≠ 2 → s.finHigh n v0 = false ∧ s.finHigh n v = true ∧ s.finArmed n peak = true) →
    (s.reg (K.finMode n) = 2 → ((s.finHigh n v0 != s.finHigh n v) != (b0 != b)) = true) →
    Runs (.finEdge n ⟨v0, b0⟩ ⟨v, b⟩ h peak) s fun t =>
      t.reg (K.finCount n) = clampI (-(2 ^ 63)) (2 ^ 63 - 1) (s.reg (K.finCount n) +
        (if 2 ≤ s.reg (K.finMode n) then pairDirection (s.reg (K.finMode n)) (s.finHigh n v0) (s.finHigh n v) b
          else s.finSense n (pairDirection (s.reg (K.finMode n)) (s.finHigh n v0) (s.finHigh n v) b))) ∧
      t.reg (K.lastEdgeTime n) = (s.timeOfTick (s.tick - h) : Nat) ∧ (t.fin n).lastEdge = some (s.tick - h) ∧
      t.flag (K.finFlags n) ifNoEdges = false ∧
      ∀ t0, (s.fin n).lastEdge = some t0 → (t.fin n).intervals = ((s.tick - h - t0) :: (s.fin n).intervals).take 64) ∧
  (∀ (s : State) (n : Fin 16) (v0 v : Int) (b0 b : Bool) (h peak : Nat), s.reg (K.finEnable n) = 1 → s.regN (K.finGlitch n) ≤ h * 10 →
    s.reg (K.finMode n) = 2 → (s.finHigh n v0 != s.finHigh n v) = true → (b0 != b) = true →
    Runs (.finEdge n ⟨v0, b0⟩ ⟨v, b⟩ h peak) s fun t =>
      t.reg (K.finCount n) = s.reg (K.finCount n) ∧ t.flag (K.finFlags n) ifSignal = true ∧ (t.fin n).discardAt = some s.tick) ∧
  (∀ (s : State) (n : Fin 16) (v0 v : Int) (b0 b : Bool) (h peak : Nat), h * 10 < s.regN (K.finGlitch n) →
    Runs (.finEdge n ⟨v0, b0⟩ ⟨v, b⟩ h peak) s fun t => t = s) ∧
  (∀ (s : State) (n : Fin 16), s.reg (K.finEnable n) = 1 →
    (s.fin n).lastEdge.getD (s.fin n).enabledAt + ticksMs (s.regN (K.finZeroTime n)) ≤ s.tick →
    Runs (.noEdges n) s fun t => t.flag (K.finFlags n) ifNoEdges = true ∧ t.reg (K.finFrequency n) = 0 ∧ t.fins = s.fins) ∧
  (∀ (s : State) (n : Fin 16) (x : BitVec 16), s.reg (K.acuEnable n) = 1 →
    Runs (.acuSample n x) s fun t => (t.acu n).env = (s.acu n).env + (absI x.toInt - (s.acu n).env) / 16 ∧ (x.toInt = 32767 → t.flag (K.acuFlags n) ifClipped = true)) ∧
  (∀ (s : State) (n : Fin 16) (x : BitVec 16), s.reg (K.acuEnable n) = 1 → (s.acu n).open_ = false → (s.acu n).closing = false →
    (s.acu n).hadBurst = false → 0 < s.regN (K.acuMaxLength n) →
    ((s.regN (K.acuThresholdOn n) : Nat) : Int) ≤ (s.acu n).env + (absI x.toInt - (s.acu n).env) / 16 →
    ((s.regN (K.acuThresholdOff n) : Nat) : Int) ≤ (s.acu n).env + (absI x.toInt - (s.acu n).env) / 16 →
    Runs (.acuSample n x) s fun t => (t.acu n).open_ = true ∧ (t.acu n).t0 = s.tick ∧ (t.acu n).pk = absI x.toInt ∧ (t.acu n).cfg = s.acuConfig n) ∧
  (∀ (s : State) (n : Fin 16), (s.acu n).closing = true → s.acuCounts n = true → (((s.acu n).cfg.getD 4 0 : Nat) : Int) ≤ (s.acu n).pk →
    Runs (.acuImpact n) s fun t =>
      (t.acu n).closing = false ∧ t.reg (K.heavyImpacts n) = (s.bump (K.heavyImpacts n)).reg (K.heavyImpacts n) ∧
      t.reg (K.lastImpactTime n) = (s.timeOfTick (s.acu n).t0 : Nat) ∧ t.reg (K.grainImpacts n) = s.reg (K.grainImpacts n) ∧
      t.reg (K.lightImpacts n) = s.reg (K.lightImpacts n)) ∧
  (∀ (s : State) (n : Fin 16), s.reg (K.acuEnable n) = 1 → (s.acu n).rateAt + ticksMs 1 ≤ s.tick →
    Runs (.grainRateUpdate n) s fun t =>
      t.reg (K.grainRate n) = (((s.acu n).grains.filter (fun k => decide (s.tick < k + ticksMs (s.regN (K.acuRateWindow n))))).length * 10 ^ 6 /
        max 1 (s.regN (K.acuRateWindow n)) : Nat) ∧ (t.acu n).rateAt = s.tick) ∧
  (∀ (s : State) (n : Fin 4) (raw : Int) (e : BitVec 16), s.reg (K.brgEnable n) = 1 →
    Runs (.brgSample n raw e) s fun t =>
      t.reg (K.brgValue n) = satI32 (clampI (-(s.brgFullScale n)) (s.brgFullScale n) raw - s.reg (K.brgTare n)) ∧
      t.reg (K.brgExcitationMeasured n) = (e.toNat : Nat) ∧ (t.brg n).lastTick = s.tick ∧
      (t.brg n).fullRun = (if s.brgFullScale n ≤ absI raw then (s.brg n).fullRun + 1 else 0)) ∧
  (∀ (s : State) (ax ay az wx wy wz : Int), Runs (.imuSample ax ay az wx wy wz) s fun t =>
      (∀ k < 3, t.reg (K.imuChannel k) = satI32 ((rotateQ (quatOf (s.blob K.imuMounting)) ax ay az).getD k 0)) ∧
      t.reg K.pitch = satI32 (t.imu.pitchQ / 65536) ∧ t.reg K.roll = satI32 (t.imu.rollQ / 65536) ∧
      t.imu.last = [ax, ay, az, wx, wy, wz] ∧ t.imu.lastTick = s.tick ∧
      (s.impl0Axis = none → ∀ k < 3, t.reg (K.imuChannel (3 + k)) =
        satI32 ((rotateQ (quatOf (s.blob K.imuMounting)) wx wy wz).getD k 0 - s.imu.bias.getD k 0 / 65536))) ∧
  (∀ (s : State) (n : Fin 32) (m : Fin 16) (b : Fin 4) (x y : Int) (v e : BitVec 16) (b0 b1 : Bool) (h p : Nat) (c : Instr),
    c ∈ [.ainSample n x, .acuSample m v, .brgSample b x e, .finEdge m ⟨x, b0⟩ ⟨y, b1⟩ h p, .imuSample x x x x x x, .noEdges m, .acuImpact m, .grainRateUpdate m] →
    Runs c s fun t => t.sv = s.sv ∧ t.ls = s.ls ∧ t.ctxs = s.ctxs ∧ t.cues = s.cues ∧ t.jr = s.jr ∧ t.blobs = s.blobs)

/-- Inputs take their commands and show their faults (R335, R341, R346, R348, R352-R355). A count is zeroed, a tare averages for a second and is then added; a condition that has held
sets its fault bit and one that has gone clears it; a supply in limit is switched off with all its inputs in fault, and on again a second later; a failed
converter is taken over by the understudy. -/
def Obligations.InputsShowTheirFaults : Prop :=
  (∀ (s : State) (slot n : Fin 16) (v : BitVec 8),
    Writes (.finZero slot n v) s slot (0x4840 + n) 0x0F (leBytes 1 v.toNat) (finZeroRule n) fun t =>
      t.reg (K.finCount n) = 0 ∧ t.fins = s.fins) ∧
  (∀ (s : State) (slot : Fin 16) (n : Fin 4) (v : BitVec 8),
    Writes (.brgTareCommand slot n v) s slot (0x4880 + n) 0x06 (leBytes 1 v.toNat) (brgTareRule n) fun t =>
      (t.brg n).tares = (s.brg n).tares ++ [⟨s.regN K.nextJournalSeq, s.tick, 0, 0⟩] ∧ t.reg (K.brgTare n) = s.reg (K.brgTare n)) ∧
  (∀ (s : State) (n : Fin 4) (x : Tare) (l : List Tare), (s.brg n).tares = x :: l → x.start + ticksS 1 ≤ s.tick → x.count ≠ 0 →
    Runs (.brgTareEnd n) s fun t =>
      t.reg (K.brgTare n) = satI32 (s.reg (K.brgTare n) + x.sum.tdiv x.count) ∧ (t.brg n).tares = l) ∧
  (∀ (s : State) (n : Fin 32) (t0 : Nat), s.reg (K.ainEnable n) = 1 → (s.ain n).outFrom = some t0 → t0 + ticksMs 10 ≤ s.tick →
    Runs (.ainOutOfRange n) s fun t => t.flag (K.ainFlags n) ifRange = true ∧ t.ainFault n = true ∧ t.ains = s.ains) ∧
  (∀ (s : State) (n : Fin 16) (t0 : Nat), s.reg (K.acuEnable n) = 1 → (s.acu n).noiseFrom = some t0 → t0 + ticksMs 100 ≤ s.tick →
    Runs (.acuNoise n) s fun t => t.flag (K.acuFlags n) ifSignal = true ∧ t.acuCounts n = false ∧ t.acus = s.acus) ∧
  (∀ s : State, s.imu.repeats.any (fun r => decide (50 ≤ r)) = true ∨ s.imu.lastTick + ticksMs 5 ≤ s.tick →
    Runs .imuStuck s fun t => t.flag K.imuFlags ifSignal = true ∧ t.imuFault = true ∧ t.imu.validFrom = none) ∧
  (∀ (s : State) (cls : Fin 5) (n : Fin 32) (bit : Fin 8) (held d : Nat), n.val < (inClassOf cls).count → s.inputOn (inClassOf cls) n = true →
    s.frontEndTime (inClassOf cls) n bit = some d → d ≤ held →
    Runs (.inputFaultDetect cls n bit held) s fun t => t.flag ((inClassOf cls).flags n) bit = true) ∧
  (∀ (s : State) (n : Fin 32) (held : Nat), s.reg (K.ainEnable n) = 1 → s.flag K.converterFailures (ainConverter n) = false →
    s.reg K.understudyConverterUse = 0xFF →
    Runs (.inputFaultDetect 0 n 6 held) s fun t =>
      t.flag K.converterFailures (ainConverter n) = true ∧ t.reg K.understudyConverterUse = (ainConverter n : Nat) ∧
      t.flag (K.ainFlags n) ifUnderstudy = true ∧ t.flag (K.ainFlags n) ifConverter = s.flag (K.ainFlags n) ifConverter) ∧
  (∀ (s : State) (cls : Fin 5) (n : Fin 32) (bit : Fin 8) (held : Nat), n.val < (inClassOf cls).count →
    Runs (.inputFaultClear cls n bit held) s fun t =>
      t.flag ((inClassOf cls).flags n) bit = (!s.faultGone (inClassOf cls) n bit held && s.flag ((inClassOf cls).flags n) bit) ∧
      ∀ j, j ≠ bit.val → t.flag ((inClassOf cls).flags n) j = s.flag ((inClassOf cls).flags n) j) ∧
  (∀ (s : State) (g : Fin 6) (mV : BitVec 16) (held : Nat), s.flag K.sensSupplyEnable g = true → (s.supply g).offAt = none → ticksMs 10 ≤ held →
    Runs (.sensorSupplyLimit g mV held) s fun t =>
      (t.supply g).offAt = some s.tick ∧ t.flag K.sensSupplyFault g = true ∧ t.reg (K.sensSupplyVoltage g) = (mV.toNat : Nat) ∧
      ∀ i ∈ supplyInputs g, t.flag (i.1.flags i.2) ifSupply = true) ∧
  (∀ (s : State) (g : Fin 6) (mV : BitVec 16) (held t0 : Nat), s.flag K.sensSupplyEnable g = true → (s.supply g).offAt = some t0 →
    t0 + ticksS 1 ≤ s.tick →
    Runs (.sensorSupplyLimit g mV held) s fun t => (t.supply g).offAt = none ∧ (t.supply g).onAt = s.tick) ∧
  (∀ (s : State) (c : Fin 8) (d : Nat), s.runningAct actConverterCheck c = none → s.reg K.converterCheckInterval ≠ 0 →
    s.maint.convTested.get 0 c + ticksS (s.regN K.converterCheckInterval) ≤ s.tick → s.schedulable domConverters = true →
    s.converterTaken = false → s.flag K.converterFailures c = false →
    Runs (.converterCheck c d) s fun t =>
      t.maint.acts = s.maint.acts ++ [⟨actConverterCheck, domConverters, c, .scheduled, 0, s.tick, 0, 0⟩]) ∧
  (∀ (s : State) (c : Fin 8) (d : Nat) (a : Activity), s.runningAct actConverterCheck c = some a → a.start + ticksS 1 ≤ s.tick →
    Runs (.converterCheck c d) s fun t =>
      t.maint.convTested.get 0 c = s.tick ∧ (500 < d → t.flag K.converterFailures c = true))

/-! ### The cell fabric and prickings (12_fabric_and_prickings.md) -/

/-- The cells' arithmetic (R358, R360, R362). Each operation of the classes TENSOR, SCALAR, LOGIC and FUNCTION writes the value that R362 gives, saturated, to each lane of its
destination, leaves every other register, the SRAM, the other cells and the rest of the machine as they are, and the cell goes on to its next instruction. CMP's unlisted codes,
SIGM and TANH (R363, whose digits are open within 0 to 1 and -1 to 1) and lanes that R358 does not give take open values (notes/assumptions/71.md, 72.md). -/
def Obligations.CellsComputeLaneByLane : Prop :=
  ∀ (s : State) (n : Fin 2048) (pr : Fin 8) (inv : Bool) (dst a b : CellArg) (imm : BitVec 28) (ad aa : Fin 2) (vd va vb : Fin 16) (ga gd : Fin 64) (pd : Fin 8),
    let x := s.cell n
    let A := opLane s n dst a imm
    let B := opLane s n dst b imm
    CellWrites (.vmac n pr inv ad va vb) s n ⟨0, 0, pr, inv, some (0x50 + ad), some (0x40 + va), some (0x40 + vb), none⟩ (.a ad)
      (lanesOf (.a ad) fun k => x.lane (.a ad) k + x.lane (.v va) k * x.lane (.v vb) k) ∧
    CellWrites (.dot n pr inv ad va vb) s n ⟨0, 1, pr, inv, some (0x50 + ad), some (0x40 + va), some (0x40 + vb), none⟩ (.a ad)
      [x.lane (.a ad) 0 + ((List.range 16).map fun k => x.lane (.v va) k * x.lane (.v vb) k).sum] ∧
    CellWrites (.vmul n pr inv ad va vb) s n ⟨0, 2, pr, inv, some (0x50 + ad), some (0x40 + va), some (0x40 + vb), none⟩ (.a ad)
      (lanesOf (.a ad) fun k => x.lane (.v va) k * x.lane (.v vb) k) ∧
    CellWrites (.aclr n pr inv ad) s n ⟨0, 3, pr, inv, some (0x50 + ad), none, none, none⟩ (.a ad) (lanesOf (.a ad) fun _ => 0) ∧
    CellWrites (.aout8 n pr inv vd aa imm) s n ⟨0, 4, pr, inv, some (0x40 + vd), some (0x50 + aa), none, some imm.toNat⟩ (.v vd)
      (lanesOf (.v vd) fun k => rshr (x.lane (.a aa) k) imm.toNat) ∧
    CellWrites (.aout32 n pr inv gd aa imm) s n ⟨0, 5, pr, inv, some gd, some (0x50 + aa), none, some imm.toNat⟩ (.g gd)
      [if imm.toNat < 16 then x.lane (.a aa) imm.toNat else Config.openResult 363 [(imm.toNat : Int)],
       if imm.toNat + 1 < 16 then x.lane (.a aa) (imm.toNat + 1) else Config.openResult 363 [((imm.toNat + 1 : Nat) : Int)]] ∧
    CellWrites (.abias n pr inv ad ga) s n ⟨0, 6, pr, inv, some (0x50 + ad), some ga, none, none⟩ (.a ad)
      (lanesOf (.a ad) fun k => x.lane (.a ad) k + x.lane (.g ga) 0) ∧
    CellWrites (.vbcast n pr inv vd ga) s n ⟨0, 7, pr, inv, some (0x40 + vd), some ga, none, none⟩ (.v vd)
      (lanesOf (.v vd) fun _ => (BitVec.ofInt 8 (x.lane (.g ga) 0)).toInt) ∧
    CellWrites (.adds n pr inv dst a b imm) s n (word3 1 0 pr inv dst a b imm) dst (lanesOf dst fun k => A k + B k) ∧
    CellWrites (.subs n pr inv dst a b imm) s n (word3 1 1 pr inv dst a b imm) dst (lanesOf dst fun k => A k - B k) ∧
    CellWrites (.muls n pr inv dst a b imm) s n (word3 1 2 pr inv dst a b imm) dst (lanesOf dst fun k => rshr (A k * B k) imm.toNat) ∧
    CellWrites (.macs n pr inv dst a b imm) s n (word3 1 3 pr inv dst a b imm) dst
      (lanesOf dst fun k => opLane s n dst dst imm k + rshr (A k * B k) imm.toNat) ∧
    CellWrites (.min n pr inv dst a b imm) s n (word3 1 4 pr inv dst a b imm) dst (lanesOf dst fun k => min (A k) (B k)) ∧
    CellWrites (.max n pr inv dst a b imm) s n (word3 1 5 pr inv dst a b imm) dst (lanesOf dst fun k => max (A k) (B k)) ∧
    CellWrites (.shls n pr inv dst a imm) s n (word2 1 6 pr inv dst a imm) dst (lanesOf dst fun k => A k * 2 ^ min imm.toNat 64) ∧
    CellWrites (.shra n pr inv dst a imm) s n (word2 1 7 pr inv dst a imm) dst (lanesOf dst fun k => A k / 2 ^ min imm.toNat 64) ∧
    (∀ va vb r, va = (if a = .imm then immOf imm else x.lane a 0) → vb = (if b = .imm then immOf imm else x.lane b 0) →
      r = (compareLanes imm.toNat va vb).getD (Config.openResult 364 [(imm.toNat : Int), va, vb] != 0) →
      CellWrites (.cmp n pr inv pd a b imm) s n (word3 1 8 pr inv (.p pd) a b imm) (.p pd) [if r then 1 else 0]) ∧
    CellWrites (.mov n pr inv dst a imm) s n (word2 1 9 pr inv dst a imm) dst (lanesOf dst A) ∧
    CellWrites (.and n pr inv dst a b imm) s n (word3 2 0 pr inv dst a b imm) dst (lanesOf dst fun k => bitsOp (argWidth dst) Nat.land (A k) (B k)) ∧
    CellWrites (.or n pr inv dst a b imm) s n (word3 2 1 pr inv dst a b imm) dst (lanesOf dst fun k => bitsOp (argWidth dst) Nat.lor (A k) (B k)) ∧
    CellWrites (.xor n pr inv dst a b imm) s n (word3 2 2 pr inv dst a b imm) dst (lanesOf dst fun k => bitsOp (argWidth dst) Nat.xor (A k) (B k)) ∧
    CellWrites (.not n pr inv dst a imm) s n (word2 2 3 pr inv dst a imm) dst
      (lanesOf dst fun k => bitsOp (argWidth dst) (fun y _ => 2 ^ (argWidth dst) - 1 - y) (A k) 0) ∧
    CellWrites (.sel n pr inv dst a b imm) s n (word3 2 4 pr inv dst a b imm) dst
      (lanesOf dst fun k => if x.pred (imm.toNat % 8) then A k else B k) ∧
    CellWrites (.popc n pr inv dst a imm) s n (word2 2 5 pr inv dst a imm) dst (lanesOf dst fun k => popCount (argWidth dst) (A k)) ∧
    CellWrites (.relu n pr inv dst a imm) s n (word2 3 0 pr inv dst a imm) dst (lanesOf dst fun k => max (A k) 0) ∧
    CellWrites (.lut n pr inv vd va imm) s n ⟨3, 1, pr, inv, some (0x40 + vd), some (0x40 + va), none, some imm.toNat⟩ (.v vd)
      (lanesOf (.v vd) fun k => (BitVec.ofNat 8 (x.byteAt (64 * imm.toNat + (x.lane (.v va) k + 128)))).toInt) ∧
    CellWrites (.sigm n pr inv dst a imm) s n (word2 3 2 pr inv dst a imm) dst (lanesOf dst fun k => clampI 0 (2 ^ 24) (Config.openResult 365 [A k])) ∧
    CellWrites (.tanh n pr inv dst a imm) s n (word2 3 3 pr inv dst a imm) dst (lanesOf dst fun k => clampI (-(2 ^ 24)) (2 ^ 24) (Config.openResult 366 [A k])) ∧
    CellWrites (.quant n pr inv vd ga imm) s n ⟨3, 4, pr, inv, some (0x40 + vd), some ga, none, some imm.toNat⟩ (.v vd)
      ((List.range 8).map fun k => rshr (x.laneNo (ga + k / 2) (k % 2)) imm.toNat)

/-- The cells' memory, links and system words (R358, R362-R366, R380, R385, R387). A load reads its bytes and a store changes those and no others; a DRAM request waits
behind its predicate and the oldest one completes; a word goes to its route's cell and is taken once; LOOP opens its body; HANDOVER, TSTAMP, AXRD, OBJRD, OBJWR, LINEWR, CUEARM and EVENT reach the machine. -/
def Obligations.CellsReachMemoryLinksAndSystem : Prop :=
  (∀ (s : State) (n : Fin 2048) (pr : Fin 8) (inv : Bool) (gd gb : Fin 64) (vd : Fin 16) (a : Option (Fin 64)) (imm : BitVec 28) (e : Int),
    e = (s.cell n).address a (immOf imm) →
    CellWrites (.ld n pr inv gd a imm) s n ⟨4, 0, pr, inv, some gd, some (addrCode a), none, some imm.toNat⟩ (.g gd)
      (natPair (natLe ((s.cell n).loadBytes e 8))) ∧
    CellWrites (.ldv n pr inv vd a imm) s n ⟨4, 2, pr, inv, some (0x40 + vd), some (addrCode a), none, some imm.toNat⟩ (.v vd)
      (lanesOf (.v vd) fun k => (BitVec.ofNat 8 ((s.cell n).byteAt (e + k))).toInt) ∧
    CellDoes (.st n pr inv a gb imm) s n ⟨4, 1, pr, inv, none, some (addrCode a), some gb, some imm.toNat⟩ (fun t =>
      (∀ k : Nat, k < 8 → 0 ≤ e + k → e + k < 32768 → (t.cell n).byteAt (e + k) = (s.cell n).gNat gb / 256 ^ k % 256) ∧
      (∀ o : Int, o < e ∨ e + 8 ≤ o → (t.cell n).byteAt o = (s.cell n).byteAt o) ∧
      (∀ p, p ≠ n.val → t.cell p = s.cell p) ∧ t = { s with cells := t.cells }) ∧
    CellDoes (.stv n pr inv a vd imm) s n ⟨4, 3, pr, inv, none, some (addrCode a), some (0x40 + vd), some imm.toNat⟩ (fun t =>
      (∀ k : Nat, k < 16 → 0 ≤ e + k → e + k < 32768 → (t.cell n).byteAt (e + k) = ((s.cell n).lane (.v vd) k % 256).toNat) ∧
      (∀ o : Int, o < e ∨ e + 16 ≤ o → (t.cell n).byteAt o = (s.cell n).byteAt o) ∧
      (∀ p, p ≠ n.val → t.cell p = s.cell p) ∧ t = { s with cells := t.cells })) ∧
  (∀ (s : State) (n : Fin 2048) (pr dst : Fin 8) (inv : Bool) (a b : Fin 64) (imm : BitVec 28), (s.cell n).dma.length < 16 →
    CellDoes (.drd n pr inv dst a b imm) s n ⟨4, 4, pr, inv, some (0x58 + dst), some a, some b, some imm.toNat⟩ (fun t =>
      (∃ q, (t.cell n).dma = (s.cell n).dma ++ [q] ∧ q.write = false ∧ q.addr = (s.cell n).gNat a ∧ q.lines = imm.toNat % 256 ∧ q.pred = dst.val) ∧
      (dst ≠ 0 → (t.cell n).pred dst = false)) ∧
    CellDoes (.dwr n pr inv dst a b imm) s n ⟨4, 5, pr, inv, some (0x58 + dst), some a, some b, some imm.toNat⟩ (fun t =>
      (∃ q, (t.cell n).dma = (s.cell n).dma ++ [q] ∧ q.write = true ∧ q.addr = (s.cell n).gNat a ∧ q.lines = imm.toNat % 256 ∧ q.pred = dst.val) ∧
      (dst ≠ 0 → (t.cell n).pred dst = false))) ∧
  (∀ (s : State) (n : Fin 2048) (q : CellDma) (l : List CellDma), (s.cell n).dma = q :: l →
    Runs (.dmaComplete n) s fun t =>
      (t.cell n).dma = l ∧ (t.cell n).pred q.pred = true ∧ (t.cell n).pc = (s.cell n).pc ∧
      (q.write = true → (t.cell n).sram = (s.cell n).sram ∧
        ∀ k, k < 64 * q.lines → q.addr + k < 2 ^ 32 → t.fabric.dram.get 0 (q.addr + k) = (s.cell n).byteAt ((64 * q.line + k : Nat) : Int)) ∧
      (q.write = false → t.fabric = s.fabric ∧
        ∀ k, k < 64 * q.lines → 64 * q.line + k < 32768 →
          (t.cell n).byteAt ((64 * q.line + k : Nat) : Int) = s.dramByte n (q.addr + k) % 256)) ∧
  (∀ (s : State) (n : Fin 2048) (pr : Fin 8) (inv pe : Bool) (a dst : CellArg) (imm : BitVec 28),
    (∀ r, (s.cell n).active.routes[imm.toNat]? = some r →
      CellDoes (.cellSend n pr inv a imm pe) s n ⟨5, 0, pr, inv, none, some (argCode a), none, some imm.toNat⟩ (fun t =>
        (t.cell r.dest).inbox.get 0 imm.toNat = (if pe then 0 else (s.cell n).sendWord a (immOf imm)) ∧
        t.reg K.linkErrors = (if pe then (s.bump K.linkErrors).reg K.linkErrors else s.reg K.linkErrors) ∧
        ∀ p, p ≠ n.val → p ≠ r.dest → t.cell p = s.cell p)) ∧
    CellWrites (.recv n pr inv dst imm) s n ⟨5, 1, pr, inv, some (argCode dst), none, none, some imm.toNat⟩ dst
      (lanesOf dst fun k => if argWidth dst = 1 then (((s.cell n).inbox.get 0 imm.toNat / 2 ^ (argWidth dst * k) % 2 : Nat) : Int)
        else (BitVec.ofNat (argWidth dst) ((s.cell n).inbox.get 0 imm.toNat / 2 ^ (argWidth dst * k))).toInt) ∧
    CellDoes (.recv n pr inv dst imm) s n ⟨5, 1, pr, inv, some (argCode dst), none, none, some imm.toNat⟩ (fun t =>
      (t.cell n).inbox.get 0 imm.toNat = 0) ∧
    CellDoes (.bcast n pr inv a imm pe) s n ⟨5, 2, pr, inv, none, some (argCode a), none, some imm.toNat⟩ (fun t =>
      ∀ k < 64, (t.cell (64 * panelOf n + k)).inbox.get 0 imm.toNat = (if pe then 0 else (s.cell n).sendWord a (immOf imm))) ∧
    CellDoes (.cellNop n pr inv) s n ⟨6, 0, pr, inv, none, none, none, none⟩ (fun t => t = s.setCell n (s.cell n).advance) ∧
    (CellGoes s n ⟨6, 1, pr, inv, none, none, none, some imm.toNat⟩ → Runs (.cellLoop n pr inv imm) s fun t =>
      t.cell n = { s.cell n with pc := (s.cell n).pc + 1, loops := ⟨(s.cell n).pc + 1, imm.toNat % 512, imm.toNat / 512 % 65536⟩ :: (s.cell n).loops })) ∧
  (∀ (s : State) (n : Fin 2048) (pr pd : Fin 8) (inv : Bool) (gd ga gb : Fin 64) (imm : BitVec 28) (r : Nat), s.regionOf n = some r →
    CellDoes (.handover n pr inv) s n ⟨6, 2, pr, inv, none, none, none, none⟩ (fun t => (t.region r).handover = true) ∧
    CellWrites (.tstamp n pr inv gd) s n ⟨6, 3, pr, inv, some gd, none, none, none⟩ (.g gd) (natPair s.now) ∧
    CellWrites (.objrd n pr inv gd imm) s n ⟨7, 0, pr, inv, some gd, none, none, some imm.toNat⟩ (.g gd)
      (natPair ((s.region r).cellVals.get 0 imm.toNat)) ∧
    CellWrites (.axrd n pr inv gd imm) s n ⟨7, 4, pr, inv, some gd, none, none, some imm.toNat⟩ (.g gd)
      (natPair ((if imm.toNat < 16 then s.axisValue imm.toNat else Config.openResult 369 [(imm.toNat : Int)]) % 2 ^ 64).toNat) ∧
    (∀ o, (pObjects (s.runningOf r))[imm.toNat]? = some o →
      CellDoes (.objwr n pr inv ga imm) s n ⟨7, 1, pr, inv, none, some ga, none, some imm.toNat⟩ (fun t =>
        (t.region r).toDict = (s.region r).toDict ++
          [(key o.idx o.sub, leBytes (if o.ty.isBytes then 8 else o.ty.size) ((s.cell n).gNat ga))] ∧ t.regs = s.regs)) ∧
    (imm.toNat < 16 → (pLineMask (s.runningOf r)).testBit imm.toNat = true → s.reg (K.lineEnable imm.toNat) = 1 → s.reg (K.lineWriter imm.toNat) = 2 →
      s.lineReject imm.toNat (BitVec.ofNat 64 ((s.cell n).gNat ga)).toInt = none →
      CellDoes (.linewr n pr inv ga gb imm) s n ⟨7, 2, pr, inv, none, some ga, some gb, some imm.toNat⟩ (fun t =>
        t.reg (K.lastKey imm.toNat) = (BitVec.ofNat 64 ((s.cell n).gNat ga)).toInt ∧
        (t.line imm.toNat).entries = (s.line imm.toNat).entries ++ [((BitVec.ofNat 64 ((s.cell n).gNat ga)).toInt,
          ((List.range 16).map (fun j => (s.cell n).laneNo (gb + j / 2) (j % 2))).take (s.regN (K.lineLanes imm.toNat)))])) ∧
    (∀ c c' : CueRec, c = cueRec (((s.cell n).loadBytes (immOf imm) 40).map (BitVec.ofNat 8)) → c' = { c with slot := s.claimTop r - c.slot } →
      c.slot < pCueClaim (s.runningOf r) → s.cueForm c' = true → s.cueOwnerBad c' = false → s.armCheck c' = none →
      CellDoes (.cuearm n pr inv pd imm) s n ⟨7, 3, pr, inv, some (0x58 + pd), none, none, some imm.toNat⟩ (fun t =>
        (t.cue c'.slot).state = .armed ∧ (t.cue c'.slot).origin = 2 ∧ (t.cue c'.slot).region = r ∧ (t.cue c'.slot).pos = c'.pos ∧
        (t.cell n).p = (s.cell n).p)) ∧
    CellDoes (.event n pr inv ga imm) s n ⟨7, 5, pr, inv, none, some ga, none, some imm.toNat⟩ (fun t =>
      (s.book.closed = false → ∃ x, t.book.offered = s.book.offered ++ [x] ∧ x.code = 7 ∧ x.unit = r ∧ x.time = s.now ∧ x.tick = s.tick) ∧
      (s.book.closed = true → t.book = s.book)))

/-- A word that is not the operation's changes nothing, and a false predicate takes the cycle only (R359): the cell goes on to its next instruction. -/
def Obligations.CellsSkipOnAFalsePredicate : Prop :=
  ∀ (s : State) (n : Fin 2048) (pr pd : Fin 8) (inv pe : Bool) (dst a b : CellArg) (imm : BitVec 28) (ad aa : Fin 2) (vd va vb : Fin 16) (gd ga gb : Fin 64)
    (o : Option (Fin 64)) (c : Instr) (q : CellWord),
    (c, q) ∈ ([
      (.vmac n pr inv ad va vb, ⟨0, 0, pr, inv, some (0x50 + ad), some (0x40 + va), some (0x40 + vb), none⟩),
      (.dot n pr inv ad va vb, ⟨0, 1, pr, inv, some (0x50 + ad), some (0x40 + va), some (0x40 + vb), none⟩),
      (.vmul n pr inv ad va vb, ⟨0, 2, pr, inv, some (0x50 + ad), some (0x40 + va), some (0x40 + vb), none⟩),
      (.aclr n pr inv ad, ⟨0, 3, pr, inv, some (0x50 + ad), none, none, none⟩),
      (.aout8 n pr inv vd aa imm, ⟨0, 4, pr, inv, some (0x40 + vd), some (0x50 + aa), none, some imm.toNat⟩),
      (.aout32 n pr inv gd aa imm, ⟨0, 5, pr, inv, some gd, some (0x50 + aa), none, some imm.toNat⟩),
      (.abias n pr inv ad ga, ⟨0, 6, pr, inv, some (0x50 + ad), some ga, none, none⟩),
      (.vbcast n pr inv vd ga, ⟨0, 7, pr, inv, some (0x40 + vd), some ga, none, none⟩),
      (.adds n pr inv dst a b imm, word3 1 0 pr inv dst a b imm),
      (.subs n pr inv dst a b imm, word3 1 1 pr inv dst a b imm),
      (.muls n pr inv dst a b imm, word3 1 2 pr inv dst a b imm),
      (.macs n pr inv dst a b imm, word3 1 3 pr inv dst a b imm),
      (.min n pr inv dst a b imm, word3 1 4 pr inv dst a b imm),
      (.max n pr inv dst a b imm, word3 1 5 pr inv dst a b imm),
      (.shls n pr inv dst a imm, word2 1 6 pr inv dst a imm),
      (.shra n pr inv dst a imm, word2 1 7 pr inv dst a imm),
      (.cmp n pr inv pd a b imm, word3 1 8 pr inv (.p pd) a b imm),
      (.mov n pr inv dst a imm, word2 1 9 pr inv dst a imm),
      (.and n pr inv dst a b imm, word3 2 0 pr inv dst a b imm),
      (.or n pr inv dst a b imm, word3 2 1 pr inv dst a b imm),
      (.xor n pr inv dst a b imm, word3 2 2 pr inv dst a b imm),
      (.sel n pr inv dst a b imm, word3 2 4 pr inv dst a b imm),
      (.not n pr inv dst a imm, word2 2 3 pr inv dst a imm),
      (.popc n pr inv dst a imm, word2 2 5 pr inv dst a imm),
      (.relu n pr inv dst a imm, word2 3 0 pr inv dst a imm),
      (.sigm n pr inv dst a imm, word2 3 2 pr inv dst a imm),
      (.tanh n pr inv dst a imm, word2 3 3 pr inv dst a imm),
      (.lut n pr inv vd va imm, ⟨3, 1, pr, inv, some (0x40 + vd), some (0x40 + va), none, some imm.toNat⟩),
      (.quant n pr inv vd ga imm, ⟨3, 4, pr, inv, some (0x40 + vd), some ga, none, some imm.toNat⟩),
      (.ld n pr inv gd o imm, ⟨4, 0, pr, inv, some gd, some (addrCode o), none, some imm.toNat⟩),
      (.st n pr inv o gb imm, ⟨4, 1, pr, inv, none, some (addrCode o), some gb, some imm.toNat⟩),
      (.ldv n pr inv vd o imm, ⟨4, 2, pr, inv, some (0x40 + vd), some (addrCode o), none, some imm.toNat⟩),
      (.stv n pr inv o vb imm, ⟨4, 3, pr, inv, none, some (addrCode o), some (0x40 + vb), some imm.toNat⟩),
      (.drd n pr inv pd ga gb imm, ⟨4, 4, pr, inv, some (0x58 + pd), some ga, some gb, some imm.toNat⟩),
      (.dwr n pr inv pd ga gb imm, ⟨4, 5, pr, inv, some (0x58 + pd), some ga, some gb, some imm.toNat⟩),
      (.cellSend n pr inv a imm pe, ⟨5, 0, pr, inv, none, some (argCode a), none, some imm.toNat⟩),
      (.recv n pr inv dst imm, ⟨5, 1, pr, inv, some (argCode dst), none, none, some imm.toNat⟩),
      (.bcast n pr inv a imm pe, ⟨5, 2, pr, inv, none, some (argCode a), none, some imm.toNat⟩),
      (.cellNop n pr inv, ⟨6, 0, pr, inv, none, none, none, none⟩),
      (.cellLoop n pr inv imm, ⟨6, 1, pr, inv, none, none, none, some imm.toNat⟩),
      (.handover n pr inv, ⟨6, 2, pr, inv, none, none, none, none⟩),
      (.tstamp n pr inv gd, ⟨6, 3, pr, inv, some gd, none, none, none⟩),
      (.objrd n pr inv gd imm, ⟨7, 0, pr, inv, some gd, none, none, some imm.toNat⟩),
      (.objwr n pr inv ga imm, ⟨7, 1, pr, inv, none, some ga, none, some imm.toNat⟩),
      (.linewr n pr inv ga gb imm, ⟨7, 2, pr, inv, none, some ga, some gb, some imm.toNat⟩),
      (.cuearm n pr inv pd imm, ⟨7, 3, pr, inv, some (0x58 + pd), none, none, some imm.toNat⟩),
      (.axrd n pr inv gd imm, ⟨7, 4, pr, inv, some gd, none, none, some imm.toNat⟩),
      (.event n pr inv ga imm, ⟨7, 5, pr, inv, none, some ga, none, some imm.toNat⟩)] : List (Instr × CellWord)) →
    (s.issues n q = false → Idles c s) ∧
    (s.issues n q = true → ((s.cell n).pred q.pred != q.invert) = false → Runs c s fun t => t = s.setCell n (s.cell n).advance)

/-- The pricking store takes and gives up containers (R367, R371-R373, R385). A load clears its slot, keeps the interface busy and fills the slot when its read-back agrees; a failed read-back is written
once more, then ends FAILED; panels are given to a region that runs nothing; at a repeat boundary every cell of a running region starts anew. -/
def Obligations.PrickingsAreStoredAndRepeat : Prop :=
  (∀ (s : State) (slot : Fin 16) (n : Fin 32) (v : Bytes),
    Writes (.prickingLoad slot n v) s slot (0x5100 + n) 0 v (prickingLoadRule n) fun t =>
      t.pslot n = PSlot.init ∧ t.fabric.loading = some ⟨n, s.regN K.nextJournalSeq, v, false⟩ ∧ t.reg K.busyState = 1 ∧ t.reg K.busyOperation = 1 ∧
      containerOk v = true ∧ ∀ k, k ≠ n.val → t.pslot k = s.pslot k) ∧
  (∀ (s : State) (l : Loading), s.fabric.loading = some l →
    Runs (.prickingLoadEnd true) s fun t => t.fabric.loading = none ∧ t.pslot l.slot = ⟨l.content, s.now, []⟩ ∧ t.fabric.dram = s.fabric.dram) ∧
  (∀ (s : State) (l : Loading), s.fabric.loading = some l →
    Runs (.prickingLoadEnd false) s fun t =>
      t.slots = s.slots ∧ t.fabric.loading = (if l.repeated then none else some { l with repeated := true })) ∧
  (∀ (s : State) (slot : Fin 16) (n : BitVec 8),
    Writes (.prickingDelete slot n) s slot 0x5082 0 (leBytes 1 n.toNat) prickingDeleteRule fun t =>
      t.pslot n.toNat = PSlot.init ∧ s.slotBusy n.toNat = false ∧ ∀ k, k ≠ n.toNat → t.pslot k = s.pslot k) ∧
  (∀ (s : State) (slot : Fin 16) (r : Fin 32) (v : BitVec 32),
    Writes (.regionPanels slot r v) s slot (0x5010 + r) 1 (leBytes 4 v.toNat) (regionPanelsRule r) fun t =>
      t.reg (K.regionPanels r) = (v.toNat : Int) ∧ t.reg (K.regionState r) = (if v = 0 then rgUndefined else rgEmpty) ∧ t.cells = s.cells) ∧
  (∀ (s : State) (r : Fin 32), s.reg (K.regionState r) = rgRunning → s.passEnded r = true →
    Runs (.repeatBoundary r) s fun t =>
      (t.region r).handover = false ∧ (t.region r).toDict = [] ∧ (t.region r).toCells = [] ∧
      (∀ p ∈ s.regionPlaces r, (t.cell p).pc = 0 ∧ (t.cell p).loops = [] ∧ (t.cell p).inbox = ⟨[]⟩ ∧ (t.cell p).sram = (s.cell p).sram ∧
        (t.cell p).g = (s.cell p).g ∧ (t.cell p).v = (s.cell p).v ∧ (t.cell p).a = (s.cell p).a ∧ (t.cell p).p = (s.cell p).p) ∧
      ((∀ o ∈ pObjects (s.runningOf r), 0x7000 ≤ o.idx) → t.reg (K.repeats r) = (s.bump (K.repeats r)).reg (K.repeats r))) ∧
  (∀ (s : State) (n : Fin 2048) (l : Fin 512),
    Runs (.sramEccError n l false) s fun t => t.reg K.eccCorrected = (s.bump K.eccCorrected).reg K.eccCorrected ∧ t.cells = s.cells) ∧
  (∀ (s : State) (n : Fin 2048) (l : Fin 512),
    Runs (.sramEccError n l true) s fun t =>
      (∀ k < 64, (t.cell n).sram.get 0 (64 * l + k) = 0) ∧ ∀ k, k / 64 ≠ l.val → (t.cell n).sram.get 0 k = (s.cell n).sram.get 0 k)

/-- Scene changes (R377-R384). An accepted change begins staging, or waits behind the running one; the end of staging makes it READY; its trigger gives the trigger tick, passed it is MISSED; the switch runs
the incoming pricking, with every cell started from its shadow plane and its SRAM kept; a change whose switch does not come in time is FAILED; a cancel ends both changes of the region. -/
def Obligations.ScenesChangeAndSwitch : Prop :=
  (∀ (s : State) (slot : Fin 16) (v : Bytes) (q : Scene),
    q = ⟨s.regN K.nextJournalSeq, (sceneReq v).slot, (sceneReq v).trigger, (sceneReq v).dir, (sceneReq v).axis, (sceneReq v).pos, (sceneReq v).waitMax,
      s.tick, false, false, false, none⟩ →
    Writes (.sceneChange slot v) s slot 0x5080 0 v sceneChangeRule fun t =>
      ((s.region (sceneReq v).region).run = none → (t.region (sceneReq v).region).run = some q ∧ t.reg (K.sceneState (sceneReq v).region) = scStaging) ∧
      ((s.region (sceneReq v).region).run ≠ none →
        (t.region (sceneReq v).region).run = (s.region (sceneReq v).region).run ∧ (t.region (sceneReq v).region).pend = some q) ∧ t.cells = s.cells) ∧
  (∀ (s : State) (r : Fin 32) (c : Scene), (s.region r).run = some c → c.ready = false →
    Runs (.sceneStagingEnd r) s fun t =>
      (t.region r).run = some { c with ready := true, trigTick := if c.trigger = 0 then some s.tick else c.trigTick } ∧
      (c.held = false → t.reg (K.sceneState r) = scReady) ∧
      (∀ p ∈ pPlanes (s.sceneContent c.slot), ∃ y ∈ pPlanes (s.sceneContent c.slot), y.cell = p.cell ∧ (t.cell p.cell).shadow = y.plane) ∧
      ∀ p, (t.cell p).active = (s.cell p).active) ∧
  (∀ (s : State) (r : Fin 32) (c : Scene), (s.region r).run = some c → (s.region r).pend = none →
    Runs (.sceneTrigger r) s fun t =>
      (s.sceneTrigger c = .met → c.ready = true → (t.region r).run = some { c with trigTick := some s.tick }) ∧
      (s.sceneTrigger c = .passed → (t.region r).run = none ∧ t.reg (K.scenesMissed r) = (s.bump (K.scenesMissed r)).reg (K.scenesMissed r)) ∧
      (s.sceneTrigger c = .waits → t = s)) ∧
  (∀ (s : State) (r : Fin 32) (c : Scene) (t0 : Nat), (s.region r).run = some c → (s.region r).pend = none → c.ready = true → c.trigTick = some t0 →
    t0 < s.tick → ((s.fusionRuns r = true ∧ s.fusionSwitches = true) ∨ (s.fusionRuns r = false ∧ (s.reg (K.regionState r) ≠ rgRunning ∨
      (s.atBoundary r = true ∧ (s.region r).holdUntil ≤ s.tick ∧
        ((pHeader (s.runningOf r)).flags.testBit 0 = true → (s.region r).handover = true))))) →
    (∀ o ∈ pObjects (s.runningOf r) ++ pObjects (s.sceneContent c.slot), 0x7000 ≤ o.idx) →
    Runs (.sceneSwitch r) s fun t =>
      (t.region r).run = none ∧ t.reg (K.regionState r) = (if c.slot < 32 then rgRunning else rgEmpty) ∧
      t.reg (K.runningSlot r) = (if c.slot < 32 then c.slot else 0xFF : Nat) ∧ t.reg (K.repeats r) = 0 ∧
      t.reg (K.lastSwitchTime r) = (s.now : Nat) ∧ t.reg (K.switches r) = (s.bump (K.switches r)).reg (K.switches r) ∧
      ∀ p ∈ s.regionPlaces r, t.cell p = { Cell.init with sram := (t.cell p).sram, active := (s.cell p).shadow }) ∧
  (∀ (s : State) (r : Fin 32) (c : Scene) (t0 : Nat), (s.region r).run = some c → (s.region r).pend = none → c.trigTick = some t0 →
    t0 + ticksUs c.waitMax ≤ s.tick →
    Runs (.sceneWaitLimit r) s fun t =>
      (t.region r).run = none ∧ t.reg (K.sceneState r) = scNone ∧ t.reg (K.scenesFailed r) = (s.bump (K.scenesFailed r)).reg (K.scenesFailed r) ∧
      ∀ p, (t.cell p).active = (s.cell p).active) ∧
  (∀ (s : State) (slot : Fin 16) (r : BitVec 8),
    Writes (.sceneCancel slot r) s slot 0x5081 0 (leBytes 1 r.toNat) sceneCancelRule fun t =>
      (t.region r.toNat).run = none ∧ (t.region r.toNat).pend = none ∧ ∀ p, (t.cell p).active = (s.cell p).active)

/-! ### Understudies, maintenance and firmware (13_understudies_and_maintenance.md) -/

/-- Cell tests, repairs and swaps (R394-R398). A due rotation is granted on the next place; its self-test, compare phase and end follow; a failed cell's understudy is asked for in a repair, and with none left the place is
lost and its region stops in FAULT; the route move retires the place and C8 serves it; a swap is a commanded activity of the place's quadrant. -/
def Obligations.CellsAreTestedAndReplaced : Prop :=
  (∀ (s : State) (q : Fin 4) (ok : Bool) (p : Nat), (s.actsIn q).find? (fun a => a.code == actRotation) = none → s.regN K.cellTestPeriod ≠ 0 →
    s.maint.lastRotation.get 0 q + ticksS (s.regN K.cellTestPeriod) / 512 ≤ s.tick → s.schedulable q = true → s.sceneIn q = false →
    s.rotationPlace q (s.maint.nextPlace.get 0 q) = some p →
    Runs (.cellRotation q ok) s fun t =>
      t.maint.acts = s.maint.acts ++ [⟨actRotation, q, p, .scheduled, 0, s.tick, 0, s.tick⟩] ∧ t.maint.nextPlace.get 0 q = (p + 1) % 512 ∧
      t.maint.lastRotation.get 0 q = s.tick) ∧
  (∀ (s : State) (q : Fin 4) (a : Activity), (s.actsIn q).find? (fun a => a.code == actRotation) = some a → a.phase = 0 →
    a.start + ticksUs 2 ≤ s.tick → a.unit < 2048 → s.maint.waiting = [] →
    Runs (.cellRotation q false) s fun t => t.flag (strandKey a.unit) 4 = true ∧ a ∉ t.maint.acts) ∧
  (∀ (s : State) (q : Fin 4) (a : Activity), (s.actsIn q).find? (fun a => a.code == actRotation) = some a → a.unit < 2048 → s.maint.waiting = [] →
    Runs (.cellRotation q true) s fun t =>
      (a.phase = 0 → a.start + ticksUs 2 ≤ s.tick → s.runningRegion a.unit = none →
        a ∉ t.maint.acts ∧ t.reg K.cellTestsPassed = (s.bump K.cellTestsPassed).reg K.cellTestsPassed) ∧
      (a.phase = 0 → a.start + ticksUs 2 ≤ s.tick → s.runningRegion a.unit ≠ none → { a with phase := 1, mark := s.tick } ∈ t.maint.acts) ∧
      (a.phase = 1 → (s.runningRegion a.unit).all s.atBoundary = true → { a with phase := 2, mark := s.tick } ∈ t.maint.acts) ∧
      (a.phase = 1 → (s.runningRegion a.unit).all s.atBoundary = false → t = s) ∧
      (1 < a.phase → a.mark + max (ticksMs 10) (match s.runningRegion a.unit with
        | some r => (4 * s.regN (K.repeatLength r) + 9) / 10
        | none => 0) ≤ s.tick →
        a ∉ t.maint.acts ∧ t.reg K.cellTestsPassed = (s.bump K.cellTestsPassed).reg K.cellTestsPassed ∧
        t.cell (spareNo a.unit) = s.cell a.unit)) ∧
  (∀ (s : State) (n : Fin 2048), s.maint.placeRetired.contains n.val = false →
    Runs (.cellMismatch n 1) s fun t =>
      (s.spareFree n = true → (s.actsIn (n / 512 : Nat)).any (fun x => x.kind ≠ .scheduled) = false →
        ⟨actCellRepair, n / 512, n, .repair, 0, s.tick, 1, s.tick⟩ ∈ t.maint.acts ∧ t.maint.placeRetired = s.maint.placeRetired) ∧
      (s.spareFree n = false → t.maint.placeRetired = s.maint.placeRetired ++ [n.val] ∧ t.flag (strandKey n) 6 = true ∧
        ∀ r, s.regionOf n = some r → s.reg (K.regionState r) = rgRunning → usesPlace (s.runningOf r) n = true → t.reg (K.regionState r) = rgFault)) ∧
  (∀ (s : State) (n : Fin 2048) (a : Activity), s.runningAct actRotation n = some a → a.phase = 2 → s.maint.placeRetired.contains n.val = false →
    s.spareFree n = true → (s.actsIn (n / 512 : Nat)).all (fun x => x.kind = .scheduled || x == a) = true →
    Runs (.cellMismatch n 0) s fun t => a ∉ t.maint.acts ∧ ⟨actCellRepair, n / 512, n, .repair, 0, s.tick, 2, s.tick⟩ ∈ t.maint.acts) ∧
  (∀ (s : State) (n : Fin 2048) (a : Activity) (ok : Bool), s.moveDue n = some a → (a.code = actSwap → ok = true) → 0 ≤ s.reg (strandKey n) →
    (s.runningRegion n).all s.atBoundary = true → s.maint.waiting = [] →
    Runs (.routeMove n ok) s fun t =>
      t.maint.placeRetired = s.maint.placeRetired ++ [n.val] ∧ t.servedPlace n = n % 8 ∧ t.placeLost n = false ∧ a ∉ t.maint.acts ∧
      t.reg K.cellsRetired = (s.bump K.cellsRetired).reg K.cellsRetired) ∧
  (∀ (s : State) (n : Fin 2048) (a : Activity), s.moveDue n = some a → a.code = actSwap → (s.runningRegion n).all s.atBoundary = true →
    s.maint.waiting = [] →
    Runs (.routeMove n false) s fun t =>
      t.maint.placeRetired = s.maint.placeRetired ∧ t.flag (strandKey n) 4 = true ∧ a ∉ t.maint.acts) ∧
  (∀ (s : State) (slot : Fin 16) (p : BitVec 16),
    Writes (.understudySwap slot p) s slot 0x5420 0 (leBytes 2 p.toNat) understudySwapRule fun t =>
      ⟨actSwap, p.toNat / 512, p.toNat, .commanded, s.regN K.nextJournalSeq, s.tick, 0, s.tick⟩ ∈ t.maint.acts ∧
      t.reg K.busyState = 1 ∧ t.maint.placeRetired = s.maint.placeRetired)

/-- Memories and stores are repaired (R393, R404-R407). DRAM errors are remembered and their row repaired; a channel moves into the reserve once; an eMMC block is retired by an understudy block; an MRAM rebuild restores both copies; the in-line
path's test and the standby core's end with what they have found. -/
def Obligations.StoresAreRepaired : Prop :=
  (∀ (s : State) (b : Fin 64) (row col : BitVec 16) (u : DramUse),
    Runs (.dramRowRepair b row col .corrected u) s fun t =>
      ((b * 65536 + row.toNat) * 65536 + col.toNat, s.tick) ∈ t.maint.rowErrors ∧ (b.val, row.toNat, s.tick) ∈ t.maint.errorRows) ∧
  (∀ (s : State) (b : Fin 64) (row col : BitVec 16), s.repairAsked actRowRepair (b * 65536 + row.toNat) = false →
    s.maint.banksUsed.contains b.val = false → (s.actsIn domDram).any (fun x => x.kind ≠ .scheduled) = false →
    Runs (.dramRowRepair b row col .uncorrectable .other) s fun t =>
      ⟨actRowRepair, domDram, b * 65536 + row.toNat, .repair, 0, s.tick, 0, s.tick⟩ ∈ t.maint.acts) ∧
  (∀ (s : State) (b : Fin 64) (row col : BitVec 16) (u : DramUse) (a : Activity), s.runningAct actRowRepair (b * 65536 + row.toNat) = some a →
    s.maint.waiting = [] →
    Runs (.dramRowRepair b row col .repaired u) s fun t =>
      t.maint.banksUsed = s.maint.banksUsed ++ [b.val] ∧ a ∉ t.maint.acts ∧ t.reg K.dramRowsLeft = s.reg K.dramRowsLeft - 1 ∧
      t.reg K.rowRepairs = (s.bump K.rowRepairs).reg K.rowRepairs ∧ t.flag K.spareFlags 2 = true) ∧
  (∀ (s : State) (c : Fin 4), s.runningAct actChannelRetire c = none → s.reg K.retiredChannel = 0xFF →
    (s.maint.acts ++ s.maint.waiting).any (fun a => a.code == actChannelRetire) = false → (s.actsIn domDram).any (fun x => x.kind ≠ .scheduled) = false →
    Runs (.dramChannelRetire c) s fun t => ⟨actChannelRetire, domDram, c, .repair, 0, s.tick, 0, s.tick⟩ ∈ t.maint.acts ∧
      ∀ k ∈ s.activeSlots, (t.cue k).armTick = s.tick + ticksMs 2 ∧ (t.cue k).evaluated = false) ∧
  (∀ (s : State) (c : Fin 4) (a : Activity), s.runningAct actChannelRetire c = some a → s.maint.waiting = [] →
    Runs (.dramChannelRetire c) s fun t =>
      t.reg K.retiredChannel = (c : Nat) ∧ a ∉ t.maint.acts ∧ t.flag K.spareFlags 2 = true ∧ t.flag K.spareFlags 6 = true) ∧
  (∀ (s : State) (k : BitVec 20) (u : EmmcUse), s.runningAct actBlockRetire k.toNat = none → s.repairAsked actBlockRetire k.toNat = false →
    (s.actsIn domEmmc).any (fun x => x.kind ≠ .scheduled) = false →
    Runs (.emmcBlockRetire k u) s fun t => ⟨actBlockRetire, domEmmc, k.toNat, .repair, 0, s.tick, 0, s.tick⟩ ∈ t.maint.acts) ∧
  (∀ (s : State) (k : BitVec 20) (u : EmmcUse) (a : Activity), s.runningAct actBlockRetire k.toNat = some a → s.maint.waiting = [] → 0 < s.reg K.emmcBlocksLeft →
    Runs (.emmcBlockRetire k u) s fun t =>
      a ∉ t.maint.acts ∧ t.reg K.blocksRetired = (s.bump K.blocksRetired).reg K.blocksRetired ∧ t.reg K.emmcBlocksLeft = s.reg K.emmcBlocksLeft - 1 ∧
      t.reg K.runningCapacity = s.reg K.runningCapacity) ∧
  (∀ (s : State) (slot : Fin 16) (v : BitVec 8) (same : Bool),
    Writes (.mramRebuild slot (some v) same) s slot 0x5422 0 (leBytes 1 v.toNat) mramRebuildRule fun t =>
      ⟨actMramRebuild, domJournal, 0, .commanded, s.regN K.nextJournalSeq, s.tick, 0, s.tick⟩ ∈ t.maint.acts) ∧
  (∀ (s : State) (slot : Fin 16) (a : Activity), s.runningAct actMramRebuild 0 = some a →
    Runs (.mramRebuild slot none true) s fun t =>
      t.jr.copyA = true ∧ t.jr.copyB = true ∧ t.reg K.journalState = 0 ∧ t.maint.singleSince = none ∧ t.flag K.spareFlags 7 = false) ∧
  (∀ (s : State) (slot : Fin 16) (v : BitVec 8),
    Writes (.inlinePathTest slot v) s slot 0x5421 0 (leBytes 1 v.toNat) inlinePathTestRule fun t =>
      ⟨actInlineTest, domImage, 0, .commanded, s.regN K.nextJournalSeq, s.tick, 0, s.tick⟩ ∈ t.maint.acts) ∧
  (∀ (s : State) (ok : Bool) (a : Activity), s.runningAct actInlineTest 0 = some a →
    Runs (.inlinePathTestEnd ok) s fun t => t.reg K.inlineState = (if ok then 1 else 2)) ∧
  (∀ (s : State) (ok : Bool), s.reg K.standbyCore = 0 → s.maint.lastCoreTest + ticksS 600 ≤ s.tick →
    Runs (.standbyCoreSelfTest ok) s fun t =>
      t.maint.lastCoreTest = s.tick ∧ t.reg K.standbyCore = (if ok then 0 else 2) ∧ (ok = false → t.flag K.spareFlags 1 = true))

/-- Firmware is staged, activated and confirmed (R408-R410, R562). A stage empties the slot beside the active image, keeps the interface busy and fills the slot when its read-back agrees; an activation is pending until the next start or resets at once;
a cancel takes it back; a confirmation ends the trial and raises the version floor. -/
def Obligations.FirmwareIsStagedAndConfirmed : Prop :=
  (∀ (s : State) (slot : Fin 16) (v : Bytes),
    Writes (.firmwareStage slot v) s slot 0x5480 0 v firmwareStageRule fun t =>
      t.maint.stage = some (s.regN K.nextJournalSeq, v, false) ∧ t.image s.otherImage = ⟨false, 0, 0⟩ ∧
      ⟨actFirmwareStage, domEmmc, 0, .commanded, s.regN K.nextJournalSeq, s.tick, 0, s.tick⟩ ∈ t.maint.acts) ∧
  (∀ (s : State) (i : Nat) (b : Bytes) (rep : Bool), s.maint.stage = some (i, b, rep) →
    Runs (.firmwareStageEnd true) s fun t =>
      t.maint.stage = none ∧ t.image t.otherImage = ⟨true, fieldU b 8 4, fieldU b 6 2⟩ ∧ t.reg K.stagedState = 1 ∧
      t.reg K.stagedVersion = (fieldU b 8 4 : Nat)) ∧
  (∀ (s : State) (i : Nat) (b : Bytes) (rep : Bool), s.maint.stage = some (i, b, rep) →
    Runs (.firmwareStageEnd false) s fun t =>
      t.maint.stage = (if rep then none else some (i, b, true)) ∧ t.maint.images = s.maint.images) ∧
  (∀ (s : State) (slot : Fin 16),
    Writes (.nextStart slot) s slot 0x5481 0 [1] firmwareActivateRule fun t => t.reg K.stagedState = 2 ∧ t.power = s.power) ∧
  (∀ (s : State) (slot : Fin 16),
    Writes (.cancel slot) s slot 0x5481 0 [0] firmwareActivateRule fun t =>
      t.reg K.stagedState = (if s.reg K.stagedState = 2 ∧ s.reg K.trialState ≠ 1 then 1 else s.reg K.stagedState) ∧ t.maint = s.maint) ∧
  (∀ (s : State) (slot : Fin 16),
    Writes (.immediate slot) s slot 0x5481 0 [2] firmwareActivateRule fun t =>
      t.power.phase = .off ∧ t.power.start = some ⟨.commanded, 0, 0xFF⟩ ∧ t.jr.accepting = false ∧ t.book.closed = true ∧
      t.maint.acts = [] ∧ s.atRest = true) ∧
  (∀ (s : State) (slot : Fin 16) (v : BitVec 8),
    Writes (.firmwareConfirm slot v) s slot 0x5482 0 (leBytes 1 v.toNat) firmwareConfirmRule fun t =>
      t.reg K.trialState = 2 ∧ t.reg K.stagedState = 3 ∧ t.maint.confirmed = s.regN K.activeImage ∧
      t.reg K.versionFloor = (max (s.regN K.versionFloor) (s.image (s.regN K.activeImage)).security : Nat))

/-! ### The CAN ports (14_can_ports.md) -/

/-- The CAN ports (R416-R436). Received frames reach their mailboxes with stamp and count and sent ones leave their buffers, and both move the error counters; ports start, detect, leave the bus and recover; configurations, commits and
periods of transmit buffers; the schedule's cycles, windows, reference message and withdrawals; the ISOBUS address and transport protocol; loop tests, failures and the service role. Ports that carry the Task Controller are left out where a loss of its clients follows. -/
def Obligations.CanPortsTakeEffect : Prop :=
  (∀ (s : State) (p : Fin 6) (id : BitVec 32) (format : Fin 3) (d : Bytes) (cap : BitVec 32),
    (s.reg (K.portState p) = cpActive ∨ s.reg (K.portState p) = cpListening) → (format = 0 ∨ s.reg (K.fdEnable p) ≠ 0) →
    Runs (.canFrameReceived p id format false false d cap) s fun t =>
      t.reg (K.framesReceived p) = (s.bump (K.framesReceived p)).reg (K.framesReceived p) ∧
      ∀ m : Fin 32, t.blob (K.rxMailbox p m) =
        if fieldU (s.blob (K.rxFilter p m)) 8 1 ≠ 0 ∧
          idMatches id.toNat (fieldU (s.blob (K.rxFilter p m)) 0 4) (fieldU (s.blob (K.rxFilter p m)) 4 4) = true then
          leBytes 8 (s.sofStamp p cap.toNat) ++ leBytes 4 id.toNat ++ leBytes 1 format ++
            leBytes 1 (d.take 64).length ++ leBytes 2 (min 65535 (fieldU (s.blob (K.rxMailbox p m)) 14 2 + 1)) ++ padTo 64 (d.take 64)
        else s.blob (K.rxMailbox p m)) ∧
  (∀ (s : State) (p : Fin 6) (id : BitVec 32) (format : Fin 3) (remote : Bool) (d : Bytes) (cap : BitVec 32),
    (s.reg (K.portState p) = cpActive ∨ s.reg (K.portState p) = cpListening) →
    Runs (.canFrameReceived p id format remote true d cap) s fun t =>
      t.reg (K.errorFrames p) = (s.bump (K.errorFrames p)).reg (K.errorFrames p) ∧
      t.reg (K.rxErrorCount p) = clampI 0 255 (s.reg (K.rxErrorCount p) + 1) ∧ t.blobs = s.blobs) ∧
  (∀ (s : State) (p : Fin 6) (id : BitVec 32) (d : Bytes) (cap : BitVec 32), s.reg (K.portState p) = cpDetecting →
    2 ≤ (s.can p).goodFrames →
    Runs (.canFrameReceived p id 0 false false d cap) s fun t =>
      t.reg (K.portState p) = cpListening ∧ t.flag (K.portFlags p) pfDetected = true ∧
      t.reg (K.detectedRate p) = (detectRates.getD (s.can p).rateIdx 0 : Nat)) ∧
  (∀ (s : State) (p : Fin 6) (b : Nat) (f : CanFrame) (cap : BitVec 32) (delay : BitVec 8), (s.can p).inTx = some (.buffer b) →
    f = (s.can p).sending.getD (s.txFrame p (.buffer b)) → (p.val < 2 ∨ s.reg (K.tdcMode p) ≠ 1 ∨ f.format ≠ 2) →
    Runs (.canFrameSent p .sent cap delay) s fun t =>
      t.reg (K.framesSent p) = (s.bump (K.framesSent p)).reg (K.framesSent p) ∧ (t.can p).lastSent = some f ∧
      t.reg (K.txErrorCount p) = clampI 0 255 (if s.reg (K.txErrorCount p) = 0 then 0 else s.reg (K.txErrorCount p) - 1) ∧
      (t.txBuf p b).offered = false ∧ ((s.txBuf p b).offered = true → (t.txBuf p b).waiting = false) ∧
      (t.txBuf p b).active = (if (s.txBuf p b).copyDue then (s.txBuf p b).shadow else (s.txBuf p b).active)) ∧
  (∀ (s : State) (p : Fin 6) (b : Nat) (cap : BitVec 32) (delay : BitVec 8), (s.can p).inTx = some (.buffer b) →
    Runs (.canFrameSent p .lost cap delay) s fun t =>
      (t.can p).inTx = none ∧ (t.can p).busBusy = true ∧ (t.txBuf p b).requested = ((s.txBuf p b).requested || !(s.txBuf p b).offered)) ∧
  (∀ (s : State) (p : Fin 6) (b : Nat) (cap : BitVec 32) (delay : BitVec 8), (s.can p).inTx = some (.buffer b) →
    Runs (.canFrameSent p .error cap delay) s fun t =>
      t.reg (K.errorFrames p) = (s.bump (K.errorFrames p)).reg (K.errorFrames p) ∧
      t.reg (K.txErrorCount p) = clampI 0 255 (s.reg (K.txErrorCount p) + 8) ∧
      (255 < s.reg (K.txErrorCount p) + 8 → t.reg (K.portState p) = cpBusOff ∧ t.flag (K.portFlags p) pfBusOff = true)) ∧
  (∀ (s : State) (slot : Fin 16) (p : Fin 6), s.reg (K.canPortEnable p) = 0 →
    Writes (.portEnable slot p 1) s slot (0x5800 + p) 1 [1] (portEnableRule p) fun t =>
      t.reg (K.canPortEnable p) = 1 ∧ t.reg (K.txErrorCount p) = 0 ∧ t.reg (K.rxErrorCount p) = 0 ∧
      (s.regN (K.portMode p) = 0 → t.reg (K.portState p) = cpActive ∧
        (s.reg (K.isobusEnable p) = 1 → t.reg (K.address p) = (s.regN (K.preferredAddress p) : Nat) ∧ t.reg (K.addressState p) = 1)) ∧
      (s.regN (K.portMode p) = 1 → t.reg (K.portState p) = cpListening) ∧
      (2 ≤ s.regN (K.portMode p) → t.reg (K.portState p) = cpDetecting ∧ t.reg (K.nominalRate p) = 250000)) ∧
  (∀ (s : State) (slot : Fin 16) (p : Fin 6), s.reg (K.canPortEnable p) = 1 → s.regN K.tcPort ≠ p →
    Writes (.portEnable slot p 0) s slot (0x5800 + p) 1 [0] (portEnableRule p) fun t =>
      t.reg (K.canPortEnable p) = 0 ∧ t.reg (K.portState p) = cpOffline ∧ t.reg (K.nominalRate p) = 0 ∧ (t.can p).inTx = none ∧
      (t.can p).service = []) ∧
  (∀ (s : State) (p : Fin 6), s.reg (K.portState p) = cpActive → s.regN K.tcPort ≠ p →
    Runs (.busOff p) s fun t =>
      t.reg (K.portState p) = cpBusOff ∧ (t.can p).busOffAt = some s.tick ∧ (t.can p).inTx = none ∧ t.flag (K.portFlags p) pfBusOff = true ∧
      t.reg (K.busOffEvents p) = (s.bump (K.busOffEvents p)).reg (K.busOffEvents p)) ∧
  (∀ (s : State) (p : Fin 6) (t0 : Nat), s.reg (K.portState p) = cpBusOff → s.reg (K.busOffRecovery p) = 0 → (s.can p).busOffAt = some t0 →
    Runs (.busOffRecovery p) s fun t =>
      ((s.can p).recovering = false → t0 + ticksMs (s.regN (K.busOffDelay p)) ≤ s.tick →
        (t.can p).recovering = true ∧ (t.can p).busOffAt = some s.tick ∧ t.reg (K.portState p) = cpBusOff) ∧
      ((s.can p).recovering = true → t0 + 1408 * s.nominalBitClocks p * 5 / 4 ≤ s.tick →
        t.reg (K.portState p) = cpActive ∧ t.flag (K.portFlags p) pfBusOff = false ∧ t.reg (K.txErrorCount p) = 0 ∧
        (t.can p).busOffAt = none)) ∧
  (∀ (s : State) (p : Fin 2) (error : Bool), s.reg (K.portState p) = cpDetecting →
    (error = true ∨ (s.can p).dwellFrom + ticksMs (s.regN (K.detectDwell p)) ≤ s.tick) →
    Runs (.detectDwell p error) s fun t =>
      (t.can p).rateIdx = ((s.can p).rateIdx + 1) % 5 ∧ (t.can p).dwellFrom = s.tick ∧ (t.can p).goodFrames = 0 ∧
      t.reg (K.nominalRate p) = (detectRates.getD (((s.can p).rateIdx + 1) % 5) 0 : Nat)) ∧
  (∀ (s : State) (p : Fin 6) (c : BitVec 32), s.tick % ticksMs 1 = 0 →
    Runs (.sofLatch p c) s fun t => (t.can p).c0 = c.toNat ∧ (t.can p).k0 = s.tick) ∧
  (∀ (s : State) (slot : Fin 16) (p : Fin 6) (b : Fin 64) (d : Bytes),
    Writes (.canTxConfig slot p b d) s slot (0x5820 + p) (b + 1) d (canTxConfigRule p b) fun t =>
      t.blob (K.canTxConfig p b) = d ∧ t.txBuf p b = TxBuf.init) ∧
  (∀ (s : State) (slot : Fin 16) (p : Fin 6) (b : Fin 64) (d : Bytes),
    Writes (.canTxData slot p b d) s slot (0x5830 + p) (b + 1) d (canTxDataRule p b) fun t =>
      (t.txBuf p b).shadow = d ∧
      (s.inTransmission p b = true → (t.txBuf p b).copyDue = true ∧ (t.txBuf p b).active = (s.txBuf p b).active) ∧
      (s.inTransmission p b = false → (t.txBuf p b).active = d) ∧
      (txMode (s.txConfig p b) ≠ 1 → txOwner (s.txConfig p b) ≠ 3 → s.reg (K.portState p) = cpActive →
        (t.txBuf p b).requested = true ∨ (t.can p).inTx = some (.buffer b)) ∧
      (txMode (s.txConfig p b) = 1 → (t.txBuf p b).anchor = some ((s.txBuf p b).anchor.getD s.tick))) ∧
  (∀ (s : State) (p : Fin 6) (b : Fin 64) (t0 : Nat), (s.txBuf p b).anchor = some t0 → txMode (s.txConfig p b) = 1 →
    txPeriod (s.txConfig p b) ≠ 0 → (s.txBuf p b).cycles < (s.tick - t0) / ticksUs (txPeriod (s.txConfig p b)) →
    s.reg (K.portState p) = cpActive →
    Runs (.cyclicSend p b) s fun t =>
      (t.txBuf p b).cycles = (s.tick - t0) / ticksUs (txPeriod (s.txConfig p b)) ∧
      ((t.txBuf p b).requested = true ∨ (t.can p).inTx = some (.buffer b))) ∧
  (∀ (s : State) (slot : Fin 16) (p : Fin 6) (d : Bytes),
    Writes (.scheduleMatrix slot p d) s slot (0x5840 + p) 0 d (scheduleMatrixRule p) fun t => s.reg (K.scheduleEnable p) = 0 ∧ t.matrix p = d) ∧
  (∀ (s : State) (slot : Fin 16) (p : Fin 6),
    Writes (.scheduleEnable slot p 1) s slot (0x5848 + p) 1 [1] (scheduleEnableRule p) fun t =>
      t.reg (K.scheduleEnable p) = 1 ∧ t.reg (K.scheduleFault p) = 0xFFFF ∧ (t.can p).refWaiting = false ∧ (t.can p).refSent = none) ∧
  (∀ (s : State) (slot : Fin 16) (p : Fin 6),
    Writes (.scheduleEnable slot p 0) s slot (0x5848 + p) 1 [0] (scheduleEnableRule p) fun t =>
      (∀ e ∈ matrixSlots (s.matrix p), (t.txBuf p e.buffer).waiting = false ∧ (t.txBuf p e.buffer).offered = false) ∧
      t.reg (K.scheduleEnable p) = 0) ∧
  (∀ (s : State) (p : Fin 6), s.reg (K.scheduleEnable p) = 1 → matrixBasic (s.matrix p) ≠ 0 → s.tick % ticksUs (matrixBasic (s.matrix p)) = 0 →
    Runs (.basicCycleStart p) s fun t =>
      (t.can p).cycleAt = s.tick ∧ (t.can p).matrixCycle = s.tick / ticksUs (matrixBasic (s.matrix p)) % matrixCycles (s.matrix p) ∧
      (t.can p).refSent = none ∧
      (matrixRefId (s.matrix p) ≠ 0xFFFFFFFF → s.reg (K.portState p) = cpActive →
        (t.can p).refWaiting = true ∧ (t.can p).refSeq = ((s.can p).refSeq + 1) % 128 ∧ (t.can p).stepFlag = false)) ∧
  (∀ (s : State) (p : Fin 6) (n : Fin 1024) (e : SlotEntry), s.dueSlot p n = some e → s.tick = (s.can p).cycleAt + ticksUs e.start →
    (s.txBuf p e.buffer).waiting = true →
    Runs (.slotWindowStart p n) s fun t =>
      ((s.txBuf p e.buffer).action < s.now + s.slotTime p e →
        (t.txBuf p e.buffer).waiting = false ∧ t.reg (K.slotsExpired p) = (s.bump (K.slotsExpired p)).reg (K.slotsExpired p)) ∧
      (s.now + s.slotTime p e ≤ (s.txBuf p e.buffer).action → (t.txBuf p e.buffer).offered = true)) ∧
  (∀ (s : State) (p : Fin 6) (n : Fin 1024) (e : SlotEntry), s.dueSlot p n = some e → (s.txBuf p e.buffer).offered = true →
    s.inTransmission p e.buffer = false → (s.can p).cycleAt + ticksUs (e.start + e.length) ≤ s.tick + (s.slotTime p e + 9) / 10 →
    Runs (.slotWindowWithdraw p n) s fun t =>
      (t.txBuf p e.buffer).offered = false ∧ t.reg (K.windowsMissed p) = (s.bump (K.windowsMissed p)).reg (K.windowsMissed p)) ∧
  (∀ (s : State) (p : Fin 6) (a : BitVec 8) (name : BitVec 64), s.reg (K.isobusEnable p) = 1 → s.reg (K.portState p) = cpActive →
    Runs (.addressClaimed p a name true) s fun t =>
      s.claimFrame (if s.reg (K.addressState p) = 1 ∨ s.reg (K.addressState p) = 2 then s.regN (K.address p) else 0xFE) ∈ (t.can p).service ∨
      (t.can p).inTx = some (.service (s.claimFrame (if s.reg (K.addressState p) = 1 ∨ s.reg (K.addressState p) = 2 then s.regN (K.address p) else 0xFE)))) ∧
  (∀ (s : State) (p : Fin 6) (a : BitVec 8) (name : BitVec 64), s.reg (K.isobusEnable p) = 1 → s.reg (K.portState p) = cpActive →
    (s.reg (K.addressState p) = 1 ∨ s.reg (K.addressState p) = 2) → s.regN (K.address p) = a.toNat → s.regN K.tcPort ≠ p →
    Runs (.addressClaimed p a name false) s fun t =>
      (name.toNat < s.isobusNameOf → t.flag (K.portFlags p) pfAddressLost = true ∧
        (s.reg K.nameSelfConfigurable ≠ 1 → t.reg (K.addressState p) = 3 ∧ t.reg (K.address p) = 0xFE) ∧
        (t.reg (K.addressState p) = 1 ∨ t.reg (K.addressState p) = 3)) ∧
      (s.isobusNameOf ≤ name.toNat → t.reg (K.address p) = s.reg (K.address p) ∧ t.reg (K.addressState p) = s.reg (K.addressState p) ∧
        (s.claimFrame a.toNat ∈ (t.can p).service ∨ (t.can p).inTx = some (.service (s.claimFrame a.toNat))))) ∧
  (∀ (s : State) (slot : Fin 16) (p : Fin 6) (v : BitVec 8),
    Writes (.isobusEnable slot p v) s slot (0x5800 + p) 0x10 (leBytes 1 v.toNat) (isobusEnableRule p) fun t =>
      t.reg (K.isobusEnable p) = v.toNat) ∧
  (∀ (s : State) (p : Fin 6) (id : BitVec 29) (d : BitVec 64) (cap : BitVec 32), s.reg (K.isobusEnable p) = 1 → s.reg (K.portState p) = cpActive →
    id.toNat / 256 % 256 = 255 →
    Runs (.transportProtocolMessage p id d cap) s fun t =>
      (id.toNat / 65536 % 256 = 0xEC → fieldU (leBytes 8 d.toNat) 0 1 = 32 → fieldU (leBytes 8 d.toNat) 1 2 ≤ 1785 → (s.can p).tp.length < 8 →
        ⟨id.toNat % 256, fieldU (leBytes 8 d.toNat) 5 3, true, false, fieldU (leBytes 8 d.toNat) 1 2, [],
          s.sofStamp p cap.toNat⟩ ∈ (t.can p).tp) ∧
      (∀ x, id.toNat / 65536 % 256 = 0xEB → s.tpOf p (id.toNat % 256) true false = some x →
        (((x.got ++ (leBytes 8 d.toNat).drop 1).take x.size).length < x.size →
          { x with got := (x.got ++ (leBytes 8 d.toNat).drop 1).take x.size } ∈ (t.can p).tp) ∧
        (x.size ≤ ((x.got ++ (leBytes 8 d.toNat).drop 1).take x.size).length →
          (t.can p).received = some (x.stamp, x.pgn, (x.got ++ (leBytes 8 d.toNat).drop 1).take x.size)))) ∧
  (∀ (s : State) (slot : Fin 16) (p : BitVec 8),
    Writes (.canLoopTest slot p) s slot 0x5870 0 (leBytes 1 p.toNat) canLoopTestRule fun t =>
      t.reg (K.portState p.toNat) = cpTesting ∧ (t.can p.toNat).loopItem = some (s.regN K.nextJournalSeq)) ∧
  (∀ (s : State) (p : Fin 6) (pass : Bool) (i : Nat), (s.can p).loopItem = some i →
    Runs (.canLoopTestEnd p pass) s fun t =>
      (t.can p).loopItem = none ∧ t.flag (K.portFlags p) pfFailed = !pass ∧
      (s.reg (K.portState p) = cpTesting → t.reg (K.portState p) = cpOffline)) ∧
  (∀ (s : State) (p : Fin 6), s.flag (K.portFlags p) pfFailed = false → s.regN K.tcPort ≠ p →
    Runs (.controllerFailed p) s fun t =>
      t.flag (K.portFlags p) pfFailed = true ∧ (t.sess p).isOpen = false ∧
      (s.reg (K.canPortEnable p) = 1 → t.reg (K.portState p) = cpFailed ∧ (t.can p).inTx = none)) ∧
  (∀ (s : State) (p : Fin 6) (held : Nat), s.flag (K.portFlags p) pfTransceiver = false → s.regN K.tcPort ≠ p →
    Runs (.transceiverFault p true held) s fun t =>
      t.flag (K.portFlags p) pfTransceiver = true ∧
      (s.reg (K.canPortEnable p) = 1 → s.reg (K.portState p) ≠ cpFailed → t.reg (K.portState p) = cpOffline)) ∧
  (∀ (s : State) (p : Fin 6) (held : Nat), s.flag (K.portFlags p) pfTransceiver = true → ticksMs 100 ≤ held →
    Runs (.transceiverFault p false held) s fun t => t.flag (K.portFlags p) pfTransceiver = false) ∧
  (∀ (s : State) (slot : Fin 16) (p : Fin 6) (v : BitVec 8),
    Writes (.serviceRole slot p v) s slot (0x5800 + p) 0x13 (leBytes 1 v.toNat) (serviceRoleRule p) fun t =>
      t.reg (K.serviceRole p) = v.toNat)

/-! ### Ethernet and network time (15_ethernet_and_time.md) -/

/-- Network time (R447-R459, R462). Sync and Follow_Up of the SLAVE port measure the domain and discipline module time: a step at the first lock, then the servo of R456; Announce selects the grandmaster and the SLAVE port; the module answers Pdelay_Req, sends what is due and stamps what leaves;
timeouts end a domain's usability; PPS edges, labels, windows and losses; reverting, holdover, the acquire timeout and the saving of module time. -/
def Obligations.NetworkTimeTakesEffect : Prop :=
  (∀ (s : State) (p : Fin 6) (num : BitVec 8) (q : BitVec 16) (one : Bool) (origin corr log : Int) (sub : Fin 10) (d : Nat),
    s.domainOf num.toNat = some d → s.linkUp p = true → (s.dom d).slavePort = some p.val → s.isAsCapable p d = true →
    Runs (.sync p num q one origin corr log sub) s fun t =>
      (t.dom d).syncSeen = true ∧ (t.dom d).lastSync = s.tick ∧ (t.dom d).syncLog = log ∧
      (t.dom d).usableSince = some ((s.dom d).usableSince.getD s.tick) ∧
      (one = false → (t.dom d).pending = some ⟨p, q.toNat, s.tick, s.ingressStamp p sub, corr⟩) ∧
      (one = true → (t.dom d).pending = none ∧ (t.dom d).relayTime = origin + corr + s.reg (K.linkDelay p) ∧ (t.dom d).relayTick = s.tick ∧
        (t.dom d).lastMeas = some s.tick)) ∧
  (∀ (s : State) (p : Fin 6) (num : BitVec 8) (q : BitVec 16) (origin corr : Int) (d : Nat) (x : PendingSync),
    s.domainOf num.toNat = some d → (s.dom d).pending = some x → x.port = p.val → x.seqId = q.toNat →
    Runs (.followUp p num q origin corr) s fun t =>
      (t.dom d).pending = none ∧ (t.dom d).lastMeas = some x.stampTick ∧ (t.dom d).relayTick = x.stampTick ∧
      (t.dom d).relayTime = origin + (x.correction + corr) + s.reg (K.linkDelay p) ∧
      (s.regN K.timeSource = d + 1 → s.clock.lockedSince = false →
        t.clock.lockedSince = true ∧ t.clock.integ = 0 ∧
        t.clock.time = ((s.now : Int) + round10 (origin + (x.correction + corr) + s.reg (K.linkDelay p) - x.stampTime)).toNat) ∧
      (s.regN K.timeSource = d + 1 → s.clock.lockedSince = true → s.clock.returnStep = false → s.clock.firstMeas = false →
        absI (origin + (x.correction + corr) + s.reg (K.linkDelay p) - x.stampTime - s.clock.held) ≤ s.reg K.stepThreshold →
        t.clock.time = s.clock.time ∧ t.clock.confirm = 0 ∧
        t.clock.integ = clampI (-(s.reg K.maxRate * ppbUnit)) (s.reg K.maxRate * ppbUnit) (s.clock.integ + s.reg K.servoKi *
          (origin + (x.correction + corr) + s.reg (K.linkDelay p) - x.stampTime - s.clock.held) *
          ((match (s.dom d).lastMeas with
            | some b => x.stampTick - b
            | none => 0 : Nat) : Int)) ∧
        t.clock.rate = clampI (-(s.reg K.maxRate * ppbUnit)) (s.reg K.maxRate * ppbUnit) (t.clock.integ + s.reg K.servoKp *
          (origin + (x.correction + corr) + s.reg (K.linkDelay p) - x.stampTime - s.clock.held) * 10 ^ 8))) ∧
  (∀ (s : State) (p : Fin 6) (num : BitVec 8) (g : GmFields) (log : Int) (d : Nat),
    s.domainOf num.toNat = some d → s.linkUp p = true → g.identity ≠ s.ownIdentity →
    Runs (.announce p num g log) s fun t =>
      t.heardOn p d = some g ∧ (t.eth p).annTick.get 0 d = s.tick ∧ (t.eth p).annLog.get 0 d = log ∧
      (s.reg (K.ptpRoleMode d) ≠ 1 → s.offersGm d = false → (∀ q : Fin 6, q ≠ p → s.heardOn q d = none) →
        (t.dom d).slavePort = some p.val ∧ t.ptpRole p d = roleSlave ∧ t.reg (K.gmIdentity d) = (g.identity : Nat))) ∧
  (∀ (s : State) (p : Fin 6) (q : BitVec 16) (sub : Fin 10), s.linkUp p = true →
    Runs (.pdelayReq p q none sub) s fun t =>
      t.net.awaiting = s.net.awaiting ++ [⟨p, 0, .pdelayResp, q.toNat, s.ingressStamp p sub, 0, none⟩]) ∧
  (∀ (s : State) (p : Fin 6) (q : BitVec 16) (sub : Fin 10) (ns : Nat), s.linkUp p = true →
    Runs (.pdelayReq p q (some ns) sub) s fun t => t.reg (K.linkDelay p) = (ns : Nat) ∧ t.reg (K.asCapable p) = 3) ∧
  (∀ (s : State) (p : Fin 6) (num : BitVec 8) (log : Int) (d : Nat), s.domainOf num.toNat = some d → s.linkUp p = true →
    Runs (.signaling p num log) s fun t => (t.eth p).askedSync = if log = 126 ∨ log = -128 then none else some log) ∧
  (∀ (s : State) (p : Fin 6) (d : Fin 2), s.linkUp p = true → s.domainOn d = true →
    Runs (.syncTransmit p d) s fun t =>
      (s.ptpRole p d = roleMaster → ((s.dom d).slavePort.isSome || s.offersGm d) = true →
        ((s.eth p).lastSyncOut.get 0 d + s.syncInterval p d ≤ s.tick →
          (t.eth p).lastSyncOut.get 0 d = s.tick ∧ ∃ m ∈ t.net.awaiting, m.port = p ∧ m.domain = s.regN (K.domainNumber d) ∧
            m.kind = (if s.reg (K.oneStepTx p) = 1 then .syncOneStep else .sync) ∧ m.seqId = (s.eth p).seqOut % 65536) ∧
        ((s.eth p).lastAnnOut.get 0 d + ticksS 1 ≤ s.tick →
          (t.eth p).lastAnnOut.get 0 d = s.tick ∧ ∃ m ∈ t.net.general, m.port = p ∧ m.domain = s.regN (K.domainNumber d) ∧ m.kind = .announce)) ∧
      ((s.eth p).lastPdelayOut + ticksS 1 ≤ s.tick →
        (t.eth p).lastPdelayOut = s.tick ∧ ∃ m ∈ t.net.awaiting, m.port = p ∧ m.kind = .pdelayReq)) ∧
  (∀ (s : State) (p : Fin 6) (sub : Fin 10) (m : GptpMsg), s.net.awaiting.find? (fun m => m.port == p.val) = some m →
    Runs (.txTimestamp p sub false) s fun t =>
      t.net.awaiting = s.net.awaiting.erase m ∧
      (m.kind ≠ .syncOneStep → s.net.stamps.length < 64 → t.net.stamps = s.net.stamps ++ [(m, s.egressStamp p sub)]) ∧
      (m.kind ≠ .syncOneStep → 64 ≤ s.net.stamps.length → t.net.stamps = s.net.stamps ∧
        t.reg K.txStampLost = (s.bump K.txStampLost).reg K.txStampLost) ∧
      (m.kind = .syncOneStep → ∃ a c, t.net.general = s.net.general ++ [{ m with stamp := a, correction := c }])) ∧
  (∀ (s : State) (p : Fin 6) (sub : Fin 10) (m f : GptpMsg) (b : Int) (rest : List (GptpMsg × Int)), s.net.stamps = (m, b) :: rest →
    Machine.followUp m b = some f →
    Runs (.txTimestamp p sub true) s fun t => t.net.stamps = rest ∧ t.net.general = s.net.general ++ [f]) ∧
  (∀ (s : State) (d : Fin 2) (p : Nat), (s.dom d).slavePort = some p →
    (s.dom d).lastSync + s.syncTimeout d ≤ s.tick →
    Runs (.receiptTimeout d true) s fun t =>
      (t.dom d).syncSeen = false ∧ (t.dom d).usableSince = none ∧ (t.dom d).pending = none ∧
      t.reg (K.syncTimeouts d) = (s.bump (K.syncTimeouts d)).reg (K.syncTimeouts d)) ∧
  (∀ (s : State) (d : Fin 2), (∃ p : Fin 6, s.annExpired p d = true) →
    Runs (.receiptTimeout d false) s fun t =>
      ∀ p : Fin 6, t.heardOn p d = if s.annExpired p d then none else s.heardOn p d) ∧
  (∀ s : State, s.reg K.ppsEnable ≠ 0 →
    Runs .ppsEdge s fun t =>
      t.net.ppsEdge = some s.tick ∧
      ((∀ b, s.net.ppsEdge = some b → ticksMs 1500 < s.tick - b) →
        t.net.ppsRun = 0 ∧ t.net.ppsWaiting = s.net.ppsWaiting ++ [⟨s.tick, s.now, .start⟩]) ∧
      (∀ b, s.net.ppsEdge = some b → s.tick - b ≤ ticksMs 1500 →
        (ticksUs 999900 ≤ s.tick - b → s.tick - b ≤ ticksUs 1000100 →
          t.net.ppsRun = s.net.ppsRun ∧ t.net.ppsWaiting = s.net.ppsWaiting ++ [⟨s.tick, s.now, .inTolerance⟩]) ∧
        (¬ (ticksUs 999900 ≤ s.tick - b ∧ s.tick - b ≤ ticksUs 1000100) → (s.net.ppsWaiting = [] → t.net.ppsRun = 0) ∧
          t.net.ppsWaiting = s.net.ppsWaiting ++ [⟨s.tick, s.now, .outOfTolerance⟩] ∧
          t.reg K.ppsRejected = (s.bump K.ppsRejected).reg K.ppsRejected))) ∧
  (∀ (s : State) (utc : Nat) (e : PpsEdge), s.net.ppsWaiting = [e] → e.tick < s.tick → s.tick ≤ e.tick + ticksMs 900 →
    Runs (.ppsLabel utc) s fun t =>
      t.net.ppsWaiting = [] ∧ t.net.ppsLabelled = some (e.tick, e.stamp, (utc + s.regN K.utcOffset) * 1000000000) ∧
      (e.kind = .start → t.reg K.lastPpsTime = (e.stamp : Nat) ∧ t.net.ppsRun = s.net.ppsRun) ∧
      (e.kind = .outOfTolerance → t.reg K.lastPpsTime = (e.stamp : Nat) ∧ t.net.ppsRun = 0) ∧
      (e.kind = .inTolerance → t.net.ppsRun = s.net.ppsRun + 1 ∧ t.net.ppsLastAccepted = some e.tick ∧
        t.net.ppsUsableSince = (if s.net.ppsUsableSince.isSome ∨ 2 ≤ s.net.ppsRun then some (s.net.ppsUsableSince.getD s.tick) else none))) ∧
  (∀ (s : State) (e : PpsEdge), s.net.ppsWaiting = [e] → e.tick + ticksMs 900 < s.tick →
    Runs .ppsLabelWindowEnd s fun t =>
      t.net.ppsWaiting = [] ∧ t.net.ppsRun = 0 ∧
      t.reg K.ppsRejected = (if e.kind = .inTolerance then (s.bump K.ppsRejected).reg K.ppsRejected else s.reg K.ppsRejected)) ∧
  (∀ s : State, s.net.ppsUsableSince.isSome = true → s.heldFor s.net.ppsLastAccepted (ticksMs 1500) = true →
    Runs .ppsLoss s fun t => t.net.ppsUsableSince = none ∧ t.net.ppsRun = 0 ∧ t.net.ppsLastMeas = none) ∧
  (∀ (s : State) (k : Nat), s.regN K.timeSource ≠ 0 →
    (s.sourceRank.takeWhile (fun j => j != s.regN K.timeSource)).find? (fun j => s.heldFor (s.usableSince j) (ticksS (s.regN K.revertTime))) = some k →
    Runs .revertTime s fun t => t.reg K.timeSource = (k : Nat) ∧ t.clock.firstMeas = true ∧ t.clock.time = s.clock.time) ∧
  (∀ s : State, s.reg K.timeState = tsHoldover → s.clock.stateSince + ticksS (s.regN K.holdoverLimit) ≤ s.tick →
    Runs .holdoverLimit s fun t => t.reg K.timeState = tsFreeRun ∧ t.clock = s.clock) ∧
  (∀ s : State, s.reg K.timeState = tsUnsynchronised → ticksMs (s.regN K.acquireTimeout) ≤ s.tick →
    Runs .acquireTimeout s fun t => t.reg K.timeState = tsFreeRun ∧ t.clock = s.clock) ∧
  (∀ s : State, s.tick % ticksMs 10 = 0 → Runs .moduleTimeSave s fun t => t.jr.savedTime = s.now ∧ t.clock = s.clock)

/-- Fixes, links, leases and frames (R441-R444, R460, R461, R464). A fix of a datagram or of an ISOBUS message goes to every dead-reckoning axis; a link change moves the port's state and forgets what it heard; a lease sets the interface's address;
a frame that passes is learned and goes out on the ports of its VLAN, a bad one is counted and dropped. -/
def Obligations.EthernetTakesFixesAndFrames : Prop :=
  (∀ (s : State) (vlan port : BitVec 16) (time q : Nat) (lat lon alt sep : Int), s.reg K.gnssSource = 1 → vlan.toNat = s.regN K.gnssVlan →
    port.toNat = s.regN K.gnssUdpPort → s.carries vlan.toNat = true →
    Runs (.nmeaDatagram vlan port [.gga true time lat lon alt sep q]) s fun t =>
      (fixQuality q ≠ 0 → t.net.height = alt + sep ∧
        t.reg K.fixesReceived = (s.bump K.fixesReceived).reg K.fixesReceived ∧
        ∀ n : Fin 16, s.axisIs n 1 = true → ∃ f, (t.axis n).fixes = (s.axis n).fixes ++ [f] ∧ f.quality = fixQuality q ∧
          f.tick = s.fixTick (s.net.rmc.map (fun x => x.1 * 86400 * 10 ^ 9 + time)) (s.now : Nat) ∧
          f.east = (s.fieldPosition lat lon (alt + sep)).1 - (toField 0 0 (s.axis n).heading s.antenna.1 s.antenna.2).1 ∧
          f.north = (s.fieldPosition lat lon (alt + sep)).2 - (toField 0 0 (s.axis n).heading s.antenna.1 s.antenna.2).2) ∧
      (fixQuality q = 0 → t.reg K.fixesRejected = (s.bump K.fixesRejected).reg K.fixesRejected ∧ t.axes = s.axes)) ∧
  (∀ (s : State) (vlan port : BitVec 16) (day time : Nat) (speed course : Int), s.reg K.gnssSource = 1 → vlan.toNat = s.regN K.gnssVlan →
    port.toNat = s.regN K.gnssUdpPort → s.carries vlan.toNat = true →
    Runs (.nmeaDatagram vlan port [.rmc true day time speed course]) s fun t => t.net.rmc = some (day, speed, course) ∧ t.axes = s.axes) ∧
  (∀ (s : State) (p : Fin 6) (cap : BitVec 32) (utc : Nat) (lat lon h speed course : Int) (q : BitVec 8), s.reg K.gnssSource = 2 →
    s.regN K.gnssPort = p.val → s.reg (K.isobusEnable p) = 1 →
    Runs (.isobusGnssMessage p cap utc lat lon h q speed course) s fun t =>
      (fixQuality q.toNat ≠ 0 → t.net.height = h ∧ t.reg K.fixesReceived = (s.bump K.fixesReceived).reg K.fixesReceived ∧
        ∀ n : Fin 16, s.axisIs n 1 = true → ∃ f, (t.axis n).fixes = (s.axis n).fixes ++ [f] ∧ f.quality = fixQuality q.toNat ∧
          f.speed = speed ∧ f.course = course ∧
          f.tick = s.fixTick (some utc) (s.sofStamp p cap.toNat : Nat)) ∧
      (fixQuality q.toNat = 0 → t.reg K.fixesRejected = (s.bump K.fixesRejected).reg K.fixesRejected ∧ t.axes = s.axes)) ∧
  (∀ (s : State) (p : Fin 6), s.reg (K.ethLinkState p) ≠ 1 → s.reg (K.ethPortEnable p) = 1 →
    Runs (.ethLinkChange p true) s fun t => t.reg (K.ethLinkState p) = 1) ∧
  (∀ (s : State) (p : Fin 6), s.reg (K.ethLinkState p) = 1 →
    Runs (.ethLinkChange p false) s fun t =>
      t.reg (K.ethLinkState p) = 0 ∧ t.reg (K.asCapable p) = 0 ∧ t.heardOn p 0 = none ∧ t.heardOn p 1 = none ∧
      (∀ m ∈ t.net.macs, m.port ≠ p) ∧ (∀ m ∈ t.net.awaiting, m.port ≠ p)) ∧
  (∀ (s : State) (n : Fin 4) (lease : Option (BitVec 32)), s.reg (K.ifEnable n) = 1 → s.reg (K.ifMode n) = 1 → s.net.ifLease.get 0 n = 0 →
    Runs (.dhcpDiscovery n lease) s fun t =>
      (∀ a, lease = some a → t.reg (K.addressInUse n) = (a.toNat : Nat) ∧ t.net.ifLease.get 0 n = a.toNat) ∧
      (lease = none → s.net.ifDiscover.get 0 n + ticksS 10 ≤ s.tick → t.net.ifDiscover.get 0 n = s.tick ∧ t.regs = s.regs)) ∧
  (∀ (s : State) (p : Fin 6) (ok : Bool) (f : EthFrame), s.linkUp p = true → (ok = false ∨ 1522 < f.size) →
    Runs (.ethFrameIngress p ok f) s fun t =>
      t.reg (K.ethFramesDropped p) = (s.bump (K.ethFramesDropped p)).reg (K.ethFramesDropped p) ∧ t.net = s.net) ∧
  (∀ (s : State) (p : Fin 6) (f : EthFrame) (vlan queue : Nat) (b : Bytes), s.linkUp p = true → f.size ≤ 1522 → f.ptp = false →
    vlan = (match f.tag with
      | some (v, _) => if v = 0 then s.regN (K.pvid p) else v
      | none => s.regN (K.pvid p)) →
    queue = (match f.tag with
      | some (_, c) => c
      | none => s.regN (K.defaultPriority p)) →
    s.vlanEntry vlan = some b → vlanMember b p = true → s.net.macs = [] → f.src ≠ f.dst → f.dst ≠ beNat (s.blob K.macAddress) →
    Runs (.ethFrameIngress p true f) s fun t =>
      t.net.macs = [⟨vlan, f.src, p, s.tick⟩] ∧
      (f.dst ≠ 0xFFFFFFFFFFFF → ∀ q : Fin 6, (t.eth q).queued = if q ≠ p ∧ vlanMember b q = true ∧ s.linkUp q = true
        then (s.eth q).queued ++ [⟨queue, !vlanUntagged b q, vlan, f.dst, f.src, f.size, f.data⟩] else (s.eth q).queued)) ∧
  (∀ (s : State) (p : Fin 6) (f : EthFrame) (vlan pcp : Nat) (b : Bytes) (m : MacEntry), s.linkUp p = true → f.size ≤ 1522 → f.ptp = false →
    f.tag = some (vlan, pcp) → vlan ≠ 0 → s.vlanEntry vlan = some b → vlanMember b p = true → s.net.macs = [m] → m.vlan = vlan → m.addr = f.dst →
    s.tick < m.seen + ticksS 300 → f.src ≠ f.dst → f.dst ≠ beNat (s.blob K.macAddress) → f.dst ≠ 0xFFFFFFFFFFFF →
    Runs (.ethFrameIngress p true f) s fun t =>
      ∀ q : Fin 6, (t.eth q).queued = if q ≠ p ∧ m.port = q ∧ vlanMember b q = true ∧ s.linkUp q = true
        then (s.eth q).queued ++ [⟨pcp, !vlanUntagged b q, vlan, f.dst, f.src, f.size, f.data⟩] else (s.eth q).queued) ∧
  (∀ (s : State) (p : Nat) (f : SentFrame), p < 6 → s.eth p = { s.eth p with queued := [f] } → (s.eth p).busyUntil ≤ s.tick →
    ((s.egressPort p).eth p).queued = [] ∧ ((s.egressPort p).eth p).busyUntil = s.tick + wireTicks p f.size ∧
    (s.egressPort p).net.lastSent.get none p = some f) ∧
  (∀ (s : State) (p : Nat) (f g : SentFrame), p < 6 → s.eth p = { s.eth p with queued := [f, g] } → (s.eth p).busyUntil ≤ s.tick →
    (s.egressPort p).net.lastSent.get none p = some (if f.queue < g.queue then g else f)) ∧
  (∀ (s : State) (p : Fin 6) (f : EthFrame) (vlan pcp : Nat), s.linkUp p = true → f.size ≤ 1522 → f.ptp = false → f.tag = some (vlan, pcp) → vlan ≠ 0 →
    s.vlanEntry vlan = none →
    Runs (.ethFrameIngress p true f) s fun t =>
      t.reg (K.ethFramesDropped p) = (s.bump (K.ethFramesDropped p)).reg (K.ethFramesDropped p) ∧ t.net = s.net) ∧
  (∀ (mac : Bytes) (ip : Nat) (sha spa : Bytes), mac.length = 6 → sha.length = 6 → spa.length = 4 → ip < 2 ^ 32 →
    arpAnswer mac ip ([8, 6, 0, 1, 8, 0, 6, 4, 0, 1] ++ sha ++ spa ++ zeros 6 ++ beBytes 4 ip) =
      some ([8, 6, 0, 1, 8, 0, 6, 4, 0, 2] ++ mac ++ beBytes 4 ip ++ sha ++ spa))

/-! ### The prompt book (16_prompt_book.md) -/

/-- The prompt book (R467, R471-R477, R480). A page commit moves the staged records of a page to the head of the running area and lets held ones in, and a page that fails is skipped and its block retired; the nonce of RecordClearArm serves
RecordClear, which offers a CLEARED record, and the admission of that record raises OldestRecord and starts the erasing of the blocks; nonces expire after 30 s; the operating time is saved every second. -/
def Obligations.PromptBookTakesEffect : Prop :=
  (∀ s : State, s.reg K.journalState ≠ 2 → s.regN K.runningCapacity ≠ 0 → s.book.staged ≠ [] →
    Runs (.pageCommit true) s fun t =>
      t.book.head = s.book.head + min (32 - s.book.head % 32) s.book.staged.length ∧ t.book.pageBusy = false ∧
      (∀ k r, k < min (32 - s.book.head % 32) s.book.staged.length → s.book.staged[k]? = some r →
        (s.book.head + k, r) ∈ t.book.running ∧ (r.seq ≤ 516096 → r ∈ t.book.firstNight)) ∧
      (s.book.waiting = [] → s.reg K.bookState ≠ 1 →
        t.book.staged = s.book.staged.drop (min (32 - s.book.head % 32) s.book.staged.length)) ∧
      (s.book.waiting = [] → s.reg K.bookState = 1 →
        s.book.staged.length ≤ 960 + min (32 - s.book.head % 32) s.book.staged.length →
        t.reg K.bookState = 0 ∧ ∀ i : Fin 21, (t.book.supp.get Supp.init i).count = 0)) ∧
  (∀ s : State, s.reg K.journalState ≠ 2 → s.regN K.runningCapacity ≠ 0 → s.book.staged ≠ [] →
    Runs (.pageCommit false) s fun t =>
      t.book.head = s.book.head + (32 - s.book.head % 32) ∧
      (⟨actBlockRetire, domEmmc, bookBlock s.book.head, .repair, 0, s.tick, 1, s.tick⟩ : Activity) ∈ t.maint.acts ++ t.maint.waiting) ∧
  (∀ (s : State) (slot : Fin 16) (v : BitVec 8),
    Writes (.recordClearArm slot v) s slot 0x2220 0 (leBytes 1 v.toNat) recordClearArmRule fun t =>
      (∃ x, t.nonceOf slot = some x ∧ x.expires = s.tick + ticksS 30 ∧ x.value < 2 ^ 32) ∧ t.fresh = s.fresh + 1) ∧
  (∀ (s : State) (slot : Fin 16) (d : Bytes),
    Writes (.recordClear slot d) s slot 0x2222 0 d recordClearRule fun t =>
      t.nonceOf slot = none ∧ t.book.oldest = s.book.oldest ∧ t.book.clearingLog = s.book.clearingLog ∧
      t.book.eraseItem = some (s.regN K.nextJournalSeq) ∧ t.reg K.busyState = 1 ∧
      (s.book.closed = false →
        ∃ r, t.book.offered = s.book.offered ++ [r] ∧ r.code = 4 ∧
          r.payload = leBytes 8 s.book.oldest ++ leBytes 8 (fieldU d 0 8) ++ leBytes 4 (s.sess slot).sourceId ++
            leBytes 1 (s.sess slot).role ++ zeros 3 ++ leBytes 8 (s.regN K.nextJournalSeq))) ∧
  (∀ (s : State) (r : Rec), s.book.offered = [r] → r.code = 4 → r.source = 1 → s.reg K.journalState ≠ 2 → s.book.staged.length < 1024 →
    s.reg K.bookState ≠ 1 →
    let t := s.admitOffers
    ∃ x, t.book.staged = s.book.staged ++ [x] ∧ t.book.clearingLog = s.book.clearingLog ++ [x] ∧ x.seq = s.regN K.nextRecordSeq ∧
      x.payload = r.payload ∧ t.book.oldest = fieldU r.payload 8 8 + 1 ∧ t.book.erasing = some (fieldU r.payload 8 8) ∧ t.book.offered = []) ∧
  (∀ (s : State) (u : Nat), s.book.erasing = some u →
    Runs .recordClearEraseEnd s fun t =>
      t.book.erasing = none ∧ t.book.eraseItem = none ∧
      t.book.tail = max s.book.tail (match s.book.running.find? (fun p => decide (u < p.2.seq)) with
        | some p => p.1 / 4096 * 4096
        | none => s.book.head / 4096 * 4096) ∧
      t.book.running = s.book.running.filter (fun p => decide (t.book.tail ≤ p.1)) ∧ t.book.oldest = s.book.oldest) ∧
  (∀ (s : State) (slot : Fin 16) (x : Nonce), s.nonceOf slot = some x →
    Runs (.nonceExpiry slot) s fun t => t.nonceOf slot = (if x.expires ≤ s.tick then none else some x) ∧ t.book = s.book) ∧
  (∀ s : State, s.book.opSaved + ticksS 1 ≤ s.tick →
    Runs .operatingTimeSave s fun t =>
      t.reg K.operatingTime = (s.bump K.operatingTime).reg K.operatingTime ∧ t.book.opSaved = s.book.opSaved + ticksS 1)

/-! ### Harvest and fleet services (17_harvest_and_fleet_services.md) -/

/-- Yield, fields and exports (R481-R495). Every 10 ms a sample of flow and moisture is assigned to its strip; strips close, their pools spread and they are deposited and archived; losses are shown every 100 ms; YieldCalibrate and LoadReset; a field opens after the closing one
has been archived and freed; erases and exports run and end. -/
def Obligations.YieldAndArchiveTakeEffect : Prop :=
  (∀ (s : State) (q : Int), s.reg K.yieldEnable = 1 → s.yield.sampledAt + ticksMs 10 ≤ s.tick →
    q = (if s.brgFault (s.regN K.flowBridge) then 0 else s.reg (K.brgValue (s.regN K.flowBridge)) * s.reg K.flowScale / 65536) →
    Runs .yieldSample s fun t =>
      t.yield.sampledAt = s.yield.sampledAt + ticksMs 10 ∧ t.yield.flows = (q :: s.yield.flows).take 100 ∧
      t.yield.loadWet = s.yield.loadWet + q ∧
      t.yield.loadDry = s.yield.loadDry + (q * (10000 - s.moistureNow.1)).tdiv (10000 - s.reg K.standardMoisture) ∧
      t.reg K.moisture = s.moistureNow.1 ∧
      ∀ g, s.yield.strips.find? (fun k => decide ((k.start : Int) ≤ (s.tick : Int) - ticksMs (s.regN K.transportDelay)) &&
          decide ((s.tick : Int) - ticksMs (s.regN K.transportDelay) < k.start + ticksMs 100)) = some g →
        0 < g.width → g.deposited = false → ∃ h ∈ t.yield.strips, h.start = g.start ∧ h.wet = g.wet + q) ∧
  (∀ s : State, s.reg K.yieldEnable = 1 →
    Runs .stripClose s fun t =>
      (s.yield.cur = none → ∃ o, t.yield.cur = some o ∧ o.start = s.tick) ∧
      ∀ o, s.yield.cur = some o → o.start + ticksMs 100 ≤ s.tick →
        (∃ l k, t.yield.strips = l ++ [k] ∧ k.start = o.start ∧ k.e0 = o.e ∧ k.n0 = o.n ∧ k.width = o.width ∧ k.wet = 0 ∧ k.time = s.now ∧
          k.closed = false ∧ k.deposited = false) ∧ ∃ o', t.yield.cur = some o' ∧ o'.start = o.start + ticksMs 100) ∧
  (∀ (s : State) (g : Strip), s.yield.strips.find? (fun g => !g.closed && decide (0 < g.width) && decide (s.poolDue g ≤ s.tick)) = some g →
    Runs .poolClose s fun t => ∀ h ∈ t.yield.strips, h.start = g.start → h.closed = true ∧ h.poolWet = 0 ∧ h.poolDry = 0) ∧
  (∀ (s : State) (g : Strip), s.yield.strips.find? (fun g => !g.deposited && decide (s.depositDue g ≤ s.tick)) = some g →
    Runs .stripDeposit s fun t => ∀ h ∈ t.yield.strips, h.start = g.start → h.deposited = true) ∧
  (∀ (s : State) (f k : Nat) (y : YTile), s.openFieldNo = some f → s.yield.tiles.cells = [(k, y)] → y.dirtyFrom.isSome = true →
    s.hasUnit ((s.fieldArc f).yield.get YTile.init k != YTile.init) = true →
    Runs .yieldTileArchive s fun t =>
      (t.fieldArc f).yield.get YTile.init k = { y with dirtyFrom := none } ∧ t.yield.tiles.get YTile.init k = { y with dirtyFrom := none }) ∧
  (∀ s : State, s.yield.lossAt + ticksMs 100 ≤ s.tick →
    Runs .lossUpdate s fun t =>
      t.yield.lossAt = s.tick ∧ ∀ j : Fin 2, t.reg (K.lossRate j) =
        sat32 ((((List.range 16).filter (fun n => s.flag (K.lossMask j) n && !s.acuFault n)).map (fun n => s.reg (K.grainRate n))).sum *
          s.reg K.kernelMass * s.reg K.lossScale / 65536 / 1000)) ∧
  (∀ (s : State) (slot : Fin 16) (m : BitVec 32),
    Writes (.yieldCalibrate slot m) s slot 0x6002 0 (leBytes 4 m.toNat) yieldCalibrateRule fun t =>
      t.reg K.flowScale = (s.reg K.flowScale * (m.toNat : Int)).tdiv (s.reg K.loadWetMass) ∧ t.yield.loadWet = 0 ∧ t.yield.loadDry = 0 ∧
      t.reg K.loadWetMass = 0) ∧
  (∀ (s : State) (slot : Fin 16) (v : BitVec 8),
    Writes (.loadReset slot v) s slot 0x6003 0 (leBytes 1 v.toNat) loadResetRule fun t =>
      t.yield.loadWet = 0 ∧ t.yield.loadDry = 0 ∧ t.yield.area = 0 ∧ t.reg K.loadWetMass = 0 ∧ t.reg K.loadDryMass = 0 ∧
      t.reg K.harvestedArea = 0 ∧ t.yield.strips = s.yield.strips) ∧
  (∀ (s : State) (slot : Fin 16) (f : BitVec 16),
    Writes (.openField slot f) s slot 0x6010 1 (leBytes 2 f.toNat) openFieldRule fun t =>
      t.archive.opening = some (s.regN K.nextJournalSeq, f.toNat, s.tick) ∧ t.reg K.openField = f.toNat ∧ t.cov.tiles = ⟨[]⟩ ∧
      (f.toNat ≠ 0xFFFF → t.reg K.coveragePitch = (fieldU (s.blob (K.fieldRecord f.toNat)) 2 2 : Nat) ∧
        t.reg K.originLatitude = fieldI (s.blob (K.fieldRecord f.toNat)) 4 4 ∧
        t.reg K.originLongitude = fieldI (s.blob (K.fieldRecord f.toNat)) 8 4)) ∧
  (∀ (s : State) (i f t0 : Nat), s.archive.opening = some (i, f, t0) →
    Runs .openFieldEnd s fun t =>
      t.archive.opening = none ∧ t.flag K.coverageFlags 2 = (f != 0xFFFF) ∧
      ∀ k x, f ≠ 0xFFFF → (s.fieldArc f).cov.cells = [(k, x)] → (t.tile k).present = true ∧ (t.tile k).bits = x.bits ∧ (t.tile k).dirty = false) ∧
  (∀ (s : State) (slot : Fin 16) (f : BitVec 16),
    Writes (.archiveErase slot f) s slot 0x6012 0 (leBytes 2 f.toNat) archiveEraseRule fun t =>
      t.archive.erasing = some (s.regN K.nextJournalSeq, f.toNat, s.tick) ∧ t.reg K.busyState = 1 ∧ t.archive.fields = s.archive.fields) ∧
  (∀ (s : State) (i v t0 : Nat), s.archive.erasing = some (i, v, t0) →
    Runs .archiveEraseEnd s fun t =>
      t.archive.erasing = none ∧ t.flag K.archiveFlags 0 = false ∧
      ∀ f < 256, t.fieldArc f = if v = 0xFFFF ∨ v = f then FieldArc.init else s.fieldArc f) ∧
  (∀ (s : State) (slot : Fin 16) (f : BitVec 8),
    Writes (.isoTaskdata slot f) s slot 0x6021 0 (leBytes 2 f.toNat) exportBuildRule fun t =>
      t.archive.building = some (s.regN K.nextJournalSeq, f.toNat, 0) ∧ t.archive.files = [] ∧ t.reg K.exportFiles = 0 ∧
      t.flag K.archiveFlags 1 = false) ∧
  (∀ (s : State) (slot : Fin 16) (f : BitVec 8),
    Writes (.yieldTiles slot f) s slot 0x6021 0 (leBytes 2 (256 + f.toNat)) exportBuildRule fun t =>
      t.archive.building = some (s.regN K.nextJournalSeq, f.toNat, 1) ∧ t.archive.files = [] ∧ t.flag K.archiveFlags 1 = false) ∧
  (∀ (s : State) (slot : Fin 16) (f : BitVec 8),
    Writes (.coverageTiles slot f) s slot 0x6021 0 (leBytes 2 (512 + f.toNat)) exportBuildRule fun t =>
      t.archive.building = some (s.regN K.nextJournalSeq, f.toNat, 2) ∧ t.archive.files = [] ∧ t.flag K.archiveFlags 1 = false) ∧
  (∀ (s : State) (ok : Bool) (i f m : Nat), s.archive.building = some (i, f, m) →
    Runs (.exportBuildEnd ok) s fun t =>
      t.archive.building = none ∧
      (ok = true → t.archive.files = (s.exportFiles f m).1 ∧ t.reg K.exportFiles = ((s.exportFiles f m).1.length : Nat) ∧
        t.flag K.archiveFlags 1 = true) ∧
      (ok = false → t.archive.files = s.archive.files))

/-- The fleet service and the rendezvous (R496-R502, R569). An attempt that is due connects or backs off; CONNACK opens slot 6 and sends what waited; a lost connection closes it; status, position and yield messages go out when due, or wait; the rendezvous is computed every second and moves between its
states; accepts and cancels take effect; dict/req is handled on slot 6 and answered on dict/rsp. -/
def Obligations.FleetServiceTakesEffect : Prop :=
  (∀ (s : State) (hello : Option ServerHello), s.reg K.fleetEnable = 1 → s.reg K.fleetState ≠ 2 → s.fleet.trying = false →
    s.fleet.retryAt ≤ s.tick → s.clock.lockedSince = true →
    Runs (.brokerConnect hello) s fun t =>
      t.reg K.reconnects = (s.bump K.reconnects).reg K.reconnects ∧
      (hello.any s.acceptsServer = true → s.fleetUp = true → s.blob K.fleetCertificate ≠ [] →
        t.fleet.trying = true ∧ t.fleet.will = s.statusPayload 0 ∧ t.fleet.connect = some s.connectPacket ∧ t.reg K.fleetState = 1) ∧
      (hello.any s.acceptsServer = false →
        t.fleet.trying = false ∧ t.reg K.fleetState = 3 ∧ t.fleet.retryAt = s.tick + ticksS s.fleet.backoff ∧
        t.fleet.backoff = min 60 (2 * s.fleet.backoff))) ∧
  (∀ (s : State) (h : ServerHello), s.acceptsServer h = true →
    h.tls13 = true ∧ h.depth ≤ 4 ∧ h.trusted = true ∧ s.blob K.brokerName ∈ h.names ∧ (h.notBefore : Int) ≤ s.utcSeconds ∧
      s.utcSeconds ≤ h.notAfter) ∧
  (∀ s : State, s.fleet.trying = true →
    Runs .connack s fun t =>
      t.fleet.trying = false ∧ t.fleet.subscribed = true ∧ t.fleet.backoff = 1 ∧ t.fleet.queue = [] ∧ t.reg K.fleetState = 2 ∧
      t.fleet.subscriptions = [s.topicName "rdv/accept", s.topicName "dict/req"] ∧
      t.reg K.queueUsed = 0 ∧ (t.sess 6).isOpen = true ∧ (t.sess 6).sourceId = 0xFFFFFFF0 ∧
      (t.sess 6).generation = if (s.sess 6).generation = 255 then 1 else (s.sess 6).generation + 1) ∧
  (∀ s : State, s.reg K.fleetState = 2 →
    Runs .brokerDisconnect s fun t =>
      t.reg K.fleetState = 3 ∧ (t.sess 6).isOpen = false ∧ t.fleet.subscribed = false ∧ t.fleet.lostAt = some s.tick ∧
      t.fleet.retryAt = s.tick + ticksS 1) ∧
  (∀ s : State, s.reg K.fleetEnable = 1 → s.fleet.queue = [] →
    (s.fleet.lastStatus + ticksMs (s.regN K.statusInterval) ≤ s.tick ∨ statusFields (s.statusPayload 1) ≠ s.fleet.statusSeen) →
    Runs .statusPublish s fun t =>
      t.fleet.lastStatus = s.tick ∧ t.fleet.statusSeen = statusFields (s.statusPayload 1) ∧
      (s.reg K.fleetState = 2 → t.fleet.lastSent.get none (Topic.code .status) = some ⟨.status, s.statusPayload 1⟩ ∧
        t.reg K.messagesSent = (s.bump K.messagesSent).reg K.messagesSent) ∧
      (s.reg K.fleetState ≠ 2 → t.fleet.queue = [⟨.status, s.statusPayload 1⟩])) ∧
  (∀ s : State, s.reg K.fleetEnable = 1 → s.openFieldNo.isSome = true → s.fleet.lastPos + ticksMs (s.regN K.positionInterval) ≤ s.tick →
    s.reg K.fleetState = 2 → s.fleet.queue = [] →
    Runs .posPublish s fun t =>
      t.fleet.lastPos = s.tick ∧ t.fleet.lastSent.get none (Topic.code .pos) = some ⟨.pos, s.posPayload⟩) ∧
  (∀ s : State, s.reg K.fleetEnable = 1 → s.reg K.yieldState = 2 → s.fleet.lastYield + ticksS 10 ≤ s.tick → s.reg K.fleetState = 2 →
    s.fleet.queue = [] →
    Runs .yieldPublish s fun t =>
      t.fleet.lastYield = s.tick ∧ t.fleet.lastSent.get none (Topic.code .yield) = some ⟨.yield, s.yieldPayload⟩) ∧
  (∀ s : State, s.reg K.rendezvousEnable = 1 → s.rdv.lastEval + ticksS 1 ≤ s.tick →
    Runs .rendezvousUpdate s fun t =>
      t.rdv.lastEval = s.tick ∧ t.rdv.valid = (fieldU (s.blob K.tankFill) 4 1 == 1 && !s.fuse.bodyFlags.testBit 1) ∧
      t.rdv.fill = (if t.rdv.valid then fieldI (s.blob K.tankFill) 8 4 else s.rdv.fill) ∧
      (s.harvestRate.1 ≤ 0 → t.reg K.distanceToFull = 0xFFFFFFFF) ∧
      (0 < s.harvestRate.1 → t.reg K.distanceToFull =
        sat32 ((2 ^ 24 - t.rdv.fill) * s.reg K.tankCapacity * massKg * s.harvestRate.2 / (2 ^ 24 * s.harvestRate.1 * fineMm))) ∧
      (s.heldFor s.fleet.lostAt (ticksS 60 + 1) = true → t.reg K.rendezvousState = 0) ∧
      (s.heldFor s.fleet.lostAt (ticksS 60 + 1) = false → t.rdv.valid = true →
        (s.reg K.rendezvousState = 0 → s.reg K.rendezvousFill * 2 ^ 24 ≤ t.rdv.fill * 100 → s.rdv.holdUntil ≤ s.tick →
          t.reg K.rendezvousState = 1) ∧
        (s.reg K.rendezvousState = 2 → fieldU (s.blob K.spoutAlignment) 5 1 = 1 → 5 * 2 ^ 24 ≤ (s.rdv.atAccept - t.rdv.fill) * 100 →
          t.reg K.rendezvousState = 3) ∧
        (s.reg K.rendezvousState = 3 → t.rdv.fill * 100 ≤ s.reg K.unloadEndFill * 2 ^ 24 → t.reg K.rendezvousState = 0))) ∧
  (∀ (s : State) (cart : Bytes), s.fleet.subscribed = true → cart.length = 8 → utf8Ok cart = true →
    Runs (.rdvAccept cart) s fun t =>
      (s.reg K.rendezvousState = 1 → t.reg K.rendezvousState = 2 ∧ t.blob K.cartId = cart ∧ t.rdv.atAccept = s.rdv.fill) ∧
      (s.reg K.rendezvousState = 2 → t.reg K.acceptsIgnored = (s.bump K.acceptsIgnored).reg K.acceptsIgnored ∧ t.blobs = s.blobs)) ∧
  (∀ (s : State) (slot : Fin 16) (v : BitVec 8),
    Writes (.rendezvousCancel slot v) s slot 0x6212 0 (leBytes 1 v.toNat) rendezvousCancelRule fun t =>
      t.reg K.rendezvousState = 0 ∧ t.rdv.holdUntil = s.tick + ticksS 30 ∧
      (s.reg K.rendezvousState ≠ 0 → t.blob K.cartId = zeros 8)) ∧
  (∀ (s : State) (f : Bytes), s.serves = true → s.reg K.fleetState = 2 → s.reg K.fleetEnable = 1 → s.fleet.queue = [] → udpFramed f = true →
    fieldU f 2 1 = 1 → (udpReq f).op = opKeepalive → s.udpSlot 6 6 (udpReq f).sessionId = some 6 →
    (udpReq f).seq = ((s.sess 6).lastSeq + 1) % 2 ^ 32 → s.reg K.busyState ≠ 1 →
    Runs (.dictReq f) s fun t =>
      t.lastReply = some ((udpReq f).answer 0 0) ∧ (t.sess 6).lastReq = s.tick ∧
      t.fleet.lastSent.get none (Topic.code .dictRsp) = some ⟨.dictRsp, ((udpReq f).answer 0 0).bytes⟩)

/-! ### The display and the tag (18_display_and_tag.md) -/

/-- The panel and the service tag (R507-R519, R522). A frame latch takes the CRCs of the frame that ends and the waiting flip; UiRectWrite writes its rectangle into a UI
buffer; UiFlip waits for the latch while the panel runs and else takes effect at once; UniformityMap waits likewise. The panel powers up in 200 ms and down in 10 ms; a supply that has not come up, a reading of a bias supply that is on more
than 10 % off for 10 ms and an overcurrent of PANEL_VDD power it down into FAULT with their flag. The tag controller takes waiting content, clears and writes it, and at start-up the newest content that did not reach the tag is offered again; its
reservoir becomes READY after 20 s or ends in FAULT. -/
def Obligations.PanelAndTagTakeEffect : Prop :=
  (∀ s : State, s.composing = true → s.panel.settings = [] →
    Runs .frameLatch s fun t =>
      t.reg K.uiCrc = (crc32 (s.uiBytes (s.regN K.frontBuffer)) : Nat) ∧ t.reg K.scanCrc = (s.scanCrcOf : Nat) ∧ t.panel.flip = none ∧
      (∀ f, s.panel.flip = some f →
        t.panel.expected = f.crc ∧ t.reg K.frontBuffer = (f.buffer : Nat) ∧ t.flag K.displayFlags 4 = false) ∧
      (s.panel.flip = none → t.panel.expected = s.panel.expected ∧ t.reg K.frontBuffer = s.reg K.frontBuffer) ∧
      ∀ w : Fin 4, s.reg (K.windowEnable w) ≠ 1 → t.panel.windows.get VideoWindow.init w = VideoWindow.init) ∧
  (∀ s : State, s.composing = false → Idles .frameLatch s) ∧
  (∀ (s : State) (slot : Fin 16) (d : Bytes),
    Writes (.uiRectWrite slot d) s slot 0x6403 0 d uiRectRule fun t =>
      ∀ k, k + 12 < d.length →
        t.panel.mem.get none (uiBase (fieldU d 8 1) + 3 * ((fieldU d 2 2 + k / 3 / fieldU d 4 2) * s.regN K.hActive + fieldU d 0 2 +
          k / 3 % fieldU d 4 2) + k % 3) = some (d.getD (12 + k) 0).toNat) ∧
  (∀ (s : State) (slot : Fin 16) (v : BitVec 64),
    Writes (.uiFlip slot v) s slot 0x6402 0 (leBytes 8 v.toNat) uiFlipRule fun t =>
      (s.reg K.panelState = panelRunning →
        t.panel.flip = some ⟨s.regN K.nextJournalSeq, fieldU (leBytes 8 v.toNat) 0 1, fieldU (leBytes 8 v.toNat) 4 4⟩ ∧
        t.flag K.displayFlags 4 = true ∧ t.reg K.frontBuffer = s.reg K.frontBuffer) ∧
      (s.reg K.panelState ≠ panelRunning →
        t.panel.flip = none ∧ t.reg K.frontBuffer = (fieldU (leBytes 8 v.toNat) 0 1 : Nat) ∧
        t.panel.expected = fieldU (leBytes 8 v.toNat) 4 4)) ∧
  (∀ (s : State) (slot : Fin 16) (d : Bytes),
    Writes (.uniformityMap slot d) s slot 0x6404 0 d uniformityRule fun t =>
      (s.reg K.panelState = panelRunning → t.panel.settings = s.panel.settings ++ [⟨0x6404, 0, d, s.regN K.nextJournalSeq⟩] ∧
        t.blob K.uniformityMap = s.blob K.uniformityMap) ∧
      (s.reg K.panelState ≠ panelRunning → t.blob K.uniformityMap = d)) ∧
  (∀ (s : State) (slot : Fin 16) (ok : Bool), s.reg K.panelEnable ≠ 1 →
    Writes (.panelPowerUp slot true ok) s slot 0x6400 1 [1] panelEnableRule fun t =>
      t.reg K.panelEnable = 1 ∧ t.reg K.panelState = panelPoweringUp ∧ t.panel.upFrom = some s.tick ∧
      t.panel.upItem = s.regN K.nextJournalSeq ∧ t.flag K.displayFlags 2 = false ∧ t.flag K.displayFlags 3 = false) ∧
  (∀ (s : State) (slot : Fin 16) (t0 : Nat), s.panel.upFrom = some t0 → t0 + ticksMs 200 ≤ s.tick →
    Runs (.panelPowerUp slot false true) s fun t => t.reg K.panelState = panelRunning ∧ t.panel.upFrom = none) ∧
  (∀ (s : State) (slot : Fin 16) (t0 : Nat), s.panel.upFrom = some t0 → s.reg K.panelState = panelPoweringUp →
    Runs (.panelPowerUp slot false false) s fun t =>
      t.reg K.panelState = panelPoweringDown ∧ t.panel.downFault = true ∧ t.flag K.displayFlags 2 = true) ∧
  (∀ (s : State) (slot : Fin 16), s.reg K.panelEnable ≠ 0 → s.reg K.panelState = panelRunning →
    Writes (.panelPowerDown slot true) s slot 0x6400 1 [0] panelEnableRule fun t =>
      t.reg K.panelState = panelPoweringDown ∧ t.panel.flip = none ∧ t.panel.downFrom = some s.tick ∧ t.panel.downFault = false) ∧
  (∀ (s : State) (slot : Fin 16) (t0 : Nat), s.panel.downFrom = some t0 → t0 + ticksMs 10 ≤ s.tick →
    Runs (.panelPowerDown slot false) s fun t =>
      t.reg K.panelState = (if s.panel.downFault then panelFault else panelOff) ∧ t.panel.downFrom = none ∧ t.reg K.frameRate = 0) ∧
  (∀ (s : State) (k : Fin 4) (mv : BitVec 16) (held : Nat), s.panelOn = true → s.railOn (biasRail k) = true →
    absI (s.biasSetting k) < 10 * absI (mv.toInt - s.biasSetting k) → ticksMs 10 ≤ held →
    Runs (.biasFault k mv held) s fun t =>
      t.reg K.panelState = panelPoweringDown ∧ t.panel.downFault = true ∧ t.flag K.displayFlags 2 = true) ∧
  (∀ (s : State) (k : Fin 4) (mv : BitVec 16) (held : Nat),
    10 * absI (mv.toInt - s.biasSetting k) ≤ absI (s.biasSetting k) →
    Runs (.biasFault k mv held) s fun t => t.reg (K.biasMeasured k) = mv.toInt ∧ t.panel = s.panel ∧ t.reg K.panelState = s.reg K.panelState) ∧
  (∀ s : State, s.panelOn = true ∨ s.reg K.panelState = panelPoweringDown →
    Runs .vddOvercurrent s fun t =>
      t.reg K.panelState = panelPoweringDown ∧ t.panel.downFault = true ∧ t.panel.vddCut = true ∧ t.flag K.displayFlags 3 = true) ∧
  (∀ (s : State) (c : Nat × Bytes), s.tag.writing = none → s.tag.waiting = some c → s.reg K.tagReservoir = 1 →
    Runs .tagUpdate s fun t =>
      t.tag.writing = some c ∧ t.tag.waiting = none ∧ t.tag.phaseFrom = some s.tick ∧ t.reg K.tagMarker = 1 ∧ t.tag.shown = s.tag.shown) ∧
  (∀ (s : State) (c : Nat × Bytes), s.tag.writing = some c → s.reg K.tagMarker = 1 → s.tagPhaseDue (ticksMs 600) = true →
    Runs .tagPhaseEnd s fun t => t.reg K.tagMarker = 2 ∧ t.tag = s.tag) ∧
  (∀ (s : State) (c : Nat × Bytes), s.tag.writing = some c → s.reg K.tagMarker = 2 → s.tagPhaseDue (ticksMs 1500) = true →
    Runs .tagPhaseEnd s fun t =>
      t.reg K.tagMarker = 0 ∧ t.tag.writing = none ∧ t.tag.shown = c.2 ∧ t.reg K.tagRecordSeq = (c.1 : Nat) ∧
      t.reg K.tagLastUpdate = (s.now : Nat)) ∧
  (∀ (s : State) (cut : Bool), s.tag.checked = false → s.reg K.powerState ≠ 0 → (cut = true ∨ s.reg K.tagMarker = 0) →
    Runs (.tagStartupCheck cut) s fun t =>
      t.tag.checked = true ∧ t.reg K.tagMarker = 0 ∧
      (s.tagRecords = [] → t.tag.waiting = some (0, s.tagIdentity)) ∧
      ∀ r, s.tagRecords = [r] →
        ((cut = true ∨ s.regN K.tagRecordSeq ≠ r.seq) →
          t.tag.waiting = some (r.seq, r.payload) ∧ t.reg K.tagRewrites = (s.bump K.tagRewrites).reg K.tagRewrites) ∧
        ((cut = false ∧ s.regN K.tagRecordSeq = r.seq) → t.tag.waiting = s.tag.waiting)) ∧
  (∀ s : State, s.reg K.tagReservoir = 0 → ticksS 20 ≤ s.tick → Runs .tagReservoirReady s fun t => t.reg K.tagReservoir = 1) ∧
  (∀ (s : State) (silent : Bool), s.reg K.tagReservoir ≠ 2 → (silent = true ∨ s.reg K.tagReservoir = 0 ∧ ticksS 60 ≤ s.tick) →
    Runs (.tagReservoirFault silent) s fun t => t.reg K.tagReservoir = 2 ∧ t.flag K.displayFlags 5 = true)

/-! ### Temperatures and fans (19_thermal_and_fans.md) -/

/-- Zones, fans and the thermal shutdown output (R523-R532, R534, R535). A zone takes its reading every 100 ms and shows its demand, or FailDemand with its flag while the source fails; comparator and zones assert and
release their cause. A stretch window opens and its measurement sets FanSpeed and FanDuty; a start that times out is tried again after 10 s, five times; a lost tach is open loop while the ripple shows rotation;
FanRestart and FanEnable start the fan at its demand, and disabling stops it. -/
def Obligations.ZonesAndFansTakeEffect : Prop :=
  (∀ (s : State) (z : Fin 8) (temp : BitVec 16) (failed : Bool), s.reg (K.zoneEnable z) = 1 → (s.zone z).lastStep + ticksMs 100 ≤ s.tick →
    (∀ f : Fin 8, s.regN (K.fanChannel f) < 48) →
    Runs (.zoneStep z temp failed) s fun t =>
      (t.zone z).lastStep = s.tick ∧
      ((if s.reg (K.zoneSource z) = 6 then s.ainFault (s.regN (K.zoneSelect z)) else failed) = true →
        t.reg (K.zoneDemand z) = s.reg (K.failDemand z) ∧ t.flag (K.zoneFlags z) 0 = true ∧
        t.reg (K.zoneTemperature z) = s.reg (K.zoneTemperature z)) ∧
      ((if s.reg (K.zoneSource z) = 6 then s.ainFault (s.regN (K.zoneSelect z)) else failed) = false →
        t.reg (K.zoneTemperature z) = (if s.reg (K.zoneSource z) = 6 then s.reg (K.ainValue (s.regN (K.zoneSelect z))) else temp.toInt) ∧
        t.flag (K.zoneFlags z) 0 = false ∧ (s.reg (K.zoneSource z) = 1 → t.reg K.boardTemperature = temp.toInt) ∧
        ∃ th, (t.zone z).th = some th ∧ t.reg (K.zoneDemand z) = s.demandAt z th)) ∧
  (∀ (s : State) (temp : BitVec 16), s.comparatorOn = false → Idles (.comparator temp) s) ∧
  (∀ s : State, s.power.phase = .up → s.comparatorOn = true) ∧
  (∀ (s : State) (temp : BitVec 16), s.comparatorOn = true →
    Runs (.comparator temp) s fun t =>
      (10 * s.reg K.strapThreshold ≤ temp.toInt → t.flag K.shdnCause 0 = true ∧ t.reg K.shdnState = 1) ∧
      (temp.toInt ≤ 10 * s.reg K.strapThreshold - 100 → t.flag K.shdnCause 0 = false ∧
        t.reg K.shdnState = b2i (t.reg K.shdnCause != 0)) ∧
      (temp.toInt < 10 * s.reg K.strapThreshold → 10 * s.reg K.strapThreshold - 100 < temp.toInt → t = s)) ∧
  (∀ (s : State) (z : Nat), z ∈ s.shdnZones → s.heldFor (s.zone z).atLimit (ticksS 1) = true →
    Runs .zoneShutdown s fun t => t.flag K.shdnCause 1 = true ∧ t.reg K.shdnState = 1 ∧ t.flag (K.zoneFlags z) 1 = true) ∧
  (∀ s : State, s.flag K.shdnCause 1 = true →
    (∀ z ∈ s.shdnZones, s.heldFor (s.zone z).atLimit (ticksS 1) = false ∧ s.heldFor (s.zone z).belowFrom (ticksS 10) = true) →
    Runs .zoneShutdown s fun t => t.flag K.shdnCause 1 = false ∧ ∀ z : Fin 8, t.flag (K.zoneFlags z) 1 = false) ∧
  (∀ (s : State) (f : Fin 8), s.hasTach f = true → s.fanTurns f = true → (s.fan f).window = none →
    (s.fan f).lastWindow + ticksMs (s.regN (K.fanStretchInterval f)) ≤ s.tick → s.regN (K.fanChannel f) < 48 →
    Runs (.fanStretchStart f) s fun t =>
      (t.fan f).window = some s.tick ∧ (t.fan f).lastWindow = s.tick ∧ t.reg (K.fanDuty f) = s.reg (K.fanDuty f) ∧
      (s.reg (K.fanDuty f) ≠ 1000 → t.flag (K.fanFlags f) 2 = true ∧
        (s.reg (K.lsState (s.regN (K.fanChannel f))) ≠ lsDisabled → t.reg (K.commandedDuty (s.regN (K.fanChannel f))) = 1000))) ∧
  (∀ (s : State) (f : Fin 8) (edges : Nat) (interval : BitVec 32) (t0 : Nat), (s.fan f).window = some t0 →
    t0 + ticksMs (s.regN (K.fanStretchLength f)) ≤ s.tick → s.regN (K.fanChannel f) < 48 →
    Runs (.fanMeasurement f edges interval) s fun t =>
      (t.fan f).window = none ∧ t.flag (K.fanFlags f) 2 = false ∧
      (edges < 2 → (t.fan f).missed = (s.fan f).missed + 1 ∧ t.reg (K.fanSpeed f) = s.reg (K.fanSpeed f)) ∧
      (2 ≤ edges → interval ≠ 0 →
        t.reg (K.fanSpeed f) = min 65535 (60 * 10 ^ 9 / (interval.toNat * s.regN (K.fanPulsesPerTurn f)) : Nat) ∧
        t.reg (K.fanState f) = fanRunning ∧ t.flag (K.fanFlags f) 0 = false ∧ (t.fan f).missed = 0 ∧
        t.reg (K.fanDuty f) = clampI (s.reg (K.fanDutyMin f)) 1000 (s.reg (K.fanDuty f) + s.reg (K.fanLoopGain f) *
          ((((s.reg (K.fanDemand f) * s.reg (K.fanMaxSpeed f)).tdiv 1000) - t.reg (K.fanSpeed f)) * 1000).tdiv (s.reg (K.fanMaxSpeed f)) / 65536))) ∧
  (∀ (s : State) (f : Fin 8), s.reg (K.fanState f) = fanStarting → ticksMs (s.regN (K.fanStartTime f)) ≤ (s.fan f).spent →
    s.regN (K.fanChannel f) < 48 →
    Runs (.fanStartTimeout f) s fun t =>
      t.reg (K.fanDuty f) = 0 ∧ (s.reg (K.fanTries f) < 5 → t.reg (K.fanState f) = fanRetryWait) ∧
      (5 ≤ s.reg (K.fanTries f) → t.reg (K.fanState f) = fanStalled ∧ t.flag (K.fanFlags f) 1 = true)) ∧
  (∀ (s : State) (f : Fin 8), s.reg (K.fanState f) = fanRetryWait → ticksS 10 ≤ (s.fan f).spent → s.regN (K.fanChannel f) < 48 →
    Runs (.fanRetryWaitEnd f) s fun t =>
      (s.reg (K.fanDemand f) = 0 → t.reg (K.fanState f) = fanIdle) ∧
      (s.reg (K.fanDemand f) ≠ 0 → t.reg (K.fanTries f) = s.reg (K.fanTries f) + 1 ∧
        t.reg (K.fanState f) = (if s.fanPermitted f then (if s.hasTach f then fanStarting else fanOpenLoop) else fanHeld))) ∧
  (∀ (s : State) (f : Fin 8) (ripple : BitVec 16), s.reg (K.fanState f) = fanRunning → 2 ≤ (s.fan f).missed → s.regN (K.fanChannel f) < 48 →
    Runs (.tachLost f ripple) s fun t =>
      (s.regN (K.fanRippleMin f) ≤ ripple.toNat → t.flag (K.fanFlags f) 0 = true ∧ t.reg (K.fanState f) = fanOpenLoop ∧
        t.reg (K.fanDuty f) = s.openDuty f) ∧
      (ripple.toNat < s.regN (K.fanRippleMin f) →
        t.reg (K.fanDuty f) = 0 ∧ t.reg (K.fanState f) = (if 5 ≤ s.reg (K.fanTries f) then fanStalled else fanRetryWait))) ∧
  (∀ (s : State) (slot : Fin 16) (f : Fin 8) (v : BitVec 8), s.regN (K.fanChannel f) < 48 →
    Writes (.fanRestart slot f v) s slot (0x4C20 + f) 0x0F (leBytes 1 v.toNat) (fanRestartRule f) fun t =>
      (s.reg (K.fanState f) ≠ fanStalled → t.reg (K.fanState f) = s.reg (K.fanState f) ∧ t.reg (K.fanTries f) = 0) ∧
      (s.reg (K.fanState f) = fanStalled → s.reg (K.fanEnable f) = 1 →
        t.flag (K.fanFlags f) 1 = false ∧ t.reg (K.fanDemand f) = s.demandOf f ∧
        t.reg (K.fanState f) = (if s.demandOf f = 0 then fanIdle
          else if s.fanPermitted f then (if s.hasTach f then fanStarting else fanOpenLoop) else fanHeld))) ∧
  (∀ (s : State) (slot : Fin 16) (f : Fin 8), s.reg (K.fanEnable f) ≠ 1 → s.regN (K.fanChannel f) < 48 →
    Writes (.fanEnable slot f 1) s slot (0x4C20 + f) 1 [1] (fanEnableRule f) fun t =>
      t.reg (K.fanEnable f) = 1 ∧ t.reg (K.fanDemand f) = s.demandOf f ∧
      t.reg (K.fanState f) = (if s.demandOf f = 0 then fanIdle
        else if s.fanPermitted f then (if s.hasTach f then fanStarting else fanOpenLoop) else fanHeld)) ∧
  (∀ (s : State) (slot : Fin 16) (f : Fin 8), s.reg (K.fanEnable f) ≠ 0 → s.regN (K.fanChannel f) < 48 →
    Writes (.fanEnable slot f 0) s slot (0x4C20 + f) 1 [0] (fanEnableRule f) fun t =>
      t.reg (K.fanEnable f) = 0 ∧ t.reg (K.fanState f) = fanDisabled ∧ t.reg (K.fanDuty f) = 0 ∧ t.reg (K.fanDemand f) = 0 ∧
      t.reg (K.fanFlags f) = 0)

/-! ### Power and start (20_power_and_startup.md) -/

/-- Supply, standby, resets and the start (R90, R538, R539, R541-R546, R548, R550, R552, R555, R564). The supply's flags follow its voltage; brownout flushes the journal and puts the module off until its next start; overvoltage puts
every power stage in safe off, and its end lets the loads switch on again; WAKE and CAN wake the module or let it enter standby; a watchdog or commanded reset is followed by the start of its kind; a start runs the image of secure boot,
the recovery loader without one, and nothing when the island fails. -/
def Obligations.PowerEventsTakeEffect : Prop :=
  (∀ (s : State) (mV : Nat), s.isUp = true →
    Runs (.logicSupplyLow mV) s fun t =>
      t.reg K.logicSupply = (min 65535 mV : Nat) ∧ t.reg K.supplyMin = min (s.reg K.supplyMin) (min 65535 mV : Nat) ∧
      (mV < 9000 → t.flag K.powerFlags 0 = true) ∧ (9500 ≤ mV → t.flag K.powerFlags 0 = false) ∧
      (9000 ≤ mV → mV < 9500 → t.flag K.powerFlags 0 = s.flag K.powerFlags 0)) ∧
  (∀ (s : State) (mV : Nat), s.isUp = true → mV < 6000 →
    Runs (.holdupActive mV) s fun t =>
      t.flag K.powerFlags 0 = true ∧ t.flag K.powerFlags 1 = true ∧ t.power.holdFrom = some (s.power.holdFrom.getD s.tick) ∧
      t.reg K.logicSupply = (mV : Nat)) ∧
  (∀ (s : State) (mV : Nat), s.isUp = true → 6000 ≤ mV → s.flag K.powerFlags 1 = true → s.brownoutNow false = false →
    Runs (.holdupEnd mV) s fun t => t.flag K.powerFlags 1 = false ∧ t.power.holdFrom = none ∧ t.power.phase = .up) ∧
  (∀ (s : State) (reserve : Bool) (level : Fin 101), s.isUp = true → s.brownoutNow reserve = true →
    Runs (.brownout reserve level) s fun t =>
      t.power.phase = .off ∧ t.power.start = some ⟨.supplyLoss, 4, 0xFF⟩ ∧ t.flag K.powerFlags 5 = true ∧
      (s.reg K.powerState ≠ 0 → t.jr.accepting = false ∧ t.book.closed = true ∧ t.jr.savedTime = s.now)) ∧
  (∀ (s : State) (mV held : Nat), s.isUp = true → 38000 < mV → ticksUs 100 ≤ held → s.flag K.powerFlags 2 = false →
    Runs (.overvoltage mV held) s fun t =>
      t.flag K.powerFlags 2 = true ∧ t.flag K.powerFlags 5 = true ∧ t.reg K.engineState = 1 ∧
      (∀ ch : Fin 32, t.reg (K.svState ch) ≠ svRunning) ∧ (∀ n : Fin 48, t.lsConducts n = false) ∧
      t.reg K.overvoltageEvents = (s.bump K.overvoltageEvents).reg K.overvoltageEvents) ∧
  (∀ (s : State) (mV held : Nat), s.isUp = true → mV < 36000 → ticksMs 100 ≤ held → s.flag K.powerFlags 2 = true →
    Runs (.overvoltageClear mV held) s fun t =>
      t.flag K.powerFlags 2 = false ∧ t.flag K.powerFlags 5 = false ∧ t.reg K.engineState = 0 ∧
      ∀ n : Fin 48, s.reg (K.lsState n) = lsOff → 0 < s.reg (K.commandedDuty n) → t.lsConducts n = true) ∧
  (∀ (s : State) (held : Nat), ticksMs 10 ≤ held → (s.power.phase = .sealedStandby ∨ s.power.phase = .listening) → s.power.start = none →
    Runs (.wakePin true held) s fun t => t.power.start = some ⟨.standbyWake, 1, 0xFF⟩ ∧ t.power.phase = s.power.phase) ∧
  (∀ (s : State) (active : Bool) (held : Nat), ticksMs 10 ≤ held → s.isUp = true →
    Runs (.wakePin active held) s fun t =>
      t.flag K.powerFlags 4 = active ∧
      (active = true → t.power.inactiveFrom = none ∧ t.power.entry = none ∧
        t.reg K.powerState = (if s.reg K.powerState = 2 then 1 else s.reg K.powerState)) ∧
      (active = false → t.power.inactiveFrom = some (s.power.inactiveFrom.getD s.tick) ∧ t.reg K.powerState = s.reg K.powerState)) ∧
  (∀ s : State, s.isUp = true → s.reg K.powerState = 1 → s.heldFor s.power.inactiveFrom (ticksMs (s.regN K.wakeOffDelay)) = true →
    Runs .wakeOffDelay s fun t => t.reg K.powerState = 2 ∧ t.power.entry = some s.tick) ∧
  (∀ s : State, s.isUp = true → s.power.entry.isSome = true → (s.jr.items = [] ∨ s.heldFor s.power.entry (ticksS 5) = true) →
    Runs .standbyEntryWaitEnd s fun t =>
      (t.power.phase = .listening ∨ t.power.phase = .sealedStandby) ∧ t.power.start = none ∧ t.power.entry = none ∧
      t.reg K.powerState = 0 ∧ t.book.closed = true) ∧
  (∀ (s : State) (p : Fin 6), s.power.phase = .listening → s.power.start = none → s.reg (K.canPortEnable p) = 1 → s.reg (K.wakeMode p) = 1 →
    Runs (.canWake p none) s fun t => t.power.start = some ⟨.standbyWake, 2, p⟩) ∧
  (∀ (s : State) (p : Fin 6) (id : BitVec 32) (d : Bytes), s.power.phase = .listening → s.power.start = none → s.reg (K.canPortEnable p) = 1 →
    s.reg (K.wakeMode p) = 2 → s.wakeFrame p id.toNat d = true →
    Runs (.canWake p (some (id, d))) s fun t => t.power.start = some ⟨.standbyWake, 3, p⟩) ∧
  (∀ s : State, s.isUp = true →
    Runs .watchdog s fun t =>
      t.power.phase = .off ∧ t.power.start = some ⟨.watchdog, 0, 0xFF⟩ ∧ t.reg K.powerState = 0 ∧ t.flag K.powerFlags 5 = true ∧
      t.jr.savedTime = s.jr.savedTime) ∧
  (∀ (s : State) (slot : Fin 16) (v : BitVec 8),
    Writes (.moduleReset slot v) s slot 0x2011 0 (leBytes 1 v.toNat) moduleResetRule fun t =>
      s.sectionsOff = true ∧ t.power.phase = .off ∧ t.power.start = some ⟨.commanded, 0, 0xFF⟩ ∧ t.jr.accepting = false ∧
      t.book.closed = true ∧ t.flag K.powerFlags 5 = true ∧ t.jr.savedTime = s.now) ∧
  (∀ (s : State) (b : Boot), s.power.phase ≠ .up → 6000 ≤ b.mV.toNat → (b.supply = true ∨ s.power.start.isSome = true) →
    Runs (.startUp b) s fun t =>
      (b.island = false → t.power.phase = .off ∧ t.power.start = none) ∧
      (b.island = true → t.power.phase = .up ∧ t.power.start = none ∧ t.tick = 0 ∧ t.keys = s.keys ∧ t.jr.accepting = true) ∧
      (b.island = true → (s.selectImage b).image = none →
        t.reg K.securityState = 1 ∧ t.flag K.securityFlags 0 = true ∧ (t.sess 0).isOpen = true ∧ t.serves = true))

/-! ### Security (21_security.md) -/

/-- Roles, keys and the island (R556-R560, R565-R568, R573). A challenge is drawn for 30 s and serves one response; a right response raises the session's role, a wrong one is refused and counted against its source; AuthDrop and the expiry of
challenge and lockout take effect; a key record installs or revokes its slot, and a revoked key's sessions fall back to OBSERVER; KeyStoreClear empties the store; FleetKeyGenerate makes a new key; a glitch holds the island for 10 ms. -/
def Obligations.IslandTakesEffect : Prop :=
  (∀ (s : State) (slot : Fin 16) (role : BitVec 8),
    Writes (.authChallengeRequest slot role) s slot 0x2110 0 (leBytes 1 role.toNat) challengeRule fun t =>
      (∃ c, t.challenge slot = some c ∧ c.role = role.toNat ∧ c.generation = (s.sess slot).generation ∧ c.expires = s.tick + ticksS 30 ∧
        c.value.length = 32) ∧ (t.sess slot).role = (s.sess slot).role) ∧
  (∀ (s : State) (slot : Fin 16) (d : Bytes) (c : Challenge), s.validChallenge slot = some c →
    Writes (.authResponse slot d) s slot 0x2112 0 d authResponseRule fun t =>
      (t.sess slot).role = c.role ∧ (t.sess slot).raisedKey = fieldU d 0 1 ∧ t.challenge slot = none ∧
      (t.failsOf (s.sess slot).sourceId).fails = 0) ∧
  (∀ (s : State) (slot : Fin 16) (d : Bytes), s.serves = true → (s.sess slot).isOpen = true → s.reg K.busyState ≠ 1 →
    (s.heard slot).checkWrite slot ⟨0x2112, 0, 0, d⟩ authResponseRule = some .authFailed →
    Runs (.authResponse slot d) s fun t =>
      t.challenge slot = none ∧ (t.sess slot).role = (s.sess slot).role ∧
      (t.failsOf (s.sess slot).sourceId).fails = (s.failsOf (s.sess slot).sourceId).fails + 1 ∧
      t.reg K.authFailures = (s.bump K.authFailures).reg K.authFailures) ∧
  (∀ (s : State) (slot : Fin 16) (v : BitVec 8),
    Writes (.authDrop slot v) s slot 0x2113 0 (leBytes 1 v.toNat) authDropRule fun t =>
      (t.sess slot).role = 0 ∧ (t.sess slot).raisedKey = 0 ∧ (t.sess slot).isOpen = true) ∧
  (∀ (s : State) (slot : Fin 16) (c : Challenge), s.challenge slot = some c →
    Runs (.challengeExpiry slot) s fun t =>
      t.challenge slot = (if c.expires ≤ s.tick then none else some c) ∧ t.regs = s.regs) ∧
  (∀ s : State,
    Runs .lockoutExpiry s fun t =>
      (∀ x ∈ t.island.sources, x.until_ = 0 ∨ s.tick < x.until_) ∧
      (∀ x ∈ s.island.sources, s.tick < x.until_ → x ∈ t.island.sources) ∧
      (s.island.lockedUntil ≤ s.tick → t.island.lockedUntil = 0 ∧ t.flag K.securityFlags 3 = false) ∧
      (s.tick < s.island.lockedUntil → t.island.lockedUntil = s.island.lockedUntil)) ∧
  (∀ s : State,
    Runs .lockoutTimeSave s fun t =>
      t.island.saved = s.island.sources.map (fun x => { x with until_ := x.until_ - s.tick }) ∧
      t.island.savedModule = s.island.lockedUntil - s.tick ∧ t.island.sources = s.island.sources) ∧
  (∀ (s : State) (slot : Fin 16) (d : Bytes), allZero (field d 24 97) = false →
    Writes (.keyInstall slot d) s slot 0x2120 0 d keyInstallRule fun t =>
      t.keySlot (fieldU d 3 1) = { state := 1, counter := fieldU d 20 4, installed := s.now, pub := field d 24 97 } ∧
      ∀ k, k ≠ fieldU d 3 1 → t.keySlot k = s.keySlot k) ∧
  (∀ (s : State) (slot : Fin 16) (head sig : Bytes),
    Writes (.keyRevoke slot head sig) s slot 0x2120 0 (padTo 24 head ++ zeros 100 ++ sig) keyInstallRule fun t =>
      t.keySlot (fieldU (padTo 24 head) 3 1) = { state := 2, counter := fieldU (padTo 24 head) 20 4, installed := s.now, pub := [] } ∧
      ∀ n : Fin 16, (s.sess n).isOpen = true → (s.sess n).raisedKey = fieldU (padTo 24 head) 3 1 →
        (t.sess n).role = 0 ∧ (t.sess n).raisedKey = 0 ∧ (t.sess n).isOpen = true) ∧
  (∀ (s : State) (slot : Fin 16) (v : BitVec 8),
    Writes (.keyStoreClear slot v) s slot 0x2121 0 (leBytes 1 v.toNat) keyStoreClearRule fun t =>
      (∀ k ∈ clearedKeys, t.keySlot k = KeySlot.init) ∧ t.island.fleetKey = false ∧ t.blob K.fleetCertificate = [] ∧
      t.blob K.fleetTrustAnchor = [] ∧ t.blob K.fleetPublicKey = blobDefault K.fleetPublicKey ∧
      t.reg K.canRoleCeiling = regDefault K.canRoleCeiling ∧ t.reg K.fleetRoleCeiling = regDefault K.fleetRoleCeiling ∧
      t.reg K.lockoutThreshold = regDefault K.lockoutThreshold ∧ t.reg K.lockoutTime = regDefault K.lockoutTime) ∧
  (∀ (s : State) (slot : Fin 16) (v : BitVec 8),
    Writes (.fleetKeyGenerate slot v) s slot 0x2150 1 (leBytes 1 v.toNat) fleetKeyRule fun t =>
      t.island.fleetKey = true ∧ t.blob K.fleetCertificate = [] ∧ (∃ p, t.blob K.fleetPublicKey = 4 :: p ∧ p.length = 96) ∧
      t.fresh = s.fresh + 1) ∧
  (∀ s : State,
    Runs .glitchDetected s fun t =>
      t.island.heldUntil = s.tick + ticksMs 10 ∧ s.tick ∈ t.island.glitches ∧ t.flag K.securityFlags 2 = true ∧ t.islandHeld = true ∧
      (3 ≤ (s.island.glitches.filter (fun g => decide (s.tick < g + ticksS 60))).length + 1 → t.reg K.securityState = 2))

/-! ### Frames: what a command leaves unchanged -/

/-- Each event named here changes the fields that its clause names, those of its own unit and mostly the dictionary entries, and nothing else: no other unit, no session, no module time and no command of the queue; the journal only
where a checkpoint or the end of an erase writes it. -/
def Obligations.EventsChangeOnlyTheirUnit : Prop :=
  (∀ c ∈ ([.axisSnapshot, .fuseSave, .moduleTimeSave] : List Instr), Changes c (fun s t => { s with jr := t.jr })) ∧
  (∀ p gears, Changes (.aphyLinkUp p gears) State.afterEvent) ∧
  (∀ n, Changes (.fallbackExit n) State.afterEvent) ∧
  (∀ ch mA held, Changes (.regLow ch mA held) State.afterEvent) ∧
  (∀ b mV, ∀ c ∈ ([.supplyLow b mV, .bankSupplyReturn b mV] : List Instr), Changes c State.afterEvent) ∧
  (∀ ch vPin iMean, Changes (.lampDuty ch vPin iMean) State.afterEvent) ∧
  (∀ ch temp, Changes (.thermalLatchClear ch temp) State.afterEvent) ∧
  (∀ ch, Changes (.retryWindow ch) State.afterEvent) ∧
  (∀ ch mA held, Changes (.openLoadOn ch mA held) State.afterEvent) ∧
  (∀ ch mV held, Changes (.openLoadOff ch mV held) State.afterEvent) ∧
  (∀ g mV, ∀ c ∈ ([.feedLow g mV, .feedReturn g mV] : List Instr), Changes c State.afterEvent) ∧
  (∀ n, Changes (.noEdges n) State.afterEvent) ∧
  (∀ cls n bit held, Changes (.inputFaultClear cls n bit held) State.afterEvent) ∧
  (∀ c ∈ ([.acquireTimeout, .tagReservoirReady] : List Instr), Changes c State.afterEvent) ∧
  (∀ mV, Changes (.logicSupplyLow mV) State.afterEvent) ∧
  (∀ p counter, Changes (.sofLatch p counter) (fun s t => { s with canPorts := t.canPorts })) ∧
  (∀ slot, Changes (.nonceExpiry slot) (fun s t => { s with nonces := t.nonces })) ∧
  (∀ c ∈ ([.stripClose, .poolClose] : List Instr), Changes c (fun s t => { s with yield := t.yield })) ∧
  (∀ p frame, Changes (.canWake p frame) (fun s t => { s with power := t.power })) ∧
  (∀ slot, Changes (.challengeExpiry slot) (fun s t => { s with challenges := t.challenges })) ∧
  Changes .lockoutTimeSave (fun s t => { s with island := t.island }) ∧
  (∀ n, ∀ c ∈ ([.hitchModelStep n, .hitchFallbackClear n] : List Instr),
      Changes c (fun s t => { s.afterEvent t with impls := t.impls })) ∧
  (∀ c element group value,
      Changes (.actualCondensedWorkState c element group value) (fun s t => { s with sections := t.sections, tc := t.tc })) ∧
  (∀ c ∈ ([.projectionFrame, .projectionOverrun, .stepFreeRun] : List Instr),
      Changes c (fun s t => { s.afterEvent t with fuse := t.fuse })) ∧
  (∀ port vc ty headerBad crcBad taken pixels,
      Changes (.imageLine port vc ty headerBad crcBad taken pixels) (fun s t => { s.afterEvent t with cams := t.cams })) ∧
  (∀ port vc ty payload, Changes (.embeddedDataLine port vc ty payload) (fun s t => { s.afterEvent t with cams := t.cams })) ∧
  Changes .memoryPassFrame (fun s t => { s.afterEvent t with cams := t.cams, vision := t.vision, fuse := t.fuse }) ∧
  (∀ o, Changes (.fsyncPeriodicPulse o) (fun s t => { s.afterEvent t with fsync := t.fsync })) ∧
  (∀ k busy, Changes (.encodePicture k busy) (fun s t => { s.afterEvent t with streams := t.streams, fresh := t.fresh })) ∧
  (∀ ch mA, ∀ c ∈ ([.stitchHold ch mA, .stitchRamp ch mA, .stitchFreewheel ch mA, .stitchClamp ch mA,
      .stitchHoldExt ch mA] : List Instr), Changes c (fun s t => { s.afterEvent t with sv := t.sv })) ∧
  (∀ ch, ∀ c ∈ ([.inrushEnd ch, .slewEnd ch] : List Instr), Changes c (fun s t => { s.afterEvent t with ls := t.ls })) ∧
  (∀ ch temp, Changes (.slewFallback ch temp) (fun s t => { s.afterEvent t with ls := t.ls })) ∧
  (∀ ch mA held, Changes (.overload ch mA held) (fun s t => { s.afterEvent t with ls := t.ls })) ∧
  (∀ mV held, Changes (.overvoltageClear mV held) (fun s t => { s.afterEvent t with ls := t.ls })) ∧
  (∀ n, ∀ c ∈ ([.acuImpact n, .grainRateUpdate n] : List Instr), Changes c (fun s t => { s.afterEvent t with acus := t.acus })) ∧
  (∀ n x, Changes (.acuSample n x) (fun s t => { s.afterEvent t with acus := t.acus })) ∧
  (∀ place pred inv a imm parityError, ∀ c ∈ ([.cellSend place pred inv a imm parityError,
      .bcast place pred inv a imm parityError] : List Instr), Changes c (fun s t => { s.afterEvent t with cells := t.cells, book := t.book })) ∧
  (∀ place pred inv, Changes (.handover place pred inv) (fun s t => { s with cells := t.cells, regions := t.regions })) ∧
  (∀ place pred inv a imm, Changes (.objwr place pred inv a imm) (fun s t => { s with cells := t.cells, regions := t.regions })) ∧
  (∀ p error, Changes (.detectDwell p error) (fun s t => { s.afterEvent t with canPorts := t.canPorts })) ∧
  (∀ p b, Changes (.cyclicSend p b) (fun s t => { s with canBufs := t.canBufs, canPorts := t.canPorts })) ∧
  (∀ p, Changes (.basicCycleStart p) (fun s t => { s with canBufs := t.canBufs, canPorts := t.canPorts })) ∧
  (∀ p id data capture,
      Changes (.transportProtocolMessage p id data capture) (fun s t => { s with canBufs := t.canBufs, canPorts := t.canPorts })) ∧
  (∀ p n, Changes (.slotWindowWithdraw p n) (fun s t => { s.afterEvent t with canBufs := t.canBufs })) ∧
  (∀ p d, Changes (.syncTransmit p d) (fun s t => { s.afterEvent t with net := t.net })) ∧
  (∀ p sub take, Changes (.txTimestamp p sub take) (fun s t => { s.afterEvent t with net := t.net })) ∧
  (∀ c ∈ ([.ppsEdge, .ppsLabelWindowEnd] : List Instr), Changes c (fun s t => { s.afterEvent t with net := t.net })) ∧
  (∀ n lease, Changes (.dhcpDiscovery n lease) (fun s t => { s.afterEvent t with net := t.net })) ∧
  (∀ p fcsOk f, Changes (.ethFrameIngress p fcsOk f) (fun s t => { s.afterEvent t with net := t.net })) ∧
  (∀ p number log, Changes (.signaling p number log) (fun s t => { s.afterEvent t with net := t.net })) ∧
  Changes .recordClearEraseEnd (fun s t => { s with jr := t.jr, book := t.book }) ∧
  Changes .lossUpdate (fun s t => { s.afterEvent t with yield := t.yield }) ∧
  (∀ c ∈ ([.statusPublish, .posPublish, .yieldPublish] : List Instr), Changes c (fun s t => { s.afterEvent t with fleet := t.fleet })) ∧
  (∀ c ∈ ([.tagUpdate, .tagPhaseEnd] : List Instr), Changes c (fun s t => { s.afterEvent t with tag := t.tag })) ∧
  (∀ cut, Changes (.tagStartupCheck cut) (fun s t => { s.afterEvent t with tag := t.tag })) ∧
  (∀ mV, ∀ c ∈ ([.holdupActive mV, .holdupEnd mV] : List Instr), Changes c (fun s t => { s.afterEvent t with power := t.power })) ∧
  (∀ active held, Changes (.wakePin active held) (fun s t => { s.afterEvent t with power := t.power })) ∧
  Changes .wakeOffDelay (fun s t => { s.afterEvent t with power := t.power }) ∧
  Changes .lockoutExpiry (fun s t => { s.afterEvent t with island := t.island }) ∧
  Changes .operatingTimeSave (fun s t => { s.afterEvent t with book := t.book }) ∧
  (∀ n x, Changes (.ainSample n x) (fun s t => { s.afterEvent t with ains := t.ains })) ∧
  (∀ n raw excitation, Changes (.brgSample n raw excitation) (fun s t => { s.afterEvent t with brgs := t.brgs })) ∧
  (∀ ax ay az wx wy wz, Changes (.imuSample ax ay az wx wy wz) (fun s t => { s.afterEvent t with imu := t.imu }))

/-- Each write command named here changes the sessions, the last response, the entries, the journal and the fields that its clause names, those of the unit that its entry belongs to and of what that unit drives, whether it is accepted
or refused; every other unit, module time and the queue stay. -/
def Obligations.WritesChangeOnlyTheirUnit : Prop :=
  (∀ slot n value, Changes (.axisEnable slot n value) (fun s t => { s.afterSetting t with axes := t.axes, cues := t.cues })) ∧
  (∀ slot value, Changes (.cueArm slot value) (fun s t => { s.afterWrite t with cues := t.cues })) ∧
  (∀ slot cue, Changes (.cueDisarm slot cue) (fun s t => { s.afterWrite t with cues := t.cues })) ∧
  (∀ slot n value, Changes (.delayLineWrite slot n value) (fun s t => { s.afterWrite t with lines := t.lines })) ∧
  (∀ slot n value, Changes (.lineEnable slot n value) (fun s t => { s.afterSetting t with lines := t.lines })) ∧
  (∀ slot n value, Changes (.sectionConfig slot n value) (fun s t => { s.afterSetting t with cues := t.cues, sections := t.sections })) ∧
  (∀ slot layers, Changes (.coverageClear slot layers) (fun s t => { s.afterWrite t with cov := t.cov, archive := t.archive })) ∧
  (∀ slot value, Changes (.boundaryMaskLoad slot value) (fun s t => { s.afterWrite t with cov := t.cov, archive := t.archive })) ∧
  (∀ slot value, Changes (.boundaryMaskClear slot value) (fun s t => { s.afterWrite t with cov := t.cov, archive := t.archive })) ∧
  (∀ slot value, ∀ c ∈ ([.fusionEnable slot value, .stopEnable slot value] : List Instr),
      Changes c (fun s t => { s.afterSetting t with ls := t.ls, fuse := t.fuse })) ∧
  (∀ slot value, Changes (.fusionReset slot value) (fun s t => { s.afterWrite t with fuse := t.fuse })) ∧
  (∀ slot value, Changes (.stopAcknowledge slot value) (fun s t => { s.afterWrite t with ls := t.ls, fuse := t.fuse })) ∧
  (∀ slot value, Changes (.inlineBypass slot value) State.afterSetting) ∧
  (∀ slot p value, Changes (.stitchProgramWrite slot p value) State.afterSetting) ∧
  (∀ slot r value, Changes (.regionPanels slot r value) (fun s t => { s.afterSetting t with cues := t.cues, regions := t.regions, slots := t.slots })) ∧
  (∀ slot p value, Changes (.scheduleMatrix slot p value) State.afterSetting) ∧
  (∀ slot p value, Changes (.isobusEnable slot p value) State.afterSetting) ∧
  (∀ slot n obj sub value, Changes (.correctionWrite slot n obj sub value) (fun s t => { s.afterSetting t with cams := t.cams })) ∧
  (∀ slot n value, Changes (.settingsCommit slot n value) (fun s t => { s.afterWrite t with cams := t.cams })) ∧
  (∀ slot k value, Changes (.streamEnable slot k value) (fun s t => { s.afterSetting t with streams := t.streams })) ∧
  (∀ slot n, ∀ c ∈ ([.ctxEnable slot n, .ctxDisable slot n] : List Instr),
      Changes c (fun s t => { s.afterSetting t with ctxs := t.ctxs })) ∧
  (∀ slot n mode, Changes (.ctxMode slot n mode) (fun s t => { s.afterSetting t with ctxs := t.ctxs })) ∧
  (∀ slot n sub value,
      Changes (.contextEntryWrite slot n sub value) (fun s t => { s.afterSetting t with ctxs := t.ctxs, caps := t.caps })) ∧
  (∀ slot n value, ∀ c ∈ ([.rehearsalStart slot n value, .rehearsalStop slot n value] : List Instr),
      Changes c (fun s t => { s.afterWrite t with ctxs := t.ctxs, caps := t.caps })) ∧
  (∀ slot n mask, Changes (.stickyClear slot n mask) State.afterWrite) ∧
  (∀ slot ch value, Changes (.svFaultClear slot ch value) State.afterWrite) ∧
  (∀ slot g value, Changes (.groupReconnect slot g value) State.afterWrite) ∧
  (∀ slot n value, Changes (.finZero slot n value) State.afterWrite) ∧
  (∀ slot value, Changes (.authDrop slot value) State.afterWrite) ∧
  (∀ slot ch program, Changes (.svCommandStart slot ch program) (fun s t => { s.afterWrite t with cues := t.cues, sv := t.sv })) ∧
  (∀ slot ch, Changes (.svCommandRelease slot ch) (fun s t => { s.afterWrite t with cues := t.cues, sv := t.sv })) ∧
  (∀ slot ch value, Changes (.svEnable slot ch value) (fun s t => { s.afterSetting t with cues := t.cues, sv := t.sv })) ∧
  (∀ slot ch value, Changes (.svSelfTest slot ch value) (fun s t => { s.afterWrite t with sv := t.sv })) ∧
  (∀ slot ch duty, Changes (.lsDuty slot ch duty) (fun s t => { s.afterSetting t with ls := t.ls })) ∧
  (∀ slot ch value, Changes (.lsFaultClear slot ch value) (fun s t => { s.afterWrite t with ls := t.ls, maint := t.maint })) ∧
  (∀ slot ch value, Changes (.lsEnable slot ch value) (fun s t => { s.afterSetting t with cues := t.cues, ls := t.ls })) ∧
  (∀ slot n value, Changes (.brgTareCommand slot n value) (fun s t => { s.afterWrite t with brgs := t.brgs })) ∧
  (∀ slot n value, Changes (.prickingLoad slot n value) (fun s t => { s.afterWrite t with slots := t.slots, fabric := t.fabric })) ∧
  (∀ slot n, Changes (.prickingDelete slot n) (fun s t => { s.afterWrite t with slots := t.slots })) ∧
  (∀ slot value, Changes (.sceneChange slot value) (fun s t => { s.afterWrite t with maint := t.maint, regions := t.regions })) ∧
  (∀ slot r, Changes (.sceneCancel slot r) (fun s t => { s.afterWrite t with cells := t.cells, regions := t.regions })) ∧
  (∀ slot place, Changes (.understudySwap slot place) (fun s t => { s.afterWrite t with maint := t.maint })) ∧
  (∀ slot value, ∀ c ∈ ([.inlinePathTest slot value, .firmwareConfirm slot value] : List Instr),
      Changes c (fun s t => { s.afterWrite t with maint := t.maint })) ∧
  (∀ slot value, Changes (.firmwareStage slot value) (fun s t => { s.afterWrite t with maint := t.maint })) ∧
  (∀ slot p b value, Changes (.canTxConfig slot p b value) (fun s t => { s.afterSetting t with canBufs := t.canBufs })) ∧
  (∀ slot p b value,
      Changes (.canTxData slot p b value) (fun s t => { s.afterWrite t with canBufs := t.canBufs, canPorts := t.canPorts })) ∧
  (∀ slot p, Changes (.canLoopTest slot p) (fun s t => { s.afterWrite t with canPorts := t.canPorts })) ∧
  (∀ slot value, Changes (.recordClearArm slot value) (fun s t => { s.afterWrite t with nonces := t.nonces, fresh := t.fresh })) ∧
  (∀ slot f, Changes (.archiveErase slot f) (fun s t => { s.afterWrite t with archive := t.archive })) ∧
  (∀ slot value, Changes (.rendezvousCancel slot value) (fun s t => { s.afterSetting t with fleet := t.fleet, rdv := t.rdv })) ∧
  (∀ slot value, Changes (.uiRectWrite slot value) (fun s t => { s.afterWrite t with panel := t.panel })) ∧
  (∀ slot value, Changes (.uiFlip slot value) (fun s t => { s.afterWrite t with panel := t.panel })) ∧
  (∀ slot value, Changes (.uniformityMap slot value) (fun s t => { s.afterSetting t with panel := t.panel })) ∧
  (∀ slot write, Changes (.panelPowerDown slot write) (fun s t => { s.afterSetting t with panel := t.panel, fresh := t.fresh })) ∧
  (∀ slot f value, Changes (.fanRestart slot f value) (fun s t => { s.afterWrite t with ls := t.ls, fans := t.fans })) ∧
  (∀ slot f value, Changes (.fanEnable slot f value) (fun s t => { s.afterSetting t with ls := t.ls, fans := t.fans })) ∧
  (∀ slot role,
      Changes (.authChallengeRequest slot role) (fun s t => { s.afterWrite t with challenges := t.challenges, fresh := t.fresh })) ∧
  (∀ slot value, Changes (.keyStoreClear slot value) (fun s t => { s.afterSetting t with keys := t.keys, island := t.island, book := t.book }))
end

