-- ==== Sys2Proof/Laws/Tab.lean ====
section
/-!
SUPPORT. The laws of sparse tables: a read after a write gives the value written at its own key and leaves every other key
alone, and a write keeps the canonical form.
-/
namespace Sys2Proof.Machine

variable {α : Type} [DecidableEq α]

omit [DecidableEq α] in
theorem cellsGet_drop_self (e : α) (k : Nat) (l : List (Nat × α)) : cellsGet e (cellsDrop k l) k = e := by
  induction l with
  | nil => rfl
  | cons c t ih =>
    obtain ⟨j, w⟩ := c
    by_cases h : j = k <;> simp_all [cellsDrop, cellsGet]

omit [DecidableEq α] in
theorem cellsGet_drop_ne (e : α) {k k' : Nat} (hk : k' ≠ k) (l : List (Nat × α)) :
    cellsGet e (cellsDrop k l) k' = cellsGet e l k' := by
  induction l with
  | nil => rfl
  | cons c t ih =>
    obtain ⟨j, w⟩ := c
    by_cases h : j = k
    · subst h
      simp_all [cellsDrop, cellsGet, Ne.symm hk]
    · by_cases h' : j = k' <;> simp_all [cellsDrop, cellsGet]

omit [DecidableEq α] in
theorem cellsGet_put_self (e : α) (k : Nat) (v : α) (l : List (Nat × α)) : cellsGet e (cellsPut k v l) k = v := by
  induction l with
  | nil => simp [cellsPut, cellsGet]
  | cons c t ih =>
    obtain ⟨j, w⟩ := c
    unfold cellsPut
    split
    · rename_i h
      have : j ≠ k := by omega
      simp [cellsGet, this, ih]
    · simp [cellsGet]

omit [DecidableEq α] in
theorem cellsGet_put_ne (e : α) {k k' : Nat} (hk : k' ≠ k) (v : α) (l : List (Nat × α)) :
    cellsGet e (cellsPut k v l) k' = cellsGet e l k' := by
  induction l with
  | nil => simp [cellsPut, cellsGet, Ne.symm hk]
  | cons c t ih =>
    obtain ⟨j, w⟩ := c
    unfold cellsPut
    split
    · simp [cellsGet, ih]
    · simp [cellsGet, Ne.symm hk]

/-- A read of the key that was written gives the value written. -/
@[simp] theorem cellsGet_set_self (d : α) (k : Nat) (v : α) (l : List (Nat × α)) : cellsGet d (cellsSet d k v l) k = v := by
  unfold cellsSet
  split
  · rename_i h
    rw [cellsGet_drop_self, h]
  · rw [cellsGet_put_self]

/-- A write leaves every other key alone. -/
theorem cellsGet_set_ne (d e : α) {k k' : Nat} (hk : k' ≠ k) (v : α) (l : List (Nat × α)) :
    cellsGet e (cellsSet d k v l) k' = cellsGet e l k' := by
  unfold cellsSet
  split
  · rw [cellsGet_drop_ne e hk]
  · rw [cellsGet_put_ne e hk, cellsGet_drop_ne e hk]

@[simp] theorem Tab.get_set_self (t : Tab α) (d : α) (k : Nat) (v : α) : (t.set d k v).get d k = v := by simp [Tab.get, Tab.set]

theorem Tab.get_set_ne (t : Tab α) (d e : α) {k k' : Nat} (hk : k' ≠ k) (v : α) : (t.set d k v).get e k' = t.get e k' := by
  simp [Tab.get, Tab.set, cellsGet_set_ne d e hk]

/-! The canonical form -/

theorem cellsOkFn_mono (d : Nat → α) {lo lo' : Nat} (h : lo' ≤ lo) (l : List (Nat × α)) (hl : cellsOkFn d lo l = true) :
    cellsOkFn d lo' l = true := by
  cases l with
  | nil => rfl
  | cons c t =>
    obtain ⟨j, v⟩ := c
    simp only [cellsOkFn, Bool.and_eq_true, decide_eq_true_eq] at hl ⊢
    exact ⟨⟨by omega, hl.1.2⟩, hl.2⟩

/-- Dropping entries keeps the canonical form of a register file. -/
theorem cellsOkFn_filter (d : Nat → α) (p : Nat × α → Bool) :
    ∀ (l : List (Nat × α)) (lo : Nat), cellsOkFn d lo l = true → cellsOkFn d lo (l.filter p) = true := by
  intro l
  induction l with
  | nil => intro lo _; rfl
  | cons c t ih =>
    intro lo h
    obtain ⟨j, w⟩ := c
    simp only [cellsOkFn, Bool.and_eq_true, decide_eq_true_eq] at h
    obtain ⟨⟨h1, h2⟩, h3⟩ := h
    rw [List.filter_cons]
    split
    · simp only [cellsOkFn, Bool.and_eq_true, decide_eq_true_eq]
      exact ⟨⟨h1, h2⟩, ih _ h3⟩
    · exact cellsOkFn_mono d (by omega) _ (ih _ h3)

theorem cellsOkFn_put (d : Nat → α) {k : Nat} {v : α} (hv : v ≠ d k) :
    ∀ (l : List (Nat × α)) (lo : Nat), lo ≤ k → (∀ c ∈ l, c.1 ≠ k) → cellsOkFn d lo l = true →
      cellsOkFn d lo (cellsPut k v l) = true := by
  intro l
  induction l with
  | nil =>
    intro lo hlo _ _
    simp [cellsPut, cellsOkFn, hlo, hv]
  | cons c t ih =>
    intro lo hlo hne h
    obtain ⟨j, w⟩ := c
    simp only [cellsOkFn, Bool.and_eq_true, decide_eq_true_eq] at h
    obtain ⟨⟨h1, h2⟩, h3⟩ := h
    have hj : j ≠ k := hne (j, w) (by simp)
    unfold cellsPut
    split
    · simp only [cellsOkFn, Bool.and_eq_true, decide_eq_true_eq]
      exact ⟨⟨h1, h2⟩, ih (j + 1) (by omega) (fun c hc => hne c (by simp [hc])) h3⟩
    · have hk : k + 1 ≤ j := by omega
      simp [cellsOkFn, hlo, hv, hk, h2, h3]

/-- A write keeps the canonical form of a register file. -/
theorem cellsOkFn_set (d : Nat → α) (k : Nat) (v : α) (l : List (Nat × α)) (h : cellsOkFn d 0 l = true) :
    cellsOkFn d 0 (cellsSet (d k) k v l) = true := by
  unfold cellsSet
  split
  · exact cellsOkFn_filter d _ l 0 h
  · rename_i hv
    refine cellsOkFn_put d hv _ 0 (by omega) ?_ (cellsOkFn_filter d _ l 0 h)
    intro c hc
    simp [cellsDrop] at hc
    exact hc.2

end Sys2Proof.Machine
end

