-- ==== Sys2Proof/Laws/Keeps.lean ====
section
/-!
SUPPORT. What every operation of the model keeps: the canonical form of the entries, the queue of commands, and that the counter
of free values never falls. The lemmas of the operations stand in the files KeepsOps*.lean, one for each definition.
-/
namespace Sys2Proof.Laws
open Sys2Proof Sys2Proof.Machine

/-- The entries are in canonical form, the queue is `q`, and at least `m` free values have been drawn. -/
structure Inv (q : List Instr) (m : Nat) (s : State) : Prop where
  canon : Canonical s
  queue : s.pending = q
  fresh : m ≤ s.fresh

/-- A command goes on, to a state with `Inv`. -/
def Goes (q : List Instr) (m : Nat) : Host.Outcome State Fault Refusal → Prop
  | .next t => Inv q m t
  | _ => False

/-- The effect and the refusal of a write rule keep `Inv`. -/
structure RuleOk (r : WriteRule) : Prop where
  effect : ∀ q m s slot seq d, Inv q m s → Inv q m (r.effect s slot seq d)
  refused : ∀ q m s slot a, Inv q m s → Inv q m (r.refused s slot a)

/-- Every rule that an option holds is kept. -/
def OptRuleOk (o : Option WriteRule) : Prop := ∀ r, o = some r → RuleOk r

variable {q : List Instr} {m : Nat} {s : State}

theorem Goes.next {t : State} (h : Inv q m t) : Goes q m (.next t) := h

theorem Goes.exists {o : Host.Outcome State Fault Refusal} (h : Goes q m o) : ∃ t, o = .next t ∧ Inv q m t := by
  cases o with
  | next t => exact ⟨t, rfl, h⟩
  | fault r => exact h.elim
  | refused r => exact h.elim

theorem Goes.ite {c : Prop} [Decidable c] {a b : Host.Outcome State Fault Refusal} (ha : Goes q m a) (hb : Goes q m b) :
    Goes q m (if c then a else b) := by
  split <;> assumption

theorem Inv.ite {c : Prop} [Decidable c] {a b : State} (ha : Inv q m a) (hb : Inv q m b) : Inv q m (if c then a else b) := by
  split <;> assumption

theorem Inv.foldl {α : Type} {f : State → α → State} (hf : ∀ s x, Inv q m s → Inv q m (f s x)) (l : List α) (h : Inv q m s) :
    Inv q m (l.foldl f s) := by
  induction l generalizing s with
  | nil => exact h
  | cons x t ih => exact ih (hf s x h)

/-- A fold whose accumulator carries the state as its first part. -/
theorem Inv.foldl_fst {α β : Type} {f : State × β → α → State × β} (hf : ∀ p x, Inv q m p.1 → Inv q m (f p x).1) (l : List α)
    {p : State × β} (h : Inv q m p.1) : Inv q m (l.foldl f p).1 := by
  induction l generalizing p with
  | nil => exact h
  | cons x t ih => exact ih (hf p x h)

theorem Inv.foldl_fst_mem {α β : Type} {f : State × β → α → State × β} (l : List α)
    (hf : ∀ p, ∀ x ∈ l, Inv q m p.1 → Inv q m (f p x).1) {p : State × β} (h : Inv q m p.1) : Inv q m (l.foldl f p).1 := by
  induction l generalizing p with
  | nil => exact h
  | cons x t ih => exact ih (fun p y hy => hf p y (List.mem_cons_of_mem _ hy)) (hf p x List.mem_cons_self h)

theorem Inv.foldl_snd {α β : Type} {f : β × State → α → β × State} (hf : ∀ p x, Inv q m p.2 → Inv q m (f p x).2) (l : List α)
    {p : β × State} (h : Inv q m p.2) : Inv q m (l.foldl f p).2 := by
  induction l generalizing p with
  | nil => exact h
  | cons x t ih => exact ih (hf p x h)

theorem RuleOk.ite {c : Prop} [Decidable c] {a b : WriteRule} (ha : RuleOk a) (hb : RuleOk b) : RuleOk (if c then a else b) := by
  split <;> assumption

theorem OptRuleOk.ite {c : Prop} [Decidable c] {a b : Option WriteRule} (ha : OptRuleOk a) (hb : OptRuleOk b) :
    OptRuleOk (if c then a else b) := by
  split <;> assumption

theorem OptRuleOk.none : OptRuleOk .none := by
  intro r h
  cases h

theorem OptRuleOk.some {r : WriteRule} (h : RuleOk r) : OptRuleOk (.some r) := by
  intro r' h'
  cases h'
  exact h

theorem OptRuleOk.get {o : Option WriteRule} {r : WriteRule} (h : OptRuleOk o) (e : o = .some r) : RuleOk r := h r e

theorem Inv.setReg (k : Nat) (v : Int) (h : Inv q m s) : Inv q m (s.setReg k v) :=
  ⟨⟨cellsOkFn_set regDefault k v _ h.canon.1, h.canon.2⟩, h.queue, h.fresh⟩

theorem Inv.setBlob (k : Nat) (v : Bytes) (h : Inv q m s) : Inv q m (s.setBlob k v) :=
  ⟨⟨h.canon.1, cellsOkFn_set blobDefault k v _ h.canon.2⟩, h.queue, h.fresh⟩

/-- A change of other fields keeps `Inv`: a record update of a state. -/
theorem Inv.mk' (h : Inv q m s)
    {x_sessions x_sdo x_lastReply x_lastSdo x_ifcPending x_jr x_clock x_net x_book x_nonces x_windows x_fleet x_axes x_cues
      x_lines x_deferred x_lastAct x_impls x_sections x_cov x_tc x_sv x_ls x_feeds x_maint x_canBufs x_canPorts x_ctxs
      x_caps x_ains x_fins x_acus x_brgs x_imu x_supplies x_aligns x_fuse x_cams x_fsync x_streams x_vision x_cells
      x_regions x_slots x_fabric x_keys x_challenges x_island x_yield x_archive x_rdv x_panel x_tag x_zones x_fans x_power} :
    Inv q m (State.mk s.regs s.blobs x_sessions x_sdo x_lastReply x_lastSdo x_ifcPending x_jr x_clock x_net x_book x_nonces
      x_windows x_fleet x_axes x_cues x_lines x_deferred x_lastAct x_impls x_sections x_cov x_tc x_sv x_ls x_feeds x_maint
      x_canBufs x_canPorts x_ctxs x_caps x_ains x_fins x_acus x_brgs x_imu x_supplies x_aligns x_fuse x_cams x_fsync
      x_streams x_vision x_cells x_regions x_slots x_fabric x_keys x_challenges x_island x_yield x_archive x_rdv x_panel
      x_tag x_zones x_fans x_power s.fresh s.pending) :=
  ⟨h.canon, h.queue, h.fresh⟩

/-- A draw of free values. -/
theorem Inv.drawn (h : Inv q m s)
    {x_sessions x_sdo x_lastReply x_lastSdo x_ifcPending x_jr x_clock x_net x_book x_nonces x_windows x_fleet x_axes x_cues
      x_lines x_deferred x_lastAct x_impls x_sections x_cov x_tc x_sv x_ls x_feeds x_maint x_canBufs x_canPorts x_ctxs
      x_caps x_ains x_fins x_acus x_brgs x_imu x_supplies x_aligns x_fuse x_cams x_fsync x_streams x_vision x_cells
      x_regions x_slots x_fabric x_keys x_challenges x_island x_yield x_archive x_rdv x_panel x_tag x_zones x_fans x_power} {n : Nat} (hn : s.fresh ≤ n) :
    Inv q m (State.mk s.regs s.blobs x_sessions x_sdo x_lastReply x_lastSdo x_ifcPending x_jr x_clock x_net x_book x_nonces
      x_windows x_fleet x_axes x_cues x_lines x_deferred x_lastAct x_impls x_sections x_cov x_tc x_sv x_ls x_feeds x_maint
      x_canBufs x_canPorts x_ctxs x_caps x_ains x_fins x_acus x_brgs x_imu x_supplies x_aligns x_fuse x_cams x_fsync
      x_streams x_vision x_cells x_regions x_slots x_fabric x_keys x_challenges x_island x_yield x_archive x_rdv x_panel
      x_tag x_zones x_fans x_power n s.pending) :=
  ⟨h.canon, h.queue, Nat.le_trans h.fresh hn⟩

end Sys2Proof.Laws
end

