-- ==== Sys2Proof/Laws/KeepsBase.lean ====
section
/-!
SUPPORT. What the shared operations keep: the log, the Fleet Book, the journal, requests and security (`Inv`), one lemma for each definition.
-/
namespace Sys2Proof.Laws
open Sys2Proof Sys2Proof.Machine

variable {q : List Instr} {m : Nat}

theorem keeps_setReg {s : State} {k v} (h : Inv q m s) : Inv q m (s.setReg k v) := h.setReg k v

theorem keeps_setBlob {s : State} {k v} (h : Inv q m s) : Inv q m (s.setBlob k v) := h.setBlob k v

theorem keeps_bumpBy {a0 : State} {a1 a2} (h_a0 : Inv q m a0) : Inv q m (State.bumpBy a0 a1 a2) := by
  unfold State.bumpBy
  with_reducible repeat' first | assumption | apply Inv.setReg

theorem keeps_bump {a0 : State} {a1} (h_a0 : Inv q m a0) : Inv q m (State.bump a0 a1) := by
  unfold State.bump
  with_reducible repeat' first | assumption | apply keeps_bumpBy

theorem keeps_setFlag {a0 : State} {a1 a2 a3} (h_a0 : Inv q m a0) : Inv q m (State.setFlag a0 a1 a2 a3) := by
  unfold State.setFlag
  with_reducible repeat' first | assumption | apply Inv.setReg

theorem keeps_draw {a0 : State} (h_a0 : Inv q m a0) : Inv q m (State.draw a0).2 := by
  unfold State.draw
  with_reducible repeat' first | assumption | fail_if_no_progress refine Inv.drawn ?_ (by omega)

theorem keeps_drawBytes {a0 : State} {a1} (h_a0 : Inv q m a0) : Inv q m (State.drawBytes a0 a1).2 := by
  unfold State.drawBytes
  with_reducible repeat' first | assumption | fail_if_no_progress refine Inv.drawn ?_ (by omega)

theorem keeps_publish {a0 : State} {a1} (h_a0 : Inv q m a0) : Inv q m (State.publish a0 a1) := by
  unfold State.publish
  with_reducible repeat'
    first
      | assumption | apply Inv.ite | apply Inv.setReg | apply keeps_bump | apply keeps_bumpBy
      | fail_if_no_progress apply Inv.mk'

theorem keeps_drainQueue {a0 : State} (h_a0 : Inv q m a0) : Inv q m (State.drainQueue a0) := by
  unfold State.drainQueue
  with_reducible repeat' first | assumption | apply Inv.setReg | apply keeps_bumpBy | fail_if_no_progress apply Inv.mk'

theorem keeps_alert {a0 : State} {a1} (h_a0 : Inv q m a0) : Inv q m (State.alert a0 a1) := by
  unfold State.alert
  with_reducible repeat' first | assumption | apply Inv.ite | apply keeps_publish

theorem keeps_noteFault {a0 : State} {a1 a2 a3 a4} (h_a0 : Inv q m a0) : Inv q m (State.noteFault a0 a1 a2 a3 a4) := by
  unfold State.noteFault
  with_reducible repeat' first | assumption | fail_if_no_progress apply Inv.mk'

theorem keeps_circulate {a0 : State} (h_a0 : Inv q m a0) : Inv q m (State.circulate a0) := by
  unfold State.circulate
  with_reducible repeat' first | assumption | apply Inv.ite | fail_if_no_progress apply Inv.mk'

theorem keeps_clearUpTo {a0 : State} {a1} (h_a0 : Inv q m a0) : Inv q m (State.clearUpTo a0 a1) := by
  unfold State.clearUpTo
  with_reducible repeat' first | assumption | fail_if_no_progress apply Inv.mk'

theorem keeps_admitRecord {a0 : State} {a1 a2 a3 a4 a5 a6} (h_a0 : Inv q m a0) : Inv q m (State.admitRecord a0 a1 a2 a3 a4 a5 a6) := by
  unfold State.admitRecord
  with_reducible repeat'
    first
      | assumption | apply Inv.ite | apply Inv.setReg | apply keeps_circulate | apply keeps_clearUpTo | apply keeps_noteFault
      | apply keeps_alert | fail_if_no_progress apply Inv.mk'

theorem keeps_suppress {a0 : State} {a1} (h_a0 : Inv q m a0) : Inv q m (State.suppress a0 a1) := by
  unfold State.suppress
  with_reducible repeat' first | assumption | apply Inv.setReg | apply keeps_bump | fail_if_no_progress apply Inv.mk'

theorem keeps_admitRec {a0 : State} {a1} (h_a0 : Inv q m a0) : Inv q m (State.admitRec a0 a1) := by
  unfold State.admitRec
  with_reducible repeat' first | assumption | apply keeps_admitRecord

theorem keeps_admitOffer {a0 : State} {a1} (h_a0 : Inv q m a0) : Inv q m (State.admitOffer a0 a1) := by
  unfold State.admitOffer
  with_reducible repeat'
    first
      | assumption | apply Inv.ite | apply Inv.setReg | apply keeps_suppress | apply keeps_admitRec | fail_if_no_progress apply Inv.mk'

theorem keeps_admitOffers {a0 : State} (h_a0 : Inv q m a0) : Inv q m (State.admitOffers a0) := by
  unfold State.admitOffers
  with_reducible repeat'
    first
      | assumption | apply keeps_admitOffer | fail_if_no_progress apply Inv.mk' | (refine Inv.foldl (fun _ _ _ => ?_) _ ?_)
      | (extract_lets +onlyGivenNames x; clear_value x) | split

theorem keeps_offerAt {a0 : State} {a1 a2 a3 a4 a5 a6} (h_a0 : Inv q m a0) : Inv q m (State.offerAt a0 a1 a2 a3 a4 a5 a6) := by
  unfold State.offerAt
  with_reducible repeat' first | assumption | apply Inv.ite | fail_if_no_progress apply Inv.mk'

theorem keeps_offer {a0 : State} {a1 a2 a3 a4} (h_a0 : Inv q m a0) : Inv q m (State.offer a0 a1 a2 a3 a4) := by
  unfold State.offer
  with_reducible repeat' first | assumption | apply keeps_offerAt

theorem keeps_event {a0 : State} {a1 a2 a3 a4 a5} (h_a0 : Inv q m a0) : Inv q m (State.event a0 a1 a2 a3 a4 a5) := by
  unfold State.event
  with_reducible repeat' first | assumption | apply keeps_offer

theorem keeps_eventKey {a0 : State} {a1 a2 a3 a4} (h_a0 : Inv q m a0) : Inv q m (State.eventKey a0 a1 a2 a3 a4) := by
  unfold State.eventKey
  with_reducible repeat' first | assumption | apply keeps_event

theorem keeps_setPslot {a0 : State} {a1 a2} (h_a0 : Inv q m a0) : Inv q m (State.setPslot a0 a1 a2) := by
  unfold State.setPslot
  with_reducible repeat' first | assumption | fail_if_no_progress apply Inv.mk'

theorem keeps_setRegion {a0 : State} {a1 a2} (h_a0 : Inv q m a0) : Inv q m (State.setRegion a0 a1 a2) := by
  unfold State.setRegion
  with_reducible repeat' first | assumption | fail_if_no_progress apply Inv.mk'

theorem keeps_jwrite {a0 : State} {a1} (h_a0 : Inv q m a0) : Inv q m (State.jwrite a0 a1) := by
  unfold State.jwrite
  with_reducible repeat' first | assumption | apply Inv.ite | fail_if_no_progress apply Inv.mk'

theorem keeps_allocSource {a0 : State} {a1} (h_a0 : Inv q m a0) : Inv q m (State.allocSource a0 a1) := by
  unfold State.allocSource
  with_reducible repeat' first | assumption | apply Inv.ite | fail_if_no_progress apply Inv.mk'

theorem keeps_updSource {a0 : State} {a1 a2} (h_a0 : Inv q m a0) : Inv q m (State.updSource a0 a1 a2) := by
  unfold State.updSource
  with_reducible repeat' first | assumption | fail_if_no_progress apply Inv.mk'

theorem keeps_accept {a0 : State} {a1 a2 a3 a4 a5 a6 a7 a8} (h_a0 : Inv q m a0) : Inv q m (State.accept a0 a1 a2 a3 a4 a5 a6 a7 a8) := by
  unfold State.accept
  with_reducible repeat'
    first
      | assumption | apply Inv.setReg | apply keeps_allocSource | apply keeps_updSource | apply keeps_jwrite
      | fail_if_no_progress apply Inv.mk'

theorem keeps_mapItem {a0 : State} {a1 a2} (h_a0 : Inv q m a0) : Inv q m (State.mapItem a0 a1 a2) := by
  unfold State.mapItem
  with_reducible repeat' first | assumption | fail_if_no_progress apply Inv.mk'

theorem keeps_startItem {a0 : State} {a1} (h_a0 : Inv q m a0) : Inv q m (State.startItem a0 a1) := by
  unfold State.startItem
  with_reducible repeat' first | assumption | apply keeps_mapItem

theorem keeps_finish {a0 : State} {a1 a2 a3} (h_a0 : Inv q m a0) : Inv q m (State.finish a0 a1 a2 a3) := by
  unfold State.finish
  with_reducible repeat'
    first
      | assumption | apply Inv.ite | apply keeps_mapItem | apply keeps_jwrite
      | (extract_lets +onlyGivenNames x; refine_lift have hx : Inv q m x := ?_; ?_; on_goal 2 => unfold x; on_goal 1 => clear_value x)
      | split

theorem keeps_finishOpt {a0 : State} {a1 a2 a3} (h_a0 : Inv q m a0) : Inv q m (State.finishOpt a0 a1 a2 a3) := by
  unfold State.finishOpt
  with_reducible repeat' first | assumption | apply keeps_finish | split

theorem keeps_finishAll {a0 : State} {a1 a2 a3} (h_a0 : Inv q m a0) : Inv q m (State.finishAll a0 a1 a2 a3) := by
  unfold State.finishAll
  with_reducible repeat' first | assumption | apply keeps_finish | (refine Inv.foldl (fun _ _ _ => ?_) _ ?_)

theorem keeps_cancelAimed {a0 : State} {a1} (h_a0 : Inv q m a0) : Inv q m (State.cancelAimed a0 a1) := by
  unfold State.cancelAimed
  with_reducible repeat' first | assumption | apply keeps_finishAll

theorem keeps_clearBusy {a0 : State} (h_a0 : Inv q m a0) : Inv q m (State.clearBusy a0) := by
  unfold State.clearBusy
  with_reducible repeat' first | assumption | apply Inv.setReg | fail_if_no_progress apply Inv.mk'

theorem keeps_complete {a0 : State} {a1} (h_a0 : Inv q m a0) : Inv q m (State.complete a0 a1) := by
  unfold State.complete
  with_reducible repeat'
    first
      | assumption | apply Inv.ite | apply keeps_updSource | apply keeps_jwrite | apply keeps_clearBusy
      | fail_if_no_progress apply Inv.mk'

theorem keeps_completeAllowed {a0 : State} (h_a0 : Inv q m a0) : Inv q m (State.completeAllowed a0) := by
  unfold State.completeAllowed
  with_reducible repeat'
    first
      | assumption | apply Inv.ite | apply keeps_complete | (refine Inv.foldl (fun _ _ _ => ?_) _ ?_) | split

theorem keeps_beginBusy {a0 : State} {a1 a2 a3} (h_a0 : Inv q m a0) : Inv q m (State.beginBusy a0 a1 a2 a3) := by
  unfold State.beginBusy
  with_reducible repeat' first | assumption | apply Inv.setReg | fail_if_no_progress apply Inv.mk'

theorem keeps_beginDisable {a0 : State} {a1 a2 a3} (h_a0 : Inv q m a0) : Inv q m (State.beginDisable a0 a1 a2 a3) := by
  unfold State.beginDisable
  with_reducible repeat' first | assumption | fail_if_no_progress apply Inv.mk'

theorem keeps_endDisable {a0 : State} {a1} (h_a0 : Inv q m a0) : Inv q m (State.endDisable a0 a1) := by
  unfold State.endDisable
  with_reducible repeat'
    first
      | assumption | apply keeps_cancelAimed | apply keeps_finishAll | fail_if_no_progress apply Inv.mk'

theorem keeps_setSess {a0 : State} {a1 a2} (h_a0 : Inv q m a0) : Inv q m (State.setSess a0 a1 a2) := by
  unfold State.setSess
  with_reducible repeat' first | assumption | fail_if_no_progress apply Inv.mk'

theorem keeps_refuse {a0 : State} {a1 a2 a3} (h_a0 : Inv q m a0) (h_a2 : RuleOk a2) : Inv q m (State.refuse a0 a1 a2 a3) := by
  unfold State.refuse
  with_reducible repeat' first | assumption | apply Inv.ite | apply keeps_bump | apply h_a2.refused

theorem keeps_acceptWrite {a0 : State} {a1 a2 a3} (h_a0 : Inv q m a0) (h_a3 : RuleOk a3) : Inv q m (State.acceptWrite a0 a1 a2 a3) := by
  unfold State.acceptWrite
  with_reducible repeat'
    first
      | assumption | apply keeps_accept | apply keeps_setSess | apply keeps_beginBusy | apply h_a3.effect
      | (extract_lets +onlyGivenNames x; clear_value x) | split

theorem keeps_submit {a0 : State} {a1 a2 a3} (h_a0 : Inv q m a0) (h_a3 : RuleOk a3) : Inv q m (State.submit a0 a1 a2 a3).1 := by
  unfold State.submit
  with_reducible repeat' first | assumption | apply keeps_refuse | apply keeps_acceptWrite | split

theorem keeps_respond {a0 : State} {a1 a2 a3 a4 a5 a6 a7} (h_a0 : Inv q m a0) : Inv q m (State.respond a0 a1 a2 a3 a4 a5 a6 a7) := by
  unfold State.respond
  with_reducible repeat' first | assumption | fail_if_no_progress apply Inv.mk'

theorem keeps_heard {a0 : State} {a1} (h_a0 : Inv q m a0) : Inv q m (State.heard a0 a1) := by
  unfold State.heard
  with_reducible repeat'
    first
      | assumption | intro q m _ _ | intro _ | apply Goes.next | apply Inv.ite | apply Goes.ite | apply RuleOk.ite
      | apply OptRuleOk.ite | apply Inv.setReg | apply Inv.setBlob | apply OptRuleOk.none | apply OptRuleOk.some
      | apply keeps_setSess | fail_if_no_progress apply Inv.mk' | fail_if_no_progress refine Inv.drawn ?_ (by omega)
      | (refine Inv.foldl (fun _ _ _ => ?_) _ ?_) | (refine Inv.foldl_fst (fun _ _ _ => ?_) _ ?_)
      | (refine Inv.foldl_snd (fun _ _ _ => ?_) _ ?_) | refine OptRuleOk.get ?_ (by assumption)
      | (refine ⟨fun q m _ _ _ _ _ => ?_, fun q m _ _ _ _ => ?_⟩)
      | (extract_lets +onlyGivenNames x; refine_lift have hx : Inv q m x := ?_; ?_; on_goal 2 => unfold x; on_goal 1 => clear_value x)
      
      | (extract_lets +onlyGivenNames x; refine_lift have hx : Inv q m x.1 := ?_; ?_; on_goal 2 => unfold x; on_goal 1 => clear_value x)
      
      | (extract_lets +onlyGivenNames x; refine_lift have hx : Inv q m x.2 := ?_; ?_; on_goal 2 => unfold x; on_goal 1 => clear_value x)
      | (extract_lets +onlyGivenNames x; clear_value x) | split | extract_lets +onlyGivenNames x | dsimp -zeta only [id]
      | refine RuleOk.effect ?_ _ _ _ _ _ _ ?_ | refine RuleOk.refused ?_ _ _ _ _ _ ?_

theorem keeps_request {a0 : State} {a1 a2 a3 a4 a5} (h_a0 : Inv q m a0) (h_a5 : RuleOk a5) : Inv q m (State.request a0 a1 a2 a3 a4 a5) := by
  unfold State.request
  with_reducible repeat'
    first
      | assumption | apply Inv.ite | apply keeps_respond | apply keeps_bump | apply keeps_refuse | apply keeps_heard
      | apply keeps_submit

theorem keeps_putEntry {a0 : State} {a1 a2 a3} (h_a0 : Inv q m a0) : Inv q m (State.putEntry a0 a1 a2 a3) := by
  unfold State.putEntry
  with_reducible repeat' first | assumption | apply Inv.ite | apply Inv.setReg | apply Inv.setBlob | split

theorem keeps_settle {a0 : State} {a1 a2 a3 a4} (h_a0 : Inv q m a0) : Inv q m (State.settle a0 a1 a2 a3 a4) := by
  unfold State.settle
  with_reducible repeat' first | assumption | apply keeps_finish | apply keeps_putEntry

theorem keeps_settingRule {a0 a1 a2 a3} (h_a3 : ∀ q m x, Inv q m x → Inv q m (a3 x)) : RuleOk (settingRule a0 a1 a2 a3) := by
  unfold settingRule
  with_reducible repeat'
    first
      | assumption | apply keeps_settle | apply h_a3 | (refine ⟨fun q m _ _ _ _ _ => ?_, fun q m _ _ _ _ => ?_⟩)

theorem keeps_lockedRule {a0 a1 a2} : RuleOk (lockedRule a0 a1 a2) := by
  unfold lockedRule
  with_reducible repeat' first | assumption | intro q m _ _ | apply keeps_settingRule

theorem keeps_commandRule {a0 a1} (h_a1 : ∀ q m x d, Inv q m x → Inv q m (a1 x d)) : RuleOk (commandRule a0 a1) := by
  unfold commandRule
  with_reducible repeat'
    first
      | assumption | apply keeps_finish | apply h_a1 | (refine ⟨fun q m _ _ _ _ _ => ?_, fun q m _ _ _ _ => ?_⟩)

theorem keeps_setKeySlot {a0 : State} {a1 a2} (h_a0 : Inv q m a0) : Inv q m (State.setKeySlot a0 a1 a2) := by
  unfold State.setKeySlot
  with_reducible repeat' first | assumption | fail_if_no_progress apply Inv.mk'

theorem keeps_dropRaised {a0 : State} {a1} (h_a0 : Inv q m a0) : Inv q m (State.dropRaised a0 a1) := by
  unfold State.dropRaised
  with_reducible repeat' first | assumption | apply Inv.ite | apply keeps_setSess | (refine Inv.foldl (fun _ _ _ => ?_) _ ?_)

theorem keeps_setFails {a0 : State} {a1} (h_a0 : Inv q m a0) : Inv q m (State.setFails a0 a1) := by
  unfold State.setFails
  with_reducible repeat' first | assumption | fail_if_no_progress apply Inv.mk'

theorem keeps_authSuccess {a0 : State} {a1} (h_a0 : Inv q m a0) : Inv q m (State.authSuccess a0 a1) := by
  unfold State.authSuccess
  with_reducible repeat' first | assumption | fail_if_no_progress apply Inv.mk'

theorem keeps_authFailure {a0 : State} {a1} (h_a0 : Inv q m a0) : Inv q m (State.authFailure a0 a1) := by
  unfold State.authFailure
  with_reducible repeat'
    first
      | assumption | apply Inv.ite | apply keeps_bump | apply keeps_setFails | apply keeps_eventKey | apply keeps_setFlag
      | fail_if_no_progress apply Inv.mk'

theorem keeps_dropChallenge {a0 : State} {a1} (h_a0 : Inv q m a0) : Inv q m (State.dropChallenge a0 a1) := by
  unfold State.dropChallenge
  with_reducible repeat' first | assumption | fail_if_no_progress apply Inv.mk'

end Sys2Proof.Laws
end

