-- ==== Sys2Proof/Laws/KeepsMotion.lean ====
section
/-!
SUPPORT. What the shared operations of axes, solenoids, loads, maintenance and CAN keep (`Inv`), one lemma for each definition.
-/
namespace Sys2Proof.Laws
open Sys2Proof Sys2Proof.Machine

variable {q : List Instr} {m : Nat}

theorem keeps_showScene {a0 : State} {a1} (h_a0 : Inv q m a0) : Inv q m (State.showScene a0 a1) := by
  unfold State.showScene
  with_reducible repeat' first | assumption | apply Inv.setReg | split

theorem keeps_sceneOutcome {a0 : State} {a1 a2 a3 a4} (h_a0 : Inv q m a0) : Inv q m (State.sceneOutcome a0 a1 a2 a3 a4) := by
  unfold State.sceneOutcome
  with_reducible repeat' first | assumption | apply keeps_bump | apply keeps_finish | split

theorem keeps_scenePromote {a0 : State} {a1} (h_a0 : Inv q m a0) : Inv q m (State.scenePromote a0 a1) := by
  unfold State.scenePromote
  with_reducible repeat'
    first
      | assumption | apply Inv.ite | apply keeps_showScene | apply keeps_startItem | apply keeps_setRegion
      | apply keeps_sceneOutcome | (extract_lets +onlyGivenNames x; clear_value x) | split

theorem keeps_setCell {a0 : State} {a1 a2} (h_a0 : Inv q m a0) : Inv q m (State.setCell a0 a1 a2) := by
  unfold State.setCell
  with_reducible repeat' first | assumption | fail_if_no_progress apply Inv.mk'

theorem keeps_dropShadow {a0 : State} {a1} (h_a0 : Inv q m a0) : Inv q m (State.dropShadow a0 a1) := by
  unfold State.dropShadow
  with_reducible repeat' first | assumption | apply keeps_setCell | (refine Inv.foldl (fun _ _ _ => ?_) _ ?_)

theorem keeps_sceneEnd {a0 : State} {a1 a2 a3} (h_a0 : Inv q m a0) : Inv q m (State.sceneEnd a0 a1 a2 a3) := by
  unfold State.sceneEnd
  with_reducible repeat'
    first
      | assumption | apply Inv.ite | apply keeps_dropShadow | apply keeps_setRegion | apply keeps_scenePromote
      | apply keeps_sceneOutcome
      | (extract_lets +onlyGivenNames x; refine_lift have hx : Inv q m x := ?_; ?_; on_goal 2 => unfold x; on_goal 1 => clear_value x)
      | (extract_lets +onlyGivenNames x; clear_value x) | split

theorem keeps_scenePendEnd {a0 : State} {a1 a2 a3} (h_a0 : Inv q m a0) : Inv q m (State.scenePendEnd a0 a1 a2 a3) := by
  unfold State.scenePendEnd
  with_reducible repeat'
    first
      | assumption | apply keeps_showScene | apply keeps_sceneOutcome | apply keeps_setRegion
      | (extract_lets +onlyGivenNames x; clear_value x) | split

theorem keeps_holdScenes {a0 : State} {a1} (h_a0 : Inv q m a0) : Inv q m (State.holdScenes a0 a1) := by
  unfold State.holdScenes
  with_reducible repeat'
    first
      | assumption | apply Inv.ite | apply keeps_showScene | apply keeps_setRegion | (refine Inv.foldl (fun _ _ _ => ?_) _ ?_)

theorem keeps_resumeScenes {a0 : State} {a1 a2 a3 a4} (h_a0 : Inv q m a0) : Inv q m (State.resumeScenes a0 a1 a2 a3 a4) := by
  unfold State.resumeScenes
  with_reducible repeat'
    first
      | assumption | apply Inv.ite | apply keeps_scenePendEnd | apply keeps_sceneEnd | apply keeps_showScene
      | apply keeps_setRegion | (refine Inv.foldl (fun _ _ _ => ?_) _ ?_)

theorem keeps_setAxis {a0 : State} {a1 a2} (h_a0 : Inv q m a0) : Inv q m (State.setAxis a0 a1 a2) := by
  unfold State.setAxis
  with_reducible repeat' first | assumption | fail_if_no_progress apply Inv.mk'

theorem keeps_setCue {a0 : State} {a1 a2} (h_a0 : Inv q m a0) : Inv q m (State.setCue a0 a1 a2) := by
  unfold State.setCue
  with_reducible repeat' first | assumption | fail_if_no_progress apply Inv.mk'

theorem keeps_setLine {a0 : State} {a1 a2} (h_a0 : Inv q m a0) : Inv q m (State.setLine a0 a1 a2) := by
  unfold State.setLine
  with_reducible repeat' first | assumption | fail_if_no_progress apply Inv.mk'

theorem keeps_setImpl {a0 : State} {a1 a2} (h_a0 : Inv q m a0) : Inv q m (State.setImpl a0 a1 a2) := by
  unfold State.setImpl
  with_reducible repeat' first | assumption | fail_if_no_progress apply Inv.mk'

theorem keeps_endCue {a0 : State} {a1 a2 a3} (h_a0 : Inv q m a0) : Inv q m (State.endCue a0 a1 a2 a3) := by
  unfold State.endCue
  with_reducible repeat'
    first
      | assumption | apply Inv.ite | apply Inv.setReg | apply keeps_setCue | apply keeps_bump | apply keeps_finish

theorem keeps_endCues {a0 : State} {a1 a2 a3} (h_a0 : Inv q m a0) : Inv q m (State.endCues a0 a1 a2 a3) := by
  unfold State.endCues
  with_reducible repeat' first | assumption | apply keeps_endCue | (refine Inv.foldl (fun _ _ _ => ?_) _ ?_)

theorem keeps_cancelCuesOnTarget {a0 : State} {a1 a2} (h_a0 : Inv q m a0) : Inv q m (State.cancelCuesOnTarget a0 a1 a2) := by
  unfold State.cancelCuesOnTarget
  with_reducible repeat' first | assumption | apply keeps_endCues

theorem keeps_holdCues {a0 : State} {a1} (h_a0 : Inv q m a0) : Inv q m (State.holdCues a0 a1) := by
  unfold State.holdCues
  with_reducible repeat' first | assumption | apply keeps_setCue | (refine Inv.foldl (fun _ _ _ => ?_) _ ?_)

theorem keeps_clearLine {a0 : State} {a1} (h_a0 : Inv q m a0) : Inv q m (State.clearLine a0 a1) := by
  unfold State.clearLine
  with_reducible repeat' first | assumption | apply Inv.setReg | apply keeps_setLine

theorem keeps_clearLinesOf {a0 : State} {a1} (h_a0 : Inv q m a0) : Inv q m (State.clearLinesOf a0 a1) := by
  unfold State.clearLinesOf
  with_reducible repeat' first | assumption | apply keeps_clearLine | (refine Inv.foldl (fun _ _ _ => ?_) _ ?_)

theorem keeps_dropMarks {a0 : State} {a1} (h_a0 : Inv q m a0) : Inv q m (State.dropMarks a0 a1) := by
  unfold State.dropMarks
  with_reducible repeat' first | assumption | fail_if_no_progress apply Inv.mk'

theorem keeps_showAxis {a0 : State} {a1} (h_a0 : Inv q m a0) : Inv q m (State.showAxis a0 a1) := by
  unfold State.showAxis
  with_reducible repeat' first | assumption | apply Inv.ite | apply Inv.setReg

theorem keeps_axisLost {a0 : State} {a1} (h_a0 : Inv q m a0) : Inv q m (State.axisLost a0 a1) := by
  unfold State.axisLost
  with_reducible repeat'
    first
      | assumption | apply Inv.setReg | apply keeps_setAxis | apply keeps_holdScenes | apply keeps_holdCues
      | apply keeps_showAxis

theorem keeps_beginResume {a0 : State} {a1 a2} (h_a0 : Inv q m a0) : Inv q m (State.beginResume a0 a1 a2) := by
  unfold State.beginResume
  with_reducible repeat' first | assumption | apply Inv.setReg | apply keeps_setAxis

theorem keeps_resumeCues {a0 : State} {a1 a2 a3 a4} (h_a0 : Inv q m a0) : Inv q m (State.resumeCues a0 a1 a2 a3 a4) := by
  unfold State.resumeCues
  with_reducible repeat'
    first
      | assumption | apply Inv.ite | apply keeps_endCue | apply keeps_setCue | apply keeps_resumeScenes
      | (refine Inv.foldl (fun _ _ _ => ?_) _ ?_)

theorem keeps_setSv {a0 : State} {a1 a2} (h_a0 : Inv q m a0) : Inv q m (State.setSv a0 a1 a2) := by
  unfold State.setSv
  with_reducible repeat' first | assumption | fail_if_no_progress apply Inv.mk'

theorem keeps_showClaims {a0 : State} {a1} (h_a0 : Inv q m a0) : Inv q m (State.showClaims a0 a1) := by
  unfold State.showClaims
  with_reducible repeat' first | assumption | apply Inv.setReg

theorem keeps_svStopRunning {a0 : State} {a1} (h_a0 : Inv q m a0) : Inv q m (State.svStopRunning a0 a1) := by
  unfold State.svStopRunning
  with_reducible repeat'
    first
      | assumption | apply Inv.setReg | apply keeps_setSv | (extract_lets +onlyGivenNames x; clear_value x) | split

theorem keeps_svDropBoost {a0 : State} {a1} (h_a0 : Inv q m a0) : Inv q m (State.svDropBoost a0 a1) := by
  unfold State.svDropBoost
  with_reducible repeat' first | assumption | apply Inv.ite | apply Inv.setReg

theorem keeps_svDiscardPending {a0 : State} {a1 a2} (h_a0 : Inv q m a0) : Inv q m (State.svDiscardPending a0 a1 a2) := by
  unfold State.svDiscardPending
  with_reducible repeat'
    first
      | assumption | apply Inv.ite | apply Inv.setReg | apply keeps_setSv | apply keeps_setFlag | apply keeps_finishOpt
      | (extract_lets +onlyGivenNames x; refine_lift have hx : Inv q m x := ?_; ?_; on_goal 2 => unfold x; on_goal 1 => clear_value x)
      | (extract_lets +onlyGivenNames x; clear_value x) | split

theorem keeps_svReleaseDone {a0 : State} {a1} (h_a0 : Inv q m a0) : Inv q m (State.svReleaseDone a0 a1) := by
  unfold State.svReleaseDone
  with_reducible repeat' first | assumption | apply keeps_finishAll

theorem keeps_svDisableDone {a0 : State} {a1} (h_a0 : Inv q m a0) : Inv q m (State.svDisableDone a0 a1) := by
  unfold State.svDisableDone
  with_reducible repeat'
    first
      | assumption | apply Inv.ite | apply Inv.setReg | apply keeps_endDisable | apply keeps_cancelCuesOnTarget

theorem keeps_svToEnd {a0 : State} {a1} (h_a0 : Inv q m a0) : Inv q m (State.svToEnd a0 a1) := by
  unfold State.svToEnd
  with_reducible repeat'
    first
      | assumption | apply Inv.ite | apply Inv.setReg | apply keeps_svDropBoost | apply keeps_svStopRunning
      | apply keeps_setSv | apply keeps_svReleaseDone | apply keeps_svDisableDone | apply keeps_showClaims

theorem keeps_svToOff {a0 : State} {a1} (h_a0 : Inv q m a0) : Inv q m (State.svToOff a0 a1) := by
  unfold State.svToOff
  with_reducible repeat'
    first
      | assumption | apply Inv.ite | apply Inv.setReg | apply keeps_svDropBoost | apply keeps_svStopRunning
      | apply keeps_setSv | apply keeps_svReleaseDone | apply keeps_svDisableDone | apply keeps_showClaims
      | apply keeps_setFlag

theorem keeps_svClamp {a0 : State} {a1} (h_a0 : Inv q m a0) : Inv q m (State.svClamp a0 a1) := by
  unfold State.svClamp
  with_reducible repeat' first | assumption | apply keeps_setSv

theorem keeps_svFail {a0 : State} {a1 a2} (h_a0 : Inv q m a0) : Inv q m (State.svFail a0 a1 a2) := by
  unfold State.svFail
  with_reducible repeat'
    first
      | assumption | apply Inv.setReg | apply keeps_svClamp | apply keeps_svToOff | apply keeps_svDiscardPending | apply keeps_setFlag
      | apply keeps_eventKey

theorem keeps_svStart {a0 : State} {a1 a2 a3} (h_a0 : Inv q m a0) : Inv q m (State.svStart a0 a1 a2 a3) := by
  unfold State.svStart
  with_reducible repeat'
    first
      | assumption | apply Inv.ite | apply Inv.setReg | apply keeps_finishOpt | apply keeps_bump | apply keeps_setSv
      | apply keeps_setFlag | split

theorem keeps_svRelease {a0 : State} {a1} (h_a0 : Inv q m a0) : Inv q m (State.svRelease a0 a1) := by
  unfold State.svRelease
  with_reducible repeat'
    first
      | assumption | apply Inv.ite | apply keeps_svToEnd | apply keeps_svDiscardPending | apply keeps_showClaims
      | apply keeps_svReleaseDone

theorem keeps_svDeliver {a0 : State} {a1 a2} (h_a0 : Inv q m a0) : Inv q m (State.svDeliver a0 a1 a2) := by
  unfold State.svDeliver
  with_reducible repeat' first | assumption | apply Inv.ite | apply keeps_setSv | apply keeps_svRelease | apply keeps_svStart

theorem keeps_svSafeOff {a0 : State} {a1} (h_a0 : Inv q m a0) : Inv q m (State.svSafeOff a0 a1) := by
  unfold State.svSafeOff
  with_reducible repeat'
    first
      | assumption | apply Inv.ite | apply Inv.setReg | apply keeps_svDiscardPending | apply keeps_svClamp | apply keeps_svToEnd
      | apply keeps_showClaims | apply keeps_finishOpt | apply keeps_setSv

theorem keeps_banksSafeOff {a0 : State} (h_a0 : Inv q m a0) : Inv q m (State.banksSafeOff a0) := by
  unfold State.banksSafeOff
  with_reducible repeat'
    first
      | assumption | apply Inv.ite | apply Inv.setReg | apply keeps_svSafeOff | apply keeps_bump
      | (refine Inv.foldl (fun _ _ _ => ?_) _ ?_)

theorem keeps_showActs {a0 : State} (h_a0 : Inv q m a0) : Inv q m (State.showActs a0) := by
  unfold State.showActs
  with_reducible repeat' first | assumption | apply Inv.setReg | (refine Inv.foldl (fun _ _ _ => ?_) _ ?_)

theorem keeps_grantAct {a0 : State} {a1} (h_a0 : Inv q m a0) : Inv q m (State.grantAct a0 a1) := by
  unfold State.grantAct
  with_reducible repeat'
    first
      | assumption | apply Inv.ite | apply keeps_setFlag | apply keeps_showActs | apply keeps_bump
      | fail_if_no_progress apply Inv.mk'

theorem keeps_endAct {a0 : State} {a1} (h_a0 : Inv q m a0) : Inv q m (State.endAct a0 a1) := by
  unfold State.endAct
  with_reducible repeat'
    first
      | assumption | apply Inv.ite | apply keeps_setFlag | apply keeps_showActs | fail_if_no_progress apply Inv.mk'

theorem keeps_yieldAct {a0 : State} {a1} (h_a0 : Inv q m a0) : Inv q m (State.yieldAct a0 a1) := by
  unfold State.yieldAct
  with_reducible repeat' first | assumption | apply keeps_bump | apply keeps_endAct

theorem keeps_yieldAll {a0 : State} {a1} (h_a0 : Inv q m a0) : Inv q m (State.yieldAll a0 a1) := by
  unfold State.yieldAll
  with_reducible repeat' first | assumption | apply keeps_yieldAct | (refine Inv.foldl (fun _ _ _ => ?_) _ ?_)

theorem keeps_grantCommanded {a0 : State} {a1} (h_a0 : Inv q m a0) : Inv q m (State.grantCommanded a0 a1) := by
  unfold State.grantCommanded
  with_reducible repeat' first | assumption | apply keeps_grantAct | apply keeps_yieldAll | split

theorem keeps_requestRepair {a0 : State} {a1} (h_a0 : Inv q m a0) : Inv q m (State.requestRepair a0 a1) := by
  unfold State.requestRepair
  with_reducible repeat'
    first
      | assumption | apply Inv.ite | apply keeps_grantAct | apply keeps_yieldAll | fail_if_no_progress apply Inv.mk'

theorem keeps_grantWaiting {a0 : State} {a1} (h_a0 : Inv q m a0) : Inv q m (State.grantWaiting a0 a1) := by
  unfold State.grantWaiting
  with_reducible repeat'
    first
      | assumption | apply Inv.ite | apply keeps_grantAct | fail_if_no_progress apply Inv.mk'
      | (extract_lets +onlyGivenNames x; clear_value x) | split

theorem keeps_finishAct {a0 : State} {a1} (h_a0 : Inv q m a0) : Inv q m (State.finishAct a0 a1) := by
  unfold State.finishAct
  with_reducible repeat' first | assumption | apply keeps_grantWaiting | apply keeps_endAct

theorem keeps_spareFlag {a0 : State} {a1} (h_a0 : Inv q m a0) : Inv q m (State.spareFlag a0 a1) := by
  unfold State.spareFlag
  with_reducible repeat' first | assumption | apply Inv.ite | apply keeps_eventKey | apply keeps_setFlag

theorem keeps_takeSpare {a0 : State} {a1} (h_a0 : Inv q m a0) : Inv q m (State.takeSpare a0 a1) := by
  unfold State.takeSpare
  with_reducible repeat' first | assumption | apply Inv.ite | apply Inv.setReg | apply keeps_eventKey

theorem keeps_takeSegment {a0 : State} (h_a0 : Inv q m a0) : Inv q m (State.takeSegment a0) := by
  unfold State.takeSegment
  with_reducible repeat' first | assumption | apply Inv.ite | apply keeps_takeSpare | apply keeps_spareFlag

theorem keeps_setLs {a0 : State} {a1 a2} (h_a0 : Inv q m a0) : Inv q m (State.setLs a0 a1 a2) := by
  unfold State.setLs
  with_reducible repeat' first | assumption | fail_if_no_progress apply Inv.mk'

theorem keeps_setFeed {a0 : State} {a1 a2} (h_a0 : Inv q m a0) : Inv q m (State.setFeed a0 a1 a2) := by
  unfold State.setFeed
  with_reducible repeat' first | assumption | fail_if_no_progress apply Inv.mk'

theorem keeps_lsOpen {a0 : State} {a1} (h_a0 : Inv q m a0) : Inv q m (State.lsOpen a0 a1) := by
  unfold State.lsOpen
  with_reducible repeat' first | assumption | apply Inv.setReg | apply keeps_setLs | apply keeps_setFlag

theorem keeps_lsSwitchOn {a0 : State} {a1} (h_a0 : Inv q m a0) : Inv q m (State.lsSwitchOn a0 a1) := by
  unfold State.lsSwitchOn
  with_reducible repeat' first | assumption | apply Inv.ite | apply Inv.setReg | apply keeps_setFlag | apply keeps_setLs

theorem keeps_lsTrip {a0 : State} {a1 a2} (h_a0 : Inv q m a0) : Inv q m (State.lsTrip a0 a1 a2) := by
  unfold State.lsTrip
  with_reducible repeat'
    first
      | assumption | apply Inv.ite | apply Inv.setReg | apply keeps_lsOpen | apply keeps_setLs | apply keeps_bump
      | apply keeps_setFlag

theorem keeps_lsEvent {a0 : State} {a1} (h_a0 : Inv q m a0) : Inv q m (State.lsEvent a0 a1) := by
  unfold State.lsEvent
  with_reducible repeat' first | assumption | apply keeps_eventKey

theorem keeps_lsFail {a0 : State} {a1} (h_a0 : Inv q m a0) : Inv q m (State.lsFail a0 a1) := by
  unfold State.lsFail
  with_reducible repeat' first | assumption | apply Inv.setReg | apply keeps_lsOpen

theorem keeps_lsNextDuty {a0 : State} {a1} (h_a0 : Inv q m a0) : Inv q m (State.lsNextDuty a0 a1) := by
  unfold State.lsNextDuty
  with_reducible repeat' first | assumption | apply keeps_setLs

theorem keeps_lsDutyDue {a0 : State} {a1} (h_a0 : Inv q m a0) : Inv q m (State.lsDutyDue a0 a1) := by
  unfold State.lsDutyDue
  with_reducible repeat'
    first
      | assumption | apply Inv.ite | apply Inv.setReg | apply keeps_setLs | (extract_lets +onlyGivenNames x; clear_value x) | split

theorem keeps_loadsTick {a0 : State} (h_a0 : Inv q m a0) : Inv q m (State.loadsTick a0) := by
  unfold State.loadsTick
  with_reducible repeat' first | assumption | apply keeps_lsDutyDue | (refine Inv.foldl (fun _ _ _ => ?_) _ ?_)

theorem keeps_lsSetDuty {a0 : State} {a1 a2} (h_a0 : Inv q m a0) : Inv q m (State.lsSetDuty a0 a1 a2) := by
  unfold State.lsSetDuty
  with_reducible repeat'
    first
      | assumption | apply Inv.ite | apply Inv.setReg | apply keeps_setLs | apply keeps_lsOpen | apply keeps_lsTrip
      | apply keeps_lsSwitchOn | apply keeps_lsDutyDue | apply keeps_lsNextDuty

theorem keeps_lsDisable {a0 : State} {a1} (h_a0 : Inv q m a0) : Inv q m (State.lsDisable a0 a1) := by
  unfold State.lsDisable
  with_reducible repeat'
    first
      | assumption | apply Inv.setReg | apply keeps_lsOpen | apply keeps_cancelAimed | apply keeps_cancelCuesOnTarget

theorem keeps_lsEnableNow {a0 : State} {a1} (h_a0 : Inv q m a0) : Inv q m (State.lsEnableNow a0 a1) := by
  unfold State.lsEnableNow
  with_reducible repeat' first | assumption | apply Inv.setReg

theorem keeps_showWire {a0 : State} {a1} (h_a0 : Inv q m a0) : Inv q m (State.showWire a0 a1) := by
  unfold State.showWire
  with_reducible repeat' first | assumption | apply Inv.setReg

theorem keeps_showRating {a0 : State} {a1} (h_a0 : Inv q m a0) : Inv q m (State.showRating a0 a1) := by
  unfold State.showRating
  with_reducible repeat' first | assumption | apply Inv.setReg

theorem keeps_lsRetire {a0 : State} {a1} (h_a0 : Inv q m a0) : Inv q m (State.lsRetire a0 a1) := by
  unfold State.lsRetire
  with_reducible repeat'
    first
      | assumption | apply Inv.ite | apply Inv.setReg | apply keeps_bump | apply keeps_takeSegment | apply keeps_showRating
      | apply keeps_setFlag | apply keeps_lsFail | apply keeps_lsOpen | apply keeps_eventKey

theorem keeps_groupOff {a0 : State} {a1} (h_a0 : Inv q m a0) : Inv q m (State.groupOff a0 a1) := by
  unfold State.groupOff
  with_reducible repeat'
    first
      | assumption | apply Inv.ite | apply Inv.setReg | apply keeps_lsOpen | (refine Inv.foldl (fun _ _ _ => ?_) _ ?_)

theorem keeps_groupTrip {a0 : State} {a1} (h_a0 : Inv q m a0) : Inv q m (State.groupTrip a0 a1) := by
  unfold State.groupTrip
  with_reducible repeat' first | assumption | apply Inv.setReg | apply keeps_groupOff | apply keeps_setFlag

theorem keeps_loadsSafeOff {a0 : State} (h_a0 : Inv q m a0) : Inv q m (State.loadsSafeOff a0) := by
  unfold State.loadsSafeOff
  with_reducible repeat'
    first
      | assumption | apply Inv.ite | apply Inv.setReg | apply keeps_lsOpen | (refine Inv.foldl (fun _ _ _ => ?_) _ ?_)

theorem keeps_loadsReturn {a0 : State} (h_a0 : Inv q m a0) : Inv q m (State.loadsReturn a0) := by
  unfold State.loadsReturn
  with_reducible repeat'
    first
      | assumption | apply Inv.ite | apply keeps_lsSwitchOn | (refine Inv.foldl (fun _ _ _ => ?_) _ ?_)

theorem keeps_setCan {a0 : State} {a1 a2} (h_a0 : Inv q m a0) : Inv q m (State.setCan a0 a1 a2) := by
  unfold State.setCan
  with_reducible repeat' first | assumption | fail_if_no_progress apply Inv.mk'

theorem keeps_setTxBuf {a0 : State} {a1 a2 a3} (h_a0 : Inv q m a0) : Inv q m (State.setTxBuf a0 a1 a2 a3) := by
  unfold State.setTxBuf
  with_reducible repeat' first | assumption | fail_if_no_progress apply Inv.mk'

theorem keeps_canStart {a0 : State} {a1} (h_a0 : Inv q m a0) : Inv q m (State.canStart a0 a1) := by
  unfold State.canStart
  with_reducible repeat' first | assumption | apply Inv.ite | apply keeps_setCan | apply keeps_setTxBuf | split

theorem keeps_canCommit {a0 : State} {a1 a2 a3} (h_a0 : Inv q m a0) : Inv q m (State.canCommit a0 a1 a2 a3) := by
  unfold State.canCommit
  with_reducible repeat' first | assumption | apply Inv.ite | apply keeps_setTxBuf | apply keeps_bump | apply keeps_canStart

theorem keeps_canService {a0 : State} {a1 a2} (h_a0 : Inv q m a0) : Inv q m (State.canService a0 a1 a2) := by
  unfold State.canService
  with_reducible repeat' first | assumption | apply Inv.ite | apply keeps_canStart | apply keeps_setCan

theorem keeps_canDeliver {a0 : State} {a1 a2 a3} (h_a0 : Inv q m a0) : Inv q m (State.canDeliver a0 a1 a2 a3) := by
  unfold State.canDeliver
  with_reducible repeat' first | assumption | apply keeps_canCommit

theorem keeps_canSlotSend {a0 : State} {a1 a2 a3 a4} (h_a0 : Inv q m a0) : Inv q m (State.canSlotSend a0 a1 a2 a3 a4) := by
  unfold State.canSlotSend
  with_reducible repeat'
    first
      | assumption | apply Inv.ite | apply keeps_bump | apply keeps_canCommit | apply keeps_setTxBuf
      | (extract_lets +onlyGivenNames x; clear_value x) | split

theorem keeps_canLeave {a0 : State} {a1} (h_a0 : Inv q m a0) : Inv q m (State.canLeave a0 a1) := by
  unfold State.canLeave
  with_reducible repeat' first | assumption | apply keeps_setCan

theorem keeps_canDropAll {a0 : State} {a1} (h_a0 : Inv q m a0) : Inv q m (State.canDropAll a0 a1) := by
  unfold State.canDropAll
  with_reducible repeat'
    first
      | assumption | apply keeps_setCan | apply keeps_setTxBuf | (refine Inv.foldl (fun _ _ _ => ?_) _ ?_)

theorem keeps_scheduleDrop {a0 : State} {a1} (h_a0 : Inv q m a0) : Inv q m (State.scheduleDrop a0 a1) := by
  unfold State.scheduleDrop
  with_reducible repeat' first | assumption | apply keeps_setTxBuf | (refine Inv.foldl (fun _ _ _ => ?_) _ ?_)

theorem keeps_cancelSlotCues {a0 : State} {a1} (h_a0 : Inv q m a0) : Inv q m (State.cancelSlotCues a0 a1) := by
  unfold State.cancelSlotCues
  with_reducible repeat' first | assumption | apply keeps_endCues

theorem keeps_countReject {a0 : State} {a1 a2} (h_a0 : Inv q m a0) : Inv q m (State.countReject a0 a1 a2) := by
  unfold State.countReject
  with_reducible repeat' first | assumption | apply keeps_bump | split

theorem keeps_lineAdd {a0 : State} {a1 a2 a3} (h_a0 : Inv q m a0) : Inv q m (State.lineAdd a0 a1 a2 a3) := by
  unfold State.lineAdd
  with_reducible repeat' first | assumption | apply Inv.setReg | apply keeps_setLine

theorem keeps_lineWrite {a0 : State} {a1 a2 a3} (h_a0 : Inv q m a0) : Inv q m (State.lineWrite a0 a1 a2 a3) := by
  unfold State.lineWrite
  with_reducible repeat' first | assumption | apply keeps_countReject | apply keeps_lineAdd | split

theorem keeps_lineStep {a0 : State} {a1} (h_a0 : Inv q m a0) : Inv q m (State.lineStep a0 a1) := by
  unfold State.lineStep
  with_reducible repeat' first | assumption | apply Inv.setReg | apply keeps_setLine

theorem keeps_lsDutyRule {a0} : RuleOk (lsDutyRule a0) := by
  unfold lsDutyRule
  with_reducible repeat'
    first
      | assumption | apply keeps_finish | apply keeps_lsSetDuty | apply keeps_putEntry
      | (refine ⟨fun q m _ _ _ _ _ => ?_, fun q m _ _ _ _ => ?_⟩)

theorem keeps_lsEnableRule {a0} : RuleOk (lsEnableRule a0) := by
  unfold lsEnableRule
  with_reducible repeat'
    first
      | assumption | apply Inv.ite | apply keeps_settle | apply keeps_lsDisable | apply keeps_lsEnableNow
      | (refine ⟨fun q m _ _ _ _ _ => ?_, fun q m _ _ _ _ => ?_⟩)

theorem keeps_lsFaultClearRule {a0} : RuleOk (lsFaultClearRule a0) := by
  unfold lsFaultClearRule
  with_reducible repeat'
    first
      | assumption | apply Inv.ite | apply Inv.setReg | apply keeps_yieldAct | apply keeps_setFlag | apply keeps_setLs
      | apply keeps_lsSwitchOn | apply keeps_finish | (refine ⟨fun q m _ _ _ _ _ => ?_, fun q m _ _ _ _ => ?_⟩) | split

theorem keeps_groupReconnectRule {a0} : RuleOk (groupReconnectRule a0) := by
  unfold groupReconnectRule
  with_reducible repeat'
    first
      | assumption | intro q m _ _ | intro _ | apply Inv.ite | apply Inv.setReg | apply keeps_commandRule
      | apply keeps_setFlag

theorem keeps_rule10 {a0 a1} : OptRuleOk (rule10 a0 a1) := by
  unfold rule10
  with_reducible repeat'
    first
      | assumption | intro q m _ _ | apply OptRuleOk.ite | apply OptRuleOk.none | apply OptRuleOk.some | apply keeps_lsEnableRule
      | apply keeps_lockedRule | apply keeps_settingRule | apply keeps_lsDutyRule | apply keeps_lsFaultClearRule
      | apply keeps_groupReconnectRule

theorem keeps_execLsDuty {a3 : State} {a0 a1 a2} (h_a3 : Inv q m a3) : Goes q m (execLsDuty a0 a1 a2 a3) := by
  unfold execLsDuty
  with_reducible repeat' first | assumption | apply Goes.next | apply keeps_request | apply keeps_lsDutyRule

theorem keeps_execLsEnable {a3 : State} {a0 a1 a2} (h_a3 : Inv q m a3) : Goes q m (execLsEnable a0 a1 a2 a3) := by
  unfold execLsEnable
  with_reducible repeat' first | assumption | apply Goes.next | apply keeps_request | apply keeps_lsEnableRule

theorem keeps_execLsFaultClear {a3 : State} {a0 a1 a2} (h_a3 : Inv q m a3) : Goes q m (execLsFaultClear a0 a1 a2 a3) := by
  unfold execLsFaultClear
  with_reducible repeat' first | assumption | apply Goes.next | apply keeps_request | apply keeps_lsFaultClearRule

theorem keeps_execGroupReconnect {a3 : State} {a0 a1 a2} (h_a3 : Inv q m a3) : Goes q m (execGroupReconnect a0 a1 a2 a3) := by
  unfold execGroupReconnect
  with_reducible repeat' first | assumption | apply Goes.next | apply keeps_request | apply keeps_groupReconnectRule

theorem keeps_execInrushEnd {a1 : State} {a0} (h_a1 : Inv q m a1) : Goes q m (execInrushEnd a0 a1) := by
  unfold execInrushEnd
  with_reducible repeat' first | assumption | apply Goes.next | apply Inv.ite | apply Inv.setReg | apply keeps_setLs

theorem keeps_execSlewFallback {a2 : State} {a0 a1} (h_a2 : Inv q m a2) : Goes q m (execSlewFallback a0 a1 a2) := by
  unfold execSlewFallback
  with_reducible repeat'
    first
      | assumption | apply Goes.next | apply Inv.ite | apply Inv.setReg | apply keeps_bump | apply keeps_setFlag
      | apply keeps_setLs

theorem keeps_execSlewEnd {a1 : State} {a0} (h_a1 : Inv q m a1) : Goes q m (execSlewEnd a0 a1) := by
  unfold execSlewEnd
  with_reducible repeat' first | assumption | apply Goes.next | apply Inv.ite | apply Inv.setReg | apply keeps_setLs

theorem keeps_execOverload {a3 : State} {a0 a1 a2} (h_a3 : Inv q m a3) : Goes q m (execOverload a0 a1 a2 a3) := by
  unfold execOverload
  with_reducible repeat' first | assumption | apply Goes.next | apply Inv.ite | apply keeps_lsTrip

theorem keeps_execShort {a4 : State} {a0 a1 a2 a3} (h_a4 : Inv q m a4) : Goes q m (execShort a0 a1 a2 a3 a4) := by
  unfold execShort
  with_reducible repeat' first | assumption | apply Goes.next | apply Inv.ite | apply keeps_lsEvent | apply keeps_lsTrip

theorem keeps_execFuseStep {a4 : State} {a0 a1 a2 a3} (h_a4 : Inv q m a4) : Goes q m (execFuseStep a0 a1 a2 a3 a4) := by
  unfold execFuseStep
  with_reducible repeat'
    first
      | assumption | apply Goes.next | apply Inv.ite | apply Goes.ite | apply Inv.setReg | apply keeps_showWire
      | apply keeps_setLs | apply keeps_lsEvent | apply keeps_lsTrip | apply keeps_setFlag

theorem keeps_execLampDuty {a3 : State} {a0 a1 a2} (h_a3 : Inv q m a3) : Goes q m (execLampDuty a0 a1 a2 a3) := by
  unfold execLampDuty
  with_reducible repeat'
    first
      | assumption | apply Goes.next | apply Inv.ite | apply Goes.ite | apply Inv.setReg | apply keeps_setFlag

theorem keeps_execFuseSave {a0 : State} (h_a0 : Inv q m a0) : Goes q m (execFuseSave a0) := by
  unfold execFuseSave
  with_reducible repeat' first | assumption | apply Goes.next | fail_if_no_progress apply Inv.mk'

theorem keeps_execThermalLatch {a2 : State} {a0 a1} (h_a2 : Inv q m a2) : Goes q m (execThermalLatch a0 a1 a2) := by
  unfold execThermalLatch
  with_reducible repeat'
    first
      | assumption | apply Goes.next | apply Inv.ite | apply Goes.ite | apply Inv.setReg | apply keeps_setFlag
      | apply keeps_lsTrip | apply keeps_lsEvent

theorem keeps_execThermalLatchClear {a2 : State} {a0 a1} (h_a2 : Inv q m a2) : Goes q m (execThermalLatchClear a0 a1 a2) := by
  unfold execThermalLatchClear
  with_reducible repeat' first | assumption | apply Goes.next | apply Inv.ite | apply Inv.setReg | apply keeps_setFlag

theorem keeps_execRestartCheck {a1 : State} {a0} (h_a1 : Inv q m a1) : Goes q m (execRestartCheck a0 a1) := by
  unfold execRestartCheck
  with_reducible repeat'
    first
      | assumption | apply Goes.next | apply Inv.ite | apply Goes.ite | apply Inv.setReg | apply keeps_setLs
      | apply keeps_lsSwitchOn | apply keeps_lsEvent | apply keeps_setFlag

theorem keeps_execRetryWindow {a1 : State} {a0} (h_a1 : Inv q m a1) : Goes q m (execRetryWindow a0 a1) := by
  unfold execRetryWindow
  with_reducible repeat' first | assumption | apply Goes.next | apply Inv.ite | apply Inv.setReg

theorem keeps_execGroupShed {a3 : State} {a0 a1 a2} (h_a3 : Inv q m a3) : Goes q m (execGroupShed a0 a1 a2 a3) := by
  unfold execGroupShed
  with_reducible repeat'
    first
      | assumption | apply Goes.next | apply Goes.ite | apply Inv.setReg | apply keeps_setFlag | apply keeps_setFeed
      | apply keeps_bump | apply keeps_lsTrip | split

theorem keeps_execGroupTrip {a3 : State} {a0 a1 a2} (h_a3 : Inv q m a3) : Goes q m (execGroupTrip a0 a1 a2 a3) := by
  unfold execGroupTrip
  with_reducible repeat' first | assumption | apply Goes.next | apply Inv.ite | apply keeps_eventKey | apply keeps_groupTrip

theorem keeps_execSegmentRetire {a5 : State} {a0 a1 a2 a3 a4} (h_a5 : Inv q m a5) : Goes q m (execSegmentRetire a0 a1 a2 a3 a4 a5) := by
  unfold execSegmentRetire
  with_reducible repeat' first | assumption | apply Goes.next | apply Inv.ite | apply keeps_lsRetire

theorem keeps_execSegmentTest {a2 : State} {a0 a1} (h_a2 : Inv q m a2) : Goes q m (execSegmentTest a0 a1 a2) := by
  unfold execSegmentTest
  with_reducible repeat'
    first
      | assumption | apply Goes.next | apply Inv.ite | apply Goes.ite | apply keeps_finishAct | apply keeps_lsRetire
      | apply keeps_grantAct | fail_if_no_progress apply Inv.mk'
      | (extract_lets +onlyGivenNames x; refine_lift have hx : Inv q m x := ?_; ?_; on_goal 2 => unfold x; on_goal 1 => clear_value x)
      | (extract_lets +onlyGivenNames x; clear_value x) | split

theorem keeps_execOpenLoadOn {a3 : State} {a0 a1 a2} (h_a3 : Inv q m a3) : Goes q m (execOpenLoadOn a0 a1 a2 a3) := by
  unfold execOpenLoadOn
  with_reducible repeat' first | assumption | apply Goes.next | apply Inv.ite | apply keeps_setFlag

theorem keeps_execOpenLoadOff {a3 : State} {a0 a1 a2} (h_a3 : Inv q m a3) : Goes q m (execOpenLoadOff a0 a1 a2 a3) := by
  unfold execOpenLoadOff
  with_reducible repeat' first | assumption | apply Goes.next | apply Inv.ite | apply keeps_setFlag

theorem keeps_execLsShortToSupply {a3 : State} {a0 a1 a2} (h_a3 : Inv q m a3) : Goes q m (execLsShortToSupply a0 a1 a2 a3) := by
  unfold execLsShortToSupply
  with_reducible repeat' first | assumption | apply Goes.next | apply Inv.ite | apply keeps_setFlag | apply keeps_lsEvent

theorem keeps_execStuckOn {a3 : State} {a0 a1 a2} (h_a3 : Inv q m a3) : Goes q m (execStuckOn a0 a1 a2 a3) := by
  unfold execStuckOn
  with_reducible repeat'
    first
      | assumption | apply Goes.next | apply Inv.ite | apply Goes.ite | apply keeps_groupTrip | apply keeps_setLs
      | apply keeps_lsFail | apply keeps_lsEvent | apply keeps_setFlag

theorem keeps_execFeedLow {a2 : State} {a0 a1} (h_a2 : Inv q m a2) : Goes q m (execFeedLow a0 a1 a2) := by
  unfold execFeedLow
  with_reducible repeat' first | assumption | apply Goes.next | apply Inv.ite | apply Inv.setReg | apply keeps_setFlag

theorem keeps_execFeedReturn {a2 : State} {a0 a1} (h_a2 : Inv q m a2) : Goes q m (execFeedReturn a0 a1 a2) := by
  unfold execFeedReturn
  with_reducible repeat' first | assumption | apply Goes.next | apply Inv.ite | apply Inv.setReg | apply keeps_setFlag

end Sys2Proof.Laws
end

