-- ==== Sys2Proof/Laws/KeepsSense.lean ====
section
/-!
SUPPORT. What sensing, contexts, fusion and vision keep (`Inv`), one lemma for each definition.
-/
namespace Sys2Proof.Laws
open Sys2Proof Sys2Proof.Machine

variable {q : List Instr} {m : Nat}

theorem keeps_setAin {a0 : State} {a1 a2} (h_a0 : Inv q m a0) : Inv q m (State.setAin a0 a1 a2) := by
  unfold State.setAin
  with_reducible repeat' first | assumption | fail_if_no_progress apply Inv.mk'

theorem keeps_setFin {a0 : State} {a1 a2} (h_a0 : Inv q m a0) : Inv q m (State.setFin a0 a1 a2) := by
  unfold State.setFin
  with_reducible repeat' first | assumption | fail_if_no_progress apply Inv.mk'

theorem keeps_setAcu {a0 : State} {a1 a2} (h_a0 : Inv q m a0) : Inv q m (State.setAcu a0 a1 a2) := by
  unfold State.setAcu
  with_reducible repeat' first | assumption | fail_if_no_progress apply Inv.mk'

theorem keeps_setBrg {a0 : State} {a1 a2} (h_a0 : Inv q m a0) : Inv q m (State.setBrg a0 a1 a2) := by
  unfold State.setBrg
  with_reducible repeat' first | assumption | fail_if_no_progress apply Inv.mk'

theorem keeps_inputFault {a0 : State} {a1 a2 a3} (h_a0 : Inv q m a0) : Inv q m (State.inputFault a0 a1 a2 a3) := by
  unfold State.inputFault
  with_reducible repeat' first | assumption | apply Inv.ite | apply keeps_eventKey | apply keeps_setFlag

theorem keeps_setCtx {a0 : State} {a1 a2} (h_a0 : Inv q m a0) : Inv q m (State.setCtx a0 a1 a2) := by
  unfold State.setCtx
  with_reducible repeat' first | assumption | fail_if_no_progress apply Inv.mk'

theorem keeps_setCapture {a0 : State} {a1 a2} (h_a0 : Inv q m a0) : Inv q m (State.setCapture a0 a1 a2) := by
  unfold State.setCapture
  with_reducible repeat' first | assumption | fail_if_no_progress apply Inv.mk'

theorem keeps_notePublished {a0 : State} (h_a0 : Inv q m a0) : Inv q m (State.notePublished a0) := by
  unfold State.notePublished
  with_reducible repeat' first | assumption | fail_if_no_progress apply Inv.mk'

theorem keeps_deliver {a0 : State} {a1 a2} (h_a0 : Inv q m a0) : Inv q m (State.deliver a0 a1 a2).1 := by
  unfold State.deliver
  with_reducible repeat'
    first
      | assumption | apply Inv.ite | apply Inv.setReg | apply keeps_svDeliver | apply keeps_lsSetDuty | apply keeps_canDeliver
      
      | (extract_lets +onlyGivenNames x; refine_lift have hx : Inv q m x := ?_; ?_; on_goal 2 => unfold x; on_goal 1 => clear_value x)
      | (extract_lets +onlyGivenNames x; clear_value x) | split

theorem keeps_showLoad {a0 : State} (h_a0 : Inv q m a0) : Inv q m (State.showLoad a0) := by
  unfold State.showLoad
  with_reducible repeat' first | assumption | apply Inv.setReg

theorem keeps_ctxStart {a0 : State} {a1 a2} (h_a0 : Inv q m a0) : Inv q m (State.ctxStart a0 a1 a2) := by
  unfold State.ctxStart
  with_reducible repeat' first | assumption | apply Inv.setReg | apply keeps_showLoad | apply keeps_setCtx

theorem keeps_showRehearsals {a0 : State} (h_a0 : Inv q m a0) : Inv q m (State.showRehearsals a0) := by
  unfold State.showRehearsals
  with_reducible repeat' first | assumption | apply Inv.setReg

theorem keeps_rehEnd {a0 : State} {a1 a2 a3 a4} (h_a0 : Inv q m a0) : Inv q m (State.rehEnd a0 a1 a2 a3 a4) := by
  unfold State.rehEnd
  with_reducible repeat'
    first
      | assumption | apply Inv.ite | apply Inv.setReg | apply keeps_setCtx | apply keeps_setCapture | apply keeps_finish
      | apply keeps_showRehearsals
      | (extract_lets +onlyGivenNames x; refine_lift have hx : Inv q m x := ?_; ?_; on_goal 2 => unfold x; on_goal 1 => clear_value x)
      | (extract_lets +onlyGivenNames x; clear_value x) | split

theorem keeps_rehRecord {a0 : State} {a1 a2 a3 a4} (h_a0 : Inv q m a0) : Inv q m (State.rehRecord a0 a1 a2 a3 a4) := by
  unfold State.rehRecord
  with_reducible repeat'
    first
      | assumption | apply Inv.setReg | apply keeps_setCapture | (extract_lets +onlyGivenNames x; clear_value x) | split

theorem keeps_ctxHandOver {a0 : State} {a1} (h_a0 : Inv q m a0) : Inv q m (State.ctxHandOver a0 a1) := by
  unfold State.ctxHandOver
  with_reducible repeat'
    first
      | assumption | apply Inv.ite | apply Inv.setReg | apply keeps_deliver | apply keeps_rehEnd | apply keeps_setCtx
      | apply keeps_endDisable | apply keeps_cancelCuesOnTarget | apply keeps_showLoad

theorem keeps_ctxEvent {a0 : State} {a1 a2} (h_a0 : Inv q m a0) : Inv q m (State.ctxEvent a0 a1 a2) := by
  unfold State.ctxEvent
  with_reducible repeat' first | assumption | apply Inv.ite | apply keeps_setCtx

theorem keeps_setCam {a0 : State} {a1 a2} (h_a0 : Inv q m a0) : Inv q m (State.setCam a0 a1 a2) := by
  unfold State.setCam
  with_reducible repeat' first | assumption | fail_if_no_progress apply Inv.mk'

theorem keeps_setFsync {a0 : State} {a1 a2} (h_a0 : Inv q m a0) : Inv q m (State.setFsync a0 a1 a2) := by
  unfold State.setFsync
  with_reducible repeat' first | assumption | fail_if_no_progress apply Inv.mk'

theorem keeps_setStream {a0 : State} {a1 a2} (h_a0 : Inv q m a0) : Inv q m (State.setStream a0 a1 a2) := by
  unfold State.setStream
  with_reducible repeat' first | assumption | fail_if_no_progress apply Inv.mk'

theorem keeps_retransmit {a0 : State} {a1} (h_a0 : Inv q m a0) : Inv q m (State.retransmit a0 a1) := by
  unfold State.retransmit
  with_reducible repeat' first | assumption | apply Inv.ite | apply keeps_bumpBy

theorem keeps_showRegion {a0 : State} (h_a0 : Inv q m a0) : Inv q m (State.showRegion a0) := by
  unfold State.showRegion
  with_reducible repeat' first | assumption | apply Inv.setReg

theorem keeps_fsyncPulse {a0 : State} {a1 a2} (h_a0 : Inv q m a0) : Inv q m (State.fsyncPulse a0 a1 a2) := by
  unfold State.fsyncPulse
  with_reducible repeat' first | assumption | apply Inv.ite | apply Inv.setReg | apply keeps_bump | apply keeps_setFsync

theorem keeps_fsyncSourceSet {a0 : State} {a1} (h_a0 : Inv q m a0) : Inv q m (State.fsyncSourceSet a0 a1) := by
  unfold State.fsyncSourceSet
  with_reducible repeat' first | assumption | apply Inv.ite | apply keeps_setFsync

theorem keeps_commitSet {a0 : State} {a1 a2} (h_a0 : Inv q m a0) : Inv q m (State.commitSet a0 a1 a2) := by
  unfold State.commitSet
  with_reducible repeat' first | assumption | apply Inv.setReg | apply keeps_setCam | apply keeps_finish

theorem keeps_failSet {a0 : State} {a1 a2} (h_a0 : Inv q m a0) : Inv q m (State.failSet a0 a1 a2) := by
  unfold State.failSet
  with_reducible repeat'
    first
      | assumption | apply Inv.setReg | apply keeps_setCam | apply keeps_finish | apply keeps_eventKey

theorem keeps_putFrame {a0 : State} {a1 a2} (h_a0 : Inv q m a0) : Inv q m (State.putFrame a0 a1 a2) := by
  unfold State.putFrame
  with_reducible repeat' first | assumption | apply keeps_setCam

theorem keeps_showDescriptor {a0 : State} {a1 a2 a3} (h_a0 : Inv q m a0) : Inv q m (State.showDescriptor a0 a1 a2 a3) := by
  unfold State.showDescriptor
  with_reducible repeat' first | assumption | apply Inv.setReg | apply Inv.setBlob

theorem keeps_missFrame {a0 : State} {a1 a2 a3} (h_a0 : Inv q m a0) : Inv q m (State.missFrame a0 a1 a2 a3) := by
  unfold State.missFrame
  with_reducible repeat'
    first
      | assumption | apply Inv.ite | apply keeps_showDescriptor | apply keeps_bump | apply keeps_setCam
      | fail_if_no_progress apply Inv.mk'

theorem keeps_closeFrame {a0 : State} {a1 a2 a3} (h_a0 : Inv q m a0) : Inv q m (State.closeFrame a0 a1 a2 a3) := by
  unfold State.closeFrame
  with_reducible repeat' first | assumption | apply Inv.ite | apply keeps_putFrame | apply keeps_bump

theorem keeps_passDone {a0 : State} (h_a0 : Inv q m a0) : Inv q m (State.passDone a0) := by
  unfold State.passDone
  with_reducible repeat'
    first
      | assumption | apply Inv.ite | apply keeps_putFrame | fail_if_no_progress apply Inv.mk'
      | (extract_lets +onlyGivenNames x; clear_value x) | split

theorem keeps_applyCorrections {a0 : State} {a1} (h_a0 : Inv q m a0) : Inv q m (State.applyCorrections a0 a1) := by
  unfold State.applyCorrections
  with_reducible repeat'
    first
      | assumption | apply keeps_setCam | apply keeps_settle | (refine Inv.foldl (fun _ _ _ => ?_) _ ?_)

theorem keeps_atFrameStart {a0 : State} {a1} (h_a0 : Inv q m a0) : Inv q m (State.atFrameStart a0 a1) := by
  unfold State.atFrameStart
  with_reducible repeat' first | assumption | apply Inv.ite | apply Inv.setReg | apply keeps_applyCorrections

theorem keeps_openFrame {a0 : State} {a1 a2} (h_a0 : Inv q m a0) : Inv q m (State.openFrame a0 a1 a2) := by
  unfold State.openFrame
  with_reducible repeat'
    first
      | assumption | apply Inv.ite | apply Inv.setReg | apply keeps_applyCorrections | apply keeps_missFrame
      | apply keeps_setCam | split

theorem keeps_fusionWrite {a0 : State} {a1 a2} (h_a0 : Inv q m a0) : Inv q m (State.fusionWrite a0 a1 a2) := by
  unfold State.fusionWrite
  with_reducible repeat' first | assumption | apply Inv.ite | fail_if_no_progress apply Inv.mk'

theorem keeps_setAlign {a0 : State} {a1 a2} (h_a0 : Inv q m a0) : Inv q m (State.setAlign a0 a1 a2) := by
  unfold State.setAlign
  with_reducible repeat' first | assumption | fail_if_no_progress apply Inv.mk'

theorem keeps_setFuse {a0 : State} {a1} (h_a0 : Inv q m a0) : Inv q m (State.setFuse a0 a1) := by
  unfold State.setFuse
  with_reducible repeat' first | assumption | fail_if_no_progress apply Inv.mk'

theorem keeps_alignStart {a0 : State} {a1} (h_a0 : Inv q m a0) : Inv q m (State.alignStart a0 a1) := by
  unfold State.alignStart
  with_reducible repeat' first | assumption | apply Inv.setReg | apply keeps_setAlign

theorem keeps_showAlign {a0 : State} {a1} (h_a0 : Inv q m a0) : Inv q m (State.showAlign a0 a1) := by
  unfold State.showAlign
  with_reducible repeat' first | assumption | apply Inv.setReg

theorem keeps_align {a0 : State} {a1 a2 a3} (h_a0 : Inv q m a0) : Inv q m (State.align a0 a1 a2 a3).2 := by
  unfold State.align
  with_reducible repeat'
    first
      | assumption | apply Inv.ite | apply Inv.setReg | apply keeps_setAlign | apply keeps_bump | apply keeps_eventKey
      | apply keeps_showAlign
      | (extract_lets +onlyGivenNames x; refine_lift have hx : Inv q m x := ?_; ?_; on_goal 2 => unfold x; on_goal 1 => clear_value x)
      | (extract_lets +onlyGivenNames x; clear_value x) | split | extract_lets +onlyGivenNames x

theorem keeps_showFusion {a0 : State} (h_a0 : Inv q m a0) : Inv q m (State.showFusion a0) := by
  unfold State.showFusion
  with_reducible repeat' first | assumption | apply Inv.ite | apply Inv.setReg

theorem keeps_clearWaiting {a0 : State} {a1} (h_a0 : Inv q m a0) : Inv q m (State.clearWaiting a0 a1) := by
  unfold State.clearWaiting
  with_reducible repeat'
    first
      | assumption | apply keeps_setFuse | (extract_lets +onlyGivenNames x; clear_value x) | split

theorem keeps_fuseClear {a0 : State} (h_a0 : Inv q m a0) : Inv q m (State.fuseClear a0) := by
  unfold State.fuseClear
  with_reducible repeat'
    first
      | assumption | apply keeps_clearWaiting | apply keeps_setFuse | apply keeps_showFusion | apply keeps_finishAll | apply keeps_bump

theorem keeps_fuseClearAtEnd {a0 : State} (h_a0 : Inv q m a0) : Inv q m (State.fuseClearAtEnd a0) := by
  unfold State.fuseClearAtEnd
  with_reducible repeat' first | assumption | apply Inv.ite | apply keeps_setFuse | apply keeps_fuseClear

theorem keeps_addReference {a0 : State} {a1 a2} (h_a0 : Inv q m a0) : Inv q m (State.addReference a0 a1 a2) := by
  unfold State.addReference
  with_reducible repeat' first | assumption | apply Inv.ite | apply keeps_setFuse | apply keeps_showFusion

theorem keeps_referenceAt {a0 : State} {a1 a2 a3} (h_a0 : Inv q m a0) : Inv q m (State.referenceAt a0 a1 a2 a3) := by
  unfold State.referenceAt
  with_reducible repeat' first | assumption | apply Inv.ite | apply keeps_addReference

theorem keeps_frameMissing {a0 : State} {a1} (h_a0 : Inv q m a0) : Inv q m (State.frameMissing a0 a1) := by
  unfold State.frameMissing
  with_reducible repeat' first | assumption | apply Inv.ite | apply keeps_referenceAt | apply keeps_setAlign

theorem keeps_loseFrame {a0 : State} {a1 a2 a3} (h_a0 : Inv q m a0) : Inv q m (State.loseFrame a0 a1 a2 a3) := by
  unfold State.loseFrame
  with_reducible repeat' first | assumption | apply keeps_frameMissing | apply keeps_missFrame

theorem keeps_fuseFrame {a0 : State} {a1 a2 a3 a4} (h_a0 : Inv q m a0) : Inv q m (State.fuseFrame a0 a1 a2 a3 a4) := by
  unfold State.fuseFrame
  with_reducible repeat' first | assumption | apply Inv.ite | apply keeps_setFuse | apply keeps_referenceAt

theorem keeps_projectionDrop {a0 : State} {a1} (h_a0 : Inv q m a0) : Inv q m (State.projectionDrop a0 a1) := by
  unfold State.projectionDrop
  with_reducible repeat' first | assumption | apply keeps_bump | apply keeps_setFuse

theorem keeps_stageSample {a0 : State} {a1} (h_a0 : Inv q m a0) : Inv q m (State.stageSample a0 a1) := by
  unfold State.stageSample
  with_reducible repeat'
    first
      | assumption | apply Inv.ite | apply keeps_bump | apply keeps_setFuse | (extract_lets +onlyGivenNames x; clear_value x)
      | split

theorem keeps_project {a0 : State} {a1 a2} (h_a0 : Inv q m a0) : Inv q m (State.project a0 a1 a2) := by
  unfold State.project
  with_reducible repeat' first | assumption | apply Inv.ite | apply keeps_setFuse

theorem keeps_projectionDone {a0 : State} (h_a0 : Inv q m a0) : Inv q m (State.projectionDone a0) := by
  unfold State.projectionDone
  with_reducible repeat'
    first
      | assumption | apply Inv.ite | apply keeps_setFuse | apply keeps_stageSample
      | (extract_lets +onlyGivenNames x; refine_lift have hx : Inv q m x := ?_; ?_; on_goal 2 => unfold x; on_goal 1 => clear_value x)
      | (extract_lets +onlyGivenNames x; clear_value x) | split

theorem keeps_closedStep {a0 : State} {a1 a2 a3} (h_a0 : Inv q m a0) : Inv q m (State.closedStep a0 a1 a2 a3).2 := by
  unfold State.closedStep
  with_reducible repeat'
    first
      | assumption | apply keeps_bump | apply keeps_setFuse | (refine Inv.foldl (fun _ _ _ => ?_) _ ?_)

theorem keeps_issueHeader {a0 : State} {a1 a2 a3} (h_a0 : Inv q m a0) : Inv q m (State.issueHeader a0 a1 a2 a3) := by
  unfold State.issueHeader
  with_reducible repeat' first | assumption | apply Inv.setReg | apply Inv.setBlob | apply keeps_setFuse

theorem keeps_skipStep {a0 : State} {a1} (h_a0 : Inv q m a0) : Inv q m (State.skipStep a0 a1) := by
  unfold State.skipStep
  with_reducible repeat'
    first
      | assumption | apply keeps_bump | apply keeps_issueHeader | apply keeps_stageSample | (refine Inv.foldl (fun _ _ _ => ?_) _ ?_)

theorem keeps_runStep {a0 : State} {a1} (h_a0 : Inv q m a0) : Inv q m (State.runStep a0 a1) := by
  unfold State.runStep
  with_reducible repeat'
    first
      | assumption | apply keeps_bump | apply keeps_setFuse | (refine Inv.foldl (fun _ _ _ => ?_) _ ?_)

theorem keeps_startWaiting {a0 : State} (h_a0 : Inv q m a0) : Inv q m (State.startWaiting a0) := by
  unfold State.startWaiting
  with_reducible repeat'
    first
      | assumption | apply Inv.ite | apply keeps_runStep | apply keeps_setFuse | (extract_lets +onlyGivenNames x; clear_value x) | split

theorem keeps_fuseHalt {a0 : State} (h_a0 : Inv q m a0) : Inv q m (State.fuseHalt a0) := by
  unfold State.fuseHalt
  with_reducible repeat' first | assumption | apply keeps_setFuse

theorem keeps_stopDrive {a0 : State} {a1} (h_a0 : Inv q m a0) : Inv q m (State.stopDrive a0 a1) := by
  unfold State.stopDrive
  with_reducible repeat' first | assumption | apply Inv.ite | apply keeps_lsSetDuty | apply keeps_setFuse

theorem keeps_stopNow {a0 : State} (h_a0 : Inv q m a0) : Inv q m (State.stopNow a0) := by
  unfold State.stopNow
  with_reducible repeat' first | assumption | apply Inv.ite | apply Inv.setReg | apply keeps_stopDrive | apply keeps_bump

theorem keeps_stopEvaluate {a0 : State} (h_a0 : Inv q m a0) : Inv q m (State.stopEvaluate a0) := by
  unfold State.stopEvaluate
  with_reducible repeat'
    first
      | assumption | apply Inv.ite | apply Inv.setReg | apply keeps_eventKey | apply keeps_stopNow | apply keeps_setFuse
      | apply keeps_stopDrive

theorem keeps_fuseDisable {a0 : State} (h_a0 : Inv q m a0) : Inv q m (State.fuseDisable a0) := by
  unfold State.fuseDisable
  with_reducible repeat'
    first
      | assumption | apply Inv.setReg | apply keeps_setFuse | apply keeps_fuseHalt | apply keeps_stopNow | apply keeps_finishAll

theorem keeps_fuseFault {a0 : State} (h_a0 : Inv q m a0) : Inv q m (State.fuseFault a0) := by
  unfold State.fuseFault
  with_reducible repeat'
    first
      | assumption | apply Inv.ite | apply Inv.setReg | apply keeps_eventKey | apply keeps_fuseHalt | apply keeps_fuseDisable
      | apply keeps_stopNow

theorem keeps_fusionEnableRule : RuleOk fusionEnableRule := by
  unfold fusionEnableRule
  with_reducible repeat'
    first
      | assumption | apply Inv.ite | apply Inv.setReg | apply keeps_settle | apply keeps_setFuse | apply keeps_startItem
      | apply keeps_stopNow | apply keeps_fuseDisable | apply keeps_finishAll | apply keeps_fuseHalt | apply keeps_fuseClear
      | (refine ⟨fun q m _ _ _ _ _ => ?_, fun q m _ _ _ _ => ?_⟩)

theorem keeps_fusionResetRule : RuleOk (fusionResetRule) := by
  unfold fusionResetRule
  with_reducible repeat'
    first
      | assumption | apply Inv.ite | apply keeps_startItem | apply keeps_finish | apply keeps_fuseClearAtEnd
      | apply keeps_setFuse | (refine ⟨fun q m _ _ _ _ _ => ?_, fun q m _ _ _ _ => ?_⟩)

theorem keeps_bandEnableRule : RuleOk (bandEnableRule) := by
  unfold bandEnableRule
  with_reducible repeat' first | assumption | intro q m _ _ | apply keeps_settingRule

theorem keeps_stopEnableRule : RuleOk stopEnableRule := by
  unfold stopEnableRule
  with_reducible repeat'
    first
      | assumption | apply Inv.ite | apply keeps_settle | apply keeps_stopNow
      | (refine ⟨fun q m _ _ _ _ _ => ?_, fun q m _ _ _ _ => ?_⟩)

theorem keeps_stopAcknowledgeRule : RuleOk (stopAcknowledgeRule) := by
  unfold stopAcknowledgeRule
  with_reducible repeat'
    first
      | assumption | intro q m _ _ | intro _ | apply Inv.ite | apply Inv.setReg | apply keeps_commandRule
      | apply keeps_stopDrive

theorem keeps_rule06 {a0 a1} : OptRuleOk (rule06 a0 a1) := by
  unfold rule06
  with_reducible repeat'
    first
      | assumption | intro q m _ _ | apply OptRuleOk.ite | apply OptRuleOk.none | apply OptRuleOk.some
      | apply keeps_fusionEnableRule | apply keeps_settingRule | apply keeps_fusionResetRule | apply keeps_bandEnableRule
      | apply keeps_lockedRule | apply keeps_stopEnableRule | apply keeps_stopAcknowledgeRule

theorem keeps_execFusionEnable {a2 : State} {a0 a1} (h_a2 : Inv q m a2) : Goes q m (execFusionEnable a0 a1 a2) := by
  unfold execFusionEnable
  with_reducible repeat' first | assumption | apply Goes.next | apply keeps_request | apply keeps_fusionEnableRule

theorem keeps_execFusionReset {a2 : State} {a0 a1} (h_a2 : Inv q m a2) : Goes q m (execFusionReset a0 a1 a2) := by
  unfold execFusionReset
  with_reducible repeat' first | assumption | apply Goes.next | apply keeps_request | apply keeps_fusionResetRule

theorem keeps_execStopEnable {a2 : State} {a0 a1} (h_a2 : Inv q m a2) : Goes q m (execStopEnable a0 a1 a2) := by
  unfold execStopEnable
  with_reducible repeat' first | assumption | apply Goes.next | apply keeps_request | apply keeps_stopEnableRule

theorem keeps_execStopAcknowledge {a2 : State} {a0 a1} (h_a2 : Inv q m a2) : Goes q m (execStopAcknowledge a0 a1 a2) := by
  unfold execStopAcknowledge
  with_reducible repeat' first | assumption | apply Goes.next | apply keeps_request | apply keeps_stopAcknowledgeRule

theorem keeps_dropOverdue {a0 : State} (h_a0 : Inv q m a0) : Inv q m (State.dropOverdue a0) := by
  unfold State.dropOverdue
  with_reducible repeat' first | assumption | apply keeps_projectionDrop | (refine Inv.foldl (fun _ _ _ => ?_) _ ?_)

theorem keeps_execProjectionFrame {a0 : State} (h_a0 : Inv q m a0) : Goes q m (execProjectionFrame a0) := by
  unfold execProjectionFrame
  with_reducible repeat'
    first
      | assumption | apply Goes.next | apply Goes.ite | apply keeps_dropOverdue | apply keeps_projectionDone | apply keeps_setFuse
      | apply keeps_bump | apply keeps_project | (extract_lets +onlyGivenNames x; clear_value x) | split

theorem keeps_execProjectionOverrun {a0 : State} (h_a0 : Inv q m a0) : Goes q m (execProjectionOverrun a0) := by
  unfold execProjectionOverrun
  with_reducible repeat' first | assumption | apply Goes.next | apply keeps_dropOverdue

theorem keeps_offerStep {a0 : State} {a1} (h_a0 : Inv q m a0) : Inv q m (State.offerStep a0 a1) := by
  unfold State.offerStep
  with_reducible repeat' first | assumption | apply Inv.ite | apply keeps_runStep | apply keeps_skipStep | apply keeps_setFuse | split

theorem keeps_execFusionStepClose {a0 : State} (h_a0 : Inv q m a0) : Goes q m (execFusionStepClose a0) := by
  unfold execFusionStepClose
  with_reducible repeat'
    first
      | assumption | apply Goes.next | apply Inv.ite | apply Goes.ite | apply keeps_startWaiting | apply keeps_projectionDone
      | apply keeps_setFuse | apply keeps_closedStep | apply keeps_skipStep | apply keeps_showFusion | apply keeps_offerStep
      | (extract_lets +onlyGivenNames x; refine_lift have hx : Inv q m x := ?_; ?_; on_goal 2 => unfold x; on_goal 1 => clear_value x)
      | (extract_lets +onlyGivenNames x; refine_lift have hx : Inv q m x.2 := ?_; ?_; on_goal 2 => unfold x; on_goal 1 => clear_value x)
      | (extract_lets +onlyGivenNames x; clear_value x) | split

theorem keeps_networkFree {a0 : State} (h_a0 : Inv q m a0) : Inv q m (State.networkFree a0) := by
  unfold State.networkFree
  with_reducible repeat'
    first
      | assumption | apply Inv.ite | apply keeps_setFuse | apply keeps_fuseDisable | apply keeps_showFusion | apply keeps_startWaiting
      | apply keeps_fuseClear

theorem keeps_overrunStep {a0 : State} {a1} (h_a0 : Inv q m a0) : Inv q m (State.overrunStep a0 a1) := by
  unfold State.overrunStep
  with_reducible repeat'
    first
      | assumption | apply keeps_networkFree | apply keeps_eventKey | apply keeps_bump | apply keeps_issueHeader

theorem keeps_publishSpout {a0 : State} {a1} (h_a0 : Inv q m a0) : Inv q m (State.publishSpout a0 a1) := by
  unfold State.publishSpout
  with_reducible repeat' first | assumption | apply Inv.ite | apply keeps_publish | fail_if_no_progress apply Inv.mk'

theorem keeps_execNetworkRunEnd {a5 : State} {a0 a1 a2 a3 a4} (h_a5 : Inv q m a5) : Goes q m (execNetworkRunEnd a0 a1 a2 a3 a4 a5) := by
  unfold execNetworkRunEnd
  with_reducible repeat'
    first
      | assumption | apply Goes.next | apply Goes.ite | apply Inv.setBlob | apply keeps_overrunStep | apply keeps_issueHeader
      | apply keeps_setFuse | apply keeps_networkFree | apply keeps_publishSpout | (extract_lets +onlyGivenNames x; clear_value x)
      | split

theorem keeps_execStepOverrun {a0 : State} (h_a0 : Inv q m a0) : Goes q m (execStepOverrun a0) := by
  unfold execStepOverrun
  with_reducible repeat' first | assumption | apply Goes.next | apply Inv.ite | apply keeps_overrunStep | split

theorem keeps_execStepFreeRun {a0 : State} (h_a0 : Inv q m a0) : Goes q m (execStepFreeRun a0) := by
  unfold execStepFreeRun
  with_reducible repeat' first | assumption | apply Goes.next | apply Inv.ite | apply keeps_addReference | split

theorem keeps_execStateHoldLimit {a0 : State} (h_a0 : Inv q m a0) : Goes q m (execStateHoldLimit a0) := by
  unfold execStateHoldLimit
  with_reducible repeat' first | assumption | apply Goes.next | apply Inv.ite | apply keeps_fuseClearAtEnd | split

theorem keeps_execBandWrite {a0 : State} (h_a0 : Inv q m a0) : Goes q m (execBandWrite a0) := by
  unfold execBandWrite
  with_reducible repeat'
    first
      | assumption | apply Goes.next | apply Inv.ite | apply Goes.ite | apply keeps_setFuse | apply keeps_bump
      | apply keeps_countReject | apply keeps_lineAdd | (refine Inv.foldl (fun _ _ _ => ?_) _ ?_)
      | (extract_lets +onlyGivenNames x; refine_lift have hx : Inv q m x := ?_; ?_; on_goal 2 => unfold x; on_goal 1 => clear_value x)
      | (extract_lets +onlyGivenNames x; clear_value x) | split

theorem keeps_execStopHoldEnd {a0 : State} (h_a0 : Inv q m a0) : Goes q m (execStopHoldEnd a0) := by
  unfold execStopHoldEnd
  with_reducible repeat' first | assumption | apply Goes.next | apply keeps_stopEvaluate

theorem keeps_execStopWatchdog {a0 : State} (h_a0 : Inv q m a0) : Goes q m (execStopWatchdog a0) := by
  unfold execStopWatchdog
  with_reducible repeat' first | assumption | apply Goes.next | apply keeps_stopEvaluate

theorem keeps_execStopCanFrame {a0 : State} (h_a0 : Inv q m a0) : Goes q m (execStopCanFrame a0) := by
  unfold execStopCanFrame
  with_reducible repeat' first | assumption | apply Goes.next | apply Goes.ite | apply keeps_setFuse | apply keeps_canService

theorem keeps_sensorOff {a0 : State} {a1} (h_a0 : Inv q m a0) : Inv q m (State.sensorOff a0 a1) := by
  unfold State.sensorOff
  with_reducible repeat'
    first
      | assumption | apply Inv.setReg | apply keeps_setCam | apply keeps_setFuse | apply keeps_showRegion
      | apply keeps_endDisable | fail_if_no_progress apply Inv.mk'

theorem keeps_sensorEnableRule {a0} : RuleOk (sensorEnableRule a0) := by
  unfold sensorEnableRule
  with_reducible repeat'
    first
      | assumption | apply Inv.ite | apply keeps_settle | apply keeps_beginDisable | apply keeps_startItem
      | apply keeps_sensorOff | apply keeps_setCam | apply keeps_showRegion | apply keeps_alignStart
      | (refine ⟨fun q m _ _ _ _ _ => ?_, fun q m _ _ _ _ => ?_⟩)

theorem keeps_portLink {a0 : State} {a1} (h_a0 : Inv q m a0) : Inv q m (State.portLink a0 a1) := by
  unfold State.portLink
  with_reducible repeat' first | assumption | apply Inv.ite | apply Inv.setReg

theorem keeps_camPortRule {a0 a1} : RuleOk (camPortRule a0 a1) := by
  unfold camPortRule
  with_reducible repeat'
    first
      | assumption | apply Inv.ite | apply RuleOk.ite | apply Inv.setReg | apply keeps_portLink | apply keeps_settle
      | apply keeps_lockedRule | fail_if_no_progress apply Inv.mk' | (refine ⟨fun q m _ _ _ _ _ => ?_, fun q m _ _ _ _ => ?_⟩)

theorem keeps_inlineBypassRule : RuleOk (inlineBypassRule) := by
  unfold inlineBypassRule
  with_reducible repeat' first | assumption | intro q m _ _ | apply Inv.ite | apply Inv.setReg | apply keeps_settingRule

theorem keeps_inlineSensorRule : RuleOk (inlineSensorRule) := by
  unfold inlineSensorRule
  with_reducible repeat' first | assumption | intro q m _ _ | apply keeps_settingRule

theorem keeps_correctionRule {a0 a1 a2} : RuleOk (correctionRule a0 a1 a2) := by
  unfold correctionRule
  with_reducible repeat'
    first
      | assumption | apply Inv.ite | apply keeps_setCam | apply keeps_settle
      | (refine ⟨fun q m _ _ _ _ _ => ?_, fun q m _ _ _ _ => ?_⟩)

theorem keeps_settingsCommitRule {a0} : RuleOk (settingsCommitRule a0) := by
  unfold settingsCommitRule
  with_reducible repeat'
    first
      | assumption | apply Inv.setReg | apply keeps_setCam | (refine ⟨fun q m _ _ _ _ _ => ?_, fun q m _ _ _ _ => ?_⟩)

theorem keeps_streamEnableRule {a0} : RuleOk (streamEnableRule a0) := by
  unfold streamEnableRule
  with_reducible repeat'
    first
      | assumption | apply Inv.ite | apply keeps_setStream | apply keeps_showRegion | apply keeps_settle
      | (refine ⟨fun q m _ _ _ _ _ => ?_, fun q m _ _ _ _ => ?_⟩)

theorem keeps_fsyncRule {a0 a1} : RuleOk (fsyncRule a0 a1) := by
  unfold fsyncRule
  with_reducible repeat' first | assumption | intro q m _ _ | apply keeps_settingRule | apply keeps_fsyncSourceSet

theorem keeps_parallelRule {a0} : RuleOk (parallelRule a0) := by
  unfold parallelRule
  with_reducible repeat' first | assumption | intro q m _ _ | apply Inv.ite | apply keeps_settingRule | apply keeps_portLink

theorem keeps_rule07 {a0 a1} : OptRuleOk (rule07 a0 a1) := by
  unfold rule07
  with_reducible repeat'
    first
      | assumption | intro q m _ _ | apply OptRuleOk.ite | apply OptRuleOk.none | apply OptRuleOk.some | apply keeps_sensorEnableRule
      | apply keeps_inlineSensorRule | apply keeps_inlineBypassRule | apply keeps_camPortRule | apply keeps_parallelRule
      | apply keeps_settingRule | apply keeps_correctionRule | apply keeps_lockedRule | apply keeps_settingsCommitRule
      | apply keeps_fsyncRule | apply keeps_streamEnableRule

theorem keeps_execSensorEnable {a3 : State} {a0 a1 a2} (h_a3 : Inv q m a3) : Goes q m (execSensorEnable a0 a1 a2 a3) := by
  unfold execSensorEnable
  with_reducible repeat' first | assumption | apply Goes.next | apply keeps_request | apply keeps_sensorEnableRule

theorem keeps_execStreamEnable {a3 : State} {a0 a1 a2} (h_a3 : Inv q m a3) : Goes q m (execStreamEnable a0 a1 a2 a3) := by
  unfold execStreamEnable
  with_reducible repeat' first | assumption | apply Goes.next | apply keeps_request | apply keeps_streamEnableRule

theorem keeps_execInlineBypass {a2 : State} {a0 a1} (h_a2 : Inv q m a2) : Goes q m (execInlineBypass a0 a1 a2) := by
  unfold execInlineBypass
  with_reducible repeat' first | assumption | apply Goes.next | apply keeps_request | apply keeps_inlineBypassRule

theorem keeps_execCorrectionWrite {a5 : State} {a0 a1 a2 a3 a4} (h_a5 : Inv q m a5) : Goes q m (execCorrectionWrite a0 a1 a2 a3 a4 a5) := by
  unfold execCorrectionWrite
  with_reducible repeat' first | assumption | apply Goes.next | apply keeps_request | apply keeps_correctionRule

theorem keeps_execSettingsCommit {a3 : State} {a0 a1 a2} (h_a3 : Inv q m a3) : Goes q m (execSettingsCommit a0 a1 a2 a3) := by
  unfold execSettingsCommit
  with_reducible repeat' first | assumption | apply Goes.next | apply keeps_request | apply keeps_settingsCommitRule

theorem keeps_afterReadout {a0 : State} {a1} (h_a0 : Inv q m a0) : Inv q m (State.afterReadout a0 a1) := by
  unfold State.afterReadout
  with_reducible repeat' first | assumption | apply Inv.ite | apply keeps_sensorOff

theorem keeps_ignorePacket {a0 : State} {a1} (h_a0 : Inv q m a0) : Inv q m (State.ignorePacket a0 a1) := by
  unfold State.ignorePacket
  with_reducible repeat' first | assumption | apply keeps_bump

theorem keeps_ignoreUnmapped {a0 : State} {a1} (h_a0 : Inv q m a0) : Inv q m (State.ignoreUnmapped a0 a1) := by
  unfold State.ignoreUnmapped
  with_reducible repeat' first | assumption | apply keeps_ignorePacket | split

theorem keeps_freeVisionBuffer {a0 : State} {a1} (h_a0 : Inv q m a0) : Inv q m (State.freeVisionBuffer a0 a1) := by
  unfold State.freeVisionBuffer
  with_reducible repeat' first | assumption | apply Inv.ite | apply keeps_projectionDrop | split

theorem keeps_frameStart {a0 : State} {a1 a2} (h_a0 : Inv q m a0) : Inv q m (State.frameStart a0 a1 a2) := by
  unfold State.frameStart
  with_reducible repeat'
    first
      | assumption | apply Inv.ite | apply keeps_atFrameStart | apply keeps_loseFrame | apply keeps_freeVisionBuffer
      | apply keeps_openFrame | split

theorem keeps_execFrameStart {a3 : State} {a0 a1 a2} (h_a3 : Inv q m a3) : Goes q m (execFrameStart a0 a1 a2 a3) := by
  unfold execFrameStart
  with_reducible repeat'
    first
      | assumption | apply Goes.next | apply Inv.ite | apply Goes.ite | apply keeps_retransmit | apply keeps_ignoreUnmapped
      | apply keeps_afterReadout | apply keeps_closeFrame | apply keeps_frameStart
      | (extract_lets +onlyGivenNames x; refine_lift have hx : Inv q m x := ?_; ?_; on_goal 2 => unfold x; on_goal 1 => clear_value x)
      | split

theorem keeps_embeddedLine {a0 : State} {a1 a2 a3} (h_a0 : Inv q m a0) : Inv q m (State.embeddedLine a0 a1 a2 a3) := by
  unfold State.embeddedLine
  with_reducible repeat' first | assumption | apply keeps_putFrame

theorem keeps_execImageLine {a7 : State} {a0 a1 a2 a3 a4 a5 a6} (h_a7 : Inv q m a7) : Goes q m (execImageLine a0 a1 a2 a3 a4 a5 a6 a7) := by
  unfold execImageLine
  with_reducible repeat'
    first
      | assumption | apply Goes.next | apply Goes.ite | apply keeps_ignoreUnmapped | apply keeps_ignorePacket | apply keeps_bump
      | apply keeps_putFrame | apply keeps_embeddedLine | (extract_lets +onlyGivenNames x; clear_value x) | split

theorem keeps_execEmbeddedDataLine {a4 : State} {a0 a1 a2 a3} (h_a4 : Inv q m a4) : Goes q m (execEmbeddedDataLine a0 a1 a2 a3 a4) := by
  unfold execEmbeddedDataLine
  with_reducible repeat'
    first
      | assumption | apply Goes.next | apply Inv.ite | apply Goes.ite | apply keeps_ignoreUnmapped | apply keeps_ignorePacket
      | apply keeps_embeddedLine | split

theorem keeps_execFrameEnd {a3 : State} {a0 a1 a2} (h_a3 : Inv q m a3) : Goes q m (execFrameEnd a0 a1 a2 a3) := by
  unfold execFrameEnd
  with_reducible repeat'
    first
      | assumption | apply Goes.next | apply Inv.ite | apply Goes.ite | apply keeps_ignoreUnmapped | apply keeps_afterReadout
      | apply keeps_closeFrame | split

theorem keeps_execNoStart {a1 : State} {a0} (h_a1 : Inv q m a1) : Goes q m (execNoStart a0 a1) := by
  unfold execNoStart
  with_reducible repeat'
    first
      | assumption | apply Goes.next | apply Goes.ite | apply keeps_setCam | apply keeps_showDescriptor | apply keeps_frameMissing
      | apply keeps_bump | split

theorem keeps_execOutputDeadline {a1 : State} {a0} (h_a1 : Inv q m a1) : Goes q m (execOutputDeadline a0 a1) := by
  unfold execOutputDeadline
  with_reducible repeat' first | assumption | apply Goes.next | apply Inv.ite | apply keeps_loseFrame | apply keeps_afterReadout | split

theorem keeps_execMemoryPassFrame {a0 : State} (h_a0 : Inv q m a0) : Goes q m (execMemoryPassFrame a0) := by
  unfold execMemoryPassFrame
  with_reducible repeat'
    first
      | assumption | apply Goes.next | apply Goes.ite | apply keeps_passDone | apply keeps_freeVisionBuffer | apply keeps_putFrame
      | fail_if_no_progress apply Inv.mk' | split

theorem keeps_feedStreams {a0 : State} {a1 a2 a3} (h_a0 : Inv q m a0) : Inv q m (State.feedStreams a0 a1 a2 a3) := by
  unfold State.feedStreams
  with_reducible repeat' first | assumption | apply Inv.ite | apply keeps_setStream | (refine Inv.foldl (fun _ _ _ => ?_) _ ?_)

theorem keeps_displayOutput {a0 : State} {a1 a2 a3} (h_a0 : Inv q m a0) : Inv q m (State.displayOutput a0 a1 a2 a3) := by
  unfold State.displayOutput
  with_reducible repeat'
    first
      | assumption | apply Inv.ite | apply keeps_setCam | apply keeps_bump | (refine Inv.foldl (fun _ _ _ => ?_) _ ?_)

theorem keeps_newOutput {a0 : State} {a1 a2} (h_a0 : Inv q m a0) : Inv q m (State.newOutput a0 a1 a2) := by
  unfold State.newOutput
  with_reducible repeat' first | assumption | apply keeps_setCam

theorem keeps_issueFrame {a0 : State} {a1 a2} (h_a0 : Inv q m a0) : Inv q m (State.issueFrame a0 a1 a2) := by
  unfold State.issueFrame
  with_reducible repeat'
    first
      | assumption | apply Inv.ite | apply Inv.setBlob | apply keeps_align | apply keeps_showDescriptor | apply keeps_setCam
      | apply keeps_newOutput | apply keeps_displayOutput | apply keeps_feedStreams | apply keeps_bump | apply keeps_frameMissing
      | apply keeps_fuseFrame | apply keeps_referenceAt | split

theorem keeps_execFrameDescriptorIssue {a1 : State} {a0} (h_a1 : Inv q m a1) : Goes q m (execFrameDescriptorIssue a0 a1) := by
  unfold execFrameDescriptorIssue
  with_reducible repeat'
    first
      | assumption | apply Goes.next | apply keeps_passDone | apply keeps_issueFrame
      | (extract_lets +onlyGivenNames x; refine_lift have hx : Inv q m x := ?_; ?_; on_goal 2 => unfold x; on_goal 1 => clear_value x)
      | split

theorem keeps_execAphyLinkDrop {a1 : State} {a0} (h_a1 : Inv q m a1) : Goes q m (execAphyLinkDrop a0 a1) := by
  unfold execAphyLinkDrop
  with_reducible repeat'
    first
      | assumption | apply Goes.next | apply Inv.ite | apply Inv.setReg | apply keeps_eventKey | apply keeps_bump

theorem keeps_execAphyLinkUp {a2 : State} {a0 a1} (h_a2 : Inv q m a2) : Goes q m (execAphyLinkUp a0 a1 a2) := by
  unfold execAphyLinkUp
  with_reducible repeat' first | assumption | apply Goes.next | apply Inv.ite | apply Inv.setReg

theorem keeps_execPocTrip {a2 : State} {a0 a1} (h_a2 : Inv q m a2) : Goes q m (execPocTrip a0 a1 a2) := by
  unfold execPocTrip
  with_reducible repeat' first | assumption | apply Goes.next | apply Inv.ite | apply Inv.setReg | apply keeps_eventKey

theorem keeps_execPclkAbsent {a2 : State} {a0 a1} (h_a2 : Inv q m a2) : Goes q m (execPclkAbsent a0 a1 a2) := by
  unfold execPclkAbsent
  with_reducible repeat'
    first
      | assumption | apply Goes.next | apply Goes.ite | apply Inv.setReg | apply keeps_eventKey
      | fail_if_no_progress apply Inv.mk'

theorem keeps_execFsyncPeriodicPulse {a1 : State} {a0} (h_a1 : Inv q m a1) : Goes q m (execFsyncPeriodicPulse a0 a1) := by
  unfold execFsyncPeriodicPulse
  with_reducible repeat'
    first
      | assumption | apply Goes.next | apply Inv.ite | apply keeps_bump | apply keeps_fsyncPulse | split

theorem keeps_execInlinePathFault {a0 : State} (h_a0 : Inv q m a0) : Goes q m (execInlinePathFault a0) := by
  unfold execInlinePathFault
  with_reducible repeat' first | assumption | apply Goes.next | apply Inv.ite | apply Inv.setReg | apply keeps_eventKey

theorem keeps_execSettingsSend {a1 : State} {a0} (h_a1 : Inv q m a1) : Goes q m (execSettingsSend a0 a1) := by
  unfold execSettingsSend
  with_reducible repeat'
    first
      | assumption | apply Goes.next | apply Inv.ite | apply Inv.setReg | apply keeps_setCam | apply keeps_startItem
      | (extract_lets +onlyGivenNames x; clear_value x) | split

theorem keeps_execI2cWriteAck {a2 : State} {a0 a1} (h_a2 : Inv q m a2) : Goes q m (execI2cWriteAck a0 a1 a2) := by
  unfold execI2cWriteAck
  with_reducible repeat'
    first
      | assumption | apply Goes.next | apply Inv.ite | apply Goes.ite | apply keeps_commitSet | apply keeps_setCam
      | apply keeps_failSet | (extract_lets +onlyGivenNames x; clear_value x) | split

theorem keeps_execEncodePicture {a2 : State} {a0 a1} (h_a2 : Inv q m a2) : Goes q m (execEncodePicture a0 a1 a2) := by
  unfold execEncodePicture
  with_reducible repeat'
    first
      | assumption | apply Goes.next | apply Goes.ite | apply keeps_bump | apply keeps_setStream
      | fail_if_no_progress refine Inv.drawn ?_ (by omega)
      | (extract_lets +onlyGivenNames x; refine_lift have hx : Inv q m x := ?_; ?_; on_goal 2 => unfold x; on_goal 1 => clear_value x)
      | (extract_lets +onlyGivenNames x; clear_value x) | split

theorem keeps_ctxEnableRule {a0} : RuleOk (ctxEnableRule a0) := by
  unfold ctxEnableRule
  with_reducible repeat'
    first
      | assumption | apply Inv.ite | apply keeps_beginDisable | apply keeps_startItem | apply keeps_settle
      | apply keeps_ctxStart | (refine ⟨fun q m _ _ _ _ _ => ?_, fun q m _ _ _ _ => ?_⟩)
      | (extract_lets +onlyGivenNames x; refine_lift have hx : Inv q m x := ?_; ?_; on_goal 2 => unfold x; on_goal 1 => clear_value x)
      | split

theorem keeps_ctxEntryRule {a0 a1 a2} : RuleOk (ctxEntryRule a0 a1 a2) := by
  unfold ctxEntryRule
  with_reducible repeat'
    first
      | assumption | apply Inv.ite | apply keeps_setCtx | apply keeps_settle
      | (refine ⟨fun q m _ _ _ _ _ => ?_, fun q m _ _ _ _ => ?_⟩)

theorem keeps_rehStartRule {a0} : RuleOk (rehStartRule a0) := by
  unfold rehStartRule
  with_reducible repeat'
    first
      | assumption | apply Inv.setReg | apply keeps_setCapture | apply keeps_setCtx | apply keeps_startItem
      | apply keeps_showRehearsals | (refine ⟨fun q m _ _ _ _ _ => ?_, fun q m _ _ _ _ => ?_⟩) | split
      | extract_lets +onlyGivenNames x | dsimp -zeta only [id]

theorem keeps_rehStopRule {a0} : RuleOk (rehStopRule a0) := by
  unfold rehStopRule
  with_reducible repeat'
    first
      | assumption | apply Inv.ite | apply keeps_finish | apply keeps_rehEnd | apply keeps_setCtx
      | (refine ⟨fun q m _ _ _ _ _ => ?_, fun q m _ _ _ _ => ?_⟩) | (extract_lets +onlyGivenNames x; clear_value x) | split
      | extract_lets +onlyGivenNames x | dsimp -zeta only [id]

theorem keeps_stickyClearRule {a0} : RuleOk (stickyClearRule a0) := by
  have h : RuleOk (commandRule (fun _ _ => none) (fun s d =>
      s.setReg (K.stickyFlags a0) (s.regN (K.stickyFlags a0) - Nat.land (s.regN (K.stickyFlags a0)) (wval d) : Nat))) :=
    keeps_commandRule (fun _ _ _ _ h => h.setReg _ _)
  exact ⟨h.effect, h.refused⟩

theorem keeps_rule08 {a0 a1} : OptRuleOk (rule08 a0 a1) := by
  unfold rule08
  with_reducible repeat'
    first
      | apply OptRuleOk.ite | apply OptRuleOk.none | apply OptRuleOk.some | apply keeps_ctxEnableRule | apply keeps_rehStartRule
      | apply keeps_rehStopRule | apply keeps_stickyClearRule | apply keeps_ctxEntryRule

theorem keeps_execCtxEnable {a2 : State} {a0 a1} (h_a2 : Inv q m a2) : Goes q m (execCtxEnable a0 a1 a2) := by
  unfold execCtxEnable
  with_reducible repeat' first | assumption | apply Goes.next | apply keeps_request | apply keeps_ctxEnableRule

theorem keeps_execCtxDisable {a2 : State} {a0 a1} (h_a2 : Inv q m a2) : Goes q m (execCtxDisable a0 a1 a2) := by
  unfold execCtxDisable
  with_reducible repeat' first | assumption | apply Goes.next | apply keeps_request | apply keeps_ctxEnableRule

theorem keeps_execCtxMode {a3 : State} {a0 a1 a2} (h_a3 : Inv q m a3) : Goes q m (execCtxMode a0 a1 a2 a3) := by
  unfold execCtxMode
  with_reducible repeat' first | assumption | apply Goes.next | apply keeps_request | apply keeps_ctxEntryRule

theorem keeps_execContextEntryWrite {a4 : State} {a0 a1 a2 a3} (h_a4 : Inv q m a4) : Goes q m (execContextEntryWrite a0 a1 a2 a3 a4) := by
  unfold execContextEntryWrite
  with_reducible repeat'
    first
      | assumption | intro q m _ _ | apply Goes.next | apply keeps_request | apply keeps_rule08 | apply keeps_settingRule
      | refine OptRuleOk.get ?_ (by assumption) | (refine ⟨fun q m _ _ _ _ _ => ?_, fun q m _ _ _ _ => ?_⟩) | split
      | refine RuleOk.effect ?_ _ _ _ _ _ _ ?_ | refine RuleOk.refused ?_ _ _ _ _ _ ?_

theorem keeps_execRehearsalStart {a3 : State} {a0 a1 a2} (h_a3 : Inv q m a3) : Goes q m (execRehearsalStart a0 a1 a2 a3) := by
  unfold execRehearsalStart
  with_reducible repeat' first | assumption | apply Goes.next | apply keeps_request | apply keeps_rehStartRule

theorem keeps_execRehearsalStop {a3 : State} {a0 a1 a2} (h_a3 : Inv q m a3) : Goes q m (execRehearsalStop a0 a1 a2 a3) := by
  unfold execRehearsalStop
  with_reducible repeat' first | assumption | apply Goes.next | apply keeps_request | apply keeps_rehStopRule

theorem keeps_execStickyClear {a3 : State} {a0 a1 a2} (h_a3 : Inv q m a3) : Goes q m (execStickyClear a0 a1 a2 a3) := by
  unfold execStickyClear
  with_reducible repeat' first | assumption | apply Goes.next | apply keeps_request | apply keeps_stickyClearRule

theorem keeps_execNotTriggered {a1 : State} {a0} (h_a1 : Inv q m a1) : Goes q m (execNotTriggered a0 a1) := by
  unfold execNotTriggered
  with_reducible repeat' first | assumption | apply Goes.next | apply Inv.ite | apply keeps_rehEnd | split

theorem keeps_execFallbackEntry {a1 : State} {a0} (h_a1 : Inv q m a1) : Goes q m (execFallbackEntry a0 a1) := by
  unfold execFallbackEntry
  with_reducible repeat'
    first
      | assumption | apply Goes.next | apply Inv.ite | apply Inv.setReg | apply keeps_eventKey | apply keeps_rehEnd

theorem keeps_execFallbackExit {a1 : State} {a0} (h_a1 : Inv q m a1) : Goes q m (execFallbackExit a0 a1) := by
  unfold execFallbackExit
  with_reducible repeat' first | assumption | apply Goes.next | apply Inv.ite | apply Inv.setReg

theorem keeps_ctxApplyWrites {a0 : State} {a1} (h_a0 : Inv q m a0) : Inv q m (State.ctxApplyWrites a0 a1) := by
  unfold State.ctxApplyWrites
  with_reducible repeat'
    first
      | assumption | apply Inv.ite | apply Inv.setReg | apply keeps_setCtx | apply keeps_finish | apply keeps_settle
      | (refine Inv.foldl (fun _ _ _ => ?_) _ ?_) | (extract_lets +onlyGivenNames x; clear_value x) | split

theorem keeps_ctxApplyEvent {a0 : State} {a1 a2} (h_a0 : Inv q m a0) : Inv q m (State.ctxApplyEvent a0 a1 a2) := by
  unfold State.ctxApplyEvent
  with_reducible repeat'
    first
      | assumption | apply Inv.ite | apply Inv.setReg | apply keeps_bump | apply keeps_setFlag | apply keeps_setCtx
      | (extract_lets +onlyGivenNames x; refine_lift have hx : Inv q m x := ?_; ?_; on_goal 2 => unfold x; on_goal 1 => clear_value x)
      | (extract_lets +onlyGivenNames x; clear_value x) | split

theorem keeps_ctxApplyEvents {a0 : State} {a1} (h_a0 : Inv q m a0) : Inv q m (State.ctxApplyEvents a0 a1) := by
  unfold State.ctxApplyEvents
  with_reducible repeat'
    first
      | assumption | apply keeps_setCtx | apply keeps_ctxApplyEvent | (refine Inv.foldl (fun _ _ _ => ?_) _ ?_)

theorem keeps_rehStep {a0 : State} {a1 a2 a3 a4} (h_a0 : Inv q m a0) : Inv q m (State.rehStep a0 a1 a2 a3 a4) := by
  unfold State.rehStep
  with_reducible repeat'
    first
      | assumption | apply Inv.ite | apply Inv.setReg | apply keeps_rehEnd | apply keeps_rehRecord | apply keeps_setCtx

theorem keeps_ctxOutput {a0 : State} {a1 a2} (h_a0 : Inv q m a0) : Inv q m (State.ctxOutput a0 a1 a2).1 := by
  unfold State.ctxOutput
  with_reducible repeat'
    first
      | assumption | apply keeps_setCtx | apply keeps_deliver
      | (extract_lets +onlyGivenNames x; refine_lift have hx : Inv q m x := ?_; ?_; on_goal 2 => unfold x; on_goal 1 => clear_value x)
      | split

theorem keeps_ctxShow {a0 : State} {a1 a2 a3 a4} (h_a0 : Inv q m a0) : Inv q m (State.ctxShow a0 a1 a2 a3 a4) := by
  unfold State.ctxShow
  with_reducible repeat'
    first
      | assumption | apply Inv.setReg | apply keeps_bump | apply keeps_rehStep
      | (extract_lets +onlyGivenNames x; refine_lift have hx : Inv q m x := ?_; ?_; on_goal 2 => unfold x; on_goal 1 => clear_value x)
      | split

theorem keeps_ctxEvaluate {s : State} {n : Nat} {b : Bool} (h : Inv q m s) : Inv q m (s.ctxEvaluate n b) := by
  unfold State.ctxEvaluate
  extract_lets
  exact keeps_ctxShow (keeps_ctxOutput h)

theorem keeps_execContextSample {a2 : State} {a0 a1} (h_a2 : Inv q m a2) : Goes q m (execContextSample a0 a1 a2) := by
  unfold execContextSample
  with_reducible repeat'
    first
      | assumption | apply Goes.next | apply Inv.ite | apply Goes.ite | apply Inv.setReg | apply keeps_ctxHandOver
      | apply keeps_ctxApplyWrites | apply keeps_setFlag | apply keeps_eventKey | apply keeps_setCtx | apply keeps_bump
      | apply keeps_ctxApplyEvents | apply keeps_rehEnd | apply keeps_ctxEvaluate

end Sys2Proof.Laws
end

