-- ==== Sys2Proof/Laws/KeepsWork.lean ====
section
/-!
SUPPORT. What cues, the estimator, axes, sections, solenoids and sensing commands keep (`Inv`), one lemma for each definition.
-/
namespace Sys2Proof.Laws
open Sys2Proof Sys2Proof.Machine

variable {q : List Instr} {m : Nat}

theorem keeps_setTile {a0 : State} {a1 a2} (h_a0 : Inv q m a0) : Inv q m (State.setTile a0 a1 a2) := by
  unfold State.setTile
  with_reducible repeat' first | assumption | fail_if_no_progress apply Inv.mk'

theorem keeps_armCue {a0 : State} {a1 a2 a3 a4} (h_a0 : Inv q m a0) : Inv q m (State.armCue a0 a1 a2 a3 a4) := by
  unfold State.armCue
  with_reducible repeat' first | assumption | apply Inv.setReg | apply keeps_setCue

theorem keeps_markEvaluated {a0 : State} {a1} (h_a0 : Inv q m a0) : Inv q m (State.markEvaluated a0 a1) := by
  unfold State.markEvaluated
  with_reducible repeat' first | assumption | apply Inv.ite | apply keeps_setCue

theorem keeps_setSection {a0 : State} {a1 a2} (h_a0 : Inv q m a0) : Inv q m (State.setSection a0 a1 a2) := by
  unfold State.setSection
  with_reducible repeat' first | assumption | fail_if_no_progress apply Inv.mk'

theorem keeps_sectionSet {a0 : State} {a1 a2 a3} (h_a0 : Inv q m a0) : Inv q m (State.sectionSet a0 a1 a2 a3) := by
  unfold State.sectionSet
  with_reducible repeat' first | assumption | apply Inv.ite | apply Inv.setReg | apply keeps_setSection

theorem keeps_takeAction {a0 : State} {a1} (h_a0 : Inv q m a0) : Inv q m (State.takeAction a0 a1) := by
  unfold State.takeAction
  with_reducible repeat'
    first
      | assumption | apply Inv.ite | apply keeps_svStart | apply keeps_svRelease | apply keeps_lsSetDuty
      | apply keeps_ctxEvent | apply keeps_canSlotSend | apply keeps_fsyncPulse | apply keeps_offerAt | split

theorem keeps_deliverAct {a0 : State} {a1} (h_a0 : Inv q m a0) : Inv q m (State.deliverAct a0 a1) := by
  unfold State.deliverAct
  with_reducible repeat' first | assumption | apply keeps_takeAction | fail_if_no_progress apply Inv.mk'

theorem keeps_dispatch {a0 : State} {a1} (h_a0 : Inv q m a0) : Inv q m (State.dispatch a0 a1) := by
  unfold State.dispatch
  with_reducible repeat'
    first
      | assumption | apply Inv.ite | apply keeps_bump | apply keeps_deliverAct | fail_if_no_progress apply Inv.mk'

theorem keeps_runDeferred {a0 : State} (h_a0 : Inv q m a0) : Inv q m (State.runDeferred a0) := by
  unfold State.runDeferred
  with_reducible repeat'
    first
      | assumption | apply keeps_deliverAct | fail_if_no_progress apply Inv.mk' | (refine Inv.foldl (fun _ _ _ => ?_) _ ?_)

theorem keeps_sectionFire {a0 : State} {a1} (h_a0 : Inv q m a0) : Inv q m (State.sectionFire a0 a1).2 := by
  unfold State.sectionFire
  with_reducible repeat'
    first
      | assumption | apply Inv.ite | apply keeps_sectionSet | apply keeps_bump
      | (extract_lets +onlyGivenNames x; refine_lift have hx : Inv q m x := ?_; ?_; on_goal 2 => unfold x; on_goal 1 => clear_value x)
      | (extract_lets +onlyGivenNames x; clear_value x) | split

theorem keeps_sectionTargetFailed {a0 : State} {a1} (h_a0 : Inv q m a0) : Inv q m (State.sectionTargetFailed a0 a1) := by
  unfold State.sectionTargetFailed
  with_reducible repeat' first | assumption | apply Inv.ite | apply keeps_sectionSet

theorem keeps_fireCue {a0 : State} {a1} (h_a0 : Inv q m a0) : Inv q m (State.fireCue a0 a1) := by
  unfold State.fireCue
  with_reducible repeat'
    first
      | assumption | apply Inv.ite | apply keeps_endCue | apply keeps_sectionTargetFailed | apply keeps_sectionFire
      | apply keeps_dispatch | apply keeps_bump | apply keeps_setCue | split

theorem keeps_evalCue {a0 : State} {a1} (h_a0 : Inv q m a0) : Inv q m (State.evalCue a0 a1) := by
  unfold State.evalCue
  with_reducible repeat' first | assumption | apply Inv.ite | apply keeps_endCue | apply keeps_fireCue

theorem keeps_stepCues {a0 : State} (h_a0 : Inv q m a0) : Inv q m (State.stepCues a0) := by
  unfold State.stepCues
  with_reducible repeat' first | assumption | apply Inv.ite | apply keeps_endCue | (refine Inv.foldl (fun _ _ _ => ?_) _ ?_)

theorem keeps_cueArmRule : RuleOk (cueArmRule) := by
  unfold cueArmRule
  with_reducible repeat'
    first
      | assumption | apply keeps_armCue | apply keeps_startItem | (refine ⟨fun q m _ _ _ _ _ => ?_, fun q m _ _ _ _ => ?_⟩)

theorem keeps_cueDisarmRule : RuleOk (cueDisarmRule) := by
  unfold cueDisarmRule
  with_reducible repeat'
    first
      | assumption | apply keeps_finish | apply keeps_endCue | (refine ⟨fun q m _ _ _ _ _ => ?_, fun q m _ _ _ _ => ?_⟩)

theorem keeps_markCell {a0 : State} {a1 a2 a3} (h_a0 : Inv q m a0) : Inv q m (State.markCell a0 a1 a2 a3) := by
  unfold State.markCell
  with_reducible repeat'
    first
      | assumption | apply Inv.ite | apply Inv.setReg | apply keeps_eventKey | apply keeps_setFlag | apply keeps_setTile
      | fail_if_no_progress apply Inv.mk'
      | (extract_lets +onlyGivenNames x; refine_lift have hx : Inv q m x := ?_; ?_; on_goal 2 => unfold x; on_goal 1 => clear_value x)
      | (extract_lets +onlyGivenNames x; clear_value x) | split

theorem keeps_putMask {a0 : State} {a1} (h_a0 : Inv q m a0) : Inv q m (State.putMask a0 a1) := by
  unfold State.putMask
  with_reducible repeat'
    first
      | assumption | apply Inv.setReg | apply keeps_setFlag | fail_if_no_progress apply Inv.mk'
      | (extract_lets +onlyGivenNames x; refine_lift have hx : Inv q m x := ?_; ?_; on_goal 2 => unfold x; on_goal 1 => clear_value x)
      | (extract_lets +onlyGivenNames x; clear_value x) | split

theorem keeps_showShares {a0 : State} {a1 a2 a3} (h_a0 : Inv q m a0) : Inv q m (State.showShares a0 a1 a2 a3) := by
  unfold State.showShares
  with_reducible repeat' first | assumption | apply keeps_setSection

theorem keeps_setClient {a0 : State} {a1 a2} (h_a0 : Inv q m a0) : Inv q m (State.setClient a0 a1 a2) := by
  unfold State.setClient
  with_reducible repeat' first | assumption | fail_if_no_progress apply Inv.mk'

theorem keeps_tcChanged {a0 : State} {a1} (h_a0 : Inv q m a0) : Inv q m (State.tcChanged a0 a1) := by
  unfold State.tcChanged
  with_reducible repeat' first | assumption | apply Inv.ite | apply keeps_setClient

theorem keeps_tcFlush {a0 : State} (h_a0 : Inv q m a0) : Inv q m (State.tcFlush a0) := by
  unfold State.tcFlush
  with_reducible repeat'
    first
      | assumption | apply Inv.ite | apply keeps_canService | apply keeps_setClient
      | (refine Inv.foldl (fun _ _ _ => ?_) _ ?_)

theorem keeps_disarmSection {a0 : State} {a1} (h_a0 : Inv q m a0) : Inv q m (State.disarmSection a0 a1) := by
  unfold State.disarmSection
  with_reducible repeat' first | assumption | apply keeps_endCue | apply keeps_setSection | split

theorem inv_tryArm {a0 : State} {a1 a2 a3 a4 a5} (h_a0 : Inv q m a0) {d : State} (h_d : Inv q m d) :
    Inv q m ((State.tryArm a0 a1 a2 a3 a4 a5).getD d) := by
  cases e : a0.tryArm a1 a2 a3 a4 a5 with
  | none => exact h_d
  | some t =>
    unfold State.tryArm at e
    split at e
    · cases e
    · dsimp only at e
      split at e
      · cases e
      · cases e
        exact keeps_setSection (keeps_armCue h_a0)

theorem keeps_armSection {a0 : State} {a1 a2 a3 a4 a5} (h_a0 : Inv q m a0) : Inv q m (State.armSection a0 a1 a2 a3 a4 a5) :=
  inv_tryArm (keeps_disarmSection h_a0) (keeps_disarmSection h_a0)

theorem keeps_switchDirect {a0 : State} {a1 a2 a3} (h_a0 : Inv q m a0) : Inv q m (State.switchDirect a0 a1 a2 a3) := by
  unfold State.switchDirect
  with_reducible repeat' first | assumption | apply keeps_setSection | apply keeps_sectionFire | apply keeps_dispatch

theorem keeps_switchNow {a0 : State} {a1 a2 a3} (h_a0 : Inv q m a0) : Inv q m (State.switchNow a0 a1 a2 a3) := by
  have h := keeps_disarmSection (a1 := a1) h_a0
  unfold State.switchNow
  refine Inv.ite h (Inv.ite (keeps_tcChanged (keeps_sectionSet h)) (Inv.ite (Inv.ite h (keeps_sectionSet h)) ?_))
  exact inv_tryArm h (keeps_switchDirect h)

theorem keeps_allOff {a0 : State} {a1 a2} (h_a0 : Inv q m a0) : Inv q m (State.allOff a0 a1 a2) := by
  unfold State.allOff
  with_reducible repeat' first | assumption | apply keeps_switchNow | (refine Inv.foldl (fun _ _ _ => ?_) _ ?_)

theorem keeps_applyMode {a0 : State} {a1} (h_a0 : Inv q m a0) : Inv q m (State.applyMode a0 a1) := by
  unfold State.applyMode
  with_reducible repeat'
    first
      | assumption | apply Inv.ite | apply keeps_switchNow | (refine Inv.foldl (fun _ _ _ => ?_) _ ?_)

theorem keeps_showTight {a0 : State} {a1} (h_a0 : Inv q m a0) : Inv q m (State.showTight a0 a1) := by
  unfold State.showTight
  with_reducible repeat' first | assumption | apply keeps_setFlag

theorem keeps_sectionMotion {a0 : State} {a1} (h_a0 : Inv q m a0) : Inv q m (State.sectionMotion a0 a1) := by
  unfold State.sectionMotion
  with_reducible repeat' first | assumption | apply Inv.ite | apply keeps_setFlag | apply keeps_allOff

theorem keeps_clearHolds {a0 : State} {a1} (h_a0 : Inv q m a0) : Inv q m (State.clearHolds a0 a1) := by
  unfold State.clearHolds
  with_reducible repeat' first | assumption | apply Inv.ite | apply keeps_setFlag | apply keeps_setImpl | apply keeps_applyMode

theorem keeps_scanSection {a0 : State} {a1} (h_a0 : Inv q m a0) : Inv q m (State.scanSection a0 a1) := by
  unfold State.scanSection
  with_reducible repeat'
    first
      | assumption | apply Inv.ite | apply keeps_clearHolds | apply keeps_sectionSet | apply keeps_showShares
      | apply keeps_showTight | apply keeps_switchNow | apply keeps_disarmSection | apply keeps_bump | apply keeps_setSection
      | apply keeps_armSection | (extract_lets +onlyGivenNames x; clear_value x) | split

theorem keeps_tcCross {a0 : State} {a1} (h_a0 : Inv q m a0) : Inv q m (State.tcCross a0 a1) := by
  unfold State.tcCross
  with_reducible repeat'
    first
      | assumption | apply Inv.ite | apply keeps_switchNow | (refine Inv.foldl (fun _ _ _ => ?_) _ ?_)
      | (extract_lets +onlyGivenNames x; clear_value x) | split

theorem keeps_showAxisFlags {a0 : State} {a1} (h_a0 : Inv q m a0) : Inv q m (State.showAxisFlags a0 a1) := by
  unfold State.showAxisFlags
  with_reducible repeat' first | assumption | apply Inv.ite | apply keeps_setFlag

theorem keeps_showTravel {a0 : State} {a1 a2} (h_a0 : Inv q m a0) : Inv q m (State.showTravel a0 a1 a2) := by
  unfold State.showTravel
  with_reducible repeat'
    first
      | assumption | apply Inv.ite | apply Inv.setReg | apply keeps_setImpl | (refine Inv.foldl (fun _ _ _ => ?_) _ ?_)

theorem keeps_stepDead {a0 : State} {a1} (h_a0 : Inv q m a0) : Inv q m (State.stepDead a0 a1) := by
  unfold State.stepDead
  with_reducible repeat'
    first
      | assumption | apply Inv.setReg | apply keeps_setAxis | apply keeps_bumpBy | apply keeps_showTravel
      | apply keeps_showAxis

theorem keeps_stepShaft {a0 : State} {a1} (h_a0 : Inv q m a0) : Inv q m (State.stepShaft a0 a1) := by
  unfold State.stepShaft
  with_reducible repeat'
    first
      | assumption | apply Inv.setReg | apply keeps_setAxis | apply keeps_showAxis
      | (extract_lets +onlyGivenNames x; clear_value x) | split

theorem keeps_loseAxis {a0 : State} {a1} (h_a0 : Inv q m a0) : Inv q m (State.loseAxis a0 a1) := by
  unfold State.loseAxis
  with_reducible repeat' first | assumption | apply keeps_showFusion | apply keeps_axisLost

theorem keeps_stepField {a0 : State} {a1} (h_a0 : Inv q m a0) : Inv q m (State.stepField a0 a1) := by
  unfold State.stepField
  with_reducible repeat'
    first
      | assumption | apply Inv.ite | apply Inv.setReg | apply keeps_showAxis | apply keeps_setAxis | apply keeps_loseAxis
      | (extract_lets +onlyGivenNames x; clear_value x) | split

theorem keeps_publishAxis {a0 : State} {a1} (h_a0 : Inv q m a0) : Inv q m (State.publishAxis a0 a1) := by
  unfold State.publishAxis
  with_reducible repeat'
    first
      | assumption | apply Inv.ite | apply Inv.setReg | apply keeps_beginResume | apply keeps_setAxis | apply keeps_stepDead
      | apply keeps_stepShaft | apply keeps_stepField | apply keeps_showAxisFlags

theorem keeps_shaftFaults {a0 : State} {a1} (h_a0 : Inv q m a0) : Inv q m (State.shaftFaults a0 a1) := by
  unfold State.shaftFaults
  with_reducible repeat' first | assumption | apply Inv.ite | apply keeps_eventKey | apply keeps_loseAxis

theorem keeps_discontinuity {a0 : State} {a1} (h_a0 : Inv q m a0) : Inv q m (State.discontinuity a0 a1) := by
  unfold State.discontinuity
  with_reducible repeat'
    first
      | assumption | apply Inv.ite | apply keeps_dropMarks | apply keeps_clearLinesOf | apply keeps_bump
      | apply keeps_fuseClear

theorem keeps_restartAxis {a0 : State} {a1 a2 a3 a4 a5 a6} (h_a0 : Inv q m a0) : Inv q m (State.restartAxis a0 a1 a2 a3 a4 a5 a6) := by
  unfold State.restartAxis
  with_reducible repeat' first | assumption | apply Inv.setReg | apply keeps_showAxis | apply keeps_setAxis

theorem keeps_resumeBroken {a0 : State} {a1 a2 a3} (h_a0 : Inv q m a0) : Inv q m (State.resumeBroken a0 a1 a2 a3) := by
  unfold State.resumeBroken
  with_reducible repeat' first | assumption | apply keeps_resumeCues | apply keeps_discontinuity

theorem keeps_resumeDead {a0 : State} {a1 a2 a3} (h_a0 : Inv q m a0) : Inv q m (State.resumeDead a0 a1 a2 a3) := by
  unfold State.resumeDead
  with_reducible repeat'
    first
      | assumption | apply Inv.ite | apply keeps_restartAxis | apply keeps_setAxis | apply keeps_resumeCues
      | apply keeps_showTravel | apply keeps_resumeBroken | (extract_lets +onlyGivenNames x; clear_value x) | split

theorem keeps_resumeField {a0 : State} {a1 a2 a3} (h_a0 : Inv q m a0) : Inv q m (State.resumeField a0 a1 a2 a3) := by
  unfold State.resumeField
  with_reducible repeat'
    first
      | assumption | apply Inv.ite | apply keeps_restartAxis | apply keeps_resumeCues | apply keeps_resumeBroken | split

theorem keeps_resumeShaft {a0 : State} {a1 a2} (h_a0 : Inv q m a0) : Inv q m (State.resumeShaft a0 a1 a2) := by
  unfold State.resumeShaft
  with_reducible repeat'
    first
      | assumption | apply Inv.setReg | apply keeps_setAxis | apply keeps_resumeBroken | apply keeps_showAxis

theorem keeps_resumeLook {a0 : State} {a1} (h_a0 : Inv q m a0) : Inv q m (State.resumeLook a0 a1) := by
  unfold State.resumeLook
  with_reducible repeat'
    first
      | assumption | apply Inv.ite | apply keeps_resumeShaft | apply keeps_resumeDead | apply keeps_resumeField
      | (extract_lets +onlyGivenNames x; clear_value x) | split

theorem keeps_axisStart {a0 : State} {a1} (h_a0 : Inv q m a0) : Inv q m (State.axisStart a0 a1) := by
  unfold State.axisStart
  with_reducible repeat' first | assumption | apply Inv.setReg | apply keeps_setAxis | apply keeps_showAxis

theorem keeps_axisStop {a0 : State} {a1} (h_a0 : Inv q m a0) : Inv q m (State.axisStop a0 a1) := by
  unfold State.axisStop
  with_reducible repeat'
    first
      | assumption | apply Inv.setReg | apply keeps_setAxis | apply keeps_cancelAimed | apply keeps_endCues

theorem keeps_axisEnableRule {a0} : RuleOk (axisEnableRule a0) := by
  unfold axisEnableRule
  with_reducible repeat'
    first
      | assumption | apply Inv.ite | apply keeps_putEntry | apply keeps_axisStop | apply keeps_axisStart | apply keeps_finish
      | (refine ⟨fun q m _ _ _ _ _ => ?_, fun q m _ _ _ _ => ?_⟩)

theorem keeps_axisSourceRule {a0} : RuleOk (axisSourceRule a0) := by
  unfold axisSourceRule
  with_reducible repeat' first | assumption | intro q m _ _ | apply keeps_settingRule

theorem keeps_shiftImplements {a0 : State} {a1 a2} (h_a0 : Inv q m a0) : Inv q m (State.shiftImplements a0 a1 a2) := by
  unfold State.shiftImplements
  with_reducible repeat'
    first
      | assumption | apply Inv.ite | apply keeps_setImpl | apply keeps_setSection | (refine Inv.foldl (fun _ _ _ => ?_) _ ?_)

theorem keeps_axisPresetRule {a0} : RuleOk (axisPresetRule a0) := by
  unfold axisPresetRule
  with_reducible repeat'
    first
      | assumption | apply keeps_shiftImplements | apply keeps_setAxis | apply keeps_finish | apply keeps_discontinuity
      | apply keeps_showAxis | (refine ⟨fun q m _ _ _ _ _ => ?_, fun q m _ _ _ _ => ?_⟩)

theorem keeps_lineEnableRule {a0} : RuleOk (lineEnableRule a0) := by
  unfold lineEnableRule
  with_reducible repeat'
    first
      | assumption | apply Inv.ite | apply keeps_putEntry | apply keeps_clearLine | apply keeps_cancelAimed
      | apply keeps_finish | (refine ⟨fun q m _ _ _ _ _ => ?_, fun q m _ _ _ _ => ?_⟩)

theorem keeps_lineWriteRule {a0} : RuleOk (lineWriteRule a0) := by
  unfold lineWriteRule
  with_reducible repeat'
    first
      | assumption | apply keeps_finish | apply keeps_lineAdd | (refine ⟨fun q m _ _ _ _ _ => ?_, fun q m _ _ _ _ => ?_⟩)

theorem keeps_rule04 {a0 a1} : OptRuleOk (rule04 a0 a1) := by
  unfold rule04
  with_reducible repeat'
    first
      | assumption | intro q m _ _ | apply OptRuleOk.ite | apply OptRuleOk.none | apply OptRuleOk.some | apply keeps_axisEnableRule
      | apply keeps_axisSourceRule | apply keeps_axisPresetRule | apply keeps_lockedRule | apply keeps_cueArmRule
      | apply keeps_cueDisarmRule | apply keeps_settingRule | apply keeps_lineEnableRule | apply keeps_lineWriteRule

theorem keeps_execAxisPublishStep {a0 : State} (h_a0 : Inv q m a0) : Goes q m (execAxisPublishStep a0) := by
  unfold execAxisPublishStep
  with_reducible repeat'
    first
      | assumption | apply Goes.next | apply Goes.ite | apply keeps_shaftFaults | apply keeps_publishAxis | apply keeps_lineStep
      | apply keeps_tcFlush | apply keeps_tcCross | apply keeps_sectionMotion | apply keeps_stopEvaluate | apply keeps_showFusion
      | (refine Inv.foldl (fun _ _ _ => ?_) _ ?_)

theorem keeps_execAxisEnable {a3 : State} {a0 a1 a2} (h_a3 : Inv q m a3) : Goes q m (execAxisEnable a0 a1 a2 a3) := by
  unfold execAxisEnable
  with_reducible repeat' first | assumption | apply Goes.next | apply keeps_request | apply keeps_axisEnableRule

theorem keeps_execWheelSampleTimeout {a1 : State} {a0} (h_a1 : Inv q m a1) : Goes q m (execWheelSampleTimeout a0 a1) := by
  unfold execWheelSampleTimeout
  with_reducible repeat'
    first
      | assumption | apply Goes.next | apply Inv.ite | apply Goes.ite | apply keeps_setFlag | apply keeps_eventKey
      | apply keeps_loseAxis | apply keeps_setAxis

theorem keeps_execGnssAbsentTimeout {a1 : State} {a0} (h_a1 : Inv q m a1) : Goes q m (execGnssAbsentTimeout a0 a1) := by
  unfold execGnssAbsentTimeout
  with_reducible repeat'
    first
      | assumption | apply Goes.next | apply Inv.ite | apply Goes.ite | apply Inv.setReg | apply keeps_setFlag | apply keeps_loseAxis

theorem keeps_execGnssGateTimeout {a1 : State} {a0} (h_a1 : Inv q m a1) : Goes q m (execGnssGateTimeout a0 a1) := by
  unfold execGnssGateTimeout
  with_reducible repeat' first | assumption | apply Goes.next | apply Inv.ite | apply keeps_loseAxis

theorem keeps_execStandstillEntry {a1 : State} {a0} (h_a1 : Inv q m a1) : Goes q m (execStandstillEntry a0 a1) := by
  unfold execStandstillEntry
  with_reducible repeat'
    first
      | assumption | apply Goes.next | apply Goes.ite | apply keeps_setAxis | apply keeps_showAxis | apply keeps_setFlag
      | apply keeps_sectionMotion | (refine Inv.foldl (fun _ _ _ => ?_) _ ?_)

theorem keeps_execAxisResume {a1 : State} {a0} (h_a1 : Inv q m a1) : Goes q m (execAxisResume a0 a1) := by
  unfold execAxisResume
  with_reducible repeat' first | assumption | apply Goes.next | apply keeps_showFusion | apply keeps_resumeLook

theorem keeps_execAxisSnapshot {a0 : State} (h_a0 : Inv q m a0) : Goes q m (execAxisSnapshot a0) := by
  unfold execAxisSnapshot
  with_reducible repeat' first | assumption | apply Goes.next | fail_if_no_progress apply Inv.mk'

theorem keeps_execAxisPreset {a3 : State} {a0 a1 a2} (h_a3 : Inv q m a3) : Goes q m (execAxisPreset a0 a1 a2 a3) := by
  unfold execAxisPreset
  with_reducible repeat' first | assumption | apply Goes.next | apply keeps_request | apply keeps_axisPresetRule

theorem keeps_execCueArm {a2 : State} {a0 a1} (h_a2 : Inv q m a2) : Goes q m (execCueArm a0 a1 a2) := by
  unfold execCueArm
  with_reducible repeat' first | assumption | apply Goes.next | apply keeps_request | apply keeps_cueArmRule

theorem keeps_execCueDisarm {a2 : State} {a0 a1} (h_a2 : Inv q m a2) : Goes q m (execCueDisarm a0 a1 a2) := by
  unfold execCueDisarm
  with_reducible repeat' first | assumption | apply Goes.next | apply keeps_request | apply keeps_cueDisarmRule

theorem keeps_execCueFire {a1 : State} {a0} (h_a1 : Inv q m a1) : Goes q m (execCueFire a0 a1) := by
  unfold execCueFire
  with_reducible repeat' first | assumption | apply Goes.next | apply keeps_evalCue

theorem keeps_execDelayLineWrite {a3 : State} {a0 a1 a2} (h_a3 : Inv q m a3) : Goes q m (execDelayLineWrite a0 a1 a2 a3) := by
  unfold execDelayLineWrite
  with_reducible repeat' first | assumption | apply Goes.next | apply keeps_request | apply keeps_lineWriteRule

theorem keeps_execLineEnable {a3 : State} {a0 a1 a2} (h_a3 : Inv q m a3) : Goes q m (execLineEnable a0 a1 a2 a3) := by
  unfold execLineEnable
  with_reducible repeat' first | assumption | apply Goes.next | apply keeps_request | apply keeps_lineEnableRule

theorem keeps_setFieldArc {a0 : State} {a1 a2} (h_a0 : Inv q m a0) : Inv q m (State.setFieldArc a0 a1 a2) := by
  unfold State.setFieldArc
  with_reducible repeat' first | assumption | apply Inv.setReg | fail_if_no_progress apply Inv.mk'

theorem keeps_archiveTile {a0 : State} {a1 a2} (h_a0 : Inv q m a0) : Inv q m (State.archiveTile a0 a1 a2) := by
  unfold State.archiveTile
  with_reducible repeat'
    first
      | assumption | apply Inv.ite | apply keeps_setFieldArc | apply keeps_setTile | apply keeps_eventKey
      | apply keeps_setFlag

theorem keeps_archiveAll {a0 : State} {a1} (h_a0 : Inv q m a0) : Inv q m (State.archiveAll a0 a1) := by
  unfold State.archiveAll
  with_reducible repeat' first | assumption | apply keeps_archiveTile | (refine Inv.foldl (fun _ _ _ => ?_) _ ?_)

theorem keeps_archiveDone {a0 : State} (h_a0 : Inv q m a0) : Inv q m (State.archiveDone a0) := by
  unfold State.archiveDone
  with_reducible repeat' first | assumption | apply Inv.setReg | apply keeps_setFlag | fail_if_no_progress apply Inv.mk'

theorem keeps_freeTiles {a0 : State} (h_a0 : Inv q m a0) : Inv q m (State.freeTiles a0) := by
  unfold State.freeTiles
  with_reducible repeat' first | assumption | apply Inv.setReg | apply keeps_setFlag | fail_if_no_progress apply Inv.mk'

theorem keeps_loadField {a0 : State} {a1} (h_a0 : Inv q m a0) : Inv q m (State.loadField a0 a1) := by
  unfold State.loadField
  with_reducible repeat'
    first
      | assumption | apply Inv.setReg | apply keeps_putMask | apply keeps_setTile | apply keeps_setFlag
      | (refine Inv.foldl (fun _ _ _ => ?_) _ ?_)

theorem keeps_execHitchModelStep {a1 : State} {a0} (h_a1 : Inv q m a1) : Goes q m (execHitchModelStep a0 a1) := by
  unfold execHitchModelStep
  with_reducible repeat' first | assumption | apply Goes.next | apply Goes.ite | apply Inv.setReg | apply keeps_setImpl

theorem keeps_execHitchFallback {a1 : State} {a0} (h_a1 : Inv q m a1) : Goes q m (execHitchFallback a0 a1) := by
  unfold execHitchFallback
  with_reducible repeat'
    first
      | assumption | apply Goes.next | apply Goes.ite | apply Inv.setReg | apply keeps_setFlag | apply keeps_setImpl
      | apply keeps_eventKey

theorem keeps_execHitchFallbackClear {a1 : State} {a0} (h_a1 : Inv q m a1) : Goes q m (execHitchFallbackClear a0 a1) := by
  unfold execHitchFallbackClear
  with_reducible repeat'
    first
      | assumption | apply Goes.next | apply Inv.ite | apply Inv.setReg | apply keeps_setFlag | apply keeps_setImpl

theorem keeps_implementEnableRule {a0} : RuleOk (implementEnableRule a0) := by
  unfold implementEnableRule
  with_reducible repeat'
    first
      | assumption | apply Inv.ite | apply Inv.setReg | apply keeps_putEntry | apply keeps_setImpl | apply keeps_finish
      | (refine ⟨fun q m _ _ _ _ _ => ?_, fun q m _ _ _ _ => ?_⟩)

theorem keeps_sectionModeRule {a0} : RuleOk (sectionModeRule a0) := by
  unfold sectionModeRule
  with_reducible repeat'
    first
      | assumption | apply keeps_applyMode | apply keeps_settle | (refine ⟨fun q m _ _ _ _ _ => ?_, fun q m _ _ _ _ => ?_⟩)

theorem keeps_manualRule : RuleOk (manualRule) := by
  unfold manualRule
  with_reducible repeat'
    first
      | assumption | intro q m _ _ | apply keeps_settingRule | apply keeps_applyMode
      | (refine Inv.foldl (fun _ _ _ => ?_) _ ?_)

theorem keeps_clearSection {a0 : State} {a1} (h_a0 : Inv q m a0) : Inv q m (State.clearSection a0 a1) := by
  unfold State.clearSection
  with_reducible repeat'
    first
      | assumption | apply Inv.ite | apply keeps_disarmSection | apply keeps_sectionSet | apply keeps_setSection

theorem keeps_sectionConfigRule {a0} : RuleOk (sectionConfigRule a0) := by
  unfold sectionConfigRule
  with_reducible repeat'
    first
      | assumption | apply keeps_settle | apply keeps_clearSection | (refine ⟨fun q m _ _ _ _ _ => ?_, fun q m _ _ _ _ => ?_⟩)

theorem keeps_clearLayers {a0 : State} {a1} (h_a0 : Inv q m a0) : Inv q m (State.clearLayers a0 a1) := by
  unfold State.clearLayers
  with_reducible repeat'
    first
      | assumption | apply Inv.setReg | apply keeps_setTile | apply keeps_setFlag | apply keeps_setFieldArc
      | fail_if_no_progress apply Inv.mk' | (refine Inv.foldl (fun _ _ _ => ?_) _ ?_)
      | (extract_lets +onlyGivenNames x; refine_lift have hx : Inv q m x := ?_; ?_; on_goal 2 => unfold x; on_goal 1 => clear_value x)
      | (extract_lets +onlyGivenNames x; clear_value x) | split

theorem keeps_coverageClearRule : RuleOk (coverageClearRule) := by
  unfold coverageClearRule
  with_reducible repeat' first | assumption | intro q m _ _ | intro _ | apply keeps_commandRule | apply keeps_clearLayers

theorem keeps_storeMask {a0 : State} {a1} (h_a0 : Inv q m a0) : Inv q m (State.storeMask a0 a1) := by
  unfold State.storeMask
  with_reducible repeat' first | assumption | apply keeps_setFieldArc | split

theorem keeps_maskLoadRule : RuleOk (maskLoadRule) := by
  unfold maskLoadRule
  with_reducible repeat'
    first
      | assumption | intro q m _ _ | intro _ | apply keeps_commandRule | apply keeps_storeMask | apply keeps_putMask

theorem keeps_maskClearRule : RuleOk (maskClearRule) := by
  unfold maskClearRule
  with_reducible repeat'
    first
      | assumption | intro q m _ _ | intro _ | apply keeps_commandRule | apply keeps_storeMask | apply keeps_putMask

theorem keeps_tcLose {a0 : State} {a1} (h_a0 : Inv q m a0) : Inv q m (State.tcLose a0 a1) := by
  unfold State.tcLose
  with_reducible repeat'
    first
      | assumption | apply Inv.ite | apply keeps_setClient | apply keeps_sectionSet | apply keeps_disarmSection
      | apply keeps_eventKey | apply keeps_setFlag | (refine Inv.foldl (fun _ _ _ => ?_) _ ?_)

theorem keeps_tcLoseAll {a0 : State} (h_a0 : Inv q m a0) : Inv q m (State.tcLoseAll a0) := by
  unfold State.tcLoseAll
  with_reducible repeat' first | assumption | apply keeps_tcLose | (refine Inv.foldl (fun _ _ _ => ?_) _ ?_)

theorem keeps_showTc {a0 : State} (h_a0 : Inv q m a0) : Inv q m (State.showTc a0) := by
  unfold State.showTc
  with_reducible repeat' first | assumption | apply Inv.setReg

theorem keeps_tcEnableRule : RuleOk (tcEnableRule) := by
  unfold tcEnableRule
  with_reducible repeat'
    first
      | assumption | intro q m _ _ | apply Inv.ite | apply keeps_settingRule | apply keeps_showTc | apply keeps_tcLoseAll

theorem keeps_rule05 {a0 a1} : OptRuleOk (rule05 a0 a1) := by
  unfold rule05
  with_reducible repeat'
    first
      | assumption | intro q m _ _ | apply Inv.ite | apply OptRuleOk.ite | apply Inv.setReg | apply OptRuleOk.none
      | apply OptRuleOk.some | apply keeps_implementEnableRule | apply keeps_sectionModeRule | apply keeps_settingRule
      | apply keeps_coverageClearRule | apply keeps_maskLoadRule | apply keeps_maskClearRule | apply keeps_manualRule
      | apply keeps_tcEnableRule | apply keeps_sectionConfigRule

theorem keeps_execSectionConfig {a3 : State} {a0 a1 a2} (h_a3 : Inv q m a3) : Goes q m (execSectionConfig a0 a1 a2 a3) := by
  unfold execSectionConfig
  with_reducible repeat' first | assumption | apply Goes.next | apply keeps_request | apply keeps_sectionConfigRule

theorem keeps_execSectionMode {a3 : State} {a0 a1 a2} (h_a3 : Inv q m a3) : Goes q m (execSectionMode a0 a1 a2 a3) := by
  unfold execSectionMode
  with_reducible repeat' first | assumption | apply Goes.next | apply keeps_request | apply keeps_sectionModeRule

theorem keeps_execManualSectionOn {a2 : State} {a0 a1} (h_a2 : Inv q m a2) : Goes q m (execManualSectionOn a0 a1 a2) := by
  unfold execManualSectionOn
  with_reducible repeat' first | assumption | apply Goes.next | apply keeps_request | apply keeps_manualRule

theorem keeps_execSectionScan {a1 : State} {a0} (h_a1 : Inv q m a1) : Goes q m (execSectionScan a0 a1) := by
  unfold execSectionScan
  with_reducible repeat' first | assumption | apply Goes.next | apply keeps_scanSection

theorem keeps_execAxisHeldSwitchOff {a1 : State} {a0} (h_a1 : Inv q m a1) : Goes q m (execAxisHeldSwitchOff a0 a1) := by
  unfold execAxisHeldSwitchOff
  with_reducible repeat' first | assumption | apply Goes.next | apply Inv.ite | apply keeps_setFlag | apply keeps_allOff

theorem keeps_execDegradedLimit {a1 : State} {a0} (h_a1 : Inv q m a1) : Goes q m (execDegradedLimit a0 a1) := by
  unfold execDegradedLimit
  with_reducible repeat' first | assumption | apply Goes.next | apply Inv.ite | apply keeps_setFlag | apply keeps_allOff

theorem keeps_sweepSection {a0 : State} {a1} (h_a0 : Inv q m a0) : Inv q m (State.sweepSection a0 a1) := by
  unfold State.sweepSection
  with_reducible repeat' first | assumption | apply Inv.ite | apply keeps_setSection | fail_if_no_progress apply Inv.mk'

theorem keeps_execCoverageSweep {a1 : State} {a0} (h_a1 : Inv q m a1) : Goes q m (execCoverageSweep a0 a1) := by
  unfold execCoverageSweep
  with_reducible repeat'
    first
      | assumption | apply Goes.next | apply Goes.ite | apply keeps_sweepSection | apply keeps_setImpl
      | (refine Inv.foldl (fun _ _ _ => ?_) _ ?_)

theorem keeps_execMarkCommit {a1 : State} {a0} (h_a1 : Inv q m a1) : Goes q m (execMarkCommit a0 a1) := by
  unfold execMarkCommit
  with_reducible repeat'
    first
      | assumption | apply Goes.next | apply keeps_markCell | fail_if_no_progress apply Inv.mk'
      | (refine Inv.foldl (fun _ _ _ => ?_) _ ?_)

theorem keeps_execCoverageArchiveWrite {a1 : State} {a0} (h_a1 : Inv q m a1) : Goes q m (execCoverageArchiveWrite a0 a1) := by
  unfold execCoverageArchiveWrite
  with_reducible repeat'
    first
      | assumption | apply Goes.next | apply Goes.ite | apply keeps_archiveDone | apply keeps_archiveAll
      | apply keeps_eventKey | apply keeps_setFlag | split

theorem keeps_execCoverageClear {a2 : State} {a0 a1} (h_a2 : Inv q m a2) : Goes q m (execCoverageClear a0 a1 a2) := by
  unfold execCoverageClear
  with_reducible repeat' first | assumption | apply Goes.next | apply keeps_request | apply keeps_coverageClearRule

theorem keeps_execBoundaryMaskLoad {a2 : State} {a0 a1} (h_a2 : Inv q m a2) : Goes q m (execBoundaryMaskLoad a0 a1 a2) := by
  unfold execBoundaryMaskLoad
  with_reducible repeat' first | assumption | apply Goes.next | apply keeps_request | apply keeps_maskLoadRule

theorem keeps_execBoundaryMaskClear {a2 : State} {a0 a1} (h_a2 : Inv q m a2) : Goes q m (execBoundaryMaskClear a0 a1 a2) := by
  unfold execBoundaryMaskClear
  with_reducible repeat' first | assumption | apply Goes.next | apply keeps_request | apply keeps_maskClearRule

theorem keeps_importSection {a0 : State} {a1 a2} (h_a0 : Inv q m a0) : Inv q m (State.importSection a0 a1 a2) := by
  unfold State.importSection
  with_reducible repeat' first | assumption | apply Inv.setBlob | apply keeps_setSection | apply keeps_setClient | split

theorem keeps_dropImports {a0 : State} {a1} (h_a0 : Inv q m a0) : Inv q m (State.dropImports a0 a1) := by
  unfold State.dropImports
  with_reducible repeat'
    first
      | assumption | apply Inv.setBlob | apply keeps_clearSection | (refine Inv.foldl (fun _ _ _ => ?_) _ ?_)

theorem keeps_execTcClientConnect {a3 : State} {a0 a1 a2} (h_a3 : Inv q m a3) : Goes q m (execTcClientConnect a0 a1 a2 a3) := by
  unfold execTcClientConnect
  with_reducible repeat'
    first
      | assumption | apply Goes.next | apply Goes.ite | apply keeps_dropImports | apply keeps_setFlag | apply keeps_setClient
      | apply keeps_showTc | apply keeps_tcLose | apply keeps_importSection | apply keeps_tcChanged | apply keeps_tcFlush
      | (refine Inv.foldl (fun _ _ _ => ?_) _ ?_) | split

theorem keeps_execActualCondensedWorkState {a4 : State} {a0 a1 a2 a3} (h_a4 : Inv q m a4) : Goes q m (execActualCondensedWorkState a0 a1 a2 a3 a4) := by
  unfold execActualCondensedWorkState
  with_reducible repeat'
    first
      | assumption | apply Goes.next | apply Inv.ite | apply Goes.ite | apply keeps_setClient | apply keeps_setSection
      | (refine Inv.foldl (fun _ _ _ => ?_) _ ?_) | (extract_lets +onlyGivenNames x; clear_value x) | split

theorem keeps_execTcClientLost {a2 : State} {a0 a1} (h_a2 : Inv q m a2) : Goes q m (execTcClientLost a0 a1 a2) := by
  unfold execTcClientLost
  with_reducible repeat' first | assumption | apply Goes.next | apply Inv.ite | apply keeps_showTc | apply keeps_tcLose

theorem keeps_svGoto {a0 : State} {a1 a2} (h_a0 : Inv q m a0) : Inv q m (State.svGoto a0 a1 a2) := by
  unfold State.svGoto
  with_reducible repeat'
    first
      | assumption | apply Inv.ite | apply Inv.setReg | apply keeps_svDropBoost | apply keeps_svToEnd | apply keeps_setSv

theorem keeps_svNext {a0 : State} {a1} (h_a0 : Inv q m a0) : Inv q m (State.svNext a0 a1) := by
  unfold State.svNext
  with_reducible repeat' first | assumption | apply keeps_svGoto

theorem keeps_svBegin {a0 : State} {a1 a2} (h_a0 : Inv q m a0) : Inv q m (State.svBegin a0 a1 a2) := by
  unfold State.svBegin
  with_reducible repeat' first | assumption | apply keeps_setSv

theorem keeps_svRegulate {a0 : State} {a1 a2 a3 a4} (h_a0 : Inv q m a0) : Inv q m (State.svRegulate a0 a1 a2 a3 a4) := by
  unfold State.svRegulate
  with_reducible repeat' first | assumption | apply Inv.ite | apply Inv.setReg | apply keeps_setSv

theorem keeps_svHold {a0 : State} {a1 a2 a3} (h_a0 : Inv q m a0) : Inv q m (State.svHold a0 a1 a2 a3) := by
  unfold State.svHold
  with_reducible repeat' first | assumption | apply keeps_svRegulate

theorem keeps_svMeasured {a0 : State} {a1 a2} (h_a0 : Inv q m a0) : Inv q m (State.svMeasured a0 a1 a2) := by
  unfold State.svMeasured
  with_reducible repeat' first | assumption | apply Inv.ite | apply Inv.setReg | apply keeps_setSv

theorem keeps_ttpFail {a0 : State} {a1 a2} (h_a0 : Inv q m a0) : Inv q m (State.ttpFail a0 a1 a2) := by
  unfold State.ttpFail
  with_reducible repeat' first | assumption | apply Inv.ite | apply keeps_bump | apply keeps_setFlag | apply keeps_svFail

theorem keeps_ttpReached {a0 : State} {a1 a2} (h_a0 : Inv q m a0) : Inv q m (State.ttpReached a0 a1 a2) := by
  unfold State.ttpReached
  with_reducible repeat'
    first
      | assumption | apply Inv.ite | apply Inv.setReg | apply keeps_setSv | apply keeps_ttpFail
      | (extract_lets +onlyGivenNames x; refine_lift have hx : Inv q m x := ?_; ?_; on_goal 2 => unfold x; on_goal 1 => clear_value x)
      | (extract_lets +onlyGivenNames x; clear_value x) | split

theorem keeps_ttpEnd {a0 : State} {a1} (h_a0 : Inv q m a0) : Inv q m (State.ttpEnd a0 a1) := by
  unfold State.ttpEnd
  with_reducible repeat' first | assumption | apply Inv.ite | apply Inv.setReg | apply keeps_setSv | apply keeps_ttpFail

theorem keeps_peakEnd {a0 : State} {a1} (h_a0 : Inv q m a0) : Inv q m (State.peakEnd a0 a1) := by
  unfold State.peakEnd
  with_reducible repeat' first | assumption | apply Inv.ite | apply keeps_svDropBoost | apply keeps_ttpEnd | apply keeps_svNext

theorem keeps_countBoostWait {a0 : State} {a1} (h_a0 : Inv q m a0) : Inv q m (State.countBoostWait a0 a1) := by
  unfold State.countBoostWait
  with_reducible repeat' first | assumption | apply keeps_bump

theorem keeps_countRoomWait {a0 : State} {a1} (h_a0 : Inv q m a0) : Inv q m (State.countRoomWait a0 a1) := by
  unfold State.countRoomWait
  with_reducible repeat' first | assumption | apply keeps_bump

theorem keeps_takeBoost {a0 : State} {a1 a2} (h_a0 : Inv q m a0) : Inv q m (State.takeBoost a0 a1 a2) := by
  unfold State.takeBoost
  with_reducible repeat'
    first
      | assumption | apply Inv.ite | apply Inv.setReg | apply keeps_setSv | apply keeps_bump | apply keeps_setFlag

theorem keeps_peakRun {a0 : State} {a1 a2 a3 a4} (h_a0 : Inv q m a0) : Inv q m (State.peakRun a0 a1 a2 a3 a4) := by
  unfold State.peakRun
  with_reducible repeat'
    first
      | assumption | apply Inv.ite | apply Inv.setReg | apply keeps_svBegin | apply keeps_takeBoost | apply keeps_setSv

theorem keeps_peakBegin {a0 : State} {a1 a2 a3} (h_a0 : Inv q m a0) : Inv q m (State.peakBegin a0 a1 a2 a3) := by
  unfold State.peakBegin
  with_reducible repeat'
    first
      | assumption | apply Inv.ite | apply keeps_peakRun | apply keeps_setSv | apply keeps_bump | apply keeps_setFlag
      | apply keeps_svNext | apply keeps_svDropBoost | apply keeps_countRoomWait | apply keeps_svRegulate

theorem keeps_boostBegin {a0 : State} {a1 a2} (h_a0 : Inv q m a0) : Inv q m (State.boostBegin a0 a1 a2) := by
  unfold State.boostBegin
  with_reducible repeat' first | assumption | apply Inv.ite | apply keeps_peakBegin | apply keeps_countBoostWait | apply keeps_setSv

theorem keeps_supplyPeak {a0 : State} {a1 a2} (h_a0 : Inv q m a0) : Inv q m (State.supplyPeak a0 a1 a2) := by
  unfold State.supplyPeak
  with_reducible repeat' first | assumption | apply Inv.ite | apply keeps_peakBegin | apply keeps_svRegulate

theorem keeps_firstBoost {a0 : State} {a1 a2 a3} (h_a0 : Inv q m a0) : Inv q m (State.firstBoost a0 a1 a2 a3) := by
  unfold State.firstBoost
  with_reducible repeat' first | assumption | apply Inv.ite | apply keeps_takeBoost

theorem keeps_svBeginProgram {a0 : State} {a1 a2 a3} (h_a0 : Inv q m a0) : Inv q m (State.svBeginProgram a0 a1 a2 a3) := by
  unfold State.svBeginProgram
  with_reducible repeat'
    first
      | assumption | apply Inv.ite | apply Inv.setReg | apply keeps_svDropBoost | apply keeps_setSv | apply keeps_setFlag
      | apply keeps_finishOpt | apply keeps_bump | apply keeps_firstBoost | apply keeps_svToEnd | apply keeps_showClaims
      | (refine Inv.foldl (fun _ _ _ => ?_) _ ?_)

theorem keeps_setPend {a0 : State} {a1 a2} (h_a0 : Inv q m a0) : Inv q m (State.setPend a0 a1 a2) := by
  unfold State.setPend
  with_reducible repeat' first | assumption | apply keeps_setSv

theorem keeps_arbitrateOne {a0 : State} {a1} (h_a0 : Inv q m a0) : Inv q m (State.arbitrateOne a0 a1) := by
  unfold State.arbitrateOne
  with_reducible repeat'
    first
      | assumption | apply Inv.ite | apply keeps_setPend | apply keeps_bump | apply keeps_countRoomWait
      | apply keeps_svBeginProgram | apply keeps_countBoostWait
      | (extract_lets +onlyGivenNames x; refine_lift have hx : Inv q m x := ?_; ?_; on_goal 2 => unfold x; on_goal 1 => clear_value x)
      | (extract_lets +onlyGivenNames x; clear_value x) | split

theorem keeps_svCommandRule {a0} : RuleOk (svCommandRule a0) := by
  unfold svCommandRule
  with_reducible repeat'
    first
      | assumption | apply Inv.ite | apply keeps_startItem | apply keeps_svStart | apply keeps_svRelease
      | (refine ⟨fun q m _ _ _ _ _ => ?_, fun q m _ _ _ _ => ?_⟩)

theorem keeps_svEnableRule {a0} : RuleOk (svEnableRule a0) := by
  unfold svEnableRule
  with_reducible repeat'
    first
      | assumption | apply Inv.ite | apply Inv.setReg | apply keeps_settle | apply keeps_beginDisable | apply keeps_startItem
      | apply keeps_setFlag | apply keeps_setSv | apply keeps_svDisableDone
      | (refine ⟨fun q m _ _ _ _ _ => ?_, fun q m _ _ _ _ => ?_⟩)

theorem keeps_svSelfTestRule {a0} : RuleOk (svSelfTestRule a0) := by
  unfold svSelfTestRule
  with_reducible repeat'
    first
      | assumption | apply Inv.setReg | apply keeps_setSv | apply keeps_startItem
      | (refine ⟨fun q m _ _ _ _ _ => ?_, fun q m _ _ _ _ => ?_⟩)

theorem keeps_showOverload {a0 : State} {a1} (h_a0 : Inv q m a0) : Inv q m (State.showOverload a0 a1) := by
  unfold State.showOverload
  with_reducible repeat' first | assumption | apply Inv.ite | apply keeps_setFlag

theorem keeps_svFaultClearRule {a0} : RuleOk (svFaultClearRule a0) := by
  unfold svFaultClearRule
  with_reducible repeat'
    first
      | assumption | apply Inv.ite | apply Inv.setReg | apply keeps_setFlag | apply keeps_finish | apply keeps_showOverload
      | (refine Inv.foldl (fun _ _ _ => ?_) _ ?_) | (refine ⟨fun q m _ _ _ _ _ => ?_, fun q m _ _ _ _ => ?_⟩)

theorem keeps_stitchProgramRule {a0} : RuleOk (stitchProgramRule a0) := by
  unfold stitchProgramRule
  with_reducible repeat' first | assumption | intro q m _ _ | apply Inv.setReg | apply keeps_settingRule

theorem keeps_bankEnableRule {a0} : RuleOk (bankEnableRule a0) := by
  unfold bankEnableRule
  with_reducible repeat'
    first
      | assumption | intro q m _ _ | apply Inv.ite | apply Inv.setReg | apply keeps_settingRule | apply keeps_setFlag

theorem keeps_svSettingRule {a0 a1 a2} : RuleOk (svSettingRule a0 a1 a2) := by
  have h : RuleOk (lockedRule a0 a1 fun s => s.reg (K.svEnable a2) == 1) := keeps_lockedRule
  exact ⟨h.effect, h.refused⟩

theorem keeps_rule09 {a0 a1} : OptRuleOk (rule09 a0 a1) := by
  unfold rule09
  with_reducible repeat'
    first
      | assumption | intro q m _ _ | apply OptRuleOk.ite | apply OptRuleOk.none | apply OptRuleOk.some | apply keeps_bankEnableRule
      | apply keeps_lockedRule | apply keeps_settingRule | apply keeps_svEnableRule | apply keeps_svCommandRule
      | apply keeps_svSelfTestRule | apply keeps_svFaultClearRule | apply keeps_svSettingRule | apply keeps_stitchProgramRule

theorem keeps_execStitchEnd {a2 : State} {a0 a1} (h_a2 : Inv q m a2) : Goes q m (execStitchEnd a0 a1 a2) := by
  unfold execStitchEnd
  with_reducible repeat'
    first
      | assumption | apply Goes.next | apply Goes.ite | apply keeps_svMeasured | apply keeps_svToOff | apply keeps_setSv

theorem keeps_execStitchBoost {a2 : State} {a0 a1} (h_a2 : Inv q m a2) : Goes q m (execStitchBoost a0 a1 a2) := by
  unfold execStitchBoost
  with_reducible repeat'
    first
      | assumption | apply Goes.next | apply Goes.ite | apply keeps_svMeasured | apply keeps_ttpReached | apply keeps_boostBegin

theorem keeps_execStitchPeak {a2 : State} {a0 a1} (h_a2 : Inv q m a2) : Goes q m (execStitchPeak a0 a1 a2) := by
  unfold execStitchPeak
  with_reducible repeat'
    first
      | assumption | apply Goes.next | apply Inv.ite | apply Goes.ite | apply keeps_svMeasured | apply keeps_ttpReached
      | apply keeps_svRegulate | apply keeps_supplyPeak

theorem keeps_execStitchHold {a2 : State} {a0 a1} (h_a2 : Inv q m a2) : Goes q m (execStitchHold a0 a1 a2) := by
  unfold execStitchHold
  with_reducible repeat'
    first
      | assumption | apply Goes.next | apply Inv.ite | apply Goes.ite | apply keeps_svMeasured | apply keeps_svBegin
      | apply keeps_svHold

theorem keeps_execStitchRamp {a2 : State} {a0 a1} (h_a2 : Inv q m a2) : Goes q m (execStitchRamp a0 a1 a2) := by
  unfold execStitchRamp
  with_reducible repeat'
    first
      | assumption | apply Goes.next | apply Inv.ite | apply Goes.ite | apply keeps_svMeasured | apply keeps_setSv | apply keeps_svBegin
      | apply keeps_svHold

theorem keeps_svDecayStitch {a0 : State} {a1 a2 a3} (h_a0 : Inv q m a0) : Inv q m (State.svDecayStitch a0 a1 a2 a3) := by
  unfold State.svDecayStitch
  with_reducible repeat' first | assumption | apply Inv.ite | apply Inv.setReg | apply keeps_svBegin | apply keeps_setSv

theorem keeps_execStitchFreewheel {a2 : State} {a0 a1} (h_a2 : Inv q m a2) : Goes q m (execStitchFreewheel a0 a1 a2) := by
  unfold execStitchFreewheel
  with_reducible repeat' first | assumption | apply Goes.next | apply keeps_svDecayStitch | apply keeps_svMeasured

theorem keeps_execStitchClamp {a2 : State} {a0 a1} (h_a2 : Inv q m a2) : Goes q m (execStitchClamp a0 a1 a2) := by
  unfold execStitchClamp
  with_reducible repeat' first | assumption | apply Goes.next | apply keeps_svDecayStitch | apply keeps_svMeasured

theorem keeps_execStitchWindow {a1 : State} {a0} (h_a1 : Inv q m a1) : Goes q m (execStitchWindow a0 a1) := by
  unfold execStitchWindow
  with_reducible repeat' first | assumption | apply Goes.next | apply Goes.ite | apply keeps_svNext | apply keeps_setSv

theorem keeps_execStitchDither {a1 : State} {a0} (h_a1 : Inv q m a1) : Goes q m (execStitchDither a0 a1) := by
  unfold execStitchDither
  with_reducible repeat' first | assumption | apply Goes.next | apply Goes.ite | apply keeps_svNext | apply keeps_setSv

theorem keeps_execStitchLoop {a1 : State} {a0} (h_a1 : Inv q m a1) : Goes q m (execStitchLoop a0 a1) := by
  unfold execStitchLoop
  with_reducible repeat'
    first
      | assumption | apply Goes.next | apply Goes.ite | apply keeps_svGoto | apply keeps_setSv | apply keeps_svNext

theorem keeps_execStitchHoldExt {a2 : State} {a0 a1} (h_a2 : Inv q m a2) : Goes q m (execStitchHoldExt a0 a1 a2) := by
  unfold execStitchHoldExt
  with_reducible repeat'
    first
      | assumption | apply Goes.next | apply Inv.ite | apply Goes.ite | apply keeps_svMeasured | apply keeps_svBegin
      | apply keeps_svHold | apply keeps_svRegulate | apply keeps_setFlag

theorem keeps_execStitchTimerExpiry {a1 : State} {a0} (h_a1 : Inv q m a1) : Goes q m (execStitchTimerExpiry a0 a1) := by
  unfold execStitchTimerExpiry
  with_reducible repeat'
    first
      | assumption | apply Goes.next | apply Goes.ite | apply Inv.setReg | apply keeps_peakEnd | apply keeps_svNext
      | apply keeps_setSv

theorem keeps_execStitchCurrentReached {a2 : State} {a0 a1} (h_a2 : Inv q m a2) : Goes q m (execStitchCurrentReached a0 a1 a2) := by
  unfold execStitchCurrentReached
  with_reducible repeat'
    first
      | assumption | apply Goes.next | apply Inv.ite | apply Goes.ite | apply keeps_svMeasured | apply keeps_ttpReached
      | apply keeps_peakEnd | apply keeps_svNext

theorem keeps_execBankArbitrate {a2 : State} {a0 a1} (h_a2 : Inv q m a2) : Goes q m (execBankArbitrate a0 a1 a2) := by
  unfold execBankArbitrate
  with_reducible repeat'
    first
      | assumption | apply Goes.next | apply Inv.setReg | apply keeps_showClaims | apply keeps_arbitrateOne
      | (refine Inv.foldl (fun _ _ _ => ?_) _ ?_)

theorem keeps_execBoostDeferExpiry {a2 : State} {a0 a1} (h_a2 : Inv q m a2) : Goes q m (execBoostDeferExpiry a0 a1 a2) := by
  unfold execBoostDeferExpiry
  with_reducible repeat'
    first
      | assumption | apply Goes.next | apply Goes.ite | apply keeps_showClaims | apply keeps_arbitrateOne | apply keeps_boostBegin
      | apply keeps_supplyPeak | (extract_lets +onlyGivenNames x; clear_value x) | split

theorem keeps_maxOnTrip {a0 : State} {a1} (h_a0 : Inv q m a0) : Inv q m (State.maxOnTrip a0 a1) := by
  unfold State.maxOnTrip
  with_reducible repeat' first | assumption | apply keeps_setSv | apply keeps_bump | apply keeps_setFlag

theorem keeps_execMaxOnTime {a1 : State} {a0} (h_a1 : Inv q m a1) : Goes q m (execMaxOnTime a0 a1) := by
  unfold execMaxOnTime
  with_reducible repeat'
    first
      | assumption | apply Goes.next | apply Inv.ite | apply Goes.ite | apply keeps_maxOnTrip | apply keeps_svToEnd
      | apply keeps_svDiscardPending | split

theorem keeps_execDutyBinBoundary {a1 : State} {a0} (h_a1 : Inv q m a1) : Goes q m (execDutyBinBoundary a0 a1) := by
  unfold execDutyBinBoundary
  with_reducible repeat'
    first
      | assumption | apply Goes.next | apply Inv.ite | apply Goes.ite | apply Inv.setReg | apply keeps_setSv
      | apply keeps_svDiscardPending | apply keeps_svToEnd | apply keeps_bump | apply keeps_setFlag

theorem keeps_execSvCommandStart {a3 : State} {a0 a1 a2} (h_a3 : Inv q m a3) : Goes q m (execSvCommandStart a0 a1 a2 a3) := by
  unfold execSvCommandStart
  with_reducible repeat' first | assumption | apply Goes.next | apply keeps_request | apply keeps_svCommandRule

theorem keeps_execSvCommandRelease {a2 : State} {a0 a1} (h_a2 : Inv q m a2) : Goes q m (execSvCommandRelease a0 a1 a2) := by
  unfold execSvCommandRelease
  with_reducible repeat' first | assumption | apply Goes.next | apply keeps_request | apply keeps_svCommandRule

theorem keeps_execSvEnable {a3 : State} {a0 a1 a2} (h_a3 : Inv q m a3) : Goes q m (execSvEnable a0 a1 a2 a3) := by
  unfold execSvEnable
  with_reducible repeat' first | assumption | apply Goes.next | apply keeps_request | apply keeps_svEnableRule

theorem keeps_execSvSelfTest {a3 : State} {a0 a1 a2} (h_a3 : Inv q m a3) : Goes q m (execSvSelfTest a0 a1 a2 a3) := by
  unfold execSvSelfTest
  with_reducible repeat' first | assumption | apply Goes.next | apply keeps_request | apply keeps_svSelfTestRule

theorem keeps_execSvSelfTestEnd {a2 : State} {a0 a1} (h_a2 : Inv q m a2) : Goes q m (execSvSelfTestEnd a0 a1 a2) := by
  unfold execSvSelfTestEnd
  with_reducible repeat'
    first
      | assumption | apply Goes.next | apply Goes.ite | apply Inv.setReg | apply keeps_setSv | apply keeps_setFlag
      | apply keeps_finishOpt | apply keeps_svFail

theorem keeps_execSvFaultClear {a3 : State} {a0 a1 a2} (h_a3 : Inv q m a3) : Goes q m (execSvFaultClear a0 a1 a2 a3) := by
  unfold execSvFaultClear
  with_reducible repeat' first | assumption | apply Goes.next | apply keeps_request | apply keeps_svFaultClearRule

theorem keeps_execStitchProgramWrite {a3 : State} {a0 a1 a2} (h_a3 : Inv q m a3) : Goes q m (execStitchProgramWrite a0 a1 a2 a3) := by
  unfold execStitchProgramWrite
  with_reducible repeat' first | assumption | apply Goes.next | apply keeps_request | apply keeps_stitchProgramRule

theorem keeps_execOpenLoad {a3 : State} {a0 a1 a2} (h_a3 : Inv q m a3) : Goes q m (execOpenLoad a0 a1 a2 a3) := by
  unfold execOpenLoad
  with_reducible repeat' first | assumption | apply Goes.next | apply Inv.ite | apply keeps_svMeasured | apply keeps_svFail

theorem keeps_execOvercurrent {a3 : State} {a0 a1 a2} (h_a3 : Inv q m a3) : Goes q m (execOvercurrent a0 a1 a2 a3) := by
  unfold execOvercurrent
  with_reducible repeat' first | assumption | apply Goes.next | apply Inv.ite | apply keeps_svFail

theorem keeps_execShortToSupply {a3 : State} {a0 a1 a2} (h_a3 : Inv q m a3) : Goes q m (execShortToSupply a0 a1 a2 a3) := by
  unfold execShortToSupply
  with_reducible repeat'
    first
      | assumption | apply Goes.next | apply Inv.ite | apply Goes.ite | apply keeps_setSv | apply keeps_svFail

theorem keeps_execDecayStuck {a1 : State} {a0} (h_a1 : Inv q m a1) : Goes q m (execDecayStuck a0 a1) := by
  unfold execDecayStuck
  with_reducible repeat' first | assumption | apply Goes.next | apply Inv.ite | apply keeps_svFail

theorem keeps_execOvertemp {a2 : State} {a0 a1} (h_a2 : Inv q m a2) : Goes q m (execOvertemp a0 a1 a2) := by
  unfold execOvertemp
  with_reducible repeat'
    first
      | assumption | apply Goes.next | apply Inv.ite | apply Goes.ite | apply keeps_setSv | apply keeps_svFail

theorem keeps_execRegLow {a3 : State} {a0 a1 a2} (h_a3 : Inv q m a3) : Goes q m (execRegLow a0 a1 a2 a3) := by
  unfold execRegLow
  with_reducible repeat' first | assumption | apply Goes.next | apply Inv.ite | apply keeps_setFlag

theorem keeps_execBoostFailed {a3 : State} {a0 a1 a2} (h_a3 : Inv q m a3) : Goes q m (execBoostFailed a0 a1 a2 a3) := by
  unfold execBoostFailed
  with_reducible repeat'
    first
      | assumption | apply Goes.next | apply Goes.ite | apply Inv.setReg | apply keeps_eventKey | apply keeps_setFlag

theorem keeps_inputVoltage {a0 : State} {a1 a2 a3} (h_a0 : Inv q m a0) : Inv q m (State.inputVoltage a0 a1 a2 a3) := by
  unfold State.inputVoltage
  with_reducible repeat' first | assumption | apply Inv.setReg | apply keeps_setFlag | (refine Inv.foldl (fun _ _ _ => ?_) _ ?_)

theorem keeps_execSupplyLow {a2 : State} {a0 a1} (h_a2 : Inv q m a2) : Goes q m (execSupplyLow a0 a1 a2) := by
  unfold execSupplyLow
  with_reducible repeat' first | assumption | apply Goes.next | apply keeps_inputVoltage

theorem keeps_execBankSupplyReturn {a2 : State} {a0 a1} (h_a2 : Inv q m a2) : Goes q m (execBankSupplyReturn a0 a1 a2) := by
  unfold execBankSupplyReturn
  with_reducible repeat' first | assumption | apply Goes.next | apply keeps_inputVoltage

theorem keeps_execBankOverload {a3 : State} {a0 a1 a2} (h_a3 : Inv q m a3) : Goes q m (execBankOverload a0 a1 a2 a3) := by
  unfold execBankOverload
  with_reducible repeat'
    first
      | assumption | apply Goes.next | apply Goes.ite | apply Inv.setReg | apply keeps_svClamp | apply keeps_svToOff
      | apply keeps_svSafeOff | apply keeps_eventKey | apply keeps_bump | apply keeps_setFlag
      | (refine Inv.foldl (fun _ _ _ => ?_) _ ?_)

theorem keeps_execAinSample {a2 : State} {a0 a1} (h_a2 : Inv q m a2) : Goes q m (execAinSample a0 a1 a2) := by
  unfold execAinSample
  with_reducible repeat' first | assumption | apply Goes.next | apply Goes.ite | apply Inv.setReg | apply keeps_setAin

theorem keeps_execAinOutOfRange {a1 : State} {a0} (h_a1 : Inv q m a1) : Goes q m (execAinOutOfRange a0 a1) := by
  unfold execAinOutOfRange
  with_reducible repeat' first | assumption | apply Goes.next | apply Inv.ite | apply keeps_inputFault

theorem keeps_wheelEdge {a0 : State} {a1 a2 a3 a4} (h_a0 : Inv q m a0) : Inv q m (State.wheelEdge a0 a1 a2 a3 a4) := by
  unfold State.wheelEdge
  with_reducible repeat'
    first
      | assumption | apply Inv.ite | apply keeps_setFlag | apply keeps_setAxis | (refine Inv.foldl (fun _ _ _ => ?_) _ ?_)

theorem keeps_shaftEdge {a0 : State} {a1 a2 a3 a4 a5} (h_a0 : Inv q m a0) : Inv q m (State.shaftEdge a0 a1 a2 a3 a4 a5) := by
  unfold State.shaftEdge
  with_reducible repeat' first | assumption | apply Inv.ite | apply keeps_setAxis | apply keeps_setFlag

theorem keeps_finAccept {a0 : State} {a1 a2 a3} (h_a0 : Inv q m a0) : Inv q m (State.finAccept a0 a1 a2 a3) := by
  unfold State.finAccept
  with_reducible repeat'
    first
      | assumption | apply Inv.ite | apply Inv.setReg | apply keeps_setFin | apply keeps_setFlag | apply keeps_inputFault
      | apply keeps_wheelEdge | apply keeps_shaftEdge | (refine Inv.foldl (fun _ _ _ => ?_) _ ?_) | split

theorem keeps_execFinEdge {a5 : State} {a0 a1 a2 a3 a4} (h_a5 : Inv q m a5) : Goes q m (execFinEdge a0 a1 a2 a3 a4 a5) := by
  unfold execFinEdge
  with_reducible repeat'
    first
      | assumption | apply Goes.next | apply Inv.ite | apply Goes.ite | apply keeps_setFin | apply keeps_inputFault
      | apply keeps_finAccept

theorem keeps_execNoEdges {a1 : State} {a0} (h_a1 : Inv q m a1) : Goes q m (execNoEdges a0 a1) := by
  unfold execNoEdges
  with_reducible repeat' first | assumption | apply Goes.next | apply Inv.ite | apply Inv.setReg | apply keeps_setFlag

theorem keeps_finZeroRule {a0} : RuleOk (finZeroRule a0) := by
  unfold finZeroRule
  with_reducible repeat' first | assumption | intro q m _ _ | intro _ | apply Inv.setReg | apply keeps_commandRule

theorem keeps_execFinZero {a3 : State} {a0 a1 a2} (h_a3 : Inv q m a3) : Goes q m (execFinZero a0 a1 a2 a3) := by
  unfold execFinZero
  with_reducible repeat' first | assumption | apply Goes.next | apply keeps_request | apply keeps_finZeroRule

theorem keeps_acuClassify {a0 : State} {a1} (h_a0 : Inv q m a0) : Inv q m (State.acuClassify a0 a1) := by
  unfold State.acuClassify
  with_reducible repeat' first | assumption | apply Inv.ite | apply Inv.setReg | apply keeps_setAcu | apply keeps_bump

theorem keeps_execAcuSample {a2 : State} {a0 a1} (h_a2 : Inv q m a2) : Goes q m (execAcuSample a0 a1 a2) := by
  unfold execAcuSample
  with_reducible repeat'
    first
      | assumption | apply Goes.next | apply Inv.ite | apply Goes.ite | apply Inv.setReg | apply keeps_acuClassify
      | apply keeps_setAcu | apply keeps_setFlag

theorem keeps_execAcuImpact {a1 : State} {a0} (h_a1 : Inv q m a1) : Goes q m (execAcuImpact a0 a1) := by
  unfold execAcuImpact
  with_reducible repeat' first | assumption | apply Goes.next | apply keeps_acuClassify

theorem keeps_execGrainRateUpdate {a1 : State} {a0} (h_a1 : Inv q m a1) : Goes q m (execGrainRateUpdate a0 a1) := by
  unfold execGrainRateUpdate
  with_reducible repeat' first | assumption | apply Goes.next | apply Goes.ite | apply Inv.setReg | apply keeps_setAcu

theorem keeps_execAcuNoise {a1 : State} {a0} (h_a1 : Inv q m a1) : Goes q m (execAcuNoise a0 a1) := by
  unfold execAcuNoise
  with_reducible repeat' first | assumption | apply Goes.next | apply Inv.ite | apply keeps_inputFault

theorem keeps_execBrgSample {a3 : State} {a0 a1 a2} (h_a3 : Inv q m a3) : Goes q m (execBrgSample a0 a1 a2 a3) := by
  unfold execBrgSample
  with_reducible repeat' first | assumption | apply Goes.next | apply Goes.ite | apply Inv.setReg | apply keeps_setBrg

theorem keeps_brgTareRule {a0} : RuleOk (brgTareRule a0) := by
  unfold brgTareRule
  with_reducible repeat'
    first
      | assumption | apply keeps_startItem | apply keeps_setBrg | (refine ⟨fun q m _ _ _ _ _ => ?_, fun q m _ _ _ _ => ?_⟩)

theorem keeps_execBrgTareCommand {a3 : State} {a0 a1 a2} (h_a3 : Inv q m a3) : Goes q m (execBrgTareCommand a0 a1 a2 a3) := by
  unfold execBrgTareCommand
  with_reducible repeat' first | assumption | apply Goes.next | apply keeps_request | apply keeps_brgTareRule

theorem keeps_execBrgTareEnd {a1 : State} {a0} (h_a1 : Inv q m a1) : Goes q m (execBrgTareEnd a0 a1) := by
  unfold execBrgTareEnd
  with_reducible repeat'
    first
      | assumption | apply Goes.next | apply Goes.ite | apply Inv.setReg | apply keeps_setBrg | apply keeps_finish
      | (extract_lets +onlyGivenNames x; clear_value x) | split

theorem keeps_converterFail {a0 : State} {a1} (h_a0 : Inv q m a0) : Inv q m (State.converterFail a0 a1) := by
  unfold State.converterFail
  with_reducible repeat'
    first
      | assumption | apply Inv.ite | apply Inv.setReg | apply keeps_setFlag | apply keeps_eventKey | apply keeps_spareFlag
      | apply keeps_inputFault | (refine Inv.foldl (fun _ _ _ => ?_) _ ?_)

theorem keeps_execConverterCheck {a2 : State} {a0 a1} (h_a2 : Inv q m a2) : Goes q m (execConverterCheck a0 a1 a2) := by
  unfold execConverterCheck
  with_reducible repeat'
    first
      | assumption | apply Goes.next | apply Inv.ite | apply Goes.ite | apply keeps_finishAct | apply keeps_converterFail
      | apply keeps_grantAct | fail_if_no_progress apply Inv.mk'
      | (extract_lets +onlyGivenNames x; refine_lift have hx : Inv q m x := ?_; ?_; on_goal 2 => unfold x; on_goal 1 => clear_value x)
      | (extract_lets +onlyGivenNames x; clear_value x) | split

theorem keeps_supplyFaults {a0 : State} {a1} (h_a0 : Inv q m a0) : Inv q m (State.supplyFaults a0 a1) := by
  unfold State.supplyFaults
  with_reducible repeat' first | assumption | apply keeps_inputFault | (refine Inv.foldl (fun _ _ _ => ?_) _ ?_)

theorem keeps_execSensorSupplyLimit {a3 : State} {a0 a1 a2} (h_a3 : Inv q m a3) : Goes q m (execSensorSupplyLimit a0 a1 a2 a3) := by
  unfold execSensorSupplyLimit
  with_reducible repeat'
    first
      | assumption | apply Goes.next | apply Inv.ite | apply Goes.ite | apply Inv.setReg | apply keeps_setFlag
      | apply keeps_eventKey | apply keeps_supplyFaults | fail_if_no_progress apply Inv.mk'
      | (extract_lets +onlyGivenNames x; refine_lift have hx : Inv q m x := ?_; ?_; on_goal 2 => unfold x; on_goal 1 => clear_value x)
      | split

theorem keeps_execInputFaultDetect {a4 : State} {a0 a1 a2 a3} (h_a4 : Inv q m a4) : Goes q m (execInputFaultDetect a0 a1 a2 a3 a4) := by
  unfold execInputFaultDetect
  with_reducible repeat'
    first
      | assumption | apply Goes.next | apply Inv.ite | apply Goes.ite | apply keeps_converterFail | apply keeps_inputFault
      | split

theorem keeps_execInputFaultClear {a4 : State} {a0 a1 a2 a3} (h_a4 : Inv q m a4) : Goes q m (execInputFaultClear a0 a1 a2 a3 a4) := by
  unfold execInputFaultClear
  with_reducible repeat' first | assumption | apply Goes.next | apply Inv.ite | apply keeps_setFlag

theorem keeps_execImuSample {a6 : State} {a0 a1 a2 a3 a4 a5} (h_a6 : Inv q m a6) : Goes q m (execImuSample a0 a1 a2 a3 a4 a5 a6) := by
  unfold execImuSample
  with_reducible repeat'
    first
      | assumption | apply Goes.next | apply Inv.setReg | fail_if_no_progress apply Inv.mk'
      | (refine Inv.foldl (fun _ _ _ => ?_) _ ?_)

theorem keeps_execImuStuck {a0 : State} (h_a0 : Inv q m a0) : Goes q m (execImuStuck a0) := by
  unfold execImuStuck
  with_reducible repeat'
    first
      | assumption | apply Goes.next | apply Inv.ite | apply keeps_inputFault | fail_if_no_progress apply Inv.mk'

theorem keeps_inputEnableRule {a0 a1 a2} (h_a2 : ∀ q m x, Inv q m x → Inv q m (a2 x)) : RuleOk (inputEnableRule a0 a1 a2) := by
  unfold inputEnableRule
  with_reducible repeat'
    first
      | assumption | apply Inv.ite | apply keeps_settle | apply h_a2
      | (refine ⟨fun q m _ _ _ _ _ => ?_, fun q m _ _ _ _ => ?_⟩)

theorem keeps_inputLocked {a0 a1 a2 a3} : RuleOk (inputLocked a0 a1 a2 a3) := by
  unfold inputLocked
  with_reducible repeat' first | assumption | intro q m _ _ | apply keeps_settingRule

theorem keeps_sensSupplyRule : RuleOk sensSupplyRule := by
  unfold sensSupplyRule
  with_reducible repeat'
    first
      | assumption | apply Inv.ite | apply keeps_settle | apply keeps_supplyFaults | fail_if_no_progress apply Inv.mk'
      | (refine Inv.foldl (fun _ _ _ => ?_) _ ?_) | (refine ⟨fun q m _ _ _ _ _ => ?_, fun q m _ _ _ _ => ?_⟩)

theorem keeps_rule11 {a0 a1} : OptRuleOk (rule11 a0 a1) := by
  unfold rule11
  with_reducible repeat'
    first
      | assumption | intro q m _ _ | apply OptRuleOk.ite | apply OptRuleOk.none | apply OptRuleOk.some | apply keeps_inputEnableRule
      | apply keeps_setAin | apply keeps_settingRule | apply keeps_inputLocked | apply keeps_setFlag | apply keeps_setFin
      | apply keeps_finZeroRule | apply keeps_setAcu | apply keeps_setBrg | apply keeps_brgTareRule | apply keeps_sensSupplyRule

end Sys2Proof.Laws
end

