-- ==== Sys2Proof/Laws/KeepsFabric.lean ====
section
/-!
SUPPORT. What cells, regions, the Fleet Book's rows and maintenance keep (`Inv`), one lemma for each definition.
-/
namespace Sys2Proof.Laws
open Sys2Proof Sys2Proof.Machine

variable {q : List Instr} {m : Nat}

theorem keeps_commitOne {a0 : State} (h_a0 : Inv q m a0) : Inv q m (State.commitOne a0) := by
  unfold State.commitOne
  with_reducible repeat'
    first
      | assumption | apply keeps_circulate | fail_if_no_progress apply Inv.mk'
      | (extract_lets +onlyGivenNames x; refine_lift have hx : Inv q m x := ?_; ?_; on_goal 2 => unfold x; on_goal 1 => clear_value x)
      | (extract_lets +onlyGivenNames x; clear_value x) | split

theorem keeps_admitHeld {a0 : State} (h_a0 : Inv q m a0) : Inv q m (State.admitHeld a0) := by
  unfold State.admitHeld
  with_reducible repeat'
    first
      | assumption | apply keeps_admitRec | fail_if_no_progress apply Inv.mk' | (refine Inv.foldl (fun _ _ _ => ?_) _ ?_)

theorem keeps_leaveFlood {a0 : State} (h_a0 : Inv q m a0) : Inv q m (State.leaveFlood a0) := by
  unfold State.leaveFlood
  with_reducible repeat'
    first
      | assumption | apply Inv.ite | apply Inv.setReg | apply keeps_admitRecord | fail_if_no_progress apply Inv.mk'
      | (refine Inv.foldl (fun _ _ _ => ?_) _ ?_)

theorem keeps_execPageCommit {a1 : State} {a0} (h_a1 : Inv q m a1) : Goes q m (execPageCommit a0 a1) := by
  unfold execPageCommit
  with_reducible repeat'
    first
      | assumption | apply Goes.next | apply Goes.ite | apply keeps_commitOne | apply keeps_leaveFlood | apply keeps_admitHeld
      | apply keeps_circulate | apply keeps_eventKey | apply keeps_bumpBy | apply keeps_requestRepair
      | fail_if_no_progress apply Inv.mk' | (refine Inv.foldl (fun _ _ _ => ?_) _ ?_)

theorem keeps_dropNonce {a0 : State} {a1} (h_a0 : Inv q m a0) : Inv q m (State.dropNonce a0 a1) := by
  unfold State.dropNonce
  with_reducible repeat' first | assumption | fail_if_no_progress apply Inv.mk'

theorem keeps_recordClearArmRule : RuleOk (recordClearArmRule) := by
  unfold recordClearArmRule
  with_reducible repeat'
    first
      | assumption | apply keeps_draw | apply keeps_finish | fail_if_no_progress apply Inv.mk'
      | (refine ⟨fun q m _ _ _ _ _ => ?_, fun q m _ _ _ _ => ?_⟩)

theorem keeps_execRecordClearArm {a2 : State} {a0 a1} (h_a2 : Inv q m a2) : Goes q m (execRecordClearArm a0 a1 a2) := by
  unfold execRecordClearArm
  with_reducible repeat' first | assumption | apply Goes.next | apply keeps_request | apply keeps_recordClearArmRule

theorem keeps_recordClearRule : RuleOk recordClearRule := by
  unfold recordClearRule
  with_reducible repeat'
    first
      | assumption | apply Inv.ite | apply keeps_startItem | apply keeps_authSuccess | apply keeps_dropNonce | apply keeps_offer
      | apply keeps_authFailure | fail_if_no_progress apply Inv.mk' | (refine ⟨fun q m _ _ _ _ _ => ?_, fun q m _ _ _ _ => ?_⟩)

theorem keeps_execRecordClear {a2 : State} {a0 a1} (h_a2 : Inv q m a2) : Goes q m (execRecordClear a0 a1 a2) := by
  unfold execRecordClear
  with_reducible repeat' first | assumption | apply Goes.next | apply keeps_request | apply keeps_recordClearRule

theorem keeps_execRecordClearEraseEnd {a0 : State} (h_a0 : Inv q m a0) : Goes q m (execRecordClearEraseEnd a0) := by
  unfold execRecordClearEraseEnd
  with_reducible repeat'
    first
      | assumption | apply Goes.next | apply keeps_finishOpt | fail_if_no_progress apply Inv.mk'
      | (extract_lets +onlyGivenNames x; clear_value x) | split

theorem keeps_execNonceExpiry {a1 : State} {a0} (h_a1 : Inv q m a1) : Goes q m (execNonceExpiry a0 a1) := by
  unfold execNonceExpiry
  with_reducible repeat' first | assumption | apply Goes.next | apply Inv.ite | apply keeps_dropNonce | split

theorem keeps_execOperatingTimeSave {a0 : State} (h_a0 : Inv q m a0) : Goes q m (execOperatingTimeSave a0) := by
  unfold execOperatingTimeSave
  with_reducible repeat'
    first
      | assumption | apply Goes.next | apply Goes.ite | apply keeps_bump | fail_if_no_progress apply Inv.mk'

theorem keeps_windowRule {a0} : RuleOk (windowRule a0) := by
  unfold windowRule
  with_reducible repeat'
    first
      | assumption | apply keeps_finish | fail_if_no_progress apply Inv.mk'
      | (refine ⟨fun q m _ _ _ _ _ => ?_, fun q m _ _ _ _ => ?_⟩)

theorem keeps_rule16 {a0 a1} : OptRuleOk (rule16 a0 a1) := by
  unfold rule16
  with_reducible repeat'
    first
      | apply OptRuleOk.ite | apply OptRuleOk.none | apply OptRuleOk.some | apply keeps_windowRule
      | apply keeps_recordClearArmRule | apply keeps_recordClearRule

theorem keeps_openSession {a0 : State} {a1 a2} (h_a0 : Inv q m a0) : Inv q m (State.openSession a0 a1 a2) := by
  unfold State.openSession
  with_reducible repeat' first | assumption | apply keeps_setSess

theorem keeps_closeSession {a0 : State} {a1} (h_a0 : Inv q m a0) : Inv q m (State.closeSession a0 a1) := by
  unfold State.closeSession
  with_reducible repeat'
    first
      | assumption | apply keeps_setSess | apply keeps_dropChallenge | fail_if_no_progress apply Inv.mk'

theorem keeps_dropTransfer {a0 : State} {a1} (h_a0 : Inv q m a0) : Inv q m (State.dropTransfer a0 a1) := by
  unfold State.dropTransfer
  with_reducible repeat' first | assumption | apply keeps_setSess

theorem keeps_setSdo {a0 : State} {a1 a2} (h_a0 : Inv q m a0) : Inv q m (State.setSdo a0 a1 a2) := by
  unfold State.setSdo
  with_reducible repeat' first | assumption | fail_if_no_progress apply Inv.mk'

theorem keeps_syncSdo {a0 : State} {a1 a2} (h_a0 : Inv q m a0) : Inv q m (State.syncSdo a0 a1 a2) := by
  unfold State.syncSdo
  with_reducible repeat'
    first
      | assumption | apply Inv.ite | apply keeps_openSession | apply keeps_setSdo | apply keeps_closeSession

theorem keeps_issue {a0 : State} {a1 a2 a3} (h_a0 : Inv q m a0) (h_a3 : ∀ q m x, Inv q m x → Inv q m (a3 x)) : Inv q m (State.issue a0 a1 a2 a3) := by
  unfold State.issue
  with_reducible repeat' first | assumption | apply Inv.ite | apply keeps_setCell | apply h_a3

theorem keeps_cellMap1 {a0 : State} {a1 a2 a3 a4 a5} (h_a0 : Inv q m a0) : Inv q m (State.cellMap1 a0 a1 a2 a3 a4 a5) := by
  unfold State.cellMap1
  with_reducible repeat' first | assumption | apply keeps_setCell

theorem keeps_cellMap2 {a0 : State} {a1 a2 a3 a4 a5 a6} (h_a0 : Inv q m a0) : Inv q m (State.cellMap2 a0 a1 a2 a3 a4 a5 a6) := by
  unfold State.cellMap2
  with_reducible repeat' first | assumption | apply keeps_setCell

theorem keeps_cellMap3 {a0 : State} {a1 a2 a3 a4 a5 a6} (h_a0 : Inv q m a0) : Inv q m (State.cellMap3 a0 a1 a2 a3 a4 a5 a6) := by
  unfold State.cellMap3
  with_reducible repeat' first | assumption | apply keeps_setCell

theorem keeps_deliverWord {a0 : State} {a1 a2 a3 a4} (h_a0 : Inv q m a0) : Inv q m (State.deliverWord a0 a1 a2 a3 a4) := by
  unfold State.deliverWord
  with_reducible repeat' first | assumption | apply Inv.ite | apply keeps_setCell | apply keeps_eventKey | apply keeps_bump

theorem keeps_execVmac {a6 : State} {a0 a1 a2 a3 a4 a5} (h_a6 : Inv q m a6) : Goes q m (execVmac a0 a1 a2 a3 a4 a5 a6) := by
  unfold execVmac
  with_reducible repeat' first | assumption | intro q m _ _ | apply Goes.next | apply keeps_issue | apply keeps_setCell

theorem keeps_execDot {a6 : State} {a0 a1 a2 a3 a4 a5} (h_a6 : Inv q m a6) : Goes q m (execDot a0 a1 a2 a3 a4 a5 a6) := by
  unfold execDot
  with_reducible repeat' first | assumption | intro q m _ _ | apply Goes.next | apply keeps_issue | apply keeps_setCell

theorem keeps_execVmul {a6 : State} {a0 a1 a2 a3 a4 a5} (h_a6 : Inv q m a6) : Goes q m (execVmul a0 a1 a2 a3 a4 a5 a6) := by
  unfold execVmul
  with_reducible repeat' first | assumption | intro q m _ _ | apply Goes.next | apply keeps_issue | apply keeps_setCell

theorem keeps_execAclr {a4 : State} {a0 a1 a2 a3} (h_a4 : Inv q m a4) : Goes q m (execAclr a0 a1 a2 a3 a4) := by
  unfold execAclr
  with_reducible repeat' first | assumption | intro q m _ _ | apply Goes.next | apply keeps_issue | apply keeps_setCell

theorem keeps_execAout8 {a6 : State} {a0 a1 a2 a3 a4 a5} (h_a6 : Inv q m a6) : Goes q m (execAout8 a0 a1 a2 a3 a4 a5 a6) := by
  unfold execAout8
  with_reducible repeat' first | assumption | intro q m _ _ | apply Goes.next | apply keeps_issue | apply keeps_setCell

theorem keeps_execAout32 {a6 : State} {a0 a1 a2 a3 a4 a5} (h_a6 : Inv q m a6) : Goes q m (execAout32 a0 a1 a2 a3 a4 a5 a6) := by
  unfold execAout32
  with_reducible repeat' first | assumption | intro q m _ _ | apply Goes.next | apply keeps_issue | apply keeps_setCell

theorem keeps_execAbias {a5 : State} {a0 a1 a2 a3 a4} (h_a5 : Inv q m a5) : Goes q m (execAbias a0 a1 a2 a3 a4 a5) := by
  unfold execAbias
  with_reducible repeat' first | assumption | intro q m _ _ | apply Goes.next | apply keeps_issue | apply keeps_setCell

theorem keeps_execVbcast {a5 : State} {a0 a1 a2 a3 a4} (h_a5 : Inv q m a5) : Goes q m (execVbcast a0 a1 a2 a3 a4 a5) := by
  unfold execVbcast
  with_reducible repeat' first | assumption | intro q m _ _ | apply Goes.next | apply keeps_issue | apply keeps_setCell

theorem keeps_execAdds {a7 : State} {a0 a1 a2 a3 a4 a5 a6} (h_a7 : Inv q m a7) : Goes q m (execAdds a0 a1 a2 a3 a4 a5 a6 a7) := by
  unfold execAdds
  with_reducible repeat' first | assumption | intro q m _ _ | apply Goes.next | apply keeps_issue | apply keeps_cellMap2

theorem keeps_execSubs {a7 : State} {a0 a1 a2 a3 a4 a5 a6} (h_a7 : Inv q m a7) : Goes q m (execSubs a0 a1 a2 a3 a4 a5 a6 a7) := by
  unfold execSubs
  with_reducible repeat' first | assumption | intro q m _ _ | apply Goes.next | apply keeps_issue | apply keeps_cellMap2

theorem keeps_execMuls {a7 : State} {a0 a1 a2 a3 a4 a5 a6} (h_a7 : Inv q m a7) : Goes q m (execMuls a0 a1 a2 a3 a4 a5 a6 a7) := by
  unfold execMuls
  with_reducible repeat' first | assumption | intro q m _ _ | apply Goes.next | apply keeps_issue | apply keeps_cellMap2

theorem keeps_execMacs {a7 : State} {a0 a1 a2 a3 a4 a5 a6} (h_a7 : Inv q m a7) : Goes q m (execMacs a0 a1 a2 a3 a4 a5 a6 a7) := by
  unfold execMacs
  with_reducible repeat' first | assumption | intro q m _ _ | apply Goes.next | apply keeps_issue | apply keeps_cellMap3

theorem keeps_execMin {a7 : State} {a0 a1 a2 a3 a4 a5 a6} (h_a7 : Inv q m a7) : Goes q m (execMin a0 a1 a2 a3 a4 a5 a6 a7) := by
  unfold execMin
  with_reducible repeat' first | assumption | intro q m _ _ | apply Goes.next | apply keeps_issue | apply keeps_cellMap2

theorem keeps_execMax {a7 : State} {a0 a1 a2 a3 a4 a5 a6} (h_a7 : Inv q m a7) : Goes q m (execMax a0 a1 a2 a3 a4 a5 a6 a7) := by
  unfold execMax
  with_reducible repeat' first | assumption | intro q m _ _ | apply Goes.next | apply keeps_issue | apply keeps_cellMap2

theorem keeps_execShls {a6 : State} {a0 a1 a2 a3 a4 a5} (h_a6 : Inv q m a6) : Goes q m (execShls a0 a1 a2 a3 a4 a5 a6) := by
  unfold execShls
  with_reducible repeat' first | assumption | intro q m _ _ | apply Goes.next | apply keeps_issue | apply keeps_cellMap1

theorem keeps_execShra {a6 : State} {a0 a1 a2 a3 a4 a5} (h_a6 : Inv q m a6) : Goes q m (execShra a0 a1 a2 a3 a4 a5 a6) := by
  unfold execShra
  with_reducible repeat' first | assumption | intro q m _ _ | apply Goes.next | apply keeps_issue | apply keeps_cellMap1

theorem keeps_execCmp {a7 : State} {a0 a1 a2 a3 a4 a5 a6} (h_a7 : Inv q m a7) : Goes q m (execCmp a0 a1 a2 a3 a4 a5 a6 a7) := by
  unfold execCmp
  with_reducible repeat' first | assumption | intro q m _ _ | apply Goes.next | apply keeps_issue | apply keeps_setCell

theorem keeps_execMov {a6 : State} {a0 a1 a2 a3 a4 a5} (h_a6 : Inv q m a6) : Goes q m (execMov a0 a1 a2 a3 a4 a5 a6) := by
  unfold execMov
  with_reducible repeat' first | assumption | intro q m _ _ | apply Goes.next | apply keeps_issue | apply keeps_cellMap1

theorem keeps_execAnd {a7 : State} {a0 a1 a2 a3 a4 a5 a6} (h_a7 : Inv q m a7) : Goes q m (execAnd a0 a1 a2 a3 a4 a5 a6 a7) := by
  unfold execAnd
  with_reducible repeat' first | assumption | intro q m _ _ | apply Goes.next | apply keeps_issue | apply keeps_cellMap2

theorem keeps_execOr {a7 : State} {a0 a1 a2 a3 a4 a5 a6} (h_a7 : Inv q m a7) : Goes q m (execOr a0 a1 a2 a3 a4 a5 a6 a7) := by
  unfold execOr
  with_reducible repeat' first | assumption | intro q m _ _ | apply Goes.next | apply keeps_issue | apply keeps_cellMap2

theorem keeps_execXor {a7 : State} {a0 a1 a2 a3 a4 a5 a6} (h_a7 : Inv q m a7) : Goes q m (execXor a0 a1 a2 a3 a4 a5 a6 a7) := by
  unfold execXor
  with_reducible repeat' first | assumption | intro q m _ _ | apply Goes.next | apply keeps_issue | apply keeps_cellMap2

theorem keeps_execNot {a6 : State} {a0 a1 a2 a3 a4 a5} (h_a6 : Inv q m a6) : Goes q m (execNot a0 a1 a2 a3 a4 a5 a6) := by
  unfold execNot
  with_reducible repeat' first | assumption | intro q m _ _ | apply Goes.next | apply keeps_issue | apply keeps_cellMap1

theorem keeps_execSel {a7 : State} {a0 a1 a2 a3 a4 a5 a6} (h_a7 : Inv q m a7) : Goes q m (execSel a0 a1 a2 a3 a4 a5 a6 a7) := by
  unfold execSel
  with_reducible repeat' first | assumption | intro q m _ _ | apply Goes.next | apply keeps_issue | apply keeps_cellMap2

theorem keeps_execPopc {a6 : State} {a0 a1 a2 a3 a4 a5} (h_a6 : Inv q m a6) : Goes q m (execPopc a0 a1 a2 a3 a4 a5 a6) := by
  unfold execPopc
  with_reducible repeat' first | assumption | intro q m _ _ | apply Goes.next | apply keeps_issue | apply keeps_cellMap1

theorem keeps_execRelu {a6 : State} {a0 a1 a2 a3 a4 a5} (h_a6 : Inv q m a6) : Goes q m (execRelu a0 a1 a2 a3 a4 a5 a6) := by
  unfold execRelu
  with_reducible repeat' first | assumption | intro q m _ _ | apply Goes.next | apply keeps_issue | apply keeps_cellMap1

theorem keeps_execLut {a6 : State} {a0 a1 a2 a3 a4 a5} (h_a6 : Inv q m a6) : Goes q m (execLut a0 a1 a2 a3 a4 a5 a6) := by
  unfold execLut
  with_reducible repeat' first | assumption | intro q m _ _ | apply Goes.next | apply keeps_issue | apply keeps_setCell

theorem keeps_execSigm {a6 : State} {a0 a1 a2 a3 a4 a5} (h_a6 : Inv q m a6) : Goes q m (execSigm a0 a1 a2 a3 a4 a5 a6) := by
  unfold execSigm
  with_reducible repeat' first | assumption | intro q m _ _ | apply Goes.next | apply keeps_issue | apply keeps_cellMap1

theorem keeps_execTanh {a6 : State} {a0 a1 a2 a3 a4 a5} (h_a6 : Inv q m a6) : Goes q m (execTanh a0 a1 a2 a3 a4 a5 a6) := by
  unfold execTanh
  with_reducible repeat' first | assumption | intro q m _ _ | apply Goes.next | apply keeps_issue | apply keeps_cellMap1

theorem keeps_execQuant {a6 : State} {a0 a1 a2 a3 a4 a5} (h_a6 : Inv q m a6) : Goes q m (execQuant a0 a1 a2 a3 a4 a5 a6) := by
  unfold execQuant
  with_reducible repeat' first | assumption | intro q m _ _ | apply Goes.next | apply keeps_issue | apply keeps_setCell

theorem keeps_execLd {a6 : State} {a0 a1 a2 a3 a4 a5} (h_a6 : Inv q m a6) : Goes q m (execLd a0 a1 a2 a3 a4 a5 a6) := by
  unfold execLd
  with_reducible repeat' first | assumption | intro q m _ _ | apply Goes.next | apply keeps_issue | apply keeps_setCell

theorem keeps_execSt {a6 : State} {a0 a1 a2 a3 a4 a5} (h_a6 : Inv q m a6) : Goes q m (execSt a0 a1 a2 a3 a4 a5 a6) := by
  unfold execSt
  with_reducible repeat' first | assumption | intro q m _ _ | apply Goes.next | apply keeps_issue | apply keeps_setCell

theorem keeps_execLdv {a6 : State} {a0 a1 a2 a3 a4 a5} (h_a6 : Inv q m a6) : Goes q m (execLdv a0 a1 a2 a3 a4 a5 a6) := by
  unfold execLdv
  with_reducible repeat' first | assumption | intro q m _ _ | apply Goes.next | apply keeps_issue | apply keeps_setCell

theorem keeps_execStv {a6 : State} {a0 a1 a2 a3 a4 a5} (h_a6 : Inv q m a6) : Goes q m (execStv a0 a1 a2 a3 a4 a5 a6) := by
  unfold execStv
  with_reducible repeat' first | assumption | intro q m _ _ | apply Goes.next | apply keeps_issue | apply keeps_setCell

theorem keeps_issueDma {a0 : State} {a1 a2 a3 a4 a5 a6} (h_a0 : Inv q m a0) : Inv q m (State.issueDma a0 a1 a2 a3 a4 a5 a6) := by
  unfold State.issueDma
  with_reducible repeat' first | assumption | apply Inv.ite | apply keeps_setCell

theorem keeps_execDrd {a7 : State} {a0 a1 a2 a3 a4 a5 a6} (h_a7 : Inv q m a7) : Goes q m (execDrd a0 a1 a2 a3 a4 a5 a6 a7) := by
  unfold execDrd
  with_reducible repeat' first | assumption | intro q m _ _ | apply Goes.next | apply keeps_issue | apply keeps_issueDma

theorem keeps_execDwr {a7 : State} {a0 a1 a2 a3 a4 a5 a6} (h_a7 : Inv q m a7) : Goes q m (execDwr a0 a1 a2 a3 a4 a5 a6 a7) := by
  unfold execDwr
  with_reducible repeat' first | assumption | intro q m _ _ | apply Goes.next | apply keeps_issue | apply keeps_issueDma

theorem keeps_dramWrite {a0 : State} {a1 a2 a3} (h_a0 : Inv q m a0) : Inv q m (State.dramWrite a0 a1 a2 a3) := by
  unfold State.dramWrite
  with_reducible repeat' first | assumption | apply Inv.ite | apply keeps_fusionWrite | fail_if_no_progress apply Inv.mk'

theorem keeps_execDmaComplete {a1 : State} {a0} (h_a1 : Inv q m a1) : Goes q m (execDmaComplete a0 a1) := by
  unfold execDmaComplete
  with_reducible repeat'
    first
      | assumption | apply Goes.next | apply Inv.ite | apply keeps_dramWrite | apply keeps_setCell
      | (refine Inv.foldl (fun _ _ _ => ?_) _ ?_) | split

theorem keeps_execCellSend {a6 : State} {a0 a1 a2 a3 a4 a5} (h_a6 : Inv q m a6) : Goes q m (execCellSend a0 a1 a2 a3 a4 a5 a6) := by
  unfold execCellSend
  with_reducible repeat'
    first
      | assumption | intro q m _ _ | apply Goes.next | apply keeps_issue | apply keeps_deliverWord
      | (extract_lets +onlyGivenNames x; clear_value x) | split

theorem keeps_execRecv {a5 : State} {a0 a1 a2 a3 a4} (h_a5 : Inv q m a5) : Goes q m (execRecv a0 a1 a2 a3 a4 a5) := by
  unfold execRecv
  with_reducible repeat' first | assumption | intro q m _ _ | apply Goes.next | apply keeps_issue | apply keeps_setCell

theorem keeps_execBcast {a6 : State} {a0 a1 a2 a3 a4 a5} (h_a6 : Inv q m a6) : Goes q m (execBcast a0 a1 a2 a3 a4 a5 a6) := by
  unfold execBcast
  with_reducible repeat'
    first
      | assumption | intro q m _ _ | apply Goes.next | apply keeps_issue | apply keeps_deliverWord
      | (refine Inv.foldl (fun _ _ _ => ?_) _ ?_)

theorem keeps_execCellNop {a3 : State} {a0 a1 a2} (h_a3 : Inv q m a3) : Goes q m (execCellNop a0 a1 a2 a3) := by
  unfold execCellNop
  with_reducible repeat'
    first
      | assumption | intro q m _ _ | apply Goes.next | apply keeps_issue | extract_lets +onlyGivenNames x
      | dsimp -zeta only [id]

theorem keeps_execCellLoop {a4 : State} {a0 a1 a2 a3} (h_a4 : Inv q m a4) : Goes q m (execCellLoop a0 a1 a2 a3 a4) := by
  unfold execCellLoop
  with_reducible repeat' first | assumption | apply Goes.next | apply Goes.ite | apply keeps_setCell

theorem keeps_execHandover {a3 : State} {a0 a1 a2} (h_a3 : Inv q m a3) : Goes q m (execHandover a0 a1 a2 a3) := by
  unfold execHandover
  with_reducible repeat'
    first
      | assumption | intro q m _ _ | apply Goes.next | apply keeps_issue | apply keeps_setRegion | split

theorem keeps_execTstamp {a4 : State} {a0 a1 a2 a3} (h_a4 : Inv q m a4) : Goes q m (execTstamp a0 a1 a2 a3 a4) := by
  unfold execTstamp
  with_reducible repeat' first | assumption | intro q m _ _ | apply Goes.next | apply keeps_issue | apply keeps_setCell

theorem keeps_execObjrd {a5 : State} {a0 a1 a2 a3 a4} (h_a5 : Inv q m a5) : Goes q m (execObjrd a0 a1 a2 a3 a4 a5) := by
  unfold execObjrd
  with_reducible repeat' first | assumption | intro q m _ _ | apply Goes.next | apply keeps_issue | apply keeps_setCell

theorem keeps_execObjwr {a5 : State} {a0 a1 a2 a3 a4} (h_a5 : Inv q m a5) : Goes q m (execObjwr a0 a1 a2 a3 a4 a5) := by
  unfold execObjwr
  with_reducible repeat'
    first
      | assumption | intro q m _ _ | apply Goes.next | apply keeps_issue | apply keeps_setRegion
      | (extract_lets +onlyGivenNames x; clear_value x) | split

theorem keeps_execLinewr {a6 : State} {a0 a1 a2 a3 a4 a5} (h_a6 : Inv q m a6) : Goes q m (execLinewr a0 a1 a2 a3 a4 a5 a6) := by
  unfold execLinewr
  with_reducible repeat'
    first
      | assumption | intro q m _ _ | apply Goes.next | apply Inv.ite | apply keeps_issue | apply keeps_lineWrite

theorem keeps_execCuearm {a5 : State} {a0 a1 a2 a3 a4} (h_a5 : Inv q m a5) : Goes q m (execCuearm a0 a1 a2 a3 a4 a5) := by
  unfold execCuearm
  with_reducible repeat'
    first
      | assumption | intro q m _ _ | apply Goes.next | apply Inv.ite | apply keeps_issue | apply keeps_armCue
      | apply keeps_setCell

theorem keeps_execAxrd {a5 : State} {a0 a1 a2 a3 a4} (h_a5 : Inv q m a5) : Goes q m (execAxrd a0 a1 a2 a3 a4 a5) := by
  unfold execAxrd
  with_reducible repeat' first | assumption | intro q m _ _ | apply Goes.next | apply keeps_issue | apply keeps_setCell

theorem keeps_execEvent {a5 : State} {a0 a1 a2 a3 a4} (h_a5 : Inv q m a5) : Goes q m (execEvent a0 a1 a2 a3 a4 a5) := by
  unfold execEvent
  with_reducible repeat' first | assumption | intro q m _ _ | apply Goes.next | apply keeps_issue | apply keeps_offer

theorem keeps_showCells {a0 : State} (h_a0 : Inv q m a0) : Inv q m (State.showCells a0) := by
  unfold State.showCells
  with_reducible repeat' first | assumption | apply Inv.setReg

theorem keeps_failScenes {a0 : State} {a1} (h_a0 : Inv q m a0) : Inv q m (State.failScenes a0 a1) := by
  unfold State.failScenes
  with_reducible repeat'
    first
      | assumption | apply Inv.ite | apply keeps_scenePendEnd | apply keeps_sceneEnd
      | (refine Inv.foldl (fun _ _ _ => ?_) _ ?_)

theorem keeps_regionFails {a0 : State} {a1} (h_a0 : Inv q m a0) : Inv q m (State.regionFails a0 a1) := by
  unfold State.regionFails
  with_reducible repeat' first | assumption | apply Inv.ite | apply Inv.setReg | apply keeps_eventKey | apply keeps_fuseFault | split

theorem keeps_placeFails {a0 : State} {a1} (h_a0 : Inv q m a0) : Inv q m (State.placeFails a0 a1) := by
  unfold State.placeFails
  with_reducible repeat'
    first
      | assumption | apply keeps_eventKey | apply keeps_setFlag | apply keeps_showCells | apply keeps_failScenes
      | apply keeps_regionFails | fail_if_no_progress apply Inv.mk'

theorem keeps_cellFails {a0 : State} {a1 a2} (h_a0 : Inv q m a0) : Inv q m (State.cellFails a0 a1 a2) := by
  unfold State.cellFails
  with_reducible repeat' first | assumption | apply Inv.ite | apply keeps_requestRepair | apply keeps_placeFails

theorem keeps_putOem {a0 : State} {a1 a2} (h_a0 : Inv q m a0) : Inv q m (State.putOem a0 a1 a2) := by
  unfold State.putOem
  with_reducible repeat' first | assumption | apply Inv.ite | apply Inv.setReg | apply Inv.setBlob

theorem keeps_oemLeave {a0 : State} {a1} (h_a0 : Inv q m a0) : Inv q m (State.oemLeave a0 a1) := by
  unfold State.oemLeave
  with_reducible repeat'
    first
      | assumption | apply Inv.ite | apply Inv.setReg | apply Inv.setBlob | apply keeps_setPslot | apply keeps_setRegion
      | (refine Inv.foldl (fun _ _ _ => ?_) _ ?_)

theorem keeps_oemEnter {a0 : State} {a1 a2 a3} (h_a0 : Inv q m a0) : Inv q m (State.oemEnter a0 a1 a2 a3) := by
  unfold State.oemEnter
  with_reducible repeat'
    first
      | assumption | apply keeps_putOem | apply keeps_setRegion | (refine Inv.foldl (fun _ _ _ => ?_) _ ?_)

theorem keeps_oemToDict {a0 : State} {a1} (h_a0 : Inv q m a0) : Inv q m (State.oemToDict a0 a1) := by
  unfold State.oemToDict
  with_reducible repeat'
    first
      | assumption | apply keeps_putOem | apply keeps_setRegion | (refine Inv.foldl (fun _ _ _ => ?_) _ ?_) | split

theorem keeps_oemToCells {a0 : State} {a1} (h_a0 : Inv q m a0) : Inv q m (State.oemToCells a0 a1) := by
  unfold State.oemToCells
  with_reducible repeat'
    first
      | assumption | apply Inv.ite | apply keeps_putOem | apply keeps_finish | apply keeps_setRegion
      | (refine Inv.foldl (fun _ _ _ => ?_) _ ?_) | split

theorem keeps_oemRule {a0 a1} : RuleOk (oemRule a0 a1) := by
  unfold oemRule
  with_reducible repeat'
    first
      | assumption | apply keeps_setRegion | apply keeps_finish | (refine ⟨fun q m _ _ _ _ _ => ?_, fun q m _ _ _ _ => ?_⟩)
      | split | extract_lets +onlyGivenNames x | dsimp -zeta only [id]

theorem keeps_stageScene {a0 : State} {a1} (h_a0 : Inv q m a0) : Inv q m (State.stageScene a0 a1) := by
  unfold State.stageScene
  with_reducible repeat'
    first
      | assumption | apply keeps_setCell | fail_if_no_progress apply Inv.mk' | (refine Inv.foldl (fun _ _ _ => ?_) _ ?_)

theorem keeps_clearStates {a0 : State} {a1 a2} (h_a0 : Inv q m a0) : Inv q m (State.clearStates a0 a1 a2) := by
  unfold State.clearStates
  with_reducible repeat'
    first
      | assumption | apply keeps_setCell | fail_if_no_progress apply Inv.mk' | (refine Inv.foldl (fun _ _ _ => ?_) _ ?_)

theorem keeps_takeShadow {a0 : State} {a1} (h_a0 : Inv q m a0) : Inv q m (State.takeShadow a0 a1) := by
  unfold State.takeShadow
  with_reducible repeat' first | assumption | apply keeps_setCell | (refine Inv.foldl (fun _ _ _ => ?_) _ ?_)

theorem keeps_showRunning {a0 : State} {a1 a2} (h_a0 : Inv q m a0) : Inv q m (State.showRunning a0 a1 a2) := by
  unfold State.showRunning
  with_reducible repeat' first | assumption | apply Inv.setReg | apply keeps_setRegion

theorem keeps_disarmPricking {a0 : State} {a1} (h_a0 : Inv q m a0) : Inv q m (State.disarmPricking a0 a1) := by
  unfold State.disarmPricking
  with_reducible repeat' first | assumption | apply keeps_endCues

theorem keeps_fusionSwitch {a0 : State} {a1} (h_a0 : Inv q m a0) : Inv q m (State.fusionSwitch a0 a1) := by
  unfold State.fusionSwitch
  with_reducible repeat'
    first
      | assumption | apply Inv.ite | apply Inv.setReg | apply keeps_fuseFault | apply keeps_fuseClear | apply keeps_setFuse | split

theorem keeps_switchRegion {a0 : State} {a1 a2} (h_a0 : Inv q m a0) : Inv q m (State.switchRegion a0 a1 a2) := by
  unfold State.switchRegion
  with_reducible repeat'
    first
      | assumption | apply Inv.ite | apply Inv.setReg | apply keeps_oemToDict | apply keeps_oemLeave | apply keeps_takeShadow
      | apply keeps_clearStates | apply keeps_disarmPricking | apply keeps_showRunning | apply keeps_oemEnter
      | apply keeps_setRegion | apply keeps_oemToCells | apply keeps_fusionSwitch

theorem keeps_markScenes {a0 : State} (h_a0 : Inv q m a0) : Inv q m (State.markScenes a0) := by
  unfold State.markScenes
  with_reducible repeat'
    first
      | assumption | apply Inv.ite | apply keeps_setRegion | (refine Inv.foldl (fun _ _ _ => ?_) _ ?_)

theorem keeps_lookTriggers {a0 : State} {a1} (h_a0 : Inv q m a0) : Inv q m (State.lookTriggers a0 a1) := by
  unfold State.lookTriggers
  with_reducible repeat'
    first
      | assumption | apply Inv.ite | apply keeps_scenePendEnd | apply keeps_setRegion | apply keeps_sceneEnd
      | (extract_lets +onlyGivenNames x; refine_lift have hx : Inv q m x := ?_; ?_; on_goal 2 => unfold x; on_goal 1 => clear_value x)
      | (extract_lets +onlyGivenNames x; clear_value x) | split

theorem keeps_stepScenes {a0 : State} (h_a0 : Inv q m a0) : Inv q m (State.stepScenes a0) := by
  unfold State.stepScenes
  with_reducible repeat'
    first
      | assumption | apply Inv.ite | apply keeps_scenePendEnd | apply keeps_sceneEnd
      | (refine Inv.foldl (fun _ _ _ => ?_) _ ?_)

theorem keeps_showStore {a0 : State} (h_a0 : Inv q m a0) : Inv q m (State.showStore a0) := by
  unfold State.showStore
  with_reducible repeat' first | assumption | apply Inv.setReg

theorem keeps_regionPanelsRule {a0} : RuleOk (regionPanelsRule a0) := by
  unfold regionPanelsRule
  with_reducible repeat'
    first
      | assumption | apply Inv.ite | apply Inv.setReg | apply keeps_showRunning | apply keeps_disarmPricking | apply keeps_oemLeave
      | apply keeps_settle | (refine ⟨fun q m _ _ _ _ _ => ?_, fun q m _ _ _ _ => ?_⟩)

theorem keeps_execRegionPanels {a3 : State} {a0 a1 a2} (h_a3 : Inv q m a3) : Goes q m (execRegionPanels a0 a1 a2 a3) := by
  unfold execRegionPanels
  with_reducible repeat' first | assumption | apply Goes.next | apply keeps_request | apply keeps_regionPanelsRule

theorem keeps_prickingLoadRule {a0} : RuleOk (prickingLoadRule a0) := by
  unfold prickingLoadRule
  with_reducible repeat'
    first
      | assumption | apply keeps_showStore | apply keeps_setPslot | apply keeps_startItem | fail_if_no_progress apply Inv.mk'
      | (refine ⟨fun q m _ _ _ _ _ => ?_, fun q m _ _ _ _ => ?_⟩)

theorem keeps_execPrickingLoad {a3 : State} {a0 a1 a2} (h_a3 : Inv q m a3) : Goes q m (execPrickingLoad a0 a1 a2 a3) := by
  unfold execPrickingLoad
  with_reducible repeat' first | assumption | apply Goes.next | apply keeps_request | apply keeps_prickingLoadRule

theorem keeps_execPrickingLoadEnd {a1 : State} {a0} (h_a1 : Inv q m a1) : Goes q m (execPrickingLoadEnd a0 a1) := by
  unfold execPrickingLoadEnd
  with_reducible repeat'
    first
      | assumption | apply Goes.next | apply Goes.ite | apply keeps_finish | apply keeps_showStore | apply keeps_setPslot
      | apply keeps_event | fail_if_no_progress apply Inv.mk'
      | (extract_lets +onlyGivenNames x; refine_lift have hx : Inv q m x := ?_; ?_; on_goal 2 => unfold x; on_goal 1 => clear_value x)
      | (extract_lets +onlyGivenNames x; clear_value x) | split

theorem keeps_prickingDeleteRule : RuleOk (prickingDeleteRule) := by
  unfold prickingDeleteRule
  with_reducible repeat'
    first
      | assumption | intro q m _ _ | intro _ | apply keeps_commandRule | apply keeps_showStore | apply keeps_setPslot

theorem keeps_execPrickingDelete {a2 : State} {a0 a1} (h_a2 : Inv q m a2) : Goes q m (execPrickingDelete a0 a1 a2) := by
  unfold execPrickingDelete
  with_reducible repeat' first | assumption | apply Goes.next | apply keeps_request | apply keeps_prickingDeleteRule

theorem keeps_sceneChangeRule : RuleOk (sceneChangeRule) := by
  unfold sceneChangeRule
  with_reducible repeat'
    first
      | assumption | apply Inv.ite | apply keeps_yieldAll | apply keeps_showScene | apply keeps_startItem
      | apply keeps_setRegion | (refine ⟨fun q m _ _ _ _ _ => ?_, fun q m _ _ _ _ => ?_⟩)

theorem keeps_execSceneChange {a2 : State} {a0 a1} (h_a2 : Inv q m a2) : Goes q m (execSceneChange a0 a1 a2) := by
  unfold execSceneChange
  with_reducible repeat' first | assumption | apply Goes.next | apply keeps_request | apply keeps_sceneChangeRule

theorem keeps_execSceneStagingEnd {a1 : State} {a0} (h_a1 : Inv q m a1) : Goes q m (execSceneStagingEnd a0 a1) := by
  unfold execSceneStagingEnd
  with_reducible repeat'
    first
      | assumption | apply Goes.next | apply Goes.ite | apply keeps_stageScene | apply keeps_showScene | apply keeps_setRegion
      | split

theorem keeps_execSceneTrigger {a1 : State} {a0} (h_a1 : Inv q m a1) : Goes q m (execSceneTrigger a0 a1) := by
  unfold execSceneTrigger
  with_reducible repeat' first | assumption | apply Goes.next | apply keeps_lookTriggers

theorem keeps_execSceneSwitch {a1 : State} {a0} (h_a1 : Inv q m a1) : Goes q m (execSceneSwitch a0 a1) := by
  unfold execSceneSwitch
  with_reducible repeat'
    first
      | assumption | apply Goes.next | apply Goes.ite | apply keeps_startWaiting | apply keeps_sceneEnd | apply keeps_bump
      | apply keeps_switchRegion | (extract_lets +onlyGivenNames x; clear_value x) | split

theorem keeps_execSceneWaitLimit {a1 : State} {a0} (h_a1 : Inv q m a1) : Goes q m (execSceneWaitLimit a0 a1) := by
  unfold execSceneWaitLimit
  with_reducible repeat' first | assumption | apply Goes.next | apply Inv.ite | apply keeps_sceneEnd | split

theorem keeps_sceneCancelRule : RuleOk (sceneCancelRule) := by
  unfold sceneCancelRule
  with_reducible repeat'
    first
      | assumption | intro q m _ _ | intro _ | apply keeps_commandRule | apply keeps_sceneEnd | apply keeps_scenePendEnd

theorem keeps_execSceneCancel {a2 : State} {a0 a1} (h_a2 : Inv q m a2) : Goes q m (execSceneCancel a0 a1 a2) := by
  unfold execSceneCancel
  with_reducible repeat' first | assumption | apply Goes.next | apply keeps_request | apply keeps_sceneCancelRule

theorem keeps_execRepeatBoundary {a1 : State} {a0} (h_a1 : Inv q m a1) : Goes q m (execRepeatBoundary a0 a1) := by
  unfold execRepeatBoundary
  with_reducible repeat'
    first
      | assumption | apply Goes.next | apply Goes.ite | apply keeps_setCell | apply keeps_bumpBy | apply keeps_oemToCells
      | apply keeps_oemToDict | apply keeps_setRegion | apply keeps_bump | (refine Inv.foldl (fun _ _ _ => ?_) _ ?_)

theorem keeps_execSramEccError {a3 : State} {a0 a1 a2} (h_a3 : Inv q m a3) : Goes q m (execSramEccError a0 a1 a2 a3) := by
  unfold execSramEccError
  with_reducible repeat'
    first
      | assumption | apply Goes.next | apply Goes.ite | apply keeps_bump | apply keeps_setCell | apply keeps_cellFails
      | apply keeps_eventKey

theorem keeps_rule12 {a0 a1} : OptRuleOk (rule12 a0 a1) := by
  unfold rule12
  with_reducible repeat'
    first
      | apply OptRuleOk.ite | apply OptRuleOk.none | apply OptRuleOk.some | apply keeps_regionPanelsRule
      | apply keeps_sceneChangeRule | apply keeps_sceneCancelRule | apply keeps_prickingDeleteRule
      | apply keeps_prickingLoadRule | apply keeps_oemRule

theorem keeps_spareFails {a0 : State} {a1} (h_a0 : Inv q m a0) : Inv q m (State.spareFails a0 a1) := by
  unfold State.spareFails
  with_reducible repeat' first | assumption | apply keeps_eventKey | apply keeps_takeSpare | apply keeps_setFlag

theorem keeps_cellsLow {a0 : State} {a1} (h_a0 : Inv q m a0) : Inv q m (State.cellsLow a0 a1) := by
  unfold State.cellsLow
  with_reducible repeat' first | assumption | apply Inv.ite | apply keeps_spareFlag

theorem keeps_actPhase {a0 : State} {a1 a2} (h_a0 : Inv q m a0) : Inv q m (State.actPhase a0 a1 a2) := by
  unfold State.actPhase
  with_reducible repeat' first | assumption | fail_if_no_progress apply Inv.mk'

theorem keeps_spareStops {a0 : State} {a1} (h_a0 : Inv q m a0) : Inv q m (State.spareStops a0 a1) := by
  unfold State.spareStops
  with_reducible repeat' first | assumption | apply keeps_setCell

theorem keeps_startRotation {a0 : State} {a1} (h_a0 : Inv q m a0) : Inv q m (State.startRotation a0 a1) := by
  unfold State.startRotation
  with_reducible repeat'
    first
      | assumption | apply Inv.ite | apply keeps_grantAct | fail_if_no_progress apply Inv.mk'
      | (extract_lets +onlyGivenNames x; clear_value x) | split

theorem keeps_execCellRotation {a2 : State} {a0 a1} (h_a2 : Inv q m a2) : Goes q m (execCellRotation a0 a1 a2) := by
  unfold execCellRotation
  with_reducible repeat'
    first
      | assumption | apply Goes.next | apply Inv.ite | apply Goes.ite | apply keeps_cellsLow | apply keeps_spareFails
      | apply keeps_finishAct | apply keeps_bump | apply keeps_actPhase | apply keeps_spareStops | apply keeps_startRotation | split

theorem keeps_reloadCell {a0 : State} {a1} (h_a0 : Inv q m a0) : Inv q m (State.reloadCell a0 a1) := by
  unfold State.reloadCell
  with_reducible repeat'
    first
      | assumption | apply keeps_setCell | apply keeps_eventKey | (refine Inv.foldl (fun _ _ _ => ?_) _ ?_)
      | (extract_lets +onlyGivenNames x; clear_value x) | split

theorem keeps_execCellMismatch {a2 : State} {a0 a1} (h_a2 : Inv q m a2) : Goes q m (execCellMismatch a0 a1 a2) := by
  unfold execCellMismatch
  with_reducible repeat'
    first
      | assumption | apply Goes.next | apply Inv.ite | apply keeps_cellFails | apply keeps_endAct | apply keeps_setCell
      | (extract_lets +onlyGivenNames x; refine_lift have hx : Inv q m x := ?_; ?_; on_goal 2 => unfold x; on_goal 1 => clear_value x)
      | (extract_lets +onlyGivenNames x; clear_value x) | split

theorem keeps_retirePlace {a0 : State} {a1} (h_a0 : Inv q m a0) : Inv q m (State.retirePlace a0 a1) := by
  unfold State.retirePlace
  with_reducible repeat'
    first
      | assumption | apply Inv.ite | apply Inv.setReg | apply Inv.setBlob | apply keeps_bump | apply keeps_takeSpare
      | apply keeps_showCells | apply keeps_cellsLow | apply keeps_eventKey | fail_if_no_progress apply Inv.mk'

theorem keeps_moveRoutes {a0 : State} {a1 a2} (h_a0 : Inv q m a0) : Inv q m (State.moveRoutes a0 a1 a2) := by
  unfold State.moveRoutes
  with_reducible repeat' first | assumption | apply Inv.ite | apply keeps_setRegion | apply keeps_reloadCell | split

theorem keeps_execRouteMove {a2 : State} {a0 a1} (h_a2 : Inv q m a2) : Goes q m (execRouteMove a0 a1 a2) := by
  unfold execRouteMove
  with_reducible repeat'
    first
      | assumption | apply Goes.next | apply Inv.ite | apply Goes.ite | apply keeps_cellsLow | apply keeps_spareFails
      | apply keeps_finishAct | apply keeps_finish | apply keeps_retirePlace | apply keeps_moveRoutes | split

theorem keeps_understudySwapRule : RuleOk (understudySwapRule) := by
  unfold understudySwapRule
  with_reducible repeat'
    first
      | assumption | apply keeps_grantCommanded | apply keeps_startItem
      | (refine ⟨fun q m _ _ _ _ _ => ?_, fun q m _ _ _ _ => ?_⟩)

theorem keeps_execUnderstudySwap {a2 : State} {a0 a1} (h_a2 : Inv q m a2) : Goes q m (execUnderstudySwap a0 a1 a2) := by
  unfold execUnderstudySwap
  with_reducible repeat' first | assumption | apply Goes.next | apply keeps_request | apply keeps_understudySwapRule

theorem keeps_askChannel {a0 : State} {a1} (h_a0 : Inv q m a0) : Inv q m (State.askChannel a0 a1) := by
  unfold State.askChannel
  with_reducible repeat' first | assumption | apply Inv.ite | apply keeps_requestRepair

theorem keeps_askRow {a0 : State} {a1 a2} (h_a0 : Inv q m a0) : Inv q m (State.askRow a0 a1 a2) := by
  unfold State.askRow
  with_reducible repeat' first | assumption | apply Inv.ite | apply keeps_askChannel | apply keeps_requestRepair

theorem keeps_tablesRebuild {a0 : State} (h_a0 : Inv q m a0) : Inv q m (State.tablesRebuild a0) := by
  unfold State.tablesRebuild
  with_reducible repeat' first | assumption | apply keeps_setCue | (refine Inv.foldl (fun _ _ _ => ?_) _ ?_)

theorem keeps_dramLoss {a0 : State} {a1} (h_a0 : Inv q m a0) : Inv q m (State.dramLoss a0 a1) := by
  unfold State.dramLoss
  with_reducible repeat'
    first
      | assumption | apply keeps_setTile | apply keeps_eventKey | apply keeps_bump | apply keeps_tablesRebuild | apply keeps_clearLine
      | apply keeps_networkFree | apply keeps_fuseClear | apply keeps_skipStep | apply keeps_loseFrame
      | (refine Inv.foldl (fun _ _ _ => ?_) _ ?_)
      | (extract_lets +onlyGivenNames x; refine_lift have hx : Inv q m x := ?_; ?_; on_goal 2 => unfold x; on_goal 1 => clear_value x)
      | split

theorem keeps_execDramRowRepair {a5 : State} {a0 a1 a2 a3 a4} (h_a5 : Inv q m a5) : Goes q m (execDramRowRepair a0 a1 a2 a3 a4 a5) := by
  unfold execDramRowRepair
  with_reducible repeat'
    first
      | assumption | apply Goes.next | apply Inv.ite | apply keeps_bump | apply keeps_askRow | apply keeps_askChannel
      | apply keeps_dramLoss | apply keeps_spareFlag | apply keeps_takeSpare | apply keeps_eventKey | apply keeps_finishAct
      | fail_if_no_progress apply Inv.mk'
      | (extract_lets +onlyGivenNames x; refine_lift have hx : Inv q m x := ?_; ?_; on_goal 2 => unfold x; on_goal 1 => clear_value x)
      | (extract_lets +onlyGivenNames x; clear_value x) | split

theorem keeps_execDramChannelRetire {a1 : State} {a0} (h_a1 : Inv q m a1) : Goes q m (execDramChannelRetire a0 a1) := by
  unfold execDramChannelRetire
  with_reducible repeat'
    first
      | assumption | apply Goes.next | apply Inv.setReg | apply keeps_finishAct | apply keeps_eventKey | apply keeps_spareFlag
      | apply keeps_askChannel | apply keeps_tablesRebuild | split

theorem keeps_storeShrinks {a0 : State} {a1} (h_a0 : Inv q m a0) : Inv q m (State.storeShrinks a0 a1) := by
  unfold State.storeShrinks
  with_reducible repeat'
    first
      | assumption | apply Inv.ite | apply Inv.setReg | fail_if_no_progress apply Inv.mk'
      | (extract_lets +onlyGivenNames x; refine_lift have hx : Inv q m x := ?_; ?_; on_goal 2 => unfold x; on_goal 1 => clear_value x)
      | (extract_lets +onlyGivenNames x; clear_value x) | split

theorem keeps_execEmmcBlockRetire {a2 : State} {a0 a1} (h_a2 : Inv q m a2) : Goes q m (execEmmcBlockRetire a0 a1 a2) := by
  unfold execEmmcBlockRetire
  with_reducible repeat'
    first
      | assumption | apply Goes.next | apply Inv.ite | apply keeps_requestRepair | apply keeps_setFieldArc
      | apply keeps_setTile | apply keeps_eventKey | apply keeps_bump | apply keeps_takeSpare | apply keeps_storeShrinks
      | apply keeps_spareFlag | apply keeps_finishAct
      | (extract_lets +onlyGivenNames x; refine_lift have hx : Inv q m x := ?_; ?_; on_goal 2 => unfold x; on_goal 1 => clear_value x)
      | split

theorem keeps_mramRebuildRule : RuleOk (mramRebuildRule) := by
  unfold mramRebuildRule
  with_reducible repeat'
    first
      | assumption | apply keeps_grantCommanded | apply keeps_startItem
      | (refine ⟨fun q m _ _ _ _ _ => ?_, fun q m _ _ _ _ => ?_⟩)

theorem keeps_execMramRebuild {a3 : State} {a0 a1 a2} (h_a3 : Inv q m a3) : Goes q m (execMramRebuild a0 a1 a2 a3) := by
  unfold execMramRebuild
  with_reducible repeat'
    first
      | assumption | apply Goes.next | apply Inv.ite | apply Goes.ite | apply Inv.setReg | apply keeps_request
      | apply keeps_mramRebuildRule | apply keeps_finishAct | apply keeps_finishOpt | apply keeps_setFlag
      | apply keeps_eventKey | apply keeps_grantAct | fail_if_no_progress apply Inv.mk'
      | (extract_lets +onlyGivenNames x; clear_value x) | split

theorem keeps_inlinePathTestRule : RuleOk (inlinePathTestRule) := by
  unfold inlinePathTestRule
  with_reducible repeat'
    first
      | assumption | apply keeps_grantCommanded | apply keeps_startItem
      | (refine ⟨fun q m _ _ _ _ _ => ?_, fun q m _ _ _ _ => ?_⟩)

theorem keeps_execInlinePathTest {a2 : State} {a0 a1} (h_a2 : Inv q m a2) : Goes q m (execInlinePathTest a0 a1 a2) := by
  unfold execInlinePathTest
  with_reducible repeat' first | assumption | apply Goes.next | apply keeps_request | apply keeps_inlinePathTestRule

theorem keeps_execInlinePathTestEnd {a1 : State} {a0} (h_a1 : Inv q m a1) : Goes q m (execInlinePathTestEnd a0 a1) := by
  unfold execInlinePathTestEnd
  with_reducible repeat'
    first
      | assumption | apply Goes.next | apply Inv.ite | apply Inv.setReg | apply keeps_finishAct | apply keeps_finish | split

theorem keeps_execStandbyCoreSelfTest {a1 : State} {a0} (h_a1 : Inv q m a1) : Goes q m (execStandbyCoreSelfTest a0 a1) := by
  unfold execStandbyCoreSelfTest
  with_reducible repeat'
    first
      | assumption | apply Goes.next | apply Inv.ite | apply Goes.ite | apply Inv.setReg | apply keeps_spareFlag
      | apply keeps_eventKey | fail_if_no_progress apply Inv.mk'

theorem keeps_setImage {a0 : State} {a1 a2} (h_a0 : Inv q m a0) : Inv q m (State.setImage a0 a1 a2) := by
  unfold State.setImage
  with_reducible repeat' first | assumption | fail_if_no_progress apply Inv.mk'

theorem keeps_firmwareStageRule : RuleOk (firmwareStageRule) := by
  unfold firmwareStageRule
  with_reducible repeat'
    first
      | assumption | apply Inv.setReg | apply keeps_setImage | apply keeps_grantCommanded | apply keeps_startItem
      | fail_if_no_progress apply Inv.mk' | (refine ⟨fun q m _ _ _ _ _ => ?_, fun q m _ _ _ _ => ?_⟩)

theorem keeps_execFirmwareStage {a2 : State} {a0 a1} (h_a2 : Inv q m a2) : Goes q m (execFirmwareStage a0 a1 a2) := by
  unfold execFirmwareStage
  with_reducible repeat' first | assumption | apply Goes.next | apply keeps_request | apply keeps_firmwareStageRule

theorem keeps_execFirmwareStageEnd {a1 : State} {a0} (h_a1 : Inv q m a1) : Goes q m (execFirmwareStageEnd a0 a1) := by
  unfold execFirmwareStageEnd
  with_reducible repeat'
    first
      | assumption | apply Goes.next | apply Goes.ite | apply Inv.setReg | apply keeps_finishAct | apply keeps_setImage
      | apply keeps_finish | apply keeps_event | fail_if_no_progress apply Inv.mk'
      | (extract_lets +onlyGivenNames x; refine_lift have hx : Inv q m x := ?_; ?_; on_goal 2 => unfold x; on_goal 1 => clear_value x)
      | (extract_lets +onlyGivenNames x; clear_value x) | split

theorem keeps_rule13 {a0 a1} : OptRuleOk (rule13 a0 a1) := by
  unfold rule13
  with_reducible repeat'
    first
      | assumption | intro q m _ _ | apply OptRuleOk.ite | apply OptRuleOk.none | apply OptRuleOk.some
      | apply keeps_settingRule | apply keeps_understudySwapRule | apply keeps_inlinePathTestRule
      | apply keeps_mramRebuildRule | apply keeps_firmwareStageRule

end Sys2Proof.Laws
end

