-- ==== Sys2Proof/Laws/KeepsLinks.lean ====
section
/-!
SUPPORT. What CAN, time, PTP, Ethernet and the services keep (`Inv`), one lemma for each definition.
-/
namespace Sys2Proof.Laws
open Sys2Proof Sys2Proof.Machine

variable {q : List Instr} {m : Nat}

theorem keeps_canErrors {a0 : State} {a1 a2 a3} (h_a0 : Inv q m a0) : Inv q m (State.canErrors a0 a1 a2 a3) := by
  unfold State.canErrors
  with_reducible repeat' first | assumption | apply Inv.setReg | apply keeps_setFlag

theorem keeps_claimAddress {a0 : State} {a1 a2} (h_a0 : Inv q m a0) : Inv q m (State.claimAddress a0 a1 a2) := by
  unfold State.claimAddress
  with_reducible repeat' first | assumption | apply Inv.setReg | apply keeps_canService | apply keeps_setCan

theorem keeps_portActive {a0 : State} {a1} (h_a0 : Inv q m a0) : Inv q m (State.portActive a0 a1) := by
  unfold State.portActive
  with_reducible repeat'
    first
      | assumption | apply Inv.ite | apply Inv.setReg | apply keeps_setCan | apply keeps_claimAddress | apply keeps_canStart

theorem keeps_addressGone {a0 : State} {a1 a2} (h_a0 : Inv q m a0) : Inv q m (State.addressGone a0 a1 a2) := by
  unfold State.addressGone
  with_reducible repeat' first | assumption | apply Inv.ite | apply Inv.setReg | apply keeps_showTc | apply keeps_tcLoseAll

theorem keeps_portLeaves {a0 : State} {a1 a2} (h_a0 : Inv q m a0) : Inv q m (State.portLeaves a0 a1 a2) := by
  unfold State.portLeaves
  with_reducible repeat' first | assumption | apply Inv.ite | apply Inv.setReg | apply keeps_addressGone

theorem keeps_detectAt {a0 : State} {a1 a2} (h_a0 : Inv q m a0) : Inv q m (State.detectAt a0 a1 a2) := by
  unfold State.detectAt
  with_reducible repeat' first | assumption | apply Inv.setReg | apply keeps_setCan

theorem keeps_portStart {a0 : State} {a1} (h_a0 : Inv q m a0) : Inv q m (State.portStart a0 a1) := by
  unfold State.portStart
  with_reducible repeat'
    first
      | assumption | apply Inv.setReg | apply keeps_canErrors | apply keeps_setFlag | apply keeps_setCan
      | apply keeps_portActive | apply keeps_detectAt
      | (extract_lets +onlyGivenNames x; refine_lift have hx : Inv q m x := ?_; ?_; on_goal 2 => unfold x; on_goal 1 => clear_value x)
      | (extract_lets +onlyGivenNames x; clear_value x) | split

theorem keeps_portStop {a0 : State} {a1} (h_a0 : Inv q m a0) : Inv q m (State.portStop a0 a1) := by
  unfold State.portStop
  with_reducible repeat'
    first
      | assumption | apply Inv.setReg | apply keeps_portLeaves | apply keeps_canDropAll | apply keeps_setFlag

theorem keeps_portEnableRule {a0} : RuleOk (portEnableRule a0) := by
  unfold portEnableRule
  with_reducible repeat'
    first
      | assumption | apply Inv.ite | apply keeps_putEntry | apply keeps_portStart | apply keeps_portStop | apply keeps_finish
      | apply keeps_syncSdo | (refine ⟨fun q m _ _ _ _ _ => ?_, fun q m _ _ _ _ => ?_⟩)

theorem keeps_execPortEnable {a3 : State} {a0 a1 a2} (h_a3 : Inv q m a3) : Goes q m (execPortEnable a0 a1 a2 a3) := by
  unfold execPortEnable
  with_reducible repeat' first | assumption | apply Goes.next | apply keeps_request | apply keeps_portEnableRule

theorem keeps_busOff {a0 : State} {a1} (h_a0 : Inv q m a0) : Inv q m (State.busOff a0 a1) := by
  unfold State.busOff
  with_reducible repeat'
    first
      | assumption | apply keeps_portLeaves | apply keeps_canDropAll | apply keeps_setCan | apply keeps_eventKey | apply keeps_bump
      | apply keeps_setFlag

theorem keeps_execBusOff {a1 : State} {a0} (h_a1 : Inv q m a1) : Goes q m (execBusOff a0 a1) := by
  unfold execBusOff
  with_reducible repeat' first | assumption | apply Goes.next | apply Inv.ite | apply keeps_busOff

theorem keeps_execBusOffRecovery {a1 : State} {a0} (h_a1 : Inv q m a1) : Goes q m (execBusOffRecovery a0 a1) := by
  unfold execBusOffRecovery
  with_reducible repeat'
    first
      | assumption | apply Goes.next | apply Inv.ite | apply Goes.ite | apply keeps_setCan | apply keeps_canErrors
      | apply keeps_portActive | apply keeps_setFlag
      | (extract_lets +onlyGivenNames x; refine_lift have hx : Inv q m x := ?_; ?_; on_goal 2 => unfold x; on_goal 1 => clear_value x)
      | (extract_lets +onlyGivenNames x; clear_value x) | split

theorem keeps_execDetectDwell {a2 : State} {a0 a1} (h_a2 : Inv q m a2) : Goes q m (execDetectDwell a0 a1 a2) := by
  unfold execDetectDwell
  with_reducible repeat'
    first
      | assumption | apply Goes.next | apply Inv.ite | apply Goes.ite | apply keeps_bump | apply keeps_detectAt

theorem keeps_mailboxes {a0 : State} {a1 a2 a3} (h_a0 : Inv q m a0) : Inv q m (State.mailboxes a0 a1 a2 a3) := by
  unfold State.mailboxes
  with_reducible repeat' first | assumption | apply Inv.ite | apply Inv.setBlob | (refine Inv.foldl (fun _ _ _ => ?_) _ ?_)

theorem keeps_recLess {a0 : State} {a1} (h_a0 : Inv q m a0) : Inv q m (State.recLess a0 a1) := by
  unfold State.recLess
  with_reducible repeat' first | assumption | apply Inv.ite | apply keeps_canErrors | apply keeps_draw

theorem keeps_detectGood {a0 : State} {a1} (h_a0 : Inv q m a0) : Inv q m (State.detectGood a0 a1) := by
  unfold State.detectGood
  with_reducible repeat' first | assumption | apply Inv.ite | apply Inv.setReg | apply keeps_setCan | apply keeps_setFlag

theorem keeps_execCanFrameReceived {a7 : State} {a0 a1 a2 a3 a4 a5 a6} (h_a7 : Inv q m a7) : Goes q m (execCanFrameReceived a0 a1 a2 a3 a4 a5 a6 a7) := by
  unfold execCanFrameReceived
  with_reducible repeat'
    first
      | assumption | apply Goes.next | apply Goes.ite | apply keeps_setCan | apply keeps_bump | apply keeps_detectAt
      | apply keeps_canStart | apply keeps_canErrors | apply keeps_detectGood | apply keeps_recLess | apply keeps_mailboxes

theorem keeps_txOver {a0 : State} {a1 a2} (h_a0 : Inv q m a0) : Inv q m (State.txOver a0 a1 a2) := by
  unfold State.txOver
  with_reducible repeat'
    first
      | assumption | apply keeps_setCan | apply keeps_setTxBuf
      | (extract_lets +onlyGivenNames x; refine_lift have hx : Inv q m x := ?_; ?_; on_goal 2 => unfold x; on_goal 1 => clear_value x)
      | (extract_lets +onlyGivenNames x; clear_value x) | split

theorem keeps_txAgain {a0 : State} {a1 a2} (h_a0 : Inv q m a0) : Inv q m (State.txAgain a0 a1 a2) := by
  unfold State.txAgain
  with_reducible repeat'
    first
      | assumption | apply keeps_setTxBuf | apply keeps_setCan | (extract_lets +onlyGivenNames x; clear_value x) | split

theorem keeps_execCanFrameSent {a4 : State} {a0 a1 a2 a3} (h_a4 : Inv q m a4) : Goes q m (execCanFrameSent a0 a1 a2 a3 a4) := by
  unfold execCanFrameSent
  with_reducible repeat'
    first
      | assumption | apply Goes.next | apply Inv.ite | apply Goes.ite | apply Inv.setReg | apply keeps_setFlag | apply keeps_txOver
      | apply keeps_setCan | apply keeps_txAgain | apply keeps_bump | apply keeps_canErrors | apply keeps_busOff | apply keeps_canStart
      | apply keeps_setTxBuf | split

theorem keeps_execSofLatch {a2 : State} {a0 a1} (h_a2 : Inv q m a2) : Goes q m (execSofLatch a0 a1 a2) := by
  unfold execSofLatch
  with_reducible repeat' first | assumption | apply Goes.next | apply Inv.ite | apply keeps_setCan

theorem keeps_canTxConfigRule {a0 a1} : RuleOk (canTxConfigRule a0 a1) := by
  unfold canTxConfigRule
  with_reducible repeat'
    first
      | assumption | apply keeps_settle | apply keeps_setTxBuf | (refine ⟨fun q m _ _ _ _ _ => ?_, fun q m _ _ _ _ => ?_⟩)

theorem keeps_execCanTxConfig {a4 : State} {a0 a1 a2 a3} (h_a4 : Inv q m a4) : Goes q m (execCanTxConfig a0 a1 a2 a3 a4) := by
  unfold execCanTxConfig
  with_reducible repeat' first | assumption | apply Goes.next | apply keeps_request | apply keeps_canTxConfigRule

theorem keeps_canTxDataRule {a0 a1} : RuleOk (canTxDataRule a0 a1) := by
  unfold canTxDataRule
  with_reducible repeat'
    first
      | assumption | apply keeps_finish | apply keeps_canCommit | (refine ⟨fun q m _ _ _ _ _ => ?_, fun q m _ _ _ _ => ?_⟩)

theorem keeps_execCanTxData {a4 : State} {a0 a1 a2 a3} (h_a4 : Inv q m a4) : Goes q m (execCanTxData a0 a1 a2 a3 a4) := by
  unfold execCanTxData
  with_reducible repeat' first | assumption | apply Goes.next | apply keeps_request | apply keeps_canTxDataRule

theorem keeps_execCyclicSend {a2 : State} {a0 a1} (h_a2 : Inv q m a2) : Goes q m (execCyclicSend a0 a1 a2) := by
  unfold execCyclicSend
  with_reducible repeat'
    first
      | assumption | apply Goes.next | apply Goes.ite | apply keeps_setTxBuf | apply keeps_canStart
      | (extract_lets +onlyGivenNames x; clear_value x) | split

theorem keeps_scheduleMatrixRule {a0} : RuleOk (scheduleMatrixRule a0) := by
  unfold scheduleMatrixRule
  with_reducible repeat' first | assumption | intro q m _ _ | apply keeps_settingRule

theorem keeps_execScheduleMatrix {a3 : State} {a0 a1 a2} (h_a3 : Inv q m a3) : Goes q m (execScheduleMatrix a0 a1 a2 a3) := by
  unfold execScheduleMatrix
  with_reducible repeat' first | assumption | apply Goes.next | apply keeps_request | apply keeps_scheduleMatrixRule

theorem keeps_scheduleEnableRule {a0} : RuleOk (scheduleEnableRule a0) := by
  unfold scheduleEnableRule
  with_reducible repeat'
    first
      | assumption | apply Inv.ite | apply Inv.setReg | apply keeps_putEntry | apply keeps_cancelSlotCues
      | apply keeps_scheduleDrop | apply keeps_setCan | apply keeps_finish
      | (refine ⟨fun q m _ _ _ _ _ => ?_, fun q m _ _ _ _ => ?_⟩) | split

theorem keeps_execScheduleEnable {a3 : State} {a0 a1 a2} (h_a3 : Inv q m a3) : Goes q m (execScheduleEnable a0 a1 a2 a3) := by
  unfold execScheduleEnable
  with_reducible repeat' first | assumption | apply Goes.next | apply keeps_request | apply keeps_scheduleEnableRule

theorem keeps_dropReference {a0 : State} {a1} (h_a0 : Inv q m a0) : Inv q m (State.dropReference a0 a1) := by
  unfold State.dropReference
  with_reducible repeat' first | assumption | apply Inv.ite | apply keeps_setCan

theorem keeps_execBasicCycleStart {a1 : State} {a0} (h_a1 : Inv q m a1) : Goes q m (execBasicCycleStart a0 a1) := by
  unfold execBasicCycleStart
  with_reducible repeat'
    first
      | assumption | apply Goes.next | apply Goes.ite | apply keeps_dropReference | apply keeps_setCan
      | apply keeps_canService

theorem keeps_execSlotWindowStart {a2 : State} {a0 a1} (h_a2 : Inv q m a2) : Goes q m (execSlotWindowStart a0 a1 a2) := by
  unfold execSlotWindowStart
  with_reducible repeat'
    first
      | assumption | apply Goes.next | apply Goes.ite | apply keeps_dropReference | apply keeps_eventKey | apply keeps_bump
      | apply keeps_setTxBuf | apply keeps_canStart
      | (extract_lets +onlyGivenNames x; refine_lift have hx : Inv q m x := ?_; ?_; on_goal 2 => unfold x; on_goal 1 => clear_value x)
      | split

theorem keeps_execSlotWindowWithdraw {a2 : State} {a0 a1} (h_a2 : Inv q m a2) : Goes q m (execSlotWindowWithdraw a0 a1 a2) := by
  unfold execSlotWindowWithdraw
  with_reducible repeat'
    first
      | assumption | apply Goes.next | apply Goes.ite | apply keeps_bump | apply keeps_setTxBuf | split

theorem keeps_loseAddress {a0 : State} {a1} (h_a0 : Inv q m a0) : Inv q m (State.loseAddress a0 a1) := by
  unfold State.loseAddress
  with_reducible repeat'
    first
      | assumption | apply Inv.setReg | apply keeps_addressGone | apply keeps_eventKey | apply keeps_setFlag
      | apply keeps_claimAddress | apply keeps_canService
      | (extract_lets +onlyGivenNames x; refine_lift have hx : Inv q m x := ?_; ?_; on_goal 2 => unfold x; on_goal 1 => clear_value x)
      | (extract_lets +onlyGivenNames x; clear_value x) | split

theorem keeps_execAddressClaimed {a4 : State} {a0 a1 a2 a3} (h_a4 : Inv q m a4) : Goes q m (execAddressClaimed a0 a1 a2 a3 a4) := by
  unfold execAddressClaimed
  with_reducible repeat'
    first
      | assumption | apply Goes.next | apply Goes.ite | apply keeps_canService | apply keeps_setCan | apply keeps_loseAddress

theorem keeps_claimStands {a0 : State} (h_a0 : Inv q m a0) : Inv q m (State.claimStands a0) := by
  unfold State.claimStands
  with_reducible repeat'
    first
      | assumption | apply Inv.ite | apply Inv.setReg | apply keeps_setFlag | (refine Inv.foldl (fun _ _ _ => ?_) _ ?_)

theorem keeps_isobusEnableRule {a0} : RuleOk (isobusEnableRule a0) := by
  unfold isobusEnableRule
  with_reducible repeat' first | assumption | intro q m _ _ | apply keeps_settingRule

theorem keeps_execIsobusEnable {a3 : State} {a0 a1 a2} (h_a3 : Inv q m a3) : Goes q m (execIsobusEnable a0 a1 a2 a3) := by
  unfold execIsobusEnable
  with_reducible repeat' first | assumption | apply Goes.next | apply keeps_request | apply keeps_isobusEnableRule

theorem keeps_tpDrop {a0 : State} {a1 a2 a3 a4} (h_a0 : Inv q m a0) : Inv q m (State.tpDrop a0 a1 a2 a3 a4) := by
  unfold State.tpDrop
  with_reducible repeat' first | assumption | apply keeps_setCan

theorem keeps_tpAnswer {a0 : State} {a1 a2 a3 a4} (h_a0 : Inv q m a0) : Inv q m (State.tpAnswer a0 a1 a2 a3 a4) := by
  unfold State.tpAnswer
  with_reducible repeat' first | assumption | apply Inv.ite | apply keeps_canService

theorem keeps_tpOpen {a0 : State} {a1 a2 a3 a4 a5 a6 a7} (h_a0 : Inv q m a0) : Inv q m (State.tpOpen a0 a1 a2 a3 a4 a5 a6 a7) := by
  unfold State.tpOpen
  with_reducible repeat' first | assumption | apply Inv.ite | apply keeps_tpDrop | apply keeps_tpAnswer | apply keeps_setCan

theorem keeps_tpData {a0 : State} {a1 a2 a3} (h_a0 : Inv q m a0) : Inv q m (State.tpData a0 a1 a2 a3) := by
  unfold State.tpData
  with_reducible repeat' first | assumption | apply Inv.ite | apply keeps_tpDrop | apply keeps_setCan | apply keeps_tpAnswer

theorem keeps_execTransportProtocolMessage {a4 : State} {a0 a1 a2 a3} (h_a4 : Inv q m a4) : Goes q m (execTransportProtocolMessage a0 a1 a2 a3 a4) := by
  unfold execTransportProtocolMessage
  with_reducible repeat'
    first
      | assumption | apply Goes.next | apply Inv.ite | apply Goes.ite | apply keeps_tpOpen | apply keeps_tpDrop
      | apply keeps_tpData | split

theorem keeps_canLoopTestRule : RuleOk (canLoopTestRule) := by
  unfold canLoopTestRule
  with_reducible repeat'
    first
      | assumption | apply Inv.setReg | apply keeps_startItem | apply keeps_setCan
      | (refine ⟨fun q m _ _ _ _ _ => ?_, fun q m _ _ _ _ => ?_⟩)

theorem keeps_execCanLoopTest {a2 : State} {a0 a1} (h_a2 : Inv q m a2) : Goes q m (execCanLoopTest a0 a1 a2) := by
  unfold execCanLoopTest
  with_reducible repeat' first | assumption | apply Goes.next | apply keeps_request | apply keeps_canLoopTestRule

theorem keeps_execCanLoopTestEnd {a2 : State} {a0 a1} (h_a2 : Inv q m a2) : Goes q m (execCanLoopTestEnd a0 a1 a2) := by
  unfold execCanLoopTestEnd
  with_reducible repeat'
    first
      | assumption | apply Goes.next | apply Inv.ite | apply Inv.setReg | apply keeps_setCan | apply keeps_setFlag
      | apply keeps_finish
      | (extract_lets +onlyGivenNames x; refine_lift have hx : Inv q m x := ?_; ?_; on_goal 2 => unfold x; on_goal 1 => clear_value x)
      | (extract_lets +onlyGivenNames x; clear_value x) | split

theorem keeps_execControllerFailed {a1 : State} {a0} (h_a1 : Inv q m a1) : Goes q m (execControllerFailed a0 a1) := by
  unfold execControllerFailed
  with_reducible repeat'
    first
      | assumption | apply Goes.next | apply Inv.ite | apply Goes.ite | apply keeps_setFlag | apply keeps_portLeaves
      | apply keeps_canDropAll | apply keeps_eventKey | apply keeps_syncSdo

theorem keeps_execTransceiverFault {a3 : State} {a0 a1 a2} (h_a3 : Inv q m a3) : Goes q m (execTransceiverFault a0 a1 a2 a3) := by
  unfold execTransceiverFault
  with_reducible repeat'
    first
      | assumption | apply Goes.next | apply Inv.ite | apply Goes.ite | apply keeps_setFlag | apply keeps_portLeaves
      | apply keeps_canDropAll | apply keeps_eventKey | apply keeps_portStart

theorem keeps_serviceRoleRule {a0} : RuleOk (serviceRoleRule a0) := by
  unfold serviceRoleRule
  with_reducible repeat' first | assumption | intro q m _ _ | apply keeps_settingRule | apply keeps_syncSdo

theorem keeps_execServiceRole {a3 : State} {a0 a1 a2} (h_a3 : Inv q m a3) : Goes q m (execServiceRole a0 a1 a2 a3) := by
  unfold execServiceRole
  with_reducible repeat' first | assumption | apply Goes.next | apply keeps_request | apply keeps_serviceRoleRule

theorem keeps_rule14 {a0 a1} : OptRuleOk (rule14 a0 a1) := by
  unfold rule14
  with_reducible repeat'
    first
      | assumption | intro q m _ _ | apply OptRuleOk.ite | apply OptRuleOk.none | apply OptRuleOk.some
      | apply keeps_portEnableRule | apply keeps_settingRule | apply keeps_isobusEnableRule | apply keeps_serviceRoleRule
      | apply keeps_canTxConfigRule | apply keeps_canTxDataRule | apply keeps_scheduleMatrixRule
      | apply keeps_scheduleEnableRule | apply keeps_canLoopTestRule

theorem keeps_setDom {a0 : State} {a1 a2} (h_a0 : Inv q m a0) : Inv q m (State.setDom a0 a1 a2) := by
  unfold State.setDom
  with_reducible repeat' first | assumption | fail_if_no_progress apply Inv.mk'

theorem keeps_setEth {a0 : State} {a1 a2} (h_a0 : Inv q m a0) : Inv q m (State.setEth a0 a1 a2) := by
  unfold State.setEth
  with_reducible repeat' first | assumption | fail_if_no_progress apply Inv.mk'

theorem keeps_advanceClock {a0 : State} (h_a0 : Inv q m a0) : Inv q m (State.advanceClock a0) := by
  unfold State.advanceClock
  with_reducible repeat' first | assumption | fail_if_no_progress apply Inv.mk'

theorem keeps_setRate {a0 : State} {a1} (h_a0 : Inv q m a0) : Inv q m (State.setRate a0 a1) := by
  unfold State.setRate
  with_reducible repeat' first | assumption | apply Inv.setReg | fail_if_no_progress apply Inv.mk'

theorem keeps_setHeld {a0 : State} {a1} (h_a0 : Inv q m a0) : Inv q m (State.setHeld a0 a1) := by
  unfold State.setHeld
  with_reducible repeat' first | assumption | apply Inv.setReg | fail_if_no_progress apply Inv.mk'

theorem keeps_stepTime {a0 : State} {a1} (h_a0 : Inv q m a0) : Inv q m (State.stepTime a0 a1) := by
  unfold State.stepTime
  with_reducible repeat'
    first
      | assumption | apply Inv.setReg | apply keeps_setHeld | apply keeps_bump | apply keeps_offer | apply keeps_setCan
      | apply keeps_stepScenes | apply keeps_stepCues | fail_if_no_progress apply Inv.mk'
      | (refine Inv.foldl (fun _ _ _ => ?_) _ ?_)

theorem keeps_discipline {a0 : State} {a1 a2} (h_a0 : Inv q m a0) : Inv q m (State.discipline a0 a1 a2) := by
  unfold State.discipline
  with_reducible repeat'
    first
      | assumption | apply Inv.ite | apply Inv.setReg | apply keeps_stepTime | apply keeps_setFlag | apply keeps_setHeld
      | apply keeps_eventKey | apply keeps_setRate | fail_if_no_progress apply Inv.mk'

theorem keeps_selectSource {a0 : State} {a1} (h_a0 : Inv q m a0) : Inv q m (State.selectSource a0 a1) := by
  unfold State.selectSource
  with_reducible repeat'
    first
      | assumption | apply Inv.ite | apply Inv.setReg | apply keeps_eventKey | apply keeps_bump
      | fail_if_no_progress apply Inv.mk'

theorem keeps_noSource {a0 : State} (h_a0 : Inv q m a0) : Inv q m (State.noSource a0) := by
  unfold State.noSource
  with_reducible repeat'
    first
      | assumption | apply Inv.ite | apply Inv.setReg | apply keeps_eventKey | apply keeps_setRate
      | fail_if_no_progress apply Inv.mk'

theorem keeps_reselect {a0 : State} (h_a0 : Inv q m a0) : Inv q m (State.reselect a0) := by
  unfold State.reselect
  with_reducible repeat' first | assumption | apply Inv.ite | apply keeps_selectSource | apply keeps_noSource | split

theorem keeps_measure {a0 : State} {a1 a2 a3} (h_a0 : Inv q m a0) : Inv q m (State.measure a0 a1 a2 a3) := by
  unfold State.measure
  with_reducible repeat'
    first
      | assumption | apply Inv.ite | apply Inv.setReg | apply keeps_setDom | apply keeps_discipline
      | fail_if_no_progress apply Inv.mk'

theorem keeps_freeRunStart {a0 : State} (h_a0 : Inv q m a0) : Inv q m (State.freeRunStart a0) := by
  unfold State.freeRunStart
  with_reducible repeat' first | assumption | apply Inv.ite | apply Inv.setReg

theorem keeps_setPtpRole {a0 : State} {a1 a2 a3} (h_a0 : Inv q m a0) : Inv q m (State.setPtpRole a0 a1 a2 a3) := by
  unfold State.setPtpRole
  with_reducible repeat' first | assumption | apply Inv.setReg

theorem keeps_setHeard {a0 : State} {a1 a2 a3} (h_a0 : Inv q m a0) : Inv q m (State.setHeard a0 a1 a2 a3) := by
  unfold State.setHeard
  with_reducible repeat' first | assumption | apply Inv.ite | apply keeps_setEth

theorem keeps_showDomain {a0 : State} {a1} (h_a0 : Inv q m a0) : Inv q m (State.showDomain a0 a1) := by
  unfold State.showDomain
  with_reducible repeat' first | assumption | apply Inv.setReg

theorem keeps_judgeDomain {a0 : State} {a1} (h_a0 : Inv q m a0) : Inv q m (State.judgeDomain a0 a1) := by
  unfold State.judgeDomain
  with_reducible repeat'
    first
      | assumption | apply Inv.ite | apply keeps_setDom | apply keeps_reselect | apply keeps_showDomain

theorem keeps_setSlave {a0 : State} {a1 a2} (h_a0 : Inv q m a0) : Inv q m (State.setSlave a0 a1 a2) := by
  unfold State.setSlave
  with_reducible repeat' first | assumption | apply Inv.ite | apply keeps_setDom

theorem keeps_setGm {a0 : State} {a1 a2 a3} (h_a0 : Inv q m a0) : Inv q m (State.setGm a0 a1 a2 a3) := by
  unfold State.setGm
  with_reducible repeat'
    first
      | assumption | apply Inv.ite | apply Inv.setReg | apply keeps_judgeDomain | apply keeps_setSlave | apply keeps_eventKey
      | apply keeps_bump | fail_if_no_progress apply Inv.mk'

theorem keeps_decideRoles {a0 : State} {a1} (h_a0 : Inv q m a0) : Inv q m (State.decideRoles a0 a1) := by
  unfold State.decideRoles
  with_reducible repeat'
    first
      | assumption | apply Inv.ite | apply keeps_setPtpRole | apply keeps_setGm | (refine Inv.foldl (fun _ _ _ => ?_) _ ?_)

theorem keeps_offerTurn {a0 : State} {a1 : State} {a2} (h_a0 : Inv q m a0) (h_a1 : Inv q m a1) : Inv q m (State.offerTurn a0 a1 a2) := by
  unfold State.offerTurn
  with_reducible repeat' first | assumption | apply Inv.ite | apply keeps_decideRoles

theorem keeps_decideAll {a0 : State} (h_a0 : Inv q m a0) : Inv q m (State.decideAll a0) := by
  unfold State.decideAll
  with_reducible repeat' first | assumption | apply keeps_offerTurn | apply keeps_decideRoles

theorem keeps_sendEvent {a0 : State} {a1} (h_a0 : Inv q m a0) : Inv q m (State.sendEvent a0 a1) := by
  unfold State.sendEvent
  with_reducible repeat' first | assumption | fail_if_no_progress apply Inv.mk'

theorem keeps_sendGeneral {a0 : State} {a1} (h_a0 : Inv q m a0) : Inv q m (State.sendGeneral a0 a1) := by
  unfold State.sendGeneral
  with_reducible repeat' first | assumption | apply keeps_bump | fail_if_no_progress apply Inv.mk'

theorem keeps_syncMeasured {a0 : State} {a1 a2 a3 a4 a5 a6} (h_a0 : Inv q m a0) : Inv q m (State.syncMeasured a0 a1 a2 a3 a4 a5 a6) := by
  unfold State.syncMeasured
  with_reducible repeat' first | assumption | apply keeps_setDom | apply keeps_measure

theorem keeps_execSync {a8 : State} {a0 a1 a2 a3 a4 a5 a6 a7} (h_a8 : Inv q m a8) : Goes q m (execSync a0 a1 a2 a3 a4 a5 a6 a7 a8) := by
  unfold execSync
  with_reducible repeat'
    first
      | assumption | apply Goes.next | apply Goes.ite | apply keeps_setDom | apply keeps_bump | apply keeps_judgeDomain
      | apply keeps_offerTurn | apply keeps_syncMeasured | split

theorem keeps_execFollowUp {a5 : State} {a0 a1 a2 a3 a4} (h_a5 : Inv q m a5) : Goes q m (execFollowUp a0 a1 a2 a3 a4 a5) := by
  unfold execFollowUp
  with_reducible repeat'
    first
      | assumption | apply Goes.next | apply Goes.ite | apply keeps_offerTurn | apply keeps_syncMeasured | apply keeps_bump | split

theorem keeps_execAnnounce {a4 : State} {a0 a1 a2 a3} (h_a4 : Inv q m a4) : Goes q m (execAnnounce a0 a1 a2 a3 a4) := by
  unfold execAnnounce
  with_reducible repeat'
    first
      | assumption | apply Goes.next | apply Goes.ite | apply keeps_setHeard | apply keeps_bump | apply keeps_setEth
      | apply keeps_offerTurn | apply keeps_decideRoles | split

theorem keeps_execPdelayReq {a4 : State} {a0 a1 a2 a3} (h_a4 : Inv q m a4) : Goes q m (execPdelayReq a0 a1 a2 a3 a4) := by
  unfold execPdelayReq
  with_reducible repeat'
    first
      | assumption | apply Goes.next | apply Goes.ite | apply Inv.setReg | apply keeps_bump | apply keeps_sendEvent
      | apply keeps_decideAll
      | (extract_lets +onlyGivenNames x; refine_lift have hx : Inv q m x := ?_; ?_; on_goal 2 => unfold x; on_goal 1 => clear_value x)
      | split

theorem keeps_execSignaling {a3 : State} {a0 a1 a2} (h_a3 : Inv q m a3) : Goes q m (execSignaling a0 a1 a2 a3) := by
  unfold execSignaling
  with_reducible repeat'
    first
      | assumption | apply Goes.next | apply Goes.ite | apply keeps_setEth | apply keeps_bump
      | (extract_lets +onlyGivenNames x; clear_value x) | split

theorem keeps_execSyncTransmit {a2 : State} {a0 a1} (h_a2 : Inv q m a2) : Goes q m (execSyncTransmit a0 a1 a2) := by
  unfold execSyncTransmit
  with_reducible repeat'
    first
      | assumption | apply Goes.next | apply Inv.ite | apply Goes.ite | apply keeps_setEth | apply keeps_sendEvent
      | apply keeps_sendGeneral

theorem keeps_execTxTimestamp {a3 : State} {a0 a1 a2} (h_a3 : Inv q m a3) : Goes q m (execTxTimestamp a0 a1 a2 a3) := by
  unfold execTxTimestamp
  with_reducible repeat'
    first
      | assumption | apply Goes.next | apply Goes.ite | apply keeps_sendGeneral | apply keeps_bump
      | fail_if_no_progress apply Inv.mk' | (extract_lets +onlyGivenNames x; clear_value x) | split

theorem keeps_forgetHeard {a0 : State} {a1} (h_a0 : Inv q m a0) : Inv q m (State.forgetHeard a0 a1) := by
  unfold State.forgetHeard
  with_reducible repeat' first | assumption | apply Inv.ite | apply keeps_setHeard | (refine Inv.foldl (fun _ _ _ => ?_) _ ?_)

theorem keeps_execReceiptTimeout {a2 : State} {a0 a1} (h_a2 : Inv q m a2) : Goes q m (execReceiptTimeout a0 a1 a2) := by
  unfold execReceiptTimeout
  with_reducible repeat'
    first
      | assumption | apply Goes.next | apply Goes.ite | apply keeps_judgeDomain | apply keeps_bump | apply keeps_setDom
      | apply keeps_offerTurn | apply keeps_decideRoles | apply keeps_forgetHeard

theorem keeps_ppsLost {a0 : State} (h_a0 : Inv q m a0) : Inv q m (State.ppsLost a0) := by
  unfold State.ppsLost
  with_reducible repeat' first | assumption | apply keeps_reselect | fail_if_no_progress apply Inv.mk'

theorem keeps_execPpsEdge {a0 : State} (h_a0 : Inv q m a0) : Goes q m (execPpsEdge a0) := by
  unfold execPpsEdge
  with_reducible repeat'
    first
      | assumption | apply Goes.next | apply Goes.ite | apply keeps_bump | fail_if_no_progress apply Inv.mk'
      | (extract_lets +onlyGivenNames x; refine_lift have hx : Inv q m x := ?_; ?_; on_goal 2 => unfold x; on_goal 1 => clear_value x)
      | (extract_lets +onlyGivenNames x; clear_value x) | split

theorem keeps_ppsTake {a0 : State} {a1 a2} (h_a0 : Inv q m a0) : Inv q m (State.ppsTake a0 a1 a2) := by
  unfold State.ppsTake
  with_reducible repeat'
    first
      | assumption | apply Inv.ite | apply Inv.setReg | apply keeps_measure | apply keeps_reselect | fail_if_no_progress apply Inv.mk'
      | (extract_lets +onlyGivenNames x; refine_lift have hx : Inv q m x := ?_; ?_; on_goal 2 => unfold x; on_goal 1 => clear_value x)
      | (extract_lets +onlyGivenNames x; clear_value x) | split

theorem keeps_execPpsLabel {a1 : State} {a0} (h_a1 : Inv q m a1) : Goes q m (execPpsLabel a0 a1) := by
  unfold execPpsLabel
  with_reducible repeat'
    first
      | assumption | apply Goes.next | apply keeps_ppsTake | apply keeps_offerTurn | fail_if_no_progress apply Inv.mk'
      | (refine Inv.foldl (fun _ _ _ => ?_) _ ?_)

theorem keeps_execPpsLabelWindowEnd {a0 : State} (h_a0 : Inv q m a0) : Goes q m (execPpsLabelWindowEnd a0) := by
  unfold execPpsLabelWindowEnd
  with_reducible repeat'
    first
      | assumption | apply Goes.next | apply Inv.ite | apply Goes.ite | apply keeps_bump | fail_if_no_progress apply Inv.mk'
      | (refine Inv.foldl (fun _ _ _ => ?_) _ ?_)

theorem keeps_execPpsLoss {a0 : State} (h_a0 : Inv q m a0) : Goes q m (execPpsLoss a0) := by
  unfold execPpsLoss
  with_reducible repeat' first | assumption | apply Goes.next | apply Goes.ite | apply keeps_offerTurn | apply keeps_ppsLost

theorem keeps_execRevertTime {a0 : State} (h_a0 : Inv q m a0) : Goes q m (execRevertTime a0) := by
  unfold execRevertTime
  with_reducible repeat'
    first
      | assumption | apply Goes.next | apply Goes.ite | apply keeps_offerTurn | apply keeps_selectSource | split

theorem keeps_execHoldoverLimit {a0 : State} (h_a0 : Inv q m a0) : Goes q m (execHoldoverLimit a0) := by
  unfold execHoldoverLimit
  with_reducible repeat' first | assumption | apply Goes.next | apply Goes.ite | apply Inv.setReg | apply keeps_eventKey

theorem keeps_execAcquireTimeout {a0 : State} (h_a0 : Inv q m a0) : Goes q m (execAcquireTimeout a0) := by
  unfold execAcquireTimeout
  with_reducible repeat' first | assumption | apply Goes.next | apply Inv.ite | apply Inv.setReg

theorem keeps_execModuleTimeSave {a0 : State} (h_a0 : Inv q m a0) : Goes q m (execModuleTimeSave a0) := by
  unfold execModuleTimeSave
  with_reducible repeat' first | assumption | apply Goes.next | apply Inv.ite | fail_if_no_progress apply Inv.mk'

theorem keeps_passFix {a0 : State} {a1 a2 a3 a4 a5 a6 a7} (h_a0 : Inv q m a0) : Inv q m (State.passFix a0 a1 a2 a3 a4 a5 a6 a7) := by
  unfold State.passFix
  with_reducible repeat'
    first
      | assumption | apply Inv.ite | apply keeps_setAxis | apply keeps_bump | fail_if_no_progress apply Inv.mk'
      | (refine Inv.foldl (fun _ _ _ => ?_) _ ?_)

theorem keeps_nmeaSentence {a0 : State} {a1} (h_a0 : Inv q m a0) : Inv q m (State.nmeaSentence a0 a1) := by
  unfold State.nmeaSentence
  with_reducible repeat'
    first
      | assumption | apply Inv.ite | apply keeps_bump | apply keeps_passFix | fail_if_no_progress apply Inv.mk'
      | (extract_lets +onlyGivenNames x; clear_value x) | split

theorem keeps_execNmeaDatagram {a3 : State} {a0 a1 a2} (h_a3 : Inv q m a3) : Goes q m (execNmeaDatagram a0 a1 a2 a3) := by
  unfold execNmeaDatagram
  with_reducible repeat'
    first
      | assumption | apply Goes.next | apply Goes.ite | apply keeps_nmeaSentence | (refine Inv.foldl (fun _ _ _ => ?_) _ ?_)

theorem keeps_execIsobusGnssMessage {a9 : State} {a0 a1 a2 a3 a4 a5 a6 a7 a8} (h_a9 : Inv q m a9) : Goes q m (execIsobusGnssMessage a0 a1 a2 a3 a4 a5 a6 a7 a8 a9) := by
  unfold execIsobusGnssMessage
  with_reducible repeat' first | assumption | apply Goes.next | apply Goes.ite | apply keeps_bump | apply keeps_passFix

theorem keeps_linkLost {a0 : State} {a1} (h_a0 : Inv q m a0) : Inv q m (State.linkLost a0 a1) := by
  unfold State.linkLost
  with_reducible repeat'
    first
      | assumption | apply Inv.setReg | apply keeps_setHeard | apply keeps_setEth | apply keeps_decideAll
      | fail_if_no_progress apply Inv.mk'

theorem keeps_execEthLinkChange {a2 : State} {a0 a1} (h_a2 : Inv q m a2) : Goes q m (execEthLinkChange a0 a1 a2) := by
  unfold execEthLinkChange
  with_reducible repeat'
    first
      | assumption | apply Goes.next | apply Goes.ite | apply Inv.setReg | apply keeps_decideAll | apply keeps_eventKey
      | apply keeps_linkLost

theorem keeps_execDhcpDiscovery {a2 : State} {a0 a1} (h_a2 : Inv q m a2) : Goes q m (execDhcpDiscovery a0 a1 a2) := by
  unfold execDhcpDiscovery
  with_reducible repeat'
    first
      | assumption | apply Goes.next | apply Inv.ite | apply Goes.ite | apply Inv.setReg | fail_if_no_progress apply Inv.mk'
      | (extract_lets +onlyGivenNames x; clear_value x) | split

theorem keeps_learn {a0 : State} {a1 a2 a3} (h_a0 : Inv q m a0) : Inv q m (State.learn a0 a1 a2 a3) := by
  unfold State.learn
  with_reducible repeat' first | assumption | fail_if_no_progress apply Inv.mk'

theorem keeps_forward {a0 : State} {a1 a2 a3 a4 a5} (h_a0 : Inv q m a0) : Inv q m (State.forward a0 a1 a2 a3 a4 a5) := by
  unfold State.forward
  with_reducible repeat' first | assumption | apply Inv.ite | apply keeps_setEth | (refine Inv.foldl (fun _ _ _ => ?_) _ ?_)

theorem keeps_ifAnswers {a0 : State} {a1 a2 a3} (h_a0 : Inv q m a0) : Inv q m (State.ifAnswers a0 a1 a2 a3) := by
  unfold State.ifAnswers
  with_reducible repeat' first | assumption | apply Inv.ite | apply keeps_forward | (refine Inv.foldl (fun _ _ _ => ?_) _ ?_) | split

theorem keeps_egressPort {a0 : State} {a1} (h_a0 : Inv q m a0) : Inv q m (State.egressPort a0 a1) := by
  unfold State.egressPort
  with_reducible repeat'
    first
      | assumption | apply Inv.ite | apply keeps_setEth | apply keeps_bump | fail_if_no_progress apply Inv.mk' | split

theorem keeps_egressTick {a0 : State} (h_a0 : Inv q m a0) : Inv q m (State.egressTick a0) := by
  unfold State.egressTick
  with_reducible repeat' first | assumption | apply keeps_egressPort | (refine Inv.foldl (fun _ _ _ => ?_) _ ?_)

theorem keeps_execEthFrameIngress {a3 : State} {a0 a1 a2} (h_a3 : Inv q m a3) : Goes q m (execEthFrameIngress a0 a1 a2 a3) := by
  unfold execEthFrameIngress
  with_reducible repeat'
    first
      | assumption | apply Goes.next | apply Goes.ite | apply keeps_bump | apply keeps_ifAnswers | apply keeps_forward
      | apply keeps_learn | (extract_lets +onlyGivenNames x; clear_value x) | split

theorem keeps_showIf {a0 : State} {a1} (h_a0 : Inv q m a0) : Inv q m (State.showIf a0 a1) := by
  unfold State.showIf
  with_reducible repeat' first | assumption | apply Inv.setReg | fail_if_no_progress apply Inv.mk'

theorem keeps_lockedBy {a0 a1 a2} : RuleOk (lockedBy a0 a1 a2) := by
  unfold lockedBy
  with_reducible repeat' apply keeps_lockedRule

theorem keeps_rule15 {a0 a1} : OptRuleOk (rule15 a0 a1) := by
  unfold rule15
  with_reducible repeat'
    first
      | assumption | intro q m _ _ | apply Inv.ite | apply OptRuleOk.ite | apply Inv.setReg | apply OptRuleOk.none
      | apply OptRuleOk.some | apply keeps_settingRule | apply keeps_linkLost | apply keeps_lockedBy | apply keeps_showIf
      | apply keeps_offerTurn | apply keeps_decideRoles | apply keeps_ppsLost | fail_if_no_progress apply Inv.mk'

theorem keeps_setYield {a0 : State} {a1} (h_a0 : Inv q m a0) : Inv q m (State.setYield a0 a1) := by
  unfold State.setYield
  with_reducible repeat' first | assumption | fail_if_no_progress apply Inv.mk'

theorem keeps_showYield {a0 : State} (h_a0 : Inv q m a0) : Inv q m (State.showYield a0) := by
  unfold State.showYield
  with_reducible repeat' first | assumption | apply Inv.ite | apply Inv.setReg | apply keeps_setFlag | apply keeps_eventKey

theorem keeps_unassign {a0 : State} {a1} (h_a0 : Inv q m a0) : Inv q m (State.unassign a0 a1) := by
  unfold State.unassign
  with_reducible repeat' first | assumption | apply keeps_setYield

theorem keeps_openStripAt {a0 : State} {a1} (h_a0 : Inv q m a0) : Inv q m (State.openStripAt a0 a1) := by
  unfold State.openStripAt
  with_reducible repeat' first | assumption | apply keeps_setYield

theorem keeps_closeStrip {a0 : State} {a1} (h_a0 : Inv q m a0) : Inv q m (State.closeStrip a0 a1) := by
  unfold State.closeStrip
  with_reducible repeat' first | assumption | apply keeps_openStripAt | apply keeps_setYield

theorem keeps_mapStrip {a0 : State} {a1 a2} (h_a0 : Inv q m a0) : Inv q m (State.mapStrip a0 a1 a2) := by
  unfold State.mapStrip
  with_reducible repeat' first | assumption | apply keeps_setYield

theorem keeps_assignSample {a0 : State} {a1 a2} (h_a0 : Inv q m a0) : Inv q m (State.assignSample a0 a1 a2) := by
  unfold State.assignSample
  with_reducible repeat'
    first
      | assumption | apply Inv.ite | apply keeps_unassign | apply keeps_mapStrip
      | (extract_lets +onlyGivenNames x; clear_value x) | split

theorem keeps_closePool {a0 : State} {a1} (h_a0 : Inv q m a0) : Inv q m (State.closePool a0 a1) := by
  unfold State.closePool
  with_reducible repeat' first | assumption | apply keeps_mapStrip | (refine Inv.foldl (fun _ _ _ => ?_) _ ?_)

theorem keeps_depositCell {a0 : State} {a1 a2 a3 a4 a5 a6} (h_a0 : Inv q m a0) : Inv q m (State.depositCell a0 a1 a2 a3 a4 a5 a6) := by
  unfold State.depositCell
  with_reducible repeat'
    first
      | assumption | apply Inv.ite | apply keeps_unassign | apply keeps_setYield
      | (extract_lets +onlyGivenNames x; refine_lift have hx : Inv q m x := ?_; ?_; on_goal 2 => unfold x; on_goal 1 => clear_value x)
      | (extract_lets +onlyGivenNames x; clear_value x) | split

theorem keeps_depositStrip {a0 : State} {a1} (h_a0 : Inv q m a0) : Inv q m (State.depositStrip a0 a1) := by
  unfold State.depositStrip
  with_reducible repeat'
    first
      | assumption | apply Inv.ite | apply keeps_mapStrip | apply keeps_depositCell | apply keeps_setFieldArc
      | apply keeps_setYield | (refine Inv.foldl (fun _ _ _ => ?_) _ ?_)
      | (extract_lets +onlyGivenNames x; refine_lift have hx : Inv q m x := ?_; ?_; on_goal 2 => unfold x; on_goal 1 => clear_value x)
      | (extract_lets +onlyGivenNames x; clear_value x) | split

theorem keeps_archiveYield {a0 : State} {a1 a2} (h_a0 : Inv q m a0) : Inv q m (State.archiveYield a0 a1 a2) := by
  unfold State.archiveYield
  with_reducible repeat'
    first
      | assumption | apply Inv.ite | apply keeps_setFieldArc | apply keeps_setYield | apply keeps_eventKey
      | apply keeps_setFlag

theorem keeps_archiveYields {a0 : State} {a1} (h_a0 : Inv q m a0) : Inv q m (State.archiveYields a0 a1) := by
  unfold State.archiveYields
  with_reducible repeat' first | assumption | apply keeps_archiveYield | (refine Inv.foldl (fun _ _ _ => ?_) _ ?_)

theorem keeps_exportFiles {a0 : State} {a1 a2} (h_a0 : Inv q m a0) : Inv q m (State.exportFiles a0 a1 a2).2 := by
  unfold State.exportFiles
  with_reducible repeat' first | assumption | fail_if_no_progress refine Inv.drawn ?_ (by omega) | split

theorem keeps_publishRdv {a0 : State} (h_a0 : Inv q m a0) : Inv q m (State.publishRdv a0) := by
  unfold State.publishRdv
  with_reducible repeat' first | assumption | apply keeps_publish | fail_if_no_progress apply Inv.mk'

theorem keeps_rdvMove {a0 : State} {a1} (h_a0 : Inv q m a0) : Inv q m (State.rdvMove a0 a1) := by
  unfold State.rdvMove
  with_reducible repeat' first | assumption | apply Inv.ite | apply Inv.setReg | apply Inv.setBlob | apply keeps_publishRdv

theorem keeps_yieldEnableRule : RuleOk (yieldEnableRule) := by
  unfold yieldEnableRule
  with_reducible repeat'
    first
      | assumption | apply Inv.ite | apply keeps_putEntry | apply keeps_setYield | apply keeps_openStripAt
      | apply keeps_finish | apply keeps_showYield | (refine ⟨fun q m _ _ _ _ _ => ?_, fun q m _ _ _ _ => ?_⟩)

theorem keeps_execYieldSample {a0 : State} (h_a0 : Inv q m a0) : Goes q m (execYieldSample a0) := by
  unfold execYieldSample
  with_reducible repeat'
    first
      | assumption | apply Goes.next | apply Goes.ite | apply Inv.setReg | apply keeps_setYield | apply keeps_showYield
      | apply keeps_assignSample

theorem keeps_execStripClose {a0 : State} (h_a0 : Inv q m a0) : Goes q m (execStripClose a0) := by
  unfold execStripClose
  with_reducible repeat'
    first
      | assumption | apply Goes.next | apply Inv.ite | apply Goes.ite | apply keeps_openStripAt | apply keeps_closeStrip
      | split

theorem keeps_execPoolClose {a0 : State} (h_a0 : Inv q m a0) : Goes q m (execPoolClose a0) := by
  unfold execPoolClose
  with_reducible repeat' first | assumption | apply Goes.next | apply keeps_closePool | split

theorem keeps_execStripDeposit {a0 : State} (h_a0 : Inv q m a0) : Goes q m (execStripDeposit a0) := by
  unfold execStripDeposit
  with_reducible repeat'
    first
      | assumption | apply Goes.next | apply Inv.ite | apply keeps_closePool | apply keeps_showYield
      | apply keeps_depositStrip
      | (extract_lets +onlyGivenNames x; refine_lift have hx : Inv q m x := ?_; ?_; on_goal 2 => unfold x; on_goal 1 => clear_value x)
      | split

theorem keeps_execYieldTileArchive {a0 : State} (h_a0 : Inv q m a0) : Goes q m (execYieldTileArchive a0) := by
  unfold execYieldTileArchive
  with_reducible repeat' first | assumption | apply Goes.next | apply keeps_archiveYields | split

theorem keeps_execLossUpdate {a0 : State} (h_a0 : Inv q m a0) : Goes q m (execLossUpdate a0) := by
  unfold execLossUpdate
  with_reducible repeat'
    first
      | assumption | apply Goes.next | apply Goes.ite | apply Inv.setReg | apply keeps_setYield
      | (refine Inv.foldl (fun _ _ _ => ?_) _ ?_)

theorem keeps_yieldCalibrateRule : RuleOk (yieldCalibrateRule) := by
  unfold yieldCalibrateRule
  with_reducible repeat'
    first
      | assumption | intro q m _ _ | intro _ | apply Inv.setReg | apply keeps_commandRule | apply keeps_showYield
      | apply keeps_setYield

theorem keeps_execYieldCalibrate {a2 : State} {a0 a1} (h_a2 : Inv q m a2) : Goes q m (execYieldCalibrate a0 a1 a2) := by
  unfold execYieldCalibrate
  with_reducible repeat' first | assumption | apply Goes.next | apply keeps_request | apply keeps_yieldCalibrateRule

theorem keeps_loadResetRule : RuleOk (loadResetRule) := by
  unfold loadResetRule
  with_reducible repeat'
    first
      | assumption | intro q m _ _ | intro _ | apply keeps_commandRule | apply keeps_showYield | apply keeps_setYield

theorem keeps_execLoadReset {a2 : State} {a0 a1} (h_a2 : Inv q m a2) : Goes q m (execLoadReset a0 a1 a2) := by
  unfold execLoadReset
  with_reducible repeat' first | assumption | apply Goes.next | apply keeps_request | apply keeps_loadResetRule

theorem keeps_fieldRecordRule {a0} : RuleOk (fieldRecordRule a0) := by
  unfold fieldRecordRule
  with_reducible repeat' first | assumption | intro q m _ _ | apply Inv.setReg | apply keeps_settingRule

theorem keeps_closeField {a0 : State} (h_a0 : Inv q m a0) : Inv q m (State.closeField a0) := by
  unfold State.closeField
  with_reducible repeat'
    first
      | assumption | apply Inv.ite | apply keeps_putMask | apply keeps_freeTiles | apply keeps_archiveYields | apply keeps_archiveAll
      | apply keeps_closeStrip | apply keeps_closePool | apply keeps_depositStrip | apply keeps_setYield
      | (refine Inv.foldl (fun _ _ _ => ?_) _ ?_) | split

theorem keeps_takeRecord {a0 : State} {a1} (h_a0 : Inv q m a0) : Inv q m (State.takeRecord a0 a1) := by
  unfold State.takeRecord
  with_reducible repeat' first | assumption | apply Inv.setReg

theorem keeps_openEnds {a0 : State} (h_a0 : Inv q m a0) : Inv q m (State.openEnds a0) := by
  unfold State.openEnds
  with_reducible repeat'
    first
      | assumption | apply Inv.ite | apply keeps_setFlag | apply keeps_loadField | apply keeps_finish | apply keeps_showYield
      | fail_if_no_progress apply Inv.mk'
      | (extract_lets +onlyGivenNames x; refine_lift have hx : Inv q m x := ?_; ?_; on_goal 2 => unfold x; on_goal 1 => clear_value x)
      | (extract_lets +onlyGivenNames x; clear_value x) | split

theorem keeps_openFieldRule : RuleOk (openFieldRule) := by
  unfold openFieldRule
  with_reducible repeat'
    first
      | assumption | apply Inv.ite | apply keeps_closeField | apply keeps_startItem | apply keeps_openEnds
      | apply keeps_putEntry | apply keeps_takeRecord | apply keeps_showYield | fail_if_no_progress apply Inv.mk'
      | (refine ⟨fun q m _ _ _ _ _ => ?_, fun q m _ _ _ _ => ?_⟩)

theorem keeps_execOpenField {a2 : State} {a0 a1} (h_a2 : Inv q m a2) : Goes q m (execOpenField a0 a1 a2) := by
  unfold execOpenField
  with_reducible repeat' first | assumption | apply Goes.next | apply keeps_request | apply keeps_openFieldRule

theorem keeps_execOpenFieldEnd {a0 : State} (h_a0 : Inv q m a0) : Goes q m (execOpenFieldEnd a0) := by
  unfold execOpenFieldEnd
  with_reducible repeat' first | assumption | apply Goes.next | apply keeps_openEnds

theorem keeps_archiveEraseRule : RuleOk (archiveEraseRule) := by
  unfold archiveEraseRule
  with_reducible repeat'
    first
      | assumption | apply keeps_startItem | fail_if_no_progress apply Inv.mk'
      | (refine ⟨fun q m _ _ _ _ _ => ?_, fun q m _ _ _ _ => ?_⟩)

theorem keeps_execArchiveErase {a2 : State} {a0 a1} (h_a2 : Inv q m a2) : Goes q m (execArchiveErase a0 a1 a2) := by
  unfold execArchiveErase
  with_reducible repeat' first | assumption | apply Goes.next | apply keeps_request | apply keeps_archiveEraseRule

theorem keeps_execArchiveEraseEnd {a0 : State} (h_a0 : Inv q m a0) : Goes q m (execArchiveEraseEnd a0) := by
  unfold execArchiveEraseEnd
  with_reducible repeat'
    first
      | assumption | apply Goes.next | apply Inv.ite | apply keeps_setFieldArc | apply keeps_setFlag | apply keeps_finish
      | fail_if_no_progress apply Inv.mk' | (refine Inv.foldl (fun _ _ _ => ?_) _ ?_)
      | (extract_lets +onlyGivenNames x; refine_lift have hx : Inv q m x := ?_; ?_; on_goal 2 => unfold x; on_goal 1 => clear_value x)
      | (extract_lets +onlyGivenNames x; clear_value x) | split

theorem keeps_exportBuildRule : RuleOk (exportBuildRule) := by
  unfold exportBuildRule
  with_reducible repeat'
    first
      | assumption | apply Inv.ite | apply Inv.setReg | apply keeps_archiveYields | apply keeps_archiveAll
      | apply keeps_startItem | apply keeps_setFlag | fail_if_no_progress apply Inv.mk'
      | (refine ⟨fun q m _ _ _ _ _ => ?_, fun q m _ _ _ _ => ?_⟩)

theorem keeps_execIsoTaskdata {a2 : State} {a0 a1} (h_a2 : Inv q m a2) : Goes q m (execIsoTaskdata a0 a1 a2) := by
  unfold execIsoTaskdata
  with_reducible repeat' first | assumption | apply Goes.next | apply keeps_request | apply keeps_exportBuildRule

theorem keeps_execYieldTiles {a2 : State} {a0 a1} (h_a2 : Inv q m a2) : Goes q m (execYieldTiles a0 a1 a2) := by
  unfold execYieldTiles
  with_reducible repeat' first | assumption | apply Goes.next | apply keeps_request | apply keeps_exportBuildRule

theorem keeps_execCoverageTiles {a2 : State} {a0 a1} (h_a2 : Inv q m a2) : Goes q m (execCoverageTiles a0 a1 a2) := by
  unfold execCoverageTiles
  with_reducible repeat' first | assumption | apply Goes.next | apply keeps_request | apply keeps_exportBuildRule

theorem keeps_execExportBuildEnd {a1 : State} {a0} (h_a1 : Inv q m a1) : Goes q m (execExportBuildEnd a0 a1) := by
  unfold execExportBuildEnd
  with_reducible repeat'
    first
      | assumption | apply Goes.next | apply Goes.ite | apply Inv.setReg | apply keeps_exportFiles | apply keeps_finish
      | apply keeps_setFlag | apply keeps_event | fail_if_no_progress apply Inv.mk'
      | (extract_lets +onlyGivenNames x; refine_lift have hx : Inv q m x := ?_; ?_; on_goal 2 => unfold x; on_goal 1 => clear_value x)
      | (extract_lets +onlyGivenNames x; clear_value x) | split

theorem keeps_showUnverified {a0 : State} (h_a0 : Inv q m a0) : Inv q m (State.showUnverified a0) := by
  unfold State.showUnverified
  with_reducible repeat' first | assumption | apply keeps_setFlag

theorem keeps_fleetDown {a0 : State} (h_a0 : Inv q m a0) : Inv q m (State.fleetDown a0) := by
  unfold State.fleetDown
  with_reducible repeat' first | assumption | apply Inv.ite | apply keeps_closeSession | fail_if_no_progress apply Inv.mk'

theorem keeps_fleetBackoff {a0 : State} (h_a0 : Inv q m a0) : Inv q m (State.fleetBackoff a0) := by
  unfold State.fleetBackoff
  with_reducible repeat'
    first
      | assumption | apply Inv.ite | apply Inv.setReg | apply keeps_eventKey | fail_if_no_progress apply Inv.mk'

theorem keeps_fleetEnableRule : RuleOk (fleetEnableRule) := by
  unfold fleetEnableRule
  with_reducible repeat'
    first
      | assumption | apply Inv.ite | apply Inv.setReg | apply keeps_putEntry | apply keeps_fleetDown | apply keeps_finish
      | apply keeps_showUnverified | fail_if_no_progress apply Inv.mk'
      | (refine ⟨fun q m _ _ _ _ _ => ?_, fun q m _ _ _ _ => ?_⟩)

theorem keeps_execBrokerConnect {a1 : State} {a0} (h_a1 : Inv q m a1) : Goes q m (execBrokerConnect a0 a1) := by
  unfold execBrokerConnect
  with_reducible repeat'
    first
      | assumption | apply Goes.next | apply Goes.ite | apply Inv.setReg | apply keeps_bump | apply keeps_fleetBackoff
      | fail_if_no_progress apply Inv.mk'

theorem keeps_execConnack {a0 : State} (h_a0 : Inv q m a0) : Goes q m (execConnack a0) := by
  unfold execConnack
  with_reducible repeat'
    first
      | assumption | apply Goes.next | apply Goes.ite | apply Inv.setReg | apply keeps_drainQueue | apply keeps_openSession
      | fail_if_no_progress apply Inv.mk'

theorem keeps_fleetLost {a0 : State} (h_a0 : Inv q m a0) : Inv q m (State.fleetLost a0) := by
  unfold State.fleetLost
  with_reducible repeat'
    first
      | assumption | apply Inv.ite | apply keeps_fleetDown | apply keeps_fleetBackoff | fail_if_no_progress apply Inv.mk'

theorem keeps_execBrokerDisconnect {a0 : State} (h_a0 : Inv q m a0) : Goes q m (execBrokerDisconnect a0) := by
  unfold execBrokerDisconnect
  with_reducible repeat' first | assumption | apply Goes.next | apply keeps_fleetLost

theorem keeps_execStatusPublish {a0 : State} (h_a0 : Inv q m a0) : Goes q m (execStatusPublish a0) := by
  unfold execStatusPublish
  with_reducible repeat'
    first
      | assumption | apply Goes.next | apply Goes.ite | apply keeps_publish | fail_if_no_progress apply Inv.mk'

theorem keeps_execPosPublish {a0 : State} (h_a0 : Inv q m a0) : Goes q m (execPosPublish a0) := by
  unfold execPosPublish
  with_reducible repeat'
    first
      | assumption | apply Goes.next | apply Goes.ite | apply keeps_publish | fail_if_no_progress apply Inv.mk'

theorem keeps_execYieldPublish {a0 : State} (h_a0 : Inv q m a0) : Goes q m (execYieldPublish a0) := by
  unfold execYieldPublish
  with_reducible repeat'
    first
      | assumption | apply Goes.next | apply Goes.ite | apply keeps_publish | fail_if_no_progress apply Inv.mk'

theorem keeps_rdvCompute {a0 : State} (h_a0 : Inv q m a0) : Inv q m (State.rdvCompute a0) := by
  unfold State.rdvCompute
  with_reducible repeat' first | assumption | apply Inv.setReg | fail_if_no_progress apply Inv.mk'

theorem keeps_rdvFillRule {a0 : State} (h_a0 : Inv q m a0) : Inv q m (State.rdvFillRule a0) := by
  unfold State.rdvFillRule
  with_reducible repeat'
    first
      | assumption | apply Inv.ite | apply keeps_rdvMove | (extract_lets +onlyGivenNames x; clear_value x) | split

theorem keeps_execRendezvousUpdate {a0 : State} (h_a0 : Inv q m a0) : Goes q m (execRendezvousUpdate a0) := by
  unfold execRendezvousUpdate
  with_reducible repeat'
    first
      | assumption | apply Goes.next | apply Inv.ite | apply Goes.ite | apply keeps_rdvCompute | apply keeps_rdvMove
      | apply keeps_rdvFillRule | apply keeps_publishRdv

theorem keeps_execRdvAccept {a1 : State} {a0} (h_a1 : Inv q m a1) : Goes q m (execRdvAccept a0 a1) := by
  unfold execRdvAccept
  with_reducible repeat'
    first
      | assumption | apply Goes.next | apply Inv.ite | apply Goes.ite | apply Inv.setBlob | apply keeps_rdvMove
      | apply keeps_bump | fail_if_no_progress apply Inv.mk'

theorem keeps_rendezvousCancelRule : RuleOk (rendezvousCancelRule) := by
  unfold rendezvousCancelRule
  with_reducible repeat'
    first
      | assumption | intro q m _ _ | intro _ | apply keeps_commandRule | apply keeps_rdvMove
      | fail_if_no_progress apply Inv.mk'

theorem keeps_execRendezvousCancel {a2 : State} {a0 a1} (h_a2 : Inv q m a2) : Goes q m (execRendezvousCancel a0 a1 a2) := by
  unfold execRendezvousCancel
  with_reducible repeat' first | assumption | apply Goes.next | apply keeps_request | apply keeps_rendezvousCancelRule

theorem keeps_rendezvousEnableRule : RuleOk (rendezvousEnableRule) := by
  unfold rendezvousEnableRule
  with_reducible repeat' first | assumption | intro q m _ _ | apply Inv.ite | apply keeps_settingRule | apply keeps_rdvMove

theorem keeps_rule17 {a0 a1} : OptRuleOk (rule17 a0 a1) := by
  unfold rule17
  with_reducible repeat'
    first
      | assumption | intro q m _ _ | apply OptRuleOk.ite | apply OptRuleOk.none | apply OptRuleOk.some
      | apply keeps_yieldEnableRule | apply keeps_lockedRule | apply keeps_yieldCalibrateRule | apply keeps_loadResetRule
      | apply keeps_settingRule | apply keeps_openFieldRule | apply keeps_archiveEraseRule | apply keeps_exportBuildRule
      | apply keeps_fieldRecordRule | apply keeps_fleetEnableRule | apply keeps_rendezvousEnableRule
      | apply keeps_rendezvousCancelRule

end Sys2Proof.Laws
end

