-- ==== Sys2Proof/Laws/KeepsModule.lean ====
section
/-!
SUPPORT. What the display, thermal, security and power commands keep (`Inv`), one lemma for each definition.
-/
namespace Sys2Proof.Laws
open Sys2Proof Sys2Proof.Machine

variable {q : List Instr} {m : Nat}

theorem keeps_setPanel {a0 : State} {a1} (h_a0 : Inv q m a0) : Inv q m (State.setPanel a0 a1) := by
  unfold State.setPanel
  with_reducible repeat' first | assumption | fail_if_no_progress apply Inv.mk'

theorem keeps_scanFrame {a0 : State} (h_a0 : Inv q m a0) : Inv q m (State.scanFrame a0) := by
  unfold State.scanFrame
  with_reducible repeat'
    first
      | assumption | apply Inv.ite | apply Inv.setReg | apply keeps_scanCrcOf | apply keeps_setPanel | apply keeps_bump
      | apply keeps_setFlag | apply keeps_eventKey

theorem keeps_takeFlip {a0 : State} {a1} (h_a0 : Inv q m a0) : Inv q m (State.takeFlip a0 a1) := by
  unfold State.takeFlip
  with_reducible repeat'
    first
      | assumption | apply Inv.ite | apply Inv.setReg | apply keeps_setPanel | apply keeps_setFlag | apply keeps_finish

theorem keeps_dropFlip {a0 : State} (h_a0 : Inv q m a0) : Inv q m (State.dropFlip a0) := by
  unfold State.dropFlip
  with_reducible repeat'
    first
      | assumption | apply Inv.ite | apply keeps_setFlag | apply keeps_setPanel | apply keeps_finish
      | (extract_lets +onlyGivenNames x; refine_lift have hx : Inv q m x := ?_; ?_; on_goal 2 => unfold x; on_goal 1 => clear_value x)
      | (extract_lets +onlyGivenNames x; clear_value x) | split

theorem keeps_prickingFlip {a0 : State} (h_a0 : Inv q m a0) : Inv q m (State.prickingFlip a0) := by
  unfold State.prickingFlip
  with_reducible repeat'
    first
      | assumption | apply Inv.ite | apply keeps_setPanel | apply keeps_bumpBy | apply keeps_dropFlip | apply keeps_setFlag
      | apply keeps_takeFlip

theorem keeps_latchWindows {a0 : State} (h_a0 : Inv q m a0) : Inv q m (State.latchWindows a0) := by
  unfold State.latchWindows
  with_reducible repeat' first | assumption | apply keeps_setFlag | apply keeps_setPanel

theorem keeps_takeSettings {a0 : State} (h_a0 : Inv q m a0) : Inv q m (State.takeSettings a0) := by
  unfold State.takeSettings
  with_reducible repeat'
    first
      | assumption | apply keeps_settle | apply keeps_setPanel | (refine Inv.foldl (fun _ _ _ => ?_) _ ?_)

theorem keeps_execFrameLatch {a0 : State} (h_a0 : Inv q m a0) : Goes q m (execFrameLatch a0) := by
  unfold execFrameLatch
  with_reducible repeat'
    first
      | assumption | apply Goes.next | apply Goes.ite | apply keeps_prickingFlip | apply keeps_takeSettings
      | apply keeps_scanFrame | apply keeps_takeFlip | apply keeps_latchWindows | split

theorem keeps_uiRectRule : RuleOk (uiRectRule) := by
  unfold uiRectRule
  with_reducible repeat'
    first
      | assumption | apply keeps_finish | apply keeps_setPanel | (refine ⟨fun q m _ _ _ _ _ => ?_, fun q m _ _ _ _ => ?_⟩)

theorem keeps_execUiRectWrite {a2 : State} {a0 a1} (h_a2 : Inv q m a2) : Goes q m (execUiRectWrite a0 a1 a2) := by
  unfold execUiRectWrite
  with_reducible repeat' first | assumption | apply Goes.next | apply keeps_request | apply keeps_uiRectRule

theorem keeps_uiFlipRule : RuleOk (uiFlipRule) := by
  unfold uiFlipRule
  with_reducible repeat'
    first
      | assumption | apply Inv.ite | apply keeps_setFlag | apply keeps_setPanel | apply keeps_startItem | apply keeps_takeFlip
      | (refine ⟨fun q m _ _ _ _ _ => ?_, fun q m _ _ _ _ => ?_⟩)

theorem keeps_execUiFlip {a2 : State} {a0 a1} (h_a2 : Inv q m a2) : Goes q m (execUiFlip a0 a1 a2) := by
  unfold execUiFlip
  with_reducible repeat' first | assumption | apply Goes.next | apply keeps_request | apply keeps_uiFlipRule

theorem keeps_latchRule {a0 a1 a2} : RuleOk (latchRule a0 a1 a2) := by
  unfold latchRule
  with_reducible repeat'
    first
      | assumption | apply Inv.ite | apply keeps_startItem | apply keeps_setPanel | apply keeps_settle
      | (refine ⟨fun q m _ _ _ _ _ => ?_, fun q m _ _ _ _ => ?_⟩)

theorem keeps_uniformityRule : RuleOk (uniformityRule) := by
  unfold uniformityRule
  with_reducible repeat' apply keeps_latchRule

theorem keeps_execUniformityMap {a2 : State} {a0 a1} (h_a2 : Inv q m a2) : Goes q m (execUniformityMap a0 a1 a2) := by
  unfold execUniformityMap
  with_reducible repeat' first | assumption | apply Goes.next | apply keeps_request | apply keeps_uniformityRule

theorem keeps_panelDown {a0 : State} {a1} (h_a0 : Inv q m a0) : Inv q m (State.panelDown a0 a1) := by
  unfold State.panelDown
  with_reducible repeat'
    first
      | assumption | apply Inv.ite | apply Inv.setReg | apply keeps_setPanel | apply keeps_takeSettings

theorem keeps_panelUp {a0 : State} {a1} (h_a0 : Inv q m a0) : Inv q m (State.panelUp a0 a1) := by
  unfold State.panelUp
  with_reducible repeat'
    first
      | assumption | apply Inv.setReg | apply keeps_draw | apply keeps_setFlag | apply keeps_setPanel

theorem keeps_panelEnableRule : RuleOk (panelEnableRule) := by
  unfold panelEnableRule
  with_reducible repeat'
    first
      | assumption | apply Inv.ite | apply Inv.setReg | apply keeps_putEntry | apply keeps_finish | apply keeps_panelUp
      | apply keeps_startItem | apply keeps_panelDown | apply keeps_dropFlip | apply keeps_setPanel
      | (refine ⟨fun q m _ _ _ _ _ => ?_, fun q m _ _ _ _ => ?_⟩)

theorem keeps_execPanelPowerUp {a3 : State} {a0 a1 a2} (h_a3 : Inv q m a3) : Goes q m (execPanelPowerUp a0 a1 a2 a3) := by
  unfold execPanelPowerUp
  with_reducible repeat'
    first
      | assumption | apply Goes.next | apply Inv.ite | apply Goes.ite | apply Inv.setReg | apply keeps_request
      | apply keeps_panelEnableRule | apply keeps_setFlag | apply keeps_panelDown | apply keeps_eventKey | apply keeps_finish
      | apply keeps_setPanel
      | (extract_lets +onlyGivenNames x; refine_lift have hx : Inv q m x := ?_; ?_; on_goal 2 => unfold x; on_goal 1 => clear_value x)
      | (extract_lets +onlyGivenNames x; clear_value x) | split

theorem keeps_execPanelPowerDown {a2 : State} {a0 a1} (h_a2 : Inv q m a2) : Goes q m (execPanelPowerDown a0 a1 a2) := by
  unfold execPanelPowerDown
  with_reducible repeat'
    first
      | assumption | apply Goes.next | apply Goes.ite | apply Inv.setReg | apply keeps_request | apply keeps_panelEnableRule
      | apply keeps_setPanel | apply keeps_takeFlip
      | (extract_lets +onlyGivenNames x; refine_lift have hx : Inv q m x := ?_; ?_; on_goal 2 => unfold x; on_goal 1 => clear_value x)
      | (extract_lets +onlyGivenNames x; clear_value x) | split

theorem keeps_execBiasFault {a3 : State} {a0 a1 a2} (h_a3 : Inv q m a3) : Goes q m (execBiasFault a0 a1 a2 a3) := by
  unfold execBiasFault
  with_reducible repeat'
    first
      | assumption | apply Goes.next | apply Inv.ite | apply Goes.ite | apply Inv.setReg | apply keeps_setFlag
      | apply keeps_panelDown | apply keeps_eventKey | apply keeps_finish

theorem keeps_execVddOvercurrent {a0 : State} (h_a0 : Inv q m a0) : Goes q m (execVddOvercurrent a0) := by
  unfold execVddOvercurrent
  with_reducible repeat'
    first
      | assumption | apply Goes.next | apply Inv.ite | apply Goes.ite | apply keeps_panelDown | apply keeps_setFlag
      | apply keeps_setPanel | apply keeps_eventKey | apply keeps_finish

theorem keeps_setTag {a0 : State} {a1} (h_a0 : Inv q m a0) : Inv q m (State.setTag a0 a1) := by
  unfold State.setTag
  with_reducible repeat' first | assumption | fail_if_no_progress apply Inv.mk'

theorem keeps_tagContent {a0 : State} {a1 a2} (h_a0 : Inv q m a0) : Inv q m (State.tagContent a0 a1 a2) := by
  unfold State.tagContent
  with_reducible repeat' first | assumption | apply keeps_setTag

theorem keeps_execTagUpdate {a0 : State} (h_a0 : Inv q m a0) : Goes q m (execTagUpdate a0) := by
  unfold execTagUpdate
  with_reducible repeat'
    first
      | assumption | apply Goes.next | apply Goes.ite | apply Inv.setReg | apply keeps_setTag
      | (extract_lets +onlyGivenNames x; clear_value x) | split

theorem keeps_execTagPhaseEnd {a0 : State} (h_a0 : Inv q m a0) : Goes q m (execTagPhaseEnd a0) := by
  unfold execTagPhaseEnd
  with_reducible repeat'
    first
      | assumption | apply Goes.next | apply Goes.ite | apply Inv.setReg | apply keeps_setTag
      | (extract_lets +onlyGivenNames x; clear_value x) | split

theorem keeps_execTagStartupCheck {a1 : State} {a0} (h_a1 : Inv q m a1) : Goes q m (execTagStartupCheck a0 a1) := by
  unfold execTagStartupCheck
  with_reducible repeat'
    first
      | assumption | apply Goes.next | apply Goes.ite | apply Inv.setReg | apply keeps_setTag | apply keeps_tagContent
      | apply keeps_bump
      | (extract_lets +onlyGivenNames x; refine_lift have hx : Inv q m x := ?_; ?_; on_goal 2 => unfold x; on_goal 1 => clear_value x)
      | (extract_lets +onlyGivenNames x; clear_value x) | split

theorem keeps_execTagReservoirReady {a0 : State} (h_a0 : Inv q m a0) : Goes q m (execTagReservoirReady a0) := by
  unfold execTagReservoirReady
  with_reducible repeat' first | assumption | apply Goes.next | apply Inv.ite | apply Inv.setReg

theorem keeps_execTagReservoirFault {a1 : State} {a0} (h_a1 : Inv q m a1) : Goes q m (execTagReservoirFault a0 a1) := by
  unfold execTagReservoirFault
  with_reducible repeat'
    first
      | assumption | apply Goes.next | apply Goes.ite | apply Inv.setReg | apply keeps_eventKey | apply keeps_setFlag

theorem keeps_rule18 {a0 a1} : OptRuleOk (rule18 a0 a1) := by
  unfold rule18
  with_reducible repeat'
    first
      | apply OptRuleOk.ite | apply OptRuleOk.none | apply OptRuleOk.some | apply keeps_panelEnableRule
      | apply keeps_lockedRule | apply keeps_latchRule | apply keeps_uiFlipRule | apply keeps_uiRectRule
      | apply keeps_uniformityRule

theorem keeps_challengeRule : RuleOk (challengeRule) := by
  unfold challengeRule
  with_reducible repeat'
    first
      | assumption | apply keeps_drawBytes | apply keeps_finish | fail_if_no_progress apply Inv.mk'
      | (refine ⟨fun q m _ _ _ _ _ => ?_, fun q m _ _ _ _ => ?_⟩)

theorem keeps_execAuthChallengeRequest {a2 : State} {a0 a1} (h_a2 : Inv q m a2) : Goes q m (execAuthChallengeRequest a0 a1 a2) := by
  unfold execAuthChallengeRequest
  with_reducible repeat' first | assumption | apply Goes.next | apply keeps_request | apply keeps_challengeRule

theorem keeps_authResponseRule : RuleOk (authResponseRule) := by
  unfold authResponseRule
  with_reducible repeat'
    first
      | assumption | apply Inv.ite | apply keeps_authSuccess | apply keeps_dropChallenge | apply keeps_finish
      | apply keeps_setSess | apply keeps_authFailure | (refine ⟨fun q m _ _ _ _ _ => ?_, fun q m _ _ _ _ => ?_⟩)

theorem keeps_execAuthResponse {a2 : State} {a0 a1} (h_a2 : Inv q m a2) : Goes q m (execAuthResponse a0 a1 a2) := by
  unfold execAuthResponse
  with_reducible repeat' first | assumption | apply Goes.next | apply keeps_request | apply keeps_authResponseRule

theorem keeps_authDropRule : RuleOk (authDropRule) := by
  unfold authDropRule
  with_reducible repeat'
    first
      | assumption | apply keeps_finish | apply keeps_setSess | (refine ⟨fun q m _ _ _ _ _ => ?_, fun q m _ _ _ _ => ?_⟩)

theorem keeps_execAuthDrop {a2 : State} {a0 a1} (h_a2 : Inv q m a2) : Goes q m (execAuthDrop a0 a1 a2) := by
  unfold execAuthDrop
  with_reducible repeat' first | assumption | apply Goes.next | apply keeps_request | apply keeps_authDropRule

theorem keeps_execChallengeExpiry {a1 : State} {a0} (h_a1 : Inv q m a1) : Goes q m (execChallengeExpiry a0 a1) := by
  unfold execChallengeExpiry
  with_reducible repeat' first | assumption | apply Goes.next | apply Inv.ite | apply keeps_dropChallenge | split

theorem keeps_execLockoutExpiry {a0 : State} (h_a0 : Inv q m a0) : Goes q m (execLockoutExpiry a0) := by
  unfold execLockoutExpiry
  with_reducible repeat'
    first
      | assumption | apply Goes.next | apply Inv.ite | apply keeps_setFlag | fail_if_no_progress apply Inv.mk'

theorem keeps_execLockoutTimeSave {a0 : State} (h_a0 : Inv q m a0) : Goes q m (execLockoutTimeSave a0) := by
  unfold execLockoutTimeSave
  with_reducible repeat' first | assumption | apply Goes.next | fail_if_no_progress apply Inv.mk'

theorem keeps_revoked {a0 : State} {a1 : State} {a2} (h_a0 : Inv q m a0) (h_a1 : Inv q m a1) : Inv q m (State.revoked a0 a1 a2) := by
  unfold State.revoked
  with_reducible repeat' first | assumption | apply Inv.ite | apply keeps_dropRaised | apply keeps_event

theorem keeps_keyInstallRule : RuleOk keyInstallRule := by
  unfold keyInstallRule
  with_reducible repeat'
    first
      | assumption | apply Inv.ite | apply keeps_setKeySlot | apply keeps_finish | apply keeps_revoked
      | (refine ⟨fun q m _ _ _ _ _ => ?_, fun q m _ _ _ _ => ?_⟩)

theorem keeps_execKeyInstall {a2 : State} {a0 a1} (h_a2 : Inv q m a2) : Goes q m (execKeyInstall a0 a1 a2) := by
  unfold execKeyInstall
  with_reducible repeat' first | assumption | apply Goes.next | apply keeps_request | apply keeps_keyInstallRule

theorem keeps_execKeyRevoke {a3 : State} {a0 a1 a2} (h_a3 : Inv q m a3) : Goes q m (execKeyRevoke a0 a1 a2 a3) := by
  unfold execKeyRevoke
  with_reducible repeat' first | assumption | apply Goes.next | apply keeps_request | apply keeps_keyInstallRule

theorem keeps_keyStoreClearRule : RuleOk keyStoreClearRule := by
  unfold keyStoreClearRule
  with_reducible repeat'
    first
      | assumption | apply Inv.setReg | apply Inv.setBlob | apply keeps_revoked | apply keeps_setKeySlot | apply keeps_finish
      | fail_if_no_progress apply Inv.mk' | (refine Inv.foldl (fun _ _ _ => ?_) _ ?_)
      | (refine ⟨fun q m _ _ _ _ _ => ?_, fun q m _ _ _ _ => ?_⟩)

theorem keeps_execKeyStoreClear {a2 : State} {a0 a1} (h_a2 : Inv q m a2) : Goes q m (execKeyStoreClear a0 a1 a2) := by
  unfold execKeyStoreClear
  with_reducible repeat' first | assumption | apply Goes.next | apply keeps_request | apply keeps_keyStoreClearRule

theorem keeps_fleetKeyRule : RuleOk (fleetKeyRule) := by
  unfold fleetKeyRule
  with_reducible repeat'
    first
      | assumption | apply Inv.setBlob | apply keeps_drawBytes | apply keeps_finish | apply keeps_fleetLost
      | fail_if_no_progress apply Inv.mk' | (refine ⟨fun q m _ _ _ _ _ => ?_, fun q m _ _ _ _ => ?_⟩)

theorem keeps_execFleetKeyGenerate {a2 : State} {a0 a1} (h_a2 : Inv q m a2) : Goes q m (execFleetKeyGenerate a0 a1 a2) := by
  unfold execFleetKeyGenerate
  with_reducible repeat' first | assumption | apply Goes.next | apply keeps_request | apply keeps_fleetKeyRule

theorem keeps_fleetCertRule : RuleOk (fleetCertRule) := by
  unfold fleetCertRule
  with_reducible repeat' first | assumption | intro q m _ _ | apply keeps_settingRule

theorem keeps_fleetAnchorRule : RuleOk (fleetAnchorRule) := by
  unfold fleetAnchorRule
  with_reducible repeat' first | assumption | intro q m _ _ | apply keeps_settingRule

theorem keeps_execGlitchDetected {a0 : State} (h_a0 : Inv q m a0) : Goes q m (execGlitchDetected a0) := by
  unfold execGlitchDetected
  with_reducible repeat'
    first
      | assumption | apply Goes.next | apply Inv.ite | apply Inv.setReg | apply keeps_eventKey | apply keeps_setFlag
      | fail_if_no_progress apply Inv.mk'

theorem keeps_rule21 {a0 a1} : OptRuleOk (rule21 a0 a1) := by
  unfold rule21
  with_reducible repeat'
    first
      | assumption | intro q m _ _ | apply OptRuleOk.ite | apply OptRuleOk.none | apply OptRuleOk.some
      | apply keeps_settingRule | apply keeps_challengeRule | apply keeps_authResponseRule | apply keeps_authDropRule
      | apply keeps_keyInstallRule | apply keeps_keyStoreClearRule | apply keeps_fleetKeyRule | apply keeps_fleetCertRule
      | apply keeps_fleetAnchorRule

theorem keeps_setZone {a0 : State} {a1 a2} (h_a0 : Inv q m a0) : Inv q m (State.setZone a0 a1 a2) := by
  unfold State.setZone
  with_reducible repeat' first | assumption | fail_if_no_progress apply Inv.mk'

theorem keeps_setFan {a0 : State} {a1 a2} (h_a0 : Inv q m a0) : Inv q m (State.setFan a0 a1 a2) := by
  unfold State.setFan
  with_reducible repeat' first | assumption | fail_if_no_progress apply Inv.mk'

theorem keeps_fanDc {a0 : State} {a1 a2} (h_a0 : Inv q m a0) : Inv q m (State.fanDc a0 a1 a2) := by
  unfold State.fanDc
  with_reducible repeat' first | assumption | apply Inv.ite | apply Inv.setReg | apply keeps_lsSetDuty

theorem keeps_endWindow {a0 : State} {a1} (h_a0 : Inv q m a0) : Inv q m (State.endWindow a0 a1) := by
  unfold State.endWindow
  with_reducible repeat' first | assumption | apply keeps_setFlag | apply keeps_setFan

theorem keeps_fanTry {a0 : State} {a1} (h_a0 : Inv q m a0) : Inv q m (State.fanTry a0 a1) := by
  unfold State.fanTry
  with_reducible repeat' first | assumption | apply Inv.ite | apply Inv.setReg | apply keeps_setFan | apply keeps_fanDc

theorem keeps_fanStop {a0 : State} {a1 a2} (h_a0 : Inv q m a0) : Inv q m (State.fanStop a0 a1 a2) := by
  unfold State.fanStop
  with_reducible repeat'
    first
      | assumption | apply Inv.setReg | apply keeps_endWindow | apply keeps_fanDc | apply keeps_setFlag | apply keeps_setFan

theorem keeps_fanFails {a0 : State} {a1} (h_a0 : Inv q m a0) : Inv q m (State.fanFails a0 a1) := by
  unfold State.fanFails
  with_reducible repeat'
    first
      | assumption | apply Inv.ite | apply keeps_eventKey | apply keeps_setFlag | apply keeps_fanStop

theorem keeps_fanDemandStep {a0 : State} {a1} (h_a0 : Inv q m a0) : Inv q m (State.fanDemandStep a0 a1) := by
  unfold State.fanDemandStep
  with_reducible repeat'
    first
      | assumption | apply Inv.ite | apply Inv.setReg | apply keeps_fanTry | apply keeps_fanStop | apply keeps_fanDc

theorem keeps_fanTick {a0 : State} {a1} (h_a0 : Inv q m a0) : Inv q m (State.fanTick a0 a1) := by
  unfold State.fanTick
  with_reducible repeat'
    first
      | assumption | apply Inv.ite | apply Inv.setReg | apply keeps_endWindow | apply keeps_fanStop | apply keeps_fanTry
      | apply keeps_setFan

theorem keeps_fansTick {a0 : State} (h_a0 : Inv q m a0) : Inv q m (State.fansTick a0) := by
  unfold State.fansTick
  with_reducible repeat' first | assumption | apply keeps_fanTick | (refine Inv.foldl (fun _ _ _ => ?_) _ ?_)

theorem keeps_execZoneStep {a3 : State} {a0 a1 a2} (h_a3 : Inv q m a3) : Goes q m (execZoneStep a0 a1 a2 a3) := by
  unfold execZoneStep
  with_reducible repeat'
    first
      | assumption | apply Goes.next | apply Inv.ite | apply Goes.ite | apply Inv.setReg | apply keeps_setZone
      | apply keeps_eventKey | apply keeps_setFlag | apply keeps_fanDemandStep | (refine Inv.foldl (fun _ _ _ => ?_) _ ?_)

theorem keeps_shdnCause {a0 : State} {a1 a2} (h_a0 : Inv q m a0) : Inv q m (State.shdnCause a0 a1 a2) := by
  unfold State.shdnCause
  with_reducible repeat'
    first
      | assumption | apply Inv.ite | apply Inv.setReg | apply keeps_setFlag | apply keeps_eventKey | apply keeps_bump

theorem keeps_execComparator {a1 : State} {a0} (h_a1 : Inv q m a1) : Goes q m (execComparator a0 a1) := by
  unfold execComparator
  with_reducible repeat' first | assumption | apply Goes.next | apply Goes.ite | apply keeps_shdnCause

theorem keeps_execZoneShutdown {a0 : State} (h_a0 : Inv q m a0) : Goes q m (execZoneShutdown a0) := by
  unfold execZoneShutdown
  with_reducible repeat'
    first
      | assumption | apply Goes.next | apply Goes.ite | apply keeps_setFlag | apply keeps_shdnCause
      | (refine Inv.foldl (fun _ _ _ => ?_) _ ?_)

theorem keeps_execFanStretchStart {a1 : State} {a0} (h_a1 : Inv q m a1) : Goes q m (execFanStretchStart a0 a1) := by
  unfold execFanStretchStart
  with_reducible repeat'
    first
      | assumption | apply Goes.next | apply Goes.ite | apply keeps_setFan | apply keeps_lsSetDuty | apply keeps_setFlag

theorem keeps_speedLimit {a0 : State} {a1 a2 a3} (h_a0 : Inv q m a0) : Inv q m (State.speedLimit a0 a1 a2 a3) := by
  unfold State.speedLimit
  with_reducible repeat' first | assumption | apply keeps_setFan | apply keeps_setFlag

theorem keeps_fanLoop {a0 : State} {a1 a2} (h_a0 : Inv q m a0) : Inv q m (State.fanLoop a0 a1 a2) := by
  unfold State.fanLoop
  with_reducible repeat' first | assumption | apply keeps_speedLimit | apply keeps_fanDc

theorem keeps_execFanMeasurement {a3 : State} {a0 a1 a2} (h_a3 : Inv q m a3) : Goes q m (execFanMeasurement a0 a1 a2 a3) := by
  unfold execFanMeasurement
  with_reducible repeat'
    first
      | assumption | apply Goes.next | apply Goes.ite | apply Inv.setReg | apply keeps_fanDc | apply keeps_endWindow
      | apply keeps_setFan | apply keeps_setFlag | apply keeps_fanLoop
      | (extract_lets +onlyGivenNames x; refine_lift have hx : Inv q m x := ?_; ?_; on_goal 2 => unfold x; on_goal 1 => clear_value x)
      | (extract_lets +onlyGivenNames x; clear_value x) | split

theorem keeps_execFanStartTimeout {a1 : State} {a0} (h_a1 : Inv q m a1) : Goes q m (execFanStartTimeout a0 a1) := by
  unfold execFanStartTimeout
  with_reducible repeat' first | assumption | apply Goes.next | apply Inv.ite | apply keeps_fanFails

theorem keeps_execFanRetryWaitEnd {a1 : State} {a0} (h_a1 : Inv q m a1) : Goes q m (execFanRetryWaitEnd a0 a1) := by
  unfold execFanRetryWaitEnd
  with_reducible repeat'
    first
      | assumption | apply Goes.next | apply Goes.ite | apply Inv.setReg | apply keeps_fanStop | apply keeps_fanTry

theorem keeps_execTachLost {a2 : State} {a0 a1} (h_a2 : Inv q m a2) : Goes q m (execTachLost a0 a1 a2) := by
  unfold execTachLost
  with_reducible repeat'
    first
      | assumption | apply Goes.next | apply Goes.ite | apply Inv.setReg | apply keeps_setFlag | apply keeps_eventKey
      | apply keeps_fanDc | apply keeps_fanFails

theorem keeps_fanRestartRule {a0} : RuleOk (fanRestartRule a0) := by
  unfold fanRestartRule
  with_reducible repeat'
    first
      | assumption | apply Inv.ite | apply Inv.setReg | apply keeps_fanDemandStep | apply keeps_setFlag | apply keeps_finish
      | (refine ⟨fun q m _ _ _ _ _ => ?_, fun q m _ _ _ _ => ?_⟩)

theorem keeps_execFanRestart {a3 : State} {a0 a1 a2} (h_a3 : Inv q m a3) : Goes q m (execFanRestart a0 a1 a2 a3) := by
  unfold execFanRestart
  with_reducible repeat' first | assumption | apply Goes.next | apply keeps_request | apply keeps_fanRestartRule

theorem keeps_fanStart {a0 : State} {a1} (h_a0 : Inv q m a0) : Inv q m (State.fanStart a0 a1) := by
  unfold State.fanStart
  with_reducible repeat' first | assumption | apply Inv.setReg | apply keeps_setFan | apply keeps_fanDemandStep

theorem keeps_fanEnableRule {a0} : RuleOk (fanEnableRule a0) := by
  unfold fanEnableRule
  with_reducible repeat'
    first
      | assumption | apply Inv.ite | apply Inv.setReg | apply keeps_putEntry | apply keeps_fanStart | apply keeps_fanStop
      | apply keeps_finish | (refine ⟨fun q m _ _ _ _ _ => ?_, fun q m _ _ _ _ => ?_⟩)

theorem keeps_execFanEnable {a3 : State} {a0 a1 a2} (h_a3 : Inv q m a3) : Goes q m (execFanEnable a0 a1 a2 a3) := by
  unfold execFanEnable
  with_reducible repeat' first | assumption | apply Goes.next | apply keeps_request | apply keeps_fanEnableRule

theorem keeps_zoneEnableRule {a0} : RuleOk (zoneEnableRule a0) := by
  unfold zoneEnableRule
  with_reducible repeat'
    first
      | assumption | apply Inv.ite | apply Inv.setReg | apply keeps_putEntry | apply keeps_setZone | apply keeps_fanDemandStep
      | apply keeps_finish | (refine Inv.foldl (fun _ _ _ => ?_) _ ?_) | (refine ⟨fun q m _ _ _ _ _ => ?_, fun q m _ _ _ _ => ?_⟩)

theorem keeps_rule19 {a0 a1} : OptRuleOk (rule19 a0 a1) := by
  unfold rule19
  with_reducible repeat'
    first
      | assumption | intro q m _ _ | apply OptRuleOk.ite | apply OptRuleOk.none | apply OptRuleOk.some
      | apply keeps_zoneEnableRule | apply keeps_settingRule | apply keeps_fanEnableRule | apply keeps_fanRestartRule
      | apply keeps_lockedRule

theorem keeps_allSafeOff {a0 : State} (h_a0 : Inv q m a0) : Inv q m (State.allSafeOff a0) := by
  unfold State.allSafeOff
  with_reducible repeat'
    first
      | assumption | apply keeps_setFlag | apply keeps_panelDown | apply keeps_loadsSafeOff | apply keeps_banksSafeOff

theorem keeps_checkpoints {a0 : State} (h_a0 : Inv q m a0) : Inv q m (State.checkpoints a0) := by
  unfold State.checkpoints
  with_reducible repeat' first | assumption | fail_if_no_progress apply Inv.mk'

theorem keeps_shutdownRecords {a0 : State} {a1 a2} (h_a0 : Inv q m a0) : Inv q m (State.shutdownRecords a0 a1 a2) := by
  unfold State.shutdownRecords
  with_reducible repeat'
    first
      | assumption | apply Inv.ite | apply keeps_admitOffers | apply keeps_offer | apply keeps_tagContent
      | fail_if_no_progress apply Inv.mk'

theorem keeps_shutdownMark {a0 : State} {a1} (h_a0 : Inv q m a0) : Inv q m (State.shutdownMark a0 a1) := by
  unfold State.shutdownMark
  with_reducible repeat' first | assumption | apply keeps_jwrite

theorem keeps_shdnHeld {a0 : State} (h_a0 : Inv q m a0) : Inv q m (State.shdnHeld a0) := by
  unfold State.shdnHeld
  with_reducible repeat' first | assumption | apply Inv.setReg

theorem keeps_logicOff {a0 : State} {a1 a2} (h_a0 : Inv q m a0) : Inv q m (State.logicOff a0 a1 a2) := by
  unfold State.logicOff
  with_reducible repeat' first | assumption | apply keeps_shdnHeld | fail_if_no_progress apply Inv.mk'

theorem keeps_resetSafeOff {a0 : State} (h_a0 : Inv q m a0) : Inv q m (State.resetSafeOff a0) := by
  unfold State.resetSafeOff
  with_reducible repeat' first | assumption | apply keeps_allSafeOff | fail_if_no_progress apply Inv.mk'

theorem keeps_flush {a0 : State} {a1 a2} (h_a0 : Inv q m a0) : Inv q m (State.flush a0 a1 a2) := by
  unfold State.flush
  with_reducible repeat'
    first
      | assumption | apply Inv.setReg | apply keeps_completeAllowed | apply keeps_checkpoints | apply keeps_resetSafeOff
      | apply keeps_shutdownMark | apply keeps_shutdownRecords | fail_if_no_progress apply Inv.mk'

theorem keeps_commandedReset {a0 : State} {a1} (h_a0 : Inv q m a0) : Inv q m (State.commandedReset a0 a1) := by
  unfold State.commandedReset
  with_reducible repeat' first | assumption | apply keeps_logicOff | apply keeps_flush

theorem keeps_enterStandby {a0 : State} (h_a0 : Inv q m a0) : Inv q m (State.enterStandby a0) := by
  unfold State.enterStandby
  with_reducible repeat'
    first
      | assumption | apply Inv.setReg | apply keeps_endCues | apply keeps_finishAll | apply keeps_allSafeOff
      | apply keeps_completeAllowed | apply keeps_shutdownMark | apply keeps_shutdownRecords | apply keeps_logicOff

theorem keeps_supplyRead {a0 : State} {a1} (h_a0 : Inv q m a0) : Inv q m (State.supplyRead a0 a1) := by
  unfold State.supplyRead
  with_reducible repeat' first | assumption | apply Inv.setReg

theorem keeps_execLogicSupplyLow {a1 : State} {a0} (h_a1 : Inv q m a1) : Goes q m (execLogicSupplyLow a0 a1) := by
  unfold execLogicSupplyLow
  with_reducible repeat'
    first
      | assumption | apply Goes.next | apply Inv.ite | apply Goes.ite | apply keeps_supplyRead | apply keeps_setFlag

theorem keeps_execHoldupActive {a1 : State} {a0} (h_a1 : Inv q m a1) : Goes q m (execHoldupActive a0 a1) := by
  unfold execHoldupActive
  with_reducible repeat'
    first
      | assumption | apply Goes.next | apply Goes.ite | apply keeps_setFlag | apply keeps_supplyRead
      | fail_if_no_progress apply Inv.mk'

theorem keeps_execHoldupEnd {a1 : State} {a0} (h_a1 : Inv q m a1) : Goes q m (execHoldupEnd a0 a1) := by
  unfold execHoldupEnd
  with_reducible repeat'
    first
      | assumption | apply Goes.next | apply Goes.ite | apply keeps_supplyRead | apply keeps_setFlag
      | fail_if_no_progress apply Inv.mk'

theorem keeps_execBrownout {a2 : State} {a0 a1} (h_a2 : Inv q m a2) : Goes q m (execBrownout a0 a1 a2) := by
  unfold execBrownout
  with_reducible repeat'
    first
      | assumption | apply Goes.next | apply Inv.ite | apply Goes.ite | apply Inv.setReg | apply keeps_logicOff | apply keeps_bump
      | apply keeps_resetSafeOff | apply keeps_flush

theorem keeps_execOvervoltage {a2 : State} {a0 a1} (h_a2 : Inv q m a2) : Goes q m (execOvervoltage a0 a1 a2) := by
  unfold execOvervoltage
  with_reducible repeat'
    first
      | assumption | apply Goes.next | apply Goes.ite | apply keeps_setFlag | apply keeps_supplyRead | apply keeps_bump
      | apply keeps_loadsSafeOff | apply keeps_banksSafeOff | apply keeps_eventKey

theorem keeps_execOvervoltageClear {a2 : State} {a0 a1} (h_a2 : Inv q m a2) : Goes q m (execOvervoltageClear a0 a1 a2) := by
  unfold execOvervoltageClear
  with_reducible repeat'
    first
      | assumption | apply Goes.next | apply Goes.ite | apply Inv.setReg | apply keeps_setFlag | apply keeps_supplyRead
      | apply keeps_loadsReturn

theorem keeps_execWakePin {a2 : State} {a0 a1} (h_a2 : Inv q m a2) : Goes q m (execWakePin a0 a1 a2) := by
  unfold execWakePin
  with_reducible repeat'
    first
      | assumption | apply Goes.next | apply Inv.ite | apply Goes.ite | apply Inv.setReg | apply keeps_setFlag
      | fail_if_no_progress apply Inv.mk'

theorem keeps_execWakeOffDelay {a0 : State} (h_a0 : Inv q m a0) : Goes q m (execWakeOffDelay a0) := by
  unfold execWakeOffDelay
  with_reducible repeat'
    first
      | assumption | apply Goes.next | apply Goes.ite | apply Inv.setReg | fail_if_no_progress apply Inv.mk'

theorem keeps_execStandbyEntryWaitEnd {a0 : State} (h_a0 : Inv q m a0) : Goes q m (execStandbyEntryWaitEnd a0) := by
  unfold execStandbyEntryWaitEnd
  with_reducible repeat' first | assumption | apply Goes.next | apply Goes.ite | apply keeps_enterStandby

theorem keeps_wakeBy {a0 : State} {a1 a2} (h_a0 : Inv q m a0) : Inv q m (State.wakeBy a0 a1 a2) := by
  unfold State.wakeBy
  with_reducible repeat' first | assumption | fail_if_no_progress apply Inv.mk'

theorem keeps_execCanWake {a2 : State} {a0 a1} (h_a2 : Inv q m a2) : Goes q m (execCanWake a0 a1 a2) := by
  unfold execCanWake
  with_reducible repeat' first | assumption | apply Goes.next | apply Inv.ite | apply Goes.ite | apply keeps_wakeBy | split

theorem keeps_watchdogReset {a0 : State} (h_a0 : Inv q m a0) : Inv q m (State.watchdogReset a0) := by
  unfold State.watchdogReset
  with_reducible repeat' first | assumption | apply Inv.setReg | apply keeps_logicOff | apply keeps_resetSafeOff

theorem keeps_execWatchdog {a0 : State} (h_a0 : Inv q m a0) : Goes q m (execWatchdog a0) := by
  unfold execWatchdog
  with_reducible repeat' first | assumption | apply Goes.next | apply Inv.ite | apply keeps_watchdogReset

theorem keeps_moduleResetRule : RuleOk (moduleResetRule) := by
  unfold moduleResetRule
  with_reducible repeat'
    first
      | assumption | apply keeps_commandedReset | apply keeps_finish
      | (refine ⟨fun q m _ _ _ _ _ => ?_, fun q m _ _ _ _ => ?_⟩)

theorem keeps_execModuleReset {a2 : State} {a0 a1} (h_a2 : Inv q m a2) : Goes q m (execModuleReset a0 a1 a2) := by
  unfold execModuleReset
  with_reducible repeat' first | assumption | apply Goes.next | apply keeps_request | apply keeps_moduleResetRule

theorem keeps_rule20 {a0 a1} : OptRuleOk (rule20 a0 a1) := by
  unfold rule20
  with_reducible repeat'
    first
      | assumption | intro q m _ _ | apply OptRuleOk.ite | apply OptRuleOk.none | apply OptRuleOk.some
      | apply keeps_settingRule | apply keeps_moduleResetRule

theorem keeps_activationCancel {a0 : State} (h_a0 : Inv q m a0) : Inv q m (State.activationCancel a0) := by
  unfold State.activationCancel
  with_reducible repeat' first | assumption | apply Inv.ite | apply Inv.setReg

theorem keeps_firmwareActivateRule : RuleOk (firmwareActivateRule) := by
  unfold firmwareActivateRule
  with_reducible repeat'
    first
      | assumption | apply Inv.ite | apply Inv.setReg | apply keeps_finish | apply keeps_activationCancel
      | apply keeps_commandedReset | apply keeps_yieldAll | (refine ⟨fun q m _ _ _ _ _ => ?_, fun q m _ _ _ _ => ?_⟩)

theorem keeps_execCancel {a1 : State} {a0} (h_a1 : Inv q m a1) : Goes q m (execCancel a0 a1) := by
  unfold execCancel
  with_reducible repeat' first | assumption | apply Goes.next | apply keeps_request | apply keeps_firmwareActivateRule

theorem keeps_execNextStart {a1 : State} {a0} (h_a1 : Inv q m a1) : Goes q m (execNextStart a0 a1) := by
  unfold execNextStart
  with_reducible repeat' first | assumption | apply Goes.next | apply keeps_request | apply keeps_firmwareActivateRule

theorem keeps_execImmediate {a1 : State} {a0} (h_a1 : Inv q m a1) : Goes q m (execImmediate a0 a1) := by
  unfold execImmediate
  with_reducible repeat' first | assumption | apply Goes.next | apply keeps_request | apply keeps_firmwareActivateRule

theorem keeps_firmwareConfirmRule : RuleOk (firmwareConfirmRule) := by
  unfold firmwareConfirmRule
  with_reducible repeat'
    first
      | assumption | apply Inv.setReg | apply keeps_finish | fail_if_no_progress apply Inv.mk'
      | (refine ⟨fun q m _ _ _ _ _ => ?_, fun q m _ _ _ _ => ?_⟩)

theorem keeps_execFirmwareConfirm {a2 : State} {a0 a1} (h_a2 : Inv q m a2) : Goes q m (execFirmwareConfirm a0 a1 a2) := by
  unfold execFirmwareConfirm
  with_reducible repeat' first | assumption | apply Goes.next | apply keeps_request | apply keeps_firmwareConfirmRule

theorem keeps_ruleFirmware {a0} : OptRuleOk (ruleFirmware a0) := by
  unfold ruleFirmware
  with_reducible repeat'
    first
      | apply OptRuleOk.ite | apply OptRuleOk.none | apply OptRuleOk.some | apply keeps_firmwareActivateRule
      | apply keeps_firmwareConfirmRule

end Sys2Proof.Laws
end

