-- ==== Sys2Proof/Laws/KeepsAccess.lean ====
section
/-!
SUPPORT. What the dictionary's transports, the start-up and the clock keep (`Inv`), one lemma for each definition.
-/
namespace Sys2Proof.Laws
open Sys2Proof Sys2Proof.Machine

variable {q : List Instr} {m : Nat}

theorem keeps_chapterRule {a0 a1} : OptRuleOk (chapterRule a0 a1) := by
  unfold chapterRule
  with_reducible repeat'
    first
      | apply OptRuleOk.ite | apply OptRuleOk.none | apply OptRuleOk.some | apply keeps_rule20 | apply keeps_rule21
      | apply keeps_rule16 | apply keeps_rule04 | apply keeps_rule05 | apply keeps_rule06 | apply keeps_rule07
      | apply keeps_rule08 | apply keeps_rule09 | apply keeps_rule10 | apply keeps_rule11 | apply keeps_rule19
      | apply keeps_rule12 | apply keeps_ruleFirmware | apply keeps_rule13 | apply keeps_rule14 | apply keeps_rule15
      | apply keeps_rule17 | apply keeps_rule18 | refine OptRuleOk.get ?_ (by assumption) | split

theorem keeps_applyEntry {a0 : State} {a1 a2 a3 a4} (h_a0 : Inv q m a0) (h_a4 : RuleOk a4) : Inv q m (State.applyEntry a0 a1 a2 a3 a4).1 := by
  unfold State.applyEntry
  with_reducible repeat'
    first
      | assumption | apply h_a4.effect
      | (extract_lets +onlyGivenNames x; refine_lift have hx : Inv q m x := ?_; ?_; on_goal 2 => unfold x; on_goal 1 => clear_value x)
      | split

theorem keeps_applyEntries {s : State} {slot seq} {l : List ((Nat × Nat) × (Bytes × WriteRule))} (h : Inv q m s)
    (hl : ∀ p ∈ l, RuleOk p.2.2) : Inv q m (s.applyEntries slot seq l) := by
  have hx := Inv.foldl_fst_mem (q := q) (m := m) (p := (s, false)) (f := fun (x : State × Bool) (p : (Nat × Nat) × (Bytes × WriteRule)) =>
    let y := x.1.applyEntry slot seq p.2.1 p.2.2
    (y.1, x.2 || y.2)) l.reverse (fun x p hp hx => keeps_applyEntry hx (hl p (List.mem_reverse.1 hp))) h
  unfold State.applyEntries
  extract_lets x
  split
  · exact hx
  · exact keeps_finish hx

theorem keeps_interfaceRule {a0 a1} : RuleOk (interfaceRule a0 a1) := by
  unfold interfaceRule
  with_reducible repeat'
    first
      | assumption | apply keeps_startItem | fail_if_no_progress apply Inv.mk'
      | (refine ⟨fun q m _ _ _ _ _ => ?_, fun q m _ _ _ _ => ?_⟩)

theorem keeps_settingOf {a0 a1} : RuleOk (settingOf a0 a1) := by
  unfold settingOf
  with_reducible repeat'
    first
      | assumption | intro q m _ _ | apply RuleOk.ite | apply keeps_interfaceRule | apply keeps_chapterRule
      | apply keeps_settingRule | refine OptRuleOk.get ?_ (by assumption)
      | (refine ⟨fun q m _ _ _ _ _ => ?_, fun q m _ _ _ _ => ?_⟩) | split | refine RuleOk.effect ?_ _ _ _ _ _ _ ?_
      | refine RuleOk.refused ?_ _ _ _ _ _ ?_

theorem keeps_restoredBy {a0 a1} : RuleOk (restoredBy a0 a1) := by
  unfold restoredBy
  split
  · exact ⟨fun q m _ _ _ _ h => keeps_settle h, (keeps_settingOf (a0 := a0) (a1 := a1)).refused⟩
  · exact keeps_settingOf

theorem restoreList_rules (s : State) (slot v : Nat) : ∀ p ∈ s.restoreList slot v, RuleOk p.2.2 := by
  intro p hp
  unfold State.restoreList at hp
  split at hp
  · cases hp
  · obtain ⟨k, -, hk⟩ := List.mem_filterMap.1 hp
    dsimp only at hk
    split at hk
    · cases hk
    · split at hk
      · split at hk
        · cases hk
          exact keeps_restoredBy
        · cases hk
      · cases hk

theorem keeps_restoreRule : RuleOk restoreRule :=
  ⟨fun _ _ s slot _ d h => keeps_applyEntries h (restoreList_rules s slot (wval d)), fun _ _ _ _ _ h => h⟩

theorem keeps_ruleOf {a0 a1} : RuleOk (ruleOf a0 a1) := by
  unfold ruleOf
  with_reducible repeat' first | assumption | apply RuleOk.ite | apply keeps_restoreRule | apply keeps_settingOf

theorem keeps_execRestoreDefaults {a2 : State} {a0 a1} (h_a2 : Inv q m a2) : Goes q m (execRestoreDefaults a0 a1 a2) := by
  unfold execRestoreDefaults
  with_reducible repeat' first | assumption | apply Goes.next | apply keeps_request | apply keeps_restoreRule

theorem keeps_execEntryWrite {a4 : State} {a0 a1 a2 a3} (h_a4 : Inv q m a4) : Goes q m (execEntryWrite a0 a1 a2 a3 a4) := by
  unfold execEntryWrite
  with_reducible repeat' first | assumption | apply Goes.next | apply keeps_request | apply keeps_ruleOf

theorem keeps_acceptComplete {s : State} {slot idx} {d : Bytes} (h : Inv q m s) : Inv q m (s.acceptComplete slot idx d) := by
  unfold State.acceptComplete
  extract_lets v seq aim acc s1 x s2
  refine keeps_applyEntries (keeps_setSess (keeps_accept h)) fun p hp => ?_
  obtain ⟨e, -, rfl⟩ := List.mem_map.1 hp
  exact keeps_ruleOf

theorem keeps_submitAny {a0 : State} {a1 a2 a3 a4 a5 a6} (h_a0 : Inv q m a0) : Inv q m (State.submitAny a0 a1 a2 a3 a4 a5 a6).1 := by
  unfold State.submitAny
  with_reducible repeat'
    first
      | assumption | apply keeps_refuse | apply keeps_ruleOf | apply keeps_acceptComplete | apply keeps_submit
      | (extract_lets +onlyGivenNames x; clear_value x) | split

theorem keeps_sdoAbortFrame {a0 : State} {a1 a2 a3 a4} (h_a0 : Inv q m a0) : Inv q m (State.sdoAbortFrame a0 a1 a2 a3 a4) := by
  unfold State.sdoAbortFrame
  with_reducible repeat' first | assumption | fail_if_no_progress apply Inv.mk'

theorem keeps_sdoAbort {a0 : State} {a1 a2} (h_a0 : Inv q m a0) : Inv q m (State.sdoAbort a0 a1 a2) := by
  unfold State.sdoAbort
  with_reducible repeat' first | assumption | apply keeps_sdoAbortFrame | apply keeps_bump | apply keeps_setSdo

theorem keeps_sdoAffected {a0 : State} {a1} (h_a0 : Inv q m a0) : Inv q m (State.sdoAffected a0 a1) := by
  unfold State.sdoAffected
  with_reducible repeat'
    first
      | assumption | apply Inv.ite | apply keeps_sdoAbort | (refine Inv.foldl (fun _ _ _ => ?_) _ ?_)

theorem keeps_closeUdp {a0 : State} (h_a0 : Inv q m a0) : Inv q m (State.closeUdp a0) := by
  unfold State.closeUdp
  with_reducible repeat'
    first
      | assumption | apply Inv.ite | apply keeps_closeSession | (refine Inv.foldl (fun _ _ _ => ?_) _ ?_)

theorem keeps_idleEnd {a0 : State} {a1} (h_a0 : Inv q m a0) : Inv q m (State.idleEnd a0 a1) := by
  unfold State.idleEnd
  with_reducible repeat'
    first
      | assumption | apply Inv.ite | apply keeps_bump | apply keeps_closeSession | apply keeps_setSess

theorem keeps_syncAllSdo {a0 : State} (h_a0 : Inv q m a0) : Inv q m (State.syncAllSdo a0) := by
  unfold State.syncAllSdo
  with_reducible repeat' first | assumption | apply keeps_syncSdo | (refine Inv.foldl (fun _ _ _ => ?_) _ ?_)

theorem keeps_applyInterface {a0 : State} {a1 a2} (h_a0 : Inv q m a0) : Inv q m (State.applyInterface a0 a1 a2) := by
  unfold State.applyInterface
  with_reducible repeat'
    first
      | assumption | apply Inv.ite | apply Inv.setReg | apply keeps_closeUdp | apply keeps_idleEnd | apply keeps_syncAllSdo
      | apply keeps_sdoAffected | (refine Inv.foldl (fun _ _ _ => ?_) _ ?_)

theorem keeps_execInterfaceSettingsChange {a0 : State} (h_a0 : Inv q m a0) : Goes q m (execInterfaceSettingsChange a0) := by
  unfold execInterfaceSettingsChange
  with_reducible repeat'
    first
      | assumption | apply Goes.next | apply keeps_finish | apply keeps_applyInterface | fail_if_no_progress apply Inv.mk'
      | (refine Inv.foldl (fun _ _ _ => ?_) _ ?_)

theorem keeps_execSessionIdleTimeout {a1 : State} {a0} (h_a1 : Inv q m a1) : Goes q m (execSessionIdleTimeout a0 a1) := by
  unfold execSessionIdleTimeout
  with_reducible repeat' first | assumption | apply Goes.next | apply Inv.ite | apply keeps_idleEnd

theorem keeps_execSdoServerEnableChange {a1 : State} {a0} (h_a1 : Inv q m a1) : Goes q m (execSdoServerEnableChange a0 a1) := by
  unfold execSdoServerEnableChange
  with_reducible repeat' first | assumption | apply Goes.next | apply Inv.ite | apply keeps_syncSdo

theorem keeps_execCompletionRecordWrite {a0 : State} (h_a0 : Inv q m a0) : Goes q m (execCompletionRecordWrite a0) := by
  unfold execCompletionRecordWrite
  with_reducible repeat' first | assumption | apply Goes.next | apply keeps_completeAllowed

theorem keeps_forceDisable {a0 : State} {a1} (h_a0 : Inv q m a0) : Inv q m (State.forceDisable a0 a1) := by
  unfold State.forceDisable
  with_reducible repeat'
    first
      | assumption | apply Inv.ite | apply keeps_svToEnd | apply keeps_svDisableDone | apply keeps_ctxHandOver
      | apply keeps_sensorOff | apply keeps_endDisable

theorem keeps_execFunctionDisableSafePoint {a0 : State} (h_a0 : Inv q m a0) : Goes q m (execFunctionDisableSafePoint a0) := by
  unfold execFunctionDisableSafePoint
  with_reducible repeat'
    first
      | assumption | apply Goes.next | apply keeps_forceDisable | (refine Inv.foldl (fun _ _ _ => ?_) _ ?_)

theorem keeps_execMramCopyFailure {a1 : State} {a0} (h_a1 : Inv q m a1) : Goes q m (execMramCopyFailure a0 a1) := by
  unfold execMramCopyFailure
  with_reducible repeat'
    first
      | assumption | apply Goes.next | apply Inv.ite | apply Goes.ite | apply Inv.setReg | apply keeps_spareFlag
      | apply keeps_eventKey | fail_if_no_progress apply Inv.mk'

theorem keeps_execLockstepCoreFailure {a0 : State} (h_a0 : Inv q m a0) : Goes q m (execLockstepCoreFailure a0) := by
  unfold execLockstepCoreFailure
  with_reducible repeat'
    first
      | assumption | apply Goes.next | apply Inv.ite | apply Goes.ite | apply Inv.setReg | apply keeps_bump
      | apply keeps_spareFlag | apply keeps_eventKey | apply keeps_sdoAbort | apply keeps_watchdogReset
      | (refine Inv.foldl (fun _ _ _ => ?_) _ ?_)

theorem keeps_sendReply {a0 : State} {a1 a2} (h_a0 : Inv q m a0) : Inv q m (State.sendReply a0 a1 a2) := by
  unfold State.sendReply
  with_reducible repeat' first | assumption | apply Inv.ite | apply keeps_setSess | fail_if_no_progress apply Inv.mk' | split

theorem keeps_UdpReq_rule {a0} : RuleOk (UdpReq.rule a0) := by
  unfold UdpReq.rule
  with_reducible repeat'
    first
      | assumption | apply RuleOk.ite | apply keeps_ruleOf | (refine ⟨fun q m _ _ _ _ _ => ?_, fun q m _ _ _ _ => ?_⟩)

theorem keeps_udpRefuse {a0 : State} {a1 a2 a3 a4} (h_a0 : Inv q m a0) : Inv q m (State.udpRefuse a0 a1 a2 a3 a4) := by
  unfold State.udpRefuse
  with_reducible repeat' first | assumption | apply keeps_sendReply | apply keeps_refuse | apply keeps_UdpReq_rule

theorem keeps_udpNo {a0 : State} {a1 a2} (h_a0 : Inv q m a0) : Inv q m (State.udpNo a0 a1 a2) := by
  unfold State.udpNo
  with_reducible repeat' first | assumption | apply keeps_sendReply | apply keeps_bump

theorem keeps_inSession {a0 : State} {a1 a2 a3 a4 a5} (h_a0 : Inv q m a0) (h_a5 : ∀ q m x n, Inv q m x → Inv q m (a5 x n)) : Inv q m (State.inSession a0 a1 a2 a3 a4 a5) := by
  unfold State.inSession
  with_reducible repeat'
    first
      | assumption | apply Inv.ite | apply keeps_udpNo | apply keeps_setSess | apply keeps_udpRefuse | apply keeps_bump
      | apply keeps_dropTransfer | apply h_a5 | fail_if_no_progress apply Inv.mk' | split

theorem keeps_udpOpen {a0 : State} {a1} (h_a0 : Inv q m a0) : Inv q m (State.udpOpen a0 a1) := by
  unfold State.udpOpen
  with_reducible repeat'
    first
      | assumption | apply Inv.ite | apply keeps_udpNo | apply keeps_bump | apply keeps_closeSession | apply keeps_openSession
      | apply keeps_sendReply | (refine Inv.foldl (fun _ _ _ => ?_) _ ?_)
      | (extract_lets +onlyGivenNames x; refine_lift have hx : Inv q m x := ?_; ?_; on_goal 2 => unfold x; on_goal 1 => clear_value x)
      | (extract_lets +onlyGivenNames x; clear_value x) | split

theorem keeps_fleetOpen {a0 : State} {a1} (h_a0 : Inv q m a0) : Inv q m (State.fleetOpen a0 a1) := by
  unfold State.fleetOpen
  with_reducible repeat'
    first
      | assumption | apply Inv.ite | apply keeps_udpNo | apply keeps_bump | apply keeps_setSess | apply keeps_sendReply

theorem keeps_udpChunk {a0 : State} {a1 a2 a3} (h_a0 : Inv q m a0) : Inv q m (State.udpChunk a0 a1 a2 a3) := by
  unfold State.udpChunk
  with_reducible repeat'
    first
      | assumption | apply Inv.ite | apply keeps_udpRefuse | apply keeps_dropTransfer | apply keeps_setSess
      | apply keeps_sendReply

theorem keeps_udpRead {a0 : State} {a1 a2} (h_a0 : Inv q m a0) : Inv q m (State.udpRead a0 a1 a2) := by
  unfold State.udpRead
  with_reducible repeat'
    first
      | assumption | apply Inv.ite | apply keeps_udpRefuse | apply keeps_dropTransfer | apply keeps_udpChunk
      | (extract_lets +onlyGivenNames x; refine_lift have hx : Inv q m x := ?_; ?_; on_goal 2 => unfold x; on_goal 1 => clear_value x)
      | split

theorem keeps_udpWhole {a0 : State} {a1 a2 a3} (h_a0 : Inv q m a0) : Inv q m (State.udpWhole a0 a1 a2 a3) := by
  unfold State.udpWhole
  with_reducible repeat' first | assumption | apply keeps_dropTransfer | apply keeps_submitAny | apply keeps_sendReply

theorem keeps_udpWrite {a0 : State} {a1 a2} (h_a0 : Inv q m a0) : Inv q m (State.udpWrite a0 a1 a2) := by
  unfold State.udpWrite
  with_reducible repeat'
    first
      | assumption | apply Inv.ite | apply keeps_dropTransfer | apply keeps_udpRefuse | apply keeps_udpWhole | apply keeps_setSess
      | apply keeps_sendReply
      | (extract_lets +onlyGivenNames x; refine_lift have hx : Inv q m x := ?_; ?_; on_goal 2 => unfold x; on_goal 1 => clear_value x)
      | (extract_lets +onlyGivenNames x; clear_value x) | split

theorem keeps_udpDescribe {a0 : State} {a1 a2} (h_a0 : Inv q m a0) : Inv q m (State.udpDescribe a0 a1 a2) := by
  unfold State.udpDescribe
  with_reducible repeat'
    first
      | assumption | apply Inv.ite | apply keeps_udpRefuse | apply keeps_sendReply
      | (extract_lets +onlyGivenNames x; clear_value x) | split

theorem keeps_udpOp {a0 : State} {a1 a2 a3} (h_a0 : Inv q m a0) : Inv q m (State.udpOp a0 a1 a2 a3) := by
  unfold State.udpOp
  with_reducible repeat'
    first
      | assumption | intro q m _ _ | intro _ | apply Inv.ite | apply keeps_fleetOpen | apply keeps_udpOpen
      | apply keeps_inSession | apply keeps_sendReply | apply keeps_closeSession | apply keeps_udpRead | apply keeps_udpWrite
      | apply keeps_udpDescribe | apply keeps_dropTransfer

theorem keeps_udpFrame {a0 : State} {a1 a2 a3 a4} (h_a0 : Inv q m a0) : Inv q m (State.udpFrame a0 a1 a2 a3 a4) := by
  unfold State.udpFrame
  with_reducible repeat' first | assumption | apply Inv.ite | apply keeps_bump | apply keeps_udpNo | apply keeps_udpOp

theorem keeps_udpRow {a0 : State} {a1 a2 a3 a4} (h_a0 : Inv q m a0) : Inv q m (State.udpRow a0 a1 a2 a3 a4) := by
  unfold State.udpRow
  with_reducible repeat' first | assumption | apply Inv.ite | apply keeps_udpFrame

theorem keeps_execOpenSession {a3 : State} {a0 a1 a2} (h_a3 : Inv q m a3) : Goes q m (execOpenSession a0 a1 a2 a3) := by
  unfold execOpenSession
  with_reducible repeat' first | assumption | apply Goes.next | apply keeps_udpRow

theorem keeps_execCloseSession {a3 : State} {a0 a1 a2} (h_a3 : Inv q m a3) : Goes q m (execCloseSession a0 a1 a2 a3) := by
  unfold execCloseSession
  with_reducible repeat' first | assumption | apply Goes.next | apply keeps_udpRow

theorem keeps_execKeepalive {a3 : State} {a0 a1 a2} (h_a3 : Inv q m a3) : Goes q m (execKeepalive a0 a1 a2 a3) := by
  unfold execKeepalive
  with_reducible repeat' first | assumption | apply Goes.next | apply keeps_udpRow

theorem keeps_execRead {a3 : State} {a0 a1 a2} (h_a3 : Inv q m a3) : Goes q m (execRead a0 a1 a2 a3) := by
  unfold execRead
  with_reducible repeat' first | assumption | apply Goes.next | apply keeps_udpRow

theorem keeps_execWrite {a3 : State} {a0 a1 a2} (h_a3 : Inv q m a3) : Goes q m (execWrite a0 a1 a2 a3) := by
  unfold execWrite
  with_reducible repeat' first | assumption | apply Goes.next | apply keeps_udpRow

theorem keeps_execDescribe {a3 : State} {a0 a1 a2} (h_a3 : Inv q m a3) : Goes q m (execDescribe a0 a1 a2 a3) := by
  unfold execDescribe
  with_reducible repeat' first | assumption | apply Goes.next | apply keeps_udpRow

theorem keeps_execAbort {a3 : State} {a0 a1 a2} (h_a3 : Inv q m a3) : Goes q m (execAbort a0 a1 a2 a3) := by
  unfold execAbort
  with_reducible repeat' first | assumption | apply Goes.next | apply keeps_udpRow

theorem keeps_execDictReq {a1 : State} {a0} (h_a1 : Inv q m a1) : Goes q m (execDictReq a0 a1) := by
  unfold execDictReq
  with_reducible repeat'
    first
      | assumption | apply Goes.next | apply Goes.ite | apply keeps_udpFrame | apply keeps_publish
      | fail_if_no_progress apply Inv.mk'
      | (extract_lets +onlyGivenNames x; refine_lift have hx : Inv q m x := ?_; ?_; on_goal 2 => unfold x; on_goal 1 => clear_value x)
      | (extract_lets +onlyGivenNames x; clear_value x) | split

theorem keeps_sdoSend {a0 : State} {a1 a2} (h_a0 : Inv q m a0) : Inv q m (State.sdoSend a0 a1 a2) := by
  unfold State.sdoSend
  with_reducible repeat' first | assumption | fail_if_no_progress apply Inv.mk'

theorem keeps_sdoRefuse {a0 : State} {a1 a2 a3 a4 a5} (h_a0 : Inv q m a0) (h_a4 : RuleOk a4) : Inv q m (State.sdoRefuse a0 a1 a2 a3 a4 a5) := by
  unfold State.sdoRefuse
  with_reducible repeat' first | assumption | apply keeps_sdoAbortFrame | apply keeps_refuse | apply keeps_setSdo

theorem keeps_sdoRule {a0 a1 a2} : RuleOk (sdoRule a0 a1 a2) := by
  unfold sdoRule
  with_reducible repeat' apply keeps_ruleOf

theorem keeps_sdoExpeditedDomain {a0 : State} {a1 a2 a3 a4} (h_a0 : Inv q m a0) :
    Inv q m (State.sdoExpeditedDomain a0 a1 a2 a3 a4) :=
  keeps_sdoRefuse h_a0 keeps_sdoRule

theorem keeps_sdoBusy {a0 : State} {a1 a2 a3 a4} (h_a0 : Inv q m a0) (h_a4 : RuleOk a4) : Inv q m (State.sdoBusy a0 a1 a2 a3 a4) := by
  unfold State.sdoBusy
  with_reducible repeat' first | assumption | apply keeps_sdoRefuse | apply keeps_bump

theorem keeps_sdoHeard {a0 : State} {a1} (h_a0 : Inv q m a0) : Inv q m (State.sdoHeard a0 a1) := by
  unfold State.sdoHeard
  with_reducible repeat' first | assumption | apply Inv.ite | apply keeps_setSess | apply keeps_setSdo

theorem keeps_sdoBad {a0 : State} {a1} (h_a0 : Inv q m a0) : Inv q m (State.sdoBad a0 a1) := by
  unfold State.sdoBad
  with_reducible repeat' first | assumption | apply keeps_sdoAbort

theorem keeps_sdoWhole {a0 : State} {a1 a2 a3 a4} (h_a0 : Inv q m a0) : Inv q m (State.sdoWhole a0 a1 a2 a3 a4) := by
  unfold State.sdoWhole
  with_reducible repeat'
    first
      | assumption | apply Inv.ite | apply keeps_setSdo | apply keeps_submitAny | apply keeps_sdoSend | apply keeps_sdoAbortFrame

theorem keeps_sdoDownBegin {a0 : State} {a1 a2 a3} (h_a0 : Inv q m a0) : Inv q m (State.sdoDownBegin a0 a1 a2 a3) := by
  unfold State.sdoDownBegin
  split
  · exact keeps_sdoRefuse h_a0 keeps_sdoRule
  · refine Inv.ite (keeps_sdoRefuse h_a0 keeps_sdoRule) (Inv.ite (keeps_sdoRefuse h_a0 keeps_sdoRule) ?_)
    exact keeps_sdoSend (keeps_setSdo h_a0)

theorem keeps_execSdoInitiateDownload {a2 : State} {a0 a1} (h_a2 : Inv q m a2) : Goes q m (execSdoInitiateDownload a0 a1 a2) := by
  have h := keeps_sdoHeard (a1 := a0.val) h_a2
  unfold execSdoInitiateDownload
  refine Goes.ite h_a2 (Goes.ite (keeps_sdoBad h) ?_)
  refine Goes.ite (keeps_sdoBusy h keeps_sdoRule) (Goes.ite (keeps_sdoDownBegin h) ?_)
  exact Goes.ite (Goes.ite (keeps_sdoExpeditedDomain h) (keeps_sdoWhole h)) (keeps_sdoDownBegin h)

theorem keeps_sdoDownSegment {a0 : State} {a1 a2 a3} (h_a0 : Inv q m a0) : Inv q m (State.sdoDownSegment a0 a1 a2 a3) := by
  unfold State.sdoDownSegment
  with_reducible repeat'
    first
      | assumption | apply Inv.ite | apply keeps_sdoRule | apply keeps_sdoRefuse | apply keeps_sdoWhole | apply keeps_sdoSend
      | apply keeps_setSdo | (extract_lets +onlyGivenNames x; clear_value x) | split

theorem keeps_sdoBlockSegment {a0 : State} {a1 a2 a3} (h_a0 : Inv q m a0) : Inv q m (State.sdoBlockSegment a0 a1 a2 a3) := by
  unfold State.sdoBlockSegment
  with_reducible repeat'
    first
      | assumption | apply Inv.ite | apply keeps_sdoRule | apply keeps_sdoRefuse | apply keeps_sdoSend | apply keeps_setSdo
      | (extract_lets +onlyGivenNames x; clear_value x) | split

theorem keeps_sdoBlockEnd {a0 : State} {a1 a2 a3} (h_a0 : Inv q m a0) : Inv q m (State.sdoBlockEnd a0 a1 a2 a3) := by
  unfold State.sdoBlockEnd
  with_reducible repeat' first | assumption | apply Inv.ite | apply keeps_sdoRule | apply keeps_sdoRefuse | apply keeps_sdoWhole | split

theorem keeps_execSdoDownloadSegment {a2 : State} {a0 a1} (h_a2 : Inv q m a2) : Goes q m (execSdoDownloadSegment a0 a1 a2) := by
  unfold execSdoDownloadSegment
  with_reducible repeat'
    first
      | assumption | apply Goes.next | apply Goes.ite | apply keeps_sdoHeard | apply keeps_sdoBusy | apply keeps_sdoRule
      | apply keeps_sdoBlockSegment | apply keeps_sdoBlockEnd | apply keeps_sdoDownSegment | apply keeps_sdoBad

theorem keeps_sdoUpAnswer {a0 : State} {a1 a2 a3} (h_a0 : Inv q m a0) : Inv q m (State.sdoUpAnswer a0 a1 a2 a3) := by
  unfold State.sdoUpAnswer
  with_reducible repeat' first | assumption | apply Inv.ite | apply keeps_sdoSend | apply keeps_setSdo

theorem keeps_execSdoInitiateUpload {a2 : State} {a0 a1} (h_a2 : Inv q m a2) : Goes q m (execSdoInitiateUpload a0 a1 a2) := by
  unfold execSdoInitiateUpload
  with_reducible repeat'
    first
      | assumption | apply Goes.next | apply Goes.ite | apply keeps_sdoBad | apply keeps_sdoHeard | apply keeps_sdoBusy
      | apply keeps_sdoRefuse | apply keeps_sdoUpAnswer | apply keeps_sdoSend | apply keeps_setSdo
      | (refine ⟨fun q m _ _ _ _ _ => ?_, fun q m _ _ _ _ => ?_⟩) | (extract_lets +onlyGivenNames x; clear_value x) | split

theorem keeps_sdoUpBlock {a0 : State} {a1 a2} (h_a0 : Inv q m a0) : Inv q m (State.sdoUpBlock a0 a1 a2) := by
  unfold State.sdoUpBlock
  with_reducible repeat' first | assumption | apply keeps_sdoSend | apply keeps_setSdo

theorem keeps_sdoUpAck {a0 : State} {a1 a2 a3} (h_a0 : Inv q m a0) : Inv q m (State.sdoUpAck a0 a1 a2 a3) := by
  unfold State.sdoUpAck
  with_reducible repeat'
    first
      | assumption | apply Inv.ite | apply keeps_sdoAbort | apply keeps_sdoBad | apply keeps_sdoSend | apply keeps_setSdo
      | apply keeps_sdoUpBlock

theorem keeps_sdoUpSegment {a0 : State} {a1 a2 a3} (h_a0 : Inv q m a0) : Inv q m (State.sdoUpSegment a0 a1 a2 a3) := by
  unfold State.sdoUpSegment
  with_reducible repeat' first | assumption | apply Inv.ite | apply keeps_sdoAbort | apply keeps_sdoSend | apply keeps_setSdo

theorem keeps_execSdoUploadSegment {a2 : State} {a0 a1} (h_a2 : Inv q m a2) : Goes q m (execSdoUploadSegment a0 a1 a2) := by
  unfold execSdoUploadSegment
  with_reducible repeat'
    first
      | assumption | apply Goes.next | apply Goes.ite | apply keeps_sdoHeard | apply keeps_sdoBusy | apply keeps_sdoUpSegment
      | apply keeps_sdoUpBlock | apply keeps_sdoUpAck | apply keeps_setSdo | apply keeps_sdoBad
      | (refine ⟨fun q m _ _ _ _ _ => ?_, fun q m _ _ _ _ => ?_⟩)

theorem keeps_execSdoAbortTransfer {a2 : State} {a0 a1} (h_a2 : Inv q m a2) : Goes q m (execSdoAbortTransfer a0 a1 a2) := by
  unfold execSdoAbortTransfer
  with_reducible repeat' first | assumption | apply Goes.next | apply Goes.ite | apply keeps_setSdo | apply keeps_sdoHeard

theorem keeps_execSdoTimeout {a1 : State} {a0} (h_a1 : Inv q m a1) : Goes q m (execSdoTimeout a0 a1) := by
  unfold execSdoTimeout
  with_reducible repeat' first | assumption | apply Goes.next | apply Goes.ite | apply keeps_sdoAbort

theorem keeps_keepOem {a0 : State} (h_a0 : Inv q m a0) : Inv q m (State.keepOem a0) := by
  unfold State.keepOem
  with_reducible repeat'
    first
      | assumption | apply Inv.ite | apply keeps_setPslot | (refine Inv.foldl (fun _ _ _ => ?_) _ ?_)

theorem keeps_cleared {s : State} (h : Inv q m s) : Inv q m s.cleared :=
  ⟨⟨cellsOkFn_filter _ _ _ _ h.canon.1, cellsOkFn_filter _ _ _ _ h.canon.2⟩, h.queue, h.fresh⟩

theorem keeps_rebooted {a0 : State} (h_a0 : Inv q m a0) : Inv q m (State.rebooted a0) := by
  unfold State.rebooted
  with_reducible repeat'
    first
      | assumption | apply Inv.setReg | apply keeps_keepOem | apply keeps_admitOffers | apply keeps_cleared | apply keeps_setFlag
      | (refine Inv.foldl (fun _ _ _ => ?_) _ ?_)

theorem keeps_trialReverts {a0 : State} (h_a0 : Inv q m a0) : Inv q m (State.trialReverts a0) := by
  unfold State.trialReverts
  with_reducible repeat' first | assumption | apply Inv.setReg | apply keeps_draw

theorem keeps_applyItem {a0 : State} {a1} (h_a0 : Inv q m a0) : Inv q m (State.applyItem a0 a1) := by
  unfold State.applyItem
  with_reducible repeat'
    first
      | assumption | apply Inv.ite | apply keeps_setPslot | apply keeps_putEntry | (refine Inv.foldl (fun _ _ _ => ?_) _ ?_)
      | split

theorem keeps_holdCue {a0 : State} {a1} (h_a0 : Inv q m a0) : Inv q m (State.holdCue a0 a1) := by
  unfold State.holdCue
  with_reducible repeat' first | assumption | apply keeps_armCue | apply keeps_setCue | fail_if_no_progress apply Inv.mk'

theorem keeps_replayItem {a0 : State} {a1} (h_a0 : Inv q m a0) : Inv q m (State.replayItem a0 a1) := by
  unfold State.replayItem
  with_reducible repeat'
    first
      | assumption | apply Inv.ite | apply Inv.setReg | apply keeps_finish | apply keeps_applyItem | apply keeps_holdCue | split

theorem keeps_startEntry {a0 : State} {a1 a2} (h_a0 : Inv q m a0) : Inv q m (State.startEntry a0 a1 a2) := by
  unfold State.startEntry
  with_reducible repeat'
    first
      | assumption | apply Inv.ite | apply Inv.setReg | apply keeps_ruleOf | extract_lets +onlyGivenNames x
      | refine RuleOk.effect ?_ _ _ _ _ _ _ ?_

theorem keeps_startEntries {a0 : State} {a1 a2 a3} (h_a0 : Inv q m a0) : Inv q m (State.startEntries a0 a1 a2 a3) := by
  unfold State.startEntries
  with_reducible repeat' first | assumption | apply keeps_startEntry | (refine Inv.foldl (fun _ _ _ => ?_) _ ?_)

theorem keeps_axisReboot {a0 : State} {a1 a2} (h_a0 : Inv q m a0) : Inv q m (State.axisReboot a0 a1 a2) := by
  unfold State.axisReboot
  with_reducible repeat'
    first
      | assumption | apply Inv.ite | apply keeps_axisStart | apply keeps_draw | apply keeps_setAxis | apply keeps_beginResume

theorem keeps_settleCue {a0 : State} {a1} (h_a0 : Inv q m a0) : Inv q m (State.settleCue a0 a1) := by
  unfold State.settleCue
  with_reducible repeat'
    first
      | assumption | apply Inv.ite | apply keeps_endCue | apply keeps_setCue | fail_if_no_progress apply Inv.mk'

theorem keeps_startEarly {a0 : State} {a1} (h_a0 : Inv q m a0) : Inv q m (State.startEarly a0 a1) := by
  unfold State.startEarly
  with_reducible repeat'
    first
      | assumption | apply Inv.ite | apply keeps_showIf | apply keeps_startEntries | apply keeps_freeRunStart
      | apply keeps_axisReboot | apply keeps_clearLine | (refine Inv.foldl (fun _ _ _ => ?_) _ ?_)

theorem keeps_regionReboot {a0 : State} {a1 a2} (h_a0 : Inv q m a0) : Inv q m (State.regionReboot a0 a1 a2) := by
  unfold State.regionReboot
  with_reducible repeat' first | assumption | apply Inv.ite | apply Inv.setReg | apply keeps_eventKey

theorem keeps_regionStart {a0 : State} {a1} (h_a0 : Inv q m a0) : Inv q m (State.regionStart a0 a1) := by
  unfold State.regionStart
  with_reducible repeat'
    first
      | assumption | apply Inv.ite | apply keeps_takeShadow | apply keeps_clearStates | apply keeps_stageScene
      | apply keeps_oemEnter | apply keeps_showRunning

theorem keeps_fabricStart {a0 : State} (h_a0 : Inv q m a0) : Inv q m (State.fabricStart a0) := by
  unfold State.fabricStart
  with_reducible repeat'
    first
      | assumption | apply Inv.setReg | apply keeps_regionStart | (refine Inv.foldl (fun _ _ _ => ?_) _ ?_)

theorem keeps_restartItem {a0 : State} {a1} (h_a0 : Inv q m a0) : Inv q m (State.restartItem a0 a1) := by
  unfold State.restartItem
  with_reducible repeat'
    first
      | assumption | apply Inv.ite | apply keeps_finish | apply keeps_ruleOf | extract_lets +onlyGivenNames x
      | refine RuleOk.effect ?_ _ _ _ _ _ _ ?_

theorem keeps_startSight {a0 : State} (h_a0 : Inv q m a0) : Inv q m (State.startSight a0) := by
  unfold State.startSight
  with_reducible repeat'
    first
      | assumption | apply Inv.ite | apply Inv.setReg | apply keeps_startEntry | apply keeps_startEntries

theorem keeps_startOutputs {a0 : State} (h_a0 : Inv q m a0) : Inv q m (State.startOutputs a0) := by
  unfold State.startOutputs
  with_reducible repeat' first | assumption | apply keeps_startEntries | apply keeps_startEntry

theorem keeps_startServices {a0 : State} (h_a0 : Inv q m a0) : Inv q m (State.startServices a0) := by
  unfold State.startServices
  with_reducible repeat'
    first
      | assumption | apply Inv.setReg | apply keeps_loadField | apply keeps_startEntry | apply keeps_setPanel
      | apply keeps_showUnverified | apply keeps_showYield | split

theorem keeps_showStored {a0 : State} (h_a0 : Inv q m a0) : Inv q m (State.showStored a0) := by
  unfold State.showStored
  with_reducible repeat'
    first
      | assumption | apply Inv.setReg | apply keeps_showCells | apply keeps_showStore
      | (refine Inv.foldl (fun _ _ _ => ?_) _ ?_)

theorem keeps_dictionaryReady {a0 : State} (h_a0 : Inv q m a0) : Inv q m (State.dictionaryReady a0) := by
  unfold State.dictionaryReady
  with_reducible repeat'
    first
      | assumption | apply Inv.setReg | apply keeps_setFlag | apply keeps_showStored | apply keeps_startServices
      | apply keeps_startSight | apply keeps_startOutputs | apply keeps_fabricStart | apply keeps_restartItem
      | apply keeps_syncAllSdo | apply keeps_draw | (refine Inv.foldl (fun _ _ _ => ?_) _ ?_)

theorem keeps_replayEnd {a0 : State} (h_a0 : Inv q m a0) : Inv q m (State.replayEnd a0) := by
  unfold State.replayEnd
  with_reducible repeat' first | assumption | apply Inv.ite | apply keeps_dictionaryReady | apply keeps_completeAllowed

theorem keeps_crossReset {a0 : State} (h_a0 : Inv q m a0) : Inv q m (State.crossReset a0) := by
  unfold State.crossReset
  with_reducible repeat' first | assumption | fail_if_no_progress apply Inv.mk'

theorem keeps_replay {a0 : State} {a1 a2} (h_a0 : Inv q m a0) : Inv q m (State.replay a0 a1 a2) := by
  unfold State.replay
  with_reducible repeat'
    first
      | assumption | apply Inv.setReg | apply keeps_crossReset | apply keeps_jwrite | apply keeps_replayItem | apply keeps_regionReboot
      | apply keeps_startEarly | apply keeps_settleCue | apply keeps_replayEnd | apply keeps_completeAllowed
      | (refine Inv.foldl (fun _ _ _ => ?_) _ ?_)

theorem keeps_bookRecover {a0 : State} {a1 a2} (h_a0 : Inv q m a0) : Inv q m (State.bookRecover a0 a1 a2) := by
  unfold State.bookRecover
  with_reducible repeat'
    first
      | assumption | apply keeps_commitOne | apply keeps_bumpBy | fail_if_no_progress apply Inv.mk'
      | (refine Inv.foldl (fun _ _ _ => ?_) _ ?_) | split

theorem keeps_readPins {a0 : State} {a1 a2} (h_a0 : Inv q m a0) : Inv q m (State.readPins a0 a1 a2) := by
  unfold State.readPins
  with_reducible repeat' first | assumption | apply Inv.setReg | apply keeps_setFlag | fail_if_no_progress apply Inv.mk'

theorem keeps_normalStart {a0 : State} {a1 a2 a3 a4 a5} (h_a0 : Inv q m a0) : Inv q m (State.normalStart a0 a1 a2 a3 a4 a5) := by
  unfold State.normalStart
  with_reducible repeat'
    first
      | assumption | apply Inv.ite | apply Inv.setReg | apply keeps_trialReverts | apply keeps_setFlag | apply keeps_bump
      | apply keeps_offer | apply keeps_bookRecover | apply keeps_eventKey | apply keeps_event | apply keeps_inputFault
      | apply keeps_showRating | apply keeps_showWire | apply keeps_setLs | apply keeps_replay
      | (refine Inv.foldl (fun _ _ _ => ?_) _ ?_)

theorem keeps_recoveryStart {a0 : State} {a1} (h_a0 : Inv q m a0) : Inv q m (State.recoveryStart a0 a1) := by
  unfold State.recoveryStart
  with_reducible repeat'
    first
      | assumption | apply Inv.ite | apply Inv.setReg | apply keeps_trialReverts | apply keeps_setFlag
      | apply keeps_openSession

theorem keeps_execStartUp {a1 : State} {a0} (h_a1 : Inv q m a1) : Goes q m (execStartUp a0 a1) := by
  unfold execStartUp
  with_reducible repeat'
    first
      | assumption | apply Goes.next | apply Goes.ite | apply keeps_logicOff | apply keeps_readPins | apply keeps_rebooted
      | apply keeps_normalStart | apply keeps_recoveryStart
      | (extract_lets +onlyGivenNames x; refine_lift have hx : Inv q m x := ?_; ?_; on_goal 2 => unfold x; on_goal 1 => clear_value x)
      | (extract_lets +onlyGivenNames x; clear_value x) | split

theorem keeps_execReplayCueWaitEnd {a1 : State} {a0} (h_a1 : Inv q m a1) : Goes q m (execReplayCueWaitEnd a0 a1) := by
  unfold execReplayCueWaitEnd
  with_reducible repeat'
    first
      | assumption | apply Goes.next | apply Goes.ite | apply keeps_replayEnd | apply keeps_settleCue

theorem keeps_endTick {a0 : State} (h_a0 : Inv q m a0) : Inv q m (State.endTick a0) := by
  unfold State.endTick
  with_reducible repeat'
    first
      | assumption | apply keeps_admitOffers | apply keeps_markScenes | apply keeps_markEvaluated
      | (refine Inv.foldl (fun _ _ _ => ?_) _ ?_)

theorem keeps_passEnds {a0 : State} (h_a0 : Inv q m a0) : Inv q m (State.passEnds a0) := by
  unfold State.passEnds
  with_reducible repeat' first | assumption | apply Inv.ite | apply Inv.setReg

theorem keeps_clockTick {a0 : State} (h_a0 : Inv q m a0) : Inv q m (State.clockTick a0) := by
  unfold State.clockTick
  with_reducible repeat'
    first
      | assumption | apply Inv.ite | apply keeps_passEnds | apply keeps_prickingFlip | apply keeps_egressTick | apply keeps_fansTick
      | apply keeps_loadsTick | apply keeps_claimStands | apply keeps_runDeferred | apply keeps_advanceClock | apply keeps_notePublished
      | apply keeps_endTick

end Sys2Proof.Laws
end

