-- ==== Sys2Proof/Laws/State.lean ====
section
/-!
SUPPORT. The small lemmas of the state: each field after each update, and the entries after each of the named operations.
-/
namespace Sys2Proof.Machine
open Sys2Proof

variable {s : State}

/-! ### Entries -/

theorem reg_setReg (s : State) (k : Nat) (v : Int) (k' : Nat) : (s.setReg k v).reg k' = if k' = k then v else s.reg k' := by
  unfold State.setReg State.reg
  split
  · subst k'
    exact Tab.get_set_self _ _ _ _
  · exact Tab.get_set_ne _ _ _ ‹_› _

@[simp] theorem reg_setReg_self (s : State) (k : Nat) (v : Int) : (s.setReg k v).reg k = v := by simp [reg_setReg]

theorem reg_setReg_ne {k k' : Nat} (h : k' ≠ k) (s : State) (v : Int) : (s.setReg k v).reg k' = s.reg k' := by simp [reg_setReg, h]

theorem blob_setBlob (s : State) (k : Nat) (v : Bytes) (k' : Nat) : (s.setBlob k v).blob k' = if k' = k then v else s.blob k' := by
  unfold State.setBlob State.blob
  split
  · subst k'
    exact Tab.get_set_self _ _ _ _
  · exact Tab.get_set_ne _ _ _ ‹_› _

@[simp] theorem blob_setBlob_self (s : State) (k : Nat) (v : Bytes) : (s.setBlob k v).blob k = v := by simp [blob_setBlob]

@[simp] theorem reg_setBlob (s : State) (k : Nat) (v : Bytes) (k' : Nat) : (s.setBlob k v).reg k' = s.reg k' := rfl
@[simp] theorem blob_setReg (s : State) (k : Nat) (v : Int) (k' : Nat) : (s.setReg k v).blob k' = s.blob k' := rfl

/-- A change of other fields keeps the numeric entries. -/
@[simp] theorem reg_mk (s : State) (k : Nat) {b}
    {x_sessions x_sdo x_lastReply x_lastSdo x_ifcPending x_jr x_clock x_net x_book x_nonces x_windows x_fleet x_axes x_cues
    x_lines x_deferred x_lastAct x_impls x_sections x_cov x_tc x_sv x_ls x_feeds x_maint x_canBufs x_canPorts x_ctxs
    x_caps x_ains x_fins x_acus x_brgs x_imu x_supplies x_aligns x_fuse x_cams x_fsync x_streams x_vision x_cells
    x_regions x_slots x_fabric x_keys x_challenges x_island x_yield x_archive x_rdv x_panel x_tag x_zones x_fans x_power
    x_fresh x_pending} :
    (State.mk s.regs b x_sessions x_sdo x_lastReply x_lastSdo x_ifcPending x_jr x_clock x_net x_book x_nonces x_windows x_fleet x_axes x_cues
    x_lines x_deferred x_lastAct x_impls x_sections x_cov x_tc x_sv x_ls x_feeds x_maint x_canBufs x_canPorts x_ctxs
    x_caps x_ains x_fins x_acus x_brgs x_imu x_supplies x_aligns x_fuse x_cams x_fsync x_streams x_vision x_cells
    x_regions x_slots x_fabric x_keys x_challenges x_island x_yield x_archive x_rdv x_panel x_tag x_zones x_fans x_power
    x_fresh x_pending).reg k = s.reg k := rfl

/-- A change of other fields keeps the byte strings. -/
@[simp] theorem blob_mk (s : State) (k : Nat) {r}
    {x_sessions x_sdo x_lastReply x_lastSdo x_ifcPending x_jr x_clock x_net x_book x_nonces x_windows x_fleet x_axes x_cues
    x_lines x_deferred x_lastAct x_impls x_sections x_cov x_tc x_sv x_ls x_feeds x_maint x_canBufs x_canPorts x_ctxs
    x_caps x_ains x_fins x_acus x_brgs x_imu x_supplies x_aligns x_fuse x_cams x_fsync x_streams x_vision x_cells
    x_regions x_slots x_fabric x_keys x_challenges x_island x_yield x_archive x_rdv x_panel x_tag x_zones x_fans x_power
    x_fresh x_pending} :
    (State.mk r s.blobs x_sessions x_sdo x_lastReply x_lastSdo x_ifcPending x_jr x_clock x_net x_book x_nonces x_windows x_fleet x_axes x_cues
    x_lines x_deferred x_lastAct x_impls x_sections x_cov x_tc x_sv x_ls x_feeds x_maint x_canBufs x_canPorts x_ctxs
    x_caps x_ains x_fins x_acus x_brgs x_imu x_supplies x_aligns x_fuse x_cams x_fsync x_streams x_vision x_cells
    x_regions x_slots x_fabric x_keys x_challenges x_island x_yield x_archive x_rdv x_panel x_tag x_zones x_fans x_power
    x_fresh x_pending).blob k = s.blob k := rfl

theorem regN_setReg (s : State) (k : Nat) (v : Int) (k' : Nat) :
    (s.setReg k v).regN k' = if k' = k then v.toNat else s.regN k' := by
  unfold State.regN
  rw [reg_setReg]
  split <;> rfl

theorem reg_setFlag (s : State) (k i : Nat) (b : Bool) (k' : Nat) :
    (s.setFlag k i b).reg k' = if k' = k then withBit (s.reg k) i b else s.reg k' := reg_setReg _ _ _ _

theorem reg_bumpBy (s : State) (k : Nat) (n : Int) (k' : Nat) :
    (s.bumpBy k n).reg k' = if k' = k then (if regMax k < s.reg k + n then regMax k else s.reg k + n) else s.reg k' :=
  reg_setReg _ _ _ _

theorem reg_bump (s : State) (k k' : Nat) :
    (s.bump k).reg k' = if k' = k then (if regMax k < s.reg k + 1 then regMax k else s.reg k + 1) else s.reg k' :=
  reg_setReg _ _ _ _

theorem bitOf_ofNat (n i : Nat) : bitOf (n : Int) i = n.testBit i := rfl

@[simp] theorem bitOf_withBit (v : Int) (i : Nat) (b : Bool) : bitOf (withBit v i b) i = b := by
  unfold withBit
  rw [bitOf_ofNat]
  split
  · assumption
  · rename_i h
    rw [show Nat.xor v.toNat (2 ^ i) = v.toNat ^^^ (2 ^ i) from rfl, Nat.testBit_xor, Nat.testBit_two_pow_self]
    cases hv : v.toNat.testBit i <;> cases b <;> simp_all [bitOf]

theorem bitOf_withBit_ne {i j : Nat} (h : j ≠ i) (v : Int) (b : Bool) : bitOf (withBit v i b) j = bitOf v j := by
  unfold withBit
  rw [bitOf_ofNat]
  split
  · rfl
  · rw [show Nat.xor v.toNat (2 ^ i) = v.toNat ^^^ (2 ^ i) from rfl, Nat.testBit_xor, Nat.testBit_two_pow_of_ne (Ne.symm h)]
    simp [bitOf]

@[simp] theorem flag_setFlag (s : State) (k i : Nat) (b : Bool) : (s.setFlag k i b).flag k i = b := by
  simp [State.flag, reg_setFlag]

theorem flag_setFlag_ne {i j : Nat} (h : j ≠ i) (s : State) (k : Nat) (b : Bool) : (s.setFlag k i b).flag k j = s.flag k j := by
  simp [State.flag, reg_setFlag, bitOf_withBit_ne h]

@[simp] theorem blob_setFlag (s : State) (k i : Nat) (b : Bool) (k' : Nat) : (s.setFlag k i b).blob k' = s.blob k' := rfl
@[simp] theorem blob_bump (s : State) (k k' : Nat) : (s.bump k).blob k' = s.blob k' := rfl
@[simp] theorem blob_bumpBy (s : State) (k : Nat) (n : Int) (k' : Nat) : (s.bumpBy k n).blob k' = s.blob k' := rfl
@[simp] theorem tick_setReg (s : State) (k : Nat) (v : Int) : (s.setReg k v).tick = s.tick := rfl
@[simp] theorem now_setReg (s : State) (k : Nat) (v : Int) : (s.setReg k v).now = s.now := rfl
@[simp] theorem tick_bump (s : State) (k : Nat) : (s.bump k).tick = s.tick := rfl
@[simp] theorem now_bump (s : State) (k : Nat) : (s.bump k).now = s.now := rfl
@[simp] theorem tick_setFlag (s : State) (k i : Nat) (b : Bool) : (s.setFlag k i b).tick = s.tick := rfl
@[simp] theorem now_setFlag (s : State) (k i : Nat) (b : Bool) : (s.setFlag k i b).now = s.now := rfl

/-! ### The other fields after a write of an entry, and after a draw of free values -/

@[simp] theorem setReg_blobs (k : Nat) (v : Int) : (s.setReg k v).blobs = s.blobs := rfl
@[simp] theorem setReg_sessions (k : Nat) (v : Int) : (s.setReg k v).sessions = s.sessions := rfl
@[simp] theorem setReg_sdo (k : Nat) (v : Int) : (s.setReg k v).sdo = s.sdo := rfl
@[simp] theorem setReg_lastReply (k : Nat) (v : Int) : (s.setReg k v).lastReply = s.lastReply := rfl
@[simp] theorem setReg_lastSdo (k : Nat) (v : Int) : (s.setReg k v).lastSdo = s.lastSdo := rfl
@[simp] theorem setReg_ifcPending (k : Nat) (v : Int) : (s.setReg k v).ifcPending = s.ifcPending := rfl
@[simp] theorem setReg_jr (k : Nat) (v : Int) : (s.setReg k v).jr = s.jr := rfl
@[simp] theorem setReg_clock (k : Nat) (v : Int) : (s.setReg k v).clock = s.clock := rfl
@[simp] theorem setReg_net (k : Nat) (v : Int) : (s.setReg k v).net = s.net := rfl
@[simp] theorem setReg_book (k : Nat) (v : Int) : (s.setReg k v).book = s.book := rfl
@[simp] theorem setReg_nonces (k : Nat) (v : Int) : (s.setReg k v).nonces = s.nonces := rfl
@[simp] theorem setReg_windows (k : Nat) (v : Int) : (s.setReg k v).windows = s.windows := rfl
@[simp] theorem setReg_fleet (k : Nat) (v : Int) : (s.setReg k v).fleet = s.fleet := rfl
@[simp] theorem setReg_axes (k : Nat) (v : Int) : (s.setReg k v).axes = s.axes := rfl
@[simp] theorem setReg_cues (k : Nat) (v : Int) : (s.setReg k v).cues = s.cues := rfl
@[simp] theorem setReg_lines (k : Nat) (v : Int) : (s.setReg k v).lines = s.lines := rfl
@[simp] theorem setReg_deferred (k : Nat) (v : Int) : (s.setReg k v).deferred = s.deferred := rfl
@[simp] theorem setReg_lastAct (k : Nat) (v : Int) : (s.setReg k v).lastAct = s.lastAct := rfl
@[simp] theorem setReg_impls (k : Nat) (v : Int) : (s.setReg k v).impls = s.impls := rfl
@[simp] theorem setReg_sections (k : Nat) (v : Int) : (s.setReg k v).sections = s.sections := rfl
@[simp] theorem setReg_cov (k : Nat) (v : Int) : (s.setReg k v).cov = s.cov := rfl
@[simp] theorem setReg_tc (k : Nat) (v : Int) : (s.setReg k v).tc = s.tc := rfl
@[simp] theorem setReg_sv (k : Nat) (v : Int) : (s.setReg k v).sv = s.sv := rfl
@[simp] theorem setReg_ls (k : Nat) (v : Int) : (s.setReg k v).ls = s.ls := rfl
@[simp] theorem setReg_feeds (k : Nat) (v : Int) : (s.setReg k v).feeds = s.feeds := rfl
@[simp] theorem setReg_maint (k : Nat) (v : Int) : (s.setReg k v).maint = s.maint := rfl
@[simp] theorem setReg_canBufs (k : Nat) (v : Int) : (s.setReg k v).canBufs = s.canBufs := rfl
@[simp] theorem setReg_canPorts (k : Nat) (v : Int) : (s.setReg k v).canPorts = s.canPorts := rfl
@[simp] theorem setReg_ctxs (k : Nat) (v : Int) : (s.setReg k v).ctxs = s.ctxs := rfl
@[simp] theorem setReg_caps (k : Nat) (v : Int) : (s.setReg k v).caps = s.caps := rfl
@[simp] theorem setReg_ains (k : Nat) (v : Int) : (s.setReg k v).ains = s.ains := rfl
@[simp] theorem setReg_fins (k : Nat) (v : Int) : (s.setReg k v).fins = s.fins := rfl
@[simp] theorem setReg_acus (k : Nat) (v : Int) : (s.setReg k v).acus = s.acus := rfl
@[simp] theorem setReg_brgs (k : Nat) (v : Int) : (s.setReg k v).brgs = s.brgs := rfl
@[simp] theorem setReg_imu (k : Nat) (v : Int) : (s.setReg k v).imu = s.imu := rfl
@[simp] theorem setReg_supplies (k : Nat) (v : Int) : (s.setReg k v).supplies = s.supplies := rfl
@[simp] theorem setReg_aligns (k : Nat) (v : Int) : (s.setReg k v).aligns = s.aligns := rfl
@[simp] theorem setReg_fuse (k : Nat) (v : Int) : (s.setReg k v).fuse = s.fuse := rfl
@[simp] theorem setReg_cams (k : Nat) (v : Int) : (s.setReg k v).cams = s.cams := rfl
@[simp] theorem setReg_fsync (k : Nat) (v : Int) : (s.setReg k v).fsync = s.fsync := rfl
@[simp] theorem setReg_streams (k : Nat) (v : Int) : (s.setReg k v).streams = s.streams := rfl
@[simp] theorem setReg_vision (k : Nat) (v : Int) : (s.setReg k v).vision = s.vision := rfl
@[simp] theorem setReg_cells (k : Nat) (v : Int) : (s.setReg k v).cells = s.cells := rfl
@[simp] theorem setReg_regions (k : Nat) (v : Int) : (s.setReg k v).regions = s.regions := rfl
@[simp] theorem setReg_slots (k : Nat) (v : Int) : (s.setReg k v).slots = s.slots := rfl
@[simp] theorem setReg_fabric (k : Nat) (v : Int) : (s.setReg k v).fabric = s.fabric := rfl
@[simp] theorem setReg_keys (k : Nat) (v : Int) : (s.setReg k v).keys = s.keys := rfl
@[simp] theorem setReg_challenges (k : Nat) (v : Int) : (s.setReg k v).challenges = s.challenges := rfl
@[simp] theorem setReg_island (k : Nat) (v : Int) : (s.setReg k v).island = s.island := rfl
@[simp] theorem setReg_yield (k : Nat) (v : Int) : (s.setReg k v).yield = s.yield := rfl
@[simp] theorem setReg_archive (k : Nat) (v : Int) : (s.setReg k v).archive = s.archive := rfl
@[simp] theorem setReg_rdv (k : Nat) (v : Int) : (s.setReg k v).rdv = s.rdv := rfl
@[simp] theorem setReg_panel (k : Nat) (v : Int) : (s.setReg k v).panel = s.panel := rfl
@[simp] theorem setReg_tag (k : Nat) (v : Int) : (s.setReg k v).tag = s.tag := rfl
@[simp] theorem setReg_zones (k : Nat) (v : Int) : (s.setReg k v).zones = s.zones := rfl
@[simp] theorem setReg_fans (k : Nat) (v : Int) : (s.setReg k v).fans = s.fans := rfl
@[simp] theorem setReg_power (k : Nat) (v : Int) : (s.setReg k v).power = s.power := rfl
@[simp] theorem setReg_fresh (k : Nat) (v : Int) : (s.setReg k v).fresh = s.fresh := rfl
@[simp] theorem setReg_pending (k : Nat) (v : Int) : (s.setReg k v).pending = s.pending := rfl
@[simp] theorem setBlob_regs (k : Nat) (v : Bytes) : (s.setBlob k v).regs = s.regs := rfl
@[simp] theorem setBlob_sessions (k : Nat) (v : Bytes) : (s.setBlob k v).sessions = s.sessions := rfl
@[simp] theorem setBlob_sdo (k : Nat) (v : Bytes) : (s.setBlob k v).sdo = s.sdo := rfl
@[simp] theorem setBlob_lastReply (k : Nat) (v : Bytes) : (s.setBlob k v).lastReply = s.lastReply := rfl
@[simp] theorem setBlob_lastSdo (k : Nat) (v : Bytes) : (s.setBlob k v).lastSdo = s.lastSdo := rfl
@[simp] theorem setBlob_ifcPending (k : Nat) (v : Bytes) : (s.setBlob k v).ifcPending = s.ifcPending := rfl
@[simp] theorem setBlob_jr (k : Nat) (v : Bytes) : (s.setBlob k v).jr = s.jr := rfl
@[simp] theorem setBlob_clock (k : Nat) (v : Bytes) : (s.setBlob k v).clock = s.clock := rfl
@[simp] theorem setBlob_net (k : Nat) (v : Bytes) : (s.setBlob k v).net = s.net := rfl
@[simp] theorem setBlob_book (k : Nat) (v : Bytes) : (s.setBlob k v).book = s.book := rfl
@[simp] theorem setBlob_nonces (k : Nat) (v : Bytes) : (s.setBlob k v).nonces = s.nonces := rfl
@[simp] theorem setBlob_windows (k : Nat) (v : Bytes) : (s.setBlob k v).windows = s.windows := rfl
@[simp] theorem setBlob_fleet (k : Nat) (v : Bytes) : (s.setBlob k v).fleet = s.fleet := rfl
@[simp] theorem setBlob_axes (k : Nat) (v : Bytes) : (s.setBlob k v).axes = s.axes := rfl
@[simp] theorem setBlob_cues (k : Nat) (v : Bytes) : (s.setBlob k v).cues = s.cues := rfl
@[simp] theorem setBlob_lines (k : Nat) (v : Bytes) : (s.setBlob k v).lines = s.lines := rfl
@[simp] theorem setBlob_deferred (k : Nat) (v : Bytes) : (s.setBlob k v).deferred = s.deferred := rfl
@[simp] theorem setBlob_lastAct (k : Nat) (v : Bytes) : (s.setBlob k v).lastAct = s.lastAct := rfl
@[simp] theorem setBlob_impls (k : Nat) (v : Bytes) : (s.setBlob k v).impls = s.impls := rfl
@[simp] theorem setBlob_sections (k : Nat) (v : Bytes) : (s.setBlob k v).sections = s.sections := rfl
@[simp] theorem setBlob_cov (k : Nat) (v : Bytes) : (s.setBlob k v).cov = s.cov := rfl
@[simp] theorem setBlob_tc (k : Nat) (v : Bytes) : (s.setBlob k v).tc = s.tc := rfl
@[simp] theorem setBlob_sv (k : Nat) (v : Bytes) : (s.setBlob k v).sv = s.sv := rfl
@[simp] theorem setBlob_ls (k : Nat) (v : Bytes) : (s.setBlob k v).ls = s.ls := rfl
@[simp] theorem setBlob_feeds (k : Nat) (v : Bytes) : (s.setBlob k v).feeds = s.feeds := rfl
@[simp] theorem setBlob_maint (k : Nat) (v : Bytes) : (s.setBlob k v).maint = s.maint := rfl
@[simp] theorem setBlob_canBufs (k : Nat) (v : Bytes) : (s.setBlob k v).canBufs = s.canBufs := rfl
@[simp] theorem setBlob_canPorts (k : Nat) (v : Bytes) : (s.setBlob k v).canPorts = s.canPorts := rfl
@[simp] theorem setBlob_ctxs (k : Nat) (v : Bytes) : (s.setBlob k v).ctxs = s.ctxs := rfl
@[simp] theorem setBlob_caps (k : Nat) (v : Bytes) : (s.setBlob k v).caps = s.caps := rfl
@[simp] theorem setBlob_ains (k : Nat) (v : Bytes) : (s.setBlob k v).ains = s.ains := rfl
@[simp] theorem setBlob_fins (k : Nat) (v : Bytes) : (s.setBlob k v).fins = s.fins := rfl
@[simp] theorem setBlob_acus (k : Nat) (v : Bytes) : (s.setBlob k v).acus = s.acus := rfl
@[simp] theorem setBlob_brgs (k : Nat) (v : Bytes) : (s.setBlob k v).brgs = s.brgs := rfl
@[simp] theorem setBlob_imu (k : Nat) (v : Bytes) : (s.setBlob k v).imu = s.imu := rfl
@[simp] theorem setBlob_supplies (k : Nat) (v : Bytes) : (s.setBlob k v).supplies = s.supplies := rfl
@[simp] theorem setBlob_aligns (k : Nat) (v : Bytes) : (s.setBlob k v).aligns = s.aligns := rfl
@[simp] theorem setBlob_fuse (k : Nat) (v : Bytes) : (s.setBlob k v).fuse = s.fuse := rfl
@[simp] theorem setBlob_cams (k : Nat) (v : Bytes) : (s.setBlob k v).cams = s.cams := rfl
@[simp] theorem setBlob_fsync (k : Nat) (v : Bytes) : (s.setBlob k v).fsync = s.fsync := rfl
@[simp] theorem setBlob_streams (k : Nat) (v : Bytes) : (s.setBlob k v).streams = s.streams := rfl
@[simp] theorem setBlob_vision (k : Nat) (v : Bytes) : (s.setBlob k v).vision = s.vision := rfl
@[simp] theorem setBlob_cells (k : Nat) (v : Bytes) : (s.setBlob k v).cells = s.cells := rfl
@[simp] theorem setBlob_regions (k : Nat) (v : Bytes) : (s.setBlob k v).regions = s.regions := rfl
@[simp] theorem setBlob_slots (k : Nat) (v : Bytes) : (s.setBlob k v).slots = s.slots := rfl
@[simp] theorem setBlob_fabric (k : Nat) (v : Bytes) : (s.setBlob k v).fabric = s.fabric := rfl
@[simp] theorem setBlob_keys (k : Nat) (v : Bytes) : (s.setBlob k v).keys = s.keys := rfl
@[simp] theorem setBlob_challenges (k : Nat) (v : Bytes) : (s.setBlob k v).challenges = s.challenges := rfl
@[simp] theorem setBlob_island (k : Nat) (v : Bytes) : (s.setBlob k v).island = s.island := rfl
@[simp] theorem setBlob_yield (k : Nat) (v : Bytes) : (s.setBlob k v).yield = s.yield := rfl
@[simp] theorem setBlob_archive (k : Nat) (v : Bytes) : (s.setBlob k v).archive = s.archive := rfl
@[simp] theorem setBlob_rdv (k : Nat) (v : Bytes) : (s.setBlob k v).rdv = s.rdv := rfl
@[simp] theorem setBlob_panel (k : Nat) (v : Bytes) : (s.setBlob k v).panel = s.panel := rfl
@[simp] theorem setBlob_tag (k : Nat) (v : Bytes) : (s.setBlob k v).tag = s.tag := rfl
@[simp] theorem setBlob_zones (k : Nat) (v : Bytes) : (s.setBlob k v).zones = s.zones := rfl
@[simp] theorem setBlob_fans (k : Nat) (v : Bytes) : (s.setBlob k v).fans = s.fans := rfl
@[simp] theorem setBlob_power (k : Nat) (v : Bytes) : (s.setBlob k v).power = s.power := rfl
@[simp] theorem setBlob_fresh (k : Nat) (v : Bytes) : (s.setBlob k v).fresh = s.fresh := rfl
@[simp] theorem setBlob_pending (k : Nat) (v : Bytes) : (s.setBlob k v).pending = s.pending := rfl
@[simp] theorem draw_regs : s.draw.2.regs = s.regs := rfl
@[simp] theorem draw_blobs : s.draw.2.blobs = s.blobs := rfl
@[simp] theorem draw_sessions : s.draw.2.sessions = s.sessions := rfl
@[simp] theorem draw_sdo : s.draw.2.sdo = s.sdo := rfl
@[simp] theorem draw_lastReply : s.draw.2.lastReply = s.lastReply := rfl
@[simp] theorem draw_lastSdo : s.draw.2.lastSdo = s.lastSdo := rfl
@[simp] theorem draw_ifcPending : s.draw.2.ifcPending = s.ifcPending := rfl
@[simp] theorem draw_jr : s.draw.2.jr = s.jr := rfl
@[simp] theorem draw_clock : s.draw.2.clock = s.clock := rfl
@[simp] theorem draw_net : s.draw.2.net = s.net := rfl
@[simp] theorem draw_book : s.draw.2.book = s.book := rfl
@[simp] theorem draw_nonces : s.draw.2.nonces = s.nonces := rfl
@[simp] theorem draw_windows : s.draw.2.windows = s.windows := rfl
@[simp] theorem draw_fleet : s.draw.2.fleet = s.fleet := rfl
@[simp] theorem draw_axes : s.draw.2.axes = s.axes := rfl
@[simp] theorem draw_cues : s.draw.2.cues = s.cues := rfl
@[simp] theorem draw_lines : s.draw.2.lines = s.lines := rfl
@[simp] theorem draw_deferred : s.draw.2.deferred = s.deferred := rfl
@[simp] theorem draw_lastAct : s.draw.2.lastAct = s.lastAct := rfl
@[simp] theorem draw_impls : s.draw.2.impls = s.impls := rfl
@[simp] theorem draw_sections : s.draw.2.sections = s.sections := rfl
@[simp] theorem draw_cov : s.draw.2.cov = s.cov := rfl
@[simp] theorem draw_tc : s.draw.2.tc = s.tc := rfl
@[simp] theorem draw_sv : s.draw.2.sv = s.sv := rfl
@[simp] theorem draw_ls : s.draw.2.ls = s.ls := rfl
@[simp] theorem draw_feeds : s.draw.2.feeds = s.feeds := rfl
@[simp] theorem draw_maint : s.draw.2.maint = s.maint := rfl
@[simp] theorem draw_canBufs : s.draw.2.canBufs = s.canBufs := rfl
@[simp] theorem draw_canPorts : s.draw.2.canPorts = s.canPorts := rfl
@[simp] theorem draw_ctxs : s.draw.2.ctxs = s.ctxs := rfl
@[simp] theorem draw_caps : s.draw.2.caps = s.caps := rfl
@[simp] theorem draw_ains : s.draw.2.ains = s.ains := rfl
@[simp] theorem draw_fins : s.draw.2.fins = s.fins := rfl
@[simp] theorem draw_acus : s.draw.2.acus = s.acus := rfl
@[simp] theorem draw_brgs : s.draw.2.brgs = s.brgs := rfl
@[simp] theorem draw_imu : s.draw.2.imu = s.imu := rfl
@[simp] theorem draw_supplies : s.draw.2.supplies = s.supplies := rfl
@[simp] theorem draw_aligns : s.draw.2.aligns = s.aligns := rfl
@[simp] theorem draw_fuse : s.draw.2.fuse = s.fuse := rfl
@[simp] theorem draw_cams : s.draw.2.cams = s.cams := rfl
@[simp] theorem draw_fsync : s.draw.2.fsync = s.fsync := rfl
@[simp] theorem draw_streams : s.draw.2.streams = s.streams := rfl
@[simp] theorem draw_vision : s.draw.2.vision = s.vision := rfl
@[simp] theorem draw_cells : s.draw.2.cells = s.cells := rfl
@[simp] theorem draw_regions : s.draw.2.regions = s.regions := rfl
@[simp] theorem draw_slots : s.draw.2.slots = s.slots := rfl
@[simp] theorem draw_fabric : s.draw.2.fabric = s.fabric := rfl
@[simp] theorem draw_keys : s.draw.2.keys = s.keys := rfl
@[simp] theorem draw_challenges : s.draw.2.challenges = s.challenges := rfl
@[simp] theorem draw_island : s.draw.2.island = s.island := rfl
@[simp] theorem draw_yield : s.draw.2.yield = s.yield := rfl
@[simp] theorem draw_archive : s.draw.2.archive = s.archive := rfl
@[simp] theorem draw_rdv : s.draw.2.rdv = s.rdv := rfl
@[simp] theorem draw_panel : s.draw.2.panel = s.panel := rfl
@[simp] theorem draw_tag : s.draw.2.tag = s.tag := rfl
@[simp] theorem draw_zones : s.draw.2.zones = s.zones := rfl
@[simp] theorem draw_fans : s.draw.2.fans = s.fans := rfl
@[simp] theorem draw_power : s.draw.2.power = s.power := rfl
@[simp] theorem draw_fresh : s.draw.2.fresh = s.fresh + 1 := rfl
@[simp] theorem draw_pending : s.draw.2.pending = s.pending := rfl

/-! ### The units -/

@[simp] theorem reg_setPslot (s : State) (n : Nat) (x : PSlot) (k : Nat) : (s.setPslot n x).reg k = s.reg k := rfl
@[simp] theorem blob_setPslot (s : State) (n : Nat) (x : PSlot) (k : Nat) : (s.setPslot n x).blob k = s.blob k := rfl
@[simp] theorem tick_setPslot (s : State) (n : Nat) (x : PSlot) : (s.setPslot n x).tick = s.tick := rfl
@[simp] theorem pslot_setPslot (s : State) (n : Nat) (x : PSlot) : (s.setPslot n x).pslot n = x := Tab.get_set_self _ _ _ _
theorem pslot_setPslot_ne (s : State) (n : Nat) (x : PSlot) {j : Nat} (h : j ≠ n) : (s.setPslot n x).pslot j = s.pslot j := Tab.get_set_ne _ _ _ h _
@[simp] theorem reg_setRegion (s : State) (n : Nat) (x : Region) (k : Nat) : (s.setRegion n x).reg k = s.reg k := rfl
@[simp] theorem blob_setRegion (s : State) (n : Nat) (x : Region) (k : Nat) : (s.setRegion n x).blob k = s.blob k := rfl
@[simp] theorem tick_setRegion (s : State) (n : Nat) (x : Region) : (s.setRegion n x).tick = s.tick := rfl
@[simp] theorem region_setRegion (s : State) (n : Nat) (x : Region) : (s.setRegion n x).region n = x := Tab.get_set_self _ _ _ _
theorem region_setRegion_ne (s : State) (n : Nat) (x : Region) {j : Nat} (h : j ≠ n) : (s.setRegion n x).region j = s.region j := Tab.get_set_ne _ _ _ h _
@[simp] theorem reg_setSess (s : State) (slot : Nat) (x : Session) (k : Nat) : (s.setSess slot x).reg k = s.reg k := rfl
@[simp] theorem blob_setSess (s : State) (slot : Nat) (x : Session) (k : Nat) : (s.setSess slot x).blob k = s.blob k := rfl
@[simp] theorem tick_setSess (s : State) (slot : Nat) (x : Session) : (s.setSess slot x).tick = s.tick := rfl
@[simp] theorem sess_setSess (s : State) (slot : Nat) (x : Session) : (s.setSess slot x).sess slot = x := Tab.get_set_self _ _ _ _
theorem sess_setSess_ne (s : State) (slot : Nat) (x : Session) {j : Nat} (h : j ≠ slot) : (s.setSess slot x).sess j = s.sess j := Tab.get_set_ne _ _ _ h _
@[simp] theorem reg_setKeySlot (s : State) (k : Nat) (x : KeySlot) (k : Nat) : (s.setKeySlot k x).reg k = s.reg k := rfl
@[simp] theorem blob_setKeySlot (s : State) (k : Nat) (x : KeySlot) (k : Nat) : (s.setKeySlot k x).blob k = s.blob k := rfl
@[simp] theorem tick_setKeySlot (s : State) (k : Nat) (x : KeySlot) : (s.setKeySlot k x).tick = s.tick := rfl
@[simp] theorem keySlot_setKeySlot (s : State) (k : Nat) (x : KeySlot) : (s.setKeySlot k x).keySlot k = x := Tab.get_set_self _ _ _ _
theorem keySlot_setKeySlot_ne (s : State) (k : Nat) (x : KeySlot) {j : Nat} (h : j ≠ k) : (s.setKeySlot k x).keySlot j = s.keySlot j := Tab.get_set_ne _ _ _ h _
@[simp] theorem reg_setCell (s : State) (p : Nat) (x : Cell) (k : Nat) : (s.setCell p x).reg k = s.reg k := rfl
@[simp] theorem blob_setCell (s : State) (p : Nat) (x : Cell) (k : Nat) : (s.setCell p x).blob k = s.blob k := rfl
@[simp] theorem tick_setCell (s : State) (p : Nat) (x : Cell) : (s.setCell p x).tick = s.tick := rfl
@[simp] theorem cell_setCell (s : State) (p : Nat) (x : Cell) : (s.setCell p x).cell p = x := Tab.get_set_self _ _ _ _
theorem cell_setCell_ne (s : State) (p : Nat) (x : Cell) {j : Nat} (h : j ≠ p) : (s.setCell p x).cell j = s.cell j := Tab.get_set_ne _ _ _ h _
@[simp] theorem reg_setAxis (s : State) (n : Nat) (x : Axis) (k : Nat) : (s.setAxis n x).reg k = s.reg k := rfl
@[simp] theorem blob_setAxis (s : State) (n : Nat) (x : Axis) (k : Nat) : (s.setAxis n x).blob k = s.blob k := rfl
@[simp] theorem tick_setAxis (s : State) (n : Nat) (x : Axis) : (s.setAxis n x).tick = s.tick := rfl
@[simp] theorem axis_setAxis (s : State) (n : Nat) (x : Axis) : (s.setAxis n x).axis n = x := Tab.get_set_self _ _ _ _
theorem axis_setAxis_ne (s : State) (n : Nat) (x : Axis) {j : Nat} (h : j ≠ n) : (s.setAxis n x).axis j = s.axis j := Tab.get_set_ne _ _ _ h _
@[simp] theorem reg_setCue (s : State) (n : Nat) (x : Cue) (k : Nat) : (s.setCue n x).reg k = s.reg k := rfl
@[simp] theorem blob_setCue (s : State) (n : Nat) (x : Cue) (k : Nat) : (s.setCue n x).blob k = s.blob k := rfl
@[simp] theorem tick_setCue (s : State) (n : Nat) (x : Cue) : (s.setCue n x).tick = s.tick := rfl
@[simp] theorem cue_setCue (s : State) (n : Nat) (x : Cue) : (s.setCue n x).cue n = x := Tab.get_set_self _ _ _ _
theorem cue_setCue_ne (s : State) (n : Nat) (x : Cue) {j : Nat} (h : j ≠ n) : (s.setCue n x).cue j = s.cue j := Tab.get_set_ne _ _ _ h _
@[simp] theorem reg_setLine (s : State) (n : Nat) (x : Line) (k : Nat) : (s.setLine n x).reg k = s.reg k := rfl
@[simp] theorem blob_setLine (s : State) (n : Nat) (x : Line) (k : Nat) : (s.setLine n x).blob k = s.blob k := rfl
@[simp] theorem tick_setLine (s : State) (n : Nat) (x : Line) : (s.setLine n x).tick = s.tick := rfl
@[simp] theorem line_setLine (s : State) (n : Nat) (x : Line) : (s.setLine n x).line n = x := Tab.get_set_self _ _ _ _
theorem line_setLine_ne (s : State) (n : Nat) (x : Line) {j : Nat} (h : j ≠ n) : (s.setLine n x).line j = s.line j := Tab.get_set_ne _ _ _ h _
@[simp] theorem reg_setImpl (s : State) (n : Nat) (x : Impl) (k : Nat) : (s.setImpl n x).reg k = s.reg k := rfl
@[simp] theorem blob_setImpl (s : State) (n : Nat) (x : Impl) (k : Nat) : (s.setImpl n x).blob k = s.blob k := rfl
@[simp] theorem tick_setImpl (s : State) (n : Nat) (x : Impl) : (s.setImpl n x).tick = s.tick := rfl
@[simp] theorem impl_setImpl (s : State) (n : Nat) (x : Impl) : (s.setImpl n x).impl n = x := Tab.get_set_self _ _ _ _
theorem impl_setImpl_ne (s : State) (n : Nat) (x : Impl) {j : Nat} (h : j ≠ n) : (s.setImpl n x).impl j = s.impl j := Tab.get_set_ne _ _ _ h _
@[simp] theorem reg_setSv (s : State) (n : Nat) (x : Sv) (k : Nat) : (s.setSv n x).reg k = s.reg k := rfl
@[simp] theorem blob_setSv (s : State) (n : Nat) (x : Sv) (k : Nat) : (s.setSv n x).blob k = s.blob k := rfl
@[simp] theorem tick_setSv (s : State) (n : Nat) (x : Sv) : (s.setSv n x).tick = s.tick := rfl
@[simp] theorem svCh_setSv (s : State) (n : Nat) (x : Sv) : (s.setSv n x).svCh n = x := Tab.get_set_self _ _ _ _
theorem svCh_setSv_ne (s : State) (n : Nat) (x : Sv) {j : Nat} (h : j ≠ n) : (s.setSv n x).svCh j = s.svCh j := Tab.get_set_ne _ _ _ h _
@[simp] theorem reg_setLs (s : State) (n : Nat) (x : Ls) (k : Nat) : (s.setLs n x).reg k = s.reg k := rfl
@[simp] theorem blob_setLs (s : State) (n : Nat) (x : Ls) (k : Nat) : (s.setLs n x).blob k = s.blob k := rfl
@[simp] theorem tick_setLs (s : State) (n : Nat) (x : Ls) : (s.setLs n x).tick = s.tick := rfl
@[simp] theorem lsCh_setLs (s : State) (n : Nat) (x : Ls) : (s.setLs n x).lsCh n = x := Tab.get_set_self _ _ _ _
theorem lsCh_setLs_ne (s : State) (n : Nat) (x : Ls) {j : Nat} (h : j ≠ n) : (s.setLs n x).lsCh j = s.lsCh j := Tab.get_set_ne _ _ _ h _
@[simp] theorem reg_setFeed (s : State) (g : Nat) (x : FeedGroup) (k : Nat) : (s.setFeed g x).reg k = s.reg k := rfl
@[simp] theorem blob_setFeed (s : State) (g : Nat) (x : FeedGroup) (k : Nat) : (s.setFeed g x).blob k = s.blob k := rfl
@[simp] theorem tick_setFeed (s : State) (g : Nat) (x : FeedGroup) : (s.setFeed g x).tick = s.tick := rfl
@[simp] theorem feed_setFeed (s : State) (g : Nat) (x : FeedGroup) : (s.setFeed g x).feed g = x := Tab.get_set_self _ _ _ _
theorem feed_setFeed_ne (s : State) (g : Nat) (x : FeedGroup) {j : Nat} (h : j ≠ g) : (s.setFeed g x).feed j = s.feed j := Tab.get_set_ne _ _ _ h _
@[simp] theorem reg_setCan (s : State) (p : Nat) (x : CanPort) (k : Nat) : (s.setCan p x).reg k = s.reg k := rfl
@[simp] theorem blob_setCan (s : State) (p : Nat) (x : CanPort) (k : Nat) : (s.setCan p x).blob k = s.blob k := rfl
@[simp] theorem tick_setCan (s : State) (p : Nat) (x : CanPort) : (s.setCan p x).tick = s.tick := rfl
@[simp] theorem can_setCan (s : State) (p : Nat) (x : CanPort) : (s.setCan p x).can p = x := Tab.get_set_self _ _ _ _
theorem can_setCan_ne (s : State) (p : Nat) (x : CanPort) {j : Nat} (h : j ≠ p) : (s.setCan p x).can j = s.can j := Tab.get_set_ne _ _ _ h _
@[simp] theorem reg_setTxBuf (s : State) (p b : Nat) (x : TxBuf) (k : Nat) : (s.setTxBuf p b x).reg k = s.reg k := rfl
@[simp] theorem blob_setTxBuf (s : State) (p b : Nat) (x : TxBuf) (k : Nat) : (s.setTxBuf p b x).blob k = s.blob k := rfl
@[simp] theorem tick_setTxBuf (s : State) (p b : Nat) (x : TxBuf) : (s.setTxBuf p b x).tick = s.tick := rfl
@[simp] theorem txBuf_setTxBuf (s : State) (p b : Nat) (x : TxBuf) : (s.setTxBuf p b x).txBuf p b = x := Tab.get_set_self _ _ _ _
@[simp] theorem reg_setAin (s : State) (n : Nat) (x : Ain) (k : Nat) : (s.setAin n x).reg k = s.reg k := rfl
@[simp] theorem blob_setAin (s : State) (n : Nat) (x : Ain) (k : Nat) : (s.setAin n x).blob k = s.blob k := rfl
@[simp] theorem tick_setAin (s : State) (n : Nat) (x : Ain) : (s.setAin n x).tick = s.tick := rfl
@[simp] theorem ain_setAin (s : State) (n : Nat) (x : Ain) : (s.setAin n x).ain n = x := Tab.get_set_self _ _ _ _
theorem ain_setAin_ne (s : State) (n : Nat) (x : Ain) {j : Nat} (h : j ≠ n) : (s.setAin n x).ain j = s.ain j := Tab.get_set_ne _ _ _ h _
@[simp] theorem reg_setFin (s : State) (n : Nat) (x : FinIn) (k : Nat) : (s.setFin n x).reg k = s.reg k := rfl
@[simp] theorem blob_setFin (s : State) (n : Nat) (x : FinIn) (k : Nat) : (s.setFin n x).blob k = s.blob k := rfl
@[simp] theorem tick_setFin (s : State) (n : Nat) (x : FinIn) : (s.setFin n x).tick = s.tick := rfl
@[simp] theorem fin_setFin (s : State) (n : Nat) (x : FinIn) : (s.setFin n x).fin n = x := Tab.get_set_self _ _ _ _
theorem fin_setFin_ne (s : State) (n : Nat) (x : FinIn) {j : Nat} (h : j ≠ n) : (s.setFin n x).fin j = s.fin j := Tab.get_set_ne _ _ _ h _
@[simp] theorem reg_setAcu (s : State) (n : Nat) (x : Acu) (k : Nat) : (s.setAcu n x).reg k = s.reg k := rfl
@[simp] theorem blob_setAcu (s : State) (n : Nat) (x : Acu) (k : Nat) : (s.setAcu n x).blob k = s.blob k := rfl
@[simp] theorem tick_setAcu (s : State) (n : Nat) (x : Acu) : (s.setAcu n x).tick = s.tick := rfl
@[simp] theorem acu_setAcu (s : State) (n : Nat) (x : Acu) : (s.setAcu n x).acu n = x := Tab.get_set_self _ _ _ _
theorem acu_setAcu_ne (s : State) (n : Nat) (x : Acu) {j : Nat} (h : j ≠ n) : (s.setAcu n x).acu j = s.acu j := Tab.get_set_ne _ _ _ h _
@[simp] theorem reg_setBrg (s : State) (n : Nat) (x : Brg) (k : Nat) : (s.setBrg n x).reg k = s.reg k := rfl
@[simp] theorem blob_setBrg (s : State) (n : Nat) (x : Brg) (k : Nat) : (s.setBrg n x).blob k = s.blob k := rfl
@[simp] theorem tick_setBrg (s : State) (n : Nat) (x : Brg) : (s.setBrg n x).tick = s.tick := rfl
@[simp] theorem brg_setBrg (s : State) (n : Nat) (x : Brg) : (s.setBrg n x).brg n = x := Tab.get_set_self _ _ _ _
theorem brg_setBrg_ne (s : State) (n : Nat) (x : Brg) {j : Nat} (h : j ≠ n) : (s.setBrg n x).brg j = s.brg j := Tab.get_set_ne _ _ _ h _
@[simp] theorem reg_setCtx (s : State) (n : Nat) (x : Ctx) (k : Nat) : (s.setCtx n x).reg k = s.reg k := rfl
@[simp] theorem blob_setCtx (s : State) (n : Nat) (x : Ctx) (k : Nat) : (s.setCtx n x).blob k = s.blob k := rfl
@[simp] theorem tick_setCtx (s : State) (n : Nat) (x : Ctx) : (s.setCtx n x).tick = s.tick := rfl
@[simp] theorem ctx_setCtx (s : State) (n : Nat) (x : Ctx) : (s.setCtx n x).ctx n = x := Tab.get_set_self _ _ _ _
theorem ctx_setCtx_ne (s : State) (n : Nat) (x : Ctx) {j : Nat} (h : j ≠ n) : (s.setCtx n x).ctx j = s.ctx j := Tab.get_set_ne _ _ _ h _
@[simp] theorem reg_setCapture (s : State) (b : Nat) (x : Capture) (k : Nat) : (s.setCapture b x).reg k = s.reg k := rfl
@[simp] theorem blob_setCapture (s : State) (b : Nat) (x : Capture) (k : Nat) : (s.setCapture b x).blob k = s.blob k := rfl
@[simp] theorem tick_setCapture (s : State) (b : Nat) (x : Capture) : (s.setCapture b x).tick = s.tick := rfl
@[simp] theorem capture_setCapture (s : State) (b : Nat) (x : Capture) : (s.setCapture b x).capture b = x := Tab.get_set_self _ _ _ _
theorem capture_setCapture_ne (s : State) (b : Nat) (x : Capture) {j : Nat} (h : j ≠ b) : (s.setCapture b x).capture j = s.capture j := Tab.get_set_ne _ _ _ h _
@[simp] theorem reg_setCam (s : State) (n : Nat) (x : Cam) (k : Nat) : (s.setCam n x).reg k = s.reg k := rfl
@[simp] theorem blob_setCam (s : State) (n : Nat) (x : Cam) (k : Nat) : (s.setCam n x).blob k = s.blob k := rfl
@[simp] theorem tick_setCam (s : State) (n : Nat) (x : Cam) : (s.setCam n x).tick = s.tick := rfl
@[simp] theorem cam_setCam (s : State) (n : Nat) (x : Cam) : (s.setCam n x).cam n = x := Tab.get_set_self _ _ _ _
theorem cam_setCam_ne (s : State) (n : Nat) (x : Cam) {j : Nat} (h : j ≠ n) : (s.setCam n x).cam j = s.cam j := Tab.get_set_ne _ _ _ h _
@[simp] theorem reg_setFsync (s : State) (o : Nat) (x : Fsync) (k : Nat) : (s.setFsync o x).reg k = s.reg k := rfl
@[simp] theorem blob_setFsync (s : State) (o : Nat) (x : Fsync) (k : Nat) : (s.setFsync o x).blob k = s.blob k := rfl
@[simp] theorem tick_setFsync (s : State) (o : Nat) (x : Fsync) : (s.setFsync o x).tick = s.tick := rfl
@[simp] theorem fsyncOut_setFsync (s : State) (o : Nat) (x : Fsync) : (s.setFsync o x).fsyncOut o = x := Tab.get_set_self _ _ _ _
theorem fsyncOut_setFsync_ne (s : State) (o : Nat) (x : Fsync) {j : Nat} (h : j ≠ o) : (s.setFsync o x).fsyncOut j = s.fsyncOut j := Tab.get_set_ne _ _ _ h _
@[simp] theorem reg_setStream (s : State) (k : Nat) (x : Stream) (j : Nat) : (s.setStream k x).reg j = s.reg j := rfl
@[simp] theorem blob_setStream (s : State) (k : Nat) (x : Stream) (j : Nat) : (s.setStream k x).blob j = s.blob j := rfl
@[simp] theorem tick_setStream (s : State) (k : Nat) (x : Stream) : (s.setStream k x).tick = s.tick := rfl
@[simp] theorem stream_setStream (s : State) (k : Nat) (x : Stream) : (s.setStream k x).stream k = x := Tab.get_set_self _ _ _ _
theorem stream_setStream_ne (s : State) (k : Nat) (x : Stream) {j : Nat} (h : j ≠ k) : (s.setStream k x).stream j = s.stream j := Tab.get_set_ne _ _ _ h _
@[simp] theorem reg_setAlign (s : State) (n : Nat) (x : Align) (k : Nat) : (s.setAlign n x).reg k = s.reg k := rfl
@[simp] theorem blob_setAlign (s : State) (n : Nat) (x : Align) (k : Nat) : (s.setAlign n x).blob k = s.blob k := rfl
@[simp] theorem tick_setAlign (s : State) (n : Nat) (x : Align) : (s.setAlign n x).tick = s.tick := rfl
@[simp] theorem alignOf_setAlign (s : State) (n : Nat) (x : Align) : (s.setAlign n x).alignOf n = x := Tab.get_set_self _ _ _ _
theorem alignOf_setAlign_ne (s : State) (n : Nat) (x : Align) {j : Nat} (h : j ≠ n) : (s.setAlign n x).alignOf j = s.alignOf j := Tab.get_set_ne _ _ _ h _
@[simp] theorem reg_setFuse (s : State) (x : Fuse) (k : Nat) : (s.setFuse x).reg k = s.reg k := rfl
@[simp] theorem blob_setFuse (s : State) (x : Fuse) (k : Nat) : (s.setFuse x).blob k = s.blob k := rfl
@[simp] theorem tick_setFuse (s : State) (x : Fuse) : (s.setFuse x).tick = s.tick := rfl
@[simp] theorem reg_setSection (s : State) (n : Nat) (x : Section) (k : Nat) : (s.setSection n x).reg k = s.reg k := rfl
@[simp] theorem blob_setSection (s : State) (n : Nat) (x : Section) (k : Nat) : (s.setSection n x).blob k = s.blob k := rfl
@[simp] theorem tick_setSection (s : State) (n : Nat) (x : Section) : (s.setSection n x).tick = s.tick := rfl
@[simp] theorem section_setSection (s : State) (n : Nat) (x : Section) : (s.setSection n x).section n = x := Tab.get_set_self _ _ _ _
theorem section_setSection_ne (s : State) (n : Nat) (x : Section) {j : Nat} (h : j ≠ n) : (s.setSection n x).section j = s.section j := Tab.get_set_ne _ _ _ h _
@[simp] theorem reg_setTile (s : State) (k : Nat) (x : CovTile) (j : Nat) : (s.setTile k x).reg j = s.reg j := rfl
@[simp] theorem blob_setTile (s : State) (k : Nat) (x : CovTile) (j : Nat) : (s.setTile k x).blob j = s.blob j := rfl
@[simp] theorem tick_setTile (s : State) (k : Nat) (x : CovTile) : (s.setTile k x).tick = s.tick := rfl
@[simp] theorem tile_setTile (s : State) (k : Nat) (x : CovTile) : (s.setTile k x).tile k = x := Tab.get_set_self _ _ _ _
theorem tile_setTile_ne (s : State) (k : Nat) (x : CovTile) {j : Nat} (h : j ≠ k) : (s.setTile k x).tile j = s.tile j := Tab.get_set_ne _ _ _ h _
@[simp] theorem reg_setClient (s : State) (c : Nat) (x : TcClient) (k : Nat) : (s.setClient c x).reg k = s.reg k := rfl
@[simp] theorem blob_setClient (s : State) (c : Nat) (x : TcClient) (k : Nat) : (s.setClient c x).blob k = s.blob k := rfl
@[simp] theorem tick_setClient (s : State) (c : Nat) (x : TcClient) : (s.setClient c x).tick = s.tick := rfl
@[simp] theorem client_setClient (s : State) (c : Nat) (x : TcClient) : (s.setClient c x).client c = x := Tab.get_set_self _ _ _ _
theorem client_setClient_ne (s : State) (c : Nat) (x : TcClient) {j : Nat} (h : j ≠ c) : (s.setClient c x).client j = s.client j := Tab.get_set_ne _ _ _ h _
@[simp] theorem reg_setImage (s : State) (n : Nat) (x : FwImage) (k : Nat) : (s.setImage n x).reg k = s.reg k := rfl
@[simp] theorem blob_setImage (s : State) (n : Nat) (x : FwImage) (k : Nat) : (s.setImage n x).blob k = s.blob k := rfl
@[simp] theorem tick_setImage (s : State) (n : Nat) (x : FwImage) : (s.setImage n x).tick = s.tick := rfl
@[simp] theorem reg_setSdo (s : State) (p : Nat) (x : Sdo) (k : Nat) : (s.setSdo p x).reg k = s.reg k := rfl
@[simp] theorem blob_setSdo (s : State) (p : Nat) (x : Sdo) (k : Nat) : (s.setSdo p x).blob k = s.blob k := rfl
@[simp] theorem tick_setSdo (s : State) (p : Nat) (x : Sdo) : (s.setSdo p x).tick = s.tick := rfl
@[simp] theorem sdoOf_setSdo (s : State) (p : Nat) (x : Sdo) : (s.setSdo p x).sdoOf p = x := Tab.get_set_self _ _ _ _
theorem sdoOf_setSdo_ne (s : State) (p : Nat) (x : Sdo) {j : Nat} (h : j ≠ p) : (s.setSdo p x).sdoOf j = s.sdoOf j := Tab.get_set_ne _ _ _ h _
@[simp] theorem reg_setDom (s : State) (d : Nat) (x : Domain) (k : Nat) : (s.setDom d x).reg k = s.reg k := rfl
@[simp] theorem blob_setDom (s : State) (d : Nat) (x : Domain) (k : Nat) : (s.setDom d x).blob k = s.blob k := rfl
@[simp] theorem tick_setDom (s : State) (d : Nat) (x : Domain) : (s.setDom d x).tick = s.tick := rfl
@[simp] theorem dom_setDom (s : State) (d : Nat) (x : Domain) : (s.setDom d x).dom d = x := Tab.get_set_self _ _ _ _
theorem dom_setDom_ne (s : State) (d : Nat) (x : Domain) {j : Nat} (h : j ≠ d) : (s.setDom d x).dom j = s.dom j := Tab.get_set_ne _ _ _ h _
@[simp] theorem reg_setEth (s : State) (p : Nat) (x : EthPort) (k : Nat) : (s.setEth p x).reg k = s.reg k := rfl
@[simp] theorem blob_setEth (s : State) (p : Nat) (x : EthPort) (k : Nat) : (s.setEth p x).blob k = s.blob k := rfl
@[simp] theorem tick_setEth (s : State) (p : Nat) (x : EthPort) : (s.setEth p x).tick = s.tick := rfl
@[simp] theorem eth_setEth (s : State) (p : Nat) (x : EthPort) : (s.setEth p x).eth p = x := Tab.get_set_self _ _ _ _
theorem eth_setEth_ne (s : State) (p : Nat) (x : EthPort) {j : Nat} (h : j ≠ p) : (s.setEth p x).eth j = s.eth j := Tab.get_set_ne _ _ _ h _
@[simp] theorem reg_setYield (s : State) (y : Yield) (k : Nat) : (s.setYield y).reg k = s.reg k := rfl
@[simp] theorem blob_setYield (s : State) (y : Yield) (k : Nat) : (s.setYield y).blob k = s.blob k := rfl
@[simp] theorem tick_setYield (s : State) (y : Yield) : (s.setYield y).tick = s.tick := rfl
@[simp] theorem reg_setPanel (s : State) (x : Panel) (k : Nat) : (s.setPanel x).reg k = s.reg k := rfl
@[simp] theorem blob_setPanel (s : State) (x : Panel) (k : Nat) : (s.setPanel x).blob k = s.blob k := rfl
@[simp] theorem tick_setPanel (s : State) (x : Panel) : (s.setPanel x).tick = s.tick := rfl
@[simp] theorem reg_setTag (s : State) (x : Tag) (k : Nat) : (s.setTag x).reg k = s.reg k := rfl
@[simp] theorem blob_setTag (s : State) (x : Tag) (k : Nat) : (s.setTag x).blob k = s.blob k := rfl
@[simp] theorem tick_setTag (s : State) (x : Tag) : (s.setTag x).tick = s.tick := rfl
@[simp] theorem reg_setZone (s : State) (n : Nat) (x : Zone) (k : Nat) : (s.setZone n x).reg k = s.reg k := rfl
@[simp] theorem blob_setZone (s : State) (n : Nat) (x : Zone) (k : Nat) : (s.setZone n x).blob k = s.blob k := rfl
@[simp] theorem tick_setZone (s : State) (n : Nat) (x : Zone) : (s.setZone n x).tick = s.tick := rfl
@[simp] theorem zone_setZone (s : State) (n : Nat) (x : Zone) : (s.setZone n x).zone n = x := Tab.get_set_self _ _ _ _
theorem zone_setZone_ne (s : State) (n : Nat) (x : Zone) {j : Nat} (h : j ≠ n) : (s.setZone n x).zone j = s.zone j := Tab.get_set_ne _ _ _ h _
@[simp] theorem reg_setFan (s : State) (f : Nat) (x : Fan) (k : Nat) : (s.setFan f x).reg k = s.reg k := rfl
@[simp] theorem blob_setFan (s : State) (f : Nat) (x : Fan) (k : Nat) : (s.setFan f x).blob k = s.blob k := rfl
@[simp] theorem tick_setFan (s : State) (f : Nat) (x : Fan) : (s.setFan f x).tick = s.tick := rfl
@[simp] theorem fan_setFan (s : State) (f : Nat) (x : Fan) : (s.setFan f x).fan f = x := Tab.get_set_self _ _ _ _
theorem fan_setFan_ne (s : State) (f : Nat) (x : Fan) {j : Nat} (h : j ≠ f) : (s.setFan f x).fan j = s.fan j := Tab.get_set_ne _ _ _ h _

end Sys2Proof.Machine
end

