-- ==== Sys2Proof/Laws/Shared.lean ====
section
/-!
SUPPORT. What the shared operations do to the entries: the journal's operations change none but NextJournalSeq, an offered record
changes none, and the admission of a record changes none but those of the Fleet Book and the fleet link.
-/
namespace Sys2Proof.Machine
open Sys2Proof

/-! ### The journal -/

@[simp] theorem reg_jwrite (s : State) (r : JRec) (k : Nat) : (s.jwrite r).reg k = s.reg k := by
  unfold State.jwrite
  split <;> rfl

@[simp] theorem blob_jwrite (s : State) (r : JRec) (k : Nat) : (s.jwrite r).blob k = s.blob k := by
  unfold State.jwrite
  split <;> rfl

@[simp] theorem tick_jwrite (s : State) (r : JRec) : (s.jwrite r).tick = s.tick := by
  unfold State.jwrite
  split <;> rfl

@[simp] theorem now_jwrite (s : State) (r : JRec) : (s.jwrite r).now = s.now := by
  unfold State.jwrite
  split <;> rfl

@[simp] theorem reg_mapItem (s : State) (q : Nat) (f : Item → Item) (k : Nat) : (s.mapItem q f).reg k = s.reg k := rfl
@[simp] theorem blob_mapItem (s : State) (q : Nat) (f : Item → Item) (k : Nat) : (s.mapItem q f).blob k = s.blob k := rfl
@[simp] theorem tick_mapItem (s : State) (q : Nat) (f : Item → Item) : (s.mapItem q f).tick = s.tick := rfl
@[simp] theorem now_mapItem (s : State) (q : Nat) (f : Item → Item) : (s.mapItem q f).now = s.now := rfl
@[simp] theorem reg_startItem (s : State) (q k : Nat) : (s.startItem q).reg k = s.reg k := rfl
@[simp] theorem blob_startItem (s : State) (q k : Nat) : (s.startItem q).blob k = s.blob k := rfl

@[simp] theorem reg_finish (s : State) (q : Nat) (o : Outcome) (d k : Nat) : (s.finish q o d).reg k = s.reg k := by
  unfold State.finish
  split
  · split
    · rfl
    · simp
  · rfl

@[simp] theorem blob_finish (s : State) (q : Nat) (o : Outcome) (d k : Nat) : (s.finish q o d).blob k = s.blob k := by
  unfold State.finish
  split
  · split
    · rfl
    · simp
  · rfl

@[simp] theorem tick_finish (s : State) (q : Nat) (o : Outcome) (d : Nat) : (s.finish q o d).tick = s.tick := by
  unfold State.finish
  split
  · split
    · rfl
    · simp
  · rfl

@[simp] theorem reg_finishOpt (s : State) (q : Option Nat) (o : Outcome) (d k : Nat) : (s.finishOpt q o d).reg k = s.reg k := by
  cases q <;> simp [State.finishOpt]

@[simp] theorem reg_finishAll (s : State) (l : List Nat) (o : Outcome) (d k : Nat) : (s.finishAll l o d).reg k = s.reg k := by
  unfold State.finishAll
  induction l generalizing s with
  | nil => rfl
  | cons x t ih =>
    rw [List.foldl_cons, ih]
    simp

@[simp] theorem blob_finishAll (s : State) (l : List Nat) (o : Outcome) (d k : Nat) : (s.finishAll l o d).blob k = s.blob k := by
  unfold State.finishAll
  induction l generalizing s with
  | nil => rfl
  | cons x t ih =>
    rw [List.foldl_cons, ih]
    simp

@[simp] theorem reg_cancelAimed (s : State) (a k : Nat) : (s.cancelAimed a).reg k = s.reg k := by simp [State.cancelAimed]
@[simp] theorem blob_cancelAimed (s : State) (a k : Nat) : (s.cancelAimed a).blob k = s.blob k := by simp [State.cancelAimed]
@[simp] theorem reg_updSource (s : State) (q : Nat) (f : Source → Source) (k : Nat) : (s.updSource q f).reg k = s.reg k := rfl
@[simp] theorem reg_beginDisable (s : State) (a q d k : Nat) : (s.beginDisable a q d).reg k = s.reg k := rfl

@[simp] theorem reg_allocSource (s : State) (id k : Nat) : (s.allocSource id).reg k = s.reg k := by
  unfold State.allocSource
  split <;> rfl

@[simp] theorem reg_endDisable (s : State) (a k : Nat) : (s.endDisable a).reg k = s.reg k := by
  simp [State.endDisable]

/-- Acceptance advances NextJournalSeq and changes no other entry. -/
theorem reg_accept (s : State) (slot src : Nat) (acc : Access) (idx sub : Nat) (ty : Ty) (d : Bytes) (aim k : Nat) :
    (s.accept slot src acc idx sub ty d aim).reg k =
      if k = K.nextJournalSeq then ((s.regN K.nextJournalSeq + 1 : Nat) : Int) else s.reg k := by
  have h : (s.allocSource src).regN K.nextJournalSeq = s.regN K.nextJournalSeq := by
    unfold State.regN
    rw [reg_allocSource]
  simp only [State.accept, reg_jwrite, h]
  rw [reg_setReg]
  split
  · rfl
  · exact reg_allocSource _ _ _

/-! ### Records -/

/-- The objects that a record may change: the status of the Fleet Book (0x2200, 0x2201) and of the fleet link (0x6201). -/
def logKey (k : Nat) : Bool :=
  (decide (K.bookState ≤ k + 1) && decide (k < 0x2202 * 256)) || (decide (0x6201 * 256 ≤ k) && decide (k < 0x6202 * 256))

theorem reg_publish {k : Nat} (hk : logKey k = false) (s : State) (m : Msg) : (s.publish m).reg k = s.reg k := by
  simp [logKey] at hk
  unfold State.publish
  split
  · rfl
  · split
    · simp [reg_bump]
      omega
    · simp [reg_bumpBy, reg_setReg]
      omega

theorem reg_alert {k : Nat} (hk : logKey k = false) (s : State) (r : Rec) : (s.alert r).reg k = s.reg k := by
  unfold State.alert
  split
  · exact reg_publish hk _ _
  · rfl

@[simp] theorem reg_circulate (s : State) (k : Nat) : s.circulate.reg k = s.reg k := by
  unfold State.circulate
  extract_lets b tail
  split <;> rfl

@[simp] theorem reg_clearUpTo (s : State) (r : Rec) (k : Nat) : (s.clearUpTo r).reg k = s.reg k := rfl
@[simp] theorem reg_noteFault (s : State) (so u i b k : Nat) : (s.noteFault so u i b).reg k = s.reg k := rfl

theorem reg_admit {k : Nat} (hk : logKey k = false) (s : State) (t tk so c u : Nat) (p : Bytes) :
    (s.admitRecord t tk so c u p).reg k = s.reg k := by
  have h : k ≠ K.nextRecordSeq := by
    simp [logKey] at hk
    simp
    omega
  have hd (s' : State) (f : State → Book) : ({ s' with book := f s' } : State).reg k = s'.reg k := rfl
  simp only [State.admitRecord, reg_alert hk]
  split_ifs <;> simp [reg_setReg, h, hd]

theorem reg_suppress {k so : Nat} (hk : logKey k = false) (hs : so ≤ 21) (s : State) : (s.suppress so).reg k = s.reg k := by
  simp [logKey] at hk
  unfold State.suppress
  simp [reg_bump, reg_setReg]
  omega

theorem reg_admitRec {k : Nat} (hk : logKey k = false) (s : State) (r : Rec) : (s.admitRec r).reg k = s.reg k :=
  reg_admit hk _ _ _ _ _ _ _

/-- An offered record that is admitted, held or suppressed changes no entry but those of the book and the fleet link. -/
theorem reg_admitOffer {k : Nat} (hk : logKey k = false) (s : State) {r : Rec} (hr : r.source ≤ 21) :
    (s.admitOffer r).reg k = s.reg k := by
  have h : k ≠ K.bookState := by
    simp [logKey] at hk
    simp
    omega
  have hs (s' : State) : (if s'.book.staged.length < 1024 then s' else if s'.reg K.bookState = 3 then s' else
      s'.setReg K.bookState 1).reg k = s'.reg k := by
    repeat' split
    all_goals first | rfl | exact reg_setReg_ne h _ _
  unfold State.admitOffer
  split
  · split
    · exact reg_suppress hk hr s
    · exact reg_admitRec hk s r
  split
  · exact reg_admitRec hk s r
  extract_lets s1
  have h1 : s1.reg k = s.reg k := hs s
  clear_value s1
  split
  · split
    · exact (reg_admitRec hk s1 r).trans h1
    · exact h1
  · exact (reg_suppress hk hr s1).trans h1

theorem source_bySource {l : List Rec} {r : Rec} (h : r ∈ bySource l) : r.source ≤ 21 := by
  obtain ⟨i, hi, hr⟩ := List.mem_flatMap.1 h
  have h1 := List.mem_range.1 hi
  have h2 := (List.mem_filter.1 hr).2
  simp only [beq_iff_eq] at h2
  omega

/-- The admission of the records of a tick changes no entry but those of the book and the fleet link. -/
theorem reg_admitOffers {k : Nat} (hk : logKey k = false) (s : State) : s.admitOffers.reg k = s.reg k := by
  have hf (l : List Rec) (hl : ∀ r ∈ l, r.source ≤ 21) (s' : State) : (l.foldl State.admitOffer s').reg k = s'.reg k := by
    induction l generalizing s' with
    | nil => rfl
    | cons x t ih =>
      rw [List.foldl_cons, ih (fun r hr => hl r (List.mem_cons_of_mem _ hr)), reg_admitOffer hk _ (hl x List.mem_cons_self)]
  unfold State.admitOffers
  split
  · rfl
  · exact hf _ (fun r hr => source_bySource hr) _

/-- An offer only joins the records of its tick: it changes the book and nothing else. -/
theorem offerAt_fields (s : State) (t tk : Nat) (so : Src) (c u : Nat) (p : Bytes) :
    s.offerAt t tk so c u p = { s with book := (s.offerAt t tk so c u p).book } := by
  unfold State.offerAt
  split <;> rfl

@[simp] theorem reg_offerAt (s : State) (t tk : Nat) (so : Src) (c u : Nat) (p : Bytes) (k : Nat) :
    (s.offerAt t tk so c u p).reg k = s.reg k := by
  rw [offerAt_fields]
  rfl

@[simp] theorem reg_offer (s : State) (so : Src) (c u : Nat) (p : Bytes) (k : Nat) : (s.offer so c u p).reg k = s.reg k :=
  reg_offerAt _ _ _ _ _ _ _ _

/-- An OBJECT_EVENT record changes no entry. -/
@[simp] theorem reg_event (s : State) (so : Src) (u idx sub d k : Nat) : (s.event so u idx sub d).reg k = s.reg k :=
  reg_offer _ _ _ _ _ _

@[simp] theorem reg_eventKey (s : State) (so : Src) (u e d k : Nat) : (s.eventKey so u e d).reg k = s.reg k :=
  reg_event _ _ _ _ _ _ _

end Sys2Proof.Machine
end

