-- ==== Sys2Proof/Laws/Requests.lean ====
section
/-!
SUPPORT. What an accepted write is: the state that the acceptance leaves (State.afterAccept) keeps every field but the journal,
the sessions and the numeric entries that the acceptance names, and the entry's rule takes its effect on it.
-/
namespace Sys2Proof.Machine
open Sys2Proof

theorem acceptWrite_effect (s : State) (slot : Nat) (q : WriteReq) (r : WriteRule) :
    s.acceptWrite slot q r = r.effect (s.afterAccept slot q r) slot (s.regN K.nextJournalSeq) q.data := rfl

/-- A write that passes every check is carried out and answered. -/
theorem request_accepted {s : State} {slot idx sub : Nat} {d : Bytes} {r : WriteRule} (h : Writable s slot idx sub d r) :
    s.request slot idx sub d r =
      (r.effect ((s.heard slot).afterAccept slot ⟨idx, sub, 0, d⟩ r) slot (s.regN K.nextJournalSeq) d).respond
        (s.sessionId slot) (s.sess slot).lastSeq 0x11 idx sub (s.entryType idx sub) ⟨0, s.regN K.nextJournalSeq⟩ := by
  obtain ⟨h1, h2, h3, h4⟩ := h
  unfold State.request
  have hn : (s.heard slot).regN K.nextJournalSeq = s.regN K.nextJournalSeq := rfl
  simp only [h1, h2, Bool.not_true, Bool.false_eq_true, if_false, h3, State.submit, h4, acceptWrite_effect, hn]

theorem jwrite_fields (s : State) (r : JRec) : s.jwrite r = { s with jr := (s.jwrite r).jr } := by
  unfold State.jwrite
  split <;> rfl

theorem allocSource_fields (s : State) (i : Nat) : s.allocSource i = { s with jr := (s.allocSource i).jr } := by
  unfold State.allocSource
  split <;> rfl

/-- An acceptance changes the numeric entries and the journal; no other field. -/
theorem accept_fields (s : State) (slot src : Nat) (acc : Access) (idx sub : Nat) (ty : Ty) (d : Bytes) (aim : Nat) :
    s.accept slot src acc idx sub ty d aim =
      { s with regs := (s.accept slot src acc idx sub ty d aim).regs, jr := (s.accept slot src acc idx sub ty d aim).jr } := by
  simp only [State.accept]
  rw [jwrite_fields]
  rw [show ∀ a : State, a.updSource = fun i f => { a with jr := (a.updSource i f).jr } from fun a => rfl]
  simp only []
  have h := allocSource_fields s src
  generalize s.allocSource src = a at h ⊢
  rw [h]
  rfl

theorem afterAccept_fields (s : State) (slot : Nat) (q : WriteReq) (r : WriteRule) :
    s.afterAccept slot q r = { s with
      regs := (s.afterAccept slot q r).regs, jr := (s.afterAccept slot q r).jr, sessions := (s.afterAccept slot q r).sessions } := by
  unfold State.afterAccept
  simp only []
  rw [accept_fields]
  split <;> rfl

theorem reg_afterAccept (s : State) (slot : Nat) (q : WriteReq) (r : WriteRule) (hl : r.long = none) (k : Nat) :
    (s.afterAccept slot q r).reg k = if k = K.nextJournalSeq then ((s.regN K.nextJournalSeq + 1 : Nat) : Int) else s.reg k := by
  unfold State.afterAccept
  simp only [hl]
  rw [← reg_accept]
  rfl

@[simp] theorem blobs_afterAccept (s : State) (slot : Nat) (q : WriteReq) (r : WriteRule) : (s.afterAccept slot q r).blobs = s.blobs := by
  rw [afterAccept_fields]

@[simp] theorem sdo_afterAccept (s : State) (slot : Nat) (q : WriteReq) (r : WriteRule) : (s.afterAccept slot q r).sdo = s.sdo := by
  rw [afterAccept_fields]

@[simp] theorem lastReply_afterAccept (s : State) (slot : Nat) (q : WriteReq) (r : WriteRule) : (s.afterAccept slot q r).lastReply = s.lastReply := by
  rw [afterAccept_fields]

@[simp] theorem lastSdo_afterAccept (s : State) (slot : Nat) (q : WriteReq) (r : WriteRule) : (s.afterAccept slot q r).lastSdo = s.lastSdo := by
  rw [afterAccept_fields]

@[simp] theorem ifcPending_afterAccept (s : State) (slot : Nat) (q : WriteReq) (r : WriteRule) : (s.afterAccept slot q r).ifcPending = s.ifcPending := by
  rw [afterAccept_fields]

@[simp] theorem clock_afterAccept (s : State) (slot : Nat) (q : WriteReq) (r : WriteRule) : (s.afterAccept slot q r).clock = s.clock := by
  rw [afterAccept_fields]

@[simp] theorem net_afterAccept (s : State) (slot : Nat) (q : WriteReq) (r : WriteRule) : (s.afterAccept slot q r).net = s.net := by
  rw [afterAccept_fields]

@[simp] theorem book_afterAccept (s : State) (slot : Nat) (q : WriteReq) (r : WriteRule) : (s.afterAccept slot q r).book = s.book := by
  rw [afterAccept_fields]

@[simp] theorem nonces_afterAccept (s : State) (slot : Nat) (q : WriteReq) (r : WriteRule) : (s.afterAccept slot q r).nonces = s.nonces := by
  rw [afterAccept_fields]

@[simp] theorem windows_afterAccept (s : State) (slot : Nat) (q : WriteReq) (r : WriteRule) : (s.afterAccept slot q r).windows = s.windows := by
  rw [afterAccept_fields]

@[simp] theorem fleet_afterAccept (s : State) (slot : Nat) (q : WriteReq) (r : WriteRule) : (s.afterAccept slot q r).fleet = s.fleet := by
  rw [afterAccept_fields]

@[simp] theorem axes_afterAccept (s : State) (slot : Nat) (q : WriteReq) (r : WriteRule) : (s.afterAccept slot q r).axes = s.axes := by
  rw [afterAccept_fields]

@[simp] theorem cues_afterAccept (s : State) (slot : Nat) (q : WriteReq) (r : WriteRule) : (s.afterAccept slot q r).cues = s.cues := by
  rw [afterAccept_fields]

@[simp] theorem lines_afterAccept (s : State) (slot : Nat) (q : WriteReq) (r : WriteRule) : (s.afterAccept slot q r).lines = s.lines := by
  rw [afterAccept_fields]

@[simp] theorem deferred_afterAccept (s : State) (slot : Nat) (q : WriteReq) (r : WriteRule) : (s.afterAccept slot q r).deferred = s.deferred := by
  rw [afterAccept_fields]

@[simp] theorem lastAct_afterAccept (s : State) (slot : Nat) (q : WriteReq) (r : WriteRule) : (s.afterAccept slot q r).lastAct = s.lastAct := by
  rw [afterAccept_fields]

@[simp] theorem impls_afterAccept (s : State) (slot : Nat) (q : WriteReq) (r : WriteRule) : (s.afterAccept slot q r).impls = s.impls := by
  rw [afterAccept_fields]

@[simp] theorem sections_afterAccept (s : State) (slot : Nat) (q : WriteReq) (r : WriteRule) : (s.afterAccept slot q r).sections = s.sections := by
  rw [afterAccept_fields]

@[simp] theorem cov_afterAccept (s : State) (slot : Nat) (q : WriteReq) (r : WriteRule) : (s.afterAccept slot q r).cov = s.cov := by
  rw [afterAccept_fields]

@[simp] theorem tc_afterAccept (s : State) (slot : Nat) (q : WriteReq) (r : WriteRule) : (s.afterAccept slot q r).tc = s.tc := by
  rw [afterAccept_fields]

@[simp] theorem sv_afterAccept (s : State) (slot : Nat) (q : WriteReq) (r : WriteRule) : (s.afterAccept slot q r).sv = s.sv := by
  rw [afterAccept_fields]

@[simp] theorem ls_afterAccept (s : State) (slot : Nat) (q : WriteReq) (r : WriteRule) : (s.afterAccept slot q r).ls = s.ls := by
  rw [afterAccept_fields]

@[simp] theorem feeds_afterAccept (s : State) (slot : Nat) (q : WriteReq) (r : WriteRule) : (s.afterAccept slot q r).feeds = s.feeds := by
  rw [afterAccept_fields]

@[simp] theorem maint_afterAccept (s : State) (slot : Nat) (q : WriteReq) (r : WriteRule) : (s.afterAccept slot q r).maint = s.maint := by
  rw [afterAccept_fields]

@[simp] theorem canBufs_afterAccept (s : State) (slot : Nat) (q : WriteReq) (r : WriteRule) : (s.afterAccept slot q r).canBufs = s.canBufs := by
  rw [afterAccept_fields]

@[simp] theorem canPorts_afterAccept (s : State) (slot : Nat) (q : WriteReq) (r : WriteRule) : (s.afterAccept slot q r).canPorts = s.canPorts := by
  rw [afterAccept_fields]

@[simp] theorem ctxs_afterAccept (s : State) (slot : Nat) (q : WriteReq) (r : WriteRule) : (s.afterAccept slot q r).ctxs = s.ctxs := by
  rw [afterAccept_fields]

@[simp] theorem caps_afterAccept (s : State) (slot : Nat) (q : WriteReq) (r : WriteRule) : (s.afterAccept slot q r).caps = s.caps := by
  rw [afterAccept_fields]

@[simp] theorem ains_afterAccept (s : State) (slot : Nat) (q : WriteReq) (r : WriteRule) : (s.afterAccept slot q r).ains = s.ains := by
  rw [afterAccept_fields]

@[simp] theorem fins_afterAccept (s : State) (slot : Nat) (q : WriteReq) (r : WriteRule) : (s.afterAccept slot q r).fins = s.fins := by
  rw [afterAccept_fields]

@[simp] theorem acus_afterAccept (s : State) (slot : Nat) (q : WriteReq) (r : WriteRule) : (s.afterAccept slot q r).acus = s.acus := by
  rw [afterAccept_fields]

@[simp] theorem brgs_afterAccept (s : State) (slot : Nat) (q : WriteReq) (r : WriteRule) : (s.afterAccept slot q r).brgs = s.brgs := by
  rw [afterAccept_fields]

@[simp] theorem imu_afterAccept (s : State) (slot : Nat) (q : WriteReq) (r : WriteRule) : (s.afterAccept slot q r).imu = s.imu := by
  rw [afterAccept_fields]

@[simp] theorem supplies_afterAccept (s : State) (slot : Nat) (q : WriteReq) (r : WriteRule) : (s.afterAccept slot q r).supplies = s.supplies := by
  rw [afterAccept_fields]

@[simp] theorem aligns_afterAccept (s : State) (slot : Nat) (q : WriteReq) (r : WriteRule) : (s.afterAccept slot q r).aligns = s.aligns := by
  rw [afterAccept_fields]

@[simp] theorem fuse_afterAccept (s : State) (slot : Nat) (q : WriteReq) (r : WriteRule) : (s.afterAccept slot q r).fuse = s.fuse := by
  rw [afterAccept_fields]

@[simp] theorem cams_afterAccept (s : State) (slot : Nat) (q : WriteReq) (r : WriteRule) : (s.afterAccept slot q r).cams = s.cams := by
  rw [afterAccept_fields]

@[simp] theorem fsync_afterAccept (s : State) (slot : Nat) (q : WriteReq) (r : WriteRule) : (s.afterAccept slot q r).fsync = s.fsync := by
  rw [afterAccept_fields]

@[simp] theorem streams_afterAccept (s : State) (slot : Nat) (q : WriteReq) (r : WriteRule) : (s.afterAccept slot q r).streams = s.streams := by
  rw [afterAccept_fields]

@[simp] theorem vision_afterAccept (s : State) (slot : Nat) (q : WriteReq) (r : WriteRule) : (s.afterAccept slot q r).vision = s.vision := by
  rw [afterAccept_fields]

@[simp] theorem cells_afterAccept (s : State) (slot : Nat) (q : WriteReq) (r : WriteRule) : (s.afterAccept slot q r).cells = s.cells := by
  rw [afterAccept_fields]

@[simp] theorem regions_afterAccept (s : State) (slot : Nat) (q : WriteReq) (r : WriteRule) : (s.afterAccept slot q r).regions = s.regions := by
  rw [afterAccept_fields]

@[simp] theorem slots_afterAccept (s : State) (slot : Nat) (q : WriteReq) (r : WriteRule) : (s.afterAccept slot q r).slots = s.slots := by
  rw [afterAccept_fields]

@[simp] theorem fabric_afterAccept (s : State) (slot : Nat) (q : WriteReq) (r : WriteRule) : (s.afterAccept slot q r).fabric = s.fabric := by
  rw [afterAccept_fields]

@[simp] theorem keys_afterAccept (s : State) (slot : Nat) (q : WriteReq) (r : WriteRule) : (s.afterAccept slot q r).keys = s.keys := by
  rw [afterAccept_fields]

@[simp] theorem challenges_afterAccept (s : State) (slot : Nat) (q : WriteReq) (r : WriteRule) : (s.afterAccept slot q r).challenges = s.challenges := by
  rw [afterAccept_fields]

@[simp] theorem island_afterAccept (s : State) (slot : Nat) (q : WriteReq) (r : WriteRule) : (s.afterAccept slot q r).island = s.island := by
  rw [afterAccept_fields]

@[simp] theorem yield_afterAccept (s : State) (slot : Nat) (q : WriteReq) (r : WriteRule) : (s.afterAccept slot q r).yield = s.yield := by
  rw [afterAccept_fields]

@[simp] theorem archive_afterAccept (s : State) (slot : Nat) (q : WriteReq) (r : WriteRule) : (s.afterAccept slot q r).archive = s.archive := by
  rw [afterAccept_fields]

@[simp] theorem rdv_afterAccept (s : State) (slot : Nat) (q : WriteReq) (r : WriteRule) : (s.afterAccept slot q r).rdv = s.rdv := by
  rw [afterAccept_fields]

@[simp] theorem panel_afterAccept (s : State) (slot : Nat) (q : WriteReq) (r : WriteRule) : (s.afterAccept slot q r).panel = s.panel := by
  rw [afterAccept_fields]

@[simp] theorem tag_afterAccept (s : State) (slot : Nat) (q : WriteReq) (r : WriteRule) : (s.afterAccept slot q r).tag = s.tag := by
  rw [afterAccept_fields]

@[simp] theorem zones_afterAccept (s : State) (slot : Nat) (q : WriteReq) (r : WriteRule) : (s.afterAccept slot q r).zones = s.zones := by
  rw [afterAccept_fields]

@[simp] theorem fans_afterAccept (s : State) (slot : Nat) (q : WriteReq) (r : WriteRule) : (s.afterAccept slot q r).fans = s.fans := by
  rw [afterAccept_fields]

@[simp] theorem power_afterAccept (s : State) (slot : Nat) (q : WriteReq) (r : WriteRule) : (s.afterAccept slot q r).power = s.power := by
  rw [afterAccept_fields]

@[simp] theorem fresh_afterAccept (s : State) (slot : Nat) (q : WriteReq) (r : WriteRule) : (s.afterAccept slot q r).fresh = s.fresh := by
  rw [afterAccept_fields]

@[simp] theorem pending_afterAccept (s : State) (slot : Nat) (q : WriteReq) (r : WriteRule) : (s.afterAccept slot q r).pending = s.pending := by
  rw [afterAccept_fields]

@[simp] theorem blob_afterAccept (s : State) (slot : Nat) (q : WriteReq) (r : WriteRule) (k : Nat) : (s.afterAccept slot q r).blob k = s.blob k := by
  unfold State.blob
  rw [blobs_afterAccept]

@[simp] theorem tick_afterAccept (s : State) (slot : Nat) (q : WriteReq) (r : WriteRule) : (s.afterAccept slot q r).tick = s.tick := by
  unfold State.tick
  rw [clock_afterAccept]

@[simp] theorem now_afterAccept (s : State) (slot : Nat) (q : WriteReq) (r : WriteRule) : (s.afterAccept slot q r).now = s.now := by
  unfold State.now
  rw [clock_afterAccept]

end Sys2Proof.Machine
end

