-- ==== Sys2Proof/Tests/Slice0.lean ====
section
/-!
SUPPORT. Named tests by evaluation. `wit_<statement>` shows states and operands that meet the hypotheses of a statement of
Certificates/Slice0/Obligations.lean; `test_<what>` runs one command on a small state, its expected result worked out from the rule that its
statement cites.
-/
set_option Elab.async false

namespace Sys2Proof.Tests
open Sys2Proof Sys2Proof.Machine

/-! ### Small states -/

/-- The logic runs and requests are served; safe off, which reset leaves (R554), has ended. -/
def tUp : State :=
  (({ State.reset with power := { State.reset.power with phase := .up } } : State).setReg K.powerState 1).setFlag K.powerFlags 5 false

theorem test_resetIsSafeOff : State.reset.flag K.powerFlags 5 = true := by decide +kernel

/-- A session with every role's right of `role` in slot `n`. -/
def tSess (s : State) (n role : Nat) : State :=
  s.setSess n { isOpen := true, generation := 3, sourceId := 0x31, role := role, lastSeq := 41 }

/-- The module serves UDP on VLAN 100, with a session in slot 7. -/
def tUdp : State := (tSess tUp 7 2).setReg (K.addressInUse 0) 0x0A000001

/-- A UDP request of session slot 7 in generation 3 (R56). -/
def tFrame (op flags idx sub ty : Nat) (data : Bytes) : Bytes :=
  Reply.bytes ⟨op, flags, 0x307, 42, idx, sub, ty, 0, 0, 0, data.length, data⟩

/-- An item in flight. -/
def tItem (seq srcSeq : Nat) (st : ItemState) : Item := ⟨seq, 0x31, srcSeq, 7, .rw, 0x1010, 6, 7, [], 0, st, 1, 0, 0⟩

def tItems (l : List Item) : State := { tUp with jr := { tUp.jr with items := l } }

/-- The result of a command has a property. -/
def after (c : Instr) (s : State) (p : State → Bool) : Bool :=
  match Machine.exec c s with
  | .next t => p t
  | _ => false

/-! ### The queue and requests -/

theorem wit_StepRunsFrontCommand : ({ State.reset with pending := [.watchdog, .axisSnapshot] } : State).pending = .watchdog :: [.axisSnapshot] := by
  decide

theorem wit_EmptyQueueStepIsOneTick : tUp.pending = [] ∧ tUp.power.phase = .up ∧ State.reset.pending = [] ∧ State.reset.power.phase ≠ .up := by
  decide +kernel

theorem wit_EveryStepKeepsCanonicalForm : Canonical tUp ∧ ∃ t, Machine.step tUp = .next t :=
  ⟨by decide +kernel, _, rfl⟩

theorem wit_NoCommandStopsTheBlock : Canonical tUdp := by decide +kernel

theorem wit_RefusedWriteLeavesNoItem :
    tUdp.serves = true ∧ (tUdp.sess (7 : Fin 16)).isOpen = true ∧ tUdp.reg K.busyState ≠ 1 ∧
    (tUdp.heard (7 : Fin 16)).checkWrite (7 : Fin 16) ⟨(0x1010 : BitVec 16).toNat, (6 : BitVec 8).toNat, 0, [1, 0]⟩ (ruleOf 0x1010 6) =
      some .valueLow := by decide +kernel

theorem wit_BusyInterfaceRefusesWrites :
    (tUdp.setReg K.busyState 1).serves = true ∧ ((tUdp.setReg K.busyState 1).sess (7 : Fin 16)).isOpen = true ∧
    (tUdp.setReg K.busyState 1).reg K.busyState = 1 := by decide +kernel

/-- 0x4012.03 of the worked example of chapter 03 (BoostDeferLimit to 300 us). -/
theorem wit_SettingsComeIntoForce_entry :
    (∃ chk, ruleOf 0x4012 3 = settingRule 0x4012 3 chk) ∧ tUdp.entryDesc 0x4012 3 ≠ none ∧
    Writable tUdp (7 : Fin 16) 0x4012 3 (leBytes 2 300) (ruleOf 0x4012 3) :=
  ⟨⟨_, rfl⟩, by decide +kernel, by decide +kernel⟩

theorem wit_SettingsComeIntoForce_restore :
    (∃ chk, settingOf 0x4012 3 = settingRule 0x4012 3 chk) ∧
    Writable (tUdp.setReg (key 0x4012 3) 300) (7 : Fin 16) 0x1040 0 (leBytes 2 0x4000) restoreRule ∧
    (((tUdp.setReg (key 0x4012 3) 300).taken (7 : Fin 16) 0x1040 0 (leBytes 2 0x4000) restoreRule).restoreList (7 : Fin 16)
      (wval (leBytes 2 0x4000))).map (fun p => (p.1, p.2.1)) = [((0x4012, 3), leBytes 2 200)] :=
  ⟨⟨_, rfl⟩, by decide +kernel, by decide +kernel⟩

theorem wit_SettingsComeIntoForce_interface :
    ({ tUp with ifcPending := [(K.sdoTimeout, 700, 5)] } : State).ifcPending = [(K.sdoTimeout, 700, 5)] := rfl

/-! ### UDP and SDO -/

theorem wit_Udp_open : UdpFrameOk tUdp 100 47920 (Reply.bytes ⟨1, 3, 0, 0, 0, 0, 0, 0, 0, 0, 4, leBytes 4 0x55⟩) opOpen ∧
    (udpReq (Reply.bytes ⟨1, 3, 0, 0, 0, 0, 0, 0, 0, 0, 4, leBytes 4 0x55⟩)).data = leBytes 4 0x55 ∧
    (tUdp.sess 8).isOpen = false ∧ tUdp.reg K.busyState ≠ 1 ∧ (tUdp.sess 7).isOpen = true ∧ (tUdp.sess 7).sourceId ≠ 0x55 := by
  decide +kernel

theorem wit_Udp_close : UdpFrameOk tUdp 100 47920 (tFrame 2 3 0 0 0 []) opClose ∧ UdpInSession tUdp (tFrame 2 3 0 0 0 []) 7 := by
  decide +kernel

theorem wit_Udp_keepalive :
    UdpFrameOk tUdp 100 47920 (tFrame 3 3 0 0 0 []) opKeepalive ∧ UdpInSession tUdp (tFrame 3 3 0 0 0 []) 7 := by decide +kernel

/-- The worked example of chapter 02: the busy operation is read. -/
theorem wit_Udp_read : UdpFrameOk tUdp 100 47920 (tFrame 0x10 3 0x1F00 2 0 []) opRead ∧
    UdpInSession tUdp (tFrame 0x10 3 0x1F00 2 0 []) 7 ∧ (udpReq (tFrame 0x10 3 0x1F00 2 0 [])).first = true ∧
    (udpReq (tFrame 0x10 3 0x1F00 2 0 [])).offset = 0 ∧
    (tUdp.counted 7 42).readValue 7 0x1F00 2 false 0 = (none, [0]) := by decide +kernel

theorem wit_Udp_write : UdpFrameOk tUdp 100 47920 (tFrame 0x11 3 0x4012 3 0 (leBytes 2 300)) opWrite ∧
    UdpInSession tUdp (tFrame 0x11 3 0x4012 3 0 (leBytes 2 300)) 7 ∧
    (udpReq (tFrame 0x11 3 0x4012 3 0 (leBytes 2 300))).last = true ∧
    (udpReq (tFrame 0x11 3 0x4012 3 0 (leBytes 2 300))).complete = false ∧
    (udpReq (tFrame 0x11 3 0x4012 3 0 (leBytes 2 300))).total = 2 ∧
    (udpReq (tFrame 0x11 3 0x4012 3 0 (leBytes 2 300))).data = leBytes 2 300 ∧ tUdp.isDomain 0x4012 3 = false ∧
    (((tUdp.counted 7 42).dropTransfer 7).dropTransfer 7).checkWrite 7 ⟨0x4012, 3, 0, leBytes 2 300⟩ (ruleOf 0x4012 3) = none := by
  decide +kernel

theorem wit_Udp_describe : UdpFrameOk tUdp 100 47920 (tFrame 0x12 3 0x1F00 2 0 []) opDescribe ∧
    UdpInSession tUdp (tFrame 0x12 3 0x1F00 2 0 []) 7 ∧ (tUdp.counted 7 42).indexPresent 0x1F00 = true ∧
    ((tUdp.counted 7 42).describe 0x1F00 2).isSome = true := by decide +kernel

theorem wit_Udp_abort : UdpFrameOk tUdp 100 47920 (tFrame 0x7F 3 0 0 0 []) opAbort ∧ UdpInSession tUdp (tFrame 0x7F 3 0 0 0 []) 7 := by
  decide +kernel

/-- Port 0's SDO server with an INTEGRATOR; `tSdo x` has transfer `x` running. -/
def tSdo (x : Sdo) : State := (tSess tUp 0 2).setSdo 0 x

/-- Expedited download of 0x4012.03, an upload of the busy state, segments and an abort, written out as CiA 301 lays them out. -/
theorem wit_Sdo_download :
    (tSdo Sdo.init).sdoOpen 0 = true ∧ ((tSdo Sdo.init).sdoOf 0).kind = .idle ∧ sdoCs (leBytes 8 0x0000012C0340122B) / 32 = 1 ∧
    sdoIdx (leBytes 8 0x0000012C0340122B) = 0x4012 ∧ sdoSub (leBytes 8 0x0000012C0340122B) = 3 ∧
    (((tSdo Sdo.init).sdoHeard 0).setSdo 0 Sdo.init).checkWrite 0 ⟨0x4012, 3, 0, field (leBytes 8 0x0000012C0340122B) 4 2⟩
      (ruleOf 0x4012 3) = none ∧ (tSdo Sdo.init).isDomain 0x4012 3 = false := by decide +kernel

theorem wit_Sdo_segment :
    (tSdo { kind := .segDown, idx := 0x4012, sub := 3 }).sdoOpen 0 = true ∧ sdoCs (leBytes 8 0x0000000000010200) = 0 ∧
    ((tSdo { kind := .segDown, idx := 0x4012, sub := 3 }).sdoHeard 0).sdoMisfit 0
      (((tSdo { kind := .segDown, idx := 0x4012, sub := 3 }).sdoHeard 0).sdoOf 0) 7 false = none := by decide +kernel

theorem wit_Sdo_upload :
    (tSdo Sdo.init).sdoTakes 0 0x610 = true ∧ (tSdo Sdo.init).sdoTakes 0 0x611 = false ∧ (0x611 : BitVec 11).toNat ≠ 0x600 + (tSdo Sdo.init).sdoNode 0 ∧
    sdoCs (leBytes 8 0x0000000001_1F0040) / 32 = 2 ∧ sdoIdx (leBytes 8 0x00000000011F0040) = 0x1F00 ∧
    ((tSdo Sdo.init).sdoHeard 0).readValue 0 0x1F00 1 false 0 = (none, [0]) ∧ (tSdo Sdo.init).isDomain 0x1F00 1 = false := by
  decide +kernel

theorem wit_Sdo_uploadSegment :
    (tSdo { kind := .segUp, idx := 0x1000, sub := 1, buf := zeros 14 }).sdoOpen 0 = true ∧ sdoCs (leBytes 8 0x60) / 32 = 3 ∧
    (sdoCs (leBytes 8 0x60)).testBit 4 = false ∧
    7 < ((tSdo { kind := .segUp, idx := 0x1000, sub := 1, buf := zeros 14 }).sdoOf 0).buf.length := by decide +kernel

theorem wit_Sdo_abort : sdoCs (leBytes 8 0x80) = 0x80 := by decide +kernel

theorem wit_Sdo_timeout :
    ({ tSdo { kind := .segUp } with clock := { tUp.clock with tick := ticksMs 500 } } : State).sdoOpen 0 = true ∧
    (({ tSdo { kind := .segUp } with clock := { tUp.clock with tick := ticksMs 500 } } : State).sdoOf 0).lastFrame +
      ticksMs (({ tSdo { kind := .segUp } with clock := { tUp.clock with tick := ticksMs 500 } } : State).regN K.sdoTimeout) ≤
      ({ tSdo { kind := .segUp } with clock := { tUp.clock with tick := ticksMs 500 } } : State).tick := by decide +kernel

/-- The module 30 s after the last request of its sessions. -/
def tLate (s : State) : State := { s with clock := { s.clock with tick := ticksS 30 } }

theorem wit_Sessions_idle :
    (tLate tUdp).serves = true ∧ ((tLate tUdp).sess (7 : Fin 16)).isOpen = true ∧
    ticksMs ((tLate tUdp).regN K.sessionIdleTimeout) ≤ (tLate tUdp).idleFrom ((tLate tUdp).sess (7 : Fin 16)).lastReq ∧
    ((tLate (tSdo Sdo.init)).sess (0 : Fin 16)).isOpen = true ∧
    ticksMs ((tLate (tSdo Sdo.init)).regN K.sessionIdleTimeout) ≤
      (tLate (tSdo Sdo.init)).idleFrom ((tLate (tSdo Sdo.init)).sess (0 : Fin 16)).lastReq := by decide +kernel

theorem wit_Sessions_server :
    tUp.serves = true ∧ tUp.sdoRuns (0 : Fin 6) = true ∧ tUp.canFailed (0 : Fin 6) = false ∧ (tUp.sess (0 : Fin 6)).isOpen = false ∧
    (tSess tUp 1 2).sdoRuns (1 : Fin 6) = false ∧ ((tSess tUp 1 2).sess (1 : Fin 6)).isOpen = true := by decide +kernel

/-! ### The journal -/

theorem wit_Completion_order :
    (tItems [tItem 4 1 .finished, tItem 5 2 .finished]).reg K.journalState ≠ 2 ∧
    (tItems [tItem 4 1 .finished, tItem 5 2 .finished]).item 4 = some (tItem 4 1 .finished) ∧
    (∀ j ∈ (tItems [tItem 4 1 .finished, tItem 5 2 .finished]).jr.items, j.source = 0x31 → 1 ≤ j.srcSeq) ∧
    (tItems [tItem 4 1 .started, tItem 5 2 .finished]).item 4 = some (tItem 4 1 .started) ∧
    (tItems [tItem 4 1 .started, tItem 5 2 .finished]).item 5 = some (tItem 5 2 .finished) := by decide +kernel

/-- A solenoid channel that is OFF and whose disable waits; a waiting cue of replay. -/
theorem wit_JournalEvents :
    ({ tUp.setReg (K.svState 3) svOff with jr := { tUp.jr with disabling := [⟨aimSv 3, 9, 0⟩] } } : State).jr.disabling =
      [⟨aimSv 3, 9, 0⟩] ∧
    ({ tUp.setReg (K.svState 3) svOff with jr := { tUp.jr with disabling := [⟨aimSv 3, 9, 0⟩] } } : State).reg (K.svState 3) = svOff ∧
    (tUp.axis 2).resume = none ∧ tUp.jr.copyA = true ∧ tUp.jr.copyB = true ∧ tUp.isUp = true ∧ tUp.reg K.standbyCore = 0 := by
  decide +kernel

theorem wit_JournalEvents_cue :
    (({ tUp with jr := { tUp.jr with replayWait := [9, 12] } } : State).setCue 5 { Cue.init with state := .held, axis := 2, jseq := 9 }).jr.replayWait =
      [9, 12] ∧
    ((({ tUp with jr := { tUp.jr with replayWait := [9, 12] } } : State).setCue 5 { Cue.init with state := .held, axis := 2, jseq := 9 }).cue
      (5 : Fin 4096)).jseq = 9 := by decide +kernel

/-! ### Axes, cues and delay lines -/

/-- Axis 3 with source `src` in state `st`, at 5 m and moving at 2 m/s, read at tick `k`. -/
def tAxis (src st : Int) (k : Nat) : State :=
  let s := ((tUdp.setReg (K.axisSource 3) src).setReg (K.axisEnable 3) 1).setReg (K.axisState 3) st
  { s.setAxis 3 { s := 5000000 * 2 ^ 32, v := 2000000 * 65536, vp := 2000000 * 65536, pubTick := k } with
    clock := { s.clock with tick := k } }

theorem wit_Axes_enable :
    (tUdp.setReg (K.axisSource 3) 1).reg (K.axisEnable (3 : Fin 16)) = 0 ∧
    Writable (tUdp.setReg (K.axisSource 3) 1) (7 : Fin 16) (0x2400 + (3 : Fin 16)) 1 (leBytes 1 (1 : BitVec 8).toNat) (axisEnableRule (3 : Fin 16)) ∧
    (tAxis 1 axValid 7).reg (K.axisEnable (3 : Fin 16)) = 1 ∧
    Writable (tAxis 1 axValid 7) (7 : Fin 16) (0x2400 + (3 : Fin 16)) 1 (leBytes 1 (0 : BitVec 8).toNat) (axisEnableRule (3 : Fin 16)) ∧
    Writable (tAxis 1 axValid 7) (7 : Fin 16) (0x2400 + (3 : Fin 16)) 0x0F (encInt 8 (-12)) (axisPresetRule (3 : Fin 16)) := by
  decide +kernel

theorem test_axisPreset : after (.axisPreset 7 3 (encInt 8 (-12))) (tAxis 1 axValid 7) (fun t => t.axisValue 3 == -12) = true := by decide +kernel

theorem wit_Axes_publish : (tAxis 1 axValid 20000).tick % 10000 = 0 ∧ (tAxis 1 axValid 20000).axisState (3 : Fin 16) ≠ axDisabled := by decide +kernel

theorem wit_Axes_timeouts :
    (tAxis 1 axValid (ticksMs 100)).axisIs (3 : Fin 16) 1 = true ∧ (tAxis 1 axValid (ticksMs 100)).flag (K.axisFlags (3 : Fin 16)) 0 = false ∧
    ((tAxis 1 axValid (ticksMs 100)).axis (3 : Fin 16)).lastWheel.getD ((tAxis 1 axValid (ticksMs 100)).axis (3 : Fin 16)).enabledAt + ticksMs 100 ≤
      (tAxis 1 axValid (ticksMs 100)).tick ∧ (tAxis 1 axValid (ticksMs 100)).axisUsable (3 : Fin 16) = true ∧
    (tAxis 1 axValid (ticksMs 100)).reg (K.standstillSpeed (3 : Fin 16)) * 65536 ≤ absI ((tAxis 1 axValid (ticksMs 100)).axis (3 : Fin 16)).v ∧
    ((tAxis 1 axValid (ticksS 2)).axis (3 : Fin 16)).lastFix.getD ((tAxis 1 axValid (ticksS 2)).axis (3 : Fin 16)).enabledAt + ticksS 2 ≤
      (tAxis 1 axValid (ticksS 2)).tick := by decide +kernel

theorem test_wheelSampleTimeout :
    after (.wheelSampleTimeout 3) (tAxis 1 axValid (ticksMs 100)) (fun t => t.axisState 3 == axInvalid && t.axisValue 3 == 5000000) = true := by
  decide +kernel

theorem wit_Axes_gate :
    ((tAxis 1 axValid (ticksS 10)).setAxis 3 { gateSince := some 0 }).axisIs (3 : Fin 16) 1 = true ∧
    ((tAxis 1 axValid (ticksS 10)).setAxis 3 { gateSince := some 0 }).axisUsable (3 : Fin 16) = true ∧
    (((tAxis 1 axValid (ticksS 10)).setAxis 3 { gateSince := some 0 }).axis (3 : Fin 16)).gateSince = some 0 ∧
    0 + ticksS 10 ≤ ((tAxis 1 axValid (ticksS 10)).setAxis 3 { gateSince := some 0 }).tick := by decide +kernel

theorem wit_Axes_standstill :
    ((tAxis 1 axValid (ticksS 1)).setAxis 3 { v := 3 }).axisAngular (3 : Fin 16) = false ∧
    absI (((tAxis 1 axValid (ticksS 1)).setAxis 3 { v := 3 }).axis (3 : Fin 16)).v <
      ((tAxis 1 axValid (ticksS 1)).setAxis 3 { v := 3 }).reg (K.standstillSpeed (3 : Fin 16)) * 65536 ∧
    (((tAxis 1 axValid (ticksS 1)).setAxis 3 { v := 3 }).axis (3 : Fin 16)).lastWheel.getD 0 +
      ticksMs (((tAxis 1 axValid (ticksS 1)).setAxis 3 { v := 3 }).regN (K.standstillTime (3 : Fin 16))) ≤
      ((tAxis 1 axValid (ticksS 1)).setAxis 3 { v := 3 }).tick := by decide +kernel

theorem wit_AxesResume :
    (((tAxis 2 axInitialising 9).setAxis 3 { resume := some ⟨99, AxisSnap.init, 0⟩ }).axis (3 : Fin 16)).resume = some ⟨99, AxisSnap.init, 0⟩ ∧
    ((tAxis 2 axInitialising 9).setAxis 3 { resume := some ⟨99, AxisSnap.init, 0⟩ }).axisSource (3 : Fin 16) = 2 ∧
    (tAxis 1 axValid 9).reg (K.axisEnable (3 : Fin 16)) = 1 := by decide +kernel

/-- An arming of slot 9 on axis 3 as a prompt mark, at 5 m, with the given flags, repeats and interval. -/
def tCueBytes (flags repeats : Nat) (interval : Int) : Bytes :=
  leBytes 2 9 ++ [3, 1, 6, BitVec.ofNat 8 flags] ++ leBytes 2 0 ++ leBytes 2 1 ++ leBytes 2 repeats ++ leBytes 4 0 ++ encInt 8 5000000 ++
    encInt 8 interval ++ zeros 8

/-- Slot 9 ARMED at 5 m in tick 5. -/
def tCue (pos : Int) (flags repeats : Nat) : State :=
  ((tAxis 1 axValid 20).setCue 9 { axis := 3, dir := 1, kind := 6, action := 1, pos := pos, state := .armed, armTick := 5, jseq := 4, flags := flags,
                                   repeats := repeats, interval := 1000, slotBytes := 9 }).setReg K.armedSlots 1

theorem wit_CueArm :
    Writable (tAxis 1 axValid 20) (7 : Fin 16) 0x2420 0 (tCueBytes 0 0 0) cueArmRule ∧
    Writable (tAxis 1 axValid 20) (7 : Fin 16) 0x2420 0 (tCueBytes 2 2 1000) cueArmRule ∧ (cueRec (tCueBytes 0 0 0)).slot = 9 := by decide +kernel

theorem wit_CueDisarm :
    Writable (tCue 5000000 0 0) (7 : Fin 16) 0x2421 0 (leBytes 2 (9 : BitVec 16).toNat) cueDisarmRule ∧
    ((tCue 5000000 0 0).cue (9 : BitVec 16).toNat).state ≠ .free ∧
    Writable tUdp (7 : Fin 16) 0x2421 0 (leBytes 2 (9 : BitVec 16).toNat) cueDisarmRule ∧ (tUdp.cue (9 : BitVec 16).toNat).state = .free ∧
    (tUdp.heard (7 : Fin 16)).accessCheck (7 : Fin 16) 0x2421 0 = none ∧ 4096 ≤ (4095 : BitVec 16).toNat + tUdp.regN K.internalSlots := by
  decide +kernel

/-- The cue's own item, number 4, is in flight beside the disarm's, number 1. -/
def tCueItem : State :=
  { tCue 5000000 0 0 with jr := { (tCue 5000000 0 0).jr with items := [tItem 4 1 .started] } }

theorem wit_CueDisarmEndsTheCue :
    tCueItem.item (tCueItem.regN K.nextJournalSeq) = none ∧ (tCueItem.cue (9 : BitVec 16).toNat).jseq ≠ tCueItem.regN K.nextJournalSeq ∧
    Writable tCueItem (7 : Fin 16) 0x2421 0 (leBytes 2 (9 : BitVec 16).toNat) cueDisarmRule ∧
    tCueItem.item (tCueItem.cue (9 : BitVec 16).toNat).jseq = some (tItem 4 1 .started) := by decide +kernel

theorem test_cueDisarm : after (.cueDisarm 7 9) tCueItem (fun t =>
    (t.item 4).map (fun i => (i.state, i.outcome)) == some (.finished, 2) &&
    (t.item 1).map (fun i => (i.state, i.outcome)) == some (.finished, 1)) = true := by decide +kernel

theorem wit_CueFire :
    (tCue 5000000 0 0).cuePast ((tCue 5000000 0 0).cue (9 : Fin 4096)) = 0 ∧ ((tCue 5000000 0 0).cue (9 : Fin 4096)).armTick < (tCue 5000000 0 0).tick ∧
    (tCue 5000000 0 0).cueTargetFailed 6 0 = false ∧ (tCue 5000000 2 3).cuePast ((tCue 5000000 2 3).cue (9 : Fin 4096)) = 0 ∧
    0 < (tCue 4999999 0 0).cuePast ((tCue 4999999 0 0).cue (9 : Fin 4096)) := by decide +kernel

theorem test_cueFire : after (.cueFire 9) (tCue 5000000 2 3) (fun t => (t.cue 9).state == .armed && (t.cue 9).pos == 5001000) = true := by
  decide +kernel

/-- Delay line 2 on axis 3, held by the dictionary. -/
def tLine (on : Int) : State :=
  (((((tAxis 1 axValid 20).setReg (K.lineAxis 2) 3).setReg (K.lineWriter 2) 3).setReg (K.lineLanes 2) 1).setReg (K.lineEnable 2) on)

theorem wit_Lines :
    (tLine 0).reg (K.lineEnable (2 : Fin 16)) = 0 ∧
    Writable (tLine 0) (7 : Fin 16) (0x2480 + (2 : Fin 16)) 1 (leBytes 1 (1 : BitVec 8).toNat) (lineEnableRule (2 : Fin 16)) ∧
    Writable (tLine 1) (7 : Fin 16) (0x24A0 + (2 : Fin 16)) 0 (encInt 8 5000001 ++ encInt 4 (-7)) (lineWriteRule (2 : Fin 16)) ∧
    lineKey (encInt 8 5000001 ++ encInt 4 (-7)) = 5000001 ∧ lineLanesOf (encInt 8 5000001 ++ encInt 4 (-7)) = [-7] ∧
    (((tLine 1).setLine 2 { hasKey := true }).setReg (K.lastKey 2) 5000001).reg (K.lastKey (2 : Fin 16)) = 5000001 ∧
    (((tLine 1).setLine 2 { hasKey := true }).line (2 : Fin 16)).hasKey = true := by decide +kernel

/-! ### Sections and coverage -/

/-- Implement 0, trailed, on axis 3 with source 1 in state `st`, at tick `k`. -/
def tImpl (st : Int) (k : Nat) : State :=
  (((tAxis 1 st k).setReg (K.implementEnable 0) 1).setReg (K.implementKind 0) 1).setReg (K.sectionAxis 0) 3

theorem wit_Hitch :
    (tImpl axValid 9).trailed (0 : Fin 4) = true ∧
    (((tImpl axValid (ticksS 1)).setReg (K.hitchAngleSource 0) 1).setImpl 0 { model := 77, disagree := some 0 }).trailed (0 : Fin 4) = true ∧
    (((tImpl axValid (ticksS 1)).setReg (K.hitchAngleSource 0) 1).setImpl 0 { model := 77, disagree := some 0 }).reg (K.hitchAngleSource (0 : Fin 4)) ≠ 0 ∧
    (((tImpl axValid (ticksS 1)).setReg (K.hitchAngleSource 0) 1).setImpl 0 { model := 77, disagree := some 0 }).flag (K.implementFlags (0 : Fin 4)) 0 = false ∧
    (((tImpl axValid (ticksS 1)).setReg (K.hitchAngleSource 0) 1).setImpl 0 { model := 77, disagree := some 0 }).tick = ticksS 1 ∧
    (((((tImpl axValid (ticksS 10)).setReg (K.hitchAngleSource 0) 1).setReg (K.ainEnable 0) 1).setFlag (K.implementFlags 0) 0 true).setImpl 0 { agree := some 0 }).flag (K.implementFlags (0 : Fin 4)) 0 = true ∧
    ((((((tImpl axValid (ticksS 10)).setReg (K.hitchAngleSource 0) 1).setReg (K.ainEnable 0) 1).setFlag (K.implementFlags 0) 0 true).setImpl 0 { agree := some 0 }).hitchMeasured (0 : Fin 4)).2 = false := by
  decide +kernel

theorem test_hitchFallback :
    after (.hitchFallback 0) (((tImpl axValid (ticksS 1)).setReg (K.hitchAngleSource 0) 1).setImpl 0 { model := 77, disagree := some 0 })
      (fun t => t.reg (K.hitchAngle 0) == 77 && t.flag (K.implementFlags 0) 0) = true := by decide +kernel

/-- A section of implement 0, 3 m wide, on load channel 5. -/
def tSecBytes (path : Nat) : Bytes :=
  [0, BitVec.ofNat 8 path] ++ leBytes 2 5 ++ zeros 8 ++ leBytes 4 3000 ++ zeros 16

/-- Section 9 configured on implement 0. -/
def tSec (path : Nat) (st : Int) (k : Nat) : State :=
  (((tImpl st k).setReg (K.lsOwner 5) 1).setReg K.internalSlots 64).setBlob (K.sectionConfig 1 1) (tSecBytes path)

theorem wit_Sections :
    Writable ((tImpl axValid 9).setReg (K.lsOwner 5) 1) (7 : Fin 16) (0x2C00 + (9 : Fin 1024).val / 8) ((9 : Fin 1024).val % 8 + 1) (tSecBytes 0)
      (sectionConfigRule (9 : Fin 1024)) ∧
    Writable (tSec 2 axValid 9) (7 : Fin 16) (0x2800 + (0 : Fin 4)) 0x17 (leBytes 1 (1 : BitVec 8).toNat) (sectionModeRule (0 : Fin 4)) ∧
    Writable (tSec 2 axValid 9) (7 : Fin 16) 0x2820 0 (leBytes 128 (2 ^ 9)) manualRule := by decide +kernel

theorem wit_SectionScan :
    (((tSec 2 axValid 9).setReg (K.sectionMode 0) 2).secCfg (9 : Fin 1024)).path ≠ 0 ∧
    (((tSec 2 axValid 9).setReg (K.sectionMode 0) 2).secCfg (9 : Fin 1024)).impl < 4 ∧
    (((tSec 2 axValid 9).setReg (K.sectionMode 0) 2).clearHolds 0).scanRuns 0 = true ∧
    (((tSec 2 axValid 9).setReg (K.sectionMode 0) 2).clearHolds 0).sectionFailed
      (((tSec 2 axValid 9).setReg (K.sectionMode 0) 2).secCfg (9 : Fin 1024)) = false := by decide +kernel

theorem wit_SectionHolds :
    (tSec 2 axInvalid 9).axisState ((tSec 2 axInvalid 9).regN (K.sectionAxis (0 : Fin 4))) = axInvalid ∧
    (tSec 2 axInvalid 9).reg (K.implementEnable (0 : Fin 4)) = 1 ∧ ((tSec 2 axInvalid 9).section 9).on = false ∧
    ((tSec 2 axDegraded 9).setReg (K.degradedTravel 0) 4294967295).axisState
      (((tSec 2 axDegraded 9).setReg (K.degradedTravel 0) 4294967295).regN (K.sectionAxis (0 : Fin 4))) = axDegraded ∧
    ((tSec 2 axDegraded 9).setReg (K.degradedTravel 0) 4294967295).reg (K.degradedDistance (0 : Fin 4)) ≤
      ((tSec 2 axDegraded 9).setReg (K.degradedTravel 0) 4294967295).reg (K.degradedTravel (0 : Fin 4)) := by decide +kernel

/-- A mark of implement 0 in cell (3, 4), swept at 2 m; its tile is present. -/
def tMark : State :=
  let s := tSec 2 axValid 9
  { s with cov := { s.cov with
                    marks := [⟨3, 4, 0, 0, 2000000 * 2 ^ 32⟩],
                    tiles := s.cov.tiles.set CovTile.init (32768 * 65536 + 32768) { present := true, dirty := true } } }

theorem wit_Coverage :
    ((tSec 2 axValid (ticksMs 10)).impl (0 : Fin 4)).sweepTick + ticksMs 10 ≤ (tSec 2 axValid (ticksMs 10)).tick ∧
    tMark.cov.marks = [⟨3, 4, 0, 0, 2000000 * 2 ^ 32⟩] ∧
    2000000 * 2 ^ 32 + tMark.reg (K.markDelay (0 : Fin 4)) * fineMm ≤ tMark.axisFine (tMark.regN (K.sectionAxis (0 : Fin 4))) ∧
    tileKey (3 / 256) (4 / 256) = some (32768 * 65536 + 32768) ∧ (tMark.tile (32768 * 65536 + 32768)).present = true ∧
    (tMark.setReg K.openField 3).openFieldNo = some 3 ∧ (tMark.setReg K.openField 3).dirtyTiles = [32768 * 65536 + 32768] ∧
    (tMark.setReg K.openField 3).hasUnit false = true := by decide +kernel

theorem test_markCommit : after (.markCommit 0) tMark (fun t => t.covered 0 3 4 && !t.covered 0 4 3) = true := by decide +kernel

/-- A mask of one WORK ring of three vertices. -/
def tMask : Bytes :=
  let b := leBytes 2 0x4D42 ++ [1, 0] ++ leBytes 4 1 ++ leBytes 4 3 ++ zeros 4 ++ [1, 0, 0, 0] ++ leBytes 4 3 ++
    encInt 4 0 ++ encInt 4 0 ++ encInt 4 10000 ++ encInt 4 0 ++ encInt 4 0 ++ encInt 4 10000
  b ++ leBytes 4 (crc32 b)

theorem wit_CoverageWrites :
    Writable tMark (7 : Fin 16) 0x2812 0 (leBytes 1 (1 : BitVec 8).toNat) coverageClearRule ∧
    (1 : BitVec 8).toNat.testBit 0 = true ∧ 0 < tMark.regN K.coverageLayers ∧
    Writable tMark (7 : Fin 16) 0x2813 0 tMask maskLoadRule ∧ (maskRingsOf tMask).isSome = true ∧
    Writable tMark (7 : Fin 16) 0x2814 0 (leBytes 1 (1 : BitVec 8).toNat) maskClearRule := by decide +kernel

/-- Client 0 is connected at address 0x26 with section 9. -/
def tTc : State :=
  ((tSec 4 axValid (ticksS 3)).setReg K.tcEnable 1).setClient 0 { connected := true, address := 0x26, sections := [9], elements := [1, 2, 3, 4, 5, 6] }

theorem wit_TcClients :
    (tUdp.setReg K.tcEnable 1).reg K.tcEnable = 1 ∧ (tUdp.client (0 : Fin 4)).connected = false ∧
    (∀ m < 4, ¬ (((tTc).client m).connected = true ∧ (tTc.client m).address = (0x27 : BitVec 8).toNat)) ∧
    (tTc.client (1 : Fin 4)).connected = false ∧ (∀ m < (1 : Fin 4).val, (tTc.client m).connected = true) ∧
    (tTc.client (0 : Fin 4)).connected = true ∧ (tTc.client (0 : Fin 4)).lost = false ∧
    (tTc.client (0 : Fin 4)).sections.find? (fun n => let t := (tTc.secCfg n).target
        tcElement t == (0 : Fin 64).val && tcSection t == (0 : Fin 16).val * 16 + (5 : Fin 16).val) = some 9 ∧
    (tTc.client (0 : Fin 4)).lastActual + ticksS 3 ≤ tTc.tick := by decide +kernel

/-! ### Fusion -/

/-- A container with one FUSION section: layouts 1, 8 planes, a warm-up of 3, StepTimeMax 20 ms. -/
def tFusionImage : Bytes :=
  zeros 6 ++ leBytes 2 1 ++ zeros 6 ++ leBytes 2 2 ++ zeros 112 ++ leBytes 2 7 ++ zeros 2 ++ leBytes 4 144 ++ leBytes 4 28 ++ zeros 4 ++
    leBytes 4 1 ++ leBytes 4 1 ++ leBytes 4 8 ++ leBytes 4 1000 ++ leBytes 4 5 ++ leBytes 4 3 ++ leBytes 4 20000000

/-- Sensor 0 and implement 0 are on, region 0 runs the fusion pricking; fusion is `on`; the axis's history reaches tick 0. -/
def tFusion (on : Int) : State :=
  let s := (((((((tImpl axValid 9).setReg (K.regionState 0) rgRunning).setReg (K.runningSlot 0) 4).setPslot 4 { content := tFusionImage }).setReg
    (K.sensorEnable 0) 1).setReg K.referenceSensor 0).setReg K.fusionEnable on).setReg K.fusionState fsRunning
  s.setAxis 3 { s.axis 3 with hist := [{ east := 7, north := 8, heading := 9 }] }

/-- The service with given contents. -/
def tFuse (x : Fuse) : State := (tFusion 1).setFuse x

/-- A closed step at 500 ns. -/
def tStep : FStep :=
  { count := 5, block := 0, time := 500, closeTime := 600, flags := 0, presence := 0x1401, lateUsed := 0, lateDiscarded := 0, egoDx := 0,
    egoDy := 0, egoDyaw := 0, speed := 0, poseValue := 0, ego := [], used := [], late := [], east := 7, north := 8, heading := 9, warmup := 0 }

/-- A sample of sensor 0 without cells, and the projection unit at work on it until tick `k`. -/
def tSample : Sample := ⟨0, 5, 7, 8, 9, 1, ⟨[]⟩⟩
def tProjecting (k : Nat) : Projecting := ⟨⟨0, 5, 0, 1⟩, tSample, k⟩

theorem wit_FusionEnable :
    Writable (tFusion 0) (7 : Fin 16) 0x3000 1 (leBytes 1 (1 : BitVec 8).toNat) fusionEnableRule ∧ (tFusion 0).reg K.fusionEnable ≠ 1 ∧
    Writable (tFuse {}) (7 : Fin 16) 0x3000 1 (leBytes 1 (0 : BitVec 8).toNat) fusionEnableRule ∧ (tFuse {}).fuse.running = none ∧
    Writable (tFuse {}) (7 : Fin 16) 0x3001 0 (leBytes 1 (1 : BitVec 8).toNat) fusionResetRule ∧ (tFuse {}).reg K.fusionEnable = 1 ∧
    Writable (tFuse { running := some (tStep, 0) }) (7 : Fin 16) 0x3001 0 (leBytes 1 (1 : BitVec 8).toNat) fusionResetRule := by decide +kernel

theorem test_fusionEnable :
    after (.fusionEnable 7 1) (tFusion 0) (fun t => t.fuse.warmup == 3 && t.fuse.layoutId == 5 && t.reg K.fusionState == fsWaiting) = true := by
  decide +kernel

/-- The clock of a state. -/
def tAt (s : State) (tick time : Nat) : State := { s with clock := { s.clock with tick := tick, time := time } }

theorem wit_FusionTimers :
    (tAt (tFuse { lastT := some 5 }) 9 40000000).fuse.lastT = some 5 ∧
    (tAt (tFuse { lastT := some 5 }) 9 40000000).reg (K.alignState ((tAt (tFuse { lastT := some 5 }) 9 40000000).regN K.referenceSensor)) ≠ alAligned ∧
    (tAt (tFuse { lastT := some 5 }) 9 40000000).reg K.fusionState ≠ fsFault ∧
    0 < (tFuse {}).regN K.referencePeriod ∧ 5 + (tFuse {}).regN K.referencePeriod ≤ (tAt (tFuse { lastT := some 5 }) 9 40000000).now ∧
    (tAt (tFuse { lastBody := some 5 }) (ticksS 100) 0).fuse.lastBody = some 5 ∧
    5 + ticksMs ((tAt (tFuse { lastBody := some 5 }) (ticksS 100) 0).regN K.stateHoldLimit) < (tAt (tFuse { lastBody := some 5 }) (ticksS 100) 0).tick := by
  decide +kernel

theorem wit_FusionFrames :
    (tFuse { frames := [⟨0, 5, 0, 1⟩] }).nextProjection = some ⟨0, 5, 0, 1⟩ ∧ (tFuse { frames := [⟨0, 5, 0, 1⟩] }).poseUsable = true ∧
    (tFuse { frames := [⟨0, 5, 0, 1⟩] }).projectionOverdue ⟨0, 5, 0, 1⟩ = false ∧ (tFuse { frames := [⟨0, 5, 0, 1⟩] }).fuse.projecting = none ∧
    ((tFuse { frames := [⟨0, 5, 0, 1⟩] }).poseAt 5).isSome = true ∧
    (tFuse { projecting := some (tProjecting 9) }).fuse.projecting = some (tProjecting 9) ∧
    (tProjecting 9).doneAt ≤ (tFuse { projecting := some (tProjecting 9) }).tick ∧ (tFuse { projecting := some (tProjecting 9) }).poseUsable = true ∧
    (tFuse { projecting := some (tProjecting 9) }).fuse.frames = [] ∧
    (tAt (tFuse { refs := [(500, 0)] }) 9 1000000000).stepCloses 500 = true ∧ ((tFuse { refs := [(500, 0)] }).poseAt 500).isSome = true ∧
    (tFuse { refs := [(500, 0)] }).fusionSwitches = false ∧
    (tAt (tFuse { refs := [(500, 0)], running := some (tStep, 0) }) 9 1000000000).stepCloses 500 = true ∧
    (tAt (tFuse { refs := [(500, 0)], running := some (tStep, 0) }) 9 1000000000).fuse.running.isSome = true ∧
    (tAt ((tFuse { refs := [(500, 0)] }).setReg (K.axisState 3) axInvalid) 9 1000000000).poseUsable = false ∧
    (tAt ((tFuse { refs := [(500, 0)] }).setReg (K.axisState 3) axInvalid) 9 1000000000).stepCloses 500 = true ∧
    (tFuse { running := some (tStep, 0) }).fuse.running = some (tStep, 0) ∧ (tFuse { running := some (tStep, 0) }).fuse.clearAsked = false ∧
    (tFuse { running := some (tStep, 0) }).fuse.waiting = none ∧ (tFuse { running := some (tStep, 0) }).fuse.disableItems = [] ∧
    (tFuse { running := some (tStep, 0) }).runLimit 0 = some 2000000 ∧ (tFuse { running := some (tStep, 0) }).tick ≤ 2000000 ∧
    (tFusion 1).fusionDecl = some ⟨1, 1, 8, 1000, 5, 3, 20000000⟩ ∧ 0 + 20000000 / 10 ≤ (tAt (tFusion 1) 2000000 0).tick ∧
    (tFuse { bandDue := some 4 }).fuse.bandDue = some 4 := by decide +kernel

theorem wit_FusionReset_waiting :
    (tFuse { waiting := some tStep }).fuse.waiting = some tStep ∧ (tFuse { waiting := some tStep }).fuse.running = none ∧
    Writable (tFuse { waiting := some tStep }) (7 : Fin 16) 0x3001 0 (leBytes 1 (1 : BitVec 8).toNat) fusionResetRule := by decide +kernel

theorem test_projectionFrame :
    after .projectionFrame (tFuse { projecting := some (tProjecting 9) }) (fun t => t.fuse.staged == [tSample] && t.fuse.projecting == none) = true := by
  decide +kernel

theorem test_stepClose : after .fusionStepClose (tAt (tFuse { refs := [(500, 0)] }) 9 1000000000) (fun t => t.fuse.running.isSome) = true := by
  decide +kernel

/-- The stop output enabled without a track in the zone, with a list taken at tick `a`, the last cause gone at tick `c`. -/
def tStop (a c : Nat) (st : Int) : State :=
  ((((tFuse { tracksAt := some a, causeClearAt := some c, lastPresence := 0x1FFF }).setReg K.stopEnable 1).setReg K.stopState st).setReg K.stopChannel 0xFF).setReg
    K.stopCanPort 1

theorem wit_Stop :
    (tAt (tStop (ticksS 9) 0 0) (ticksS 9) 0).stopCauses false = 0 ∧ (tAt (tStop (ticksS 9) 0 0) (ticksS 9) 0).impl0Axis = some 3 ∧
    (tAt (tStop (ticksS 9) 0 0) (ticksS 9) 0).obstacleTrack 3 = none ∧
    ((tAt (tStop (ticksS 9) 0 0) (ticksS 9) 0).setReg K.stopRelease 0).reg K.stopRelease = 0 ∧
    0 + ticksMs ((tStop (ticksS 9) 0 0).regN K.stopHoldTime) ≤ (tAt (tStop (ticksS 9) 0 0) (ticksS 9) 0).tick ∧
    (tStop 0 0 1).reg K.stopState = 1 ∧ 0 + ticksMs ((tStop 0 0 1).regN K.stopWatchdog) < (tAt (tStop 0 0 1) (ticksS 9) 0).tick ∧
    Writable ((tAt (tStop (ticksS 9) 0 0) (ticksS 9) 0).setReg K.stopCause 0) (7 : Fin 16) 0x3051 0 (leBytes 1 (1 : BitVec 8).toNat) stopAcknowledgeRule ∧
    Writable ((tStop 0 0 1).setReg K.stopEnable 0) (7 : Fin 16) 0x3050 1 (leBytes 1 (1 : BitVec 8).toNat) stopEnableRule ∧
    Writable (tStop 0 0 1) (7 : Fin 16) 0x3050 1 (leBytes 1 (0 : BitVec 8).toNat) stopEnableRule ∧
    (tFuse { stopDue := true }).fuse.stopDue = true ∧ (tStop 0 0 1).reg K.stopCanPort ≠ 0xFF := by decide +kernel

theorem test_stopWatchdog : after .stopWatchdog (tAt (tStop 0 0 1) (ticksS 9) 0) (fun t => t.reg K.stopState == 0 && t.reg K.stopTrack == 0xFFFF) = true := by
  decide +kernel

/-! ### Cameras -/

/-- A frame of sensor 2 in stage `st` that arrived at 100 ns, with `rows`. -/
def tFrameV (st : FrameStage) (rows : List (List Nat)) : VFrame :=
  ⟨6, 1, st, 17, 0, 100, 0, 0, 0, 0, 0, 0, some 9, 0, ⟨[0, 0, 0, 0], 0, [], [], [], []⟩, rows⟩

/-- Sensor 2 is on at port 1, virtual channel 2, with 2 x 2 pixels of 8 bits, and has the given frames. -/
def tCam (fs : List VFrame) : State :=
  let s := (((((tAt tUdp 50 200).setReg (K.sensorEnable 2) 1).setReg (K.inputPort 2) 1).setReg (K.virtualChannel 2) 2).setReg (K.dataType 2) 0x2A)
  ((((s.setReg (K.width 2) 2).setReg (K.height 2) 2).setReg (K.camLinkState 1) lkUp).setReg (K.embeddedDataType 2) 0x12).setCam 2
    { nextSeq := 7, frames := fs }

theorem wit_FramesRead :
    (tCam []).portLive (1 : Fin 5) = true ∧ (tCam []).sensorAt (1 : Fin 5) (2 : Fin 16) = some 2 ∧ ((tCam []).cam 2).reading = none ∧
    ((tCam [tFrameV .reading [[1, 2]]]).cam 2).reading = some (tFrameV .reading [[1, 2]]) ∧ (1 : Fin 5).val ≠ 4 ∧
    (tCam []).regN (K.dataType 2) = (0x2A : BitVec 8).toNat ∧ (tFrameV .reading [[1, 2]]).rows.length < (tCam []).regN (K.height 2) ∧
    (isUserType (0x2A : BitVec 8).toNat = true → isDepth 2 = true) ∧
    ((tCam []).linePixels 2 ([(3 : BitVec 16), 4].map BitVec.toNat)).length = (tCam []).regN (K.width 2) ∧ (tFrameV .reading []).path ≠ 0 ∧
    (tCam []).regN (K.embeddedDataType 2) = (0x12 : BitVec 8).toNat ∧ (tFrameV .reading []).embedded = 0 ∧
    (tFrameV .reading []).csi = (17 : BitVec 16).toNat ∧ (tCam []).isDisabling (aimCam 2) = false := by decide +kernel

theorem test_imageLine :
    after (.imageLine 1 2 0x2A false false 2 [3, 4]) (tCam [tFrameV .reading [[1, 2]]])
      (fun t => (t.cam 2).frames.map VFrame.rows == [[[1, 2], [3, 4]]]) = true := by decide +kernel

theorem test_frameEnd :
    after (.frameEnd 1 2 17) (tCam [tFrameV .reading [[1, 2]]])
      (fun t => (t.cam 2).frames.map VFrame.rows == [[[1, 2], [0, 0]]] && (t.cam 2).frames.map VFrame.flags == [4]) = true := by decide +kernel

/-- A line of a depth sensor comes as bytes of a user-defined type: two make a pixel. -/
theorem wit_FramesRead_userType :
    (((tCam []).setReg (K.width 8) 1).setReg (K.dataType 8) 0x30).regN (K.dataType 8) = (0x30 : BitVec 8).toNat ∧
    isUserType (0x30 : BitVec 8).toNat = true ∧ isDepth 8 = true ∧
    (((tCam []).setReg (K.width 8) 1).setReg (K.dataType 8) 0x30).linePixels 8 [0x34, 0x12] = [0x1234] := by decide +kernel

theorem wit_FramesIssued :
    (tCam [tFrameV .ready []]).vision.passFrom = none ∧
    ((tCam [tFrameV .ready []]).cam (2 : Fin 10)).frames.find? (fun f => f.stage == .ready) = some (tFrameV .ready []) ∧
    (tCam [tFrameV .queued []]).nextForPass = some (2, tFrameV .queued []) ∧
    (((tCam []).setCam 2 { expect := some 0 }).setReg (K.sofTimeout 2) 100).sensorOn (2 : Fin 10) = true ∧
    0 + (((tCam []).setCam 2 { expect := some 0 }).setReg (K.sofTimeout 2) 100).regN (K.sofTimeout (2 : Fin 10)) ≤ (tCam []).now ∧
    (((tCam [tFrameV .queued []]).setReg (K.outputDeadline 2) 100).cam (2 : Fin 10)).frames.find?
      (fun f => decide (f.arrival + ((tCam [tFrameV .queued []]).setReg (K.outputDeadline 2) 100).regN (K.outputDeadline (2 : Fin 10)) ≤
        ((tCam [tFrameV .queued []]).setReg (K.outputDeadline 2) 100).now)) = some (tFrameV .queued []) := by decide +kernel

theorem wit_CameraPorts :
    (tCam []).reg (K.camLinkState (1 : Fin 4)) = lkUp ∧
    ((tCam []).setReg (K.camPortEnable 1) 1).reg (K.camPortEnable (1 : Fin 4)) = 1 ∧ (tCam []).reg (K.camLinkState (1 : Fin 4)) ≠ lkPocTripped ∧
    (tCam []).aphyPowered (1 : Fin 4) = true ∧ ((tCam []).setReg K.port3Mode 1).aphyPowered (3 : Fin 4) = false ∧
    ((tCam []).setReg (K.fsyncRoute 5) 2).regN (K.fsyncRoute (5 : Fin 8)) ≠ 0 ∧
    ((tCam []).setReg (K.pocEnable 1) 1).reg (K.pocEnable (1 : Fin 4)) = 1 ∧ ((tCam []).setReg K.port3Mode 1).reg K.port3Mode = 1 ∧
    (((tCam []).setReg (K.fsyncSource 5) 1).setReg (K.fsyncPeriod 5) 200).reg (K.fsyncSource (5 : Fin 8)) = 1 ∧
    (((((tCam []).setReg (K.fsyncSource 5) 1).setReg (K.fsyncPeriod 5) 200).now : Int) -
      (((tCam []).setReg (K.fsyncSource 5) 1).setReg (K.fsyncPeriod 5) 200).reg (K.fsyncPhase (5 : Fin 8))) %
      (((tCam []).setReg (K.fsyncSource 5) 1).setReg (K.fsyncPeriod 5) 200).reg (K.fsyncPeriod (5 : Fin 8)) = 0 ∧
    ((tCam []).fsyncOut (5 : Fin 8)).lastTick = none ∧ Writable tUdp (7 : Fin 16) 0x3400 2 (leBytes 1 (1 : BitVec 8).toNat) inlineBypassRule ∧
    tUdp.reg K.inlineState ≠ 2 := by decide +kernel

/-- A register set of sensor 2 with two writes. -/
def tSet (sent : Nat) (rep : Bool) : RegSet := ⟨5, 77, [(1, 2), (3, 4)], sent, rep, some 6⟩

theorem wit_SensorSettings :
    Writable (((tCam []).setReg (K.sensorEnable 2) 0).setReg (K.timestampBytes 2) 4) (7 : Fin 16) (0x3002 + (2 : Fin 10)) 1 (leBytes 1 (1 : BitVec 8).toNat) (sensorEnableRule (2 : Fin 10)) ∧
    Writable (tCam []) (7 : Fin 16) (0x3002 + (2 : Fin 10)) 1 (leBytes 1 (0 : BitVec 8).toNat) (sensorEnableRule (2 : Fin 10)) ∧
    Writable (tCam []) (7 : Fin 16) (0x3420 + 16 * (0 : Fin 4) + (2 : Fin 10)) (5 : BitVec 8).toNat (leBytes 2 3) (correctionRule (2 : Fin 10) (0 : Fin 4) (5 : BitVec 8).toNat) ∧
    (tCam []).sensorOn (2 : Fin 10) = true ∧ (tCam []).sensorOn (3 : Fin 10) = false ∧
    Writable (tCam []) (7 : Fin 16) (0x3420 + 16 * (2 : Fin 4) + (3 : Fin 10)) (0 : BitVec 8).toNat (leBytes 4 3) (correctionRule (3 : Fin 10) (2 : Fin 4) (0 : BitVec 8).toNat) ∧
    Writable (tCam []) (7 : Fin 16) (0x3420 + 16 * (0 : Fin 4) + (3 : Fin 10)) (5 : BitVec 8).toNat (leBytes 2 3) (correctionRule (3 : Fin 10) (0 : Fin 4) (5 : BitVec 8).toNat) ∧
    Writable (tCam []) (7 : Fin 16) (0x3470 + (2 : Fin 10)) 0 (leBytes 2 77 ++ [1, 0] ++ leBytes 2 1 ++ leBytes 2 2) (settingsCommitRule (2 : Fin 10)) := by
  decide +kernel

theorem wit_SensorSets :
    (((tCam []).setCam 2 { set := some ⟨5, 77, [(1, 2)], 0, false, none⟩, startTick := some 50 }).cam (2 : Fin 10)).set =
      some ⟨5, 77, [(1, 2)], 0, false, none⟩ ∧
    ((tCam []).setCam 2 { set := some ⟨5, 77, [(1, 2)], 0, false, none⟩, startTick := some 50 }).tunnelBusy (2 : Fin 10) 5 = false ∧
    ((tCam []).setCam 2 { set := some ⟨5, 77, [(1, 2)], 0, false, none⟩, startTick := some 50 }).tick = 50 ∧
    (((tCam []).setCam 2 { set := some (tSet 0 false) }).cam (2 : Fin 10)).set = some (tSet 0 false) ∧ (tSet 0 false).sent + 1 < (tSet 0 false).writes.length ∧
    (((tCam []).setCam 2 { set := some (tSet 1 true) }).cam (2 : Fin 10)).set = some (tSet 1 true) ∧ (tSet 1 true).writes.length ≤ (tSet 1 true).sent + 1 := by
  decide +kernel

theorem wit_Streams :
    Writable ((((((tCam []).setReg (K.width 2) 64).setReg (K.height 2) 64).setReg (K.streamSensor 1) 2).setReg (K.codingWidth 1) 64).setReg (K.codingHeight 1) 64 |>.setReg
      (K.destAddress 1) 7) (7 : Fin 16) (0x34B0 + (1 : Fin 4)) 1 (leBytes 1 (1 : BitVec 8).toNat) (streamEnableRule (1 : Fin 4)) ∧
    ((tCam []).reg (K.streamEnable (1 : Fin 4)) ≠ ((1 : BitVec 8).toNat : Int)) ∧
    (((tCam []).setStream 1 { due := [⟨100000, []⟩, ⟨200000, []⟩] }).stream (1 : Fin 4)).due = [⟨100000, []⟩, ⟨200000, []⟩] := by decide +kernel

/-! ### Control contexts -/

/-- A state with the given registers. -/
def tRegs (s : State) (l : List (Nat × Int)) : State := l.foldl (fun s p => s.setReg p.1 p.2) s

/-- Context 5 in state `st` with contents `x`, in slot 3, phase 1, at one of its samples, with limits 0 and 1000. -/
def tCtx (st : Int) (x : Ctx) : State :=
  (tRegs (tAt tUdp 2575 25750) [(K.ctxEnable 5, 1), (K.ctxState 5, st), (K.slot 5, 3), (K.phase 5, 1), (K.samplePeriod 5, 1000000),
    (K.outMin 5, 0), (K.outMax 5, 1000)]).setCtx 5 x

theorem wit_ContextSamples :
    (tCtx cxRunning {}).ctxDue (5 : Fin 128) = true ∧ (tCtx cxRunning {}).isDisabling (aimCtx 5) = false ∧
    ((tCtx cxRunning {}).ctx (5 : Fin 128)).writes = [] ∧ (tCtx cxRunning {}).ctxTargetFailed (5 : Fin 128) = false ∧
    (tCtx cxRunning {}).reg (K.outMin 5) ≤ (tCtx cxRunning {}).reg (K.outMax 5) ∧ (tCtx cxRunning {}).reg (K.outKind 5) = 0 ∧
    (tCtx cxHold {}).ctxDue (5 : Fin 128) = true ∧ (tCtx cxHold {}).ctxTargetFailed (5 : Fin 128) = false ∧
    ((tCtx cxRunning {}).beginDisable (aimCtx 5) 9 99).isDisabling (aimCtx (5 : Fin 128)) = true ∧
    ((tCtx cxRunning {}).beginDisable (aimCtx 5) 9 99).ctxDue (5 : Fin 128) = true := by decide +kernel

theorem test_contextSample : after (.contextSample 5 false) (tCtx cxHold { u := 77 }) (fun t => t.reg (K.output 5) == 77) = true := by
  decide +kernel

/-- A rehearsal of context 5 that is ARMED or not. -/
def tReh (armed : Bool) : Reh := ⟨9, 0, 0, 5, 0, 100, 0, 0, 0, 7, 1, 100, 0, 0, armed, 0, 0, 0, 0, 1, false, false, 0⟩

theorem wit_ContextSettings :
    Writable (tRegs (tCtx cxDisabled {}) [(K.ctxEnable 5, 0), (K.slot 5, 0xFF), (K.measSource 5, 1), (K.axisSource 0, 1), (K.outKind 5, 1),
      (K.outTarget 5, 2), (K.svOwner 2, 2), (K.svOwnerContext 2, 5)]) (7 : Fin 16) (0x3800 + (5 : Fin 128)) 0x01 [1] (ctxEnableRule (5 : Fin 128)) ∧
    ((tRegs (tCtx cxDisabled {}) [(K.ctxEnable 5, 0), (K.slot 5, 0xFF)]).ctxPlace (5 : Fin 128)).isSome = true ∧
    Writable (tCtx cxRunning {}) (7 : Fin 16) (0x3800 + (5 : Fin 128)) 0x01 [0] (ctxEnableRule (5 : Fin 128)) ∧
    Writable (tCtx cxRunning {}) (7 : Fin 16) (0x3800 + (5 : Fin 128)) 0x02 (leBytes 1 (1 : BitVec 8).toNat)
      (ctxEntryRule (5 : Fin 128) 2 (fun s d => s.ctxEntryCheck (5 : Fin 128) 2 d)) ∧
    Writable (tRegs (tCtx cxRunning {}) [(K.ctxEnable 5, 0)]) (7 : Fin 16) (0x3800 + (5 : Fin 128)) 0x02 (leBytes 1 (1 : BitVec 8).toNat)
      (ctxEntryRule (5 : Fin 128) 2 (fun s d => s.ctxEntryCheck (5 : Fin 128) 2 d)) ∧
    Writable (tCtx cxRunning {}) (7 : Fin 16) (0x3800 + (5 : Fin 128)) (0x13 : BitVec 8).toNat (encInt 4 900)
      (ctxEntryRule (5 : Fin 128) (0x13 : BitVec 8).toNat (fun s d => s.ctxEntryCheck (5 : Fin 128) (0x13 : BitVec 8).toNat d)) ∧
    ((tCtx cxRunning {}).entryDesc 0x3805 0x13).isSome = true ∧
    Writable (tCtx cxRunning {}) (7 : Fin 16) (0x3800 + (5 : Fin 128)) 0x43 (leBytes 4 (1 : BitVec 32).toNat) (stickyClearRule (5 : Fin 128)) := by
  decide +kernel

theorem wit_ContextFallback :
    (tAt (tCtx cxRunning { invalidFrom := some 0 }) (ticksS 99) 0).reg (K.ctxState (5 : Fin 128)) = cxRunning ∧
    ((tAt (tCtx cxRunning { invalidFrom := some 0 }) (ticksS 99) 0).ctx (5 : Fin 128)).invalidFrom = some 0 ∧
    0 + (tCtx cxRunning { invalidFrom := some 0 }).regN (K.fallbackTime (5 : Fin 128)) / 10 ≤ ticksS 99 ∧
    ((tCtx cxFallback { validFrom := some 0 }).ctx (5 : Fin 128)).validFrom = some 0 ∧
    (tCtx cxFallback { validFrom := some 0 }).reg (K.ctxState (5 : Fin 128)) = cxFallback := by decide +kernel

theorem wit_Rehearsals :
    Writable (tRegs (tCtx cxRunning {}) [(K.rehSamples 5, 100)]) (7 : Fin 16)
      (0x3800 + (5 : Fin 128)) 0x3D (leBytes 1 (1 : BitVec 8).toNat) (rehStartRule (5 : Fin 128)) ∧
    Writable (tCtx cxRunning {}) (7 : Fin 16) (0x3800 + (5 : Fin 128)) 0x3E (leBytes 1 (1 : BitVec 8).toNat) (rehStopRule (5 : Fin 128)) ∧
    Writable (tCtx cxRunning { reh := some (tReh true) }) (7 : Fin 16) (0x3800 + (5 : Fin 128)) 0x3E (leBytes 1 (1 : BitVec 8).toNat)
      (rehStopRule (5 : Fin 128)) ∧
    ((tCtx cxRunning { reh := some (tReh true) }).ctx (5 : Fin 128)).reh = some (tReh true) ∧
    Writable (tCtx cxRunning { reh := some (tReh false) }) (7 : Fin 16) (0x3800 + (5 : Fin 128)) 0x3E (leBytes 1 (1 : BitVec 8).toNat)
      (rehStopRule (5 : Fin 128)) ∧
    (tReh true).armedAt + ticksS 60 ≤ (tAt (tCtx cxRunning { reh := some (tReh true) }) (ticksS 60) 0).tick := by decide +kernel

/-! ### Solenoid banks -/

/-- A stitch word with its op, current code and time count in units of 10 us. -/
def tStitch (op i count : Nat) : Nat := op * 2 ^ 28 + count * 4096 + i

/-- Channel 6 in state `st` with contents `x`, held by the dictionary, on with its bank, at 1 s. -/
def tSv (st : Int) (x : Sv) : State :=
  (tRegs (tAt tUdp (ticksS 1) 0) [(K.svEnable 6, 1), (K.svState 6, st), (K.svOwner 6, 3), (K.bankEnable 1, 1), (K.bankState 1, 1),
    (K.boostOwner 1, 0xFF), (K.boostMeasured 1, 65000), (K.stitchIndex 6, 0), (K.bankPeakLimit, 60000), (K.bankContinuousLimit, 16000)]).setSv 6 x

/-- Channel 6 runs the stitch `w` before a further HOLD stitch and END. -/
def tRun (w : Nat) (begun : Bool) : State := tSv svRunning { program := [w, tStitch 3 40 0, 0], begun := begun }

/-- A start of program 9, one HOLD of 1 A, that waits since tick 0. -/
def tPend : PendStart := ⟨9, [tStitch 3 40 0, 0], 0, 1000, 0, false, false, none, false, false⟩

theorem wit_Stitches_begin :
    (tSv svDecaying {}).reg (K.svState (6 : Fin 32)) = svDecaying ∧ (tSv svDecaying {}).reg (K.svEnable (6 : Fin 32)) = 1 ∧
    (tSv svDecaying {}).isDisabling (aimSv (6 : Fin 32)) = false ∧ ((tSv svDecaying {}).svCh (6 : Fin 32)).pending = none ∧
    (tRun (tStitch 1 40 10) false).runs (6 : Fin 32) 1 = true ∧ (tRun (tStitch 1 40 10) false).decideBoost (6 : Fin 32) ((tRun (tStitch 1 40 10) false).svCh (6 : Fin 32)).due = .granted ∧
    stMa ((tRun (tStitch 1 40 10) false).presentStitch (6 : Fin 32)) ≤ (tRun (tStitch 1 40 10) false).peakRoom (6 : Fin 32) ∧
    ((tRun (tStitch 1 40 10) false).svCh (6 : Fin 32)).boost = .unset ∧
    stMa ((tRun (tStitch 2 40 10) false).presentStitch (6 : Fin 32)) ≤ (tRun (tStitch 2 40 10) false).peakRoom (6 : Fin 32) ∧
    2 * 100 + (tRun (tStitch 2 40 10) false).regN (K.regBand (6 : Fin 32)) < 2 * stMa ((tRun (tStitch 2 40 10) false).presentStitch (6 : Fin 32)) ∧
    ((tRun (tStitch 2 40 10) false).svCh (6 : Fin 32)).condSince + ticksUs 5 ≤ (tRun (tStitch 2 40 10) false).tick ∧
    (tRun (tStitch 2 40 10) false).runs (6 : Fin 32) 2 = true ∧ (tRun (tStitch 3 40 10) false).runs (6 : Fin 32) 3 = true ∧
    (tRun (tStitch 4 40 10) false).runs (6 : Fin 32) 4 = true ∧ (tRun (tStitch 5 40 10) false).runs (6 : Fin 32) 5 = true ∧
    (tRun (tStitch 6 40 10) false).runs (6 : Fin 32) 6 = true ∧ (tRun (tStitch 7 40 0) false).runs (6 : Fin 32) 7 = true ∧
    (tRun (tStitch 8 40 0) false).runs (6 : Fin 32) 8 = true ∧
    stOp (stitchAt ((tRun (tStitch 7 40 0) false).svCh (6 : Fin 32)).program ((tRun (tStitch 7 40 0) false).regN (K.stitchIndex (6 : Fin 32)) + 1)) ≠ 0 := by
  decide +kernel

theorem wit_Stitches_go :
    (tRun (9 * 2 ^ 28 + 64 * 3) false).runs (6 : Fin 32) 9 = true ∧
    ((tRun (9 * 2 ^ 28 + 64 * 3) false).svCh (6 : Fin 32)).loops.get 0 0 < (tRun (9 * 2 ^ 28 + 64 * 3) false).presentStitch (6 : Fin 32) / 64 % 65536 ∧
    stOp (stitchAt ((tRun (9 * 2 ^ 28 + 64 * 3) false).svCh (6 : Fin 32)).program ((tRun (9 * 2 ^ 28 + 64 * 3) false).presentStitch (6 : Fin 32) % 64)) ≠ 0 ∧
    (tRun (9 * 2 ^ 28) false).runs (6 : Fin 32) 9 = true ∧ (tRun (9 * 2 ^ 28) false).presentStitch (6 : Fin 32) / 64 % 65536 ≤ 0 ∧
    (tRun (tStitch 10 0 0) false).runs (6 : Fin 32) 10 = true ∧ (tRun (tStitch 10 0 0) false).reg (K.svOwner (6 : Fin 32)) ≠ 2 ∧
    timedStitch ((tRun (tStitch 4 40 10) true).presentStitch (6 : Fin 32)) = true ∧
    ((tRun (tStitch 4 40 10) true).svCh (6 : Fin 32)).start + stT ((tRun (tStitch 4 40 10) true).presentStitch (6 : Fin 32)) ≤ (tRun (tStitch 4 40 10) true).tick ∧
    stOp ((tRun (tStitch 5 0 0) true).presentStitch (6 : Fin 32)) = 5 ∧ stI ((tRun (tStitch 5 0 0) true).presentStitch (6 : Fin 32)) = 0 ∧
    stMa ((tRun (tStitch 6 40 0) true).presentStitch (6 : Fin 32)) = 1000 ∧ ((tRun (tStitch 1 40 10) true).svCh (6 : Fin 32)).window = none := by
  decide +kernel

theorem test_stitchHold : after (.stitchHold 6 0) ((tRun (tStitch 3 40 10) false).setReg (K.grant 6) 2000) (fun t => (t.svCh 6).begun && t.reg (K.svSetpoint 6) == 1000) = true := by
  decide +kernel

theorem wit_Starts :
    (tSv svWaiting { pending := some tPend }).startOrder (1 : Fin 8) = [6] ∧ ((tSv svWaiting { pending := some tPend }).svCh 6).pending = some tPend ∧
    (tPend.claim : Int) ≤ (tSv svWaiting { pending := some tPend }).reg K.bankContinuousLimit - ((tSv svWaiting { pending := some tPend }).claimsOfOthers 6 : Nat) ∧
    firstIsBoost tPend.program = false ∧ stOp (stitchAt tPend.program 0) ≠ 0 ∧
    tPend.req + (tSv svWaiting { pending := some tPend }).deferTicks ≤ (tSv svWaiting { pending := some tPend }).tick ∧
    ((tSv svWaiting { pending := some tPend }).setReg K.bankContinuousLimit 400).reg K.bankContinuousLimit -
      (((tSv svWaiting { pending := some tPend }).setReg K.bankContinuousLimit 400).claimsOfOthers (6 : Fin 32) : Nat) < (tPend.claim : Int) ∧
    ((tSv svRunning { runningSince := some 0 }).setReg (K.maxOnTime 6) 500).regN (K.maxOnTime (6 : Fin 32)) ≠ 0 ∧
    ((tSv svRunning { runningSince := some 0 }).setReg (K.maxOnTime 6) 500).tick % ticksMs 1 = 0 ∧
    0 + ticksMs (((tSv svRunning { runningSince := some 0 }).setReg (K.maxOnTime 6) 500).regN (K.maxOnTime (6 : Fin 32))) ≤
      ((tSv svRunning { runningSince := some 0 }).setReg (K.maxOnTime 6) 500).tick := by decide +kernel

theorem test_bankArbitrate :
    after (.bankArbitrate 1 65000) (tSv svWaiting { pending := some tPend }) (fun t => t.reg (K.svState 6) == svRunning && t.reg (K.grant 6) == 1000) = true := by
  decide +kernel

/-- Program 9 is one HOLD of 1 A. -/
def tProg (s : State) : State := s.setBlob (K.stitchProgram 9) (leBytes 4 (tStitch 3 40 0) ++ zeros 4)

theorem wit_SolenoidCommands :
    Writable (tProg (tSv svOff {})) (7 : Fin 16) (0x4020 + (6 : Fin 32)) 0x0C (leBytes 1 1 ++ leBytes 1 (9 : BitVec 8).toNat) (svCommandRule (6 : Fin 32)) ∧
    (tProg (tSv svOff {})).flag K.powerFlags 2 = false ∧
    Writable (tRun (tStitch 3 40 0) true) (7 : Fin 16) (0x4020 + (6 : Fin 32)) 0x0C (leBytes 1 2 ++ leBytes 1 0) (svCommandRule (6 : Fin 32)) ∧
    Writable (tSv svDecaying { pending := some tPend }) (7 : Fin 16) (0x4020 + (6 : Fin 32)) 0x0C (leBytes 1 2 ++ leBytes 1 0) (svCommandRule (6 : Fin 32)) ∧
    Writable (tSv svWaiting { pending := some tPend }) (7 : Fin 16) (0x4020 + (6 : Fin 32)) 0x0C (leBytes 1 2 ++ leBytes 1 0) (svCommandRule (6 : Fin 32)) ∧
    Writable ((tSv svDisabled {}).setReg (K.svEnable 6) 0) (7 : Fin 16) (0x4020 + (6 : Fin 32)) 0x01 (leBytes 1 (1 : BitVec 8).toNat) (svEnableRule (6 : Fin 32)) ∧
    Writable (tRun (tStitch 3 40 0) true) (7 : Fin 16) (0x4020 + (6 : Fin 32)) 0x01 (leBytes 1 (0 : BitVec 8).toNat) (svEnableRule (6 : Fin 32)) ∧
    Writable (tSess ((tSv svDisabled {}).setReg (K.svEnable 6) 0) 7 3) (7 : Fin 16) (0x4020 + (6 : Fin 32)) 0x0D (leBytes 1 (1 : BitVec 8).toNat) (svSelfTestRule (6 : Fin 32)) ∧
    [8, 9, 10, 11, 12].any ((tSv svTesting {}).flag (K.svFlags (6 : Fin 32))) = false ∧
    Writable (tSv svFault {}) (7 : Fin 16) (0x4020 + (6 : Fin 32)) 0x0E (leBytes 1 (1 : BitVec 8).toNat) (svFaultClearRule (6 : Fin 32)) ∧
    Writable (tSv svOff {}) (7 : Fin 16) (0x4100 + (9 : Fin 64)) 0 (leBytes 4 (tStitch 3 40 0) ++ zeros 4) (stitchProgramRule (9 : Fin 64)) := by
  decide +kernel

theorem wit_SolenoidFaults :
    200 ≤ ((tRun (tStitch 3 40 0) true).setReg (K.svSetpoint 6) 1000).reg (K.svSetpoint (6 : Fin 32)) ∧
    (tSv svOff {}).reg (K.svState (6 : Fin 32)) ≠ svFault ∧ ((tSv svOff {}).svCh (6 : Fin 32)).cond = .off ∧
    ((tSv svDecaying {}).svCh (6 : Fin 32)).start + ticksMs 100 ≤ (tSv svDecaying {}).tick ∧ (tSv svOff {}).flag (K.svFlags (6 : Fin 32)) 11 = false ∧
    (tSv svOff {}).reg (K.bankEnable (1 : Fin 8)) = 1 ∧ (tSv svOff {}).reg (K.boostOwner (1 : Fin 8)) = 0xFF ∧
    10 * 100 < 9 * (tSv svOff {}).regN (K.boostVoltage (1 : Fin 8)) ∧ (tSv svOff {}).flag (K.bankFlags (1 : Fin 8)) 0 = false := by decide +kernel

/-- BANK_A and BANK_D share a supply input, BANK_E has the other (R267). -/
theorem test_supplyLow : svInput 0 = svInput 3 ∧ svInput 4 ≠ svInput 3 ∧
    after (.supplyLow 3 5999) (tSv svOff {}) (fun t => t.flag (K.bankFlags 0) 1 && !t.flag (K.bankFlags 4) 1) = true := by decide +kernel

theorem test_bankOverload : after (.bankOverload 1 70001 2000) (tRun (tStitch 3 40 0) true) (fun t => t.reg (K.svState 6) == svFault) = true := by
  decide +kernel

/-! ### Load channels -/

/-- Channel 10 (group 0) in state `st` with duty `d` and contents `x`, on and held by the dictionary, at 100 s. -/
def tLs (st d : Int) (x : Ls) : State :=
  (tRegs (tAt tUdp (ticksS 100) 0) [(K.lsEnable 10, 1), (K.lsState 10, st), (K.lsOwner 10, 3), (K.commandedDuty 10, d), (K.appliedDuty 10, d)]).setLs 10 x

theorem wit_LoadCommands :
    (tLs lsOff 0 {}).flag (K.lsFlags (10 : Fin 48)) lfThermal = false ∧ (tLs lsOff 0 {}).safeOff = false ∧
    Writable (tLs lsOff 0 {}) (7 : Fin 16) (0x4400 + (10 : Fin 48)) 0x15 (leBytes 2 (500 : BitVec 16).toNat) (lsDutyRule (10 : Fin 48)) ∧
    (tLs lsOn 300 {}).lsConducts (10 : Fin 48) = true ∧
    Writable (tLs lsOn 300 {}) (7 : Fin 16) (0x4400 + (10 : Fin 48)) 0x15 (leBytes 2 (0 : BitVec 16).toNat) (lsDutyRule (10 : Fin 48)) ∧
    Writable (tLs lsOn 300 {}) (7 : Fin 16) (0x4400 + (10 : Fin 48)) 0x15 (leBytes 2 (200 : BitVec 16).toNat) (lsDutyRule (10 : Fin 48)) ∧
    (tLs lsOn 300 {}).lsBoundary (10 : Fin 48) = (tLs lsOn 300 {}).tick ∧
    Writable (tLs lsOn 300 { onAt := 5 }) (7 : Fin 16) (0x4400 + (10 : Fin 48)) 0x15 (leBytes 2 (200 : BitVec 16).toNat) (lsDutyRule (10 : Fin 48)) ∧
    (tLs lsOn 300 { onAt := 5 }).tick < (tLs lsOn 300 { onAt := 5 }).lsBoundary (10 : Fin 48) ∧
    Writable (tLs lsTripped 300 {}) (7 : Fin 16) (0x4400 + (10 : Fin 48)) 0x15 (leBytes 2 (200 : BitVec 16).toNat) (lsDutyRule (10 : Fin 48)) ∧
    Writable ((tLs lsDisabled 0 {}).setReg (K.lsEnable 10) 0) (7 : Fin 16) (0x4400 + (10 : Fin 48)) 0x01 (leBytes 1 (1 : BitVec 8).toNat) (lsEnableRule (10 : Fin 48)) ∧
    Writable (tLs lsOn 300 {}) (7 : Fin 16) (0x4400 + (10 : Fin 48)) 0x01 (leBytes 1 (0 : BitVec 8).toNat) (lsEnableRule (10 : Fin 48)) ∧
    Writable (tLs lsLatched 300 {}) (7 : Fin 16) (0x4400 + (10 : Fin 48)) 0x16 (leBytes 1 (1 : BitVec 8).toNat) (lsFaultClearRule (10 : Fin 48)) ∧
    Writable ((tLs lsLatched 300 {}).setFlag (K.groupFlags 0) 1 true) (7 : Fin 16) (0x4480 + (0 : Fin 4)) 0x06 (leBytes 1 (1 : BitVec 8).toNat) (groupReconnectRule (0 : Fin 4)) := by
  decide +kernel

theorem test_lsDuty : after (.lsDuty 7 10 500) (tLs lsOff 0 {}) (fun t => t.reg (K.appliedDuty 10) == 500 && t.lsConducts 10) = true := by
  decide +kernel

theorem wit_LoadsRun :
    ((tLs lsInrush 300 {}).lsCh (10 : Fin 48)).slewFrom = none ∧
    ((tLs lsInrush 300 {}).lsCh (10 : Fin 48)).onAt + ticksMs ((tLs lsInrush 300 {}).regN (K.inrushTime (10 : Fin 48))) ≤ (tLs lsInrush 300 {}).tick ∧
    ((tLs lsInrush 300 { slewFrom := some 0 }).lsCh (10 : Fin 48)).slewFrom = some 0 ∧
    0 + ticksMs ((tLs lsInrush 300 { slewFrom := some 0 }).regN (K.slewTime (10 : Fin 48))) ≤ (tLs lsInrush 300 { slewFrom := some 0 }).tick ∧
    ((tLs lsOn 300 { dc := 300 }).setReg (K.loadKind 10) 1).reg (K.loadKind (10 : Fin 48)) = 1 ∧ ((tLs lsOn 300 { dc := 300 }).lsCh (10 : Fin 48)).dc ≠ 0 ∧
    6000 * (10 ^ 13 * 65536) ≤ lampVolts ((tLs lsOn 300 {}).regN (K.wireSection (10 : Fin 48))) ((tLs lsOn 300 {}).regN (K.wireLength (10 : Fin 48)))
      ((tLs lsOn 300 {}).wireTemp (10 : Fin 48)) 13500 2000 ∧ (tLs lsOn 300 {}).flag (K.groupFlags (lsGroup (10 : Fin 48))) 2 = false ∧
    (tLs lsOn 300 { onSince := some 0 }).reg (K.lsState (10 : Fin 48)) = lsOn ∧
    0 + ticksS ((tLs lsOn 300 { onSince := some 0 }).regN (K.retryWindow (10 : Fin 48))) ≤ (tLs lsOn 300 { onSince := some 0 }).tick := by decide +kernel

theorem test_fuseStep : after (.fuseStep 10 2000 0 2000) (tLs lsOn 300 {}) (fun t => t.reg (K.lsCurrent 10) == 2000 && (t.lsCh 10).dT == 0) = true := by
  decide +kernel

theorem wit_LoadsRestart :
    (tLs lsTripped 300 {}).reg (K.commandedDuty (10 : Fin 48)) ≠ 0 ∧ (tLs lsTripped 300 {}).reg (K.tripCause (10 : Fin 48)) ≠ (tcShed : Nat) ∧
    (tLs lsTripped 300 {}).flag (K.lsFlags (10 : Fin 48)) lfThermal = false ∧
    ((tLs lsTripped 300 {}).lsCh (10 : Fin 48)).tripTick + ticksMs ((tLs lsTripped 300 {}).regN (K.retryDelay (10 : Fin 48))) ≤ (tLs lsTripped 300 {}).tick ∧
    (tLs lsTripped 300 {}).reg (K.retriesUsed (10 : Fin 48)) < (tLs lsTripped 300 {}).reg (K.retryCount (10 : Fin 48)) ∧
    ((tLs lsTripped 300 {}).setReg (K.retriesUsed 10) 200).reg (K.retryCount (10 : Fin 48)) ≤ ((tLs lsTripped 300 {}).setReg (K.retriesUsed 10) 200).reg (K.retriesUsed (10 : Fin 48)) ∧
    0 < (tLs lsOn 300 {}).reg (K.segmentsHealthy (10 : Fin 48)) ∧ (tLs lsOn 300 {}).reg (K.understudyInService (10 : Fin 48)) = 0 ∧ ((tLs lsOn 300 {}).setReg (K.understudyInService 10) 1).reg (K.understudyInService (10 : Fin 48)) ≠ 0 := by
  decide +kernel

/-- A scheduled segment test of channel 10. -/
def tSegAct : Activity := ⟨actSegmentTest, domFeed (lsGroup 10), 10, .scheduled, 0, 0, 0, 0⟩

theorem wit_SegmentTest :
    (((tLs lsOff 0 {}).setReg K.segmentTestInterval 60).runningAct actSegmentTest (10 : Fin 48)) = none ∧
    ((tLs lsOff 0 {}).setReg K.segmentTestInterval 60).maint.segTested.get 0 (10 : Fin 48) + ticksS (((tLs lsOff 0 {}).setReg K.segmentTestInterval 60).regN K.segmentTestInterval) ≤ (tLs lsOff 0 {}).tick ∧
    ((tLs lsOff 0 {}).setReg K.segmentTestInterval 60).schedulable (domFeed (lsGroup (10 : Fin 48))) = true ∧
    ({ tLs lsOff 0 {} with maint := { (tLs lsOff 0 {}).maint with acts := [tSegAct] } } : State).runningAct actSegmentTest (10 : Fin 48) = some tSegAct ∧
    tSegAct.start + ticksMs (2 * lsActiveSegments (10 : Fin 48)) ≤ (tLs lsOff 0 {}).tick ∧ (tLs lsOff 0 {}).maint.waiting = [] := by decide +kernel

theorem wit_LoadsTrip :
    3 * (tLs lsOn 300 {}).reg (K.effectiveRating (10 : Fin 48)) < 2 * (200000 : Int) ∧ ticksUs 1 ≤ 100 ∧
    ((tLs lsOn 300 {}).setReg (K.shedPriority 10) 4).shedPick (0 : Fin 4) = some 10 ∧ ((tLs lsOn 300 {}).feed (0 : Fin 4)).lastShed = none ∧
    (tLs lsOff 0 {}).lsDriven (10 : Fin 48) = false ∧ ((tLs lsOff 0 {}).lsCh (10 : Fin 48)).stuck = false ∧ (tLs lsOff 0 {}).reg (K.lsEnable (10 : Fin 48)) = 1 ∧
    (tLs lsOff 0 {}).reg (K.offDiagnostics (10 : Fin 48)) = 1 := by decide +kernel

theorem test_groupShed : after (.groupShed 0 40001 (ticksS 2)) ((tLs lsOn 300 {}).setReg (K.shedPriority 10) 4)
    (fun t => t.reg (K.lsState 10) == lsTripped && t.reg (K.tripCause 10) == 5) = true := by decide +kernel

/-! ### Sensing inputs -/

/-- Inputs of every class are on, at 5 s. -/
def tIn : State :=
  tRegs (tAt tUdp (ticksS 5) 70) [(K.ainEnable 3, 1), (K.finEnable 2, 1), (K.acuEnable 4, 1), (K.brgEnable 1, 1), (K.finMode 2, 2),
    (K.understudyConverterUse, 0xFF), (K.sensSupplyEnable, 63), (K.converterCheckInterval, 1)]

theorem wit_Samples :
    tIn.reg (K.ainEnable (3 : Fin 32)) = 1 ∧ (tIn.ain (3 : Fin 32)).y = none ∧
    tIn.reg (K.finEnable (2 : Fin 16)) = 1 ∧ tIn.reg (K.finMode (2 : Fin 16)) = 2 ∧ tIn.regN (K.finGlitch (2 : Fin 16)) ≤ ticksUs 100 * 10 ∧
    tIn.finHigh (2 : Fin 16) 0 = false ∧ tIn.finHigh (2 : Fin 16) 20000 = true ∧ (tIn.setReg (K.finMode 2) 0).finArmed (2 : Fin 16) 0 = true ∧
    0 * 10 < (tIn.setReg (K.finGlitch 2) 1000).regN (K.finGlitch (2 : Fin 16)) ∧
    (tIn.fin (2 : Fin 16)).lastEdge.getD (tIn.fin (2 : Fin 16)).enabledAt + ticksMs (tIn.regN (K.finZeroTime (2 : Fin 16))) ≤ tIn.tick ∧
    tIn.reg (K.acuEnable (4 : Fin 16)) = 1 ∧ (tIn.acu (4 : Fin 16)).open_ = false ∧ (tIn.acu (4 : Fin 16)).closing = false ∧
    (tIn.acu (4 : Fin 16)).hadBurst = false ∧ 0 < tIn.regN (K.acuMaxLength (4 : Fin 16)) ∧
    (tIn.regN (K.acuThresholdOn (4 : Fin 16)) : Int) ≤ (tIn.acu (4 : Fin 16)).env + (absI (0x7FFF : BitVec 16).toInt - (tIn.acu (4 : Fin 16)).env) / 16 ∧
    (tIn.regN (K.acuThresholdOff (4 : Fin 16)) : Int) ≤ (tIn.acu (4 : Fin 16)).env + (absI (0x7FFF : BitVec 16).toInt - (tIn.acu (4 : Fin 16)).env) / 16 := by
  decide +kernel

theorem wit_SamplesEnd :
    ((tIn.setAcu 4 { closing := true, pk := 900, cfg := [0, 0, 0, 0, 800] }).acu (4 : Fin 16)).closing = true ∧
    (tIn.setAcu 4 { closing := true, pk := 900, cfg := [0, 0, 0, 0, 800] }).acuCounts (4 : Fin 16) = true ∧
    (tIn.acu (4 : Fin 16)).rateAt + ticksMs 1 ≤ tIn.tick ∧ tIn.reg (K.brgEnable (1 : Fin 4)) = 1 ∧ tIn.impl0Axis = none := by decide +kernel

theorem test_finEdge : after (.finEdge 2 ⟨0, false⟩ ⟨20000, false⟩ (ticksUs 100) 0) tIn
    (fun t => (t.reg (K.finCount 2) == 1 || t.reg (K.finCount 2) == -1) && (t.fin 2).lastEdge == some (ticksS 5 - ticksUs 100)) = true := by
  decide +kernel

theorem test_finDiscard : after (.finEdge 2 ⟨0, false⟩ ⟨20000, true⟩ (ticksUs 100) 0) tIn (fun t => t.reg (K.finCount 2) == 0 && t.flag (K.finFlags 2) ifSignal) = true := by
  decide +kernel

theorem wit_InputCommands :
    Writable tIn (7 : Fin 16) (0x4840 + (2 : Fin 16)) 0x0F (leBytes 1 (1 : BitVec 8).toNat) (finZeroRule (2 : Fin 16)) ∧
    Writable tIn (7 : Fin 16) (0x4880 + (1 : Fin 4)) 0x06 (leBytes 1 (1 : BitVec 8).toNat) (brgTareRule (1 : Fin 4)) ∧
    ((tIn.setBrg 1 { tares := [⟨9, 0, -30, 4⟩] }).brg (1 : Fin 4)).tares = ⟨9, 0, -30, 4⟩ :: [] ∧ 0 + ticksS 1 ≤ tIn.tick ∧
    ((tIn.setAin 3 { outFrom := some 0 }).ain (3 : Fin 32)).outFrom = some 0 ∧ 0 + ticksMs 10 ≤ tIn.tick ∧
    ((tIn.setAcu 4 { noiseFrom := some 0 }).acu (4 : Fin 16)).noiseFrom = some 0 ∧ 0 + ticksMs 100 ≤ tIn.tick ∧
    tIn.imu.lastTick + ticksMs 5 ≤ tIn.tick := by decide +kernel

theorem test_brgTareEnd : after (.brgTareEnd 1) (tIn.setBrg 1 { tares := [⟨9, 0, -30, 4⟩] }) (fun t => t.reg (K.brgTare 1) == -7) = true := by
  decide +kernel

theorem wit_InputFaults :
    (1 : Fin 32).val < (inClassOf 3).count ∧ tIn.inputOn (inClassOf 3) (1 : Fin 32) = true ∧
    tIn.frontEndTime (inClassOf 3) (1 : Fin 32) (0 : Fin 8) = some 0 ∧ tIn.flag K.converterFailures (ainConverter (3 : Fin 32)) = false ∧
    tIn.reg K.understudyConverterUse = 0xFF ∧ tIn.flag K.sensSupplyEnable (2 : Fin 6) = true ∧ (tIn.supply (2 : Fin 6)).offAt = none := by
  decide +kernel

theorem wit_InputFaults_supply :
    ({ tIn with supplies := tIn.supplies.set Supply.init 2 { offAt := some 0 } } : State).flag K.sensSupplyEnable (2 : Fin 6) = true ∧
    (({ tIn with supplies := tIn.supplies.set Supply.init 2 { offAt := some 0 } } : State).supply (2 : Fin 6)).offAt = some 0 ∧
    tIn.runningAct actConverterCheck (5 : Fin 8) = none ∧ tIn.reg K.converterCheckInterval ≠ 0 ∧
    tIn.maint.convTested.get 0 (5 : Fin 8) + ticksS (tIn.regN K.converterCheckInterval) ≤ tIn.tick ∧ tIn.schedulable domConverters = true ∧
    tIn.converterTaken = false ∧ tIn.flag K.converterFailures (5 : Fin 8) = false := by decide +kernel

/-! ### The cell fabric and prickings -/

/-- The word of an operation (R361); unused operands hold 0xFF. -/
def tWord (q : CellWord) : Nat :=
  q.cls * 2 ^ 61 + q.op * 2 ^ 56 + b2n q.invert * 2 ^ 55 + q.pred * 2 ^ 52 + q.dst.getD 255 * 2 ^ 44 + q.srcA.getD 255 * 2 ^ 36 +
    q.srcB.getD 255 * 2 ^ 28 + q.imm.getD 0

/-- A container whose cell 5 runs 18 words of NOP; `c` is the section CLAIMS. -/
def tContainer : Bytes :=
  let plane := leBytes 2 5 ++ leBytes 2 18 ++ zeros 4 ++ ((List.range 18).map (fun _ => leBytes 8 (tWord ⟨6, 0, 0, false, none, none, none, none⟩))).flatten
  leBytes 2 0x5052 ++ [1, 0x10] ++ leBytes 2 128 ++ leBytes 2 1 ++ leBytes 4 7 ++ leBytes 2 1 ++ leBytes 2 0 ++ leBytes 4 1 ++ leBytes 4 18 ++
    leBytes 4 400 ++ leBytes 4 1 ++ zeros 8 ++ zeros 32 ++ zeros 56 ++
    leBytes 2 1 ++ zeros 2 ++ leBytes 4 144 ++ leBytes 4 152 ++ leBytes 4 (crc32 plane) ++ plane ++ [0x10] ++ zeros 103

/-- Region 0 holds panel 0 and runs the pricking of slot 4; its cell 5 is `x`. -/
def tFab (x : Cell) : State :=
  ((tRegs (tAxis 1 axValid 20) [(K.regionPanels 0, 1), (K.regionState 0, rgRunning), (K.runningSlot 0, 4)]).setPslot 4 { content := tContainer }).setCell 5 x

/-- Cell 5 is about to issue the word of `q`. -/
def tOp (q : CellWord) : State := tFab { active := { words := [tWord q, 0, 0] }, g := ((⟨[]⟩ : Tab Int).set 0 4 9) }

theorem wit_CellsCompute :
    (tOp (word3 1 0 0 false (.g 1) (.g 2) (.g 3) 0)).issues (5 : Fin 2048) (word3 1 0 (0 : Fin 8) false (.g 1) (.g 2) (.g 3) 0) = true ∧
    ((tOp (word3 1 0 0 false (.g 1) (.g 2) (.g 3) 0)).cell (5 : Fin 2048)).pred (0 : Fin 8) ≠ false ∧
    (tOp ⟨0, 1, 0, false, some 0x51, some 0x42, some 0x43, none⟩).issues (5 : Fin 2048) ⟨0, 1, (0 : Fin 8), false, some (0x50 + (1 : Fin 2)), some (0x40 + (2 : Fin 16)), some (0x40 + (3 : Fin 16)), none⟩ = true ∧
    (tOp (word2 3 0 0 false (.v 1) (.v 2) 0)).issues (5 : Fin 2048) (word2 3 0 (0 : Fin 8) false (.v 1) (.v 2) 0) = true ∧
    (tOp (word2 3 0 3 false (.v 1) (.v 2) 0)).issues (5 : Fin 2048) (word2 3 0 (3 : Fin 8) false (.v 1) (.v 2) 0) = true ∧
    ((tOp (word2 3 0 3 false (.v 1) (.v 2) 0)).cell (5 : Fin 2048)).pred (3 : Fin 8) = false ∧
    (tOp (word2 3 0 0 false (.v 1) (.v 2) 0)).issues (5 : Fin 2048) (word2 3 1 (0 : Fin 8) false (.v 1) (.v 2) 0) = false := by decide +kernel

/-- ADDS g1 := g2 + g2 with g2's lane 0 = 9. -/
theorem test_adds : after (.adds 5 0 false (.g 1) (.g 2) (.g 2) 0) (tOp (word3 1 0 0 false (.g 1) (.g 2) (.g 2) 0))
    (fun t => (t.cell 5).lane (.g 1) 0 == 18 && (t.cell 5).pc == 1) = true := by decide +kernel

theorem wit_CellsReach :
    (tOp ⟨4, 1, 0, false, none, some 2, some 3, some 0⟩).issues (5 : Fin 2048) ⟨4, 1, (0 : Fin 8), false, none, some (addrCode (some 2)), some (3 : Fin 64), some (0 : BitVec 28).toNat⟩ = true ∧
    ((tOp ⟨4, 4, 0, false, some 0x59, some 2, some 3, some 1⟩).cell (5 : Fin 2048)).dma.length < 16 ∧
    ((tFab { dma := [⟨false, 0, 2, 1, 1, 0, false⟩] }).cell (5 : Fin 2048)).dma = ⟨false, 0, 2, 1, 1, 0, false⟩ :: [] ∧
    ((tFab { active := { words := [tWord ⟨5, 0, 0, false, none, some 2, none, some 0⟩], routes := [⟨7, 0, 0, 0⟩] } }).cell (5 : Fin 2048)).active.routes[(0 : BitVec 28).toNat]? = some ⟨7, 0, 0, 0⟩ ∧
    (tFab { active := { words := [tWord ⟨5, 0, 0, false, none, some 2, none, some 0⟩] } }).issues (5 : Fin 2048) ⟨5, 0, (0 : Fin 8), false, none, some (argCode (.g 2)), none, some (0 : BitVec 28).toNat⟩ = true ∧
    (tOp ⟨6, 1, 0, false, none, none, none, some 1537⟩).issues (5 : Fin 2048) ⟨6, 1, (0 : Fin 8), false, none, none, none, some (1537 : BitVec 28).toNat⟩ = true ∧
    (tFab {}).regionOf (5 : Fin 2048) = some 0 := by decide +kernel

theorem test_cellSt : after (.st 5 0 false none 2 16) (tOp ⟨4, 1, 0, false, none, some 255, some 2, some 16⟩)
    (fun t => (t.cell 5).byteAt 16 == 9 && (t.cell 5).byteAt 17 == 0) = true := by decide +kernel

/-- A container with the section CLAIMS (line 2, four cue slots) and with one OEM entry. -/
def tClaims : Bytes :=
  zeros 6 ++ leBytes 2 2 ++ zeros 120 ++ leBytes 2 6 ++ zeros 2 ++ leBytes 4 160 ++ leBytes 4 4 ++ zeros 4 ++
    leBytes 2 5 ++ zeros 2 ++ leBytes 4 164 ++ leBytes 4 33 ++ zeros 4 ++
    leBytes 2 4 ++ leBytes 2 4 ++ leBytes 2 0x7000 ++ [1, 8, 2, 0, 0] ++ zeros 24 ++ [1, 0x61]

theorem wit_CellsSystem :
    pLineMask tClaims = 4 ∧ pCueClaim tClaims = 4 ∧ (pObjects tClaims)[(0 : BitVec 28).toNat]?.isSome = true ∧
    (((tLine 1).setReg (K.lineWriter 2) 2).reg (K.lineEnable (2 : BitVec 28).toNat)) = 1 ∧
    ((tLine 1).setReg (K.lineWriter 2) 2).lineReject (2 : BitVec 28).toNat 5000001 = none ∧
    (tFab {}).book.closed = false ∧ (tFab {}).reg K.journalState ≠ 2 ∧ (tFab {}).book.staged.length < 1024 ∧ (tFab {}).reg K.bookState ≠ 1 := by
  decide +kernel

theorem wit_CellsSystem_cue :
    (cueRec (leBytes 2 2 ++ (tCueBytes 0 0 0).drop 2)).slot < pCueClaim tClaims ∧
    (tAxis 1 axValid 20).cueForm { cueRec (leBytes 2 2 ++ (tCueBytes 0 0 0).drop 2) with slot := 4093 } = true ∧
    (tAxis 1 axValid 20).cueOwnerBad { cueRec (leBytes 2 2 ++ (tCueBytes 0 0 0).drop 2) with slot := 4093 } = false ∧
    (tAxis 1 axValid 20).armCheck { cueRec (leBytes 2 2 ++ (tCueBytes 0 0 0).drop 2) with slot := 4093 } = none := by decide +kernel

/-- The container keeps every rule of layout; its signature is open (Config.ecdsaVerify), so that a whole load is not decided here. -/
theorem wit_PrickingLoad :
    containerOk tContainer = true ∧ isPrickingKey (pHeader tContainer).keyId = true ∧ tUdp.slotBusy 3 = false ∧ tUdp.islandHeld = false := by
  decide +kernel

theorem wit_Prickings :
    ({ tFab {} with fabric := { (tFab {}).fabric with loading := some ⟨3, 9, tContainer, false⟩ } } : State).fabric.loading = some ⟨3, 9, tContainer, false⟩ ∧
    Writable (tUdp.setPslot 3 { content := [1, 2] }) (7 : Fin 16) 0x5082 0 (leBytes 1 (3 : BitVec 8).toNat) prickingDeleteRule ∧
    Writable tUdp (7 : Fin 16) (0x5010 + (2 : Fin 32)) 1 (leBytes 4 (6 : BitVec 32).toNat) (regionPanelsRule (2 : Fin 32)) ∧
    (tFab {}).reg (K.regionState (0 : Fin 32)) = rgRunning ∧ (tLate (tFab {})).passEnded (0 : Fin 32) = true ∧
    pObjects ((tFab {}).runningOf (0 : Fin 32)) = [] := by decide +kernel

/-- A scene change of region 0 to EMPTY with the trigger NOW, which keeps the layout of R377. -/
def tSceneBytes : Bytes := [0, 0xFF] ++ zeros 14 ++ leBytes 4 1000000 ++ zeros 12

/-- Region 0 has the given change in flight. -/
def tScene (c : Scene) : State := (tFab {}).setRegion 0 { run := some c }

theorem wit_Scenes :
    Writable (tFab {}) (7 : Fin 16) 0x5080 0 tSceneBytes sceneChangeRule ∧
    ((tScene ⟨9, 4, 0, 0, 0, 0, 1000000, 0, false, false, false, none⟩).region (0 : Fin 32)).run = some ⟨9, 4, 0, 0, 0, 0, 1000000, 0, false, false, false, none⟩ ∧
    (tScene ⟨9, 4, 1, 0, 0, 195, 1000000, 0, true, false, false, none⟩).sceneTrigger ⟨9, 4, 1, 0, 0, -5, 1000000, 0, true, false, false, none⟩ = .met ∧
    (tScene ⟨9, 4, 1, 0, 0, 195, 1000000, 0, true, false, false, none⟩).sceneTrigger ⟨9, 4, 1, 0, 0, -500, 1000000, 0, true, false, false, none⟩ = .passed ∧
    ((tScene ⟨9, 4, 0, 0, 0, 0, 1000000, 0, true, false, false, some 3⟩).region (0 : Fin 32)).pend = none ∧ 3 < (tScene ⟨9, 4, 0, 0, 0, 0, 1000000, 0, true, false, false, some 3⟩).tick ∧
    (pHeader ((tFab {}).runningOf (0 : Fin 32))).flags.testBit 0 = false ∧ 3 + ticksUs 0 ≤ (tFab {}).tick ∧
    (tFab {}).fusionRuns (0 : Fin 32) = false ∧ (tLate ((tFab {}).setReg (K.repeatLength 0) 400)).atBoundary (0 : Fin 32) = true ∧
    ((tFab {}).region (0 : Fin 32)).holdUntil ≤ (tFab {}).tick ∧
    (tFuse {}).fusionRuns (0 : Fin 32) = true ∧ ((tFuse { runEnd := some 5 }).setRegion 0 { run := some ⟨9, 4, 0, 0, 0, 0, 1000000, 0, true, false, false, some 3⟩ }).fusionSwitches = true ∧
    Writable (tScene ⟨9, 4, 0, 0, 0, 0, 1000000, 0, true, false, false, none⟩) (7 : Fin 16) 0x5081 0 (leBytes 1 (0 : BitVec 8).toNat) sceneCancelRule := by
  decide +kernel

/-! ### Understudies, maintenance and firmware -/

/-- The module at `tick` with the given activities. -/
def tMaint (tick : Nat) (l : List Activity) : State :=
  let s := tSess (tAt tUdp tick 0) 7 3
  { s with maint := { s.maint with acts := l } }

/-- A rotation of place 7 in a phase, begun at tick 0. -/
def tRot (phase : Nat) : Activity := ⟨actRotation, 0, 7, .scheduled, 0, 0, phase, 0⟩

/-- A swap or a repair of place 7. -/
def tMove (code : Nat) : Activity := ⟨code, 0, 7, .repair, 0, 0, 0, 0⟩

theorem wit_CellTests :
    (((tMaint (ticksS 512) []).setReg K.cellTestPeriod 60).actsIn (0 : Fin 4)).find? (fun a => a.code == actRotation) = none ∧
    ((tMaint (ticksS 512) []).setReg K.cellTestPeriod 60).maint.lastRotation.get 0 (0 : Fin 4) +
      ticksS (((tMaint (ticksS 512) []).setReg K.cellTestPeriod 60).regN K.cellTestPeriod) / 512 ≤ (tMaint (ticksS 512) []).tick ∧
    ((tMaint (ticksS 512) []).setReg K.cellTestPeriod 60).schedulable (0 : Fin 4) = true ∧ (tMaint (ticksS 512) []).sceneIn (0 : Fin 4) = false ∧
    (tMaint (ticksS 512) []).rotationPlace (0 : Fin 4) ((tMaint (ticksS 512) []).maint.nextPlace.get 0 (0 : Fin 4)) = some 0 ∧
    ((tMaint (ticksS 1) [tRot 0]).actsIn (0 : Fin 4)).find? (fun a => a.code == actRotation) = some (tRot 0) ∧
    (tRot 0).start + ticksUs 2 ≤ (tMaint (ticksS 1) [tRot 0]).tick ∧ (tMaint (ticksS 1) [tRot 0]).maint.waiting = [] ∧
    (tMaint (ticksS 1) [tRot 0]).runningRegion (tRot 0).unit = none ∧
    (tRot 2).mark + max (ticksMs 10) 0 ≤ (tMaint (ticksS 1) [tRot 2]).tick ∧
    ({ tLate (tFab {}) with maint := { (tFab {}).maint with acts := [tRot 1] } } : State).runningRegion (tRot 1).unit = some 0 ∧
    (({ tLate ((tFab {}).setReg (K.repeatLength 0) 400) with maint := { (tFab {}).maint with acts := [tRot 1] } } : State).runningRegion (tRot 1).unit).all
      ({ tLate ((tFab {}).setReg (K.repeatLength 0) 400) with maint := { (tFab {}).maint with acts := [tRot 1] } } : State).atBoundary = true ∧
    (((tAt ((tFab {}).setReg (K.repeatLength 0) 400) 3 0).runningRegion (tRot 1).unit).all (tAt ((tFab {}).setReg (K.repeatLength 0) 400) 3 0).atBoundary) = false := by
  decide +kernel

theorem wit_CellsReplaced :
    (tMaint 9 []).maint.placeRetired.contains (7 : Fin 2048).val = false ∧ (tMaint 9 []).spareFree (7 : Fin 2048) = true ∧
    ((tMaint 9 []).actsIn ((7 : Fin 2048) / 512 : Nat)).any (fun x => x.kind ≠ .scheduled) = false ∧
    ((tMaint 9 []).setFlag (strandKey 7) 4 true).spareFree (7 : Fin 2048) = false ∧
    (tMaint 9 [tRot 2]).runningAct actRotation (7 : Fin 2048) = some (tRot 2) ∧
    ((tMaint 9 [tRot 2]).actsIn ((7 : Fin 2048) / 512 : Nat)).all (fun x => x.kind = .scheduled || x == tRot 2) = true ∧
    (tMaint 9 [tMove actCellRepair]).moveDue (7 : Fin 2048) = some (tMove actCellRepair) ∧ (tMove actCellRepair).code ≠ actSwap ∧
    0 ≤ (tMaint 9 [tMove actCellRepair]).reg (strandKey (7 : Fin 2048)) ∧
    ((tMaint 9 [tMove actCellRepair]).runningRegion (7 : Fin 2048)).all (tMaint 9 [tMove actCellRepair]).atBoundary = true ∧ (tMaint 9 [tMove actSwap]).moveDue (7 : Fin 2048) = some (tMove actSwap) ∧
    Writable (tMaint 9 []) (7 : Fin 16) 0x5420 0 (leBytes 2 (7 : BitVec 16).toNat) understudySwapRule := by decide +kernel

theorem wit_Stores :
    (tMaint 9 []).repairAsked actRowRepair ((3 : Fin 64) * 65536 + (5 : BitVec 16).toNat) = false ∧
    (tMaint 9 []).maint.banksUsed.contains (3 : Fin 64).val = false ∧ ((tMaint 9 []).actsIn domDram).any (fun x => x.kind ≠ .scheduled) = false ∧
    (tMaint 9 [⟨actRowRepair, domDram, 3 * 65536 + 5, .repair, 0, 0, 0, 0⟩]).runningAct actRowRepair ((3 : Fin 64) * 65536 + (5 : BitVec 16).toNat) =
      some ⟨actRowRepair, domDram, 3 * 65536 + 5, .repair, 0, 0, 0, 0⟩ ∧
    (tMaint 9 []).runningAct actChannelRetire (2 : Fin 4) = none ∧ (tMaint 9 []).reg K.retiredChannel = 0xFF ∧
    (tMaint 9 [⟨actChannelRetire, domDram, 2, .repair, 0, 0, 0, 0⟩]).runningAct actChannelRetire (2 : Fin 4) = some ⟨actChannelRetire, domDram, 2, .repair, 0, 0, 0, 0⟩ ∧
    ({ tCue 5000000 0 0 with maint := (tMaint 9 []).maint } : State).activeSlots = [9] ∧
    (tMaint 9 []).runningAct actBlockRetire (9 : BitVec 20).toNat = none ∧ (tMaint 9 []).repairAsked actBlockRetire (9 : BitVec 20).toNat = false ∧
    (tMaint 9 [⟨actBlockRetire, domEmmc, 9, .repair, 0, 0, 0, 0⟩]).runningAct actBlockRetire (9 : BitVec 20).toNat = some ⟨actBlockRetire, domEmmc, 9, .repair, 0, 0, 0, 0⟩ ∧
    0 < (tMaint 9 []).reg K.emmcBlocksLeft := by decide +kernel

theorem wit_StoresCommanded :
    Writable (tMaint 9 []) (7 : Fin 16) 0x5422 0 (leBytes 1 (1 : BitVec 8).toNat) mramRebuildRule ∧
    (tMaint 9 [⟨actMramRebuild, domJournal, 0, .commanded, 0, 0, 0, 0⟩]).runningAct actMramRebuild 0 = some ⟨actMramRebuild, domJournal, 0, .commanded, 0, 0, 0, 0⟩ ∧
    Writable ((tMaint 9 []).setReg K.inlineState 1) (7 : Fin 16) 0x5421 0 (leBytes 1 (1 : BitVec 8).toNat) inlinePathTestRule ∧
    (tMaint 9 [⟨actInlineTest, domImage, 0, .commanded, 0, 0, 0, 0⟩]).runningAct actInlineTest 0 = some ⟨actInlineTest, domImage, 0, .commanded, 0, 0, 0, 0⟩ ∧
    (tMaint (ticksS 600) []).reg K.standbyCore = 0 ∧ (tMaint (ticksS 600) []).maint.lastCoreTest + ticksS 600 ≤ (tMaint (ticksS 600) []).tick := by
  decide +kernel

/-- A firmware image's signature is open (Config.ecdsaVerify), so that a whole staging is not decided here. -/
theorem wit_Firmware :
    ({ tMaint 9 [] with maint := { (tMaint 9 []).maint with stage := some (9, zeros 16, false) } } : State).maint.stage = some (9, zeros 16, false) ∧
    Writable ((tMaint 9 []).setReg K.stagedState 1) (7 : Fin 16) 0x5481 0 [1] firmwareActivateRule ∧
    Writable ((tMaint 9 []).setReg K.stagedState 1) (7 : Fin 16) 0x5481 0 [2] firmwareActivateRule ∧
    Writable ((tMaint 9 []).setReg K.stagedState 2) (7 : Fin 16) 0x5481 0 [0] firmwareActivateRule ∧
    Writable ((tMaint 9 []).setReg K.trialState 1) (7 : Fin 16) 0x5482 0 (leBytes 1 (1 : BitVec 8).toNat) firmwareConfirmRule := by decide +kernel

/-! ### The CAN ports -/

/-- Port 3 is enabled in a state with given contents, at 1 s. -/
def tCan (st : Int) (x : CanPort) : State :=
  (tRegs (tAt tUdp (ticksS 1) 0) [(K.canPortEnable 3, 1), (K.portState 3, st), (K.isobusEnable 3, 1), (K.address 3, 0x80), (K.addressState 3, 1)]).setCan 3 x

/-- Buffer 5 of port 3: identifier 0x123, classic, 8 bytes, held by the client or a slot. -/
def tTx (owner mode : Nat) : Bytes :=
  leBytes 4 0x123 ++ [0, 8, BitVec.ofNat 8 owner, 0, BitVec.ofNat 8 mode] ++ zeros 3 ++ leBytes 4 (if mode = 1 then 10000 else 0)

/-- A matrix of one slot (number 7, buffer 5) at 2 ms for 1 ms in a basic cycle of 10 ms, without a reference message. -/
def tMatrix : Bytes :=
  let b := leBytes 2 0x5354 ++ [1, 1] ++ leBytes 2 1 ++ leBytes 2 100 ++ leBytes 4 10000 ++ leBytes 4 0xFFFFFFFF ++
    leBytes 2 7 ++ [5, 0, 1, 0] ++ leBytes 2 2000 ++ leBytes 2 1000 ++ [0, 0, 0xFF] ++ zeros 3
  b ++ leBytes 4 (crc32 b)

/-- Port 3 with its buffer 5 and the matrix, the schedule on or off, at `tick`. -/
def tSched (on : Int) (tick : Nat) (b : TxBuf) : State :=
  ((({ (tCan cpActive {}) with clock := { (tCan cpActive {}).clock with tick := tick } } : State).setBlob (K.canTxConfig 3 5) (tTx 3 0)).setBlob
    (K.scheduleMatrix 3) tMatrix).setReg (K.scheduleEnable 3) on |>.setTxBuf 3 5 b

theorem wit_CanFrames :
    (tCan cpActive {}).reg (K.portState (3 : Fin 6)) = cpActive ∧ ((0 : Fin 3) = 0) ∧
    2 ≤ ((tCan cpDetecting { goodFrames := 2 }).can (3 : Fin 6)).goodFrames ∧ (tCan cpDetecting { goodFrames := 2 }).reg (K.portState (3 : Fin 6)) = cpDetecting ∧
    ((tCan cpActive { inTx := some (.buffer 5) }).can (3 : Fin 6)).inTx = some (.buffer 5) ∧ (tCan cpActive {}).reg (K.tdcMode (3 : Fin 6)) ≠ 1 ∧
    255 < ((tCan cpActive { inTx := some (.buffer 5) }).setReg (K.txErrorCount 3) 248).reg (K.txErrorCount (3 : Fin 6)) + 8 := by
  decide +kernel

theorem test_canFrameReceived :
    after (.canFrameReceived 3 0x123 0 false false [1, 2] 0) ((tCan cpActive {}).setBlob (K.rxFilter 3 4) (leBytes 4 0x123 ++ leBytes 4 0x1FFFFFFF ++ [1] ++ zeros 3))
      (fun t => field (t.blob (K.rxMailbox 3 4)) 8 10 == leBytes 4 0x123 ++ [0, 2, 1, 0, 1, 2]) = true := by decide +kernel

theorem wit_CanPorts :
    Writable (tRegs tUdp [(K.canPortEnable 3, 0)]) (7 : Fin 16) (0x5800 + (3 : Fin 6)) 1 [1] (portEnableRule (3 : Fin 6)) ∧
    Writable (tCan cpActive {}) (7 : Fin 16) (0x5800 + (3 : Fin 6)) 1 [0] (portEnableRule (3 : Fin 6)) ∧ (tCan cpActive {}).regN K.tcPort ≠ (3 : Fin 6) ∧
    ((tCan cpBusOff { busOffAt := some 0 }).can (3 : Fin 6)).busOffAt = some 0 ∧ (tCan cpBusOff { busOffAt := some 0 }).reg (K.busOffRecovery (3 : Fin 6)) = 0 ∧
    0 + ticksMs ((tCan cpBusOff { busOffAt := some 0 }).regN (K.busOffDelay (3 : Fin 6))) ≤ (tCan cpBusOff { busOffAt := some 0 }).tick ∧
    0 + 1408 * (tCan cpBusOff { busOffAt := some 0, recovering := true }).nominalBitClocks (3 : Fin 6) * 5 / 4 ≤ (tCan cpBusOff {}).tick ∧
    (tRegs tUdp [(K.portState 1, cpDetecting)]).reg (K.portState (1 : Fin 2)) = cpDetecting ∧ (tCan cpActive {}).tick % ticksMs 1 = 0 := by
  decide +kernel

theorem wit_CanBuffers :
    Writable (tCan cpActive {}) (7 : Fin 16) (0x5820 + (3 : Fin 6)) ((5 : Fin 64) + 1) (tTx 1 1) (canTxConfigRule (3 : Fin 6) (5 : Fin 64)) ∧
    Writable ((tCan cpActive {}).setBlob (K.canTxConfig 3 5) (tTx 1 0)) (7 : Fin 16) (0x5830 + (3 : Fin 6)) ((5 : Fin 64) + 1) (zeros 8) (canTxDataRule (3 : Fin 6) (5 : Fin 64)) ∧
    Writable ((tCan cpActive { inTx := some (.buffer 5) }).setBlob (K.canTxConfig 3 5) (tTx 1 0)) (7 : Fin 16) (0x5830 + (3 : Fin 6)) ((5 : Fin 64) + 1) (zeros 8) (canTxDataRule (3 : Fin 6) (5 : Fin 64)) ∧
    (tCan cpActive { inTx := some (.buffer 5) }).inTransmission (3 : Fin 6) (5 : Fin 64) = true ∧ (tCan cpActive {}).inTransmission (3 : Fin 6) (5 : Fin 64) = false ∧
    ((((tCan cpActive {}).setBlob (K.canTxConfig 3 5) (tTx 1 1)).setTxBuf 3 5 { anchor := some 0 }).txBuf (3 : Fin 6) (5 : Fin 64)).anchor = some 0 ∧
    txMode (((tCan cpActive {}).setBlob (K.canTxConfig 3 5) (tTx 1 1)).txConfig (3 : Fin 6) (5 : Fin 64)) = 1 ∧
    0 < ((tCan cpActive {}).tick - 0) / ticksUs (txPeriod (((tCan cpActive {}).setBlob (K.canTxConfig 3 5) (tTx 1 1)).txConfig (3 : Fin 6) (5 : Fin 64))) := by
  decide +kernel

theorem wit_CanSchedule :
    Writable (tSched 0 0 {}) (7 : Fin 16) (0x5840 + (3 : Fin 6)) 0 tMatrix (scheduleMatrixRule (3 : Fin 6)) ∧
    Writable (tSched 0 0 {}) (7 : Fin 16) (0x5848 + (3 : Fin 6)) 1 [1] (scheduleEnableRule (3 : Fin 6)) ∧
    Writable (tSched 1 0 {}) (7 : Fin 16) (0x5848 + (3 : Fin 6)) 1 [0] (scheduleEnableRule (3 : Fin 6)) ∧
    matrixBasic ((tSched 1 0 {}).matrix (3 : Fin 6)) ≠ 0 ∧ (tSched 1 (ticksUs 20000) {}).tick % ticksUs (matrixBasic ((tSched 1 0 {}).matrix (3 : Fin 6))) = 0 ∧
    (tSched 1 (ticksUs 2000) { waiting := true }).dueSlot (3 : Fin 6) (7 : Fin 1024) = some ⟨7, 5, 0, 1, 0, 2000, 1000, 0, 0, 0xFF⟩ ∧
    (tSched 1 (ticksUs 2000) { waiting := true }).tick = ((tSched 1 (ticksUs 2000) { waiting := true }).can (3 : Fin 6)).cycleAt + ticksUs 2000 ∧
    ((tSched 1 (ticksUs 2000) { waiting := true }).txBuf (3 : Fin 6) 5).waiting = true ∧
    (tSched 1 (ticksUs 3000) { offered := true }).inTransmission (3 : Fin 6) 5 = false ∧
    ((tSched 1 (ticksUs 3000) { offered := true }).can (3 : Fin 6)).cycleAt + ticksUs (2000 + 1000) ≤ (tSched 1 (ticksUs 3000) { offered := true }).tick := by
  decide +kernel

theorem wit_CanIsobus :
    (tCan cpActive {}).reg (K.isobusEnable (3 : Fin 6)) = 1 ∧ (tCan cpActive {}).regN (K.address (3 : Fin 6)) = (0x80 : BitVec 8).toNat ∧
    (0x18ECFF27 : BitVec 29).toNat / 256 % 256 = 255 ∧ (0x18ECFF27 : BitVec 29).toNat / 65536 % 256 = 0xEC ∧
    ((tCan cpActive { tp := [⟨0x27, 0xFEE6, true, false, 9, [1, 2], 0⟩] }).tpOf (3 : Fin 6) ((0x18EBFF27 : BitVec 29).toNat % 256) true false) =
      some ⟨0x27, 0xFEE6, true, false, 9, [1, 2], 0⟩ ∧
    Writable (tRegs tUdp [(K.canPortEnable 3, 0)]) (7 : Fin 16) (0x5800 + (3 : Fin 6)) 0x10 (leBytes 1 (1 : BitVec 8).toNat) (isobusEnableRule (3 : Fin 6)) ∧
    Writable (tRegs (tSess tUdp 7 3) [(K.portState 4, cpOffline)]) (7 : Fin 16) 0x5870 0 (leBytes 1 (4 : BitVec 8).toNat) canLoopTestRule ∧
    ((tCan cpTesting { loopItem := some 9 }).can (3 : Fin 6)).loopItem = some 9 ∧ (tCan cpActive {}).flag (K.portFlags (3 : Fin 6)) pfFailed = false ∧
    (tCan cpActive {}).flag (K.portFlags (3 : Fin 6)) pfTransceiver = false ∧
    ((tCan cpActive {}).setFlag (K.portFlags 3) pfTransceiver true).flag (K.portFlags (3 : Fin 6)) pfTransceiver = true ∧
    Writable tUdp (7 : Fin 16) (0x5800 + (0 : Fin 6)) 0x13 (leBytes 1 (1 : BitVec 8).toNat) (serviceRoleRule (0 : Fin 6)) := by decide +kernel

/-! ### Ethernet and network time -/

/-- Port 2 carries frames of domain 0 (number 0), as AS-capable; domain 0 has contents `x`; the state is at 10 s. -/
def tEth (x : Domain) : State :=
  let s := tRegs (tAt tUdp (ticksS 10) (ticksS 10 * 10)) [(K.ethPortEnable 2, 1), (K.ethLinkState 2, 1), (K.domainEnable 0, 1), (K.asCapable 2, 3), (K.domainNumber 0, 0)]
  s.setDom 0 x

theorem wit_Gptp :
    (tEth { slavePort := some 2 }).domainOf (0 : BitVec 8).toNat = some 0 ∧ (tEth { slavePort := some 2 }).linkUp (2 : Fin 6) = true ∧
    ((tEth { slavePort := some 2 }).dom 0).slavePort = some (2 : Fin 6).val ∧ (tEth { slavePort := some 2 }).isAsCapable (2 : Fin 6) 0 = true ∧
    ((tEth { pending := some ⟨2, 7, 100, 1000, 0⟩ }).dom 0).pending = some ⟨2, 7, 100, 1000, 0⟩ ∧
    ((tEth {}).reg (K.ptpRoleMode 0)) ≠ 1 ∧ (tEth {}).offersGm 0 = false ∧ (∀ q : Fin 6, q ≠ 2 → (tEth {}).heardOn q 0 = none) ∧
    (tEth {}).domainOn (0 : Fin 2) = true ∧ ((tEth {}).setPtpRole 2 0 roleMaster).ptpRole (2 : Fin 6) (0 : Fin 2) = roleMaster ∧
    ((tEth {}).eth (2 : Fin 6)).lastPdelayOut + ticksS 1 ≤ (tEth {}).tick := by decide +kernel

theorem test_followUpSteps :
    after (.followUp 2 0 7 5000 0) ((tEth { slavePort := some 2, pending := some ⟨2, 7, 100, 1000, 0⟩ }).setReg K.timeSource 1)
      (fun t => t.clock.lockedSince && t.clock.integ == 0 && (t.dom 0).lastMeas == some 100) = true := by decide +kernel

/-- A Sync that waits for its egress at port 2. -/
def tMsg (k : GptpKind) : GptpMsg := ⟨2, 0, k, 9, 0, 0, none⟩

theorem wit_GptpSends :
    ({ tEth {} with net := { (tEth {}).net with awaiting := [tMsg .sync] } } : State).net.awaiting.find? (fun m => m.port == (2 : Fin 6).val) = some (tMsg .sync) ∧
    (Machine.followUp (tMsg .sync) 70).isSome = true ∧
    ((tEth { slavePort := some 2 }).dom (0 : Fin 2)).lastSync + (tEth { slavePort := some 2 }).syncTimeout (0 : Fin 2) ≤ (tEth { slavePort := some 2 }).tick ∧
    ((tEth {}).setEth 2 { annA := some ⟨1, 248, 0xFE, 0, 128, 1, 0⟩ }).annExpired (2 : Fin 6) (0 : Fin 2) = true := by
  decide +kernel

/-- The PPS input with given contents. -/
def tPps (n : Net → Net) : State := { tEth {} with net := n (tEth {}).net }

theorem wit_Pps :
    ((tPps id).setReg K.ppsEnable 1).reg K.ppsEnable ≠ 0 ∧
    (tPps (fun n => { n with ppsWaiting := [⟨ticksMs 9500, 0, .inTolerance⟩] })).net.ppsWaiting = [⟨ticksMs 9500, 0, .inTolerance⟩] ∧
    (tPps (fun n => { n with ppsEdge := some (ticksMs 9000) })).net.ppsEdge = some (ticksMs 9000) ∧ (tPps id).tick - ticksMs 9000 ≤ ticksMs 1500 ∧
    ticksUs 999900 ≤ (tPps id).tick - ticksMs 9000 ∧ (tPps id).tick - ticksMs 9000 ≤ ticksUs 1000100 ∧
    ¬ (ticksUs 999900 ≤ (tPps id).tick - ticksMs 9500 ∧ (tPps id).tick - ticksMs 9500 ≤ ticksUs 1000100) ∧ (tPps id).net.ppsEdge = none ∧
    ticksMs 9500 < (tPps id).tick ∧ (tPps id).tick ≤ ticksMs 9500 + ticksMs 900 ∧ ticksMs 9000 + ticksMs 900 < (tPps id).tick ∧
    (tPps (fun n => { n with ppsUsableSince := some 0, ppsLastAccepted := some 0 })).net.ppsUsableSince.isSome = true ∧
    (tPps (fun n => { n with ppsUsableSince := some 0, ppsLastAccepted := some 0 })).heldFor
      (tPps (fun n => { n with ppsUsableSince := some 0, ppsLastAccepted := some 0 })).net.ppsLastAccepted (ticksMs 1500) = true := by decide +kernel

theorem wit_TimeTimers :
    (tRegs (tEth { usableSince := some 0 }) [(K.timeSource, 3), (K.revertTime, 5)]).regN K.timeSource ≠ 0 ∧
    ((tRegs (tEth { usableSince := some 0 }) [(K.timeSource, 3), (K.revertTime, 5)]).sourceRank.takeWhile
      (fun j => j != (tRegs (tEth { usableSince := some 0 }) [(K.timeSource, 3), (K.revertTime, 5)]).regN K.timeSource)).find?
      (fun j => (tRegs (tEth { usableSince := some 0 }) [(K.timeSource, 3), (K.revertTime, 5)]).heldFor
        ((tRegs (tEth { usableSince := some 0 }) [(K.timeSource, 3), (K.revertTime, 5)]).usableSince j)
        (ticksS ((tRegs (tEth { usableSince := some 0 }) [(K.timeSource, 3), (K.revertTime, 5)]).regN K.revertTime))) = some 1 ∧
    (tRegs (tEth {}) [(K.timeState, tsHoldover), (K.holdoverLimit, 10)]).clock.stateSince +
      ticksS ((tRegs (tEth {}) [(K.timeState, tsHoldover), (K.holdoverLimit, 10)]).regN K.holdoverLimit) ≤ (tEth {}).tick ∧
    ticksMs ((tRegs (tEth {}) [(K.timeState, tsUnsynchronised), (K.acquireTimeout, 10000)]).regN K.acquireTimeout) ≤ (tEth {}).tick ∧
    (tEth {}).tick % ticksMs 10 = 0 := by decide +kernel

/-- A frame of VLAN 5 with priority 3, and the table entry of VLAN 5 with ports 1 and 2 as members. -/
def tEthFrame : EthFrame := ⟨64, some (5, 3), 0x0A, 0x0B, false, [1, 2]⟩
def tVlan : State := (tEth {}).setBlob (K.vlanTable 0) (leBytes 2 5 ++ [6, 0] ++ zeros 4)

theorem wit_Fixes :
    ((tEth {}).setReg K.gnssSource 1).reg K.gnssSource = 1 ∧
    (tRegs (tEth {}) [(K.ifEnable 1, 1), (K.ifVlan 1, 100), (K.addressInUse 1, 0x0A000002), (K.gnssVlan, 100)]).carries 100 = true ∧ (BitVec.ofNat 16 ((tEth {}).regN K.gnssVlan)).toNat = (tEth {}).regN K.gnssVlan ∧
    (BitVec.ofNat 16 ((tEth {}).regN K.gnssUdpPort)).toNat = (tEth {}).regN K.gnssUdpPort ∧ fixQuality 4 ≠ 0 ∧ fixQuality 0 = 0 ∧
    (tRegs (tCan cpActive {}) [(K.gnssSource, 2), (K.gnssPort, 3)]).regN K.gnssPort = (3 : Fin 6).val ∧
    (tRegs (tCan cpActive {}) [(K.gnssSource, 2), (K.gnssPort, 3)]).reg (K.isobusEnable (3 : Fin 6)) = 1 := by decide +kernel

theorem wit_Frames :
    (tEth {}).reg (K.ethLinkState (2 : Fin 6)) = 1 ∧ ((tEth {}).setReg (K.ethPortEnable 4) 1).reg (K.ethLinkState (4 : Fin 6)) ≠ 1 ∧
    (tRegs (tEth {}) [(K.ifEnable 1, 1), (K.ifMode 1, 1)]).net.ifLease.get 0 (1 : Fin 4) = 0 ∧
    (tRegs (tEth {}) [(K.ifEnable 1, 1), (K.ifMode 1, 1)]).net.ifDiscover.get 0 (1 : Fin 4) + ticksS 10 ≤ (tEth {}).tick ∧
    tVlan.linkUp (2 : Fin 6) = true ∧ (1522 : Nat) < 1600 ∧ tEthFrame.size ≤ 1522 ∧ tVlan.vlanEntry 5 = some (leBytes 2 5 ++ [6, 0] ++ zeros 4) ∧
    vlanMember (leBytes 2 5 ++ [6, 0] ++ zeros 4) (2 : Fin 6) = true ∧ tVlan.net.macs = [] ∧ tVlan.vlanEntry 6 = none ∧
    tVlan.tick < tVlan.tick + ticksS 300 ∧ tEthFrame.src ≠ tEthFrame.dst := by decide +kernel

/-- The module's own address is open (R441): of two destinations one is another. -/
theorem wit_Frames_destination : ∃ a ∈ [0x0C, 0x0D], a ≠ tEthFrame.src ∧ a ≠ 0xFFFFFFFFFFFF ∧ a ≠ beNat (tVlan.blob K.macAddress) := by
  by_cases h : 0x0C = beNat (tVlan.blob K.macAddress)
  · exact ⟨0x0D, by simp, by decide, by decide, by omega⟩
  · exact ⟨0x0C, by simp, by decide, by decide, h⟩

/-- Two frames wait at port 1, the second in the higher queue; an ARP request for 10.0.0.1. -/
theorem wit_Frames_egress :
    ((tEth {}).setEth 1 { queued := [⟨3, true, 5, 1, 2, 64, []⟩, ⟨4, true, 5, 1, 2, 64, []⟩] }).eth 1 =
      { ((tEth {}).setEth 1 { queued := [⟨3, true, 5, 1, 2, 64, []⟩, ⟨4, true, 5, 1, 2, 64, []⟩] }).eth 1 with
        queued := [⟨3, true, 5, 1, 2, 64, []⟩, ⟨4, true, 5, 1, 2, 64, []⟩] } ∧
    (((tEth {}).setEth 1 { queued := [⟨3, true, 5, 1, 2, 64, []⟩] }).eth 1).busyUntil ≤ (tEth {}).tick ∧
    (zeros 6).length = 6 ∧ (zeros 4).length = 4 ∧ 0x0A000001 < 2 ^ 32 := by decide +kernel

/-! ### The prompt book -/

/-- A staged record, and a book that holds it. -/
def tRec (seq : Nat) : Rec := ⟨seq, 0, 0, 0, 0, 0, 3, 7, 0, 0, []⟩
def tBook (b : Book → Book) : State :=
  let s := tRegs (tSess (tAt tUdp (ticksS 1) 0) 7 3) [(K.runningCapacity, 8192), (K.nextRecordSeq, 9)]
  { s with book := b s.book }

theorem wit_Pages :
    (tBook (fun b => { b with staged := [tRec 8] })).reg K.journalState ≠ 2 ∧ (tBook (fun b => { b with staged := [tRec 8] })).regN K.runningCapacity ≠ 0 ∧
    (tBook (fun b => { b with staged := [tRec 8] })).book.staged ≠ [] := by decide +kernel

theorem test_pageCommit : after (.pageCommit true) (tBook (fun b => { b with staged := [tRec 8] }))
    (fun t => t.book.head == 1 && t.book.running == [(0, tRec 8)]) = true := by decide +kernel

theorem wit_RecordClear :
    Writable (tBook id) (7 : Fin 16) 0x2220 0 (leBytes 1 (1 : BitVec 8).toNat) recordClearArmRule ∧
    Writable ({ tBook id with nonces := (tBook id).nonces.set none 7 (some ⟨77, ticksS 9⟩) } : State) (7 : Fin 16) 0x2222 0 (leBytes 8 5 ++ leBytes 4 77) recordClearRule ∧
    (tBook (fun b => { b with offered := [{ tRec 0 with source := 1, code := 4, payload := zeros 8 ++ leBytes 8 5 }] })).book.offered =
      [{ tRec 0 with source := 1, code := 4, payload := zeros 8 ++ leBytes 8 5 }] ∧ (tBook id).reg K.journalState ≠ 2 ∧ (tBook id).reg K.bookState ≠ 1 ∧
    (tBook (fun b => { b with erasing := some 5 })).book.erasing = some 5 ∧
    ({ tBook id with nonces := (tBook id).nonces.set none 7 (some ⟨77, ticksS 9⟩) } : State).nonceOf (7 : Fin 16) = some ⟨77, ticksS 9⟩ ∧
    (tBook id).book.opSaved + ticksS 1 ≤ (tBook id).tick := by decide +kernel

/-! ### Harvest and fleet services -/

/-- The yield service is on at 100 s, with contents `y`. -/
def tYield (y : Yield → Yield) : State :=
  let s := tRegs (tAt tUdp (ticksS 100) 0) [(K.yieldEnable, 1), (K.loadWetMass, 1000), (K.brgEnable 0, 1)]
  { s with yield := y s.yield }

/-- A strip that ended 100 ms after tick `t`. -/
def tStrip (t : Nat) (closed deposited : Bool) : Strip := ⟨t, 0, 0, 0, 0, 0, 0, 0, 6000, 50, 40, 0, 0, 0, closed, deposited⟩

theorem wit_Yield :
    (tYield id).reg K.yieldEnable = 1 ∧ (tYield id).yield.sampledAt + ticksMs 10 ≤ (tYield id).tick ∧
    (tYield (fun y => { y with strips := [tStrip 0 false false] })).yield.strips.find? (fun g => !g.closed && decide (0 < g.width) &&
      decide ((tYield (fun y => { y with strips := [tStrip 0 false false] })).poolDue g ≤ (tYield id).tick)) = some (tStrip 0 false false) ∧
    (tYield (fun y => { y with strips := [tStrip 0 true false] })).yield.strips.find? (fun g => !g.deposited &&
      decide ((tYield (fun y => { y with strips := [tStrip 0 true false] })).depositDue g ≤ (tYield id).tick)) = some (tStrip 0 true false) ∧
    (tYield id).yield.lossAt + ticksMs 100 ≤ (tYield id).tick ∧
    Writable (tYield id) (7 : Fin 16) 0x6002 0 (leBytes 4 (1100 : BitVec 32).toNat) yieldCalibrateRule ∧
    Writable (tYield id) (7 : Fin 16) 0x6003 0 (leBytes 1 (1 : BitVec 8).toNat) loadResetRule := by decide +kernel

theorem wit_Yield_sampleStrip :
    (tYield (fun y => { y with strips := [tStrip (ticksS 100 - ticksMs 50) false false] })).setReg K.transportDelay 0 |>.yield.strips.find?
      (fun k => decide ((k.start : Int) ≤ (ticksS 100 : Int) - ticksMs 0) && decide ((ticksS 100 : Int) - ticksMs 0 < k.start + ticksMs 100)) |>.isSome := by
  decide +kernel

/-- Field 3 is used and open, with one dirty yield tile. -/
def tField : State :=
  let s := (tYield (fun y => { y with tiles := y.tiles.set YTile.init 77 { present := true, dirtyFrom := some 4 } })).setReg K.openField 3
  s.setBlob (K.fieldRecord 3) ([1, 1] ++ leBytes 2 100 ++ zeros 12 ++ leBytes 2 2000 ++ zeros 14)

theorem wit_Archive :
    tField.openFieldNo = some 3 ∧ tField.yield.tiles.cells = [(77, { present := true, dirtyFrom := some 4 })] ∧
    tField.hasUnit ((tField.fieldArc 3).yield.get YTile.init 77 != YTile.init) = true ∧
    Writable tField (7 : Fin 16) 0x6010 1 (leBytes 2 (0xFFFF : BitVec 16).toNat) openFieldRule ∧
    Writable tField (7 : Fin 16) 0x6010 1 (leBytes 2 (3 : BitVec 16).toNat) openFieldRule ∧
    Writable tField (7 : Fin 16) 0x6012 0 (leBytes 2 (9 : BitVec 16).toNat) archiveEraseRule ∧
    Writable tField (7 : Fin 16) 0x6021 0 (leBytes 2 (3 : BitVec 8).toNat) exportBuildRule ∧
    Writable tField (7 : Fin 16) 0x6021 0 (leBytes 2 (256 + (3 : BitVec 8).toNat)) exportBuildRule ∧
    Writable tField (7 : Fin 16) 0x6021 0 (leBytes 2 (512 + (3 : BitVec 8).toNat)) exportBuildRule := by decide +kernel

theorem wit_ArchiveEnds :
    ({ tField with archive := { tField.archive with opening := some (9, 3, 0) } } : State).archive.opening = some (9, 3, 0) ∧
    ({ tField with archive := { tField.archive with erasing := some (9, 3, 0) } } : State).archive.erasing = some (9, 3, 0) ∧
    ({ tField with archive := { tField.archive with building := some (9, 3, 0) } } : State).archive.building = some (9, 3, 0) := by decide +kernel

theorem test_loadReset : after (.loadReset 7 1) (tYield (fun y => { y with loadWet := 88 })) (fun t => t.yield.loadWet == 0) = true := by decide +kernel

/-- The fleet service is on, in the given state, at 100 s. -/
def tFleet (st : Int) (f : Fleet → Fleet) : State :=
  let s := tRegs (tAt tUdp (ticksS 100) 0) [(K.fleetEnable, 1), (K.fleetState, st), (K.openField, 3), (K.yieldState, 2), (K.rendezvousEnable, 1)]
  { s with fleet := f s.fleet, clock := { s.clock with lockedSince := true } }

theorem wit_Fleet :
    (tFleet 3 id).reg K.fleetState ≠ 2 ∧ (tFleet 3 id).fleet.trying = false ∧ (tFleet 3 id).fleet.retryAt ≤ (tFleet 3 id).tick ∧
    (tFleet 3 id).clock.lockedSince = true ∧ (tFleet 1 (fun f => { f with trying := true })).fleet.trying = true ∧
    (tFleet 2 id).reg K.fleetState = 2 ∧ (tFleet 2 id).fleet.queue = [] ∧
    (tFleet 2 id).fleet.lastStatus + ticksMs ((tFleet 2 id).regN K.statusInterval) ≤ (tFleet 2 id).tick ∧
    (tFleet 2 id).openFieldNo.isSome = true ∧ (tFleet 2 id).fleet.lastPos + ticksMs ((tFleet 2 id).regN K.positionInterval) ≤ (tFleet 2 id).tick ∧
    (tFleet 2 id).reg K.yieldState = 2 ∧ (tFleet 2 id).fleet.lastYield + ticksS 10 ≤ (tFleet 2 id).tick := by decide +kernel

/-- What a broker of the name "b" shows, with a certificate that is valid now. -/
def tHello : ServerHello := ⟨true, .aes128GcmSha256, .secp384r1, .ecdsaSecp256r1Sha256, 2, true, [[98]], 0, 2 ^ 40⟩

theorem wit_Fleet_connect :
    (tAt (((tFleet 3 id).setBlob K.brokerName [98]).setBlob K.fleetTrustAnchor [1]) (ticksS 100) 1000000000000).acceptsServer tHello = true ∧
    (none : Option ServerHello).any (tFleet 3 id).acceptsServer = false ∧
    (((((tFleet 3 id).setBlob K.fleetCertificate [1]).setReg K.fleetVlan 100).setReg (K.ifEnable 0) 1).setReg (K.ifVlan 0) 100).fleetUp = true := by
  decide +kernel

theorem wit_Rendezvous :
    (tFleet 2 id).reg K.rendezvousEnable = 1 ∧ (tFleet 2 id).rdv.lastEval + ticksS 1 ≤ (tFleet 2 id).tick ∧
    (tFleet 2 (fun f => { f with subscribed := true })).fleet.subscribed = true ∧ utf8Ok [65, 66, 67, 68, 69, 70, 71, 72] = true ∧
    Writable (tFleet 2 id) (7 : Fin 16) 0x6212 0 (leBytes 1 (1 : BitVec 8).toNat) rendezvousCancelRule := by decide +kernel

/-- A KEEPALIVE of slot 6 in generation 3 (R56). -/
def tKeepFleet : Bytes := Reply.bytes ⟨3, 3, 0x306, 42, 0, 0, 0, 0, 0, 0, 0, []⟩

theorem wit_FleetDict :
    udpFramed tKeepFleet = true ∧ fieldU tKeepFleet 2 1 = 1 ∧ (udpReq tKeepFleet).op = opKeepalive ∧
    (tSess (tFleet 2 id) 6 0).udpSlot 6 6 (udpReq tKeepFleet).sessionId = some 6 ∧
    (udpReq tKeepFleet).seq = (((tSess (tFleet 2 id) 6 0).sess 6).lastSeq + 1) % 2 ^ 32 ∧ (tSess (tFleet 2 id) 6 0).serves = true := by
  decide +kernel

/-! ### The display and the tag -/

/-- A panel of 4 x 2 pixels in state `st` with contents `p`, at 20 s. -/
def tPanel (st : Int) (p : Panel) : State :=
  let s := tRegs (tAt tUdp (ticksS 20) 0) [(K.panelEnable, if st = panelOff then 0 else 1), (K.panelState, st), (K.hActive, 4), (K.vActive, 2), (K.uiOwner, 1)]
  { s with panel := p }

theorem wit_Panel :
    (tPanel panelRunning { flip := some ⟨9, 1, 77⟩ }).composing = true ∧ (tPanel panelRunning { flip := some ⟨9, 1, 77⟩ }).panel.flip = some ⟨9, 1, 77⟩ ∧
    (tPanel panelRunning {}).panel.settings = [] ∧ (tPanel panelRunning {}).panel.flip = none ∧ (tPanel panelRunning {}).composing = true ∧
    (tPanel panelOff {}).composing = false ∧
    Writable (tPanel panelRunning {}) (7 : Fin 16) 0x6403 0 (leBytes 2 1 ++ leBytes 2 0 ++ leBytes 2 1 ++ leBytes 2 1 ++ [1, 0, 0, 0] ++ [7, 8, 9]) uiRectRule ∧
    Writable (tPanel panelRunning {}) (7 : Fin 16) 0x6402 0 (leBytes 8 (1 : BitVec 64).toNat) uiFlipRule ∧
    Writable (tPanel panelOff {}) (7 : Fin 16) 0x6402 0 (leBytes 8 (1 : BitVec 64).toNat) uiFlipRule ∧
    Writable (tPanel panelRunning {}) (7 : Fin 16) 0x6404 0 (zeros 24) uniformityRule ∧
    Writable (tPanel panelOff {}) (7 : Fin 16) 0x6404 0 (zeros 24) uniformityRule := by decide +kernel

theorem test_uiRect :
    after (.uiRectWrite 7 (leBytes 2 1 ++ leBytes 2 0 ++ leBytes 2 1 ++ leBytes 2 1 ++ [1, 0, 0, 0] ++ [7, 8, 9])) (tPanel panelRunning {})
      (fun t => t.panel.mem.get none (uiBase 1 + 3) == some 7 && t.panel.mem.get none (uiBase 1 + 5) == some 9) = true := by decide +kernel

theorem wit_PanelPower :
    Writable (tPanel panelOff {}) (7 : Fin 16) 0x6400 1 [1] panelEnableRule ∧
    Writable (tPanel panelRunning {}) (7 : Fin 16) 0x6400 1 [0] panelEnableRule ∧
    (tPanel panelOff {}).reg K.panelEnable ≠ 1 ∧ (tPanel panelRunning {}).reg K.panelEnable ≠ 0 ∧ (tPanel panelRunning {}).reg K.panelState = panelRunning ∧
    (tPanel panelPoweringUp { upFrom := some 0 }).panel.upFrom = some 0 ∧ 0 + ticksMs 200 ≤ (tPanel panelPoweringUp { upFrom := some 0 }).tick ∧
    (tPanel panelPoweringUp { upFrom := some 0 }).reg K.panelState = panelPoweringUp ∧
    (tPanel panelPoweringDown { downFrom := some 0 }).panel.downFrom = some 0 ∧ 0 + ticksMs 10 ≤ (tPanel panelPoweringDown { downFrom := some 0 }).tick ∧
    (tPanel panelPoweringDown {}).reg K.panelState = panelPoweringDown ∧ (tPanel panelRunning {}).panelOn = true ∧
    (tPanel panelRunning {}).railOn (biasRail (1 : Fin 4)) = true ∧
    absI ((tPanel panelRunning {}).biasSetting (1 : Fin 4)) < 10 * absI ((32000 : BitVec 16).toInt - (tPanel panelRunning {}).biasSetting (1 : Fin 4)) ∧
    10 * absI ((BitVec.ofInt 16 ((tPanel panelRunning {}).biasSetting (1 : Fin 4))).toInt - (tPanel panelRunning {}).biasSetting (1 : Fin 4)) ≤
      absI ((tPanel panelRunning {}).biasSetting (1 : Fin 4)) := by decide +kernel

theorem test_frameLatch :
    after .frameLatch (tPanel panelRunning { flip := some ⟨9, 1, 77⟩ }) (fun t => t.reg K.frontBuffer == 1 && t.panel.expected == 77 && t.panel.flip == none) = true := by
  decide +kernel

theorem test_panelPower :
    after (.panelPowerUp 7 false true) (tPanel panelPoweringUp { upFrom := some 0 }) (fun t => t.reg K.panelState == panelRunning) = true ∧
    after (.panelPowerDown 7 false) (tPanel panelPoweringDown { downFrom := some 0, downFault := true }) (fun t => t.reg K.panelState == panelFault) = true ∧
    after .vddOvercurrent (tPanel panelRunning {}) (fun t => t.reg K.panelState == panelPoweringDown && t.flag K.displayFlags 3) = true := by
  decide +kernel

/-- The tag with the given contents and marker. -/
def tTag (marker : Int) (g : Tag) : State := { tRegs (tPanel panelOff {}) [(K.tagReservoir, 1), (K.tagMarker, marker)] with tag := g }

theorem wit_Tag :
    (tTag 0 { waiting := some (9, [1]) }).tag.waiting = some (9, [1]) ∧ (tTag 0 { waiting := some (9, [1]) }).tag.writing = none ∧
    (tTag 0 {}).reg K.tagReservoir = 1 ∧ (tTag 1 { writing := some (9, [1]), phaseFrom := some 0 }).reg K.tagMarker = 1 ∧
    (tTag 1 { writing := some (9, [1]), phaseFrom := some 0 }).tagPhaseDue (ticksMs 600) = true ∧
    (tTag 1 { writing := some (9, [1]), phaseFrom := some 0 }).tag.writing = some (9, [1]) ∧
    (tTag 2 { writing := some (9, [1]), phaseFrom := some 0 }).tag.writing = some (9, [1]) ∧ (tTag 2 {}).reg K.tagMarker = 2 ∧
    (tTag 2 { writing := some (9, [1]), phaseFrom := some 0 }).tagPhaseDue (ticksMs 1500) = true ∧
    (tTag 0 {}).tag.checked = false ∧ (tTag 0 {}).reg K.powerState ≠ 0 ∧ (tTag 0 {}).reg K.tagMarker = 0 ∧ (tTag 0 {}).tagRecords = [] ∧
    ({ tTag 0 {} with book := { (tTag 0 {}).book with staged := [{ tRec 8 with code := 9 }] } } : State).tagRecords = [{ tRec 8 with code := 9 }] ∧
    ({ tTag 0 {} with book := { (tTag 0 {}).book with staged := [{ tRec 8 with code := 9 }] } } : State).regN K.tagRecordSeq ≠ ({ tRec 8 with code := 9 } : Rec).seq ∧
    (tPanel panelOff {}).reg K.tagReservoir = 0 ∧ ticksS 20 ≤ (tPanel panelOff {}).tick ∧ (tPanel panelOff {}).reg K.tagReservoir ≠ 2 := by decide +kernel

theorem test_tag :
    after .tagPhaseEnd (tTag 2 { writing := some (9, [1]), phaseFrom := some 0 }) (fun t => t.tag.shown == [1] && t.reg K.tagRecordSeq == 9) = true ∧
    after (.tagReservoirFault true) (tTag 0 {}) (fun t => t.reg K.tagReservoir == 2 && t.flag K.displayFlags 5) = true := by decide +kernel

/-! ### Temperatures and fans -/

/-- Fan 2 on channel 30 with a tach, in state `st`, and zone 1, at 20 s. -/
def tFan (st : Int) (x : Fan) : State :=
  (tRegs (tAt tUdp (ticksS 20) 0) ([(K.fanEnable 2, 1), (K.fanState 2, st), (K.fanChannel 2, 30), (K.fanTachInput 2, 3), (K.zoneEnable 1, 1),
    (K.lsEnable 30, 1), (K.lsOwner 30, 4), (K.lsState 30, lsOff), (K.finEnable 3, 1)])).setFan 2 x

theorem wit_Zones :
    (tFan fanIdle {}).reg (K.zoneEnable (1 : Fin 8)) = 1 ∧ ((tFan fanIdle {}).zone (1 : Fin 8)).lastStep + ticksMs 100 ≤ (tFan fanIdle {}).tick ∧
    (∀ f : Fin 8, (tRegs (tFan fanIdle {}) ((List.range 8).map (fun f => (K.fanChannel f, 30)))).regN (K.fanChannel f) < 48) ∧
    (tFan fanIdle {}).power.phase = .up ∧ (tFan fanIdle {}).comparatorOn = true ∧ State.reset.comparatorOn = false := by decide +kernel

theorem wit_ZoneShutdown :
    1 ∈ (((tFan fanIdle {}).setReg (K.shutdownLimit 1) 800).setZone 1 { atLimit := some 0 }).shdnZones ∧
    (((tFan fanIdle {}).setReg (K.shutdownLimit 1) 800).setZone 1 { atLimit := some 0 }).heldFor (some 0) (ticksS 1) = true ∧
    ((((tFan fanIdle {}).setReg (K.shutdownLimit 1) 800).setFlag K.shdnCause 1 true).setZone 1 { belowFrom := some 0 }).flag K.shdnCause 1 = true ∧
    (∀ z ∈ ((((tFan fanIdle {}).setReg (K.shutdownLimit 1) 800).setFlag K.shdnCause 1 true).setZone 1 { belowFrom := some 0 }).shdnZones,
      (tFan fanIdle {}).heldFor ((((tFan fanIdle {}).setReg (K.shutdownLimit 1) 800).setZone 1 { belowFrom := some 0 }).zone z).atLimit (ticksS 1) = false ∧
      (tFan fanIdle {}).heldFor ((((tFan fanIdle {}).setReg (K.shutdownLimit 1) 800).setZone 1 { belowFrom := some 0 }).zone z).belowFrom (ticksS 10) = true) := by
  decide +kernel

theorem test_comparator : after (.comparator 0x7FFF) (tFan fanIdle {}) (fun t => t.flag K.shdnCause 0 && t.reg K.shdnState == 1) = true := by
  decide +kernel

theorem wit_Fans :
    (tFan fanRunning {}).hasTach (2 : Fin 8) = true ∧ (tFan fanRunning {}).fanTurns (2 : Fin 8) = true ∧ ((tFan fanRunning {}).fan (2 : Fin 8)).window = none ∧
    ((tFan fanRunning {}).fan (2 : Fin 8)).lastWindow + ticksMs ((tFan fanRunning {}).regN (K.fanStretchInterval (2 : Fin 8))) ≤ (tFan fanRunning {}).tick ∧
    (tFan fanRunning {}).regN (K.fanChannel (2 : Fin 8)) < 48 ∧ ((tFan fanRunning { window := some 0 }).fan (2 : Fin 8)).window = some 0 ∧
    0 + ticksMs ((tFan fanRunning { window := some 0 }).regN (K.fanStretchLength (2 : Fin 8))) ≤ (tFan fanRunning {}).tick ∧
    ticksMs ((tFan fanStarting {}).regN (K.fanStartTime (2 : Fin 8))) ≤ ((tFan fanStarting { spent := ticksS 10 }).fan (2 : Fin 8)).spent ∧
    ticksS 10 ≤ ((tFan fanRetryWait { spent := ticksS 10 }).fan (2 : Fin 8)).spent ∧ 2 ≤ ((tFan fanRunning { missed := 2 }).fan (2 : Fin 8)).missed ∧
    Writable (tFan fanStalled {}) (7 : Fin 16) (0x4C20 + (2 : Fin 8)) 0x0F (leBytes 1 (1 : BitVec 8).toNat) (fanRestartRule (2 : Fin 8)) ∧
    Writable (tRegs (tFan fanDisabled {}) [(K.fanEnable 2, 0), (K.fanZones 2, 2)]) (7 : Fin 16) (0x4C20 + (2 : Fin 8)) 1 [1] (fanEnableRule (2 : Fin 8)) ∧
    Writable (tFan fanRunning {}) (7 : Fin 16) (0x4C20 + (2 : Fin 8)) 1 [0] (fanEnableRule (2 : Fin 8)) := by decide +kernel

/-! ### Power and start -/

/-- The module with given power contents and PowerFlags, at 20 s. -/
def tPow (p : Power) (flags : Int) : State := { (tAt tUdp (ticksS 20) 0).setReg K.powerFlags flags with power := p }

/-- A start's operands with a supply of 12 V, a good island and no image. -/
def tBoot : Boot := ⟨true, 12000, true, 100, true, false, false, 0, true, 0, 0, none, true⟩

theorem wit_Supply :
    (tPow { phase := .up } 0).isUp = true ∧ (tPow { phase := .up } 2).flag K.powerFlags 1 = true ∧ (tPow { phase := .up } 2).brownoutNow false = false ∧
    (tPow { phase := .up } 2).brownoutNow true = true ∧ (tPow { phase := .up } 4).flag K.powerFlags 2 = true ∧
    (tPow { phase := .up } 0).flag K.powerFlags 2 = false := by decide +kernel

theorem test_logicSupplyLow : after (.logicSupplyLow 8999) (tPow { phase := .up } 0) (fun t => t.flag K.powerFlags 0 && t.reg K.logicSupply == 8999) = true := by
  decide +kernel

theorem wit_Wakes :
    (tPow { phase := .listening, start := none } 0).power.phase = .listening ∧ (tPow { phase := .listening, start := none } 0).power.start = none ∧
    (tPow { phase := .up, inactiveFrom := some 0 } 0).reg K.powerState = 1 ∧
    (tPow { phase := .up, inactiveFrom := some 0 } 0).heldFor (tPow { phase := .up, inactiveFrom := some 0 } 0).power.inactiveFrom
      (ticksMs ((tPow { phase := .up, inactiveFrom := some 0 } 0).regN K.wakeOffDelay)) = true ∧
    (tPow { phase := .up, entry := some 0 } 0).power.entry.isSome = true ∧ (tPow { phase := .up, entry := some 0 } 0).jr.items = [] ∧
    (tRegs (tPow { phase := .listening, start := none } 0) [(K.canPortEnable 1, 1), (K.wakeMode 1, 1)]).reg (K.wakeMode (1 : Fin 6)) = 1 ∧
    (tRegs (tPow { phase := .listening, start := none } 0) [(K.canPortEnable 1, 1), (K.wakeMode 1, 2)]).reg (K.canPortEnable (1 : Fin 6)) = 1 := by
  decide +kernel

theorem wit_Resets :
    Writable (tPow { phase := .up } 0) (7 : Fin 16) 0x2011 0 (leBytes 1 (1 : BitVec 8).toNat) moduleResetRule ∧
    State.reset.power.phase ≠ .up ∧ 6000 ≤ tBoot.mV.toNat ∧ tBoot.supply = true ∧ State.reset.power.start.isSome = true ∧
    ((tPow { phase := .off } 0).selectImage tBoot).image = none := by decide +kernel

/-! ### Security -/

/-- Slot 7 with a challenge for the role INTEGRATOR, at 1 s. -/
def tChal : State :=
  { tAt tUdp (ticksS 1) 0 with challenges := (tUdp.challenges).set none 7 (some ⟨zeros 32, 2, 3, ticksS 9⟩) }

/-- What a right response, a key record and a start of a certified image need stands behind Config.ecdsaVerify, which is open: their acceptance is not decided here. -/
theorem wit_Island :
    Writable tUdp (7 : Fin 16) 0x2110 0 (leBytes 1 (4 : BitVec 8).toNat) challengeRule ∧
    tChal.validChallenge (7 : Fin 16) = some ⟨zeros 32, 2, 3, ticksS 9⟩ ∧ tChal.challenge (7 : Fin 16) = some ⟨zeros 32, 2, 3, ticksS 9⟩ ∧
    (tChal.heard (7 : Fin 16)).checkWrite (7 : Fin 16) ⟨0x2112, 0, 0, [0xEE] ++ zeros 99⟩ authResponseRule = some .authFailed ∧
    Writable tUdp (7 : Fin 16) 0x2113 0 (leBytes 1 (1 : BitVec 8).toNat) authDropRule ∧
    Writable (tSess tUdp 7 4) (7 : Fin 16) 0x2121 0 (leBytes 1 (1 : BitVec 8).toNat) keyStoreClearRule ∧
    Writable (tSess tUdp 7 3) (7 : Fin 16) 0x2150 1 (leBytes 1 (1 : BitVec 8).toNat) fleetKeyRule := by decide +kernel

theorem test_authFails : after (.authResponse 7 ([0xEE] ++ zeros 99)) tChal (fun t => (t.challenge 7).isNone && (t.failsOf 0x31).fails == 1) = true := by
  decide +kernel

/-! ### Frames and well-formed commands -/

theorem wit_OnlyWritesAreAcceptedWork : (udpReq (tFrame 0x10 3 0x1F00 2 0 [])).op = opRead := by decide +kernel

theorem wit_EventsChangeOnlyTheirUnit : ∃ t, Machine.exec (.feedLow 0 3000) tUp = .next t := ⟨_, rfl⟩

theorem wit_WritesChangeOnlyTheirUnit : ∃ t, Machine.exec (.cueDisarm 7 9) tCueItem = .next t := ⟨_, rfl⟩

/-- The checks of a well-formed command refuse a term that breaks them: a CLASSICAL frame of 9 bytes, an FD frame of 13, a wake frame of 9, a
datagram of 65,508 bytes. -/
theorem test_illFormed_frames :
    (Instr.canFrameReceived 0 0 0 false false (zeros 9) 0).wf = false ∧
    (Instr.canFrameReceived 0 0 1 false false (zeros 13) 0).wf = false ∧
    (Instr.canWake 0 (some (0, zeros 9))).wf = false := by decide +kernel

theorem test_illFormed_datagram : (Instr.read 100 47920 (zeros 65508)).wf = false := by
  show decide ((List.replicate 65508 (0 : BitVec 8)).length ≤ 65507) = false
  rw [List.length_replicate]
  decide

/-- A VLAN of 13 bits, a priority of 4 bits, a 49-bit address; a priority1, class, accuracy, variance, identity or number of steps above its
width; a section on an element that is not there. -/
theorem test_illFormed_ethernet :
    (Instr.ethFrameIngress 0 true ⟨64, some (4096, 0), 1, 2, false, []⟩).wf = false ∧
    (Instr.ethFrameIngress 0 true ⟨64, some (100, 8), 1, 2, false, []⟩).wf = false ∧
    (Instr.ethFrameIngress 0 true ⟨64, none, 2 ^ 48, 2, false, []⟩).wf = false ∧
    (Instr.ethFrameIngress 0 true ⟨64, none, 1, 2 ^ 48, false, []⟩).wf = false ∧
    (Instr.announce 0 0 ⟨256, 248, 0xFE, 0, 128, 1, 0⟩ 0).wf = false ∧ (Instr.announce 0 0 ⟨1, 256, 0xFE, 0, 128, 1, 0⟩ 0).wf = false ∧
    (Instr.announce 0 0 ⟨1, 248, 256, 0, 128, 1, 0⟩ 0).wf = false ∧ (Instr.announce 0 0 ⟨1, 248, 0xFE, 65536, 128, 1, 0⟩ 0).wf = false ∧
    (Instr.announce 0 0 ⟨1, 248, 0xFE, 0, 256, 1, 0⟩ 0).wf = false ∧ (Instr.announce 0 0 ⟨1, 248, 0xFE, 0, 128, 2 ^ 64, 0⟩ 0).wf = false ∧
    (Instr.announce 0 0 ⟨1, 248, 0xFE, 0, 128, 1, 65536⟩ 0).wf = false ∧
    (Instr.announce 0 0 ⟨1, 248, 0xFE, 0, 128, 1, 0⟩ 0).wf = true := by decide +kernel

theorem test_illFormed_section :
    (Instr.tcClientConnect 0x81 [1] [{ element := 1, number := 0, x := 0, y := 0, width := 1000, onMs := 0, offMs := 0 }]).wf = false := by
  decide +kernel

end Sys2Proof.Tests
end

section
/-!
What the operations of the write commands leave unchanged (O60).
-/
namespace Sys2Proof.Machine
open Sys2Proof
/-! ### Frames

`s.outside F` is the state without the fields named in `F`. An operation that writes only fields of `F` keeps it: one lemma for each
operation, so that `simp` runs through a composition of operations, whatever its conditions are. -/

/-- The fields of the state, as names. -/
inductive Part where
  | regs | blobs | sessions | sdo | lastReply | lastSdo | ifcPending | jr | clock | net | book | nonces | windows | fleet | axes
  | cues | lines | deferred | lastAct | impls | sections | cov | tc | sv | ls | feeds | maint | canBufs | canPorts | ctxs | caps
  | ains | fins | acus | brgs | imu | supplies | aligns | fuse | cams | fsync | streams | vision | cells | regions | slots
  | fabric | keys | challenges | island | yield | archive | rdv | panel | tag | zones | fans | power | fresh | pending
  deriving DecidableEq

/-- The state `s` with the fields named in `F` taken from `t`. -/
def State.merge (F : List Part) (s t : State) : State where
  regs := if .regs ∈ F then t.regs else s.regs
  blobs := if .blobs ∈ F then t.blobs else s.blobs
  sessions := if .sessions ∈ F then t.sessions else s.sessions
  sdo := if .sdo ∈ F then t.sdo else s.sdo
  lastReply := if .lastReply ∈ F then t.lastReply else s.lastReply
  lastSdo := if .lastSdo ∈ F then t.lastSdo else s.lastSdo
  ifcPending := if .ifcPending ∈ F then t.ifcPending else s.ifcPending
  jr := if .jr ∈ F then t.jr else s.jr
  clock := if .clock ∈ F then t.clock else s.clock
  net := if .net ∈ F then t.net else s.net
  book := if .book ∈ F then t.book else s.book
  nonces := if .nonces ∈ F then t.nonces else s.nonces
  windows := if .windows ∈ F then t.windows else s.windows
  fleet := if .fleet ∈ F then t.fleet else s.fleet
  axes := if .axes ∈ F then t.axes else s.axes
  cues := if .cues ∈ F then t.cues else s.cues
  lines := if .lines ∈ F then t.lines else s.lines
  deferred := if .deferred ∈ F then t.deferred else s.deferred
  lastAct := if .lastAct ∈ F then t.lastAct else s.lastAct
  impls := if .impls ∈ F then t.impls else s.impls
  sections := if .sections ∈ F then t.sections else s.sections
  cov := if .cov ∈ F then t.cov else s.cov
  tc := if .tc ∈ F then t.tc else s.tc
  sv := if .sv ∈ F then t.sv else s.sv
  ls := if .ls ∈ F then t.ls else s.ls
  feeds := if .feeds ∈ F then t.feeds else s.feeds
  maint := if .maint ∈ F then t.maint else s.maint
  canBufs := if .canBufs ∈ F then t.canBufs else s.canBufs
  canPorts := if .canPorts ∈ F then t.canPorts else s.canPorts
  ctxs := if .ctxs ∈ F then t.ctxs else s.ctxs
  caps := if .caps ∈ F then t.caps else s.caps
  ains := if .ains ∈ F then t.ains else s.ains
  fins := if .fins ∈ F then t.fins else s.fins
  acus := if .acus ∈ F then t.acus else s.acus
  brgs := if .brgs ∈ F then t.brgs else s.brgs
  imu := if .imu ∈ F then t.imu else s.imu
  supplies := if .supplies ∈ F then t.supplies else s.supplies
  aligns := if .aligns ∈ F then t.aligns else s.aligns
  fuse := if .fuse ∈ F then t.fuse else s.fuse
  cams := if .cams ∈ F then t.cams else s.cams
  fsync := if .fsync ∈ F then t.fsync else s.fsync
  streams := if .streams ∈ F then t.streams else s.streams
  vision := if .vision ∈ F then t.vision else s.vision
  cells := if .cells ∈ F then t.cells else s.cells
  regions := if .regions ∈ F then t.regions else s.regions
  slots := if .slots ∈ F then t.slots else s.slots
  fabric := if .fabric ∈ F then t.fabric else s.fabric
  keys := if .keys ∈ F then t.keys else s.keys
  challenges := if .challenges ∈ F then t.challenges else s.challenges
  island := if .island ∈ F then t.island else s.island
  yield := if .yield ∈ F then t.yield else s.yield
  archive := if .archive ∈ F then t.archive else s.archive
  rdv := if .rdv ∈ F then t.rdv else s.rdv
  panel := if .panel ∈ F then t.panel else s.panel
  tag := if .tag ∈ F then t.tag else s.tag
  zones := if .zones ∈ F then t.zones else s.zones
  fans := if .fans ∈ F then t.fans else s.fans
  power := if .power ∈ F then t.power else s.power
  fresh := if .fresh ∈ F then t.fresh else s.fresh
  pending := if .pending ∈ F then t.pending else s.pending

/-- The state `s` with the fields named in `F` blank. -/
def State.outside (F : List Part) (s : State) : State := s.merge F State.reset

variable {F : List Part}

/-- The second merge over the same fields decides. -/
theorem merge_merge (F : List Part) (s t u : State) : (s.merge F t).merge F u = s.merge F u := by
  unfold State.merge
  congr 1 <;> split <;> rfl

theorem merge_self (F : List Part) (s : State) : s.merge F s = s := by simp only [State.merge, ite_self]

/-- States that agree outside `F` differ in the fields of `F` only. -/
theorem eq_merge_of_outside {s t : State} (h : t.outside F = s.outside F) : t = s.merge F t :=
  calc t = t.merge F t := (merge_self F t).symm
    _ = (t.outside F).merge F t := (merge_merge F t _ t).symm
    _ = (s.outside F).merge F t := by rw [h]
    _ = s.merge F t := merge_merge F s _ t

@[simp] theorem outside_ite (c : Prop) [Decidable c] (s t : State) :
    (if c then s else t).outside F = if c then s.outside F else t.outside F := apply_ite _ _ _ _

@[simp] theorem outside_foldl {α : Type} {f : State → α → State} (hf : ∀ s x, (f s x).outside F = s.outside F) (l : List α) (s : State) :
    (l.foldl f s).outside F = s.outside F := by
  induction l generalizing s with
  | nil => rfl
  | cons x t ih => rw [List.foldl_cons, ih, hf]

/-! The update of one field. -/

@[simp] theorem outside_with_regs (h : .regs ∈ F) (s : State) (x) : ({ s with regs := x } : State).outside F = s.outside F := by
  simp only [State.outside, State.merge, h, if_true]

@[simp] theorem outside_with_blobs (h : .blobs ∈ F) (s : State) (x) : ({ s with blobs := x } : State).outside F = s.outside F := by
  simp only [State.outside, State.merge, h, if_true]

@[simp] theorem outside_with_sessions (h : .sessions ∈ F) (s : State) (x) : ({ s with sessions := x } : State).outside F = s.outside F := by
  simp only [State.outside, State.merge, h, if_true]

@[simp] theorem outside_with_lastReply (h : .lastReply ∈ F) (s : State) (x) : ({ s with lastReply := x } : State).outside F = s.outside F := by
  simp only [State.outside, State.merge, h, if_true]

@[simp] theorem outside_with_jr (h : .jr ∈ F) (s : State) (x) : ({ s with jr := x } : State).outside F = s.outside F := by
  simp only [State.outside, State.merge, h, if_true]

@[simp] theorem outside_with_book (h : .book ∈ F) (s : State) (x) : ({ s with book := x } : State).outside F = s.outside F := by
  simp only [State.outside, State.merge, h, if_true]

@[simp] theorem outside_with_nonces (h : .nonces ∈ F) (s : State) (x) : ({ s with nonces := x } : State).outside F = s.outside F := by
  simp only [State.outside, State.merge, h, if_true]

@[simp] theorem outside_with_fleet (h : .fleet ∈ F) (s : State) (x) : ({ s with fleet := x } : State).outside F = s.outside F := by
  simp only [State.outside, State.merge, h, if_true]

@[simp] theorem outside_with_axes (h : .axes ∈ F) (s : State) (x) : ({ s with axes := x } : State).outside F = s.outside F := by
  simp only [State.outside, State.merge, h, if_true]

@[simp] theorem outside_with_cues (h : .cues ∈ F) (s : State) (x) : ({ s with cues := x } : State).outside F = s.outside F := by
  simp only [State.outside, State.merge, h, if_true]

@[simp] theorem outside_with_lines (h : .lines ∈ F) (s : State) (x) : ({ s with lines := x } : State).outside F = s.outside F := by
  simp only [State.outside, State.merge, h, if_true]

@[simp] theorem outside_with_sections (h : .sections ∈ F) (s : State) (x) : ({ s with sections := x } : State).outside F = s.outside F := by
  simp only [State.outside, State.merge, h, if_true]

@[simp] theorem outside_with_cov (h : .cov ∈ F) (s : State) (x) : ({ s with cov := x } : State).outside F = s.outside F := by
  simp only [State.outside, State.merge, h, if_true]

@[simp] theorem outside_with_sv (h : .sv ∈ F) (s : State) (x) : ({ s with sv := x } : State).outside F = s.outside F := by
  simp only [State.outside, State.merge, h, if_true]

@[simp] theorem outside_with_ls (h : .ls ∈ F) (s : State) (x) : ({ s with ls := x } : State).outside F = s.outside F := by
  simp only [State.outside, State.merge, h, if_true]

@[simp] theorem outside_with_maint (h : .maint ∈ F) (s : State) (x) : ({ s with maint := x } : State).outside F = s.outside F := by
  simp only [State.outside, State.merge, h, if_true]

@[simp] theorem outside_with_canBufs (h : .canBufs ∈ F) (s : State) (x) : ({ s with canBufs := x } : State).outside F = s.outside F := by
  simp only [State.outside, State.merge, h, if_true]

@[simp] theorem outside_with_canPorts (h : .canPorts ∈ F) (s : State) (x) : ({ s with canPorts := x } : State).outside F = s.outside F := by
  simp only [State.outside, State.merge, h, if_true]

@[simp] theorem outside_with_ctxs (h : .ctxs ∈ F) (s : State) (x) : ({ s with ctxs := x } : State).outside F = s.outside F := by
  simp only [State.outside, State.merge, h, if_true]

@[simp] theorem outside_with_caps (h : .caps ∈ F) (s : State) (x) : ({ s with caps := x } : State).outside F = s.outside F := by
  simp only [State.outside, State.merge, h, if_true]

@[simp] theorem outside_with_brgs (h : .brgs ∈ F) (s : State) (x) : ({ s with brgs := x } : State).outside F = s.outside F := by
  simp only [State.outside, State.merge, h, if_true]

@[simp] theorem outside_with_fuse (h : .fuse ∈ F) (s : State) (x) : ({ s with fuse := x } : State).outside F = s.outside F := by
  simp only [State.outside, State.merge, h, if_true]

@[simp] theorem outside_with_cams (h : .cams ∈ F) (s : State) (x) : ({ s with cams := x } : State).outside F = s.outside F := by
  simp only [State.outside, State.merge, h, if_true]

@[simp] theorem outside_with_streams (h : .streams ∈ F) (s : State) (x) : ({ s with streams := x } : State).outside F = s.outside F := by
  simp only [State.outside, State.merge, h, if_true]

@[simp] theorem outside_with_cells (h : .cells ∈ F) (s : State) (x) : ({ s with cells := x } : State).outside F = s.outside F := by
  simp only [State.outside, State.merge, h, if_true]

@[simp] theorem outside_with_regions (h : .regions ∈ F) (s : State) (x) : ({ s with regions := x } : State).outside F = s.outside F := by
  simp only [State.outside, State.merge, h, if_true]

@[simp] theorem outside_with_slots (h : .slots ∈ F) (s : State) (x) : ({ s with slots := x } : State).outside F = s.outside F := by
  simp only [State.outside, State.merge, h, if_true]

@[simp] theorem outside_with_fabric (h : .fabric ∈ F) (s : State) (x) : ({ s with fabric := x } : State).outside F = s.outside F := by
  simp only [State.outside, State.merge, h, if_true]

@[simp] theorem outside_with_keys (h : .keys ∈ F) (s : State) (x) : ({ s with keys := x } : State).outside F = s.outside F := by
  simp only [State.outside, State.merge, h, if_true]

@[simp] theorem outside_with_challenges (h : .challenges ∈ F) (s : State) (x) : ({ s with challenges := x } : State).outside F = s.outside F := by
  simp only [State.outside, State.merge, h, if_true]

@[simp] theorem outside_with_island (h : .island ∈ F) (s : State) (x) : ({ s with island := x } : State).outside F = s.outside F := by
  simp only [State.outside, State.merge, h, if_true]

@[simp] theorem outside_with_archive (h : .archive ∈ F) (s : State) (x) : ({ s with archive := x } : State).outside F = s.outside F := by
  simp only [State.outside, State.merge, h, if_true]

@[simp] theorem outside_with_rdv (h : .rdv ∈ F) (s : State) (x) : ({ s with rdv := x } : State).outside F = s.outside F := by
  simp only [State.outside, State.merge, h, if_true]

@[simp] theorem outside_with_panel (h : .panel ∈ F) (s : State) (x) : ({ s with panel := x } : State).outside F = s.outside F := by
  simp only [State.outside, State.merge, h, if_true]

@[simp] theorem outside_with_fans (h : .fans ∈ F) (s : State) (x) : ({ s with fans := x } : State).outside F = s.outside F := by
  simp only [State.outside, State.merge, h, if_true]

@[simp] theorem outside_with_fresh (h : .fresh ∈ F) (s : State) (x) : ({ s with fresh := x } : State).outside F = s.outside F := by
  simp only [State.outside, State.merge, h, if_true]

/-- The effect and the refusal of a write rule leave what is outside `F` as it is. -/
structure RuleStays (F : List Part) (r : WriteRule) : Prop where
  effect : ∀ s slot seq d, (r.effect s slot seq d).outside F = s.outside F
  refused : ∀ s slot a, (r.refused s slot a).outside F = s.outside F

@[simp] theorem outside_setAxis (haxes : .axes ∈ F) (s : State) (n : Nat) (x : Axis) :
    (s.setAxis n x).outside F = s.outside F := outside_with_axes haxes _ _

@[simp] theorem outside_setBlob (hblobs : .blobs ∈ F) (s : State) (k : Nat) (v : Bytes) :
    (s.setBlob k v).outside F = s.outside F := outside_with_blobs hblobs _ _

section
variable (hbook : .book ∈ F)
include hbook

@[simp] theorem outside_offerAt (s : State) (time tick : Nat) (source : Src) (code unit : Nat) (payload : Bytes) :
    (s.offerAt time tick source code unit payload).outside F = s.outside F := by
  unfold State.offerAt
  split <;> simp [*]

@[simp] theorem outside_offer (s : State) (source : Src) (code unit : Nat) (payload : Bytes) :
    (s.offer source code unit payload).outside F = s.outside F := by
  simp [State.offer, *]

@[simp] theorem outside_event (s : State) (source : Src) (unit idx sub : Nat) (detail : Nat) :
    (s.event source unit idx sub detail).outside F = s.outside F := by
  simp [State.event, *]

end

@[simp] theorem outside_setBrg (hbrgs : .brgs ∈ F) (s : State) (n : Nat) (x : Brg) : (s.setBrg n x).outside F = s.outside F :=
  outside_with_brgs hbrgs _ _

@[simp] theorem outside_setCam (hcams : .cams ∈ F) (s : State) (n : Nat) (x : Cam) : (s.setCam n x).outside F = s.outside F :=
  outside_with_cams hcams _ _

@[simp] theorem outside_setTxBuf (hcanBufs : .canBufs ∈ F) (s : State) (p b : Nat) (x : TxBuf) :
    (s.setTxBuf p b x).outside F = s.outside F := outside_with_canBufs hcanBufs _ _

@[simp] theorem outside_setCan (hcanPorts : .canPorts ∈ F) (s : State) (p : Nat) (x : CanPort) :
    (s.setCan p x).outside F = s.outside F := outside_with_canPorts hcanPorts _ _

@[simp] theorem outside_setCapture (hcaps : .caps ∈ F) (s : State) (b : Nat) (x : Capture) :
    (s.setCapture b x).outside F = s.outside F := outside_with_caps hcaps _ _

@[simp] theorem outside_setCell (hcells : .cells ∈ F) (s : State) (p : Nat) (x : Cell) :
    (s.setCell p x).outside F = s.outside F := outside_with_cells hcells _ _

@[simp] theorem outside_dropShadow (hcells : .cells ∈ F) (s : State) (r : Nat) : (s.dropShadow r).outside F = s.outside F := by
  simp [State.dropShadow, *]

@[simp] theorem outside_setTile (hcov : .cov ∈ F) (s : State) (k : Nat) (x : CovTile) :
    (s.setTile k x).outside F = s.outside F := outside_with_cov hcov _ _

@[simp] theorem outside_setCtx (hctxs : .ctxs ∈ F) (s : State) (n : Nat) (x : Ctx) : (s.setCtx n x).outside F = s.outside F :=
  outside_with_ctxs hctxs _ _

@[simp] theorem outside_setCue (hcues : .cues ∈ F) (s : State) (n : Nat) (x : Cue) : (s.setCue n x).outside F = s.outside F :=
  outside_with_cues hcues _ _

@[simp] theorem outside_setFan (hfans : .fans ∈ F) (s : State) (f : Nat) (x : Fan) : (s.setFan f x).outside F = s.outside F :=
  outside_with_fans hfans _ _

@[simp] theorem outside_draw (hfresh : .fresh ∈ F) (s : State) : (s.draw).2.outside F = s.outside F := by
  simp [State.draw, *]

@[simp] theorem outside_drawBytes (hfresh : .fresh ∈ F) (s : State) (n : Nat) : (s.drawBytes n).2.outside F = s.outside F := by
  simp [State.drawBytes, *]

section
variable (hfuse : .fuse ∈ F)
include hfuse

@[simp] theorem outside_setFuse (s : State) (x : Fuse) : (s.setFuse x).outside F = s.outside F := outside_with_fuse hfuse _ _

@[simp] theorem outside_fuseHalt (s : State) : s.fuseHalt.outside F = s.outside F := by
  simp [State.fuseHalt, *]

@[simp] theorem outside_clearWaiting (s : State) (warmup : Nat) : (s.clearWaiting warmup).outside F = s.outside F := by
  unfold State.clearWaiting
  split <;> simp [*]

end

/-! Operations that write the journal only. -/

section
variable (hjr : .jr ∈ F)
include hjr

@[simp] theorem outside_beginDisable (s : State) (aim seq due : Nat) : (s.beginDisable aim seq due).outside F = s.outside F := by
  simp [State.beginDisable, *]

@[simp] theorem outside_updSource (s : State) (id : Nat) (f : Source → Source) : (s.updSource id f).outside F = s.outside F := by
  simp [State.updSource, *]

@[simp] theorem outside_mapItem (s : State) (seq : Nat) (f : Item → Item) : (s.mapItem seq f).outside F = s.outside F := by
  simp [State.mapItem, *]

@[simp] theorem outside_allocSource (s : State) (id : Nat) : (s.allocSource id).outside F = s.outside F := by
  unfold State.allocSource
  split <;> simp [*]

@[simp] theorem outside_startItem (s : State) (seq : Nat) : (s.startItem seq).outside F = s.outside F := by
  simp [State.startItem, *]

@[simp] theorem outside_jwrite (s : State) (r : JRec) : (s.jwrite r).outside F = s.outside F := by
  unfold State.jwrite
  split <;> simp [*]

@[simp] theorem outside_finish (s : State) (seq : Nat) (o : Outcome) (detail : Nat) :
    (s.finish seq o detail).outside F = s.outside F := by
  unfold State.finish
  split <;> simp [*]

@[simp] theorem outside_finishAll (s : State) (seqs : List Nat) (o : Outcome) (detail : Nat) :
    (s.finishAll seqs o detail).outside F = s.outside F := by
  simp [State.finishAll, *]

@[simp] theorem commandRule_stays (check : State → Bytes → Option Abort) (act : State → Bytes → State)
    (h : ∀ s d, (act s d).outside F = s.outside F) : RuleStays F (commandRule check act) :=
  ⟨fun _ _ _ _ => by simp [commandRule, *], fun _ _ _ => rfl⟩

@[simp] theorem outside_cancelAimed (s : State) (aim : Nat) : (s.cancelAimed aim).outside F = s.outside F := by
  simp [State.cancelAimed, *]

@[simp] theorem outside_finishOpt (s : State) (seq : Option Nat) (o : Outcome) (detail : Nat) :
    (s.finishOpt seq o detail).outside F = s.outside F := by
  unfold State.finishOpt
  split <;> simp [*]

@[simp] theorem outside_endDisable (s : State) (aim : Nat) : (s.endDisable aim).outside F = s.outside F := by
  simp [State.endDisable, *]

@[simp] theorem outside_svReleaseDone (s : State) (ch : Nat) : (s.svReleaseDone ch).outside F = s.outside F := by
  simp [State.svReleaseDone, *]

end

@[simp] theorem outside_setKeySlot (hkeys : .keys ∈ F) (s : State) (k : Nat) (x : KeySlot) :
    (s.setKeySlot k x).outside F = s.outside F := outside_with_keys hkeys _ _

@[simp] theorem outside_respond (hlastReply : .lastReply ∈ F) (s : State) (id num op idx sub ty : Nat) (x : Result) :
    (s.respond id num op idx sub ty x).outside F = s.outside F := by
  simp [State.respond, *]

@[simp] theorem outside_setLine (hlines : .lines ∈ F) (s : State) (n : Nat) (x : Line) :
    (s.setLine n x).outside F = s.outside F := outside_with_lines hlines _ _

@[simp] theorem outside_setLs (hls : .ls ∈ F) (s : State) (n : Nat) (x : Ls) : (s.setLs n x).outside F = s.outside F :=
  outside_with_ls hls _ _

@[simp] theorem outside_lsNextDuty (hls : .ls ∈ F) (s : State) (n : Nat) : (s.lsNextDuty n).outside F = s.outside F := by
  simp [State.lsNextDuty, *]

@[simp] theorem outside_setImage (hmaint : .maint ∈ F) (s : State) (n : Nat) (x : FwImage) :
    (s.setImage n x).outside F = s.outside F := outside_with_maint hmaint _ _

@[simp] theorem outside_setPanel (hpanel : .panel ∈ F) (s : State) (x : Panel) : (s.setPanel x).outside F = s.outside F :=
  outside_with_panel hpanel _ _

@[simp] theorem outside_setRegion (hregions : .regions ∈ F) (s : State) (n : Nat) (x : Region) :
    (s.setRegion n x).outside F = s.outside F := outside_with_regions hregions _ _

/-! Operations that write numeric entries only. -/

section
variable (hregs : .regs ∈ F)
include hregs

@[simp] theorem outside_setReg (s : State) (k : Nat) (v : Int) : (s.setReg k v).outside F = s.outside F :=
  outside_with_regs hregs _ _

@[simp] theorem outside_setFlag (s : State) (k i : Nat) (b : Bool) : (s.setFlag k i b).outside F = s.outside F := by
  simp [State.setFlag, *]

@[simp] theorem outside_showActs (s : State) : s.showActs.outside F = s.outside F := by
  simp [State.showActs, *]

@[simp] theorem outside_svDropBoost (s : State) (ch : Nat) : (s.svDropBoost ch).outside F = s.outside F := by
  simp [State.svDropBoost, *]

@[simp] theorem outside_showStore (s : State) : s.showStore.outside F = s.outside F := outside_setReg hregs _ _ _

@[simp] theorem outside_showRehearsals (s : State) : s.showRehearsals.outside F = s.outside F := by
  simp [State.showRehearsals, *]

@[simp] theorem outside_showLoad (s : State) : s.showLoad.outside F = s.outside F := by
  simp [State.showLoad, *]

@[simp] theorem outside_showOverload (s : State) (b : Nat) : (s.showOverload b).outside F = s.outside F := by
  simp [State.showOverload, *]

@[simp] theorem outside_bumpBy (s : State) (k : Nat) (n : Int) : (s.bumpBy k n).outside F = s.outside F := by
  simp [State.bumpBy, *]

@[simp] theorem outside_bump (s : State) (k : Nat) : (s.bump k).outside F = s.outside F := by
  simp [State.bump, *]

@[simp] theorem outside_lsEnableNow (s : State) (n : Nat) : (s.lsEnableNow n).outside F = s.outside F := by
  simp [State.lsEnableNow, *]

@[simp] theorem outside_showClaims (s : State) (b : Nat) : (s.showClaims b).outside F = s.outside F := by
  simp [State.showClaims, *]

@[simp] theorem outside_showScene (s : State) (r : Nat) : (s.showScene r).outside F = s.outside F := by
  simp only [State.showScene, outside_setReg, hregs]
  split <;> simp [*]

@[simp] theorem outside_refuse (s : State) (slot : Nat) (r : WriteRule) (a : Abort) (h : RuleStays F r) :
    (s.refuse slot r a).outside F = s.outside F := by
  simp [State.refuse, h.refused, *]

@[simp] theorem outside_showRegion (s : State) : s.showRegion.outside F = s.outside F := by
  simp [State.showRegion, *]

@[simp] theorem outside_showAxis (s : State) (n : Nat) : (s.showAxis n).outside F = s.outside F := by
  simp [State.showAxis, *]

@[simp] theorem outside_showFusion (s : State) : s.showFusion.outside F = s.outside F := by
  simp [State.showFusion, *]

end

@[simp] theorem outside_setSection (hsections : .sections ∈ F) (s : State) (n : Nat) (x : Section) :
    (s.setSection n x).outside F = s.outside F := outside_with_sections hsections _ _

section
variable (hsessions : .sessions ∈ F)
include hsessions

@[simp] theorem outside_setSess (s : State) (slot : Nat) (x : Session) : (s.setSess slot x).outside F = s.outside F :=
  outside_with_sessions hsessions _ _

@[simp] theorem outside_dropRaised (s : State) (k : Nat) : (s.dropRaised k).outside F = s.outside F := by
  simp [State.dropRaised, *]

@[simp] theorem outside_heard (s : State) (slot : Nat) : (s.heard slot).outside F = s.outside F := by
  simp [State.heard, *]

end

@[simp] theorem outside_setPslot (hslots : .slots ∈ F) (s : State) (n : Nat) (x : PSlot) :
    (s.setPslot n x).outside F = s.outside F := outside_with_slots hslots _ _

@[simp] theorem outside_setStream (hstreams : .streams ∈ F) (s : State) (k : Nat) (x : Stream) :
    (s.setStream k x).outside F = s.outside F := outside_with_streams hstreams _ _

@[simp] theorem outside_setSv (hsv : .sv ∈ F) (s : State) (n : Nat) (x : Sv) : (s.setSv n x).outside F = s.outside F :=
  outside_with_sv hsv _ _

@[simp] theorem outside_canStart (hcanBufs : .canBufs ∈ F) (hcanPorts : .canPorts ∈ F) (s : State) (p : Nat) :
    (s.canStart p).outside F = s.outside F := by
  unfold State.canStart
  split <;> simp [*]

@[simp] theorem archiveEraseRule_stays (hjr : .jr ∈ F) (harchive : .archive ∈ F) : RuleStays F archiveEraseRule :=
  ⟨fun _ _ _ _ => by simp [archiveEraseRule, *], fun _ _ _ => rfl⟩

@[simp] theorem brgTareRule_stays (hjr : .jr ∈ F) (hbrgs : .brgs ∈ F) (n : Nat) : RuleStays F (brgTareRule n) :=
  ⟨fun _ _ _ _ => by simp [brgTareRule, *], fun _ _ _ => rfl⟩

@[simp] theorem uiRectRule_stays (hjr : .jr ∈ F) (hpanel : .panel ∈ F) : RuleStays F uiRectRule :=
  ⟨fun _ _ _ _ => by simp [uiRectRule, *], fun _ _ _ => rfl⟩

@[simp] theorem outside_setFieldArc (hregs : .regs ∈ F) (harchive : .archive ∈ F) (s : State) (f : Nat) (x : FieldArc) :
    (s.setFieldArc f x).outside F = s.outside F := by
  simp [State.setFieldArc, *]

@[simp] theorem outside_storeMask (hregs : .regs ∈ F) (harchive : .archive ∈ F) (s : State) (b : Bytes) :
    (s.storeMask b).outside F = s.outside F := by
  unfold State.storeMask
  split <;> simp [*]

@[simp] theorem outside_axisStart (hregs : .regs ∈ F) (haxes : .axes ∈ F) (s : State) (n : Nat) :
    (s.axisStart n).outside F = s.outside F := by
  simp [State.axisStart, *]

@[simp] theorem outside_putEntry (hregs : .regs ∈ F) (hblobs : .blobs ∈ F) (s : State) (idx sub : Nat) (data : Bytes) :
    (s.putEntry idx sub data).outside F = s.outside F := by
  unfold State.putEntry
  split <;> simp [*]

@[simp] theorem settingsCommitRule_stays (hregs : .regs ∈ F) (hcams : .cams ∈ F) (n : Nat) : RuleStays F (settingsCommitRule n) :=
  ⟨fun _ _ _ _ => by simp [settingsCommitRule, *], fun _ _ _ => rfl⟩

@[simp] theorem outside_putMask (hregs : .regs ∈ F) (hcov : .cov ∈ F) (s : State) (value : Option Bytes) :
    (s.putMask value).outside F = s.outside F := by
  unfold State.putMask
  split <;> simp [*]

@[simp] theorem outside_ctxStart (hregs : .regs ∈ F) (hctxs : .ctxs ∈ F) (s : State) (n : Nat) (pl : Nat × Nat) :
    (s.ctxStart n pl).outside F = s.outside F := by
  simp [State.ctxStart, *]

@[simp] theorem outside_armCue (hregs : .regs ∈ F) (hcues : .cues ∈ F) (s : State) (c : CueRec) (origin jseq : Nat) (region : Nat) :
    (s.armCue c origin jseq region).outside F = s.outside F := by
  simp [State.armCue, *]

@[simp] theorem outside_endWindow (hregs : .regs ∈ F) (hfans : .fans ∈ F) (s : State) (f : Nat) :
    (s.endWindow f).outside F = s.outside F := by
  simp [State.endWindow, *]

@[simp] theorem outside_publish (hregs : .regs ∈ F) (hfleet : .fleet ∈ F) (s : State) (m : Msg) :
    (s.publish m).outside F = s.outside F := by
  unfold State.publish
  split <;> simp [*]

@[simp] theorem outside_publishRdv (hregs : .regs ∈ F) (hfleet : .fleet ∈ F) (s : State) :
    s.publishRdv.outside F = s.outside F := by
  simp [State.publishRdv, *]

/-! Entries and the journal. -/

section
variable (hregs : .regs ∈ F) (hjr : .jr ∈ F)
include hregs hjr

@[simp] theorem outside_beginBusy (s : State) (op source seq : Nat) : (s.beginBusy op source seq).outside F = s.outside F := by
  simp [State.beginBusy, *]

@[simp] theorem finZeroRule_stays (n : Nat) : RuleStays F (finZeroRule n) := commandRule_stays hjr _ _ fun _ _ => by simp [*]

@[simp] theorem outside_accept (s : State) (slot source : Nat) (access : Access) (idx sub : Nat) (ty : Ty) (data : Bytes) (aim : Nat) :
    (s.accept slot source access idx sub ty data aim).outside F = s.outside F := by
  simp [State.accept, *]

@[simp] theorem stickyClearRule_stays (n : Nat) : RuleStays F (stickyClearRule n) :=
  have h := commandRule_stays hjr (fun _ _ => none) _ fun s _ => outside_setReg hregs s (K.stickyFlags n) _
  ⟨h.effect, h.refused⟩

@[simp] theorem groupReconnectRule_stays (g : Nat) : RuleStays F (groupReconnectRule g) :=
  commandRule_stays hjr _ _ fun _ _ => by simp [*]

@[simp] theorem outside_sceneOutcome (s : State) (r item : Nat) (o : Outcome) (detail : Nat) :
    (s.sceneOutcome r item o detail).outside F = s.outside F := by
  unfold State.sceneOutcome
  split <;> simp [*]

@[simp] theorem svFaultClearRule_stays (ch : Nat) : RuleStays F (svFaultClearRule ch) := by
  refine ⟨fun _ _ _ _ => ?_, fun _ _ _ => rfl⟩
  simp only [svFaultClearRule]
  repeat' split
  all_goals simp [*]

end

@[simp] theorem outside_lineAdd (hregs : .regs ∈ F) (hlines : .lines ∈ F) (s : State) (n : Nat) (k : Int) (lanes : List Int) :
    (s.lineAdd n k lanes).outside F = s.outside F := by
  simp [State.lineAdd, *]

@[simp] theorem outside_clearLine (hregs : .regs ∈ F) (hlines : .lines ∈ F) (s : State) (n : Nat) :
    (s.clearLine n).outside F = s.outside F := by
  simp [State.clearLine, *]

/-! Load channels. -/

section
variable (hregs : .regs ∈ F) (hls : .ls ∈ F)
include hregs hls

@[simp] theorem outside_lsOpen (s : State) (n : Nat) : (s.lsOpen n).outside F = s.outside F := by
  simp [State.lsOpen, *]

@[simp] theorem outside_lsDutyDue (s : State) (n : Nat) : (s.lsDutyDue n).outside F = s.outside F := by
  unfold State.lsDutyDue
  split <;> simp [*]

@[simp] theorem outside_lsSwitchOn (s : State) (n : Nat) : (s.lsSwitchOn n).outside F = s.outside F := by
  simp [State.lsSwitchOn, *]

@[simp] theorem outside_lsTrip (s : State) (n cause : Nat) : (s.lsTrip n cause).outside F = s.outside F := by
  simp [State.lsTrip, *]

@[simp] theorem outside_lsSetDuty (s : State) (n : Nat) (v : Int) : (s.lsSetDuty n v).outside F = s.outside F := by
  simp [State.lsSetDuty, *]

@[simp] theorem outside_fanDc (s : State) (f : Nat) (v : Int) : (s.fanDc f v).outside F = s.outside F := by
  simp [State.fanDc, *]

end

/-! Maintenance activities. -/

section
variable (hregs : .regs ∈ F) (hmaint : .maint ∈ F)
include hregs hmaint

@[simp] theorem outside_endAct (s : State) (a : Activity) : (s.endAct a).outside F = s.outside F := by
  simp [State.endAct, *]

@[simp] theorem outside_grantAct (s : State) (a : Activity) : (s.grantAct a).outside F = s.outside F := by
  simp [State.grantAct, *]

@[simp] theorem outside_yieldAct (s : State) (a : Activity) : (s.yieldAct a).outside F = s.outside F := by
  simp [State.yieldAct, *]

@[simp] theorem outside_yieldAll (s : State) (l : List Activity) : (s.yieldAll l).outside F = s.outside F := by
  simp [State.yieldAll, *]

@[simp] theorem outside_grantCommanded (s : State) (a : Activity) : (s.grantCommanded a).outside F = s.outside F := by
  unfold State.grantCommanded
  split <;> simp [*]

end

@[simp] theorem outside_showRunning (hregs : .regs ∈ F) (hregions : .regions ∈ F) (s : State) (r slot : Nat) :
    (s.showRunning r slot).outside F = s.outside F := by
  simp [State.showRunning, *]

@[simp] theorem outside_sectionSet (hregs : .regs ∈ F) (hsections : .sections ∈ F) (s : State) (n : Nat) (on : Bool) (why : Nat) :
    (s.sectionSet n on why).outside F = s.outside F := by
  simp [State.sectionSet, *]

@[simp] theorem outside_svStopRunning (hregs : .regs ∈ F) (hsv : .sv ∈ F) (s : State) (ch : Nat) :
    (s.svStopRunning ch).outside F = s.outside F := by
  simp only [State.svStopRunning]
  repeat' split
  all_goals simp [*]

@[simp] theorem outside_revoked (hsessions : .sessions ∈ F) (hbook : .book ∈ F) (s was : State) (k : Nat) :
    (s.revoked was k).outside F = s.outside F := by
  simp [State.revoked, *]

@[simp] theorem authDropRule_stays (hsessions : .sessions ∈ F) (hjr : .jr ∈ F) : RuleStays F authDropRule :=
  ⟨fun _ _ _ _ => by simp [authDropRule, *], fun _ _ _ => rfl⟩

@[simp] theorem challengeRule_stays (hjr : .jr ∈ F) (hchallenges : .challenges ∈ F) (hfresh : .fresh ∈ F) : RuleStays F challengeRule :=
  ⟨fun _ _ _ _ => by simp [challengeRule, *], fun _ _ _ => rfl⟩

@[simp] theorem recordClearArmRule_stays (hjr : .jr ∈ F) (hfresh : .fresh ∈ F) (hnonces : .nonces ∈ F) : RuleStays F recordClearArmRule :=
  ⟨fun _ _ _ _ => (outside_finish hjr _ _ _ _).trans ((outside_with_nonces hnonces _ _).trans (outside_draw hfresh _)), fun _ _ _ => rfl⟩

@[simp] theorem outside_clearLayers (hregs : .regs ∈ F) (harchive : .archive ∈ F) (hcov : .cov ∈ F) (s : State) (mask : Nat) :
    (s.clearLayers mask).outside F = s.outside F := by
  simp only [State.clearLayers]
  repeat' split
  all_goals simp [*]

@[simp] theorem outside_rdvMove (hregs : .regs ∈ F) (hblobs : .blobs ∈ F) (hfleet : .fleet ∈ F) (s : State) (st : Int) :
    (s.rdvMove st).outside F = s.outside F := by
  simp [State.rdvMove, *]

/-! Settings. -/

section
variable (hregs : .regs ∈ F) (hblobs : .blobs ∈ F) (hjr : .jr ∈ F)
include hregs hblobs hjr

@[simp] theorem outside_settle (s : State) (idx sub seq : Nat) (data : Bytes) :
    (s.settle idx sub seq data).outside F = s.outside F := by
  simp [State.settle, *]

@[simp] theorem settingRule_stays (idx sub : Nat) (check : State → Bytes → Option Abort) (after : State → State)
    (h : ∀ s, (after s).outside F = s.outside F) : RuleStays F (settingRule idx sub check after) :=
  ⟨fun _ _ _ _ => by simp [settingRule, *], fun _ _ _ => rfl⟩

@[simp] theorem isobusEnableRule_stays (p : Nat) : RuleStays F (isobusEnableRule p) :=
  settingRule_stays hregs hblobs hjr _ _ _ _ fun _ => by simp [*]

@[simp] theorem inlineBypassRule_stays : RuleStays F inlineBypassRule :=
  settingRule_stays hregs hblobs hjr _ _ _ _ fun _ => by simp [*]

@[simp] theorem stitchProgramRule_stays (p : Nat) : RuleStays F (stitchProgramRule p) :=
  settingRule_stays hregs hblobs hjr _ _ _ _ fun _ => by simp [*]

@[simp] theorem scheduleMatrixRule_stays (p : Nat) : RuleStays F (scheduleMatrixRule p) :=
  settingRule_stays hregs hblobs hjr _ _ _ _ fun _ => by simp [*]

end

@[simp] theorem outside_canCommit (hregs : .regs ∈ F) (hcanBufs : .canBufs ∈ F) (hcanPorts : .canPorts ∈ F) (s : State) (p b : Nat)
    (data : Bytes) :
    (s.canCommit p b data).outside F = s.outside F := by
  simp [State.canCommit, *]

/-! Fans. -/

section
variable (hregs : .regs ∈ F) (hfans : .fans ∈ F) (hls : .ls ∈ F)
include hregs hfans hls

@[simp] theorem outside_fanStop (s : State) (f : Nat) (st : Int) : (s.fanStop f st).outside F = s.outside F := by
  simp [State.fanStop, *]

@[simp] theorem outside_fanTry (s : State) (f : Nat) : (s.fanTry f).outside F = s.outside F := by
  simp [State.fanTry, *]

@[simp] theorem outside_fanDemandStep (s : State) (f : Nat) : (s.fanDemandStep f).outside F = s.outside F := by
  simp [State.fanDemandStep, *]

@[simp] theorem outside_fanStart (s : State) (f : Nat) : (s.fanStart f).outside F = s.outside F := by
  simp [State.fanStart, *]

end

@[simp] theorem outside_panelUp (hregs : .regs ∈ F) (hfresh : .fresh ∈ F) (hpanel : .panel ∈ F) (s : State) (item : Nat) :
    (s.panelUp item).outside F = s.outside F := by
  simp [State.panelUp, *]

@[simp] theorem outside_stopDrive (hregs : .regs ∈ F) (hfuse : .fuse ∈ F) (hls : .ls ∈ F) (s : State) (run : Bool) :
    (s.stopDrive run).outside F = s.outside F := by
  simp [State.stopDrive, *]

@[simp] theorem outside_stopNow (hregs : .regs ∈ F) (hfuse : .fuse ∈ F) (hls : .ls ∈ F) (s : State) :
    s.stopNow.outside F = s.outside F := by
  simp [State.stopNow, *]

@[simp] theorem canLoopTestRule_stays (hregs : .regs ∈ F) (hjr : .jr ∈ F) (hcanPorts : .canPorts ∈ F) : RuleStays F canLoopTestRule :=
  ⟨fun _ _ _ _ => by simp [canLoopTestRule, *], fun _ _ _ => rfl⟩

/-! Cues. -/

section
variable (hregs : .regs ∈ F) (hjr : .jr ∈ F) (hcues : .cues ∈ F)
include hregs hjr hcues

@[simp] theorem outside_endCue (s : State) (slot : Nat) (o : Outcome) (detail : Nat) :
    (s.endCue slot o detail).outside F = s.outside F := by
  simp [State.endCue, *]

@[simp] theorem outside_endCues (s : State) (slots : List Nat) (o : Outcome) (detail : Nat) :
    (s.endCues slots o detail).outside F = s.outside F := by
  simp [State.endCues, *]

@[simp] theorem outside_disarmPricking (s : State) (r : Nat) : (s.disarmPricking r).outside F = s.outside F := by
  simp [State.disarmPricking, *]

@[simp] theorem outside_cancelCuesOnTarget (s : State) (kind target : Nat) :
    (s.cancelCuesOnTarget kind target).outside F = s.outside F := by
  simp [State.cancelCuesOnTarget, *]

@[simp] theorem cueDisarmRule_stays : RuleStays F cueDisarmRule := ⟨fun _ _ _ _ => by simp [cueDisarmRule, *], fun _ _ _ => rfl⟩

@[simp] theorem outside_svDisableDone (s : State) (ch : Nat) : (s.svDisableDone ch).outside F = s.outside F := by
  simp [State.svDisableDone, *]

@[simp] theorem cueArmRule_stays : RuleStays F cueArmRule := ⟨fun _ _ _ _ => by simp [cueArmRule, *], fun _ _ _ => rfl⟩

end

section
variable (hregs : .regs ∈ F) (hjr : .jr ∈ F) (hfuse : .fuse ∈ F)
include hregs hjr hfuse

@[simp] theorem outside_fuseClear (s : State) : s.fuseClear.outside F = s.outside F := by
  simp [State.fuseClear, *]

@[simp] theorem outside_fuseClearAtEnd (s : State) : s.fuseClearAtEnd.outside F = s.outside F := by
  simp [State.fuseClearAtEnd, *]

@[simp] theorem fusionResetRule_stays : RuleStays F fusionResetRule :=
  ⟨fun _ _ _ _ => by simp [fusionResetRule, *], fun _ _ _ => rfl⟩

end

@[simp] theorem lineWriteRule_stays (hregs : .regs ∈ F) (hjr : .jr ∈ F) (hlines : .lines ∈ F) (n : Nat) : RuleStays F (lineWriteRule n) :=
  ⟨fun _ _ _ _ => by simp [lineWriteRule, *], fun _ _ _ => rfl⟩

/-! Maintenance commands. -/

section
variable (hregs : .regs ∈ F) (hjr : .jr ∈ F) (hmaint : .maint ∈ F)
include hregs hjr hmaint

@[simp] theorem firmwareConfirmRule_stays : RuleStays F firmwareConfirmRule :=
  ⟨fun _ _ _ _ => by simp only [firmwareConfirmRule, outside_finish, outside_setReg, outside_with_maint, *], fun _ _ _ => rfl⟩

@[simp] theorem inlinePathTestRule_stays : RuleStays F inlinePathTestRule :=
  ⟨fun _ _ _ _ => by simp [inlinePathTestRule, *], fun _ _ _ => rfl⟩

@[simp] theorem understudySwapRule_stays : RuleStays F understudySwapRule :=
  ⟨fun _ _ _ _ => by simp [understudySwapRule, *], fun _ _ _ => rfl⟩

@[simp] theorem firmwareStageRule_stays : RuleStays F firmwareStageRule :=
  ⟨fun _ _ _ _ => by
    simp only [firmwareStageRule, outside_grantCommanded, outside_startItem, outside_setReg, outside_with_maint, outside_setImage, *],
    fun _ _ _ => rfl⟩

end

/-! The panel. -/

section
variable (hregs : .regs ∈ F) (hjr : .jr ∈ F) (hpanel : .panel ∈ F)
include hregs hjr hpanel

@[simp] theorem outside_takeFlip (s : State) (f : Flip) : (s.takeFlip f).outside F = s.outside F := by
  simp [State.takeFlip, *]

@[simp] theorem outside_dropFlip (s : State) : s.dropFlip.outside F = s.outside F := by
  unfold State.dropFlip
  split <;> simp [*]

@[simp] theorem uiFlipRule_stays : RuleStays F uiFlipRule := ⟨fun _ _ _ _ => by simp [uiFlipRule, *], fun _ _ _ => rfl⟩

end

@[simp] theorem outside_scenePendEnd (hregs : .regs ∈ F) (hjr : .jr ∈ F) (hregions : .regions ∈ F) (s : State) (r : Nat) (o : Outcome)
    (detail : Nat) :
    (s.scenePendEnd r o detail).outside F = s.outside F := by
  unfold State.scenePendEnd
  split <;> simp [*]

@[simp] theorem outside_scenePromote (hregs : .regs ∈ F) (hjr : .jr ∈ F) (hregions : .regions ∈ F) (s : State) (r : Nat) :
    (s.scenePromote r).outside F = s.outside F := by
  simp only [State.scenePromote]
  repeat' split
  all_goals simp [*]

@[simp] theorem prickingDeleteRule_stays (hregs : .regs ∈ F) (hjr : .jr ∈ F) (hslots : .slots ∈ F) : RuleStays F prickingDeleteRule :=
  commandRule_stays hjr _ _ fun _ _ => by simp [*]

/-! Solenoid channels. -/

section
variable (hregs : .regs ∈ F) (hjr : .jr ∈ F) (hsv : .sv ∈ F)
include hregs hjr hsv

@[simp] theorem svSelfTestRule_stays (ch : Nat) : RuleStays F (svSelfTestRule ch) :=
  ⟨fun _ _ _ _ => by simp [svSelfTestRule, *], fun _ _ _ => rfl⟩

@[simp] theorem outside_svDiscardPending (s : State) (ch : Nat) (detail : Abort) :
    (s.svDiscardPending ch detail).outside F = s.outside F := by
  simp only [State.svDiscardPending]
  repeat' split
  all_goals simp [*]

@[simp] theorem outside_svStart (s : State) (ch number : Nat) (item : Option Nat) :
    (s.svStart ch number item).outside F = s.outside F := by
  simp only [State.svStart]
  repeat' split
  all_goals simp [*]

end

@[simp] theorem outside_acceptWrite (hregs : .regs ∈ F) (hsessions : .sessions ∈ F) (hjr : .jr ∈ F) (s : State) (slot : Nat)
    (q : WriteReq) (r : WriteRule) (h : RuleStays F r) :
    (s.acceptWrite slot q r).outside F = s.outside F := by
  simp only [State.acceptWrite, h.effect]
  split <;> simp [*]

@[simp] theorem outside_submit (hregs : .regs ∈ F) (hsessions : .sessions ∈ F) (hjr : .jr ∈ F) (s : State) (slot : Nat) (q : WriteReq)
    (r : WriteRule) (h : RuleStays F r) :
    (s.submit slot q r).1.outside F = s.outside F := by
  unfold State.submit
  split <;> simp [*]

@[simp] theorem correctionRule_stays (hregs : .regs ∈ F) (hblobs : .blobs ∈ F) (hjr : .jr ∈ F) (hcams : .cams ∈ F)
    (n obj sub : Nat) : RuleStays F (correctionRule n obj sub) := ⟨fun _ _ _ _ => by simp [correctionRule, *], fun _ _ _ => rfl⟩

@[simp] theorem canTxConfigRule_stays (hregs : .regs ∈ F) (hblobs : .blobs ∈ F) (hjr : .jr ∈ F) (hcanBufs : .canBufs ∈ F)
    (p b : Nat) : RuleStays F (canTxConfigRule p b) := ⟨fun _ _ _ _ => by simp [canTxConfigRule, *], fun _ _ _ => rfl⟩

@[simp] theorem ctxEntryRule_stays (hregs : .regs ∈ F) (hblobs : .blobs ∈ F) (hjr : .jr ∈ F) (hctxs : .ctxs ∈ F) (n sub : Nat)
    (check : State → Bytes → Option Abort) : RuleStays F (ctxEntryRule n sub check) :=
  ⟨fun _ _ _ _ => by simp [ctxEntryRule, *], fun _ _ _ => rfl⟩

@[simp] theorem ctxEnableRule_stays (hregs : .regs ∈ F) (hblobs : .blobs ∈ F) (hjr : .jr ∈ F) (hctxs : .ctxs ∈ F) (n : Nat) : RuleStays F
    (ctxEnableRule n) := by
  refine ⟨fun _ _ _ _ => ?_, fun _ _ _ => rfl⟩
  simp only [ctxEnableRule]
  repeat' split
  all_goals simp [*]

@[simp] theorem lineEnableRule_stays (hregs : .regs ∈ F) (hblobs : .blobs ∈ F) (hjr : .jr ∈ F) (hlines : .lines ∈ F)
    (n : Nat) : RuleStays F (lineEnableRule n) := ⟨fun _ _ _ _ => by simp [lineEnableRule, *], fun _ _ _ => rfl⟩

@[simp] theorem lsDutyRule_stays (hregs : .regs ∈ F) (hblobs : .blobs ∈ F) (hjr : .jr ∈ F) (hls : .ls ∈ F) (n : Nat) : RuleStays F
    (lsDutyRule n) := ⟨fun _ _ _ _ => by simp [lsDutyRule, *], fun _ _ _ => rfl⟩

section
variable (hregs : .regs ∈ F) (hblobs : .blobs ∈ F) (hjr : .jr ∈ F) (hpanel : .panel ∈ F)
include hregs hblobs hjr hpanel

@[simp] theorem outside_takeSettings (s : State) : s.takeSettings.outside F = s.outside F := by
  simp [State.takeSettings, *]

@[simp] theorem latchRule_stays (idx sub : Nat) (check : State → Bytes → Option Abort) : RuleStays F (latchRule idx sub check) :=
  ⟨fun _ _ _ _ => by simp [latchRule, *], fun _ _ _ => rfl⟩

@[simp] theorem uniformityRule_stays : RuleStays F uniformityRule := latchRule_stays hregs hblobs hjr hpanel _ _ _

@[simp] theorem outside_panelDown (s : State) (fault : Bool) : (s.panelDown fault).outside F = s.outside F := by
  simp [State.panelDown, *]

end

@[simp] theorem streamEnableRule_stays (hregs : .regs ∈ F) (hblobs : .blobs ∈ F) (hjr : .jr ∈ F) (hstreams : .streams ∈ F)
    (k : Nat) : RuleStays F (streamEnableRule k) := ⟨fun _ _ _ _ => by simp [streamEnableRule, *], fun _ _ _ => rfl⟩

@[simp] theorem outside_oemLeave (hregs : .regs ∈ F) (hblobs : .blobs ∈ F) (hregions : .regions ∈ F) (hslots : .slots ∈ F) (s : State)
    (r : Nat) :
    (s.oemLeave r).outside F = s.outside F := by
  simp [State.oemLeave, *]

section
variable (hregs : .regs ∈ F) (hjr : .jr ∈ F) (harchive : .archive ∈ F) (hcov : .cov ∈ F)
include hregs hjr harchive hcov

@[simp] theorem coverageClearRule_stays : RuleStays F coverageClearRule := commandRule_stays hjr _ _ fun _ _ => by simp [*]

@[simp] theorem maskClearRule_stays : RuleStays F maskClearRule := commandRule_stays hjr _ _ fun _ _ => by simp [*]

@[simp] theorem maskLoadRule_stays : RuleStays F maskLoadRule := commandRule_stays hjr _ _ fun _ _ => by simp [*]

end

@[simp] theorem outside_axisStop (hregs : .regs ∈ F) (hjr : .jr ∈ F) (haxes : .axes ∈ F) (hcues : .cues ∈ F) (s : State) (n : Nat) :
    (s.axisStop n).outside F = s.outside F := by
  simp [State.axisStop, *]

@[simp] theorem canTxDataRule_stays (hregs : .regs ∈ F) (hjr : .jr ∈ F) (hcanBufs : .canBufs ∈ F) (hcanPorts : .canPorts ∈ F)
    (p b : Nat) : RuleStays F (canTxDataRule p b) := ⟨fun _ _ _ _ => by simp [canTxDataRule, *], fun _ _ _ => rfl⟩

section
variable (hregs : .regs ∈ F) (hjr : .jr ∈ F) (hcaps : .caps ∈ F) (hctxs : .ctxs ∈ F)
include hregs hjr hcaps hctxs

@[simp] theorem outside_rehEnd (s : State) (n reason : Nat) (o : Outcome) (detail : Nat) :
    (s.rehEnd n reason o detail).outside F = s.outside F := by
  simp only [State.rehEnd]
  repeat' split
  all_goals simp [*]

@[simp] theorem rehStopRule_stays (n : Nat) : RuleStays F (rehStopRule n) := by
  refine ⟨fun _ _ _ _ => ?_, fun _ _ _ => rfl⟩
  simp only [rehStopRule]
  repeat' split
  all_goals simp [*]

@[simp] theorem rehStartRule_stays (n : Nat) : RuleStays F (rehStartRule n) := by
  refine ⟨fun _ _ _ _ => ?_, fun _ _ _ => rfl⟩
  simp only [rehStartRule]
  repeat' split
  all_goals simp [*]

end

@[simp] theorem outside_sceneEnd (hregs : .regs ∈ F) (hjr : .jr ∈ F) (hcells : .cells ∈ F) (hregions : .regions ∈ F) (s : State) (r : Nat)
    (o : Outcome) (detail : Nat) :
    (s.sceneEnd r o detail).outside F = s.outside F := by
  unfold State.sceneEnd
  split <;> simp [*]

@[simp] theorem sceneCancelRule_stays (hregs : .regs ∈ F) (hjr : .jr ∈ F) (hcells : .cells ∈ F)
    (hregions : .regions ∈ F) : RuleStays F sceneCancelRule := commandRule_stays hjr _ _ fun _ _ => by simp [*]

@[simp] theorem outside_lsDisable (hregs : .regs ∈ F) (hjr : .jr ∈ F) (hcues : .cues ∈ F) (hls : .ls ∈ F) (s : State) (n : Nat) :
    (s.lsDisable n).outside F = s.outside F := by
  simp [State.lsDisable, *]

@[simp] theorem outside_disarmSection (hregs : .regs ∈ F) (hjr : .jr ∈ F) (hcues : .cues ∈ F) (hsections : .sections ∈ F) (s : State)
    (n : Nat) :
    (s.disarmSection n).outside F = s.outside F := by
  unfold State.disarmSection
  split <;> simp [*]

@[simp] theorem outside_clearSection (hregs : .regs ∈ F) (hjr : .jr ∈ F) (hcues : .cues ∈ F) (hsections : .sections ∈ F) (s : State)
    (n : Nat) :
    (s.clearSection n).outside F = s.outside F := by
  simp [State.clearSection, *]

section
variable (hregs : .regs ∈ F) (hjr : .jr ∈ F) (hcues : .cues ∈ F) (hsv : .sv ∈ F)
include hregs hjr hcues hsv

@[simp] theorem outside_svToEnd (s : State) (ch : Nat) : (s.svToEnd ch).outside F = s.outside F := by
  simp [State.svToEnd, *]

@[simp] theorem outside_svRelease (s : State) (ch : Nat) : (s.svRelease ch).outside F = s.outside F := by
  simp [State.svRelease, *]

@[simp] theorem svCommandRule_stays (ch : Nat) : RuleStays F (svCommandRule ch) :=
  ⟨fun _ _ _ _ => by simp [svCommandRule, *], fun _ _ _ => rfl⟩

end

@[simp] theorem prickingLoadRule_stays (hregs : .regs ∈ F) (hjr : .jr ∈ F) (hfabric : .fabric ∈ F) (hslots : .slots ∈ F)
    (n : Nat) : RuleStays F (prickingLoadRule n) := ⟨fun _ _ _ _ => by simp [prickingLoadRule, *], fun _ _ _ => rfl⟩

@[simp] theorem fanRestartRule_stays (hregs : .regs ∈ F) (hjr : .jr ∈ F) (hfans : .fans ∈ F) (hls : .ls ∈ F) (f : Nat) : RuleStays F
    (fanRestartRule f) := ⟨fun _ _ _ _ => by simp [fanRestartRule, *], fun _ _ _ => rfl⟩

@[simp] theorem stopAcknowledgeRule_stays (hregs : .regs ∈ F) (hjr : .jr ∈ F) (hfuse : .fuse ∈ F)
    (hls : .ls ∈ F) : RuleStays F stopAcknowledgeRule := commandRule_stays hjr _ _ fun _ _ => by simp [*]

@[simp] theorem outside_fuseDisable (hregs : .regs ∈ F) (hjr : .jr ∈ F) (hfuse : .fuse ∈ F) (hls : .ls ∈ F) (s : State) :
    s.fuseDisable.outside F = s.outside F := by
  simp [State.fuseDisable, *]

@[simp] theorem lsFaultClearRule_stays (hregs : .regs ∈ F) (hjr : .jr ∈ F) (hls : .ls ∈ F) (hmaint : .maint ∈ F) (n : Nat) : RuleStays F
    (lsFaultClearRule n) := by
  refine ⟨fun _ _ _ _ => ?_, fun _ _ _ => rfl⟩
  simp only [lsFaultClearRule]
  repeat' split
  all_goals simp [*]

@[simp] theorem sceneChangeRule_stays (hregs : .regs ∈ F) (hjr : .jr ∈ F) (hmaint : .maint ∈ F)
    (hregions : .regions ∈ F) : RuleStays F sceneChangeRule := ⟨fun _ _ _ _ => by simp [sceneChangeRule, *], fun _ _ _ => rfl⟩

@[simp] theorem outside_request (hregs : .regs ∈ F) (hsessions : .sessions ∈ F) (hjr : .jr ∈ F) (hlastReply : .lastReply ∈ F) (s : State)
    (slot idx sub : Nat) (data : Bytes) (r : WriteRule) (h : RuleStays F r) :
    (s.request slot idx sub data r).outside F = s.outside F := by
  simp [State.request, *]

@[simp] theorem axisEnableRule_stays (hregs : .regs ∈ F) (hblobs : .blobs ∈ F) (hjr : .jr ∈ F) (haxes : .axes ∈ F) (hcues : .cues ∈ F)
    (n : Nat) : RuleStays F (axisEnableRule n) := ⟨fun _ _ _ _ => by simp [axisEnableRule, *], fun _ _ _ => rfl⟩

@[simp] theorem lsEnableRule_stays (hregs : .regs ∈ F) (hblobs : .blobs ∈ F) (hjr : .jr ∈ F) (hcues : .cues ∈ F) (hls : .ls ∈ F)
    (n : Nat) : RuleStays F (lsEnableRule n) := ⟨fun _ _ _ _ => by simp [lsEnableRule, *], fun _ _ _ => rfl⟩

@[simp] theorem sectionConfigRule_stays (hregs : .regs ∈ F) (hblobs : .blobs ∈ F) (hjr : .jr ∈ F) (hcues : .cues ∈ F)
    (hsections : .sections ∈ F) (n : Nat) : RuleStays F (sectionConfigRule n) :=
  ⟨fun _ _ _ _ => by simp [sectionConfigRule, *], fun _ _ _ => rfl⟩

@[simp] theorem svEnableRule_stays (hregs : .regs ∈ F) (hblobs : .blobs ∈ F) (hjr : .jr ∈ F) (hcues : .cues ∈ F) (hsv : .sv ∈ F)
    (ch : Nat) : RuleStays F (svEnableRule ch) := ⟨fun _ _ _ _ => by simp [svEnableRule, *], fun _ _ _ => rfl⟩

@[simp] theorem fanEnableRule_stays (hregs : .regs ∈ F) (hblobs : .blobs ∈ F) (hjr : .jr ∈ F) (hfans : .fans ∈ F) (hls : .ls ∈ F)
    (f : Nat) : RuleStays F (fanEnableRule f) := ⟨fun _ _ _ _ => by simp [fanEnableRule, *], fun _ _ _ => rfl⟩

@[simp] theorem rendezvousCancelRule_stays (hregs : .regs ∈ F) (hblobs : .blobs ∈ F) (hjr : .jr ∈ F) (hfleet : .fleet ∈ F)
    (hrdv : .rdv ∈ F) : RuleStays F rendezvousCancelRule := commandRule_stays hjr _ _ fun _ _ => by simp [*]

@[simp] theorem panelEnableRule_stays (hregs : .regs ∈ F) (hblobs : .blobs ∈ F) (hjr : .jr ∈ F) (hfresh : .fresh ∈ F)
    (hpanel : .panel ∈ F) : RuleStays F panelEnableRule := ⟨fun _ _ _ _ => by simp [panelEnableRule, *], fun _ _ _ => rfl⟩

@[simp] theorem stopEnableRule_stays (hregs : .regs ∈ F) (hblobs : .blobs ∈ F) (hjr : .jr ∈ F) (hfuse : .fuse ∈ F)
    (hls : .ls ∈ F) : RuleStays F stopEnableRule := ⟨fun _ _ _ _ => by simp [stopEnableRule, *], fun _ _ _ => rfl⟩

@[simp] theorem fusionEnableRule_stays (hregs : .regs ∈ F) (hblobs : .blobs ∈ F) (hjr : .jr ∈ F) (hfuse : .fuse ∈ F)
    (hls : .ls ∈ F) : RuleStays F fusionEnableRule := ⟨fun _ _ _ _ => by simp [fusionEnableRule, *], fun _ _ _ => rfl⟩

@[simp] theorem regionPanelsRule_stays (hregs : .regs ∈ F) (hblobs : .blobs ∈ F) (hjr : .jr ∈ F) (hcues : .cues ∈ F)
    (hregions : .regions ∈ F) (hslots : .slots ∈ F) (r : Nat) : RuleStays F (regionPanelsRule r) :=
  ⟨fun _ _ _ _ => by simp [regionPanelsRule, *], fun _ _ _ => rfl⟩

@[simp] theorem keyStoreClearRule_stays (hregs : .regs ∈ F) (hblobs : .blobs ∈ F) (hsessions : .sessions ∈ F) (hjr : .jr ∈ F)
    (hbook : .book ∈ F) (hisland : .island ∈ F) (hkeys : .keys ∈ F) : RuleStays F keyStoreClearRule :=
  ⟨fun _ _ _ _ => by simp [keyStoreClearRule, *], fun _ _ _ => rfl⟩


/-- The fields that every write command may change (R33, R41): the numeric entries, the sessions, the last response, the journal. -/
abbrev writeParts : List Part := [.regs, .sessions, .lastReply, .jr]

/-- A command whose next states agree with the state before it outside `F` changes `F` only. -/
theorem changes_of_outside {c : Instr} (h : ∀ s t, exec c s = .next t → t.outside F = s.outside F) : Changes c (State.merge F) :=
  fun s t ht => eq_merge_of_outside (h s t ht)

/-- A command that is a request under a rule changes what every write may change, and `E`, when the rule stays within these. -/
theorem changes_request {c : Instr} {slot idx sub : Nat} {d : Bytes} (r : WriteRule) (E : List Part)
    (hc : ∀ s, exec c s = .next (s.request slot idx sub d r)) (hr : RuleStays (E ++ writeParts) r) :
    Changes c (State.merge (E ++ writeParts)) := by
  refine changes_of_outside fun s t ht => ?_
  cases (hc s).symm.trans ht
  exact outside_request (by simp) (by simp) (by simp) (by simp) s slot idx sub d r hr

/-- The rule of an entry of a context stays with the contexts and their captures (R249). -/
theorem rule08_stays {idx sub : Nat} {r : WriteRule} (h : rule08 idx sub = some r) :
    RuleStays ([.ctxs, .caps, .blobs] ++ writeParts) r := by
  unfold rule08 at h
  split_ifs at h <;> cases h <;> simp

theorem contextEntryWrite_changes (slot : Fin 16) (n : Fin 128) (sub : BitVec 8) (value : Bytes) :
    Changes (.contextEntryWrite slot n sub value) (State.merge ([.ctxs, .caps, .blobs] ++ writeParts)) := by
  refine changes_request _ [.ctxs, .caps, .blobs] (fun _ => rfl) ?_
  split
  · exact rule08_stays ‹_›
  · simp

/-- PANEL_POWER_DOWN is a write of PanelEnable, or the end of the power-down that the panel carries out (R515). -/
theorem panelPowerDown_changes (slot : Fin 16) (write : Bool) :
    Changes (.panelPowerDown slot write) (State.merge ([.panel, .fresh, .blobs] ++ writeParts)) := by
  cases write with
  | true => exact changes_request panelEnableRule [.panel, .fresh, .blobs] (fun _ => rfl) (by simp)
  | false =>
    refine changes_of_outside fun s t ht => ?_
    simp only [exec, execPanelPowerDown, Bool.false_eq_true, if_false] at ht
    split at ht
    · cases ht
      rfl
    · split at ht
      · cases ht
        rfl
      · cases ht
        split <;> simp

/-- Settles O60: each write command is a request under a rule, and the rule's effect, an operation on its own unit, stays within the
fields that the clause names: `simp` finds that in the lemma `_stays` of the rule. -/
theorem writesChangeOnlyTheirUnit : Obligations.WritesChangeOnlyTheirUnit :=
  ⟨fun _ _ _ => changes_request (axisEnableRule _) [.axes, .cues, .blobs] (fun _ => rfl) (by simp),
    fun _ _ => changes_request cueArmRule [.cues] (fun _ => rfl) (by simp),
    fun _ _ => changes_request cueDisarmRule [.cues] (fun _ => rfl) (by simp),
    fun _ _ _ => changes_request (lineWriteRule _) [.lines] (fun _ => rfl) (by simp),
    fun _ _ _ => changes_request (lineEnableRule _) [.lines, .blobs] (fun _ => rfl) (by simp),
    fun _ _ _ => changes_request (sectionConfigRule _) [.cues, .sections, .blobs] (fun _ => rfl) (by simp),
    fun _ _ => changes_request coverageClearRule [.cov, .archive] (fun _ => rfl) (by simp),
    fun _ _ => changes_request maskLoadRule [.cov, .archive] (fun _ => rfl) (by simp),
    fun _ _ => changes_request maskClearRule [.cov, .archive] (fun _ => rfl) (by simp),
    fun _ _ => List.forall_mem_cons.2
      ⟨changes_request fusionEnableRule [.ls, .fuse, .blobs] (fun _ => rfl) (by simp),
        List.forall_mem_singleton.2 (changes_request stopEnableRule [.ls, .fuse, .blobs] (fun _ => rfl) (by simp))⟩,
    fun _ _ => changes_request fusionResetRule [.fuse] (fun _ => rfl) (by simp),
    fun _ _ => changes_request stopAcknowledgeRule [.ls, .fuse] (fun _ => rfl) (by simp),
    fun _ _ => changes_request inlineBypassRule [.blobs] (fun _ => rfl) (by simp),
    fun _ _ _ => changes_request (stitchProgramRule _) [.blobs] (fun _ => rfl) (by simp),
    fun _ _ _ => changes_request (regionPanelsRule _) [.cues, .regions, .slots, .blobs] (fun _ => rfl) (by simp),
    fun _ _ _ => changes_request (scheduleMatrixRule _) [.blobs] (fun _ => rfl) (by simp),
    fun _ _ _ => changes_request (isobusEnableRule _) [.blobs] (fun _ => rfl) (by simp),
    fun _ _ _ _ _ => changes_request (correctionRule _ _ _) [.cams, .blobs] (fun _ => rfl) (by simp),
    fun _ _ _ => changes_request (settingsCommitRule _) [.cams] (fun _ => rfl) (by simp),
    fun _ _ _ => changes_request (streamEnableRule _) [.streams, .blobs] (fun _ => rfl) (by simp),
    fun _ _ => List.forall_mem_cons.2
      ⟨changes_request (ctxEnableRule _) [.ctxs, .blobs] (fun _ => rfl) (by simp),
        List.forall_mem_singleton.2 (changes_request (ctxEnableRule _) [.ctxs, .blobs] (fun _ => rfl) (by simp))⟩,
    fun _ _ _ => changes_request (ctxEntryRule _ _ _) [.ctxs, .blobs] (fun _ => rfl) (by simp),
    contextEntryWrite_changes,
    fun _ _ _ => List.forall_mem_cons.2
      ⟨changes_request (rehStartRule _) [.ctxs, .caps] (fun _ => rfl) (by simp),
        List.forall_mem_singleton.2 (changes_request (rehStopRule _) [.ctxs, .caps] (fun _ => rfl) (by simp))⟩,
    fun _ _ _ => changes_request (stickyClearRule _) [] (fun _ => rfl) (by simp),
    fun _ _ _ => changes_request (svFaultClearRule _) [] (fun _ => rfl) (by simp),
    fun _ _ _ => changes_request (groupReconnectRule _) [] (fun _ => rfl) (by simp),
    fun _ _ _ => changes_request (finZeroRule _) [] (fun _ => rfl) (by simp),
    fun _ _ => changes_request authDropRule [] (fun _ => rfl) (by simp),
    fun _ _ _ => changes_request (svCommandRule _) [.cues, .sv] (fun _ => rfl) (by simp),
    fun _ _ => changes_request (svCommandRule _) [.cues, .sv] (fun _ => rfl) (by simp),
    fun _ _ _ => changes_request (svEnableRule _) [.cues, .sv, .blobs] (fun _ => rfl) (by simp),
    fun _ _ _ => changes_request (svSelfTestRule _) [.sv] (fun _ => rfl) (by simp),
    fun _ _ _ => changes_request (lsDutyRule _) [.ls, .blobs] (fun _ => rfl) (by simp),
    fun _ _ _ => changes_request (lsFaultClearRule _) [.ls, .maint] (fun _ => rfl) (by simp),
    fun _ _ _ => changes_request (lsEnableRule _) [.cues, .ls, .blobs] (fun _ => rfl) (by simp),
    fun _ _ _ => changes_request (brgTareRule _) [.brgs] (fun _ => rfl) (by simp),
    fun _ _ _ => changes_request (prickingLoadRule _) [.slots, .fabric] (fun _ => rfl) (by simp),
    fun _ _ => changes_request prickingDeleteRule [.slots] (fun _ => rfl) (by simp),
    fun _ _ => changes_request sceneChangeRule [.maint, .regions] (fun _ => rfl) (by simp),
    fun _ _ => changes_request sceneCancelRule [.cells, .regions] (fun _ => rfl) (by simp),
    fun _ _ => changes_request understudySwapRule [.maint] (fun _ => rfl) (by simp),
    fun _ _ => List.forall_mem_cons.2
      ⟨changes_request inlinePathTestRule [.maint] (fun _ => rfl) (by simp),
        List.forall_mem_singleton.2 (changes_request firmwareConfirmRule [.maint] (fun _ => rfl) (by simp))⟩,
    fun _ _ => changes_request firmwareStageRule [.maint] (fun _ => rfl) (by simp),
    fun _ _ _ _ => changes_request (canTxConfigRule _ _) [.canBufs, .blobs] (fun _ => rfl) (by simp),
    fun _ _ _ _ => changes_request (canTxDataRule _ _) [.canBufs, .canPorts] (fun _ => rfl) (by simp),
    fun _ _ => changes_request canLoopTestRule [.canPorts] (fun _ => rfl) (by simp),
    fun _ _ => changes_request recordClearArmRule [.nonces, .fresh] (fun _ => rfl) (by simp),
    fun _ _ => changes_request archiveEraseRule [.archive] (fun _ => rfl) (by simp),
    fun _ _ => changes_request rendezvousCancelRule [.fleet, .rdv, .blobs] (fun _ => rfl) (by simp),
    fun _ _ => changes_request uiRectRule [.panel] (fun _ => rfl) (by simp),
    fun _ _ => changes_request uiFlipRule [.panel] (fun _ => rfl) (by simp),
    fun _ _ => changes_request uniformityRule [.panel, .blobs] (fun _ => rfl) (by simp),
    panelPowerDown_changes,
    fun _ _ _ => changes_request (fanRestartRule _) [.ls, .fans] (fun _ => rfl) (by simp),
    fun _ _ _ => changes_request (fanEnableRule _) [.ls, .fans, .blobs] (fun _ => rfl) (by simp),
    fun _ _ => changes_request challengeRule [.challenges, .fresh] (fun _ => rfl) (by simp),
    fun _ _ => changes_request keyStoreClearRule [.keys, .island, .book, .blobs] (fun _ => rfl) (by simp)⟩

end Sys2Proof.Machine
end

section
/-!
Sessions that open and close of themselves (O12): what the session operations leave in a slot.
-/
namespace Sys2Proof.Machine
open Sys2Proof

/-! ### The session operations -/

/-- A closed slot keeps its generation and nothing else (R43, R46). -/
@[simp] theorem sess_closeSession (s : State) (n : Nat) :
    (s.closeSession n).sess n = { generation := (s.sess n).generation } := sess_setSess _ _ _

@[simp] theorem reg_closeSession (s : State) (n k : Nat) : (s.closeSession n).reg k = s.reg k := rfl

/-- An opened slot holds the source, with the next generation and no raised role (R43). -/
@[simp] theorem sess_openSession (s : State) (n source : Nat) :
    (s.openSession n source).sess n =
      { isOpen := true, generation := if (s.sess n).generation = 255 then 1 else (s.sess n).generation + 1,
        sourceId := source, lastReq := s.tick } := sess_setSess _ _ _

@[simp] theorem sess_bump (s : State) (k n : Nat) : (s.bump k).sess n = s.sess n := rfl
@[simp] theorem sess_setSdo (s : State) (p : Nat) (x : Sdo) (n : Nat) : (s.setSdo p x).sess n = s.sess n := rfl

/-! ### The idle limit -/

variable {s : State} {n : Nat}

/-- Over the limit an open UDP session closes and is counted (R46). -/
theorem idleEnd_udp (ho : (s.sess n).isOpen = true) (hn : 7 ≤ n)
    (hl : ticksMs (s.regN K.sessionIdleTimeout) ≤ s.idleFrom (s.sess n).lastReq) :
    s.idleEnd n = (s.closeSession n).bump K.sessionsExpired := by
  simp [State.idleEnd, ho, hn, Nat.not_lt.2 hl]

/-- Over the limit an open CAN session gives up its raised role (R46, R47). -/
theorem idleEnd_can (ho : (s.sess n).isOpen = true) (hn : n < 6)
    (hl : ticksMs (s.regN K.sessionIdleTimeout) ≤ s.idleFrom (s.sess n).lastReq) :
    s.idleEnd n = s.setSess n { s.sess n with role := 0, raisedKey := 0 } := by
  simp [State.idleEnd, ho, hn, Nat.not_lt.2 hl, show ¬ 7 ≤ n by omega]

/-! ### The server of a port -/

theorem syncSdo_opens {failed : Bool} (hw : (s.sdoRuns n && !failed) = true) (hc : (s.sess n).isOpen = false) :
    s.syncSdo n failed = s.openSession n (slotSource n) := by
  simp [State.syncSdo, hw, hc]

theorem syncSdo_closes {failed : Bool} (hw : s.sdoRuns n = false) (ho : (s.sess n).isOpen = true) :
    s.syncSdo n failed = (s.closeSession n).setSdo n Sdo.init := by
  simp [State.syncSdo, hw, ho]

/-! ### The commands -/

theorem exec_sessionIdleTimeout (m : Fin 16) (hs : s.serves = true) :
    exec (.sessionIdleTimeout m) s = .next (s.idleEnd m) := by
  change execSessionIdleTimeout m s = _
  rw [execSessionIdleTimeout, if_pos hs]

theorem exec_sdoServerEnableChange (p : Fin 6) (hs : s.serves = true) :
    exec (.sdoServerEnableChange p) s = .next (s.syncSdo p (s.canFailed p)) := by
  change execSdoServerEnableChange p s = _
  rw [execSdoServerEnableChange, if_pos hs]

/-- Settles O12: the idle limit and the state of a port's server decide what becomes of a slot. -/
theorem sessionsFollowTimersAndServers : Obligations.SessionsFollowTimersAndServers := by
  unfold Obligations.SessionsFollowTimersAndServers
  refine ⟨fun s n hs ho hn hl => ?_, fun s n hs ho hn hl => ?_, fun s p hs hr hf hc => ?_, fun s p hs hr ho => ?_⟩
  · refine ⟨_, exec_sessionIdleTimeout n hs, ?_⟩
    rw [idleEnd_udp ho hn hl]
    simp [reg_bump]
  · refine ⟨_, exec_sessionIdleTimeout n hs, ?_⟩
    rw [idleEnd_can ho hn hl]
    simp [ho]
  · refine ⟨_, exec_sdoServerEnableChange p hs, ?_⟩
    rw [syncSdo_opens (by simp [hr, hf]) hc]
    simp [slotSource, show (p : Nat) ≠ 6 by omega]
  · refine ⟨_, exec_sdoServerEnableChange p hs, ?_⟩
    rw [syncSdo_closes hr ho]
    simp

end Sys2Proof.Machine
end

section
/-!
What a refused write leaves as it is (O6).
-/
namespace Sys2Proof.Machine
open Sys2Proof

/-! ### Refusals note nothing of the interface

The rules of R41's checks may note a refusal: an authentication that fails, a schedule that cannot start. None of them touches the journal
or an entry of the objects 0x1000-0x1FFF, where the interface and the journal stand. -/

/-- The journal and the entries of the objects below 0x2000 are the same in both states. -/
structure SameInterface (s t : State) : Prop where
  jr : t.jr = s.jr
  reg : ∀ k < key 0x2000 0, t.reg k = s.reg k

namespace SameInterface
variable {s t : State}

theorem refl (s : State) : SameInterface s s := ⟨rfl, fun _ _ => rfl⟩

theorem ite {c : Prop} [Decidable c] {u : State} (h : SameInterface s t) (h' : SameInterface s u) :
    SameInterface s (if c then t else u) := by
  split <;> assumption

theorem setReg (h : SameInterface s t) {k : Nat} (hk : key 0x2000 0 ≤ k) (v : Int) : SameInterface s (t.setReg k v) :=
  ⟨h.jr, fun _ hj => (reg_setReg_ne (Nat.ne_of_lt (Nat.lt_of_lt_of_le hj hk)) t v).trans (h.reg _ hj)⟩

theorem bump (h : SameInterface s t) {k : Nat} (hk : key 0x2000 0 ≤ k) : SameInterface s (t.bump k) := h.setReg hk _

theorem setFlag (h : SameInterface s t) {k : Nat} (hk : key 0x2000 0 ≤ k) (i : Nat) (b : Bool) :
    SameInterface s (t.setFlag k i b) := h.setReg hk _

theorem island (h : SameInterface s t) (x : Island) : SameInterface s { t with island := x } := ⟨h.jr, h.reg⟩

theorem eventKey (h : SameInterface s t) (so : Src) (u e d : Nat) : SameInterface s (t.eventKey so u e d) := by
  refine ⟨Eq.trans ?_ h.jr, fun k hk => (reg_eventKey t so u e d k).trans (h.reg k hk)⟩
  unfold State.eventKey State.event State.offer
  rw [offerAt_fields]

/-- The count of an authentication failure and its lockouts stand in the objects of the security chapter. -/
theorem authFailure (h : SameInterface s t) (src : Nat) : SameInterface s (t.authFailure src) := by
  have hf : key 0x2000 0 ≤ K.authFailures := by decide
  have hl : key 0x2000 0 ≤ K.lockouts := by decide
  have hs : key 0x2000 0 ≤ K.securityFlags := by decide
  unfold State.authFailure
  extract_lets counted x th lt hit noted locked fails i kept i' held
  have h1 : SameInterface s noted := .island (h.bump hf) _
  have h2 : SameInterface s locked := .ite ((h1.bump hl).eventKey ..) h1
  have h3 : SameInterface s kept := h2.island _
  have h4 : SameInterface s held := h3.island _
  exact .ite (((h4.setFlag hs _ _).bump hl).eventKey ..) h3

end SameInterface

/-- A rule's refusals keep the interface. -/
def QuietRefusal (r : WriteRule) : Prop := ∀ s slot a, SameInterface s (r.refused s slot a)

/-- Most rules note nothing at all. -/
theorem QuietRefusal.of_silent {r : WriteRule} (h : r.refused = fun s _ _ => s) : QuietRefusal r := by
  intro s slot a
  rw [h]
  exact .refl s

theorem QuietRefusal.ite {c : Prop} [Decidable c] {r r' : WriteRule} (h : QuietRefusal r) (h' : QuietRefusal r') :
    QuietRefusal (if c then r else r') := by
  split <;> assumption

theorem quiet_recordClearRule : QuietRefusal recordClearRule := by
  intro s slot a
  have h : SameInterface s (s.dropNonce slot) := ⟨rfl, fun _ _ => rfl⟩
  unfold recordClearRule
  dsimp only
  split
  · exact h.authFailure _
  · split
    · exact ⟨rfl, fun _ _ => rfl⟩
    · exact h

theorem quiet_authResponseRule : QuietRefusal authResponseRule := by
  intro s slot a
  have h : SameInterface s (s.dropChallenge slot) := ⟨rfl, fun _ _ => rfl⟩
  unfold authResponseRule
  dsimp only
  split
  · exact h.authFailure _
  · exact h

theorem quiet_scheduleEnableRule (p : Nat) : QuietRefusal (scheduleEnableRule p) := by
  intro s slot a
  unfold scheduleEnableRule
  dsimp only
  split
  · split
    · exact (SameInterface.refl s).setReg (by simp [key]; omega) _
    · exact .refl s
  · exact .refl s

theorem quiet_camPortRule (p sub : Nat) : QuietRefusal (camPortRule p sub) := by
  unfold camPortRule
  repeat' apply QuietRefusal.ite
  all_goals exact .of_silent rfl

/-- The rule that a chapter gives, if it gives one, keeps the interface when it refuses. -/
inductive QuietOption : Option WriteRule → Prop
  | none : QuietOption none
  | some {r : WriteRule} (h : QuietRefusal r) : QuietOption (some r)

theorem QuietOption.ite {c : Prop} [Decidable c] {o o' : Option WriteRule} (h : QuietOption o) (h' : QuietOption o') :
    QuietOption (if c then o else o') := by
  split <;> assumption

theorem quiet_ruleFirmware (idx : Nat) : QuietOption (ruleFirmware idx) := by
  unfold ruleFirmware
  repeat' apply QuietOption.ite
  all_goals constructor
  all_goals exact .of_silent rfl

/-- The chapters' rules are silent but for those of the authentication, of the record's clearance, of a schedule and of a camera port. -/
theorem quiet_chapterRule (idx sub : Nat) : QuietOption (chapterRule idx sub) := by
  have firmware := quiet_ruleFirmware idx
  unfold chapterRule
  generalize ruleFirmware idx = o at firmware
  cases firmware
  all_goals repeat' apply QuietOption.ite
  all_goals constructor
  all_goals first
    | assumption
    | with_reducible apply quiet_authResponseRule
    | with_reducible apply quiet_recordClearRule
    | with_reducible apply quiet_scheduleEnableRule
    | with_reducible apply quiet_camPortRule
    | exact .of_silent rfl

theorem quiet_settingOf (idx sub : Nat) : QuietRefusal (settingOf idx sub) := by
  have chapter := quiet_chapterRule idx sub
  unfold settingOf
  generalize chapterRule idx sub = o at chapter
  refine .ite (.of_silent rfl) ?_
  cases chapter with
  | none => exact .of_silent rfl
  | some h => exact h

/-- Whatever entry a write is for, its refusal keeps the interface. -/
theorem quiet_ruleOf (idx sub : Nat) : QuietRefusal (ruleOf idx sub) := .ite (.of_silent rfl) (quiet_settingOf idx sub)

/-! ### A refused request -/

variable {s : State} {slot idx sub : Nat} {d : Bytes} {r : WriteRule}

/-- A refusal counts the abort, and a conflict; beside these it keeps the interface as its rule does. -/
theorem jr_refuse (hr : QuietRefusal r) (a : Abort) : (s.refuse slot r a).jr = s.jr := by
  unfold State.refuse
  rw [(hr _ _ _).jr]
  split <;> rfl

theorem reg_refuse (hr : QuietRefusal r) (a : Abort) {k : Nat} (hk : k < key 0x2000 0) (ha : k ≠ K.abortsSent) :
    (s.refuse slot r a).reg k = s.reg k := by
  have hc : k ≠ K.conflicts := Nat.ne_of_lt (Nat.lt_trans hk (by decide))
  unfold State.refuse
  rw [(hr _ _ _).reg k hk, reg_bump, if_neg ha]
  split
  · rw [reg_bump, if_neg hc]
  · rfl

theorem submit_refused {q : WriteReq} {a : Abort} (hc : s.checkWrite slot q r = some a) :
    s.submit slot q r = (s.refuse slot r a, ⟨a.code, 0⟩) := by
  unfold State.submit
  rw [hc]

theorem submit_accepted {q : WriteReq} (hc : s.checkWrite slot q r = none) :
    s.submit slot q r = (s.acceptWrite slot q r, ⟨0, s.regN K.nextJournalSeq⟩) := by
  unfold State.submit
  rw [hc]

/-- A request that a check refuses is answered with the check's code. -/
theorem request_refused {a : Abort} (hs : s.serves = true) (ho : (s.sess slot).isOpen = true) (hb : s.reg K.busyState ≠ 1)
    (hc : (s.heard slot).checkWrite slot ⟨idx, sub, 0, d⟩ r = some a) :
    s.request slot idx sub d r = ((s.heard slot).refuse slot r a).respond (s.sessionId slot) (s.sess slot).lastSeq 0x11 idx sub
      (s.entryType idx sub) ⟨a.code, 0⟩ := by
  simp [State.request, hs, ho, hb, submit_refused hc]

/-- A request while the interface is busy is answered with BUSY and counted (R63). -/
theorem request_busy (hs : s.serves = true) (ho : (s.sess slot).isOpen = true) (hb : s.reg K.busyState = 1) :
    s.request slot idx sub d r = (((s.heard slot).refuse slot r .busy).bump K.busyRefusals).respond (s.sessionId slot)
      (s.sess slot).lastSeq 0x11 idx sub (s.entryType idx sub) ⟨Abort.busy.code, 0⟩ := by
  simp [State.request, hs, ho, hb]

/-- Settles O6: a refusal touches neither the journal nor the entries of the interface but its counters. -/
theorem refusedWritesLeaveNoItem : Obligations.RefusedWritesLeaveNoItem := by
  unfold Obligations.RefusedWritesLeaveNoItem
  refine ⟨fun s slot idx sub d a hs ho hb hc => ⟨_, rfl, ?_⟩, fun s slot idx sub d hs ho hb => ⟨_, rfl, ?_⟩⟩
  · have hq := quiet_ruleOf idx.toNat sub.toNat
    rw [request_refused hs ho hb hc]
    exact ⟨rfl, jr_refuse hq a, reg_refuse hq a (by decide) (by decide), reg_refuse hq a (by decide) (by decide)⟩
  · have hq := quiet_ruleOf idx.toNat sub.toNat
    have hr {k : Nat} (hk : k < key 0x2000 0) (ha : k ≠ K.abortsSent) :
        ((s.heard slot).refuse slot (ruleOf idx.toNat sub.toNat) .busy).reg k = s.reg k := reg_refuse hq .busy hk ha
    rw [request_busy hs ho hb]
    refine ⟨rfl, jr_refuse hq .busy, ?_, ?_, ?_⟩
    · exact (reg_bump _ _ _).trans ((if_neg (by decide)).trans (hr (by decide) (by decide)))
    · exact (reg_bump _ _ _).trans ((if_neg (by decide)).trans ((hr (by decide) (by decide)).trans hb))
    · exact (reg_bump _ _ _).trans (by rw [hr (by decide) (by decide), reg_bump])

end Sys2Proof.Machine
end

section
/-!
Reads are no accepted work, and each accepted write is one item (O8).
-/
namespace Sys2Proof.Machine
open Sys2Proof

/-! ### What leaves the journal alone -/

/-- No item has been accepted between the two states: the journal and the next JournalSeq are the same. -/
structure NoItem (s t : State) : Prop where
  jr : t.jr = s.jr
  seq : t.reg K.nextJournalSeq = s.reg K.nextJournalSeq

namespace NoItem
variable {s t : State}

theorem refl (s : State) : NoItem s s := ⟨rfl, rfl⟩

theorem ite {c : Prop} [Decidable c] {u : State} (h : NoItem s t) (h' : NoItem s u) : NoItem s (if c then t else u) := by
  split <;> assumption

/-- An operation on other fields. -/
theorem other {u : State} (h : NoItem s t) (hj : u.jr = t.jr) (hr : u.regs = t.regs) : NoItem s u :=
  ⟨hj.trans h.jr, (congrArg (fun r => r.get (regDefault K.nextJournalSeq) K.nextJournalSeq) hr).trans h.seq⟩

theorem setSess (h : NoItem s t) (n : Nat) (x : Session) : NoItem s (t.setSess n x) := h.other rfl rfl

theorem setSdo (h : NoItem s t) (p : Nat) (x : Sdo) : NoItem s (t.setSdo p x) := h.other rfl rfl

theorem sdoSend (h : NoItem s t) (p : Nat) (b : Bytes) : NoItem s (t.sdoSend p b) := h.other rfl rfl

theorem bump (h : NoItem s t) {k : Nat} (hk : K.nextJournalSeq ≠ k) : NoItem s (t.bump k) :=
  ⟨h.jr, (reg_setReg_ne hk _ _).trans h.seq⟩

theorem refuse (h : NoItem s t) (slot : Nat) {r : WriteRule} (hr : QuietRefusal r) (a : Abort) : NoItem s (t.refuse slot r a) :=
  ⟨(jr_refuse hr a).trans h.jr, (reg_refuse hr a (by decide) (by decide)).trans h.seq⟩

theorem sendReply (h : NoItem s t) (slot : Option Nat) (r : Reply) : NoItem s (t.sendReply slot r) := by
  unfold State.sendReply
  cases slot with
  | none => exact h.other rfl rfl
  | some n => exact (NoItem.ite (h.setSess n _) h).other rfl rfl

theorem publish (h : NoItem s t) (m : Msg) : NoItem s (t.publish m) := by
  refine ⟨?_, (reg_publish (by decide) t m).trans h.seq⟩
  rw [← h.jr]
  unfold State.publish
  split
  · rfl
  · split <;> rfl

/-! The transport over UDP -/

variable {n lo hi : Nat} {q : UdpReq}

theorem udpNo (h : NoItem s t) (a : Abort) : NoItem s (t.udpNo q a) := (h.bump (by decide)).sendReply _ _

theorem udpRefuse (h : NoItem s t) (a : Abort) (keep : Bool) : NoItem s (t.udpRefuse n q a keep) := by
  refine (h.refuse n ?_ a).sendReply _ _
  unfold UdpReq.rule
  split
  · exact quiet_ruleOf _ _
  · exact .of_silent rfl

theorem dropTransfer (h : NoItem s t) : NoItem s (t.dropTransfer n) := h.setSess _ _

theorem inSession {exempt : Bool} {act : State → Nat → State} (h : NoItem s t)
    (hact : ∀ u n, NoItem s u → NoItem s (act u n)) : NoItem s (t.inSession lo hi q exempt act) := by
  unfold State.inSession
  split
  · exact h.udpNo _
  · extract_lets x heard y counted
    have hh : NoItem s heard := h.setSess _ _
    have hc : NoItem s counted := hh.setSess _ _
    exact .ite (hh.other rfl rfl)
      (.ite (hh.udpRefuse _ _) (.ite ((hc.dropTransfer.bump (by decide)).udpRefuse _ _) (hact _ _ hc)))

theorem udpChunk (h : NoItem s t) (k : Snapshot) : NoItem s (t.udpChunk n q k) :=
  .ite (h.dropTransfer.udpRefuse _ _) ((h.setSess _ _).sendReply (some n) _)

theorem udpRead (h : NoItem s t) : NoItem s (t.udpRead n q) := by
  unfold State.udpRead
  extract_lets fresh
  have hf : NoItem s fresh := by
    unfold fresh
    split
    · exact h.dropTransfer.udpRefuse _ _
    · exact h.udpChunk _
  split
  · exact .ite (h.udpChunk _) hf
  · exact hf

theorem udpDescribe (h : NoItem s t) : NoItem s (t.udpDescribe n q) := by
  unfold State.udpDescribe
  refine .ite (h.udpRefuse _ _) ?_
  split
  · exact h.udpRefuse _ _
  · exact h.sendReply _ _

theorem udpOp (h : NoItem s t) (hop : q.op = opRead ∨ q.op = opDescribe) : NoItem s (t.udpOp lo hi q) := by
  unfold State.udpOp
  obtain hop | hop := hop <;> simp only [hop, opOpen, opClose, opKeepalive, opRead, opWrite, opDescribe,
    Nat.reduceEqDiff, if_true, if_false]
  · exact h.inSession fun _ _ hu => hu.udpRead
  · exact h.inSession fun _ _ hu => hu.udpDescribe

theorem udpFrame (h : NoItem s t) {f : Bytes} {only : Option Nat} (hop : (udpReq f).op = opRead ∨ (udpReq f).op = opDescribe) :
    NoItem s (t.udpFrame lo hi f only) :=
  .ite (h.bump (by decide)) (.ite (h.udpNo _) (.ite (h.udpNo _) (.ite h (h.udpOp hop))))

theorem udpRow (h : NoItem s t) (vlan port : Nat) (f : Bytes) {op : Nat} (hop : op = opRead ∨ op = opDescribe) :
    NoItem s (t.udpRow vlan port f op) := by
  refine .ite ?_ h
  by_cases hq : (udpReq f).op = op
  · exact h.udpFrame (hq ▸ hop)
  · have other : (some op).isSome && some op ≠ some (udpReq f).op := by simp [Ne.symm hq]
    exact .ite (h.bump (by decide)) (.ite (h.udpNo _) (.ite (h.udpNo _) (by rw [if_pos other]; exact h)))

/-! The SDO servers -/

variable {p idx sub : Nat}

theorem sdoAbort (h : NoItem s t) (a : Abort) : NoItem s (t.sdoAbort p a) :=
  ((h.setSdo p _).bump (by decide)).other rfl rfl

theorem sdoRefuse (h : NoItem s t) {r : WriteRule} (hr : QuietRefusal r) (a : Abort) : NoItem s (t.sdoRefuse p idx sub r a) :=
  ((h.setSdo p _).refuse p hr a).other rfl rfl

theorem sdoBusy (h : NoItem s t) {r : WriteRule} (hr : QuietRefusal r) : NoItem s (t.sdoBusy p idx sub r) :=
  (h.bump (by decide)).sdoRefuse hr _

theorem sdoHeard (h : NoItem s t) : NoItem s (t.sdoHeard p) :=
  .ite (h.setSess p _) ((h.setSess p _).setSdo p _)

theorem sdoUpAnswer (h : NoItem s t) (x : Sdo) (d : Bytes) : NoItem s (t.sdoUpAnswer p x d) :=
  .ite (h.sdoSend p _) ((h.setSdo p _).sdoSend p _)

theorem sdoUpSegment (h : NoItem s t) (x : Sdo) (cs : Nat) : NoItem s (t.sdoUpSegment p x cs) :=
  .ite (h.sdoAbort _) ((h.setSdo p _).sdoSend p _)

theorem sdoUpBlock (h : NoItem s t) (x : Sdo) : NoItem s (t.sdoUpBlock p x) := (h.setSdo p _).sdoSend p _

theorem sdoUpAck (h : NoItem s t) (x : Sdo) (f : Bytes) : NoItem s (t.sdoUpAck p x f) :=
  .ite (h.sdoAbort _) (.ite (h.sdoAbort _) (.ite ((h.setSdo p _).sdoSend p _) (h.sdoUpBlock _)))

end NoItem

theorem runs_read {c : Instr} (s : State) (vlan port : BitVec 16) (f : Bytes)
    (hc : c ∈ ([.read vlan port f, .describe vlan port f] : List Instr)) :
    Runs c s fun t => NoItem s t := by
  simp only [List.mem_cons, List.not_mem_nil, or_false] at hc
  obtain rfl | rfl := hc
  · exact ⟨_, rfl, (NoItem.refl s).udpRow _ _ _ (.inl rfl)⟩
  · exact ⟨_, rfl, (NoItem.refl s).udpRow _ _ _ (.inr rfl)⟩

theorem runs_sdoInitiateUpload (s : State) (p : Fin 6) (frame : SdoRequest) :
    Runs (.sdoInitiateUpload p frame) s fun t => NoItem s t := by
  have hh : NoItem s (s.sdoHeard p) := (NoItem.refl s).sdoHeard
  have silent : QuietRefusal { effect := fun s _ _ _ => s } := .of_silent rfl
  change ∃ t, execSdoInitiateUpload p frame s = .next t ∧ _
  unfold execSdoInitiateUpload
  extract_lets f cs x block heard idx sub complete none'
  split
  · exact ⟨_, rfl, .refl s⟩
  · split
    · exact ⟨_, rfl, hh.sdoAbort _⟩
    · split
      · exact ⟨_, rfl, hh.sdoBusy silent⟩
      · split
        · exact ⟨_, rfl, hh.sdoRefuse silent _⟩
        · extract_lets t
          split
          · exact ⟨_, rfl, hh.sdoUpAnswer _ _⟩
          · split
            · exact ⟨_, rfl, hh.sdoAbort _⟩
            · exact ⟨_, rfl, (hh.setSdo p _).sdoSend p _⟩

theorem runs_sdoUploadSegment (s : State) (p : Fin 6) (frame : SdoRequest) :
    Runs (.sdoUploadSegment p frame) s fun t => NoItem s t := by
  have hh : NoItem s (s.sdoHeard p) := (NoItem.refl s).sdoHeard
  change ∃ t, execSdoUploadSegment p frame s = .next t ∧ _
  unfold execSdoUploadSegment
  extract_lets f cs x sub heard t
  split
  · exact ⟨_, rfl, .refl s⟩
  · repeat' split
    · exact ⟨_, rfl, hh.sdoBusy (.of_silent rfl)⟩
    · exact ⟨_, rfl, hh.sdoUpSegment _ _⟩
    · exact ⟨_, rfl, hh.sdoUpBlock _⟩
    · exact ⟨_, rfl, hh.sdoUpAck _ _⟩
    · exact ⟨_, rfl, hh.setSdo p _⟩
    · exact ⟨_, rfl, hh.sdoAbort _⟩

theorem runs_dictReq_read (s : State) {f : Bytes} (hop : (udpReq f).op = opRead) :
    Runs (.dictReq f) s fun t => NoItem s t := by
  change ∃ t, execDictReq f s = .next t ∧ _
  unfold execDictReq
  split
  · exact ⟨_, rfl, .refl s⟩
  · extract_lets old t
    have ht : NoItem s t := NoItem.udpFrame (t := { s with lastReply := none }) (NoItem.other (.refl s) rfl rfl) (.inl hop)
    split
    · exact ⟨_, rfl, ht.publish _⟩
    · exact ⟨_, rfl, ht.other rfl rfl⟩

/-! ### The item of an accepted write -/

@[simp] theorem items_allocSource (s : State) (id : Nat) : (s.allocSource id).jr.items = s.jr.items := by
  unfold State.allocSource
  split <;> rfl

@[simp] theorem items_jwrite (s : State) (r : JRec) : (s.jwrite r).jr.items = s.jr.items := by
  unfold State.jwrite
  split <;> rfl

/-- The acceptance puts one item, with the next JournalSeq and the value, behind the items in flight. -/
theorem items_accept (s : State) (slot src : Nat) (acc : Access) (idx sub : Nat) (ty : Ty) (d : Bytes) (aim : Nat) :
    ∃ it, (s.accept slot src acc idx sub ty d aim).jr.items = s.jr.items ++ [it] ∧ it.seq = s.regN K.nextJournalSeq ∧
      it.idx = idx ∧ it.sub = sub ∧ it.data = d := by
  unfold State.accept
  extract_lets u seq srcSeq it
  refine ⟨it, ?_, congrArg Int.toNat (reg_allocSource s src K.nextJournalSeq), rfl, rfl, rfl⟩
  rw [items_jwrite]
  exact congrArg (· ++ [it]) (items_allocSource s src)

theorem items_afterAccept (s : State) (slot : Nat) (q : WriteReq) (r : WriteRule) :
    ∃ it, (s.afterAccept slot q r).jr.items = s.jr.items ++ [it] ∧ it.seq = s.regN K.nextJournalSeq ∧
      it.idx = q.idx ∧ it.sub = q.sub ∧ it.data = q.data := by
  unfold State.afterAccept
  extract_lets d src a
  obtain ⟨it, hi, hit⟩ : ∃ it, a.jr.items = s.jr.items ++ [it] ∧ it.seq = s.regN K.nextJournalSeq ∧
      it.idx = q.idx ∧ it.sub = q.sub ∧ it.data = q.data := items_accept ..
  refine ⟨it, ?_, hit⟩
  rw [← hi]
  cases r.long <;> rfl

/-- The interface that becomes busy changes the entries of its own object (0x1F00). -/
theorem reg_beginBusy (s : State) (op src seq : Nat) {k : Nat} (hk : k / 256 ≠ 0x1F00) :
    (s.beginBusy op src seq).reg k = s.reg k := by
  have ne (j : Nat) (hj : j / 256 = 0x1F00) : k ≠ j := fun h => hk (h ▸ hj)
  unfold State.beginBusy
  rw [reg_setReg_ne (ne _ (by decide)), reg_setReg_ne (ne _ (by decide)), reg_setReg_ne (ne _ (by decide)),
    reg_setReg_ne (ne _ (by decide)), reg_setReg_ne (ne _ (by decide)), reg_setReg_ne (ne _ (by decide))]
  rfl

/-- An acceptance moves the next JournalSeq on by one. -/
theorem nextJournalSeq_afterAccept (s : State) (slot : Nat) (q : WriteReq) (r : WriteRule) :
    (s.afterAccept slot q r).reg K.nextJournalSeq = (s.regN K.nextJournalSeq + 1 : Nat) := by
  unfold State.afterAccept
  extract_lets d src a
  have ha : a.reg K.nextJournalSeq = (s.regN K.nextJournalSeq + 1 : Nat) := reg_accept ..
  cases r.long with
  | none => exact ha
  | some op => exact (reg_beginBusy _ _ _ _ (by decide)).trans ha

/-- A write command that is a request: once its write is accepted, the rule takes effect on the state with the item. -/
theorem writes_of_request {c : Instr} {s : State} {slot idx sub : Nat} {d : Bytes} {r : WriteRule} {P : State → Prop}
    (hc : exec c s = .next (s.request slot idx sub d r))
    (hP : ∀ x, P { r.effect (s.taken slot idx sub d r) slot (s.regN K.nextJournalSeq) d with lastReply := x }) :
    Writes c s slot idx sub d r P := by
  intro hw
  refine ⟨_, hc, ?_⟩
  rw [request_accepted hw]
  exact ⟨rfl, hP _⟩

/-- Settles O8: a read runs only operations that leave the journal, and an accepted write is its rule's effect on the state with
its item. -/
theorem onlyWritesAreAcceptedWork : Obligations.OnlyWritesAreAcceptedWork := by
  unfold Obligations.OnlyWritesAreAcceptedWork
  have runs {c : Instr} {s : State} (h : Runs c s fun t => NoItem s t) :
      Runs c s fun t => t.jr = s.jr ∧ t.reg K.nextJournalSeq = s.reg K.nextJournalSeq := by
    obtain ⟨t, ht, hn⟩ := h
    exact ⟨t, ht, hn.jr, hn.seq⟩
  refine ⟨fun s vlan port f c hc => runs (runs_read s vlan port f hc), fun s p id w c hc => ?_,
    fun s f hop => runs (runs_dictReq_read s hop), fun s slot idx sub d u hu => writes_of_request rfl fun x => ?_⟩
  · simp only [List.mem_cons, List.not_mem_nil, or_false] at hc
    obtain rfl | rfl := hc
    · exact runs (runs_sdoInitiateUpload s p _)
    · exact runs (runs_sdoUploadSegment s p _)
  · subst hu
    exact ⟨items_afterAccept _ _ _ _, nextJournalSeq_afterAccept _ _ _ _, rfl⟩

end Sys2Proof.Machine
end

section
/-!
Settings that come into force (O9).
-/
namespace Sys2Proof.Machine
open Sys2Proof

/-! ### An entry's description through an acceptance -/

/-- An acceptance changes no entry of the chapters: NextJournalSeq and the busy object stand below 0x2000. -/
theorem reg_afterAccept_chapters (s : State) (slot : Nat) (q : WriteReq) (r : WriteRule) {k : Nat} (hk : key 0x2000 0 ≤ k) :
    (s.afterAccept slot q r).reg k = s.reg k := by
  have hb : k / 256 ≠ 0x1F00 := by simp [key] at hk; omega
  have hn : k ≠ K.nextJournalSeq := Nat.ne_of_gt (Nat.lt_of_lt_of_le (by decide) hk)
  unfold State.afterAccept
  extract_lets d src a
  have ha : a.reg k = s.reg k := (reg_accept ..).trans (if_neg hn)
  cases r.long with
  | none => exact ha
  | some op => exact (reg_beginBusy _ _ _ _ hb).trans ha

/-- The entries that are present, and their descriptions, hang on the running prickings alone (R29). -/
theorem entryDesc_congr {s t : State} (hs : t.slots = s.slots) (hr : ∀ r, t.reg (K.runningSlot r) = s.reg (K.runningSlot r))
    (idx sub : Nat) : t.entryDesc idx sub = s.entryDesc idx sub := by
  have hn (r : Nat) : t.regN (K.runningSlot r) = s.regN (K.runningSlot r) := congrArg Int.toNat (hr r)
  have hp (n : Nat) : t.pslot n = s.pslot n := congrArg (fun l => l.get PSlot.init n) hs
  simp only [State.entryDesc, State.oemDesc, State.oemEntry, State.activeRegions, State.runningOf, hn, hp]

theorem entryDesc_taken (s : State) (slot idx sub : Nat) (d : Bytes) (r : WriteRule) (i j : Nat) :
    (s.taken slot idx sub d r).entryDesc i j = s.entryDesc i j :=
  entryDesc_congr (slots_afterAccept _ _ _ _) (fun n => reg_afterAccept_chapters _ _ _ _ (by simp [key]; omega)) i j

/-! ### What a setting's effect puts in force -/

variable {s : State} {idx sub seq : Nat} {d : Bytes} {x : Desc}

theorem reg_settle (hx : s.entryDesc idx sub = some x) (hb : x.ty.isBytes = false) :
    (s.settle idx sub seq d).reg (key idx sub) = x.ty.decode d := by
  simp [State.settle, State.putEntry, hx, hb]

theorem blob_settle (hx : s.entryDesc idx sub = some x) (hb : x.ty.isBytes = true) :
    (s.settle idx sub seq d).blob (key idx sub) = d := by
  simp [State.settle, State.putEntry, hx, hb]

/-- A restored setting is in force, whether its entry ends the item or a later one does. -/
theorem reg_applyEntries_settingRule {chk : State → Bytes → Option Abort} (slot : Nat) (hx : s.entryDesc idx sub = some x)
    (hb : x.ty.isBytes = false) :
    (s.applyEntries slot seq [((idx, sub), (d, settingRule idx sub chk))]).reg (key idx sub) = x.ty.decode d := by
  have entry : (s.applyEntry slot seq d (settingRule idx sub chk)).1.reg (key idx sub) = x.ty.decode d := by
    unfold State.applyEntry
    extract_lets t
    split
    · split
      · exact reg_settle hx hb
      · exact reg_settle hx hb
    · exact reg_settle hx hb
  unfold State.applyEntries
  extract_lets y
  split
  · exact entry
  · rw [reg_finish]
    exact entry

/-! ### The settings of the interface -/

/-- Nothing but the counters AbortsSent and SessionsExpired has changed among the entries, and the same settings wait. -/
structure OnlyCounts (s t : State) : Prop where
  reg : ∀ k, k ≠ K.abortsSent → k ≠ K.sessionsExpired → t.reg k = s.reg k
  ifcPending : t.ifcPending = s.ifcPending

namespace OnlyCounts
variable {s t : State}

theorem refl (s : State) : OnlyCounts s s := ⟨fun _ _ _ => rfl, rfl⟩

theorem ite {c : Prop} [Decidable c] {u : State} (h : OnlyCounts s t) (h' : OnlyCounts s u) : OnlyCounts s (if c then t else u) := by
  split <;> assumption

theorem foldl {α : Type} {f : State → α → State} (hf : ∀ t x, OnlyCounts s t → OnlyCounts s (f t x)) (l : List α)
    (h : OnlyCounts s t) : OnlyCounts s (l.foldl f t) := by
  induction l generalizing t with
  | nil => exact h
  | cons x l ih => exact ih (hf t x h)

/-- An operation on other fields. -/
theorem other {u : State} (h : OnlyCounts s t) (hr : u.regs = t.regs) (hi : u.ifcPending = t.ifcPending) : OnlyCounts s u :=
  ⟨fun k ha he => (congrArg (fun r => r.get (regDefault k) k) hr).trans (h.reg k ha he), hi.trans h.ifcPending⟩

theorem setSess (h : OnlyCounts s t) (n : Nat) (x : Session) : OnlyCounts s (t.setSess n x) := h.other rfl rfl

theorem closeSession (h : OnlyCounts s t) (n : Nat) : OnlyCounts s (t.closeSession n) := h.other rfl rfl

theorem closeUdp (h : OnlyCounts s t) : OnlyCounts s t.closeUdp := h.foldl (fun _ _ hu => .ite (hu.closeSession _) hu) _

theorem idleEnd (h : OnlyCounts s t) (n : Nat) : OnlyCounts s (t.idleEnd n) := by
  have expired : OnlyCounts s ((t.closeSession n).bump K.sessionsExpired) :=
    ⟨fun k ha he => (reg_setReg_ne he _ _).trans (h.reg k ha he), h.ifcPending⟩
  unfold State.idleEnd
  exact .ite h (.ite expired (.ite (h.setSess n _) h))

theorem sdoAffected (h : OnlyCounts s t) (ports : List Nat) : OnlyCounts s (t.sdoAffected ports) := by
  have abort (u : State) (p : Nat) (hu : OnlyCounts s u) : OnlyCounts s (u.sdoAbort p .stateDenied) :=
    ⟨fun k ha he => (reg_setReg_ne ha _ _).trans (hu.reg k ha he), hu.ifcPending⟩
  exact h.foldl (fun u p hu => .ite hu (abort u p hu)) _

theorem syncSdo (h : OnlyCounts s t) (p : Nat) (failed : Bool) : OnlyCounts s (t.syncSdo p failed) := by
  unfold State.syncSdo
  exact .ite (h.setSess p _) (.ite ((h.closeSession p).other rfl rfl) h)

theorem syncAllSdo (h : OnlyCounts s t) : OnlyCounts s t.syncAllSdo := h.foldl (fun _ p hu => hu.syncSdo p _) _

end OnlyCounts

/-- Beside the new value, a setting that comes into force changes only sessions, transfers and their counters. -/
theorem applyInterface_counts (s : State) (k : Nat) (v : Int) :
    s.applyInterface k v = s.setReg k v ∨
      OnlyCounts (s.setReg k v) (s.applyInterface k v) ∧ k ≠ K.abortsSent ∧ k ≠ K.sessionsExpired := by
  have h := OnlyCounts.refl (s.setReg k v)
  unfold State.applyInterface
  extract_lets old t
  split
  · exact .inl rfl
  · split
    case isTrue hk =>
      refine .inr ⟨h.closeUdp, ?_⟩
      simp only [Bool.or_eq_true, decide_eq_true_eq] at hk
      obtain rfl | rfl := hk <;> decide
    · split
      case isTrue hk =>
        subst hk
        exact .inr ⟨h.foldl (fun _ n hu => hu.idleEnd n) _, by decide⟩
      · split
        case isTrue hk =>
          subst hk
          exact .inr ⟨(h.sdoAffected _).syncAllSdo, by decide⟩
        · split
          case isTrue hk =>
            refine .inr ⟨h.sdoAffected _, ?_⟩
            simp only [Bool.or_eq_true, decide_eq_true_eq] at hk
            obtain rfl | rfl := hk <;> decide
          · split
            case isTrue hk =>
              refine .inr ⟨h.sdoAffected _, ?_⟩
              constructor <;> rintro rfl <;> simp [key] at hk
            · exact .inl rfl

/-- A setting of the interface that comes into force has its value, whatever sessions and transfers end with it. -/
theorem reg_applyInterface (s : State) (k : Nat) (v : Int) : (s.applyInterface k v).reg k = v := by
  obtain h | ⟨h, ha, he⟩ := applyInterface_counts s k v
  · rw [h, reg_setReg_self]
  · rw [h.reg k ha he, reg_setReg_self]

theorem ifcPending_applyInterface (s : State) (k : Nat) (v : Int) : (s.applyInterface k v).ifcPending = s.ifcPending := by
  obtain h | ⟨h, -, -⟩ := applyInterface_counts s k v
  · rw [h]
    rfl
  · exact h.ifcPending

theorem ifcPending_finish (s : State) (q : Nat) (o : Outcome) (d : Nat) : (s.finish q o d).ifcPending = s.ifcPending := by
  have h := congrArg State.ifcPending (outside_finish (F := [.jr]) (by simp) s q o d)
  exact h

/-- Settles O9: a setting's effect writes its entry and then touches the journal alone. -/
theorem settingsComeIntoForce : Obligations.SettingsComeIntoForce := by
  unfold Obligations.SettingsComeIntoForce
  refine ⟨fun s slot idx sub d x chk hr hx => writes_of_request rfl fun y => ?_,
    fun s slot v idx sub x chk hl hr hx hb => writes_of_request rfl fun y => ?_,
    fun s k v seq hp => ⟨_, rfl, ?_⟩⟩
  · have hx' := (entryDesc_taken s slot idx.toNat sub.toNat d (ruleOf idx.toNat sub.toNat) _ _).trans hx
    have he := congrArg WriteRule.effect hr
    rw [he]
    exact ⟨fun hb => reg_settle hx' hb, fun hb => blob_settle hx' hb⟩
  · have hx' := (entryDesc_taken s slot 0x1040 0 (leBytes 2 v.toNat) restoreRule _ _).trans hx
    change (State.applyEntries _ _ _ (State.restoreList _ _ _)).reg _ = _
    rw [hl, hr]
    exact reg_applyEntries_settingRule slot hx' hb
  · rw [hp]
    exact ⟨(reg_finish ..).trans (reg_applyInterface ..), (ifcPending_finish ..).trans (ifcPending_applyInterface ..)⟩

end Sys2Proof.Machine
end

section
/-!
The operations of a UDP session (O10).
-/
namespace Sys2Proof.Machine
open Sys2Proof

variable {s : State} {vlan port : BitVec 16} {f : Bytes} {op n : Nat} {q : UdpReq}

/-! ### From the frame to the operation -/

@[simp] theorem reg_counted (s : State) (n seq k : Nat) : (s.counted n seq).reg k = s.reg k := rfl

/-- A frame that passes checks 1 to 3 of R595 reaches its operation on the slots 7-15. -/
theorem udpRow_of_frameOk (h : UdpFrameOk s vlan port f op) (hk : knownOp op = true) :
    s.udpRow vlan.toNat port.toNat f op = s.udpOp 7 15 (udpReq f) := by
  obtain ⟨hs, hv, hp, hf, h1, ho⟩ := h
  simp [State.udpRow, State.udpFrame, hs, hv, hp, hf, h1, ho, hk]

theorem op_of_frameOk (h : UdpFrameOk s vlan port f op) : (udpReq f).op = op := by
  obtain ⟨-, -, -, -, -, ho⟩ := h
  exact ho

theorem framed_of_frameOk (h : UdpFrameOk s vlan port f op) : udpFramed f = true := by
  obtain ⟨-, -, -, hf, -⟩ := h
  exact hf

/-- A frame carries no more than the 1,024 bytes of data that R56 allows. -/
theorem length_data_le (hf : udpFramed f = true) : (udpReq f).data.length ≤ 1024 := by
  simp only [udpFramed, Bool.and_eq_true, decide_eq_true_eq] at hf
  have hd : (udpReq f).data.length ≤ f.length - 44 := List.length_take_le _ _
  omega

/-- The slot that a SessionId names is open (R60). -/
theorem isOpen_of_udpSlot {lo hi sid : Nat} (h : s.udpSlot lo hi sid = some n) : (s.sess n).isOpen = true := by
  simp only [State.udpSlot, Option.ite_none_right_eq_some, Bool.and_eq_true, Option.some.injEq] at h
  obtain ⟨⟨⟨-, ho⟩, -⟩, rfl⟩ := h
  exact ho

/-- A frame of an open session with its next number reaches the operation, on an idle interface or where the operation is
exempt (checks 4 to 6 of R595). -/
theorem inSession_of_next {exempt : Bool} {act : State → Nat → State} (h : UdpInSession s f n)
    (hb : exempt = true ∨ s.reg K.busyState ≠ 1) :
    s.inSession 7 15 (udpReq f) exempt act = act (s.counted n (udpReq f).seq) n := by
  obtain ⟨hn, hq⟩ := h
  have fresh : (decide ((udpReq f).seq = (s.sess n).lastSeq) && (s.sess n).stored.isSome) ≠ true := by
    rw [decide_eq_false (by omega)]
    simp
  have idle : ((s.counted n (udpReq f).seq).isBusy && !exempt) ≠ true := by
    obtain rfl | hb := hb
    · simp
    · have : (s.counted n (udpReq f).seq).isBusy = false := by
        simpa [State.isBusy] using hb
      simp [this]
  unfold State.inSession
  rw [hn]
  exact (if_neg fresh).trans ((if_neg (not_not.2 hq)).trans (if_neg idle))

/-! ### What a response leaves -/

@[simp] theorem lastReply_sendReply (s : State) (o : Option Nat) (r : Reply) : (s.sendReply o r).lastReply = some r := rfl

/-- A session keeps its response for a repeat (R59). -/
theorem sess_sendReply (ho : (s.sess n).isOpen = true) (r : Reply) :
    (s.sendReply (some n) r).sess n = { s.sess n with stored := some r } := by
  simp only [State.sendReply, ho, if_true]
  exact sess_setSess _ _ _

@[simp] theorem sess_counted (s : State) (n seq : Nat) :
    (s.counted n seq).sess n = { s.sess n with lastReq := s.tick, lastSeq := seq } := by
  simp [State.counted]

theorem sessionId_sendReply (ho : (s.sess n).isOpen = true) (r : Reply) :
    (s.sendReply (some n) r).sessionId n = s.sessionId n := by
  simp [State.sessionId, sess_sendReply ho]

@[simp] theorem sess_dropTransfer (s : State) (n : Nat) :
    (s.dropTransfer n).sess n = { s.sess n with xfer := none, snap := none } := sess_setSess _ _ _

/-! ### The operations -/

theorem udpOp_open (hq : q.op = opOpen) : s.udpOp 7 15 q = s.udpOpen q := by simp [State.udpOp, hq]

theorem udpOp_close (hq : q.op = opClose) :
    s.udpOp 7 15 q = s.inSession 7 15 q true fun s n => (s.closeSession n).sendReply none (q.answer 0 0) := by
  simp [State.udpOp, hq]

theorem udpOp_keepalive (hq : q.op = opKeepalive) :
    s.udpOp 7 15 q = s.inSession 7 15 q false fun s n => s.sendReply (some n) (q.answer 0 0) := by
  simp [State.udpOp, hq]

theorem udpOp_read (hq : q.op = opRead) :
    s.udpOp 7 15 q = s.inSession 7 15 q (q.idx == 0x1F00) fun s n => s.udpRead n q := by
  simp [State.udpOp, hq]

theorem udpOp_write (hq : q.op = opWrite) : s.udpOp 7 15 q = s.inSession 7 15 q false fun s n => s.udpWrite n q := by
  simp [State.udpOp, hq]

theorem udpOp_describe (hq : q.op = opDescribe) :
    s.udpOp 7 15 q = s.inSession 7 15 q false fun s n => s.udpDescribe n q := by
  simp [State.udpOp, hq]

theorem udpOp_abort (hq : q.op = opAbort) :
    s.udpOp 7 15 q = s.inSession 7 15 q false fun s n => (s.dropTransfer n).sendReply (some n) (q.answer 0 0) := by
  simp [State.udpOp, hq]

/-- An OPEN with a ClientId that no session has takes the lowest free slot (R46). -/
theorem udpOpen_lowest (hb : s.reg K.busyState ≠ 1) (hl : q.data.length = 4) (h0 : 0 < leNat q.data)
    (hi : leNat q.data < 0xFFFFFF00) (hn : n < 9) (hc : (s.sess (n + 7)).isOpen = false)
    (hother : ∀ m < 9, (s.sess (m + 7)).isOpen = true → (s.sess (m + 7)).sourceId ≠ leNat q.data)
    (hfull : ∀ m < n, (s.sess (m + 7)).isOpen = true) :
    s.udpOpen q = ((s.openSession (n + 7) (leNat q.data)).bump K.sessionsOpened).sendReply (some (n + 7))
      { q.answer 0 0 with sessionId := ((s.openSession (n + 7) (leNat q.data)).bump K.sessionsOpened).sessionId (n + 7) } := by
  have replaced : (List.range 9).filter (fun m => (s.sess (m + 7)).isOpen && (s.sess (m + 7)).sourceId = leNat q.data) = [] := by
    simpa using hother
  have lowest : (List.range 9).find? (fun m => !(s.sess (m + 7)).isOpen) = some n := by
    simpa [List.find?_range_eq_some, hn, hc] using hfull
  have valid : (decide (leNat q.data = 0) || decide (0xFFFFFF00 ≤ leNat q.data)) = false := by
    simp
    omega
  unfold State.udpOpen
  simp only [State.isBusy, beq_iff_eq, hb, if_false, hl, if_true, valid, Bool.false_eq_true, replaced, List.foldl_nil, lowest]

/-- A READ of a value of up to 1,024 bytes goes out whole (R61). -/
theorem udpRead_short {b : Bytes} (hf : q.first = true) (h0 : q.offset = 0) (hl : b.length ≤ 1024)
    (hr : s.readValue n q.idx q.sub q.complete q.ty = (none, b)) :
    ∃ r, (s.udpRead n q).lastReply = some r ∧ r.status = 0 ∧ r.data = b ∧ r.total = b.length ∧ r.seq = q.seq := by
  have chunk : s.udpRead n q = s.udpChunk n q ⟨q.idx, q.sub, q.complete, b⟩ := by
    unfold State.udpRead
    rw [hr]
    cases (s.sess n).snap with
    | none => rfl
    | some k => exact if_neg (by simp [hf])
  rw [chunk]
  simp [State.udpChunk, h0, hf, List.take_of_length_le hl, UdpReq.answer]

/-- A DESCRIBE of an entry that is there returns its description (R62). -/
theorem udpDescribe_present {b : Bytes} (hi : s.indexPresent q.idx = true) (hd : s.describe q.idx q.sub = some b) :
    ∃ r, (s.udpDescribe n q).lastReply = some r ∧ r.status = 0 ∧ r.data = b := by
  simp [State.udpDescribe, hi, hd, UdpReq.answer]

theorem accessCheck_dropTransfer (s : State) (n idx sub : Nat) : (s.dropTransfer n).accessCheck n idx sub = s.accessCheck n idx sub := by
  have hr : (s.dropTransfer n).roles n = s.roles n := by simp [State.roles]
  unfold State.accessCheck
  rw [hr]
  rfl

/-- The first check of a write is that of the access to its entry (R41). -/
theorem accessCheck_of_checkWrite {slot : Nat} {w : WriteReq} {r : WriteRule} (h : s.checkWrite slot w r = none) :
    s.accessCheck slot w.idx w.sub = none := by
  unfold State.checkWrite at h
  split at h
  · cases h
  · assumption

/-- A WRITE that comes whole in its first frame and passes the checks is accepted and answered with its number (R33, R61). -/
theorem udpWrite_whole (hf : q.first = true) (hl : q.last = true) (hc : q.complete = false) (h0 : q.offset = 0)
    (ht : q.total = q.data.length) (hd : s.isDomain q.idx q.sub = false) (hlen : q.data.length ≤ 1024)
    (hw : ((s.dropTransfer n).dropTransfer n).checkWrite n ⟨q.idx, q.sub, q.ty, q.data⟩ (ruleOf q.idx q.sub) = none) :
    ∃ r, (s.udpWrite n q).lastReply = some r ∧ r.status = 0 ∧ r.jseq = s.regN K.nextJournalSeq ∧ r.seq = q.seq := by
  have access : (s.dropTransfer n).firstCheck n q.idx q.sub q.complete = none := by
    have h := accessCheck_of_checkWrite hw
    rw [accessCheck_dropTransfer] at h
    simp [State.firstCheck, State.isComplete, hc, h]
  have domain : (s.dropTransfer n).isDomain q.idx q.sub = false := hd
  have store : (s.dropTransfer n).staged q.idx q.sub q.total = false := by
    simp [State.staged, domain, ht]; omega
  have whole : s.udpWrite n q = (s.dropTransfer n).udpWhole n q q.data := by
    simp [State.udpWrite, hf, access, h0, ht ▸ store, domain, hl, ht]
  have accepted : (((s.dropTransfer n).dropTransfer n).submitAny n q.idx q.sub q.complete q.ty q.data).2 =
      ⟨0, s.regN K.nextJournalSeq⟩ := by
    simp only [State.submitAny, State.isComplete, hc, Bool.false_and, Bool.false_eq_true, if_false, submit_accepted hw]
    rfl
  rw [whole]
  unfold State.udpWhole
  dsimp only
  rw [accepted]
  exact ⟨_, rfl, rfl, rfl, rfl⟩

/-- Settles O10: a frame that passes the checks runs its operation in the session's state. -/
theorem udpOperationsTakeEffect : Obligations.UdpOperationsTakeEffect := by
  unfold Obligations.UdpOperationsTakeEffect
  refine ⟨?_, ?_, ?_, ?_, ?_, ?_, ?_⟩
  · intro s vlan port f n hf hb hl h0 hi hn hc hother hfull
    refine ⟨_, rfl, ?_⟩
    rw [udpRow_of_frameOk hf rfl, udpOp_open (op_of_frameOk hf), udpOpen_lowest hb hl h0 hi hn hc hother hfull]
    set u := (s.openSession (n + 7) (leNat (udpReq f).data)).bump K.sessionsOpened
    have hu : u.sess (n + 7) = _ := sess_openSession s (n + 7) _
    rw [sess_sendReply (by rw [hu])]
    exact ⟨by rw [hu], by rw [hu], by rw [hu], _, rfl, rfl, (sessionId_sendReply (by rw [hu]) _).symm⟩
  · intro s vlan port f n hf hs
    refine ⟨_, rfl, ?_⟩
    rw [udpRow_of_frameOk hf rfl, udpOp_close (op_of_frameOk hf), inSession_of_next hs (.inl rfl)]
    have hn : (((s.counted n (udpReq f).seq).closeSession n).sendReply none ((udpReq f).answer 0 0)).sess n = _ :=
      sess_closeSession _ n
    beta_reduce
    rw [hn]
    exact ⟨rfl, rfl, rfl, rfl, rfl⟩
  · intro s vlan port f n hf hs hb
    refine ⟨_, rfl, ?_⟩
    have ho := isOpen_of_udpSlot hs.1
    rw [udpRow_of_frameOk hf rfl, udpOp_keepalive (op_of_frameOk hf), inSession_of_next hs (.inr hb)]
    beta_reduce
    rw [sess_sendReply (by simpa using ho)]
    simp [ho]
  · intro s vlan port f n b hf hs hb h1 h0 hl hr
    refine ⟨_, rfl, ?_⟩
    rw [udpRow_of_frameOk hf rfl, udpOp_read (op_of_frameOk hf), inSession_of_next hs (.inr hb)]
    exact udpRead_short h1 h0 hl hr
  · intro s vlan port f n hf hs hb h1 hl hc h0 ht hd hw
    refine ⟨_, rfl, ?_⟩
    rw [udpRow_of_frameOk hf rfl, udpOp_write (op_of_frameOk hf), inSession_of_next hs (.inr hb)]
    exact udpWrite_whole h1 hl hc h0 ht hd (length_data_le (framed_of_frameOk hf)) hw
  · intro s vlan port f n b hf hs hb hi hd
    refine ⟨_, rfl, ?_⟩
    rw [udpRow_of_frameOk hf rfl, udpOp_describe (op_of_frameOk hf), inSession_of_next hs (.inr hb)]
    exact udpDescribe_present hi hd
  · intro s vlan port f n hf hs hb
    refine ⟨_, rfl, ?_⟩
    have ho := isOpen_of_udpSlot hs.1
    rw [udpRow_of_frameOk hf rfl, udpOp_abort (op_of_frameOk hf), inSession_of_next hs (.inr hb)]
    beta_reduce
    rw [sess_sendReply (by simpa using ho)]
    simp [ho]

end Sys2Proof.Machine
end

section
/-!
The SDO servers of the CAN ports (O11).
-/
namespace Sys2Proof.Machine
open Sys2Proof

variable {s : State} {p : Fin 6} {id : BitVec 11} {w : BitVec 64}

/-! ### A frame that is heard -/

theorem sdoHeard_of_running (hk : (s.sdoOf p).kind ≠ .idle) :
    s.sdoHeard p = (s.setSess p { s.sess p with lastReq := s.tick }).setSdo p { s.sdoOf p with lastFrame := s.tick } := if_neg hk

theorem sdoOf_sdoHeard (hk : (s.sdoOf p).kind ≠ .idle) :
    (s.sdoHeard p).sdoOf p = { s.sdoOf p with lastFrame := s.tick } := by
  rw [sdoHeard_of_running hk]
  exact sdoOf_setSdo _ _ _

/-- The transfer goes on as it stood. -/
theorem buf_sdoHeard (hk : (s.sdoOf p).kind ≠ .idle) : ((s.sdoHeard p).sdoOf p).buf = (s.sdoOf p).buf := by
  rw [sdoOf_sdoHeard hk]

theorem toggle_sdoHeard (hk : (s.sdoOf p).kind ≠ .idle) : ((s.sdoHeard p).sdoOf p).toggle = (s.sdoOf p).toggle := by
  rw [sdoOf_sdoHeard hk]

/-- A frame that is heard restarts the timers of the session and of its transfer, and changes nothing else. -/
theorem sdoHeard_fields (s : State) (p : Nat) :
    s.sdoHeard p = { s with sessions := (s.sdoHeard p).sessions, sdo := (s.sdoHeard p).sdo } := by
  unfold State.sdoHeard
  dsimp only
  split <;> rfl

theorem sdoNode_sdoHeard (s : State) (p q : Nat) : (s.sdoHeard p).sdoNode q = s.sdoNode q := by
  rw [sdoHeard_fields]
  rfl

theorem isDomain_sdoHeard (s : State) (p idx sub : Nat) : (s.sdoHeard p).isDomain idx sub = s.isDomain idx sub := by
  rw [sdoHeard_fields]
  rfl

theorem reg_sdoHeard (s : State) (p k : Nat) : (s.sdoHeard p).reg k = s.reg k := by
  rw [sdoHeard_fields]
  rfl

theorem isBusy_sdoHeard (hb : s.reg K.busyState ≠ 1) (p : Nat) : (s.sdoHeard p).isBusy = false := by
  rw [State.isBusy, reg_sdoHeard]
  simpa using hb

/-! ### The server's answer -/

@[simp] theorem lastSdo_sdoSend (s : State) (p : Nat) (b : Bytes) :
    (s.sdoSend p b).lastSdo = some ⟨p, 0x580 + s.sdoNode p, 0, b⟩ := rfl

@[simp] theorem sdoOf_sdoSend (s : State) (p q : Nat) (b : Bytes) : (s.sdoSend p b).sdoOf q = s.sdoOf q := rfl

@[simp] theorem sdoNode_setSdo (s : State) (p q : Nat) (x : Sdo) : (s.setSdo p x).sdoNode q = s.sdoNode q := rfl

/-! ### Downloads -/

/-- A whole value that passes its checks is accepted and confirmed. -/
theorem sdoWhole_accepted {t : Sdo} {d ok : Bytes} (hc : t.complete = false)
    (hw : (s.setSdo p Sdo.init).checkWrite p ⟨t.idx, t.sub, 0, d⟩ (ruleOf t.idx t.sub) = none) :
    (s.sdoWhole p t d ok).lastSdo = some ⟨p, 0x580 + (s.sdoWhole p t d ok).sdoNode p, 0, ok⟩ := by
  have accepted : ((s.setSdo p Sdo.init).submitAny p t.idx t.sub t.complete 0 d).2.status = 0 := by
    simp only [State.submitAny, State.isComplete, hc, Bool.false_and, Bool.false_eq_true, if_false, submit_accepted hw]
  unfold State.sdoWhole
  dsimp only
  rw [if_pos accepted]
  rfl

/-- An expedited download of a value that is no DOMAIN is a whole value. -/
theorem exec_sdoInitiateDownload_expedited (ht : s.sdoTakes p id = true) (hk : (s.sdoOf p).kind = .idle)
    (hb : s.reg K.busyState ≠ 1) {f : Bytes} (hf : f = leBytes 8 w.toNat) (hcs : sdoCs f / 32 = 1)
    (he : (sdoCs f).testBit 1 = true) (hc : (sdoCs f).testBit 4 = false) (hd : s.isDomain (sdoIdx f) (sdoSub f) = false) :
    exec (.sdoInitiateDownload p ⟨id, w⟩) s = .next ((s.sdoHeard p).sdoWhole p
      { idx := sdoIdx f, sub := sdoSub f, complete := false, lastFrame := (s.sdoHeard p).tick }
      (field f 4 (if (sdoCs f).testBit 0 then 4 - sdoCs f / 4 % 4 else 4)) (sdoFrame 0x60 (sdoIdx f) (sdoSub f) [])) := by
  change execSdoInitiateDownload p ⟨id, w⟩ s = _
  simp [execSdoInitiateDownload, ← hf, ht, hk, hcs, he, hc, isBusy_sdoHeard hb, isDomain_sdoHeard, hd]

/-- A segment of a segmented download goes to its transfer. -/
theorem exec_sdoDownloadSegment_segmented (ht : s.sdoTakes p id = true) (hk : (s.sdoOf p).kind = .segDown)
    (hb : s.reg K.busyState ≠ 1) {f : Bytes} (hf : f = leBytes 8 w.toNat) (hcs : sdoCs f / 32 = 0) :
    exec (.sdoDownloadSegment p ⟨id, w⟩) s = .next ((s.sdoHeard p).sdoDownSegment p ((s.sdoHeard p).sdoOf p) f) := by
  have hne : sdoCs f ≠ 0x80 := by omega
  change execSdoDownloadSegment p ⟨id, w⟩ s = _
  simp [execSdoDownloadSegment, ← hf, ht, hk, hcs, isBusy_sdoHeard hb, hne]

/-- A segment in order that is not the last is taken and confirmed with its toggle (R53). -/
theorem sdoDownSegment_inOrder {t : Sdo} {f : Bytes} (htog : (sdoCs f).testBit 4 = t.toggle) (hl : (sdoCs f).testBit 0 = false)
    (hm : s.sdoMisfit p t (t.buf ++ field f 1 (7 - sdoCs f / 2 % 8)).length false = none) :
    s.sdoDownSegment p t f =
      (s.setSdo p { t with buf := t.buf ++ field f 1 (7 - sdoCs f / 2 % 8), toggle := !t.toggle }).sdoSend p
        (leBytes 1 (0x20 + 16 * b2n t.toggle) ++ zeros 7) := by
  unfold State.sdoDownSegment
  simp only [htog, ne_eq, not_true_eq_false, if_false, hl, hm, Bool.false_eq_true]

/-! ### Uploads -/

/-- An upload of up to 4 bytes that is no DOMAIN goes out at once. -/
theorem exec_sdoInitiateUpload_expedited (ht : s.sdoTakes p id = true) (hk : (s.sdoOf p).kind = .idle)
    (hb : s.reg K.busyState ≠ 1) {f b : Bytes} (hf : f = leBytes 8 w.toNat) (hcs : sdoCs f / 32 = 2)
    (hr : (s.sdoHeard p).readValue p (sdoIdx f) (sdoSub f) ((sdoCs f).testBit 4) 0 = (none, b))
    (h0 : 0 < b.length) (h4 : b.length ≤ 4) (hd : s.isDomain (sdoIdx f) (sdoSub f) = false) :
    exec (.sdoInitiateUpload p ⟨id, w⟩) s =
      .next ((s.sdoHeard p).sdoSend p (sdoFrame (0x43 + 4 * (4 - b.length)) (sdoIdx f) (sdoSub f) b)) := by
  have taken : (!s.sdoTakes p id || !(sdoCs f / 32 == 2 || (sdoCs f / 32 == 5 && sdoCs f % 4 == 0)) ||
      ((s.sdoOf p).kind == .blockDown && !(s.sdoOf p).ended)) ≠ true := by
    simp [ht, hcs, hk]
  have idle : ¬ ((s.sdoHeard p).isBusy && decide (sdoIdx f ≠ 0x1F00)) = true := by
    simp [isBusy_sdoHeard hb]
  change execSdoInitiateUpload p ⟨id, w⟩ s = _
  unfold execSdoInitiateUpload
  dsimp only
  rw [← hf, if_neg taken, if_neg (by simp [hk]), if_neg idle, hr]
  simp [State.sdoUpAnswer, hcs, h0, h4, isDomain_sdoHeard, hd]

/-- A segment of a segmented upload carries the next 7 bytes while more remain (R53). -/
theorem sdoUpSegment_next {t : Sdo} {cs : Nat} (htog : cs.testBit 4 = t.toggle) (hl : 7 < t.buf.length) :
    s.sdoUpSegment p t cs = (s.setSdo p { t with buf := t.buf.drop 7, toggle := !t.toggle }).sdoSend p
      (leBytes 1 (16 * b2n t.toggle) ++ t.buf.take 7) := by
  have more : ¬ t.buf.length ≤ 7 := by omega
  have whole : (t.buf.take 7).length = 7 := by simp; omega
  have full : padTo 7 (t.buf.take 7) = t.buf.take 7 := by simp [padTo, whole, zeros]
  simp [State.sdoUpSegment, htog, more, whole, full, b2n]

/-- A segment request goes to its segmented upload. -/
theorem exec_sdoUploadSegment_segmented (ht : s.sdoTakes p id = true) (hk : (s.sdoOf p).kind = .segUp)
    (hb : s.reg K.busyState ≠ 1) {f : Bytes} (hf : f = leBytes 8 w.toNat) (hcs : sdoCs f / 32 = 3) :
    exec (.sdoUploadSegment p ⟨id, w⟩) s =
      .next ((s.sdoHeard p).sdoUpSegment p ((s.sdoHeard p).sdoOf p) (sdoCs f)) := by
  change execSdoUploadSegment p ⟨id, w⟩ s = _
  simp [execSdoUploadSegment, ← hf, ht, hk, hcs, isBusy_sdoHeard hb]

/-! ### The end of a transfer -/

/-- A client's abort ends the transfer without a reply (R52). -/
theorem exec_sdoAbortTransfer (ht : s.sdoTakes p id = true) {f : Bytes} (hf : f = leBytes 8 w.toNat) (hcs : sdoCs f = 0x80) :
    exec (.sdoAbortTransfer p ⟨id, w⟩) s = .next ((s.sdoHeard p).setSdo p Sdo.init) := by
  change execSdoAbortTransfer p ⟨id, w⟩ s = _
  simp [execSdoAbortTransfer, ← hf, ht, hcs]

theorem exec_sdoTimeout (ho : s.sdoOpen p = true) (hk : (s.sdoOf p).kind ≠ .idle)
    (hl : (s.sdoOf p).lastFrame + ticksMs (s.regN K.sdoTimeout) ≤ s.tick) :
    exec (.sdoTimeout p) s = .next (s.sdoAbort p .protocolTimeout) := by
  change execSdoTimeout p s = _
  simp [execSdoTimeout, ho, hk, hl]

/-- A frame with another identifier is not for the server (R50). -/
theorem idles_of_otherId (hid : id.toNat ≠ 0x600 + s.sdoNode p) {c : Instr}
    (hc : c ∈ ([.sdoInitiateDownload p ⟨id, w⟩, .sdoDownloadSegment p ⟨id, w⟩, .sdoInitiateUpload p ⟨id, w⟩,
      .sdoUploadSegment p ⟨id, w⟩, .sdoAbortTransfer p ⟨id, w⟩] : List Instr)) : Idles c s := by
  have ht : s.sdoTakes p id = false := by simp [State.sdoTakes, hid]
  have download : execSdoInitiateDownload p ⟨id, w⟩ s = .next s := by simp [execSdoInitiateDownload, ht]
  have segment : execSdoDownloadSegment p ⟨id, w⟩ s = .next s := by simp [execSdoDownloadSegment, ht]
  have upload : execSdoInitiateUpload p ⟨id, w⟩ s = .next s := by simp [execSdoInitiateUpload, ht]
  have upSegment : execSdoUploadSegment p ⟨id, w⟩ s = .next s := by simp [execSdoUploadSegment, ht]
  have abort : execSdoAbortTransfer p ⟨id, w⟩ s = .next s := by simp [execSdoAbortTransfer, ht]
  simp only [List.mem_cons, List.not_mem_nil, or_false] at hc
  obtain rfl | rfl | rfl | rfl | rfl := hc
  exacts [download, segment, upload, upSegment, abort]

theorem sdoNode_sdoAbort (s : State) (p q : Nat) (a : Abort) : (s.sdoAbort p a).sdoNode q = s.sdoNode q := by
  have reg {k : Nat} (hk : k ≠ K.abortsSent) : (s.sdoAbort p a).reg k = s.reg k := reg_setReg_ne hk _ _
  have recovery : (s.sdoAbort p a).inRecovery = s.inRecovery := congrArg (· == 1) (reg (by decide))
  have node : (s.sdoAbort p a).regN (K.sdoNodeId q) = s.regN (K.sdoNodeId q) :=
    congrArg Int.toNat (reg (k := K.sdoNodeId q) (by simp [key]; omega))
  simp only [State.sdoNode, recovery, node]

/-- Settles O11: each command reduces to one operation of the server on the frame that was heard. -/
theorem sdoTransfersTakeEffect : Obligations.SdoTransfersTakeEffect := by
  unfold Obligations.SdoTransfersTakeEffect
  refine ⟨?_, ?_, ?_, ?_, ?_, fun s p id w hid c hc => idles_of_otherId hid hc, ?_⟩
  · intro s p id w ht hk hb hcs he hc hd hw
    exact ⟨_, exec_sdoInitiateDownload_expedited ht hk hb rfl hcs he hc hd, sdoWhole_accepted rfl hw⟩
  · intro s p id w ht hk hb hcs htog hl hm
    refine ⟨_, exec_sdoDownloadSegment_segmented ht hk hb rfl hcs, ?_⟩
    have running : (s.sdoOf p).kind ≠ .idle := by simp [hk]
    have hbuf := buf_sdoHeard running
    have htgl := toggle_sdoHeard running
    have hlast : ((s.sdoHeard p).sdoOf p).lastFrame = s.tick := by rw [sdoOf_sdoHeard running]
    rw [sdoDownSegment_inOrder (by rw [htgl]; exact htog) hl (by rw [hbuf]; exact hm), hbuf, htgl, ← sdoNode_sdoHeard s p p]
    simp [hlast]
  · intro s p id w b ht hk hb hcs hr h0 h4 hd
    refine ⟨_, exec_sdoInitiateUpload_expedited ht hk hb rfl hcs hr h0 h4 hd, ?_⟩
    rw [← sdoNode_sdoHeard s p p]
    exact lastSdo_sdoSend _ _ _
  · intro s p id w ht hk hb hcs htog hl
    refine ⟨_, exec_sdoUploadSegment_segmented ht hk hb rfl hcs, ?_⟩
    have running : (s.sdoOf p).kind ≠ .idle := by simp [hk]
    have hbuf := buf_sdoHeard running
    have htgl := toggle_sdoHeard running
    rw [sdoUpSegment_next (by rw [htgl]; exact htog) (by rw [hbuf]; exact hl), hbuf, htgl, ← sdoNode_sdoHeard s p p]
    simp
  · intro s p id w ht hcs
    refine ⟨_, exec_sdoAbortTransfer ht rfl hcs, sdoOf_setSdo _ _ _, ?_⟩
    rw [sdoHeard_fields]
    exact ⟨rfl, rfl, rfl⟩
  · intro s p ho hk hl
    refine ⟨_, exec_sdoTimeout ho hk hl, sdoOf_setSdo _ _ _, rfl, ?_⟩
    rw [← sdoNode_sdoAbort s p p .protocolTimeout]
    rfl

end Sys2Proof.Machine
end

section
/-!
What a read shows after reset (O3).
-/
namespace Sys2Proof.Machine
open Sys2Proof

/-- After reset no numeric entry is listed, so each one reads its default. -/
@[simp] theorem reg_reset (k : Nat) : State.reset.reg k = regDefault k := rfl

/-- After reset no byte-string entry is listed, so each one reads its default. -/
@[simp] theorem blob_reset (k : Nat) : State.reset.blob k = blobDefault k := rfl

/-- After reset no cue is listed: each handle is free. -/
@[simp] theorem cue_reset (k : Nat) : State.reset.cue k = Cue.init := rfl

/-- Reset lists no entry, so it has the canonical form. -/
theorem canonical_reset : Canonical State.reset := ⟨rfl, rfl⟩

/-- The state of an axis has the default DISABLED (R125). -/
theorem axisState_reset (n : Fin 16) : State.reset.axisState n = axDisabled := by
  revert n
  simp only [State.axisState, reg_reset]
  decide

/-- Settles O3: reset lists no entry, and the tables of the chapters give the defaults. -/
theorem resetHoldsTheDefaults : Obligations.ResetHoldsTheDefaults := by
  unfold Obligations.ResetHoldsTheDefaults
  simp only [reg_reset, blob_reset, cue_reset]
  refine ⟨canonical_reset, rfl, fun _ => trivial, fun _ => trivial, ?_, ?_, ?_, ?_, ?_, ?_, ?_, ?_, ?_, ?_,
    axisState_reset, fun _ => rfl⟩ <;> decide

end Sys2Proof.Machine
end

section
/-!
The numbers that an accepted write takes (O7).
-/
namespace Sys2Proof.Machine
open Sys2Proof

variable {s : State} {id : Nat} {x : Source}

/-! ### The source table -/

theorem id_of_source (h : s.source id = some x) : x.id = id := by simpa using List.find?_some h

/-- A change of a source's entry that keeps its name is what the source then reads. -/
theorem source_updSource (s : State) (id : Nat) {f : Source → Source} (hf : ∀ x, (f x).id = x.id) :
    (s.updSource id f).source id = (s.source id).map f := by
  have sameName : ((fun x : Source => x.id == id) ∘ fun x => if x.id = id then f x else x) = fun x => x.id == id := by
    funext x
    by_cases hx : x.id = id <;> simp [hx, hf]
  simp only [State.source, State.updSource, List.find?_map, sameName]
  cases h : s.jr.sources.find? (fun x => x.id == id) with
  | none => rfl
  | some x => simp [id_of_source (s := s) h]

/-- A source that has an entry keeps it when one is asked for. -/
theorem source_allocSource_of_some (h : s.source id = some x) : (s.allocSource id).source id = some x := by
  simp [State.allocSource, h]

/-- A source without an entry gets one that starts anew, or none (R83). -/
theorem accepted_source_allocSource (h : s.source id = none) (hx : (s.allocSource id).source id = some x) : x.accepted = 0 := by
  have absent : ∀ y ∈ s.jr.sources, y.id ≠ id := by simpa [State.source] using h
  have hm : x ∈ (s.allocSource id).jr.sources := List.mem_of_find?_eq_some hx
  have named := id_of_source hx
  simp only [State.allocSource, h, Option.isSome_none, Bool.false_eq_true, if_false] at hm
  split at hm
  · obtain hm | hm := List.mem_append.1 hm
    · exact absurd named (absent x hm)
    · rw [List.mem_singleton.1 hm]
  · split at hm
    · obtain ⟨y, hy, hxy⟩ := List.mem_map.1 hm
      split at hxy
      · rw [← hxy]
      · exact absurd named (hxy ▸ absent y hy)
    · exact absurd named (absent x hm)

/-! ### The item -/

/-- The SourceSeq that the next item of a source takes (R75). -/
def State.nextSrcSeq (s : State) (src : Nat) : Nat :=
  match (s.allocSource src).source src with
  | some x => x.accepted + 1
  | none => 1

theorem nextSrcSeq_of_some (h : s.source id = some x) : s.nextSrcSeq id = x.accepted + 1 := by
  simp [State.nextSrcSeq, source_allocSource_of_some h]

theorem nextSrcSeq_of_none (h : s.source id = none) : s.nextSrcSeq id = 1 := by
  unfold State.nextSrcSeq
  split
  next x hx => rw [accepted_source_allocSource h hx]
  next => rfl

/-- The item of an acceptance. -/
def State.newItem (s : State) (slot src : Nat) (acc : Access) (idx sub : Nat) (ty : Ty) (d : Bytes) (aim : Nat) : Item :=
  ⟨s.regN K.nextJournalSeq, src, s.nextSrcSeq src, slot, acc, idx, sub, ty.code, d, aim, .accepted, 0, 0, 0⟩

theorem items_accept_newItem (s : State) (slot src : Nat) (acc : Access) (idx sub : Nat) (ty : Ty) (d : Bytes) (aim : Nat) :
    (s.accept slot src acc idx sub ty d aim).jr.items = s.jr.items ++ [s.newItem slot src acc idx sub ty d aim] := by
  have seq : (s.allocSource src).regN K.nextJournalSeq = s.regN K.nextJournalSeq :=
    congrArg Int.toNat (reg_allocSource s src K.nextJournalSeq)
  unfold State.accept State.newItem
  rw [← seq, items_jwrite]
  exact congrArg (· ++ [_]) (items_allocSource s src)

@[simp] theorem source_jwrite (s : State) (r : JRec) (id : Nat) : (s.jwrite r).source id = s.source id := by
  unfold State.jwrite
  split <;> rfl

/-- After an acceptance the table holds the number that the item took, if it holds the source (R75). -/
theorem accepted_source_accept {s : State} {slot src : Nat} {acc : Access} {idx sub : Nat} {ty : Ty} {d : Bytes} {aim : Nat}
    (h : (s.accept slot src acc idx sub ty d aim).source src = some x) : x.accepted = s.nextSrcSeq src := by
  unfold State.accept at h
  extract_lets u seq srcSeq it v at h
  have table : v.source src = (u.source src).map fun x => { x with accepted := srcSeq, lastAccept := seq } :=
    source_updSource u src fun _ => rfl
  rw [source_jwrite] at h
  obtain ⟨y, -, rfl⟩ := Option.map_eq_some_iff.1 (table.symm.trans h)
  rfl

/-! ### The acceptance of a write -/

/-- What an acceptance leaves in the journal: the item, and the item's number with its source. -/
theorem jr_afterAccept (s : State) (slot : Nat) (q : WriteReq) (r : WriteRule) :
    ∃ acc ty, (s.afterAccept slot q r).jr.items =
        s.jr.items ++ [s.newItem slot (s.sess slot).sourceId acc q.idx q.sub ty q.data (r.aim s q.data)] ∧
      ∀ y, (s.afterAccept slot q r).source (s.sess slot).sourceId = some y → y.accepted = s.nextSrcSeq (s.sess slot).sourceId := by
  unfold State.afterAccept
  extract_lets d src a x t
  have items : t.jr.items = _ := items_accept_newItem ..
  have source (y : Source) (h : t.source src = some y) : y.accepted = s.nextSrcSeq src := accepted_source_accept (s := s) h
  refine ⟨_, _, Eq.trans (b := t.jr.items) ?_ items, fun y h => source y (Eq.trans ?_ h)⟩
  all_goals cases r.long <;> rfl

/-- The session of a write knows the number of its item. -/
theorem lastAccepted_afterAccept (s : State) (slot : Nat) (q : WriteReq) (r : WriteRule) :
    ((s.afterAccept slot q r).sess slot).lastAccepted = s.regN K.nextJournalSeq := by
  unfold State.afterAccept
  extract_lets d src a x t
  have session : t.sess slot = _ := sess_setSess ..
  have number : (t.sess slot).lastAccepted = s.regN K.nextJournalSeq := by rw [session]
  rw [← number]
  cases r.long <;> rfl

@[simp] theorem sourceId_heard (s : State) (slot : Nat) : ((s.heard slot).sess slot).sourceId = (s.sess slot).sourceId := by
  simp [State.heard]

/-- Settles O7: an acceptance puts State.newItem behind the items, with the number after the one that the source table holds. -/
theorem acceptedWriteTakesTheNextNumbers : Obligations.AcceptedWriteTakesTheNextNumbers := by
  unfold Obligations.AcceptedWriteTakesTheNextNumbers
  intro s slot idx sub d r
  obtain ⟨acc, ty, items, source⟩ := jr_afterAccept (s.heard slot) slot ⟨idx, sub, 0, d⟩ r
  rw [sourceId_heard] at items source
  exact ⟨_, items, rfl, rfl, rfl, rfl, rfl, rfl, rfl, rfl, nextJournalSeq_afterAccept .., lastAccepted_afterAccept ..,
    fun x hx => nextSrcSeq_of_some hx, fun h => nextSrcSeq_of_none h, source⟩

end Sys2Proof.Machine
end

section
/-!
The completion records and the order of a source (O13).
-/
namespace Sys2Proof.Machine
open Sys2Proof

variable {s : State} {i j : Item} {q : Nat}

/-! ### The items in flight -/

theorem seq_of_item (h : s.item q = some i) : i.seq = q := by simpa using List.find?_some h

theorem mem_of_item (h : s.item q = some i) : i ∈ s.jr.items := List.mem_of_find?_eq_some h

@[simp] theorem items_clearBusy (s : State) : s.clearBusy.jr.items = s.jr.items := rfl

/-- A completion record takes its item, by its number, out of the items in flight and leaves the others. -/
theorem items_complete (s : State) (i : Item) :
    (s.complete i).jr.items = s.jr.items.filter (fun j => j.seq != i.seq) := by
  unfold State.complete
  extract_lets a jr b c d
  have hd : d.jr.items = s.jr.items.filter (fun j => j.seq != i.seq) :=
    congrArg (List.filter fun j : Item => j.seq != i.seq) (items_jwrite s _)
  split
  · rw [items_clearBusy, hd]
  · exact hd

@[simp] theorem item_complete_self (s : State) (i : Item) : (s.complete i).item i.seq = none := by
  simp [State.item, items_complete]

theorem item_complete_ne (h : q ≠ i.seq) : (s.complete i).item q = s.item q := by
  have skip (x : Item) : (decide ((x.seq != i.seq) = true ∧ (x.seq == q) = true)) = (x.seq == q) := by
    by_cases hx : x.seq = q <;> simp [hx, h]
  simp only [State.item, items_complete, List.find?_filter, skip]

theorem item_complete_of_none (h : s.item q = none) : (s.complete i).item q = none := by
  by_cases hq : q = i.seq
  · rw [hq, item_complete_self]
  · rw [item_complete_ne hq, h]

/-- Fewer items in flight hold back no more items. -/
theorem mayComplete_complete (h : s.mayComplete i = true) : (s.complete j).mayComplete i = true := by
  simp only [State.mayComplete, Bool.and_eq_true, List.all_eq_true, items_complete] at h ⊢
  exact ⟨h.1, fun x hx => h.2 x (List.mem_of_mem_filter hx)⟩

/-! ### The walk over the items (R76) -/

/-- One item of the walk: its completion record is written where R76 allows it. -/
def State.tryComplete (s : State) (i : Item) : State :=
  match s.item i.seq with
  | some j => if s.mayComplete j then s.complete j else s
  | none => s

theorem completeAllowed_eq (s : State) :
    s.completeAllowed = if s.reg K.journalState = 2 then s else s.jr.items.foldl State.tryComplete s := rfl

/-- What a step of the walk can do: nothing, or the completion of an item in flight that may complete. -/
theorem tryComplete_cases (s : State) (i : Item) :
    s.tryComplete i = s ∨ ∃ j, s.item j.seq = some j ∧ s.mayComplete j = true ∧ s.tryComplete i = s.complete j := by
  unfold State.tryComplete
  split
  next j hj =>
    split
    next hm => exact .inr ⟨j, seq_of_item hj ▸ hj, hm, rfl⟩
    next => exact .inl rfl
  next => exact .inl rfl

/-- What each completion of an item that may complete keeps, the whole walk keeps. -/
theorem foldl_tryComplete_keeps {P : State → Prop}
    (hP : ∀ u j, P u → u.item j.seq = some j → u.mayComplete j = true → P (u.complete j)) (l : List Item) (hs : P s) :
    P (l.foldl State.tryComplete s) := by
  induction l generalizing s with
  | nil => exact hs
  | cons x t ih =>
    rw [List.foldl_cons]
    obtain h | ⟨j, hj, hm, h⟩ := tryComplete_cases s x
    · exact ih (by rwa [h])
    · exact ih (h ▸ hP s j hs hj hm)

theorem completeAllowed_keeps {P : State → Prop}
    (hP : ∀ u j, P u → u.item j.seq = some j → u.mayComplete j = true → P (u.complete j)) (hs : P s) :
    P s.completeAllowed := by
  rw [completeAllowed_eq]
  split
  · exact hs
  · exact foldl_tryComplete_keeps hP _ hs

/-- An item has its completion record, or is in flight and may get it. -/
def Completable (i : Item) (u : State) : Prop :=
  u.item i.seq = none ∨ u.item i.seq = some i ∧ u.mayComplete i = true

theorem Completable.complete (h : Completable i s) (j : Item) : Completable i (s.complete j) := by
  obtain h | ⟨hi, hm⟩ := h
  · exact .inl (item_complete_of_none h)
  · by_cases hq : i.seq = j.seq
    · exact .inl (by rw [hq, item_complete_self])
    · exact .inr ⟨by rw [item_complete_ne hq, hi], mayComplete_complete hm⟩

theorem Completable.item_tryComplete (h : Completable i s) : (s.tryComplete i).item i.seq = none := by
  obtain h | ⟨hi, hm⟩ := h
  · simp [State.tryComplete, h]
  · simp [State.tryComplete, hi, hm]

/-- The walk over a list that holds an item that may complete leaves it completed. -/
theorem Completable.item_foldl (h : Completable i s) {l : List Item} (hl : i ∈ l) :
    (l.foldl State.tryComplete s).item i.seq = none := by
  obtain ⟨a, b, rfl⟩ := List.append_of_mem hl
  rw [List.foldl_append, List.foldl_cons]
  have before : Completable i (a.foldl State.tryComplete s) :=
    foldl_tryComplete_keeps (fun _ j hu _ _ => hu.complete j) a h
  exact foldl_tryComplete_keeps (P := fun u => u.item i.seq = none)
    (fun _ _ hu _ _ => item_complete_of_none hu) b before.item_tryComplete

/-- An item that an earlier one of its source holds back, and that earlier one unfinished. -/
structure HeldBack (i j : Item) (u : State) : Prop where
  later : u.item i.seq = some i
  earlier : u.item j.seq = some j

theorem HeldBack.complete (hsrc : j.source = i.source) (hlt : j.srcSeq < i.srcSeq) (hj : j.state ≠ .finished)
    (h : HeldBack i j s) {x : Item} (hx : s.item x.seq = some x) (hm : s.mayComplete x = true) :
    HeldBack i j (s.complete x) := by
  simp only [State.mayComplete, Bool.and_eq_true, List.all_eq_true, beq_iff_eq] at hm
  have notLater : i.seq ≠ x.seq := by
    intro e
    obtain rfl : i = x := Option.some.inj (h.later.symm.trans (e ▸ hx))
    have := hm.2 j (mem_of_item h.earlier)
    simp [hsrc] at this
    omega
  have notEarlier : j.seq ≠ x.seq := by
    intro e
    obtain rfl : j = x := Option.some.inj (h.earlier.symm.trans (e ▸ hx))
    exact hj hm.1
  exact ⟨by rw [item_complete_ne notLater, h.later], by rw [item_complete_ne notEarlier, h.earlier]⟩

/-- Settles O13: the walk completes an item that may complete, and neither an item held back nor the unfinished one before it. -/
theorem completionKeepsTheOrderOfASource : Obligations.CompletionKeepsTheOrderOfASource := by
  unfold Obligations.CompletionKeepsTheOrderOfASource
  refine ⟨fun s i hs hi hf hfirst => ⟨_, rfl, ?_⟩, fun s i j hi hj hsrc hlt hf => ⟨_, rfl, ?_⟩⟩
  · have may : s.mayComplete i = true := by
      simp only [State.mayComplete, hf, beq_self_eq_true, Bool.true_and, List.all_eq_true, Bool.or_eq_true, bne_iff_ne, decide_eq_true_eq]
      exact fun x hx => or_iff_not_imp_left.2 fun hx' => hfirst x hx (not_not.1 hx')
    rw [completeAllowed_eq, if_neg hs]
    exact Completable.item_foldl (.inr ⟨hi, may⟩) (mem_of_item hi)
  · have held : HeldBack i j s.completeAllowed :=
      completeAllowed_keeps (fun _ _ hu hx hm => hu.complete hsrc hlt hf hx hm) ⟨hi, hj⟩
    exact ⟨held.later, held.earlier⟩

end Sys2Proof.Machine
end

section
/-!
What the operations of every function leave as it is (O57): the power state, the keys, the clock, whether the journal accepts, and the
saved time. The headings name the model's files.
-/
namespace Sys2Proof.Machine
open Sys2Proof

/-- What the start of a function leaves as it is. -/
structure Vitals where
  power : Power
  keys : Tab KeySlot
  tick : Nat
  now : Nat
  accepting : Bool
  savedTime : Nat

def State.vitals (s : State) : Vitals := ⟨s.power, s.keys, s.tick, s.now, s.jr.accepting, s.jr.savedTime⟩

/-- The effect of a rule leaves them. -/
def RuleCalm (r : WriteRule) : Prop := ∀ s slot seq d, (r.effect s slot seq d).vitals = s.vitals

@[simp] theorem vitals_ite (c : Prop) [Decidable c] (s t : State) :
    (if c then s else t).vitals = if c then s.vitals else t.vitals := apply_ite _ _ _ _

@[simp] theorem vitals_foldl {α : Type} {f : State → α → State} (hf : ∀ s x, (f s x).vitals = s.vitals) (l : List α) (s : State) :
    (l.foldl f s).vitals = s.vitals := by
  induction l generalizing s with
  | nil => rfl
  | cons x t ih => rw [List.foldl_cons, ih, hf]

/-- A change of other fields leaves them. -/
@[simp] theorem vitals_mk (s : State)
    {x_regs x_blobs x_sessions x_sdo x_lastReply x_lastSdo x_ifcPending x_net x_book x_nonces x_windows x_fleet x_axes x_cues
    x_lines x_deferred x_lastAct x_impls x_sections x_cov x_tc x_sv x_ls x_feeds x_maint x_canBufs x_canPorts x_ctxs x_caps x_ains
    x_fins x_acus x_brgs x_imu x_supplies x_aligns x_fuse x_cams x_fsync x_streams x_vision x_cells x_regions x_slots x_fabric
    x_challenges x_island x_yield x_archive x_rdv x_panel x_tag x_zones x_fans x_fresh x_pending} :
    (State.mk x_regs x_blobs x_sessions x_sdo x_lastReply x_lastSdo x_ifcPending s.jr s.clock x_net x_book x_nonces x_windows
    x_fleet x_axes x_cues x_lines x_deferred x_lastAct x_impls x_sections x_cov x_tc x_sv x_ls x_feeds x_maint x_canBufs
    x_canPorts x_ctxs x_caps x_ains x_fins x_acus x_brgs x_imu x_supplies x_aligns x_fuse x_cams x_fsync x_streams x_vision
    x_cells x_regions x_slots x_fabric s.keys x_challenges x_island x_yield x_archive x_rdv x_panel x_tag x_zones x_fans s.power
    x_fresh x_pending).vitals = s.vitals := by
  simp only [State.vitals, State.tick, State.now]

@[simp] theorem vitals_with_jr (s : State) {x : Journal} (ha : x.accepting = s.jr.accepting) (ht : x.savedTime = s.jr.savedTime) :
    ({ s with jr := x } : State).vitals = s.vitals := by
  simp only [State.vitals, State.tick, State.now, ha, ht]

@[simp] theorem vitals_with_clock (s : State) {x : Clock} (hk : x.tick = s.clock.tick) (ht : x.time = s.clock.time) :
    ({ s with clock := x } : State).vitals = s.vitals := by
  simp only [State.vitals, State.tick, State.now, hk, ht]

variable (s : State)

/-! ### Ops -/

@[simp] theorem vitals_setReg (k : Nat) (v : Int) : (s.setReg k v).vitals = s.vitals := by simp [State.setReg]

@[simp] theorem vitals_setBlob (k : Nat) (v : Bytes) : (s.setBlob k v).vitals = s.vitals := by simp [State.setBlob]

@[simp] theorem vitals_bumpBy (k : Nat) (n : Int) : (s.bumpBy k n).vitals = s.vitals := by simp [State.bumpBy]

@[simp] theorem vitals_bump (k : Nat) : (s.bump k).vitals = s.vitals := by simp [State.bump]

@[simp] theorem vitals_setFlag (k i : Nat) (b : Bool) : (s.setFlag k i b).vitals = s.vitals := by simp [State.setFlag]

@[simp] theorem vitals_draw : s.draw.2.vitals = s.vitals := by simp [State.draw]

/-! ### FleetOps -/

@[simp] theorem vitals_publish (m : Msg) : (s.publish m).vitals = s.vitals := by simp [State.publish]

/-! ### BookOps -/

@[simp] theorem vitals_alert (r : Rec) : (s.alert r).vitals = s.vitals := by simp [State.alert]

@[simp] theorem vitals_noteFault (source unit idx sub : Nat) :
    (s.noteFault source unit idx sub).vitals = s.vitals := by simp [State.noteFault]

@[simp] theorem vitals_circulate : s.circulate.vitals = s.vitals := by simp [State.circulate]

@[simp] theorem vitals_clearUpTo (r : Rec) : (s.clearUpTo r).vitals = s.vitals := by simp [State.clearUpTo]

@[simp] theorem vitals_admitRecord (time tick source code unit : Nat) (payload : Bytes) :
    (s.admitRecord time tick source code unit payload).vitals = s.vitals := by simp [State.admitRecord]

@[simp] theorem vitals_suppress (source : Nat) : (s.suppress source).vitals = s.vitals := by simp [State.suppress]

@[simp] theorem vitals_admitRec (r : Rec) : (s.admitRec r).vitals = s.vitals := by simp [State.admitRec]

@[simp] theorem vitals_admitOffer (r : Rec) : (s.admitOffer r).vitals = s.vitals := by simp [State.admitOffer]

@[simp] theorem vitals_admitOffers : s.admitOffers.vitals = s.vitals := by
  unfold State.admitOffers
  split <;> simp

@[simp] theorem vitals_offerAt (time tick : Nat) (source : Src) (code unit : Nat) (payload : Bytes) :
    (s.offerAt time tick source code unit payload).vitals = s.vitals := by simp [State.offerAt]

@[simp] theorem vitals_offer (source : Src) (code unit : Nat) (payload : Bytes) :
    (s.offer source code unit payload).vitals = s.vitals := by simp [State.offer]

@[simp] theorem vitals_event (source : Src) (unit idx sub detail : Nat) :
    (s.event source unit idx sub detail).vitals = s.vitals := by simp [State.event]

@[simp] theorem vitals_eventKey (source : Src) (unit k detail : Nat) :
    (s.eventKey source unit k detail).vitals = s.vitals := by simp [State.eventKey]

/-! ### JournalOps -/

@[simp] theorem vitals_jwrite (r : JRec) : (s.jwrite r).vitals = s.vitals := by simp [State.jwrite]

@[simp] theorem vitals_updSource (id : Nat) (f : Source → Source) :
    (s.updSource id f).vitals = s.vitals := by simp [State.updSource]

@[simp] theorem vitals_mapItem (seq : Nat) (f : Item → Item) : (s.mapItem seq f).vitals = s.vitals := by simp [State.mapItem]

@[simp] theorem vitals_startItem (seq : Nat) : (s.startItem seq).vitals = s.vitals := by simp [State.startItem]

@[simp] theorem vitals_finish (seq : Nat) (o : Outcome) (detail : Nat) : (s.finish seq o detail).vitals = s.vitals := by
  unfold State.finish
  split <;> simp

@[simp] theorem vitals_finishAll (seqs : List Nat) (o : Outcome) (detail : Nat) :
    (s.finishAll seqs o detail).vitals = s.vitals := by simp [State.finishAll]

@[simp] theorem vitals_cancelAimed (aim : Nat) : (s.cancelAimed aim).vitals = s.vitals := by simp [State.cancelAimed]

@[simp] theorem vitals_clearBusy : s.clearBusy.vitals = s.vitals := rfl

@[simp] theorem vitals_complete (i : Item) : (s.complete i).vitals = s.vitals := by simp [State.complete]

@[simp] theorem vitals_completeAllowed : s.completeAllowed.vitals = s.vitals :=
  completeAllowed_keeps (P := fun u => u.vitals = s.vitals) (fun _ _ hu _ _ => by simpa using hu) rfl

@[simp] theorem vitals_beginDisable (aim seq due : Nat) :
    (s.beginDisable aim seq due).vitals = s.vitals := by simp [State.beginDisable]

@[simp] theorem vitals_endDisable (aim : Nat) : (s.endDisable aim).vitals = s.vitals := by simp [State.endDisable]

/-! ### Pricking -/

@[simp] theorem vitals_setPslot (n : Nat) (x : PSlot) : (s.setPslot n x).vitals = s.vitals := by simp [State.setPslot]

@[simp] theorem vitals_setRegion (n : Nat) (x : Region) : (s.setRegion n x).vitals = s.vitals := by simp [State.setRegion]

/-! ### RequestOps -/

@[simp] theorem vitals_setSess (slot : Nat) (x : Session) : (s.setSess slot x).vitals = s.vitals := by simp [State.setSess]

@[simp] theorem vitals_putEntry (idx sub : Nat) (data : Bytes) : (s.putEntry idx sub data).vitals = s.vitals := by
  unfold State.putEntry
  split <;> simp

@[simp] theorem vitals_settle (idx sub seq : Nat) (data : Bytes) :
    (s.settle idx sub seq data).vitals = s.vitals := by simp [State.settle]

@[simp] theorem calm_settingRule (idx sub : Nat) (check : State → Bytes → Option Abort) {after : State → State}
    (h : ∀ s, (after s).vitals = s.vitals) : RuleCalm (settingRule idx sub check after) :=
  fun _ _ _ _ => by simp [settingRule, h]

@[simp] theorem calm_lockedRule (idx sub : Nat) (locked : State → Bool) : RuleCalm (lockedRule idx sub locked) :=
  calm_settingRule _ _ _ fun _ => rfl

/-! ### SceneOps -/

@[simp] theorem vitals_setCell (p : Nat) (x : Cell) : (s.setCell p x).vitals = s.vitals := by simp [State.setCell]

/-! ### AxisOps -/

@[simp] theorem vitals_setAxis (n : Nat) (x : Axis) : (s.setAxis n x).vitals = s.vitals := by simp [State.setAxis]

@[simp] theorem vitals_setCue (n : Nat) (x : Cue) : (s.setCue n x).vitals = s.vitals := by simp [State.setCue]

@[simp] theorem vitals_setLine (n : Nat) (x : Line) : (s.setLine n x).vitals = s.vitals := by simp [State.setLine]

@[simp] theorem vitals_setImpl (n : Nat) (x : Impl) : (s.setImpl n x).vitals = s.vitals := by simp [State.setImpl]

@[simp] theorem vitals_endCue (slot : Nat) (o : Outcome) (detail : Nat) :
    (s.endCue slot o detail).vitals = s.vitals := by simp [State.endCue]

@[simp] theorem vitals_endCues (slots : List Nat) (o : Outcome) (detail : Nat) :
    (s.endCues slots o detail).vitals = s.vitals := by simp [State.endCues]

@[simp] theorem vitals_cancelCuesOnTarget (kind target : Nat) :
    (s.cancelCuesOnTarget kind target).vitals = s.vitals := by simp [State.cancelCuesOnTarget]

@[simp] theorem vitals_clearLine (n : Nat) : (s.clearLine n).vitals = s.vitals := by simp [State.clearLine]

@[simp] theorem vitals_showAxis (n : Nat) : (s.showAxis n).vitals = s.vitals := by simp [State.showAxis]

@[simp] theorem vitals_beginResume (n : Nat) (snap : AxisSnap) :
    (s.beginResume n snap).vitals = s.vitals := by simp [State.beginResume]

/-! ### SolenoidOps -/

@[simp] theorem vitals_setSv (n : Nat) (x : Sv) : (s.setSv n x).vitals = s.vitals := by simp [State.setSv]

@[simp] theorem vitals_svDisableDone (ch : Nat) : (s.svDisableDone ch).vitals = s.vitals := by simp [State.svDisableDone]

/-! ### LoadOps -/

@[simp] theorem vitals_setLs (n : Nat) (x : Ls) : (s.setLs n x).vitals = s.vitals := by simp [State.setLs]

@[simp] theorem vitals_lsOpen (n : Nat) : (s.lsOpen n).vitals = s.vitals := by simp [State.lsOpen]

@[simp] theorem vitals_lsSwitchOn (n : Nat) : (s.lsSwitchOn n).vitals = s.vitals := by simp [State.lsSwitchOn]

@[simp] theorem vitals_lsTrip (n cause : Nat) : (s.lsTrip n cause).vitals = s.vitals := by simp [State.lsTrip]

@[simp] theorem vitals_lsNextDuty (n : Nat) : (s.lsNextDuty n).vitals = s.vitals := by simp [State.lsNextDuty]

@[simp] theorem vitals_lsDutyDue (n : Nat) : (s.lsDutyDue n).vitals = s.vitals := by
  unfold State.lsDutyDue
  split <;> simp

@[simp] theorem vitals_lsSetDuty (n : Nat) (v : Int) : (s.lsSetDuty n v).vitals = s.vitals := by simp [State.lsSetDuty]

@[simp] theorem vitals_lsDisable (n : Nat) : (s.lsDisable n).vitals = s.vitals := by simp [State.lsDisable]

@[simp] theorem vitals_lsEnableNow (n : Nat) : (s.lsEnableNow n).vitals = s.vitals := by simp [State.lsEnableNow]

@[simp] theorem vitals_showWire (n : Nat) : (s.showWire n).vitals = s.vitals := by simp [State.showWire]

@[simp] theorem vitals_showRating (n : Nat) : (s.showRating n).vitals = s.vitals := by simp [State.showRating]

/-! ### CanOps -/

@[simp] theorem vitals_setCan (p : Nat) (x : CanPort) : (s.setCan p x).vitals = s.vitals := by simp [State.setCan]

@[simp] theorem vitals_setTxBuf (p b : Nat) (x : TxBuf) : (s.setTxBuf p b x).vitals = s.vitals := by simp [State.setTxBuf]

@[simp] theorem vitals_canStart (p : Nat) : (s.canStart p).vitals = s.vitals := by
  unfold State.canStart
  split <;> simp

@[simp] theorem vitals_canService (p : Nat) (f : CanFrame) :
    (s.canService p f).vitals = s.vitals := by simp [State.canService]

@[simp] theorem vitals_canDropAll (p : Nat) : (s.canDropAll p).vitals = s.vitals := by simp [State.canDropAll]

@[simp] theorem vitals_scheduleDrop (p : Nat) : (s.scheduleDrop p).vitals = s.vitals := by simp [State.scheduleDrop]

@[simp] theorem vitals_cancelSlotCues (p : Nat) : (s.cancelSlotCues p).vitals = s.vitals := by simp [State.cancelSlotCues]

/-! ### SensingOps -/

@[simp] theorem vitals_setAin (n : Nat) (x : Ain) : (s.setAin n x).vitals = s.vitals := by simp [State.setAin]

@[simp] theorem vitals_setFin (n : Nat) (x : FinIn) : (s.setFin n x).vitals = s.vitals := by simp [State.setFin]

@[simp] theorem vitals_setAcu (n : Nat) (x : Acu) : (s.setAcu n x).vitals = s.vitals := by simp [State.setAcu]

@[simp] theorem vitals_setBrg (n : Nat) (x : Brg) : (s.setBrg n x).vitals = s.vitals := by simp [State.setBrg]

@[simp] theorem vitals_inputFault (c : InClass) (n bit : Nat) :
    (s.inputFault c n bit).vitals = s.vitals := by simp [State.inputFault]

/-! ### ContextOps -/

@[simp] theorem vitals_setCtx (n : Nat) (x : Ctx) : (s.setCtx n x).vitals = s.vitals := by simp [State.setCtx]

@[simp] theorem vitals_showLoad : s.showLoad.vitals = s.vitals := by simp [State.showLoad]

@[simp] theorem vitals_ctxStart (n : Nat) (pl : Nat × Nat) : (s.ctxStart n pl).vitals = s.vitals := by simp [State.ctxStart]

/-! ### CoverOps -/

@[simp] theorem vitals_setTile (k : Nat) (x : CovTile) : (s.setTile k x).vitals = s.vitals := by simp [State.setTile]

/-! ### VisionOps -/

@[simp] theorem vitals_setCam (n : Nat) (x : Cam) : (s.setCam n x).vitals = s.vitals := by simp [State.setCam]

@[simp] theorem vitals_setStream (k : Nat) (x : Stream) : (s.setStream k x).vitals = s.vitals := by simp [State.setStream]

@[simp] theorem vitals_showRegion : s.showRegion.vitals = s.vitals := by simp [State.showRegion]

/-! ### SecurityOps -/

@[simp] theorem vitals_dropChallenge (slot : Nat) : (s.dropChallenge slot).vitals = s.vitals := by simp [State.dropChallenge]

/-! ### FusionOps -/

@[simp] theorem vitals_setFuse (x : Fuse) : (s.setFuse x).vitals = s.vitals := by simp [State.setFuse]

@[simp] theorem vitals_showFusion : s.showFusion.vitals = s.vitals := by simp [State.showFusion]

@[simp] theorem vitals_clearWaiting (warmup : Nat) : (s.clearWaiting warmup).vitals = s.vitals := by
  unfold State.clearWaiting
  split <;> simp

@[simp] theorem vitals_fuseClear : s.fuseClear.vitals = s.vitals := by simp [State.fuseClear]

@[simp] theorem vitals_fuseHalt : s.fuseHalt.vitals = s.vitals := by simp [State.fuseHalt]

@[simp] theorem vitals_stopDrive (run : Bool) : (s.stopDrive run).vitals = s.vitals := by simp [State.stopDrive]

@[simp] theorem vitals_stopNow : s.stopNow.vitals = s.vitals := by simp [State.stopNow]

@[simp] theorem vitals_fuseDisable : s.fuseDisable.vitals = s.vitals := by simp [State.fuseDisable]

/-! ### Fusion -/

@[simp] theorem calm_fusionEnableRule : RuleCalm fusionEnableRule := fun _ _ _ _ => by simp [fusionEnableRule]

/-! ### Vision -/

@[simp] theorem vitals_portLink (p : Nat) : (s.portLink p).vitals = s.vitals := by simp [State.portLink]

theorem calm_camPortRule (p sub : Nat) : RuleCalm (camPortRule p sub) := by
  unfold camPortRule
  split
  · exact fun _ _ _ _ => by simp
  · split
    · exact fun _ _ _ _ => by simp
    · exact calm_lockedRule _ _ _

@[simp] theorem calm_settingsCommitRule (n : Nat) :
    RuleCalm (settingsCommitRule n) := fun _ _ _ _ => by simp [settingsCommitRule]

@[simp] theorem calm_streamEnableRule (k : Nat) : RuleCalm (streamEnableRule k) := fun _ _ _ _ => by simp [streamEnableRule]

/-! ### CueOps -/

@[simp] theorem vitals_armCue (c : CueRec) (origin jseq region : Nat) :
    (s.armCue c origin jseq region).vitals = s.vitals := by simp [State.armCue]

@[simp] theorem vitals_setSection (n : Nat) (x : Section) :
    (s.setSection n x).vitals = s.vitals := by simp [State.setSection]

@[simp] theorem vitals_sectionSet (n : Nat) (on : Bool) (why : Nat) :
    (s.sectionSet n on why).vitals = s.vitals := by simp [State.sectionSet]

/-! ### SectionOps -/

@[simp] theorem vitals_putMask (value : Option Bytes) : (s.putMask value).vitals = s.vitals := by
  unfold State.putMask
  split <;> simp

@[simp] theorem vitals_setClient (c : Nat) (x : TcClient) : (s.setClient c x).vitals = s.vitals := by simp [State.setClient]

@[simp] theorem vitals_disarmSection (n : Nat) : (s.disarmSection n).vitals = s.vitals := by
  unfold State.disarmSection
  split <;> simp

/-! ### Estimator -/

@[simp] theorem vitals_axisStart (n : Nat) : (s.axisStart n).vitals = s.vitals := by simp [State.axisStart]

/-! ### Book -/

@[simp] theorem vitals_commitOne : s.commitOne.vitals = s.vitals := by
  unfold State.commitOne
  split <;> simp

/-! ### ArchiveOps -/

@[simp] theorem vitals_loadField (f : Nat) : (s.loadField f).vitals = s.vitals := by simp [State.loadField]

/-! ### Sections -/

@[simp] theorem calm_implementEnableRule (n : Nat) :
    RuleCalm (implementEnableRule n) := fun _ _ _ _ => by simp [implementEnableRule]

@[simp] theorem vitals_tcLose (c : Nat) : (s.tcLose c).vitals = s.vitals := by simp [State.tcLose]

@[simp] theorem vitals_tcLoseAll : s.tcLoseAll.vitals = s.vitals := by simp [State.tcLoseAll]

@[simp] theorem vitals_showTc : s.showTc.vitals = s.vitals := by simp [State.showTc]

@[simp] theorem calm_tcEnableRule : RuleCalm tcEnableRule := calm_settingRule _ _ _ fun _ => by simp

/-! ### SessionOps -/

@[simp] theorem vitals_openSession (slot source : Nat) :
    (s.openSession slot source).vitals = s.vitals := by simp [State.openSession]

@[simp] theorem vitals_closeSession (slot : Nat) : (s.closeSession slot).vitals = s.vitals := by simp [State.closeSession]

@[simp] theorem vitals_setSdo (p : Nat) (x : Sdo) : (s.setSdo p x).vitals = s.vitals := by simp [State.setSdo]

@[simp] theorem vitals_syncSdo (p : Nat) (failed : Bool) : (s.syncSdo p failed).vitals = s.vitals := by simp [State.syncSdo]

/-! ### Can -/

@[simp] theorem vitals_canErrors (p : Nat) (tec rec : Int) :
    (s.canErrors p tec rec).vitals = s.vitals := by simp [State.canErrors]

@[simp] theorem vitals_claimAddress (p a : Nat) : (s.claimAddress p a).vitals = s.vitals := by simp [State.claimAddress]

@[simp] theorem vitals_portActive (p : Nat) : (s.portActive p).vitals = s.vitals := by
  simp only [State.portActive]
  repeat' split
  all_goals simp

@[simp] theorem vitals_addressGone (p state : Nat) : (s.addressGone p state).vitals = s.vitals := by simp [State.addressGone]

@[simp] theorem vitals_portLeaves (p : Nat) (state : Int) :
    (s.portLeaves p state).vitals = s.vitals := by simp [State.portLeaves]

@[simp] theorem vitals_detectAt (p i : Nat) : (s.detectAt p i).vitals = s.vitals := by simp [State.detectAt]

@[simp] theorem vitals_portStart (p : Nat) : (s.portStart p).vitals = s.vitals := by
  simp only [State.portStart]
  repeat' split
  all_goals simp

@[simp] theorem vitals_portStop (p : Nat) : (s.portStop p).vitals = s.vitals := by simp [State.portStop]

@[simp] theorem calm_portEnableRule (p : Nat) : RuleCalm (portEnableRule p) := fun _ _ _ _ => by simp [portEnableRule]

@[simp] theorem calm_scheduleEnableRule (p : Nat) :
    RuleCalm (scheduleEnableRule p) := fun _ _ _ _ => by simp [scheduleEnableRule]

/-! ### Solenoids -/

@[simp] theorem calm_svEnableRule (ch : Nat) : RuleCalm (svEnableRule ch) := fun _ _ _ _ => by simp [svEnableRule]

@[simp] theorem calm_bankEnableRule (b : Nat) : RuleCalm (bankEnableRule b) := calm_settingRule _ _ _ fun _ => by simp

/-! ### Sensing -/

@[simp] theorem calm_inputEnableRule (idx : Nat) (check : State → Option Abort) {start : State → State}
    (h : ∀ s, (start s).vitals = s.vitals) : RuleCalm (inputEnableRule idx check start) :=
  fun _ _ _ _ => by simp [inputEnableRule, h]

/-! ### Contexts -/

@[simp] theorem calm_ctxEnableRule (n : Nat) : RuleCalm (ctxEnableRule n) := by
  intro s slot seq d
  simp only [ctxEnableRule]
  repeat' split
  all_goals simp

/-! ### Display -/

@[simp] theorem vitals_setPanel (x : Panel) : (s.setPanel x).vitals = s.vitals := by simp [State.setPanel]

@[simp] theorem vitals_dropFlip : s.dropFlip.vitals = s.vitals := by
  unfold State.dropFlip
  split <;> simp

@[simp] theorem vitals_takeSettings : s.takeSettings.vitals = s.vitals := by simp [State.takeSettings]

@[simp] theorem vitals_panelDown (fault : Bool) : (s.panelDown fault).vitals = s.vitals := by simp [State.panelDown]

@[simp] theorem vitals_panelUp (item : Nat) : (s.panelUp item).vitals = s.vitals := by simp [State.panelUp]

@[simp] theorem calm_panelEnableRule : RuleCalm panelEnableRule := fun _ _ _ _ => by simp [panelEnableRule]

/-! ### FabricOps -/

@[simp] theorem vitals_showCells : s.showCells.vitals = s.vitals := by simp [State.showCells]

@[simp] theorem vitals_putOem (o : OemEntry) (v : Bytes) : (s.putOem o v).vitals = s.vitals := by simp [State.putOem]

@[simp] theorem vitals_oemEnter (r slot : Nat) (old : List (OemEntry × Bytes)) :
    (s.oemEnter r slot old).vitals = s.vitals := by simp [State.oemEnter]

@[simp] theorem calm_oemRule (idx sub : Nat) : RuleCalm (oemRule idx sub) := by
  intro s slot seq d
  simp only [oemRule]
  repeat' split
  all_goals simp

@[simp] theorem vitals_stageScene (b : Bytes) : (s.stageScene b).vitals = s.vitals := by simp [State.stageScene]

@[simp] theorem vitals_clearStates (incoming outgoing : Bytes) :
    (s.clearStates incoming outgoing).vitals = s.vitals := by simp [State.clearStates]

@[simp] theorem vitals_takeShadow (r : Nat) : (s.takeShadow r).vitals = s.vitals := by simp [State.takeShadow]

@[simp] theorem vitals_showRunning (r slot : Nat) : (s.showRunning r slot).vitals = s.vitals := by simp [State.showRunning]

@[simp] theorem vitals_showStore : s.showStore.vitals = s.vitals := vitals_setReg _ _ _

/-! ### TimeOps -/

@[simp] theorem vitals_setDom (d : Nat) (x : Domain) : (s.setDom d x).vitals = s.vitals := by simp [State.setDom]

@[simp] theorem vitals_setRate (r : Int) : (s.setRate r).vitals = s.vitals := by simp [State.setRate]

@[simp] theorem vitals_selectSource (k : Nat) : (s.selectSource k).vitals = s.vitals := by simp [State.selectSource]

@[simp] theorem vitals_noSource : s.noSource.vitals = s.vitals := by
  unfold State.noSource
  extract_lets t clock u
  have hu : u.vitals = s.vitals := (vitals_with_clock t rfl rfl).trans (vitals_setReg s _ _)
  clear_value u
  split <;> simp [t, hu]

@[simp] theorem vitals_reselect : s.reselect.vitals = s.vitals := by
  unfold State.reselect
  split <;> simp

@[simp] theorem vitals_freeRunStart : s.freeRunStart.vitals = s.vitals := by simp [State.freeRunStart]

/-! ### PtpOps -/

@[simp] theorem vitals_setPtpRole (p d r : Nat) : (s.setPtpRole p d r).vitals = s.vitals := by simp [State.setPtpRole]

@[simp] theorem vitals_showDomain (d : Nat) : (s.showDomain d).vitals = s.vitals := by simp [State.showDomain]

@[simp] theorem vitals_judgeDomain (d : Nat) : (s.judgeDomain d).vitals = s.vitals := by simp [State.judgeDomain]

@[simp] theorem vitals_setSlave (d : Nat) (p : Option Nat) : (s.setSlave d p).vitals = s.vitals := by simp [State.setSlave]

@[simp] theorem vitals_setGm (d : Nat) (slave : Option Nat) (identity : Nat) :
    (s.setGm d slave identity).vitals = s.vitals := by simp [State.setGm]

@[simp] theorem vitals_decideRoles (d : Nat) : (s.decideRoles d).vitals = s.vitals := by simp [State.decideRoles]

@[simp] theorem vitals_offerTurn (was : State) (d : Nat) : (s.offerTurn was d).vitals = s.vitals := by simp [State.offerTurn]

/-! ### Ethernet -/

@[simp] theorem vitals_showIf (n : Nat) : (s.showIf n).vitals = s.vitals := by simp [State.showIf]

/-! ### ServiceOps -/

@[simp] theorem vitals_setYield (y : Yield) : (s.setYield y).vitals = s.vitals := by simp [State.setYield]

@[simp] theorem vitals_showYield : s.showYield.vitals = s.vitals := by simp [State.showYield]

@[simp] theorem vitals_openStripAt (t : Nat) : (s.openStripAt t).vitals = s.vitals := by simp [State.openStripAt]

@[simp] theorem vitals_publishRdv : s.publishRdv.vitals = s.vitals := by simp [State.publishRdv]

@[simp] theorem vitals_rdvMove (st : Int) : (s.rdvMove st).vitals = s.vitals := by simp [State.rdvMove]

/-! ### Services -/

@[simp] theorem calm_yieldEnableRule : RuleCalm yieldEnableRule := fun _ _ _ _ => by simp [yieldEnableRule]

@[simp] theorem vitals_showUnverified : s.showUnverified.vitals = s.vitals := by simp [State.showUnverified]

@[simp] theorem vitals_fleetDown : s.fleetDown.vitals = s.vitals := by simp [State.fleetDown]

@[simp] theorem calm_fleetEnableRule : RuleCalm fleetEnableRule := fun _ _ _ _ => by simp [fleetEnableRule]

@[simp] theorem calm_rendezvousEnableRule : RuleCalm rendezvousEnableRule := calm_settingRule _ _ _ fun _ => by simp

/-! ### Thermal -/

@[simp] theorem vitals_setZone (n : Nat) (x : Zone) : (s.setZone n x).vitals = s.vitals := by simp [State.setZone]

@[simp] theorem vitals_setFan (f : Nat) (x : Fan) : (s.setFan f x).vitals = s.vitals := by simp [State.setFan]

@[simp] theorem vitals_fanDc (f : Nat) (v : Int) : (s.fanDc f v).vitals = s.vitals := by simp [State.fanDc]

@[simp] theorem vitals_endWindow (f : Nat) : (s.endWindow f).vitals = s.vitals := by simp [State.endWindow]

@[simp] theorem vitals_fanTry (f : Nat) : (s.fanTry f).vitals = s.vitals := by simp [State.fanTry]

@[simp] theorem vitals_fanStop (f : Nat) (st : Int) : (s.fanStop f st).vitals = s.vitals := by simp [State.fanStop]

@[simp] theorem vitals_fanDemandStep (f : Nat) : (s.fanDemandStep f).vitals = s.vitals := by simp [State.fanDemandStep]

@[simp] theorem vitals_fanStart (f : Nat) : (s.fanStart f).vitals = s.vitals := by simp [State.fanStart]

@[simp] theorem calm_fanEnableRule (f : Nat) : RuleCalm (fanEnableRule f) := fun _ _ _ _ => by simp [fanEnableRule]

@[simp] theorem calm_zoneEnableRule (z : Nat) : RuleCalm (zoneEnableRule z) := fun _ _ _ _ => by simp [zoneEnableRule]

/-! ### Loads -/

@[simp] theorem calm_lsEnableRule (n : Nat) : RuleCalm (lsEnableRule n) := fun _ _ _ _ => by simp [lsEnableRule]

/-! ### Settings -/

@[simp] theorem vitals_syncAllSdo : s.syncAllSdo.vitals = s.vitals := by simp [State.syncAllSdo]

/-! ### StartUp -/

@[simp] theorem vitals_keepOem : s.keepOem.vitals = s.vitals := by simp [State.keepOem]

@[simp] theorem vitals_trialReverts : s.trialReverts.vitals = s.vitals := by simp [State.trialReverts]

@[simp] theorem vitals_applyItem (i : Item) : (s.applyItem i).vitals = s.vitals := by
  simp only [State.applyItem]
  repeat' split
  all_goals simp

@[simp] theorem vitals_holdCue (i : Item) : (s.holdCue i).vitals = s.vitals := by simp [State.holdCue]

@[simp] theorem vitals_replayItem (i : Item) : (s.replayItem i).vitals = s.vitals := by
  simp only [State.replayItem]
  repeat' split
  all_goals simp

@[simp] theorem vitals_axisReboot (bad : BitVec 16) (n : Nat) :
    (s.axisReboot bad n).vitals = s.vitals := by simp [State.axisReboot]

@[simp] theorem vitals_settleCue (k : Nat) : (s.settleCue k).vitals = s.vitals := by simp [State.settleCue]

@[simp] theorem vitals_regionReboot (bad : BitVec 32) (r : Nat) :
    (s.regionReboot bad r).vitals = s.vitals := by simp [State.regionReboot]

@[simp] theorem vitals_regionStart (r : Nat) : (s.regionStart r).vitals = s.vitals := by simp [State.regionStart]

@[simp] theorem vitals_fabricStart : s.fabricStart.vitals = s.vitals := by simp [State.fabricStart]

@[simp] theorem vitals_showStored : s.showStored.vitals = s.vitals := by simp [State.showStored]

@[simp] theorem vitals_crossReset : s.crossReset.vitals = s.vitals := by simp [State.crossReset]

@[simp] theorem vitals_bookRecover (page : Option (Fin 32)) (staged : Nat) :
    (s.bookRecover page staged).vitals = s.vitals := by
  unfold State.bookRecover
  split <;> simp

@[simp] theorem vitals_recoveryStart (c : BootChoice) :
    (s.recoveryStart c).vitals = s.vitals := by simp [State.recoveryStart]

end Sys2Proof.Machine
end

section
/-!
The start of the functions leaves the vitals as they are (O57): each enable entry by the rule of its chapter, then the stages of a
normal start.
-/
namespace Sys2Proof.Machine
open Sys2Proof
variable {s : State}

/-- Outside the dictionary's own objects the rule of an entry is the one of its chapter. -/
theorem ruleOf_of_chapterRule {idx sub : Nat} {r : WriteRule} (hi : 0x2000 ≤ idx) (h : chapterRule idx sub = some r) :
    ruleOf idx sub = r := by
  simp [ruleOf, settingOf, h, show idx ≠ 0x1040 by omega, show idx ≠ 0x1010 by omega, show idx ≠ 0x1012 by omega]

theorem ruleOf_of_noRule {idx sub : Nat} (hi : 0x2000 ≤ idx) (h : chapterRule idx sub = none) :
    ruleOf idx sub = settingRule idx sub := by
  simp [ruleOf, settingOf, h, show idx ≠ 0x1040 by omega, show idx ≠ 0x1010 by omega, show idx ≠ 0x1012 by omega]

theorem calm_of_chapterRule {idx sub : Nat} (hi : 0x2000 ≤ idx) (h : ∃ r, chapterRule idx sub = some r ∧ RuleCalm r) :
    RuleCalm (ruleOf idx sub) := by
  obtain ⟨r, h, hr⟩ := h
  rwa [ruleOf_of_chapterRule hi h]

theorem calm_domainEnable : ∀ k < 2, RuleCalm (ruleOf (0x5C40 + k) 1) := fun k hk =>
  calm_of_chapterRule (by omega) ⟨_, by simp (disch := omega) [chapterRule, rule15, if_pos, if_neg]; rfl,
    calm_settingRule _ _ _ fun s => by simp⟩
theorem calm_portEnable : ∀ k < 6, RuleCalm (ruleOf (0x5800 + k) 1) := fun k hk =>
  calm_of_chapterRule (by omega) ⟨_, by simp (disch := omega) [chapterRule, rule14, if_pos, if_neg], calm_portEnableRule k⟩
theorem calm_lsEnable : ∀ k < 48, RuleCalm (ruleOf (0x4400 + k) 1) := fun k hk =>
  calm_of_chapterRule (by omega) ⟨_, by simp (disch := omega) [chapterRule, rule10, if_pos, if_neg], calm_lsEnableRule k⟩
theorem calm_ainEnable : ∀ k < 32, RuleCalm (ruleOf (0x4800 + k) 1) := fun k hk =>
  calm_of_chapterRule (by omega) ⟨_, by simp (disch := omega) [chapterRule, rule11, if_pos, if_neg]; rfl,
    calm_inputEnableRule _ _ fun s => by simp⟩
theorem calm_finEnable : ∀ k < 16, RuleCalm (ruleOf (0x4840 + k) 1) := fun k hk =>
  calm_of_chapterRule (by omega) ⟨_, by simp (disch := omega) [chapterRule, rule11, if_pos, if_neg]; rfl,
    calm_inputEnableRule _ _ fun s => by simp⟩
theorem calm_acuEnable : ∀ k < 16, RuleCalm (ruleOf (0x4860 + k) 1) := fun k hk =>
  calm_of_chapterRule (by omega) ⟨_, by simp (disch := omega) [chapterRule, rule11, if_pos, if_neg]; rfl,
    calm_inputEnableRule _ _ fun s => by simp⟩
theorem calm_brgEnable : ∀ k < 4, RuleCalm (ruleOf (0x4880 + k) 1) := fun k hk =>
  calm_of_chapterRule (by omega) ⟨_, by simp (disch := omega) [chapterRule, rule11, if_pos, if_neg]; rfl,
    calm_inputEnableRule _ _ fun s => by simp⟩
theorem calm_implementEnable : ∀ k < 4, RuleCalm (ruleOf (0x2800 + k) 1) := fun k hk =>
  calm_of_chapterRule (by omega) ⟨_, by simp (disch := omega) [chapterRule, rule05, if_pos, if_neg],
    calm_implementEnableRule k⟩
theorem calm_scheduleEnable : ∀ k < 6, RuleCalm (ruleOf (0x5848 + k) 1) := fun k hk =>
  calm_of_chapterRule (by omega) ⟨_, by simp (disch := omega) [chapterRule, rule14, if_pos, if_neg],
    calm_scheduleEnableRule k⟩
theorem calm_bankEnable : ∀ k < 8, RuleCalm (ruleOf (0x4000 + k) 1) := fun k hk =>
  calm_of_chapterRule (by omega) ⟨_, by simp (disch := omega) [chapterRule, rule09, if_pos, if_neg], calm_bankEnableRule k⟩
theorem calm_svEnable : ∀ k < 32, RuleCalm (ruleOf (0x4020 + k) 1) := fun k hk =>
  calm_of_chapterRule (by omega) ⟨_, by simp (disch := omega) [chapterRule, rule09, if_pos, if_neg], calm_svEnableRule k⟩
theorem calm_ctxEnable : ∀ k < 128, RuleCalm (ruleOf (0x3800 + k) 1) := fun k hk =>
  calm_of_chapterRule (by omega) ⟨_, by simp (disch := omega) [chapterRule, rule08, if_pos, if_neg], calm_ctxEnableRule k⟩
theorem calm_zoneEnable : ∀ k < 8, RuleCalm (ruleOf (0x4C00 + k) 1) := fun k hk =>
  calm_of_chapterRule (by omega) ⟨_, by simp (disch := omega) [chapterRule, rule19, if_pos, if_neg], calm_zoneEnableRule k⟩
theorem calm_fanEnable : ∀ k < 8, RuleCalm (ruleOf (0x4C20 + k) 1) := fun k hk =>
  calm_of_chapterRule (by omega) ⟨_, by simp (disch := omega) [chapterRule, rule19, if_pos, if_neg], calm_fanEnableRule k⟩
theorem calm_tcEnable : RuleCalm (ruleOf 0x2830 1) := calm_of_chapterRule (by decide) ⟨_, rfl, calm_tcEnableRule⟩
theorem calm_sensorEnable : ∀ k < 10, RuleCalm (ruleOf (0x3002 + k) 1) := fun k hk => by
  have noRule : chapterRule (0x3002 + k) 1 = none := by
    simp (disch := omega) [chapterRule, rule06, if_pos, if_neg]
  rw [ruleOf_of_noRule (by omega) noRule]
  exact calm_settingRule _ _ _ fun _ => rfl
theorem calm_fusionEnable : RuleCalm (ruleOf 0x3000 1) := calm_of_chapterRule (by decide) ⟨_, rfl, calm_fusionEnableRule⟩
theorem calm_camPort : ∀ k < 4, RuleCalm (ruleOf (0x3401 + k) 1) := fun k hk =>
  calm_of_chapterRule (by omega) ⟨_, by simp (disch := omega) [chapterRule, rule07, if_pos, if_neg], calm_camPortRule k 1⟩
theorem calm_streamEnable : ∀ k < 4, RuleCalm (ruleOf (0x34B0 + k) 1) := fun k hk =>
  calm_of_chapterRule (by omega) ⟨_, by simp (disch := omega) [chapterRule, rule07, if_pos, if_neg], calm_streamEnableRule k⟩
theorem calm_yieldEnable : RuleCalm (ruleOf 0x6000 1) := calm_of_chapterRule (by decide) ⟨_, rfl, calm_yieldEnableRule⟩
theorem calm_fleetEnable : RuleCalm (ruleOf 0x6200 1) := calm_of_chapterRule (by decide) ⟨_, rfl, calm_fleetEnableRule⟩
theorem calm_rendezvousEnable : RuleCalm (ruleOf 0x6210 1) := calm_of_chapterRule (by decide) ⟨_, rfl, calm_rendezvousEnableRule⟩
theorem calm_panelEnable : RuleCalm (ruleOf 0x6400 1) := calm_of_chapterRule (by decide) ⟨_, rfl, calm_panelEnableRule⟩

theorem vitals_startEntry {idx sub : Nat} (h : RuleCalm (ruleOf idx sub)) : (s.startEntry idx sub).vitals = s.vitals := by
  unfold State.startEntry
  split
  · exact (h _ _ _ _).trans (vitals_setReg _ _ _)
  · rfl

theorem vitals_startEntries {lo n sub : Nat} (h : ∀ k < n, RuleCalm (ruleOf (lo + k) sub)) :
    (s.startEntries lo n sub).vitals = s.vitals := by
  unfold State.startEntries
  have each (l : List Nat) (hl : ∀ k ∈ l, k < n) (s : State) :
      (l.foldl (fun (s : State) (k : Nat) => s.startEntry (lo + k) sub) s).vitals = s.vitals := by
    induction l generalizing s with
    | nil => rfl
    | cons k t ih =>
      rw [List.foldl_cons, ih fun j hj => hl j (List.mem_cons_of_mem _ hj), vitals_startEntry (h k (hl k List.mem_cons_self))]
  exact each _ (fun k => List.mem_range.1) s

@[simp] theorem vitals_startEarly (s : State) (bad : BitVec 16) : (s.startEarly bad).vitals = s.vitals := by
  simp [State.startEarly, vitals_startEntries calm_domainEnable, vitals_startEntries calm_portEnable,
    vitals_startEntries calm_ainEnable, vitals_startEntries calm_finEnable, vitals_startEntries calm_acuEnable,
    vitals_startEntries calm_brgEnable, vitals_startEntries calm_implementEnable]

@[simp] theorem vitals_startOutputs (s : State) : s.startOutputs.vitals = s.vitals := by
  simp [State.startOutputs, vitals_startEntries calm_scheduleEnable, vitals_startEntries calm_bankEnable,
    vitals_startEntries calm_svEnable, vitals_startEntries calm_lsEnable, vitals_startEntries calm_ctxEnable,
    vitals_startEntries calm_zoneEnable, vitals_startEntries calm_fanEnable, vitals_startEntry calm_tcEnable]

@[simp] theorem vitals_startSight (s : State) : s.startSight.vitals = s.vitals := by
  simp [State.startSight, vitals_startEntries calm_sensorEnable, vitals_startEntry calm_fusionEnable,
    vitals_startEntries calm_camPort, vitals_startEntries calm_streamEnable]

@[simp] theorem vitals_startServices (s : State) : s.startServices.vitals = s.vitals := by
  unfold State.startServices
  extract_lets t u v panel w
  have hu : u.vitals = s.vitals := by
    unfold u
    split <;> simp [t]
  clear_value u
  simp [w, v, hu, vitals_startEntry calm_yieldEnable, vitals_startEntry calm_fleetEnable,
    vitals_startEntry calm_rendezvousEnable, vitals_startEntry calm_panelEnable]

theorem calm_settingsCommit {idx sub : Nat} (h : 0x3470 ≤ idx ∧ idx ≤ 0x3479) : RuleCalm (ruleOf idx sub) :=
  calm_of_chapterRule (by omega) ⟨_, by simp (disch := omega) [chapterRule, rule07, if_pos, if_neg],
    calm_settingsCommitRule (idx - 0x3470)⟩

theorem calm_oem {idx sub : Nat} (h : 0x7000 ≤ idx ∧ idx < 0x8000) : RuleCalm (ruleOf idx sub) :=
  calm_of_chapterRule (by omega) ⟨_, by simp (disch := omega) [chapterRule, rule12, if_pos, if_neg], calm_oemRule idx sub⟩

/-- An item of replay starts again a set of sensor registers or a command to an OEM entry. -/
@[simp] theorem vitals_restartItem (s : State) (i : Item) : (s.restartItem i).vitals = s.vitals := by
  unfold State.restartItem
  split
  · rfl
  next h =>
    split
    · exact vitals_finish _ _ _ _
    · have range : (0x3470 ≤ i.idx ∧ i.idx ≤ 0x3479) ∨ (0x7000 ≤ i.idx ∧ i.idx < 0x8000) := by
        simp only [restarts, Bool.not_eq_true', Bool.not_eq_false, Bool.and_eq_true, Bool.or_eq_true, decide_eq_true_eq] at h
        exact h.2
      exact range.elim (fun h => calm_settingsCommit h _ _ _ _) (fun h => calm_oem h _ _ _ _)

@[simp] theorem vitals_dictionaryReady (s : State) : s.dictionaryReady.vitals = s.vitals := by
  simp [State.dictionaryReady]

@[simp] theorem vitals_replayEnd (s : State) : s.replayEnd.vitals = s.vitals := by simp [State.replayEnd]

@[simp] theorem vitals_replay (s : State) (kind : Nat) (b : Boot) : (s.replay kind b).vitals = s.vitals := by
  simp [State.replay]

theorem vitals_normalStart (s : State) (st : Start) (b : Boot) (c : BootChoice) (n : Nat) (recovered : Bool) :
    (s.normalStart st b c n recovered).vitals = s.vitals := by
  simp [State.normalStart]

end Sys2Proof.Machine
end

section
/-!
Safe off, the flush and the end of the logic (O57): what they leave as it is, and the marks they set.
-/
namespace Sys2Proof.Machine
open Sys2Proof

/-! ### Folds over the channels -/

/-- A step of a fold brings `P` to `Q`, and the other steps keep both. -/
theorem foldl_reaches {α : Type} {f : State → α → State} {P Q : State → Prop} {a : α} {l : List α}
    (keepP : ∀ s, ∀ b ∈ l, P s → P (f s b)) (reach : ∀ s, P s → Q (f s a)) (keepQ : ∀ s, ∀ b ∈ l, Q s → Q (f s b))
    (ha : a ∈ l) {s : State} (hs : P s) : Q (l.foldl f s) := by
  obtain ⟨b, c, rfl⟩ := List.append_of_mem ha
  rw [List.foldl_append, List.foldl_cons]
  exact List.foldlRecOn c f (reach _ (List.foldlRecOn b f hs fun s h x hx => keepP s x (by simp [hx]) h))
    fun s h x hx => keepQ s x (by simp [hx]) h

theorem reg_foldl {α : Type} {f : State → α → State} {k : Nat} {l : List α} (hf : ∀ s, ∀ x ∈ l, (f s x).reg k = s.reg k) (s : State) :
    (l.foldl f s).reg k = s.reg k :=
  List.foldlRecOn (motive := fun t => t.reg k = s.reg k) l f rfl fun t h x hx => (hf t x hx).trans h

/-! ### Safe off of the power stages -/

section
variable {F : List Part} (hregs : .regs ∈ F) (hjr : .jr ∈ F) (hcues : .cues ∈ F) (hsv : .sv ∈ F)
include hregs hjr hcues hsv

@[simp] theorem outside_svSafeOff (s : State) (ch : Nat) : (s.svSafeOff ch).outside F = s.outside F := by
  simp only [State.svSafeOff]
  repeat' split
  all_goals simp [State.svClamp, *]

@[simp] theorem outside_banksSafeOff (s : State) : s.banksSafeOff.outside F = s.outside F := by
  simp [State.banksSafeOff, *]

end

@[simp] theorem outside_loadsSafeOff {F : List Part} (hregs : .regs ∈ F) (hls : .ls ∈ F) (s : State) :
    s.loadsSafeOff.outside F = s.outside F := by
  simp [State.loadsSafeOff, *]

/-- The fields that safe off may change. -/
def safeOffParts : List Part := [.regs, .blobs, .jr, .cues, .sv, .ls, .panel]

theorem outside_allSafeOff (s : State) : s.allSafeOff.outside safeOffParts = s.outside safeOffParts := by
  simp [State.allSafeOff, safeOffParts]

theorem book_of_outside {F : List Part} {s t : State} (h : t.outside F = s.outside F) (hF : .book ∉ F) : t.book = s.book :=
  (congrArg State.book (eq_merge_of_outside h)).trans (if_neg hF)

theorem power_of_outside {F : List Part} {s t : State} (h : t.outside F = s.outside F) (hF : .power ∉ F) : t.power = s.power :=
  (congrArg State.power (eq_merge_of_outside h)).trans (if_neg hF)

theorem keys_of_outside {F : List Part} {s t : State} (h : t.outside F = s.outside F) (hF : .keys ∉ F) : t.keys = s.keys :=
  (congrArg State.keys (eq_merge_of_outside h)).trans (if_neg hF)

theorem clock_of_outside {F : List Part} {s t : State} (h : t.outside F = s.outside F) (hF : .clock ∉ F) : t.clock = s.clock :=
  (congrArg State.clock (eq_merge_of_outside h)).trans (if_neg hF)

@[simp] theorem book_resetSafeOff (s : State) : s.resetSafeOff.book = s.book := by
  have kept : s.allSafeOff.book = s.book := book_of_outside (outside_allSafeOff s) (by decide)
  rw [← kept, State.resetSafeOff]

/-- Safe off at the end of a run leaves the journal as it is, and the power state, the keys and the clock. -/
@[simp] theorem vitals_resetSafeOff (s : State) : s.resetSafeOff.vitals = s.vitals := by
  have frame := outside_allSafeOff s
  simp only [State.vitals, State.tick, State.now, State.resetSafeOff, power_of_outside frame (by decide),
    keys_of_outside frame (by decide), clock_of_outside frame (by decide)]

@[simp] theorem safeOff_resetSafeOff (s : State) : s.resetSafeOff.flag K.powerFlags 5 = true := by
  have raised : s.allSafeOff.flag K.powerFlags 5 = true := by rw [State.allSafeOff, flag_setFlag]
  rwa [State.flag, State.resetSafeOff, reg_mk]

/-! ### The flush (R90) -/

@[simp] theorem vitals_checkpoints (s : State) : s.checkpoints.vitals = { s.vitals with savedTime := s.now } := rfl

@[simp] theorem vitals_tagContent (s : State) (seq : Nat) (p : Bytes) : (s.tagContent seq p).vitals = s.vitals := rfl

@[simp] theorem vitals_shutdownRecords (s : State) (cause items : Nat) : (s.shutdownRecords cause items).vitals = s.vitals := by
  simp [State.shutdownRecords]

@[simp] theorem vitals_shutdownMark (s : State) (kind : Nat) : (s.shutdownMark kind).vitals = s.vitals := vitals_jwrite _ _

@[simp] theorem book_shutdownMark (s : State) (kind : Nat) : (s.shutdownMark kind).book = s.book := by
  unfold State.shutdownMark
  rw [jwrite_fields]

/-- SHUTDOWN is the last record admitted. -/
@[simp] theorem closed_shutdownRecords (s : State) (cause items : Nat) : (s.shutdownRecords cause items).book.closed = true := rfl

/-- A flush ends acceptance and saves module time; the power state is as it was. -/
theorem vitals_flush (s : State) (cause : Nat) (kind : ResetKind) :
    (s.flush cause kind).vitals = { s.vitals with accepting := false, savedTime := s.now } := by
  simp only [State.flush, vitals_resetSafeOff, vitals_shutdownMark, vitals_shutdownRecords, vitals_completeAllowed, vitals_checkpoints]
  rfl

theorem closed_flush (s : State) (cause : Nat) (kind : ResetKind) : (s.flush cause kind).book.closed = true := by
  simp [State.flush]

theorem safeOff_flush (s : State) (cause : Nat) (kind : ResetKind) : (s.flush cause kind).flag K.powerFlags 5 = true :=
  safeOff_resetSafeOff _

/-! ### The logic stops -/

@[simp] theorem power_logicOff (s : State) (phase : PowerPhase) (next : Option Start) :
    (s.logicOff phase next).power = { s.power with phase := phase, start := next, entry := none } := rfl
theorem vitals_logicOff (s : State) (phase : PowerPhase) (next : Option Start) : (s.logicOff phase next).vitals =
    { s.vitals with power := { s.vitals.power with phase := phase, start := next, entry := none } } := rfl
@[simp] theorem jr_logicOff (s : State) (phase : PowerPhase) (next : Option Start) : (s.logicOff phase next).jr = s.jr := rfl
@[simp] theorem book_logicOff (s : State) (phase : PowerPhase) (next : Option Start) : (s.logicOff phase next).book = s.book := rfl

/-- The end of the logic changes the entries of THERM_SHDN_N only (R535). -/
theorem reg_logicOff {k : Nat} (hk : k / 256 ≠ 0x4C40) (s : State) (phase : PowerPhase) (next : Option Start) :
    (s.logicOff phase next).reg k = s.reg k := by
  unfold State.logicOff State.shdnHeld
  rw [reg_setReg_ne (by rintro rfl; exact hk rfl), reg_setReg_ne (by rintro rfl; exact hk rfl)]
  rfl

end Sys2Proof.Machine
end

section
/-!
The entries that the operations of a solenoid channel may change (O57).
-/
namespace Sys2Proof.Machine
open Sys2Proof

/-! ### What safe off does to the entries -/

/-- The entries that an operation of solenoid channel `ch` may change: its own, its bank's and those of the cues. -/
def SvEntry (ch k : Nat) : Prop :=
  k / 256 = 0x4020 + ch ∨ k / 256 = 0x4040 + ch ∨ k / 256 = 0x4008 + ch / 4 ∨ k / 256 = 0x2422

theorem reg_endCue {k : Nat} (h : k / 256 ≠ 0x2422) (s : State) (slot : Nat) (o : Outcome) (d : Nat) :
    (s.endCue slot o d).reg k = s.reg k := by
  simp only [State.endCue]
  split_ifs <;> simp (disch := omega) [State.bump, State.bumpBy, reg_setReg_ne]

theorem reg_cancelCuesOnTarget {k : Nat} (h : k / 256 ≠ 0x2422) (s : State) (kind target : Nat) :
    (s.cancelCuesOnTarget kind target).reg k = s.reg k :=
  reg_foldl (fun s slot _ => reg_endCue h s slot .cancelled 0) s

variable {ch k : Nat} (h : ¬ SvEntry ch k)
include h

theorem reg_showClaims (s : State) : (s.showClaims (svBank ch)).reg k = s.reg k := by
  unfold SvEntry at h
  exact reg_setReg_ne (by simp [svBank, key]; omega) _ _

theorem reg_svDiscardPending (s : State) (a : Abort) : (s.svDiscardPending ch a).reg k = s.reg k := by
  unfold SvEntry at h
  simp only [State.svDiscardPending]
  split
  · split_ifs <;> simp (disch := omega) [State.setFlag, reg_setReg_ne]
  · rfl

theorem reg_svDisableDone (s : State) : (s.svDisableDone ch).reg k = s.reg k := by
  unfold SvEntry at h
  simp only [State.svDisableDone, reg_endDisable, reg_cancelCuesOnTarget (show k / 256 ≠ 0x2422 by omega)]
  split_ifs <;> simp (disch := omega) [reg_setReg_ne]

theorem reg_svToEnd (s : State) : (s.svToEnd ch).reg k = s.reg k := by
  have hb := h
  unfold SvEntry at h
  have stop (s : State) : (s.svStopRunning ch).reg k = s.reg k := by
    simp only [State.svStopRunning]
    split <;> simp (disch := omega) [reg_setReg_ne]
  have drop (s : State) : (s.svDropBoost ch).reg k = s.reg k := by
    simp only [State.svDropBoost]
    split <;> simp (disch := omega) [svBank, reg_setReg_ne]
  simp only [State.svToEnd, reg_showClaims hb]
  split_ifs <;> simp (disch := omega) [reg_svDisableDone hb, State.svReleaseDone, reg_setReg_ne, stop, drop]

theorem reg_svSafeOff (s : State) : (s.svSafeOff ch).reg k = s.reg k := by
  have hb := h
  unfold SvEntry at h
  have clamp (s : State) : (s.svClamp ch).reg k = s.reg k := rfl
  simp only [State.svSafeOff]
  split_ifs <;> simp (disch := omega) [clamp, reg_svToEnd hb, reg_svDiscardPending hb, reg_showClaims hb, reg_setReg_ne]

end Sys2Proof.Machine
end

section
/-!
What safe off does to the solenoid and load channels, and the return of the loads after it (O57).
-/
namespace Sys2Proof.Machine
open Sys2Proof

/-- A disable that waits finds a DECAYING channel, which keeps its state. -/
theorem svState_svDisableDone {s : State} {ch : Nat} (hs : s.reg (K.svState ch) = svDecaying) :
    (s.svDisableDone ch).reg (K.svState ch) = svDecaying := by
  have apart : K.svState ch / 256 ≠ 0x2422 := by simp [key]; omega
  simp only [State.svDisableDone, reg_endDisable, reg_cancelCuesOnTarget apart]
  split_ifs with hst
  · simp (disch := omega) [reg_setReg_ne, hs] at hst
  · simpa (disch := omega) [reg_setReg_ne] using hs

/-- A program that safe off finds running is DECAYING at its END (R270, R279). -/
theorem svState_svToEnd (s : State) (ch : Nat) : (s.svToEnd ch).reg (K.svState ch) = svDecaying := by
  have shown (t : State) : (t.showClaims (svBank ch)).reg (K.svState ch) = t.reg (K.svState ch) :=
    reg_setReg_ne (by simp [svBank, key]; omega) _ _
  simp only [State.svToEnd, shown]
  split_ifs
  · exact svState_svDisableDone (by simp (disch := omega) [State.svReleaseDone, reg_setReg_ne])
  · simp (disch := omega) [State.svReleaseDone, reg_setReg_ne]

theorem svState_svDiscardPending (s : State) (ch : Nat) (a : Abort) :
    (s.svDiscardPending ch a).reg (K.svState ch) = s.reg (K.svState ch) ∨ (s.svDiscardPending ch a).reg (K.svState ch) = svOff := by
  simp only [State.svDiscardPending]
  split
  · split_ifs
    · exact .inr (by simp)
    · exact .inl (by simp (disch := omega) [State.setFlag, reg_setReg_ne])
  · exact .inl rfl

/-- After its safe off no channel runs (R270). -/
theorem svState_svSafeOff_ne (s : State) (ch : Nat) : (s.svSafeOff ch).reg (K.svState ch) ≠ svRunning := by
  have clamp (t : State) : (t.svClamp ch).reg (K.svState ch) = t.reg (K.svState ch) := rfl
  have shown (t : State) : (t.showClaims (svBank ch)).reg (K.svState ch) = t.reg (K.svState ch) :=
    reg_setReg_ne (by simp [svBank, key]; omega) _ _
  have idle (t : State) : t.svIdleState ch ≠ svRunning := by
    unfold State.svIdleState
    split_ifs <;> decide
  simp only [State.svSafeOff, Bool.or_eq_true, decide_eq_true_eq]
  split_ifs with active running waiting testing
  · rw [clamp, svState_svToEnd]
    decide
  · have decaying : s.reg (K.svState ch) = svDecaying := active.resolve_left running
    rw [clamp]
    obtain h | h := svState_svDiscardPending s ch .stateDenied <;> rw [h]
    · rw [decaying]; decide
    · decide
  · rw [shown]
    obtain h | h := svState_svDiscardPending s ch .stateDenied <;> rw [h]
    · rw [waiting]; decide
    · decide
  · rw [reg_setReg_self]
    exact idle _
  · exact fun h => active (.inl h)

/-- Safe off of the banks leaves the entries of no channel, bank or cue and not of the engine as they are. -/
theorem reg_banksSafeOff {k : Nat} (hk : k / 256 < 0x2422 ∨ 0x4060 ≤ k / 256) (s : State) : s.banksSafeOff.reg k = s.reg k := by
  have channels : ((List.range 32).foldl State.svSafeOff s).reg k = s.reg k :=
    reg_foldl (fun t c hc => reg_svSafeOff (by have := List.mem_range.1 hc; unfold SvEntry; omega) t) s
  simp only [State.banksSafeOff]
  split_ifs <;> simp (disch := omega) [State.bump, State.bumpBy, reg_setReg_ne, channels]

/-- Safe off of the banks leaves no channel running (R270). -/
theorem svState_banksSafeOff_ne (s : State) (ch : Fin 32) : s.banksSafeOff.reg (K.svState ch) ≠ svRunning := by
  have stopped : ((List.range 32).foldl State.svSafeOff s).reg (K.svState ch) ≠ svRunning := by
    refine foldl_reaches (P := fun _ => True) (Q := fun t => t.reg (K.svState ch) ≠ svRunning) (fun _ _ _ _ => trivial)
      (fun t _ => svState_svSafeOff_ne t ch) (fun t c hc ht => ?_) (List.mem_range.2 ch.isLt) trivial
    by_cases hch : c = ch
    · exact hch ▸ svState_svSafeOff_ne t c
    · rwa [reg_svSafeOff (by have := List.mem_range.1 hc; simp [SvEntry, key]; omega)]
  simp only [State.banksSafeOff]
  split_ifs
  · exact stopped
  · simpa (disch := omega) [State.bump, State.bumpBy, reg_setReg_ne] using stopped

theorem engineState_banksSafeOff (s : State) : s.banksSafeOff.reg K.engineState = 1 := by
  simp only [State.banksSafeOff]
  split_ifs with h
  · exact h
  · simp [State.bump, State.bumpBy, reg_setReg_ne]

/-! ### The load channels -/

/-- An opened channel changes its own entries only. -/
theorem reg_lsOpen {n k : Nat} (hk : k / 256 ≠ 0x4440 + n) (s : State) : (s.lsOpen n).reg k = s.reg k := by
  simp (disch := omega) [State.lsOpen, State.setFlag, reg_setReg_ne]

/-- Safe off of the loads changes the entries of the channels and of the feed groups only. -/
theorem reg_loadsSafeOff {k : Nat} (hk : k / 256 < 0x4440 ∨ 0x4484 ≤ k / 256) (s : State) : s.loadsSafeOff.reg k = s.reg k := by
  simp only [State.loadsSafeOff]
  rw [reg_foldl, reg_foldl]
  · intro t n hn
    have := List.mem_range.1 hn
    split_ifs
    · rw [reg_setReg_ne (by simp [key]; omega), reg_lsOpen (by omega)]
    · rfl
  · intro t g hg
    have := List.mem_range.1 hg
    exact reg_setReg_ne (by simp [key]; omega) _ _

theorem lsConducts_of_lsState {s t : State} {n : Nat} (h : t.reg (K.lsState n) = s.reg (K.lsState n)) :
    t.lsConducts n = s.lsConducts n := by
  simp only [State.lsConducts, h]

/-- After safe off no load channel conducts (R542). -/
theorem lsConducts_loadsSafeOff (s : State) (n : Fin 48) : s.loadsSafeOff.lsConducts n = false := by
  have groups (t : State) :
      ((List.range 4).foldl (fun (s : State) (g : Nat) => s.setReg (K.groupState g) 1) t).reg (K.lsState n) = t.reg (K.lsState n) :=
    reg_foldl (fun t g _ => reg_setReg_ne (by simp [key]; omega) _ _) t
  rw [State.loadsSafeOff, lsConducts_of_lsState (groups _)]
  refine foldl_reaches (P := fun _ => True) (Q := fun t => t.lsConducts n = false) (fun _ _ _ _ => trivial) (fun t _ => ?_)
    (fun t m _ ht => ?_) (List.mem_range.2 n.isLt) trivial
  · split_ifs with h
    · simp [State.lsConducts]
    · simpa using h
  · split_ifs with h
    · by_cases hm : (n : Nat) = m
      · subst hm
        simp [State.lsConducts]
      · have apart : K.lsState n / 256 ≠ 0x4440 + m := by simp [key]; omega
        have state : ((t.lsOpen m).setReg (K.lsState m) lsOff).reg (K.lsState n) = t.reg (K.lsState n) := by
          rw [reg_setReg_ne (by simp [key]; omega), reg_lsOpen apart]
        exact (lsConducts_of_lsState state).trans ht
    · exact ht

/-- A switch-on changes the entries of its channel and of its feed group only, and the commanded duty not at all. -/
theorem reg_lsSwitchOn {n k : Nat} (hk : k / 256 ≠ 0x4440 + n ∨ k = K.commandedDuty n) (hg : k / 256 < 0x4480 ∨ 0x4490 ≤ k / 256)
    (hn : n < 48) (s : State) : (s.lsSwitchOn n).reg k = s.reg k := by
  have group : lsGroup n < 16 := by unfold lsGroup; split_ifs <;> omega
  have hk : k / 256 ≠ 0x4440 + n ∨ k = (0x4440 + n) * 256 + 2 := hk
  simp only [State.lsSwitchOn]
  split_ifs <;> simp (disch := omega) [State.setFlag, reg_setReg_ne]

/-- Unless safe off holds, a channel that is switched on conducts (R303). -/
theorem lsConducts_lsSwitchOn {s : State} {n : Nat} (h : s.safeOff = false) : (s.lsSwitchOn n).lsConducts n = true := by
  simp only [State.lsSwitchOn, h, Bool.false_eq_true, if_false, State.lsConducts]
  rw [reg_setReg_ne (by simp [key]), reg_setReg_self]
  split_ifs <;> rfl

/-- A channel that kept its duty and waits at OFF, or conducts. -/
structure Returning (n : Nat) (s : State) : Prop where
  free : s.safeOff = false
  duty : 0 < s.reg (K.commandedDuty n)
  state : s.reg (K.lsState n) = lsOff ∨ s.lsConducts n = true

/-- What State.loadsReturn does at one channel. -/
def State.loadReturns (s : State) (n : Nat) : State :=
  if s.reg (K.lsState n) = lsOff && 0 < s.reg (K.commandedDuty n) then s.lsSwitchOn n else s

theorem loadsReturn_eq (s : State) : s.loadsReturn = (List.range 48).foldl State.loadReturns s := rfl

theorem reg_loadReturns {n k : Nat} (hk : k / 256 ≠ 0x4440 + n ∨ k = K.commandedDuty n) (hg : k / 256 < 0x4480 ∨ 0x4490 ≤ k / 256)
    (hn : n < 48) (s : State) : (s.loadReturns n).reg k = s.reg k := by
  unfold State.loadReturns
  split
  · exact reg_lsSwitchOn hk hg hn s
  · rfl

/-- The return of the loads changes the entries of the channels and of the feed groups only. -/
theorem reg_loadsReturn {k : Nat} (hk : k / 256 < 0x4440 ∨ 0x4490 ≤ k / 256) (s : State) : s.loadsReturn.reg k = s.reg k :=
  reg_foldl (f := State.loadReturns) (fun t n hn => by
    have := List.mem_range.1 hn
    exact reg_loadReturns (.inl (by omega)) (by omega) this t) s

theorem lsConducts_loadReturns_of_lsConducts {s : State} {n m : Nat} (hn : n < 48) (hm : m < 48) (h : s.lsConducts n = true) :
    (s.loadReturns m).lsConducts n = true := by
  by_cases hnm : n = m
  · subst hnm
    have on : s.reg (K.lsState n) ≠ lsOff := by
      intro hoff
      simp [State.lsConducts, hoff] at h
    simpa [State.loadReturns, on] using h
  · exact (lsConducts_of_lsState (reg_loadReturns (.inl (by simp [key]; omega)) (by simp [key]; omega) hm s)).trans h

theorem Returning.lsConducts_loadReturns {s : State} {n : Nat} (h : Returning n s) : (s.loadReturns n).lsConducts n = true := by
  unfold State.loadReturns
  split
  · exact lsConducts_lsSwitchOn h.free
  next hoff => exact h.state.resolve_left fun hs => hoff (by simp [hs, h.duty])

theorem Returning.loadReturns {s : State} {n m : Nat} (hn : n < 48) (hm : m < 48) (h : Returning n s) : Returning n (s.loadReturns m) := by
  refine ⟨?_, ?_, ?_⟩
  · rw [State.safeOff, State.flag, reg_loadReturns (.inl (by simp [key]; omega)) (by simp [key]) hm]
    exact h.free
  · rw [reg_loadReturns (by simp [key]; omega) (by simp [key]; omega) hm]
    exact h.duty
  · by_cases hnm : n = m
    · exact .inr (hnm ▸ h.lsConducts_loadReturns)
    · have state := reg_loadReturns (k := K.lsState n) (.inl (by simp [key]; omega)) (by simp [key]; omega) hm s
      rw [state, lsConducts_of_lsState state]
      exact h.state

/-- When overvoltage has ended every channel that kept a duty conducts again (R542). -/
theorem Returning.lsConducts_loadsReturn {s : State} {n : Fin 48} (h : Returning n s) : s.loadsReturn.lsConducts n = true := by
  rw [loadsReturn_eq]
  exact foldl_reaches (P := Returning n) (Q := fun t => t.lsConducts n = true)
    (fun _ _ hm h => h.loadReturns n.isLt (List.mem_range.1 hm)) (fun _ h => h.lsConducts_loadReturns)
    (fun _ _ hm h => lsConducts_loadReturns_of_lsConducts n.isLt (List.mem_range.1 hm) h) (List.mem_range.2 n.isLt) h

end Sys2Proof.Machine
end

section
/-!
The events of the supply, of standby and of the resets, a lemma for each command (O57).
-/
namespace Sys2Proof.Machine
open Sys2Proof
variable {s : State}

theorem isUp_iff (s : State) : s.isUp = true ↔ s.power.phase = .up := by simp [State.isUp]

/-! ### The supply -/

theorem reg_supplyRead {k : Nat} (h1 : k ≠ K.logicSupply) (h2 : k ≠ K.supplyMin) (s : State) (mV : Nat) :
    (s.supplyRead mV).reg k = s.reg k := by
  simp only [State.supplyRead, reg_setReg_ne h1, reg_setReg_ne h2]

@[simp] theorem powerFlags_supplyRead (s : State) (mV i : Nat) : (s.supplyRead mV).flag K.powerFlags i = s.flag K.powerFlags i := by
  rw [State.flag, reg_supplyRead (by decide) (by decide)]
  rfl

theorem logicSupply_supplyRead (s : State) (mV : Nat) : (s.supplyRead mV).reg K.logicSupply = (min 65535 mV : Nat) := by
  rw [State.supplyRead, reg_setReg_ne (by decide), reg_setReg_self]

theorem supplyMin_supplyRead (s : State) (mV : Nat) :
    (s.supplyRead mV).reg K.supplyMin = min (s.reg K.supplyMin) (min 65535 mV : Nat) := by
  rw [State.supplyRead, reg_setReg_self]

theorem exec_logicSupplyLow (h : s.isUp = true) (mV : Nat) : exec (.logicSupplyLow mV) s = .next (
    if mV < 9000 then (s.supplyRead mV).setFlag K.powerFlags 0 true
    else if 9500 ≤ mV then (s.supplyRead mV).setFlag K.powerFlags 0 false else s.supplyRead mV) := by
  change execLogicSupplyLow mV s = _
  simp only [execLogicSupplyLow, h, Bool.not_true, Bool.false_eq_true, if_false]

/-- The supply is read, and LOGIC_SUPPLY_LOW follows it with its hysteresis (R555). -/
theorem runs_logicSupplyLow (h : s.isUp = true) (mV : Nat) :
    Runs (.logicSupplyLow mV) s fun t =>
      t.reg K.logicSupply = (min 65535 mV : Nat) ∧ t.reg K.supplyMin = min (s.reg K.supplyMin) (min 65535 mV : Nat) ∧
      (mV < 9000 → t.flag K.powerFlags 0 = true) ∧ (9500 ≤ mV → t.flag K.powerFlags 0 = false) ∧
      (9000 ≤ mV → mV < 9500 → t.flag K.powerFlags 0 = s.flag K.powerFlags 0) := by
  refine ⟨_, exec_logicSupplyLow h mV, ?_⟩
  have supply (b : Bool) : ((s.supplyRead mV).setFlag K.powerFlags 0 b).reg K.logicSupply = (min 65535 mV : Nat) := by
    rw [reg_setFlag, if_neg (by decide), logicSupply_supplyRead]
  have least (b : Bool) : ((s.supplyRead mV).setFlag K.powerFlags 0 b).reg K.supplyMin = min (s.reg K.supplyMin) (min 65535 mV : Nat) := by
    rw [reg_setFlag, if_neg (by decide), supplyMin_supplyRead]
  split_ifs
  · exact ⟨supply _, least _, fun _ => flag_setFlag _ _ _ _, by omega, by omega⟩
  · exact ⟨supply _, least _, by omega, fun _ => flag_setFlag _ _ _ _, by omega⟩
  · exact ⟨logicSupply_supplyRead _ _, supplyMin_supplyRead _ _, by omega, by omega, fun _ _ => powerFlags_supplyRead _ _ _⟩

/-- Below 6.0 V the logic runs from the hold-up store (R538). -/
theorem runs_holdupActive (h : s.isUp = true) {mV : Nat} (hv : mV < 6000) :
    Runs (.holdupActive mV) s fun t =>
      t.flag K.powerFlags 0 = true ∧ t.flag K.powerFlags 1 = true ∧ t.power.holdFrom = some (s.power.holdFrom.getD s.tick) ∧
      t.reg K.logicSupply = (mV : Nat) := by
  refine ⟨_, if_neg (by simp [h]; omega), ?_, flag_setFlag _ _ _ _, rfl, ?_⟩
  · rw [flag_setFlag_ne (by decide)]
    exact flag_setFlag _ _ _ _
  · rw [reg_setFlag, if_neg (by decide), reg_mk, reg_setFlag, if_neg (by decide), logicSupply_supplyRead, Nat.min_eq_right (by omega)]

/-- The supply is back before brownout is detected (R538). -/
theorem runs_holdupEnd (h : s.isUp = true) {mV : Nat} (hv : 6000 ≤ mV) (hf : s.flag K.powerFlags 1 = true)
    (hb : s.brownoutNow false = false) :
    Runs (.holdupEnd mV) s fun t => t.flag K.powerFlags 1 = false ∧ t.power.holdFrom = none ∧ t.power.phase = .up :=
  ⟨_, if_neg (by simp [h, hf, hb]; omega), flag_setFlag _ _ _ _, rfl, (isUp_iff s).1 h⟩

theorem brownoutNow_holdupLevel (s : State) (v : Int) (reserve : Bool) :
    (s.setReg K.holdupLevel v).brownoutNow reserve = s.brownoutNow reserve := by
  have flags : (s.setReg K.holdupLevel v).reg K.powerFlags = s.reg K.powerFlags := reg_setReg_ne (by decide) _ _
  have held : (s.setReg K.holdupLevel v).heldFor s.power.holdFrom (ticksMs 10) = s.heldFor s.power.holdFrom (ticksMs 10) := rfl
  simp only [State.brownoutNow, State.flag, flags, setReg_power, held]

/-- Brownout (R90, R539, R548): the module is off until its next start, and what dictionary-ready has made worth keeping is flushed. -/
theorem runs_brownout (h : s.isUp = true) {reserve : Bool} (hb : s.brownoutNow reserve = true) (level : Fin 101) :
    Runs (.brownout reserve level) s fun t =>
      t.power.phase = .off ∧ t.power.start = some ⟨.supplyLoss, 4, 0xFF⟩ ∧ t.flag K.powerFlags 5 = true ∧
      (s.reg K.powerState ≠ 0 → t.jr.accepting = false ∧ t.book.closed = true ∧ t.jr.savedTime = s.now) := by
  let u := (s.setReg K.holdupLevel (level : Nat)).bump K.brownouts
  let v := if u.reg K.powerState = 0 then u.resetSafeOff else u.flush 1 .supplyLoss
  have run : exec (.brownout reserve level) s = .next (v.logicOff .off (some ⟨.supplyLoss, 4, 0xFF⟩)) := by
    change execBrownout reserve level s = _
    simp only [execBrownout, h, Bool.not_true, Bool.false_eq_true, if_false, brownoutNow_holdupLevel, hb]
    rfl
  have state : u.reg K.powerState = s.reg K.powerState := by simp [u, reg_bump, reg_setReg]
  have off : v.flag K.powerFlags 5 = true := by
    unfold v
    split_ifs
    · exact safeOff_resetSafeOff u
    · exact safeOff_flush u 1 .supplyLoss
  refine ⟨_, run, rfl, rfl, ?_, fun hr => ?_⟩
  · rwa [State.flag, reg_logicOff (by decide)]
  · have flushed : v = u.flush 1 .supplyLoss := if_neg (by rwa [state])
    have kept := vitals_flush u 1 .supplyLoss
    rw [jr_logicOff, book_logicOff, flushed]
    exact ⟨congrArg Vitals.accepting kept, closed_flush _ _ _, congrArg Vitals.savedTime kept⟩

/-! ### Overvoltage (R542) -/

theorem runs_overvoltage (h : s.isUp = true) {mV held : Nat} (hv : 38000 < mV) (hh : ticksUs 100 ≤ held)
    (hf : s.flag K.powerFlags 2 = false) :
    Runs (.overvoltage mV held) s fun t =>
      t.flag K.powerFlags 2 = true ∧ t.flag K.powerFlags 5 = true ∧ t.reg K.engineState = 1 ∧
      (∀ ch : Fin 32, t.reg (K.svState ch) ≠ svRunning) ∧ (∀ n : Fin 48, t.lsConducts n = false) ∧
      t.reg K.overvoltageEvents = (s.bump K.overvoltageEvents).reg K.overvoltageEvents := by
  let u := ((s.supplyRead mV).setFlag K.powerFlags 2 true).setFlag K.powerFlags 5 true
  let v := u.banksSafeOff.loadsSafeOff
  have run : exec (.overvoltage mV held) s = .next ((v.bump K.overvoltageEvents).eventKey .power 0 K.powerFlags) :=
    if_neg (by simp [h, hf]; omega)
  have bumped {k : Nat} (hk : k ≠ K.overvoltageEvents) : ((v.bump K.overvoltageEvents).eventKey .power 0 K.powerFlags).reg k = v.reg k := by
    rw [reg_eventKey, reg_bump, if_neg hk]
  have module {k : Nat} (hk : k / 256 = 0x2000) : v.reg k = u.reg k := by
    unfold v
    rw [reg_loadsSafeOff (by omega), reg_banksSafeOff (by omega)]
  have flag (i : Nat) : ((v.bump K.overvoltageEvents).eventKey .power 0 K.powerFlags).flag K.powerFlags i = u.flag K.powerFlags i := by
    rw [State.flag, bumped (by decide), module (by decide)]
    rfl
  refine ⟨_, run, ?_, ?_, ?_, fun ch => ?_, fun n => ?_, ?_⟩
  · rw [flag, flag_setFlag_ne (by decide), flag_setFlag]
  · rw [flag, flag_setFlag]
  · rw [bumped (by decide)]
    exact (reg_loadsSafeOff (by decide) _).trans (engineState_banksSafeOff u)
  · rw [bumped (by simp [key]; omega)]
    have kept := reg_loadsSafeOff (k := K.svState ch) (by simp [key]; omega) u.banksSafeOff
    exact fun e => svState_banksSafeOff_ne u ch (kept.symm.trans e)
  · exact (lsConducts_of_lsState (bumped (by simp [key]; omega))).trans (lsConducts_loadsSafeOff _ n)
  · have events : v.reg K.overvoltageEvents = s.reg K.overvoltageEvents := by
      rw [module (by decide)]
      simp [u, reg_setFlag, reg_supplyRead]
    rw [reg_eventKey, reg_bump, reg_bump, events]

theorem runs_overvoltageClear (h : s.isUp = true) {mV held : Nat} (hv : mV < 36000) (hh : ticksMs 100 ≤ held)
    (hf : s.flag K.powerFlags 2 = true) :
    Runs (.overvoltageClear mV held) s fun t =>
      t.flag K.powerFlags 2 = false ∧ t.flag K.powerFlags 5 = false ∧ t.reg K.engineState = 0 ∧
      ∀ n : Fin 48, s.reg (K.lsState n) = lsOff → 0 < s.reg (K.commandedDuty n) → t.lsConducts n = true := by
  let u := ((s.supplyRead mV).setFlag K.powerFlags 2 false).setFlag K.powerFlags 5 false
  let v := u.setReg K.engineState 0
  have run : exec (.overvoltageClear mV held) s = .next v.loadsReturn := if_neg (by simp [h, hf]; omega)
  have flag (i : Nat) : v.loadsReturn.flag K.powerFlags i = u.flag K.powerFlags i := by
    rw [State.flag, reg_loadsReturn (by decide), reg_setReg_ne (by decide)]
    rfl
  have free : u.flag K.powerFlags 5 = false := flag_setFlag _ _ _ _
  refine ⟨_, run, ?_, ?_, ?_, fun n hs hd => ?_⟩
  · rw [flag, flag_setFlag_ne (by decide), flag_setFlag]
  · rw [flag, free]
  · rw [reg_loadsReturn (by decide), reg_setReg_self]
  · have kept {k : Nat} (hk : 0x4440 ≤ k / 256) : v.reg k = s.reg k := by
      have apart (j : Nat) (hj : j / 256 < 0x4440 := by decide) : k ≠ j := by rintro rfl; omega
      simp only [v, u, reg_setReg_ne (apart K.engineState), reg_setFlag, if_neg (apart K.powerFlags),
        reg_supplyRead (apart _) (apart _)]
    have back : Returning n v := by
      refine ⟨?_, ?_, .inl ?_⟩
      · rw [State.safeOff, State.flag, reg_setReg_ne (by decide)]
        exact free
      · rwa [kept (by simp [key]; omega)]
      · rwa [kept (by simp [key]; omega)]
    exact back.lsConducts_loadsReturn

/-! ### Standby (R543-R546) -/

/-- An active WAKE in standby makes a start due. -/
theorem runs_wakePin_standby {held : Nat} (hh : ticksMs 10 ≤ held)
    (hp : s.power.phase = .sealedStandby ∨ s.power.phase = .listening) (hn : s.power.start = none) :
    Runs (.wakePin true held) s fun t => t.power.start = some ⟨.standbyWake, 1, 0xFF⟩ ∧ t.power.phase = s.power.phase := by
  refine ⟨{ s with power := { s.power with start := some ⟨.standbyWake, 1, 0xFF⟩ } }, ?_, rfl, rfl⟩
  change execWakePin true held s = _
  rw [execWakePin, if_neg (by omega), if_pos (by simpa using hp)]
  simp [hn]

theorem runs_wakePin_active {held : Nat} (hh : ticksMs 10 ≤ held) (h : s.isUp = true) :
    Runs (.wakePin true held) s fun t =>
      t.flag K.powerFlags 4 = true ∧ t.power.inactiveFrom = none ∧ t.power.entry = none ∧
      t.reg K.powerState = if s.reg K.powerState = 2 then 1 else s.reg K.powerState := by
  let u : State := { s with power := { s.power with inactiveFrom := none, entry := none } }
  let v := if u.reg K.powerState = 2 then u.setReg K.powerState 1 else u
  have up := (isUp_iff s).1 h
  have run : exec (.wakePin true held) s = .next (v.setFlag K.powerFlags 4 true) := by
    change execWakePin true held s = _
    rw [execWakePin, if_neg (by omega), if_neg (by simp [up]), if_neg (by simp [h]), if_pos rfl]
  have power : v.power = u.power := by unfold v; split_ifs <;> rfl
  have state : v.reg K.powerState = if s.reg K.powerState = 2 then 1 else s.reg K.powerState := by
    have same : u.reg K.powerState = s.reg K.powerState := rfl
    rw [← same]
    unfold v
    split_ifs
    · exact reg_setReg_self _ _ _
    · rfl
  exact ⟨_, run, flag_setFlag _ _ _ _, congrArg Power.inactiveFrom power, congrArg Power.entry power,
    (reg_setReg_ne (by decide) _ _).trans state⟩

theorem runs_wakePin_inactive {held : Nat} (hh : ticksMs 10 ≤ held) (h : s.isUp = true) :
    Runs (.wakePin false held) s fun t =>
      t.flag K.powerFlags 4 = false ∧ t.power.inactiveFrom = some (s.power.inactiveFrom.getD s.tick) ∧
      t.reg K.powerState = s.reg K.powerState := by
  let u : State := { s with power := { s.power with inactiveFrom := some (s.power.inactiveFrom.getD s.tick) } }
  have up := (isUp_iff s).1 h
  have run : exec (.wakePin false held) s = .next (u.setFlag K.powerFlags 4 false) := by
    change execWakePin false held s = _
    rw [execWakePin, if_neg (by omega), if_neg (by simp [up]), if_neg (by simp [h]), if_neg (by simp)]
  exact ⟨_, run, flag_setFlag _ _ _ _, rfl, reg_setReg_ne (by decide) _ _⟩

theorem runs_wakeOffDelay (h : s.isUp = true) (hs : s.reg K.powerState = 1)
    (hd : s.heldFor s.power.inactiveFrom (ticksMs (s.regN K.wakeOffDelay)) = true) :
    Runs .wakeOffDelay s fun t => t.reg K.powerState = 2 ∧ t.power.entry = some s.tick :=
  ⟨_, if_pos (by simp [h, hs, hd]), reg_setReg_self _ _ _, rfl⟩

theorem runs_standbyEntryWaitEnd (h : s.isUp = true) (he : s.power.entry.isSome = true)
    (hw : s.jr.items = [] ∨ s.heldFor s.power.entry (ticksS 5) = true) :
    Runs .standbyEntryWaitEnd s fun t =>
      (t.power.phase = .listening ∨ t.power.phase = .sealedStandby) ∧ t.power.start = none ∧ t.power.entry = none ∧
      t.reg K.powerState = 0 ∧ t.book.closed = true := by
  refine ⟨s.enterStandby, if_pos ?_, ?_⟩
  · obtain hw | hw := hw <;> simp [h, he, hw]
  · unfold State.enterStandby
    extract_lets items u v w x
    refine ⟨?_, rfl, rfl, ?_, ?_⟩
    · rw [power_logicOff, State.standbyPhase]
      split <;> simp
    · rw [reg_logicOff (by decide), reg_setReg_self]
    · rw [book_logicOff, setReg_book, book_shutdownMark, closed_shutdownRecords]

theorem runs_canWake_pattern {p : Fin 6} (hp : s.power.phase = .listening) (hn : s.power.start = none)
    (he : s.reg (K.canPortEnable p) = 1) (hm : s.reg (K.wakeMode p) = 1) :
    Runs (.canWake p none) s fun t => t.power.start = some ⟨.standbyWake, 2, p⟩ := by
  refine ⟨s.wakeBy p 2, ?_, rfl⟩
  change execCanWake p none s = _
  rw [execCanWake, if_neg (by simp [hp, hn, he])]
  simp only [hm, if_true]

theorem runs_canWake_frame {p : Fin 6} {id : BitVec 32} {d : Bytes} (hp : s.power.phase = .listening) (hn : s.power.start = none)
    (he : s.reg (K.canPortEnable p) = 1) (hm : s.reg (K.wakeMode p) = 2) (hf : s.wakeFrame p id.toNat d = true) :
    Runs (.canWake p (some (id, d))) s fun t => t.power.start = some ⟨.standbyWake, 3, p⟩ := by
  refine ⟨s.wakeBy p 3, ?_, rfl⟩
  change execCanWake p (some (id, d)) s = _
  rw [execCanWake, if_neg (by simp [hp, hn, he])]
  simp only [hm, hf, decide_true, Bool.and_self, if_true]

/-! ### Resets (R550, R552) -/

theorem runs_watchdog (h : s.isUp = true) :
    Runs .watchdog s fun t =>
      t.power.phase = .off ∧ t.power.start = some ⟨.watchdog, 0, 0xFF⟩ ∧ t.reg K.powerState = 0 ∧ t.flag K.powerFlags 5 = true ∧
      t.jr.savedTime = s.jr.savedTime := by
  refine ⟨s.watchdogReset, ?_, rfl, rfl, ?_, ?_, rfl⟩
  · change execWatchdog s = _
    simp only [execWatchdog, h, if_true]
  · rw [State.watchdogReset, reg_logicOff (by decide), reg_setReg_self]
  · rw [State.flag, State.watchdogReset, reg_logicOff (by decide), reg_setReg_ne (by decide)]
    exact safeOff_resetSafeOff s

/-- A write that passes every check passes the check of its rule. -/
theorem check_of_checkWrite {slot : Nat} {q : WriteReq} {r : WriteRule} (h : s.checkWrite slot q r = none) :
    r.check s slot q.data = none := by
  unfold State.checkWrite at h
  repeat' split at h
  all_goals simp_all

/-- What a commanded reset leaves: the flush, and the start that is due (R550, R552). -/
theorem vitals_commandedReset (s : State) (cause : Nat) :
    (s.commandedReset cause).vitals = { s.vitals with
      power := { s.power with phase := .off, start := some ⟨.commanded, 0, 0xFF⟩, entry := none }
      accepting := false, savedTime := s.now } := by
  rw [State.commandedReset, vitals_logicOff, vitals_flush]
  rfl

theorem closed_commandedReset (s : State) (cause : Nat) : (s.commandedReset cause).book.closed = true := by
  rw [State.commandedReset, book_logicOff, closed_flush]

theorem safeOff_commandedReset (s : State) (cause : Nat) : (s.commandedReset cause).flag K.powerFlags 5 = true := by
  rw [State.flag, State.commandedReset, reg_logicOff (by decide), ← State.flag, safeOff_flush]

theorem sectionsOff_of_writable {slot : Nat} {d : Bytes} (hw : Writable s slot 0x2011 0 d moduleResetRule) : s.sectionsOff = true := by
  obtain ⟨-, -, -, hc⟩ := hw
  have checked : need (s.heard slot).sectionsOff .stateDenied = none := check_of_checkWrite hc
  have same : (s.heard slot).sectionsOff = s.sectionsOff := rfl
  rw [same] at checked
  by_contra off
  simp [need, off] at checked

/-- ModuleReset is accepted with every section OFF, and resets the module (R552). -/
theorem writes_moduleReset (slot : Fin 16) (v : BitVec 8) :
    Writes (.moduleReset slot v) s slot 0x2011 0 (leBytes 1 v.toNat) moduleResetRule fun t =>
      s.sectionsOff = true ∧ t.power.phase = .off ∧ t.power.start = some ⟨.commanded, 0, 0xFF⟩ ∧ t.jr.accepting = false ∧
      t.book.closed = true ∧ t.flag K.powerFlags 5 = true ∧ t.jr.savedTime = s.now := by
  intro hw
  refine writes_of_request rfl (fun x => ?_) hw
  generalize hu : (s.taken slot 0x2011 0 (leBytes 1 v.toNat) moduleResetRule).finish (s.regN K.nextJournalSeq) .done = u
  have now : u.now = s.now := by
    rw [← hu]
    exact (congrArg Vitals.now (vitals_finish _ _ _ _)).trans (now_afterAccept _ _ _ _)
  have effect : moduleResetRule.effect (s.taken slot 0x2011 0 (leBytes 1 v.toNat) moduleResetRule) slot (s.regN K.nextJournalSeq)
      (leBytes 1 v.toNat) = u.commandedReset 2 := by
    rw [← hu]
    rfl
  rw [effect]
  have reset := vitals_commandedReset u 2
  have closed := closed_commandedReset u 2
  have off := safeOff_commandedReset u 2
  generalize u.commandedReset 2 = t at reset closed off
  have power := congrArg Vitals.power reset
  exact ⟨sectionsOff_of_writable hw, congrArg Power.phase power, congrArg Power.start power, congrArg Vitals.accepting reset,
    closed, off, (congrArg Vitals.savedTime reset).trans now⟩

end Sys2Proof.Machine
end

section
/-!
The start, and the settlement of O57.
-/
namespace Sys2Proof.Machine
open Sys2Proof
variable {s : State}

/-! ### The start (R548) -/

/-- What `cleared` takes over of a state, and what it sets anew. -/
theorem vitals_cleared (s : State) : s.cleared.vitals =
    { power := State.reset.power, keys := s.vitals.keys, tick := 0, now := s.vitals.savedTime, accepting := true,
      savedTime := s.vitals.savedTime } := rfl

/-- A reset keeps the keys, takes the tick to 0 and accepts again. -/
theorem vitals_rebooted (s : State) : s.rebooted.vitals =
    { power := State.reset.power, keys := s.keys, tick := 0, now := s.jr.savedTime, accepting := true, savedTime := s.jr.savedTime } := by
  have before : s.admitOffers.keepOem.vitals = s.vitals := by simp
  unfold State.rebooted
  extract_lets u held v w x
  have latched : v.vitals = u.cleared.vitals := by unfold v; rw [vitals_setReg, vitals_setReg]
  have inputs : w.vitals = v.vitals := vitals_foldl (fun _ _ => vitals_setReg _ _ _) _ _
  have samples : x.vitals = w.vitals := vitals_foldl (fun _ _ => vitals_setReg _ _ _) _ _
  rw [vitals_foldl (fun _ _ => vitals_setFlag _ _ _ _), samples, inputs, latched, vitals_cleared, before]
  rfl

/-- The module is up as the start has found it. -/
theorem vitals_readPins (s : State) (st : Start) (b : Boot) : (s.readPins st b).vitals =
    { s.vitals with power := { phase := .up, start := none, inactiveFrom := if b.wake then none else some 0, entry := none, holdFrom := none } } :=
  rfl

/-- The start that is due finds something to run: the state from which it goes on, with what secure boot has chosen. -/
def State.booted (s : State) (st : Start) (b : Boot) : State :=
  match (s.selectImage b).image with
  | some n => (s.rebooted.readPins st b).normalStart st b (s.selectImage b) n s.inRecovery
  | none => (s.rebooted.readPins st b).recoveryStart (s.selectImage b)

theorem vitals_booted (s : State) (st : Start) (b : Boot) : (s.booted st b).vitals = (s.rebooted.readPins st b).vitals := by
  unfold State.booted
  split
  · exact vitals_normalStart _ _ _ _ _ _
  · exact vitals_recoveryStart _ _

theorem booted_recovery {st : Start} {b : Boot} (hc : (s.selectImage b).image = none) :
    s.booted st b = (s.rebooted.readPins st b).recoveryStart (s.selectImage b) := by
  simp only [State.booted, hc]

theorem startDue_isSome {b : Boot} (hp : s.power.phase ≠ .up) (hv : 6000 ≤ b.mV.toNat)
    (hd : b.supply = true ∨ s.power.start.isSome = true) : ∃ st, s.startDue b = some st := by
  unfold State.startDue
  rw [if_neg (by simp [hp]; omega)]
  split_ifs with supply
  · exact ⟨_, rfl⟩
  · exact Option.isSome_iff_exists.1 (hd.resolve_left supply)

theorem exec_startUp_dead {b : Boot} {st : Start} (hd : s.startDue b = some st) (hi : b.island = false) :
    exec (.startUp b) s = .next (s.logicOff .off none) := by
  change execStartUp b s = _
  simp [execStartUp, hd, hi]

theorem exec_startUp {b : Boot} {st : Start} (hd : s.startDue b = some st) (hi : b.island = true) :
    exec (.startUp b) s = .next (s.booted st b) := by
  change execStartUp b s = _
  unfold execStartUp State.booted
  rcases hc : (s.selectImage b).image with _ | n <;>
    simp only [hd, hi, hc, Bool.not_true, Bool.false_eq_true, if_false]

/-- The recovery loader serves one session, that of CAN0 (R564). -/
theorem recoveryStart_serves (c : BootChoice) (hp : s.power.phase = .up) :
    (s.recoveryStart c).reg K.securityState = 1 ∧ (s.recoveryStart c).flag K.securityFlags 0 = true ∧
      ((s.recoveryStart c).sess 0).isOpen = true ∧ (s.recoveryStart c).serves = true := by
  have up : (s.recoveryStart c).power.phase = .up := (congrArg (·.power.phase) (vitals_recoveryStart s c)).trans hp
  have state : (s.recoveryStart c).reg K.securityState = 1 := by
    unfold State.recoveryStart
    extract_lets u v
    exact (reg_setFlag _ _ _ _ _).trans ((if_neg (by decide)).trans (reg_setReg_self u _ 1))
  refine ⟨state, ?_, ?_, by simp [State.serves, State.inRecovery, up, state]⟩ <;>
    unfold State.recoveryStart <;> extract_lets u v
  · exact flag_setFlag (u.setReg K.securityState 1) K.securityFlags 0 true
  · rw [sess_openSession]

/-- A start that is due (R548, R563, R564): nothing runs when the island fails; else the module is up from tick 0, with its keys. -/
theorem runs_startUp {b : Boot} (hp : s.power.phase ≠ .up) (hv : 6000 ≤ b.mV.toNat)
    (hd : b.supply = true ∨ s.power.start.isSome = true) :
    Runs (.startUp b) s fun t =>
      (b.island = false → t.power.phase = .off ∧ t.power.start = none) ∧
      (b.island = true → t.power.phase = .up ∧ t.power.start = none ∧ t.tick = 0 ∧ t.keys = s.keys ∧ t.jr.accepting = true) ∧
      (b.island = true → (s.selectImage b).image = none →
        t.reg K.securityState = 1 ∧ t.flag K.securityFlags 0 = true ∧ (t.sess 0).isOpen = true ∧ t.serves = true) := by
  obtain ⟨st, due⟩ := startDue_isSome hp hv hd
  cases hi : b.island with
  | false => exact ⟨_, exec_startUp_dead due hi, fun _ => ⟨rfl, rfl⟩, by simp, by simp⟩
  | true =>
    have found : (s.rebooted.readPins st b).power.phase = .up := rfl
    have kept : (s.booted st b).vitals = _ := (vitals_booted s st b).trans (vitals_readPins _ st b)
    rw [vitals_rebooted] at kept
    have power := congrArg Vitals.power kept
    refine ⟨_, exec_startUp due hi, by simp, fun _ => ?_, fun _ hc => ?_⟩
    · exact ⟨congrArg Power.phase power, congrArg Power.start power, congrArg Vitals.tick kept, congrArg Vitals.keys kept,
        congrArg Vitals.accepting kept⟩
    · rw [booted_recovery hc]
      exact recoveryStart_serves _ found

/-- Settles O57: each event of the supply, of standby and of the start by the lemma about its command. -/
theorem powerEventsTakeEffect : Obligations.PowerEventsTakeEffect := by
  unfold Obligations.PowerEventsTakeEffect
  refine ⟨fun _ mV h => runs_logicSupplyLow h mV, fun _ _ h hv => runs_holdupActive h hv,
    fun _ _ h hv hf hb => runs_holdupEnd h hv hf hb, fun _ _ level h hb => runs_brownout h hb level,
    fun _ _ _ h hv hh hf => runs_overvoltage h hv hh hf, fun _ _ _ h hv hh hf => runs_overvoltageClear h hv hh hf,
    fun _ _ hh hp hn => runs_wakePin_standby hh hp hn, fun s active held hh h => ?wakePin,
    fun _ h hs hd => runs_wakeOffDelay h hs hd, fun _ h he hw => runs_standbyEntryWaitEnd h he hw,
    fun _ _ hp hn he hm => runs_canWake_pattern hp hn he hm, fun _ _ _ _ hp hn he hm hf => runs_canWake_frame hp hn he hm hf,
    fun _ h => runs_watchdog h, fun _ slot v => writes_moduleReset slot v, fun _ _ hp hv hd => runs_startUp hp hv hd⟩
  case wakePin =>
    cases active with
    | true =>
      obtain ⟨t, run, flag, rest⟩ := runs_wakePin_active hh h
      exact ⟨t, run, flag, fun _ => rest, by simp⟩
    | false =>
      obtain ⟨t, run, flag, rest⟩ := runs_wakePin_inactive hh h
      exact ⟨t, run, flag, by simp, fun _ => rest⟩

end Sys2Proof.Machine
end

section
/-!
What stands in the state in which an accepted write takes its effect, and what the end of an item leaves (O15-O18).
-/
namespace Sys2Proof.Machine
open Sys2Proof

/-! ### Values of numeric writes -/

theorem leNat_leBytes (n v : Nat) : leNat (leBytes n v) = v % 256 ^ n := by
  induction n generalizing v with
  | zero => simp [leBytes, leNat, Nat.mod_one]
  | succ n ih =>
    have low : (BitVec.ofNat 8 (v % 256)).toNat = v % 256 := by simp
    rw [leBytes, leNat, ih, low, Nat.pow_succ', Nat.mod_mul]

theorem wval_leBytes_two (k : BitVec 16) : wval (leBytes 2 k.toNat) = k.toNat := by
  rw [wval, leNat_leBytes]
  exact Nat.mod_eq_of_lt k.isLt

/-- A setting of type BOOL that comes into force. -/
theorem putEntry_bool {idx sub : Nat} (hi : idx < 0x7000) (hk : 0x21E0 < idx) (ht : (descOf idx sub).map Desc.ty = some .bool)
    (s : State) (d : Bytes) : s.putEntry idx sub d = s.setReg (key idx sub) (wval d) := by
  obtain ⟨x, hx, hty⟩ := Option.map_eq_some_iff.1 ht
  have entry : s.entryDesc idx sub = some x := by
    rw [State.entryDesc, if_neg (by simp; omega), if_neg (by simp; omega), hx]
  simp [State.putEntry, entry, hty, Ty.isBytes, Ty.decode, Ty.signed, wval]

/-! ### The end of an item -/

theorem finish_fields (s : State) (q : Nat) (o : Outcome) (d : Nat) : s.finish q o d = { s with jr := (s.finish q o d).jr } := by
  unfold State.finish
  split
  · split
    · rfl
    · rw [jwrite_fields]
      rfl
  · rfl

@[simp] theorem axes_finish (s : State) (q : Nat) (o : Outcome) (d : Nat) : (s.finish q o d).axes = s.axes := by rw [finish_fields]
@[simp] theorem cues_finish (s : State) (q : Nat) (o : Outcome) (d : Nat) : (s.finish q o d).cues = s.cues := by rw [finish_fields]
@[simp] theorem lines_finish (s : State) (q : Nat) (o : Outcome) (d : Nat) : (s.finish q o d).lines = s.lines := by rw [finish_fields]
@[simp] theorem lastAct_finish (s : State) (q : Nat) (o : Outcome) (d : Nat) : (s.finish q o d).lastAct = s.lastAct := by rw [finish_fields]

@[simp] theorem axis_finish (s : State) (q : Nat) (o : Outcome) (d n : Nat) : (s.finish q o d).axis n = s.axis n :=
  congrArg (fun t => t.get Axis.init n) (axes_finish s q o d)

@[simp] theorem cue_finish (s : State) (q : Nat) (o : Outcome) (d k : Nat) : (s.finish q o d).cue k = s.cue k :=
  congrArg (fun t => t.get Cue.init k) (cues_finish s q o d)

@[simp] theorem line_finish (s : State) (q : Nat) (o : Outcome) (d n : Nat) : (s.finish q o d).line n = s.line n :=
  congrArg (fun t => t.get Line.init n) (lines_finish s q o d)

@[simp] theorem item_jwrite (s : State) (r : JRec) (q : Nat) : (s.jwrite r).item q = s.item q := by
  rw [State.item, items_jwrite, State.item]

/-- A change of an item that keeps its number is what the number then finds. -/
theorem item_mapItem (s : State) (q : Nat) {f : Item → Item} (hf : ∀ i, (f i).seq = i.seq) : (s.mapItem q f).item q = (s.item q).map f := by
  have sameSeq : ((fun i : Item => i.seq == q) ∘ fun i => if i.seq = q then f i else i) = fun i => i.seq == q := by
    funext i
    by_cases hi : i.seq = q <;> simp [hi, hf]
  simp only [State.item, State.mapItem, setItems, List.find?_map, sameSeq]
  cases h : s.jr.items.find? (fun i => i.seq == q) with
  | none => rfl
  | some i => simp [seq_of_item (s := s) h]

theorem item_mapItem_ne {p q : Nat} (h : p ≠ q) (s : State) {f : Item → Item} (hf : ∀ i, (f i).seq = i.seq) :
    (s.mapItem q f).item p = s.item p := by
  have sameSeq : ((fun i : Item => i.seq == p) ∘ fun i => if i.seq = q then f i else i) = fun i => i.seq == p := by
    funext i
    by_cases hi : i.seq = q <;> simp [hi, hf]
  simp only [State.item, State.mapItem, setItems, List.find?_map, sameSeq]
  cases h' : s.jr.items.find? (fun i => i.seq == p) with
  | none => rfl
  | some i => simp [seq_of_item (s := s) h', h]

/-- An item that is not finished takes the outcome (R71). -/
theorem item_finish {s : State} {q : Nat} {i : Item} (hi : s.item q = some i) (hf : i.state ≠ .finished) (o : Outcome) (d : Nat) :
    (s.finish q o d).item q = some { i with state := .finished, outcome := o.code, detail := d } := by
  simp only [State.finish, hi, hf, if_false, item_jwrite]
  refine (item_mapItem s q ?_).trans ?_
  · exact fun _ => rfl
  · rw [hi, Option.map_some]

theorem item_finish_ne {p q : Nat} (h : p ≠ q) (s : State) (o : Outcome) (d : Nat) : (s.finish q o d).item p = s.item p := by
  unfold State.finish
  split
  · split
    · rfl
    · rw [item_jwrite]
      exact item_mapItem_ne h s fun _ => rfl
  · rfl

/-! ### The state in which a write takes its effect -/

/-- A write command that is a request, for what the response does not show. -/
theorem writes_of_effect {c : Instr} {s : State} {slot idx sub : Nat} {d : Bytes} {r : WriteRule} {P : State → Prop}
    (hc : exec c s = .next (s.request slot idx sub d r)) (hP : P (r.effect (s.taken slot idx sub d r) slot (s.regN K.nextJournalSeq) d))
    (reply : ∀ t x, P t → P { t with lastReply := x }) : Writes c s slot idx sub d r P :=
  writes_of_request hc fun x => reply _ x hP

section
variable (s : State) (slot idx sub : Nat) (d : Bytes) (r : WriteRule)

theorem reg_taken {k : Nat} (hk : key 0x2000 0 ≤ k) : (s.taken slot idx sub d r).reg k = s.reg k :=
  reg_afterAccept_chapters _ _ _ _ hk

@[simp] theorem axes_taken : (s.taken slot idx sub d r).axes = s.axes := axes_afterAccept _ _ _ _
@[simp] theorem cues_taken : (s.taken slot idx sub d r).cues = s.cues := cues_afterAccept _ _ _ _
@[simp] theorem lines_taken : (s.taken slot idx sub d r).lines = s.lines := lines_afterAccept _ _ _ _
@[simp] theorem tick_taken : (s.taken slot idx sub d r).tick = s.tick := tick_afterAccept _ _ _ _

@[simp] theorem axis_taken (n : Nat) : (s.taken slot idx sub d r).axis n = s.axis n :=
  congrArg (fun t => t.get Axis.init n) (axes_taken s slot idx sub d r)

@[simp] theorem cue_taken (k : Nat) : (s.taken slot idx sub d r).cue k = s.cue k :=
  congrArg (fun t => t.get Cue.init k) (cues_taken s slot idx sub d r)

@[simp] theorem line_taken (n : Nat) : (s.taken slot idx sub d r).line n = s.line n :=
  congrArg (fun t => t.get Line.init n) (lines_taken s slot idx sub d r)

theorem items_taken : ∃ i, (s.taken slot idx sub d r).jr.items = s.jr.items ++ [i] ∧ i.seq = s.regN K.nextJournalSeq ∧ i.state = .accepted := by
  obtain ⟨acc, ty, items, -⟩ := jr_afterAccept (s.heard slot) slot ⟨idx, sub, 0, d⟩ r
  exact ⟨_, items, rfl, rfl⟩

/-- The write's own item, where no item in flight has its number. -/
theorem item_taken_self (h : s.item (s.regN K.nextJournalSeq) = none) :
    ∃ i, (s.taken slot idx sub d r).item (s.regN K.nextJournalSeq) = some i ∧ i.state = .accepted := by
  obtain ⟨i, items, seq, accepted⟩ := items_taken s slot idx sub d r
  refine ⟨i, ?_, accepted⟩
  unfold State.item at h ⊢
  rw [items, List.find?_append, h]
  simp [seq]

theorem item_taken_of_some {q : Nat} {i : Item} (h : s.item q = some i) : (s.taken slot idx sub d r).item q = some i := by
  obtain ⟨j, items, -⟩ := items_taken s slot idx sub d r
  unfold State.item at h ⊢
  rw [items, List.find?_append, h]
  rfl

end

end Sys2Proof.Machine
end

section
/-!
Cues: their end, a disarm, an arming and a fire (O16, O17).
-/
namespace Sys2Proof.Machine
open Sys2Proof

variable {s : State} {k : Nat}

/-! ### The end of a cue (R115) -/

theorem endCue_of_free (h : (s.cue k).state = .free) (o : Outcome) (d : Nat) : s.endCue k o d = s := by
  simp [State.endCue, h]

/-- The state of an ending cue before its item finishes. -/
def State.freeCue (s : State) (k : Nat) (o : Outcome) : State :=
  let s := (s.setCue k { s.cue k with state := .free }).setReg K.armedSlots (s.reg K.armedSlots - 1)
  if o = .missed then s.bump K.cuesMissed else s

theorem endCue_of_active (h : (s.cue k).state ≠ .free) (o : Outcome) (d : Nat) :
    s.endCue k o d = if (s.cue k).jseq = 0 then s.freeCue k o else (s.freeCue k o).finish (s.cue k).jseq o d := by
  simp [State.endCue, h, State.freeCue]

@[simp] theorem cues_freeCue (s : State) (k : Nat) (o : Outcome) :
    (s.freeCue k o).cues = s.cues.set Cue.init k { s.cue k with state := .free } := by
  unfold State.freeCue
  extract_lets u
  split <;> rfl

@[simp] theorem jr_freeCue (s : State) (k : Nat) (o : Outcome) : (s.freeCue k o).jr = s.jr := by
  unfold State.freeCue
  extract_lets u
  split <;> rfl

@[simp] theorem lastAct_freeCue (s : State) (k : Nat) (o : Outcome) : (s.freeCue k o).lastAct = s.lastAct := by
  unfold State.freeCue
  extract_lets u
  split <;> rfl

@[simp] theorem tick_freeCue (s : State) (k : Nat) (o : Outcome) : (s.freeCue k o).tick = s.tick := by
  unfold State.freeCue
  extract_lets u
  split <;> rfl

theorem reg_freeCue (s : State) (k : Nat) (o : Outcome) {j : Nat} (hj : j ≠ K.armedSlots) :
    (s.freeCue k o).reg j = if o = .missed then (s.bump K.cuesMissed).reg j else s.reg j := by
  have slots : ((s.setCue k { s.cue k with state := .free }).setReg K.armedSlots (s.reg K.armedSlots - 1)).reg j = s.reg j :=
    (reg_setReg_ne hj _ _).trans (reg_setCue ..)
  unfold State.freeCue
  extract_lets u
  split
  · rw [reg_bump, reg_bump]
    split
    next hm => rw [← hm, slots]
    next => exact slots
  · exact slots

/-- A cue that ends, or was free, is free; its other fields stay. -/
theorem cue_endCue (s : State) (k : Nat) (o : Outcome) (d : Nat) : (s.endCue k o d).cue k = { s.cue k with state := .free } := by
  by_cases h : (s.cue k).state = .free
  · rw [endCue_of_free h, ← h]
  · have freed : (s.freeCue k o).cue k = { s.cue k with state := .free } := by rw [State.cue, cues_freeCue, Tab.get_set_self]
    rw [endCue_of_active h]
    split <;> simp [freed]

theorem cue_endCue_ne {j : Nat} (hj : j ≠ k) (s : State) (o : Outcome) (d : Nat) : (s.endCue k o d).cue j = s.cue j := by
  by_cases h : (s.cue k).state = .free
  · rw [endCue_of_free h]
  · have kept : (s.freeCue k o).cue j = s.cue j := by rw [State.cue, cues_freeCue, Tab.get_set_ne _ _ _ hj, State.cue]
    rw [endCue_of_active h]
    split <;> simp [kept]

theorem armedSlots_endCue (h : (s.cue k).state ≠ .free) (o : Outcome) (d : Nat) :
    (s.endCue k o d).reg K.armedSlots = s.reg K.armedSlots - 1 := by
  have freed : (s.freeCue k o).reg K.armedSlots = s.reg K.armedSlots - 1 := by
    unfold State.freeCue
    extract_lets u
    split
    · exact (reg_bump _ _ _).trans ((if_neg (by decide)).trans (reg_setReg_self _ _ _))
    · exact reg_setReg_self _ _ _
  rw [endCue_of_active h]
  split <;> simp [freed]

/-- A cue that is missed is counted (R119). -/
theorem cuesMissed_endCue (h : (s.cue k).state ≠ .free) (d : Nat) :
    (s.endCue k .missed d).reg K.cuesMissed = (s.bump K.cuesMissed).reg K.cuesMissed := by
  have counted : (s.freeCue k .missed).reg K.cuesMissed = (s.bump K.cuesMissed).reg K.cuesMissed := by
    rw [reg_freeCue _ _ _ (by decide), if_pos rfl]
  rw [endCue_of_active h]
  split <;> simp [counted]

theorem cuesFired_endCue (s : State) (k : Nat) (o : Outcome) (d : Nat) : (s.endCue k o d).reg K.cuesFired = s.reg K.cuesFired := by
  by_cases h : (s.cue k).state = .free
  · rw [endCue_of_free h]
  · have kept : (s.freeCue k o).reg K.cuesFired = s.reg K.cuesFired := by
      rw [reg_freeCue _ _ _ (by decide)]
      split
      · rw [reg_bump, if_neg (by decide)]
      · rfl
    rw [endCue_of_active h]
    split <;> simp [kept]

@[simp] theorem lastAct_endCue (s : State) (k : Nat) (o : Outcome) (d : Nat) : (s.endCue k o d).lastAct = s.lastAct := by
  by_cases h : (s.cue k).state = .free
  · rw [endCue_of_free h]
  · rw [endCue_of_active h]
    split <;> simp

@[simp] theorem tick_endCue (s : State) (k : Nat) (o : Outcome) (d : Nat) : (s.endCue k o d).tick = s.tick := by
  by_cases h : (s.cue k).state = .free
  · rw [endCue_of_free h]
  · rw [endCue_of_active h]
    split <;> simp

/-- The item of a dictionary cue that ends takes its outcome (R115). -/
theorem item_endCue {i : Item} (h : (s.cue k).state ≠ .free) (hq : (s.cue k).jseq ≠ 0) (hi : s.item (s.cue k).jseq = some i)
    (hf : i.state ≠ .finished) (o : Outcome) (d : Nat) :
    (s.endCue k o d).item (s.cue k).jseq = some { i with state := .finished, outcome := o.code, detail := d } := by
  rw [endCue_of_active h, if_neg hq]
  refine item_finish ?_ hf o d
  rw [State.item, jr_freeCue]
  exact hi

theorem item_endCue_ne {q : Nat} (hq : (s.cue k).jseq ≠ q) (o : Outcome) (d : Nat) : (s.endCue k o d).item q = s.item q := by
  have kept : (s.freeCue k o).item q = s.item q := by rw [State.item, jr_freeCue, State.item]
  by_cases h : (s.cue k).state = .free
  · rw [endCue_of_free h]
  · rw [endCue_of_active h]
    split
    · exact kept
    · rw [item_finish_ne hq.symm, kept]

/-! ### A disarm (R118) -/

/-- The row of CueDisarm. -/
def cueDisarmDesc : Desc := ⟨0x2421, 0x2421, 0x00, 0x00, "CueDisarm", .u16, .cmd, 0x00, 0x0E, 0, [(0, 4095)], ""⟩

theorem entryDesc_cueDisarm (s : State) : s.entryDesc 0x2421 0 = some cueDisarmDesc := by
  have row : descOf 0x2421 0 = some cueDisarmDesc := by decide
  simp [State.entryDesc, row]

theorem typeCheck_cueDisarm (v : BitVec 16) : typeCheck cueDisarmDesc 0 (leBytes 2 v.toNat) = none := rfl

theorem valueCheck_cueDisarm (s : State) (v : BitVec 16) :
    s.valueCheck cueDisarmDesc 0x2421 0 (leBytes 2 v.toNat) = if 4095 < v.toNat then some .valueHigh else none := by
  have value : leNat (leBytes 2 v.toNat) = v.toNat := wval_leBytes_two v
  have least : ¬ (v.toNat : Int) < 0 := by omega
  by_cases hv : 4095 < v.toNat <;>
    simp [State.valueCheck, cueDisarmDesc, State.rangesOf, rangeMax, rangeMin, inRanges, Ty.decode, Ty.signed, value, hv, least]

/-- A number above the slots of the dictionary is refused, by its Range or by the check of R118. -/
theorem checkWrite_cueDisarm_internal {slot : Nat} {v : BitVec 16} (ha : s.accessCheck slot 0x2421 0 = none)
    (hi : 4096 ≤ v.toNat + s.regN K.internalSlots) : s.checkWrite slot ⟨0x2421, 0, 0, leBytes 2 v.toNat⟩ cueDisarmRule = some .valueHigh := by
  have refused : cueDisarmRule.check s slot (leBytes 2 v.toNat) = some .valueHigh := by
    simp [cueDisarmRule, wval_leBytes_two, need, hi]
  have owner : cueDisarmRule.owner s (leBytes 2 v.toNat) = false := rfl
  have short : cueDisarmRule.long = none := rfl
  have aim : cueDisarmRule.aim s (leBytes 2 v.toNat) = 0 := rfl
  simp only [State.checkWrite, ha, entryDesc_cueDisarm, typeCheck_cueDisarm, valueCheck_cueDisarm, owner, short, aim, refused]
  by_cases hv : 4095 < v.toNat <;> simp [hv]

theorem effect_cueDisarm (s : State) (slot seq : Nat) (v : BitVec 16) :
    cueDisarmRule.effect s slot seq (leBytes 2 v.toNat) = (s.endCue v.toNat .cancelled).finish seq .done :=
  congrArg (fun k => (s.endCue k .cancelled).finish seq .done) (wval_leBytes_two v)

/-- A disarm (R118): the slot is free and counted out, and both items end, the disarm's DONE and the cue's CANCELLED. -/
theorem writes_cueDisarm (s : State) (slot : Fin 16) (k : BitVec 16) (hn : s.item (s.regN K.nextJournalSeq) = none)
    (hq : (s.cue k.toNat).jseq ≠ s.regN K.nextJournalSeq) :
    Writes (.cueDisarm slot k) s slot 0x2421 0 (leBytes 2 k.toNat) cueDisarmRule fun t =>
      t.tick = s.tick ∧ (t.cue k.toNat).state = .free ∧ (∀ j, j ≠ k.toNat → t.cue j = s.cue j) ∧
      (∃ i, t.item (s.regN K.nextJournalSeq) = some i ∧ i.state = .finished ∧ i.outcome = Outcome.done.code) ∧
      ((s.cue k.toNat).state = .free → t.cues = s.cues ∧ t.reg K.armedSlots = s.reg K.armedSlots) ∧
      ((s.cue k.toNat).state ≠ .free → t.reg K.armedSlots = s.reg K.armedSlots - 1 ∧
        ∀ i, (s.cue k.toNat).jseq ≠ 0 → s.item (s.cue k.toNat).jseq = some i → i.state ≠ .finished →
          ∃ j, t.item (s.cue k.toNat).jseq = some j ∧ j.state = .finished ∧ j.outcome = Outcome.cancelled.code) := by
  refine writes_of_effect rfl ?_ fun _ _ h => h
  obtain ⟨own, hown, accepted⟩ := item_taken_self s slot 0x2421 0 (leBytes 2 k.toNat) cueDisarmRule hn
  have items {p : Nat} {i : Item} (h : s.item p = some i) := item_taken_of_some s slot 0x2421 0 (leBytes 2 k.toNat) cueDisarmRule h
  have cues := cues_taken s slot 0x2421 0 (leBytes 2 k.toNat) cueDisarmRule
  have cue := cue_taken s slot 0x2421 0 (leBytes 2 k.toNat) cueDisarmRule
  have tick := tick_taken s slot 0x2421 0 (leBytes 2 k.toNat) cueDisarmRule
  have slots := reg_taken s slot 0x2421 0 (leBytes 2 k.toNat) cueDisarmRule (k := K.armedSlots) (by decide)
  rw [effect_cueDisarm]
  generalize s.taken slot 0x2421 0 (leBytes 2 k.toNat) cueDisarmRule = u at *
  generalize s.regN K.nextJournalSeq = q at *
  rw [← cue] at hq ⊢
  have done := item_finish ((item_endCue_ne hq .cancelled 0).trans hown) (by simp [accepted]) .done 0
  refine ⟨by simp [tick], by simp [cue_endCue], fun j hj => by simp [cue_endCue_ne hj, cue], ⟨_, done, rfl, rfl⟩,
    fun free => ⟨by simp [endCue_of_free free, cues], by simp [endCue_of_free free, slots]⟩,
    fun active => ⟨by simp [armedSlots_endCue active, slots], fun i h0 hi hf => ?_⟩⟩
  exact ⟨_, (item_finish_ne hq _ _ _).trans (item_endCue active h0 (items hi) hf .cancelled 0), rfl, rfl⟩

theorem runs_cueDisarm_internal (s : State) (slot : Fin 16) (k : BitVec 16) (hs : s.serves = true) (ho : (s.sess slot).isOpen = true)
    (hb : s.reg K.busyState ≠ 1) (ha : (s.heard slot).accessCheck slot 0x2421 0 = none) (hi : 4096 ≤ k.toNat + s.regN K.internalSlots) :
    Runs (.cueDisarm slot k) s fun t =>
      (∃ r, t.lastReply = some r ∧ r.status = Abort.valueHigh.code) ∧ t.cues = s.cues ∧ t.jr = s.jr := by
  refine ⟨_, rfl, ?_⟩
  rw [request_refused hs ho hb (checkWrite_cueDisarm_internal ha hi)]
  exact ⟨⟨_, rfl, rfl⟩, rfl, rfl⟩

/-- Settles O17: a disarm is the end of its cue as CANCELLED, then of its own item as DONE. -/
theorem cueDisarmEndsTheCue : Obligations.CueDisarmEndsTheCue := by
  unfold Obligations.CueDisarmEndsTheCue
  exact ⟨writes_cueDisarm, runs_cueDisarm_internal⟩

/-! ### An arming (R112, R119) -/

theorem effLead_congr {s t : State} (h : ∀ k, key 0x2000 0 ≤ k → t.reg k = s.reg k) (c : CueRec) : t.effLead c = s.effLead c := by
  have lead (k : Nat) (hk : key 0x2000 0 ≤ k) : t.regN k = s.regN k := congrArg Int.toNat (h k hk)
  have target : t.targetLead c.kind c.target = s.targetLead c.kind c.target := by
    unfold State.targetLead
    split
    · exact lead _ (by simp; omega)
    · exact lead _ (by simp; omega)
    · exact lead _ (by simp; omega)
    · exact lead _ (by simp; omega)
    · rfl
  simp only [State.effLead, target]

theorem writes_cueArm (s : State) (slot : Fin 16) (v : Bytes) :
    Writes (.cueArm slot v) s slot 0x2420 0 v cueArmRule fun t =>
      (t.cue (cueRec v).slot).state = .armed ∧ (t.cue (cueRec v).slot).axis = (cueRec v).axis ∧
      (t.cue (cueRec v).slot).pos = (cueRec v).pos ∧ (t.cue (cueRec v).slot).armTick = s.tick ∧
      (t.cue (cueRec v).slot).effLead = s.effLead (cueRec v) ∧ (t.cue (cueRec v).slot).fires = 0 ∧
      (t.cue (cueRec v).slot).jseq = s.regN K.nextJournalSeq ∧ t.reg K.armedSlots = s.reg K.armedSlots + 1 ∧
      ∀ k, k ≠ (cueRec v).slot → t.cue k = s.cue k := by
  refine writes_of_effect rfl ?_ fun _ _ h => h
  have lead : (s.taken slot 0x2420 0 v cueArmRule).effLead (cueRec v) = s.effLead (cueRec v) :=
    effLead_congr (fun k hk => reg_taken _ _ _ _ _ _ hk) _
  have tick := tick_taken s slot 0x2420 0 v cueArmRule
  have cue := cue_taken s slot 0x2420 0 v cueArmRule
  have slots := reg_taken s slot 0x2420 0 v cueArmRule (k := K.armedSlots) (by decide)
  generalize s.taken slot 0x2420 0 v cueArmRule = u at *
  generalize s.regN K.nextJournalSeq = q at *
  have armed : ((u.startItem q).armCue (cueRec v) 0 q).cue (cueRec v).slot = u.newCue (cueRec v) 0 q 0 := cue_setCue (u.startItem q) _ _
  have others (k : Nat) (hk : k ≠ (cueRec v).slot) : ((u.startItem q).armCue (cueRec v) 0 q).cue k = s.cue k :=
    (cue_setCue_ne (u.startItem q) _ _ hk).trans (cue k)
  have counted : ((u.startItem q).armCue (cueRec v) 0 q).reg K.armedSlots = s.reg K.armedSlots + 1 :=
    (reg_setReg_self _ _ _).trans (congrArg (· + 1) slots)
  simp only [cueArmRule]
  rw [armed]
  exact ⟨rfl, rfl, rfl, tick, lead, rfl, rfl, counted, others⟩

/-! ### A fire (R107, R115, R116) -/

/-- The state in which a firing cue's action has gone to its target. -/
def State.acted (s : State) (k : Nat) : State :=
  let c := s.cue k
  let r := if c.origin = 1 then s.sectionFire c else (c.param, s)
  (r.2.bump K.cuesFired).dispatch (s.cueAct k c r.1)

/-- It is the last fire of a cue. -/
def Cue.lastOne (c : Cue) : Bool := !c.flags.testBit 1 || decide (c.repeats ≤ c.fires + 1)

/-- A cue after a fire at a tick and a module time. -/
def Cue.fired (c : Cue) (tick now : Nat) : Cue :=
  { c with
    fires := min 65535 (c.fires + 1), lastFire := now,
    pos := if c.lastOne then c.pos else c.pos + (if c.dir = 2 then -c.interval else c.interval), armTick := tick, evaluated := false }

/-- The state in which a cue has fired, before it ends. -/
def State.fired (s : State) (k : Nat) : State := (s.acted k).setCue k ((s.cue k).fired (s.acted k).tick (s.acted k).now)

theorem fireCue_eq (h : s.cueTargetFailed (s.cue k).kind (s.cue k).target = false) :
    s.fireCue k = if (s.cue k).lastOne then (s.fired k).endCue k .done else s.fired k := by
  simp only [State.fireCue, h, Bool.false_eq_true, if_false]
  rfl

/-- An evaluated tick that finds a cue exactly reached fires it. -/
theorem evalCue_of_reached (ha : (s.cue k).state = .armed) (ht : (s.cue k).armTick < s.tick) (hp : s.cuePast (s.cue k) = 0) :
    s.evalCue k = s.fireCue k := by
  simp [State.evalCue, State.cueEvaluated, ha, ht, hp]

/-- A first evaluation that finds a cue passed ends it MISSED. -/
theorem evalCue_of_passed (ha : (s.cue k).state = .armed) (ht : (s.cue k).armTick < s.tick) (hp : 0 < s.cuePast (s.cue k))
    (he : (s.cue k).evaluated = false) : s.evalCue k = s.endCue k .missed := by
  have notBefore : ¬ s.cuePast (s.cue k) < 0 := by omega
  simp [State.evalCue, State.cueEvaluated, ha, ht, hp, he, notBefore]

@[simp] theorem cue_fired (s : State) (k : Nat) : (s.fired k).cue k = (s.cue k).fired (s.acted k).tick (s.acted k).now := cue_setCue ..

/-- What a fire leaves of the cue, whatever its target does. -/
theorem cue_fireCue (h : s.cueTargetFailed (s.cue k).kind (s.cue k).target = false) :
    (s.fireCue k).cue k = if (s.cue k).lastOne then { (s.cue k).fired (s.acted k).tick (s.acted k).now with state := .free }
      else (s.cue k).fired (s.acted k).tick (s.acted k).now := by
  rw [fireCue_eq h]
  split <;> simp [cue_endCue]

theorem runs_cueFire_reached (s : State) (k : Fin 4096) (ha : (s.cue k).state = .armed) (ht : (s.cue k).armTick < s.tick)
    (hp : s.cuePast (s.cue k) = 0) (hf : s.cueTargetFailed (s.cue k).kind (s.cue k).target = false) :
    Runs (.cueFire k) s fun t =>
      (t.cue k).fires = min 65535 ((s.cue k).fires + 1) ∧
      ((s.cue k).flags.testBit 1 = false → (t.cue k).state = .free) ∧
      ((s.cue k).flags.testBit 1 = true → (s.cue k).fires + 1 < (s.cue k).repeats →
        (t.cue k).state = .armed ∧ (t.cue k).evaluated = false ∧
        (t.cue k).pos = (s.cue k).pos + (if (s.cue k).dir = 2 then -(s.cue k).interval else (s.cue k).interval)) := by
  refine ⟨_, rfl, ?_⟩
  rw [evalCue_of_reached ha ht hp]
  beta_reduce
  rw [cue_fireCue hf]
  refine ⟨?_, fun single => ?_, fun repeating more => ?_⟩
  · split <;> rfl
  · simp [Cue.lastOne, single]
  · have goesOn : (s.cue k).lastOne = false := by simp [Cue.lastOne, repeating]; omega
    simp [goesOn, Cue.fired, ha]

/-- A prompt mark takes a record of the prompt book, and no entry but the counter of deferrals (R113, R117). -/
theorem reg_dispatch_mark {a : Act} (ha : a.kind = 6) {j : Nat} (hj : j ≠ K.sameTickDeferrals) (s : State) :
    (s.dispatch a).reg j = s.reg j := by
  unfold State.dispatch
  split
  · rw [reg_bump, if_neg hj]
    rfl
  · simp [State.deliverAct, State.takeAction, ha]

theorem now_dispatch_mark {a : Act} (ha : a.kind = 6) (s : State) : (s.dispatch a).now = s.now := by
  unfold State.dispatch
  split
  · rfl
  · simp only [State.deliverAct, State.takeAction, ha]
    rw [offerAt_fields]
    rfl

theorem runs_cueFire_mark (s : State) (k : Fin 4096) (ha : (s.cue k).state = .armed) (ht : (s.cue k).armTick < s.tick)
    (hp : s.cuePast (s.cue k) = 0) (hf : s.cueTargetFailed (s.cue k).kind (s.cue k).target = false)
    (hl : (s.cue k).flags.testBit 1 = false) (ho : (s.cue k).origin = 0) (hk : (s.cue k).kind = 6) :
    Runs (.cueFire k) s fun t =>
      (t.cue k).state = .free ∧ (t.cue k).fires = min 65535 ((s.cue k).fires + 1) ∧ (t.cue k).lastFire = s.now ∧
      t.reg K.cuesFired = (s.bump K.cuesFired).reg K.cuesFired ∧ t.reg K.armedSlots = s.reg K.armedSlots - 1 := by
  have last : (s.cue k).lastOne = true := by simp [Cue.lastOne, hl]
  have acted : s.acted k = (s.bump K.cuesFired).dispatch (s.cueAct k (s.cue k) (s.cue k).param) := by simp [State.acted, ho]
  have entries {j : Nat} (hj : j ≠ K.sameTickDeferrals) : (s.fired k).reg j = (s.bump K.cuesFired).reg j := by
    rw [State.fired, reg_setCue, acted]
    exact reg_dispatch_mark hk hj _
  have now : (s.acted k).now = s.now := by
    rw [acted]
    exact now_dispatch_mark hk _
  have active : ((s.fired k).cue k).state ≠ .free := by simp [Cue.fired, ha]
  have slots : (s.bump K.cuesFired).reg K.armedSlots = s.reg K.armedSlots := by rw [reg_bump, if_neg (by decide)]
  refine ⟨_, rfl, ?_⟩
  rw [evalCue_of_reached ha ht hp, fireCue_eq hf, if_pos last]
  beta_reduce
  rw [cue_endCue, cue_fired, now, cuesFired_endCue, armedSlots_endCue active, entries (by decide), entries (by decide), slots]
  exact ⟨rfl, rfl, rfl, rfl, rfl⟩

theorem runs_cueFire_passed (s : State) (k : Fin 4096) (ha : (s.cue k).state = .armed) (ht : (s.cue k).armTick < s.tick)
    (hp : 0 < s.cuePast (s.cue k)) (he : (s.cue k).evaluated = false) :
    Runs (.cueFire k) s fun t =>
      (t.cue k).state = .free ∧ (t.cue k).fires = (s.cue k).fires ∧ t.lastAct = s.lastAct ∧
      t.reg K.cuesMissed = (s.bump K.cuesMissed).reg K.cuesMissed := by
  have active : (s.cue k).state ≠ .free := by simp [ha]
  refine ⟨_, rfl, ?_⟩
  rw [evalCue_of_passed ha ht hp he]
  beta_reduce
  rw [cue_endCue, lastAct_endCue, cuesMissed_endCue active]
  exact ⟨rfl, rfl, rfl, rfl⟩

/-- Settles O16: an arming makes a new cue, and one evaluation of it is a fire or its end as MISSED. -/
theorem cuesArmAndFire : Obligations.CuesArmAndFire := by
  unfold Obligations.CuesArmAndFire
  exact ⟨writes_cueArm, runs_cueFire_mark, runs_cueFire_reached, runs_cueFire_passed⟩

end Sys2Proof.Machine
end

section
/-!
Delay lines (O18).
-/
namespace Sys2Proof.Machine
open Sys2Proof

variable {s : State}

theorem putEntry_lineEnable (s : State) (n : Fin 16) (d : Bytes) :
    s.putEntry (0x2480 + n) 1 d = s.setReg (K.lineEnable n) (wval d) := by
  refine putEntry_bool (by omega) (by omega) ?_ s d
  revert n
  decide

/-- The effect of LineEnable on a line that is not enabled: the entry, then the line is cleared (R122). -/
theorem effect_lineEnable_on (s : State) (slot seq : Nat) (n : Fin 16) (h : s.reg (K.lineEnable n) = 0) :
    (lineEnableRule n).effect s slot seq (leBytes 1 (1 : BitVec 8).toNat) =
      ((s.setReg (K.lineEnable n) 1).clearLine n).finish seq .done := by
  have one : wval (leBytes 1 1) = 1 := rfl
  simp [lineEnableRule, putEntry_lineEnable, one, h]

/-! ### A line that is cleared (R124) -/

@[simp] theorem line_clearLine (s : State) (n : Nat) : (s.clearLine n).line n = ⟨[], false, s.tapPositions n⟩ := line_setLine s n _

theorem reg_clearLine (s : State) (n : Nat) {k : Nat} (h : k / 256 ≠ 0x2490 + n) : (s.clearLine n).reg k = s.reg k := by
  simp (disch := omega) [State.clearLine, reg_setReg_ne]

theorem entriesHeld_clearLine (s : State) (n : Nat) : (s.clearLine n).reg (K.entriesHeld n) = 0 := by
  simp (disch := omega) [State.clearLine, reg_setReg_ne]

/-- An axis has the same value where its estimator, its state and the tick are the same. -/
theorem axisExact_congr {t : State} {n : Nat} (ha : t.axis n = s.axis n) (hs : t.axisState n = s.axisState n) (ht : t.tick = s.tick) :
    t.axisExact n = s.axisExact n := by
  unfold State.axisExact State.axisUsable
  rw [ha, hs, ht]

theorem axisFine_congr {t : State} {n : Nat} (ha : t.axis n = s.axis n) (hs : t.axisState n = s.axisState n) (ht : t.tick = s.tick) :
    t.axisFine n = s.axisFine n := congrArg (· / (2 * 10 ^ 16)) (axisExact_congr ha hs ht)

theorem tapPositions_setReg_lineEnable (s : State) (n : Nat) (v : Int) :
    (s.setReg (K.lineEnable n) v).tapPositions n = s.tapPositions n := by
  have entry {k : Nat} (hk : k % 256 ≠ 1) : (s.setReg (K.lineEnable n) v).reg k = s.reg k := reg_setReg_ne (by simp; omega) _ _
  have axis : (s.setReg (K.lineEnable n) v).regN (K.lineAxis n) = s.regN (K.lineAxis n) := congrArg Int.toNat (entry (by simp))
  have offset (j : Nat) (hj : j < 8) : (s.setReg (K.lineEnable n) v).reg (K.tapOffset n j) = s.reg (K.tapOffset n j) := entry (by simp; omega)
  have value (m : Nat) : (s.setReg (K.lineEnable n) v).axisFine m = s.axisFine m := axisFine_congr rfl (entry (by simp)) rfl
  unfold State.tapPositions
  rw [axis, value]
  exact List.map_congr_left fun j hj => by rw [offset j (List.mem_range.1 hj)]

theorem tapPositions_taken (s : State) (slot idx sub : Nat) (d : Bytes) (r : WriteRule) (n : Nat) :
    (s.taken slot idx sub d r).tapPositions n = s.tapPositions n := by
  have entry {k : Nat} (hk : key 0x2000 0 ≤ k) := reg_taken s slot idx sub d r hk
  have axis : (s.taken slot idx sub d r).regN (K.lineAxis n) = s.regN (K.lineAxis n) := congrArg Int.toNat (entry (by simp; omega))
  have offset (j : Nat) : (s.taken slot idx sub d r).reg (K.tapOffset n j) = s.reg (K.tapOffset n j) := entry (by simp; omega)
  have value (m : Nat) : (s.taken slot idx sub d r).axisFine m = s.axisFine m :=
    axisFine_congr (axis_taken ..) (entry (by simp; omega)) (tick_taken ..)
  simp only [State.tapPositions, axis, offset, value]

theorem writes_lineEnable (s : State) (slot n : Fin 16) (h : s.reg (K.lineEnable n) = 0) :
    Writes (.lineEnable slot n 1) s slot (0x2480 + n) 1 (leBytes 1 (1 : BitVec 8).toNat) (lineEnableRule n) fun t =>
      t.reg (K.lineEnable n) = 1 ∧ (t.line n).entries = [] ∧ (t.line n).hasKey = false ∧ (t.line n).marks = s.tapPositions n ∧
      t.reg (K.entriesHeld n) = 0 := by
  refine writes_of_effect rfl ?_ fun _ _ h => h
  have off := (reg_taken s slot (0x2480 + n) 1 (leBytes 1 (1 : BitVec 8).toNat) (lineEnableRule n) (k := K.lineEnable n)
    (by simp; omega)).trans h
  rw [effect_lineEnable_on _ _ _ _ off]
  rw [reg_finish, reg_clearLine _ _ (by simp; omega), reg_setReg_self, line_finish, line_clearLine, reg_finish, entriesHeld_clearLine]
  exact ⟨rfl, rfl, rfl, (tapPositions_setReg_lineEnable ..).trans (tapPositions_taken ..), rfl⟩

/-! ### A write of an entry (R122) -/

theorem writes_delayLineWrite (s : State) (slot n : Fin 16) (v : Bytes) :
    Writes (.delayLineWrite slot n v) s slot (0x24A0 + n) 0 v (lineWriteRule n) fun t =>
      (t.line n).entries = (s.line n).entries ++ [(lineKey v, lineLanesOf v)] ∧ (t.line n).hasKey = true ∧
      (t.line n).marks = (s.line n).marks ∧ t.reg (K.lastKey n) = lineKey v ∧
      t.reg (K.entriesHeld n) = ((s.line n).entries.length + 1 : Nat) ∧ ∀ m, m ≠ n.val → t.line m = s.line m := by
  refine writes_of_effect rfl ?_ fun _ _ h => h
  have line := line_taken s slot (0x24A0 + n) 0 v (lineWriteRule n)
  generalize s.taken slot (0x24A0 + n) 0 v (lineWriteRule n) = u at *
  generalize s.regN K.nextJournalSeq = q at *
  have added : (u.lineAdd n (lineKey v) (lineLanesOf v)).line n =
      { s.line n with entries := (s.line n).entries ++ [(lineKey v, lineLanesOf v)], hasKey := true } := by
    rw [← line]
    exact line_setLine u n _
  have others (m : Nat) (hm : m ≠ n.val) : (u.lineAdd n (lineKey v) (lineLanesOf v)).line m = s.line m :=
    (line_setLine_ne u n _ hm).trans (line m)
  have held : (u.lineAdd n (lineKey v) (lineLanesOf v)).reg (K.entriesHeld n) = ((s.line n).entries.length + 1 : Nat) := by
    rw [← line]
    exact (reg_setReg_ne (by simp) _ _).trans (reg_setReg_self _ _ _)
  have last : (u.lineAdd n (lineKey v) (lineLanesOf v)).reg (K.lastKey n) = lineKey v := reg_setReg_self _ _ _
  simp only [lineWriteRule, line_finish, reg_finish, added, held, last]
  exact ⟨trivial, trivial, trivial, trivial, trivial, others⟩

/-- A write that its chapter's check refuses is refused, by this check or by one before it. -/
theorem checkWrite_isSome_of_check {slot : Nat} {q : WriteReq} {r : WriteRule} (h : (r.check s slot q.data).isSome = true) :
    ∃ a, s.checkWrite slot q r = some a := by
  obtain ⟨a, ha⟩ := Option.isSome_iff_exists.1 h
  unfold State.checkWrite
  simp only [ha]
  repeat' split
  all_goals exact ⟨_, rfl⟩

theorem check_lineWrite_order {slot n : Nat} {v : Bytes} (hk : (s.line n).hasKey = true) (hl : lineKey v ≤ s.reg (K.lastKey n)) :
    ((lineWriteRule n).check s slot v).isSome = true := by
  have order : s.lineReject n (lineKey v) = some .order := by simp only [State.lineReject, hk, hl, decide_true, Bool.and_self, if_true]
  simp only [lineWriteRule, order, need]
  split_ifs <;> rfl

/-- A refusal of a write to a line changes no line, and of the entries only counters of the interface. -/
theorem refuse_lineWrite (s : State) (slot : Nat) (n : Fin 16) (a : Abort) :
    (s.refuse slot (lineWriteRule n) a).lines = s.lines ∧ (s.refuse slot (lineWriteRule n) a).reg (K.lastKey n) = s.reg (K.lastKey n) := by
  have noted (t : State) (b : Abort) : (lineWriteRule n).refused t slot b = t := rfl
  unfold State.refuse
  rw [noted]
  split
  · exact ⟨rfl, by rw [reg_bump, if_neg (by simp; omega), reg_bump, if_neg (by simp; omega)]⟩
  · exact ⟨rfl, by rw [reg_bump, if_neg (by simp; omega)]⟩

theorem runs_delayLineWrite_order (s : State) (slot n : Fin 16) (v : Bytes) (hs : s.serves = true) (ho : (s.sess slot).isOpen = true)
    (hb : s.reg K.busyState ≠ 1) (hk : (s.line n).hasKey = true) (hl : lineKey v ≤ s.reg (K.lastKey n)) :
    Runs (.delayLineWrite slot n v) s fun t => t.lines = s.lines ∧ t.jr = s.jr ∧ t.reg (K.lastKey n) = s.reg (K.lastKey n) := by
  obtain ⟨a, refused⟩ := checkWrite_isSome_of_check (s := s.heard slot) (slot := slot) (q := ⟨0x24A0 + n, 0, 0, v⟩)
    (check_lineWrite_order (n := n) hk hl)
  refine ⟨_, rfl, ?_⟩
  rw [request_refused hs ho hb refused]
  obtain ⟨lines, last⟩ := refuse_lineWrite (s.heard slot) slot n a
  exact ⟨lines, jr_refuse (.of_silent rfl) a, last⟩

/-- Settles O18: the line is cleared as it is enabled, and takes an entry or refuses it by its key. -/
theorem delayLinesTakeEntries : Obligations.DelayLinesTakeEntries := by
  unfold Obligations.DelayLinesTakeEntries
  exact ⟨writes_lineEnable, writes_delayLineWrite, runs_delayLineWrite_order⟩

end Sys2Proof.Machine
end

section
/-!
What an axis is and shows, through the operations of the other units (O15).
-/
namespace Sys2Proof.Machine
open Sys2Proof

/-- An axis: its estimator, the clock, and its entries, the objects 0x2400 and 0x2410 of its number. -/
structure AxisView where
  est : Axis
  clock : Clock
  entry : Nat → Int

def State.axisView (s : State) (n : Fin 16) : AxisView where
  est := s.axis n
  clock := s.clock
  entry k := if k / 256 = 0x2400 + n ∨ k / 256 = 0x2410 + n then s.reg k else 0

variable {n : Fin 16} {s t : State}

theorem axis_of_view (h : t.axisView n = s.axisView n) : t.axis n = s.axis n := congrArg AxisView.est h
theorem tick_of_view (h : t.axisView n = s.axisView n) : t.tick = s.tick := congrArg (fun v => v.clock.tick) h
theorem now_of_view (h : t.axisView n = s.axisView n) : t.now = s.now := congrArg (fun v => v.clock.time) h

theorem reg_of_view (h : t.axisView n = s.axisView n) {k : Nat} (hk : k / 256 = 0x2400 + n ∨ k / 256 = 0x2410 + n) : t.reg k = s.reg k := by
  have entry := congrArg (fun v => v.entry k) h
  simpa only [State.axisView, hk, if_true] using entry

@[simp] theorem axisView_ite (c : Prop) [Decidable c] (s t : State) :
    (if c then s else t).axisView n = if c then s.axisView n else t.axisView n := apply_ite (fun s => State.axisView s n) _ _ _

@[simp] theorem axisView_foldl {α : Type} {f : State → α → State} (hf : ∀ s x, (f s x).axisView n = s.axisView n) (l : List α) (s : State) :
    (l.foldl f s).axisView n = s.axisView n := by
  induction l generalizing s with
  | nil => rfl
  | cons x t ih => rw [List.foldl_cons, ih, hf]

/-- A change of other fields leaves it. -/
@[simp] theorem axisView_mk (s : State)
    {x_blobs x_sessions x_sdo x_lastReply x_lastSdo x_ifcPending x_jr x_net x_book x_nonces x_windows x_fleet x_cues
    x_lines x_deferred x_lastAct x_impls x_sections x_cov x_tc x_sv x_ls x_feeds x_maint x_canBufs x_canPorts x_ctxs x_caps x_ains
    x_fins x_acus x_brgs x_imu x_supplies x_aligns x_fuse x_cams x_fsync x_streams x_vision x_cells x_regions x_slots x_fabric
    x_keys x_challenges x_island x_yield x_archive x_rdv x_panel x_tag x_zones x_fans x_power x_fresh x_pending} :
    (State.mk s.regs x_blobs x_sessions x_sdo x_lastReply x_lastSdo x_ifcPending x_jr s.clock x_net x_book x_nonces x_windows
    x_fleet s.axes x_cues x_lines x_deferred x_lastAct x_impls x_sections x_cov x_tc x_sv x_ls x_feeds x_maint x_canBufs
    x_canPorts x_ctxs x_caps x_ains x_fins x_acus x_brgs x_imu x_supplies x_aligns x_fuse x_cams x_fsync x_streams x_vision
    x_cells x_regions x_slots x_fabric x_keys x_challenges x_island x_yield x_archive x_rdv x_panel x_tag x_zones x_fans x_power
    x_fresh x_pending).axisView n = s.axisView n := by
  simp only [State.axisView, State.axis, reg_mk]

/-- An entry of another object. -/
theorem axisView_setReg_ne {k : Nat} (h : k / 256 ≠ 0x2400 + n) (h' : k / 256 ≠ 0x2410 + n) (s : State) (v : Int) :
    (s.setReg k v).axisView n = s.axisView n := by
  have entry (j : Nat) (hj : j / 256 = 0x2400 + n ∨ j / 256 = 0x2410 + n) : (s.setReg k v).reg j = s.reg j :=
    reg_setReg_ne (by rintro rfl; omega) _ _
  unfold State.axisView
  congr 1
  funext j
  split
  next hj => exact entry j hj
  next => rfl

/-- An entry above the axes', of another unit. -/
@[simp] theorem axisView_setReg {k : Nat} (h : 0x2420 * 256 ≤ k) (s : State) (v : Int) : (s.setReg k v).axisView n = s.axisView n :=
  axisView_setReg_ne (by omega) (by omega) s v

/-- The same for an entry of a numbered unit. -/
@[simp] theorem axisView_setReg_unit {i j sub : Nat} (h : 0x2420 ≤ i) (s : State) (v : Int) :
    (s.setReg ((i + j) * 256 + sub) v).axisView n = s.axisView n := axisView_setReg (by omega) s v

section
variable (s : State)

/-! ### Entries, records and items -/

@[simp] theorem axisView_bump {k : Nat} (h : 0x2420 * 256 ≤ k) : (s.bump k).axisView n = s.axisView n := axisView_setReg h _ _

@[simp] theorem axisView_bump_unit {i j sub : Nat} (h : 0x2420 ≤ i) : (s.bump ((i + j) * 256 + sub)).axisView n = s.axisView n :=
  axisView_setReg_unit h _ _

@[simp] theorem axisView_setFlag_unit {i j sub : Nat} (h : 0x2420 ≤ i) (b : Nat) (v : Bool) :
    (s.setFlag ((i + j) * 256 + sub) b v).axisView n = s.axisView n := axisView_setReg_unit h _ _

@[simp] theorem axisView_offerAt (time tick : Nat) (source : Src) (code unit : Nat) (payload : Bytes) :
    (s.offerAt time tick source code unit payload).axisView n = s.axisView n := by
  rw [offerAt_fields]
  rfl

@[simp] theorem axisView_eventKey (source : Src) (unit k detail : Nat) : (s.eventKey source unit k detail).axisView n = s.axisView n :=
  axisView_offerAt ..

@[simp] theorem axisView_startItem (q : Nat) : (s.startItem q).axisView n = s.axisView n := rfl

@[simp] theorem axisView_finish (q : Nat) (o : Outcome) (d : Nat) : (s.finish q o d).axisView n = s.axisView n := by
  rw [finish_fields]
  rfl

@[simp] theorem axisView_finishOpt (q : Option Nat) (o : Outcome) (d : Nat) : (s.finishOpt q o d).axisView n = s.axisView n := by
  cases q <;> simp [State.finishOpt]

@[simp] theorem axisView_finishAll (l : List Nat) (o : Outcome) (d : Nat) : (s.finishAll l o d).axisView n = s.axisView n := by
  simp [State.finishAll]

@[simp] theorem axisView_cancelAimed (aim : Nat) : (s.cancelAimed aim).axisView n = s.axisView n := by simp [State.cancelAimed]

@[simp] theorem axisView_endDisable (aim : Nat) : (s.endDisable aim).axisView n = s.axisView n := by simp [State.endDisable]

/-! ### The units' own fields -/

@[simp] theorem axisView_setCue (k : Nat) (x : Cue) : (s.setCue k x).axisView n = s.axisView n := by simp [State.setCue]
@[simp] theorem axisView_setLine (k : Nat) (x : Line) : (s.setLine k x).axisView n = s.axisView n := by simp [State.setLine]
@[simp] theorem axisView_setImpl (k : Nat) (x : Impl) : (s.setImpl k x).axisView n = s.axisView n := by simp [State.setImpl]
@[simp] theorem axisView_setSection (k : Nat) (x : Section) : (s.setSection k x).axisView n = s.axisView n := by simp [State.setSection]
@[simp] theorem axisView_setClient (k : Nat) (x : TcClient) : (s.setClient k x).axisView n = s.axisView n := by simp [State.setClient]
@[simp] theorem axisView_setCan (p : Nat) (x : CanPort) : (s.setCan p x).axisView n = s.axisView n := by simp [State.setCan]
@[simp] theorem axisView_setTxBuf (p b : Nat) (x : TxBuf) : (s.setTxBuf p b x).axisView n = s.axisView n := by simp [State.setTxBuf]
@[simp] theorem axisView_setSv (k : Nat) (x : Sv) : (s.setSv k x).axisView n = s.axisView n := by simp [State.setSv]
@[simp] theorem axisView_setLs (k : Nat) (x : Ls) : (s.setLs k x).axisView n = s.axisView n := by simp [State.setLs]
@[simp] theorem axisView_setCtx (k : Nat) (x : Ctx) : (s.setCtx k x).axisView n = s.axisView n := by simp [State.setCtx]
@[simp] theorem axisView_setFsync (k : Nat) (x : Fsync) : (s.setFsync k x).axisView n = s.axisView n := by simp [State.setFsync]
@[simp] theorem axisView_setFuse (x : Fuse) : (s.setFuse x).axisView n = s.axisView n := by simp [State.setFuse]
@[simp] theorem axisView_setRegion (k : Nat) (x : Region) : (s.setRegion k x).axisView n = s.axisView n := by simp [State.setRegion]
@[simp] theorem axisView_setCell (k : Nat) (x : Cell) : (s.setCell k x).axisView n = s.axisView n := by simp [State.setCell]

/-! ### Cues and delay lines -/

@[simp] theorem axisView_endCue (k : Nat) (o : Outcome) (d : Nat) : (s.endCue k o d).axisView n = s.axisView n := by
  simp [State.endCue]

@[simp] theorem axisView_endCues (l : List Nat) (o : Outcome) (d : Nat) : (s.endCues l o d).axisView n = s.axisView n := by
  simp [State.endCues]

@[simp] theorem axisView_cancelCuesOnTarget (kind target : Nat) : (s.cancelCuesOnTarget kind target).axisView n = s.axisView n := by
  simp [State.cancelCuesOnTarget]

@[simp] theorem axisView_holdCues (m : Nat) : (s.holdCues m).axisView n = s.axisView n := by simp [State.holdCues]

@[simp] theorem axisView_armCue (c : CueRec) (origin jseq region : Nat) : (s.armCue c origin jseq region).axisView n = s.axisView n := by
  simp [State.armCue]

@[simp] theorem axisView_clearLine (l : Nat) : (s.clearLine l).axisView n = s.axisView n := by simp [State.clearLine]

@[simp] theorem axisView_clearLinesOf (m : Nat) : (s.clearLinesOf m).axisView n = s.axisView n := by simp [State.clearLinesOf]

@[simp] theorem axisView_lineStep (l : Nat) : (s.lineStep l).axisView n = s.axisView n := by simp [State.lineStep]

@[simp] theorem axisView_dropMarks (m : Nat) : (s.dropMarks m).axisView n = s.axisView n := rfl

/-! ### Scenes -/

@[simp] theorem axisView_showScene (r : Nat) : (s.showScene r).axisView n = s.axisView n := by
  unfold State.showScene
  extract_lets x t
  have shown : t.axisView n = s.axisView n := by
    unfold t
    split <;> simp
  rw [axisView_setReg (by simp; omega), shown]

@[simp] theorem axisView_sceneOutcome (r item : Nat) (o : Outcome) (d : Nat) : (s.sceneOutcome r item o d).axisView n = s.axisView n := by
  unfold State.sceneOutcome
  split <;> simp

@[simp] theorem axisView_scenePromote (r : Nat) : (s.scenePromote r).axisView n = s.axisView n := by
  unfold State.scenePromote
  extract_lets x
  split <;> simp

@[simp] theorem axisView_dropShadow (r : Nat) : (s.dropShadow r).axisView n = s.axisView n := by simp [State.dropShadow]

@[simp] theorem axisView_sceneEnd (r : Nat) (o : Outcome) (d : Nat) : (s.sceneEnd r o d).axisView n = s.axisView n := by
  unfold State.sceneEnd
  split <;> simp

@[simp] theorem axisView_scenePendEnd (r : Nat) (o : Outcome) (d : Nat) : (s.scenePendEnd r o d).axisView n = s.axisView n := by
  unfold State.scenePendEnd
  split <;> simp

@[simp] theorem axisView_holdScenes (m : Nat) : (s.holdScenes m).axisView n = s.axisView n := by simp [State.holdScenes]

@[simp] theorem axisView_resumeScenes (m : Nat) (continuous : Bool) (held new : Int) :
    (s.resumeScenes m continuous held new).axisView n = s.axisView n := by simp [State.resumeScenes]

@[simp] theorem axisView_resumeCues (m : Nat) (continuous : Bool) (held new : Int) :
    (s.resumeCues m continuous held new).axisView n = s.axisView n := by simp [State.resumeCues]

/-! ### Fusion -/

@[simp] theorem axisView_showFusion : s.showFusion.axisView n = s.axisView n := by simp [State.showFusion]

@[simp] theorem axisView_clearWaiting (warmup : Nat) : (s.clearWaiting warmup).axisView n = s.axisView n := by
  unfold State.clearWaiting
  split <;> rfl

@[simp] theorem axisView_fuseClear : s.fuseClear.axisView n = s.axisView n := by simp [State.fuseClear]

/-! ### Solenoid channels -/

@[simp] theorem axisView_showClaims (b : Nat) : (s.showClaims b).axisView n = s.axisView n := by simp [State.showClaims]

@[simp] theorem axisView_svStopRunning (ch : Nat) : (s.svStopRunning ch).axisView n = s.axisView n := by
  unfold State.svStopRunning
  extract_lets x
  split <;> simp

@[simp] theorem axisView_svDropBoost (ch : Nat) : (s.svDropBoost ch).axisView n = s.axisView n := by simp [State.svDropBoost]

@[simp] theorem axisView_svDiscardPending (ch : Nat) (a : Abort) : (s.svDiscardPending ch a).axisView n = s.axisView n := by
  simp only [State.svDiscardPending]
  split <;> simp

@[simp] theorem axisView_svReleaseDone (ch : Nat) : (s.svReleaseDone ch).axisView n = s.axisView n := by simp [State.svReleaseDone]

@[simp] theorem axisView_svDisableDone (ch : Nat) : (s.svDisableDone ch).axisView n = s.axisView n := by
  simp [State.svDisableDone]

@[simp] theorem axisView_svToEnd (ch : Nat) : (s.svToEnd ch).axisView n = s.axisView n := by simp [State.svToEnd]

@[simp] theorem axisView_svStart (ch number : Nat) (item : Option Nat) : (s.svStart ch number item).axisView n = s.axisView n := by
  unfold State.svStart
  extract_lets st p t q u v
  have pending : t.axisView n = s.axisView n := by
    unfold t
    split <;> simp
  simp [v, pending]

@[simp] theorem axisView_svRelease (ch : Nat) : (s.svRelease ch).axisView n = s.axisView n := by simp [State.svRelease]

/-! ### Load channels -/

@[simp] theorem axisView_lsOpen (c : Nat) : (s.lsOpen c).axisView n = s.axisView n := by simp [State.lsOpen]

@[simp] theorem axisView_lsSwitchOn (c : Nat) : (s.lsSwitchOn c).axisView n = s.axisView n := by simp [State.lsSwitchOn]

@[simp] theorem axisView_lsTrip (c cause : Nat) : (s.lsTrip c cause).axisView n = s.axisView n := by simp [State.lsTrip]

@[simp] theorem axisView_lsNextDuty (c : Nat) : (s.lsNextDuty c).axisView n = s.axisView n := rfl

@[simp] theorem axisView_lsDutyDue (c : Nat) : (s.lsDutyDue c).axisView n = s.axisView n := by
  unfold State.lsDutyDue
  split <;> simp

@[simp] theorem axisView_lsSetDuty (c : Nat) (v : Int) : (s.lsSetDuty c v).axisView n = s.axisView n := by simp [State.lsSetDuty]

/-! ### The other targets of an action (R113) -/

@[simp] theorem axisView_ctxEvent (c code : Nat) : (s.ctxEvent c code).axisView n = s.axisView n := by simp [State.ctxEvent]

@[simp] theorem axisView_canStart (p : Nat) : (s.canStart p).axisView n = s.axisView n := by
  unfold State.canStart
  extract_lets x
  split
  · rfl
  · split <;> rfl

@[simp] theorem axisView_canCommit (p b : Nat) (data : Bytes) : (s.canCommit p b data).axisView n = s.axisView n := by
  simp [State.canCommit]

@[simp] theorem axisView_canService (p : Nat) (f : CanFrame) : (s.canService p f).axisView n = s.axisView n := by simp [State.canService]

@[simp] theorem axisView_canSlotSend (target param fireTime lead : Nat) : (s.canSlotSend target param fireTime lead).axisView n = s.axisView n := by
  unfold State.canSlotSend
  extract_lets p
  split <;> simp

@[simp] theorem axisView_fsyncPulse (o us : Nat) : (s.fsyncPulse o us).axisView n = s.axisView n := by simp [State.fsyncPulse]

@[simp] theorem axisView_takeAction (a : Act) : (s.takeAction a).axisView n = s.axisView n := by
  unfold State.takeAction
  split <;> simp

@[simp] theorem axisView_dispatch (a : Act) : (s.dispatch a).axisView n = s.axisView n := by simp [State.dispatch, State.deliverAct]

/-! ### Sections -/

@[simp] theorem axisView_sectionSet (c : Nat) (on : Bool) (why : Nat) : (s.sectionSet c on why).axisView n = s.axisView n := by
  simp [State.sectionSet]

@[simp] theorem axisView_sectionFire (c : Cue) : (s.sectionFire c).2.axisView n = s.axisView n := by
  unfold State.sectionFire
  extract_lets t
  have set : t.axisView n = s.axisView n := axisView_sectionSet ..
  split
  · split <;> simp [set]
  · exact set

@[simp] theorem axisView_disarmSection (c : Nat) : (s.disarmSection c).axisView n = s.axisView n := by
  unfold State.disarmSection
  split <;> simp

@[simp] theorem axisView_tcChanged (c : Nat) : (s.tcChanged c).axisView n = s.axisView n := by simp [State.tcChanged]

theorem axisView_tryArm {c : Nat} {on : Bool} {why axis : Nat} {pos : Int} {t : State} (h : s.tryArm c on why axis pos = some t) :
    t.axisView n = s.axisView n := by
  unfold State.tryArm at h
  split at h
  · cases h
  · extract_lets k q at h
    split at h
    · cases h
    · cases h
      simp

@[simp] theorem axisView_switchDirect (c : Nat) (on : Bool) (why : Nat) : (s.switchDirect c on why).axisView n = s.axisView n := by
  simp [State.switchDirect]

@[simp] theorem axisView_switchNow (c : Nat) (on : Bool) (why : Nat) : (s.switchNow c on why).axisView n = s.axisView n := by
  unfold State.switchNow
  extract_lets cfg was t
  have disarmed : t.axisView n = s.axisView n := axisView_disarmSection ..
  have armed : ((t.tryArm c on why 16 (t.now + 10 + t.sectionLead c on : Nat)).getD (t.switchDirect c on why)).axisView n = s.axisView n := by
    cases h : t.tryArm c on why 16 (t.now + 10 + t.sectionLead c on : Nat) with
    | none => exact (axisView_switchDirect ..).trans disarmed
    | some u => exact (axisView_tryArm t h).trans disarmed
  simp only [axisView_ite, axisView_tcChanged, axisView_sectionSet, disarmed, armed, ite_self]

@[simp] theorem axisView_allOff (i why : Nat) : (s.allOff i why).axisView n = s.axisView n := by simp [State.allOff]

@[simp] theorem axisView_sectionMotion (i : Nat) : (s.sectionMotion i).axisView n = s.axisView n := by simp [State.sectionMotion]

@[simp] theorem axisView_tcCross (a : Nat) : (s.tcCross a).axisView n = s.axisView n := by
  unfold State.tcCross
  refine axisView_foldl (fun u c => ?_) _ _
  extract_lets cfg
  split <;> simp

@[simp] theorem axisView_tcFlush : s.tcFlush.axisView n = s.axisView n := by simp [State.tcFlush]

@[simp] theorem axisView_shiftImplements (m : Nat) (d : Int) : (s.shiftImplements m d).axisView n = s.axisView n := by
  simp [State.shiftImplements]

@[simp] theorem axisView_showTravel (m : Nat) (accepted : Bool) : (s.showTravel m accepted).axisView n = s.axisView n := by
  simp [State.showTravel]

/-! ### The stop function -/

@[simp] theorem axisView_stopDrive (run : Bool) : (s.stopDrive run).axisView n = s.axisView n := by simp [State.stopDrive]

@[simp] theorem axisView_stopNow : s.stopNow.axisView n = s.axisView n := by simp [State.stopNow]

@[simp] theorem axisView_stopEvaluate : s.stopEvaluate.axisView n = s.axisView n := by simp [State.stopEvaluate]

end

end Sys2Proof.Machine
end

section
/-!
What the operations of an axis leave of the others, and what they make of the axis itself (O15).
-/
namespace Sys2Proof.Machine
open Sys2Proof

variable {n : Fin 16} {s : State}

/-! ### Another axis -/

section
variable (s : State) {m : Nat} (hm : m < 16) (h : m ≠ n)
include h

@[simp] theorem axisView_setAxis_ne (x : Axis) : (s.setAxis m x).axisView n = s.axisView n := by
  have kept : (s.setAxis m x).axis n = s.axis n := axis_setAxis_ne s m x h.symm
  simp only [State.axisView, kept, reg_setAxis]
  rfl

include hm

/-- What an axis shows is in an object of its own. -/
@[simp] theorem axisView_setReg_shown_ne {sub : Nat} (hs : sub < 256) (v : Int) :
    (s.setReg ((0x2410 + m) * 256 + sub) v).axisView n = s.axisView n :=
  axisView_setReg_ne (by omega) (by omega) s v

@[simp] theorem axisView_setFlag_shown_ne {sub : Nat} (hs : sub < 256) (i : Nat) (b : Bool) :
    (s.setFlag ((0x2410 + m) * 256 + sub) i b).axisView n = s.axisView n := axisView_setReg_shown_ne s hm h hs _

@[simp] theorem axisView_bumpBy_shown_ne {sub : Nat} (hs : sub < 256) (d : Int) :
    (s.bumpBy ((0x2410 + m) * 256 + sub) d).axisView n = s.axisView n := axisView_setReg_shown_ne s hm h hs _

@[simp] theorem axisView_showAxis_ne : (s.showAxis m).axisView n = s.axisView n := by simp [State.showAxis, *]

@[simp] theorem axisView_showAxisFlags_ne : (s.showAxisFlags m).axisView n = s.axisView n := by simp [State.showAxisFlags, *]

@[simp] theorem axisView_loseAxis_ne : (s.loseAxis m).axisView n = s.axisView n := by simp [State.loseAxis, State.axisLost, *]

@[simp] theorem axisView_shaftFaults_ne : (s.shaftFaults m).axisView n = s.axisView n := by simp [State.shaftFaults, *]

@[simp] theorem axisView_beginResume_ne (k : AxisSnap) : (s.beginResume m k).axisView n = s.axisView n := by simp [State.beginResume, *]

@[simp] theorem axisView_stepDead_ne : (s.stepDead m).axisView n = s.axisView n := by simp [State.stepDead, *]

@[simp] theorem axisView_stepShaft_ne : (s.stepShaft m).axisView n = s.axisView n := by
  simp only [State.stepShaft]
  split <;> simp [*]

@[simp] theorem axisView_stepField_ne : (s.stepField m).axisView n = s.axisView n := by
  unfold State.stepField
  split <;> simp [*]

theorem axisView_publishAxis_ne : (s.publishAxis m).axisView n = s.axisView n := by simp [State.publishAxis, *]

end

/-! ### The clock, through an operation of an axis -/

/-- There is another axis. -/
theorem exists_axis_ne (m : Nat) : ∃ n : Fin 16, m ≠ n := by
  by_cases h : m = 0
  · exact ⟨1, by simp [h]⟩
  · exact ⟨0, h⟩

theorem now_shaftFaults (s : State) (n : Fin 16) : (s.shaftFaults n).now = s.now := by
  obtain ⟨m, hm⟩ := exists_axis_ne n
  exact now_of_view (axisView_shaftFaults_ne s n.isLt hm)

theorem now_showAxisFlags (s : State) (n : Fin 16) : (s.showAxisFlags n).now = s.now := by
  obtain ⟨m, hm⟩ := exists_axis_ne n
  exact now_of_view (axisView_showAxisFlags_ne s n.isLt hm)

theorem now_publishAxis (s : State) (n : Fin 16) : (s.publishAxis n).now = s.now := by
  obtain ⟨m, hm⟩ := exists_axis_ne n
  exact now_of_view (axisView_publishAxis_ne s n.isLt hm)

/-! ### The axis itself -/

@[simp] theorem axes_showAxis (s : State) (n : Nat) : (s.showAxis n).axes = s.axes := by
  unfold State.showAxis
  extract_lets x t
  unfold t
  split <;> rfl

@[simp] theorem axis_showAxis (s : State) (n m : Nat) : (s.showAxis n).axis m = s.axis m :=
  congrArg (fun t => t.get Axis.init m) (axes_showAxis s n)

@[simp] theorem tick_showAxis (s : State) (n : Nat) : (s.showAxis n).tick = s.tick := by
  unfold State.showAxis
  extract_lets x t
  unfold t
  split <;> rfl

/-- It shows its position, velocity and acceleration. -/
theorem reg_showAxis (s : State) (n : Nat) {k : Nat} (h : k / 256 ≠ 0x2410 + n ∨ 4 < k % 256) : (s.showAxis n).reg k = s.reg k := by
  simp only [State.showAxis]
  split_ifs <;> rw [reg_setReg_ne (by simp; omega), reg_setReg_ne (by simp; omega), reg_setReg_ne (by simp; omega)]

/-- A lost axis holds its value (R101). -/
theorem axis_loseAxis (s : State) (n : Fin 16) :
    (s.loseAxis n).axis n = { s.axis n with s := s.axisFine n, pubTick := s.tick, v := 0, vp := 0, a := 0, vc := 0 } := by
  rw [State.loseAxis, axis_of_view (axisView_showFusion _), State.axisLost, axis_showAxis, axis_of_view (axisView_holdScenes _ _),
    axis_of_view (axisView_holdCues _ _)]
  exact axis_setAxis _ _ _

/-- Beside its state, what a lost axis shows anew is where it stands. -/
theorem reg_loseAxis (s : State) (n : Fin 16) {k : Nat} (h : k / 256 = 0x2400 + n ∨ k / 256 = 0x2410 + n ∧ 4 < k % 256) :
    (s.loseAxis n).reg k = if k = K.axisState n then axInvalid else s.reg k := by
  have own : k / 256 = 0x2400 + n ∨ k / 256 = 0x2410 + n := h.imp_right And.left
  rw [State.loseAxis, reg_of_view (axisView_showFusion _) own, State.axisLost, reg_showAxis _ _ (by omega),
    reg_of_view (axisView_holdScenes _ _) own, reg_of_view (axisView_holdCues _ _) own, reg_setReg]
  rfl

theorem axisState_loseAxis (s : State) (n : Fin 16) : (s.loseAxis n).axisState n = axInvalid :=
  (reg_loseAxis s n (by simp; omega)).trans (if_pos rfl)

end Sys2Proof.Machine
end

section
/-!
The commands and events of a position axis (O15).
-/
namespace Sys2Proof.Machine
open Sys2Proof

variable {n : Fin 16} {s : State}

@[simp] theorem axis_setReg (s : State) (k : Nat) (v : Int) (m : Nat) : (s.setReg k v).axis m = s.axis m := rfl

theorem bump_congr {t : State} {k : Nat} (h : t.reg k = s.reg k) : (t.bump k).reg k = (s.bump k).reg k := by
  rw [reg_bump, reg_bump, if_pos rfl, if_pos rfl, h]

/-- The value of an axis moves with its position. -/
theorem axisExact_moved {t : State} {n : Nat} {move : Int} (hp : (t.axis n).s = (s.axis n).s + move) (hv : (t.axis n).vp = (s.axis n).vp)
    (ha : (t.axis n).a = (s.axis n).a) (hk : (t.axis n).pubTick = (s.axis n).pubTick) (hs : t.axisState n = s.axisState n)
    (ht : t.tick = s.tick) : t.axisExact n = s.axisExact n + move * (2 * 10 ^ 16) := by
  unfold State.axisExact State.axisUsable
  simp only [hp, hv, ha, hk, hs, ht, motionExact]
  split_ifs <;> ring

/-! ### Enabling and disabling (R95, R101) -/

theorem putEntry_axisEnable (s : State) (n : Fin 16) (d : Bytes) : s.putEntry (0x2400 + n) 1 d = s.setReg (K.axisEnable n) (wval d) := by
  refine putEntry_bool (by omega) (by omega) ?_ s d
  revert n
  decide

theorem effect_axisEnable_on (s : State) (slot seq : Nat) (n : Fin 16) (h : s.reg (K.axisEnable n) = 0) :
    (axisEnableRule n).effect s slot seq (leBytes 1 (1 : BitVec 8).toNat) = ((s.setReg (K.axisEnable n) 1).axisStart n).finish seq .done := by
  have one : wval (leBytes 1 1) = 1 := rfl
  simp [axisEnableRule, putEntry_axisEnable, one, h]

theorem effect_axisEnable_off (s : State) (slot seq : Nat) (n : Fin 16) (h : s.reg (K.axisEnable n) = 1) :
    (axisEnableRule n).effect s slot seq (leBytes 1 (0 : BitVec 8).toNat) = ((s.setReg (K.axisEnable n) 0).axisStop n).finish seq .done := by
  have zero : wval (leBytes 1 0) = 0 := rfl
  simp [axisEnableRule, putEntry_axisEnable, zero, h]

/-- A starting axis is at 0 and not in motion. -/
theorem axis_axisStart (s : State) (n : Nat) : (s.axisStart n).axis n =
    { Axis.init with pubTick := s.tick, enabledAt := s.tick, awaitIndex := s.axisAngular n } := by
  simp [State.axisStart]

theorem reg_axisStart (s : State) (n : Nat) {k : Nat} (h : k / 256 ≠ 0x2410 + n) : (s.axisStart n).reg k = s.reg k := by
  simp (disch := omega) [State.axisStart, reg_showAxis, reg_setReg_ne]

theorem axisState_axisStart (s : State) (n : Nat) : (s.axisStart n).axisState n = axInitialising := by
  simp (disch := omega) [State.axisStart, State.axisState, reg_showAxis, reg_setReg_ne]

theorem axisFlags_axisStart (s : State) (n : Nat) : (s.axisStart n).reg (K.axisFlags n) = 0 := by
  simp (disch := omega) [State.axisStart, reg_showAxis, reg_setReg_ne]

/-- The end of the cues on a stopped axis, and of the items aimed at it, leaves the axis as it is. -/
theorem axis_axisStop (s : State) (n : Fin 16) : (s.axisStop n).axis n = Axis.init := by
  rw [State.axisStop, axis_of_view (axisView_cancelAimed _ _), axis_of_view (axisView_endCues _ _ _ _)]
  exact axis_setAxis _ _ _

theorem axisState_axisStop (s : State) (n : Fin 16) : (s.axisStop n).axisState n = axDisabled := by
  have own : K.axisState n / 256 = 0x2400 + n ∨ K.axisState n / 256 = 0x2410 + n := by simp; omega
  rw [State.axisStop, State.axisState, reg_of_view (axisView_cancelAimed _ _) own, reg_of_view (axisView_endCues _ _ _ _) own]
  simp (disch := omega) [reg_setReg_ne]

theorem axisEnable_axisStop (s : State) (n : Fin 16) : (s.axisStop n).reg (K.axisEnable n) = s.reg (K.axisEnable n) := by
  have own : K.axisEnable n / 256 = 0x2400 + n ∨ K.axisEnable n / 256 = 0x2410 + n := by simp; omega
  rw [State.axisStop, reg_of_view (axisView_cancelAimed _ _) own, reg_of_view (axisView_endCues _ _ _ _) own]
  simp (disch := omega) [reg_setReg_ne]

theorem writes_axisEnable_on (s : State) (slot n : Fin 16) (h : s.reg (K.axisEnable n) = 0) :
    Writes (.axisEnable slot n 1) s slot (0x2400 + n) 1 (leBytes 1 (1 : BitVec 8).toNat) (axisEnableRule n) fun t =>
      t.reg (K.axisEnable n) = 1 ∧ t.axisState n = axInitialising ∧ (t.axis n).s = 0 ∧ (t.axis n).v = 0 ∧ t.reg (K.axisFlags n) = 0 := by
  refine writes_of_effect rfl ?_ fun _ _ h => h
  have off := (reg_taken s slot (0x2400 + n) 1 (leBytes 1 (1 : BitVec 8).toNat) (axisEnableRule n) (k := K.axisEnable n)
    (by simp; omega)).trans h
  rw [effect_axisEnable_on _ _ _ _ off]
  rw [State.axisState, axis_finish, axis_axisStart]
  simp only [reg_finish]
  rw [reg_axisStart _ _ (by simp; omega), reg_setReg_self]
  exact ⟨rfl, axisState_axisStart .., rfl, rfl, axisFlags_axisStart ..⟩

theorem writes_axisEnable_off (s : State) (slot n : Fin 16) (h : s.reg (K.axisEnable n) = 1) :
    Writes (.axisEnable slot n 0) s slot (0x2400 + n) 1 (leBytes 1 (0 : BitVec 8).toNat) (axisEnableRule n) fun t =>
      t.reg (K.axisEnable n) = 0 ∧ t.axisState n = axDisabled ∧ t.axis n = Axis.init := by
  refine writes_of_effect rfl ?_ fun _ _ h => h
  have on := (reg_taken s slot (0x2400 + n) 1 (leBytes 1 (0 : BitVec 8).toNat) (axisEnableRule n) (k := K.axisEnable n)
    (by simp; omega)).trans h
  rw [effect_axisEnable_off _ _ _ _ on]
  rw [State.axisState, axis_finish, axis_axisStop, reg_finish, reg_finish, axisEnable_axisStop, reg_setReg_self]
  exact ⟨rfl, axisState_axisStop .., rfl⟩

/-! ### A preset (R125) -/

/-- A discontinuity is counted; else it leaves the axis as it is. -/
theorem axisView_discontinuity (s : State) (n : Fin 16) :
    (s.discontinuity n).axisView n = (s.bump (K.discontinuities n)).axisView n := by simp [State.discontinuity]

theorem reg_discontinuity (s : State) (n : Fin 16) {k : Nat} (h : k / 256 = 0x2400 + n ∨ k / 256 = 0x2410 + n) :
    (s.discontinuity n).reg k = (s.bump (K.discontinuities n)).reg k := reg_of_view (axisView_discontinuity s n) h

theorem axis_discontinuity (s : State) (n : Fin 16) : (s.discontinuity n).axis n = s.axis n :=
  congrArg AxisView.est (axisView_discontinuity s n)

theorem tick_discontinuity (s : State) (n : Fin 16) : (s.discontinuity n).tick = s.tick :=
  congrArg (fun v => v.clock.tick) (axisView_discontinuity s n)

/-- How far a preset moves the axis, in 2^-32 unit. -/
def State.presetMove (s : State) (n : Nat) (d : Bytes) : Int := leInt d * 2 ^ 32 - s.axisFine n

/-- The state in which a preset has put an axis at its value, before it shows it. -/
def State.presetAxis (s : State) (n : Nat) (d : Bytes) : State :=
  (s.setAxis n { s.axis n with s := (s.axis n).s + s.presetMove n d, edgeAngle := (s.axis n).edgeAngle + (leInt d - s.axisValue n) }).shiftImplements n
    (s.presetMove n d)

theorem effect_axisPreset (s : State) (slot seq n : Nat) (d : Bytes) :
    (axisPresetRule n).effect s slot seq d = (((s.presetAxis n d).showAxis n).discontinuity n).finish seq .done := by
  simp only [axisPresetRule, State.presetAxis, State.presetMove]

theorem axis_presetAxis (s : State) (n : Fin 16) (d : Bytes) : (s.presetAxis n d).axis n =
    { s.axis n with s := (s.axis n).s + s.presetMove n d, edgeAngle := (s.axis n).edgeAngle + (leInt d - s.axisValue n) } :=
  (axis_of_view (axisView_shiftImplements ..)).trans (axis_setAxis ..)

theorem reg_presetAxis (s : State) (n : Fin 16) (d : Bytes) {k : Nat} (h : k / 256 = 0x2400 + n ∨ k / 256 = 0x2410 + n) :
    (s.presetAxis n d).reg k = s.reg k := (reg_of_view (axisView_shiftImplements ..) h).trans (reg_setAxis ..)

theorem tick_presetAxis (s : State) (n : Fin 16) (d : Bytes) : (s.presetAxis n d).tick = s.tick :=
  (tick_of_view (n := n) (axisView_shiftImplements ..)).trans (tick_setAxis ..)

/-- The axis is at the value of the preset, to the last digit that it had. -/
theorem axisExact_presetAxis (s : State) (n : Fin 16) (d : Bytes) :
    (s.presetAxis n d).axisExact n = s.axisExact n + s.presetMove n d * (2 * 10 ^ 16) := by
  have axis := axis_presetAxis s n d
  exact axisExact_moved (by rw [axis]) (by rw [axis]) (by rw [axis]) (by rw [axis]) (reg_presetAxis _ _ _ (by simp; omega))
    (tick_presetAxis ..)

theorem axisExact_effect_axisPreset (s : State) (slot seq : Nat) (n : Fin 16) (d : Bytes) :
    ((axisPresetRule n).effect s slot seq d).axisExact n = s.axisExact n + s.presetMove n d * (2 * 10 ^ 16) := by
  rw [effect_axisPreset, ← axisExact_presetAxis]
  refine axisExact_congr ?_ ?_ ?_
  · rw [axis_finish, axis_discontinuity, axis_showAxis]
  · rw [State.axisState, reg_finish, reg_discontinuity _ _ (by simp; omega), reg_bump, if_neg (by simp), reg_showAxis _ _ (by simp)]
    rfl
  · rw [tick_finish, tick_discontinuity, tick_showAxis]

theorem writes_axisPreset (s : State) (slot n : Fin 16) (v : Bytes) :
    Writes (.axisPreset slot n v) s slot (0x2400 + n) 0x0F v (axisPresetRule n) fun t =>
      t.axisValue n = leInt v ∧ t.axisFine n = leInt v * 2 ^ 32 ∧ (t.axis n).vp = (s.axis n).vp ∧ (t.axis n).a = (s.axis n).a ∧
      t.reg (K.discontinuities n) = (s.bump (K.discontinuities n)).reg (K.discontinuities n) := by
  refine writes_of_effect rfl ?_ fun _ _ h => h
  have axis := axis_taken s slot (0x2400 + n) 0x0F v (axisPresetRule n) n
  have count := reg_taken s slot (0x2400 + n) 0x0F v (axisPresetRule n) (k := K.discontinuities n) (by simp; omega)
  generalize s.taken slot (0x2400 + n) 0x0F v (axisPresetRule n) = u at *
  have exact := axisExact_effect_axisPreset u slot (s.regN K.nextJournalSeq) n v
  have shown : ((axisPresetRule n).effect u slot (s.regN K.nextJournalSeq) v).axis n = (u.presetAxis n v).axis n := by
    rw [effect_axisPreset, axis_finish, axis_discontinuity, axis_showAxis]
  rw [axis_presetAxis, axis] at shown
  refine ⟨?_, ?_, by rw [shown], by rw [shown], ?_⟩
  · rw [State.axisValue, exact, State.presetMove, State.axisFine, exactScale]
    omega
  · rw [State.axisFine, exact, State.presetMove, State.axisFine]
    omega
  · rw [effect_axisPreset, reg_finish, reg_discontinuity _ _ (by simp; omega)]
    exact bump_congr ((reg_showAxis _ _ (by simp)).trans ((reg_presetAxis _ _ _ (by simp; omega)).trans count))

/-! ### Losing the sources (R101, R127) -/

theorem runs_wheelSampleTimeout (s : State) (n : Fin 16) (hi : s.axisIs n 1 = true) (hf : s.flag (K.axisFlags n) 0 = false)
    (ht : (s.axis n).lastWheel.getD (s.axis n).enabledAt + ticksMs 100 ≤ s.tick) (hu : s.axisUsable n = true)
    (hm : s.reg (K.standstillSpeed n) * 65536 ≤ absI (s.axis n).v) :
    Runs (.wheelSampleTimeout n) s fun t =>
      t.axisState n = axInvalid ∧ (t.axis n).s = s.axisFine n ∧ (t.axis n).vp = 0 ∧ t.flag (K.axisFlags n) 5 = true := by
  have usable : (s.setFlag (K.axisFlags n) 5 true).axisUsable n = true := by
    rwa [State.axisUsable, State.axisState, State.setFlag, reg_setReg_ne (by simp)]
  have speed : (s.setFlag (K.axisFlags n) 5 true).reg (K.standstillSpeed n) = s.reg (K.standstillSpeed n) :=
    reg_setReg_ne (by simp; omega) _ _
  set u := (s.setFlag (K.axisFlags n) 5 true).setAxis n { s.axis n with lostWheel := true } with hu'
  have run : exec (.wheelSampleTimeout n) s = .next ((u.loseAxis n).eventKey .axesCues n (K.axisState n)) := by
    change execWheelSampleTimeout n s = _
    simp only [execWheelSampleTimeout, hi, hf, usable, speed, hm]
    simp [not_lt.2 ht, hu']
  have fine : u.axisFine n = s.axisFine n := by
    have exact := axisExact_moved (s := s) (t := u) (n := n) (move := 0) (by simp [u]) (by simp [u]) (by simp [u]) (by simp [u])
      (reg_setReg_ne (by simp) _ _) rfl
    rw [State.axisFine, exact, zero_mul, add_zero, State.axisFine]
  have own {k : Nat} (h : k / 256 = 0x2400 + n ∨ k / 256 = 0x2410 + n) := reg_of_view (axisView_eventKey (u.loseAxis n) .axesCues n (K.axisState n) 0) h
  refine ⟨_, run, ?_⟩
  beta_reduce
  rw [axis_of_view (axisView_eventKey ..), axis_loseAxis, fine, State.axisState, State.flag, own (by simp; omega), own (by simp; omega),
    reg_loseAxis _ _ (by simp; omega), reg_loseAxis _ _ (by simp; omega), if_pos rfl, if_neg (by simp)]
  exact ⟨rfl, rfl, rfl, flag_setFlag s _ _ _⟩

theorem runs_gnssAbsentTimeout (s : State) (n : Fin 16) (hi : s.axisIs n 1 = true) (hv : s.axisState n = axValid)
    (ht : (s.axis n).lastFix.getD (s.axis n).enabledAt + ticksS 2 ≤ s.tick) :
    Runs (.gnssAbsentTimeout n) s fun t =>
      t.axisState n = axDegraded ∧ t.flag (K.axisFlags n) 2 = false ∧ t.axis n = s.axis n := by
  simp only [State.axisIs, Bool.and_eq_true, beq_iff_eq] at hi
  obtain ⟨he, hs⟩ := hi
  have state : (s.setFlag (K.axisFlags n) 2 false).axisState n = axValid := (reg_setReg_ne (by simp) _ _).trans hv
  have run : exec (.gnssAbsentTimeout n) s = .next ((s.setFlag (K.axisFlags n) 2 false).setReg (K.axisState n) axDegraded) := by
    change execGnssAbsentTimeout n s = _
    unfold execGnssAbsentTimeout
    cases s.impl0Axis <;> simp only [he, hs, state] <;> simp [not_lt.2 ht]
  refine ⟨_, run, reg_setReg_self _ _ _, ?_, rfl⟩
  rw [State.flag, reg_setReg_ne (by simp)]
  exact flag_setFlag s _ _ _

theorem runs_gnssGateTimeout (s : State) (n : Fin 16) (t0 : Nat) (hi : s.axisIs n 1 = true) (hu : s.axisUsable n = true)
    (hg : (s.axis n).gateSince = some t0) (ht : t0 + ticksS 10 ≤ s.tick) :
    Runs (.gnssGateTimeout n) s fun t => t.axisState n = axInvalid ∧ (t.axis n).s = s.axisFine n ∧ (t.axis n).vp = 0 := by
  have held : s.heldFor (s.axis n).gateSince (ticksS 10) = true := by simp [State.heldFor, hg, ht]
  refine ⟨_, rfl, ?_⟩
  rw [hi, hu, held]
  beta_reduce
  simp only [Bool.and_self, if_true, axis_loseAxis, axisState_loseAxis]
  exact ⟨trivial, trivial, trivial⟩

/-! ### Standstill (R102) -/

theorem runs_standstillEntry (s : State) (n : Fin 16) (he : s.reg (K.axisEnable n) = 1) (hu : s.axisUsable n = true)
    (hl : s.axisAngular n = false) (hv : absI (s.axis n).v < s.reg (K.standstillSpeed n) * 65536)
    (ht : (s.axis n).lastWheel.getD (s.axis n).enabledAt + ticksMs (s.regN (K.standstillTime n)) ≤ s.tick) :
    Runs (.standstillEntry n) s fun t =>
      t.flag (K.axisFlags n) 0 = true ∧ (t.axis n).v = 0 ∧ (t.axis n).vp = 0 ∧ (t.axis n).a = 0 ∧ (t.axis n).vc = 0 ∧
      (t.axis n).s = s.axisFine n := by
  set u := (((s.setAxis n { s.axis n with s := s.axisFine n, pubTick := s.tick, v := 0, vp := 0, a := 0, vc := 0 }).setFlag
    (K.axisFlags n) 0 true).setFlag (K.axisFlags n) 5 false).showAxis n with hu'
  have run : ∃ l : List Nat, exec (.standstillEntry n) s = .next (l.foldl State.sectionMotion u) := by
    change ∃ l : List Nat, execStandstillEntry n s = _
    simp only [execStandstillEntry, he, hu, hl, hv, ht]
    exact ⟨_, rfl⟩
  obtain ⟨l, run⟩ := run
  have view : (l.foldl State.sectionMotion u).axisView n = u.axisView n := axisView_foldl (fun s i => axisView_sectionMotion s i) l u
  have axis : u.axis n = { s.axis n with s := s.axisFine n, pubTick := s.tick, v := 0, vp := 0, a := 0, vc := 0 } := by
    rw [hu', axis_showAxis]
    exact axis_setAxis _ _ _
  have still : u.flag (K.axisFlags n) 0 = true := by
    rw [hu', State.flag, reg_showAxis _ _ (by simp)]
    exact (flag_setFlag_ne (by decide) _ _ _).trans (flag_setFlag _ _ _ _)
  refine ⟨_, run, ?_⟩
  beta_reduce
  rw [axis_of_view view, axis, State.flag, reg_of_view view (by simp; omega)]
  exact ⟨still, rfl, rfl, rfl, rfl, rfl⟩

/-! ### Resume and snapshot (R103, R104) -/

theorem runs_axisResume (s : State) (n : Fin 16) (r : Resume) (hr : (s.axis n).resume = some r) (hs : s.axisSource n = 2) :
    Runs (.axisResume n) s fun t =>
      (t.axis n).resume = none ∧ (t.axis n).s = 0 ∧ (t.axis n).awaitIndex = true ∧ t.axisState n = axInitialising ∧
      t.reg (K.discontinuities n) = (s.bump (K.discontinuities n)).reg (K.discontinuities n) := by
  have look : s.resumeLook n = s.resumeShaft n r := by simp [State.resumeLook, hr, hs]
  set u := ((s.setAxis n { s.axis n with
    s := 0, v := 0, vp := 0, a := 0, pubTick := s.tick, edgeTick := none, edgeAngle := 0, omega := 0, nextPitch := 0, awaitIndex := true,
    resume := none, hist := [] }).setReg (K.axisState n) axInitialising).showAxis n with hu
  have view : (s.resumeLook n).showFusion.axisView n = (u.discontinuity n).axisView n := by
    rw [axisView_showFusion, look]
    exact axisView_resumeCues _ _ _ _ _
  have own {k : Nat} (h : k / 256 = 0x2400 + n ∨ k / 256 = 0x2410 + n) : (s.resumeLook n).showFusion.reg k = (u.bump (K.discontinuities n)).reg k :=
    (reg_of_view view h).trans (reg_discontinuity u n h)
  have axis := (axis_of_view view).trans ((axis_discontinuity u n).trans ((axis_showAxis _ _ _).trans (axis_setAxis s n _)))
  refine ⟨_, rfl, ?_⟩
  beta_reduce
  rw [axis, State.axisState, own (by simp; omega), own (by simp; omega)]
  refine ⟨rfl, rfl, rfl, ?_, bump_congr ?_⟩
  · rw [reg_bump, if_neg (by simp), hu, reg_showAxis _ _ (by simp), reg_setReg_self]
  · rw [hu, reg_showAxis _ _ (by simp), reg_setReg_ne (by simp), reg_setAxis]

/-- One axis of the snapshots of a journal header. -/
def State.addSnapshot (s : State) (t : Tab AxisSnap) (n : Nat) : Tab AxisSnap :=
  if s.reg (K.axisEnable n) = 1 then t.set AxisSnap.init n (s.axisSnapshot n) else t

theorem get_addSnapshot_foldl {n : Nat} (he : s.reg (K.axisEnable n) = 1) (l : List Nat) (t : Tab AxisSnap)
    (h : n ∈ l ∨ t.get AxisSnap.init n = s.axisSnapshot n) : (l.foldl s.addSnapshot t).get AxisSnap.init n = s.axisSnapshot n := by
  induction l generalizing t with
  | nil => simpa using h
  | cons m l ih =>
    refine ih _ ?_
    by_cases hm : m = n
    · subst hm
      exact .inr (by rw [State.addSnapshot, if_pos he, Tab.get_set_self])
    · refine h.imp (fun h => (List.mem_cons.1 h).resolve_left (Ne.symm hm)) fun h => ?_
      rw [State.addSnapshot]
      split
      · rw [Tab.get_set_ne _ _ _ (Ne.symm hm), h]
      · exact h

theorem runs_axisSnapshot (s : State) (n : Fin 16) (he : s.reg (K.axisEnable n) = 1) :
    Runs .axisSnapshot s fun t =>
      t.jr.axisSnaps.get AxisSnap.init n = s.axisSnapshot n ∧ (s.axisSnapshot n).valid = true ∧
      (s.axisSnapshot n).source = s.regN (K.axisSource n) ∧ t.jr.items = s.jr.items ∧ t.axes = s.axes := by
  have taken : ((List.range 16).foldl s.addSnapshot ⟨[]⟩).get AxisSnap.init n = s.axisSnapshot n :=
    get_addSnapshot_foldl he _ _ (.inl (List.mem_range.2 n.isLt))
  exact ⟨_, rfl, taken, rfl, rfl, rfl, rfl⟩

/-! ### The publish instant (R95) -/

theorem axisState_of_view {t : State} (h : t.axisView n = s.axisView n) : t.axisState n = s.axisState n := reg_of_view h (by simp; omega)

/-- The axis bears the stamp of module time. -/
def State.Stamped (s : State) (n : Nat) : Prop := s.reg (K.publishTime n) = (s.now : Nat)

theorem stamped_of_view {t : State} (h : t.axisView n = s.axisView n) : t.Stamped n ↔ s.Stamped n := by
  rw [State.Stamped, State.Stamped, now_of_view h, reg_of_view h (by simp; omega)]

/-- Its publish step stamps an axis that is not DISABLED. -/
theorem stamped_publishAxis (h : s.axisState n ≠ axDisabled) : (s.publishAxis n).Stamped n := by
  obtain ⟨u, step⟩ : ∃ u : State, s.publishAxis n = (u.showAxisFlags n).setReg (K.publishTime n) (u.now : Nat) := ⟨_, if_neg h⟩
  rw [State.Stamped, step, reg_setReg_self, now_setReg, now_showAxisFlags]

theorem publishAxis_disabled (h : s.axisState n = axDisabled) : s.publishAxis n = s := by
  simp [State.publishAxis, h]

theorem now_foldl_publishAxis {l : List Nat} (hl : ∀ m ∈ l, m < 16) (s : State) : (l.foldl State.publishAxis s).now = s.now :=
  List.foldlRecOn (motive := fun t => t.now = s.now) l State.publishAxis rfl
    fun t h m hm => (now_publishAxis t ⟨m, hl m hm⟩).trans h

theorem axisView_foldl_publishAxis {l : List Nat} (hl : ∀ m ∈ l, m < 16) (hn : n.val ∉ l) (s : State) :
    (l.foldl State.publishAxis s).axisView n = s.axisView n :=
  List.foldlRecOn (motive := fun t => t.axisView n = s.axisView n) l State.publishAxis rfl
    fun t h m hm => (axisView_publishAxis_ne t (hl m hm) (fun hmn => hn (hmn ▸ hm))).trans h

/-- A walk over axes stamps those that it meets, and leaves the stamp of the others. -/
theorem stamped_foldl_publishAxis {l : List Nat} (hl : ∀ m ∈ l, m < 16) (h : n.val ∈ l ∧ s.axisState n ≠ axDisabled ∨ s.Stamped n) :
    (l.foldl State.publishAxis s).Stamped n := by
  induction l generalizing s with
  | nil => simpa using h
  | cons m l ih =>
    refine ih (fun k hk => hl k (List.mem_cons_of_mem m hk)) ?_
    by_cases hmn : m = n
    · subst hmn
      by_cases hs : s.axisState n = axDisabled
      · rw [publishAxis_disabled hs]
        exact .inr (h.resolve_left fun h => h.2 hs)
      · exact .inr (stamped_publishAxis hs)
    · have view := axisView_publishAxis_ne s (hl m List.mem_cons_self) hmn
      rw [axisState_of_view view, stamped_of_view view]
      exact h.imp_left (And.imp_left fun hn => (List.mem_cons.1 hn).resolve_left (Ne.symm hmn))

theorem axisSource_of_view {t : State} (h : t.axisView n = s.axisView n) : t.axisSource n = s.axisSource n := reg_of_view h (by simp; omega)

/-- The axis is still not DISABLED, and no time has passed. -/
structure Keeps (n : Fin 16) (s t : State) : Prop where
  state : t.axisState n ≠ axDisabled
  now : t.now = s.now

/-- A fault of a shaft input may lose the axis, but does not disable it. -/
theorem Keeps.shaftFaults {t : State} (h : Keeps n s t) {m : Nat} (hm : m < 16) : Keeps n s (t.shaftFaults m) := by
  refine ⟨?_, (now_shaftFaults t ⟨m, hm⟩).trans h.now⟩
  by_cases hmn : m = n
  · subst hmn
    unfold State.shaftFaults
    split
    · rw [axisState_of_view (axisView_eventKey ..), axisState_loseAxis]
      decide
    · exact h.state
  · rw [axisState_of_view (axisView_shaftFaults_ne t hm hmn)]
    exact h.state

/-- The walk over the axes of one kind of source. -/
def State.publishWhere (s : State) (p : Int → Bool) : State := ((List.range 16).filter fun m => p (s.axisSource m)).foldl State.publishAxis s

theorem stamped_publishWhere {p : Int → Bool} (h : p (s.axisSource n) = true ∧ s.axisState n ≠ axDisabled ∨ s.Stamped n) :
    (s.publishWhere p).Stamped n :=
  stamped_foldl_publishAxis (fun _ hm => List.mem_range.1 (List.mem_filter.1 hm).1) <| h.imp_left <| And.imp_left fun h =>
    List.mem_filter.2 ⟨List.mem_range.2 n.isLt, h⟩

theorem axisView_publishWhere {p : Int → Bool} (h : p (s.axisSource n) = false) : (s.publishWhere p).axisView n = s.axisView n :=
  axisView_foldl_publishAxis (fun _ hm => List.mem_range.1 (List.mem_filter.1 hm).1) (by simp [h]) s

theorem now_publishWhere (s : State) (p : Int → Bool) : (s.publishWhere p).now = s.now :=
  now_foldl_publishAxis (fun _ hm => List.mem_range.1 (List.mem_filter.1 hm).1) s

/-- Each axis has its publish step in the first walk, or keeps its source and has it in the second. -/
theorem stamped_walks (h : s.axisState n ≠ axDisabled) : ((s.publishWhere (· != 3)).publishWhere (· == 3)).Stamped n := by
  refine stamped_publishWhere ?_
  by_cases hs : s.axisSource n = 3
  · have view := axisView_publishWhere (s := s) (n := n) (p := (· != 3)) (by simp [hs])
    refine .inl ⟨?_, by rwa [axisState_of_view view]⟩
    rw [axisSource_of_view view, hs]
    rfl
  · exact .inr (stamped_publishWhere (.inl ⟨by simpa using hs, h⟩))

/-- What the publish instant does after the walks. -/
def State.afterPublish (s : State) : State :=
  let s := ((List.range 16).filter (fun l => s.reg (K.lineEnable l) == 1)).foldl State.lineStep s
  let s := ((List.range 16).foldl State.tcCross s).tcFlush
  let s := ((List.range 4).filter (fun i => s.reg (K.implementEnable i) == 1)).foldl State.sectionMotion s
  s.showFusion.stopEvaluate

theorem axisView_afterPublish (s : State) : s.afterPublish.axisView n = s.axisView n := by simp [State.afterPublish]

theorem exec_axisPublishStep (h : s.tick % 10000 = 0) : exec .axisPublishStep s =
    .next ((((List.range 16).foldl State.shaftFaults s).publishWhere (· != 3)).publishWhere (· == 3)).afterPublish := by
  change execAxisPublishStep s = _
  rw [execAxisPublishStep, if_neg (not_not.2 h)]
  rfl

theorem runs_axisPublishStep (s : State) (h : s.tick % 10000 = 0) :
    Runs .axisPublishStep s fun t => ∀ n : Fin 16, s.axisState n ≠ axDisabled → t.reg (K.publishTime n) = (s.now : Nat) := by
  refine ⟨_, exec_axisPublishStep h, fun n hn => ?_⟩
  have faults : Keeps n s ((List.range 16).foldl State.shaftFaults s) :=
    List.foldlRecOn (motive := Keeps n s) _ _ ⟨hn, rfl⟩ fun _ h _ hm => h.shaftFaults (List.mem_range.1 hm)
  have stamped := stamped_walks faults.state
  have view := axisView_afterPublish (n := n)
    ((((List.range 16).foldl State.shaftFaults s).publishWhere (· != 3)).publishWhere (· == 3))
  rw [← stamped_of_view view, State.Stamped, now_of_view view, now_publishWhere, now_publishWhere, faults.now] at stamped
  exact stamped

/-- Settles O15: what an effect or event does to its axis is read through `axisView`, which the other units leave as it is. -/
theorem axesTakeEffect : Obligations.AxesTakeEffect := by
  unfold Obligations.AxesTakeEffect
  exact ⟨writes_axisEnable_on, writes_axisEnable_off, writes_axisPreset, runs_axisPublishStep, runs_wheelSampleTimeout,
    runs_gnssAbsentTimeout, runs_gnssGateTimeout, runs_standstillEntry, runs_axisResume, runs_axisSnapshot⟩

end Sys2Proof.Machine
end

section
/-!
The hitch of a trailed implement (O19).
-/
namespace Sys2Proof.Machine
open Sys2Proof

variable (s : State)

@[simp] theorem impl_setReg (k : Nat) (v : Int) (n : Nat) : (s.setReg k v).impl n = s.impl n := rfl
@[simp] theorem impl_setFlag (k i : Nat) (b : Bool) (n : Nat) : (s.setFlag k i b).impl n = s.impl n := rfl

theorem eventKey_fields (so : Src) (u e d : Nat) : s.eventKey so u e d = { s with book := (s.eventKey so u e d).book } :=
  offerAt_fields ..

@[simp] theorem impl_eventKey (so : Src) (u e d n : Nat) : (s.eventKey so u e d).impl n = s.impl n := by
  rw [eventKey_fields]
  rfl

@[simp] theorem flag_eventKey (so : Src) (u e d k i : Nat) : (s.eventKey so u e d).flag k i = s.flag k i :=
  congrArg (bitOf · i) (reg_eventKey s so u e d k)

/-- A flag does not hang on another entry. -/
theorem flag_setReg_ne {j k : Nat} (h : j ≠ k) (i : Nat) (v : Int) : (s.setReg k v).flag j i = s.flag j i :=
  congrArg (bitOf · i) (reg_setReg_ne h s v)

/-- The yaw rate of an implement against its parent's, at a hitch angle of its model (R134). -/
def State.hitchRate (n : Nat) : Int :=
  let p := s.parentRates s.machineSpeed s.yawRate s.gammas n
  (s.childRates n (s.impl n).model p.1 p.2).2 - p.2

theorem runs_hitchModelStep (n : Fin 4) (h : s.trailed n = true) :
    Runs (.hitchModelStep n) s fun t =>
      (t.impl n).model = (s.impl n).model + turn100us (s.hitchRate n) ∧
      (t.impl n).gamma = (if s.reg (K.hitchAngleSource n) != 0 && !s.flag (K.implementFlags n) 0 then (s.hitchMeasured n).1
        else (t.impl n).model) ∧
      t.reg (K.hitchAngle n) = wrap32 (t.impl n).gamma ∧ ∀ m, m ≠ n.val → t.impl m = s.impl m := by
  refine ⟨_, (if_neg (by simp [h])).trans rfl, ?_⟩
  simp only [impl_setReg, impl_setImpl, reg_setReg_self]
  exact ⟨rfl, trivial, trivial, fun m hm => impl_setImpl_ne _ _ _ hm⟩

theorem runs_hitchFallback (n : Fin 4) (t0 : Nat) (ht : s.trailed n = true) (hs : s.reg (K.hitchAngleSource n) ≠ 0)
    (hf : s.flag (K.implementFlags n) 0 = false) (hd : (s.impl n).disagree = some t0) (h1 : t0 + ticksS 1 ≤ s.tick) :
    Runs (.hitchFallback n) s fun t =>
      t.flag (K.implementFlags n) 0 = true ∧ (t.impl n).gamma = (s.impl n).model ∧ t.reg (K.hitchAngle n) = wrap32 (s.impl n).model := by
  have held : s.heldFor (s.impl n).disagree (ticksS 1) = true := by simp [State.heldFor, hd, h1]
  refine ⟨_, (if_neg (by simp [ht, hs, hf])).trans ((if_pos (by simp [held])).trans rfl), ?_, ?_, ?_⟩
  · rw [flag_eventKey, flag_setReg_ne _ (by simp), flag_setFlag]
  · simp
  · rw [reg_eventKey, reg_setReg_self]

theorem runs_hitchFallbackClear (n : Fin 4) (t0 : Nat) (hf : s.flag (K.implementFlags n) 0 = true) (hm : (s.hitchMeasured n).2 = false)
    (ha : (s.impl n).agree = some t0) (h10 : t0 + ticksS 10 ≤ s.tick) :
    Runs (.hitchFallbackClear n) s fun t =>
      t.flag (K.implementFlags n) 0 = false ∧ (t.impl n).gamma = (s.hitchMeasured n).1 ∧ (t.impl n).model = (s.hitchMeasured n).1 := by
  have held : s.heldFor (s.impl n).agree (ticksS 10) = true := by simp [State.heldFor, ha, h10]
  refine ⟨_, congrArg Host.Outcome.next (if_pos (by simp [hf, hm, held])), ?_, ?_, ?_⟩
  · rw [flag_setReg_ne _ (by simp), flag_setFlag]
  · simp
  · simp

/-- Settles O19: a model step, and the two ends of a disagreement. -/
theorem hitchFollowsSensorOrModel : Obligations.HitchFollowsSensorOrModel := by
  unfold Obligations.HitchFollowsSensorOrModel
  exact ⟨runs_hitchModelStep, runs_hitchFallback, runs_hitchFallbackClear⟩

end Sys2Proof.Machine
end

section
/-!
Bits of coverage tiles, and the operations on the coverage grid (O21).
-/
namespace Sys2Proof.Machine
open Sys2Proof

/-! ### A key that a table does not list -/

theorem cellsGet_of_not_listed {α : Type} (d : α) {k : Nat} {l : List (Nat × α)} (h : ∀ c ∈ l, c.1 ≠ k) : cellsGet d l k = d := by
  induction l with
  | nil => rfl
  | cons c t ih =>
    rw [cellsGet, if_neg (h c List.mem_cons_self), ih fun x hx => h x (List.mem_cons_of_mem _ hx)]

/-! ### What a clear keeps of a byte (R158) -/

/-- A sum of distinct powers of two has exactly their bits. -/
theorem foldl_two_pow (p : Nat → Bool) (n : Nat) :
    (List.range n).foldl (fun a b => if p b then a + 2 ^ b else a) 0 < 2 ^ n ∧
    ∀ j, ((List.range n).foldl (fun a b => if p b then a + 2 ^ b else a) 0).testBit j = (decide (j < n) && p j) := by
  induction n with
  | zero => simp
  | succ n ih =>
    obtain ⟨small, bits⟩ := ih
    rw [List.range_succ, List.foldl_append, List.foldl_cons, List.foldl_nil]
    generalize (List.range n).foldl (fun a b => if p b then a + 2 ^ b else a) 0 = a at small bits ⊢
    cases hp : p n with
    | false =>
      refine ⟨by rw [if_neg (by simp)]; omega, fun j => ?_⟩
      rw [if_neg (by simp), bits]
      rcases Nat.lt_trichotomy j n with hj | rfl | hj
      · simp [hj, Nat.lt_succ_of_lt hj]
      · simp [hp]
      · simp [Nat.not_lt.2 hj.le, Nat.not_lt.2 hj]
    | true =>
      refine ⟨by rw [if_pos rfl]; omega, fun j => ?_⟩
      have disjoint : 2 ^ n + a = 2 ^ n ||| a := by simpa using Nat.two_pow_add_eq_or_of_lt small 1
      rw [if_pos rfl, Nat.add_comm, disjoint, Nat.testBit_or, bits, Nat.testBit_two_pow]
      rcases Nat.lt_trichotomy j n with hj | rfl | hj
      · simp [hj, Nat.lt_succ_of_lt hj, Nat.ne_of_gt hj]
      · simp [hp]
      · simp [Nat.not_lt.2 hj.le, Nat.not_lt.2 hj, Nat.ne_of_lt hj]

theorem testBit_keptByte (layers mask k v j : Nat) :
    (keptByte layers mask k v).testBit j = (decide (j < 8) && (v.testBit j && !mask.testBit ((k * 8 + j) % layers))) :=
  (foldl_two_pow (fun b => v.testBit b && !mask.testBit ((k * 8 + b) % layers)) 8).2 j

/-- No bit of a cleared layer is set. -/
def LayersClear (layers mask : Nat) (t : Tab Nat) : Prop :=
  ∀ k j, mask.testBit ((k * 8 + j) % layers) = true → (t.get 0 k).testBit j = false

theorem layersClear_empty (layers mask : Nat) : LayersClear layers mask ⟨[]⟩ := fun _ _ _ => Nat.zero_testBit _

theorem layersClear_keptBits (layers mask : Nat) (t : Tab Nat) : LayersClear layers mask (keptBits layers mask t) := by
  refine List.foldlRecOn (motive := LayersClear layers mask) t.cells _ (layersClear_empty _ _) fun u hu c _ k j hk => ?_
  by_cases h : k = c.1
  · rw [h, Tab.get_set_self, testBit_keptByte, ← h, hk]
    simp
  · rw [Tab.get_set_ne _ _ _ h]
    exact hu k j hk

/-! ### Cells and tiles -/

variable (s : State)

theorem covered_of_tileKey {i j : Int} {k : Nat} (h : tileKey (i / 256) (j / 256) = some k) (layer : Nat) :
    s.covered layer i j = ((s.tile k).bits.get 0 (cellBit (s.regN K.coverageLayers) layer i j / 8)).testBit
      (cellBit (s.regN K.coverageLayers) layer i j % 8) := by
  simp only [State.covered, h]

/-- A cell's bit is one of its layer. -/
theorem cellBit_mod {layers layer : Nat} (h : layer < layers) (i j : Int) : cellBit layers layer i j % layers = layer := by
  rw [cellBit, Nat.mul_add_mod_self_right, Nat.mod_eq_of_lt h]

theorem not_covered_of_layersClear {layer mask : Nat} (hm : mask.testBit layer = true) (hl : layer < s.regN K.coverageLayers)
    (h : ∀ k, LayersClear (s.regN K.coverageLayers) mask (s.tile k).bits) (i j : Int) : s.covered layer i j = false := by
  cases hk : tileKey (i / 256) (j / 256) with
  | none => simp only [State.covered, hk]
  | some k =>
    rw [covered_of_tileKey s hk]
    refine h k _ _ ?_
    rwa [Nat.div_add_mod', cellBit_mod hl]

/-! ### A mark (R142, R145) -/

@[simp] theorem cov_eventKey (so : Src) (u e d : Nat) : (s.eventKey so u e d).cov = s.cov := by rw [eventKey_fields]
@[simp] theorem cov_finish (q : Nat) (o : Outcome) (d : Nat) : (s.finish q o d).cov = s.cov := by rw [finish_fields]

/-- A mark does not change the waiting marks. -/
@[simp] theorem marks_markCell (layer : Nat) (i j : Int) : (s.markCell layer i j).cov.marks = s.cov.marks := by
  unfold State.markCell
  split
  · rfl
  · extract_lets t full b byte u v
    split
    · split
      · rfl
      · rw [cov_eventKey]
        rfl
    · rfl

/-- A tile that a mark has reached: DIRTY, with the cell's bit. -/
def CovTile.withMark (t : CovTile) (tick bit : Nat) : CovTile :=
  { t with
    present := true, dirty := true, firstMark := if t.dirty then t.firstMark else tick,
    bits := t.bits.set 0 (bit / 8) (Nat.lor (t.bits.get 0 (bit / 8)) (2 ^ (bit % 8))) }

theorem markCell_of_present {layer k : Nat} {i j : Int} (hk : tileKey (i / 256) (j / 256) = some k) (hp : (s.tile k).present = true) :
    s.markCell layer i j =
      let u := s.setTile k ((s.tile k).withMark s.tick (cellBit (s.regN K.coverageLayers) layer i j))
      u.setReg K.tilesUsed (u.presentTiles.length : Nat) := by
  simp only [State.markCell, hk, hp, CovTile.withMark, Bool.not_true, Bool.false_and, Bool.false_eq_true, if_false, if_true]

theorem tile_markCell {layer k : Nat} {i j : Int} (hk : tileKey (i / 256) (j / 256) = some k) (hp : (s.tile k).present = true) :
    (s.markCell layer i j).tile k = (s.tile k).withMark s.tick (cellBit (s.regN K.coverageLayers) layer i j) := by
  rw [markCell_of_present s hk hp]
  exact tile_setTile ..

theorem layers_markCell {layer k : Nat} {i j : Int} (hk : tileKey (i / 256) (j / 256) = some k) (hp : (s.tile k).present = true) :
    (s.markCell layer i j).regN K.coverageLayers = s.regN K.coverageLayers := by
  rw [markCell_of_present s hk hp]
  exact congrArg Int.toNat ((reg_setReg_ne (by decide) _ _).trans (reg_setTile ..))

/-- A mark in a present tile covers its cell. -/
theorem covered_markCell {layer k : Nat} {i j : Int} (hk : tileKey (i / 256) (j / 256) = some k) (hp : (s.tile k).present = true) :
    (s.markCell layer i j).covered layer i j = true := by
  rw [covered_of_tileKey _ hk, layers_markCell s hk hp, tile_markCell s hk hp, CovTile.withMark, Tab.get_set_self]
  exact (Nat.testBit_or ..).trans (by simp)

/-! ### A sweep (R144) -/

/-- What a sweep changes: its sections, and new marks behind the waiting ones. -/
structure Sweeps (s t : State) : Prop where
  impls : t.impls = s.impls
  tiles : t.cov.tiles = s.cov.tiles
  marks : s.cov.marks <+: t.cov.marks

theorem Sweeps.impl {s t : State} (h : Sweeps s t) (n : Nat) : t.impl n = s.impl n := congrArg (fun t => t.get Impl.init n) h.impls

theorem sweeps_sweepSection (n : Nat) : Sweeps s (s.sweepSection n) := by
  unfold State.sweepSection
  extract_lets c x
  split
  · exact ⟨rfl, rfl, List.prefix_rfl⟩
  · exact ⟨rfl, rfl, List.prefix_append _ _⟩

theorem sweeps_sweepSections (l : List Nat) : Sweeps s (l.foldl State.sweepSection s) :=
  List.foldlRecOn (motive := Sweeps s) l _ ⟨rfl, rfl, List.prefix_rfl⟩ fun t ht n _ =>
    have hn := sweeps_sweepSection t n
    ⟨hn.impls.trans ht.impls, hn.tiles.trans ht.tiles, ht.marks.trans hn.marks⟩

/-- An implement with a sweep at a position and tick. -/
def Impl.sweptAt (x : Impl) (pos : Int) (tick : Nat) : Impl := { x with sweepPos := pos, sweepTick := tick }

theorem exec_coverageSweep_due (i : Fin 4) (he : s.reg (K.implementEnable i) = 1) (ht : (s.impl i).sweepTick + ticksMs 10 ≤ s.tick) :
    exec (.coverageSweep i) s = .next ((s.sectionsOf i).foldl State.sweepSection
      (s.setImpl i ((s.impl i).sweptAt (s.axisFine (s.regN (K.sectionAxis i))) s.tick))) :=
  (if_neg (not_not.2 he)).trans (if_neg (by simp [Nat.not_lt.2 ht]))

theorem runs_coverageSweep (i : Fin 4) (he : s.reg (K.implementEnable i) = 1) (ht : (s.impl i).sweepTick + ticksMs 10 ≤ s.tick) :
    Runs (.coverageSweep i) s fun t =>
      (t.impl i).sweepTick = s.tick ∧ (t.impl i).sweepPos = s.axisFine (s.regN (K.sectionAxis i)) ∧ s.cov.marks <+: t.cov.marks ∧
      t.cov.tiles = s.cov.tiles := by
  refine ⟨_, exec_coverageSweep_due s i he ht, ?_⟩
  have swept := sweeps_sweepSections (s.setImpl i ((s.impl i).sweptAt (s.axisFine (s.regN (K.sectionAxis i))) s.tick)) (s.sectionsOf i)
  have impl := swept.impl i
  rw [impl_setImpl] at impl
  exact ⟨congrArg Impl.sweepTick impl, congrArg Impl.sweepPos impl, swept.marks, swept.tiles⟩

/-! ### Ripe marks (R144) -/

/-- The axis of an implement has advanced MarkDelay past the sweep of a mark. -/
def State.ripe (s : State) (i : Fin 4) (m : Mark) : Bool :=
  m.impl == i.val && decide (m.pos + s.reg (K.markDelay i) * fineMm ≤ s.axisFine (s.regN (K.sectionAxis i)))

/-- The state without the ripe marks of an implement among the waiting ones. -/
def State.dropRipe (s : State) (i : Fin 4) : State :=
  { s with cov := { s.cov with marks := s.cov.marks.filter (fun m => !s.ripe i m) } }

theorem exec_markCommit (i : Fin 4) : exec (.markCommit i) s =
    .next ((s.cov.marks.filter (s.ripe i)).foldl (fun s m => s.markCell m.layer m.i m.j) (s.dropRipe i)) := rfl

theorem marks_markCells (l : List Mark) : (l.foldl (fun s m => s.markCell m.layer m.i m.j) s).cov.marks = s.cov.marks :=
  List.foldlRecOn (motive := fun t => t.cov.marks = s.cov.marks) l _ rfl fun t ht m _ => (marks_markCell t m.layer m.i m.j).trans ht

theorem runs_markCommit (i : Fin 4) :
    Runs (.markCommit i) s fun t => ∀ m, m ∈ t.cov.marks ↔ m ∈ s.cov.marks ∧
      ¬ (m.impl = i.val ∧ m.pos + s.reg (K.markDelay i) * fineMm ≤ s.axisFine (s.regN (K.sectionAxis i))) := by
  refine ⟨_, exec_markCommit s i, fun m => ?_⟩
  rw [marks_markCells, State.dropRipe, List.mem_filter]
  simp only [State.ripe, Bool.not_eq_true', ← Bool.not_eq_true, Bool.and_eq_true, beq_iff_eq, decide_eq_true_eq]

theorem runs_markCommit_one (i : Fin 4) (m : Mark) (k : Nat) (hs : s.cov.marks = [m]) (hi : m.impl = i.val)
    (hr : m.pos + s.reg (K.markDelay i) * fineMm ≤ s.axisFine (s.regN (K.sectionAxis i)))
    (hk : tileKey (m.i / 256) (m.j / 256) = some k) (hp : (s.tile k).present = true) :
    Runs (.markCommit i) s fun t => t.cov.marks = [] ∧ t.covered m.layer m.i m.j = true ∧ (t.tile k).dirty = true := by
  have ripe : s.ripe i m = true := by simp [State.ripe, hi, hr]
  refine ⟨_, exec_markCommit s i, ?_⟩
  rw [hs, List.filter_cons_of_pos ripe, List.filter_nil, List.foldl_cons, List.foldl_nil]
  refine ⟨?_, covered_markCell _ hk hp, congrArg CovTile.dirty (tile_markCell (s.dropRipe i) hk hp)⟩
  simp [State.dropRipe, hs, ripe]

end Sys2Proof.Machine
end

section
/-!
The commands of the coverage grid and of the boundary mask (O21).
-/
namespace Sys2Proof.Machine
open Sys2Proof

variable (s : State)

/-! ### The archive of the open field (R145, R481) -/

@[simp] theorem fieldArc_setFieldArc (f : Nat) (x : FieldArc) : (s.setFieldArc f x).fieldArc f = x := Tab.get_set_self ..

@[simp] theorem fieldArc_setTile (k : Nat) (x : CovTile) (f : Nat) : (s.setTile k x).fieldArc f = s.fieldArc f := rfl

theorem reg_setFieldArc {k : Nat} (h : k ≠ K.archiveUsed) (f : Nat) (x : FieldArc) : (s.setFieldArc f x).reg k = s.reg k :=
  reg_setReg_ne h _ _

/-- A tile for which there is a unit is stored, and DIRTY no more. -/
theorem archiveTile_of_unit {f k : Nat} (h : s.hasUnit ((s.fieldArc f).cov.get CovArc.init k != CovArc.init) = true) :
    s.archiveTile f k =
      (s.setFieldArc f { s.fieldArc f with
        cov := (s.fieldArc f).cov.set CovArc.init k ⟨s.regN K.coverageLayers, (s.tile k).bits⟩ }).setTile k
          { s.tile k with dirty := false } := by
  simp only [State.archiveTile, h, if_true]

@[simp] theorem tile_archiveDone (k : Nat) : s.archiveDone.tile k = s.tile k := rfl
@[simp] theorem fieldArc_archiveDone (f : Nat) : s.archiveDone.fieldArc f = s.fieldArc f := rfl

theorem archiveTime_archiveDone : s.archiveDone.reg K.archiveTime = (s.now : Nat) := by
  rw [State.archiveDone, reg_setFlag, if_neg (by decide), reg_setReg_self]
  rfl

theorem exec_coverageArchiveWrite_one {f k : Nat} (hf : s.openFieldNo = some f) (hd : s.dirtyTiles = [k]) :
    exec (.coverageArchiveWrite true) s = .next (s.archiveTile f k).archiveDone := by
  change execCoverageArchiveWrite true s = _
  simp [execCoverageArchiveWrite, hf, State.archiveAll, hd]

theorem runs_coverageArchiveWrite (f k : Nat) (hf : s.openFieldNo = some f) (hd : s.dirtyTiles = [k])
    (hu : s.hasUnit ((s.fieldArc f).cov.get CovArc.init k != CovArc.init) = true) :
    Runs (.coverageArchiveWrite true) s fun t =>
      (t.tile k).dirty = false ∧ (t.tile k).bits = (s.tile k).bits ∧
      (t.fieldArc f).cov.get CovArc.init k = ⟨s.regN K.coverageLayers, (s.tile k).bits⟩ ∧
      t.reg K.archiveTime = (s.now : Nat) ∧ t.cov.lastArchiveOk = s.tick ∧ t.flag K.coverageFlags 3 = false := by
  refine ⟨_, exec_coverageArchiveWrite_one s hf hd, ?_⟩
  rw [archiveTile_of_unit s hu]
  refine ⟨by simp, by simp, ?_, archiveTime_archiveDone _, rfl, flag_setFlag ..⟩
  rw [fieldArc_archiveDone, fieldArc_setTile, fieldArc_setFieldArc]
  exact Tab.get_set_self ..

/-! ### A clear of layers (R158) -/

/-- A tile without the bits of the cleared layers; without any bit it is free. -/
def CovTile.cleared (t : CovTile) (layers mask : Nat) : CovTile :=
  let b := keptBits layers mask t.bits
  if b.cells.isEmpty then CovTile.init else { t with bits := b }

/-- The state with every tile cleared, before what it shows of them. -/
def State.clearTiles (s : State) (mask : Nat) : State :=
  s.cov.tiles.cells.foldl (fun u c => u.setTile c.1 (c.2.cleared (s.regN K.coverageLayers) mask)) s

/-- The layers that have met a full region and are not cleared. -/
def State.fullBeside (s : State) (mask : Nat) : Nat :=
  (List.range 4).foldl (fun a b => if s.cov.fullLayers.testBit b && !mask.testBit b then a + 2 ^ b else a) 0

/-- The state with the grid cleared, before the archive of the open field. -/
def State.clearGrid (s : State) (mask : Nat) : State :=
  let full := (s.clearTiles mask).fullBeside mask
  let u := { s.clearTiles mask with cov := { (s.clearTiles mask).cov with fullLayers := full } }
  (u.setReg K.tilesUsed (u.presentTiles.length : Nat)).setFlag K.coverageFlags 0 (u.flag K.coverageFlags 0 && full != 0)

/-- A clear of layers is that of the grid, and of the open field's archive where there is one. -/
theorem clearLayers_cases (mask : Nat) :
    s.clearLayers mask = s.clearGrid mask ∨ ∃ f x, s.clearLayers mask = (s.clearGrid mask).setFieldArc f x := by
  generalize hr : s.clearLayers mask = r
  unfold State.clearLayers at hr
  extract_lets layers u full v w at hr
  split at hr
  · exact .inl hr.symm
  · exact .inr ⟨_, _, hr.symm⟩

theorem tile_of_not_listed {k : Nat} (h : ∀ c ∈ s.cov.tiles.cells, c.1 ≠ k) : s.tile k = CovTile.init := by
  rw [State.tile, Tab.get, cellsGet_of_not_listed _ h]

theorem layersClear_cleared (t : CovTile) (layers mask : Nat) : LayersClear layers mask (t.cleared layers mask).bits := by
  unfold CovTile.cleared
  extract_lets b
  split
  · exact layersClear_empty _ _
  · exact layersClear_keptBits _ _ _

/-- A walk that writes each listed tile anew: what holds of every new tile, and of an unlisted one, holds of each. -/
theorem tile_foldl_setTile {Q : CovTile → Prop} {g : CovTile → CovTile} (hg : ∀ t, Q (g t)) {k : Nat} (l : List (Nat × CovTile)) (u : State)
    (hu : (∀ c ∈ l, c.1 ≠ k) → Q (u.tile k)) : Q ((l.foldl (fun u c => u.setTile c.1 (g c.2)) u).tile k) := by
  induction l generalizing u with
  | nil => exact hu (by simp)
  | cons c t ih =>
    refine ih _ fun ht => ?_
    beta_reduce
    by_cases hc : c.1 = k
    · rw [hc, tile_setTile]
      exact hg c.2
    · rw [tile_setTile_ne _ _ _ (Ne.symm hc)]
      exact hu (List.forall_mem_cons.2 ⟨hc, ht⟩)

theorem layersClear_clearTiles (mask k : Nat) : LayersClear (s.regN K.coverageLayers) mask ((s.clearTiles mask).tile k).bits := by
  unfold State.clearTiles
  refine tile_foldl_setTile (Q := fun t => LayersClear (s.regN K.coverageLayers) mask t.bits) (fun t => layersClear_cleared t _ _) _ s
    fun h => ?_
  rw [tile_of_not_listed s h]
  exact layersClear_empty _ _

theorem reg_clearTiles (mask k : Nat) : (s.clearTiles mask).reg k = s.reg k := by
  unfold State.clearTiles
  exact reg_foldl (fun u c _ => reg_setTile ..) s

theorem fullLayers_clearTiles (mask : Nat) : (s.clearTiles mask).cov.fullLayers = s.cov.fullLayers := by
  unfold State.clearTiles
  exact List.foldlRecOn (motive := fun u : State => u.cov.fullLayers = s.cov.fullLayers) _ _ rfl fun _ hu _ _ => hu

theorem tile_clearLayers (mask k : Nat) : (s.clearLayers mask).tile k = (s.clearTiles mask).tile k := by
  obtain grid | ⟨f, x, archive⟩ := clearLayers_cases s mask
  · rw [grid]
    rfl
  · rw [archive]
    rfl

theorem layers_clearLayers (mask : Nat) : (s.clearLayers mask).reg K.coverageLayers = s.reg K.coverageLayers := by
  have kept : (s.clearGrid mask).reg K.coverageLayers = s.reg K.coverageLayers := by
    rw [State.clearGrid, reg_setFlag, if_neg (by decide), reg_setReg_ne (by decide), reg_mk, reg_clearTiles]
  obtain grid | ⟨f, x, archive⟩ := clearLayers_cases s mask
  · rw [grid, kept]
  · rw [archive, reg_setFieldArc _ (by decide), kept]

theorem fullBeside_eq_zero {mask : Nat} (h : ∀ b < 4, s.cov.fullLayers.testBit b = true → mask.testBit b = true) :
    s.fullBeside mask = 0 := by
  refine Nat.eq_of_testBit_eq fun j => ?_
  rw [State.fullBeside, (foldl_two_pow (fun b => s.cov.fullLayers.testBit b && !mask.testBit b) 4).2, Nat.zero_testBit]
  by_cases hj : j < 4
  · cases hb : s.cov.fullLayers.testBit j with
    | false => simp
    | true => simp [h j hj hb]
  · simp [hj]

/-- COVERAGE_FULL is clear where every layer that has met a full region is cleared. -/
theorem coverageFull_clearLayers {mask : Nat} (h : ∀ b < 4, s.cov.fullLayers.testBit b = true → mask.testBit b = true) :
    (s.clearLayers mask).flag K.coverageFlags 0 = false := by
  have noLayer : (s.clearTiles mask).fullBeside mask = 0 := fullBeside_eq_zero _ (by rwa [fullLayers_clearTiles])
  have clear : (s.clearGrid mask).flag K.coverageFlags 0 = false := by
    rw [State.clearGrid, noLayer, flag_setFlag]
    exact Bool.and_false _
  obtain grid | ⟨f, x, archive⟩ := clearLayers_cases s mask
  · rw [grid, clear]
  · rw [archive, State.flag, reg_setFieldArc _ (by decide)]
    exact clear

theorem not_covered_clearLayers {mask layer : Nat} (hm : mask.testBit layer = true) (hl : layer < s.regN K.coverageLayers) (i j : Int) :
    (s.clearLayers mask).covered layer i j = false := by
  have layers : (s.clearLayers mask).regN K.coverageLayers = s.regN K.coverageLayers := congrArg Int.toNat (layers_clearLayers s mask)
  refine not_covered_of_layersClear _ hm (by rwa [layers]) (fun k => ?_) i j
  rw [layers, tile_clearLayers]
  exact layersClear_clearTiles s mask k

/-! ### The writes -/

@[simp] theorem flag_finish (q : Nat) (o : Outcome) (d k i : Nat) : (s.finish q o d).flag k i = s.flag k i :=
  congrArg (bitOf · i) (reg_finish s q o d k)

@[simp] theorem regN_finish (q : Nat) (o : Outcome) (d k : Nat) : (s.finish q o d).regN k = s.regN k :=
  congrArg Int.toNat (reg_finish s q o d k)

@[simp] theorem covered_finish (q : Nat) (o : Outcome) (d layer : Nat) (i j : Int) :
    (s.finish q o d).covered layer i j = s.covered layer i j := by
  simp only [State.covered, State.tile, regN_finish, cov_finish]

theorem wval_leBytes_one (v : BitVec 8) : wval (leBytes 1 v.toNat) = v.toNat := by
  rw [wval, leNat_leBytes]
  exact Nat.mod_eq_of_lt v.isLt

@[simp] theorem cov_taken (slot idx sub : Nat) (d : Bytes) (r : WriteRule) : (s.taken slot idx sub d r).cov = s.cov :=
  cov_afterAccept ..

theorem regN_taken (slot idx sub : Nat) (d : Bytes) (r : WriteRule) {k : Nat} (hk : key 0x2000 0 ≤ k) :
    (s.taken slot idx sub d r).regN k = s.regN k := congrArg Int.toNat (reg_taken s slot idx sub d r hk)

theorem writes_coverageClear (slot : Fin 16) (l : BitVec 8) :
    Writes (.coverageClear slot l) s slot 0x2812 0 (leBytes 1 l.toNat) coverageClearRule fun t =>
      ((∀ b : Fin 4, s.cov.fullLayers.testBit b = true → l.toNat.testBit b = true) → t.flag K.coverageFlags 0 = false) ∧
      ∀ (layer : Nat) (i j : Int), l.toNat.testBit layer = true → layer < s.regN K.coverageLayers → t.covered layer i j = false := by
  refine writes_of_effect rfl ?_ fun _ _ h => h
  have cov := cov_taken s slot 0x2812 0 (leBytes 1 l.toNat) coverageClearRule
  have layers := regN_taken s slot 0x2812 0 (leBytes 1 l.toNat) coverageClearRule (k := K.coverageLayers) (by decide)
  generalize s.taken slot 0x2812 0 (leBytes 1 l.toNat) coverageClearRule = u at *
  simp only [coverageClearRule, commandRule, wval_leBytes_one, flag_finish, covered_finish]
  refine ⟨fun h => coverageFull_clearLayers u fun b hb => ?_, fun layer i j hm hl => not_covered_clearLayers u hm (by rwa [layers]) i j⟩
  rw [cov]
  exact h ⟨b, hb⟩

/-! ### The boundary mask (R147, R148, R484) -/

@[simp] theorem cov_storeMask (b : Bytes) : (s.storeMask b).cov = s.cov := by
  unfold State.storeMask
  split <;> rfl

theorem reg_storeMask {k : Nat} (h : k ≠ K.archiveUsed) (b : Bytes) : (s.storeMask b).reg k = s.reg k := by
  unfold State.storeMask
  split
  · exact reg_setFieldArc s h _ _
  · rfl

theorem flag_storeMask {k : Nat} (h : k ≠ K.archiveUsed) (b : Bytes) (i : Nat) : (s.storeMask b).flag k i = s.flag k i :=
  congrArg (bitOf · i) (reg_storeMask s h b)

/-- The mask that is put into force: its raster, the number of its rings and its CRC. -/
theorem putMask_some {b : Bytes} {l : List Ring} (h : maskRingsOf b = some l) :
    (s.putMask (some b)).cov = { s.cov with mask := some (rasterOf (s.regN K.coveragePitch) l) } ∧
    (s.putMask (some b)).reg K.maskRings = (l.length : Nat) ∧ (s.putMask (some b)).reg K.maskCrc = (fieldU b (b.length - 4) 4 : Nat) ∧
    (s.putMask (some b)).flag K.coverageFlags 1 = true := by
  simp only [State.putMask, h, Option.getD_some]
  refine ⟨rfl, ?_, ?_, flag_setFlag ..⟩
  · rw [reg_setFlag, if_neg (by decide), reg_setReg_ne (by decide), reg_setReg_self]
  · rw [reg_setFlag, if_neg (by decide), reg_setReg_self]

theorem putMask_none :
    (s.putMask none).cov = { s.cov with mask := none } ∧ (s.putMask none).reg K.maskRings = 0 ∧ (s.putMask none).reg K.maskCrc = 0 ∧
    (s.putMask none).flag K.coverageFlags 1 = false := by
  refine ⟨rfl, ?_, ?_, flag_setFlag ..⟩
  · rw [State.putMask, reg_setFlag, if_neg (by decide), reg_setReg_ne (by decide), reg_setReg_self]
  · rw [State.putMask, reg_setFlag, if_neg (by decide), reg_setReg_self]

theorem writes_boundaryMaskLoad (slot : Fin 16) (v : Bytes) (l : List Ring) (h : maskRingsOf v = some l) :
    Writes (.boundaryMaskLoad slot v) s slot 0x2813 0 v maskLoadRule fun t =>
      t.cov.mask = some (rasterOf (s.regN K.coveragePitch) l) ∧ t.reg K.maskRings = (l.length : Nat) ∧
      t.reg K.maskCrc = (fieldU v (v.length - 4) 4 : Nat) ∧ t.flag K.coverageFlags 1 = true ∧ t.cov.tiles = s.cov.tiles := by
  refine writes_of_effect rfl ?_ fun _ _ h => h
  have before := cov_taken s slot 0x2813 0 v maskLoadRule
  have pitch := regN_taken s slot 0x2813 0 v maskLoadRule (k := K.coveragePitch) (by decide)
  generalize s.taken slot 0x2813 0 v maskLoadRule = u at *
  obtain ⟨cov, rings, crc, loaded⟩ := putMask_some u h
  simp only [maskLoadRule, commandRule, cov_finish, reg_finish, flag_finish, cov_storeMask]
  rw [reg_storeMask _ (by decide), reg_storeMask _ (by decide), flag_storeMask _ (by decide), cov, before, pitch]
  exact ⟨rfl, rings, crc, loaded, rfl⟩

theorem writes_boundaryMaskClear (slot : Fin 16) (v : BitVec 8) :
    Writes (.boundaryMaskClear slot v) s slot 0x2814 0 (leBytes 1 v.toNat) maskClearRule fun t =>
      t.cov.mask = none ∧ t.reg K.maskRings = 0 ∧ t.reg K.maskCrc = 0 ∧ t.flag K.coverageFlags 1 = false ∧
      ∀ e n : Int, t.maskClass e n = 1 := by
  refine writes_of_effect rfl ?_ fun _ _ h => h
  generalize s.taken slot 0x2814 0 (leBytes 1 v.toNat) maskClearRule = u
  obtain ⟨cov, rings, crc, unloaded⟩ := putMask_none u
  simp only [maskClearRule, commandRule, State.maskClass, cov_finish, reg_finish, flag_finish, cov_storeMask]
  rw [reg_storeMask _ (by decide), reg_storeMask _ (by decide), flag_storeMask _ (by decide), cov]
  exact ⟨rfl, rings, crc, unloaded, fun _ _ => rfl⟩

/-- Settles O21: sweeps and ripe marks, the archive write, the clear of layers, and the mask put into force or removed. -/
theorem coverageIsMarkedAndCleared : Obligations.CoverageIsMarkedAndCleared := by
  unfold Obligations.CoverageIsMarkedAndCleared
  exact ⟨runs_coverageSweep, runs_markCommit_one, runs_markCommit, runs_coverageArchiveWrite, writes_coverageClear,
    writes_boundaryMaskLoad, writes_boundaryMaskClear⟩

end Sys2Proof.Machine
end

section
/-!
Task controller clients (O22).
-/
namespace Sys2Proof.Machine
open Sys2Proof

variable (s : State)

/-! ### Sections that switch off -/

theorem sections_of_outside {F : List Part} {s t : State} (h : t.outside F = s.outside F) (hF : .sections ∉ F) : t.sections = s.sections :=
  (congrArg State.sections (eq_merge_of_outside h)).trans (if_neg hF)

theorem tc_of_outside {F : List Part} {s t : State} (h : t.outside F = s.outside F) (hF : .tc ∉ F) : t.tc = s.tc :=
  (congrArg State.tc (eq_merge_of_outside h)).trans (if_neg hF)

theorem regs_of_outside {F : List Part} {s t : State} (h : t.outside F = s.outside F) (hF : .regs ∉ F) : t.regs = s.regs :=
  (congrArg State.regs (eq_merge_of_outside h)).trans (if_neg hF)

@[simp] theorem section_setFlag (k i : Nat) (b : Bool) (m : Nat) : (s.setFlag k i b).section m = s.section m := rfl

@[simp] theorem section_eventKey (so : Src) (u e d m : Nat) : (s.eventKey so u e d).section m = s.section m := by
  rw [eventKey_fields]
  rfl

@[simp] theorem section_endCue (k : Nat) (o : Outcome) (d m : Nat) : (s.endCue k o d).section m = s.section m :=
  congrArg (fun t => t.get Section.init m)
    (sections_of_outside (F := [.regs, .jr, .cues]) (outside_endCue (by decide) (by decide) (by decide) s k o d) (by decide))

theorem on_setSection (n m : Nat) (x : Section) : ((s.setSection n x).section m).on = if m = n then x.on else (s.section m).on := by
  split
  next h => rw [h, section_setSection]
  next h => rw [section_setSection_ne _ _ _ h]

@[simp] theorem on_disarmSection (n m : Nat) : ((s.disarmSection n).section m).on = (s.section m).on := by
  unfold State.disarmSection
  extract_lets t
  have kept (j : Nat) : t.section j = s.section j := by
    unfold t
    split <;> simp
  rw [on_setSection, kept m]
  split
  next h =>
    have same : (t.section n).on = (s.section n).on := by rw [kept]
    rw [h]
    exact same
  next => rfl

theorem on_sectionSet (n m : Nat) (on : Bool) (why : Nat) :
    ((s.sectionSet n on why).section m).on = if m = n then on else (s.section m).on := by
  unfold State.sectionSet
  extract_lets c x t due u
  have set : (u.section m).on = if m = n then on else (s.section m).on := on_setSection ..
  split
  · exact set
  · exact set

/-! ### A lost client (R157, R160) -/

/-- Walks over sections and switches each off, with the reason TC_CLIENT_LOST. -/
def State.offSections (s : State) (l : List Nat) : State := l.foldl (fun s n => (s.disarmSection n).sectionSet n false 12) s

theorem on_offSections {l : List Nat} {n : Nat} (hn : n ∈ l) : ((s.offSections l).section n).on = false :=
  foldl_reaches (P := fun _ => True) (Q := fun t => (t.section n).on = false) (f := fun s n => (s.disarmSection n).sectionSet n false 12)
    (fun _ _ _ _ => trivial) (fun t _ => by rw [on_sectionSet, if_pos rfl]) (fun t m _ ht => by rw [on_sectionSet]; simp [ht]) hn trivial

theorem tc_offSections (l : List Nat) : (s.offSections l).tc = s.tc := by
  refine tc_of_outside (F := [.regs, .jr, .cues, .sections]) ?_ (by decide)
  simp [State.offSections]

/-- The client's record that it is lost: nothing waits to be sent to it. -/
def TcClient.gone (x : TcClient) : TcClient := { x with lost := true, waiting := ⟨[]⟩ }

theorem tcLose_of_connected {c : Nat} (hc : (s.client c).connected = true) (hl : (s.client c).lost = false) :
    s.tcLose c = (((s.setClient c (s.client c).gone).offSections (s.client c).sections).setFlag (K.implementFlags c) 5 true).eventKey
      .sections c (K.implementFlags c) :=
  if_neg (by simp [hc, hl])

@[simp] theorem client_setFlag (k i : Nat) (b : Bool) (c : Nat) : (s.setFlag k i b).client c = s.client c := rfl
@[simp] theorem client_eventKey (so : Src) (u e d c : Nat) : (s.eventKey so u e d).client c = s.client c := by
  rw [eventKey_fields]
  rfl

@[simp] theorem client_showTc (c : Nat) : s.showTc.client c = s.client c := rfl
@[simp] theorem section_showTc (n : Nat) : s.showTc.section n = s.section n := rfl

theorem implementFlags_showTc (c : Nat) : s.showTc.reg (K.implementFlags c) = s.reg (K.implementFlags c) := by
  rw [State.showTc, reg_setReg_ne (by simp; omega), reg_setReg_ne (by simp; omega)]

theorem client_offSections (l : List Nat) (c : Nat) : (s.offSections l).client c = s.client c :=
  congrArg (fun t => t.get TcClient.init c) (tc_offSections s l)

/-- A client that is lost: it shows so, on itself and on its implement, and its sections are off. -/
theorem lost_tcLose {c : Nat} (hc : (s.client c).connected = true) (hl : (s.client c).lost = false) :
    ((s.tcLose c).showTc.client c).lost = true ∧ (s.tcLose c).showTc.flag (K.implementFlags c) 5 = true ∧
    ∀ n ∈ (s.client c).sections, ((s.tcLose c).showTc.section n).on = false := by
  rw [State.flag, implementFlags_showTc, tcLose_of_connected s hc hl]
  refine ⟨?_, ?_, fun n hn => ?_⟩
  · rw [client_showTc, client_eventKey, client_setFlag, client_offSections, client_setClient]
    rfl
  · rw [reg_eventKey]
    exact flag_setFlag ..
  · rw [section_showTc, section_eventKey, section_setFlag]
    exact on_offSections _ hn

theorem runs_tcClientLost_address (c : Fin 4) (hc : (s.client c).connected = true) (hl : (s.client c).lost = false) :
    Runs (.tcClientLost c true) s fun t =>
      (t.client c).lost = true ∧ t.flag (K.implementFlags c) 5 = true ∧ ∀ n ∈ (s.client c).sections, (t.section n).on = false :=
  ⟨_, congrArg Host.Outcome.next (if_pos (by simp [hc])), lost_tcLose s hc hl⟩

theorem runs_tcClientLost_silent (c : Fin 4) (hc : (s.client c).connected = true) (hl : (s.client c).lost = false)
    (h3 : (s.client c).lastActual + ticksS 3 ≤ s.tick) :
    Runs (.tcClientLost c false) s fun t => (t.client c).lost = true ∧ t.flag (K.implementFlags c) 5 = true :=
  have gone := lost_tcLose s hc hl
  ⟨_, congrArg Host.Outcome.next (if_pos (by simp [hc, h3])), gone.1, gone.2.1⟩

/-! ### A report of actual states (R157) -/

/-- The section among `l` that a target's element and section number name. -/
def State.sectionAt (s : State) (l : List Nat) (e m : Nat) : Option Nat :=
  l.find? fun n => let t := (s.secCfg n).target
    tcElement t == e && tcSection t == m

/-- The walk of a report takes the state of its `k`-th section over. -/
def State.takeReport (l : List Nat) (e g : Nat) (w : BitVec 32) (s : State) (k : Nat) : State :=
  match s.sectionAt l e (g * 16 + k) with
  | some n => if w.toNat / 4 ^ k % 4 < 2 then s.setSection n { s.section n with applying := w.toNat / 4 ^ k % 4 == 1, due := [] } else s
  | none => s

theorem sectionAt_congr {s t : State} (h : t.blobs = s.blobs) (l : List Nat) (e m : Nat) : t.sectionAt l e m = s.sectionAt l e m := by
  simp only [State.sectionAt, State.secCfg, State.blob, h]

/-- Only one place of a group names a section. -/
theorem eq_of_sectionAt {l : List Nat} {e g k j n : Nat} (hk : s.sectionAt l e (g * 16 + k) = some n)
    (hj : s.sectionAt l e (g * 16 + j) = some n) : j = k := by
  have atk := List.find?_some hk
  have atj := List.find?_some hj
  simp only [Bool.and_eq_true, beq_iff_eq] at atk atj
  omega

theorem blobs_takeReport (l : List Nat) (e g : Nat) (w : BitVec 32) (k : Nat) : (State.takeReport l e g w s k).blobs = s.blobs := by
  unfold State.takeReport
  split
  · split <;> rfl
  · rfl

theorem tc_takeReport (l : List Nat) (e g : Nat) (w : BitVec 32) (k : Nat) : (State.takeReport l e g w s k).tc = s.tc := by
  unfold State.takeReport
  split
  · split <;> rfl
  · rfl

/-- A section has the applying state that place `k` of a report gives it. -/
def Section.Reported (x : Section) (w : BitVec 32) (k : Nat) : Prop := x.applying = (w.toNat / 4 ^ k % 4 == 1) ∧ x.due = []

theorem reported_takeReport {l : List Nat} {e g : Nat} {w : BitVec 32} {k n : Nat} (hn : s.sectionAt l e (g * 16 + k) = some n)
    (hw : w.toNat / 4 ^ k % 4 < 2) : ((State.takeReport l e g w s k).section n).Reported w k := by
  simp only [State.takeReport, hn, hw, if_true, section_setSection]
  exact ⟨rfl, rfl⟩

theorem section_takeReport_ne {l : List Nat} {e g : Nat} {w : BitVec 32} {j n : Nat} (hn : s.sectionAt l e (g * 16 + j) ≠ some n) :
    (State.takeReport l e g w s j).section n = s.section n := by
  unfold State.takeReport
  split
  next m hm =>
    split
    · exact section_setSection_ne _ _ _ fun h => hn (h ▸ hm)
    · rfl
  next => rfl

/-- Every place of a report whose state is on or off sets the applying state of the section that it names. -/
theorem reported_takeReports {l : List Nat} {e g : Nat} {w : BitVec 32} {k n : Nat} (hk : k < 16)
    (hn : s.sectionAt l e (g * 16 + k) = some n) (hw : w.toNat / 4 ^ k % 4 < 2) :
    (((List.range 16).foldl (State.takeReport l e g w) s).section n).Reported w k := by
  have named {t : State} (ht : t.blobs = s.blobs) : t.sectionAt l e (g * 16 + k) = some n := (sectionAt_congr ht ..).trans hn
  refine (foldl_reaches (f := State.takeReport l e g w) (P := fun t => t.blobs = s.blobs)
    (Q := fun t => t.blobs = s.blobs ∧ (t.section n).Reported w k) (fun t j _ ht => (blobs_takeReport ..).trans ht)
    (fun t ht => ⟨(blobs_takeReport ..).trans ht, reported_takeReport t (named ht) hw⟩) (fun t j _ ht => ?_) (List.mem_range.2 hk) rfl).2
  obtain ⟨blobs, reported⟩ := ht
  refine ⟨(blobs_takeReport ..).trans blobs, ?_⟩
  by_cases hj : t.sectionAt l e (g * 16 + j) = some n
  · rw [eq_of_sectionAt t (named blobs) hj]
    exact reported_takeReport t (named blobs) hw
  · rwa [section_takeReport_ne t hj]

theorem exec_actualCondensedWorkState (c : Fin 4) (e : Fin 64) (g : Fin 16) (w : BitVec 32) (hc : (s.client c).connected = true)
    (hl : (s.client c).lost = false) : exec (.actualCondensedWorkState c e g w) s =
      .next ((List.range 16).foldl (State.takeReport (s.client c).sections e g w) (s.setClient c { s.client c with lastActual := s.tick })) :=
  if_neg (by simp [hc, hl])

theorem runs_actualCondensedWorkState (c : Fin 4) (e : Fin 64) (g : Fin 16) (w : BitVec 32) (hc : (s.client c).connected = true)
    (hl : (s.client c).lost = false) :
    Runs (.actualCondensedWorkState c e g w) s fun t =>
      (t.client c).lastActual = s.tick ∧
      ∀ (k : Fin 16) (n : Nat), (s.client c).sections.find? (fun n => let t := (s.secCfg n).target
          tcElement t == e.val && tcSection t == g.val * 16 + k.val) = some n → w.toNat / 4 ^ k.val % 4 < 2 →
        (t.section n).applying = (w.toNat / 4 ^ k.val % 4 == 1) ∧ (t.section n).due = [] := by
  refine ⟨_, exec_actualCondensedWorkState s c e g w hc hl, ?_, fun k n hn hw => reported_takeReports _ k.isLt hn hw⟩
  have tc (u : State) : ((List.range 16).foldl (State.takeReport (s.client c).sections e g w) u).tc = u.tc :=
    List.foldlRecOn (motive := fun t : State => t.tc = u.tc) _ _ rfl fun t ht k _ => (tc_takeReport t ..).trans ht
  rw [State.client, tc]
  exact congrArg TcClient.lastActual (client_setClient ..)

/-! ### A new client (R157) -/

/-- What a client is known by. -/
def TcClient.identity (x : TcClient) : Bool × Bool × Nat × List Nat := (x.connected, x.lost, x.address, x.elements)

theorem identity_with (x : TcClient) (sections : List Nat) (waiting sent : Tab Nat) :
    ({ x with sections := sections, waiting := waiting, sent := sent } : TcClient).identity = x.identity := rfl

/-- The clients stay the same ones, and their implements' flags stay. -/
structure ClientsStay (s t : State) : Prop where
  identity : ∀ c, (t.client c).identity = (s.client c).identity
  flags : ∀ i, t.reg (K.implementFlags i) = s.reg (K.implementFlags i)

theorem ClientsStay.refl (s : State) : ClientsStay s s := ⟨fun _ => rfl, fun _ => rfl⟩

theorem ClientsStay.trans {s t u : State} (h : ClientsStay s t) (h' : ClientsStay t u) : ClientsStay s u :=
  ⟨fun c => (h'.identity c).trans (h.identity c), fun i => (h'.flags i).trans (h.flags i)⟩

theorem ClientsStay.foldl {α : Type} {f : State → α → State} (hf : ∀ t x, ClientsStay t (f t x)) (l : List α) (s : State) :
    ClientsStay s (l.foldl f s) :=
  List.foldlRecOn (motive := ClientsStay s) l f (.refl s) fun t ht x _ => ht.trans (hf t x)

theorem clientsStay_setClient {c : Nat} {x : TcClient} (h : x.identity = (s.client c).identity) : ClientsStay s (s.setClient c x) := by
  refine ⟨fun d => ?_, fun _ => reg_setClient ..⟩
  by_cases hd : d = c
  · rw [hd, client_setClient, h]
  · rw [client_setClient_ne _ _ _ hd]

theorem clientsStay_importSection (c : Nat) (x : TcSec) : ClientsStay s (s.importSection c x) := by
  unfold State.importSection
  split
  · exact .refl s
  · extract_lets u
    have before : ClientsStay s u := ⟨fun _ => rfl, fun _ => rfl⟩
    exact before.trans (clientsStay_setClient u (identity_with ..))

theorem clientsStay_tcChanged (n : Nat) : ClientsStay s (s.tcChanged n) := by
  unfold State.tcChanged
  extract_lets t c x g
  split
  · exact clientsStay_setClient s (identity_with ..)
  · exact .refl s

theorem clientsStay_showTc : ClientsStay s s.showTc := ⟨fun _ => rfl, implementFlags_showTc s⟩

@[simp] theorem outside_canService {F : List Part} (hb : .canBufs ∈ F) (hp : .canPorts ∈ F) (s : State) (p : Nat) (f : CanFrame) :
    (s.canService p f).outside F = s.outside F := by
  simp [State.canService, *]

theorem clientsStay_canService (p : Nat) (f : CanFrame) : ClientsStay s (s.canService p f) := by
  have frame := outside_canService (F := [.canBufs, .canPorts]) (by decide) (by decide) s p f
  refine ⟨fun c => ?_, fun i => ?_⟩
  · rw [State.client, tc_of_outside frame (by decide)]
    rfl
  · rw [State.reg, regs_of_outside frame (by decide)]
    rfl

theorem clientsStay_tcFlush : ClientsStay s s.tcFlush := by
  unfold State.tcFlush
  split
  · exact .refl s
  · refine .foldl (fun t c => ?_) _ s
    extract_lets x u y
    have sent : ClientsStay t u := .foldl (fun v g => clientsStay_canService v _ _) _ t
    exact sent.trans (clientsStay_setClient u (identity_with ..))

/-- The record of a new client. -/
def TcClient.fresh (a : Nat) (el : List Nat) (tick : Nat) : TcClient :=
  { connected := true, address := a, elements := el, lastActual := tick }

/-- The state in which a new client has taken its place, before its sections are imported. -/
def State.placeClient (s : State) (c a : Nat) (el : List Nat) : State :=
  let s := s.dropImports c
  (s.setClient c (TcClient.fresh a el s.tick)).setFlag (K.implementFlags c) 5 false

/-- A new client that fits takes a place; its sections are imported and their groups sent. -/
theorem exec_tcClientConnect_new (a : BitVec 8) (el : List Nat) (secs : List TcSec) (c : Fin 4) (he : s.reg K.tcEnable = 1)
    (hl : el.length ≤ 64) (hnew : (List.range 4).find? (fun m => (s.client m).connected && (s.client m).address == a.toNat) = none)
    (hfree : (List.range 4).find? (fun m => !(s.client m).connected) = some c.val) :
    ∃ t, exec (.tcClientConnect a el secs) s = .next t ∧ ClientsStay (s.placeClient c a.toNat el) t := by
  change ∃ t, execTcClientConnect a el secs s = .next t ∧ _
  simp only [execTcClientConnect, he, hnew, hfree, Option.none_or, Option.some_or, Nat.not_lt.2 hl, ne_eq, not_true_eq_false, if_false]
  refine ⟨_, rfl, .trans (.trans (.trans ?_ (ClientsStay.foldl clientsStay_tcChanged _ _)) (clientsStay_showTc _)) (clientsStay_tcFlush _)⟩
  exact ClientsStay.foldl (fun t x => clientsStay_importSection t c x) _ _

theorem runs_tcClientConnect (a : BitVec 8) (el : List Nat) (secs : List TcSec) (c : Fin 4) (he : s.reg K.tcEnable = 1)
    (hl : el.length ≤ 64) (hnew : ∀ m < 4, ¬ ((s.client m).connected = true ∧ (s.client m).address = a.toNat))
    (hfree : (s.client c).connected = false) (hfirst : ∀ m < c.val, (s.client m).connected = true) :
    Runs (.tcClientConnect a el secs) s fun t =>
      (t.client c).connected = true ∧ (t.client c).lost = false ∧ (t.client c).address = a.toNat ∧ (t.client c).elements = el ∧
      t.flag (K.implementFlags c) 5 = false := by
  have unknown : (List.range 4).find? (fun m => (s.client m).connected && (s.client m).address == a.toNat) = none :=
    List.find?_range_eq_none.2 fun m hm => by
      rw [Bool.not_eq_true', ← Bool.not_eq_true, Bool.and_eq_true, beq_iff_eq]
      exact hnew m hm
  have place : (List.range 4).find? (fun m => !(s.client m).connected) = some c.val :=
    List.find?_range_eq_some.2 ⟨by simp [hfree], by simp, fun m hm => by simp [hfirst m hm]⟩
  obtain ⟨t, ht, stay⟩ := exec_tcClientConnect_new s a el secs c he hl unknown place
  refine ⟨t, ht, ?_⟩
  have same := stay.identity c
  have placed : (s.placeClient c a.toNat el).client c = TcClient.fresh a.toNat el (s.dropImports c).tick := by
    rw [State.placeClient, client_setFlag, client_setClient]
  rw [placed] at same
  simp only [TcClient.identity, TcClient.fresh, Prod.mk.injEq] at same
  obtain ⟨connected, lost, address, elements⟩ := same
  refine ⟨connected, lost, address, elements, ?_⟩
  rw [State.flag, stay.flags]
  exact flag_setFlag ..

/-- Settles O22: a client connects, reports and is lost. -/
theorem taskControllerClients : Obligations.TaskControllerClients := by
  unfold Obligations.TaskControllerClients
  exact ⟨runs_tcClientConnect, runs_actualCondensedWorkState, runs_tcClientLost_address, runs_tcClientLost_silent⟩

end Sys2Proof.Machine
end

section
/-!
A scan of a section whose implement's axis is no axis (O20).
-/
namespace Sys2Proof.Machine
open Sys2Proof

theorem exec_sectionScan (n : Fin 1024) (s : State) : exec (.sectionScan n) s = .next (s.scanSection n) := rfl

/-- The number of an axis above the 16 of the module, at which AxisSource would stand where implement 0 has its ImplementFlags. -/
def strayAxis : Nat := 0x408

theorem axisSource_strayAxis : K.axisSource strayAxis = K.implementFlags 0 := rfl

/-- SectionAxis of implement 0 holds that number, which no write can bring (its Range ends at 15). The flags read 9 while the section is
held, and 1, the source WHEEL, once its hold is cleared: then the machine's pose is that of the stray axis, 10^30 to the east, and no
longer the origin, where a tile covers the section's footprint. -/
def strayState : State :=
  let s := ((State.reset.setReg (K.implementEnable 0) 1).setReg (K.sectionMode 0) 2).setReg (K.sectionAxis 0) strayAxis
  let s := (s.setReg (K.axisState strayAxis) axValid).setReg (K.axisEnable strayAxis) 1
  let s := (s.setReg (K.implementFlags 0) 9).setBlob (K.sectionConfig 0 0) ([0, 2] ++ zeros 30)
  (s.setAxis strayAxis { east := 10 ^ 30 }).setTile (32768 * 65536 + 32768) { present := true, bits := ⟨[(0, 1)]⟩ }

theorem strayState_scans :
    (strayState.secCfg 0).path = 2 ∧ (strayState.secCfg 0).impl = 0 ∧ (strayState.clearHolds 0).scanRuns 0 = true ∧
    (strayState.clearHolds 0).sectionFailed (strayState.secCfg 0) = false := by decide +kernel

/-- At the pose before the scan both points of the footprint are covered. -/
theorem strayState_shares : strayState.shares (strayState.secCfg 0) (strayState.poseOf 0) = (2, 0, 0, 2) := by decide +kernel

/-- The scan clears the hold first, and finds none of them covered. -/
theorem strayState_scanned : ((strayState.scanSection 0).section 0).c = 0 := by decide +kernel

/-- Refutes O20, by its clause about a scan, which speaks of every state, also where SectionAxis is outside its Range: the clause
takes the shares at the pose before the scan, but a scan ends the implement's holds first (R154), and in `strayState` the end of the hold
moves the pose. -/
theorem not_sectionsSwitch : ¬ Obligations.SectionsSwitch := by
  unfold Obligations.SectionsSwitch
  rintro ⟨-, -, -, scan, -⟩
  obtain ⟨path, impl, runs, works⟩ := strayState_scans
  obtain ⟨t, ht, covered, -⟩ := scan strayState 0 (by simp [path]) (by simp [impl]) (by simp [impl, runs]) (by simp [impl, works])
  rw [exec_sectionScan, Host.Outcome.next.injEq] at ht
  rw [← ht] at covered
  simp [impl, strayState_shares, strayState_scanned] at covered

end Sys2Proof.Machine
end

section
/-!
What the operations of other functions leave of the fusion service, and what its own operations leave of the entries (O23-O25).
-/
namespace Sys2Proof.Machine
open Sys2Proof

/-! ### Other operations -/

theorem fuse_of_outside {F : List Part} {s t : State} (h : t.outside F = s.outside F) (hF : .fuse ∉ F) : t.fuse = s.fuse :=
  (congrArg State.fuse (eq_merge_of_outside h)).trans (if_neg hF)

section
variable (s : State)

@[simp] theorem fuse_setFuse (x : Fuse) : (s.setFuse x).fuse = x := rfl
@[simp] theorem now_setFuse (x : Fuse) : (s.setFuse x).now = s.now := rfl
@[simp] theorem fuse_bump (k : Nat) : (s.bump k).fuse = s.fuse := rfl
@[simp] theorem fuse_startItem (q : Nat) : (s.startItem q).fuse = s.fuse := rfl

@[simp] theorem fuse_finish (q : Nat) (o : Outcome) (d : Nat) : (s.finish q o d).fuse = s.fuse := by rw [finish_fields]

@[simp] theorem fuse_finishAll (l : List Nat) (o : Outcome) (d : Nat) : (s.finishAll l o d).fuse = s.fuse :=
  fuse_of_outside (F := [.jr]) (outside_finishAll (by decide) ..) (by decide)

@[simp] theorem fuse_eventKey (so : Src) (u e d : Nat) : (s.eventKey so u e d).fuse = s.fuse := by rw [eventKey_fields]
@[simp] theorem now_eventKey (so : Src) (u e d : Nat) : (s.eventKey so u e d).now = s.now := congrArg Vitals.now (vitals_eventKey ..)
@[simp] theorem tick_eventKey (so : Src) (u e d : Nat) : (s.eventKey so u e d).tick = s.tick := congrArg Vitals.tick (vitals_eventKey ..)

@[simp] theorem fuse_putEntry (idx sub : Nat) (d : Bytes) : (s.putEntry idx sub d).fuse = s.fuse :=
  fuse_of_outside (F := [.regs, .blobs]) (outside_putEntry (by decide) (by decide) ..) (by decide)

@[simp] theorem fuse_settle (idx sub q : Nat) (d : Bytes) : (s.settle idx sub q d).fuse = s.fuse :=
  (fuse_finish ..).trans (fuse_putEntry ..)

@[simp] theorem fuse_lsSetDuty (n : Nat) (v : Int) : (s.lsSetDuty n v).fuse = s.fuse :=
  fuse_of_outside (F := [.regs, .ls]) (outside_lsSetDuty (by decide) (by decide) ..) (by decide)

@[simp] theorem fuse_publish (m : Msg) : (s.publish m).fuse = s.fuse :=
  fuse_of_outside (F := [.regs, .fleet]) (outside_publish (by decide) (by decide) ..) (by decide)

@[simp] theorem fuse_taken (slot idx sub : Nat) (d : Bytes) (r : WriteRule) : (s.taken slot idx sub d r).fuse = s.fuse :=
  fuse_afterAccept ..

/-- A counter rises alike where it stands alike. -/
theorem reg_bump_congr {s t : State} {k : Nat} (h : t.reg k = s.reg k) : (t.bump k).reg k = (s.bump k).reg k := by
  rw [reg_bump, reg_bump, h]

/-- Counters that rise one after another change entries only. -/
theorem bumps_fields {α : Type} (f : α → Nat) (l : List α) :
    l.foldl (fun s x => s.bump (f x)) s = { s with regs := (l.foldl (fun s x => s.bump (f x)) s).regs } :=
  List.foldlRecOn (motive := fun t : State => t = { s with regs := t.regs }) l _ rfl fun t h x _ => by
    rw [h]
    rfl

@[simp] theorem fuse_bumps {α : Type} (f : α → Nat) (l : List α) : (l.foldl (fun s x => s.bump (f x)) s).fuse = s.fuse := by
  rw [bumps_fields]

@[simp] theorem now_bumps {α : Type} (f : α → Nat) (l : List α) : (l.foldl (fun s x => s.bump (f x)) s).now = s.now := by
  rw [bumps_fields]
  rfl

@[simp] theorem tick_bumps {α : Type} (f : α → Nat) (l : List α) : (l.foldl (fun s x => s.bump (f x)) s).tick = s.tick := by
  rw [bumps_fields]
  rfl

/-! ### The load channel of the stop output -/

variable {s} {k : Nat}

/-- A trip changes entries of the load channels only. -/
theorem reg_lsTrip_below (hk : k / 256 < 0x4440) (n cause : Nat) : (s.lsTrip n cause).reg k = s.reg k := by
  simp only [State.lsTrip]
  split_ifs <;> simp (disch := omega) [State.setFlag, State.bump, State.bumpBy, reg_setReg_ne, reg_lsOpen]

theorem reg_lsSwitchOn_below (hk : k / 256 < 0x4440) (n : Nat) : (s.lsSwitchOn n).reg k = s.reg k := by
  simp only [State.lsSwitchOn]
  split_ifs <;> simp (disch := omega) [State.setFlag, reg_setReg_ne]

theorem reg_lsDutyDue_below (hk : k / 256 < 0x4440) (n : Nat) : (s.lsDutyDue n).reg k = s.reg k := by
  unfold State.lsDutyDue
  split
  · split
    · exact reg_setReg_ne (by simp; omega) _ _
    · rfl
  · rfl

/-- A commanded duty changes entries of the load channels and of their feed groups only. -/
theorem reg_lsSetDuty_below (hk : k / 256 < 0x4440) (n : Nat) (v : Int) : (s.lsSetDuty n v).reg k = s.reg k := by
  have duty : (s.setReg (K.commandedDuty n) v).reg k = s.reg k := reg_setReg_ne (by simp; omega) _ _
  have next (t : State) : (t.lsNextDuty n).reg k = t.reg k := rfl
  simp only [State.lsSetDuty]
  split_ifs <;>
    simp (disch := omega) [duty, next, reg_setReg_ne, reg_lsOpen, reg_lsTrip_below, reg_lsSwitchOn_below, reg_lsDutyDue_below]

end

/-! ### The service -/

variable {s : State} {k : Nat}

@[simp] theorem fuse_showFusion (s : State) : s.showFusion.fuse = s.fuse :=
  fuse_of_outside (F := [.regs]) (outside_showFusion (by decide) s) (by decide)

theorem reg_showFusion (hk : k ≠ K.fusionState) (s : State) : s.showFusion.reg k = s.reg k := by
  unfold State.showFusion
  split
  · exact reg_setReg_ne hk _ _
  · split
    · rfl
    · exact reg_setReg_ne hk _ _

/-- Without a reference instant an enabled service that is not in FAULT is WAITING (R196). -/
theorem fusionState_showFusion_of_lastT (on : s.reg K.fusionEnable = 1) (works : s.reg K.fusionState ≠ fsFault)
    (first : s.fuse.lastT = none) : s.showFusion.reg K.fusionState = fsWaiting := by
  simp only [State.showFusion, State.fusionOn, on, works, first]
  simp

/-- A waiting step enters the network only where one waits. -/
theorem startWaiting_of_none (h : s.fuse.waiting = none) : s.startWaiting = s := by
  unfold State.startWaiting
  rw [h]
  exact ite_self s

/-- A clear of the waiting step changes no entry. -/
@[simp] theorem reg_clearWaiting (s : State) (w k : Nat) : (s.clearWaiting w).reg k = s.reg k := by
  unfold State.clearWaiting
  split <;> rfl

/-! ### The stop output -/

@[simp] theorem fuse_stopDrive (s : State) (run : Bool) : (s.stopDrive run).fuse = { s.fuse with stopDue := true } := by
  simp only [State.stopDrive]
  split <;> simp

theorem reg_stopDrive (hk : k / 256 < 0x4440) (s : State) (run : Bool) : (s.stopDrive run).reg k = s.reg k := by
  simp only [State.stopDrive]
  split <;> simp [reg_lsSetDuty_below hk]

theorem stopNow_of_stop (h : s.reg K.stopState = 0) : s.stopNow = s := if_pos h

theorem stopNow_of_run (h : s.reg K.stopState ≠ 0) :
    s.stopNow = (((s.setReg K.stopState 0).bump K.stopEvents).setReg K.lastStopTime (s.now : Nat)).stopDrive false := if_neg h

@[simp] theorem stopState_stopNow (s : State) : s.stopNow.reg K.stopState = 0 := by
  by_cases h : s.reg K.stopState = 0
  · rwa [stopNow_of_stop h]
  · rw [stopNow_of_run h, reg_stopDrive (by decide), reg_setReg_ne (by decide), reg_bump, if_neg (by decide), reg_setReg_self]

/-- Beside the stop function's own object, STOP changes entries of the load channels only. -/
theorem reg_stopNow (hk : k / 256 < 0x4440) (ho : k / 256 ≠ 0x3052) (s : State) : s.stopNow.reg k = s.reg k := by
  by_cases h : s.reg K.stopState = 0
  · rw [stopNow_of_stop h]
  · rw [stopNow_of_run h, reg_stopDrive hk, reg_setReg_ne (by simp; omega), reg_bump, if_neg (by simp; omega),
      reg_setReg_ne (by simp; omega)]

/-- Of the service, STOP only asks for a stop frame. -/
theorem fuse_stopNow (s : State) : s.stopNow.fuse = { s.fuse with stopDue := s.stopNow.fuse.stopDue } := by
  by_cases h : s.reg K.stopState = 0
  · rw [stopNow_of_stop h]
  · rw [stopNow_of_run h, fuse_stopDrive]
    rfl

end Sys2Proof.Machine
end

section
/-!
The start, the end and the clears of the fusion service (O23).
-/
namespace Sys2Proof.Machine
open Sys2Proof

variable {s : State}

/-! ### A clear (R184) -/

/-- The state after a clear of the network state: the step that waits, or the next one, is the first after it. -/
structure Cleared (s t : State) : Prop where
  next : s.fuse.waiting = none → t.fuse.resetDue = true
  waits : ∀ x, s.fuse.waiting = some x → ∃ y, t.fuse.waiting = some y ∧ y.flags = orBits x.flags 66
  net : t.fuse.net = ⟨[]⟩
  pose : t.fuse.prevPose = none
  body : t.fuse.lastBody = none
  items : t.fuse.resetItems = []
  counted : t.reg K.stateResets = (s.bump K.stateResets).reg K.stateResets

/-- A clear keeps what the service has staged and when its last step was. -/
theorem clearWaiting_keeps (s : State) (w : Nat) :
    (s.clearWaiting w).fuse.staged = s.fuse.staged ∧ (s.clearWaiting w).fuse.frames = s.fuse.frames ∧
      (s.clearWaiting w).fuse.lastT = s.fuse.lastT := by
  unfold State.clearWaiting
  split <;> exact ⟨rfl, rfl, rfl⟩

theorem resetDue_clearWaiting (h : s.fuse.waiting = none) (w : Nat) : (s.clearWaiting w).fuse.resetDue = true := by
  simp [State.clearWaiting, h]

theorem waiting_clearWaiting {x : FStep} (h : s.fuse.waiting = some x) (w : Nat) :
    ∃ y, (s.clearWaiting w).fuse.waiting = some y ∧ y.flags = orBits x.flags 66 := by
  simp [State.clearWaiting, h]

theorem fuse_fuseClear (s : State) : ∃ w, s.fuseClear.fuse =
    { (s.clearWaiting w).fuse with net := ⟨[]⟩, clearAsked := false, lastBody := none, prevPose := none, resetItems := [] } :=
  ⟨_, by simp only [State.fuseClear, fuse_showFusion, fuse_finishAll, fuse_bump, fuse_setFuse]; rfl⟩

/-- A clear counts itself, and changes no other entry but the state that the service shows. -/
theorem reg_fuseClear {k : Nat} (hk : k ≠ K.fusionState) (s : State) : s.fuseClear.reg k = (s.bump K.stateResets).reg k := by
  simp only [State.fuseClear, reg_showFusion hk, reg_finishAll, reg_bump, reg_setFuse, reg_clearWaiting]

theorem cleared_fuseClear (s : State) : Cleared s s.fuseClear := by
  obtain ⟨w, fuse⟩ := fuse_fuseClear s
  constructor
  case next => exact fun h => by rw [fuse]; exact resetDue_clearWaiting h w
  case waits => exact fun x h => by rw [fuse]; exact waiting_clearWaiting h w
  case counted => exact reg_fuseClear (by decide) s
  all_goals rw [fuse]

/-- What an idle service that is asked for a clear does (R184). -/
theorem fuseClearAtEnd_of_idle (h : s.fuse.running = none) : s.fuseClearAtEnd = s.fuseClear := by
  simp [State.fuseClearAtEnd, h]

theorem fuseClearAtEnd_of_running (h : s.fuse.running.isSome = true) :
    s.fuseClearAtEnd = s.setFuse { s.fuse with clearAsked := true } := if_pos h

/-! ### FusionEnable (R196) -/

theorem putEntry_fusionEnable (s : State) (d : Bytes) : s.putEntry 0x3000 1 d = s.setReg K.fusionEnable (wval d) :=
  putEntry_bool (by decide) (by decide) (by decide) s d

/-- The service as an enable finds it: halted and WAITING. -/
def State.fusionReady (s : State) (seq : Nat) : State :=
  let t := (s.settle 0x3000 1 seq (leBytes 1 (1 : BitVec 8).toNat)).fuseHalt
  (t.setFuse { t.fuse with
    layoutId := (match t.fusionDecl with
      | some f => f.layoutId
      | none => 0) }).setReg K.fusionState fsWaiting

theorem effect_fusionEnable_on (h : s.reg K.fusionEnable ≠ 1) (slot seq : Nat) :
    fusionEnableRule.effect s slot seq (leBytes 1 (1 : BitVec 8).toNat) = (s.fusionReady seq).fuseClear := by
  have off : s.fusionOn = false := by simp [State.fusionOn, h]
  have one : wval (leBytes 1 (1 : BitVec 8).toNat) ≠ 0 := by decide
  simp only [fusionEnableRule, one, off, if_false, Bool.false_eq_true]
  rfl

theorem fusionEnable_fusionReady (s : State) (seq : Nat) : (s.fusionReady seq).reg K.fusionEnable = 1 := by
  have set : (s.settle 0x3000 1 seq (leBytes 1 (1 : BitVec 8).toNat)).reg K.fusionEnable = 1 := by
    rw [State.settle, reg_finish, putEntry_fusionEnable, reg_setReg_self]
    rfl
  exact (reg_setReg_ne (by decide) _ _).trans set

theorem fusionState_fuseClear_of_ready (s : State) (seq : Nat) : (s.fusionReady seq).fuseClear.reg K.fusionState = fsWaiting := by
  have first (w : Nat) : ((s.fusionReady seq).clearWaiting w).fuse.lastT = none := (clearWaiting_keeps _ w).2.2
  have on := fusionEnable_fusionReady s seq
  have state : (s.fusionReady seq).reg K.fusionState = fsWaiting := reg_setReg_self _ _ _
  rw [State.fuseClear]
  apply fusionState_showFusion_of_lastT
  · simpa [reg_bump] using on
  · simp [reg_bump, state]
  · simp [first]

theorem writes_fusionEnable_on (s : State) (slot : Fin 16) (h : s.reg K.fusionEnable ≠ 1) :
    Writes (.fusionEnable slot 1) s slot 0x3000 1 (leBytes 1 (1 : BitVec 8).toNat) fusionEnableRule fun t =>
      t.reg K.fusionEnable = 1 ∧ t.reg K.fusionState = fsWaiting ∧ t.fuse.staged = [] ∧ t.fuse.frames = [] ∧
      t.fuse.resetDue = true ∧ t.fuse.lastT = none := by
  refine writes_of_effect rfl ?_ fun _ _ h => h
  have off : (s.taken slot 0x3000 1 (leBytes 1 (1 : BitVec 8).toNat) fusionEnableRule).reg K.fusionEnable ≠ 1 := by
    rwa [reg_taken _ _ _ _ _ _ (by decide)]
  rw [effect_fusionEnable_on off]
  generalize s.taken slot 0x3000 1 (leBytes 1 (1 : BitVec 8).toNat) fusionEnableRule = u
  generalize s.regN K.nextJournalSeq = q
  have enabled : (u.fusionReady q).fuseClear.reg K.fusionEnable = 1 := by
    rw [reg_fuseClear (by decide), reg_bump, if_neg (by decide), fusionEnable_fusionReady]
  obtain ⟨w, fuse⟩ := fuse_fuseClear (u.fusionReady q)
  obtain ⟨staged, frames, lastT⟩ := clearWaiting_keeps (u.fusionReady q) w
  refine ⟨enabled, fusionState_fuseClear_of_ready u q, ?_, ?_, (cleared_fuseClear _).next rfl, ?_⟩ <;> rw [fuse]
  · exact staged
  · exact frames
  · exact lastT

/-- A disable of an idle service takes effect at once. -/
theorem effect_fusionEnable_off (h : s.reg K.fusionEnable = 1) (idle : s.fuse.running = none) (slot seq : Nat) :
    fusionEnableRule.effect s slot seq (leBytes 1 (0 : BitVec 8).toNat) =
      ((s.startItem seq).setFuse { s.fuse with disableItems := s.fuse.disableItems ++ [seq] }).fuseDisable := by
  have on : s.fusionOn = true := by simp [State.fusionOn, h]
  have zero : wval (leBytes 1 (0 : BitVec 8).toNat) = 0 := by decide
  simp only [fusionEnableRule, zero, on, if_true, Bool.not_true, Bool.false_eq_true, if_false]
  exact if_neg (by simp [idle])

/-- What the end of the service leaves (R196). -/
theorem fuseDisable_ends (s : State) :
    s.fuseDisable.reg K.fusionEnable = 0 ∧ s.fuseDisable.reg K.fusionState = fsDisabled ∧ s.fuseDisable.reg K.stopState = 0 ∧
      s.fuseDisable.fuse.staged = [] ∧ s.fuseDisable.fuse.disableItems = [] := by
  unfold State.fuseDisable
  refine ⟨?_, ?_, stopState_stopNow _, ?_, ?_⟩
  · rw [reg_stopNow (by decide) (by decide)]
    simp [reg_setReg]
  · rw [reg_stopNow (by decide) (by decide)]
    simp
  · rw [fuse_stopNow]
    simp [State.fuseHalt]
  · rw [fuse_stopNow]
    simp

theorem writes_fusionEnable_off (s : State) (slot : Fin 16) (h : s.reg K.fusionEnable = 1) (idle : s.fuse.running = none) :
    Writes (.fusionEnable slot 0) s slot 0x3000 1 (leBytes 1 (0 : BitVec 8).toNat) fusionEnableRule fun t =>
      t.reg K.fusionEnable = 0 ∧ t.reg K.fusionState = fsDisabled ∧ t.reg K.stopState = 0 ∧ t.fuse.staged = [] ∧
      t.fuse.disableItems = [] := by
  refine writes_of_effect rfl ?_ fun _ _ h => h
  rw [effect_fusionEnable_off ((reg_taken _ _ _ _ _ _ (by decide)).trans h) (by rwa [fuse_taken])]
  exact fuseDisable_ends _

/-! ### FusionReset (R184) -/

theorem effect_fusionReset (h : s.reg K.fusionEnable = 1) (slot seq : Nat) (d : Bytes) :
    fusionResetRule.effect s slot seq d =
      ((s.startItem seq).setFuse { s.fuse with resetItems := s.fuse.resetItems ++ [seq] }).fuseClearAtEnd := by
  have on : (s.startItem seq).fusionOn = true := by simp [State.fusionOn, h]
  simp only [fusionResetRule, on, Bool.not_true, Bool.false_eq_true, if_false]
  rfl

theorem writes_fusionReset_idle (s : State) (slot : Fin 16) (v : BitVec 8) (h : s.reg K.fusionEnable = 1) (idle : s.fuse.running = none) :
    Writes (.fusionReset slot v) s slot 0x3001 0 (leBytes 1 v.toNat) fusionResetRule fun t =>
      (s.fuse.waiting = none → t.fuse.resetDue = true) ∧
      (∀ x, s.fuse.waiting = some x → ∃ y, t.fuse.waiting = some y ∧ y.flags = orBits x.flags 66) ∧
      t.fuse.net = ⟨[]⟩ ∧ t.fuse.prevPose = none ∧ t.fuse.lastBody = none ∧ t.fuse.resetItems = [] ∧
      t.reg K.stateResets = (s.bump K.stateResets).reg K.stateResets := by
  refine writes_of_effect rfl ?_ fun _ _ h => h
  have resets := reg_taken s slot 0x3001 0 (leBytes 1 v.toNat) fusionResetRule (k := K.stateResets) (by decide)
  rw [effect_fusionReset ((reg_taken _ _ _ _ _ _ (by decide)).trans h), fuse_taken, fuseClearAtEnd_of_idle (by simpa using idle)]
  obtain ⟨next, waits, net, pose, body, items, counted⟩ := cleared_fuseClear
    (((s.taken slot 0x3001 0 (leBytes 1 v.toNat) fusionResetRule).startItem (s.regN K.nextJournalSeq)).setFuse
      { s.fuse with resetItems := s.fuse.resetItems ++ [s.regN K.nextJournalSeq] })
  exact ⟨next, waits, net, pose, body, items, counted.trans (reg_bump_congr resets)⟩

theorem writes_fusionReset_running (s : State) (slot : Fin 16) (v : BitVec 8) (h : s.reg K.fusionEnable = 1)
    (runs : s.fuse.running.isSome = true) :
    Writes (.fusionReset slot v) s slot 0x3001 0 (leBytes 1 v.toNat) fusionResetRule fun t =>
      t.fuse.clearAsked = true ∧ t.fuse.resetItems = s.fuse.resetItems ++ [s.regN K.nextJournalSeq] ∧ t.fuse.running = s.fuse.running := by
  refine writes_of_effect rfl ?_ fun _ _ h => h
  rw [effect_fusionReset ((reg_taken _ _ _ _ _ _ (by decide)).trans h), fuse_taken, fuseClearAtEnd_of_running (by simpa using runs)]
  exact ⟨rfl, rfl, rfl⟩

/-! ### The timers (R173, R184) -/

theorem addReference_of_later {t : Int} {flags t0 : Nat} (on : s.reg K.fusionEnable = 1) (works : s.reg K.fusionState ≠ fsFault)
    (last : s.fuse.lastT = some t0) (later : t0 < t) :
    (s.addReference t flags).fuse = { s.fuse with
      refs := s.fuse.refs ++ [(t.toNat, flags)], lastT := some t.toNat, freeRun := flags == 8 } := by
  have positive : ¬ t < 0 := by omega
  have fresh : ¬ t ≤ t0 := by omega
  simp [State.addReference, State.fusionOn, on, works, last, positive, fresh]

theorem runs_stepFreeRun (s : State) (t0 : Nat) (last : s.fuse.lastT = some t0) (on : s.reg K.fusionEnable = 1)
    (works : s.reg K.fusionState ≠ fsFault) (unaligned : s.reg (K.alignState (s.regN K.referenceSensor)) ≠ alAligned)
    (period : 0 < s.regN K.referencePeriod) (due : t0 + s.regN K.referencePeriod ≤ s.now) :
    Runs .stepFreeRun s fun t =>
      t.fuse.refs = s.fuse.refs ++ [(t0 + s.regN K.referencePeriod, 8)] ∧ t.fuse.lastT = some (t0 + s.regN K.referencePeriod) := by
  have ran : exec .stepFreeRun s = .next (s.addReference (t0 + s.regN K.referencePeriod : Nat) 8) := by
    change execStepFreeRun s = _
    simp only [execStepFreeRun, last]
    rw [if_pos (by simp [State.fusionOn, on, due]; exact unaligned)]
  refine ⟨_, ran, ?_⟩
  beta_reduce
  rw [addReference_of_later on works last (by omega)]
  exact ⟨rfl, rfl⟩

theorem runs_stateHoldLimit (s : State) (t0 : Nat) (body : s.fuse.lastBody = some t0) (on : s.reg K.fusionEnable = 1)
    (idle : s.fuse.running = none) (old : t0 + ticksMs (s.regN K.stateHoldLimit) < s.tick) :
    Runs .stateHoldLimit s fun t =>
      t.fuse.lastBody = none ∧ t.fuse.net = ⟨[]⟩ ∧ (s.fuse.waiting = none → t.fuse.resetDue = true) ∧
      t.reg K.stateResets = (s.bump K.stateResets).reg K.stateResets := by
  have ran : exec .stateHoldLimit s = .next s.fuseClear := by
    change execStateHoldLimit s = _
    simp only [execStateHoldLimit, body]
    rw [if_pos (by simp [State.fusionOn, on, old]), fuseClearAtEnd_of_idle idle]
  have clear := cleared_fuseClear s
  exact ⟨_, ran, clear.body, clear.net, clear.next, clear.counted⟩

/-- Settles O23: an enable halts and clears the service, a disable of an idle one ends it, and a reset, or a body that is too old,
clears it now or at the end of the run. -/
theorem fusionServiceStartsAndClears : Obligations.FusionServiceStartsAndClears := by
  unfold Obligations.FusionServiceStartsAndClears
  exact ⟨writes_fusionEnable_on, writes_fusionEnable_off, writes_fusionReset_idle, writes_fusionReset_running, runs_stepFreeRun,
    runs_stateHoldLimit⟩

end Sys2Proof.Machine
end

section
/-!
The stop output (O25).
-/
namespace Sys2Proof.Machine
open Sys2Proof

variable {s : State}

/-! ### The causes (R193) -/

/-- The causes and the track of an evaluation are shown. -/
def State.showCauses (s : State) : State :=
  let c := s.stopCauses s.foundTrack.isSome
  let t := (s.setReg K.stopCause (c : Nat)).setReg K.stopTrack ((s.foundTrack.getD 0xFFFF : Nat) : Int)
  if c ≥ 128 && !(s.flag K.stopCause 7) then t.eventKey .fusion 0 K.stopCause else t

theorem stopEvaluate_of_cause (h : s.stopCauses s.foundTrack.isSome ≠ 0) :
    s.stopEvaluate = (s.showCauses.setFuse { s.showCauses.fuse with causeClearAt := none }).stopNow := if_pos h

theorem reg_showCauses {k : Nat} (hc : k ≠ K.stopCause) (ht : k ≠ K.stopTrack) (s : State) : s.showCauses.reg k = s.reg k := by
  simp only [State.showCauses]
  split <;> simp [reg_setReg, hc, ht]

theorem stopCause_showCauses (s : State) : s.showCauses.reg K.stopCause = (s.stopCauses s.foundTrack.isSome : Nat) := by
  simp only [State.showCauses]
  split <;> simp [reg_setReg]

@[simp] theorem fuse_showCauses (s : State) : s.showCauses.fuse = s.fuse := by
  simp only [State.showCauses]
  split <;> simp

@[simp] theorem now_showCauses (s : State) : s.showCauses.now = s.now := by
  simp only [State.showCauses]
  split <;> simp

@[simp] theorem tick_showCauses (s : State) : s.showCauses.tick = s.tick := by
  simp only [State.showCauses]
  split <;> simp

/-- The evaluation without a cause. -/
def State.evaluateClear (s : State) : State :=
  let t := s.setFuse { s.fuse with causeClearAt := some (s.fuse.causeClearAt.getD s.tick) }
  if s.reg K.stopEnable = 1 && s.reg K.stopState = 0 && s.reg K.stopRelease = 0 &&
      s.fuse.causeClearAt.getD s.tick + ticksMs (s.regN K.stopHoldTime) ≤ s.tick then
    (t.setReg K.stopState 1).stopDrive true
  else t

theorem stopEvaluate_of_clear (h : s.stopCauses s.foundTrack.isSome = 0) : s.stopEvaluate = s.showCauses.evaluateClear :=
  if_neg (not_not.2 h)

/-- Under AUTO release an enabled output that has had no cause for StopHoldTime goes to RUN. -/
theorem evaluateClear_of_held {t0 : Nat} (clear : s.fuse.causeClearAt = some t0) (enabled : s.reg K.stopEnable = 1)
    (stopped : s.reg K.stopState = 0) (auto : s.reg K.stopRelease = 0) (held : t0 + ticksMs (s.regN K.stopHoldTime) ≤ s.tick) :
    s.evaluateClear = ((s.setFuse { s.fuse with causeClearAt := some t0 }).setReg K.stopState 1).stopDrive true := by
  simp only [State.evaluateClear, clear, Option.getD_some, enabled, stopped, auto, held]
  rfl

theorem foundTrack_of_none (h : ∀ n, s.impl0Axis = some n → s.obstacleTrack n = none) : s.foundTrack = none := by
  unfold State.foundTrack
  split
  next n t axis _ =>
    split
    · exact h n axis
    · rfl
  · rfl

/-- Summands that are multiples of 4 leave bit 1 of a sum as it is. -/
theorem testBit_one_add_ite (c : Prop) [Decidable c] {a b : Nat} (ha : 4 ∣ a) (hb : 4 ∣ b) (n : Nat) :
    (n + if c then a else b).testBit 1 = n.testBit 1 := by
  have quad : 4 ∣ if c then a else b := by split <;> assumption
  simp only [Nat.testBit_eq_decide_div_mod_eq]
  congr 2
  omega

/-- A track list older than StopWatchdog is a cause (R193). -/
theorem stopCauses_of_stale {t0 : Nat} (taken : s.fuse.tracksAt = some t0) (old : t0 + ticksMs (s.regN K.stopWatchdog) < s.tick)
    (obstacle : Bool) : (s.stopCauses obstacle).testBit 1 = true := by
  have own : ((if obstacle then 1 else 0) + 2 : Nat).testBit 1 = true := by cases obstacle <;> rfl
  simp only [State.stopCauses, taken, old, decide_true, if_true]
  simpa (disch := decide) only [testBit_one_add_ite] using own

theorem runs_stopHoldEnd (s : State) (t0 : Nat) (enabled : s.reg K.stopEnable = 1) (stopped : s.reg K.stopState = 0)
    (auto : s.reg K.stopRelease = 0) (free : ∀ n, s.impl0Axis = some n → s.obstacleTrack n = none) (causes : s.stopCauses false = 0)
    (clear : s.fuse.causeClearAt = some t0) (held : t0 + ticksMs (s.regN K.stopHoldTime) ≤ s.tick) :
    Runs .stopHoldEnd s fun t => t.reg K.stopState = 1 ∧ t.reg K.stopCause = 0 ∧ t.fuse.stopDue = true := by
  have noCause : s.stopCauses s.foundTrack.isSome = 0 := by rw [foundTrack_of_none free]; exact causes
  refine ⟨_, rfl, ?_⟩
  have same {k : Nat} (hc : k ≠ K.stopCause) (ht : k ≠ K.stopTrack) := reg_showCauses hc ht s
  have hold : s.showCauses.regN K.stopHoldTime = s.regN K.stopHoldTime := congrArg Int.toNat (same (by decide) (by decide))
  rw [stopEvaluate_of_clear noCause, evaluateClear_of_held (t0 := t0) (by rwa [fuse_showCauses])
    ((same (by decide) (by decide)).trans enabled) ((same (by decide) (by decide)).trans stopped)
    ((same (by decide) (by decide)).trans auto) (by rwa [hold, tick_showCauses])]
  beta_reduce
  rw [reg_stopDrive (by decide), reg_setReg_self, reg_stopDrive (by decide), reg_setReg_ne (by decide), reg_setFuse,
    stopCause_showCauses, noCause, fuse_stopDrive]
  exact ⟨rfl, rfl, rfl⟩

theorem runs_stopWatchdog (s : State) (t0 : Nat) (_ : s.reg K.stopEnable = 1) (running : s.reg K.stopState = 1)
    (taken : s.fuse.tracksAt = some t0) (old : t0 + ticksMs (s.regN K.stopWatchdog) < s.tick) :
    Runs .stopWatchdog s fun t =>
      t.reg K.stopState = 0 ∧ t.flag K.stopCause 1 = true ∧ t.reg K.lastStopTime = (s.now : Nat) ∧
      t.reg K.stopEvents = (s.bump K.stopEvents).reg K.stopEvents ∧ t.fuse.stopDue = true := by
  have bit := stopCauses_of_stale taken old s.foundTrack.isSome
  have cause : s.stopCauses s.foundTrack.isSome ≠ 0 := by
    intro h
    simp [h] at bit
  have runs : (s.showCauses.setFuse { s.showCauses.fuse with causeClearAt := none }).reg K.stopState ≠ 0 := by
    rw [reg_setFuse, reg_showCauses (by decide) (by decide), running]
    decide
  refine ⟨_, rfl, ?_⟩
  rw [stopEvaluate_of_cause cause]
  refine ⟨stopState_stopNow _, ?_⟩
  rw [stopNow_of_run runs, State.flag, reg_stopDrive (by decide), reg_stopDrive (by decide), reg_stopDrive (by decide), fuse_stopDrive]
  refine ⟨?_, ?_, ?_, rfl⟩
  · rw [reg_setReg_ne (by decide), reg_bump, if_neg (by decide), reg_setReg_ne (by decide), reg_setFuse, stopCause_showCauses, bitOf_ofNat]
    exact bit
  · rw [reg_setReg_self, now_setFuse, now_showCauses]
  · rw [reg_setReg_ne (by decide)]
    apply reg_bump_congr
    rw [reg_setReg_ne (by decide), reg_setFuse, reg_showCauses (by decide) (by decide)]

/-! ### The writes (R193, R194) -/

theorem writes_stopAcknowledge (s : State) (slot : Fin 16) (v : BitVec 8) :
    Writes (.stopAcknowledge slot v) s slot 0x3051 0 (leBytes 1 v.toNat) stopAcknowledgeRule fun t => t.reg K.stopState = 1 := by
  refine writes_of_effect rfl ?_ fun _ _ h => h
  simp only [stopAcknowledgeRule, commandRule, reg_finish]
  split
  next runs => exact runs
  next => rw [reg_stopDrive (by decide), reg_setReg_self]

theorem putEntry_stopEnable (s : State) (d : Bytes) : s.putEntry 0x3050 1 d = s.setReg K.stopEnable (wval d) :=
  putEntry_bool (by decide) (by decide) (by decide) s d

theorem reg_settle_stopEnable (s : State) (seq : Nat) (d : Bytes) (k : Nat) :
    (s.settle 0x3050 1 seq d).reg k = if k = K.stopEnable then (wval d : Int) else s.reg k := by
  rw [State.settle, reg_finish, putEntry_stopEnable, reg_setReg]

theorem writes_stopEnable_on (s : State) (slot : Fin 16) :
    Writes (.stopEnable slot 1) s slot 0x3050 1 (leBytes 1 (1 : BitVec 8).toNat) stopEnableRule fun t =>
      t.reg K.stopEnable = 1 ∧ t.reg K.stopState = s.reg K.stopState := by
  refine writes_of_effect rfl ?_ fun _ _ h => h
  have effect (u : State) (q : Nat) : stopEnableRule.effect u slot q (leBytes 1 (1 : BitVec 8).toNat) =
      u.settle 0x3050 1 q (leBytes 1 (1 : BitVec 8).toNat) := by
    simp only [stopEnableRule]
    exact if_neg (by decide)
  rw [effect, reg_settle_stopEnable, reg_settle_stopEnable, if_pos rfl, if_neg (by decide), reg_taken _ _ _ _ _ _ (by decide)]
  exact ⟨rfl, rfl⟩

theorem writes_stopEnable_off (s : State) (slot : Fin 16) :
    Writes (.stopEnable slot 0) s slot 0x3050 1 (leBytes 1 (0 : BitVec 8).toNat) stopEnableRule fun t =>
      t.reg K.stopEnable = 0 ∧ t.reg K.stopState = 0 := by
  refine writes_of_effect rfl ?_ fun _ _ h => h
  have effect (u : State) (q : Nat) : stopEnableRule.effect u slot q (leBytes 1 (0 : BitVec 8).toNat) =
      (u.settle 0x3050 1 q (leBytes 1 (0 : BitVec 8).toNat)).stopNow := by
    simp only [stopEnableRule]
    exact if_pos (by decide)
  rw [effect, reg_stopNow (by decide) (by decide), reg_settle_stopEnable, if_pos rfl]
  exact ⟨rfl, stopState_stopNow _⟩

/-! ### The stop frame (R194) -/

@[simp] theorem fuse_canService (s : State) (p : Nat) (f : CanFrame) : (s.canService p f).fuse = s.fuse :=
  fuse_of_outside (F := [.canBufs, .canPorts]) (by simp [State.canService]) (by decide)

theorem canService_of_inactive {p : Nat} (h : s.reg (K.portState p) ≠ cpActive) (f : CanFrame) : s.canService p f = s := if_pos h

theorem runs_stopCanFrame (s : State) (due : s.fuse.stopDue = true) (port : s.reg K.stopCanPort ≠ 0xFF) :
    Runs .stopCanFrame s fun t =>
      t.fuse.stopDue = false ∧ t.fuse.stopSentAt = s.tick ∧ t.fuse.stopCounter = (s.fuse.stopCounter + 1) % 256 ∧
      (s.reg (K.portState (s.reg K.stopCanPort).toNat) ≠ cpActive → t.canPorts = s.canPorts) := by
  refine ⟨_, (if_neg (by simp [due])).trans (if_neg port), ?_⟩
  beta_reduce
  rw [fuse_canService]
  refine ⟨rfl, rfl, rfl, fun inactive => ?_⟩
  rw [canService_of_inactive (by exact inactive)]
  rfl

/-- Settles O25: an evaluation takes the causes over, the writes of the stop function act in their tick, and a due frame goes out. -/
theorem stopOutputFollowsItsCauses : Obligations.StopOutputFollowsItsCauses := by
  unfold Obligations.StopOutputFollowsItsCauses
  exact ⟨runs_stopHoldEnd, runs_stopWatchdog, writes_stopAcknowledge, writes_stopEnable_on, writes_stopEnable_off, runs_stopCanFrame⟩

end Sys2Proof.Machine
end

section
/-!
Frames become samples (O24): the projection unit.
-/
namespace Sys2Proof.Machine
open Sys2Proof

variable {s : State}

/-! ### Frames that have waited too long (R171) -/

/-- A list without its members of a kind, one after another. -/
theorem diff_filter {α : Type} [DecidableEq α] (p : α → Bool) (l : List α) : l.diff (l.filter p) = l.filter fun a => !p a := by
  induction l with
  | nil => rfl
  | cons a l ih =>
    by_cases h : p a
    · rw [List.filter_cons_of_pos h, List.filter_cons_of_neg (by simp [h]), List.diff_cons, List.erase_cons_head, ih]
    · rw [List.filter_cons_of_neg h, List.filter_cons_of_pos (by simp [h]), List.cons_diff_of_not_mem (by simp [h]), ih]

theorem frames_drops (l : List ProjFrame) (s : State) : (l.foldl State.projectionDrop s).fuse.frames = s.fuse.frames.diff l := by
  induction l generalizing s with
  | nil => rfl
  | cons f l ih =>
    rw [List.foldl_cons, ih, List.diff_cons]
    rfl

theorem projOverrun_drops {l : List ProjFrame} (h : l ≠ []) (s : State) : (l.foldl State.projectionDrop s).fuse.projOverrun = true := by
  induction l generalizing s with
  | nil => exact absurd rfl h
  | cons f l ih =>
    rw [List.foldl_cons]
    cases l with
    | nil => rfl
    | cons g l => exact ih (by simp) _

theorem dropOverdue_of_none (h : ∀ f ∈ s.fuse.frames, s.projectionOverdue f = false) : s.dropOverdue = s := by
  have overdue : s.fuse.frames.filter s.projectionOverdue = [] := List.filter_eq_nil_iff.2 fun f hf => by simp [h f hf]
  rw [State.dropOverdue, overdue]
  rfl

theorem runs_projectionOverrun (s : State) :
    Runs .projectionOverrun s fun t =>
      t.fuse.frames = s.fuse.frames.filter (fun f => decide (s.tick < f.arrival + s.regN (K.framePeriod f.sensor) / 10)) ∧
      ((∃ f ∈ s.fuse.frames, f.arrival + s.regN (K.framePeriod f.sensor) / 10 ≤ s.tick) → t.fuse.projOverrun = true) := by
  refine ⟨s.dropOverdue, rfl, ?_, fun ⟨f, hf, late⟩ => projOverrun_drops ?_ s⟩
  · rw [State.dropOverdue, frames_drops, diff_filter]
    refine List.filter_congr fun f _ => ?_
    rw [State.projectionOverdue, ← decide_not]
    simp
  · exact List.ne_nil_of_mem (List.mem_filter.2 ⟨hf, by simpa [State.projectionOverdue] using late⟩)

/-! ### The projection unit (R171, R172) -/

@[simp] theorem poseUsable_setFuse (s : State) (x : Fuse) : (s.setFuse x).poseUsable = s.poseUsable := rfl
@[simp] theorem poseAt_setFuse (s : State) (x : Fuse) (t : Int) : (s.setFuse x).poseAt t = s.poseAt t := rfl

theorem projectionDone_of_free (h : s.fuse.projecting = none) : s.projectionDone = s := by
  simp [State.projectionDone, h]

/-- Without a pose the unit may end its work, and nothing else changes. -/
theorem projectionDone_of_lost (h : s.poseUsable = false) :
    ∃ p, s.projectionDone = s.setFuse { s.fuse with projecting := p } := by
  unfold State.projectionDone
  split
  next free => exact ⟨none, by rw [← free]; rfl⟩
  next p busy =>
    split
    · exact ⟨some p, by rw [← busy]; rfl⟩
    · exact ⟨none, if_neg (by simp [h])⟩

theorem projectionDone_of_done {p : Projecting} (h : s.fuse.projecting = some p) (done : p.doneAt ≤ s.tick) (pose : s.poseUsable = true)
    (space : s.fuse.staged.length < 32) :
    s.projectionDone = s.setFuse { s.fuse with projecting := none, staged := s.fuse.staged ++ [p.sample] } := by
  simp only [State.projectionDone, h, Nat.not_lt.2 done, if_false, poseUsable_setFuse, pose, if_true, State.stageSample, fuse_setFuse,
    Nat.not_le.2 space]
  rfl

/-- The unit starts a frame with the pose at its instant (R168). -/
theorem project_starts (s : State) (f : ProjFrame) (h : HistStep) :
    (s.project f h).fuse.frames = s.fuse.frames ∧ (s.project f h).fuse.staged = s.fuse.staged ∧
      ∃ p, (s.project f h).fuse.projecting = some p ∧ p.frame = f ∧ p.sample.sensor = f.sensor ∧ p.sample.instant = f.instant ∧
        p.sample.east = h.east ∧ p.sample.north = h.north ∧ p.sample.heading = h.heading := by
  unfold State.project
  extract_lets
  split <;> exact ⟨rfl, rfl, _, rfl, rfl, rfl, rfl, rfl, rfl, rfl⟩

theorem exec_projectionFrame_of_next {t : State} {f : ProjFrame} {h : HistStep} (ready : s.projectionDone.dropOverdue = t)
    (free : t.fuse.projecting = none) (next : t.nextProjection = some f) (pose : t.poseUsable = true) (place : t.poseAt f.instant = some h) :
    exec .projectionFrame s = .next ((t.setFuse { t.fuse with frames := t.fuse.frames.erase f }).project f h) := by
  change execProjectionFrame s = _
  simp only [execProjectionFrame, ready, free, next, poseUsable_setFuse, pose, poseAt_setFuse, place, Option.isSome_none, Bool.not_true,
    Bool.false_eq_true, if_false]

theorem exec_projectionFrame_of_none {t : State} (ready : s.projectionDone.dropOverdue = t) (nothing : t.nextProjection = none) :
    exec .projectionFrame s = .next t := by
  change execProjectionFrame s = _
  simp only [execProjectionFrame, ready, nothing, ite_self]

theorem runs_projectionFrame_start (s : State) (f : ProjFrame) (h : HistStep) (free : s.fuse.projecting = none)
    (inTime : ∀ g ∈ s.fuse.frames, s.projectionOverdue g = false) (next : s.nextProjection = some f) (pose : s.poseUsable = true)
    (place : s.poseAt f.instant = some h) :
    Runs .projectionFrame s fun t =>
      t.fuse.frames = s.fuse.frames.erase f ∧ t.fuse.staged = s.fuse.staged ∧
      ∃ p, t.fuse.projecting = some p ∧ p.frame = f ∧ p.sample.sensor = f.sensor ∧ p.sample.instant = f.instant ∧
        p.sample.east = h.east ∧ p.sample.north = h.north ∧ p.sample.heading = h.heading := by
  have ready : s.projectionDone.dropOverdue = s := by rw [projectionDone_of_free free, dropOverdue_of_none inTime]
  exact ⟨_, exec_projectionFrame_of_next ready free next pose place, project_starts ..⟩

theorem runs_projectionFrame_done (s : State) (p : Projecting) (works : s.fuse.projecting = some p) (done : p.doneAt ≤ s.tick)
    (pose : s.poseUsable = true) (empty : s.fuse.frames = []) (space : s.fuse.staged.length < 32) :
    Runs .projectionFrame s fun t => t.fuse.projecting = none ∧ t.fuse.staged = s.fuse.staged ++ [p.sample] := by
  have ready := (congrArg State.dropOverdue (projectionDone_of_done works done pose space)).trans (dropOverdue_of_none (by simp [empty]))
  refine ⟨_, exec_projectionFrame_of_none ready ?_, rfl, rfl⟩
  rw [State.nextProjection, fuse_setFuse, empty]
  rfl

end Sys2Proof.Machine
end

section
/-!
Samples become steps, and steps results (O24).
-/
namespace Sys2Proof.Machine
open Sys2Proof

variable {s : State}

/-! ### A step closes (R174-R179) -/

/-- What a closed step takes from the service. -/
theorem closedStep_fields (s : State) (t fl : Nat) (h : HistStep) :
    (s.closedStep t fl h).1.time = t ∧ (s.closedStep t fl h).1.count = (s.fuse.count + 1) % 2 ^ 32 ∧
      (s.closedStep t fl h).1.closeTime = s.now := by
  refine ⟨rfl, ?_, ?_⟩
  · simp only [State.closedStep, fuse_bumps]
  · simp only [State.closedStep, now_bumps]

/-- What a closed step leaves of the service. -/
theorem closedStep_leaves (s : State) (t fl : Nat) (h : HistStep) :
    (s.closedStep t fl h).2.fuse.staged = s.fuse.staged.filter (fun x => decide (t < x.instant)) ∧
    (s.closedStep t fl h).2.fuse.closedT = some t ∧ (s.closedStep t fl h).2.fuse.stepPose = some h.pose ∧
    (s.closedStep t fl h).2.fuse.refs = s.fuse.refs ∧ (s.closedStep t fl h).2.fuse.running = s.fuse.running ∧
    (s.closedStep t fl h).2.fuse.waiting = s.fuse.waiting ∧ (s.closedStep t fl h).2.tick = s.tick := by
  simp [State.closedStep]

/-- A closed step counts late samples, and changes no other entry. -/
theorem reg_closedStep {k : Nat} (hk : k % 256 ≠ 7) (s : State) (t fl : Nat) (h : HistStep) : (s.closedStep t fl h).2.reg k = s.reg k := by
  simp only [State.closedStep, reg_setFuse]
  exact reg_foldl (fun u x _ => (reg_bump ..).trans (if_neg (by simp; omega))) s

theorem used_closedStep_of_empty (empty : s.fuse.staged = []) (t fl : Nat) (h : HistStep) : (s.closedStep t fl h).1.used = [] := by
  simp [State.closedStep, empty]

theorem fusionSwitches_congr {s t : State} (running : t.fuse.running = s.fuse.running) (ended : t.fuse.runEnd = s.fuse.runEnd)
    (regions : t.regions = s.regions) (region : t.reg K.fusionRegion = s.reg K.fusionRegion) : t.fusionSwitches = s.fusionSwitches := by
  have same : t.region (t.regN K.fusionRegion) = s.region (s.regN K.fusionRegion) := by
    rw [State.region, regions, State.regN, region]
    rfl
  rw [State.fusionSwitches, running, ended, same]
  rfl

theorem fusionSwitches_closedStep (s : State) (t fl : Nat) (h : HistStep) : (s.closedStep t fl h).2.fusionSwitches = s.fusionSwitches := by
  refine fusionSwitches_congr ?_ ?_ ?_ (reg_closedStep (by decide) ..)
  · simp [State.closedStep]
  · simp [State.closedStep]
  · simp only [State.closedStep]
    rw [bumps_fields]
    rfl

/-! ### A step enters the network (R178) -/

/-- Of the service, a step that enters the network changes what runs and the network's state. -/
theorem fuse_runStep (s : State) (x : FStep) : ∃ net, (s.runStep x).fuse = { s.fuse with running := some (x, s.tick), net := net } :=
  ⟨_, by simp only [State.runStep, fuse_bumps, tick_bumps, fuse_setFuse]; rfl⟩

theorem offerStep_of_idle (idle : s.fuse.running = none) (stays : s.fusionSwitches = false) (x : FStep) : s.offerStep x = s.runStep x := by
  simp [State.offerStep, idle, stays]

theorem offerStep_of_running (runs : s.fuse.running.isSome = true) (free : s.fuse.waiting = none) (x : FStep) :
    s.offerStep x = s.setFuse { s.fuse with waiting := some x } := by
  have busy : s.fuse.running.isNone = false := by simp [Option.isNone_eq_false_iff.2 runs]
  simp only [State.offerStep, busy, free, Bool.false_and, Bool.false_eq_true, if_false]

/-- A step that is offered leaves the rest of the service as it was. -/
theorem offerStep_leaves (free : s.fuse.waiting = none) (x : FStep) :
    (s.offerStep x).fuse.refs = s.fuse.refs ∧ (s.offerStep x).fuse.closedT = s.fuse.closedT ∧
      (s.offerStep x).fuse.staged = s.fuse.staged ∧ (s.offerStep x).fuse.stepPose = s.fuse.stepPose := by
  obtain ⟨net, ran⟩ := fuse_runStep s x
  unfold State.offerStep
  split
  · rw [ran]
    exact ⟨rfl, rfl, rfl, rfl⟩
  · rw [free]
    exact ⟨rfl, rfl, rfl, rfl⟩

/-! ### FUSION_STEP_CLOSE -/

/-- The first reference instant is taken. -/
def State.refTaken (s : State) (rest : List (Nat × Nat)) : State := s.setFuse { s.fuse with refs := rest }

/-- A step without a pose closes without a sample, and is issued SKIPPED (R175, R178). -/
def State.closeSkipped (s : State) (t flags : Nat) : State :=
  let x := (s.setFuse { s.fuse with staged := [] }).closedStep t flags { flags := 0x30 }
  let u := x.2.skipStep x.1
  (u.setFuse { u.fuse with stepPose := s.fuse.stepPose }).showFusion

/-- What FUSION_STEP_CLOSE asks for first. -/
theorem closes_unless {tr : Nat} (on : s.reg K.fusionEnable = 1) (works : s.reg K.fusionState ≠ fsFault)
    (closes : s.stepCloses tr = true) : (!s.fusionOn || decide (s.reg K.fusionState = fsFault) || !s.stepCloses tr) = false := by
  rw [State.fusionOn, on, decide_eq_false works, closes]
  rfl

section
variable {t : State} {tr fl : Nat} {rest : List (Nat × Nat)} {h : HistStep}
  (refs : s.fuse.refs = (tr, fl) :: rest) (on : s.reg K.fusionEnable = 1) (works : s.reg K.fusionState ≠ fsFault)
  (closes : s.stepCloses tr = true) (ready : (s.refTaken rest).projectionDone.startWaiting = t)
include refs on works closes ready

theorem exec_fusionStepClose_of_pose (pose : t.poseUsable = true) (place : t.poseAt tr = some h) :
    exec .fusionStepClose s = .next ((t.closedStep tr fl h).2.offerStep (t.closedStep tr fl h).1).showFusion := by
  have goes := closes_unless on works closes
  rw [State.refTaken] at ready
  change execFusionStepClose s = _
  simp only [execFusionStepClose, refs, goes, Bool.false_eq_true, if_false, ready, pose, if_true, place]

theorem exec_fusionStepClose_of_lost (lost : t.poseUsable = false) :
    exec .fusionStepClose s = .next (t.closeSkipped tr fl) := by
  have goes := closes_unless on works closes
  rw [State.refTaken] at ready
  change execFusionStepClose s = _
  simp only [execFusionStepClose, refs, goes, Bool.false_eq_true, if_false, ready, lost]
  rfl

end

/-- Without a pose only the projection unit may go on before a step closes. -/
theorem startWaiting_projectionDone_of_lost (free : s.fuse.waiting = none) (lost : s.poseUsable = false) :
    ∃ t, s.projectionDone.startWaiting = t ∧ t.poseUsable = false ∧ (∀ k, t.reg k = s.reg k) ∧
      t.fuse.refs = s.fuse.refs ∧ t.fuse.count = s.fuse.count ∧ t.fuse.running = s.fuse.running := by
  obtain ⟨p, done⟩ := projectionDone_of_lost lost
  have ready := (congrArg State.startWaiting done).trans (startWaiting_of_none (by exact free))
  exact ⟨_, ready, lost, fun _ => rfl, rfl, rfl, rfl⟩

theorem runs_fusionStepClose (s : State) (tr fl : Nat) (rest : List (Nat × Nat)) (h : HistStep) (refs : s.fuse.refs = (tr, fl) :: rest)
    (on : s.reg K.fusionEnable = 1) (works : s.reg K.fusionState ≠ fsFault) (closes : s.stepCloses tr = true)
    (pose : s.poseUsable = true) (place : s.poseAt tr = some h) (unit : s.fuse.projecting = none) (free : s.fuse.waiting = none) :
    Runs .fusionStepClose s fun t =>
      t.fuse.refs = rest ∧ t.fuse.closedT = some tr ∧
      t.fuse.staged = s.fuse.staged.filter (fun x => decide (tr < x.instant)) ∧ t.fuse.stepPose = some h.pose ∧
      ∃ x : FStep, x.time = tr ∧ x.count = (s.fuse.count + 1) % 2 ^ 32 ∧ x.closeTime = s.now ∧
        (s.fuse.running = none → s.fusionSwitches = false → t.fuse.running = some (x, s.tick) ∧ t.fuse.waiting = none) ∧
        (s.fuse.running.isSome = true → t.fuse.waiting = some x ∧ t.fuse.running = s.fuse.running) := by
  have ready : (s.refTaken rest).projectionDone.startWaiting = s.refTaken rest :=
    (congrArg State.startWaiting (projectionDone_of_free (by exact unit))).trans (startWaiting_of_none (by exact free))
  refine ⟨_, exec_fusionStepClose_of_pose refs on works closes ready pose place, ?_⟩
  obtain ⟨time, count, closeTime⟩ := closedStep_fields (s.refTaken rest) tr fl h
  obtain ⟨staged, closedT, stepPose, refs', running, waiting, tick⟩ := closedStep_leaves (s.refTaken rest) tr fl h
  have switches := (fusionSwitches_closedStep (s.refTaken rest) tr fl h).trans (fusionSwitches_congr (s := s) rfl rfl rfl rfl)
  generalize (s.refTaken rest).closedStep tr fl h = c at *
  obtain ⟨keptRefs, keptClosed, keptStaged, keptPose⟩ := offerStep_leaves (waiting.trans free) c.1
  rw [fuse_showFusion]
  refine ⟨keptRefs.trans refs', keptClosed.trans closedT, keptStaged.trans staged, keptPose.trans stepPose, c.1, time, count, closeTime,
    fun idle stays => ?_, fun busy => ?_⟩
  · obtain ⟨net, ran⟩ := fuse_runStep c.2 c.1
    rw [offerStep_of_idle (running.trans idle) (switches.trans stays), ran]
    exact ⟨congrArg (fun k => some (c.1, k)) tick, waiting.trans free⟩
  · rw [offerStep_of_running (by rw [running]; exact busy) (waiting.trans free)]
    exact ⟨rfl, running⟩

/-! ### A result (R178, R188) -/

theorem fuse_issueHeader (s : State) (x : FStep) (flags tracks : Nat) : ∃ fl, (s.issueHeader x flags tracks).fuse =
    { s.fuse with projOverrun := false, lastFlags := fl, lastPresence := x.presence } := ⟨_, rfl⟩

theorem reg_issueHeader (s : State) (x : FStep) (flags tracks k : Nat) : (s.issueHeader x flags tracks).reg k =
    if k = K.lastStepTime then (x.time : Int) else if k = K.stepCount then (x.count : Int) else s.reg k := by
  simp only [State.issueHeader, reg_setBlob, reg_setReg, reg_setFuse]

theorem skipStep_of_unused {x : FStep} (h : x.used = []) : s.skipStep x = (s.issueHeader x 16 0).bump K.stepsSkipped := by
  simp only [State.skipStep, h]
  rfl

/-- What the skipped step shows and leaves. -/
theorem closeSkipped_leaves (s : State) (t flags : Nat) :
    (s.closeSkipped t flags).fuse.refs = s.fuse.refs ∧ (s.closeSkipped t flags).reg K.lastStepTime = (t : Nat) ∧
      (s.closeSkipped t flags).reg K.stepsSkipped = (s.bump K.stepsSkipped).reg K.stepsSkipped ∧
      (s.closeSkipped t flags).reg K.stepCount = (((s.fuse.count + 1) % 2 ^ 32 : Nat) : Int) ∧
      (s.closeSkipped t flags).fuse.running = s.fuse.running := by
  have unused := used_closedStep_of_empty (s := s.setFuse { s.fuse with staged := [] }) rfl t flags { flags := 0x30 }
  obtain ⟨time, count, -⟩ := closedStep_fields (s.setFuse { s.fuse with staged := [] }) t flags { flags := 0x30 }
  obtain ⟨-, -, -, refs, running, -⟩ := closedStep_leaves (s.setFuse { s.fuse with staged := [] }) t flags { flags := 0x30 }
  have skipped := reg_closedStep (k := K.stepsSkipped) (by decide) (s.setFuse { s.fuse with staged := [] }) t flags { flags := 0x30 }
  simp only [State.closeSkipped]
  generalize (s.setFuse { s.fuse with staged := [] }).closedStep t flags { flags := 0x30 } = c at *
  obtain ⟨fl, header⟩ := fuse_issueHeader c.2 c.1 16 0
  rw [skipStep_of_unused unused, fuse_showFusion, fuse_setFuse, fuse_bump, header]
  refine ⟨refs, ?_, ?_, ?_, running⟩ <;> rw [reg_showFusion (by decide), reg_setFuse]
  · rw [reg_bump, if_neg (by decide), reg_issueHeader, if_pos rfl, time]
  · apply reg_bump_congr
    rw [reg_issueHeader, if_neg (by decide), if_neg (by decide), skipped, reg_setFuse]
  · rw [reg_bump, if_neg (by decide), reg_issueHeader, if_neg (by decide), if_pos rfl, count, fuse_setFuse]

theorem runs_fusionStepClose_lost (s : State) (tr fl : Nat) (rest : List (Nat × Nat)) (refs : s.fuse.refs = (tr, fl) :: rest)
    (on : s.reg K.fusionEnable = 1) (works : s.reg K.fusionState ≠ fsFault) (closes : s.stepCloses tr = true)
    (lost : s.poseUsable = false) (free : s.fuse.waiting = none) :
    Runs .fusionStepClose s fun t =>
      t.fuse.refs = rest ∧ t.reg K.lastStepTime = (tr : Nat) ∧ t.reg K.stepsSkipped = (s.bump K.stepsSkipped).reg K.stepsSkipped ∧
      t.reg K.stepCount = (((s.fuse.count + 1) % 2 ^ 32 : Nat) : Int) ∧ t.fuse.running = s.fuse.running := by
  obtain ⟨t, ready, lost', entries, keptRefs, keptCount, keptRunning⟩ :=
    startWaiting_projectionDone_of_lost (s := s.refTaken rest) free lost
  obtain ⟨refs', time, skipped, count, running⟩ := closeSkipped_leaves t tr fl
  rw [keptCount] at count
  exact ⟨_, exec_fusionStepClose_of_lost refs on works closes ready lost', refs'.trans keptRefs, time,
    skipped.trans (reg_bump_congr (entries _)), count, running.trans keptRunning⟩

/-! ### The end of a run (R178, R186-R188) -/

/-- After a run the service is free, where nothing has waited for its end. -/
theorem networkFree_of_idle (noDisable : s.fuse.disableItems = []) (noClear : s.fuse.clearAsked = false) (free : s.fuse.waiting = none) :
    s.networkFree = (s.setFuse { s.fuse with running := none, runEnd := some s.tick }).showFusion := by
  simp only [State.networkFree, fuse_setFuse, noDisable, noClear, List.isEmpty_nil, Bool.not_true, Bool.false_eq_true, if_false]
  exact congrArg State.showFusion (startWaiting_of_none (by exact free))

theorem runs_stepOverrun (s : State) (x : FStep) (t0 : Nat) (d : FusionDecl) (runs : s.fuse.running = some (x, t0))
    (decl : s.fusionDecl = some d) (late : t0 + d.stepMax / 10 ≤ s.tick) (free : s.fuse.waiting = none)
    (noDisable : s.fuse.disableItems = []) (noClear : s.fuse.clearAsked = false) :
    Runs .stepOverrun s fun t =>
      t.fuse.running = none ∧ t.reg K.stepOverruns = (s.bump K.stepOverruns).reg K.stepOverruns ∧
      t.reg K.lastStepTime = (x.time : Nat) ∧ t.fuse.lastBody = s.fuse.lastBody := by
  have ran : exec .stepOverrun s = .next (s.overrunStep x) := by
    have limit : s.runLimit t0 = some (t0 + d.stepMax / 10) := by rw [State.runLimit, decl, Option.map_some]
    change execStepOverrun s = _
    simp only [execStepOverrun, runs, limit, late, decide_true, if_true]
  refine ⟨_, ran, ?_⟩
  obtain ⟨flags, header⟩ := fuse_issueHeader s x 32 0
  have issued : (((s.issueHeader x 32 0).bump K.stepOverruns).eventKey .fusion 0 K.stepOverruns).fuse =
      { s.fuse with projOverrun := false, lastFlags := flags, lastPresence := x.presence } := by rw [fuse_eventKey, fuse_bump, header]
  rw [State.overrunStep, networkFree_of_idle (by rw [issued]; exact noDisable) (by rw [issued]; exact noClear) (by rw [issued]; exact free),
    fuse_showFusion, reg_showFusion (by decide), reg_showFusion (by decide), reg_setFuse, reg_setFuse, reg_eventKey, reg_eventKey, issued]
  refine ⟨rfl, reg_bump_congr ?_, ?_, rfl⟩
  · rw [reg_issueHeader, if_neg (by decide), if_neg (by decide)]
  · rw [reg_bump, if_neg (by decide), reg_issueHeader, if_pos rfl]

theorem blobs_of_outside {F : List Part} {s t : State} (h : t.outside F = s.outside F) (hF : .blobs ∉ F) : t.blobs = s.blobs :=
  (congrArg State.blobs (eq_merge_of_outside h)).trans (if_neg hF)

@[simp] theorem blob_showFusion (s : State) (k : Nat) : s.showFusion.blob k = s.blob k :=
  congrArg (fun b => b.get (blobDefault k) k) (blobs_of_outside (F := [.regs]) (outside_showFusion (by decide) s) (by decide))

/-- The spout topic is a message of the fleet link. -/
theorem outside_publishSpout (s : State) (p : Bytes) : (s.publishSpout p).outside [.regs, .fleet] = s.outside [.regs, .fleet] := by
  simp [State.publishSpout]

theorem reg_publishSpout {k : Nat} (hk : logKey k = false) (s : State) (p : Bytes) : (s.publishSpout p).reg k = s.reg k := by
  simp only [State.publishSpout]
  split
  · rw [reg_publish hk]
    rfl
  · rfl

/-- The state in which a step's result has been issued with its objects, before the network is free. -/
structure Issued (s : State) (x : FStep) (e k : Bytes) (u : State) : Prop where
  body : u.fuse.lastBody = some s.tick
  pose : u.fuse.prevPose = some (x.east, x.north, x.heading)
  presence : u.fuse.lastPresence = x.presence
  disable : u.fuse.disableItems = s.fuse.disableItems
  clear : u.fuse.clearAsked = s.fuse.clearAsked
  waiting : u.fuse.waiting = s.fuse.waiting
  count : u.reg K.stepCount = (x.count : Nat)
  time : u.reg K.lastStepTime = (x.time : Nat)
  tank : u.blob K.tankFill = issuedObject 16 x.count (tankOk k) [4] k
  edges : u.blob K.cropEdges = issuedObject 536 x.count (edgesOk e) [9, 141, 273, 405] e

theorem exec_networkRunEnd_of_inTime {x : FStep} {t0 : Nat} (e b p k o : Bytes) (runs : s.fuse.running = some (x, t0))
    (inTime : ∀ l, s.runLimit t0 = some l → s.tick ≤ l) :
    ∃ u q, exec (.networkRunEnd e b p k o) s = .next (State.publishSpout u q).networkFree ∧ Issued s x e k u := by
  have opened : exec (.networkRunEnd e b p k o) s = execNetworkRunEnd e b p k o s := rfl
  rw [opened]
  simp only [execNetworkRunEnd, runs]
  rw [if_neg ?inTime]
  case inTime =>
    split
    next l limit => simpa using inTime l limit
    next => decide
  refine ⟨_, _, rfl, ?_⟩
  constructor
  case count => simp only [reg_setFuse, reg_setBlob]; rw [reg_issueHeader, if_neg (by decide), if_pos rfl]
  case time => simp only [reg_setFuse, reg_setBlob]; rw [reg_issueHeader, if_pos rfl]
  case tank => rw [blob_setFuse, blob_setBlob, if_neg (by decide), blob_setBlob_self]
  case edges => simp [blob_setBlob]
  all_goals rfl

theorem runs_networkRunEnd (s : State) (x : FStep) (t0 : Nat) (e b p k o : Bytes) (runs : s.fuse.running = some (x, t0))
    (free : s.fuse.waiting = none) (inTime : ∀ l, s.runLimit t0 = some l → s.tick ≤ l) (noDisable : s.fuse.disableItems = [])
    (noClear : s.fuse.clearAsked = false) :
    Runs (.networkRunEnd e b p k o) s fun t =>
      t.fuse.running = none ∧ t.fuse.lastBody = some s.tick ∧ t.fuse.prevPose = some (x.east, x.north, x.heading) ∧
      t.fuse.lastPresence = x.presence ∧ t.reg K.stepCount = (x.count : Nat) ∧ t.reg K.lastStepTime = (x.time : Nat) ∧
      t.blob K.tankFill = issuedObject 16 x.count (tankOk k) [4] k ∧
      t.blob K.cropEdges = issuedObject 536 x.count (edgesOk e) [9, 141, 273, 405] e := by
  obtain ⟨u, q, ran, issued⟩ := exec_networkRunEnd_of_inTime e b p k o runs inTime
  refine ⟨_, ran, ?_⟩
  have fuse : (u.publishSpout q).fuse = u.fuse := fuse_of_outside (outside_publishSpout u q) (by decide)
  have blob (j : Nat) : (u.publishSpout q).blob j = u.blob j :=
    congrArg (fun b => b.get (blobDefault j) j) (blobs_of_outside (outside_publishSpout u q) (by decide))
  have idle := networkFree_of_idle (s := u.publishSpout q) (by rw [fuse, issued.disable, noDisable]) (by rw [fuse, issued.clear, noClear])
    (by rw [fuse, issued.waiting, free])
  beta_reduce
  rw [idle, fuse_showFusion, fuse_setFuse, fuse, reg_showFusion (by decide), reg_showFusion (by decide), reg_setFuse, reg_setFuse,
    reg_publishSpout (by decide), reg_publishSpout (by decide), blob_showFusion, blob_showFusion, blob_setFuse, blob_setFuse, blob, blob]
  exact ⟨rfl, issued.body, issued.pose, issued.presence, issued.count, issued.time, issued.tank, issued.edges⟩

/-! ### The band (R190) -/

/-- A line has grown behind its entries, and nothing else of the lines and of the service has changed. -/
structure Grows (l : Nat) (s t : State) : Prop where
  entries : (s.line l).entries <+: (t.line l).entries
  others : ∀ m, m ≠ l → t.line m = s.line m
  fuse : t.fuse = s.fuse

theorem Grows.refl (l : Nat) (s : State) : Grows l s s := ⟨List.prefix_rfl, fun _ _ => rfl, rfl⟩

theorem Grows.trans {l : Nat} {s t u : State} (h : Grows l s t) (g : Grows l t u) : Grows l s u :=
  ⟨h.entries.trans g.entries, fun m hm => (g.others m hm).trans (h.others m hm), g.fuse.trans h.fuse⟩

/-- A change of entries leaves every line as it is. -/
theorem Grows.bump (l k : Nat) (s : State) : Grows l s (s.bump k) := ⟨List.prefix_rfl, fun _ _ => rfl, rfl⟩

theorem Grows.countReject (l : Nat) (s : State) (r : LineReject) : Grows l s (s.countReject l r) := by
  cases r <;> exact Grows.bump ..

theorem Grows.lineAdd (l : Nat) (s : State) (key : Int) (lanes : List Int) : Grows l s (s.lineAdd l key lanes) where
  entries := by
    have added : ((s.lineAdd l key lanes).line l).entries = (s.line l).entries ++ [(key, lanes)] := congrArg Line.entries (line_setLine ..)
    rw [added]
    exact List.prefix_append _ _
  others m hm := line_setLine_ne s l _ hm
  fuse := rfl

theorem Grows.foldl {α : Type} {l : Nat} {f : State → α → State} (hf : ∀ s x, Grows l s (f s x)) (xs : List α) (s : State) :
    Grows l s (xs.foldl f s) :=
  List.foldlRecOn (motive := Grows l s) xs f (.refl l s) fun t h x _ => h.trans (hf t x)

/-- What the rows of a band make of its line. -/
theorem exec_bandWrite_grows {t0 : Nat} (due : s.fuse.bandDue = some t0) :
    ∃ t, exec .bandWrite s = .next t ∧ Grows (s.regN K.bandLine) (s.setFuse { s.fuse with bandDue := none }) t := by
  have opened : exec .bandWrite s = execBandWrite s := rfl
  rw [opened]
  simp only [execBandWrite, due]
  split
  · exact ⟨_, rfl, .refl _ _⟩
  · refine ⟨_, rfl, .foldl (fun u r => ?_) _ _⟩
    split
    · exact .refl _ _
    · split
      · exact .bump ..
      · split
        next j _ => exact (Grows.countReject _ u j).trans (.bump ..)
        next => exact .lineAdd ..

theorem runs_bandWrite (s : State) (t0 : Nat) (due : s.fuse.bandDue = some t0) :
    Runs .bandWrite s fun t =>
      t.fuse.bandDue = none ∧ (s.line (s.regN K.bandLine)).entries <+: (t.line (s.regN K.bandLine)).entries ∧
      ∀ m, m ≠ s.regN K.bandLine → t.line m = s.line m := by
  obtain ⟨t, ran, grows⟩ := exec_bandWrite_grows due
  exact ⟨t, ran, congrArg Fuse.bandDue grows.fuse, grows.entries, grows.others⟩

/-- Settles O24: the projection unit, the close of a step, the two ends of a run and the rows of the band. -/
theorem fusionStepsAreIssued : Obligations.FusionStepsAreIssued := by
  unfold Obligations.FusionStepsAreIssued
  exact ⟨runs_projectionFrame_start, runs_projectionFrame_done, runs_projectionOverrun, runs_fusionStepClose, runs_fusionStepClose_lost,
    runs_networkRunEnd, runs_stepOverrun, runs_bandWrite⟩

end Sys2Proof.Machine
end

section
/-!
What the operations of the camera pipeline and of the fusion service leave of each other (O26-O28).
-/
namespace Sys2Proof.Machine
open Sys2Proof

/-! ### Fields that an operation does not write -/

section
variable {F : List Part} {s t : State} (h : t.outside F = s.outside F)
include h

theorem cams_of_outside (hF : .cams ∉ F) : t.cams = s.cams := (congrArg State.cams (eq_merge_of_outside h)).trans (if_neg hF)
theorem streams_of_outside (hF : .streams ∉ F) : t.streams = s.streams :=
  (congrArg State.streams (eq_merge_of_outside h)).trans (if_neg hF)

theorem jr_of_outside (hF : .jr ∉ F) : t.jr = s.jr := (congrArg State.jr (eq_merge_of_outside h)).trans (if_neg hF)

theorem cam_of_outside (hF : .cams ∉ F) (n : Nat) : t.cam n = s.cam n := congrArg (fun c => c.get Cam.init n) (cams_of_outside h hF)
theorem tick_of_outside (hF : .clock ∉ F) : t.tick = s.tick := congrArg Clock.tick (clock_of_outside h hF)

theorem isDisabling_of_outside (hF : .jr ∉ F) (a : Nat) : t.isDisabling a = s.isDisabling a :=
  congrArg (fun j => j.disabling.any fun d => d.aim == a) (jr_of_outside h hF)

end

section
variable {F : List Part} (s : State)

@[simp] theorem outside_with_aligns (h : .aligns ∈ F) (x) : ({ s with aligns := x } : State).outside F = s.outside F := by
  simp [State.outside, State.merge, h]

@[simp] theorem outside_with_vision (h : .vision ∈ F) (x) : ({ s with vision := x } : State).outside F = s.outside F := by
  simp [State.outside, State.merge, h]

@[simp] theorem outside_setAlign (h : .aligns ∈ F) (n : Nat) (x : Align) : (s.setAlign n x).outside F = s.outside F :=
  outside_with_aligns s h _

@[simp] theorem outside_retransmit (hregs : .regs ∈ F) (port : Nat) : (s.retransmit port).outside F = s.outside F := by
  simp [State.retransmit, hregs]

@[simp] theorem outside_showDescriptor (hregs : .regs ∈ F) (hblobs : .blobs ∈ F) (n tag : Nat) (b : Bytes) :
    (s.showDescriptor n tag b).outside F = s.outside F := by
  simp [State.showDescriptor, hregs, hblobs]

@[simp] theorem outside_feedStreams (h : .streams ∈ F) (n : Nat) (p : Picture) (centre : Nat) :
    (s.feedStreams n p centre).outside F = s.outside F := by
  simp [State.feedStreams, h]

@[simp] theorem outside_putFrame (h : .cams ∈ F) (n : Nat) (f : VFrame) : (s.putFrame n f).outside F = s.outside F := outside_setCam h ..

end

/-! ### Sensors -/

section
variable (s : State) (n : Nat)

theorem cam_ite (c : Prop) [Decidable c] (s t : State) (n : Nat) : (if c then s else t).cam n = if c then s.cam n else t.cam n :=
  apply_ite (fun u : State => u.cam n) _ _ _

@[simp] theorem cam_setReg (k : Nat) (v : Int) : (s.setReg k v).cam n = s.cam n := rfl
@[simp] theorem cam_setBlob (k : Nat) (v : Bytes) : (s.setBlob k v).cam n = s.cam n := rfl
@[simp] theorem cam_bump (k : Nat) : (s.bump k).cam n = s.cam n := rfl
@[simp] theorem cam_with_vision (x : Vision) : ({ s with vision := x } : State).cam n = s.cam n := rfl
@[simp] theorem cam_showDescriptor (m tag : Nat) (b : Bytes) : (s.showDescriptor m tag b).cam n = s.cam n := rfl
@[simp] theorem cam_putFrame (f : VFrame) : (s.putFrame n f).cam n = (s.cam n).setFrame f := cam_setCam ..

end

/-! ### The fusion service -/

section
variable {F : List Part} (hregs : .regs ∈ F) (hfuse : .fuse ∈ F) (s : State)
include hregs hfuse

@[simp] theorem outside_addReference (t : Int) (flags : Nat) : (s.addReference t flags).outside F = s.outside F := by
  simp [State.addReference, hregs, hfuse]

@[simp] theorem outside_referenceAt (n : Nat) (t : Int) (flags : Nat) : (s.referenceAt n t flags).outside F = s.outside F := by
  simp [State.referenceAt, hregs, hfuse]

@[simp] theorem outside_fuseFrame (n seq : Nat) (t : Int) (output : Bool) : (s.fuseFrame n seq t output).outside F = s.outside F := by
  simp [State.fuseFrame, hregs, hfuse]

@[simp] theorem outside_projectionDrop (f : ProjFrame) : (s.projectionDrop f).outside F = s.outside F := by
  simp [State.projectionDrop, hregs, hfuse]

@[simp] theorem outside_freeVisionBuffer (n : Nat) : (s.freeVisionBuffer n).outside F = s.outside F := by
  unfold State.freeVisionBuffer
  split
  · rfl
  · split
    · exact outside_projectionDrop hregs hfuse _ _
    · rfl

@[simp] theorem outside_frameMissing (haligns : .aligns ∈ F) (n : Nat) : (s.frameMissing n).outside F = s.outside F := by
  simp [State.frameMissing, hregs, hfuse, haligns]

end

@[simp] theorem outside_showAlign {F : List Part} (hregs : .regs ∈ F) (s : State) (n : Nat) : (s.showAlign n).outside F = s.outside F := by
  simp [State.showAlign, hregs]

@[simp] theorem outside_align {F : List Part} (hregs : .regs ∈ F) (hbook : .book ∈ F) (haligns : .aligns ∈ F) (s : State)
    (n ts arr : Nat) : (s.align n ts arr).2.outside F = s.outside F := by
  simp [State.align, apply_ite Prod.snd, State.eventKey, hregs, hbook, haligns]

/-! ### Entries -/

theorem reg_ite (c : Prop) [Decidable c] (s t : State) (k : Nat) : (if c then s else t).reg k = if c then s.reg k else t.reg k :=
  apply_ite (fun u : State => u.reg k) _ _ _

section
variable (s : State) {k n : Nat}

/-- The fusion service's entries apart, a reference instant changes none. -/
theorem reg_addReference (hk : k ≠ K.fusionState) (t : Int) (flags : Nat) : (s.addReference t flags).reg k = s.reg k := by
  simp only [State.addReference, reg_ite, reg_showFusion hk, reg_setFuse, ite_self]

theorem reg_referenceAt (hk : k ≠ K.fusionState) (t : Int) (flags : Nat) : (s.referenceAt n t flags).reg k = s.reg k := by
  simp only [State.referenceAt, reg_ite, reg_addReference _ hk, ite_self]

theorem reg_frameMissing (hk : k ≠ K.fusionState) : (s.frameMissing n).reg k = s.reg k := by
  simp only [State.frameMissing, reg_ite, reg_referenceAt _ hk, reg_setAlign, ite_self]

theorem reg_fuseFrame (hk : k ≠ K.fusionState) (seq : Nat) (t : Int) (output : Bool) : (s.fuseFrame n seq t output).reg k = s.reg k := by
  simp only [State.fuseFrame, reg_ite, reg_referenceAt _ hk, reg_setFuse, ite_self]

theorem reg_showDescriptor (tag : Nat) (b : Bytes) :
    (s.showDescriptor n tag b).reg k = if k = K.tagInForce n then (tag : Int) else s.reg k := by
  rw [State.showDescriptor, reg_setReg, reg_setBlob]

theorem reg_retransmit {port : Nat} (hk : k ≠ K.retransmissions port) : (s.retransmit port).reg k = s.reg k := by
  rw [State.retransmit, reg_ite, reg_bumpBy, if_neg hk, ite_self]

/-- The alignment of a sensor changes entries of its alignment object only. -/
theorem reg_align (hk : k / 256 ≠ 0x3020 + n) (ts arr : Nat) : (s.align n ts arr).2.reg k = s.reg k := by
  have sub (j : Nat) (hj : j / 256 = 0x3020 + n) : k ≠ j := fun h => hk (h ▸ hj)
  have shown (t : State) : (t.showAlign n).reg k = t.reg k := by
    rw [State.showAlign, reg_setReg_ne (sub _ (by simp; omega)), reg_setReg_ne (sub _ (by simp; omega))]
  have locked (t : State) (v : Int) : (t.setReg (K.lockedFrames n) v).reg k = t.reg k := reg_setReg_ne (sub _ (by simp; omega)) _ _
  have state (t : State) (v : Int) : (t.setReg (K.alignState n) v).reg k = t.reg k := reg_setReg_ne (sub _ (by simp; omega)) _ _
  have events (t : State) : (t.bump (K.unalignedEvents n)).reg k = t.reg k := reg_setReg_ne (sub _ (by simp; omega)) _ _
  simp only [State.align, apply_ite Prod.snd, reg_ite, shown, locked, state, events, reg_setAlign, reg_eventKey, ite_self]

@[simp] theorem reg_feedStreams (p : Picture) (centre : Nat) : (s.feedStreams n p centre).reg k = s.reg k :=
  congrArg (fun r => r.get (regDefault k) k) (regs_of_outside (F := [.streams]) (outside_feedStreams s (by decide) ..) (by decide))

end

end Sys2Proof.Machine
end

section
/-!
Frames of a sensor: what opens, ends, loses and issues one (O26).
-/
namespace Sys2Proof.Machine
open Sys2Proof

variable {s : State} {n : Nat}

/-! ### Frames in a sensor's list -/

theorem mem_frames_of_reading {x : Cam} {f : VFrame} (h : x.reading = some f) : f ∈ x.frames := List.mem_of_find?_eq_some h

theorem mem_frames_setFrame {x : Cam} {f g : VFrame} (hf : f ∈ x.frames) (hg : g.seq = f.seq) : g ∈ (x.setFrame g).frames :=
  List.mem_map.2 ⟨f, hf, if_pos hg.symm⟩

theorem notMem_frames_dropFrame {x : Cam} {q : Nat} : ∀ g ∈ (x.dropFrame q).frames, g.seq ≠ q := fun _ hg => by
  simpa using (List.mem_filter.1 hg).2

theorem length_padRows (depth : Bool) (mosaic w h : Nat) (c : Corr) (rows : List (List Nat)) :
    (padRows depth mosaic w h c rows).length = max rows.length h := by
  simp [padRows]
  omega

theorem passDone_of_free (h : s.vision.passFrom = none) : s.passDone = s := by
  simp [State.passDone, h]

/-! ### A lost frame (R208) -/

/-- A MISSING frame leaves its sensor, and the rest of the sensor stays. -/
theorem cam_missFrame (s : State) (n : Nat) (f : VFrame) (cause : Nat) : (s.missFrame n f cause).cam n = (s.cam n).dropFrame f.seq := by
  simp [State.missFrame, cam_ite]

theorem reg_missFrame {k : Nat} (hk : k ≠ K.tagInForce n) (s : State) (f : VFrame) (cause : Nat) :
    (s.missFrame n f cause).reg k = (s.bump (K.missingFrames n)).reg k := by
  have shown (tag : Nat) (b : Bytes) (j : Nat) (hj : j ≠ K.tagInForce n) : (s.showDescriptor n tag b).reg j = s.reg j := by
    rw [reg_showDescriptor, if_neg hj]
  have count : K.missingFrames n ≠ K.tagInForce n := by simp; omega
  simp only [State.missFrame, reg_bump, reg_setCam, reg_ite, ite_self, shown _ _ _ hk, shown _ _ _ count, reg_mk]

theorem cam_frameMissing (s : State) (n m : Nat) : (s.frameMissing n).cam m = s.cam m :=
  cam_of_outside (F := [.regs, .fuse, .aligns]) (outside_frameMissing (by decide) (by decide) s (by decide) n) (by decide) m

theorem cam_loseFrame (s : State) (n : Nat) (f : VFrame) (cause : Nat) : (s.loseFrame n f cause).cam n = (s.cam n).dropFrame f.seq :=
  (cam_frameMissing ..).trans (cam_missFrame ..)

/-- A lost frame is counted. -/
theorem missingFrames_loseFrame (s : State) (n : Nat) (f : VFrame) (cause : Nat) :
    (s.loseFrame n f cause).reg (K.missingFrames n) = (s.bump (K.missingFrames n)).reg (K.missingFrames n) :=
  (reg_frameMissing _ (by simp; omega)).trans (reg_missFrame (by simp; omega) ..)

/-! ### A sensor's disable (R92, R227) -/

theorem cam_sensorOff (s : State) (n : Nat) : (s.sensorOff n).cam n = { Cam.init with nextSeq := (s.cam n).nextSeq } := by
  simp only [State.sensorOff]
  rw [cam_of_outside (F := [.regs]) (outside_showRegion (by decide) _) (by decide),
    cam_of_outside (F := [.jr]) (outside_endDisable (by decide) _ _) (by decide)]
  exact cam_setCam ..

theorem reg_showRegion {k : Nat} (hk : k ≠ K.regionUsed) (s : State) : s.showRegion.reg k = s.reg k := reg_setReg_ne hk _ _

theorem reg_sensorOff {k : Nat} (hr : k ≠ K.regionUsed) (s : State) (n : Nat) : (s.sensorOff n).reg k =
    if k = K.setState n then 0 else if k = K.alignState n then alDisabled else if k = K.sensorEnable n then 0 else s.reg k := by
  simp only [State.sensorOff, reg_showRegion hr, reg_endDisable, reg_setReg]
  rfl

/-! ### A frame start (R205, R207, R213, R214, R225) -/

/-- The sensor as its frame finds it: the corrections in force, a raw buffer and a vision buffer free. -/
def State.readyForFrame (s : State) (n : Nat) : State :=
  let s := s.atFrameStart n
  let s := match s.rawVictim n with
    | some f => s.loseFrame n f 3
    | none => s
  if s.pathOf n = 1 then s else s.freeVisionBuffer n

theorem frameStart_eq (s : State) (n csi : Nat) : s.frameStart n csi = (s.readyForFrame n).openFrame n csi := rfl

theorem cam_applyCorrections (s : State) (n : Nat) : (s.applyCorrections n).cam n = { s.cam n with writes := [] } := by
  simp only [State.applyCorrections]
  rw [cam_of_outside (F := [.regs, .blobs, .jr]) (outside_foldl (fun u w => outside_settle (by decide) (by decide) (by decide) u ..) _ _)
    (by decide)]
  exact cam_setCam ..

theorem cam_atFrameStart (s : State) (n : Nat) : (s.atFrameStart n).cam n = { s.cam n with writes := [] } := by
  rw [← cam_applyCorrections]
  simp only [State.atFrameStart]
  split <;> rfl

theorem cam_freeVisionBuffer (s : State) (n m : Nat) : (s.freeVisionBuffer n).cam m = s.cam m :=
  cam_of_outside (F := [.regs, .fuse]) (outside_freeVisionBuffer (by decide) (by decide) s n) (by decide) m

/-- Of the sensor, the settling of corrections and buffers changes the frames and the corrections that wait. -/
theorem cam_readyForFrame (s : State) (n : Nat) : ∃ l, (s.readyForFrame n).cam n = { s.cam n with frames := l, writes := [] } := by
  have buffer (u : State) : (if u.pathOf n = 1 then u else u.freeVisionBuffer n).cam n = u.cam n := by
    split
    · rfl
    · exact cam_freeVisionBuffer ..
  simp only [State.readyForFrame, buffer]
  split
  · rw [cam_loseFrame, cam_atFrameStart]
    exact ⟨_, rfl⟩
  · rw [cam_atFrameStart]
    exact ⟨_, rfl⟩

/-- Corrections, lost frames and freed buffers leave the clock as it is. -/
theorem clock_readyForFrame (s : State) (n : Nat) : (s.readyForFrame n).clock = s.clock := by
  refine clock_of_outside (F := [.regs, .blobs, .jr, .cams, .vision, .fuse, .aligns]) ?_ (by decide)
  have lost (u : State) (f : VFrame) : (u.loseFrame n f 3).outside [.regs, .blobs, .jr, .cams, .vision, .fuse, .aligns] =
      u.outside [.regs, .blobs, .jr, .cams, .vision, .fuse, .aligns] := by
    simp [State.loseFrame, State.missFrame]
  have start : (s.atFrameStart n).outside [.regs, .blobs, .jr, .cams, .vision, .fuse, .aligns] =
      s.outside [.regs, .blobs, .jr, .cams, .vision, .fuse, .aligns] := by
    simp [State.atFrameStart, State.applyCorrections]
  simp only [State.readyForFrame, outside_ite]
  split <;> simp [lost, start]

theorem sensorAt_congr {t : State} (h : ∀ k, k % 256 ≠ 6 → t.reg k = s.reg k) (port vc : Nat) : t.sensorAt port vc = s.sensorAt port vc := by
  have same (m : Nat) : t.reg (K.sensorEnable m) = s.reg (K.sensorEnable m) ∧ t.reg (K.inputPort m) = s.reg (K.inputPort m) ∧
      t.reg (K.virtualChannel m) = s.reg (K.virtualChannel m) :=
    ⟨h _ (by simp), h _ (by simp), h _ (by simp)⟩
  simp only [State.sensorAt, State.sensorOn, State.regN, same]

theorem sensorOn_of_sensorAt {port vc : Nat} (h : s.sensorAt port vc = some n) : s.sensorOn n = true := by
  have found := List.find?_some h
  simp only [Bool.and_eq_true] at found
  exact found.1.1

/-- What a frame start does to a sensor without a frame in readout. -/
theorem exec_frameStart_of_free {port : Fin 5} {vc : Fin 16} {number : BitVec 16} (live : s.portLive port = true)
    (mapped : s.sensorAt port vc = some n) (free : (s.cam n).reading = none) :
    exec (.frameStart port vc number) s = .next ((s.retransmit port).frameStart n (if port.val = 4 then 0 else number.toNat)) := by
  have other (k : Nat) (hk : k % 256 ≠ 6) : (s.retransmit port).reg k = s.reg k := reg_retransmit _ (by rintro rfl; simp at hk)
  have mapped' : (s.retransmit port).sensorAt port vc = some n := (sensorAt_congr other _ _).trans mapped
  have free' : ((s.retransmit port).cam n).reading = none := by
    rwa [cam_of_outside (F := [.regs]) (outside_retransmit s (by decide) port) (by decide)]
  change execFrameStart port vc number s = _
  simp only [execFrameStart, live, mapped', free', sensorOn_of_sensorAt mapped', Bool.not_true, Bool.false_eq_true, if_false, if_true]

theorem runs_frameStart (s : State) (port : Fin 5) (vc : Fin 16) (number : BitVec 16) (n : Nat) (live : s.portLive port = true)
    (mapped : s.sensorAt port vc = some n) (free : (s.cam n).reading = none) :
    Runs (.frameStart port vc number) s fun t =>
      (t.cam n).nextSeq = (s.cam n).nextSeq + 1 ∧ (t.cam n).period = (s.cam n).nextSeq ∧ (t.cam n).startTick = some s.tick ∧
      (t.cam n).writes = [] ∧
      ∃ f ∈ (t.cam n).frames, f.seq = (s.cam n).nextSeq ∧ f.stage = .reading ∧ f.rows = [] ∧ f.arrival = s.now := by
  refine ⟨_, exec_frameStart_of_free live mapped free, ?_⟩
  have heard := outside_retransmit (F := [.regs]) s (by decide) port
  have cam := cam_of_outside heard (by decide) n
  have clock := (clock_readyForFrame (s.retransmit port) n).trans (clock_of_outside heard (by decide))
  obtain ⟨l, ready⟩ := cam_readyForFrame (s.retransmit port) n
  rw [cam] at ready
  rw [frameStart_eq, State.openFrame]
  generalize (s.retransmit port).readyForFrame n = u at *
  simp only [cam_setCam, ready, State.tick, State.now, clock]
  exact ⟨trivial, trivial, trivial, trivial, _, List.mem_append_right _ (List.mem_singleton_self _), rfl, rfl, rfl, rfl⟩

/-! ### Lines (R200, R201, R206, R210) -/

/-- A line of the sensor's type in a frame that is not yet full is the frame's next row. -/
theorem exec_imageLine_of_row {port : Fin 5} {vc : Fin 16} {ty : BitVec 8} {taken : Nat} {px : List (BitVec 16)} {f : VFrame}
    (crcBad : Bool) (live : s.portLive port = true) (mapped : s.sensorAt port vc = some n) (reading : (s.cam n).reading = some f)
    (aphy : port.val ≠ 4) (type : s.regN (K.dataType n) = ty.toNat) (depth : isUserType ty.toNat = true → isDepth n = true)
    (space : f.rows.length < s.regN (K.height n)) {r : VFrame × Option Nat}
    (line : s.takeLine n { f with received := f.received + 1 } crcBad taken (s.linePixels n (px.map BitVec.toNat)) = r) :
    exec (.imageLine port vc ty false crcBad taken px) s = .next (r.2.elim (s.putFrame n r.1) (s.putFrame n r.1).bump) := by
  have own : (isUserType ty.toNat && !isDepth n) = false := by
    cases h : isUserType ty.toNat
    · rfl
    · simp [depth h]
  change execImageLine port vc ty false crcBad taken px s = _
  simp only [execImageLine, live, mapped, reading, aphy, type, own, Nat.not_le.2 space, line]
  obtain ⟨g, _ | k⟩ := r <;> simp

theorem runs_imageLine (s : State) (port : Fin 5) (vc : Fin 16) (ty : BitVec 8) (taken n : Nat) (px : List (BitVec 16)) (f : VFrame)
    (live : s.portLive port = true) (mapped : s.sensorAt port vc = some n) (reading : (s.cam n).reading = some f) (aphy : port.val ≠ 4)
    (type : s.regN (K.dataType n) = ty.toNat) (depth : isUserType ty.toNat = true → isDepth n = true)
    (space : f.rows.length < s.regN (K.height n)) (whole : (s.linePixels n (px.map BitVec.toNat)).length = s.regN (K.width n))
    (path : f.path ≠ 0 ∨ s.regN (K.width n) ≤ taken) :
    Runs (.imageLine port vc ty false false taken px) s fun t =>
      (t.cam n).frames = (s.cam n).frames.map (fun g => if g.seq = f.seq then
        { f with rows := f.rows ++ [s.linePixels n (px.map BitVec.toNat)], received := f.received + 1 } else g) := by
  have kept : (decide (f.path = 0) && decide (taken < s.regN (K.width n))) = false := by
    obtain h | h := path <;> simp [h]
  have line : s.takeLine n { f with received := f.received + 1 } false taken (s.linePixels n (px.map BitVec.toNat)) =
      ({ f with rows := f.rows ++ [s.linePixels n (px.map BitVec.toNat)], received := f.received + 1 }, none) := by
    simp [State.takeLine, whole, kept]
  refine ⟨_, exec_imageLine_of_row false live mapped reading aphy type depth space line, ?_⟩
  exact congrArg Cam.frames (cam_putFrame ..)

theorem runs_imageLine_crc (s : State) (port : Fin 5) (vc : Fin 16) (ty : BitVec 8) (taken n : Nat) (px : List (BitVec 16)) (f : VFrame)
    (live : s.portLive port = true) (mapped : s.sensorAt port vc = some n) (reading : (s.cam n).reading = some f) (aphy : port.val ≠ 4)
    (type : s.regN (K.dataType n) = ty.toNat) (depth : isUserType ty.toNat = true → isDepth n = true)
    (space : f.rows.length < s.regN (K.height n)) :
    Runs (.imageLine port vc ty false true taken px) s fun t =>
      t.reg (K.crcErrors n) = (s.bump (K.crcErrors n)).reg (K.crcErrors n) ∧
      (t.cam n).frames = (s.cam n).frames.map (fun g => if g.seq = f.seq then
        { f with rows := f.rows ++ [(List.range (s.regN (K.width n))).map (fun x =>
                   pedestal (isDepth n) (s.regN (K.mosaic n)) f.corr x f.rows.length)],
                 received := f.received + 1, flags := setBit f.flags dfCrc, blanked := f.blanked + 1 } else g) := by
  refine ⟨_, exec_imageLine_of_row true live mapped reading aphy type depth space rfl, ?_⟩
  exact ⟨reg_bump_congr rfl, congrArg Cam.frames (cam_putFrame ..)⟩

theorem runs_embeddedDataLine (s : State) (port : Fin 5) (vc : Fin 16) (ty : BitVec 8) (payload : Bytes) (n : Nat) (f : VFrame)
    (live : s.portLive port = true) (mapped : s.sensorAt port vc = some n) (reading : (s.cam n).reading = some f) (aphy : port.val ≠ 4)
    (type : s.regN (K.embeddedDataType n) = ty.toNat) (first : f.embedded = 0) :
    Runs (.embeddedDataLine port vc ty payload) s fun t =>
      (t.cam n).frames = (s.cam n).frames.map (fun g => if g.seq = f.seq then
        { f with ts := s.lineTimestamp n payload, embedded := 1 } else g) := by
  have ran : exec (.embeddedDataLine port vc ty payload) s = .next (s.embeddedLine n f payload) := by
    change execEmbeddedDataLine port vc ty payload s = _
    simp [execEmbeddedDataLine, live, mapped, reading, aphy, type]
  have line : s.embeddedLine n f payload = s.putFrame n { f with ts := s.lineTimestamp n payload, embedded := 1 } := by
    simp [State.embeddedLine, first]
  exact ⟨_, ran, by rw [line]; exact congrArg Cam.frames (cam_putFrame ..)⟩

/-! ### A frame end (R205, R207) -/

/-- The frame that ended is padded, stamped and on its way. -/
theorem mem_frames_closeFrame {f : VFrame} (reading : (s.cam n).reading = some f) (fe : Bool) :
    ∃ g ∈ ((s.closeFrame n f fe).cam n).frames, g.seq = f.seq ∧ g.endTime = s.now ∧ g.stage = (if f.path = 1 then .queued else .ready) ∧
      g.rows.length = max f.rows.length (s.regN (K.height n)) := by
  have counted (c : Prop) [Decidable c] (u : State) (k : Nat) : (if c then u.bump k else u).cam n = u.cam n := by split <;> rfl
  simp only [State.closeFrame, counted, cam_putFrame]
  exact ⟨_, mem_frames_setFrame (mem_frames_of_reading reading) rfl, rfl, rfl, rfl, length_padRows ..⟩

theorem afterReadout_of_enabled (h : s.isDisabling (aimCam n) = false) : s.afterReadout n = s := by
  simp [State.afterReadout, h]

theorem runs_frameEnd (s : State) (port : Fin 5) (vc : Fin 16) (number : BitVec 16) (n : Nat) (f : VFrame) (live : s.portLive port = true)
    (mapped : s.sensorAt port vc = some n) (reading : (s.cam n).reading = some f) (own : port.val = 4 ∨ f.csi = number.toNat)
    (enabled : s.isDisabling (aimCam n) = false) :
    Runs (.frameEnd port vc number) s fun t =>
      ∃ g ∈ (t.cam n).frames, g.seq = f.seq ∧ g.endTime = s.now ∧ g.stage = (if f.path = 1 then .queued else .ready) ∧
        g.rows.length = max f.rows.length (s.regN (K.height n)) := by
  have stays : (s.closeFrame n f false).isDisabling (aimCam n) = false :=
    (isDisabling_of_outside (F := [.regs, .cams]) (by simp [State.closeFrame]) (by decide) _).trans enabled
  have ran : exec (.frameEnd port vc number) s = .next (s.closeFrame n f false) := by
    change execFrameEnd port vc number s = _
    simp only [execFrameEnd, live, mapped, reading, Bool.not_true, Bool.false_eq_true, if_false]
    rw [if_pos (by simpa using own), afterReadout_of_enabled stays]
  exact ⟨_, ran, mem_frames_closeFrame reading false⟩

/-! ### The FRAME descriptor (R209) -/

theorem frames_newOutput (s : State) (n : Nat) (out : Planes) : ((s.newOutput n out).cam n).frames = (s.cam n).frames := by
  simp [State.newOutput]

theorem reg_newOutput (s : State) (n : Nat) (out : Planes) (k : Nat) : (s.newOutput n out).reg k = s.reg k := rfl

theorem frames_displayOutput (s : State) (n : Nat) (p : Picture) (seq : Nat) :
    ((s.displayOutput n p seq).cam n).frames = (s.cam n).frames := by
  unfold State.displayOutput
  extract_lets buf readers x
  split
  · rfl
  · split
    · rw [cam_setCam]
    · rw [bumps_fields]
      rfl

/-- The display output changes the skips of the video windows only. -/
theorem reg_displayOutput {k : Nat} (hk : k % 256 ≠ 6) (s : State) (n : Nat) (p : Picture) (seq : Nat) :
    (s.displayOutput n p seq).reg k = s.reg k := by
  have skip (w : Nat) : k ≠ K.videoSkips w := by rintro rfl; simp at hk
  unfold State.displayOutput
  extract_lets buf readers x
  split
  · rfl
  · split
    · rfl
    · exact List.foldlRecOn (motive := fun t : State => t.reg k = s.reg k) _ _ rfl fun t h w _ => by rw [reg_bump, if_neg (skip w), h]

theorem cam_feedStreams (s : State) (n : Nat) (p : Picture) (centre m : Nat) : (s.feedStreams n p centre).cam m = s.cam m :=
  cam_of_outside (F := [.streams]) (outside_feedStreams s (by decide) ..) (by decide) m

theorem cam_align (s : State) (n ts arr m : Nat) : (s.align n ts arr).2.cam m = s.cam m :=
  cam_of_outside (F := [.regs, .book, .aligns]) (outside_align (by decide) (by decide) (by decide) ..) (by decide) m

/-- The frames after a descriptor, whatever the frame's outputs and its alignment are. -/
theorem frames_issueFrame (s : State) (n : Nat) (f : VFrame) :
    ((s.issueFrame n f).cam n).frames = (s.cam n).frames.filter fun g => g.seq != f.seq := by
  have missing (u : State) : (u.frameMissing n).cam n = u.cam n := cam_frameMissing ..
  have fused (u : State) (q : Nat) (t : Int) (w : Bool) : (u.fuseFrame n q t w).cam n = u.cam n :=
    cam_of_outside (F := [.regs, .fuse]) (outside_fuseFrame (by decide) (by decide) ..) (by decide) n
  have referred (u : State) (t : Int) (fl : Nat) : (u.referenceAt n t fl).cam n = u.cam n :=
    cam_of_outside (F := [.regs, .fuse]) (outside_referenceAt (by decide) (by decide) ..) (by decide) n
  simp only [State.issueFrame, cam_ite, missing, fused, referred, ite_self, cam_feedStreams, cam_bump, apply_ite Cam.frames,
    frames_displayOutput, frames_newOutput, cam_setCam, cam_setBlob, cam_showDescriptor, apply_ite Prod.snd, cam_align]
  rfl

/-- A descriptor counts itself and shows its tag; beside the alignment, the steps of fusion and the skips of windows, nothing changes. -/
theorem reg_issueFrame {k : Nat} (hf : k ≠ K.fusionState) (ha : k / 256 ≠ 0x3020 + n) (hd : k % 256 ≠ 6) (s : State) (f : VFrame) :
    (s.issueFrame n f).reg k = if k = K.camFramesOut n then (s.bump (K.camFramesOut n)).reg (K.camFramesOut n)
      else if k = K.tagInForce n then (tagOf (s.cam n).tags f.seq : Int) else s.reg k := by
  have ownAlign : K.camFramesOut n / 256 ≠ 0x3020 + n := by simp; omega
  have ownDisplay : K.camFramesOut n % 256 ≠ 6 := by simp
  have noTag : K.camFramesOut n ≠ K.tagInForce n := by simp; omega
  simp only [State.issueFrame, reg_ite, reg_frameMissing _ hf, reg_fuseFrame _ hf, reg_referenceAt _ hf, ite_self, reg_feedStreams, reg_bump,
    reg_displayOutput hd, reg_displayOutput ownDisplay, reg_newOutput, reg_setCam, reg_setBlob, reg_showDescriptor, apply_ite Prod.snd,
    reg_align _ ha, reg_align _ ownAlign, cam_ite, cam_align, noTag, if_true, if_false]

theorem runs_frameDescriptorIssue (s : State) (n : Fin 10) (f : VFrame) (noPass : s.vision.passFrom = none)
    (ready : (s.cam n).frames.find? (fun f => f.stage == .ready) = some f) :
    Runs (.frameDescriptorIssue n) s fun t =>
      (t.cam n).frames = (s.cam n).frames.filter (fun g => g.seq != f.seq) ∧
      t.reg (K.camFramesOut n) = (s.bump (K.camFramesOut n)).reg (K.camFramesOut n) ∧
      t.reg (K.tagInForce n) = (tagOf (s.cam n).tags f.seq : Nat) := by
  have ran : exec (.frameDescriptorIssue n) s = .next (s.issueFrame n f) := by
    change execFrameDescriptorIssue n s = _
    simp only [execFrameDescriptorIssue, passDone_of_free noPass, ready]
  refine ⟨_, ran, frames_issueFrame .., ?_, ?_⟩
  · rw [reg_issueFrame (by simp; omega) (by simp; omega) (by simp), if_pos rfl]
  · rw [reg_issueFrame (by simp; omega) (by simp; omega) (by simp), if_neg (by simp; omega), if_pos rfl]

/-! ### The memory pass (R212) -/

/-- A frame of the sensor enters the pass. -/
def State.beginPass (s : State) (n : Nat) : State := { s with vision := { s.vision with passFrom := some (n, s.tick) } }

theorem runs_memoryPassFrame (s : State) (n : Nat) (f : VFrame) (noPass : s.vision.passFrom = none) (next : s.nextForPass = some (n, f)) :
    Runs .memoryPassFrame s fun t =>
      t.vision.passFrom = some (n, s.tick) ∧
      (t.cam n).frames = (s.cam n).frames.map (fun g => if g.seq = f.seq then { f with stage := .passing } else g) := by
  have ran : exec .memoryPassFrame s = .next (((s.putFrame n { f with stage := .passing }).freeVisionBuffer n).beginPass n) := by
    change execMemoryPassFrame s = _
    simp only [execMemoryPassFrame, passDone_of_free noPass, noPass, next]
    rfl
  have tick : ((s.putFrame n { f with stage := .passing }).freeVisionBuffer n).tick = s.tick :=
    tick_of_outside (F := [.regs, .fuse, .cams]) (by simp) (by decide)
  refine ⟨_, ran, congrArg (fun k => some (n, k)) tick, ?_⟩
  rw [State.beginPass, cam_with_vision, cam_freeVisionBuffer, cam_putFrame]
  rfl

/-! ### Missing frames (R208) -/

/-- A sensor after a period without a frame start: its Sequence is used up. -/
def State.skipSequence (s : State) (n e : Nat) : State :=
  let x := (s.cam n).shiftCommits e
  s.setCam n { x with nextSeq := x.nextSeq + 1, period := x.nextSeq, expect := some (e + s.regN (K.framePeriod n)) }

theorem exec_noStart_of_late {n : Fin 10} {e : Nat} (expected : (s.cam n).expect = some e) (on : s.sensorOn n = true)
    (late : e + s.regN (K.sofTimeout n) ≤ s.now) :
    ∃ tag b, exec (.noStart n) s = .next ((((s.skipSequence n e).showDescriptor n tag b).bump (K.missingFrames n)).frameMissing n) := by
  have waited : (!s.sensorOn n || decide (s.now < e + s.regN (K.sofTimeout n))) = false := by simp [on, late]
  change ∃ tag b, execNoStart n s = _
  simp only [execNoStart, expected, waited]
  exact ⟨_, _, rfl⟩

theorem runs_noStart (s : State) (n : Fin 10) (e : Nat) (expected : (s.cam n).expect = some e) (on : s.sensorOn n = true)
    (late : e + s.regN (K.sofTimeout n) ≤ s.now) :
    Runs (.noStart n) s fun t =>
      (t.cam n).nextSeq = (s.cam n).nextSeq + 1 ∧ (t.cam n).period = (s.cam n).nextSeq ∧
      (t.cam n).expect = some (e + s.regN (K.framePeriod n)) ∧
      t.reg (K.missingFrames n) = (s.bump (K.missingFrames n)).reg (K.missingFrames n) := by
  obtain ⟨tag, b, ran⟩ := exec_noStart_of_late expected on late
  refine ⟨_, ran, ?_⟩
  beta_reduce
  rw [cam_frameMissing, cam_bump, cam_showDescriptor, State.skipSequence, cam_setCam, reg_frameMissing _ (by simp; omega)]
  refine ⟨rfl, rfl, rfl, reg_bump_congr ?_⟩
  rw [reg_showDescriptor, if_neg (by simp; omega), reg_setCam]

theorem runs_outputDeadline (s : State) (n : Fin 10) (f : VFrame)
    (late : (s.cam n).frames.find? (fun f => decide (f.arrival + s.regN (K.outputDeadline n) ≤ s.now)) = some f) :
    Runs (.outputDeadline n) s fun t =>
      (∀ g ∈ (t.cam n).frames, g.seq ≠ f.seq) ∧
      t.reg (K.missingFrames n) = (s.bump (K.missingFrames n)).reg (K.missingFrames n) := by
  have lost (cause : Nat) : (∀ g ∈ ((s.loseFrame n f cause).cam n).frames, g.seq ≠ f.seq) ∧
      (s.loseFrame n f cause).reg (K.missingFrames n) = (s.bump (K.missingFrames n)).reg (K.missingFrames n) :=
    ⟨by rw [cam_loseFrame]; exact notMem_frames_dropFrame, missingFrames_loseFrame ..⟩
  have ran : exec (.outputDeadline n) s = .next (if f.stage == .reading then (s.loseFrame n f 2).afterReadout n else s.loseFrame n f 3) := by
    change execOutputDeadline n s = _
    simp only [execOutputDeadline, late]
    split <;> rfl
  refine ⟨_, ran, ?_⟩
  beta_reduce
  split
  · unfold State.afterReadout
    split
    · rw [cam_sensorOff, reg_sensorOff (by simp; omega), if_neg (by simp; omega), if_neg (by simp), if_neg (by simp; omega)]
      exact ⟨fun _ h => absurd h List.not_mem_nil, (lost 2).2⟩
    · exact lost 2
  · exact lost 3

/-- Settles O26: the path of a frame from its start to its descriptor, and the two ways in which it is MISSING. -/
theorem framesAreReadOutAndIssued : Obligations.FramesAreReadOutAndIssued := by
  unfold Obligations.FramesAreReadOutAndIssued
  exact ⟨runs_frameStart, runs_imageLine, runs_imageLine_crc, runs_embeddedDataLine, runs_frameEnd, runs_frameDescriptorIssue,
    runs_memoryPassFrame, runs_noStart, runs_outputDeadline⟩

end Sys2Proof.Machine
end

section
/-!
Camera ports, frame-sync pulses and the in-line path (O27).
-/
namespace Sys2Proof.Machine
open Sys2Proof

variable {s : State}

/-! ### Ports (R199, R202) -/

theorem runs_aphyLinkDrop (s : State) (p : Fin 4) (up : s.reg (K.camLinkState p) = lkUp) :
    Runs (.aphyLinkDrop p) s fun t =>
      t.reg (K.camLinkState p) = lkDown ∧ t.reg (K.gear p) = 0 ∧ t.reg (K.linkDrops p) = (s.bump (K.linkDrops p)).reg (K.linkDrops p) := by
  refine ⟨_, congrArg Host.Outcome.next (if_pos up), ?_, ?_, ?_⟩ <;> rw [reg_eventKey]
  · rw [reg_bump, if_neg (by simp), reg_setReg_ne (by simp), reg_setReg_self]
  · rw [reg_bump, if_neg (by simp), reg_setReg_self]
  · refine reg_bump_congr ?_
    rw [reg_setReg_ne (by simp), reg_setReg_ne (by simp)]

theorem runs_aphyLinkUp (s : State) (p g : Fin 4) (enabled : s.reg (K.camPortEnable p) = 1) (powered : s.aphyPowered p = true)
    (untripped : s.reg (K.camLinkState p) ≠ lkPocTripped) (gears : g.val ≠ 0) :
    Runs (.aphyLinkUp p g) s fun t =>
      t.reg (K.camLinkState p) = lkUp ∧ t.reg (K.gear p) = min (s.reg (K.maxGear p)) (g.val : Nat) := by
  refine ⟨_, congrArg Host.Outcome.next (if_pos ?_), ?_, reg_setReg_self ..⟩
  · simp only [enabled, powered, untripped, gears, ne_eq, not_false_eq_true, decide_true, Bool.and_self]
  · rw [reg_setReg_ne (by simp), reg_setReg_self]

theorem runs_pocTrip (s : State) (p : Fin 4) (mA : Nat) (enabled : s.reg (K.pocEnable p) = 1) (powered : s.aphyPowered p = true)
    (high : 750 ≤ mA) (untripped : s.reg (K.camLinkState p) ≠ lkPocTripped) :
    Runs (.pocTrip p mA) s fun t =>
      t.reg (K.camLinkState p) = lkPocTripped ∧ t.reg (K.gear p) = 0 ∧ t.reg (K.pocCurrent p) = (min mA 1000 : Nat) := by
  have trips : (decide ((s.setReg (K.pocCurrent p) (min mA 1000 : Nat)).reg (K.pocEnable p) = 1) && decide (750 ≤ mA) &&
      decide ((s.setReg (K.pocCurrent p) (min mA 1000 : Nat)).reg (K.camLinkState p) ≠ lkPocTripped)) = true := by
    rw [reg_setReg_ne (by simp), reg_setReg_ne (by simp)]
    simp only [enabled, high, untripped, ne_eq, not_false_eq_true, decide_true, Bool.and_self]
  have ran : exec (.pocTrip p mA) s = .next ((((s.setReg (K.pocCurrent p) (min mA 1000 : Nat)).setReg (K.camLinkState p) lkPocTripped).setReg
      (K.gear p) 0).eventKey .vision p (K.camLinkState p)) := by
    change execPocTrip p mA s = _
    simp only [execPocTrip, powered, if_true]
    rw [if_pos trips]
  refine ⟨_, ran, ?_, ?_, ?_⟩ <;> rw [reg_eventKey]
  · rw [reg_setReg_ne (by simp), reg_setReg_self]
  · rw [reg_setReg_self]
  · rw [reg_setReg_ne (by simp), reg_setReg_ne (by simp), reg_setReg_self]

/-! ### The pixel clock (R232) -/

theorem runs_pclkAbsent_present (s : State) (hz held : Nat) (h : hz ≠ 0) :
    Runs (.pclkAbsent hz held) s fun t =>
      t.reg K.pclkFrequency = (min hz 150000000 : Nat) ∧ t.vision.pclkAbsent = false ∧ t.book = s.book :=
  ⟨_, if_pos h, reg_setReg_self .., rfl, rfl⟩

theorem runs_pclkAbsent_absent (s : State) (held : Nat) (mode : s.reg K.port3Mode = 1) (long : ticksMs 10 ≤ held) :
    Runs (.pclkAbsent 0 held) s fun t => t.reg K.pclkFrequency = 0 ∧ t.vision.pclkAbsent = true := by
  have mode' : (s.setReg K.pclkFrequency 0).reg K.port3Mode = 1 := (reg_setReg_ne (by decide) ..).trans mode
  have ran : exec (.pclkAbsent 0 held) s = execPclkAbsent 0 held s := rfl
  unfold Runs
  rw [ran]
  simp only [execPclkAbsent, ne_eq, not_true_eq_false, if_false, Nat.zero_min, Nat.cast_zero, mode', long, decide_true, Bool.and_self,
    Bool.true_and]
  split
  · refine ⟨_, rfl, ?_, ?_⟩
    · rw [reg_eventKey]
      exact reg_setReg_self ..
    · rw [eventKey_fields]
  next known => exact ⟨_, rfl, reg_setReg_self .., by simpa using known⟩

/-! ### Frame-sync pulses (R203, R204) -/

/-- A pulse stands on its output from this tick on for its width, and in the tunnel of its route. -/
theorem fsyncPulse_starts (s : State) (o us : Nat) :
    ((s.fsyncPulse o us).fsyncOut o).lastTick = some s.tick ∧ ((s.fsyncPulse o us).fsyncOut o).until_ = s.tick + ticksUs us ∧
      (s.regN (K.fsyncRoute o) = 0 → ((s.fsyncPulse o us).fsyncOut o).tunnel = none) ∧
      (s.regN (K.fsyncRoute o) ≠ 0 → ∃ a, ((s.fsyncPulse o us).fsyncOut o).tunnel = some (s.regN (K.fsyncRoute o) - 1, s.tick + a)) := by
  have route : (s.bump (K.fsyncRetriggers o)).regN (K.fsyncRoute o) = s.regN (K.fsyncRoute o) :=
    congrArg Int.toNat ((reg_bump ..).trans (if_neg (by simp)))
  have out (t : State) (x : Fsync) (k : Nat) (v : Int) : ((t.setFsync o x).setReg k v).fsyncOut o = x := fsyncOut_setFsync ..
  simp only [State.fsyncPulse, out]
  split
  · rw [route, tick_bump]
    exact ⟨rfl, rfl, fun h => if_pos h, fun h => ⟨_, if_neg h⟩⟩
  · exact ⟨rfl, rfl, fun h => if_pos h, fun h => ⟨_, if_neg h⟩⟩

theorem reg_fsyncPulse {k o : Nat} (hk : k ≠ K.fsyncRetriggers o) (s : State) (us : Nat) :
    (s.fsyncPulse o us).reg k = if k = K.lastPulseTime o then (s.now : Int) else s.reg k := by
  simp only [State.fsyncPulse, reg_setReg, reg_setFsync, reg_ite, reg_bump, hk, if_false, ite_self, apply_ite State.now, now_bump]

theorem tick_fsyncPulse (s : State) (o us : Nat) : (s.fsyncPulse o us).tick = s.tick := by
  simp only [State.fsyncPulse]
  split <;> rfl

theorem runs_fsyncPeriodicPulse (s : State) (o : Fin 8) (source : s.reg (K.fsyncSource o) = 1)
    (due : ((s.now : Int) - s.reg (K.fsyncPhase o)) % s.reg (K.fsyncPeriod o) = 0) (first : (s.fsyncOut o).lastTick = none) :
    Runs (.fsyncPeriodicPulse o) s fun t =>
      (t.fsyncOut o).lastTick = some s.tick ∧ (t.fsyncOut o).until_ = s.tick + ticksUs (s.regN (K.fsyncWidth o)) ∧
      t.fsyncLevel o = decide (0 < ticksUs (s.regN (K.fsyncWidth o))) ∧
      (s.regN (K.fsyncRoute o) = 0 → (t.fsyncOut o).tunnel = none) ∧
      (s.regN (K.fsyncRoute o) ≠ 0 → ∃ a, (t.fsyncOut o).tunnel = some (s.regN (K.fsyncRoute o) - 1, s.tick + a)) ∧
      t.reg (K.lastPulseTime o) = (s.now : Nat) := by
  have ran : exec (.fsyncPeriodicPulse o) s = .next (s.fsyncPulse o (s.regN (K.fsyncWidth o))) := by
    change execFsyncPeriodicPulse o s = _
    simp only [execFsyncPeriodicPulse, source, due, first]
    rfl
  obtain ⟨lastTick, ends, unrouted, routed⟩ := fsyncPulse_starts s o (s.regN (K.fsyncWidth o))
  refine ⟨_, ran, lastTick, ends, ?_, unrouted, routed, (reg_fsyncPulse (by simp) ..).trans (if_pos rfl)⟩
  rw [State.fsyncLevel, reg_fsyncPulse (by simp), if_neg (by simp), source, ends, tick_fsyncPulse]
  simp

/-! ### The in-line path (R213) -/

theorem putEntry_inlineBypass (s : State) (d : Bytes) : s.putEntry 0x3400 2 d = s.setReg K.inlineBypass (wval d) :=
  putEntry_bool (by decide) (by decide) (by decide) s d

theorem writes_inlineBypass (s : State) (slot : Fin 16) (v : BitVec 8) :
    Writes (.inlineBypass slot v) s slot 0x3400 2 (leBytes 1 v.toNat) inlineBypassRule fun t =>
      t.reg K.inlineBypass = (v.toNat : Int) := by
  refine writes_of_effect rfl ?_ fun _ _ h => h
  have settled (u : State) (seq : Nat) : (u.settle 0x3400 2 seq (leBytes 1 v.toNat)).reg K.inlineBypass = (v.toNat : Int) := by
    rw [State.settle, reg_finish, putEntry_inlineBypass, reg_setReg_self, wval_leBytes_one]
  simp only [inlineBypassRule, settingRule]
  split
  · exact settled ..
  · exact (reg_setReg_ne (by decide) ..).trans (settled ..)

theorem runs_inlinePathFault (s : State) (works : s.reg K.inlineState ≠ 2) :
    Runs .inlinePathFault s fun t => t.reg K.inlineState = 2 :=
  ⟨_, congrArg Host.Outcome.next (if_neg works), (reg_eventKey ..).trans (reg_setReg_self ..)⟩

/-- Settles O27: the events of the ports and of the pixel clock, a pulse of a frame-sync output, and the in-line path. -/
theorem cameraPortsAndPulses : Obligations.CameraPortsAndPulses := by
  unfold Obligations.CameraPortsAndPulses
  exact ⟨runs_aphyLinkDrop, runs_aphyLinkUp, runs_pocTrip, runs_pclkAbsent_present, runs_pclkAbsent_absent, runs_fsyncPeriodicPulse,
    writes_inlineBypass, runs_inlinePathFault⟩

end Sys2Proof.Machine
end

section
/-!
Settings of sensors and of streams (O28).
-/
namespace Sys2Proof.Machine
open Sys2Proof

variable {s : State}

/-! ### What the journal's operations and an acceptance leave -/

@[simp] theorem cam_finish (s : State) (q : Nat) (o : Outcome) (d n : Nat) : (s.finish q o d).cam n = s.cam n :=
  cam_of_outside (F := [.jr]) (outside_finish (by decide) ..) (by decide) n

@[simp] theorem cam_eventKey (s : State) (so : Src) (u e d n : Nat) : (s.eventKey so u e d).cam n = s.cam n := by
  rw [eventKey_fields]
  rfl

@[simp] theorem cam_settle (s : State) (idx sub q : Nat) (d : Bytes) (n : Nat) : (s.settle idx sub q d).cam n = s.cam n :=
  cam_of_outside (F := [.regs, .blobs, .jr]) (outside_settle (by decide) (by decide) (by decide) ..) (by decide) n

@[simp] theorem cam_taken (s : State) (slot idx sub : Nat) (d : Bytes) (r : WriteRule) (n : Nat) :
    (s.taken slot idx sub d r).cam n = s.cam n := congrArg (fun c => c.get Cam.init n) (cams_afterAccept ..)

theorem sensorOn_taken (s : State) (slot idx sub : Nat) (d : Bytes) (r : WriteRule) (n : Nat) :
    (s.taken slot idx sub d r).sensorOn n = s.sensorOn n :=
  congrArg (· == 1) (reg_taken _ _ _ _ _ _ (by simp; omega))

/-! ### SensorEnable (R92, R198) -/

theorem putEntry_sensorEnable (s : State) (n : Fin 10) (d : Bytes) :
    s.putEntry (0x3002 + n) 1 d = s.setReg (K.sensorEnable n) (wval d) := by
  refine putEntry_bool (by omega) (by omega) ?_ s d
  revert n
  decide

/-- A starting sensor is LOCKING. -/
theorem reg_alignStart {k n : Nat} (hk : k / 256 ≠ 0x3020 + n) (s : State) : (s.alignStart n).reg k = s.reg k := by
  simp (disch := omega) [State.alignStart, reg_setReg_ne]

theorem alignState_alignStart (s : State) (n : Nat) : (s.alignStart n).reg (K.alignState n) = alLocking := by
  simp [State.alignStart, reg_setReg]

theorem cam_alignStart (s : State) (n m : Nat) : (s.alignStart n).cam m = s.cam m := rfl
theorem cam_showRegion (s : State) (m : Nat) : s.showRegion.cam m = s.cam m := rfl

theorem effect_sensorEnable_on {n : Fin 10} (h : s.reg (K.sensorEnable n) = 0) (slot seq : Nat) :
    (sensorEnableRule n).effect s slot seq (leBytes 1 (1 : BitVec 8).toNat) =
      (((s.settle (0x3002 + n) 1 seq (leBytes 1 (1 : BitVec 8).toNat)).setCam n
        { Cam.init with nextSeq := (s.cam n).nextSeq }).alignStart n).showRegion := by
  have off : s.sensorOn n = false := by simp only [State.sensorOn, h]; rfl
  have one : wval (leBytes 1 (1 : BitVec 8).toNat) ≠ 0 := by decide
  simp only [sensorEnableRule, one, off, if_false, Bool.false_eq_true, cam_settle]

theorem writes_sensorEnable_on (s : State) (slot : Fin 16) (n : Fin 10) (h : s.reg (K.sensorEnable n) = 0) :
    Writes (.sensorEnable slot n 1) s slot (0x3002 + n) 1 (leBytes 1 (1 : BitVec 8).toNat) (sensorEnableRule n) fun t =>
      t.reg (K.sensorEnable n) = 1 ∧ t.reg (K.alignState n) = alLocking ∧ t.cam n = { Cam.init with nextSeq := (s.cam n).nextSeq } := by
  refine writes_of_effect rfl ?_ fun _ _ h => h
  rw [effect_sensorEnable_on ((reg_taken _ _ _ _ _ _ (by simp; omega)).trans h), cam_taken]
  refine ⟨?_, ?_, ?_⟩
  · rw [reg_showRegion (by simp; omega), reg_alignStart (by simp; omega), reg_setCam, State.settle, reg_finish, putEntry_sensorEnable,
      reg_setReg_self]
    rfl
  · rw [reg_showRegion (by simp; omega), alignState_alignStart]
  · rw [cam_showRegion, cam_alignStart, cam_setCam]

theorem effect_sensorEnable_off {n : Fin 10} (h : s.reg (K.sensorEnable n) = 1) (outside : (s.cam n).reading = none) (slot seq : Nat) :
    (sensorEnableRule n).effect s slot seq (leBytes 1 (0 : BitVec 8).toNat) =
      ((s.startItem seq).beginDisable (aimCam n) seq (s.tick + ticksMs 100)).sensorOff n := by
  have on : s.sensorOn n = true := by simp only [State.sensorOn, h]; rfl
  have zero : wval (leBytes 1 (0 : BitVec 8).toNat) = 0 := by decide
  simp only [sensorEnableRule, zero, on, if_true, Bool.not_true, Bool.false_eq_true, if_false]
  refine if_neg ?_
  change ¬ (s.cam n).reading.isSome = true
  simp [outside]

theorem writes_sensorEnable_off (s : State) (slot : Fin 16) (n : Fin 10) (h : s.reg (K.sensorEnable n) = 1)
    (outside : (s.cam n).reading = none) :
    Writes (.sensorEnable slot n 0) s slot (0x3002 + n) 1 (leBytes 1 (0 : BitVec 8).toNat) (sensorEnableRule n) fun t =>
      t.reg (K.sensorEnable n) = 0 ∧ t.reg (K.alignState n) = alDisabled ∧ t.cam n = { Cam.init with nextSeq := (s.cam n).nextSeq } := by
  refine writes_of_effect rfl ?_ fun _ _ h => h
  rw [effect_sensorEnable_off ((reg_taken _ _ _ _ _ _ (by simp; omega)).trans h) (by rwa [cam_taken])]
  refine ⟨?_, ?_, ?_⟩
  · rw [reg_sensorOff (by simp; omega), if_neg (by simp; omega), if_neg (by simp), if_pos rfl]
  · rw [reg_sensorOff (by simp; omega), if_neg (by simp; omega), if_pos rfl]
  · rw [cam_sensorOff]
    exact congrArg (fun x : Cam => { Cam.init with nextSeq := x.nextSeq }) (cam_taken s ..)

/-! ### Corrections (R225) -/

theorem writes_correctionWrite_on (s : State) (slot : Fin 16) (n : Fin 10) (obj : Fin 4) (sub : BitVec 8) (v : Bytes)
    (on : s.sensorOn n = true) :
    Writes (.correctionWrite slot n obj sub v) s slot (0x3420 + 16 * obj + n) sub.toNat v (correctionRule n obj sub.toNat) fun t =>
      (t.cam n).writes = (s.cam n).writes ++ [⟨0x3420 + 16 * obj.val + n.val, sub.toNat, v, s.regN K.nextJournalSeq⟩] ∧
      t.blobs = s.blobs := by
  refine writes_of_effect rfl ?_ fun _ _ h => h
  have effect (u : State) (hu : u.sensorOn n = true) (slot q : Nat) : (correctionRule n obj sub.toNat).effect u slot q v =
      u.setCam n { u.cam n with writes := (u.cam n).writes ++ [⟨0x3420 + 16 * obj.val + n.val, sub.toNat, v, q⟩] } := if_pos hu
  rw [effect _ ((sensorOn_taken ..).trans on), cam_setCam, cam_taken]
  exact ⟨rfl, blobs_afterAccept ..⟩

theorem writes_correctionWrite_off (s : State) (slot : Fin 16) (n : Fin 10) (obj : Fin 4) (sub : BitVec 8) (v : Bytes) (x : Desc)
    (off : s.sensorOn n = false) (entry : s.entryDesc (0x3420 + 16 * obj.val + n.val) sub.toNat = some x) :
    Writes (.correctionWrite slot n obj sub v) s slot (0x3420 + 16 * obj + n) sub.toNat v (correctionRule n obj sub.toNat) fun t =>
      (x.ty.isBytes = true → t.blob (key (0x3420 + 16 * obj.val + n.val) sub.toNat) = v) ∧
      (x.ty.isBytes = false → t.reg (key (0x3420 + 16 * obj.val + n.val) sub.toNat) = x.ty.decode v) := by
  refine writes_of_effect rfl ?_ fun _ _ h => h
  have effect (u : State) (hu : u.sensorOn n = false) (slot q : Nat) : (correctionRule n obj sub.toNat).effect u slot q v =
      u.settle (0x3420 + 16 * obj.val + n.val) sub.toNat q v := if_neg (by simp [hu])
  have entry' := (entryDesc_taken s slot (0x3420 + 16 * obj.val + n.val) sub.toNat v (correctionRule n obj sub.toNat) _ _).trans entry
  rw [effect _ ((sensorOn_taken ..).trans off)]
  exact ⟨blob_settle entry', reg_settle entry'⟩

/-! ### Register sets (R226, R227) -/

theorem writes_settingsCommit (s : State) (slot : Fin 16) (n : Fin 10) (v : Bytes) :
    Writes (.settingsCommit slot n v) s slot (0x3470 + n) 0 v (settingsCommitRule n) fun t =>
      (∃ r, (t.cam n).set = some r ∧ r.item = s.regN K.nextJournalSeq ∧ r.tag = fieldU v 0 2 ∧ r.sent = 0 ∧ r.began = none ∧
        r.writes.length = fieldU v 2 1) ∧ t.reg (K.setState n) = 1 := by
  refine writes_of_effect rfl ?_ fun _ _ h => h
  simp only [settingsCommitRule, cam_setReg, cam_setCam, reg_setReg_self, and_true]
  exact ⟨_, rfl, rfl, rfl, rfl, rfl, by simp⟩

theorem runs_settingsSend (s : State) (n : Fin 10) (r : RegSet) (set : (s.cam n).set = some r) (waits : r.began = none)
    (start : (s.cam n).startTick = some s.tick) (free : s.tunnelBusy n r.item = false) :
    Runs (.settingsSend n) s fun t => (t.cam n).set = some { r with began := some (s.cam n).period } ∧ t.reg (K.setState n) = 2 := by
  have ran : exec (.settingsSend n) s = execSettingsSend n s := rfl
  unfold Runs
  rw [ran]
  simp only [execSettingsSend, set, waits, start, free]
  exact ⟨_, rfl, congrArg Cam.set (cam_setCam ..), reg_setReg_self ..⟩

theorem exec_i2cWriteAck {n : Fin 10} {r : RegSet} (set : (s.cam n).set = some r) (began : r.began.isSome = true) (ack : Bool) :
    exec (.i2cWriteAck n ack) s = .next (if ack then
      (if r.writes.length ≤ r.sent + 1 then s.commitSet n r
        else s.setCam n { s.cam n with
          set := some { r with sent := r.sent + 1, repeated := false }, bus := r.writes[r.sent + 1]?.map (s.i2cBytes n) })
      else if r.repeated then s.failSet n r else s.setCam n { s.cam n with set := some { r with repeated := true } }) := by
  have sending : r.began.isNone = false := by simpa using began
  change execI2cWriteAck n ack s = _
  simp only [execI2cWriteAck, set, sending]
  cases ack <;> rfl

theorem runs_i2cWriteAck_next (s : State) (n : Fin 10) (r : RegSet) (set : (s.cam n).set = some r) (began : r.began.isSome = true)
    (more : r.sent + 1 < r.writes.length) :
    Runs (.i2cWriteAck n true) s fun t => (t.cam n).set = some { r with sent := r.sent + 1, repeated := false } := by
  refine ⟨_, exec_i2cWriteAck set began true, ?_⟩
  beta_reduce
  rw [if_pos rfl, if_neg (Nat.not_le.2 more), cam_setCam]

/-- The newest commit covers its own frame, so that pruning keeps it. -/
theorem head?_pruneTags (q : Nat) (t : TagSpan) (l : List TagSpan) : (pruneTags q (t :: l)).head? = some t := by
  unfold pruneTags
  split <;> rfl

theorem runs_i2cWriteAck_last (s : State) (n : Fin 10) (r : RegSet) (set : (s.cam n).set = some r) (began : r.began.isSome = true)
    (last : r.writes.length ≤ r.sent + 1) :
    Runs (.i2cWriteAck n true) s fun t =>
      (t.cam n).set = none ∧ t.reg (K.setState n) = 0 ∧
      (t.cam n).tags.head? = some ⟨(s.cam n).period + s.regN (K.settingsLatency n), r.tag, s.now⟩ := by
  refine ⟨_, exec_i2cWriteAck set began true, ?_⟩
  beta_reduce
  rw [if_pos rfl, if_pos last]
  simp only [State.commitSet, cam_finish, cam_setReg, cam_setCam, reg_finish, reg_setReg_self, head?_pruneTags]
  exact ⟨trivial, trivial, trivial⟩

theorem runs_i2cWriteAck_refused (s : State) (n : Fin 10) (r : RegSet) (set : (s.cam n).set = some r) (began : r.began.isSome = true) :
    Runs (.i2cWriteAck n false) s fun t =>
      (r.repeated = false → (t.cam n).set = some { r with repeated := true }) ∧
      (r.repeated = true → (t.cam n).set = none ∧ t.reg (K.setState n) = 0 ∧ (t.cam n).tags = (s.cam n).tags) := by
  refine ⟨_, exec_i2cWriteAck set began false, fun h => ?_, fun h => ?_⟩ <;> rw [if_neg Bool.false_ne_true]
  · rw [if_neg (by simp [h]), cam_setCam]
  · rw [if_pos h]
    simp only [State.failSet, cam_eventKey, cam_finish, cam_setReg, cam_setCam, reg_eventKey, reg_finish, reg_setReg_self]
    exact ⟨trivial, trivial, trivial⟩

/-! ### Streams (R229, R230) -/

theorem putEntry_streamEnable (s : State) (k : Fin 4) (d : Bytes) :
    s.putEntry (0x34B0 + k) 1 d = s.setReg (K.streamEnable k) (wval d) := by
  refine putEntry_bool (by omega) (by omega) ?_ s d
  revert k
  decide

theorem stream_settle (s : State) (idx sub q : Nat) (d : Bytes) (k : Nat) : (s.settle idx sub q d).stream k = s.stream k :=
  congrArg (fun t => t.get Stream.init k) (streams_of_outside (F := [.regs, .blobs, .jr])
    (outside_settle (by decide) (by decide) (by decide) s idx sub q d) (by decide))

theorem writes_streamEnable (s : State) (slot : Fin 16) (k : Fin 4) (v : BitVec 8) :
    Writes (.streamEnable slot k v) s slot (0x34B0 + k) 1 (leBytes 1 v.toNat) (streamEnableRule k) fun t =>
      t.reg (K.streamEnable k) = (v.toNat : Int) ∧ (s.reg (K.streamEnable k) ≠ (v.toNat : Int) → t.stream k = Stream.init) := by
  refine writes_of_effect rfl ?_ fun _ _ h => h
  have was := reg_taken s slot (0x34B0 + k) 1 (leBytes 1 v.toNat) (streamEnableRule k) (k := K.streamEnable k) (by simp; omega)
  generalize s.taken slot (0x34B0 + k) 1 (leBytes 1 v.toNat) (streamEnableRule k) = u at *
  simp only [streamEnableRule, wval_leBytes_one, was]
  have region (t : State) : t.showRegion.stream k = t.stream k := rfl
  refine ⟨?_, fun changed => ?_⟩
  · rw [reg_showRegion (by simp; omega), State.settle, reg_finish, putEntry_streamEnable, reg_setReg_self, wval_leBytes_one]
  · rw [region, stream_settle, if_neg changed, stream_setStream]

@[simp] theorem stream_bump (s : State) (j k : Nat) : (s.bump j).stream k = s.stream k := rfl

theorem runs_encodePicture (s : State) (k : Fin 4) (c : CodingInput) (rest : List CodingInput) (due : (s.stream k).due = c :: rest) :
    Runs (.encodePicture k false) s fun t =>
      (t.stream k).due = rest ∧ (t.stream k).pictures = (s.stream k).pictures + 1 ∧
      (∃ p, (t.stream k).sent = some p ∧ p.stamp = c.centre * 9 / 100000 % 2 ^ 32 ∧ p.address = s.regN (K.destAddress k) ∧
        p.port = s.regN (K.destPort k)) ∧
      t.reg (K.framesEncoded k) = (s.bump (K.framesEncoded k)).reg (K.framesEncoded k) := by
  have ran : exec (.encodePicture k false) s = execEncodePicture k false s := rfl
  unfold Runs
  rw [ran]
  simp only [execEncodePicture, due, Bool.false_eq_true, if_false]
  refine ⟨_, rfl, ?_⟩
  rw [stream_bump, stream_setStream]
  exact ⟨rfl, rfl, ⟨_, rfl, rfl, rfl, rfl⟩, reg_bump_congr rfl⟩

theorem runs_encodePicture_busy (s : State) (k : Fin 4) (c : CodingInput) (rest : List CodingInput) (due : (s.stream k).due = c :: rest) :
    Runs (.encodePicture k true) s fun t =>
      (t.stream k).due = rest ∧ (t.stream k).sent = (s.stream k).sent ∧
      t.reg (K.framesSkipped k) = (s.bump (K.framesSkipped k)).reg (K.framesSkipped k) := by
  have ran : exec (.encodePicture k true) s = .next ((s.setStream k { s.stream k with due := rest }).bump (K.framesSkipped k)) := by
    change execEncodePicture k true s = _
    simp only [execEncodePicture, due, if_true]
  refine ⟨_, ran, ?_⟩
  beta_reduce
  rw [stream_bump, stream_setStream]
  exact ⟨rfl, rfl, reg_bump_congr rfl⟩

/-- Settles O28: the writes of the sensors, the way of a register set over the tunnel, and the streams. -/
theorem sensorsAndStreamsTakeSettings : Obligations.SensorsAndStreamsTakeSettings := by
  unfold Obligations.SensorsAndStreamsTakeSettings
  exact ⟨writes_sensorEnable_on, writes_sensorEnable_off, writes_correctionWrite_on, writes_correctionWrite_off, writes_settingsCommit,
    runs_settingsSend, runs_i2cWriteAck_next, runs_i2cWriteAck_last, runs_i2cWriteAck_refused, writes_streamEnable, runs_encodePicture,
    runs_encodePicture_busy⟩

end Sys2Proof.Machine
end

section
/-!
What the operations of the control contexts do to a context and to its entries, and what the other operations leave of them (O29-O31).
-/
namespace Sys2Proof.Machine
open Sys2Proof

variable {s t : State} {n : Nat}

/-! ### What an operation of other units leaves of a context -/

section
variable {F : List Part} (h : t.outside F = s.outside F)
include h

theorem ctxs_of_outside (hF : .ctxs ∉ F) : t.ctxs = s.ctxs := (congrArg State.ctxs (eq_merge_of_outside h)).trans (if_neg hF)
theorem ctx_of_outside (hF : .ctxs ∉ F) (n : Nat) : t.ctx n = s.ctx n := congrArg (fun c => c.get Ctx.init n) (ctxs_of_outside h hF)
theorem sv_of_outside (hF : .sv ∉ F) : t.sv = s.sv := (congrArg State.sv (eq_merge_of_outside h)).trans (if_neg hF)
theorem ls_of_outside (hF : .ls ∉ F) : t.ls = s.ls := (congrArg State.ls (eq_merge_of_outside h)).trans (if_neg hF)
theorem canBufs_of_outside (hF : .canBufs ∉ F) : t.canBufs = s.canBufs :=
  (congrArg State.canBufs (eq_merge_of_outside h)).trans (if_neg hF)

end

@[simp] theorem ctx_setReg (s : State) (k : Nat) (v : Int) (n : Nat) : (s.setReg k v).ctx n = s.ctx n := rfl
@[simp] theorem ctx_setFlag (s : State) (k i : Nat) (b : Bool) (n : Nat) : (s.setFlag k i b).ctx n = s.ctx n := rfl
@[simp] theorem ctx_bump (s : State) (k n : Nat) : (s.bump k).ctx n = s.ctx n := rfl
@[simp] theorem ctx_setCapture (s : State) (b : Nat) (x : Capture) (n : Nat) : (s.setCapture b x).ctx n = s.ctx n := rfl
@[simp] theorem ctx_startItem (s : State) (q n : Nat) : (s.startItem q).ctx n = s.ctx n := rfl
@[simp] theorem ctx_showRehearsals (s : State) (n : Nat) : s.showRehearsals.ctx n = s.ctx n := rfl
@[simp] theorem ctx_showLoad (s : State) (n : Nat) : s.showLoad.ctx n = s.ctx n := rfl

@[simp] theorem ctx_finish (s : State) (q : Nat) (o : Outcome) (d n : Nat) : (s.finish q o d).ctx n = s.ctx n :=
  ctx_of_outside (F := [.jr]) (outside_finish (by decide) ..) (by decide) n

@[simp] theorem ctx_eventKey (s : State) (so : Src) (u e d n : Nat) : (s.eventKey so u e d).ctx n = s.ctx n := by
  rw [eventKey_fields]
  rfl

@[simp] theorem ctx_settle (s : State) (idx sub q : Nat) (d : Bytes) (n : Nat) : (s.settle idx sub q d).ctx n = s.ctx n :=
  ctx_of_outside (F := [.regs, .blobs, .jr]) (outside_settle (by decide) (by decide) (by decide) ..) (by decide) n

@[simp] theorem ctxs_taken (s : State) (slot idx sub : Nat) (d : Bytes) (r : WriteRule) : (s.taken slot idx sub d r).ctxs = s.ctxs :=
  ctxs_afterAccept ..

@[simp] theorem ctx_taken (s : State) (slot idx sub : Nat) (d : Bytes) (r : WriteRule) (n : Nat) :
    (s.taken slot idx sub d r).ctx n = s.ctx n := congrArg (fun c => c.get Ctx.init n) (ctxs_taken ..)

theorem reg_showLoad {k : Nat} (hk : k ≠ K.engineLoad 0) (s : State) : s.showLoad.reg k = s.reg k := reg_setReg_ne hk _ _

theorem reg_showRehearsals {k : Nat} (hk : k ≠ K.rehearsalsActive 0) (s : State) : s.showRehearsals.reg k = s.reg k :=
  reg_setReg_ne hk _ _

/-! ### The end of a rehearsal (R262) -/

theorem rehEnd_of_none (none : (s.ctx n).reh = none) (reason : Nat) (o : Outcome) (d : Nat) : s.rehEnd n reason o d = s := by
  simp only [State.rehEnd, none]

theorem ctx_rehEnd (s : State) (n reason : Nat) (o : Outcome) (d : Nat) :
    (s.rehEnd n reason o d).ctx n = { s.ctx n with reh := none } := by
  cases reh : (s.ctx n).reh with
  | none => rw [rehEnd_of_none reh, ← reh]
  | some r =>
    simp only [State.rehEnd, reh, ctx_finish, ctx_showRehearsals, ctx_setReg]
    split <;> split <;> simp

/-- A rehearsal's end shows in the entries of the rehearsal alone. -/
theorem reg_rehEnd {k : Nat} (hk : k % 256 < 0x50) (s : State) (n reason : Nat) (o : Outcome) (d : Nat) :
    (s.rehEnd n reason o d).reg k = s.reg k := by
  unfold State.rehEnd
  split
  · rfl
  · simp only [reg_finish]
    rw [reg_showRehearsals (by simp; omega)]
    split <;> split <;> simp (disch := omega) [reg_setReg_ne]

/-- What the end of an ARMED rehearsal shows. -/
theorem reg_rehEnd_armed {r : Reh} (reh : (s.ctx n).reh = some r) (armed : r.armed = true) (reason : Nat) (o : Outcome) (d : Nat) :
    (s.rehEnd n reason o d).reg (K.rehearsalState n) = 0 ∧ (s.rehEnd n reason o d).reg (K.rehearsalEnd n) = (reason : Nat) ∧
    (s.rehEnd n reason o d).reg (K.captureRecords n) = 0 := by
  simp only [State.rehEnd, reh, armed, if_true, reg_finish]
  refine ⟨?_, ?_, ?_⟩ <;> rw [reg_showRehearsals (by simp; omega)] <;> simp [reg_setReg]

end Sys2Proof.Machine
end

section
/-!
Rehearsals start, trigger and end (O31).
-/
namespace Sys2Proof.Machine
open Sys2Proof
variable {s t : State} {n : Nat}

/-! ### The start of a rehearsal (R259, R261, R263) -/

@[simp] theorem snap_afterAccept (s : State) (slot : Nat) (q : WriteReq) {r : WriteRule} (short : r.long = none) (j : Nat) :
    ((s.afterAccept slot q r).sess j).snap = (s.sess j).snap := by
  unfold State.afterAccept
  extract_lets d src a x u
  have accepted (i : Nat) : a.sess i = s.sess i := by
    refine congrArg (fun c => c.get Session.init i) (?_ : a.sessions = s.sessions)
    rw [show a = _ from accept_fields ..]
  rw [short]
  change ((a.setSess slot _).sess j).snap = _
  by_cases hj : j = slot
  · rw [hj, sess_setSess, ← accepted]
  · rw [sess_setSess_ne _ _ _ hj, accepted]

/-- The buffers that are free hang on the captures, the rehearsals and the reads in progress. -/
theorem freeCapture_congr (caps : t.caps = s.caps) (ctxs : t.ctxs = s.ctxs) (snap : ∀ j, (t.sess j).snap = (s.sess j).snap) :
    t.freeCapture = s.freeCapture := by
  have capture (b : Nat) : t.capture b = s.capture b := congrArg (fun c => c.get Capture.init b) caps
  have ctx (m : Nat) : t.ctx m = s.ctx m := congrArg (fun c => c.get Ctx.init m) ctxs
  simp only [State.freeCapture, State.captureBusy, capture, ctx, snap]

theorem firstSome_eq_none {α : Type} : ∀ {l : List (Option α)}, firstSome l = none → ∀ x ∈ l, x = none
  | none :: l, h, _, hx => (List.mem_cons.1 hx).elim id fun later => firstSome_eq_none (l := l) h _ later

theorem of_need_eq_none {c : Bool} {a : Abort} (h : need c a = none) : c = true := by
  cases c with
  | true => rfl
  | false => cases h

/-- A start that passes its checks finds a free capture buffer. -/
theorem freeCapture_of_writable {slot idx sub : Nat} {d : Bytes} (hw : Writable s slot idx sub d (rehStartRule n)) :
    ∃ b, (s.taken slot idx sub d (rehStartRule n)).freeCapture = some b := by
  obtain ⟨-, -, -, checked⟩ := hw
  have room := of_need_eq_none (firstSome_eq_none (check_of_checkWrite checked) _ (by
    simp only [List.mem_cons]
    exact .inr (.inr (.inr (.inr (.inl rfl))))))
  have same := freeCapture_congr (caps_afterAccept ..) (ctxs_afterAccept ..)
    (snap_afterAccept (s.heard slot) slot ⟨idx, sub, 0, d⟩ (r := rehStartRule n) rfl)
  exact Option.isSome_iff_exists.1 (same ▸ (Bool.and_eq_true_iff.1 room).2)

/-- An accepted start takes a capture buffer, which exists because the checks have passed. -/
theorem writes_rehearsalStart (s : State) (slot : Fin 16) (n : Fin 128) (v : BitVec 8) :
    Writes (.rehearsalStart slot n v) s slot (0x3800 + n) 0x3D (leBytes 1 v.toNat) (rehStartRule n) fun t =>
      (∃ r, (t.ctx n).reh = some r ∧ r.item = s.regN K.nextJournalSeq ∧ r.done = 0 ∧ r.armed = decide (s.reg (K.rehStartMode n) = 1) ∧
        r.amp = s.reg (K.rehAmplitude n) ∧ r.samples = s.regN (K.rehSamples n) ∧ r.stop = false) ∧
      t.reg (K.rehearsalState n) = (if s.reg (K.rehStartMode n) = 1 then 1 else 0) ∧ t.reg (K.captureRecords n) = 0 := by
  intro hw
  obtain ⟨b, free⟩ := freeCapture_of_writable hw
  refine writes_of_effect (c := .rehearsalStart slot n v) rfl ?_ (fun _ _ h => h) hw
  have was {k : Nat} (hk : key 0x2000 0 ≤ k) := reg_taken s slot (0x3800 + n) 0x3D (leBytes 1 v.toNat) (rehStartRule n) hk
  have mode := was (k := K.rehStartMode n) (by simp; omega)
  have amplitude := was (k := K.rehAmplitude n) (by simp; omega)
  have samples : State.regN _ _ = _ := congrArg Int.toNat (was (k := K.rehSamples n) (by simp; omega))
  generalize s.taken slot (0x3800 + n) 0x3D (leBytes 1 v.toNat) (rehStartRule n) = u at *
  simp only [rehStartRule, free, ctx_startItem, ctx_showRehearsals, ctx_setReg, ctx_setCtx, reg_startItem, mode, amplitude, samples]
  refine ⟨⟨_, rfl, rfl, rfl, rfl, rfl, rfl, rfl⟩, ?_, ?_⟩
  · rw [reg_showRehearsals (by simp; omega), reg_setReg_ne (by simp), reg_setReg_self]
  · rw [reg_showRehearsals (by simp; omega), reg_setReg_self]

/-! ### The stop of a rehearsal, and the end of one that nothing triggers (R261, R262) -/

theorem writes_rehearsalStop_without (s : State) (slot : Fin 16) (n : Fin 128) (v : BitVec 8) (without : (s.ctx n).reh = none) :
    Writes (.rehearsalStop slot n v) s slot (0x3800 + n) 0x3E (leBytes 1 v.toNat) (rehStopRule n) fun t => t.ctx n = s.ctx n := by
  refine writes_of_effect rfl ?_ fun _ _ h => h
  simp only [rehStopRule, ctx_taken, without, ctx_finish]

theorem writes_rehearsalStop_armed (s : State) (slot : Fin 16) (n : Fin 128) (v : BitVec 8) (r : Reh) (reh : (s.ctx n).reh = some r)
    (armed : r.armed = true) :
    Writes (.rehearsalStop slot n v) s slot (0x3800 + n) 0x3E (leBytes 1 v.toNat) (rehStopRule n) fun t =>
      (t.ctx n).reh = none ∧ t.reg (K.rehearsalState n) = 0 ∧ t.reg (K.rehearsalEnd n) = 2 ∧ t.reg (K.captureRecords n) = 0 := by
  refine writes_of_effect rfl ?_ fun _ _ h => h
  simp only [rehStopRule, ctx_taken, reh, armed, if_true, ctx_finish, reg_finish, ctx_rehEnd, true_and]
  exact reg_rehEnd_armed ((congrArg Ctx.reh (ctx_taken ..)).trans reh) armed ..

theorem writes_rehearsalStop_running (s : State) (slot : Fin 16) (n : Fin 128) (v : BitVec 8) (r : Reh) (reh : (s.ctx n).reh = some r)
    (running : r.armed = false) :
    Writes (.rehearsalStop slot n v) s slot (0x3800 + n) 0x3E (leBytes 1 v.toNat) (rehStopRule n) fun t =>
      (t.ctx n).reh = some r ∧ (t.ctx n).writes = (s.ctx n).writes ++ [⟨0x3E, [], s.regN K.nextJournalSeq, s.tick⟩] := by
  refine writes_of_effect rfl ?_ fun _ _ h => h
  simp only [rehStopRule, ctx_taken, reh, running, Bool.false_eq_true, if_false, ctx_setCtx, tick_taken, and_self]

theorem runs_notTriggered (s : State) (n : Fin 128) (r : Reh) (reh : (s.ctx n).reh = some r) (armed : r.armed = true)
    (long : r.armedAt + ticksS 60 ≤ s.tick) :
    Runs (.notTriggered n) s fun t => (t.ctx n).reh = none ∧ t.reg (K.rehearsalState n) = 0 ∧ t.reg (K.rehearsalEnd n) = 5 := by
  have ran : exec (.notTriggered n) s = .next (s.rehEnd n 5 .done) := by
    change execNotTriggered n s = _
    simp only [execNotTriggered, reh, armed, long, decide_true, Bool.and_self, if_true]
  obtain ⟨state, reason, -⟩ := reg_rehEnd_armed reh armed 5 .done 0
  exact ⟨_, ran, by rw [ctx_rehEnd], state, reason⟩

/-- Settles O31: a start, the three cases of a stop, and the end of a rehearsal that stays ARMED. -/
theorem rehearsalsStartAndEnd : Obligations.RehearsalsStartAndEnd := by
  unfold Obligations.RehearsalsStartAndEnd
  exact ⟨writes_rehearsalStart, writes_rehearsalStop_without, writes_rehearsalStop_armed, writes_rehearsalStop_running,
    runs_notTriggered⟩

end Sys2Proof.Machine
end

section
/-!
Contexts take their settings (O30).
-/
namespace Sys2Proof.Machine
open Sys2Proof

variable {s t : State}

/-! ### The entries of a context -/

theorem entryDesc_ctx (s : State) (n : Fin 128) (sub : Nat) : s.entryDesc (0x3800 + n) sub = descOf (0x3800 + n) sub := by
  rw [State.entryDesc, if_neg (by simp; omega), if_neg (by simp; omega)]

theorem type_ctxEnable : ∀ n : Fin 128, (descOf (0x3800 + n) 1).map Desc.ty = some .bool := by decide +kernel

theorem type_ctxMode : ∀ n : Fin 128, (descOf (0x3800 + n) 2).map Desc.ty = some .enum8 := by decide +kernel

theorem putEntry_ctxEnable (s : State) (n : Fin 128) (d : Bytes) : s.putEntry (0x3800 + n) 1 d = s.setReg (K.ctxEnable n) (wval d) :=
  putEntry_bool (by omega) (by omega) (type_ctxEnable n) s d

theorem reg_settle_ctxEnable (s : State) (n : Fin 128) (q : Nat) (d : Bytes) (k : Nat) :
    (s.settle (0x3800 + n) 1 q d).reg k = if k = K.ctxEnable n then (wval d : Int) else s.reg k := by
  rw [State.settle, reg_finish, putEntry_ctxEnable, reg_setReg]

/-! ### Enabling and disabling (R246, R256, R257) -/

/-- The place of a context hangs on the entries of the contexts but CtxEnable. -/
theorem ctxPlace_congr (h : ∀ k, 0x3800 ≤ k / 256 → k % 256 ≠ 1 → t.reg k = s.reg k) (n : Nat) : t.ctxPlace n = s.ctxPlace n := by
  have entry (m sub : Nat) (hs : sub < 256) (h1 : sub ≠ 1) : t.reg (key (0x3800 + m) sub) = s.reg (key (0x3800 + m) sub) :=
    h _ (by simp; omega) (by simp; omega)
  have entryN (m sub : Nat) (hs : sub < 256) (h1 : sub ≠ 1) : t.regN (key (0x3800 + m) sub) = s.regN (key (0x3800 + m) sub) :=
    congrArg Int.toNat (entry m sub hs h1)
  have source : t.cascadeSource n = s.cascadeSource n := by
    simp (disch := decide) only [State.cascadeSource, entry, entryN]
  have places : t.placed = s.placed := by simp (disch := decide) only [State.placed, entry]
  simp (disch := decide) only [State.ctxPlace, State.ctxN, source, places, entryN]

theorem ctxModeState_congr {n : Nat} (h : t.reg (K.ctxMode n) = s.reg (K.ctxMode n)) : t.ctxModeState n = s.ctxModeState n := by
  simp only [State.ctxModeState, h]

theorem ctx_ctxStart (s : State) (n : Nat) (pl : Nat × Nat) : (s.ctxStart n pl).ctx n =
    { s.ctx n with fresh := true, invalidFrom := none, validFrom := none, events := [], sampled := false } := by
  simp only [State.ctxStart, ctx_showLoad, ctx_setCtx, ctx_setReg]

/-- What a start shows, and what it leaves. -/
theorem reg_ctxStart (s : State) (n : Nat) (pl : Nat × Nat) :
    (s.ctxStart n pl).reg (K.slot n) = (pl.1 : Nat) ∧ (s.ctxStart n pl).reg (K.phase n) = (pl.2 : Nat) ∧
    (s.ctxStart n pl).reg (K.ctxState n) = s.ctxModeState n ∧ (s.ctxStart n pl).reg (K.liveFlags n) = 0 ∧
    (s.ctxStart n pl).reg (K.ctxEnable n) = s.reg (K.ctxEnable n) := by
  have mode : ((s.setReg (K.slot n) (pl.1 : Nat)).setReg (K.phase n) (pl.2 : Nat)).ctxModeState n = s.ctxModeState n :=
    ctxModeState_congr (by simp [reg_setReg])
  unfold State.ctxStart
  refine ⟨?_, ?_, ?_, ?_, ?_⟩ <;> rw [reg_showLoad (by simp; omega), reg_setCtx]
  all_goals simp [reg_setReg, mode]

theorem effect_ctxEnable_on {pl : Nat × Nat} {n : Fin 128} (off : s.reg (K.ctxEnable n) = 0) (place : s.ctxPlace n = some pl)
    (slot seq : Nat) : (ctxEnableRule n).effect s slot seq [1] = (s.settle (0x3800 + n) 1 seq [1]).ctxStart n pl := by
  have same : (s.settle (0x3800 + n) 1 seq [1]).ctxPlace n = s.ctxPlace n :=
    ctxPlace_congr (fun k _ hk => by rw [reg_settle_ctxEnable, if_neg (by simp; omega)]) n
  have one : wval [1] ≠ 0 := by decide
  simp only [ctxEnableRule, one, off, if_false, same, place]
  rfl

theorem writes_ctxEnable (s : State) (slot : Fin 16) (n : Fin 128) (pl : Nat × Nat) (off : s.reg (K.ctxEnable n) = 0)
    (place : s.ctxPlace n = some pl) :
    Writes (.ctxEnable slot n) s slot (0x3800 + n) 0x01 [1] (ctxEnableRule n) fun t =>
      t.reg (K.ctxEnable n) = 1 ∧ t.reg (K.slot n) = (pl.1 : Nat) ∧ t.reg (K.phase n) = (pl.2 : Nat) ∧
      t.reg (K.ctxState n) = s.ctxModeState n ∧ t.reg (K.liveFlags n) = 0 ∧ (t.ctx n).fresh = true ∧ (t.ctx n).events = [] := by
  refine writes_of_effect rfl ?_ fun _ _ h => h
  have was {k : Nat} (hk : key 0x2000 0 ≤ k) := reg_taken s slot (0x3800 + n) 0x01 [1] (ctxEnableRule n) hk
  have off' := (was (k := K.ctxEnable n) (by simp; omega)).trans off
  have mode := was (k := K.ctxMode n) (by simp; omega)
  have place' := (ctxPlace_congr (fun k hk _ => was (by simp [key]; omega)) n).trans place
  generalize s.taken slot (0x3800 + n) 0x01 [1] (ctxEnableRule n) = u at *
  rw [effect_ctxEnable_on off' place']
  obtain ⟨inSlot, inPhase, state, flags, enable⟩ := reg_ctxStart (u.settle (0x3800 + n) 1 (s.regN K.nextJournalSeq) [1]) n pl
  have sameMode : (u.settle (0x3800 + n) 1 (s.regN K.nextJournalSeq) [1]).ctxModeState n = s.ctxModeState n :=
    ctxModeState_congr (by rw [reg_settle_ctxEnable, if_neg (by simp), mode])
  refine ⟨?_, inSlot, inPhase, state.trans sameMode, flags, by rw [ctx_ctxStart], by rw [ctx_ctxStart]⟩
  rw [enable, reg_settle_ctxEnable, if_pos rfl]
  rfl

theorem writes_ctxDisable (s : State) (slot : Fin 16) (n : Fin 128) (on : s.reg (K.ctxEnable n) = 1) :
    Writes (.ctxDisable slot n) s slot (0x3800 + n) 0x01 [0] (ctxEnableRule n) fun t =>
      t.isDisabling (aimCtx n) = true ∧ t.reg (K.ctxEnable n) = 1 ∧ t.ctx n = s.ctx n := by
  refine writes_of_effect rfl ?_ fun _ _ h => h
  have on' := (reg_taken s slot (0x3800 + n) 0x01 [0] (ctxEnableRule n) (k := K.ctxEnable n) (by simp; omega)).trans on
  have same := ctx_taken s slot (0x3800 + n) 0x01 [0] (ctxEnableRule n) n
  generalize s.taken slot (0x3800 + n) 0x01 [0] (ctxEnableRule n) = u at *
  have zero : wval [0] = 0 := by decide
  simp only [ctxEnableRule, zero, on', if_true]
  exact ⟨by simp [State.isDisabling, State.beginDisable], on', same⟩

/-! ### Settings of a context (R249, R254) -/

/-- A write to an entry of a context waits for the next sample where the context is enabled, and is in force at once where it is not. -/
theorem writes_ctxEntry {c : Instr} {slot : Fin 16} {n : Fin 128} {sub : Nat} {d : Bytes} {check : State → Bytes → Option Abort}
    (ran : exec c s = .next (s.request slot (0x3800 + n) sub d (ctxEntryRule n sub check))) :
    Writes c s slot (0x3800 + n) sub d (ctxEntryRule n sub check) fun t =>
      (s.reg (K.ctxEnable n) = 1 → (t.ctx n).writes = (s.ctx n).writes ++ [⟨sub, d, s.regN K.nextJournalSeq, s.tick⟩] ∧
        ∀ k, key 0x2000 0 ≤ k → t.reg k = s.reg k) ∧
      (s.reg (K.ctxEnable n) ≠ 1 → t.ctx n = s.ctx n ∧
        ∀ x, s.entryDesc (0x3800 + n) sub = some x → x.ty.isBytes = false → t.reg (key (0x3800 + n) sub) = x.ty.decode d) := by
  refine writes_of_effect ran ?_ fun _ _ h => h
  have enable := reg_taken s slot (0x3800 + n) sub d (ctxEntryRule n sub check) (k := K.ctxEnable n) (by simp; omega)
  simp only [ctxEntryRule] at enable ⊢
  rw [enable]
  refine ⟨fun on => ?_, fun off => ?_⟩
  · rw [if_pos on, ctx_setCtx, ctx_taken, tick_taken]
    exact ⟨rfl, fun k hk => reg_taken _ _ _ _ _ _ hk⟩
  · rw [if_neg off, ctx_settle, ctx_taken]
    exact ⟨rfl, fun x entry number => reg_settle ((entryDesc_taken ..).trans entry) number⟩

theorem writes_imp {c : Instr} {slot idx sub : Nat} {d : Bytes} {r : WriteRule} {P Q : State → Prop}
    (h : Writes c s slot idx sub d r P) (pq : ∀ t, P t → Q t) : Writes c s slot idx sub d r Q := fun hw =>
  let ⟨t, ran, accepted, p⟩ := h hw
  ⟨t, ran, accepted, pq t p⟩

theorem writes_ctxMode (s : State) (slot : Fin 16) (n : Fin 128) (m : BitVec 8) :
    Writes (.ctxMode slot n m) s slot (0x3800 + n) 0x02 (leBytes 1 m.toNat) (ctxEntryRule n 2 (fun s d => s.ctxEntryCheck n 2 d)) fun t =>
      (s.reg (K.ctxEnable n) = 1 → (t.ctx n).writes = (s.ctx n).writes ++ [⟨2, leBytes 1 m.toNat, s.regN K.nextJournalSeq, s.tick⟩] ∧
        t.reg (K.ctxMode n) = s.reg (K.ctxMode n)) ∧
      (s.reg (K.ctxEnable n) ≠ 1 → t.reg (K.ctxMode n) = (m.toNat : Int) ∧ t.ctx n = s.ctx n) := by
  obtain ⟨x, entry, ty⟩ := Option.map_eq_some_iff.1 (type_ctxMode n)
  have decode : x.ty.decode (leBytes 1 m.toNat) = m.toNat := by
    rw [ty]
    exact congrArg Nat.cast (wval_leBytes_one m)
  refine writes_imp (writes_ctxEntry rfl) fun t h => ⟨fun on => ?_, fun off => ?_⟩
  · obtain ⟨waits, same⟩ := h.1 on
    exact ⟨waits, same _ (by simp; omega)⟩
  · obtain ⟨same, put⟩ := h.2 off
    exact ⟨(put x ((entryDesc_ctx ..).trans entry) (by rw [ty]; rfl)).trans decode, same⟩

theorem rule08_entry {n : Fin 128} {sub : Nat} (h1 : sub ≠ 1) (h2 : sub ≠ 0x3D) (h3 : sub ≠ 0x3E) (h4 : sub ≠ 0x43) :
    rule08 (0x3800 + n) sub = some (ctxEntryRule n sub (fun s d => s.ctxEntryCheck n sub d)) := by
  rw [rule08, if_pos (by simp; omega), if_neg h1, if_neg h2, if_neg h3, if_neg h4, Nat.add_sub_cancel_left]

theorem writes_contextEntryWrite (s : State) (slot : Fin 16) (n : Fin 128) (sub : BitVec 8) (v : Bytes) (x : Desc)
    (h1 : sub.toNat ≠ 1) (h2 : sub.toNat ≠ 0x3D) (h3 : sub.toNat ≠ 0x3E) (h4 : sub.toNat ≠ 0x43)
    (entry : s.entryDesc (0x3800 + n.val) sub.toNat = some x) (number : x.ty.isBytes = false) :
    Writes (.contextEntryWrite slot n sub v) s slot (0x3800 + n) sub.toNat v
      (ctxEntryRule n sub.toNat (fun s d => s.ctxEntryCheck n sub.toNat d)) fun t =>
      (s.reg (K.ctxEnable n) = 1 → (t.ctx n).writes = (s.ctx n).writes ++ [⟨sub.toNat, v, s.regN K.nextJournalSeq, s.tick⟩]) ∧
      (s.reg (K.ctxEnable n) ≠ 1 → t.reg (key (0x3800 + n.val) sub.toNat) = x.ty.decode v) := by
  have ran : exec (.contextEntryWrite slot n sub v) s = .next (s.request slot (0x3800 + n) sub.toNat v
      (ctxEntryRule n sub.toNat (fun s d => s.ctxEntryCheck n sub.toNat d))) := by
    change execContextEntryWrite slot n sub v s = _
    rw [execContextEntryWrite, rule08_entry h1 h2 h3 h4]
  exact writes_imp (writes_ctxEntry ran) fun t h => ⟨fun on => (h.1 on).1, fun off => (h.2 off).2 x entry number⟩

/-! ### Invalid inputs (R255) -/

theorem runs_fallbackEntry (s : State) (n : Fin 128) (t0 : Nat) (running : s.reg (K.ctxState n) = cxRunning)
    (invalid : (s.ctx n).invalidFrom = some t0) (long : t0 + s.regN (K.fallbackTime n) / 10 ≤ s.tick) :
    Runs (.fallbackEntry n) s fun t => t.reg (K.ctxState n) = cxFallback ∧ (t.ctx n).reh = none ∧ (t.ctx n).u = (s.ctx n).u := by
  have ran : exec (.fallbackEntry n) s =
      .next (((s.setReg (K.ctxState n) cxFallback).rehEnd n 4 .done).eventKey .control n (K.ctxState n)) := by
    change execFallbackEntry n s = _
    simp only [execFallbackEntry, State.heldFor, running, invalid, long, decide_true, Bool.and_self, if_true]
  refine ⟨_, ran, ?_, ?_, ?_⟩
  · rw [reg_eventKey, reg_rehEnd (by simp), reg_setReg_self]
  · rw [ctx_eventKey, ctx_rehEnd]
  · rw [ctx_eventKey, ctx_rehEnd, ctx_setReg]

theorem runs_fallbackExit (s : State) (n : Fin 128) (t0 : Nat) (fallback : s.reg (K.ctxState n) = cxFallback)
    (valid : (s.ctx n).validFrom = some t0) (long : t0 + s.regN (K.fallbackTime n) / 10 ≤ s.tick) :
    Runs (.fallbackExit n) s fun t => t.reg (K.ctxState n) = cxRunning ∧ t.ctxs = s.ctxs := by
  have ran : exec (.fallbackExit n) s = .next (s.setReg (K.ctxState n) cxRunning) := by
    change execFallbackExit n s = _
    simp only [execFallbackExit, State.heldFor, fallback, valid, long, decide_true, Bool.and_self, if_true]
  exact ⟨_, ran, reg_setReg_self .., rfl⟩

/-! ### StickyClear (R236, R264) -/

theorem wval_leBytes_four (m : BitVec 32) : wval (leBytes 4 m.toNat) = m.toNat := by
  rw [wval, leNat_leBytes]
  exact Nat.mod_eq_of_lt m.isLt

theorem writes_stickyClear (s : State) (slot : Fin 16) (n : Fin 128) (m : BitVec 32) :
    Writes (.stickyClear slot n m) s slot (0x3800 + n) 0x43 (leBytes 4 m.toNat) (stickyClearRule n) fun t =>
      t.reg (K.stickyFlags n) = (s.regN (K.stickyFlags n) - Nat.land (s.regN (K.stickyFlags n)) m.toNat : Nat) ∧
      t.reg (K.liveFlags n) = s.reg (K.liveFlags n) := by
  refine writes_of_effect rfl ?_ fun _ _ h => h
  have was := regN_taken s slot (0x3800 + n) 0x43 (leBytes 4 m.toNat) (stickyClearRule n) (k := K.stickyFlags n) (by simp; omega)
  have live := reg_taken s slot (0x3800 + n) 0x43 (leBytes 4 m.toNat) (stickyClearRule n) (k := K.liveFlags n) (by simp; omega)
  simp only [stickyClearRule, commandRule, reg_finish, reg_setReg_self, wval_leBytes_four] at was live ⊢
  rw [was, reg_setReg_ne (by simp), live]
  exact ⟨rfl, rfl⟩

/-- Settles O30: enabling and disabling, the settings, the two ways of FALLBACK, and StickyClear. -/
theorem contextsTakeSettings : Obligations.ContextsTakeSettings := by
  unfold Obligations.ContextsTakeSettings
  exact ⟨writes_ctxEnable, writes_ctxDisable, writes_ctxMode, writes_contextEntryWrite, runs_fallbackEntry, runs_fallbackExit,
    writes_stickyClear⟩

end Sys2Proof.Machine
end

section
/-!
Deliveries and rehearsals in the sample of a context (O29).
-/
namespace Sys2Proof.Machine
open Sys2Proof

variable {s t : State} {n : Nat}

/-! ### Deliveries to a target (R243, R248) -/

theorem reg_svStart {ch k : Nat} (h : ¬ SvEntry ch k) (s : State) (number : Nat) (item : Option Nat) :
    (s.svStart ch number item).reg k = s.reg k := by
  unfold SvEntry at h
  simp only [State.svStart]
  repeat' split
  all_goals simp (disch := omega) [State.bump, State.bumpBy, State.setFlag, reg_setReg_ne]

theorem reg_svRelease {ch k : Nat} (h : ¬ SvEntry ch k) (s : State) : (s.svRelease ch).reg k = s.reg k := by
  have done (s : State) : (s.svReleaseDone ch).reg k = s.reg k := reg_finishAll ..
  simp only [State.svRelease]
  split_ifs <;> simp only [reg_svToEnd h, reg_svDiscardPending h, reg_showClaims h, done]

/-- A delivery to a solenoid channel changes entries of the channel, of its bank and of the cues only. -/
theorem reg_svDeliver {ch k : Nat} (h : ¬ SvEntry ch k) (s : State) (v : Nat) : (s.svDeliver ch v).reg k = s.reg k := by
  simp only [State.svDeliver]
  split_ifs <;> simp only [reg_svRelease h, reg_svStart h, reg_setSv]

theorem reg_canStart (s : State) (p k : Nat) : (s.canStart p).reg k = s.reg k := by
  simp only [State.canStart]
  split
  · rfl
  · split <;> rfl

/-- A delivery to a CAN buffer changes entries of the ports only. -/
theorem reg_canDeliver {k : Nat} (hk : k / 256 < 0x5800) (s : State) (target field : Nat) (v : Int) :
    (s.canDeliver target field v).reg k = s.reg k := by
  simp only [State.canDeliver, State.canCommit]
  split_ifs <;> simp (disch := omega) [reg_canStart, State.bump, State.bumpBy, reg_setReg_ne]

/-- A delivery leaves the entries of the contexts but OutputNative. -/
theorem reg_deliver {k : Nat} (ctx : 0x3800 ≤ k / 256 ∧ k / 256 < 0x3880) (native : k ≠ K.outputNative n) (s : State) (u : Int) :
    (s.deliver n u).1.reg k = s.reg k := by
  have channel (ch : Nat) : ¬ SvEntry ch k := by unfold SvEntry; omega
  simp only [State.deliver]
  split_ifs <;> simp (disch := omega) only [reg_svDeliver (channel _), reg_lsSetDuty_below, reg_canDeliver, reg_setReg_ne native]

theorem outside_deliver (s : State) (n : Nat) (u : Int) :
    (s.deliver n u).1.outside [.regs, .jr, .cues, .sv, .ls, .canBufs, .canPorts] =
      s.outside [.regs, .jr, .cues, .sv, .ls, .canBufs, .canPorts] := by
  simp only [State.deliver]
  split_ifs <;> simp [State.svDeliver, State.canDeliver]

theorem ctx_deliver (s : State) (n : Nat) (u : Int) (m : Nat) : (s.deliver n u).1.ctx m = s.ctx m :=
  ctx_of_outside (outside_deliver s n u) (by decide) m

theorem ctx_ctxOutput (s : State) (n : Nat) (x : Ctx) : (s.ctxOutput n x).1.ctx n = x := by
  simp only [State.ctxOutput]
  split <;> simp [ctx_deliver]

theorem reg_ctxOutput {k : Nat} (ctx : 0x3800 ≤ k / 256 ∧ k / 256 < 0x3880) (native : k ≠ K.outputNative n) (s : State) (x : Ctx) :
    (s.ctxOutput n x).1.reg k = s.reg k := by
  simp only [State.ctxOutput]
  split
  · rfl
  · rw [reg_deliver ctx native, reg_setCtx]

theorem ctxOutput_of_hold (hold : s.reg (K.ctxState n) = cxHold) (x : Ctx) : (s.ctxOutput n x).1 = s.setCtx n x := by
  simp only [State.ctxOutput, reg_setCtx, hold, if_true]

/-! ### A rehearsal's part of a sample (R261, R262) -/

theorem ctx_rehRecord (s : State) (n : Nat) (r : Reh) (inj : Int) (phase m : Nat) : (s.rehRecord n r inj phase).ctx m = s.ctx m := by
  simp only [State.rehRecord]
  split <;> simp

theorem reg_rehRecord {k : Nat} (hk : k % 256 < 0x50) (s : State) (r : Reh) (inj : Int) (phase : Nat) :
    (s.rehRecord n r inj phase).reg k = s.reg k := by
  simp only [State.rehRecord]
  split <;> simp (disch := omega) [reg_setReg_ne]

/-- A rehearsal that goes on shows RUNNING. -/
def State.rehGoes (s : State) (n : Nat) (r : Reh) : State := (s.setReg (K.rehearsalState n) 2).setCtx n { s.ctx n with reh := some r }

/-- A step of a rehearsal ends it, or records the sample; once recorded, an ARMED one stays as it is, and a RUNNING one goes on or ends. -/
theorem rehStep_cases (s : State) (n : Nat) (r : Reh) (inj e : Int) :
    s.rehStep n r inj e = s.rehEnd n r.reason .done ∨ s.rehStep n r inj e = s.rehRecord n r inj r.phase ∨
    ∃ next, s.rehStep n r inj e = (s.rehRecord n r inj r.phase).rehGoes n next ∨
      s.rehStep n r inj e = ((s.rehRecord n r inj r.phase).rehGoes n next).rehEnd n next.reason .done := by
  unfold State.rehStep
  split
  · exact .inl rfl
  · extract_lets recorded
    split
    · exact .inr (.inl rfl)
    · split
      · exact .inr (.inr ⟨_, .inr rfl⟩)
      · exact .inr (.inr ⟨_, .inl rfl⟩)

theorem ctx_rehStep (s : State) (n : Nat) (r : Reh) (inj e : Int) :
    ∃ reh, (s.rehStep n r inj e).ctx n = { s.ctx n with reh := reh } := by
  obtain h | h | ⟨next, h | h⟩ := rehStep_cases s n r inj e <;> rw [h]
  · exact ⟨_, ctx_rehEnd ..⟩
  · exact ⟨_, ctx_rehRecord ..⟩
  · rw [State.rehGoes, ctx_setCtx, ctx_rehRecord]
    exact ⟨_, rfl⟩
  · rw [ctx_rehEnd, State.rehGoes, ctx_setCtx, ctx_rehRecord]
    exact ⟨_, rfl⟩

theorem reg_rehStep {k : Nat} (hk : k % 256 < 0x50) (s : State) (r : Reh) (inj e : Int) : (s.rehStep n r inj e).reg k = s.reg k := by
  have goes (s : State) (next : Reh) : (s.rehGoes n next).reg k = s.reg k := reg_setReg_ne (by simp; omega) _ _
  obtain h | h | ⟨next, h | h⟩ := rehStep_cases s n r inj e <;> simp only [h, reg_rehEnd hk, reg_rehRecord hk, goes]

section
variable {F : List Part} (hregs : .regs ∈ F) (hjr : .jr ∈ F) (hcaps : .caps ∈ F) (hctxs : .ctxs ∈ F)
include hregs hjr hcaps hctxs

theorem outside_rehStep (s : State) (n : Nat) (r : Reh) (inj e : Int) : (s.rehStep n r inj e).outside F = s.outside F := by
  have record (s : State) (phase : Nat) : (s.rehRecord n r inj phase).outside F = s.outside F := by
    simp only [State.rehRecord]
    split <;> simp [*]
  have goes (s : State) (next : Reh) : (s.rehGoes n next).outside F = s.outside F := by simp [State.rehGoes, *]
  obtain h | h | ⟨next, h | h⟩ := rehStep_cases s n r inj e <;> simp [*]

theorem outside_ctxShow (s : State) (n : Nat) (live : Int) (x : Ctx) (inj : Int) : (s.ctxShow n live x inj).outside F = s.outside F := by
  simp only [State.ctxShow]
  split
  · split <;> simp [outside_rehStep, *]
  · simp [*]

end

/-! ### What a sample shows -/

theorem ctx_ctxShow (s : State) (n : Nat) (live : Int) (x : Ctx) (inj : Int) :
    ∃ reh, (s.ctxShow n live x inj).ctx n = { s.ctx n with reh := reh } := by
  simp only [State.ctxShow]
  split
  · split
    · obtain ⟨reh, stepped⟩ := ctx_rehStep _ n _ inj x.e
      exact ⟨reh, stepped⟩
    · exact ⟨_, rfl⟩
  · exact ⟨_, rfl⟩

end Sys2Proof.Machine
end

section
/-!
What a sample gives a context and shows of it (O29).
-/
namespace Sys2Proof.Machine
open Sys2Proof

variable {s t : State} {n : Nat}

/-! ### What a sample shows -/

/-- What a sample shows of the context, before its part of a rehearsal. -/
def State.ctxShown (s : State) (n : Nat) (live : Int) (x : Ctx) : State :=
  let s := s.setReg (K.liveFlags n) live
  let s := s.setReg (K.stickyFlags n) (Nat.lor (s.regN (K.stickyFlags n)) live.toNat : Nat)
  let s := ((s.setReg (K.measValue n) x.yf).setReg (K.setpointValue n) x.rr).setReg (K.output n) x.u
  let s := ((s.setReg (K.integrator n) (x.i / 65536)).setReg (K.lookAhead n) x.la).setReg (K.vsupGain n) x.g
  s.bump (K.samples n)

theorem reg_ctxShow {k : Nat} (hk : k % 256 < 0x50) (s : State) (live : Int) (x : Ctx) (inj : Int) :
    (s.ctxShow n live x inj).reg k = (s.ctxShown n live x).reg k := by
  change (match x.reh with
    | some h => if (s.ctxShown n live x).rehBegun h then (s.ctxShown n live x).rehStep n h inj x.e else s.ctxShown n live x
    | none => s.ctxShown n live x).reg k = _
  split
  · split
    · exact reg_rehStep hk ..
    · rfl
  · rfl

/-- The entries that a sample shows the new values in. -/
theorem reg_ctxShow_values (s : State) (n : Nat) (live : Int) (x : Ctx) (inj : Int) :
    (s.ctxShow n live x inj).reg (K.measValue n) = x.yf ∧ (s.ctxShow n live x inj).reg (K.setpointValue n) = x.rr ∧
    (s.ctxShow n live x inj).reg (K.output n) = x.u ∧
    (s.ctxShow n live x inj).reg (K.samples n) = (s.bump (K.samples n)).reg (K.samples n) := by
  refine ⟨?_, ?_, ?_, ?_⟩ <;> rw [reg_ctxShow (by simp)] <;> simp [State.ctxShown, reg_bump, reg_setReg]

theorem reg_ctxShow_stays (s : State) (n : Nat) (live : Int) (x : Ctx) (inj : Int) :
    (s.ctxShow n live x inj).reg (K.outputNative n) = s.reg (K.outputNative n) ∧
    (s.ctxShow n live x inj).reg (K.lastSampleTime n) = s.reg (K.lastSampleTime n) := by
  refine ⟨?_, ?_⟩ <;> rw [reg_ctxShow (by simp)] <;> simp [State.ctxShown, reg_bump, reg_setReg]

/-! ### The evaluation (R234, R236, R253, R254) -/

theorem clampI_mem {lo hi : Int} (h : lo ≤ hi) (v : Int) : lo ≤ clampI lo hi v ∧ clampI lo hi v ≤ hi := by
  unfold clampI
  split_ifs <;> omega

/-- The new contents of a context at its sample. -/
structure Sampled (s : State) (n : Nat) (x : Ctx) : Prop where
  stamped : x.lastTick = s.tick ∧ x.sampled = true ∧ x.fresh = false ∧ x.uBefore = (s.ctx n).u
  running : s.reg (K.ctxState n) = cxRunning → s.reg (K.outMin n) ≤ s.reg (K.outMax n) →
    s.reg (K.outMin n) ≤ x.u ∧ x.u ≤ s.reg (K.outMax n)
  hold : s.reg (K.ctxState n) = cxHold → x.u = (s.ctx n).u

/-- An evaluation gives the context its new contents, sends the output where the state says so, and shows the values. -/
theorem ctxEvaluate_samples (s : State) (n : Nat) (start : Bool) :
    ∃ x live inj, Sampled s n x ∧ s.ctxEvaluate n start = (s.ctxOutput n x).1.ctxShow n live x inj := by
  unfold State.ctxEvaluate
  extract_lets x ms ss mi si mBad sBad y r ll tap laUsed starved lane la vs g rh inj point x0 par ev st held us x1 bad x2 dl keep live
  refine ⟨x2, live, inj.1, ⟨⟨rfl, rfl, rfl, rfl⟩, fun running limits => ?_, fun hold => ?_⟩, rfl⟩
  · have u : x1.u = ev.1.u := congrArg Ctx.u (if_pos running)
    change _ ≤ x1.u ∧ x1.u ≤ _
    rw [u]
    exact clampI_mem limits _
  · have state : st = cxHold := hold
    have u : x1.u = us := congrArg Ctx.u (if_neg (by rw [state]; decide))
    exact u.trans (if_neg (by simp [state]))

end Sys2Proof.Machine
end

section
/-!
The begin of a sample of a context (O29).
-/
namespace Sys2Proof.Machine
open Sys2Proof

variable {s t : State} {n : Fin 128} {k : Nat}

/-! ### The begin of a sample, up to its evaluation (R249-R251, R257, R266) -/

/-- A sample with no write that waits, up to the error in its state. -/
def State.beginSample (s : State) (n : Nat) (parityError : Bool) : State :=
  let s := ((s.setReg (K.lastSampleTime n) s.now).setCtx n { s.ctx n with writes := [] }).setFlag (K.liveFlags n) cfStateError parityError
  if parityError then
    (((s.bump (K.stateErrors 0)).setFlag (K.stickyFlags n) cfStateError true).setCtx n { s.ctx n with fresh := true }).eventKey
      .control n (K.liveFlags n)
  else s

/-- A sample's start under R257, and its events. -/
def State.startSample (s : State) (n : Nat) : State :=
  let start := (s.ctx n).fresh
  let s := if start then
      ((s.setFlag (K.liveFlags n) cfIntHeld false).setFlag (K.liveFlags n) cfLaOff false).setFlag (K.liveFlags n) cfFrozen false
    else s
  let s := if start then s.setCtx n { s.ctx n with i := 0 } else s
  s.ctxApplyEvents n

/-- The entries that neither a sample's begin nor its events change, but LastSampleTime. -/
def Steady (k : Nat) : Prop := k % 256 < 0x41 ∨ 0x43 ≤ k % 256 ∧ k % 256 < 0x4F ∨ 0x4000 ≤ k / 256

theorem Steady.ne (h : Steady k) {idx sub : Nat} (unit : idx < 0x4000) (fits : sub < 256) (changed : 0x41 ≤ sub ∧ sub < 0x43 ∨ 0x4F ≤ sub) :
    k ≠ key idx sub := by
  rintro rfl
  simp only [Steady, key] at h
  omega

/-- The entries that change are others. -/
theorem Steady.changed (h : Steady k) (n : Fin 128) :
    k ≠ K.liveFlags n ∧ k ≠ K.stickyFlags n ∧ k ≠ K.stateErrors 0 ∧ k ≠ K.eventsApplied n ∧ k ≠ K.rehearsalState n :=
  ⟨h.ne (by omega) (by decide) (by decide), h.ne (by omega) (by decide) (by decide), h.ne (by decide) (by decide) (by decide),
    h.ne (by omega) (by decide) (by decide), h.ne (by omega) (by decide) (by decide)⟩

theorem reg_beginSample (hk : Steady k) (s : State) (b : Bool) :
    (s.beginSample n b).reg k = (s.setReg (K.lastSampleTime n) s.now).reg k := by
  obtain ⟨live, sticky, errors, -⟩ := hk.changed n
  simp only [State.beginSample]
  split <;> simp only [reg_eventKey, reg_setCtx, reg_setFlag, reg_bump, if_neg live, if_neg sticky, if_neg errors]

theorem u_beginSample (s : State) (n : Nat) (b : Bool) : ((s.beginSample n b).ctx n).u = (s.ctx n).u := by
  simp only [State.beginSample]
  split <;> simp

theorem reg_ctxApplyEvent (hk : Steady k) (s : State) (code : Nat) : (s.ctxApplyEvent n code).reg k = s.reg k := by
  obtain ⟨live, -, -, events, rehearsal⟩ := hk.changed n
  simp only [State.ctxApplyEvent]
  repeat' split
  all_goals simp only [reg_setCtx, reg_setReg_ne rehearsal, reg_setFlag, reg_bump, if_neg live, if_neg events]

theorem u_ctxApplyEvent (s : State) (n code : Nat) : ((s.ctxApplyEvent n code).ctx n).u = (s.ctx n).u := by
  simp only [State.ctxApplyEvent]
  repeat' split
  all_goals simp

theorem reg_startSample (hk : Steady k) (s : State) : (s.startSample n).reg k = s.reg k := by
  have events (s : State) : (s.ctxApplyEvents n).reg k = s.reg k := reg_foldl (fun s _ _ => reg_ctxApplyEvent hk s _) _
  obtain ⟨live, -⟩ := hk.changed n
  simp only [State.startSample, events]
  split <;> simp only [reg_setCtx, reg_setFlag, if_neg live, if_true]

theorem u_startSample (s : State) (n : Nat) : ((s.startSample n).ctx n).u = (s.ctx n).u := by
  have events (s : State) : ((s.ctxApplyEvents n).ctx n).u = (s.ctx n).u :=
    List.foldlRecOn (motive := fun t : State => (t.ctx n).u = (s.ctx n).u) _ _ (by rw [ctx_setCtx]) fun t h x _ =>
      (u_ctxApplyEvent t n x.1).trans h
  simp only [State.startSample, events]
  split <;> simp

section
variable {F : List Part} (hregs : .regs ∈ F) (hbook : .book ∈ F) (hctxs : .ctxs ∈ F)
include hregs hbook hctxs

theorem outside_beginSample (s : State) (n : Nat) (b : Bool) : (s.beginSample n b).outside F = s.outside F := by
  simp only [State.beginSample]
  split <;> simp [State.eventKey, *]

omit hbook in
theorem outside_startSample (s : State) (n : Nat) : (s.startSample n).outside F = s.outside F := by
  have event (s : State) (code : Nat) : (s.ctxApplyEvent n code).outside F = s.outside F := by
    simp only [State.ctxApplyEvent]
    repeat' split
    all_goals simp [*]
  simp [State.startSample, State.ctxApplyEvents, *]

end

/-- The target's failure hangs on the context's settings and on the states of the channels. -/
theorem ctxTargetFailed_congr (h : ∀ k, Steady k → k ≠ K.lastSampleTime n → t.reg k = s.reg k) :
    t.ctxTargetFailed n = s.ctxTargetFailed n := by
  have kind : t.reg (K.outKind n) = s.reg (K.outKind n) := h _ (by simp [Steady]) (by simp)
  have target : t.regN (K.outTarget n) = s.regN (K.outTarget n) := congrArg Int.toNat (h _ (by simp [Steady]) (by simp))
  have solenoid (c : Nat) : t.reg (K.svState c) = s.reg (K.svState c) := h _ (by simp [Steady]) (by simp; omega)
  have load (c : Nat) : t.reg (K.lsState c) = s.reg (K.lsState c) := h _ (by simp [Steady]) (by simp; omega)
  simp only [State.ctxTargetFailed, State.lsFailed, kind, target, solenoid, load]

end Sys2Proof.Machine
end

section
/-!
The samples of running, holding and disabled contexts (O29).
-/
namespace Sys2Proof.Machine
open Sys2Proof

variable {s u : State} {n : Fin 128} {b : Bool}

/-! ### A sample of an enabled context -/

theorem ctxApplyWrites_of_none {s : State} {n : Nat} (none : (s.ctx n).writes = []) :
    s.ctxApplyWrites n = s.setCtx n { s.ctx n with writes := [] } := by
  simp only [State.ctxApplyWrites, none, List.filter_nil, List.foldl_nil]

/-- A due sample of an enabled context, with no write that waits, and neither a failed target nor the state FAULT. -/
theorem exec_contextSample_of_works (due : s.ctxDue n = true) (enabled : s.isDisabling (aimCtx n) = false)
    (noWrites : (s.ctx n).writes = []) (works : s.ctxTargetFailed n = false) (noFault : s.reg (K.ctxState n) ≠ cxFault) :
    exec (.contextSample n b) s = .next (((s.beginSample n b).startSample n).ctxEvaluate n ((s.beginSample n b).ctx n).fresh) := by
  have applied : (s.setReg (K.lastSampleTime n) s.now).ctxApplyWrites n = _ := ctxApplyWrites_of_none noWrites
  have steady (k : Nat) (hk : Steady k) (ne : k ≠ K.lastSampleTime n) : (s.beginSample n b).reg k = s.reg k :=
    (reg_beginSample hk s b).trans (reg_setReg_ne ne _ _)
  have works' : (s.beginSample n b).ctxTargetFailed n = false := (ctxTargetFailed_congr steady).trans works
  have noFault' : (s.beginSample n b).reg (K.ctxState n) ≠ cxFault := by rwa [steady _ (by simp [Steady]) (by simp)]
  change execContextSample n b s = _
  unfold execContextSample
  rw [if_neg (by simp [due]), if_neg (by simp [enabled]), applied]
  extract_lets src applied flagged src' begun failed back src'' returned start
  have back' : back = false := Bool.and_eq_false_iff.2 (.inl (decide_eq_false noFault'))
  have same : returned = s.beginSample n b := if_neg (by rw [back']; decide)
  have failed' : failed = false := works'
  refine (if_neg (by rw [failed']; decide)).trans ?_
  change Host.Outcome.next ((returned.startSample n).ctxEvaluate n (returned.ctx n).fresh) = _
  rw [same]

/-- What a sample's begin, its start and its events leave of the state before it. -/
structure Begun (s u : State) (n : Fin 128) : Prop where
  regs (k : Nat) : Steady k → u.reg k = (s.setReg (K.lastSampleTime n) s.now).reg k
  held : (u.ctx n).u = (s.ctx n).u
  rest : u.outside [.regs, .book, .ctxs] = s.outside [.regs, .book, .ctxs]

theorem begun_startSample (s : State) (n : Fin 128) (b : Bool) : Begun s ((s.beginSample n b).startSample n) n where
  regs _ hk := (reg_startSample hk _).trans (reg_beginSample hk s b)
  held := (u_startSample ..).trans (u_beginSample ..)
  rest := (outside_startSample (by decide) (by decide) ..).trans (outside_beginSample (by decide) (by decide) (by decide) ..)

theorem Begun.reg_same (h : Begun s u n) {k : Nat} (hk : Steady k) (ne : k ≠ K.lastSampleTime n) : u.reg k = s.reg k :=
  (h.regs k hk).trans (reg_setReg_ne ne _ _)

/-- A sample that works evaluates the context, sends its output and shows it. -/
theorem exec_contextSample_samples (due : s.ctxDue n = true) (enabled : s.isDisabling (aimCtx n) = false)
    (noWrites : (s.ctx n).writes = []) (works : s.ctxTargetFailed n = false) (noFault : s.reg (K.ctxState n) ≠ cxFault) :
    ∃ u x live inj, Begun s u n ∧ Sampled u n x ∧
      exec (.contextSample n b) s = .next ((u.ctxOutput n x).1.ctxShow n live x inj) := by
  obtain ⟨x, live, inj, sampled, shown⟩ :=
    ctxEvaluate_samples ((s.beginSample n b).startSample n) n ((s.beginSample n b).ctx n).fresh
  exact ⟨_, x, live, inj, begun_startSample s n b, sampled,
    (exec_contextSample_of_works due enabled noWrites works noFault).trans (by rw [shown])⟩

/-- A context's contents after its sample, but for its rehearsal. -/
theorem ctx_sample (u : State) (n : Nat) (x : Ctx) (live inj : Int) :
    ∃ reh, ((u.ctxOutput n x).1.ctxShow n live x inj).ctx n = { x with reh := reh } := by
  obtain ⟨reh, shown⟩ := ctx_ctxShow (u.ctxOutput n x).1 n live x inj
  exact ⟨reh, by rw [shown, ctx_ctxOutput]⟩

/-- A sample of a RUNNING context (R234, R236, R247, R253). -/
theorem runs_contextSample_running (due : s.ctxDue n = true) (enabled : s.isDisabling (aimCtx n) = false)
    (noWrites : (s.ctx n).writes = []) (works : s.ctxTargetFailed n = false) (running : s.reg (K.ctxState n) = cxRunning)
    (limits : s.reg (K.outMin n) ≤ s.reg (K.outMax n)) :
    Runs (.contextSample n b) s fun t =>
      t.reg (K.lastSampleTime n) = (s.now : Nat) ∧ t.reg (K.samples n) = (s.bump (K.samples n)).reg (K.samples n) ∧
      (t.ctx n).lastTick = s.tick ∧ (t.ctx n).sampled = true ∧ (t.ctx n).fresh = false ∧ (t.ctx n).uBefore = (s.ctx n).u ∧
      s.reg (K.outMin n) ≤ (t.ctx n).u ∧ (t.ctx n).u ≤ s.reg (K.outMax n) ∧ t.reg (K.output n) = (t.ctx n).u ∧
      t.reg (K.measValue n) = (t.ctx n).yf ∧ t.reg (K.setpointValue n) = (t.ctx n).rr := by
  obtain ⟨u, x, live, inj, begun, sampled, ran⟩ :=
    exec_contextSample_samples (b := b) due enabled noWrites works (by rw [running]; decide)
  obtain ⟨reh, contents⟩ := ctx_sample u n x live inj
  obtain ⟨y, r, out, count⟩ := reg_ctxShow_values (u.ctxOutput n x).1 n live x inj
  obtain ⟨-, stamp⟩ := reg_ctxShow_stays (u.ctxOutput n x).1 n live x inj
  obtain ⟨time, was, fresh, before⟩ := sampled.stamped
  have same {k : Nat} (steady : Steady k) (ne : k ≠ K.lastSampleTime n) : u.reg k = s.reg k := begun.reg_same steady ne
  have output {k : Nat} (ctx : 0x3800 ≤ k / 256 ∧ k / 256 < 0x3880) (native : k ≠ K.outputNative n) :
      (u.ctxOutput n x).1.reg k = u.reg k := reg_ctxOutput ctx native u x
  have within := sampled.running
  rw [same (by simp [Steady]) (by simp), same (by simp [Steady]) (by simp), same (by simp [Steady]) (by simp)] at within
  obtain ⟨low, high⟩ := within running limits
  refine ⟨_, ran, ?_, ?_, ?_⟩
  · rw [stamp, output (by simp; omega) (by simp), begun.regs _ (by simp [Steady]), reg_setReg, if_pos rfl]
  · rw [count]
    exact reg_bump_congr ((output (by simp; omega) (by simp)).trans (same (by simp [Steady]) (by simp)))
  · rw [contents]
    exact ⟨time.trans (tick_of_outside begun.rest (by decide)), was, fresh, before.trans begun.held, low, high, out, y, r⟩

/-- A sample of a context in HOLD (R234, R253). -/
theorem runs_contextSample_hold (due : s.ctxDue n = true) (enabled : s.isDisabling (aimCtx n) = false)
    (noWrites : (s.ctx n).writes = []) (works : s.ctxTargetFailed n = false) (hold : s.reg (K.ctxState n) = cxHold) :
    Runs (.contextSample n b) s fun t =>
      (t.ctx n).u = (s.ctx n).u ∧ t.reg (K.output n) = (s.ctx n).u ∧ t.reg (K.outputNative n) = s.reg (K.outputNative n) ∧
      t.sv = s.sv ∧ t.ls = s.ls ∧ t.canBufs = s.canBufs := by
  obtain ⟨u, x, live, inj, begun, sampled, ran⟩ :=
    exec_contextSample_samples (b := b) due enabled noWrites works (by rw [hold]; decide)
  obtain ⟨reh, contents⟩ := ctx_sample u n x live inj
  obtain ⟨-, -, out, -⟩ := reg_ctxShow_values (u.ctxOutput n x).1 n live x inj
  obtain ⟨native, -⟩ := reg_ctxShow_stays (u.ctxOutput n x).1 n live x inj
  have holding : u.reg (K.ctxState n) = cxHold := (begun.reg_same (by simp [Steady]) (by simp)).trans hold
  have kept : x.u = (s.ctx n).u := (sampled.hold holding).trans begun.held
  have silent : (u.ctxOutput n x).1 = u.setCtx n x := ctxOutput_of_hold holding x
  have rest : ((u.ctxOutput n x).1.ctxShow n live x inj).outside [.regs, .jr, .book, .ctxs, .caps] =
      u.outside [.regs, .jr, .book, .ctxs, .caps] := by
    rw [outside_ctxShow (by decide) (by decide) (by decide) (by decide), silent, outside_setCtx (by decide)]
  refine ⟨_, ran, by rw [contents]; exact kept, out.trans kept, ?_, ?_, ?_, ?_⟩
  · rw [native, silent, reg_setCtx]
    exact begun.reg_same (by simp [Steady]) (by simp)
  · exact (sv_of_outside rest (by decide)).trans (sv_of_outside begun.rest (by decide))
  · exact (ls_of_outside rest (by decide)).trans (ls_of_outside begun.rest (by decide))
  · exact (canBufs_of_outside rest (by decide)).trans (canBufs_of_outside begun.rest (by decide))

/-! ### The sample of a context that is being disabled (R257) -/

theorem disabling_finish (s : State) (seq : Nat) (o : Outcome) (d : Nat) : (s.finish seq o d).jr.disabling = s.jr.disabling := by
  simp only [State.finish, State.jwrite]
  repeat' split
  all_goals rfl

theorem disabling_finishAll (s : State) (seqs : List Nat) (o : Outcome) (d : Nat) :
    (s.finishAll seqs o d).jr.disabling = s.jr.disabling :=
  List.foldlRecOn (motive := fun t : State => t.jr.disabling = s.jr.disabling) seqs _ rfl fun t h q _ =>
    (disabling_finish t q o d).trans h

/-- Once its disable has ended, an aim is no longer being disabled. -/
theorem isDisabling_endDisable (s : State) (aim : Nat) : (s.endDisable aim).isDisabling aim = false := by
  simp [State.isDisabling, State.endDisable, State.cancelAimed, disabling_finishAll]

/-- A disable's sample hands over: the context is DISABLED, without a place, events or a rehearsal. -/
theorem ctxHandOver_disables (s : State) (n : Fin 128) :
    (s.ctxHandOver n).reg (K.ctxEnable n) = 0 ∧ (s.ctxHandOver n).reg (K.ctxState n) = cxDisabled ∧
    (s.ctxHandOver n).reg (K.slot n) = 0xFF ∧ ((s.ctxHandOver n).ctx n).events = [] ∧ ((s.ctxHandOver n).ctx n).reh = none := by
  unfold State.ctxHandOver
  extract_lets delivered ended off unplaced was cleared
  have reg {k : Nat} (cue : k / 256 ≠ 0x2422) (sub : k % 256 < 0x50) (phase : k ≠ K.phase n) :
      ((cleared.showLoad.cancelCuesOnTarget 3 n).endDisable (aimCtx n)).reg k = off.reg k := by
    have load : k ≠ K.engineLoad 0 := by rintro rfl; exact absurd sub (by decide)
    rw [reg_endDisable, reg_cancelCuesOnTarget cue, reg_showLoad load, reg_setCtx, reg_setReg_ne phase]
  have contents : ((cleared.showLoad.cancelCuesOnTarget 3 n).endDisable (aimCtx n)).ctx n = cleared.ctx n :=
    ctx_of_outside (F := [.regs, .jr, .cues]) (by simp) (by decide) n
  refine ⟨?_, ?_, ?_, ?_, ?_⟩
  · rw [reg (by simp; omega) (by simp) (by simp)]
    simp [off, reg_setReg]
  · rw [reg (by simp; omega) (by simp) (by simp)]
    simp [off, reg_setReg]
  · rw [reg (by simp; omega) (by simp) (by simp)]
    simp [off]
  · rw [contents, ctx_setCtx]
  · rw [contents, ctx_setCtx]
    exact congrArg Ctx.reh (ctx_rehEnd ..)

theorem runs_contextSample_disable (due : s.ctxDue n = true) (disabling : s.isDisabling (aimCtx n) = true) :
    Runs (.contextSample n b) s fun t =>
      t.reg (K.ctxEnable n) = 0 ∧ t.reg (K.ctxState n) = cxDisabled ∧ t.reg (K.slot n) = 0xFF ∧ t.isDisabling (aimCtx n) = false ∧
      (t.ctx n).events = [] ∧ (t.ctx n).reh = none := by
  obtain ⟨enable, state, place, events, rehearsal⟩ := ctxHandOver_disables (s.setReg (K.lastSampleTime n) s.now) n
  refine ⟨_, (if_neg (by simp [due])).trans (if_pos disabling), enable, state, place, ?_, events, rehearsal⟩
  exact isDisabling_endDisable ..

/-- Settles O29: a sample that works is an evaluation whose contents are shown, and a sample with a disable waiting is a hand-over. -/
theorem contextSamplesKeepTheirLimits : Obligations.ContextSamplesKeepTheirLimits := by
  unfold Obligations.ContextSamplesKeepTheirLimits
  exact ⟨fun _ _ _ due enabled noWrites works running limits _ _ _ =>
      runs_contextSample_running due enabled noWrites works running limits,
    fun _ _ _ => runs_contextSample_hold, fun _ _ _ => runs_contextSample_disable⟩

end Sys2Proof.Machine
end

section
/-!
The shared operations of a solenoid channel: what each does to its channel, and which entries it leaves (O32-O35).
-/
namespace Sys2Proof.Machine
open Sys2Proof

variable {s t : State} {ch j k : Nat}

/-! ### Entries and flags -/

theorem reg_setFlag_ne (h : j ≠ k) (s : State) (i : Nat) (b : Bool) : (s.setFlag k i b).reg j = s.reg j := reg_setReg_ne h s _

theorem reg_bump_ne (h : j ≠ k) (s : State) : (s.bump k).reg j = s.reg j := reg_setReg_ne h s _

theorem flag_congr (h : t.reg k = s.reg k) (i : Nat) : t.flag k i = s.flag k i := congrArg (bitOf · i) h

theorem regN_congr (h : t.reg k = s.reg k) : t.regN k = s.regN k := congrArg Int.toNat h

@[simp] theorem svCh_ite (c : Prop) [Decidable c] (s t : State) (n : Nat) :
    (if c then s else t).svCh n = if c then s.svCh n else t.svCh n := apply_ite (State.svCh · n) c s t

/-! ### What the operations of other units leave of a channel -/

theorem svCh_of_outside {F : List Part} (h : t.outside F = s.outside F) (hF : .sv ∉ F) (n : Nat) : t.svCh n = s.svCh n :=
  congrArg (fun x => x.get Sv.init n) (sv_of_outside h hF)

section
variable (s : State) (n : Nat)

@[simp] theorem svCh_setReg (k : Nat) (v : Int) : (s.setReg k v).svCh n = s.svCh n := rfl
@[simp] theorem svCh_setFlag (k i : Nat) (b : Bool) : (s.setFlag k i b).svCh n = s.svCh n := rfl
@[simp] theorem svCh_bump (k : Nat) : (s.bump k).svCh n = s.svCh n := rfl
@[simp] theorem svCh_startItem (q : Nat) : (s.startItem q).svCh n = s.svCh n := rfl

@[simp] theorem svCh_finish (q : Nat) (o : Outcome) (d : Nat) : (s.finish q o d).svCh n = s.svCh n :=
  svCh_of_outside (F := [.jr]) (outside_finish (by decide) ..) (by decide) n

@[simp] theorem svCh_finishOpt (q : Option Nat) (o : Outcome) (d : Nat) : (s.finishOpt q o d).svCh n = s.svCh n :=
  svCh_of_outside (F := [.jr]) (outside_finishOpt (by decide) ..) (by decide) n

@[simp] theorem svCh_eventKey (so : Src) (u e d : Nat) : (s.eventKey so u e d).svCh n = s.svCh n := by
  rw [eventKey_fields]
  rfl

@[simp] theorem svCh_taken (slot idx sub : Nat) (d : Bytes) (r : WriteRule) : (s.taken slot idx sub d r).svCh n = s.svCh n :=
  congrArg (fun x => x.get Sv.init n) (sv_afterAccept ..)

@[simp] theorem tick_finishOpt (q : Option Nat) (o : Outcome) (d : Nat) : (s.finishOpt q o d).tick = s.tick :=
  tick_of_outside (F := [.jr]) (outside_finishOpt (by decide) ..) (by decide)

end

/-! ### The end of RUNNING time, of a boost and of a start that waits -/

/-- A channel that stops counting RUNNING time keeps its contents but for that time. -/
theorem svCh_svStopRunning (s : State) (ch : Nat) :
    ∃ acc, (s.svStopRunning ch).svCh ch = { s.svCh ch with runningSince := none, binAcc := acc } := by
  cases running : (s.svCh ch).runningSince with
  | none =>
    have same : s.svStopRunning ch = s := by simp only [State.svStopRunning, running]
    exact ⟨(s.svCh ch).binAcc, by rw [same, ← running]⟩
  | some t0 => exact ⟨_, by simp only [State.svStopRunning, running, svCh_setReg, svCh_setSv]; rfl⟩

theorem reg_svStopRunning (h : k ≠ K.onTime ch) (s : State) : (s.svStopRunning ch).reg k = s.reg k := by
  simp only [State.svStopRunning]
  split
  · exact reg_setReg_ne h _ _
  · rfl

theorem onTime_svStopRunning {t0 : Nat} (running : (s.svCh ch).runningSince = some t0) :
    (s.svStopRunning ch).reg (K.onTime ch) = 0 := by
  simp only [State.svStopRunning, running, reg_setReg_self]

@[simp] theorem tick_svStopRunning (s : State) (ch : Nat) : (s.svStopRunning ch).tick = s.tick := by
  simp only [State.svStopRunning]
  split <;> rfl

@[simp] theorem svCh_svDropBoost (s : State) (ch n : Nat) : (s.svDropBoost ch).svCh n = s.svCh n := by
  simp only [State.svDropBoost]
  split <;> rfl

@[simp] theorem tick_svDropBoost (s : State) (ch : Nat) : (s.svDropBoost ch).tick = s.tick := by
  simp only [State.svDropBoost]
  split <;> rfl

theorem reg_svDropBoost (h : k ≠ K.boostOwner (svBank ch)) (s : State) : (s.svDropBoost ch).reg k = s.reg k := by
  simp only [State.svDropBoost]
  split
  · exact reg_setReg_ne h _ _
  · rfl

/-- A channel that gives the boost supply back no longer owns it (R269, R282). -/
theorem boostOwner_svDropBoost (s : State) (ch : Fin 32) : (s.svDropBoost ch).reg (K.boostOwner (svBank ch)) ≠ (ch : Nat) := by
  simp only [State.svDropBoost]
  split
  · rw [reg_setReg_self]
    omega
  · assumption

theorem svCh_svDiscardPending (s : State) (ch : Nat) (a : Abort) :
    (s.svDiscardPending ch a).svCh ch = { s.svCh ch with pending := none } := by
  cases pending : (s.svCh ch).pending with
  | none =>
    have same : s.svDiscardPending ch a = s := by simp only [State.svDiscardPending, pending]
    rw [same, ← pending]
  | some p =>
    simp only [State.svDiscardPending, pending]
    split <;> simp

theorem reg_svDiscardPending_ne (state : k ≠ K.svState ch) (flags : k ≠ K.svFlags ch) (s : State) (a : Abort) :
    (s.svDiscardPending ch a).reg k = s.reg k := by
  simp only [State.svDiscardPending]
  split
  · split <;> simp only [reg_finishOpt, reg_setReg_ne state, reg_setFlag_ne flags, reg_setSv]
  · rfl

theorem flag_svDiscardPending {i : Nat} (h : i ≠ 14) (s : State) (ch : Nat) (a : Abort) :
    (s.svDiscardPending ch a).flag (K.svFlags ch) i = s.flag (K.svFlags ch) i := by
  simp only [State.svDiscardPending]
  split
  · rw [flag_congr (reg_finishOpt ..)]
    split
    · rw [flag_setReg_ne _ (by simp), flag_setFlag_ne h]
      rfl
    · rw [flag_setFlag_ne h]
      rfl
  · rfl

/-- Only a WAITING channel leaves its state with its start. -/
theorem svState_svDiscardPending_of_ne (h : s.reg (K.svState ch) ≠ svWaiting) (a : Abort) :
    (s.svDiscardPending ch a).reg (K.svState ch) = s.reg (K.svState ch) := by
  have apart : K.svState ch ≠ K.svFlags ch := by simp
  simp only [State.svDiscardPending]
  split
  · simp only [reg_finishOpt, reg_setFlag_ne apart, reg_setSv, h, if_false]
  · rfl

theorem svState_svDiscardPending_waiting (waiting : s.reg (K.svState ch) = svWaiting) (pending : (s.svCh ch).pending.isSome = true)
    (a : Abort) : (s.svDiscardPending ch a).reg (K.svState ch) = svOff := by
  obtain ⟨p, start⟩ := Option.isSome_iff_exists.1 pending
  have apart : K.svState ch ≠ K.svFlags ch := by simp
  simp only [State.svDiscardPending, start, reg_setFlag_ne apart, reg_setSv, waiting, if_true, reg_finishOpt, reg_setReg_self]

/-! ### RELEASE and disable commands that complete -/

@[simp] theorem svCh_svReleaseDone (s : State) (ch n : Nat) : (s.svReleaseDone ch).svCh n = s.svCh n :=
  svCh_of_outside (F := [.jr]) (outside_svReleaseDone (by decide) ..) (by decide) n

@[simp] theorem reg_svReleaseDone (s : State) (ch k : Nat) : (s.svReleaseDone ch).reg k = s.reg k := reg_finishAll ..

@[simp] theorem isDisabling_svReleaseDone (s : State) (ch a : Nat) : (s.svReleaseDone ch).isDisabling a = s.isDisabling a :=
  congrArg (fun l : List Disabling => l.any fun d => d.aim == a) (disabling_finishAll ..)

@[simp] theorem svCh_svDisableDone (s : State) (ch n : Nat) : (s.svDisableDone ch).svCh n = s.svCh n :=
  svCh_of_outside (F := [.regs, .jr, .cues])
    ((outside_endDisable (by decide) ..).trans
      ((outside_cancelCuesOnTarget (by decide) (by decide) (by decide) ..).trans (by simp))) (by decide) n

theorem reg_svDisableDone_ne (enable : k ≠ K.svEnable ch) (state : k ≠ K.svState ch) (cues : k / 256 ≠ 0x2422) (s : State) :
    (s.svDisableDone ch).reg k = s.reg k := by
  simp only [State.svDisableDone, reg_endDisable, reg_cancelCuesOnTarget cues]
  split <;> simp only [reg_setReg_ne state, reg_setReg_ne enable]

/-- A disable takes effect (R92, R289): the channel's setting is in force, and an OFF or WAITING channel shows DISABLED. -/
theorem svDisableDone_disables (h : s.reg (K.svState ch) = svOff ∨ s.reg (K.svState ch) = svWaiting) :
    (s.svDisableDone ch).reg (K.svEnable ch) = 0 ∧ (s.svDisableDone ch).reg (K.svState ch) = svDisabled := by
  have apart : K.svState ch ≠ K.svEnable ch := by simp
  have idle : (s.setReg (K.svEnable ch) 0).reg (K.svState ch) = svOff ∨ (s.setReg (K.svEnable ch) 0).reg (K.svState ch) = svWaiting := by
    rwa [reg_setReg_ne apart]
  simp only [State.svDisableDone, reg_endDisable]
  refine ⟨?_, ?_⟩ <;> rw [reg_cancelCuesOnTarget (by simp; omega), if_pos (by simpa using idle)]
  · rw [reg_setReg_ne apart.symm, reg_setReg_self]
  · exact reg_setReg_self ..

theorem isDisabling_svDisableDone (s : State) (ch : Nat) : (s.svDisableDone ch).isDisabling (aimSv ch) = false :=
  isDisabling_endDisable ..

/-! ### END and OFF -/

theorem reg_showClaims_ne {b : Nat} (h : k ≠ K.claimedCurrent b) (s : State) : (s.showClaims b).reg k = s.reg k := reg_setReg_ne h _ _

@[simp] theorem svCh_showClaims (s : State) (b n : Nat) : (s.showClaims b).svCh n = s.svCh n := rfl

/-- The entries of a channel's own status object stand apart from those of its bank and its settings, and from those of the cues. -/
theorem status_ne (row : k / 256 = 0x4040 + ch) :
    k ≠ K.claimedCurrent (svBank ch) ∧ k ≠ K.boostOwner (svBank ch) ∧ k ≠ K.svEnable ch ∧ k / 256 ≠ 0x2422 := by
  refine ⟨?_, ?_, ?_, ?_⟩ <;> simp [svBank] <;> omega

theorem svEnable_ne (ch : Nat) : K.svEnable ch ≠ K.boostOwner (svBank ch) ∧ K.svEnable ch ≠ K.onTime ch := by
  refine ⟨?_, ?_⟩ <;> simp [svBank] <;> omega

/-- What the end of a run does to the contents of its channel (R279). -/
def Sv.atEnd (x : Sv) (tick acc : Nat) : Sv :=
  { x with
    begun := true, due := tick, start := tick, cond := .slowDecay, condSince := tick, boost := .unset, window := none, checking := false,
    ditherAmp := 0, setpoint := 0, runningSince := none, binAcc := acc }

theorem svCh_svToEnd (s : State) (ch : Nat) : ∃ acc, (s.svToEnd ch).svCh ch = (s.svCh ch).atEnd s.tick acc := by
  obtain ⟨acc, stopped⟩ := svCh_svStopRunning s ch
  refine ⟨acc, ?_⟩
  simp [State.svToEnd, stopped, Sv.atEnd]

/-- The status entries of a channel that enters END, but for its state. -/
theorem reg_svToEnd_status (row : k / 256 = 0x4040 + ch) (state : k ≠ K.svState ch) (s : State) :
    (s.svToEnd ch).reg k =
      if k = K.svSetpoint ch ∨ k = K.grant ch then 0
      else if k = K.stitchIndex ch then (((s.svCh ch).program.length - 1 : Nat) : Int) else (s.svStopRunning ch).reg k := by
  obtain ⟨claims, boost, enable, cues⟩ := status_ne row
  simp only [State.svToEnd, reg_showClaims_ne claims, reg_ite, reg_svDisableDone_ne enable state cues, ite_self, reg_svReleaseDone, reg_setReg, state, if_false, reg_setSv, reg_svDropBoost boost]
  split_ifs <;> simp_all

/-- What the end of a program does to the contents of its channel (R278). -/
def Sv.atOff (x : Sv) (tick acc : Nat) : Sv :=
  { x with
    program := [], cond := .off, condSince := tick, begun := false, boost := .unset, window := none, checking := false, ditherAmp := 0,
    setpoint := 0, runningSince := none, binAcc := acc }

theorem svCh_svToOff (s : State) (ch : Nat) : ∃ acc, (s.svToOff ch).svCh ch = (s.svCh ch).atOff s.tick acc := by
  obtain ⟨acc, stopped⟩ := svCh_svStopRunning s ch
  refine ⟨acc, ?_⟩
  simp [State.svToOff, stopped, Sv.atOff]

/-- A disable that waits at the end of a run changes the channel's state and its enable only, and the cues. -/
theorem reg_disableDue (enable : k ≠ K.svEnable ch) (state : k ≠ K.svState ch) (cues : k / 256 ≠ 0x2422) (s : State) :
    (if s.isDisabling (aimSv ch) then s.svDisableDone ch else s).reg k = s.reg k := by
  rw [reg_ite, reg_svDisableDone_ne enable state cues, ite_self]

/-- The status entries of a channel that becomes OFF, but for its state and its flags. -/
theorem reg_svToOff_status (row : k / 256 = 0x4040 + ch) (state : k ≠ K.svState ch) (flags : k ≠ K.svFlags ch) (s : State) :
    (s.svToOff ch).reg k =
      if k = K.svSetpoint ch ∨ k = K.grant ch ∨ k = K.stitchIndex ch then 0
      else if k = K.program ch then 0xFF else (s.svStopRunning ch).reg k := by
  obtain ⟨claims, boost, enable, cues⟩ := status_ne row
  unfold State.svToOff
  extract_lets a x b st c d e
  have shown : d.reg k = if k = K.svSetpoint ch ∨ k = K.grant ch ∨ k = K.stitchIndex ch then 0
      else if k = K.program ch then 0xFF else a.reg k := by
    simp only [d, c, b, reg_svReleaseDone, reg_setReg, state, if_false, reg_setSv]
    split_ifs <;> simp_all
  rw [reg_showClaims_ne claims, reg_setFlag_ne flags, reg_disableDue enable state cues, shown, reg_svDropBoost boost]

theorem flag_svToOff {i : Nat} (h : i ≠ 14) (s : State) (ch : Nat) :
    (s.svToOff ch).flag (K.svFlags ch) i = s.flag (K.svFlags ch) i := by
  obtain ⟨claims, boost, enable, cues⟩ := status_ne (k := K.svFlags ch) (ch := ch) (by simp; omega)
  unfold State.svToOff
  extract_lets a x b st c d e
  have kept : d.reg (K.svFlags ch) = s.reg (K.svFlags ch) := by
    simp only [d, c, b, reg_svReleaseDone]
    simp [reg_setReg, a, reg_svStopRunning, reg_svDropBoost boost]
  rw [flag_congr (reg_showClaims_ne claims _), flag_setFlag_ne h, flag_congr ((reg_disableDue enable (by simp) cues d).trans kept)]

/-- A channel that no start and no disable waits for is OFF (R278). -/
theorem svState_svToOff (enabled : s.reg (K.svEnable ch) = 1) (running : s.isDisabling (aimSv ch) = false)
    (pending : (s.svCh ch).pending = none) : (s.svToOff ch).reg (K.svState ch) = svOff := by
  obtain ⟨claims, -⟩ := status_ne (k := K.svState ch) (ch := ch) (by simp; omega)
  obtain ⟨boost, time⟩ := svEnable_ne ch
  obtain ⟨acc, stopped⟩ := svCh_svStopRunning s ch
  unfold State.svToOff
  extract_lets a x b st c d e
  have noStart : x.pending = none := by rw [show x = _ from (svCh_svDropBoost ..).trans stopped, ← pending]
  have on : a.reg (K.svEnable ch) ≠ 0 := by
    rw [reg_svDropBoost boost, reg_svStopRunning time, enabled]
    decide
  have off : st = svOff := (if_neg on).trans (if_neg (by simp [noStart]))
  have still : d.isDisabling (aimSv ch) = false := by
    rw [isDisabling_svReleaseDone]
    refine Eq.trans ?_ running
    exact isDisabling_of_outside (F := [.regs, .sv]) (by simp [c, b, a]) (by decide) _
  have last : e = d := if_neg (by simp [still])
  rw [reg_showClaims_ne claims, reg_setFlag_ne (by simp), last, reg_svReleaseDone]
  simp [c, off, reg_setReg]

/-! ### Faults -/

@[simp] theorem reg_svClamp (s : State) (ch k : Nat) : (s.svClamp ch).reg k = s.reg k := rfl

/-- A fault ends the program and the start that waits, and what flows falls by FAST_DECAY (R278, R294). -/
theorem svCh_svFail (s : State) (ch bit : Nat) : ∃ tick acc since, (s.svFail ch bit).svCh ch =
    { ({ s.svCh ch with pending := none } : Sv).atOff tick acc with cond := .fastDecay, condSince := since } := by
  obtain ⟨acc, off⟩ := svCh_svToOff (s.svDiscardPending ch .hardwareFault) ch
  rw [svCh_svDiscardPending] at off
  exact ⟨(s.svDiscardPending ch .hardwareFault).tick, acc, ((s.svDiscardPending ch .hardwareFault).svToOff ch).tick, by
    rw [State.svFail, svCh_eventKey, svCh_setFlag, svCh_setReg, State.svClamp, svCh_setSv, off]⟩

theorem svFail_shows (s : State) (ch bit : Nat) :
    (s.svFail ch bit).reg (K.svState ch) = svFault ∧ (s.svFail ch bit).flag (K.svFlags ch) bit = true ∧
    (s.svFail ch bit).reg (K.grant ch) = 0 := by
  unfold State.svFail
  refine ⟨?_, by rw [flag_eventKey, flag_setFlag], ?_⟩
  · rw [reg_eventKey, reg_setFlag_ne (by simp), reg_setReg_self]
  · rw [reg_eventKey, reg_setFlag_ne (by simp), reg_setReg_ne (by simp), reg_svClamp,
      reg_svToOff_status (by simp; omega) (by simp) (by simp), if_pos (.inr (.inl rfl))]

end Sys2Proof.Machine
end

section
/-!
The part of the state that the operations of one solenoid channel leave as it is (O32, O35).
-/
namespace Sys2Proof.Machine
open Sys2Proof

variable {s t : State} {ch : Nat}

/-- What no operation of solenoid channel `ch` writes: the fields of other units, the other channels, and the entries that are neither the
channel's nor its bank's nor those of the cues. -/
def State.svRest (s : State) (ch : Nat) : State × ({n // n ≠ ch} → Sv) × ({k // ¬ SvEntry ch k} → Int) :=
  (s.outside [.regs, .jr, .book, .cues, .sv], fun n => s.svCh n, fun k => s.reg k)

section
variable (h : t.svRest ch = s.svRest ch)
include h

theorem outside_of_svRest : t.outside [.regs, .jr, .book, .cues, .sv] = s.outside [.regs, .jr, .book, .cues, .sv] := congrArg Prod.fst h

theorem svCh_of_svRest {n : Nat} (hn : n ≠ ch) : t.svCh n = s.svCh n := congrFun (congrArg (·.2.1) h) ⟨n, hn⟩

theorem reg_of_svRest {k : Nat} (hk : ¬ SvEntry ch k) : t.reg k = s.reg k := congrFun (congrArg (·.2.2) h) ⟨k, hk⟩

theorem svState_of_svRest {n : Nat} (hn : n ≠ ch) (hch : ch < 32) : t.reg (K.svState n) = s.reg (K.svState n) :=
  reg_of_svRest h (by simp [SvEntry]; omega)

end

/-! ### Entries, records and items -/

@[simp] theorem svRest_ite (c : Prop) [Decidable c] (s t : State) (ch : Nat) :
    (if c then s else t).svRest ch = if c then s.svRest ch else t.svRest ch := apply_ite (State.svRest · ch) c s t

theorem svRest_setReg {k : Nat} (hk : SvEntry ch k) (s : State) (v : Int) : (s.setReg k v).svRest ch = s.svRest ch :=
  Prod.ext (outside_setReg (by decide) ..)
    (Prod.ext rfl (funext fun j => reg_setReg_ne (ne_of_mem_of_not_mem (s := {k | SvEntry ch k}) hk j.2).symm s v))

/-- An operation that leaves the entries and the channels. -/
theorem svRest_of_outside (h : t.outside [.jr, .book] = s.outside [.jr, .book]) : t.svRest ch = s.svRest ch := by
  have fields : t = s.merge [.jr, .book] t := eq_merge_of_outside h
  rw [fields]
  rfl

section
variable (s : State) (ch : Nat)

@[simp] theorem svRest_setReg_status {j : Nat} (hj : j < 256) (v : Int) :
    (s.setReg ((0x4040 + ch) * 256 + j) v).svRest ch = s.svRest ch := svRest_setReg (by simp [SvEntry]; omega) s v

@[simp] theorem svRest_setReg_setting {j : Nat} (hj : j < 256) (v : Int) :
    (s.setReg ((0x4020 + ch) * 256 + j) v).svRest ch = s.svRest ch := svRest_setReg (by simp [SvEntry]; omega) s v

@[simp] theorem svRest_setReg_bank {j : Nat} (hj : j < 256) (v : Int) :
    (s.setReg ((0x4008 + svBank ch) * 256 + j) v).svRest ch = s.svRest ch := svRest_setReg (by simp [SvEntry, svBank]; omega) s v

@[simp] theorem svRest_setFlag_status {j : Nat} (hj : j < 256) (i : Nat) (b : Bool) :
    (s.setFlag ((0x4040 + ch) * 256 + j) i b).svRest ch = s.svRest ch := svRest_setReg_status s ch hj _

@[simp] theorem svRest_bump_status {j : Nat} (hj : j < 256) : (s.bump ((0x4040 + ch) * 256 + j)).svRest ch = s.svRest ch :=
  svRest_setReg_status s ch hj _

@[simp] theorem svRest_bump_bank {j : Nat} (hj : j < 256) : (s.bump ((0x4008 + svBank ch) * 256 + j)).svRest ch = s.svRest ch :=
  svRest_setReg_bank s ch hj _

@[simp] theorem svRest_setSv (x : Sv) : (s.setSv ch x).svRest ch = s.svRest ch :=
  Prod.ext (outside_with_sv (by decide) ..) (Prod.ext (funext fun n => svCh_setSv_ne s ch x n.2) rfl)

@[simp] theorem svRest_finishOpt (q : Option Nat) (o : Outcome) (d : Nat) : (s.finishOpt q o d).svRest ch = s.svRest ch :=
  svRest_of_outside (outside_finishOpt (by decide) ..)

@[simp] theorem svRest_eventKey (so : Src) (u e d : Nat) : (s.eventKey so u e d).svRest ch = s.svRest ch := by
  rw [eventKey_fields]
  rfl

@[simp] theorem svRest_endDisable (a : Nat) : (s.endDisable a).svRest ch = s.svRest ch :=
  svRest_of_outside (outside_endDisable (by decide) ..)

@[simp] theorem svRest_cancelCuesOnTarget (kind target : Nat) : (s.cancelCuesOnTarget kind target).svRest ch = s.svRest ch :=
  have kept : (s.cancelCuesOnTarget kind target).outside [.regs, .jr, .cues] = s.outside [.regs, .jr, .cues] :=
    outside_cancelCuesOnTarget (by decide) (by decide) (by decide) ..
  Prod.ext (outside_cancelCuesOnTarget (by decide) (by decide) (by decide) ..)
    (Prod.ext (funext fun n => svCh_of_outside kept (by decide) n)
      (funext fun k => reg_cancelCuesOnTarget (fun cues => k.2 (.inr (.inr (.inr cues)))) ..))

/-! ### The ends of starts, runs and disables -/

@[simp] theorem svRest_showClaims : (s.showClaims (svBank ch)).svRest ch = s.svRest ch := by simp [State.showClaims]

@[simp] theorem svRest_svStopRunning : (s.svStopRunning ch).svRest ch = s.svRest ch := by
  simp only [State.svStopRunning]
  split <;> simp

@[simp] theorem svRest_svDropBoost : (s.svDropBoost ch).svRest ch = s.svRest ch := by simp [State.svDropBoost]

@[simp] theorem svRest_svDiscardPending (a : Abort) : (s.svDiscardPending ch a).svRest ch = s.svRest ch := by
  simp only [State.svDiscardPending]
  split <;> simp

@[simp] theorem svRest_svReleaseDone : (s.svReleaseDone ch).svRest ch = s.svRest ch :=
  svRest_of_outside (outside_svReleaseDone (by decide) ..)

@[simp] theorem svRest_svDisableDone : (s.svDisableDone ch).svRest ch = s.svRest ch := by simp [State.svDisableDone]

@[simp] theorem svRest_svToEnd : (s.svToEnd ch).svRest ch = s.svRest ch := by simp [State.svToEnd]

@[simp] theorem svRest_svToOff : (s.svToOff ch).svRest ch = s.svRest ch := by simp [State.svToOff]

@[simp] theorem svRest_svClamp : (s.svClamp ch).svRest ch = s.svRest ch := by simp [State.svClamp]

@[simp] theorem svRest_svFail (bit : Nat) : (s.svFail ch bit).svRest ch = s.svRest ch := by simp [State.svFail]

@[simp] theorem svRest_svSafeOff : (s.svSafeOff ch).svRest ch = s.svRest ch := by simp [State.svSafeOff]

/-! ### Stitches -/

@[simp] theorem svRest_svMeasured (mA : Nat) : (s.svMeasured ch mA).svRest ch = s.svRest ch := by simp [State.svMeasured]

@[simp] theorem svRest_svGoto (i : Nat) : (s.svGoto ch i).svRest ch = s.svRest ch := by simp [State.svGoto]

@[simp] theorem svRest_svNext : (s.svNext ch).svRest ch = s.svRest ch := svRest_svGoto ..

@[simp] theorem svRest_svBegin (c : OutCond) : (s.svBegin ch c).svRest ch = s.svRest ch := by simp [State.svBegin]

@[simp] theorem svRest_svRegulate (base target mA : Nat) : (s.svRegulate ch base target mA).svRest ch = s.svRest ch := by
  simp [State.svRegulate]

@[simp] theorem svRest_svHold (base mA : Nat) : (s.svHold ch base mA).svRest ch = s.svRest ch := svRest_svRegulate ..

@[simp] theorem svRest_svDecayStitch (op : Nat) (c : OutCond) : (s.svDecayStitch ch op c).svRest ch = s.svRest ch := by
  simp [State.svDecayStitch]

@[simp] theorem svRest_ttpFail (bit : Nat) : (s.ttpFail ch bit).svRest ch = s.svRest ch := by simp [State.ttpFail]

@[simp] theorem svRest_ttpReached (mA : Nat) : (s.ttpReached ch mA).svRest ch = s.svRest ch := by
  simp only [State.ttpReached]
  split <;> simp

@[simp] theorem svRest_ttpEnd : (s.ttpEnd ch).svRest ch = s.svRest ch := by simp [State.ttpEnd]

@[simp] theorem svRest_peakEnd : (s.peakEnd ch).svRest ch = s.svRest ch := by simp [State.peakEnd]

/-! ### The boost, the peak budget and starts -/

@[simp] theorem svRest_countBoostWait : (s.countBoostWait ch).svRest ch = s.svRest ch := by simp [State.countBoostWait]

@[simp] theorem svRest_countRoomWait : (s.countRoomWait ch).svRest ch = s.svRest ch := by simp [State.countRoomWait]

@[simp] theorem svRest_takeBoost (m : BoostMode) : (s.takeBoost ch m).svRest ch = s.svRest ch := by simp [State.takeBoost]

@[simp] theorem svRest_peakRun (i : Nat) (m : BoostMode) (check : Bool) : (s.peakRun ch i m check).svRest ch = s.svRest ch := by
  simp [State.peakRun]

@[simp] theorem svRest_peakBegin (mA : Nat) (m : BoostMode) : (s.peakBegin ch mA m).svRest ch = s.svRest ch := by simp [State.peakBegin]

@[simp] theorem svRest_boostBegin (mA : Nat) : (s.boostBegin ch mA).svRest ch = s.svRest ch := by simp [State.boostBegin]

@[simp] theorem svRest_supplyPeak (mA : Nat) : (s.supplyPeak ch mA).svRest ch = s.svRest ch := by simp [State.supplyPeak]

@[simp] theorem svRest_setPend (p : PendStart) : (s.setPend ch p).svRest ch = s.svRest ch := svRest_setSv ..

@[simp] theorem svRest_firstBoost (program : List Nat) (m : BoostMode) : (s.firstBoost ch program m).svRest ch = s.svRest ch := by
  simp [State.firstBoost]

@[simp] theorem svRest_svBeginProgram (p : PendStart) (m : BoostMode) : (s.svBeginProgram ch p m).svRest ch = s.svRest ch := by
  simp [State.svBeginProgram]

/-- The first half of an arbitration: a start takes its claim as grant where there is room for it, what room there is once it has waited
the limit, and is counted as it waits (R282). -/
def State.grantRoom (s : State) (ch : Nat) (p : PendStart) : State :=
  let room : Int := s.reg K.bankContinuousLimit - (s.claimsOfOthers ch : Nat)
  if p.banked then s
  else if (p.claim : Int) ≤ room then s.setPend ch { p with grant := p.claim, banked := true }
  else if p.req + s.deferTicks ≤ s.tick then
    (s.setPend ch { p with grant := (max room 0).toNat, banked := true, clipped := true }).bump (K.bankLimitClips (svBank ch))
  else if p.roomCounted then s
  else (s.setPend ch { p with roomCounted := true }).countRoomWait ch

/-- The second half: a start that has its grant begins, with the boost where its program asks for it first (R282). -/
def State.beginGranted (s : State) (ch : Nat) : State :=
  match (s.svCh ch).pending with
  | none => s
  | some p =>
    if !p.banked then s
    else if !firstIsBoost p.program then s.svBeginProgram ch p .unset
    else match s.decideBoost ch p.req with
      | .unset => if p.boostCounted then s else (s.setPend ch { p with boostCounted := true }).countBoostWait ch
      | m => s.svBeginProgram ch p m

variable {s ch} in
theorem arbitrateOne_of_pending {p : PendStart} (pending : (s.svCh ch).pending = some p) :
    s.arbitrateOne ch = (s.grantRoom ch p).beginGranted ch := by
  simp only [State.arbitrateOne, pending, State.grantRoom, decide_eq_true_eq]
  rfl

@[simp] theorem svRest_grantRoom (p : PendStart) : (s.grantRoom ch p).svRest ch = s.svRest ch := by simp [State.grantRoom]

@[simp] theorem svRest_beginGranted : (s.beginGranted ch).svRest ch = s.svRest ch := by
  unfold State.beginGranted
  split
  · rfl
  · split
    · rfl
    · split
      · exact svRest_svBeginProgram ..
      · split <;> simp

@[simp] theorem svRest_arbitrateOne : (s.arbitrateOne ch).svRest ch = s.svRest ch := by
  cases pending : (s.svCh ch).pending with
  | none => simp only [State.arbitrateOne, pending]
  | some p => rw [arbitrateOne_of_pending pending, svRest_beginGranted, svRest_grantRoom]

@[simp] theorem svRest_maxOnTrip : (s.maxOnTrip ch).svRest ch = s.svRest ch := by simp [State.maxOnTrip]

end

end Sys2Proof.Machine
end

section
/-!
The faults of the solenoid banks (O35).
-/
namespace Sys2Proof.Machine
open Sys2Proof

variable (s : State)

/-! ### Faults of a channel -/

/-- The sample of a channel that runs a program, or whose current decays, shows its current alone (R293). -/
theorem svMeasured_of_active {ch : Nat} (active : s.reg (K.svState ch) = svRunning ∨ s.reg (K.svState ch) = svDecaying) (mA : Nat) :
    s.svMeasured ch mA = s.setReg (K.svCurrent ch) (min 65535 mA : Nat) := by
  simp only [State.svMeasured, reg_setReg_ne (show K.svState ch ≠ K.svCurrent ch by simp)]
  exact if_neg (by obtain h | h := active <;> simp [h])

theorem runs_openLoad (ch : Fin 32) (mA held : Nat) (running : s.reg (K.svState ch) = svRunning) (driven : 200 ≤ s.reg (K.svSetpoint ch))
    (low : mA < 50) (long : ticksMs 2 ≤ held) :
    Runs (.openLoad ch mA held) s fun t =>
      t.reg (K.svState ch) = svFault ∧ t.flag (K.svFlags ch) 8 = true ∧ (t.svCh ch).program = [] ∧ (t.svCh ch).pending = none ∧
      t.reg (K.grant ch) = 0 := by
  have ran : exec (.openLoad ch mA held) s = .next ((s.setReg (K.svCurrent ch) (min 65535 mA : Nat)).svFail ch 8) := by
    change execOpenLoad ch mA held s = _
    simp only [execOpenLoad, svMeasured_of_active s (.inl running), reg_setReg_ne (show K.svState ch ≠ K.svCurrent ch by simp),
      reg_setReg_ne (show K.svSetpoint ch ≠ K.svCurrent ch by simp), running, driven, low, long, decide_true, Bool.and_self, if_true]
  obtain ⟨state, flag, grant⟩ := svFail_shows (s.setReg (K.svCurrent ch) (min 65535 mA : Nat)) ch 8
  obtain ⟨_, _, _, contents⟩ := svCh_svFail (s.setReg (K.svCurrent ch) (min 65535 mA : Nat)) ch 8
  exact ⟨_, ran, state, flag, by rw [contents]; rfl, by rw [contents]; rfl, grant⟩

theorem runs_overcurrent (ch : Fin 32) (mA : Nat) (d : Bool) (exceeded : d = true ∨ 30000 < mA) (works : s.reg (K.svState ch) ≠ svFault) :
    Runs (.overcurrent ch mA d) s fun t =>
      t.reg (K.svState ch) = svFault ∧ t.flag (K.svFlags ch) 9 = true ∧ (t.svCh ch).cond = .fastDecay := by
  have ran : exec (.overcurrent ch mA d) s = .next (s.svFail ch 9) := congrArg Host.Outcome.next (if_pos (by simp [exceeded, works]))
  obtain ⟨state, flag, -⟩ := svFail_shows s ch 9
  obtain ⟨_, _, _, contents⟩ := svCh_svFail s ch 9
  exact ⟨_, ran, state, flag, by rw [contents]⟩

theorem runs_shortToSupply (ch : Fin 32) (mV held : Nat) (high : 3000 < mV) (long : ticksMs 10 ≤ held) (cond : (s.svCh ch).cond = .off)
    (off : s.reg (K.svState ch) = svOff) :
    Runs (.shortToSupply ch mV held) s fun t =>
      t.reg (K.svState ch) = svFault ∧ t.flag (K.svFlags ch) 10 = true ∧ (t.svCh ch).shortNow = true := by
  have ran : exec (.shortToSupply ch mV held) s = .next ((s.setSv ch { s.svCh ch with shortNow := true }).svFail ch 10) :=
    (if_neg (by omega)).trans ((if_neg (by simp [cond]; omega)).trans (congrArg Host.Outcome.next (if_pos (by simp [off]))))
  obtain ⟨state, flag, -⟩ := svFail_shows (s.setSv ch { s.svCh ch with shortNow := true }) ch 10
  obtain ⟨_, _, _, contents⟩ := svCh_svFail (s.setSv ch { s.svCh ch with shortNow := true }) ch 10
  exact ⟨_, ran, state, flag, by rw [contents, svCh_setSv]; rfl⟩

theorem runs_decayStuck (ch : Fin 32) (decaying : s.reg (K.svState ch) = svDecaying) (long : (s.svCh ch).start + ticksMs 100 ≤ s.tick) :
    Runs (.decayStuck ch) s fun t => t.reg (K.svState ch) = svFault ∧ t.flag (K.svFlags ch) 12 = true := by
  have ran : exec (.decayStuck ch) s = .next (s.svFail ch 12) := congrArg Host.Outcome.next (if_pos (by simp [decaying, long]))
  obtain ⟨state, flag, -⟩ := svFail_shows s ch 12
  exact ⟨_, ran, state, flag⟩

theorem runs_overtemp (ch : Fin 32) (c : Int) (hot : 1500 < c) (new : s.flag (K.svFlags ch) 11 = false) :
    Runs (.overtemp ch c) s fun t =>
      t.reg (K.svState ch) = svFault ∧ t.flag (K.svFlags ch) 11 = true ∧ (t.svCh ch).hotNow = true := by
  have clear : (s.setSv ch { s.svCh ch with hotNow := true }).flag (K.svFlags ch) 11 = false := new
  have ran : exec (.overtemp ch c) s = .next ((s.setSv ch { s.svCh ch with hotNow := true }).svFail ch 11) :=
    (if_neg (by omega)).trans ((if_neg (by omega)).trans (congrArg Host.Outcome.next (if_neg (by simp [clear]))))
  obtain ⟨state, flag, -⟩ := svFail_shows (s.setSv ch { s.svCh ch with hotNow := true }) ch 11
  obtain ⟨_, _, _, contents⟩ := svCh_svFail (s.setSv ch { s.svCh ch with hotNow := true }) ch 11
  exact ⟨_, ran, state, flag, by rw [contents, svCh_setSv]; rfl⟩

/-- REG_LOW comes and goes with the current (R294). -/
theorem runs_regLow (ch : Fin 32) (mA held : Nat) :
    Runs (.regLow ch mA held) s fun t =>
      (s.regN (K.svSetpoint ch) ≤ mA → t.flag (K.svFlags ch) 6 = false) ∧
      (s.reg (K.svState ch) = svRunning → mA + s.regN (K.regBand ch) < s.regN (K.svSetpoint ch) → ticksMs 5 ≤ held →
        t.flag (K.svFlags ch) 6 = true) ∧ t.sv = s.sv := by
  refine ⟨_, rfl, fun reached => ?_, fun running low long => ?_, ?_⟩
  · rw [if_pos reached, flag_setFlag]
  · rw [if_neg (by omega), if_pos (by simp [running, low, long]), flag_setFlag]
  · split_ifs <;> rfl

/-! ### Faults of a bank -/

theorem runs_boostFailed (b : Fin 8) (mV held : Nat) (enabled : s.reg (K.bankEnable b) = 1) (free : s.reg (K.boostOwner b) = 0xFF)
    (out : 10 * mV < 9 * s.regN (K.boostVoltage b) ∨ 11 * s.regN (K.boostVoltage b) < 10 * mV) (long : ticksMs 10 ≤ held)
    (new : s.flag (K.bankFlags b) 0 = false) :
    Runs (.boostFailed b mV held) s fun t =>
      t.flag (K.bankFlags b) 0 = true ∧ t.reg (K.bankState b) = 2 ∧ t.reg (K.boostMeasured b) = (min 65535 mV : Nat) ∧ t.sv = s.sv := by
  have shown {k : Nat} (h : k ≠ K.boostMeasured b) : (s.setReg (K.boostMeasured b) (min 65535 mV : Nat)).reg k = s.reg k :=
    reg_setReg_ne h _ _
  have ran : exec (.boostFailed b mV held) s =
      .next ((((s.setReg (K.boostMeasured b) (min 65535 mV : Nat)).setFlag (K.bankFlags b) 0 true).setReg (K.bankState b) 2).eventKey
        .solenoids b (K.bankFlags b)) := by
    refine if_pos ?_
    rw [shown (by simp; omega), shown (by simp), flag_congr (shown (by simp)), regN_congr (shown (by simp; omega))]
    simp [enabled, free, out, long, new]
  refine ⟨_, ran, ?_, ?_, ?_, ?_⟩
  · rw [flag_eventKey, flag_setReg_ne _ (by simp), flag_setFlag]
  · rw [reg_eventKey, reg_setReg_self]
  · rw [reg_eventKey, reg_setReg_ne (by simp), reg_setFlag_ne (by simp), reg_setReg_self]
  · rw [eventKey_fields]
    rfl

/-- The shown voltage of a supply input and its SUPPLY_LOW flag, at one bank (R295). -/
def State.bankVoltage (s : State) (mV : Nat) (low : Bool → Bool) (c : Nat) : State :=
  (s.setReg (K.supplyVoltage c) (min 65535 mV : Nat)).setFlag (K.bankFlags c) 1 (low (s.flag (K.bankFlags c) 1))

theorem inputVoltage_eq (b mV : Nat) (low : Bool → Bool) :
    s.inputVoltage b mV low = (inputBanks b).foldl (fun s c => s.bankVoltage mV low c) s := rfl

theorem reg_bankVoltage_ne {b c j : Nat} (h : c ≠ b) (hj : j < 256) (mV : Nat) (low : Bool → Bool) :
    (s.bankVoltage mV low b).reg ((0x4008 + c) * 256 + j) = s.reg ((0x4008 + c) * 256 + j) := by
  rw [State.bankVoltage, reg_setFlag_ne (by simp; omega), reg_setReg_ne (by simp; omega)]

theorem bankVoltage_shows (mV : Nat) (low : Bool → Bool) (c : Nat) :
    (s.bankVoltage mV low c).reg (K.supplyVoltage c) = (min 65535 mV : Nat) ∧
    (s.bankVoltage mV low c).flag (K.bankFlags c) 1 = low (s.flag (K.bankFlags c) 1) := by
  unfold State.bankVoltage
  exact ⟨by rw [reg_setFlag_ne (by simp), reg_setReg_self], flag_setFlag ..⟩

theorem mem_inputBanks {b : Nat} {c : Fin 8} : (c : Nat) ∈ inputBanks b ↔ svInput c = svInput b := by
  simp [inputBanks]

/-- A bank that the list does not name keeps its entries. -/
theorem reg_foldl_bankVoltage_ne {c j : Nat} {l : List Nat} (h : c ∉ l) (hj : j < 256) (mV : Nat) (low : Bool → Bool) :
    (l.foldl (fun s b => s.bankVoltage mV low b) s).reg ((0x4008 + c) * 256 + j) = s.reg ((0x4008 + c) * 256 + j) :=
  reg_foldl (fun t _ hb => reg_bankVoltage_ne t (ne_of_mem_of_not_mem hb h).symm hj mV low) s

/-- Every bank of a supply input shows its voltage and takes its flag; the banks of the other input stay (R267, R295). -/
theorem inputVoltage_shows (b : Nat) (mV : Nat) (low : Bool → Bool) (c : Fin 8) :
    (svInput c = svInput b → (s.inputVoltage b mV low).reg (K.supplyVoltage c) = (min 65535 mV : Nat) ∧
      (s.inputVoltage b mV low).flag (K.bankFlags c) 1 = low (s.flag (K.bankFlags c) 1)) ∧
    (svInput c ≠ svInput b → (s.inputVoltage b mV low).reg (K.supplyVoltage c) = s.reg (K.supplyVoltage c) ∧
      (s.inputVoltage b mV low).reg (K.bankFlags c) = s.reg (K.bankFlags c)) := by
  rw [inputVoltage_eq]
  refine ⟨fun same => ?_, fun other => ?_⟩
  · have once : (inputBanks b).Nodup := List.nodup_range.filter _
    obtain ⟨before, after, split⟩ := List.append_of_mem (mem_inputBanks.2 same)
    rw [split] at once ⊢
    obtain ⟨-, once, apart⟩ := List.nodup_append.1 once
    have notAfter : (c : Nat) ∉ after := (List.nodup_cons.1 once).1
    have notBefore : (c : Nat) ∉ before := fun mem => apart _ mem _ List.mem_cons_self rfl
    rw [List.foldl_append, List.foldl_cons]
    obtain ⟨voltage, flag⟩ := bankVoltage_shows (before.foldl (fun s b => s.bankVoltage mV low b) s) mV low c
    refine ⟨?_, ?_⟩
    · exact (reg_foldl_bankVoltage_ne _ notAfter (by decide) mV low).trans voltage
    · rw [flag_congr (reg_foldl_bankVoltage_ne _ notAfter (by decide) mV low), flag,
        flag_congr (reg_foldl_bankVoltage_ne _ notBefore (by decide) mV low)]
  · have absent : (c : Nat) ∉ inputBanks b := fun mem => other (mem_inputBanks.1 mem)
    exact ⟨reg_foldl_bankVoltage_ne s absent (by decide) mV low, reg_foldl_bankVoltage_ne s absent (by decide) mV low⟩

theorem runs_supplyLow (b : Fin 8) (mV : Nat) :
    Runs (.supplyLow b mV) s fun t => ∀ c : Fin 8,
      (svInput c = svInput b → t.reg (K.supplyVoltage c) = (min 65535 mV : Nat) ∧
        t.flag (K.bankFlags c) 1 = (decide (mV < 6000) || s.flag (K.bankFlags c) 1)) ∧
      (svInput c ≠ svInput b → t.reg (K.supplyVoltage c) = s.reg (K.supplyVoltage c) ∧
        t.reg (K.bankFlags c) = s.reg (K.bankFlags c)) := by
  refine ⟨_, rfl, fun c => ?_⟩
  rw [Bool.or_comm]
  exact inputVoltage_shows s b mV (fun f => f || decide (mV < 6000)) c

theorem runs_bankSupplyReturn (b : Fin 8) (mV : Nat) :
    Runs (.bankSupplyReturn b mV) s fun t => ∀ c : Fin 8,
      (svInput c = svInput b → t.reg (K.supplyVoltage c) = (min 65535 mV : Nat) ∧
        t.flag (K.bankFlags c) 1 = (!decide (6500 ≤ mV) && s.flag (K.bankFlags c) 1)) ∧
      (svInput c ≠ svInput b → t.reg (K.supplyVoltage c) = s.reg (K.supplyVoltage c) ∧
        t.reg (K.bankFlags c) = s.reg (K.bankFlags c)) := by
  refine ⟨_, rfl, fun c => ?_⟩
  rw [Bool.and_comm]
  exact inputVoltage_shows s b mV (fun f => f && !decide (6500 ≤ mV)) c

/-- What an overload of its bank does to a channel (R270, R295). -/
def State.svOverload (s : State) (ch : Nat) : State := (((s.svSafeOff ch).svToOff ch).svClamp ch).setReg (K.svState ch) svFault

@[simp] theorem svRest_svOverload (ch : Nat) : (s.svOverload ch).svRest ch = s.svRest ch := by simp [State.svOverload]

theorem mem_bankChannels {b : Fin 8} {c : Nat} (h : c ∈ bankChannels b) : svBank c = b ∧ c < 32 := by
  simp only [bankChannels, List.mem_cons, List.not_mem_nil, or_false] at h
  unfold svBank
  omega

/-- The overload of a bank puts each of its channels into FAULT, and leaves those of the other banks (R295). -/
theorem foldl_svOverload (b : Fin 8) :
    (∀ c ∈ bankChannels b, ((bankChannels b).foldl State.svOverload s).reg (K.svState c) = svFault) ∧
    ∀ c, svBank c ≠ b → ((bankChannels b).foldl State.svOverload s).svCh c = s.svCh c := by
  refine ⟨fun c hc => ?_, fun c hc => ?_⟩
  · refine foldl_reaches (f := State.svOverload) (P := fun _ => True) (Q := fun t => t.reg (K.svState c) = svFault) (fun _ _ _ _ => trivial)
      (fun t _ => reg_setReg_self ..) (fun t d hd ht => ?_) hc trivial
    by_cases same : c = d
    · exact same ▸ reg_setReg_self ..
    · exact (svState_of_svRest (svRest_svOverload t d) same (mem_bankChannels hd).2).trans ht
  · refine List.foldlRecOn (motive := fun t : State => t.svCh c = s.svCh c) _ _ rfl fun t ht d hd => ?_
    exact (svCh_of_svRest (svRest_svOverload t d) (ne_of_apply_ne svBank ((mem_bankChannels hd).1 ▸ hc))).trans ht

theorem inPeak_of_not_running {ch : Nat} (h : s.reg (K.svState ch) ≠ svRunning) : s.inPeak ch = false := by
  simp [State.inPeak, h]

theorem runs_bankOverload (b : Fin 8) (mA held : Nat) (exceeded : 70000 < mA) (long : ticksUs 20 ≤ held) :
    Runs (.bankOverload b mA held) s fun t =>
      t.flag (K.bankFlags b) 2 = true ∧ (∀ c ∈ bankChannels b, t.reg (K.svState c) = svFault ∧ t.inPeak c = false) ∧
      (∀ c, svBank c ≠ b.val → t.svCh c = s.svCh c) := by
  obtain ⟨faults, others⟩ := foldl_svOverload (s.setReg (K.bankCurrent b) (min 65535 mA : Nat)) b
  have ran : exec (.bankOverload b mA held) s =
      .next (((((bankChannels b).foldl State.svOverload (s.setReg (K.bankCurrent b) (min 65535 mA : Nat))).setFlag
        (K.bankFlags b) 2 true).bump K.safeOffEvents).eventKey .solenoids b (K.bankFlags b)) := if_neg (by simp; omega)
  generalize (bankChannels b).foldl State.svOverload (s.setReg (K.bankCurrent b) (min 65535 mA : Nat)) = u at *
  have kept (c : Nat) : (((u.setFlag (K.bankFlags b) 2 true).bump K.safeOffEvents).eventKey .solenoids b (K.bankFlags b)).reg
      (K.svState c) = u.reg (K.svState c) := by
    rw [reg_eventKey, reg_bump_ne (by simp; omega), reg_setFlag_ne (by simp; omega)]
  refine ⟨_, ran, ?_, fun c hc => ?_, fun c hc => ?_⟩
  · rw [flag_eventKey, flag_congr (reg_bump_ne (by simp; omega) _), flag_setFlag]
  · have shown := (kept c).trans (faults c hc)
    exact ⟨shown, inPeak_of_not_running _ (by rw [shown]; decide)⟩
  · rw [svCh_eventKey, svCh_bump, svCh_setFlag, others c hc, svCh_setReg]

/-- Settles O35: a channel's fault is `svFail`, and a bank's reaches the channels or the banks that share its supply. -/
theorem solenoidFaultsStopTheirChannels : Obligations.SolenoidFaultsStopTheirChannels := by
  unfold Obligations.SolenoidFaultsStopTheirChannels
  exact ⟨runs_openLoad, runs_overcurrent, runs_shortToSupply, runs_decayStuck, runs_overtemp, runs_regLow, runs_boostFailed, runs_supplyLow,
    runs_bankSupplyReturn, runs_bankOverload⟩

end Sys2Proof.Machine
end

section
/-!
The commands of the solenoid channels (O34).
-/
namespace Sys2Proof.Machine
open Sys2Proof

variable {s : State}

/-! ### The state in which a write takes its effect -/

/-- What a write of a channel finds as it takes its effect: the entries of the chapters, the channels, the byte strings and the clock are
as they were. -/
structure Took (s u : State) : Prop where
  reg : ∀ k, key 0x2000 0 ≤ k → u.reg k = s.reg k
  sv : u.sv = s.sv
  blobs : u.blobs = s.blobs
  tick : u.tick = s.tick

theorem took_taken (s : State) (slot idx sub : Nat) (d : Bytes) (r : WriteRule) : Took s (s.taken slot idx sub d r) :=
  ⟨fun _ hk => reg_taken s slot idx sub d r hk, sv_afterAccept .., blobs_afterAccept .., tick_taken ..⟩

/-- A write command is judged by the effect of its rule on a state that the acceptance has left so. -/
theorem writes_of_took {c : Instr} {slot idx sub : Nat} {d : Bytes} {r : WriteRule} {P : State → Prop}
    (hc : exec c s = .next (s.request slot idx sub d r))
    (hP : Writable s slot idx sub d r → ∀ u, Took s u → P (r.effect u slot (s.regN K.nextJournalSeq) d))
    (reply : ∀ t x, P t → P { t with lastReply := x }) : Writes c s slot idx sub d r P :=
  fun hw => writes_of_effect hc (hP hw _ (took_taken ..)) reply hw

section
variable {u : State} (took : Took s u)
include took

theorem Took.svCh (n : Nat) : u.svCh n = s.svCh n := congrArg (fun x => x.get Sv.init n) took.sv

theorem Took.programOf (p : Nat) : u.programOf p = s.programOf p :=
  congrArg (fun x : Tab Bytes => programWords (x.get (blobDefault (K.stitchProgram p)) (K.stitchProgram p))) took.blobs

/-- The entries of a channel's settings and of its status object. -/
theorem Took.setting (ch : Nat) {j : Nat} : u.reg ((0x4020 + ch) * 256 + j) = s.reg ((0x4020 + ch) * 256 + j) :=
  took.reg _ (by simp; omega)

theorem Took.status (ch : Nat) {j : Nat} : u.reg ((0x4040 + ch) * 256 + j) = s.reg ((0x4040 + ch) * 256 + j) :=
  took.reg _ (by simp; omega)

end

/-! ### SvCommand (R273, R279, R280, R288) -/

theorem svAction_leBytes (a b : Nat) : svAction (leBytes 1 a ++ leBytes 1 b) = a % 256 := by
  simp [svAction, fieldU, field, leBytes, leNat]

theorem svProgram_leBytes (a b : Nat) : svProgram (leBytes 1 a ++ leBytes 1 b) = b % 256 := by
  simp [svProgram, fieldU, field, leBytes, leNat]

theorem firstSome_cons_eq_none {α : Type} {x : Option α} {l : List (Option α)} : firstSome (x :: l) = none ↔ x = none ∧ firstSome l = none := by
  cases x <;> simp [firstSome]

theorem need_eq_none {c : Bool} {a : Abort} : need c a = none ↔ c = true := by
  cases c <;> simp [need]

/-- What an SvCommand that starts a program has found by its checks (R273, R288). -/
structure MayStart (s : State) (ch p : Nat) : Prop where
  enabled : s.reg (K.svEnable ch) = 1
  state : s.reg (K.svState ch) ≠ svDisabled ∧ s.reg (K.svState ch) ≠ svFault ∧ s.reg (K.svState ch) ≠ svTesting
  program : s.programOf p ≠ []
  fixed : holdsExt (s.programOf p) = false
  duty : s.flag (K.svFlags ch) 3 = false
  free : (s.svCh ch).pending = none

theorem mayStart_of_writable {slot idx sub ch p : Nat} (hp : p < 256)
    (hw : Writable s slot idx sub (leBytes 1 1 ++ leBytes 1 p) (svCommandRule ch)) : MayStart s ch p := by
  obtain ⟨-, -, -, checked⟩ := hw
  have passed := check_of_checkWrite checked
  simp only [svCommandRule, svAction_leBytes, svProgram_leBytes, Nat.mod_eq_of_lt hp, firstSome_cons_eq_none, need_eq_none] at passed
  obtain ⟨-, active, works, program, duty, free, -⟩ := passed
  simp at active works program duty free
  obtain ⟨⟨notDisabled, notTesting⟩, enabled⟩ := active
  exact ⟨enabled.resolve_left works, ⟨notDisabled, works, notTesting⟩, program.1, program.2, duty, free⟩

/-- A start that nothing refuses waits on its channel from now on (R280, R284). -/
theorem svStart_of_mayStart {ch p : Nat} (may : MayStart s ch p) (normal : s.flag K.powerFlags 2 = false) (item : Option Nat) :
    let t := s.setSv ch { s.svCh ch with
      pending := some ⟨p, s.programOf p, s.tick, programClaim (s.programOf p), 0, false, false, item, false, false⟩ }
    s.svStart ch p item = if s.reg (K.svState ch) = svOff ∨ s.reg (K.svState ch) = svWaiting then t.setReg (K.svState ch) svWaiting
      else t.setFlag (K.svFlags ch) 14 true := by
  obtain ⟨enabled, ⟨notDisabled, works, notTesting⟩, program, fixed, duty, free⟩ := may
  simp [State.svStart, State.claimOn, *]

theorem writes_svCommandStart (s : State) (slot : Fin 16) (ch : Fin 32) (p : BitVec 8) (normal : s.flag K.powerFlags 2 = false) :
    Writes (.svCommandStart slot ch p) s slot (0x4020 + ch) 0x0C (leBytes 1 1 ++ leBytes 1 p.toNat) (svCommandRule ch) fun t =>
      (t.svCh ch).pending = some ⟨p.toNat, s.programOf p.toNat, s.tick, programClaim (s.programOf p.toNat), 0, false, false,
        some (s.regN K.nextJournalSeq), false, false⟩ ∧
      (s.reg (K.svState ch) = svOff → t.reg (K.svState ch) = svWaiting) ∧
      (s.reg (K.svState ch) = svRunning → t.reg (K.svState ch) = svRunning ∧ t.flag (K.svFlags ch) 14 = true) := by
  refine writes_of_took rfl (fun hw u took => ?_) fun _ _ h => h
  have may : MayStart (u.startItem (s.regN K.nextJournalSeq)) ch p.toNat := by
    obtain ⟨enabled, state, program, fixed, duty, free⟩ := mayStart_of_writable p.isLt hw
    exact ⟨(took.setting ch).trans enabled, by rwa [reg_startItem, took.status], (took.programOf _).trans_ne program,
      (congrArg holdsExt (took.programOf _)).trans fixed, (flag_congr (took.status ch) 3).trans duty,
      (congrArg Sv.pending (took.svCh ch)).trans free⟩
  have normal' := (flag_congr (took.reg K.powerFlags (by decide)) 2).trans normal
  have number : p.toNat % 256 = p.toNat := Nat.mod_eq_of_lt p.isLt
  have program : (u.startItem (s.regN K.nextJournalSeq)).programOf p.toNat = s.programOf p.toNat := took.programOf _
  have tick : (u.startItem (s.regN K.nextJournalSeq)).tick = s.tick := took.tick
  simp only [svCommandRule, svAction_leBytes, svProgram_leBytes, number, svStart_of_mayStart may normal', program, tick, reg_startItem,
    took.status]
  refine ⟨?_, fun off => ?_, fun running => ?_⟩
  · rw [if_pos (by decide), svCh_ite, svCh_setReg, svCh_setFlag, svCh_setSv, ite_self]
  · rw [if_pos (by decide), if_pos (.inl off), reg_setReg_self]
  · rw [if_pos (by decide), if_neg (by rw [running]; decide), reg_setFlag_ne (by simp), flag_setFlag]
    exact ⟨(took.status ch).trans running, rfl⟩

theorem writes_svCommandRelease (s : State) (slot : Fin 16) (ch : Fin 32) :
    Writes (.svCommandRelease slot ch) s slot (0x4020 + ch) 0x0C (leBytes 1 2 ++ leBytes 1 0) (svCommandRule ch) fun t =>
      (s.reg (K.svState ch) = svRunning ∨ s.reg (K.svState ch) = svWaiting → (t.svCh ch).pending = none) ∧
      (s.reg (K.svState ch) = svOff ∨ s.reg (K.svState ch) = svDecaying →
        t.svCh ch = s.svCh ch ∧ t.reg (K.svState ch) = s.reg (K.svState ch)) ∧
      (s.reg (K.svState ch) = svWaiting → (s.svCh ch).pending.isSome = true → t.reg (K.svState ch) = svOff) ∧
      (s.reg (K.svState ch) = svRunning → t.reg (K.svState ch) = svDecaying ∧ (t.svCh ch).cond = .slowDecay ∧ t.reg (K.grant ch) = 0 ∧
        t.reg (K.stitchIndex ch) = ((s.svCh ch).program.length - 1 : Nat)) := by
  refine writes_of_took rfl (fun _ u took => ?_) fun _ _ h => h
  have state : (u.startItem (s.regN K.nextJournalSeq)).reg (K.svState ch) = s.reg (K.svState ch) := took.status ch
  have contents : (u.startItem (s.regN K.nextJournalSeq)).svCh ch = s.svCh ch := took.svCh ch
  have release : (svCommandRule ch).effect u slot (s.regN K.nextJournalSeq) (leBytes 1 2 ++ leBytes 1 0) =
      (u.startItem (s.regN K.nextJournalSeq)).svRelease ch := rfl
  rw [release]
  generalize u.startItem (s.regN K.nextJournalSeq) = v at *
  rw [← state, ← contents]
  obtain ⟨acc, atEnd⟩ := svCh_svToEnd (v.svDiscardPending ch .stateDenied) ch
  rw [svCh_svDiscardPending] at atEnd
  refine ⟨fun active => ?_, fun still => ?_, fun waiting start => ?_, fun running => ?_⟩
  · obtain running | waiting := active
    · rw [State.svRelease, if_pos running, atEnd]
      rfl
    · rw [State.svRelease, if_neg (by rw [waiting]; decide), if_pos waiting, svCh_showClaims, svCh_svReleaseDone, svCh_svDiscardPending]
  · have quiet : v.svRelease ch = v.svReleaseDone ch :=
      (if_neg (by obtain h | h := still <;> rw [h] <;> decide)).trans (if_neg (by obtain h | h := still <;> rw [h] <;> decide))
    rw [quiet]
    exact ⟨svCh_svReleaseDone .., reg_svReleaseDone ..⟩
  · obtain ⟨claims, -⟩ := status_ne (k := K.svState ch) (ch := ch) (by simp; omega)
    rw [State.svRelease, if_neg (by rw [waiting]; decide), if_pos waiting, reg_showClaims_ne claims, reg_svReleaseDone,
      svState_svDiscardPending_waiting waiting start]
  · rw [State.svRelease, if_pos running, svState_svToEnd, atEnd, reg_svToEnd_status (by simp; omega) (by simp), if_pos (.inr rfl),
      reg_svToEnd_status (by simp; omega) (by simp), if_neg (by simp), if_pos rfl, svCh_svDiscardPending]
    exact ⟨rfl, rfl, rfl, rfl⟩

/-! ### SvEnable (R289) -/

theorem type_svEnable : ∀ ch : Fin 32, (descOf (0x4020 + ch) 1).map Desc.ty = some .bool := by decide +kernel

theorem putEntry_svEnable (s : State) (ch : Fin 32) (d : Bytes) : s.putEntry (0x4020 + ch) 1 d = s.setReg (K.svEnable ch) (wval d) :=
  putEntry_bool (by omega) (by omega) (type_svEnable ch) s d

theorem writes_svEnable_on (s : State) (slot : Fin 16) (ch : Fin 32) :
    Writes (.svEnable slot ch 1) s slot (0x4020 + ch) 0x01 (leBytes 1 (1 : BitVec 8).toNat) (svEnableRule ch) fun t =>
      t.reg (K.svEnable ch) = 1 ∧ (s.reg (K.svState ch) = svDisabled → t.reg (K.svState ch) = svOff) ∧ t.sv = s.sv := by
  refine writes_of_took rfl (fun _ u took => ?_) fun _ _ h => h
  have one : wval (leBytes 1 (1 : BitVec 8).toNat) = 1 := by decide
  have apart : K.svEnable ch ≠ K.svState ch := by simp
  have sv : (u.settle (0x4020 + ch) 1 (s.regN K.nextJournalSeq) (leBytes 1 (1 : BitVec 8).toNat)).sv = s.sv :=
    (sv_of_outside (F := [.regs, .blobs, .jr]) (outside_settle (by decide) (by decide) (by decide) ..) (by decide)).trans took.sv
  have enable : (u.settle (0x4020 + ch) 1 (s.regN K.nextJournalSeq) (leBytes 1 (1 : BitVec 8).toNat)).reg (K.svEnable ch) = 1 := by
    rw [State.settle, reg_finish, putEntry_svEnable, reg_setReg_self, one]
    rfl
  have state : (u.settle (0x4020 + ch) 1 (s.regN K.nextJournalSeq) (leBytes 1 (1 : BitVec 8).toNat)).reg (K.svState ch) =
      s.reg (K.svState ch) := by
    rw [State.settle, reg_finish, putEntry_svEnable, reg_setReg_ne apart.symm, took.status]
  simp only [svEnableRule, one, if_true, state]
  refine ⟨?_, fun disabled => ?_, ?_⟩
  · rw [reg_ite, reg_setReg_ne apart, ite_self, enable]
  · rw [if_pos disabled, reg_setReg_self]
  · split
    · rw [setReg_sv, sv]
    · exact sv

/-- A disable that begins: its item waits, the start that waits is discarded, and a WAITING channel is OFF (R289). -/
def State.svAskDisable (s : State) (ch seq : Nat) : State :=
  let s := (s.startItem seq).beginDisable (aimSv ch) seq (s.tick + ticksMs 10)
  let s := (s.setSv ch { s.svCh ch with pending := none }).setFlag (K.svFlags ch) 14 false
  if s.reg (K.svState ch) = svWaiting then s.setReg (K.svState ch) svOff else s

theorem effect_svEnable_off {ch : Nat} (on : s.reg (K.svEnable ch) = 1) {d : Bytes} (zero : wval d ≠ 1) (slot seq : Nat) :
    (svEnableRule ch).effect s slot seq d =
      if (s.svAskDisable ch seq).reg (K.svState ch) = svRunning then s.svAskDisable ch seq else (s.svAskDisable ch seq).svDisableDone ch :=
  (if_neg zero).trans (if_neg (not_not.2 on))

theorem reg_svAskDisable {ch k : Nat} (state : k ≠ K.svState ch) (flags : k ≠ K.svFlags ch) (s : State) (seq : Nat) :
    (s.svAskDisable ch seq).reg k = s.reg k := by
  simp only [State.svAskDisable, reg_ite, reg_setReg_ne state, reg_setFlag_ne flags, reg_setSv, ite_self]
  rfl

theorem svState_svAskDisable (s : State) (ch seq : Nat) :
    (s.svAskDisable ch seq).reg (K.svState ch) = if s.reg (K.svState ch) = svWaiting then svOff else s.reg (K.svState ch) := by
  have apart : K.svState ch ≠ K.svFlags ch := by simp
  simp only [State.svAskDisable, reg_ite, reg_setReg_self, reg_setFlag_ne apart, reg_setSv]
  rfl

theorem pending_svAskDisable (s : State) (ch seq : Nat) : ((s.svAskDisable ch seq).svCh ch).pending = none := by
  simp only [State.svAskDisable, svCh_ite, svCh_setReg, ite_self, svCh_setFlag, svCh_setSv]

theorem isDisabling_svAskDisable (s : State) (ch seq : Nat) : (s.svAskDisable ch seq).isDisabling (aimSv ch) = true := by
  have begun : ((s.startItem seq).beginDisable (aimSv ch) seq (s.tick + ticksMs 10)).isDisabling (aimSv ch) = true := by
    simp [State.isDisabling, State.beginDisable]
  refine Eq.trans (isDisabling_of_outside (F := [.regs, .sv]) ?_ (by decide) _) begun
  simp [State.svAskDisable]

theorem writes_svEnable_off (s : State) (slot : Fin 16) (ch : Fin 32) (on : s.reg (K.svEnable ch) = 1) :
    Writes (.svEnable slot ch 0) s slot (0x4020 + ch) 0x01 (leBytes 1 (0 : BitVec 8).toNat) (svEnableRule ch) fun t =>
      (t.svCh ch).pending = none ∧
      (s.reg (K.svState ch) = svRunning → t.isDisabling (aimSv ch) = true ∧ t.reg (K.svEnable ch) = 1 ∧ t.reg (K.svState ch) = svRunning) ∧
      (s.reg (K.svState ch) = svOff ∨ s.reg (K.svState ch) = svWaiting →
        t.isDisabling (aimSv ch) = false ∧ t.reg (K.svEnable ch) = 0 ∧ t.reg (K.svState ch) = svDisabled) := by
  refine writes_of_took rfl (fun _ u took => ?_) fun _ _ h => h
  rw [effect_svEnable_off ((took.setting ch).trans on) (by decide)]
  have asked := svState_svAskDisable u ch (s.regN K.nextJournalSeq)
  rw [took.status] at asked
  refine ⟨?_, fun running => ?_, fun ready => ?_⟩
  · rw [svCh_ite, svCh_svDisableDone, ite_self, pending_svAskDisable]
  · have running' := asked.trans ((if_neg (by rw [running]; decide)).trans running)
    rw [if_pos running', reg_svAskDisable (by simp) (by simp; omega)]
    exact ⟨isDisabling_svAskDisable .., (took.setting ch).trans on, running'⟩
  · have off : (u.svAskDisable ch (s.regN K.nextJournalSeq)).reg (K.svState ch) = svOff := by
      obtain off | waiting := ready
      · rw [asked, off, if_neg (by decide)]
      · rw [asked, if_pos waiting]
    rw [if_neg (by rw [off]; decide)]
    obtain ⟨enable, shown⟩ := svDisableDone_disables (.inl off)
    exact ⟨isDisabling_svDisableDone .., enable, shown⟩

/-! ### Self-tests (R292) -/

theorem writes_svSelfTest (s : State) (slot : Fin 16) (ch : Fin 32) (v : BitVec 8) :
    Writes (.svSelfTest slot ch v) s slot (0x4020 + ch) 0x0D (leBytes 1 v.toNat) (svSelfTestRule ch) fun t =>
      t.reg (K.svState ch) = svTesting ∧ (t.svCh ch).testItem = some (s.regN K.nextJournalSeq) :=
  writes_of_took rfl (fun _ _ _ => ⟨reg_setReg_self .., by rw [svSelfTestRule, svCh_setReg, svCh_setSv]⟩) fun _ _ h => h

/-- A channel without a fault is OFF or DISABLED as its enable says (R278). -/
theorem svIdleState_of_no_fault {ch : Nat} (clear : s.svHasFault ch = false) :
    s.svIdleState ch = if s.reg (K.svEnable ch) = 1 then svOff else svDisabled := by
  simp [State.svIdleState, clear]

theorem runs_svSelfTestEnd_pass (s : State) (ch : Fin 32) (testing : s.reg (K.svState ch) = svTesting)
    (clear : [8, 9, 10, 11, 12].any (s.flag (K.svFlags ch)) = false) :
    Runs (.svSelfTestEnd ch true) s fun t =>
      t.reg (K.selfTestResult ch) = 1 ∧ t.flag (K.svFlags ch) 13 = false ∧
      t.reg (K.svState ch) = (if s.reg (K.svEnable ch) = 1 then svOff else svDisabled) ∧ (t.svCh ch).testItem = none := by
  have apart : K.svEnable ch ≠ K.selfTestResult ch ∧ K.svEnable ch ≠ K.svFlags ch := by
    refine ⟨?_, ?_⟩ <;> simp <;> omega
  have results : K.selfTestResult ch ≠ K.svState ch ∧ K.svFlags ch ≠ K.selfTestResult ch ∧ K.svFlags ch ≠ K.svState ch := by simp
  refine ⟨_, (if_neg (not_not.2 testing)).trans (if_pos rfl), ?_⟩
  generalize tested : ((s.setSv ch { s.svCh ch with testItem := none }).setFlag (K.svFlags ch) 13 false).setReg (K.selfTestResult ch) 1 = u
  have flag (i : Nat) (h : i ≠ 13) : u.flag (K.svFlags ch) i = s.flag (K.svFlags ch) i := by
    rw [← tested, flag_setReg_ne _ results.2.1, flag_setFlag_ne h]
    rfl
  have passed : u.flag (K.svFlags ch) 13 = false := by rw [← tested, flag_setReg_ne _ results.2.1, flag_setFlag]
  have noFault : u.svHasFault ch = false := by
    simpa [State.svHasFault, svFaultBits, flag, passed] using clear
  have enable : u.reg (K.svEnable ch) = s.reg (K.svEnable ch) := by
    rw [← tested, reg_setReg_ne apart.1, reg_setFlag_ne apart.2, reg_setSv]
  refine ⟨?_, ?_, ?_, ?_⟩
  · rw [reg_finishOpt, reg_setReg_ne results.1, ← tested, reg_setReg_self]
  · rw [flag_congr (reg_finishOpt ..), flag_setReg_ne _ results.2.2, passed]
  · rw [reg_finishOpt, reg_setReg_self, svIdleState_of_no_fault noFault, enable]
  · rw [svCh_finishOpt, svCh_setReg, ← tested, svCh_setReg, svCh_setFlag, svCh_setSv]

theorem runs_svSelfTestEnd_fail (s : State) (ch : Fin 32) (testing : s.reg (K.svState ch) = svTesting) :
    Runs (.svSelfTestEnd ch false) s fun t =>
      t.reg (K.selfTestResult ch) = 2 ∧ t.flag (K.svFlags ch) 13 = true ∧ t.reg (K.svState ch) = svFault := by
  refine ⟨_, (if_neg (not_not.2 testing)).trans (if_neg (by decide)), ?_⟩
  generalize shown : ((s.setSv ch { s.svCh ch with testItem := none }).setReg (K.selfTestResult ch) 2).finishOpt (s.svCh ch).testItem .failed
    Abort.hardwareFault.code = u
  obtain ⟨state, flag, -⟩ := svFail_shows u ch 13
  refine ⟨?_, flag, state⟩
  have kept : (u.svFail ch 13).reg (K.selfTestResult ch) = u.reg (K.selfTestResult ch) := by
    rw [State.svFail, reg_eventKey, reg_setFlag_ne (by simp), reg_setReg_ne (by simp), reg_svClamp,
      reg_svToOff_status (by simp; omega) (by simp) (by simp), if_neg (by simp), if_neg (by simp), reg_svStopRunning (by simp),
      reg_svDiscardPending_ne (by simp) (by simp)]
  rw [kept, ← shown, reg_finishOpt, reg_setReg_self]

/-! ### SvFaultClear (R294, R295) -/

theorem flag_foldl_setFlag {k i : Nat} {l : List Nat} (h : i ∉ l) (s : State) (b : Bool) :
    (l.foldl (fun s j => s.setFlag k j b) s).flag k i = s.flag k i :=
  List.foldlRecOn (motive := fun t : State => t.flag k i = s.flag k i) l _ rfl fun t ht _ hj =>
    (flag_setFlag_ne (ne_of_mem_of_not_mem hj h).symm t k b).trans ht

theorem flag_foldl_setFlag_mem {k i : Nat} {l : List Nat} (h : i ∈ l) (s : State) (b : Bool) :
    (l.foldl (fun s j => s.setFlag k j b) s).flag k i = b :=
  foldl_reaches (f := fun s j => s.setFlag k j b) (P := fun _ => True) (Q := fun t => t.flag k i = b) (fun _ _ _ _ => trivial)
    (fun t _ => flag_setFlag t k i b)
    (fun t j _ ht => (em (i = j)).elim (fun same => same ▸ flag_setFlag t k i b) fun other => (flag_setFlag_ne other t k b).trans ht)
    h trivial

theorem reg_showOverload {k b : Nat} (h : k ≠ K.bankFlags b) (s : State) : (s.showOverload b).reg k = s.reg k := by
  rw [State.showOverload, reg_ite, reg_setFlag_ne h, ite_self]

theorem writes_svFaultClear (s : State) (slot : Fin 16) (ch : Fin 32) (v : BitVec 8) :
    Writes (.svFaultClear slot ch v) s slot (0x4020 + ch) 0x0E (leBytes 1 v.toNat) (svFaultClearRule ch) fun t =>
      (∀ b ∈ [4, 5, 8, 9, 10, 11, 12], t.flag (K.svFlags ch) b = false) ∧
      (s.reg (K.svState ch) = svFault → s.flag (K.svFlags ch) 13 = false →
        t.reg (K.svState ch) = (if s.reg (K.svEnable ch) = 1 then svOff else svDisabled)) ∧
      (s.reg (K.svState ch) = svFault → s.flag (K.svFlags ch) 13 = true → t.reg (K.svState ch) = svFault) := by
  refine writes_of_took rfl (fun _ u took => ?_) fun _ _ h => h
  simp only [svFaultClearRule]
  generalize cleared : [4, 5, 8, 9, 10, 11, 12].foldl (fun s b => s.setFlag (K.svFlags ch) b false) u = w
  have flags (k : Nat) (h : k ≠ K.svFlags ch) : w.reg k = u.reg k := cleared ▸ reg_foldl (fun t _ _ => reg_setFlag_ne h t _ _) u
  have gone (i : Nat) (h : i ∈ [4, 5, 8, 9, 10, 11, 12]) : w.flag (K.svFlags ch) i = false := cleared ▸ flag_foldl_setFlag_mem h u false
  have test : w.flag (K.svFlags ch) 13 = s.flag (K.svFlags ch) 13 :=
    cleared ▸ (flag_foldl_setFlag (by decide) u false).trans (flag_congr (took.status ch) 13)
  have state : w.reg (K.svState ch) = s.reg (K.svState ch) := (flags _ (by simp)).trans (took.status ch)
  have enable : w.reg (K.svEnable ch) = s.reg (K.svEnable ch) := (flags _ (by simp; omega)).trans (took.setting ch)
  have fault : w.svHasFault ch = s.flag (K.svFlags ch) 13 := by
    simp [State.svHasFault, svFaultBits, gone, test]
  have bank : K.svState ch ≠ K.bankFlags (svBank ch) ∧ K.svFlags ch ≠ K.bankFlags (svBank ch) := by
    refine ⟨?_, ?_⟩ <;> simp [svBank] <;> omega
  refine ⟨fun i hi => ?_, fun failed passed => ?_, fun failed test' => ?_⟩
  · rw [flag_finish, flag_congr (reg_showOverload bank.2 _), ← gone i hi]
    exact flag_congr (by rw [reg_ite, reg_setReg_ne (by simp), ite_self]) i
  · rw [reg_finish, reg_showOverload bank.1, if_pos (state.trans failed), reg_setReg_self, svIdleState_of_no_fault (fault.trans passed), enable]
  · rw [reg_finish, reg_showOverload bank.1, if_pos (state.trans failed), reg_setReg_self, State.svIdleState, if_pos (fault.trans test')]

/-! ### Stitch programs (R273, R276) -/

theorem type_stitchProgram : ∀ p : Fin 64, (descOf (0x4100 + p) 0).map Desc.ty = some .octets := by decide +kernel

theorem putEntry_stitchProgram (s : State) (p : Fin 64) (v : Bytes) : s.putEntry (0x4100 + p) 0 v = s.setBlob (K.stitchProgram p) v := by
  obtain ⟨x, row, ty⟩ := Option.map_eq_some_iff.1 (type_stitchProgram p)
  have entry : s.entryDesc (0x4100 + p) 0 = some x := by rw [State.entryDesc, if_neg (by simp; omega), if_neg (by simp; omega), row]
  simp only [State.putEntry, entry, ty, Ty.isBytes, if_true]

theorem writes_stitchProgramWrite (s : State) (slot : Fin 16) (p : Fin 64) (v : Bytes) :
    Writes (.stitchProgramWrite slot p v) s slot (0x4100 + p) 0 v (stitchProgramRule p) fun t =>
      t.blob (K.stitchProgram p) = v ∧ t.reg (K.programClaim p) = (programClaim (programWords v) : Nat) ∧ t.sv = s.sv := by
  refine writes_of_took rfl (fun _ u took => ?_) fun _ _ h => h
  have stored : (u.settle (0x4100 + p) 0 (s.regN K.nextJournalSeq) v).blob (K.stitchProgram p) = v := by
    rw [State.settle, blob_finish, putEntry_stitchProgram, blob_setBlob_self]
  simp only [stitchProgramRule, settingRule]
  refine ⟨stored, ?_, ?_⟩
  · rw [reg_setReg_self, State.programOf, stored]
  · exact (sv_of_outside (F := [.regs, .blobs, .jr]) (outside_settle (by decide) (by decide) (by decide) ..) (by decide)).trans took.sv

/-- Settles O34: each command by the effect of its rule on the state that its acceptance leaves. -/
theorem solenoidChannelsTakeCommands : Obligations.SolenoidChannelsTakeCommands := by
  unfold Obligations.SolenoidChannelsTakeCommands
  exact ⟨writes_svCommandStart, writes_svCommandRelease, writes_svEnable_on, writes_svEnable_off, writes_svSelfTest,
    runs_svSelfTestEnd_pass, runs_svSelfTestEnd_fail, writes_svFaultClear, writes_stitchProgramWrite⟩

end Sys2Proof.Machine
end

section
/-!
The stitches of a running program (O32).
-/
namespace Sys2Proof.Machine
open Sys2Proof

variable {s : State} {ch : Nat}

/-! ### The sample of a running channel (R277, R293) -/

theorem runs_iff {op : Nat} : s.runs ch op = true ↔ s.reg (K.svState ch) = svRunning ∧ stOp (s.presentStitch ch) = op := by
  simp [State.runs]

theorem presentStitch_congr {t : State} (index : t.reg (K.stitchIndex ch) = s.reg (K.stitchIndex ch))
    (program : (t.svCh ch).program = (s.svCh ch).program) : t.presentStitch ch = s.presentStitch ch := by
  rw [State.presentStitch, State.presentStitch, program, regN_congr index]

theorem svTarget_congr {t : State} (grant : t.reg (K.grant ch) = s.reg (K.grant ch)) (tick : t.tick = s.tick)
    (dither : (t.svCh ch).ditherAmp = (s.svCh ch).ditherAmp ∧ (t.svCh ch).ditherFreq = (s.svCh ch).ditherFreq ∧
      (t.svCh ch).ditherStart = (s.svCh ch).ditherStart) (base : Nat) : t.svTarget ch base = s.svTarget ch base := by
  obtain ⟨amp, freq, start⟩ := dither
  simp only [State.svTarget, grant, tick, amp, freq, start]

/-- The state in which a stitch takes the sample of its channel: it shows the current. -/
def State.showCurrent (s : State) (ch mA : Nat) : State := s.setReg (K.svCurrent ch) (min 65535 mA : Nat)

theorem svMeasured_of_runs {op : Nat} (runs : s.runs ch op = true) (mA : Nat) : s.svMeasured ch mA = s.showCurrent ch mA :=
  svMeasured_of_active s (.inl (runs_iff.1 runs).1) mA

section
variable (s : State) (c mA : Nat)

theorem reg_showCurrent {k : Nat} (h : k ≠ K.svCurrent c) : (s.showCurrent c mA).reg k = s.reg k := reg_setReg_ne h _ _

/-- The entries of a channel but the current it shows. -/
@[simp] theorem reg_showCurrent_status {n j : Nat} (hj : j ≠ 4) (small : j < 256) :
    (s.showCurrent c mA).reg ((0x4040 + n) * 256 + j) = s.reg ((0x4040 + n) * 256 + j) := reg_showCurrent s c mA (by simp; omega)

@[simp] theorem svCh_showCurrent (n : Nat) : (s.showCurrent c mA).svCh n = s.svCh n := rfl
@[simp] theorem tick_showCurrent : (s.showCurrent c mA).tick = s.tick := rfl

@[simp] theorem presentStitch_showCurrent (n : Nat) : (s.showCurrent c mA).presentStitch n = s.presentStitch n :=
  presentStitch_congr (reg_showCurrent_status s c mA (by decide) (by decide)) rfl

@[simp] theorem runs_showCurrent (n op : Nat) : (s.showCurrent c mA).runs n op = s.runs n op := by
  rw [State.runs, State.runs, presentStitch_showCurrent, reg_showCurrent_status s c mA (by decide) (by decide)]

@[simp] theorem svTarget_showCurrent (n base : Nat) : (s.showCurrent c mA).svTarget n base = s.svTarget n base :=
  svTarget_congr (reg_showCurrent_status s c mA (by decide) (by decide)) rfl ⟨rfl, rfl, rfl⟩ base

end

/-! ### The regulator (R277) -/

/-- A sample of the regulator shows the setpoint, and changes the condition and the setpoint without dither only. -/
theorem svCh_svRegulate (s : State) (ch base target mA : Nat) : ∃ c since, (s.svRegulate ch base target mA).svCh ch =
    { s.svCh ch with setpoint := base, cond := c, condSince := since } := by
  unfold State.svRegulate
  extract_lets x t band want
  split
  · exact ⟨_, _, svCh_setSv ..⟩
  · exact ⟨_, _, svCh_setSv ..⟩

theorem reg_svRegulate (s : State) (ch base target mA k : Nat) :
    (s.svRegulate ch base target mA).reg k = if k = K.svSetpoint ch then (target : Int) else s.reg k := by
  simp only [State.svRegulate, reg_ite, reg_setSv, ite_self, reg_setReg]

/-- Below its band the regulator drives, once the condition has lasted 5 us. -/
theorem cond_svRegulate_low {base target mA : Nat} (low : 2 * mA + s.regN (K.regBand ch) < 2 * target)
    (lasted : (s.svCh ch).condSince + ticksUs 5 ≤ s.tick) : ((s.svRegulate ch base target mA).svCh ch).cond = .drive := by
  have band : (s.setReg (K.svSetpoint ch) (target : Nat)).regN (K.regBand ch) = s.regN (K.regBand ch) :=
    regN_congr (reg_setReg_ne (by simp; omega) _ _)
  simp only [State.svRegulate, band, low, if_true, tick_setReg, svCh_setReg, svCh_ite, svCh_setSv, Nat.not_lt.2 lasted, decide_false,
    Bool.or_false, decide_eq_true_eq]
  split
  next same => exact same.symm
  next => rfl

/-! ### Stitches that regulate (R272, R277) -/

/-- A stitch that regulates begins with its first sample. -/
def State.svBegun (s : State) (ch : Nat) : State := if (s.svCh ch).begun then s else s.svBegin ch (s.svCh ch).cond

theorem svCh_svBegun (s : State) (ch : Nat) : ∃ start, (s.svBegun ch).svCh ch = { s.svCh ch with begun := true, start := start } := by
  cases begun : (s.svCh ch).begun with
  | true => exact ⟨(s.svCh ch).start, by rw [State.svBegun, if_pos begun, ← begun]⟩
  | false => exact ⟨s.tick, by rw [State.svBegun, if_neg (by simp [begun]), State.svBegin, svCh_setSv, if_pos rfl]⟩

@[simp] theorem reg_svBegun (s : State) (ch k : Nat) : (s.svBegun ch).reg k = s.reg k := by
  rw [State.svBegun, reg_ite]
  exact ite_self _

@[simp] theorem tick_svBegun (s : State) (ch : Nat) : (s.svBegun ch).tick = s.tick := by
  unfold State.svBegun
  split <;> rfl

theorem svTarget_svBegun (s : State) (ch base : Nat) : (s.svBegun ch).svTarget ch base = s.svTarget ch base := by
  obtain ⟨start, contents⟩ := svCh_svBegun s ch
  exact svTarget_congr (reg_svBegun ..) (tick_svBegun ..) (by rw [contents]; exact ⟨rfl, rfl, rfl⟩) base

theorem presentStitch_svBegun (s : State) (ch : Nat) : (s.svBegun ch).presentStitch ch = s.presentStitch ch := by
  obtain ⟨start, contents⟩ := svCh_svBegun s ch
  exact presentStitch_congr (reg_svBegun ..) (by rw [contents])

/-- A stitch that regulates has begun, and shows its setpoint with dither. -/
theorem svHold_svBegun (s : State) (ch base mA : Nat) :
    (((s.svBegun ch).svHold ch base mA).svCh ch).begun = true ∧
    ((s.svBegun ch).svHold ch base mA).reg (K.svSetpoint ch) = (s.svTarget ch base : Nat) := by
  obtain ⟨start, contents⟩ := svCh_svBegun s ch
  obtain ⟨c, since, regulated⟩ := svCh_svRegulate (s.svBegun ch) ch (min base ((s.svBegun ch).regN (K.grant ch)))
    ((s.svBegun ch).svTarget ch base) mA
  refine ⟨by rw [State.svHold, regulated, contents], ?_⟩
  rw [State.svHold, reg_svRegulate, if_pos rfl, svTarget_svBegun]

theorem runs_stitchHold (s : State) (ch : Fin 32) (mA : Nat) (runs : s.runs ch 3 = true) :
    Runs (.stitchHold ch mA) s fun t =>
      (t.svCh ch).begun = true ∧ t.reg (K.svSetpoint ch) = (s.svTarget ch (stMa (s.presentStitch ch)) : Nat) := by
  have ran : exec (.stitchHold ch mA) s =
      .next (((s.showCurrent ch mA).svBegun ch).svHold ch (stMa (s.presentStitch ch)) mA) := by
    change execStitchHold ch mA s = _
    rw [← presentStitch_showCurrent s ch mA, ← presentStitch_svBegun, execStitchHold, svMeasured_of_runs runs]
    exact if_neg (by simp [runs])
  obtain ⟨begun, shown⟩ := svHold_svBegun (s.showCurrent ch mA) ch (stMa (s.presentStitch ch)) mA
  exact ⟨_, ran, begun, by rw [shown, svTarget_showCurrent]⟩

/-- A RAMP begins from the present setpoint. -/
def State.rampBegin (s : State) (ch : Nat) : State :=
  (s.svBegin ch (s.svCh ch).cond).setSv ch { (s.svBegin ch (s.svCh ch).cond).svCh ch with rampFrom := (s.svCh ch).setpoint }

theorem svCh_rampBegin (s : State) (ch : Nat) : (s.rampBegin ch).svCh ch =
    { s.svCh ch with begun := true, start := s.tick, rampFrom := (s.svCh ch).setpoint } := by
  rw [State.rampBegin, svCh_setSv, State.svBegin, svCh_setSv, if_pos rfl]

/-- The setpoint of a RAMP that has begun, on its straight line. -/
def State.rampBase (s : State) (ch : Nat) : Int :=
  let x := s.svCh ch
  let w := s.presentStitch ch
  let t : Int := (min (s.tick - x.start) (stT w) : Nat)
  (x.rampFrom : Int) + (((stMa w : Int) - x.rampFrom) * t).tdiv (max 1 (stT w) : Nat)

/-- In the tick of its begin a RAMP stands at the setpoint from which it goes on. -/
theorem rampBase_rampBegin (s : State) (ch : Nat) : (s.rampBegin ch).rampBase ch = (s.svCh ch).setpoint := by
  have elapsed : (s.rampBegin ch).tick - s.tick = 0 := Nat.sub_self _
  simp only [State.rampBase, svCh_rampBegin, elapsed, Nat.zero_min, Nat.cast_zero, mul_zero, Int.zero_tdiv, add_zero]

@[simp] theorem reg_rampBegin (s : State) (ch k : Nat) : (s.rampBegin ch).reg k = s.reg k := rfl
@[simp] theorem tick_rampBegin (s : State) (ch : Nat) : (s.rampBegin ch).tick = s.tick := rfl

theorem execStitchRamp_eq (ch : Fin 32) (mA : Nat) (s : State) : execStitchRamp ch mA s =
    let s := s.svMeasured ch mA
    let t := if (s.svCh ch).begun then s else s.rampBegin ch
    if !s.runs ch 4 then .next s else .next (t.svHold ch (t.rampBase ch).toNat mA) := rfl

theorem runs_stitchRamp (s : State) (ch : Fin 32) (mA : Nat) (runs : s.runs ch 4 = true) (new : (s.svCh ch).begun = false) :
    Runs (.stitchRamp ch mA) s fun t =>
      (t.svCh ch).begun = true ∧ (t.svCh ch).rampFrom = (s.svCh ch).setpoint ∧
      t.reg (K.svSetpoint ch) = (s.svTarget ch (s.svCh ch).setpoint : Nat) := by
  have contents := svCh_rampBegin (s.showCurrent ch mA) ch
  rw [svCh_showCurrent, tick_showCurrent] at contents
  have ran : exec (.stitchRamp ch mA) s = .next (((s.showCurrent ch mA).rampBegin ch).svHold ch (s.svCh ch).setpoint mA) := by
    change execStitchRamp ch mA s = _
    have begins : (if ((s.showCurrent ch mA).svCh ch).begun then s.showCurrent ch mA else (s.showCurrent ch mA).rampBegin ch) =
        (s.showCurrent ch mA).rampBegin ch := if_neg (by simp [new])
    rw [execStitchRamp_eq, svMeasured_of_runs runs]
    refine (if_neg (by simp [runs])).trans ?_
    rw [begins, rampBase_rampBegin, Int.toNat_natCast, svCh_showCurrent]
  have target : ((s.showCurrent ch mA).rampBegin ch).svTarget ch (s.svCh ch).setpoint = s.svTarget ch (s.svCh ch).setpoint := by
    refine svTarget_congr ?_ ?_ ?_ _
    · rw [reg_rampBegin, reg_showCurrent_status s ch mA (by decide) (by decide)]
    · rw [tick_rampBegin, tick_showCurrent]
    · rw [contents]
      exact ⟨rfl, rfl, rfl⟩
  obtain ⟨c, since, regulated⟩ := svCh_svRegulate ((s.showCurrent ch mA).rampBegin ch) ch
    (min (s.svCh ch).setpoint (((s.showCurrent ch mA).rampBegin ch).regN (K.grant ch)))
    (((s.showCurrent ch mA).rampBegin ch).svTarget ch (s.svCh ch).setpoint) mA
  rw [contents] at regulated
  refine ⟨_, ran, by rw [State.svHold, regulated], by rw [State.svHold, regulated], ?_⟩
  rw [State.svHold, reg_svRegulate, if_pos rfl, target]

theorem runs_stitchHoldExt (s : State) (ch : Fin 32) (mA : Nat) (runs : s.runs ch 10 = true) :
    Runs (.stitchHoldExt ch mA) s fun t =>
      (t.svCh ch).begun = true ∧
      (s.reg (K.svOwner ch) = 2 → t.reg (K.svSetpoint ch) = (s.svTarget ch (s.svCh ch).ext : Nat)) ∧
      (s.reg (K.svOwner ch) ≠ 2 → t.reg (K.svSetpoint ch) = 0 ∧ t.flag (K.svFlags ch) 7 = true) := by
  have owner : ((s.showCurrent ch mA).svBegun ch).reg (K.svOwner ch) = s.reg (K.svOwner ch) := by
    rw [reg_svBegun, reg_showCurrent _ _ _ (by simp; omega)]
  obtain ⟨start, contents⟩ := svCh_svBegun (s.showCurrent ch mA) ch
  have ran : exec (.stitchHoldExt ch mA) s =
      if s.reg (K.svOwner ch) = 2 then .next (((s.showCurrent ch mA).svBegun ch).svHold ch (s.svCh ch).ext mA)
      else .next ((((s.showCurrent ch mA).svBegun ch).setFlag (K.svFlags ch) 7 true).svRegulate ch 0 0 mA) := by
    change execStitchHoldExt ch mA s = _
    have ext : (((s.showCurrent ch mA).svBegun ch).svCh ch).ext = (s.svCh ch).ext := by
      rw [contents]
      rfl
    rw [← owner, ← ext, execStitchHoldExt, svMeasured_of_runs runs]
    exact if_neg (by simp [runs])
  by_cases owned : s.reg (K.svOwner ch) = 2
  · obtain ⟨begun, shown⟩ := svHold_svBegun (s.showCurrent ch mA) ch (s.svCh ch).ext mA
    exact ⟨_, ran.trans (if_pos owned), begun, fun _ => by rw [shown, svTarget_showCurrent], fun h => absurd owned h⟩
  · obtain ⟨c, since, regulated⟩ := svCh_svRegulate (((s.showCurrent ch mA).svBegun ch).setFlag (K.svFlags ch) 7 true) ch 0 0 mA
    refine ⟨_, ran.trans (if_neg owned), by rw [regulated, svCh_setFlag, contents], fun h => absurd h owned, fun _ => ⟨?_, ?_⟩⟩
    · rw [reg_svRegulate, if_pos rfl]
      rfl
    · rw [flag_congr ((reg_svRegulate ..).trans (if_neg (by simp))), flag_setFlag]

/-! ### Stitches that decay (R272) -/

/-- FREEWHEEL and CLAMP begin with their decay and a setpoint of 0. -/
theorem svDecayStitch_begins {op : Nat} (runs : s.runs ch op = true) (new : (s.svCh ch).begun = false) (c : OutCond) (mA : Nat) :
    (((s.svMeasured ch mA).svDecayStitch ch op c).svCh ch).begun = true ∧
    (((s.svMeasured ch mA).svDecayStitch ch op c).svCh ch).cond = c ∧
    ((s.svMeasured ch mA).svDecayStitch ch op c).reg (K.svSetpoint ch) = 0 := by
  rw [svMeasured_of_runs runs]
  simp [State.svDecayStitch, runs, new, State.svBegin]

theorem runs_stitchFreewheel (s : State) (ch : Fin 32) (mA : Nat) (runs : s.runs ch 5 = true) (new : (s.svCh ch).begun = false) :
    Runs (.stitchFreewheel ch mA) s fun t =>
      (t.svCh ch).begun = true ∧ (t.svCh ch).cond = .slowDecay ∧ t.reg (K.svSetpoint ch) = 0 :=
  ⟨_, rfl, svDecayStitch_begins runs new .slowDecay mA⟩

theorem runs_stitchClamp (s : State) (ch : Fin 32) (mA : Nat) (runs : s.runs ch 6 = true) (new : (s.svCh ch).begun = false) :
    Runs (.stitchClamp ch mA) s fun t =>
      (t.svCh ch).begun = true ∧ (t.svCh ch).cond = .fastDecay ∧ t.reg (K.svSetpoint ch) = 0 :=
  ⟨_, rfl, svDecayStitch_begins runs new .fastDecay mA⟩

end Sys2Proof.Machine
end

section
/-!
The BOOST and PEAK stitches of a solenoid channel (O32).
-/
namespace Sys2Proof.Machine
open Sys2Proof

variable (s : State) (c mA : Nat)

/-! ### What the current that a channel shows does not bear on (R282, R283) -/

@[simp] theorem regN_showCurrent_status {n j : Nat} (hj : j ≠ 4) (small : j < 256) :
    (s.showCurrent c mA).regN ((0x4040 + n) * 256 + j) = s.regN ((0x4040 + n) * 256 + j) :=
  regN_congr (reg_showCurrent_status s c mA hj small)

@[simp] theorem inPeak_showCurrent (n : Nat) : (s.showCurrent c mA).inPeak n = s.inPeak n := by simp [State.inPeak]

@[simp] theorem peakDue_showCurrent (n : Nat) : (s.showCurrent c mA).peakDue n = s.peakDue n := by simp [State.peakDue]

@[simp] theorem heldClaim_showCurrent (n : Nat) : (s.showCurrent c mA).heldClaim n = s.heldClaim n := by simp [State.heldClaim]

@[simp] theorem peakLoad_showCurrent (n : Nat) : (s.showCurrent c mA).peakLoad n = s.peakLoad n := by simp [State.peakLoad]

@[simp] theorem peakLoadOfOthers_showCurrent (n : Nat) : (s.showCurrent c mA).peakLoadOfOthers n = s.peakLoadOfOthers n := by
  simp [State.peakLoadOfOthers, funext (peakLoad_showCurrent s c mA)]

@[simp] theorem boostRequest_showCurrent (n : Nat) : (s.showCurrent c mA).boostRequest n = s.boostRequest n := by
  simp [State.boostRequest]

@[simp] theorem headsBoost_showCurrent (n req : Nat) : (s.showCurrent c mA).headsBoost n req = s.headsBoost n req := by
  simp [State.headsBoost]

@[simp] theorem deferTicks_showCurrent : (s.showCurrent c mA).deferTicks = s.deferTicks :=
  congrArg ticksUs (regN_congr (reg_showCurrent s c mA (by simp; omega)))

theorem reg_showCurrent_bank {b j : Nat} (hb : b < 8) (hj : j < 256) :
    (s.showCurrent c mA).reg ((0x4008 + b) * 256 + j) = s.reg ((0x4008 + b) * 256 + j) := reg_showCurrent s c mA (by simp; omega)

theorem boostFree_showCurrent {b : Nat} (hb : b < 8) : (s.showCurrent c mA).boostFree b = s.boostFree b := by
  have level : (s.showCurrent c mA).reg K.boostReadyLevel = s.reg K.boostReadyLevel := reg_showCurrent s c mA (by simp; omega)
  have voltage : (s.showCurrent c mA).reg (K.boostVoltage b) = s.reg (K.boostVoltage b) := reg_showCurrent s c mA (by simp; omega)
  rw [State.boostFree, State.boostFree, level, voltage, reg_showCurrent_bank s c mA hb (by decide),
    reg_showCurrent_bank s c mA hb (by decide)]

theorem svBank_lt (ch : Fin 32) : svBank ch < 8 := by
  unfold svBank
  omega

theorem decideBoost_showCurrent (n : Fin 32) (req : Nat) : (s.showCurrent c mA).decideBoost n req = s.decideBoost n req := by
  have failed : (s.showCurrent c mA).boostFailed (svBank n) = s.boostFailed (svBank n) :=
    flag_congr (reg_showCurrent_bank s c mA (svBank_lt n) (by decide)) 0
  simp only [State.decideBoost, failed, boostFree_showCurrent s c mA (svBank_lt n), headsBoost_showCurrent, deferTicks_showCurrent,
    tick_showCurrent]

theorem peakMode_showCurrent (n : Fin 32) : (s.showCurrent c mA).peakMode n = s.peakMode n := by
  rw [State.peakMode, State.peakMode, presentStitch_showCurrent, svCh_showCurrent, decideBoost_showCurrent]

theorem peakReady_showCurrent (n : Fin 32) : (s.showCurrent c mA).peakReady n = s.peakReady n := by
  simp only [State.peakReady, peakDue_showCurrent, presentStitch_showCurrent, peakMode_showCurrent]

theorem peakRoom_showCurrent (n : Fin 32) : (s.showCurrent c mA).peakRoom n = s.peakRoom n := by
  have limit : (s.showCurrent c mA).regN K.bankPeakLimit = s.regN K.bankPeakLimit := regN_congr (reg_showCurrent s c mA (by simp; omega))
  have ready : (bankChannels (svBank n)).filter (fun d : Nat => d != n && (s.showCurrent c mA).peakReady d) =
      (bankChannels (svBank n)).filter (fun d : Nat => d != n && s.peakReady d) :=
    List.filter_congr fun d hd => by
      obtain ⟨-, small⟩ := mem_bankChannels (b := ⟨svBank n, svBank_lt n⟩) hd
      rw [peakReady_showCurrent s c mA ⟨d, small⟩]
  have queue : (s.showCurrent c mA).peakQueue n = s.peakQueue n := by
    rw [State.peakQueue, ready]
    rfl
  simp only [State.peakRoom, queue, limit, peakLoadOfOthers_showCurrent, presentStitch_showCurrent]

/-! ### A peak stitch begins (R277, R282, R283) -/

/-- A peak stitch for which the peak budget has room begins with its own current. -/
theorem peakBegin_of_room {ch : Nat} (room : stMa (s.presentStitch ch) ≤ s.peakRoom ch) (m : BoostMode) :
    s.peakBegin ch mA m = s.peakRun ch (stMa (s.presentStitch ch)) m ((s.svCh ch).window.isSome && m != .starved) := if_pos room

/-- A BOOST begins in DRIVE with the boost it was given. -/
theorem peakRun_boost {ch : Nat} (op : stOp (s.presentStitch ch) = 1) (i : Nat) (check : Bool) :
    ((s.peakRun ch i .granted check).svCh ch).begun = true ∧ ((s.peakRun ch i .granted check).svCh ch).start = s.tick ∧
    ((s.peakRun ch i .granted check).svCh ch).cond = .drive ∧ ((s.peakRun ch i .granted check).svCh ch).peakI = i ∧
    (s.peakRun ch i .granted check).reg (K.boostOwner (svBank ch)) = (ch : Nat) := by
  have shown : K.boostOwner (svBank ch) ≠ K.svSetpoint ch := by simp [svBank]; omega
  simp [State.peakRun, op, State.takeBoost, State.svBegin, reg_setReg_ne shown, reg_setReg_self]

/-- A PEAK begins in the condition in which it finds its channel. -/
theorem svCh_peakRun_peak {ch : Nat} (op : stOp (s.presentStitch ch) = 2) (i : Nat) (m : BoostMode) (check : Bool) :
    (s.peakRun ch i m check).svCh ch =
      { s.svCh ch with begun := true, start := s.tick, peakI := i, setpoint := i, checking := check, reached := none } := by
  simp [State.peakRun, op, State.svBegin]

theorem reg_peakRun_peak {ch k : Nat} (op : stOp (s.presentStitch ch) = 2) (h : k ≠ K.svSetpoint ch) (i : Nat) (m : BoostMode)
    (check : Bool) : (s.peakRun ch i m check).reg k = s.reg k := by
  rw [State.peakRun, reg_setReg_ne h, if_neg (by omega)]
  rfl

theorem runs_stitchBoost (ch : Fin 32) (mA : Nat) (runs : s.runs ch 1 = true) (new : (s.svCh ch).begun = false)
    (unset : (s.svCh ch).boost = .unset) (granted : s.decideBoost ch (s.svCh ch).due = .granted)
    (room : stMa (s.presentStitch ch) ≤ s.peakRoom ch) :
    Runs (.stitchBoost ch mA) s fun t =>
      (t.svCh ch).begun = true ∧ (t.svCh ch).start = s.tick ∧ (t.svCh ch).cond = .drive ∧ (t.svCh ch).peakI = stMa (s.presentStitch ch) ∧
      t.reg (K.boostOwner (svBank ch)) = (ch : Nat) := by
  have op : stOp ((s.showCurrent ch mA).presentStitch ch) = 1 := by
    rw [presentStitch_showCurrent]
    exact (runs_iff.1 runs).2
  have mode : (s.showCurrent ch mA).peakMode ch = .granted := by
    rw [peakMode_showCurrent, State.peakMode, if_neg (by simp [(runs_iff.1 runs).2, unset]), granted]
  have ran : exec (.stitchBoost ch mA) s = .next ((s.showCurrent ch mA).peakRun ch (stMa (s.presentStitch ch)) .granted
      (((s.showCurrent ch mA).svCh ch).window.isSome && BoostMode.granted != .starved)) := by
    change execStitchBoost ch mA s = _
    rw [← presentStitch_showCurrent s ch mA,
      ← peakBegin_of_room (s.showCurrent ch mA) mA (by rwa [presentStitch_showCurrent, peakRoom_showCurrent]), execStitchBoost,
      svMeasured_of_runs runs]
    refine (if_neg (by simp [runs])).trans ((if_neg (by simp [new])).trans (congrArg Host.Outcome.next ?_))
    exact (if_pos (by rw [mode]; decide)).trans (by rw [mode])
  exact ⟨_, ran, peakRun_boost _ op _ _⟩

theorem runs_stitchPeak (ch : Fin 32) (mA : Nat) (runs : s.runs ch 2 = true) (new : (s.svCh ch).begun = false)
    (room : stMa (s.presentStitch ch) ≤ s.peakRoom ch) :
    Runs (.stitchPeak ch mA) s fun t =>
      (t.svCh ch).begun = true ∧ (t.svCh ch).start = s.tick ∧ (t.svCh ch).peakI = stMa (s.presentStitch ch) ∧
      t.reg (K.svSetpoint ch) = (stMa (s.presentStitch ch) : Nat) ∧
      (2 * mA + s.regN (K.regBand ch) < 2 * stMa (s.presentStitch ch) → (s.svCh ch).condSince + ticksUs 5 ≤ s.tick →
        (t.svCh ch).cond = .drive) := by
  obtain ⟨running, op⟩ := runs_iff.1 runs
  have op : stOp ((s.showCurrent ch mA).presentStitch ch) = 2 := by rwa [presentStitch_showCurrent]
  generalize peak : (s.showCurrent ch mA).peakRun ch (stMa (s.presentStitch ch)) ((s.showCurrent ch mA).svCh ch).boost
    (((s.showCurrent ch mA).svCh ch).window.isSome && ((s.showCurrent ch mA).svCh ch).boost != .starved) = u
  have contents : u.svCh ch = { s.svCh ch with
      begun := true, start := s.tick, peakI := stMa (s.presentStitch ch), setpoint := stMa (s.presentStitch ch),
      checking := ((s.svCh ch).window.isSome && (s.svCh ch).boost != .starved), reached := none } := by
    rw [← peak, svCh_peakRun_peak _ op]
    rfl
  have kept {k : Nat} (setpoint : k ≠ K.svSetpoint ch) (current : k ≠ K.svCurrent ch) : u.reg k = s.reg k := by
    rw [← peak, reg_peakRun_peak _ op setpoint, reg_showCurrent _ _ _ current]
  have tick : u.tick = s.tick := by
    rw [← peak, State.peakRun, if_neg (by omega)]
    rfl
  have present : u.presentStitch ch = s.presentStitch ch :=
    presentStitch_congr (kept (by simp) (by simp)) (by rw [contents])
  have inPeak : u.inPeak ch = true := by
    simp [State.inPeak, kept (k := K.svState ch) (by simp) (by simp), running, contents, present, (runs_iff.1 runs).2]
  have ran : exec (.stitchPeak ch mA) s =
      .next (u.svRegulate ch (stMa (s.presentStitch ch)) (stMa (s.presentStitch ch)) mA) := by
    change execStitchPeak ch mA s = _
    have begins : (s.showCurrent ch mA).peakBegin ch mA ((s.showCurrent ch mA).svCh ch).boost = u := by
      rw [peakBegin_of_room _ _ (by rwa [presentStitch_showCurrent, peakRoom_showCurrent]), presentStitch_showCurrent, peak]
    rw [execStitchPeak, svMeasured_of_runs runs]
    refine (if_neg (by simp [runs])).trans ((if_neg (by simp [new])).trans (congrArg Host.Outcome.next ?_))
    rw [State.supplyPeak, begins]
    refine (if_pos inPeak).trans ?_
    rw [contents]
  obtain ⟨cond, since, regulated⟩ := svCh_svRegulate u ch (stMa (s.presentStitch ch)) (stMa (s.presentStitch ch)) mA
  refine ⟨_, ran, ?_, ?_, ?_, (reg_svRegulate ..).trans (if_pos rfl), fun low lasted => ?_⟩
  · rw [regulated, contents]
  · rw [regulated, contents]
  · rw [regulated, contents]
  · refine cond_svRegulate_low ?_ ?_
    · rwa [regN_congr (kept (k := K.regBand ch) (by simp; omega) (by simp; omega))]
    · rwa [contents, tick]

end Sys2Proof.Machine
end

section
/-!
How the stitches of a solenoid channel follow one another, and what each leaves of the other channels (O32).
-/
namespace Sys2Proof.Machine
open Sys2Proof

variable {s : State} {ch i : Nat}

/-! ### The next stitch (R274, R277) -/

/-- A stitch falls due with its own copy of what a stitch sets. -/
def Sv.fallDue (x : Sv) (tick : Nat) : Sv :=
  { x with begun := false, due := tick, boost := .unset, waitCounted := false, roomCounted := false, checking := false, reached := none }

theorem svGoto_of_stitch (h : stOp (stitchAt (s.svCh ch).program i) ≠ 0) :
    s.svGoto ch i = (s.setSv ch ((s.svCh ch).fallDue s.tick)).setReg (K.stitchIndex ch) (i : Nat) := if_neg h

theorem svGoto_of_end (h : stOp (stitchAt (s.svCh ch).program i) = 0) : s.svGoto ch i = s.svToEnd ch := if_pos h

theorem svCh_svGoto (h : stOp (stitchAt (s.svCh ch).program i) ≠ 0) : (s.svGoto ch i).svCh ch = (s.svCh ch).fallDue s.tick := by
  rw [svGoto_of_stitch h, svCh_setReg, svCh_setSv]

theorem stitchIndex_svGoto (h : stOp (stitchAt (s.svCh ch).program i) ≠ 0) : (s.svGoto ch i).reg (K.stitchIndex ch) = (i : Nat) := by
  rw [svGoto_of_stitch h, reg_setReg_self]

theorem reg_svGoto_ne {k : Nat} (h : stOp (stitchAt (s.svCh ch).program i) ≠ 0) (hk : k ≠ K.stitchIndex ch) :
    (s.svGoto ch i).reg k = s.reg k := by
  rw [svGoto_of_stitch h, reg_setReg_ne hk, reg_setSv]

/-- The end of a run shows DECAYING in SLOW_DECAY, and holds no claim (R278, R279). -/
theorem svToEnd_shows (s : State) (ch : Nat) :
    (s.svToEnd ch).reg (K.svState ch) = svDecaying ∧ ((s.svToEnd ch).svCh ch).cond = .slowDecay ∧ (s.svToEnd ch).reg (K.grant ch) = 0 := by
  obtain ⟨acc, contents⟩ := svCh_svToEnd s ch
  refine ⟨svState_svToEnd s ch, by rw [contents]; rfl, ?_⟩
  exact (reg_svToEnd_status (by simp; omega) (by simp) s).trans (if_pos (.inr rfl))

/-! ### END, WINDOW, DITHER and LOOP -/

theorem runs_stitchEnd (s : State) (ch : Fin 32) (mA : Nat) (decaying : s.reg (K.svState ch) = svDecaying) (low : mA < 50)
    (enabled : s.reg (K.svEnable ch) = 1) (stays : s.isDisabling (aimSv ch) = false) (pending : (s.svCh ch).pending = none) :
    Runs (.stitchEnd ch mA) s fun t =>
      t.reg (K.svState ch) = svOff ∧ (t.svCh ch).program = [] ∧ (t.svCh ch).cond = .off ∧ t.reg (K.grant ch) = 0 ∧
      t.reg (K.svSetpoint ch) = 0 := by
  have ran : exec (.stitchEnd ch mA) s = .next ((s.showCurrent ch mA).svToOff ch) := by
    change execStitchEnd ch mA s = _
    have state : (s.showCurrent ch mA).reg (K.svState ch) = svDecaying :=
      (reg_showCurrent_status s ch mA (by decide) (by decide)).trans decaying
    rw [execStitchEnd, svMeasured_of_active s (.inr decaying)]
    exact (if_neg (not_not.2 state)).trans (if_pos low)
  have shown {k : Nat} (row : k / 256 = 0x4040 + ch) (state : k ≠ K.svState ch) (flags : k ≠ K.svFlags ch)
      (zero : k = K.svSetpoint ch ∨ k = K.grant ch ∨ k = K.stitchIndex ch) : ((s.showCurrent ch mA).svToOff ch).reg k = 0 :=
    (reg_svToOff_status row state flags _).trans (if_pos zero)
  obtain ⟨acc, contents⟩ := svCh_svToOff (s.showCurrent ch mA) ch
  refine ⟨_, ran, svState_svToOff ?_ stays pending, by rw [contents]; rfl, by rw [contents]; rfl, ?_, ?_⟩
  · exact (reg_showCurrent s ch mA (by simp; omega)).trans enabled
  · exact shown (by simp; omega) (by simp) (by simp) (.inr (.inl rfl))
  · exact shown (by simp; omega) (by simp) (by simp) (.inl rfl)

theorem runs_stitchWindow (s : State) (ch : Fin 32) (runs : s.runs ch 7 = true)
    (more : stOp (stitchAt (s.svCh ch).program (s.regN (K.stitchIndex ch) + 1)) ≠ 0) :
    Runs (.stitchWindow ch) s fun t =>
      (t.svCh ch).window = some (s.presentStitch ch % 16384, s.presentStitch ch / 16384 % 16384) ∧
      t.reg (K.stitchIndex ch) = (s.regN (K.stitchIndex ch) + 1 : Nat) ∧ (t.svCh ch).begun = false := by
  refine ⟨_, if_neg (by simp [runs]), by rw [svCh_setSv], ?_, ?_⟩
  · rw [reg_setSv, State.svNext, stitchIndex_svGoto more]
  · rw [svCh_setSv, State.svNext, svCh_svGoto more]
    rfl

theorem runs_stitchDither (s : State) (ch : Fin 32) (runs : s.runs ch 8 = true)
    (more : stOp (stitchAt (s.svCh ch).program (s.regN (K.stitchIndex ch) + 1)) ≠ 0) :
    Runs (.stitchDither ch) s fun t =>
      (t.svCh ch).ditherAmp = s.presentStitch ch % 256 * 10 ∧ (t.svCh ch).ditherFreq = s.presentStitch ch / 256 % 4096 ∧
      (t.svCh ch).ditherStart = s.tick ∧ t.reg (K.stitchIndex ch) = (s.regN (K.stitchIndex ch) + 1 : Nat) := by
  refine ⟨_, if_neg (by simp [runs]), by rw [svCh_setSv], by rw [svCh_setSv], ?_, ?_⟩
  · rw [svCh_setSv, State.svNext, svGoto_of_stitch more]
    rfl
  · rw [reg_setSv, State.svNext, stitchIndex_svGoto more]

theorem runs_stitchLoop_again (s : State) (ch : Fin 32) (runs : s.runs ch 9 = true)
    (again : (s.svCh ch).loops.get 0 (s.regN (K.stitchIndex ch)) < s.presentStitch ch / 64 % 65536)
    (target : stOp (stitchAt (s.svCh ch).program (s.presentStitch ch % 64)) ≠ 0) :
    Runs (.stitchLoop ch) s fun t =>
      t.reg (K.stitchIndex ch) = (s.presentStitch ch % 64 : Nat) ∧
      (t.svCh ch).loops.get 0 (s.regN (K.stitchIndex ch)) = (s.svCh ch).loops.get 0 (s.regN (K.stitchIndex ch)) + 1 := by
  refine ⟨_, (if_neg (by simp [runs])).trans (if_pos again), ?_, ?_⟩
  · rw [stitchIndex_svGoto (by rwa [svCh_setSv])]
  · rw [svCh_svGoto (by rwa [svCh_setSv]), svCh_setSv]
    exact Tab.get_set_self ..

theorem runs_stitchLoop_done (s : State) (ch : Fin 32) (runs : s.runs ch 9 = true)
    (done : s.presentStitch ch / 64 % 65536 ≤ (s.svCh ch).loops.get 0 (s.regN (K.stitchIndex ch)))
    (more : stOp (stitchAt (s.svCh ch).program (s.regN (K.stitchIndex ch) + 1)) ≠ 0) :
    Runs (.stitchLoop ch) s fun t => t.reg (K.stitchIndex ch) = (s.regN (K.stitchIndex ch) + 1 : Nat) := by
  refine ⟨_, (if_neg (by simp [runs])).trans (if_neg (Nat.not_lt.2 done)), ?_⟩
  exact stitchIndex_svGoto (by rwa [svCh_setSv])

/-! ### The ends of timed stitches and of decays (R272, R277) -/

/-- The setpoint at which a RAMP ends. -/
def State.rampEnd (s : State) (ch : Nat) : State :=
  (s.setSv ch { s.svCh ch with setpoint := min (stMa (s.presentStitch ch)) (s.regN (K.grant ch)) }).setReg (K.svSetpoint ch)
    (s.svTarget ch (stMa (s.presentStitch ch)) : Nat)

theorem rampEnd_keeps (s : State) (ch : Nat) :
    ((s.rampEnd ch).svCh ch).program = (s.svCh ch).program ∧ (s.rampEnd ch).regN (K.stitchIndex ch) = s.regN (K.stitchIndex ch) ∧
    (s.rampEnd ch).tick = s.tick := by
  refine ⟨by rw [State.rampEnd, svCh_setReg, svCh_setSv], regN_congr ?_, rfl⟩
  rw [State.rampEnd, reg_setReg_ne (by simp), reg_setSv]

/-- A stitch whose time is over gives way to the next one, from the setpoint at which a RAMP ends. -/
theorem exec_stitchTimerExpiry (s : State) (ch : Fin 32) (running : s.reg (K.svState ch) = svRunning) (begun : (s.svCh ch).begun = true)
    (timed : timedStitch (s.presentStitch ch) = true) (noBoost : stOp (s.presentStitch ch) ≠ 1) (noPeak : stOp (s.presentStitch ch) ≠ 2)
    (late : (s.svCh ch).start + stT (s.presentStitch ch) ≤ s.tick) :
    exec (.stitchTimerExpiry ch) s =
      .next ((if stOp (s.presentStitch ch) = 4 then s.rampEnd ch else s).svNext ch) := by
  refine (if_neg (by simp [running, begun, timed, late])).trans ((if_neg (by simp [noBoost, noPeak])).trans ?_)
  split <;> rfl

theorem runs_stitchTimerExpiry (s : State) (ch : Fin 32) (running : s.reg (K.svState ch) = svRunning) (begun : (s.svCh ch).begun = true)
    (timed : timedStitch (s.presentStitch ch) = true) (noBoost : stOp (s.presentStitch ch) ≠ 1) (noPeak : stOp (s.presentStitch ch) ≠ 2)
    (late : (s.svCh ch).start + stT (s.presentStitch ch) ≤ s.tick) :
    Runs (.stitchTimerExpiry ch) s fun t =>
      (stOp (stitchAt (s.svCh ch).program (s.regN (K.stitchIndex ch) + 1)) ≠ 0 →
        t.reg (K.stitchIndex ch) = (s.regN (K.stitchIndex ch) + 1 : Nat) ∧ (t.svCh ch).begun = false ∧ (t.svCh ch).due = s.tick) ∧
      (stOp (stitchAt (s.svCh ch).program (s.regN (K.stitchIndex ch) + 1)) = 0 →
        t.reg (K.svState ch) = svDecaying ∧ (t.svCh ch).cond = .slowDecay ∧ t.reg (K.grant ch) = 0) := by
  refine ⟨_, exec_stitchTimerExpiry s ch running begun timed noBoost noPeak late, ?_⟩
  generalize last : (if stOp (s.presentStitch ch) = 4 then s.rampEnd ch else s) = u
  have kept : (u.svCh ch).program = (s.svCh ch).program ∧ u.regN (K.stitchIndex ch) = s.regN (K.stitchIndex ch) ∧ u.tick = s.tick := by
    rw [← last]
    split
    · exact rampEnd_keeps s ch
    · exact ⟨rfl, rfl, rfl⟩
  obtain ⟨program, index, tick⟩ := kept
  rw [State.svNext, ← program, ← index, ← tick]
  refine ⟨fun more => ⟨stitchIndex_svGoto more, ?_, ?_⟩, fun ended => ?_⟩
  · rw [svCh_svGoto more]
    rfl
  · rw [svCh_svGoto more]
    rfl
  · rw [svGoto_of_end ended]
    exact svToEnd_shows u ch

/-- A sample of a running stitch ends a BOOST at its I, and FREEWHEEL and CLAMP at or below theirs. -/
theorem exec_stitchCurrentReached (s : State) (ch : Fin 32) (mA : Nat) (running : s.reg (K.svState ch) = svRunning)
    (begun : (s.svCh ch).begun = true) :
    exec (.stitchCurrentReached ch mA) s =
      if stOp (s.presentStitch ch) = 1 then
        if (s.svCh ch).peakI ≤ mA then
          let u := (s.showCurrent ch mA).ttpReached ch mA
          .next (if u.reg (K.svState ch) = svRunning then u.peakEnd ch else u)
        else .next (s.showCurrent ch mA)
      else if (stOp (s.presentStitch ch) = 5 || stOp (s.presentStitch ch) = 6) &&
          (if stI (s.presentStitch ch) = 0 then decide (mA < 50) else decide (mA ≤ stMa (s.presentStitch ch))) then
        .next ((s.showCurrent ch mA).svNext ch)
      else .next (s.showCurrent ch mA) := by
  change execStitchCurrentReached ch mA s = _
  have state : (s.showCurrent ch mA).reg (K.svState ch) = svRunning :=
    (reg_showCurrent_status s ch mA (by decide) (by decide)).trans running
  have active : ¬ (decide ((s.showCurrent ch mA).reg (K.svState ch) ≠ svRunning) || !(s.svCh ch).begun) = true := by simp [state, begun]
  rw [← presentStitch_showCurrent s ch mA, execStitchCurrentReached, svMeasured_of_active s (.inl running)]
  exact if_neg active

theorem runs_stitchCurrentReached_decay (s : State) (ch : Fin 32) (mA : Nat) (running : s.reg (K.svState ch) = svRunning)
    (begun : (s.svCh ch).begun = true) (op : stOp (s.presentStitch ch) = 5 ∨ stOp (s.presentStitch ch) = 6)
    (low : if stI (s.presentStitch ch) = 0 then mA < 50 else mA ≤ stMa (s.presentStitch ch))
    (more : stOp (stitchAt (s.svCh ch).program (s.regN (K.stitchIndex ch) + 1)) ≠ 0) :
    Runs (.stitchCurrentReached ch mA) s fun t =>
      t.reg (K.stitchIndex ch) = (s.regN (K.stitchIndex ch) + 1 : Nat) ∧ (t.svCh ch).begun = false := by
  have reached : (if stI (s.presentStitch ch) = 0 then decide (mA < 50) else decide (mA ≤ stMa (s.presentStitch ch))) = true := by
    split <;> simp_all
  have ran : exec (.stitchCurrentReached ch mA) s =
      .next ((s.showCurrent ch mA).svGoto ch (s.regN (K.stitchIndex ch) + 1)) := by
    rw [exec_stitchCurrentReached s ch mA running begun, if_neg (by omega), if_pos (by simp [op, reached]), State.svNext,
      regN_showCurrent_status s ch mA (by decide) (by decide)]
  refine ⟨_, ran, stitchIndex_svGoto more, ?_⟩
  rw [svCh_svGoto (s := s.showCurrent ch mA) more]
  rfl

/-- A peak stitch without a window of time gives its boost back and ends. -/
theorem peakEnd_of_no_window {ch : Nat} (window : (s.svCh ch).window = none) (running : s.reg (K.svState ch) = svRunning) :
    s.peakEnd ch = ((s.setSv ch { s.svCh ch with window := none, checking := false }).svDropBoost ch).svNext ch := by
  have ends : s.ttpEnd ch = s.setSv ch { s.svCh ch with window := none, checking := false } := if_neg (by simp [window])
  have apart : K.svState ch ≠ K.boostOwner (svBank ch) := by simp [svBank]; omega
  rw [State.peakEnd, ends]
  exact if_pos (by rw [reg_svDropBoost apart, reg_setSv, running])

theorem ttpReached_of_no_window {ch : Nat} (window : (s.svCh ch).window = none) (mA : Nat) : s.ttpReached ch mA = s := by
  simp only [State.ttpReached, window]

theorem runs_stitchCurrentReached_boost (s : State) (ch : Fin 32) (mA : Nat) (running : s.reg (K.svState ch) = svRunning)
    (begun : (s.svCh ch).begun = true) (op : stOp (s.presentStitch ch) = 1) (high : (s.svCh ch).peakI ≤ mA)
    (window : (s.svCh ch).window = none) (more : stOp (stitchAt (s.svCh ch).program (s.regN (K.stitchIndex ch) + 1)) ≠ 0) :
    Runs (.stitchCurrentReached ch mA) s fun t =>
      t.reg (K.stitchIndex ch) = (s.regN (K.stitchIndex ch) + 1 : Nat) ∧ t.reg (K.boostOwner (svBank ch)) ≠ (ch : Nat) := by
  have state : (s.showCurrent ch mA).reg (K.svState ch) = svRunning :=
    (reg_showCurrent_status s ch mA (by decide) (by decide)).trans running
  have boost : K.stitchIndex ch ≠ K.boostOwner (svBank ch) := by simp [svBank]; omega
  generalize dropped : ((s.showCurrent ch mA).setSv ch { s.svCh ch with window := none, checking := false }).svDropBoost ch = u
  have index : u.regN (K.stitchIndex ch) = s.regN (K.stitchIndex ch) := by
    rw [← dropped, regN_congr (reg_svDropBoost boost _), regN_congr (reg_setSv ..),
      regN_showCurrent_status s ch mA (by decide) (by decide)]
  have ran : exec (.stitchCurrentReached ch mA) s = .next (u.svGoto ch (s.regN (K.stitchIndex ch) + 1)) := by
    rw [exec_stitchCurrentReached s ch mA running begun, if_pos op, if_pos high]
    simp only [ttpReached_of_no_window (s := s.showCurrent ch mA) window, state, if_true]
    rw [peakEnd_of_no_window (s := s.showCurrent ch mA) window state, svCh_showCurrent, dropped, State.svNext, index]
  have next : stOp (stitchAt (u.svCh ch).program (s.regN (K.stitchIndex ch) + 1)) ≠ 0 := by
    rwa [← dropped, svCh_svDropBoost, svCh_setSv]
  refine ⟨_, ran, stitchIndex_svGoto next, ?_⟩
  rw [reg_svGoto_ne next boost.symm, ← dropped]
  exact boostOwner_svDropBoost _ ch

/-! ### The other channels (R277) -/

/-- The outcome of a command that keeps all that channel `ch` does not own. -/
def KeepsRest (s : State) (ch : Nat) (o : Out) : Prop := ∃ t, o = .next t ∧ t.svRest ch = s.svRest ch

@[simp] theorem keepsRest_next (s t : State) (ch : Nat) : KeepsRest s ch (.next t) ↔ t.svRest ch = s.svRest ch := by
  simp [KeepsRest]

@[simp] theorem keepsRest_ite (s : State) (ch : Nat) (c : Prop) [Decidable c] (o p : Out) :
    KeepsRest s ch (if c then o else p) ↔ if c then KeepsRest s ch o else KeepsRest s ch p := by
  rw [← apply_ite (KeepsRest s ch)]

section
variable (s : State) (ch : Fin 32) (mA : Nat)

theorem keepsRest_stitchEnd : KeepsRest s ch (execStitchEnd ch mA s) := by simp [execStitchEnd]
theorem keepsRest_stitchBoost : KeepsRest s ch (execStitchBoost ch mA s) := by simp [execStitchBoost]
theorem keepsRest_stitchPeak : KeepsRest s ch (execStitchPeak ch mA s) := by simp [execStitchPeak]
theorem keepsRest_stitchHold : KeepsRest s ch (execStitchHold ch mA s) := by simp [execStitchHold]
theorem keepsRest_stitchRamp : KeepsRest s ch (execStitchRamp ch mA s) := by simp [execStitchRamp]
theorem keepsRest_stitchFreewheel : KeepsRest s ch (execStitchFreewheel ch mA s) := by simp [execStitchFreewheel]
theorem keepsRest_stitchClamp : KeepsRest s ch (execStitchClamp ch mA s) := by simp [execStitchClamp]
theorem keepsRest_stitchWindow : KeepsRest s ch (execStitchWindow ch s) := by simp [execStitchWindow]
theorem keepsRest_stitchDither : KeepsRest s ch (execStitchDither ch s) := by simp [execStitchDither]
theorem keepsRest_stitchLoop : KeepsRest s ch (execStitchLoop ch s) := by simp [execStitchLoop]
theorem keepsRest_stitchHoldExt : KeepsRest s ch (execStitchHoldExt ch mA s) := by simp [execStitchHoldExt]
theorem keepsRest_stitchTimerExpiry : KeepsRest s ch (execStitchTimerExpiry ch s) := by simp [execStitchTimerExpiry]
theorem keepsRest_stitchCurrentReached : KeepsRest s ch (execStitchCurrentReached ch mA s) := by simp [execStitchCurrentReached]

theorem keepsRest_maxOnTime : KeepsRest s ch (execMaxOnTime ch s) := by
  simp only [execMaxOnTime, keepsRest_ite]
  split_ifs
  · simp
  · simp
  · split <;> simp

theorem keepsRest_dutyBinBoundary : KeepsRest s ch (execDutyBinBoundary ch s) := by simp [execDutyBinBoundary]

theorem keepsRest_boostDeferExpiry : KeepsRest s ch (execBoostDeferExpiry ch mA s) := by
  simp only [execBoostDeferExpiry]
  split <;> simp

theorem axes_of_outside {F : List Part} {s t : State} (h : t.outside F = s.outside F) (hF : .axes ∉ F) : t.axes = s.axes :=
  (congrArg State.axes (eq_merge_of_outside h)).trans (if_neg hF)

/-- A command that keeps what channel `ch` does not own changes no other channel and no other unit. -/
theorem runs_of_keepsRest {s : State} {ch : Fin 32} {c : Instr} (h : KeepsRest s ch (exec c s)) :
    Runs c s fun t => (∀ k : Fin 32, k ≠ ch → t.svCh k = s.svCh k ∧ t.reg (K.svState k) = s.reg (K.svState k)) ∧
      t.ls = s.ls ∧ t.ctxs = s.ctxs ∧ t.axes = s.axes ∧ t.sections = s.sections ∧ t.blobs = s.blobs := by
  obtain ⟨t, ran, rest⟩ := h
  have outside := outside_of_svRest rest
  refine ⟨t, ran, fun k hk => ?_, ls_of_outside outside (by decide), ctxs_of_outside outside (by decide),
    axes_of_outside outside (by decide), sections_of_outside outside (by decide), blobs_of_outside outside (by decide)⟩
  have other : (k : Nat) ≠ ch := Fin.val_ne_of_ne hk
  exact ⟨svCh_of_svRest rest other, svState_of_svRest rest other ch.isLt⟩

theorem keepsRest_stitches (c : Instr)
    (hc : c ∈ [.stitchEnd ch mA, .stitchBoost ch mA, .stitchPeak ch mA, .stitchHold ch mA, .stitchRamp ch mA, .stitchFreewheel ch mA,
      .stitchClamp ch mA, .stitchWindow ch, .stitchDither ch, .stitchLoop ch, .stitchHoldExt ch mA, .stitchTimerExpiry ch,
      .stitchCurrentReached ch mA, .maxOnTime ch, .dutyBinBoundary ch, .boostDeferExpiry ch mA]) :
    KeepsRest s ch (exec c s) := by
  simp only [List.mem_cons, List.not_mem_nil, or_false] at hc
  obtain rfl | rfl | rfl | rfl | rfl | rfl | rfl | rfl | rfl | rfl | rfl | rfl | rfl | rfl | rfl | rfl := hc
  · exact keepsRest_stitchEnd s ch mA
  · exact keepsRest_stitchBoost s ch mA
  · exact keepsRest_stitchPeak s ch mA
  · exact keepsRest_stitchHold s ch mA
  · exact keepsRest_stitchRamp s ch mA
  · exact keepsRest_stitchFreewheel s ch mA
  · exact keepsRest_stitchClamp s ch mA
  · exact keepsRest_stitchWindow s ch
  · exact keepsRest_stitchDither s ch
  · exact keepsRest_stitchLoop s ch
  · exact keepsRest_stitchHoldExt s ch mA
  · exact keepsRest_stitchTimerExpiry s ch
  · exact keepsRest_stitchCurrentReached s ch mA
  · exact keepsRest_maxOnTime s ch
  · exact keepsRest_dutyBinBoundary s ch
  · exact keepsRest_boostDeferExpiry s ch mA

end

/-- Settles O32: each stitch is the shared operation that begins or ends it, and none reaches beyond its channel and bank. -/
theorem stitchesTakeEffect : Obligations.StitchesTakeEffect := by
  unfold Obligations.StitchesTakeEffect
  exact ⟨runs_stitchEnd, runs_stitchBoost, runs_stitchPeak, runs_stitchHold, runs_stitchRamp, runs_stitchFreewheel, runs_stitchClamp,
    runs_stitchWindow, runs_stitchDither, runs_stitchLoop_again, runs_stitchLoop_done, runs_stitchHoldExt, runs_stitchTimerExpiry,
    runs_stitchCurrentReached_decay, runs_stitchCurrentReached_boost, fun s ch mA c hc => runs_of_keepsRest (keepsRest_stitches s ch mA c hc)⟩

end Sys2Proof.Machine
end

section
/-!
Starts of solenoid channels, and the limits that end their runs (O33).
-/
namespace Sys2Proof.Machine
open Sys2Proof

variable {s : State} {ch k : Nat} {p : PendStart}

/-! ### A program begins (R282, R284) -/

/-- What the begin of a program sets in its channel. -/
def Sv.beginProgram (x : Sv) (p : PendStart) (tick : Nat) : Sv :=
  { x with
    program := p.program, begun := false, due := p.req, start := tick, boost := .unset, waitCounted := p.boostCounted,
    roomCounted := false, ditherAmp := 0, loops := ⟨[]⟩, window := none, checking := false, reached := none, pending := none,
    runningSince := some (x.runningSince.getD tick), binFrom := if x.runningSince.isSome then x.binFrom else tick }

/-- The channel runs its program's stitch 0; the flags of the run before are clear. -/
def State.enterProgram (s : State) (ch : Nat) (p : PendStart) : State :=
  ([0, 1, 2, 4, 5, 7, 14].foldl (fun s b => s.setFlag (K.svFlags ch) b false)
    ((s.svDropBoost ch).setSv ch (((s.svDropBoost ch).svCh ch).beginProgram p (s.svDropBoost ch).tick))).setReg (K.svState ch) svRunning

/-- The status entries of a run show its program, its stitch and its grant. -/
def State.showProgram (s : State) (ch : Nat) (p : PendStart) : State :=
  ((s.setReg (K.program ch) (p.number : Nat)).setReg (K.stitchIndex ch) 0).setReg (K.grant ch) (p.grant : Nat)

/-- A program whose first stitch takes no boost and is not END. -/
theorem svBeginProgram_of_stitch (noBoost : firstIsBoost p.program = false) (stitch : stOp (stitchAt p.program 0) ≠ 0) (m : BoostMode) :
    s.svBeginProgram ch p m =
      (let t := ((((s.enterProgram ch p).showProgram ch p).bump (K.starts ch)).finishOpt p.item .done)
        if p.clipped then t.setFlag (K.svFlags ch) 1 true else t).showClaims (svBank ch) := by
  simp only [State.svBeginProgram, noBoost, stitch, if_false, Bool.false_eq_true]
  rfl

theorem svCh_enterProgram (s : State) (ch : Nat) (p : PendStart) :
    (s.enterProgram ch p).svCh ch = (s.svCh ch).beginProgram p s.tick := by
  simp [State.enterProgram]

/-- Beginning a program changes entries of its channel only, and the boost that it gives back. -/
theorem reg_enterProgram_ne (flags : k ≠ K.svFlags ch) (state : k ≠ K.svState ch) (owner : k ≠ K.boostOwner (svBank ch)) :
    (s.enterProgram ch p).reg k = s.reg k := by
  rw [State.enterProgram, reg_setReg_ne state, reg_foldl (fun t _ _ => reg_setFlag_ne flags t _ _), reg_setSv, reg_svDropBoost owner]

@[simp] theorem svCh_showProgram (s : State) (ch : Nat) (p : PendStart) (n : Nat) : (s.showProgram ch p).svCh n = s.svCh n := rfl

theorem reg_showProgram_ne (program : k ≠ K.program ch) (index : k ≠ K.stitchIndex ch) (grant : k ≠ K.grant ch) :
    (s.showProgram ch p).reg k = s.reg k := by
  rw [State.showProgram, reg_setReg_ne grant, reg_setReg_ne index, reg_setReg_ne program]

section
variable (noBoost : firstIsBoost p.program = false) (stitch : stOp (stitchAt p.program 0) ≠ 0) (m : BoostMode)
include noBoost stitch

theorem svCh_svBeginProgram : (s.svBeginProgram ch p m).svCh ch = (s.svCh ch).beginProgram p s.tick := by
  rw [svBeginProgram_of_stitch noBoost stitch, svCh_showClaims]
  simp only [svCh_ite, svCh_setFlag, svCh_finishOpt, svCh_bump, ite_self, svCh_showProgram, svCh_enterProgram]

/-- The entries but the flags after a program has begun. -/
theorem reg_svBeginProgram (flags : k ≠ K.svFlags ch) (claims : k ≠ K.claimedCurrent (svBank ch)) :
    (s.svBeginProgram ch p m).reg k = (((s.enterProgram ch p).showProgram ch p).bump (K.starts ch)).reg k := by
  rw [svBeginProgram_of_stitch noBoost stitch, reg_showClaims_ne claims]
  simp only [reg_ite, reg_setFlag_ne flags, reg_finishOpt, ite_self]

/-- A program begins its run at stitch 0 with its grant, and the start is counted. -/
theorem svBeginProgram_shows :
    (s.svBeginProgram ch p m).reg (K.svState ch) = svRunning ∧ (s.svBeginProgram ch p m).reg (K.grant ch) = (p.grant : Nat) ∧
    (s.svBeginProgram ch p m).reg (K.program ch) = (p.number : Nat) ∧ (s.svBeginProgram ch p m).reg (K.stitchIndex ch) = 0 ∧
    (s.svBeginProgram ch p m).reg (K.starts ch) = (s.bump (K.starts ch)).reg (K.starts ch) := by
  have shown {k : Nat} (row : k / 256 = 0x4040 + ch) (flags : k ≠ K.svFlags ch) : (s.svBeginProgram ch p m).reg k =
      (((s.enterProgram ch p).showProgram ch p).bump (K.starts ch)).reg k :=
    reg_svBeginProgram noBoost stitch m flags (status_ne row).1
  refine ⟨?_, ?_, ?_, ?_, ?_⟩ <;> rw [shown (by simp; omega) (by simp)]
  · rw [reg_bump_ne (by simp), reg_showProgram_ne (by simp) (by simp) (by simp), State.enterProgram, reg_setReg_self]
  · rw [reg_bump_ne (by simp), State.showProgram, reg_setReg_self]
  · rw [reg_bump_ne (by simp), State.showProgram, reg_setReg_ne (by simp), reg_setReg_ne (by simp), reg_setReg_self]
  · rw [reg_bump_ne (by simp), State.showProgram, reg_setReg_ne (by simp), reg_setReg_self]
  · obtain ⟨-, owner, -⟩ := status_ne (k := K.starts ch) (ch := ch) (by simp; omega)
    refine reg_bump_congr ?_
    rw [reg_showProgram_ne (by simp) (by simp) (by simp), reg_enterProgram_ne (by simp) (by simp) owner]

/-- Entries outside the channel's own status change with its bank's boost and claims only. -/
theorem reg_svBeginProgram_outside (row : k / 256 ≠ 0x4040 + ch) (owner : k ≠ K.boostOwner (svBank ch))
    (claims : k ≠ K.claimedCurrent (svBank ch)) : (s.svBeginProgram ch p m).reg k = s.reg k := by
  have apart (j : Nat) (hj : j < 256) : k ≠ (0x4040 + ch) * 256 + j := by
    rintro rfl
    omega
  rw [reg_svBeginProgram noBoost stitch m (apart _ (by decide)) claims, reg_bump_ne (apart _ (by decide)),
    reg_showProgram_ne (apart _ (by decide)) (apart _ (by decide)) (apart _ (by decide)),
    reg_enterProgram_ne (apart _ (by decide)) (apart _ (by decide)) owner]

/-- A grant that the room has cut shows BANK_LIMIT. -/
theorem bankLimit_svBeginProgram (clipped : p.clipped = true) : (s.svBeginProgram ch p m).flag (K.svFlags ch) 1 = true := by
  obtain ⟨claims, -⟩ := status_ne (k := K.svFlags ch) (ch := ch) (by simp; omega)
  rw [svBeginProgram_of_stitch noBoost stitch, flag_congr (reg_showClaims_ne claims _)]
  simp only [clipped, if_true, flag_setFlag]

end

/-! ### Arbitration (R282) -/

/-- A start that has its grant and needs no boost begins. -/
theorem beginGranted_of_banked (pending : (s.svCh ch).pending = some p) (banked : p.banked = true)
    (noBoost : firstIsBoost p.program = false) : s.beginGranted ch = s.svBeginProgram ch p .unset := by
  simp [State.beginGranted, pending, banked, noBoost]

theorem grantRoom_of_fits (banked : p.banked = false)
    (fits : (p.claim : Int) ≤ s.reg K.bankContinuousLimit - (s.claimsOfOthers ch : Nat)) :
    s.grantRoom ch p = s.setPend ch { p with grant := p.claim, banked := true } :=
  (if_neg (by simp [banked])).trans (if_pos fits)

theorem grantRoom_of_late (banked : p.banked = false)
    (exceeds : s.reg K.bankContinuousLimit - (s.claimsOfOthers ch : Nat) < (p.claim : Int)) (late : p.req + s.deferTicks ≤ s.tick) :
    s.grantRoom ch p =
      (s.setPend ch { p with
        grant := (max (s.reg K.bankContinuousLimit - (s.claimsOfOthers ch : Nat)) 0).toNat, banked := true, clipped := true }).bump
        (K.bankLimitClips (svBank ch)) :=
  (if_neg (by simp [banked])).trans ((if_neg (not_le.2 exceeds)).trans (if_pos late))

@[simp] theorem svCh_setPend (s : State) (ch : Nat) (p : PendStart) : (s.setPend ch p).svCh ch = { s.svCh ch with pending := some p } :=
  svCh_setSv ..

@[simp] theorem reg_setPend (s : State) (ch : Nat) (p : PendStart) (k : Nat) : (s.setPend ch p).reg k = s.reg k := rfl

/-- The measured boost voltage bears on no claim. -/
theorem claimsOfOthers_setReg_boostMeasured (s : State) (b : Fin 8) (v : Int) (ch : Nat) :
    (s.setReg (K.boostMeasured b) v).claimsOfOthers ch = s.claimsOfOthers ch := by
  have same (n : Nat) : (s.setReg (K.boostMeasured b) v).heldClaim n = s.heldClaim n := by
    have kept {j : Nat} (hj : j < 256) : (s.setReg (K.boostMeasured b) v).reg ((0x4040 + n) * 256 + j) = s.reg ((0x4040 + n) * 256 + j) :=
      reg_setReg_ne (by simp; omega) _ _
    rw [State.heldClaim, State.heldClaim, kept (by decide), regN_congr (kept (by decide)), svCh_setReg]
  rw [State.claimsOfOthers, State.claimsOfOthers, funext same]

theorem runs_bankArbitrate (s : State) (b : Fin 8) (ch : Nat) (p : PendStart) (boost : Nat) (order : s.startOrder b = [ch])
    (pending : (s.svCh ch).pending = some p) (banked : p.banked = false)
    (fits : (p.claim : Int) ≤ s.reg K.bankContinuousLimit - (s.claimsOfOthers ch : Nat)) (noBoost : firstIsBoost p.program = false)
    (stitch : stOp (stitchAt p.program 0) ≠ 0) :
    Runs (.bankArbitrate b boost) s fun t =>
      t.reg (K.svState ch) = svRunning ∧ t.reg (K.grant ch) = (p.claim : Nat) ∧ t.reg (K.program ch) = (p.number : Nat) ∧
      t.reg (K.stitchIndex ch) = 0 ∧ (t.svCh ch).program = p.program ∧ (t.svCh ch).pending = none ∧ (t.svCh ch).due = p.req ∧
      t.reg (K.starts ch) = (s.bump (K.starts ch)).reg (K.starts ch) ∧ t.reg (K.boostMeasured b) = (min 65535 boost : Nat) := by
  generalize granted : { p with grant := p.claim, banked := true } = q
  generalize measured : s.setReg (K.boostMeasured b) (min 65535 boost : Nat) = u
  have status {j : Nat} (hj : j < 256) : u.reg ((0x4040 + ch) * 256 + j) = s.reg ((0x4040 + ch) * 256 + j) := by
    rw [← measured, reg_setReg_ne (by simp; omega)]
  have room : (p.claim : Int) ≤ u.reg K.bankContinuousLimit - (u.claimsOfOthers ch : Nat) := by
    rwa [← measured, claimsOfOthers_setReg_boostMeasured, reg_setReg_ne (by simp; omega)]
  have waits : (u.svCh ch).pending = some p := by rwa [← measured, svCh_setReg]
  have noBoost : firstIsBoost q.program = false := by rwa [← granted]
  have stitch : stOp (stitchAt q.program 0) ≠ 0 := by rwa [← granted]
  have begins : u.arbitrateOne ch = (u.setPend ch q).svBeginProgram ch q .unset := by
    rw [arbitrateOne_of_pending waits, grantRoom_of_fits banked room, granted,
      beginGranted_of_banked (p := q) (by simp) (by rw [← granted]) noBoost]
  have ran : exec (.bankArbitrate b boost) s = .next (((u.setPend ch q).svBeginProgram ch q .unset).showClaims b) := by
    change execBankArbitrate b boost s = _
    have same : u.startOrder b = [ch] := by
      rw [← order, ← measured]
      rfl
    rw [execBankArbitrate, measured]
    simp only [same, List.foldl_cons, List.foldl_nil, begins]
  obtain ⟨state, grant, number, index, starts⟩ := svBeginProgram_shows (s := u.setPend ch q) (ch := ch) noBoost stitch .unset
  have contents := svCh_svBeginProgram (s := u.setPend ch q) (ch := ch) noBoost stitch .unset
  have shown {j : Nat} (hj : j < 256) : (0x4040 + ch) * 256 + j ≠ K.claimedCurrent b := by simp; omega
  refine ⟨_, ran, ?_, ?_, ?_, ?_, ?_, ?_, ?_, ?_, ?_⟩
  · rw [reg_showClaims_ne (shown (by decide)), state]
  · rw [reg_showClaims_ne (shown (by decide)), grant, ← granted]
  · rw [reg_showClaims_ne (shown (by decide)), number, ← granted]
  · rw [reg_showClaims_ne (shown (by decide)), index]
  · rw [svCh_showClaims, contents, ← granted]
    rfl
  · rw [svCh_showClaims, contents]
    rfl
  · rw [svCh_showClaims, contents, ← granted]
    rfl
  · rw [reg_showClaims_ne (shown (by decide)), starts, reg_bump_congr ((reg_setPend ..).trans (status (by decide)))]
  · rw [reg_showClaims_ne (by simp), reg_svBeginProgram_outside noBoost stitch .unset (by simp; omega) (by simp; omega) (by simp; omega),
      reg_setPend, ← measured, reg_setReg_self]

theorem runs_boostDeferExpiry (s : State) (ch : Fin 32) (mA : Nat) (p : PendStart) (pending : (s.svCh ch).pending = some p)
    (late : p.req + s.deferTicks ≤ s.tick) (banked : p.banked = false)
    (exceeds : s.reg K.bankContinuousLimit - (s.claimsOfOthers ch : Nat) < (p.claim : Int)) (noBoost : firstIsBoost p.program = false)
    (stitch : stOp (stitchAt p.program 0) ≠ 0) :
    Runs (.boostDeferExpiry ch mA) s fun t =>
      t.reg (K.svState ch) = svRunning ∧
      t.reg (K.grant ch) = ((max (s.reg K.bankContinuousLimit - (s.claimsOfOthers ch : Nat)) 0).toNat : Nat) ∧
      t.flag (K.svFlags ch) 1 = true ∧ (t.svCh ch).program = p.program ∧
      t.reg (K.bankLimitClips (svBank ch)) = (s.bump (K.bankLimitClips (svBank ch))).reg (K.bankLimitClips (svBank ch)) := by
  generalize granted : { p with
    grant := (max (s.reg K.bankContinuousLimit - (s.claimsOfOthers ch : Nat)) 0).toNat, banked := true, clipped := true } = q
  generalize clipped : (s.setPend ch q).bump (K.bankLimitClips (svBank ch)) = u
  have noBoost : firstIsBoost q.program = false := by rwa [← granted]
  have stitch : stOp (stitchAt q.program 0) ≠ 0 := by rwa [← granted]
  have waits : (u.svCh ch).pending = some q := by rw [← clipped, svCh_bump, svCh_setPend]
  have begins : s.arbitrateOne ch = u.svBeginProgram ch q .unset := by
    rw [arbitrateOne_of_pending pending, grantRoom_of_late banked exceeds late, granted, clipped,
      beginGranted_of_banked waits (by rw [← granted]) noBoost]
  have ran : exec (.boostDeferExpiry ch mA) s = .next ((u.svBeginProgram ch q .unset).showClaims (svBank ch)) := by
    change execBoostDeferExpiry ch mA s = _
    simp only [execBoostDeferExpiry, pending, late, if_true, begins]
  obtain ⟨state, grant, -, -, -⟩ := svBeginProgram_shows (s := u) (ch := ch) noBoost stitch .unset
  have contents := svCh_svBeginProgram (s := u) (ch := ch) noBoost stitch .unset
  have claims {k : Nat} (row : k / 256 = 0x4040 + ch) : k ≠ K.claimedCurrent (svBank ch) := (status_ne row).1
  refine ⟨_, ran, ?_, ?_, ?_, ?_, ?_⟩
  · rw [reg_showClaims_ne (claims (by simp; omega)), state]
  · rw [reg_showClaims_ne (claims (by simp; omega)), grant, ← granted]
  · rw [flag_congr (reg_showClaims_ne (claims (by simp; omega)) _), bankLimit_svBeginProgram noBoost stitch .unset (by rw [← granted])]
  · rw [svCh_showClaims, contents, ← granted]
    rfl
  · rw [reg_showClaims_ne (by simp),
      reg_svBeginProgram_outside noBoost stitch .unset (by simp [svBank]; omega) (by simp) (by simp), ← clipped,
      reg_bump_congr (reg_setPend ..)]

/-! ### The longest on-time (R285) -/

theorem runs_maxOnTime (s : State) (ch : Fin 32) (t0 : Nat) (running : s.reg (K.svState ch) = svRunning)
    (limited : s.regN (K.maxOnTime ch) ≠ 0) (since : (s.svCh ch).runningSince = some t0)
    (long : t0 + ticksMs (s.regN (K.maxOnTime ch)) ≤ s.tick) :
    Runs (.maxOnTime ch) s fun t =>
      t.reg (K.svState ch) = svDecaying ∧ t.reg (K.onTime ch) = 0 ∧ t.reg (K.grant ch) = 0 ∧ t.flag (K.svFlags ch) 2 = true ∧
      (t.svCh ch).pending = none ∧ t.reg (K.maxOnTrips ch) = (s.bump (K.maxOnTrips ch)).reg (K.maxOnTrips ch) := by
  have discarded := svCh_svDiscardPending s ch .stateDenied
  have others : (s.svDiscardPending ch .stateDenied).reg (K.maxOnTrips ch) = s.reg (K.maxOnTrips ch) :=
    reg_svDiscardPending_ne (by simp) (by simp) s _
  have ran : exec (.maxOnTime ch) s = .next (((s.svDiscardPending ch .stateDenied).svToEnd ch).maxOnTrip ch) :=
    (if_neg limited).trans (if_pos (by simp [running, since, State.heldFor, long]))
  generalize s.svDiscardPending ch .stateDenied = u at *
  have stopped : (u.svCh ch).runningSince = some t0 := by rw [discarded, since]
  obtain ⟨acc, contents⟩ := svCh_svToEnd u ch
  obtain ⟨state, -, grant⟩ := svToEnd_shows u ch
  have kept {k : Nat} (flags : k ≠ K.svFlags ch) (trips : k ≠ K.maxOnTrips ch) :
      ((u.svToEnd ch).maxOnTrip ch).reg k = (u.svToEnd ch).reg k := by
    rw [State.maxOnTrip, reg_bump_ne trips, reg_setFlag_ne flags, reg_setSv]
  refine ⟨_, ran, ?_, ?_, ?_, ?_, ?_, ?_⟩
  · rw [kept (by simp) (by simp), state]
  · rw [kept (by simp) (by simp), reg_svToEnd_status (by simp; omega) (by simp), if_neg (by simp), if_neg (by simp),
      onTime_svStopRunning stopped]
  · rw [kept (by simp) (by simp), grant]
  · rw [State.maxOnTrip, flag_congr (reg_bump_ne (by simp) _), flag_setFlag]
  · rw [State.maxOnTrip, svCh_bump, svCh_setFlag, svCh_setSv, contents, discarded]
    rfl
  · refine reg_bump_congr ?_
    rw [reg_setFlag_ne (by simp), reg_setSv, reg_svToEnd_status (by simp; omega) (by simp), if_neg (by simp), if_neg (by simp),
      reg_svStopRunning (by simp), others]

/-! ### The duty limit (R286) -/

/-- The duty limit ends a run, and keeps the tick in which it did. -/
def State.dutyStop (s : State) (ch : Nat) : State :=
  if s.reg (K.svState ch) = svRunning then
    (s.svToEnd ch).setSv ch { (s.svToEnd ch).svCh ch with ended := (s.svCh ch).runningSince.map fun t => (s.tick, t) }
  else s

/-- A channel that reaches the duty limit loses its start and its run, and counts the trip. -/
def State.dutyTrip (s : State) (ch : Nat) : State :=
  (((s.svDiscardPending ch .stateDenied).dutyStop ch).setFlag (K.svFlags ch) 3 true).bump (K.dutyTrips ch)

theorem svCh_dutyStop (s : State) (ch : Nat) :
    ((s.dutyStop ch).svCh ch).bins = (s.svCh ch).bins ∧ ((s.dutyStop ch).svCh ch).pending = (s.svCh ch).pending := by
  unfold State.dutyStop
  split
  · obtain ⟨acc, contents⟩ := svCh_svToEnd s ch
    rw [svCh_setSv, contents]
    exact ⟨rfl, rfl⟩
  · exact ⟨rfl, rfl⟩

theorem svState_dutyStop (s : State) (ch : Nat) : (s.dutyStop ch).reg (K.svState ch) ≠ svRunning := by
  unfold State.dutyStop
  split
  · rw [reg_setSv, svState_svToEnd]
    decide
  · assumption

/-- The entries of a channel that bear no part in the end of its run. -/
theorem reg_dutyStop_ne (row : k / 256 = 0x4040 + ch) (state : k ≠ K.svState ch) (setpoint : k ≠ K.svSetpoint ch) (grant : k ≠ K.grant ch)
    (index : k ≠ K.stitchIndex ch) (time : k ≠ K.onTime ch) : (s.dutyStop ch).reg k = s.reg k := by
  unfold State.dutyStop
  split
  · rw [reg_setSv, reg_svToEnd_status row state, if_neg (by simp [setpoint, grant]), if_neg index, reg_svStopRunning time]
  · rfl

theorem dutyTrip_keeps (s : State) (ch : Nat) :
    ((s.dutyTrip ch).svCh ch).bins = (s.svCh ch).bins ∧ (s.dutyTrip ch).reg (K.dutyShare ch) = s.reg (K.dutyShare ch) := by
  refine ⟨?_, ?_⟩
  · rw [State.dutyTrip, svCh_bump, svCh_setFlag, (svCh_dutyStop _ ch).1, svCh_svDiscardPending]
  · rw [State.dutyTrip, reg_bump_ne (by simp), reg_setFlag_ne (by simp),
      reg_dutyStop_ne (by simp; omega) (by simp) (by simp) (by simp) (by simp) (by simp), reg_svDiscardPending_ne (by simp) (by simp)]

theorem dutyTrip_shows (s : State) (ch : Nat) :
    (s.dutyTrip ch).flag (K.svFlags ch) 3 = true ∧ (s.dutyTrip ch).reg (K.svState ch) ≠ svRunning ∧
    ((s.dutyTrip ch).svCh ch).pending = none ∧
    (s.dutyTrip ch).reg (K.dutyTrips ch) = (s.bump (K.dutyTrips ch)).reg (K.dutyTrips ch) := by
  refine ⟨?_, ?_, ?_, ?_⟩
  · rw [State.dutyTrip, flag_congr (reg_bump_ne (by simp) _), flag_setFlag]
  · rw [State.dutyTrip, reg_bump_ne (by simp), reg_setFlag_ne (by simp)]
    exact svState_dutyStop _ ch
  · rw [State.dutyTrip, svCh_bump, svCh_setFlag, (svCh_dutyStop _ ch).2, svCh_svDiscardPending]
  · refine reg_bump_congr ?_
    rw [reg_setFlag_ne (by simp), reg_dutyStop_ne (by simp; omega) (by simp) (by simp) (by simp) (by simp) (by simp),
      reg_svDiscardPending_ne (by simp) (by simp)]

/-- The RUNNING time of the millisecond that ends, before those of the bins. -/
def Sv.dutyBins (x : Sv) (tick : Nat) : List Nat :=
  ((x.binAcc + if x.runningSince.isSome then tick - x.binFrom else 0) :: x.bins).take 60000

/-- The RUNNING time in the duty window. -/
def State.dutyTime (s : State) (ch : Nat) : Nat := (((s.svCh ch).dutyBins s.tick).take (s.regN (K.dutyWindow ch))).sum

/-- A millisecond ends: its bin is kept, and DutyShare follows. -/
def State.dutyBin (s : State) (ch : Nat) : State :=
  (s.setSv ch { s.svCh ch with bins := (s.svCh ch).dutyBins s.tick, binAcc := 0, binFrom := s.tick }).setReg (K.dutyShare ch)
    (min 100 (100 * s.dutyTime ch / ticksMs (s.regN (K.dutyWindow ch))) : Nat)

theorem reg_dutyBin_ne (h : k ≠ K.dutyShare ch) (s : State) : (s.dutyBin ch).reg k = s.reg k := by
  rw [State.dutyBin, reg_setReg_ne h, reg_setSv]

theorem exec_dutyBinBoundary (s : State) (ch : Fin 32) (boundary : s.tick % ticksMs 1 = 0) :
    exec (.dutyBinBoundary ch) s =
      if s.regN (K.dutyLimit ch) < 100 && s.regN (K.dutyLimit ch) * ticksMs (s.regN (K.dutyWindow ch)) ≤ 100 * s.dutyTime ch then
        if s.flag (K.svFlags ch) 3 then .next (s.dutyBin ch) else .next ((s.dutyBin ch).dutyTrip ch)
      else if 100 * s.dutyTime ch ≤ (s.regN (K.dutyLimit ch) - s.regN (K.dutyHysteresis ch)) * ticksMs (s.regN (K.dutyWindow ch)) then
        .next ((s.dutyBin ch).setFlag (K.svFlags ch) 3 false)
      else .next (s.dutyBin ch) := by
  have limit : (s.dutyBin ch).regN (K.dutyLimit ch) = s.regN (K.dutyLimit ch) := regN_congr (reg_dutyBin_ne (by simp; omega) s)
  have hysteresis : (s.dutyBin ch).regN (K.dutyHysteresis ch) = s.regN (K.dutyHysteresis ch) :=
    regN_congr (reg_dutyBin_ne (by simp; omega) s)
  have flag : (s.dutyBin ch).flag (K.svFlags ch) 3 = s.flag (K.svFlags ch) 3 := flag_congr (reg_dutyBin_ne (by simp) s) 3
  rw [← limit, ← hysteresis, ← flag]
  exact if_neg (not_not.2 boundary)

theorem runs_dutyBinBoundary (s : State) (ch : Fin 32) (bins : List Nat) (boundary : s.tick % ticksMs 1 = 0)
    (made : bins = ((s.svCh ch).binAcc + (if (s.svCh ch).runningSince.isSome then s.tick - (s.svCh ch).binFrom else 0)) :: (s.svCh ch).bins) :
    Runs (.dutyBinBoundary ch) s fun t =>
      (t.svCh ch).bins = bins.take 60000 ∧
      t.reg (K.dutyShare ch) =
        (min 100 (100 * (((bins.take 60000).take (s.regN (K.dutyWindow ch))).sum) / ticksMs (s.regN (K.dutyWindow ch))) : Nat) ∧
      (s.regN (K.dutyLimit ch) < 100 → s.flag (K.svFlags ch) 3 = false →
        s.regN (K.dutyLimit ch) * ticksMs (s.regN (K.dutyWindow ch)) ≤ 100 * ((bins.take 60000).take (s.regN (K.dutyWindow ch))).sum →
        t.flag (K.svFlags ch) 3 = true ∧ t.reg (K.svState ch) ≠ svRunning ∧ (t.svCh ch).pending = none ∧
        t.reg (K.dutyTrips ch) = (s.bump (K.dutyTrips ch)).reg (K.dutyTrips ch)) := by
  have kept : bins.take 60000 = (s.svCh ch).dutyBins s.tick := by
    rw [made]
    rfl
  rw [kept]
  change Runs _ s fun t => (t.svCh ch).bins = (s.svCh ch).dutyBins s.tick ∧
    t.reg (K.dutyShare ch) = (min 100 (100 * s.dutyTime ch / ticksMs (s.regN (K.dutyWindow ch))) : Nat) ∧
    (_ → _ → s.regN (K.dutyLimit ch) * ticksMs (s.regN (K.dutyWindow ch)) ≤ 100 * s.dutyTime ch → _)
  have contents : ((s.dutyBin ch).svCh ch).bins = (s.svCh ch).dutyBins s.tick := by rw [State.dutyBin, svCh_setReg, svCh_setSv]
  have share : (s.dutyBin ch).reg (K.dutyShare ch) = (min 100 (100 * s.dutyTime ch / ticksMs (s.regN (K.dutyWindow ch))) : Nat) :=
    reg_setReg_self ..
  have ran := exec_dutyBinBoundary s ch boundary
  split_ifs at ran with reached tripped less
  · exact ⟨_, ran, contents, share, fun _ clear => absurd tripped (by simp [clear])⟩
  · obtain ⟨bins, shown⟩ := dutyTrip_keeps (s.dutyBin ch) ch
    obtain ⟨flag, state, pending, trips⟩ := dutyTrip_shows (s.dutyBin ch) ch
    refine ⟨_, ran, bins.trans contents, shown.trans share, fun _ _ _ => ⟨flag, state, pending, trips.trans ?_⟩⟩
    exact reg_bump_congr (reg_dutyBin_ne (by simp) s)
  · refine ⟨_, ran, by rw [svCh_setFlag, contents], by rw [reg_setFlag_ne (by simp), share], fun limited _ exceeded => ?_⟩
    exact absurd (by simp [limited, exceeded]) reached
  · exact ⟨_, ran, contents, share, fun limited _ exceeded => absurd (by simp [limited, exceeded]) reached⟩

/-- Settles O33: a start takes its grant and begins its program, and the limits send a run to END. -/
theorem startsAreArbitratedAndLimited : Obligations.StartsAreArbitratedAndLimited := by
  unfold Obligations.StartsAreArbitratedAndLimited
  exact ⟨runs_bankArbitrate, runs_boostDeferExpiry, runs_maxOnTime, runs_dutyBinBoundary⟩

end Sys2Proof.Machine
end

section
/-!
The shared operations of a load channel and of its feed group: what each does to the channel and its entries, and what it leaves (O36-O38).
-/
namespace Sys2Proof.Machine
open Sys2Proof

variable {s t : State} {n j k : Nat}

/-! ### What the operations of other units leave of a channel -/

theorem lsCh_of_ls (h : t.ls = s.ls) (n : Nat) : t.lsCh n = s.lsCh n := congrArg (fun x => x.get Ls.init n) h

theorem feeds_of_outside {F : List Part} (h : t.outside F = s.outside F) (hF : .feeds ∉ F) : t.feeds = s.feeds :=
  (congrArg State.feeds (eq_merge_of_outside h)).trans (if_neg hF)

@[simp] theorem lsCh_setReg (s : State) (k : Nat) (v : Int) (n : Nat) : (s.setReg k v).lsCh n = s.lsCh n := rfl
@[simp] theorem lsCh_setFlag (s : State) (k i : Nat) (b : Bool) (n : Nat) : (s.setFlag k i b).lsCh n = s.lsCh n := rfl
@[simp] theorem lsCh_bump (s : State) (k n : Nat) : (s.bump k).lsCh n = s.lsCh n := rfl

@[simp] theorem lsCh_ite (c : Prop) [Decidable c] (s t : State) (n : Nat) :
    (if c then s else t).lsCh n = if c then s.lsCh n else t.lsCh n := apply_ite (State.lsCh · n) c s t

@[simp] theorem feed_setFlag (s : State) (k i : Nat) (b : Bool) (g : Nat) : (s.setFlag k i b).feed g = s.feed g := rfl
@[simp] theorem feed_bump (s : State) (k g : Nat) : (s.bump k).feed g = s.feed g := rfl

theorem flag_ite (c : Prop) [Decidable c] (s t : State) (k i : Nat) :
    (if c then s else t).flag k i = if c then s.flag k i else t.flag k i := apply_ite (State.flag · k i) c s t

@[simp] theorem ls_eventKey (s : State) (so : Src) (u e d : Nat) : (s.eventKey so u e d).ls = s.ls := by rw [eventKey_fields]

@[simp] theorem ls_finish (s : State) (q : Nat) (o : Outcome) (d : Nat) : (s.finish q o d).ls = s.ls := by rw [finish_fields]

@[simp] theorem lsCh_finish (s : State) (q : Nat) (o : Outcome) (d n : Nat) : (s.finish q o d).lsCh n = s.lsCh n :=
  lsCh_of_ls (ls_finish ..) n

@[simp] theorem reg_lsEvent (s : State) (n k : Nat) : (s.lsEvent n).reg k = s.reg k := reg_eventKey ..
@[simp] theorem flag_lsEvent (s : State) (n k i : Nat) : (s.lsEvent n).flag k i = s.flag k i := flag_eventKey ..
@[simp] theorem ls_lsEvent (s : State) (n : Nat) : (s.lsEvent n).ls = s.ls := ls_eventKey ..
@[simp] theorem lsCh_lsEvent (s : State) (n j : Nat) : (s.lsEvent n).lsCh j = s.lsCh j := lsCh_of_ls (ls_lsEvent ..) j

/-! ### A channel that opens (R304) -/

/-- The contents of a channel that opens. -/
def Ls.opened (x : Ls) : Ls := { x with slewFrom := none, onSince := none, dc := 0, dcNext := none }

@[simp] theorem lsCh_lsOpen (s : State) (n : Nat) : (s.lsOpen n).lsCh n = (s.lsCh n).opened := lsCh_setLs ..

theorem lsCh_lsOpen_ne (h : j ≠ n) (s : State) : (s.lsOpen n).lsCh j = s.lsCh j := lsCh_setLs_ne _ _ _ h

@[simp] theorem tick_lsOpen (s : State) (n : Nat) : (s.lsOpen n).tick = s.tick := rfl

@[simp] theorem appliedDuty_lsOpen (s : State) (n : Nat) : (s.lsOpen n).reg (K.appliedDuty n) = 0 := by
  rw [State.lsOpen, reg_setFlag_ne (by simp), reg_setReg_self]

theorem reg_lsOpen_ne (applied : k ≠ K.appliedDuty n) (flags : k ≠ K.lsFlags n) (s : State) : (s.lsOpen n).reg k = s.reg k := by
  rw [State.lsOpen, reg_setFlag_ne flags, reg_setReg_ne applied, reg_setLs]

/-- Only the SLEW flag falls as a channel opens. -/
theorem flag_lsOpen {i : Nat} (h : i ≠ lfSlew) (s : State) (n : Nat) : (s.lsOpen n).flag (K.lsFlags n) i = s.flag (K.lsFlags n) i := by
  rw [State.lsOpen, flag_setFlag_ne h, flag_setReg_ne _ (by simp)]
  rfl

/-! ### A switch-on (R303) -/

/-- A switch-on before the channel itself: the switch of its group closes unless it has tripped, and the flags of past trips fall. -/
def State.lsReady (s : State) (n : Nat) : State :=
  (((if s.flag (K.groupFlags (lsGroup n)) 1 then s else s.setReg (K.groupState (lsGroup n)) 0).setFlag (K.lsFlags n) lfShort false).setFlag
    (K.lsFlags n) lfOverload false).setFlag (K.lsFlags n) lfShed false

theorem reg_lsReady_ne (group : k ≠ K.groupState (lsGroup n)) (flags : k ≠ K.lsFlags n) (s : State) : (s.lsReady n).reg k = s.reg k := by
  simp only [State.lsReady, reg_setFlag_ne flags, reg_ite, reg_setReg_ne group, ite_self]

/-- The rest of a switch-on: the channel itself (R303). -/
def State.lsStart (s : State) (n : Nat) : State :=
  let now := s.reg (K.inrushTime n) = 0
  let s := s.setLs n { s.lsCh n with
    onAt := s.tick, slewFrom := none, onSince := if now then some s.tick else none, dc := s.reg (K.commandedDuty n), dcNext := none }
  let s := s.setReg (K.lsState n) (if now then lsOn else lsInrush)
  s.setReg (K.appliedDuty n) (s.appliedOf n (s.reg (K.commandedDuty n)))

theorem lsSwitchOn_of_free (free : s.safeOff = false) (n : Nat) : s.lsSwitchOn n = (s.lsReady n).lsStart n :=
  if_neg (by simp [free])

theorem reg_lsStart_ne (state : k ≠ K.lsState n) (applied : k ≠ K.appliedDuty n) (s : State) : (s.lsStart n).reg k = s.reg k := by
  rw [State.lsStart, reg_setReg_ne applied, reg_setReg_ne state, reg_setLs]

theorem appliedOf_congr {d : Int} (h : t.reg (K.loadKind n) = s.reg (K.loadKind n)) : t.appliedOf n d = s.appliedOf n d := by
  rw [State.appliedOf, State.appliedOf, h]

theorem lsStart_shows (s : State) (n : Nat) :
    (s.lsStart n).reg (K.lsState n) = (if s.reg (K.inrushTime n) = 0 then lsOn else lsInrush) ∧
    (s.lsStart n).reg (K.appliedDuty n) = s.appliedOf n (s.reg (K.commandedDuty n)) ∧ ((s.lsStart n).lsCh n).onAt = s.tick := by
  unfold State.lsStart
  refine ⟨?_, ?_, ?_⟩
  · rw [reg_setReg_ne (by simp), reg_setReg_self]
  · rw [reg_setReg_self, reg_setReg_ne (by simp), reg_setLs]
    exact appliedOf_congr (reg_setReg_ne (by simp; omega) _ _)
  · rw [lsCh_setReg, lsCh_setReg, lsCh_setLs]

/-- A channel that switches on is INRUSH or ON with the duty of its command (R303). -/
theorem lsSwitchOn_shows (free : s.safeOff = false) (n : Nat) :
    (s.lsSwitchOn n).reg (K.lsState n) = (if s.reg (K.inrushTime n) = 0 then lsOn else lsInrush) ∧
    (s.lsSwitchOn n).reg (K.appliedDuty n) = s.appliedOf n (s.reg (K.commandedDuty n)) ∧ ((s.lsSwitchOn n).lsCh n).onAt = s.tick := by
  have tick : (s.lsReady n).tick = s.tick := by
    rw [State.lsReady, tick_setFlag, tick_setFlag, tick_setFlag]
    split <;> rfl
  have kind : (s.lsReady n).reg (K.loadKind n) = s.reg (K.loadKind n) := reg_lsReady_ne (by simp; omega) (by simp; omega) s
  obtain ⟨state, applied, since⟩ := lsStart_shows (s.lsReady n) n
  rw [reg_lsReady_ne (by simp; omega) (by simp; omega)] at state
  rw [reg_lsReady_ne (by simp; omega) (by simp), appliedOf_congr kind] at applied
  rw [lsSwitchOn_of_free free]
  exact ⟨state, applied, since.trans tick⟩

theorem reg_lsSwitchOn_ne (state : k ≠ K.lsState n) (applied : k ≠ K.appliedDuty n) (group : k ≠ K.groupState (lsGroup n))
    (flags : k ≠ K.lsFlags n) (s : State) : (s.lsSwitchOn n).reg k = s.reg k := by
  cases free : s.safeOff with
  | true => rw [State.lsSwitchOn, if_pos free, reg_setReg_ne state]
  | false => rw [lsSwitchOn_of_free free, reg_lsStart_ne state applied, reg_lsReady_ne group flags]

theorem lsGroup_lt (ch : Fin 48) : lsGroup ch < 4 := by
  unfold lsGroup
  split_ifs <;> omega

/-- A switch-on closes the switch of its group where that has not tripped. -/
theorem groupState_lsSwitchOn (free : s.safeOff = false) (ch : Fin 48) (closed : s.flag (K.groupFlags (lsGroup ch)) 1 = false) :
    (s.lsSwitchOn ch).reg (K.groupState (lsGroup ch)) = 0 := by
  have group := lsGroup_lt ch
  rw [lsSwitchOn_of_free free, reg_lsStart_ne (by simp; omega) (by simp; omega), State.lsReady, reg_setFlag_ne (by simp; omega),
    reg_setFlag_ne (by simp; omega), reg_setFlag_ne (by simp; omega), if_neg (by simp [closed]), reg_setReg_self]

/-- The flags that no switch-on clears, as under safe off, where a channel waits at OFF. -/
theorem flag_lsSwitchOn {i : Nat} (h : i ∉ [lfShort, lfOverload, lfShed]) (s : State) (n : Nat) :
    (s.lsSwitchOn n).flag (K.lsFlags n) i = s.flag (K.lsFlags n) i := by
  simp only [List.mem_cons, List.not_mem_nil, or_false, not_or] at h
  obtain ⟨short, overload, shed⟩ := h
  cases free : s.safeOff with
  | true => rw [State.lsSwitchOn, if_pos free, flag_setReg_ne _ (by simp)]
  | false =>
    rw [lsSwitchOn_of_free free, flag_congr (reg_lsStart_ne (by simp) (by simp) _), State.lsReady, flag_setFlag_ne shed,
      flag_setFlag_ne overload, flag_setFlag_ne short]
    refine flag_congr ?_ i
    rw [reg_ite, reg_setReg_ne (by simp; omega), ite_self]

/-! ### A trip (R305, R306, R312, R315, R316, R318) -/

/-- A trip up to the state of the channel and the flag of its cause. -/
def State.lsCounted (s : State) (n cause : Nat) : State :=
  let s := s.lsOpen n
  ((s.setLs n { s.lsCh n with tripTick := s.tick, seenOff := false }).setReg (K.tripCause n) (cause : Nat)).bump (K.trips n)

theorem reg_lsCounted (flags : k ≠ K.lsFlags n) (s : State) (cause : Nat) : (s.lsCounted n cause).reg k =
    if k = K.trips n then (s.bump (K.trips n)).reg (K.trips n)
    else if k = K.tripCause n then (cause : Int) else if k = K.appliedDuty n then 0 else s.reg k := by
  unfold State.lsCounted
  split_ifs with trips tripCause applied
  · rw [trips]
    refine reg_bump_congr ?_
    rw [reg_setReg_ne (by simp), reg_setLs, reg_lsOpen_ne (by simp) (by simp)]
  · rw [reg_bump_ne trips, tripCause, reg_setReg_self]
  · rw [reg_bump_ne trips, reg_setReg_ne tripCause, reg_setLs, applied, appliedDuty_lsOpen]
  · rw [reg_bump_ne trips, reg_setReg_ne tripCause, reg_setLs, reg_lsOpen_ne applied flags]

theorem lsTrip_eq (s : State) (n cause : Nat) : s.lsTrip n cause =
    let t := (s.lsCounted n cause).setReg (K.lsState n) (if cause = tcFuse then lsLatched else lsTripped)
    if cause = tcShort then t.setFlag (K.lsFlags n) lfShort true
    else if cause = tcOverload then t.setFlag (K.lsFlags n) lfOverload true
    else if cause = tcFuse then t.setFlag (K.lsFlags n) lfFuseTrip true
    else if cause = tcShed then t.setFlag (K.lsFlags n) lfShed true
    else t := rfl

/-- The contents of a channel that has tripped. -/
theorem lsCh_lsTrip (s : State) (n cause : Nat) :
    (s.lsTrip n cause).lsCh n = { (s.lsCh n).opened with tripTick := s.tick, seenOff := false } := by
  simp only [lsTrip_eq, lsCh_ite, lsCh_setFlag, ite_self, lsCh_setReg, State.lsCounted, lsCh_bump, lsCh_setLs, lsCh_lsOpen, tick_lsOpen]

theorem lsCh_lsTrip_ne (h : j ≠ n) (s : State) (cause : Nat) : (s.lsTrip n cause).lsCh j = s.lsCh j := by
  simp only [lsTrip_eq, lsCh_ite, lsCh_setFlag, ite_self, lsCh_setReg, State.lsCounted, lsCh_bump, lsCh_setLs_ne _ _ _ h, lsCh_lsOpen_ne h]

theorem feed_lsTrip (s : State) (n cause g : Nat) : (s.lsTrip n cause).feed g = s.feed g :=
  congrArg (fun x => x.get FeedGroup.init g)
    (feeds_of_outside (F := [.regs, .ls]) (outside_lsTrip (by decide) (by decide) ..) (by decide))

/-- The entries of a channel that trips, but for its flags, and all others. -/
theorem reg_lsTrip (flags : k ≠ K.lsFlags n) (s : State) (cause : Nat) : (s.lsTrip n cause).reg k =
    if k = K.lsState n then (if cause = tcFuse then lsLatched else lsTripped) else (s.lsCounted n cause).reg k := by
  simp only [lsTrip_eq, reg_ite, reg_setFlag_ne flags, ite_self, reg_setReg]

theorem lsTrip_shows (s : State) (n cause : Nat) :
    (s.lsTrip n cause).reg (K.lsState n) = (if cause = tcFuse then lsLatched else lsTripped) ∧
    (s.lsTrip n cause).reg (K.tripCause n) = (cause : Int) ∧ (s.lsTrip n cause).reg (K.appliedDuty n) = 0 ∧
    (s.lsTrip n cause).reg (K.trips n) = (s.bump (K.trips n)).reg (K.trips n) := by
  simp [reg_lsTrip, reg_lsCounted]

theorem reg_lsTrip_ne (state : k ≠ K.lsState n) (trips : k ≠ K.trips n) (cause : k ≠ K.tripCause n) (applied : k ≠ K.appliedDuty n)
    (flags : k ≠ K.lsFlags n) (s : State) (c : Nat) : (s.lsTrip n c).reg k = s.reg k := by
  rw [reg_lsTrip flags, if_neg state, reg_lsCounted flags, if_neg trips, if_neg cause, if_neg applied]

/-- A trip leaves the entries of the other objects. -/
theorem reg_lsTrip_object (h : k / 256 ≠ 0x4440 + n) (s : State) (cause : Nat) : (s.lsTrip n cause).reg k = s.reg k :=
  reg_lsTrip_ne (by simp; omega) (by simp; omega) (by simp; omega) (by simp; omega) (by simp; omega) s cause

/-- The flag that the cause of a trip sets; a THERMAL trip has its latch (R315). -/
theorem flag_lsTrip_cause {cause bit : Nat}
    (h : (cause, bit) ∈ [(tcShort, lfShort), (tcOverload, lfOverload), (tcFuse, lfFuseTrip), (tcShed, lfShed)]) (s : State) (n : Nat) :
    (s.lsTrip n cause).flag (K.lsFlags n) bit = true := by
  simp only [List.mem_cons, Prod.mk.injEq, List.not_mem_nil, or_false] at h
  obtain ⟨rfl, rfl⟩ | ⟨rfl, rfl⟩ | ⟨rfl, rfl⟩ | ⟨rfl, rfl⟩ := h <;> simp [lsTrip_eq]

theorem flag_lsTrip {i : Nat} (h : i ∉ [lfShort, lfOverload, lfFuseTrip, lfShed, lfSlew]) (s : State) (n cause : Nat) :
    (s.lsTrip n cause).flag (K.lsFlags n) i = s.flag (K.lsFlags n) i := by
  simp only [List.mem_cons, List.not_mem_nil, or_false, not_or] at h
  obtain ⟨short, overload, fuse, shed, slew⟩ := h
  have kept (v : Int) : ((s.lsCounted n cause).setReg (K.lsState n) v).flag (K.lsFlags n) i = s.flag (K.lsFlags n) i := by
    rw [flag_setReg_ne _ (by simp), State.lsCounted, flag_congr (reg_bump_ne (by simp) _), flag_setReg_ne _ (by simp)]
    exact flag_lsOpen slew s n
  simp only [lsTrip_eq, flag_ite, flag_setFlag_ne short, flag_setFlag_ne overload, flag_setFlag_ne fuse, flag_setFlag_ne shed, kept, ite_self]

/-! ### A channel that fails, and one that is disabled (R321, R323) -/

theorem lsState_lsFail (s : State) (n : Nat) : (s.lsFail n).reg (K.lsState n) = lsFault := reg_setReg_self ..

@[simp] theorem lsCh_lsFail (s : State) (n : Nat) : (s.lsFail n).lsCh n = (s.lsCh n).opened := by
  rw [State.lsFail, lsCh_setReg, lsCh_lsOpen]

theorem reg_lsFail_ne (state : k ≠ K.lsState n) (applied : k ≠ K.appliedDuty n) (flags : k ≠ K.lsFlags n) (s : State) :
    (s.lsFail n).reg k = s.reg k := by
  rw [State.lsFail, reg_setReg_ne state, reg_lsOpen_ne applied flags]

theorem flag_lsFail {i : Nat} (h : i ≠ lfSlew) (s : State) (n : Nat) : (s.lsFail n).flag (K.lsFlags n) i = s.flag (K.lsFlags n) i := by
  rw [State.lsFail, flag_setReg_ne _ (by simp), flag_lsOpen h]

theorem reg_lsDisable (cues : k / 256 ≠ 0x2422) (s : State) (n : Nat) :
    (s.lsDisable n).reg k = if k = K.lsState n then lsDisabled else if k = K.commandedDuty n then 0 else (s.lsOpen n).reg k := by
  rw [State.lsDisable, reg_cancelAimed, reg_cancelCuesOnTarget cues, reg_setReg, reg_setReg]

/-! ### A group that opens (R318) -/

theorem mem_groupChannels {g m : Nat} : m ∈ groupChannels g ↔ m < 48 ∧ lsGroup m = g := by
  simp [groupChannels]

/-- What the opening of a group does to one channel of it. -/
def State.groupOffAt (s : State) (n : Nat) : State :=
  if s.reg (K.lsState n) = lsInrush || s.reg (K.lsState n) = lsOn || s.reg (K.lsState n) = lsTripped then
    ((s.lsOpen n).setReg (K.commandedDuty n) 0).setReg (K.lsState n) lsOff
  else s

theorem groupOff_eq (s : State) (g : Nat) : s.groupOff g = (groupChannels g).foldl State.groupOffAt s := rfl

theorem reg_groupOffAt (h : k / 256 ≠ 0x4440 + n) (s : State) : (s.groupOffAt n).reg k = s.reg k := by
  rw [State.groupOffAt, reg_ite, reg_setReg_ne (by simp; omega), reg_setReg_ne (by simp; omega), reg_lsOpen h, ite_self]

/-- The opening of a group changes entries of its channels only. -/
theorem reg_groupOff (hk : k / 256 < 0x4440 ∨ 0x4470 ≤ k / 256) (s : State) (g : Nat) : (s.groupOff g).reg k = s.reg k := by
  rw [groupOff_eq]
  refine reg_foldl (fun t m hm => reg_groupOffAt ?_ t) s
  have := (mem_groupChannels.1 hm).1
  omega

/-- A channel that neither conducts nor waits for a restart. -/
def State.lsAtRest (s : State) (n : Nat) : Prop := s.lsConducts n = false ∧ s.reg (K.lsState n) ≠ lsTripped

theorem lsAtRest_congr (h : t.reg (K.lsState n) = s.reg (K.lsState n)) : t.lsAtRest n ↔ s.lsAtRest n := by
  rw [State.lsAtRest, State.lsAtRest, lsConducts_of_lsState h, h]

theorem lsAtRest_groupOffAt (s : State) (n : Nat) : (s.groupOffAt n).lsAtRest n := by
  unfold State.groupOffAt State.lsAtRest State.lsConducts
  split_ifs with active
  · simp
  · simpa [not_or] using active

/-- Every channel of a group that opens is at rest (R318). -/
theorem lsAtRest_groupOff {g : Nat} (hn : n ∈ groupChannels g) (s : State) : (s.groupOff g).lsAtRest n := by
  refine foldl_reaches (f := State.groupOffAt) (P := fun _ => True) (Q := fun t => t.lsAtRest n) (fun _ _ _ _ => trivial)
    (fun t _ => lsAtRest_groupOffAt t n) (fun t m _ ht => ?_) hn trivial
  obtain rfl | other := eq_or_ne m n
  · exact lsAtRest_groupOffAt t m
  · exact (lsAtRest_congr (reg_groupOffAt (by simp; omega) t)).2 ht

/-- The hardware fault of a channel stays as its group opens. -/
theorem stuck_groupOff (s : State) (g n : Nat) : ((s.groupOff g).lsCh n).stuck = (s.lsCh n).stuck := by
  refine List.foldlRecOn (motive := fun t : State => (t.lsCh n).stuck = (s.lsCh n).stuck) _ State.groupOffAt rfl fun t ht m _ => ?_
  refine Eq.trans ?_ ht
  obtain rfl | other := eq_or_ne n m
  · rw [State.groupOffAt, lsCh_ite, lsCh_setReg, lsCh_setReg, lsCh_lsOpen]
    split <;> rfl
  · rw [State.groupOffAt, lsCh_ite, lsCh_setReg, lsCh_setReg, lsCh_lsOpen_ne other, ite_self]

/-- The switch of a group that trips is open. -/
theorem groupTrip_shows (s : State) (g : Fin 4) :
    (s.groupTrip g).reg (K.groupState g) = 1 ∧ (s.groupTrip g).flag (K.groupFlags g) 1 = true ∧
    ∀ n ∈ groupChannels g, (s.groupTrip g).lsAtRest n := by
  refine ⟨?_, flag_setFlag .., fun n hn => ?_⟩
  · rw [State.groupTrip, reg_setFlag_ne (by simp), reg_groupOff (by simp; omega), reg_setReg_self]
  · have := (mem_groupChannels.1 hn).1
    exact (lsAtRest_congr (reg_setFlag_ne (by simp; omega) _ _ _)).2 (lsAtRest_groupOff hn _)

end Sys2Proof.Machine
end

section
/-!
The trips and the shown faults of the load channels and of their feed groups (O38).
-/
namespace Sys2Proof.Machine
open Sys2Proof

variable (s : State)

/-! ### Trips of a channel (R305, R306, R315) -/

theorem runs_overload (ch : Fin 48) (mA held : Nat) (on : s.reg (K.lsState ch) = lsOn)
    (above : 3 * s.reg (K.effectiveRating ch) < 2 * (mA : Int)) (long : ticksMs 1 ≤ held) :
    Runs (.overload ch mA held) s fun t =>
      t.reg (K.lsState ch) = lsTripped ∧ t.reg (K.tripCause ch) = 2 ∧ t.reg (K.appliedDuty ch) = 0 ∧ t.flag (K.lsFlags ch) lfOverload = true ∧
      t.reg (K.trips ch) = (s.bump (K.trips ch)).reg (K.trips ch) ∧ (t.lsCh ch).tripTick = s.tick ∧
      t.reg (K.commandedDuty ch) = s.reg (K.commandedDuty ch) ∧ ∀ k : Fin 48, k ≠ ch → t.lsCh k = s.lsCh k := by
  have ran : exec (.overload ch mA held) s = .next (s.lsTrip ch tcOverload) :=
    congrArg Host.Outcome.next (if_pos (by simp only [on, above, long, decide_true, Bool.and_self]))
  obtain ⟨state, cause, applied, trips⟩ := lsTrip_shows s ch tcOverload
  refine ⟨_, ran, state, cause, applied, flag_lsTrip_cause (by decide) .., trips, by rw [lsCh_lsTrip], ?_, fun k other => ?_⟩
  · exact reg_lsTrip_ne (by simp) (by simp) (by simp) (by simp) (by simp) ..
  · exact lsCh_lsTrip_ne (by omega) ..

/-- A SHORT trips the channel and is recorded (R306). -/
theorem runs_short_of_exceeded {ch : Fin 48} {mA desat low : Nat} (conducts : s.lsConducts ch = true)
    (exceeded : lsShortThreshold ch < mA ∨ ticksUs 1 ≤ desat ∨
      s.reg (K.lsState ch) = lsInrush ∧ (s.lsCh ch).slewFrom = none ∧ ticksUs 5 ≤ low) :
    Runs (.short ch mA desat low) s fun t =>
      t.reg (K.lsState ch) = lsTripped ∧ t.reg (K.tripCause ch) = 1 ∧ t.reg (K.appliedDuty ch) = 0 ∧ t.flag (K.lsFlags ch) lfShort = true := by
  have ran : exec (.short ch mA desat low) s = .next ((s.lsTrip ch tcShort).lsEvent ch) :=
    congrArg Host.Outcome.next (if_pos (by simpa [conducts, or_assoc, and_assoc] using exceeded))
  obtain ⟨state, cause, applied, -⟩ := lsTrip_shows s ch tcShort
  refine ⟨_, ran, ?_⟩
  simp only [reg_lsEvent, flag_lsEvent]
  exact ⟨state, cause, applied, flag_lsTrip_cause (by decide) ..⟩

theorem runs_short (ch : Fin 48) (mA desat low : Nat) (conducts : s.lsConducts ch = true)
    (exceeded : lsShortThreshold ch < mA ∨ ticksUs 1 ≤ desat) :
    Runs (.short ch mA desat low) s fun t =>
      t.reg (K.lsState ch) = lsTripped ∧ t.reg (K.tripCause ch) = 1 ∧ t.reg (K.appliedDuty ch) = 0 ∧ t.flag (K.lsFlags ch) lfShort = true :=
  runs_short_of_exceeded s conducts (exceeded.imp_right .inl)

theorem runs_short_inrush (ch : Fin 48) (mA desat low : Nat) (inrush : s.reg (K.lsState ch) = lsInrush) (regulating : (s.lsCh ch).slewFrom = none)
    (long : ticksUs 5 ≤ low) :
    Runs (.short ch mA desat low) s fun t => t.reg (K.lsState ch) = lsTripped ∧ t.reg (K.tripCause ch) = 1 := by
  have conducts : s.lsConducts ch = true := by simp [State.lsConducts, inrush]
  obtain ⟨t, ran, state, cause, -⟩ := runs_short_of_exceeded s (mA := mA) (desat := desat) conducts (.inr (.inr ⟨inrush, regulating, long⟩))
  exact ⟨t, ran, state, cause⟩

/-- The thermal latch sets its flag, and trips a channel that is on or could be switched on (R315). -/
theorem runs_thermalLatch (ch : Fin 48) (temp : Int) (hot : 1500 ≤ temp) :
    Runs (.thermalLatch ch temp) s fun t =>
      t.flag (K.lsFlags ch) lfThermal = true ∧
      (s.reg (K.lsState ch) = lsOff ∨ s.lsConducts ch = true → t.reg (K.lsState ch) = lsTripped ∧ t.reg (K.tripCause ch) = 3) := by
  refine ⟨_, if_neg (by omega), ?_⟩
  generalize shown : (s.setReg (K.junctionTemperature ch) (clampI (-32768) 32767 temp)).setFlag (K.lsFlags ch) lfThermal true = u
  have latched : u.flag (K.lsFlags ch) lfThermal = true := shown ▸ flag_setFlag ..
  have state : u.reg (K.lsState ch) = s.reg (K.lsState ch) := by
    rw [← shown, reg_setFlag_ne (by simp), reg_setReg_ne (by simp)]
  simp only [reg_ite, flag_ite, reg_lsEvent, flag_lsEvent, ite_self]
  refine ⟨?_, fun ready => ?_⟩
  · rw [flag_lsTrip (by decide), latched, ite_self]
  · have trips : (u.reg (K.lsState ch) = lsOff || u.reg (K.lsState ch) = lsInrush || u.reg (K.lsState ch) = lsOn) = true := by
      simpa [State.lsConducts, state, or_assoc] using ready
    obtain ⟨state, cause, -⟩ := lsTrip_shows u ch tcThermal
    rw [if_pos trips, if_pos trips]
    exact ⟨state, cause⟩

theorem runs_thermalLatchClear (ch : Fin 48) (temp : Int) (cool : temp < 1300) :
    Runs (.thermalLatchClear ch temp) s fun t =>
      t.flag (K.lsFlags ch) lfThermal = false ∧ t.reg (K.lsState ch) = s.reg (K.lsState ch) ∧ t.ls = s.ls := by
  refine ⟨_, congrArg Host.Outcome.next (if_pos cool), flag_setFlag .., ?_, rfl⟩
  rw [reg_setFlag_ne (by simp), reg_setReg_ne (by simp)]

/-! ### The feed groups (R318) -/

/-- The channel that is shed next is one of the group. -/
theorem mem_of_shedPick {g n : Nat} (pick : s.shedPick g = some n) : n ∈ groupChannels g := by
  refine List.foldlRecOn (motive := fun acc : Option Nat => ∀ m, acc = some m → m ∈ groupChannels g) _ _ (fun _ h => by simp at h)
    (fun acc member k hk m chosen => ?_) n pick
  have candidate : k ∈ groupChannels g := List.mem_of_mem_filter hk
  cases acc with
  | none => exact Option.some.inj chosen ▸ candidate
  | some best =>
    simp only at chosen
    split_ifs at chosen
    · exact Option.some.inj chosen ▸ candidate
    · exact member m chosen

variable {s} in
theorem shedPick_congr {t : State} (state : ∀ n, t.reg (K.lsState n) = s.reg (K.lsState n))
    (priority : ∀ n, t.reg (K.shedPriority n) = s.reg (K.shedPriority n)) (g : Nat) : t.shedPick g = s.shedPick g := by
  simp only [State.shedPick, state, priority]

theorem runs_groupShed_over (g : Fin 4) (mean held n : Nat) (above : 40000 < mean) (long : ticksS 2 ≤ held)
    (unshed : (s.feed g).lastShed = none) (pick : s.shedPick g = some n) :
    Runs (.groupShed g mean held) s fun t =>
      t.reg (K.lsState n) = lsTripped ∧ t.reg (K.tripCause n) = 5 ∧ t.flag (K.lsFlags n) lfShed = true ∧ t.flag (K.groupFlags g) 0 = true ∧
      (t.feed g).lastShed = some s.tick ∧ t.reg (K.groupSheds g) = (s.bump (K.groupSheds g)).reg (K.groupSheds g) := by
  generalize marked : ((s.setReg (K.groupCurrent g) (min mean 65535 : Nat)).setFeed g ⟨some s.tick⟩).setFlag (K.groupFlags g) 0 true = u
  have kept {k : Nat} (current : k ≠ K.groupCurrent g) (flags : k ≠ K.groupFlags g) : u.reg k = s.reg k := by
    rw [← marked, reg_setFlag_ne flags, reg_setFeed, reg_setReg_ne current]
  have picked : u.shedPick g = some n :=
    (shedPick_congr (fun n => kept (by simp; omega) (by simp; omega)) (fun n => kept (by simp; omega) (by simp; omega)) g).trans pick
  have waited : ((s.setReg (K.groupCurrent g) (min mean 65535 : Nat)).feed g).lastShed = none := unshed
  have ran : exec (.groupShed g mean held) s = .next ((u.lsTrip n tcShed).bump (K.groupSheds g)) := by
    refine (if_neg (by omega)).trans ((if_neg ?_).trans ?_)
    · simp only [waited, Bool.or_false, decide_eq_true_eq]
      omega
    · simp only [tick_setReg, marked, picked]
  have channel := (mem_groupChannels.1 (mem_of_shedPick s pick)).1
  have group : K.groupSheds g / 256 ≠ 0x4440 + n ∧ K.groupFlags g / 256 ≠ 0x4440 + n := by
    simp
    omega
  obtain ⟨state, cause, -, -⟩ := lsTrip_shows u n tcShed
  refine ⟨_, ran, ?_, ?_, ?_, ?_, ?_, ?_⟩
  · rw [reg_bump_ne (by simp; omega), state]
    rfl
  · rw [reg_bump_ne (by simp; omega), cause]
    rfl
  · rw [flag_congr (reg_bump_ne (by simp; omega) _), flag_lsTrip_cause (by decide)]
  · rw [flag_congr (reg_bump_ne (by simp) _), flag_congr (reg_lsTrip_object group.2 ..), ← marked, flag_setFlag]
  · rw [feed_bump, feed_lsTrip, ← marked, feed_setFlag, feed_setFeed]
  · exact reg_bump_congr ((reg_lsTrip_object group.1 ..).trans (kept (by simp) (by simp)))

theorem runs_groupShed_under (g : Fin 4) (mean held : Nat) (below : mean ≤ 40000) :
    Runs (.groupShed g mean held) s fun t =>
      t.flag (K.groupFlags g) 0 = false ∧ (t.feed g).lastShed = none ∧ t.reg (K.groupCurrent g) = (min mean 65535 : Nat) ∧ t.ls = s.ls := by
  refine ⟨_, if_pos below, by rw [flag_setFlag], ?_, ?_, rfl⟩
  · rw [feed_setFlag, feed_setFeed, FeedGroup.init]
  · rw [reg_setFlag_ne (by simp), reg_setFeed, reg_setReg_self]

theorem runs_groupTrip (g : Fin 4) (mA held : Nat) (above : 250000 < mA) (long : ticksUs 50 ≤ held) :
    Runs (.groupTrip g mA held) s fun t =>
      t.reg (K.groupState g) = 1 ∧ t.flag (K.groupFlags g) 1 = true ∧
      ∀ n ∈ groupChannels g, t.lsConducts n = false ∧ t.reg (K.lsState n) ≠ lsTripped := by
  have ran : exec (.groupTrip g mA held) s = .next ((s.groupTrip g).eventKey .loads g (K.groupFlags g)) :=
    congrArg Host.Outcome.next (if_pos (by simp only [above, long, decide_true, Bool.and_self]))
  obtain ⟨state, flag, channels⟩ := groupTrip_shows s g
  refine ⟨_, ran, (reg_eventKey ..).trans state, (flag_eventKey ..).trans flag, fun n hn => ?_⟩
  exact (lsAtRest_congr (reg_eventKey ..)).2 (channels n hn)

/-! ### Open loads, supply shorts and channels that stay on (R327) -/

/-- OPEN_LOAD of a channel that is on comes and goes with its current. -/
theorem runs_openLoadOn (ch : Fin 48) (mA held : Nat) :
    Runs (.openLoadOn ch mA held) s fun t =>
      (s.reg (K.openLoadThreshold ch) ≤ (mA : Int) ∨ s.lsConducts ch = false ∨ s.reg (K.appliedDuty ch) < 100 →
        t.flag (K.lsFlags ch) lfOpenOn = false) ∧
      ((mA : Int) < s.reg (K.openLoadThreshold ch) → s.lsConducts ch = true → 100 ≤ s.reg (K.appliedDuty ch) → ticksMs 100 ≤ held →
        t.flag (K.lsFlags ch) lfOpenOn = true) ∧ t.ls = s.ls := by
  refine ⟨_, rfl, fun normal => ?_, fun low conducts driven long => ?_, ?_⟩
  · rw [if_pos (by simpa [or_assoc] using normal), flag_setFlag]
  · rw [if_neg (by simp [low, conducts, driven]), if_pos long, flag_setFlag]
  · split_ifs <;> rfl

theorem runs_openLoadOff (ch : Fin 48) (mV held : Nat) :
    Runs (.openLoadOff ch mV held) s fun t =>
      (3000 ≤ mV → mV ≤ 5500 → s.reg (K.lsState ch) = lsOff → s.reg (K.offDiagnostics ch) = 1 → ticksMs 10 ≤ held →
        t.flag (K.lsFlags ch) lfOpenOff = true) ∧
      (mV < 3000 ∨ 5500 < mV ∨ s.reg (K.lsState ch) ≠ lsOff → t.flag (K.lsFlags ch) lfOpenOff = false) ∧ t.ls = s.ls := by
  refine ⟨_, rfl, fun above below off diagnosed long => ?_, fun clear => ?_, ?_⟩
  · rw [if_neg (by simp [above, below, off, diagnosed]), if_pos long, flag_setFlag]
  · rw [if_pos ?_, flag_setFlag]
    simp only [Bool.not_eq_true', Bool.and_eq_false_iff, decide_eq_false_iff_not, beq_eq_false_iff_ne]
    omega
  · split_ifs <;> rfl

theorem runs_lsShortToSupply (ch : Fin 48) (mV held : Nat) :
    Runs (.lsShortToSupply ch mV held) s fun t =>
      (6500 < mV → s.reg (K.lsState ch) = lsOff → ticksMs 10 ≤ held → t.flag (K.lsFlags ch) lfSupply = true) ∧
      (mV ≤ 6500 ∨ s.reg (K.lsState ch) ≠ lsOff → t.flag (K.lsFlags ch) lfSupply = false) ∧ t.ls = s.ls := by
  refine ⟨_, rfl, fun high off long => ?_, fun clear => ?_, ?_⟩
  · rw [if_neg (by simp [high, off])]
    split_ifs with new
    · rw [flag_lsEvent, flag_setFlag]
    · simpa [long] using new
  · rw [if_pos ?_, flag_setFlag]
    simp only [Bool.not_eq_true', Bool.and_eq_false_iff, decide_eq_false_iff_not, beq_eq_false_iff_ne]
    omega
  · split_ifs
    · rfl
    · exact ls_lsEvent ..
    · rfl

/-- A channel that carries current with every gate off is in FAULT, and its group opens (R327). -/
theorem runs_stuckOn (ch : Fin 48) (mA held : Nat) (driven : s.lsDriven ch = false) (above : 500 < mA) (long : ticksUs 100 ≤ held)
    (new : (s.lsCh ch).stuck = false) (enabled : s.reg (K.lsEnable ch) = 1) :
    Runs (.stuckOn ch mA held) s fun t =>
      (t.lsCh ch).stuck = true ∧ t.flag (K.lsFlags ch) lfStuck = true ∧ t.reg (K.lsState ch) = lsFault ∧
      t.reg (K.groupState (lsGroup ch)) = 1 := by
  generalize stuck : (s.setLs ch { s.lsCh ch with stuck := true }).groupTrip (lsGroup ch) = u
  have group := lsGroup_lt ch
  obtain ⟨opened, -, -⟩ := groupTrip_shows (s.setLs ch { s.lsCh ch with stuck := true }) ⟨lsGroup ch, group⟩
  have enable : u.reg (K.lsEnable ch) = 1 := by
    rw [← stuck, State.groupTrip, reg_setFlag_ne (by simp; omega), reg_groupOff (by simp; omega), reg_setReg_ne (by simp; omega),
      reg_setLs, enabled]
  have contents : (u.lsCh ch).stuck = true := by
    rw [← stuck, State.groupTrip, lsCh_setFlag, stuck_groupOff, lsCh_setReg, lsCh_setLs]
  have ran : exec (.stuckOn ch mA held) s = .next (((u.lsFail ch).setFlag (K.lsFlags ch) lfStuck true).lsEvent ch) := by
    refine (if_neg (by simp [driven, new]; omega)).trans ?_
    simp only [stuck, enable, if_true]
  refine ⟨_, ran, ?_, ?_, ?_, ?_⟩
  · rw [lsCh_lsEvent, lsCh_setFlag, lsCh_lsFail]
    exact contents
  · rw [flag_lsEvent, flag_setFlag]
  · rw [reg_lsEvent, reg_setFlag_ne (by simp), lsState_lsFail]
  · rw [reg_lsEvent, reg_setFlag_ne (by simp; omega), reg_lsFail_ne (by simp; omega) (by simp; omega) (by simp; omega), ← stuck, opened]

/-! ### The supply of a group (R327) -/

theorem runs_feedLow (g : Fin 4) (mV : Nat) :
    Runs (.feedLow g mV) s fun t =>
      t.reg (K.groupVoltage g) = (min mV 65535 : Nat) ∧ t.flag (K.groupFlags g) 2 = (decide (mV < 6000) || s.flag (K.groupFlags g) 2) := by
  refine ⟨_, rfl, ?_, ?_⟩
  · rw [reg_ite, reg_setFlag_ne (by simp), ite_self, reg_setReg_self]
  · split_ifs with low
    · rw [flag_setFlag, decide_eq_true low, Bool.true_or]
    · rw [flag_setReg_ne _ (by simp), decide_eq_false low, Bool.false_or]

theorem runs_feedReturn (g : Fin 4) (mV : Nat) :
    Runs (.feedReturn g mV) s fun t =>
      t.reg (K.groupVoltage g) = (min mV 65535 : Nat) ∧ t.flag (K.groupFlags g) 2 = (!decide (6500 ≤ mV) && s.flag (K.groupFlags g) 2) := by
  refine ⟨_, rfl, ?_, ?_⟩
  · rw [reg_ite, reg_setFlag_ne (by simp), ite_self, reg_setReg_self]
  · split_ifs with back
    · rw [flag_setFlag, decide_eq_true back, Bool.not_true, Bool.false_and]
    · rw [flag_setReg_ne _ (by simp), decide_eq_false back, Bool.not_false, Bool.true_and]

/-- Settles O38: each trip is `lsTrip` or `groupTrip`, and the other flags are set and cleared by their condition alone. -/
theorem loadsTripAndShowFaults : Obligations.LoadsTripAndShowFaults := by
  unfold Obligations.LoadsTripAndShowFaults
  exact ⟨runs_overload, runs_short, runs_short_inrush, runs_thermalLatch, runs_thermalLatchClear, runs_groupShed_over, runs_groupShed_under,
    runs_groupTrip, runs_openLoadOn, runs_openLoadOff, runs_lsShortToSupply, runs_stuckOn, runs_feedLow, runs_feedReturn⟩

end Sys2Proof.Machine
end

section
/-!
The segment tests of the load channels, and what their start and their end leave (O36, O37).
-/
namespace Sys2Proof.Machine
open Sys2Proof

variable {s t : State} {a : Activity} {k n : Nat}

/-! ### Running activities (R401, R412) -/

/-- The entries of the arbiter and of its shown activities (R412). -/
def ArbiterEntry (k : Nat) : Prop := k / 256 = 0x5400 ∨ k / 256 = 0x5401

theorem reg_showActs (h : ¬ ArbiterEntry k) (s : State) : s.showActs.reg k = s.reg k := by
  unfold ArbiterEntry at h
  rw [State.showActs, reg_foldl, reg_setReg_ne (by simp; omega)]
  intro t q hq
  have := List.mem_range.1 hq
  exact reg_setReg_ne (by simp; omega) _ _

theorem maint_of_outside {F : List Part} (h : t.outside F = s.outside F) (hF : .maint ∉ F) : t.maint = s.maint :=
  (congrArg State.maint (eq_merge_of_outside h)).trans (if_neg hF)

@[simp] theorem maint_showActs (s : State) : s.showActs.maint = s.maint :=
  maint_of_outside (F := [.regs]) (outside_showActs (by decide) ..) (by decide)

theorem runningAct_some {code unit : Nat} (h : s.runningAct code unit = some a) : a.code = code ∧ a.unit = unit := by
  simpa using List.find?_some h

/-! ### A segment test starts and ends (R320, R401) -/

theorem maint_endAct (s : State) (a : Activity) :
    (s.endAct a).maint = { s.maint with acts := s.maint.acts.filter (fun x => x ≠ a) } := by
  rw [State.endAct, maint_showActs]
  split_ifs <;> rfl

theorem maint_grantAct (s : State) (a : Activity) : (s.grantAct a).maint = { s.maint with acts := s.maint.acts ++ [a] } := by
  rw [State.grantAct, maint_showActs]
  split_ifs <;> rfl

theorem endAct_segmentTest (h : a.code = actSegmentTest) (s : State) : s.endAct a =
    (({ s with maint := { s.maint with acts := s.maint.acts.filter (fun x => x ≠ a) } } : State).setFlag (K.lsFlags a.unit) 14 false).showActs := by
  rw [State.endAct, if_pos h, if_neg (by rw [h]; decide)]

theorem reg_endAct_segmentTest (h : a.code = actSegmentTest) (flags : k ≠ K.lsFlags a.unit) (arbiter : ¬ ArbiterEntry k) (s : State) :
    (s.endAct a).reg k = s.reg k := by
  rw [endAct_segmentTest h, reg_showActs arbiter, reg_setFlag_ne flags]
  rfl

/-- The status entries of a channel are none of the arbiter. -/
theorem not_arbiterEntry_status (ch : Fin 48) {j : Nat} (hj : j < 256) : ¬ ArbiterEntry ((0x4440 + ch) * 256 + j) := by
  unfold ArbiterEntry
  omega

theorem flag_endAct_segmentTest {ch : Fin 48} (h : a.code = actSegmentTest) (unit : a.unit = ch) (s : State) (i : Nat) :
    (s.endAct a).flag (K.lsFlags ch) i = if i = 14 then false else s.flag (K.lsFlags ch) i := by
  rw [endAct_segmentTest h, flag_congr (reg_showActs (not_arbiterEntry_status ch (by decide)) _), unit]
  split_ifs with testing
  · rw [testing, flag_setFlag]
  · exact flag_setFlag_ne testing ..

theorem flag_grantAct_segmentTest {ch : Fin 48} (h : a.code = actSegmentTest) (unit : a.unit = ch) (s : State) :
    (s.grantAct a).flag (K.lsFlags ch) 14 = true := by
  rw [State.grantAct, if_pos h, if_neg (by rw [h]; decide), flag_congr (reg_showActs (not_arbiterEntry_status ch (by decide)) _),
    flag_congr (reg_bump_ne (by simp; omega) _), unit, flag_setFlag]

end Sys2Proof.Machine
end

section
/-!
The runs and the restarts of the load channels (O37).
-/
namespace Sys2Proof.Machine
open Sys2Proof

variable (s : State)

/-! ### The inrush window and slew (R303, R304) -/

theorem runs_inrushEnd (ch : Fin 48) (inrush : s.reg (K.lsState ch) = lsInrush) (regulating : (s.lsCh ch).slewFrom = none)
    (past : (s.lsCh ch).onAt + ticksMs (s.regN (K.inrushTime ch)) ≤ s.tick) :
    Runs (.inrushEnd ch) s fun t => t.reg (K.lsState ch) = lsOn ∧ (t.lsCh ch).onSince = some s.tick :=
  ⟨_, congrArg Host.Outcome.next (if_pos (by simp [inrush, regulating, past])), reg_setReg_self .., by rw [lsCh_setReg, lsCh_setLs]⟩

theorem runs_slewFallback (ch : Fin 48) (temp : Int) (inrush : s.reg (K.lsState ch) = lsInrush) (regulating : (s.lsCh ch).slewFrom = none)
    (hot : 1400 ≤ temp) :
    Runs (.slewFallback ch temp) s fun t =>
      (t.lsCh ch).slewFrom = some s.tick ∧ t.flag (K.lsFlags ch) lfSlew = true ∧ t.reg (K.lsState ch) = lsInrush ∧
      t.reg (K.slewFallbacks ch) = (s.bump (K.slewFallbacks ch)).reg (K.slewFallbacks ch) := by
  have state : (s.setReg (K.junctionTemperature ch) (clampI (-32768) 32767 temp)).reg (K.lsState ch) = lsInrush :=
    (reg_setReg_ne (by simp) ..).trans inrush
  refine ⟨_, congrArg Host.Outcome.next (if_pos ?_), ?_, ?_, ?_, ?_⟩
  · simp only [state, lsCh_setReg, regulating, Option.isNone_none, hot, decide_true, Bool.and_self]
  · rw [lsCh_bump, lsCh_setFlag, lsCh_setLs, tick_setReg]
  · rw [flag_congr (reg_bump_ne (by simp) _), flag_setFlag]
  · rw [reg_bump_ne (by simp), reg_setFlag_ne (by simp), reg_setLs, state]
  · refine reg_bump_congr ?_
    rw [reg_setFlag_ne (by simp), reg_setLs, reg_setReg_ne (by simp)]

theorem runs_slewEnd (ch : Fin 48) (t0 : Nat) (inrush : s.reg (K.lsState ch) = lsInrush) (slewing : (s.lsCh ch).slewFrom = some t0)
    (past : t0 + ticksMs (s.regN (K.slewTime ch)) ≤ s.tick) :
    Runs (.slewEnd ch) s fun t => t.reg (K.lsState ch) = lsOn ∧ (t.lsCh ch).slewFrom = none :=
  ⟨_, congrArg Host.Outcome.next (if_pos (by simp [inrush, State.heldFor, slewing, past])), reg_setReg_self .., by rw [lsCh_setReg, lsCh_setLs]⟩

/-! ### The fuse model (R302, R311, R312) -/

section
variable {s} {t : State} {n : Nat}

theorem wireTemp_congr (ambient : t.reg (K.wireAmbient n) = s.reg (K.wireAmbient n)) (rise : (t.lsCh n).dT = (s.lsCh n).dT) :
    t.wireTemp n = s.wireTemp n := by
  rw [State.wireTemp, State.wireTemp, ambient, rise]

theorem tclass_congr (insulation : t.reg (K.insulationClass n) = s.reg (K.insulationClass n)) : t.tclass n = s.tclass n := by
  rw [State.tclass, State.tclass, regN_congr insulation]

end

/-- What follows from the wire temperature that a step of the fuse model has found (R312). -/
def State.fuseJudged (s : State) (n : Nat) : State :=
  if s.tclass n ≤ s.wireTemp n then
    (if s.flag (K.lsFlags n) lfFuseTrip || s.reg (K.lsState n) = lsFault then s else (s.lsTrip n tcFuse).lsEvent n)
  else if s.tclass n - 10 * 65536 ≤ s.wireTemp n then s.setFlag (K.lsFlags n) lfFuseWarn true
  else if s.wireTemp n < s.tclass n - 15 * 65536 then s.setFlag (K.lsFlags n) lfFuseWarn false
  else s

theorem dT_fuseJudged (n : Nat) : ((s.fuseJudged n).lsCh n).dT = (s.lsCh n).dT := by
  simp only [State.fuseJudged, lsCh_ite, lsCh_lsEvent, lsCh_lsTrip, lsCh_setFlag, ite_self]
  split_ifs <;> rfl

theorem reg_fuseJudged {n k : Nat} (state : k ≠ K.lsState n) (trips : k ≠ K.trips n) (cause : k ≠ K.tripCause n)
    (applied : k ≠ K.appliedDuty n) (flags : k ≠ K.lsFlags n) : (s.fuseJudged n).reg k = s.reg k := by
  simp only [State.fuseJudged, reg_ite, reg_lsEvent, reg_lsTrip_ne state trips cause applied flags, reg_setFlag_ne flags, ite_self]

/-- The settings of a channel stay. -/
theorem reg_fuseJudged_setting (n : Nat) {j : Nat} (hj : j < 256) :
    (s.fuseJudged n).reg ((0x4400 + n) * 256 + j) = s.reg ((0x4400 + n) * 256 + j) :=
  reg_fuseJudged s (by simp; omega) (by simp; omega) (by simp; omega) (by simp; omega) (by simp; omega)

/-- The measured step of one channel: its currents and the rise of its wire (R302, R311). -/
def State.fuseStepped (s : State) (n mean meanSq peak : Nat) : State :=
  let s := (s.setReg (K.lsCurrent n) (min mean 65535 : Nat)).setReg (K.currentPeak n) (min peak 65535 : Nat)
  (s.setLs n { s.lsCh n with dT := fuseRise (s.regN (K.wireSection n)) (s.wireTemp n) (s.lsCh n).dT meanSq }).showWire n

theorem reg_fuseStepped {n k : Nat} (current : k ≠ K.lsCurrent n) (peak : k ≠ K.currentPeak n) (temperature : k ≠ K.wireTemperature n)
    (mean meanSq peak' : Nat) : (s.fuseStepped n mean meanSq peak').reg k = s.reg k := by
  rw [State.fuseStepped, State.showWire, reg_setReg_ne temperature, reg_setLs, reg_setReg_ne peak, reg_setReg_ne current]

theorem fuseStepped_shows (n mean meanSq peak : Nat) :
    ((s.fuseStepped n mean meanSq peak).lsCh n).dT = fuseRise (s.regN (K.wireSection n)) (s.wireTemp n) (s.lsCh n).dT meanSq ∧
    (s.fuseStepped n mean meanSq peak).reg (K.lsCurrent n) = (min mean 65535 : Nat) ∧
    (s.fuseStepped n mean meanSq peak).reg (K.wireTemperature n) = (s.fuseStepped n mean meanSq peak).wireTemp n * 10 / 65536 := by
  unfold State.fuseStepped
  extract_lets u
  have kept {k : Nat} (current : k ≠ K.lsCurrent n) (other : k ≠ K.currentPeak n) : u.reg k = s.reg k := by
    rw [reg_setReg_ne other, reg_setReg_ne current]
  have wire : u.regN (K.wireSection n) = s.regN (K.wireSection n) := regN_congr (kept (by simp; omega) (by simp))
  have temp : u.wireTemp n = s.wireTemp n := wireTemp_congr (kept (by simp; omega) (by simp; omega)) rfl
  refine ⟨?_, ?_, ?_⟩
  · rw [State.showWire, lsCh_setReg, lsCh_setLs, wire, temp]
    rfl
  · rw [State.showWire, reg_setReg_ne (by simp), reg_setLs, reg_setReg_ne (by simp), reg_setReg_self]
  · rw [State.showWire, reg_setReg_self]
    exact congrArg (· * 10 / 65536) (wireTemp_congr (reg_setReg_ne (by simp; omega) ..) rfl).symm

theorem runs_fuseStep (ch : Fin 48) (mean meanSq peak : Nat) (enabled : s.reg (K.lsEnable ch) = 1) :
    Runs (.fuseStep ch mean meanSq peak) s fun t =>
      (t.lsCh ch).dT = fuseRise (s.regN (K.wireSection ch)) (s.wireTemp ch) (s.lsCh ch).dT meanSq ∧
      t.reg (K.lsCurrent ch) = (min mean 65535 : Nat) ∧ t.reg (K.wireTemperature ch) = t.wireTemp ch * 10 / 65536 ∧
      (t.wireTemp ch < t.tclass ch → t.tclass ch - 10 * 65536 ≤ t.wireTemp ch → t.flag (K.lsFlags ch) lfFuseWarn = true) ∧
      (t.wireTemp ch < t.tclass ch - 15 * 65536 → t.flag (K.lsFlags ch) lfFuseWarn = false) ∧
      (t.tclass ch ≤ t.wireTemp ch → s.flag (K.lsFlags ch) lfFuseTrip = false → s.reg (K.lsState ch) ≠ lsFault →
        t.reg (K.lsState ch) = lsLatched ∧ t.flag (K.lsFlags ch) lfFuseTrip = true ∧ t.reg (K.tripCause ch) = 4) := by
  obtain ⟨rise, current, shown⟩ := fuseStepped_shows s ch mean meanSq peak
  have state := reg_fuseStepped s (n := ch) (k := K.lsState ch) (by simp) (by simp) (by simp) mean meanSq peak
  have flags := reg_fuseStepped s (n := ch) (k := K.lsFlags ch) (by simp) (by simp) (by simp) mean meanSq peak
  have ran : exec (.fuseStep ch mean meanSq peak) s = .next ((s.fuseStepped ch mean meanSq peak).fuseJudged ch) :=
    if_neg (not_not.2 (by rw [reg_setReg_ne (by simp; omega), reg_setReg_ne (by simp; omega), enabled]))
  generalize s.fuseStepped ch mean meanSq peak = u at *
  have temp : (u.fuseJudged ch).wireTemp ch = u.wireTemp ch :=
    wireTemp_congr (reg_fuseJudged_setting u ch (by decide)) (dT_fuseJudged u ch)
  have limit : (u.fuseJudged ch).tclass ch = u.tclass ch := tclass_congr (reg_fuseJudged_setting u ch (by decide))
  refine ⟨_, ran, (dT_fuseJudged u ch).trans rise, ?_, ?_, ?_⟩
  · rw [reg_fuseJudged u (by simp) (by simp) (by simp) (by simp) (by simp), current]
  · rw [reg_fuseJudged u (by simp) (by simp) (by simp) (by simp) (by simp), shown, temp]
  rw [temp, limit]
  refine ⟨fun below near => ?_, fun cool => ?_, fun reached new works => ?_⟩
  · rw [State.fuseJudged, if_neg (by omega), if_pos near, flag_setFlag]
  · rw [State.fuseJudged, if_neg (by omega), if_neg (by omega), if_pos cool, flag_setFlag]
  · obtain ⟨latched, cause, -⟩ := lsTrip_shows u ch tcFuse
    rw [State.fuseJudged, if_pos reached, if_neg (by simp [flag_congr flags, state, new, works]), reg_lsEvent, reg_lsEvent, flag_lsEvent]
    exact ⟨latched, flag_lsTrip_cause (by decide) .., cause⟩

/-- The rise of every channel goes to the journal (R313). -/
theorem runs_fuseSave : Runs .fuseSave s fun t =>
    (∀ n : Fin 48, t.jr.fuseSaved.get 0 n = (s.lsCh n).dT) ∧ t.jr.items = s.jr.items ∧ t.ls = s.ls ∧ t.regs = s.regs := by
  have saved (l : List Nat) (t : Tab Int) (n : Nat) : (l.foldl (fun t n => t.set 0 n (s.lsCh n).dT) t).get 0 n =
      if n ∈ l then (s.lsCh n).dT else t.get 0 n := by
    induction l generalizing t with
    | nil => simp
    | cons m l ih =>
      rw [List.foldl_cons, ih]
      obtain rfl | other := eq_or_ne n m
      · simp [Tab.get_set_self]
      · simp [other, Tab.get_set_ne _ _ _ other]
  exact ⟨_, rfl, fun n => (saved _ _ n).trans (if_pos (List.mem_range.2 n.isLt)), rfl, rfl, rfl⟩

/-! ### Lamps (R314) -/

/-- The compensated duty of a lamp comes into force, at most 100 %. -/
theorem runs_lampDuty (ch : Fin 48) (v i : Nat) (lamp : s.reg (K.loadKind ch) = 1) (conducts : s.lsConducts ch = true)
    (driven : (s.lsCh ch).dc ≠ 0)
    (high : 6000 * (10 ^ 13 * 65536) ≤ lampVolts (s.regN (K.wireSection ch)) (s.regN (K.wireLength ch)) (s.wireTemp ch) v i)
    (supplied : s.flag (K.groupFlags (lsGroup ch)) 2 = false) :
    Runs (.lampDuty ch v i) s fun t =>
      t.reg (K.appliedDuty ch) = min 1000 (lampDuty (s.lsCh ch).dc (s.reg (K.lampNominal ch) * (10 ^ 13 * 65536))
        (lampVolts (s.regN (K.wireSection ch)) (s.regN (K.wireLength ch)) (s.wireTemp ch) v i) (s.reg (K.lampExponent ch))) ∧
      t.reg (K.commandedDuty ch) = s.reg (K.commandedDuty ch) := by
  refine ⟨_, (if_neg (by simp [lamp, conducts])).trans (if_neg ?_), ?_, ?_⟩
  · rw [supplied, Bool.or_false, Bool.or_eq_true, decide_eq_true_eq, decide_eq_true_eq]
    omega
  · split_ifs with limited
    · rw [reg_setReg_self, min_eq_left limited.le]
    · rw [reg_setReg_self, min_eq_right (not_lt.1 limited)]
  · split_ifs <;> rw [reg_setReg_ne (by simp), reg_setFlag_ne (by simp)]

/-! ### The restart of a tripped channel (R316, R317) -/

theorem runs_restartCheck (ch : Fin 48) (tripped : s.reg (K.lsState ch) = lsTripped) (asked : s.reg (K.commandedDuty ch) ≠ 0)
    (cause : s.reg (K.tripCause ch) ≠ (tcShed : Nat)) (cool : s.flag (K.lsFlags ch) lfThermal = false)
    (waited : (s.lsCh ch).tripTick + ticksMs (s.regN (K.retryDelay ch)) ≤ s.tick) :
    Runs (.restartCheck ch) s fun t =>
      (s.reg (K.retriesUsed ch) < s.reg (K.retryCount ch) → s.safeOff = false →
        t.reg (K.retriesUsed ch) = s.reg (K.retriesUsed ch) + 1 ∧
        t.reg (K.lsState ch) = (if s.reg (K.inrushTime ch) = 0 then lsOn else lsInrush) ∧
        t.reg (K.appliedDuty ch) = s.appliedOf ch (s.reg (K.commandedDuty ch))) ∧
      (s.reg (K.retryCount ch) ≤ s.reg (K.retriesUsed ch) →
        t.reg (K.lsState ch) = lsLatched ∧ t.flag (K.lsFlags ch) lfLockedOut = true) := by
  have ran : exec (.restartCheck ch) s = if s.reg (K.retryCount ch) ≤ s.reg (K.retriesUsed ch) then
        .next (((s.setReg (K.lsState ch) lsLatched).setFlag (K.lsFlags ch) lfLockedOut true).lsEvent ch)
      else .next ((s.setReg (K.retriesUsed ch) (s.reg (K.retriesUsed ch) + 1)).lsSwitchOn ch) :=
    (if_neg (not_not.2 tripped)).trans ((if_neg asked).trans ((if_neg cause).trans ((if_neg (by simp [cool])).trans (if_neg (by omega)))))
  split_ifs at ran with used
  · refine ⟨_, ran, fun left => absurd used (not_le.2 left), fun _ => ⟨?_, ?_⟩⟩
    · rw [reg_lsEvent, reg_setFlag_ne (by simp), reg_setReg_self]
    · rw [flag_lsEvent, flag_setFlag]
  · refine ⟨_, ran, fun _ free => ?_, fun none => absurd none used⟩
    have free' : (s.setReg (K.retriesUsed ch) (s.reg (K.retriesUsed ch) + 1)).safeOff = false :=
      (flag_setReg_ne _ (by simp; omega) ..).trans free
    obtain ⟨state, applied, -⟩ := lsSwitchOn_shows free' ch
    refine ⟨?_, ?_, ?_⟩
    · rw [reg_lsSwitchOn_ne (by simp) (by simp) (by simp; omega) (by simp), reg_setReg_self]
    · rw [state, reg_setReg_ne (by simp)]
    · rw [applied, reg_setReg_ne (by simp)]
      exact appliedOf_congr (reg_setReg_ne (by simp; omega) ..)

theorem runs_retryWindow (ch : Fin 48) (t0 : Nat) (on : s.reg (K.lsState ch) = lsOn) (since : (s.lsCh ch).onSince = some t0)
    (past : t0 + ticksS (s.regN (K.retryWindow ch)) ≤ s.tick) :
    Runs (.retryWindow ch) s fun t => t.reg (K.retriesUsed ch) = 0 ∧ t.reg (K.lsState ch) = lsOn ∧ t.ls = s.ls :=
  ⟨_, congrArg Host.Outcome.next (if_pos (by simp [on, State.heldFor, since, past])), reg_setReg_self ..,
    (reg_setReg_ne (by simp) ..).trans on, rfl⟩

/-! ### Segments (R319-R321) -/

/-- A flag of the spares and its record change SpareFlags only (R392, R413). -/
theorem reg_spareFlag {k : Nat} (h : k ≠ K.spareFlags) (bit : Nat) : (s.spareFlag bit).reg k = s.reg k := by
  rw [State.spareFlag, reg_ite, reg_eventKey, reg_setFlag_ne h, ite_self]

theorem reg_takeSegment {k : Nat} (h : k ≠ K.spareFlags) :
    s.takeSegment.reg k = if k = K.segmentsLeft then s.reg K.segmentsLeft - 1 else s.reg k := by
  rw [State.takeSegment, reg_ite, reg_spareFlag _ h, ite_self, State.takeSpare, reg_ite, reg_eventKey, ite_self, reg_setReg]

@[simp] theorem ls_takeSegment : s.takeSegment.ls = s.ls :=
  ls_of_outside (F := [.regs, .book]) (by simp [State.takeSegment, State.takeSpare, State.spareFlag, State.eventKey]) (by decide)

/-- A gate fault or a worn resistance retires the segment (R319). -/
theorem exec_segmentRetire {ch : Fin 48} {ratio mA held : Nat} {gateFault : Bool}
    (worn : gateFault = true ∨ 1500 < ratio ∧ 1000 ≤ mA ∧ ticksS 10 ≤ held) :
    exec (.segmentRetire ch ratio mA held gateFault) s = .next (s.lsRetire ch) :=
  congrArg Host.Outcome.next (if_pos (by simpa [and_assoc] using worn))

theorem lsRetire_understudy {n : Nat} (free : s.reg (K.understudyInService n) = 0) (healthy : 0 < s.reg (K.segmentsHealthy n)) :
    s.lsRetire n = (((s.bump (K.segmentsRetired n)).setReg (K.understudyInService n) 1).takeSegment).eventKey .loads n (K.segmentsRetired n) := by
  have free' : (s.bump (K.segmentsRetired n)).reg (K.understudyInService n) = 0 := (reg_bump_ne (by simp) s).trans free
  simp only [State.lsRetire, if_neg (not_le.2 healthy), free', if_true]

theorem runs_segmentRetire_understudy (ch : Fin 48) (ratio mA held : Nat) (free : s.reg (K.understudyInService ch) = 0)
    (healthy : 0 < s.reg (K.segmentsHealthy ch)) :
    Runs (.segmentRetire ch ratio mA held true) s fun t =>
      t.reg (K.understudyInService ch) = 1 ∧ t.reg (K.segmentsHealthy ch) = s.reg (K.segmentsHealthy ch) ∧
      t.reg (K.segmentsRetired ch) = (s.bump (K.segmentsRetired ch)).reg (K.segmentsRetired ch) ∧
      t.reg K.segmentsLeft = s.reg K.segmentsLeft - 1 ∧ t.ls = s.ls := by
  have status {j : Nat} (hj : j < 256) : (0x4440 + (ch : Nat)) * 256 + j ≠ K.spareFlags ∧ (0x4440 + (ch : Nat)) * 256 + j ≠ K.segmentsLeft := by
    simp
    omega
  refine ⟨_, (exec_segmentRetire s (.inl rfl)).trans (congrArg Host.Outcome.next (lsRetire_understudy s free healthy)), ?_, ?_, ?_, ?_, ?_⟩
  · rw [reg_eventKey, reg_takeSegment _ (status (by decide)).1, if_neg (status (by decide)).2, reg_setReg_self]
  · rw [reg_eventKey, reg_takeSegment _ (status (by decide)).1, if_neg (status (by decide)).2, reg_setReg_ne (by simp), reg_bump_ne (by simp)]
  · rw [reg_eventKey, reg_takeSegment _ (status (by decide)).1, if_neg (status (by decide)).2, reg_setReg_ne (by simp)]
  · rw [reg_eventKey, reg_takeSegment _ (by decide), if_pos rfl, reg_setReg_ne (by simp; omega), reg_bump_ne (by simp; omega)]
  · rw [ls_eventKey, ls_takeSegment]
    rfl

/-- A channel that goes on with one segment fewer: it is derated, and off with none (R321). -/
def State.lsDerated (s : State) (n : Nat) : State :=
  let s := s.setReg (K.segmentsHealthy n) (s.reg (K.segmentsHealthy n) - 1)
  let s := (s.setFlag (K.lsFlags n) lfDerated true).showRating n
  if s.reg (K.segmentsHealthy n) ≤ 0 then (if s.reg (K.lsEnable n) = 1 then s.lsFail n else s.lsOpen n) else s

theorem lsRetire_derated {n : Nat} (inService : s.reg (K.understudyInService n) ≠ 0) (healthy : 0 < s.reg (K.segmentsHealthy n)) :
    s.lsRetire n = ((s.bump (K.segmentsRetired n)).lsDerated n).eventKey .loads n (K.segmentsRetired n) := by
  have inService' : (s.bump (K.segmentsRetired n)).reg (K.understudyInService n) ≠ 0 := by rwa [reg_bump_ne (by simp)]
  simp only [State.lsRetire, if_neg (not_le.2 healthy), inService', if_false, State.lsDerated]

theorem lsDerated_shows (n : Nat) :
    (s.lsDerated n).reg (K.segmentsHealthy n) = s.reg (K.segmentsHealthy n) - 1 ∧ (s.lsDerated n).flag (K.lsFlags n) lfDerated = true ∧
    (s.lsDerated n).reg (K.effectiveRating n) = min (lsClassRating n) (5000 * (s.reg (K.segmentsHealthy n) - 1)) := by
  unfold State.lsDerated
  extract_lets u v
  have rated : v = (u.setFlag (K.lsFlags n) lfDerated true).setReg (K.effectiveRating n)
      (min (lsClassRating n) (5000 * (s.reg (K.segmentsHealthy n) - 1))) := by
    simp only [v, State.showRating, reg_setFlag_ne (show K.segmentsHealthy n ≠ K.lsFlags n by simp), u, reg_setReg_self]
  have opens {k : Nat} (state : k ≠ K.lsState n) (applied : k ≠ K.appliedDuty n) (flags : k ≠ K.lsFlags n) :
      (if v.reg (K.segmentsHealthy n) ≤ 0 then (if v.reg (K.lsEnable n) = 1 then v.lsFail n else v.lsOpen n) else v).reg k = v.reg k := by
    simp only [reg_ite, reg_lsFail_ne state applied flags, reg_lsOpen_ne applied flags, ite_self]
  refine ⟨?_, ?_, ?_⟩
  · rw [opens (by simp) (by simp) (by simp), rated, reg_setReg_ne (by simp), reg_setFlag_ne (by simp), reg_setReg_self]
  · simp only [flag_ite, flag_lsFail (show lfDerated ≠ lfSlew by decide), flag_lsOpen (show lfDerated ≠ lfSlew by decide), ite_self]
    rw [rated, flag_setReg_ne _ (by simp), flag_setFlag]
  · rw [opens (by simp) (by simp) (by simp), rated, reg_setReg_self]

theorem runs_segmentRetire_derated (ch : Fin 48) (ratio mA held : Nat) (inService : s.reg (K.understudyInService ch) ≠ 0)
    (healthy : 0 < s.reg (K.segmentsHealthy ch)) (worn : 1500 < ratio) (loaded : 1000 ≤ mA) (long : ticksS 10 ≤ held) :
    Runs (.segmentRetire ch ratio mA held false) s fun t =>
      t.reg (K.segmentsHealthy ch) = s.reg (K.segmentsHealthy ch) - 1 ∧ t.flag (K.lsFlags ch) lfDerated = true ∧
      t.reg (K.effectiveRating ch) = min (lsClassRating ch) (5000 * (s.reg (K.segmentsHealthy ch) - 1)) := by
  refine ⟨_, (exec_segmentRetire s (.inr ⟨worn, loaded, long⟩)).trans (congrArg Host.Outcome.next (lsRetire_derated s inService healthy)), ?_⟩
  simp only [reg_eventKey, flag_eventKey]
  rw [← reg_bump_ne (show K.segmentsHealthy ch ≠ K.segmentsRetired ch by simp) s]
  exact lsDerated_shows (s.bump (K.segmentsRetired ch)) ch

/-! ### Segment tests (R320, R399-R401) -/

theorem runs_segmentTest_start (ch : Fin 48) (idle : s.runningAct actSegmentTest ch = none) (scheduled : s.reg K.segmentTestInterval ≠ 0)
    (due : s.maint.segTested.get 0 ch + ticksS (s.regN K.segmentTestInterval) ≤ s.tick)
    (free : s.schedulable (domFeed (lsGroup ch)) = true) (understudy : s.reg (K.understudyInService ch) = 0) :
    Runs (.segmentTest ch false) s fun t =>
      t.maint.acts = s.maint.acts ++ [⟨actSegmentTest, domFeed (lsGroup ch), ch, .scheduled, 0, s.tick, 0, 0⟩] ∧
      t.flag (K.lsFlags ch) 14 = true := by
  have ran : exec (.segmentTest ch false) s =
      .next (s.grantAct ⟨actSegmentTest, domFeed (lsGroup ch), ch, .scheduled, 0, s.tick, 0, 0⟩) := by
    change execSegmentTest ch false s = _
    simp only [execSegmentTest, idle]
    exact if_pos (by simp [scheduled, due, free, understudy])
  exact ⟨_, ran, by rw [maint_grantAct], flag_grantAct_segmentTest rfl rfl s⟩

theorem runs_segmentTest_end (ch : Fin 48) (a : Activity) (running : s.runningAct actSegmentTest ch = some a)
    (past : a.start + ticksMs (2 * lsActiveSegments ch) ≤ s.tick) (alone : s.maint.waiting = []) :
    Runs (.segmentTest ch false) s fun t =>
      t.maint.segTested.get 0 ch = s.tick ∧ a ∉ t.maint.acts ∧ t.flag (K.lsFlags ch) 14 = false ∧
      t.reg (K.segmentsHealthy ch) = s.reg (K.segmentsHealthy ch) := by
  obtain ⟨code, unit⟩ := runningAct_some running
  generalize tested : ({ s with maint := { s.maint with segTested := s.maint.segTested.set 0 ch s.tick } } : State) = u
  have noRepair : (u.endAct a).maint.waiting = [] := by
    rw [maint_endAct, ← tested]
    exact alone
  have finished : u.finishAct a = u.endAct a := by simp only [State.finishAct, State.grantWaiting, noRepair, List.find?_nil]
  have ran : exec (.segmentTest ch false) s = .next (u.endAct a) := by
    change execSegmentTest ch false s = _
    simp only [execSegmentTest, running, if_neg (not_lt.2 past), tested, finished, Bool.false_eq_true, if_false]
  refine ⟨_, ran, ?_, ?_, ?_, ?_⟩
  · rw [maint_endAct, ← tested]
    exact Tab.get_set_self ..
  · simp [maint_endAct]
  · rw [flag_endAct_segmentTest code unit, if_pos rfl]
  · rw [reg_endAct_segmentTest code (by simp [unit]) (not_arbiterEntry_status ch (by decide)), ← tested]
    rfl

/-- Settles O37: a switch-on is `lsSwitchOn`, a FUSE trip `lsTrip`, and a segment that wears out `lsRetire`. -/
theorem loadChannelsRunAndRestart : Obligations.LoadChannelsRunAndRestart := by
  unfold Obligations.LoadChannelsRunAndRestart
  exact ⟨runs_inrushEnd, runs_slewFallback, runs_slewEnd, runs_fuseStep, runs_lampDuty, runs_fuseSave, runs_restartCheck, runs_retryWindow,
    runs_segmentRetire_understudy, runs_segmentRetire_derated, runs_segmentTest_start, runs_segmentTest_end⟩

end Sys2Proof.Machine
end

section
/-!
The commands of the load channels (O36).
-/
namespace Sys2Proof.Machine
open Sys2Proof

variable {s t : State} {n k : Nat}

/-! ### The state in which a write takes its effect -/

/-- What a write of a load channel finds as it takes its effect. -/
structure LoadTook (s u : State) : Prop extends Took s u where
  ls : u.ls = s.ls

theorem writes_of_loadTook {c : Instr} {slot idx sub : Nat} {d : Bytes} {r : WriteRule} {P : State → Prop}
    (hc : exec c s = .next (s.request slot idx sub d r))
    (hP : Writable s slot idx sub d r → ∀ u, LoadTook s u → P (r.effect u slot (s.regN K.nextJournalSeq) d))
    (reply : ∀ t x, P t → P { t with lastReply := x }) : Writes c s slot idx sub d r P :=
  fun hw => writes_of_effect hc (hP hw _ ⟨took_taken .., ls_afterAccept ..⟩) reply hw

theorem reg_putEntry_ne {idx sub : Nat} (h : k ≠ key idx sub) (s : State) (d : Bytes) : (s.putEntry idx sub d).reg k = s.reg k := by
  unfold State.putEntry
  split
  · rw [reg_ite, reg_setBlob, reg_setReg_ne h, ite_self]
  · rfl

@[simp] theorem ls_putEntry (s : State) (idx sub : Nat) (d : Bytes) : (s.putEntry idx sub d).ls = s.ls :=
  ls_of_outside (F := [.regs, .blobs]) (outside_putEntry (by decide) (by decide) ..) (by decide)

@[simp] theorem tick_putEntry (s : State) (idx sub : Nat) (d : Bytes) : (s.putEntry idx sub d).tick = s.tick :=
  tick_of_outside (F := [.regs, .blobs]) (outside_putEntry (by decide) (by decide) ..) (by decide)

/-! ### The commanded duty (R301, R315, R324) -/

theorem lsSetDuty_on {v : Int} (off : s.reg (K.lsState n) = lsOff) (zero : s.reg (K.commandedDuty n) = 0)
    (cool : s.flag (K.lsFlags n) lfThermal = false) (on : v ≠ 0) : s.lsSetDuty n v = (s.setReg (K.commandedDuty n) v).lsSwitchOn n := by
  have cool' : (s.setReg (K.commandedDuty n) v).flag (K.lsFlags n) lfThermal = false := (flag_setReg_ne _ (by simp) ..).trans cool
  simp [State.lsSetDuty, off, zero, cool', on]

theorem lsSetDuty_off (conducts : s.lsConducts n = true) :
    s.lsSetDuty n 0 = ((s.setReg (K.commandedDuty n) 0).lsOpen n).setReg (K.lsState n) lsOff := by
  have state : s.reg (K.lsState n) = lsInrush ∨ s.reg (K.lsState n) = lsOn := by simpa [State.lsConducts] using conducts
  obtain state | state := state <;> simp [State.lsSetDuty, state]

/-- Another duty of a channel that conducts waits for the period boundary (R301). -/
theorem lsSetDuty_change {v : Int} (conducts : s.lsConducts n = true) (old : s.reg (K.commandedDuty n) ≠ 0) (on : v ≠ 0) :
    s.lsSetDuty n v = if v ≠ s.reg (K.commandedDuty n) then ((s.setReg (K.commandedDuty n) v).lsNextDuty n).lsDutyDue n
      else s.setReg (K.commandedDuty n) v := by
  have state : s.reg (K.lsState n) = lsInrush ∨ s.reg (K.lsState n) = lsOn := by simpa [State.lsConducts] using conducts
  have conducts' : (s.setReg (K.commandedDuty n) v).lsConducts n = true := (lsConducts_of_lsState (reg_setReg_ne (by simp) ..)).trans conducts
  obtain state | state := state <;> simp [State.lsSetDuty, state, old, on, conducts']

/-- A tripped channel takes the duty and nothing else of it that its entries show (R324). -/
theorem reg_lsSetDuty_tripped (tripped : s.reg (K.lsState n) = lsTripped ∨ s.reg (K.lsState n) = lsLatched) (v : Int) (k : Nat) :
    (s.lsSetDuty n v).reg k = (s.setReg (K.commandedDuty n) v).reg k := by
  obtain tripped | latched := tripped
  · have taken : s.lsSetDuty n v = if v = 0 then
          (s.setReg (K.commandedDuty n) v).setLs n { (s.setReg (K.commandedDuty n) v).lsCh n with seenOff := true }
        else s.setReg (K.commandedDuty n) v := by simp [State.lsSetDuty, tripped]
    rw [taken, reg_ite, reg_setLs, ite_self]
  · have taken : s.lsSetDuty n v = s.setReg (K.commandedDuty n) v := by simp [State.lsSetDuty, latched]
    rw [taken]

/-! ### The period boundary (R301) -/

theorem lsBoundary_congr {ch : Fin 48} (entries : ∀ k, key 0x2000 0 ≤ k → k / 256 ≠ 0x4440 + ch → k ≠ K.lsDuty ch → t.reg k = s.reg k)
    (tick : t.tick = s.tick) (contents : (t.lsCh ch).onAt = (s.lsCh ch).onAt) : t.lsBoundary ch = s.lsBoundary ch := by
  have owner : t.reg (K.lsOwner ch) = s.reg (K.lsOwner ch) := entries _ (by simp; omega) (by simp; omega) (by simp)
  have enable (f : Nat) : t.reg (K.fanEnable f) = s.reg (K.fanEnable f) := entries _ (by simp; omega) (by simp; omega) (by simp; omega)
  have channel (f : Nat) : t.reg (K.fanChannel f) = s.reg (K.fanChannel f) := entries _ (by simp; omega) (by simp; omega) (by simp; omega)
  have frequency (f : Nat) : t.regN (K.fanPwmFrequency f) = s.regN (K.fanPwmFrequency f) :=
    regN_congr (entries _ (by simp; omega) (by simp; omega) (by simp; omega))
  have own : t.regN (K.pwmFrequency ch) = s.regN (K.pwmFrequency ch) :=
    regN_congr (entries _ (by simp; omega) (by simp; omega) (by simp))
  have fan : t.fanOf ch = s.fanOf ch := by simp only [State.fanOf, owner, enable, State.regN, channel]
  have period : t.lsPeriod ch = s.lsPeriod ch := by simp only [State.lsPeriod, fan, frequency, own]
  simp only [State.lsBoundary, period, tick, contents]

theorem reg_lsDutyDue_ne (h : k ≠ K.appliedDuty n) (s : State) : (s.lsDutyDue n).reg k = s.reg k := by
  unfold State.lsDutyDue
  split
  · rw [reg_ite, reg_setReg_ne h, reg_setLs, ite_self]
  · rfl

/-- At a boundary the changed duty is in force at once. -/
theorem appliedDuty_at_boundary (boundary : s.lsBoundary n = s.tick) :
    ((s.lsNextDuty n).lsDutyDue n).reg (K.appliedDuty n) = s.appliedOf n (s.reg (K.commandedDuty n)) := by
  have due : ((s.lsNextDuty n).lsCh n).dcNext = some s.tick := by rw [State.lsNextDuty, lsCh_setLs, boundary]
  simp only [State.lsDutyDue, due]
  rw [if_pos (show s.tick ≤ (s.lsNextDuty n).tick from le_rfl), reg_setReg_self]
  rfl

theorem lsDutyDue_before_boundary (later : s.tick < s.lsBoundary n) : (s.lsNextDuty n).lsDutyDue n = s.lsNextDuty n := by
  have due : ((s.lsNextDuty n).lsCh n).dcNext = some (s.lsBoundary n) := by rw [State.lsNextDuty, lsCh_setLs]
  simp only [State.lsDutyDue, due]
  exact if_neg (not_le.2 later)

/-! ### LsDuty -/

/-- What an LsDuty write finds as the commanded duty changes: its own entry alone has changed. -/
structure DutyTook (s v : State) (n : Nat) : Prop where
  reg : ∀ k, key 0x2000 0 ≤ k → k ≠ K.lsDuty n → v.reg k = s.reg k
  ls : v.ls = s.ls
  tick : v.tick = s.tick

theorem writes_lsDuty {slot : Fin 16} {ch : Fin 48} {d : BitVec 16} {P : State → Prop}
    (hP : ∀ v, DutyTook s v ch → P ((v.lsSetDuty ch d.toNat).finish (s.regN K.nextJournalSeq) .done))
    (reply : ∀ t x, P t → P { t with lastReply := x }) :
    Writes (.lsDuty slot ch d) s slot (0x4400 + ch) 0x15 (leBytes 2 d.toNat) (lsDutyRule ch) P := by
  refine writes_of_loadTook rfl (fun _ u took => ?_) reply
  have value : ((wval (leBytes 2 d.toNat) : Nat) : Int) = d.toNat := congrArg Nat.cast (wval_leBytes_two d)
  simp only [lsDutyRule, value]
  exact hP _ ⟨fun k hk own => (reg_putEntry_ne own ..).trans (took.reg k hk), (ls_putEntry ..).trans took.ls, (tick_putEntry ..).trans took.tick⟩

section
variable {v : State} {ch : Fin 48} (took : DutyTook s v ch)
include took

theorem DutyTook.lsCh (n : Nat) : v.lsCh n = s.lsCh n := lsCh_of_ls took.ls n

theorem DutyTook.status (j : Nat) : v.reg ((0x4440 + ch) * 256 + j) = s.reg ((0x4440 + ch) * 256 + j) :=
  took.reg _ (by simp; omega) (by simp; omega)

theorem DutyTook.safeOff : v.safeOff = s.safeOff := flag_congr (took.reg _ (by decide) (by simp; omega)) 5

theorem DutyTook.lsConducts : v.lsConducts ch = s.lsConducts ch := lsConducts_of_lsState (took.status 1)

end

theorem writes_lsDuty_on (s : State) (slot : Fin 16) (ch : Fin 48) (d : BitVec 16) (off : s.reg (K.lsState ch) = lsOff)
    (zero : s.reg (K.commandedDuty ch) = 0) (cool : s.flag (K.lsFlags ch) lfThermal = false) (free : s.safeOff = false) (on : d ≠ 0) :
    Writes (.lsDuty slot ch d) s slot (0x4400 + ch) 0x15 (leBytes 2 d.toNat) (lsDutyRule ch) fun t =>
      t.reg (K.commandedDuty ch) = (d.toNat : Int) ∧ t.reg (K.lsState ch) = (if s.reg (K.inrushTime ch) = 0 then lsOn else lsInrush) ∧
      t.reg (K.appliedDuty ch) = s.appliedOf ch d.toNat ∧ (t.lsCh ch).onAt = s.tick ∧
      (s.flag (K.groupFlags (lsGroup ch)) 1 = false → t.reg (K.groupState (lsGroup ch)) = 0) := by
  refine writes_lsDuty (fun v took => ?_) fun _ _ h => h
  have group := lsGroup_lt ch
  have nonzero : (d.toNat : Int) ≠ 0 := by simpa [← BitVec.toNat_inj] using on
  rw [lsSetDuty_on ((took.status 1).trans off) ((took.status 2).trans zero) ((flag_congr (took.status 8) _).trans cool) nonzero]
  have free' : (v.setReg (K.commandedDuty ch) d.toNat).safeOff = false :=
    (flag_setReg_ne _ (by simp; omega) ..).trans (took.safeOff.trans free)
  obtain ⟨state, applied, since⟩ := lsSwitchOn_shows free' ch
  refine ⟨?_, ?_, ?_, ?_, fun closed => ?_⟩
  · rw [reg_finish, reg_lsSwitchOn_ne (by simp) (by simp) (by simp; omega) (by simp), reg_setReg_self]
  · rw [reg_finish, state, reg_setReg_ne (by simp; omega), took.reg _ (by simp; omega) (by simp)]
  · rw [reg_finish, applied, reg_setReg_self]
    refine appliedOf_congr ?_
    rw [reg_setReg_ne (by simp; omega), took.reg _ (by simp; omega) (by simp)]
  · rw [lsCh_finish, since, tick_setReg, took.tick]
  · rw [reg_finish, groupState_lsSwitchOn free']
    rw [flag_setReg_ne _ (by simp; omega), flag_congr (took.reg _ (by simp; omega) (by simp; omega)), closed]

/-- A duty of a channel that conducts: the new one from the period boundary on, or OFF (R301). -/
theorem writes_lsDuty_change (s : State) (slot : Fin 16) (ch : Fin 48) (d : BitVec 16) (old : s.reg (K.commandedDuty ch) ≠ 0)
    (conducts : s.lsConducts ch = true) :
    Writes (.lsDuty slot ch d) s slot (0x4400 + ch) 0x15 (leBytes 2 d.toNat) (lsDutyRule ch) fun t =>
      t.reg (K.commandedDuty ch) = (d.toNat : Int) ∧
      (d = 0 → t.reg (K.lsState ch) = lsOff ∧ t.reg (K.appliedDuty ch) = 0) ∧
      (d ≠ 0 → t.reg (K.lsState ch) = s.reg (K.lsState ch)) ∧
      (d ≠ 0 → (d.toNat : Int) ≠ s.reg (K.commandedDuty ch) → s.lsBoundary ch = s.tick → t.reg (K.appliedDuty ch) = s.appliedOf ch d.toNat) ∧
      (d ≠ 0 → (d.toNat : Int) ≠ s.reg (K.commandedDuty ch) → s.tick < s.lsBoundary ch →
        t.reg (K.appliedDuty ch) = s.reg (K.appliedDuty ch) ∧ (t.lsCh ch).dcNext = some (s.lsBoundary ch)) := by
  refine writes_lsDuty (fun v took => ?_) fun _ _ h => h
  have conducts' := took.lsConducts.trans conducts
  simp only [reg_finish, lsCh_finish]
  obtain rfl | on := eq_or_ne d 0
  · have off : v.lsSetDuty ch ((0 : BitVec 16).toNat : Int) = _ := lsSetDuty_off conducts'
    rw [off]
    refine ⟨?_, fun _ => ⟨reg_setReg_self .., ?_⟩, fun h => absurd rfl h, fun h => absurd rfl h, fun h => absurd rfl h⟩
    · rw [reg_setReg_ne (by simp), reg_lsOpen_ne (by simp) (by simp), reg_setReg_self]
      rfl
    · rw [reg_setReg_ne (by simp), appliedDuty_lsOpen]
  · have nonzero : (d.toNat : Int) ≠ 0 := by simpa [← BitVec.toNat_inj] using on
    rw [lsSetDuty_change conducts' ((took.status 2).trans_ne old) nonzero, took.status 2]
    generalize asked : v.setReg (K.commandedDuty ch) d.toNat = w
    have kept {k : Nat} (duty : k ≠ K.commandedDuty ch) : w.reg k = v.reg k := asked ▸ reg_setReg_ne duty ..
    have duty : w.reg (K.commandedDuty ch) = d.toNat := asked ▸ reg_setReg_self ..
    have tick : w.tick = s.tick := by rw [← asked, tick_setReg, took.tick]
    have since : (w.lsCh ch).onAt = (s.lsCh ch).onAt := by rw [← asked, lsCh_setReg, took.lsCh]
    have boundary : w.lsBoundary ch = s.lsBoundary ch := lsBoundary_congr
      (fun k hk status own => (kept fun duty => status (by rw [duty]; simp; omega)).trans (took.reg k hk own)) tick since
    have due {k : Nat} (h : k ≠ K.appliedDuty ch) :
        (if (d.toNat : Int) ≠ s.reg (K.commandedDuty ch) then (w.lsNextDuty ch).lsDutyDue ch else w).reg k = w.reg k := by
      rw [reg_ite, reg_lsDutyDue_ne h, State.lsNextDuty, reg_setLs, ite_self]
    refine ⟨?_, fun h => absurd h on, fun _ => ?_, fun _ new now => ?_, fun _ new later => ?_⟩
    · rw [due (by simp), duty]
    · rw [due (by simp), kept (by simp), took.status 1]
    · rw [if_pos new, appliedDuty_at_boundary (by rw [boundary, now, tick]), duty]
      exact appliedOf_congr ((kept (by simp; omega)).trans (took.reg _ (by simp; omega) (by simp)))
    · rw [if_pos new, lsDutyDue_before_boundary (by rwa [boundary, tick]), State.lsNextDuty, reg_setLs, lsCh_setLs, kept (by simp),
        took.status 3, boundary]
      exact ⟨rfl, rfl⟩

theorem writes_lsDuty_tripped (s : State) (slot : Fin 16) (ch : Fin 48) (d : BitVec 16)
    (tripped : s.reg (K.lsState ch) = lsTripped ∨ s.reg (K.lsState ch) = lsLatched) :
    Writes (.lsDuty slot ch d) s slot (0x4400 + ch) 0x15 (leBytes 2 d.toNat) (lsDutyRule ch) fun t =>
      t.reg (K.commandedDuty ch) = (d.toNat : Int) ∧ t.reg (K.lsState ch) = s.reg (K.lsState ch) ∧
      t.reg (K.appliedDuty ch) = s.reg (K.appliedDuty ch) := by
  refine writes_lsDuty (fun v took => ?_) fun _ _ h => h
  have tripped' : v.reg (K.lsState ch) = lsTripped ∨ v.reg (K.lsState ch) = lsLatched := by rwa [took.status 1]
  simp only [reg_finish, reg_lsSetDuty_tripped tripped']
  refine ⟨reg_setReg_self .., ?_, ?_⟩
  · rw [reg_setReg_ne (by simp), took.status 1]
  · rw [reg_setReg_ne (by simp), took.status 3]

/-! ### LsEnable (R312, R323) -/

theorem type_lsEnable : ∀ ch : Fin 48, (descOf (0x4400 + ch) 1).map Desc.ty = some .bool := by decide +kernel

theorem putEntry_lsEnable (s : State) (ch : Fin 48) (d : Bytes) : s.putEntry (0x4400 + ch) 1 d = s.setReg (K.lsEnable ch) (wval d) :=
  putEntry_bool (by omega) (by omega) (type_lsEnable ch) s d

theorem reg_settle_lsEnable (s : State) (ch : Fin 48) (seq : Nat) (d : Bytes) (k : Nat) :
    (s.settle (0x4400 + ch) 1 seq d).reg k = if k = K.lsEnable ch then (wval d : Int) else s.reg k := by
  rw [State.settle, reg_finish, putEntry_lsEnable, reg_setReg]

/-- A channel that is enabled works: neither is it stuck on nor has it lost every segment (R300). -/
theorem works_of_writable {slot : Nat} {ch : Fin 48} (disabled : s.reg (K.lsEnable ch) = 0)
    (hw : Writable s slot (0x4400 + ch) 0x01 (leBytes 1 (1 : BitVec 8).toNat) (lsEnableRule ch)) :
    (s.lsCh ch).stuck = false ∧ s.reg (K.segmentsHealthy ch) ≠ 0 := by
  obtain ⟨-, -, -, checked⟩ := hw
  have passed := check_of_checkWrite checked
  have asked : ¬ ((decide (wval (leBytes 1 (1 : BitVec 8).toNat) = 0) || decide ((s.heard slot).reg (K.lsEnable ch) = 1)) = true) := by
    rw [show (s.heard slot).reg (K.lsEnable ch) = 0 from disabled]
    decide
  simp only [lsEnableRule, if_neg asked, firstSome_cons_eq_none, need_eq_none] at passed
  obtain ⟨-, -, -, works, -⟩ := passed
  exact (by simpa using works : ((s.heard slot).lsCh ch).stuck = false ∧ (s.heard slot).reg (K.segmentsHealthy ch) ≠ 0)

theorem effect_lsEnable_on {d : Bytes} (disabled : s.reg (K.lsEnable n) ≠ 1) (on : wval d ≠ 0) (slot seq : Nat) :
    (lsEnableRule n).effect s slot seq d = (s.settle (0x4400 + n) 0x01 seq d).lsEnableNow n := by
  simp only [lsEnableRule, if_neg on, if_neg disabled]

theorem effect_lsEnable_off {d : Bytes} (enabled : s.reg (K.lsEnable n) = 1) (off : wval d = 0) (slot seq : Nat) :
    (lsEnableRule n).effect s slot seq d = (s.settle (0x4400 + n) 0x01 seq d).lsDisable n := by
  simp only [lsEnableRule, if_pos off, if_pos enabled]

theorem writes_lsEnable_on (s : State) (slot : Fin 16) (ch : Fin 48) (disabled : s.reg (K.lsEnable ch) = 0) :
    Writes (.lsEnable slot ch 1) s slot (0x4400 + ch) 0x01 (leBytes 1 (1 : BitVec 8).toNat) (lsEnableRule ch) fun t =>
      t.reg (K.lsEnable ch) = 1 ∧ t.reg (K.commandedDuty ch) = 0 ∧ t.ls = s.ls ∧
      t.reg (K.lsState ch) = (if s.flag (K.lsFlags ch) lfFuseTrip || s.flag (K.lsFlags ch) lfLockedOut then lsLatched else lsOff) := by
  refine writes_of_loadTook rfl (fun hw u took => ?_) fun _ _ h => h
  obtain ⟨free, healthy⟩ := works_of_writable disabled hw
  have disabled' : u.reg (K.lsEnable ch) ≠ 1 := by
    rw [took.reg _ (by simp; omega), disabled]
    decide
  have ls : (u.settle (0x4400 + ch) 1 (s.regN K.nextJournalSeq) (leBytes 1 (1 : BitVec 8).toNat)).ls = s.ls := by
    rw [State.settle, ls_finish, ls_putEntry, took.ls]
  have entry := reg_settle_lsEnable u ch (s.regN K.nextJournalSeq) (leBytes 1 (1 : BitVec 8).toNat)
  rw [effect_lsEnable_on disabled' (by decide)]
  generalize u.settle (0x4400 + ch) 1 (s.regN K.nextJournalSeq) (leBytes 1 (1 : BitVec 8).toNat) = w at *
  have status (j : Nat) (hj : j < 256) : w.reg ((0x4440 + ch) * 256 + j) = s.reg ((0x4440 + ch) * 256 + j) := by
    rw [entry, if_neg (by simp; omega), took.reg _ (by simp; omega)]
  have flag (i : Nat) : (w.setReg (K.commandedDuty ch) 0).flag (K.lsFlags ch) i = s.flag (K.lsFlags ch) i :=
    (flag_setReg_ne _ (by simp) ..).trans (flag_congr (status 8 (by decide)) i)
  have contents : w.lsCh ch = s.lsCh ch := lsCh_of_ls ls ch
  unfold State.lsEnableNow
  refine ⟨?_, ?_, ls, ?_⟩
  · rw [reg_setReg_ne (by simp), reg_setReg_ne (by simp; omega), entry, if_pos rfl]
    decide
  · rw [reg_setReg_ne (by simp), reg_setReg_self]
  · simp only [reg_setReg_self, flag]
    refine if_neg ?_
    rw [lsCh_setReg, contents, free, reg_setReg_ne (by simp), status 12 (by decide)]
    simpa using healthy

theorem writes_lsEnable_off (s : State) (slot : Fin 16) (ch : Fin 48) (enabled : s.reg (K.lsEnable ch) = 1) :
    Writes (.lsEnable slot ch 0) s slot (0x4400 + ch) 0x01 (leBytes 1 (0 : BitVec 8).toNat) (lsEnableRule ch) fun t =>
      t.reg (K.lsEnable ch) = 0 ∧ t.reg (K.lsState ch) = lsDisabled ∧ t.reg (K.commandedDuty ch) = 0 ∧ t.reg (K.appliedDuty ch) = 0 := by
  refine writes_of_loadTook rfl (fun _ u took => ?_) fun _ _ h => h
  rw [effect_lsEnable_off ((took.reg _ (by simp; omega)).trans enabled) (by decide)]
  refine ⟨?_, ?_, ?_, ?_⟩ <;> rw [reg_lsDisable (by simp; omega)]
  · rw [if_neg (by simp), if_neg (by simp; omega), reg_lsOpen (by simp; omega), reg_settle_lsEnable, if_pos rfl]
    decide
  · rw [if_pos rfl]
  · rw [if_neg (by simp), if_pos rfl]
  · rw [if_neg (by simp), if_neg (by simp), appliedDuty_lsOpen]

/-! ### LsFaultClear (R312, R317, R403) -/

/-- A fault clear stops the segment test of its channel (R403). -/
def State.yieldTest (s : State) (n : Nat) : State :=
  match s.runningAct actSegmentTest n with
  | some a => s.yieldAct a
  | none => s

theorem reg_yieldTest (flags : k ≠ K.lsFlags n) (arbiter : ¬ ArbiterEntry k) (s : State) : (s.yieldTest n).reg k = s.reg k := by
  unfold State.yieldTest
  split
  · next a running =>
    obtain ⟨code, unit⟩ := runningAct_some running
    have counter : k ≠ K.yields := by
      rintro rfl
      exact arbiter (.inl (by decide))
    rw [State.yieldAct, reg_bump_ne counter, reg_endAct_segmentTest code (by rwa [unit]) arbiter]
  · rfl

theorem flag_yieldTest {ch : Fin 48} {i : Nat} (h : i ≠ 14) (s : State) :
    (s.yieldTest ch).flag (K.lsFlags ch) i = s.flag (K.lsFlags ch) i := by
  unfold State.yieldTest
  split
  · next a running =>
    obtain ⟨code, unit⟩ := runningAct_some running
    rw [State.yieldAct, flag_congr (reg_bump_ne (by simp; omega) _), flag_endAct_segmentTest code unit, if_neg h]
  · rfl

/-- What a fault clear does to a channel that does not wait for a restart: its latches fall, and a LATCHED one is OFF or switches on
(R312, R317). -/
def State.lsFree (s : State) (n : Nat) : State :=
  let s := (s.setFlag (K.lsFlags n) lfLockedOut false).setFlag (K.lsFlags n) lfFuseTrip false
  if s.reg (K.lsState n) = lsLatched then
    if s.reg (K.commandedDuty n) = (0 : Int) then s.setReg (K.lsState n) lsOff
    else if s.flag (K.lsFlags n) lfThermal then
      ((s.setLs n { s.lsCh n with seenOff := false }).setReg (K.tripCause n) (tcThermal : Nat)).setReg (K.lsState n) lsTripped
    else s.lsSwitchOn n
  else s

theorem effect_lsFaultClear (n : Nat) (s : State) (slot seq : Nat) (d : Bytes) : (lsFaultClearRule n).effect s slot seq d =
    (if ((s.yieldTest n).setReg (K.retriesUsed n) 0).reg (K.lsState n) = lsTripped then (s.yieldTest n).setReg (K.retriesUsed n) 0
      else ((s.yieldTest n).setReg (K.retriesUsed n) 0).lsFree n).finish seq .done := rfl

theorem flag_lsFree {i : Nat} (h : i = lfLockedOut ∨ i = lfFuseTrip) (s : State) (n : Nat) :
    (s.lsFree n).flag (K.lsFlags n) i = false := by
  unfold State.lsFree
  extract_lets u
  have clear : u.flag (K.lsFlags n) i = false := by
    obtain rfl | rfl := h
    · rw [flag_setFlag_ne (by decide), flag_setFlag]
    · exact flag_setFlag ..
  have kept : i ∉ [lfShort, lfOverload, lfShed] := by
    obtain rfl | rfl := h <;> decide
  have waits (x : Ls) : (((u.setLs n x).setReg (K.tripCause n) (tcThermal : Nat)).setReg (K.lsState n) lsTripped).flag (K.lsFlags n) i =
      u.flag (K.lsFlags n) i := by
    rw [flag_setReg_ne _ (by simp), flag_setReg_ne _ (by simp)]
    rfl
  simp only [flag_ite, flag_setReg_ne u (show K.lsFlags n ≠ K.lsState n by simp), waits, flag_lsSwitchOn kept, clear, ite_self]

theorem lsFree_of_latched (latched : s.reg (K.lsState n) = lsLatched) :
    (s.reg (K.commandedDuty n) = 0 → (s.lsFree n).reg (K.lsState n) = lsOff) ∧
    (s.reg (K.commandedDuty n) ≠ 0 → s.flag (K.lsFlags n) lfThermal = false → s.safeOff = false →
      (s.lsFree n).reg (K.lsState n) = (if s.reg (K.inrushTime n) = 0 then lsOn else lsInrush)) := by
  unfold State.lsFree
  extract_lets u
  have kept {k : Nat} (flags : k ≠ K.lsFlags n) : u.reg k = s.reg k := by rw [reg_setFlag_ne flags, reg_setFlag_ne flags]
  rw [if_pos ((kept (by simp)).trans latched), kept (show K.commandedDuty n ≠ K.lsFlags n by simp)]
  refine ⟨fun zero => ?_, fun asked cool free => ?_⟩
  · rw [if_pos zero, reg_setReg_self]
  · have cool' : u.flag (K.lsFlags n) lfThermal = false := by
      rw [flag_setFlag_ne (by decide), flag_setFlag_ne (by decide), cool]
    have free' : u.safeOff = false := (flag_congr (kept (by simp; omega)) 5).trans free
    rw [if_neg asked, if_neg (by simp [cool']), (lsSwitchOn_shows free' n).1, kept (by simp; omega)]

theorem retriesUsed_lsFree (s : State) (ch : Fin 48) : (s.lsFree ch).reg (K.retriesUsed ch) = s.reg (K.retriesUsed ch) := by
  have apart : K.retriesUsed ch ≠ K.lsState ch ∧ K.retriesUsed ch ≠ K.tripCause ch ∧ K.retriesUsed ch ≠ K.lsFlags ch ∧
      K.retriesUsed ch ≠ K.appliedDuty ch ∧ K.retriesUsed ch ≠ K.groupState (lsGroup ch) := by
    simp
    omega
  obtain ⟨state, cause, flags, applied, group⟩ := apart
  simp only [State.lsFree, reg_ite, reg_setReg_ne state, reg_setReg_ne cause, reg_setLs, reg_lsSwitchOn_ne state applied group flags,
    reg_setFlag_ne flags, ite_self]

theorem writes_lsFaultClear (s : State) (slot : Fin 16) (ch : Fin 48) (v : BitVec 8) :
    Writes (.lsFaultClear slot ch v) s slot (0x4400 + ch) 0x16 (leBytes 1 v.toNat) (lsFaultClearRule ch) fun t =>
      t.reg (K.retriesUsed ch) = 0 ∧
      (s.reg (K.lsState ch) = lsTripped → t.reg (K.lsState ch) = lsTripped) ∧
      (s.reg (K.lsState ch) = lsLatched → t.flag (K.lsFlags ch) lfLockedOut = false ∧ t.flag (K.lsFlags ch) lfFuseTrip = false ∧
        (s.reg (K.commandedDuty ch) = 0 → t.reg (K.lsState ch) = lsOff) ∧
        (s.reg (K.commandedDuty ch) ≠ 0 → s.flag (K.lsFlags ch) lfThermal = false → s.safeOff = false →
          t.reg (K.lsState ch) = (if s.reg (K.inrushTime ch) = 0 then lsOn else lsInrush))) := by
  refine writes_of_loadTook rfl (fun _ u took => ?_) fun _ _ h => h
  rw [effect_lsFaultClear]
  simp only [reg_finish, flag_finish]
  generalize cleared : (u.yieldTest ch).setReg (K.retriesUsed ch) 0 = w
  have kept {k : Nat} (chapters : key 0x2000 0 ≤ k) (flags : k ≠ K.lsFlags ch) (arbiter : ¬ ArbiterEntry k)
      (retries : k ≠ K.retriesUsed ch) : w.reg k = s.reg k := by
    rw [← cleared, reg_setReg_ne retries, reg_yieldTest flags arbiter, took.reg k chapters]
  have used : w.reg (K.retriesUsed ch) = 0 := cleared ▸ reg_setReg_self ..
  have state : w.reg (K.lsState ch) = s.reg (K.lsState ch) :=
    kept (by simp; omega) (by simp) (not_arbiterEntry_status ch (by decide)) (by simp)
  have duty : w.reg (K.commandedDuty ch) = s.reg (K.commandedDuty ch) :=
    kept (by simp; omega) (by simp) (not_arbiterEntry_status ch (by decide)) (by simp)
  have thermal : w.flag (K.lsFlags ch) lfThermal = s.flag (K.lsFlags ch) lfThermal := by
    rw [← cleared, flag_setReg_ne _ (by simp), flag_yieldTest (by decide)]
    exact flag_congr (took.reg _ (by simp; omega)) _
  have time : w.reg (K.inrushTime ch) = s.reg (K.inrushTime ch) :=
    kept (by simp; omega) (by simp; omega) (by unfold ArbiterEntry; simp; omega) (by simp)
  have safe : w.safeOff = s.safeOff := flag_congr (kept (by decide) (by simp; omega) (by unfold ArbiterEntry; decide) (by simp; omega)) 5
  refine ⟨?_, fun tripped => ?_, fun latched => ?_⟩
  · rw [reg_ite, retriesUsed_lsFree, used, ite_self]
  · rw [if_pos (state.trans tripped), state, tripped]
  · have latched' := state.trans latched
    obtain ⟨off, on⟩ := lsFree_of_latched latched'
    rw [duty] at off on
    rw [thermal, safe, time] at on
    rw [if_neg (by rw [latched']; decide)]
    exact ⟨flag_lsFree (.inl rfl) .., flag_lsFree (.inr rfl) .., off, on⟩

/-! ### GroupReconnect (R318, R325) -/

theorem writes_groupReconnect (s : State) (slot : Fin 16) (g : Fin 4) (v : BitVec 8) (opened : s.flag (K.groupFlags g) 1 = true)
    (free : s.safeOff = false) :
    Writes (.groupReconnect slot g v) s slot (0x4480 + g) 0x06 (leBytes 1 v.toNat) (groupReconnectRule g) fun t =>
      t.flag (K.groupFlags g) 1 = false ∧ t.reg (K.groupState g) = 0 ∧ t.ls = s.ls := by
  refine writes_of_loadTook rfl (fun _ u took => ?_) fun _ _ h => h
  have opened' : u.flag (K.groupFlags g) 1 = true := (flag_congr (took.reg _ (by simp; omega)) 1).trans opened
  have free' : (u.setFlag (K.groupFlags g) 1 false).safeOff = false := by
    rw [State.safeOff, flag_congr (reg_setFlag_ne (by simp; omega) ..), flag_congr (took.reg _ (by decide))]
    exact free
  have effect (seq : Nat) (d : Bytes) : (groupReconnectRule g).effect u slot seq d =
      ((u.setFlag (K.groupFlags g) 1 false).setReg (K.groupState g) 0).finish seq .done := by
    simp only [groupReconnectRule, commandRule, opened', if_true, free', Bool.false_eq_true, if_false]
  rw [effect]
  refine ⟨?_, ?_, ?_⟩
  · rw [flag_finish, flag_setReg_ne _ (by simp), flag_setFlag]
  · rw [reg_finish, reg_setReg_self]
  · rw [ls_finish]
    exact took.ls

/-- Settles O36: each command by the effect of its rule on the state that its acceptance leaves. -/
theorem loadChannelsTakeCommands : Obligations.LoadChannelsTakeCommands := by
  unfold Obligations.LoadChannelsTakeCommands
  exact ⟨writes_lsDuty_on, writes_lsDuty_change, writes_lsDuty_tripped, writes_lsEnable_on, writes_lsEnable_off, writes_lsFaultClear,
    writes_groupReconnect⟩

end Sys2Proof.Machine
end

section
/-!
The shared operations of the sensing inputs: what each does to an input and its entries, and what it leaves (O39, O40).
-/
namespace Sys2Proof.Machine
open Sys2Proof

variable {s t : State} {F : List Part} {n k : Nat}

/-! ### What is outside a change of the inputs -/

@[simp] theorem outside_with_ains (h : .ains ∈ F) (s : State) (x) : ({ s with ains := x } : State).outside F = s.outside F := by
  simp only [State.outside, State.merge, h, if_true]

@[simp] theorem outside_with_fins (h : .fins ∈ F) (s : State) (x) : ({ s with fins := x } : State).outside F = s.outside F := by
  simp only [State.outside, State.merge, h, if_true]

@[simp] theorem outside_with_acus (h : .acus ∈ F) (s : State) (x) : ({ s with acus := x } : State).outside F = s.outside F := by
  simp only [State.outside, State.merge, h, if_true]

@[simp] theorem outside_with_imu (h : .imu ∈ F) (s : State) (x) : ({ s with imu := x } : State).outside F = s.outside F := by
  simp only [State.outside, State.merge, h, if_true]

@[simp] theorem outside_setAin (hains : .ains ∈ F) (s : State) (n : Nat) (x : Ain) : (s.setAin n x).outside F = s.outside F :=
  outside_with_ains hains _ _

@[simp] theorem outside_setFin (hfins : .fins ∈ F) (s : State) (n : Nat) (x : FinIn) : (s.setFin n x).outside F = s.outside F :=
  outside_with_fins hfins _ _

@[simp] theorem outside_setAcu (hacus : .acus ∈ F) (s : State) (n : Nat) (x : Acu) : (s.setAcu n x).outside F = s.outside F :=
  outside_with_acus hacus _ _

section
variable (hregs : .regs ∈ F) (hbook : .book ∈ F)
include hregs hbook

@[simp] theorem outside_inputFault (s : State) (c : InClass) (n bit : Nat) : (s.inputFault c n bit).outside F = s.outside F := by
  simp [State.inputFault, State.eventKey, *]

@[simp] theorem outside_spareFlag (s : State) (bit : Nat) : (s.spareFlag bit).outside F = s.outside F := by
  simp [State.spareFlag, State.eventKey, *]

@[simp] theorem outside_supplyFaults (s : State) (g : Nat) : (s.supplyFaults g).outside F = s.outside F := by
  simp [State.supplyFaults, *]

@[simp] theorem outside_converterFail (s : State) (c : Nat) : (s.converterFail c).outside F = s.outside F := by
  simp [State.converterFail, State.eventKey, *]

end

section
variable (h : t.outside F = s.outside F)
include h

theorem cues_of_outside (hF : .cues ∉ F) : t.cues = s.cues := (congrArg State.cues (eq_merge_of_outside h)).trans (if_neg hF)
theorem ains_of_outside (hF : .ains ∉ F) : t.ains = s.ains := (congrArg State.ains (eq_merge_of_outside h)).trans (if_neg hF)
theorem fins_of_outside (hF : .fins ∉ F) : t.fins = s.fins := (congrArg State.fins (eq_merge_of_outside h)).trans (if_neg hF)
theorem acus_of_outside (hF : .acus ∉ F) : t.acus = s.acus := (congrArg State.acus (eq_merge_of_outside h)).trans (if_neg hF)
theorem brgs_of_outside (hF : .brgs ∉ F) : t.brgs = s.brgs := (congrArg State.brgs (eq_merge_of_outside h)).trans (if_neg hF)
theorem imu_of_outside (hF : .imu ∉ F) : t.imu = s.imu := (congrArg State.imu (eq_merge_of_outside h)).trans (if_neg hF)

theorem supplies_of_outside (hF : .supplies ∉ F) : t.supplies = s.supplies :=
  (congrArg State.supplies (eq_merge_of_outside h)).trans (if_neg hF)

theorem fin_of_outside (hF : .fins ∉ F) (n : Nat) : t.fin n = s.fin n := congrArg (fun x => x.get FinIn.init n) (fins_of_outside h hF)

end

@[simp] theorem acu_setReg (s : State) (k : Nat) (v : Int) (n : Nat) : (s.setReg k v).acu n = s.acu n := rfl
@[simp] theorem acu_setFlag (s : State) (k i : Nat) (b : Bool) (n : Nat) : (s.setFlag k i b).acu n = s.acu n := rfl
@[simp] theorem acu_bump (s : State) (k n : Nat) : (s.bump k).acu n = s.acu n := rfl

@[simp] theorem acu_ite (c : Prop) [Decidable c] (s t : State) (n : Nat) :
    (if c then s else t).acu n = if c then s.acu n else t.acu n := apply_ite (State.acu · n) c s t

theorem tick_ite (c : Prop) [Decidable c] (s t : State) : (if c then s else t).tick = if c then s.tick else t.tick :=
  apply_ite State.tick c s t

/-! ### Input faults (R355) -/

theorem reg_inputFault_ne {c : InClass} (h : k ≠ c.flags n) (s : State) (bit : Nat) : (s.inputFault c n bit).reg k = s.reg k := by
  rw [State.inputFault, reg_ite, reg_eventKey, reg_setFlag_ne h, ite_self]

/-- A fault sets its own bit; any other bit of an entry is as it was. -/
theorem flag_inputFault (s : State) (c : InClass) (n bit k i : Nat) :
    (s.inputFault c n bit).flag k i = (decide (k = c.flags n ∧ i = bit) || s.flag k i) := by
  rw [State.inputFault, flag_ite, flag_eventKey]
  by_cases own : k = c.flags n
  · subst own
    by_cases same : i = bit
    · subst same
      simp
    · simp [flag_setFlag_ne same, same]
  · simp [flag_congr (reg_setFlag_ne own s bit true), own]

@[simp] theorem flag_inputFault_self (s : State) (c : InClass) (n bit : Nat) : (s.inputFault c n bit).flag (c.flags n) bit = true := by
  simp [flag_inputFault]

/-- A fault that stands, stands after any other fault. -/
theorem flag_inputFault_of_flag {i : Nat} (h : s.flag k i = true) (c : InClass) (n bit : Nat) : (s.inputFault c n bit).flag k i = true := by
  simp [flag_inputFault, h]

/-- A set bit among 0-7 is a fault. -/
theorem faultBits_of_flag {i : Nat} (h : s.flag k i = true) (hi : i < 8) : faultBits (s.reg k) = true := by
  have set : (s.reg k).toNat.testBit i = true := h
  have low : ((s.reg k).toNat % 2 ^ 8).testBit i = true := by rw [Nat.testBit_mod_two_pow, set, decide_eq_true hi, Bool.and_self]
  have rest : (s.reg k).toNat % 256 ≠ 0 := fun zero => by simp [show (2 ^ 8 : Nat) = 256 from rfl, zero] at low
  simp only [faultBits, bne_iff_ne, ne_eq]
  omega

/-- The flag entries of the analog, frequency and acoustic inputs stand before the bridges' entries. -/
def InputFlagKey (k : Nat) : Prop := k < key 0x4880 0

theorem ne_of_inputFlagKey {j : Nat} (h : InputFlagKey j) (hk : key 0x4880 0 ≤ k) : k ≠ j := (Nat.lt_of_lt_of_le h hk).ne'

theorem inputFlagKey_of_mem_supplyInputs {g : Nat} {i : InClass × Nat} (hi : i ∈ supplyInputs g) (hg : g < 6) :
    InputFlagKey (i.1.flags i.2) := by
  unfold supplyInputs at hi
  split_ifs at hi
  all_goals
    obtain ⟨j, hj, rfl⟩ := List.mem_map.1 hi
    have := List.mem_range.1 hj
    simp [InputFlagKey, InClass.flags]
    omega

theorem inputFlagKey_of_mem_converterInputs {c : Nat} {i : InClass × Nat} (hi : i ∈ converterInputs c) (hc : c < 8) :
    InputFlagKey (i.1.flags i.2) := by
  unfold converterInputs at hi
  split_ifs at hi
  all_goals
    obtain ⟨j, hj, rfl⟩ := List.mem_map.1 hi
    have := List.mem_range.1 hj
    simp [InputFlagKey, InClass.flags]
    omega

/-! ### Sensor supplies (R353) -/

theorem reg_supplyFaults {g : Nat} (hg : g < 6) (hk : key 0x4880 0 ≤ k) (s : State) : (s.supplyFaults g).reg k = s.reg k :=
  reg_foldl (fun u _ hi => reg_inputFault_ne (ne_of_inputFlagKey (inputFlagKey_of_mem_supplyInputs hi hg) hk) u ifSupply) s

theorem flag_supplyFaults {g : Nat} {i : InClass × Nat} (hi : i ∈ supplyInputs g) (s : State) :
    (s.supplyFaults g).flag (i.1.flags i.2) ifSupply = true :=
  foldl_reaches (f := fun (u : State) (j : InClass × Nat) => u.inputFault j.1 j.2 ifSupply) (P := fun _ => True)
    (Q := fun u => u.flag (i.1.flags i.2) ifSupply = true) (fun _ _ _ _ => trivial)
    (fun u _ => flag_inputFault_self u i.1 i.2 ifSupply) (fun _ j _ h => flag_inputFault_of_flag h j.1 j.2 ifSupply) hi trivial

@[simp] theorem supplies_supplyFaults (s : State) (g : Nat) : (s.supplyFaults g).supplies = s.supplies :=
  supplies_of_outside (F := [.regs, .book]) (outside_supplyFaults (by decide) (by decide) ..) (by decide)

/-! ### Converters (R354) -/

/-- The understudy takes over from a converter, and shows it at each of its inputs (R354, R391). -/
def State.converterTakeOver (s : State) (c : Nat) : State :=
  let s := (s.setReg K.understudyConverterUse (c : Nat)).eventKey .sensing c K.understudyConverterUse
  let s := (converterInputs c).foldl (fun (s : State) (i : InClass × Nat) => s.setFlag (i.1.flags i.2) ifUnderstudy true) s
  (s.spareFlag 4).eventKey .maintenance 0 K.understudyConverterUse

theorem converterTaken_setFlag (s : State) (c : Nat) (b : Bool) : (s.setFlag K.converterFailures c b).converterTaken = s.converterTaken := by
  rw [State.converterTaken, reg_setFlag_ne (by simp)]
  rfl

theorem converterFail_free {c : Nat} (works : s.flag K.converterFailures c = false) (free : s.converterTaken = false) :
    s.converterFail c = (s.setFlag K.converterFailures c true).converterTakeOver c := by
  simp only [State.converterFail, works, converterTaken_setFlag, free, Bool.false_eq_true, if_false, Bool.not_false, if_true, State.converterTakeOver]

/-- A take-over changes the use of the understudy, the spares' flags, and bit UNDERSTUDY of the converter's inputs. -/
theorem reg_converterTakeOver {c : Nat} (hc : c < 8) (hk : key 0x4880 0 ≤ k) (spares : k ≠ K.spareFlags) (s : State) :
    (s.converterTakeOver c).reg k = if k = K.understudyConverterUse then (c : Int) else s.reg k := by
  rw [State.converterTakeOver, reg_eventKey, reg_spareFlag _ spares, reg_foldl, reg_eventKey, reg_setReg]
  exact fun u i hi => reg_setFlag_ne (ne_of_inputFlagKey (inputFlagKey_of_mem_converterInputs hi hc) hk) u ifUnderstudy true

theorem flag_understudy_converterTakeOver {c : Nat} (hc : c < 8) {i : InClass × Nat} (hi : i ∈ converterInputs c) (s : State) :
    (s.converterTakeOver c).flag (i.1.flags i.2) ifUnderstudy = true := by
  have apart : i.1.flags i.2 ≠ K.spareFlags := by
    have := inputFlagKey_of_mem_converterInputs hi hc
    simp [InputFlagKey] at this ⊢
    omega
  rw [State.converterTakeOver, flag_eventKey, flag_congr (reg_spareFlag _ apart _)]
  refine foldl_reaches (f := fun (u : State) (j : InClass × Nat) => u.setFlag (j.1.flags j.2) ifUnderstudy true) (P := fun _ => True)
    (Q := fun u => u.flag (i.1.flags i.2) ifUnderstudy = true) (fun _ _ _ _ => trivial)
    (fun u _ => flag_setFlag u (i.1.flags i.2) ifUnderstudy true) (fun u j _ h => ?_) hi trivial
  by_cases same : i.1.flags i.2 = j.1.flags j.2
  · rw [same, flag_setFlag]
  · rwa [flag_congr (reg_setFlag_ne same u _ true)]

/-- Of an input's flags a take-over changes bit UNDERSTUDY alone. -/
theorem flag_converterTakeOver {c i : Nat} (hi : i ≠ ifUnderstudy) (use : k ≠ K.understudyConverterUse) (spares : k ≠ K.spareFlags)
    (s : State) : (s.converterTakeOver c).flag k i = s.flag k i := by
  rw [State.converterTakeOver, flag_eventKey, flag_congr (reg_spareFlag _ spares _)]
  refine List.foldlRecOn (motive := fun u : State => u.flag k i = s.flag k i) _ _ ?_ fun u h j _ => ?_
  · rw [flag_eventKey, flag_setReg_ne _ use]
  · by_cases same : k = j.1.flags j.2
    · rwa [same, flag_setFlag_ne hi, ← same]
    · rwa [flag_congr (reg_setFlag_ne same u _ true)]

/-- However its inputs go on, a converter that fails shows it (R354). -/
theorem flag_converterFail {c : Nat} (hc : c < 8) (s : State) : (s.converterFail c).flag K.converterFailures c = true := by
  cases failed : s.flag K.converterFailures c with
  | true => rwa [State.converterFail, if_pos failed]
  | false =>
    cases taken : s.converterTaken with
    | false =>
      rw [converterFail_free failed taken, flag_congr (reg_converterTakeOver hc (by simp) (by simp) _)]
      exact flag_setFlag ..
    | true =>
      simp only [State.converterFail, failed, converterTaken_setFlag, taken, Bool.false_eq_true, if_false, Bool.not_true]
      have kept (u : State) (i : InClass × Nat) (hi : i ∈ converterInputs c) :
          (u.inputFault i.1 i.2 ifConverter).reg K.converterFailures = u.reg K.converterFailures :=
        reg_inputFault_ne (ne_of_inputFlagKey (inputFlagKey_of_mem_converterInputs hi hc) (by decide)) u _
      rw [flag_congr (reg_foldl kept _), flag_setFlag]

end Sys2Proof.Machine
end

section
/-!
Samples and edges of the sensing inputs (O39).
-/
namespace Sys2Proof.Machine
open Sys2Proof

/-! ### Analog inputs (R333) -/

@[simp] theorem ain_setReg (s : State) (k : Nat) (v : Int) (n : Nat) : (s.setReg k v).ain n = s.ain n := rfl

/-- The value of an analog input's filter after a sample (R333). -/
def State.ainFiltered (s : State) (n : Nat) (x : Int) : Int :=
  match (s.ain n).y with
  | none => x
  | some y => if s.reg (K.ainFilter n) = 0 then x else y + ainFactor (s.reg (K.ainFilter n)) * (x - y) / 65536

theorem ainFiltered_unfiltered {s : State} {n : Nat} (h : (s.ain n).y = none ∨ s.reg (K.ainFilter n) = 0) (x : Int) :
    s.ainFiltered n x = x := by
  obtain first | off := h
  · simp only [State.ainFiltered, first]
  · simp only [State.ainFiltered, off, if_true]
    split <;> rfl

theorem ainFiltered_next {s : State} {n : Nat} {y : Int} (old : (s.ain n).y = some y) (on : s.reg (K.ainFilter n) ≠ 0) (x : Int) :
    s.ainFiltered n x = y + ainFactor (s.reg (K.ainFilter n)) * (x - y) / 65536 := by
  simp only [State.ainFiltered, old, if_neg on]

/-- A sample of an enabled input: the filter's value is kept and shown, in its native unit and scaled. -/
theorem exec_ainSample {s : State} {n : Fin 32} (on : s.reg (K.ainEnable n) = 1) (x : Int) :
    let y := s.ainFiltered n (clampI 0 (ainFull (s.reg (K.ainMode n))) x)
    ∃ outFrom lastOut, exec (.ainSample n x) s =
      .next (((s.setAin n ⟨some y, s.tick, outFrom, lastOut⟩).setReg (K.ainNative n) y).setReg (K.ainValue n) (s.ainScaled n y)) :=
  ⟨_, _, if_neg (not_not.2 on)⟩

theorem runs_ainSample (s : State) (n : Fin 32) (x : Int) (on : s.reg (K.ainEnable n) = 1) :
    Runs (.ainSample n x) s fun t =>
      ((s.ain n).y = none ∨ s.reg (K.ainFilter n) = 0 → t.reg (K.ainNative n) = clampI 0 (ainFull (s.reg (K.ainMode n))) x) ∧
      (∀ y, (s.ain n).y = some y → s.reg (K.ainFilter n) ≠ 0 → t.reg (K.ainNative n) =
        y + ainFactor (s.reg (K.ainFilter n)) * (clampI 0 (ainFull (s.reg (K.ainMode n))) x - y) / 65536) ∧
      (t.ain n).y = some (t.reg (K.ainNative n)) ∧ t.reg (K.ainValue n) = s.ainScaled n (t.reg (K.ainNative n)) ∧
      (t.ain n).lastTick = s.tick := by
  obtain ⟨outFrom, lastOut, ran⟩ := exec_ainSample on x
  refine ⟨_, ran, ?_⟩
  have apart : K.ainNative n ≠ K.ainValue n := by simp
  simp only [reg_setReg_ne apart, reg_setReg_self, ain_setReg, ain_setAin, and_true]
  exact ⟨fun h => ainFiltered_unfiltered h _, fun y old filtered => ainFiltered_next old filtered _⟩

/-! ### Edges of a frequency input (R337-R342) -/

section
variable {F : List Part} {s : State} {n : Nat}

/-- A wheel's edge and a shaft's change the axes and their flags (R98, R102, R339). -/
@[simp] theorem outside_wheelEdge (hregs : .regs ∈ F) (haxes : .axes ∈ F) (s : State) (n at_ : Nat) (e : EdgeInfo) (sense : Int) :
    (s.wheelEdge n at_ e sense).outside F = s.outside F := by
  simp [State.wheelEdge, *]

@[simp] theorem outside_shaftEdge (hregs : .regs ∈ F) (haxes : .axes ∈ F) (s : State) (n at_ : Nat) (e : EdgeInfo) (sense : Int)
    (k : Nat) : (s.shaftEdge n at_ e sense k).outside F = s.outside F := by
  simp [State.shaftEdge, *]

theorem reg_wheelEdge {k : Nat} (hk : ∀ j < 16, k ≠ K.axisFlags j) (s : State) (n at_ : Nat) (e : EdgeInfo) (sense : Int) :
    (s.wheelEdge n at_ e sense).reg k = s.reg k := by
  refine reg_foldl (fun u j hj => ?_) s
  have apart := hk j (List.mem_range.1 hj)
  simp only [reg_ite, reg_setFlag_ne apart, reg_setAxis, ite_self]

theorem reg_shaftEdge {k j : Nat} (hk : k ≠ K.axisFlags j) (s : State) (n at_ : Nat) (e : EdgeInfo) (sense : Int) :
    (s.shaftEdge n at_ e sense j).reg k = s.reg k := by
  simp only [State.shaftEdge, reg_ite, reg_setFlag_ne hk, reg_setAxis, ite_self]

/-- An edge ends an interval below 5 us, that is above 200 kHz (R342). -/
def EdgeInfo.fast (e : EdgeInfo) : Bool :=
  match e.iv with
  | some i => decide (i < 500)
  | none => false

/-- The contents of an input after an edge that counts (R337, R338). -/
def State.finAfterEdge (s : State) (n at_ : Nat) (e : EdgeInfo) : FinIn :=
  let x := s.fin n
  { x with
      lastEdge := some at_, edges := if e.index then 0 else x.edges + 1, indexed := x.indexed || e.index, pos := e.new,
      intervals := match e.iv with
        | some i => (i :: x.intervals).take 64
        | none => x.intervals
      overAt := if e.fast then some s.tick else x.overAt }

/-- An edge is counted and stamped, and ends NO_EDGES (R337, R340). -/
def State.finStamp (s : State) (n at_ : Nat) (counted : Int) : State :=
  let s := s.setReg (K.finCount n) (clampI (-(2 ^ 63)) (2 ^ 63 - 1) (s.reg (K.finCount n) + counted))
  (s.setReg (K.lastEdgeTime n) (s.timeOfTick at_ : Nat)).setFlag (K.finFlags n) ifNoEdges false

/-- An edge above 200 kHz and a turn with a wrong number of teeth show as faults (R338, R342). -/
def State.finJudge (s : State) (n : Nat) (e : EdgeInfo) : State :=
  let s := if e.fast then s.inputFault .fin n ifRange else s
  match e.turnOk with
  | some true => s.setFlag (K.finFlags n) ifSignal false
  | some false => s.inputFault .fin n ifSignal
  | none => s

/-- An edge reaches the axes that its input serves (R339, R338). -/
def State.finServe (s : State) (n at_ : Nat) (e : EdgeInfo) (sense : Int) : State :=
  if s.reg (K.finRole n) = 1 then s.wheelEdge n at_ e sense
  else if s.reg (K.finRole n) = 2 then (List.range 16).foldl (fun (s : State) (k : Nat) => s.shaftEdge n at_ e sense k) s
  else s

theorem finAccept_eq (s : State) (n at_ : Nat) (dir : Int) :
    s.finAccept n at_ dir =
      let sense := s.finSense n dir
      let e := s.edgeInfo n at_ sense
      (((s.setFin n (s.finAfterEdge n at_ e)).finStamp n at_ (if 2 ≤ s.reg (K.finMode n) then dir else sense)).finJudge n e).finServe n at_
        e sense := rfl

theorem iv_edgeInfo (s : State) (n at_ : Nat) (sense : Int) : (s.edgeInfo n at_ sense).iv = (s.fin n).lastEdge.map (at_ - ·) := by
  simp only [State.edgeInfo]
  split_ifs <;> rfl

theorem intervals_finAfterEdge {e : EdgeInfo} {i : Nat} (h : e.iv = some i) (s : State) (n at_ : Nat) :
    (s.finAfterEdge n at_ e).intervals = (i :: (s.fin n).intervals).take 64 := by
  simp only [State.finAfterEdge, h]

theorem reg_finServe {k : Nat} (hk : ∀ j < 16, k ≠ K.axisFlags j) (s : State) (n at_ : Nat) (e : EdgeInfo) (sense : Int) :
    (s.finServe n at_ e sense).reg k = s.reg k := by
  rw [State.finServe, reg_ite, reg_ite, reg_wheelEdge hk, reg_foldl, ite_self, ite_self]
  exact fun u j hj => reg_shaftEdge (hk j (List.mem_range.1 hj)) u n at_ e sense

@[simp] theorem outside_finServe (hregs : .regs ∈ F) (haxes : .axes ∈ F) (s : State) (n at_ : Nat) (e : EdgeInfo) (sense : Int) :
    (s.finServe n at_ e sense).outside F = s.outside F := by
  simp [State.finServe, *]

theorem reg_finJudge {k : Nat} (hk : k ≠ K.finFlags n) (s : State) (e : EdgeInfo) : (s.finJudge n e).reg k = s.reg k := by
  unfold State.finJudge
  rcases e.turnOk with _ | _ | _ <;> simp only [reg_setFlag_ne hk, reg_inputFault_ne (c := .fin) hk, reg_ite, ite_self]

theorem flag_finJudge {i : Nat} (range : i ≠ ifRange) (signal : i ≠ ifSignal) (s : State) (e : EdgeInfo) :
    (s.finJudge n e).flag (K.finFlags n) i = s.flag (K.finFlags n) i := by
  unfold State.finJudge
  rcases e.turnOk with _ | _ | _ <;> simp [flag_setFlag_ne signal, flag_inputFault, flag_ite, range, signal]

@[simp] theorem outside_finJudge (hregs : .regs ∈ F) (hbook : .book ∈ F) (s : State) (n : Nat) (e : EdgeInfo) :
    (s.finJudge n e).outside F = s.outside F := by
  unfold State.finJudge
  rcases e.turnOk with _ | _ | _ <;> simp [*]

@[simp] theorem outside_finAccept (hregs : .regs ∈ F) (hbook : .book ∈ F) (haxes : .axes ∈ F) (hfins : .fins ∈ F) (s : State)
    (n at_ : Nat) (dir : Int) : (s.finAccept n at_ dir).outside F = s.outside F := by
  simp [finAccept_eq, State.finStamp, *]

/-- An accepted edge counts, is stamped, and ends an interval (R337). -/
theorem finAccept_shows (hn : n < 16) (s : State) (at_ : Nat) (dir : Int) :
    (s.finAccept n at_ dir).reg (K.finCount n) = clampI (-(2 ^ 63)) (2 ^ 63 - 1)
      (s.reg (K.finCount n) + (if 2 ≤ s.reg (K.finMode n) then dir else s.finSense n dir)) ∧
    (s.finAccept n at_ dir).reg (K.lastEdgeTime n) = (s.timeOfTick at_ : Nat) ∧
    ((s.finAccept n at_ dir).fin n).lastEdge = some at_ ∧
    (s.finAccept n at_ dir).flag (K.finFlags n) ifNoEdges = false ∧
    ∀ t0, (s.fin n).lastEdge = some t0 → ((s.finAccept n at_ dir).fin n).intervals = ((at_ - t0) :: (s.fin n).intervals).take 64 := by
  rw [finAccept_eq]
  extract_lets sense e
  have axes (k : Nat) (hk : k / 256 = 0x4850 + n) : ∀ j < 16, k ≠ K.axisFlags j := fun j hj => by simp; omega
  have contents {u : State} (v : Int) :
      (((((u.setFin n (s.finAfterEdge n at_ e)).finStamp n at_ v).finJudge n e).finServe n at_ e sense).fin n) = s.finAfterEdge n at_ e := by
    rw [fin_of_outside (F := [.regs, .axes]) (outside_finServe (by decide) (by decide) ..) (by decide),
      fin_of_outside (F := [.regs, .book]) (outside_finJudge (by decide) (by decide) ..) (by decide)]
    exact fin_setFin ..
  refine ⟨?_, ?_, ?_, ?_, fun t0 old => ?_⟩
  · rw [reg_finServe (axes _ (by simp; omega)), reg_finJudge (by simp), State.finStamp, reg_setFlag_ne (by simp), reg_setReg_ne (by simp),
      reg_setReg_self, reg_setFin]
  · rw [reg_finServe (axes _ (by simp; omega)), reg_finJudge (by simp), State.finStamp, reg_setFlag_ne (by simp), reg_setReg_self]
    rfl
  · rw [contents]
    rfl
  · rw [flag_congr (reg_finServe (axes _ (by simp; omega)) ..), flag_finJudge (by decide) (by decide), State.finStamp, flag_setFlag]
  · rw [contents, intervals_finAfterEdge (by rw [iv_edgeInfo, old]; rfl)]

/-- The previous peak of a VR signal follows the level of its input (R337). -/
def State.finSwung (s : State) (n : Nat) (a0 a : Bool) (peak : Nat) : State :=
  if a0 = a then s else s.setFin n { s.fin n with peak := if a0 && !a then (s.fin n).peak else peak }

@[simp] theorem reg_finSwung (s : State) (n : Nat) (a0 a : Bool) (peak k : Nat) : (s.finSwung n a0 a peak).reg k = s.reg k := by
  rw [State.finSwung, reg_ite, reg_setFin, ite_self]

theorem finSwung_fields (s : State) (n : Nat) (a0 a : Bool) (peak : Nat) :
    s.finSwung n a0 a peak = { s with fins := (s.finSwung n a0 a peak).fins } := by
  unfold State.finSwung
  split <;> rfl

theorem fin_finSwung (s : State) (n : Nat) (a0 a : Bool) (peak : Nat) :
    (s.finSwung n a0 a peak).fin n = { s.fin n with peak := ((s.finSwung n a0 a peak).fin n).peak } := by
  unfold State.finSwung
  split
  · rfl
  · rw [fin_setFin]

end

theorem exec_finEdge (s : State) (n : Fin 16) (v0 v : Int) (b0 b : Bool) (h peak : Nat) (on : s.reg (K.finEnable n) = 1)
    (held : s.regN (K.finGlitch n) ≤ h * 10) : exec (.finEdge n ⟨v0, b0⟩ ⟨v, b⟩ h peak) s =
    let a0 := s.finHigh n v0
    let a := s.finHigh n v
    let u := s.finSwung n a0 a peak
    if s.reg (K.finMode n) = 2 then
      .next (if a0 != a && b0 != b then (u.inputFault .fin n ifSignal).setFin n { u.fin n with discardAt := some u.tick }
        else if a0 == a && b0 == b then u
        else u.finAccept n (u.tick - h) (pairDirection (s.reg (K.finMode n)) a0 a b))
    else .next (if !a0 && a && s.finArmed n peak then u.finAccept n (u.tick - h) (pairDirection (s.reg (K.finMode n)) a0 a b) else u) :=
  if_neg (by simp [on, held])

/-- Of two inputs one alone has changed: neither both nor none. -/
theorem changes_once : ∀ same same' : Bool, ((!same) != (!same')) = true → (!same && !same') = false ∧ (same && same') = false := by
  decide

theorem runs_finEdge (s : State) (n : Fin 16) (v0 v : Int) (b0 b : Bool) (h peak : Nat) (on : s.reg (K.finEnable n) = 1)
    (held : s.regN (K.finGlitch n) ≤ h * 10)
    (rises : s.reg (K.finMode n) ≠ 2 → s.finHigh n v0 = false ∧ s.finHigh n v = true ∧ s.finArmed n peak = true)
    (single : s.reg (K.finMode n) = 2 → ((s.finHigh n v0 != s.finHigh n v) != (b0 != b)) = true) :
    Runs (.finEdge n ⟨v0, b0⟩ ⟨v, b⟩ h peak) s fun t =>
      t.reg (K.finCount n) = clampI (-(2 ^ 63)) (2 ^ 63 - 1) (s.reg (K.finCount n) +
        (if 2 ≤ s.reg (K.finMode n) then pairDirection (s.reg (K.finMode n)) (s.finHigh n v0) (s.finHigh n v) b
          else s.finSense n (pairDirection (s.reg (K.finMode n)) (s.finHigh n v0) (s.finHigh n v) b))) ∧
      t.reg (K.lastEdgeTime n) = (s.timeOfTick (s.tick - h) : Nat) ∧ (t.fin n).lastEdge = some (s.tick - h) ∧
      t.flag (K.finFlags n) ifNoEdges = false ∧
      ∀ t0, (s.fin n).lastEdge = some t0 → (t.fin n).intervals = ((s.tick - h - t0) :: (s.fin n).intervals).take 64 := by
  generalize swung : s.finSwung n (s.finHigh n v0) (s.finHigh n v) peak = u
  have ran : exec (.finEdge n ⟨v0, b0⟩ ⟨v, b⟩ h peak) s =
      .next (u.finAccept n (u.tick - h) (pairDirection (s.reg (K.finMode n)) (s.finHigh n v0) (s.finHigh n v) b)) := by
    rw [exec_finEdge s n v0 v b0 b h peak on held]
    simp only [swung]
    by_cases quadrature : s.reg (K.finMode n) = 2
    · obtain ⟨notBoth, notNone⟩ := changes_once (s.finHigh n v0 == s.finHigh n v) (b0 == b) (single quadrature)
      simp only [if_pos quadrature, bne, notBoth, notNone, Bool.false_eq_true, if_false]
    · obtain ⟨low, high, armed⟩ := rises quadrature
      simp [quadrature, low, high, armed]
  have entry (k : Nat) : u.reg k = s.reg k := by rw [← swung, reg_finSwung]
  have contents : u.fin n = { s.fin n with peak := (u.fin n).peak } := by rw [← swung, ← fin_finSwung]
  have clock : u.clock = s.clock := by rw [← swung, finSwung_fields]
  obtain ⟨count, stamp, last, edges, intervals⟩ := finAccept_shows n.isLt u (u.tick - h)
    (pairDirection (s.reg (K.finMode n)) (s.finHigh n v0) (s.finHigh n v) b)
  have tick : u.tick = s.tick := congrArg Clock.tick clock
  have time (k : Nat) : u.timeOfTick k = s.timeOfTick k := by simp only [State.timeOfTick, tick, clock]
  have sense (dir : Int) : u.finSense n dir = s.finSense n dir := by simp only [State.finSense, entry]
  rw [contents] at intervals
  simp only [entry, sense, time, tick] at count stamp last edges intervals
  exact ⟨_, tick ▸ ran, count, stamp, last, edges, intervals⟩

theorem runs_finEdge_discarded (s : State) (n : Fin 16) (v0 v : Int) (b0 b : Bool) (h peak : Nat) (on : s.reg (K.finEnable n) = 1)
    (held : s.regN (K.finGlitch n) ≤ h * 10) (quadrature : s.reg (K.finMode n) = 2) (own : (s.finHigh n v0 != s.finHigh n v) = true)
    (partner : (b0 != b) = true) :
    Runs (.finEdge n ⟨v0, b0⟩ ⟨v, b⟩ h peak) s fun t =>
      t.reg (K.finCount n) = s.reg (K.finCount n) ∧ t.flag (K.finFlags n) ifSignal = true ∧ (t.fin n).discardAt = some s.tick := by
  refine ⟨_, (exec_finEdge s n v0 v b0 b h peak on held).trans ((if_pos quadrature).trans (congrArg Host.Outcome.next (if_pos ?_))), ?_, ?_, ?_⟩
  · rw [own, partner, Bool.and_self]
  · rw [reg_setFin, reg_inputFault_ne (by simp [InClass.flags]), reg_finSwung]
  · exact flag_inputFault_self (s.finSwung n (s.finHigh n v0) (s.finHigh n v) peak) .fin n ifSignal
  · rw [fin_setFin, finSwung_fields]
    rfl

theorem runs_finEdge_glitch (s : State) (n : Fin 16) (v0 v : Int) (b0 b : Bool) (h peak : Nat) (short : h * 10 < s.regN (K.finGlitch n)) :
    Runs (.finEdge n ⟨v0, b0⟩ ⟨v, b⟩ h peak) s fun t => t = s :=
  ⟨s, if_pos (by simp [short]), rfl⟩

theorem runs_noEdges (s : State) (n : Fin 16) (on : s.reg (K.finEnable n) = 1)
    (still : (s.fin n).lastEdge.getD (s.fin n).enabledAt + ticksMs (s.regN (K.finZeroTime n)) ≤ s.tick) :
    Runs (.noEdges n) s fun t => t.flag (K.finFlags n) ifNoEdges = true ∧ t.reg (K.finFrequency n) = 0 ∧ t.fins = s.fins :=
  ⟨_, congrArg Host.Outcome.next (if_pos (by simp [on, still])), by rw [flag_setReg_ne _ (by simp), flag_setFlag], reg_setReg_self .., rfl⟩

end Sys2Proof.Machine
end

section
/-!
Samples of the acoustic inputs, the bridges and the IMU, and what no sample changes (O39).
-/
namespace Sys2Proof.Machine
open Sys2Proof

/-! ### Acoustic inputs (R343, R344) -/

@[simp] theorem acuClassify_of_not_closing {s : State} {n : Nat} (h : (s.acu n).closing = false) : s.acuClassify n = s := by
  simp [State.acuClassify, h]

@[simp] theorem outside_acuClassify {F : List Part} (hregs : .regs ∈ F) (hacus : .acus ∈ F) (s : State) (n : Nat) :
    (s.acuClassify n).outside F = s.outside F := by
  simp [State.acuClassify, *]

/-- The classification of a burst leaves the detector's filter. -/
theorem env_acuClassify (s : State) (n : Nat) : ((s.acuClassify n).acu n).env = (s.acu n).env := by
  cases closing : (s.acu n).closing with
  | false => rw [acuClassify_of_not_closing closing]
  | true => cases counts : s.acuCounts n <;> simp [State.acuClassify, closing, counts]

theorem runs_acuSample_env (s : State) (n : Fin 16) (x : BitVec 16) (on : s.reg (K.acuEnable n) = 1) :
    Runs (.acuSample n x) s fun t =>
      (t.acu n).env = (s.acu n).env + (absI x.toInt - (s.acu n).env) / 16 ∧ (x.toInt = 32767 → t.flag (K.acuFlags n) ifClipped = true) := by
  refine ⟨_, if_neg (not_not.2 on), ?_, fun clips => ?_⟩
  · simp only [acu_setFlag, acu_ite, acu_setReg, acu_setAcu, env_acuClassify, ite_self]
  · simp only [flag_setFlag, tick_ite, tick_setReg, tick_setAcu, ite_self, clips]
    simp

theorem absI_nonneg (v : Int) : 0 ≤ absI v := by
  unfold absI
  split <;> omega

theorem runs_acuSample_opens (s : State) (n : Fin 16) (x : BitVec 16) (on : s.reg (K.acuEnable n) = 1) (rest : (s.acu n).open_ = false)
    (classified : (s.acu n).closing = false) (first : (s.acu n).hadBurst = false) (long : 0 < s.regN (K.acuMaxLength n))
    (opens : ((s.regN (K.acuThresholdOn n) : Nat) : Int) ≤ (s.acu n).env + (absI x.toInt - (s.acu n).env) / 16)
    (stays : ((s.regN (K.acuThresholdOff n) : Nat) : Int) ≤ (s.acu n).env + (absI x.toInt - (s.acu n).env) / 16) :
    Runs (.acuSample n x) s fun t =>
      (t.acu n).open_ = true ∧ (t.acu n).t0 = s.tick ∧ (t.acu n).pk = absI x.toInt ∧ (t.acu n).cfg = s.acuConfig n := by
  have opens' : (((s.acuConfig n)[0]?.getD 0 : Nat) : Int) ≤ (s.acu n).env + (absI x.toInt - (s.acu n).env) / 16 := opens
  have stays' : (((s.acuConfig n)[1]?.getD 0 : Nat) : Int) ≤ (s.acu n).env + (absI x.toInt - (s.acu n).env) / 16 := stays
  have long' : (s.acuConfig n)[3]?.getD 0 ≠ 0 := long.ne'
  refine ⟨_, if_neg (not_not.2 on), ?_⟩
  simp only [acuClassify_of_not_closing classified, acu_setFlag, acu_ite, acu_setReg, acu_setAcu, ite_self]
  simp [rest, first, opens', stays', long', absI_nonneg]

theorem runs_acuImpact_heavy (s : State) (n : Fin 16) (closing : (s.acu n).closing = true) (counts : s.acuCounts n = true)
    (heavy : (((s.acu n).cfg.getD 4 0 : Nat) : Int) ≤ (s.acu n).pk) :
    Runs (.acuImpact n) s fun t =>
      (t.acu n).closing = false ∧ t.reg (K.heavyImpacts n) = (s.bump (K.heavyImpacts n)).reg (K.heavyImpacts n) ∧
      t.reg (K.lastImpactTime n) = (s.timeOfTick (s.acu n).t0 : Nat) ∧ t.reg (K.grainImpacts n) = s.reg (K.grainImpacts n) ∧
      t.reg (K.lightImpacts n) = s.reg (K.lightImpacts n) := by
  generalize contents : ({ s.acu n with closing := false } : Acu) = a
  have classified : s.acuClassify n =
      let u := ((s.setAcu n a).bump (K.heavyImpacts n)).setReg (K.lastImpactTime n) (s.timeOfTick (s.acu n).t0 : Nat)
      if (s.acu n).clipped then u.bump (K.clippedImpacts n) else u := by
    simp only [State.acuClassify, closing, counts, heavy]
    simp [← contents]
    rfl
  have kept {k : Nat} (clip : k ≠ K.clippedImpacts n) : (s.acuClassify n).reg k =
      (((s.setAcu n a).bump (K.heavyImpacts n)).setReg (K.lastImpactTime n) (s.timeOfTick (s.acu n).t0 : Nat)).reg k := by
    simp only [classified, reg_ite, reg_bump_ne clip, ite_self]
  refine ⟨_, rfl, ?_, ?_, ?_, ?_, ?_⟩
  · simp [classified, ← contents]
  · rw [kept (by simp), reg_setReg_ne (by simp)]
    rfl
  · rw [kept (by simp), reg_setReg_self]
  · rw [kept (by simp), reg_setReg_ne (by simp), reg_bump_ne (by simp), reg_setAcu]
  · rw [kept (by simp), reg_setReg_ne (by simp), reg_bump_ne (by simp), reg_setAcu]

theorem runs_grainRateUpdate (s : State) (n : Fin 16) (on : s.reg (K.acuEnable n) = 1) (due : (s.acu n).rateAt + ticksMs 1 ≤ s.tick) :
    Runs (.grainRateUpdate n) s fun t =>
      t.reg (K.grainRate n) = (((s.acu n).grains.filter (fun k => decide (s.tick < k + ticksMs (s.regN (K.acuRateWindow n))))).length * 10 ^ 6 /
        max 1 (s.regN (K.acuRateWindow n)) : Nat) ∧ (t.acu n).rateAt = s.tick :=
  ⟨_, if_neg (by simp [on, due]), reg_setReg_self .., by rw [acu_setReg, acu_setAcu]⟩

/-! ### Bridges (R347, R349) -/

theorem runs_brgSample (s : State) (n : Fin 4) (raw : Int) (e : BitVec 16) (on : s.reg (K.brgEnable n) = 1) :
    Runs (.brgSample n raw e) s fun t =>
      t.reg (K.brgValue n) = satI32 (clampI (-(s.brgFullScale n)) (s.brgFullScale n) raw - s.reg (K.brgTare n)) ∧
      t.reg (K.brgExcitationMeasured n) = (e.toNat : Nat) ∧ (t.brg n).lastTick = s.tick ∧
      (t.brg n).fullRun = (if s.brgFullScale n ≤ absI raw then (s.brg n).fullRun + 1 else 0) := by
  have contents (u : State) (x : Brg) (k k' : Nat) (v v' : Int) : (((u.setBrg n x).setReg k v).setReg k' v').brg n = x := brg_setBrg u n x
  refine ⟨_, if_neg (not_not.2 on), ?_, reg_setReg_self .., ?_, ?_⟩
  · rw [reg_setReg_ne (by simp), reg_setReg_self]
  · rw [contents]
  · simp only [contents, decide_eq_true_eq]

/-! ### The IMU (R350, R351) -/

/-- The accelerations and the rates reach the six channels of the IMU (R350). -/
def State.showMotion (s : State) (acc rate : List Int) : State :=
  (List.range 3).foldl (fun (s : State) (k : Nat) =>
    (s.setReg (K.imuChannel k) (satI32 (acc.getD k 0))).setReg (K.imuChannel (3 + k)) (rate.getD k 0)) s

theorem reg_showMotion {k : Nat} (hk : k < 3) (s : State) (acc rate : List Int) :
    (s.showMotion acc rate).reg (K.imuChannel k) = satI32 (acc.getD k 0) ∧
    (s.showMotion acc rate).reg (K.imuChannel (3 + k)) = rate.getD k 0 := by
  have three : List.range 3 = [0, 1, 2] := rfl
  interval_cases k <;> simp [State.showMotion, three, reg_setReg]

theorem imu_showMotion (s : State) (acc rate : List Int) : (s.showMotion acc rate).imu = s.imu :=
  imu_of_outside (F := [.regs]) (by simp [State.showMotion]) (by decide)

/-- A sample shows the rotated accelerations, the rates less the bias, and the angles of the filter. -/
theorem exec_imuSample (s : State) (ax ay az wx wy wz : Int) : ∃ (m : Imu) (rate : List Int),
    exec (.imuSample ax ay az wx wy wz) s =
      .next (((({ s with imu := m } : State).showMotion (rotateQ (quatOf (s.blob K.imuMounting)) ax ay az) rate).setReg K.pitch
        (satI32 (m.pitchQ / 65536))).setReg K.roll (satI32 (m.rollQ / 65536))) ∧
    m.last = [ax, ay, az, wx, wy, wz] ∧ m.lastTick = s.tick ∧
    (s.impl0Axis = none → ∀ k < 3, rate.getD k 0 =
      satI32 ((rotateQ (quatOf (s.blob K.imuMounting)) wx wy wz).getD k 0 - s.imu.bias.getD k 0 / 65536)) := by
  refine ⟨_, _, rfl, rfl, rfl, fun none k hk => ?_⟩
  simp [none, hk]

theorem runs_imuSample (s : State) (ax ay az wx wy wz : Int) : Runs (.imuSample ax ay az wx wy wz) s fun t =>
    (∀ k < 3, t.reg (K.imuChannel k) = satI32 ((rotateQ (quatOf (s.blob K.imuMounting)) ax ay az).getD k 0)) ∧
    t.reg K.pitch = satI32 (t.imu.pitchQ / 65536) ∧ t.reg K.roll = satI32 (t.imu.rollQ / 65536) ∧
    t.imu.last = [ax, ay, az, wx, wy, wz] ∧ t.imu.lastTick = s.tick ∧
    (s.impl0Axis = none → ∀ k < 3, t.reg (K.imuChannel (3 + k)) =
      satI32 ((rotateQ (quatOf (s.blob K.imuMounting)) wx wy wz).getD k 0 - s.imu.bias.getD k 0 / 65536)) := by
  obtain ⟨m, rate, ran, last, tick, rates⟩ := exec_imuSample s ax ay az wx wy wz
  have contents (u : State) (k k' : Nat) (v v' : Int) : ((u.setReg k v).setReg k' v').imu = u.imu := rfl
  have channels (u : State) {j : Nat} (hj : j < 6) (v v' : Int) :
      ((u.setReg K.pitch v).setReg K.roll v').reg (K.imuChannel j) = u.reg (K.imuChannel j) := by
    rw [reg_setReg_ne (by simp; omega), reg_setReg_ne (by simp; omega)]
  refine ⟨_, ran, fun k hk => ?_, ?_, ?_, ?_, ?_, fun none k hk => ?_⟩
  · rw [channels _ (by omega), (reg_showMotion hk ..).1]
  · rw [contents, imu_showMotion, reg_setReg_ne (by simp), reg_setReg_self]
  · rw [contents, imu_showMotion, reg_setReg_self]
  · rw [contents, imu_showMotion, last]
  · rw [contents, imu_showMotion, tick]
  · rw [channels _ (by omega), (reg_showMotion hk ..).2, rates none k hk]

/-! ### What a sample leaves -/

/-- The outcome of a command that changes the fields of `F` only. -/
def GoesWithin (F : List Part) (s : State) (o : Out) : Prop := ∃ t, o = .next t ∧ t.outside F = s.outside F

@[simp] theorem goesWithin_next (F : List Part) (s t : State) : GoesWithin F s (.next t) ↔ t.outside F = s.outside F := by
  simp [GoesWithin]

@[simp] theorem goesWithin_ite (F : List Part) (s : State) (c : Prop) [Decidable c] (o p : Out) :
    GoesWithin F s (if c then o else p) ↔ if c then GoesWithin F s o else GoesWithin F s p := by
  rw [← apply_ite (GoesWithin F s)]

/-- The fields that a sample or an edge of an input may change: the numeric entries, the records, the inputs, and the axes that an
input serves. -/
def inputParts : List Part := [.regs, .book, .axes, .ains, .fins, .acus, .brgs, .imu]

section
variable (s : State)

theorem goesWithin_ainSample (n : Fin 32) (x : Int) : GoesWithin inputParts s (execAinSample n x s) := by
  simp [execAinSample, inputParts]

theorem goesWithin_acuSample (n : Fin 16) (x : BitVec 16) : GoesWithin inputParts s (execAcuSample n x s) := by
  simp [execAcuSample, inputParts]

theorem goesWithin_acuImpact (n : Fin 16) : GoesWithin inputParts s (execAcuImpact n s) := by
  simp [execAcuImpact, inputParts]

theorem goesWithin_grainRateUpdate (n : Fin 16) : GoesWithin inputParts s (execGrainRateUpdate n s) := by
  simp [execGrainRateUpdate, inputParts]

theorem goesWithin_brgSample (n : Fin 4) (raw : Int) (e : BitVec 16) : GoesWithin inputParts s (execBrgSample n raw e s) := by
  simp [execBrgSample, inputParts]

theorem goesWithin_finEdge (n : Fin 16) (p0 p : FinPin) (held peak : Nat) : GoesWithin inputParts s (execFinEdge n p0 p held peak s) := by
  simp [execFinEdge, inputParts]

theorem goesWithin_noEdges (n : Fin 16) : GoesWithin inputParts s (execNoEdges n s) := by simp [execNoEdges, inputParts]

theorem goesWithin_imuSample (ax ay az wx wy wz : Int) : GoesWithin inputParts s (execImuSample ax ay az wx wy wz s) := by
  simp [execImuSample, inputParts]

/-- What the fields of the inputs do not hold stays. -/
theorem runs_of_goesWithin {s : State} {c : Instr} (h : GoesWithin inputParts s (exec c s)) :
    Runs c s fun t => t.sv = s.sv ∧ t.ls = s.ls ∧ t.ctxs = s.ctxs ∧ t.cues = s.cues ∧ t.jr = s.jr ∧ t.blobs = s.blobs := by
  obtain ⟨t, ran, outside⟩ := h
  exact ⟨t, ran, sv_of_outside outside (by decide), ls_of_outside outside (by decide), ctxs_of_outside outside (by decide),
    cues_of_outside outside (by decide), jr_of_outside outside (by decide), blobs_of_outside outside (by decide)⟩

end

theorem runs_inputs_keep (s : State) (n : Fin 32) (m : Fin 16) (b : Fin 4) (x y : Int) (v e : BitVec 16) (b0 b1 : Bool) (h p : Nat)
    (c : Instr) (hc : c ∈ [.ainSample n x, .acuSample m v, .brgSample b x e, .finEdge m ⟨x, b0⟩ ⟨y, b1⟩ h p, .imuSample x x x x x x,
      .noEdges m, .acuImpact m, .grainRateUpdate m]) :
    Runs c s fun t => t.sv = s.sv ∧ t.ls = s.ls ∧ t.ctxs = s.ctxs ∧ t.cues = s.cues ∧ t.jr = s.jr ∧ t.blobs = s.blobs := by
  apply runs_of_goesWithin
  simp only [List.mem_cons, List.not_mem_nil, or_false] at hc
  obtain rfl | rfl | rfl | rfl | rfl | rfl | rfl | rfl := hc
  · exact goesWithin_ainSample s n x
  · exact goesWithin_acuSample s m v
  · exact goesWithin_brgSample s b x e
  · exact goesWithin_finEdge s m ⟨x, b0⟩ ⟨y, b1⟩ h p
  · exact goesWithin_imuSample s x x x x x x
  · exact goesWithin_noEdges s m
  · exact goesWithin_acuImpact s m
  · exact goesWithin_grainRateUpdate s m

/-- Settles O39: what each sample or edge brings its input, and the fields that none of them changes. -/
theorem samplesReachTheirInputs : Obligations.SamplesReachTheirInputs := by
  unfold Obligations.SamplesReachTheirInputs
  exact ⟨runs_ainSample, runs_finEdge, runs_finEdge_discarded, runs_finEdge_glitch, runs_noEdges, runs_acuSample_env, runs_acuSample_opens,
    runs_acuImpact_heavy, runs_grainRateUpdate, runs_brgSample, runs_imuSample, runs_inputs_keep⟩

end Sys2Proof.Machine
end

section
/-!
The commands and the faults of the sensing inputs, their supplies and their converters (O40).
-/
namespace Sys2Proof.Machine
open Sys2Proof

/-! ### FinZero and the tare (R341, R348) -/

theorem writes_finZero (s : State) (slot n : Fin 16) (v : BitVec 8) :
    Writes (.finZero slot n v) s slot (0x4840 + n) 0x0F (leBytes 1 v.toNat) (finZeroRule n) fun t =>
      t.reg (K.finCount n) = 0 ∧ t.fins = s.fins := by
  refine writes_of_effect rfl ⟨?_, ?_⟩ fun _ _ h => h
  · exact (reg_finish ..).trans (reg_setReg_self ..)
  · exact (fins_of_outside (F := [.jr]) (outside_finish (by decide) ..) (by decide)).trans (fins_afterAccept ..)

theorem writes_brgTareCommand (s : State) (slot : Fin 16) (n : Fin 4) (v : BitVec 8) :
    Writes (.brgTareCommand slot n v) s slot (0x4880 + n) 0x06 (leBytes 1 v.toNat) (brgTareRule n) fun t =>
      (t.brg n).tares = (s.brg n).tares ++ [⟨s.regN K.nextJournalSeq, s.tick, 0, 0⟩] ∧ t.reg (K.brgTare n) = s.reg (K.brgTare n) := by
  refine writes_of_effect rfl ?_ fun _ _ h => h
  generalize taken : s.taken slot _ _ _ _ = u
  have contents : u.brg n = s.brg n := by rw [← taken]; exact congrArg (fun x => x.get Brg.init n) (brgs_afterAccept ..)
  have tick : u.tick = s.tick := by rw [← taken, tick_taken]
  have tare : u.reg (K.brgTare n) = s.reg (K.brgTare n) := by rw [← taken, reg_taken _ _ _ _ _ _ (by simp; omega)]
  refine ⟨?_, tare⟩
  change ((u.setBrg n _).brg n).tares = _
  rw [brg_setBrg, contents, tick]

theorem runs_brgTareEnd (s : State) (n : Fin 4) (x : Tare) (l : List Tare) (tares : (s.brg n).tares = x :: l)
    (past : x.start + ticksS 1 ≤ s.tick) (averaged : x.count ≠ 0) :
    Runs (.brgTareEnd n) s fun t =>
      t.reg (K.brgTare n) = satI32 (s.reg (K.brgTare n) + x.sum.tdiv x.count) ∧ (t.brg n).tares = l := by
  have ran : exec (.brgTareEnd n) s = .next (((s.setBrg n { s.brg n with tares := l }).setReg (K.brgTare n)
      (satI32 (s.reg (K.brgTare n) + x.sum.tdiv x.count))).finish x.item .done) := by
    change execBrgTareEnd n s = _
    simp only [execBrgTareEnd, tares, if_neg (not_lt.2 past), if_neg averaged, reg_setBrg]
  refine ⟨_, ran, by rw [reg_finish, reg_setReg_self], ?_⟩
  rw [finish_fields]
  exact congrArg Brg.tares (brg_setBrg ..)

/-! ### Conditions that have held (R335, R346, R352) -/

theorem runs_ainOutOfRange (s : State) (n : Fin 32) (t0 : Nat) (on : s.reg (K.ainEnable n) = 1) (out : (s.ain n).outFrom = some t0)
    (held : t0 + ticksMs 10 ≤ s.tick) :
    Runs (.ainOutOfRange n) s fun t => t.flag (K.ainFlags n) ifRange = true ∧ t.ainFault n = true ∧ t.ains = s.ains := by
  have shows : (s.inputFault .ain n ifRange).flag (K.ainFlags n) ifRange = true := flag_inputFault_self s .ain n ifRange
  refine ⟨_, congrArg Host.Outcome.next (if_pos (by simp [on, out, State.heldFor, held])), shows, ?_, ?_⟩
  · rw [State.ainFault, faultBits_of_flag shows (by decide), Bool.or_true]
  · exact ains_of_outside (F := [.regs, .book]) (outside_inputFault (by decide) (by decide) ..) (by decide)

theorem runs_acuNoise (s : State) (n : Fin 16) (t0 : Nat) (on : s.reg (K.acuEnable n) = 1) (noisy : (s.acu n).noiseFrom = some t0)
    (held : t0 + ticksMs 100 ≤ s.tick) :
    Runs (.acuNoise n) s fun t => t.flag (K.acuFlags n) ifSignal = true ∧ t.acuCounts n = false ∧ t.acus = s.acus := by
  have shows : (s.inputFault .acu n ifSignal).flag (K.acuFlags n) ifSignal = true := flag_inputFault_self s .acu n ifSignal
  refine ⟨_, congrArg Host.Outcome.next (if_pos (by simp [on, noisy, State.heldFor, held])), shows, ?_, ?_⟩
  · simp only [State.acuCounts, List.any_cons, shows, Bool.true_or, Bool.or_true, Bool.not_true, Bool.and_false]
  · exact acus_of_outside (F := [.regs, .book]) (outside_inputFault (by decide) (by decide) ..) (by decide)

theorem runs_imuStuck (s : State) (stuck : s.imu.repeats.any (fun r => decide (50 ≤ r)) = true ∨ s.imu.lastTick + ticksMs 5 ≤ s.tick) :
    Runs .imuStuck s fun t => t.flag K.imuFlags ifSignal = true ∧ t.imuFault = true ∧ t.imu.validFrom = none := by
  generalize stopped : ({ s with imu := { s.imu with validFrom := none } } : State) = u
  have ran : exec .imuStuck s = .next (u.inputFault .imu 0 ifSignal) := by
    rw [← stopped]
    exact congrArg Host.Outcome.next (if_pos (by simpa using stuck))
  have shows : (u.inputFault .imu 0 ifSignal).flag K.imuFlags ifSignal = true := flag_inputFault_self u .imu 0 ifSignal
  refine ⟨_, ran, shows, faultBits_of_flag shows (by decide), ?_⟩
  rw [imu_of_outside (F := [.regs, .book]) (outside_inputFault (by decide) (by decide) ..) (by decide), ← stopped]

/-! ### Faults that a front-end reports (R346, R349, R355) -/

/-- A front-end reports neither a converter's failure nor a bridge out of range: these stand in other places (R349, R354). -/
theorem frontEndTime_some {s : State} {c : InClass} {n bit d : Nat} (h : s.frontEndTime c n bit = some d) :
    bit ≠ ifConverter ∧ ¬ (c = .brg ∧ bit = ifRange) := by
  cases c with
  | ain | imu => simp [State.frontEndTime] at h
  | fin | acu | brg =>
    simp only [State.frontEndTime] at h
    split_ifs at h <;> simp [ifConverter, ifRange] <;> omega

theorem runs_inputFaultDetect (s : State) (cls : Fin 5) (n : Fin 32) (bit : Fin 8) (held d : Nat) (counts : n.val < (inClassOf cls).count)
    (on : s.inputOn (inClassOf cls) n = true) (time : s.frontEndTime (inClassOf cls) n bit = some d) (long : d ≤ held) :
    Runs (.inputFaultDetect cls n bit held) s fun t => t.flag ((inClassOf cls).flags n) bit = true := by
  obtain ⟨converter, range⟩ := frontEndTime_some time
  have ran : exec (.inputFaultDetect cls n bit held) s = .next (s.inputFault (inClassOf cls) n bit) := by
    change execInputFaultDetect cls n bit held s = _
    simp [execInputFaultDetect, not_le.2 counts, on, converter, range, time, long]
  exact ⟨_, ran, flag_inputFault_self ..⟩

theorem runs_inputFaultDetect_converter (s : State) (n : Fin 32) (held : Nat) (on : s.reg (K.ainEnable n) = 1)
    (works : s.flag K.converterFailures (ainConverter n) = false) (free : s.reg K.understudyConverterUse = 0xFF) :
    Runs (.inputFaultDetect 0 n 6 held) s fun t =>
      t.flag K.converterFailures (ainConverter n) = true ∧ t.reg K.understudyConverterUse = (ainConverter n : Nat) ∧
      t.flag (K.ainFlags n) ifUnderstudy = true ∧ t.flag (K.ainFlags n) ifConverter = s.flag (K.ainFlags n) ifConverter := by
  have converter : ainConverter n < 4 := by unfold ainConverter; omega
  have served : (InClass.ain, (n : Nat)) ∈ converterInputs (ainConverter n) := by
    rw [converterInputs, if_pos converter]
    exact List.mem_map.2 ⟨n % 8, List.mem_range.2 (by omega), by simp [ainConverter]; omega⟩
  have ran : exec (.inputFaultDetect 0 n 6 held) s = .next (s.converterFail (ainConverter n)) := by
    change execInputFaultDetect 0 n 6 held s = _
    simp [execInputFaultDetect, inClassOf, InClass.count, State.inputOn, on]
  refine ⟨_, ran, flag_converterFail (by omega) s, ?_, ?_, ?_⟩
  all_goals rw [converterFail_free works (by simp [State.converterTaken, free])]
  · rw [reg_converterTakeOver (by omega) (by simp) (by simp), if_pos rfl]
  · exact flag_understudy_converterTakeOver (by omega) served _
  · rw [flag_converterTakeOver (by decide) (by simp; omega) (by simp; omega), flag_congr (reg_setFlag_ne (by simp; omega) ..)]

theorem runs_inputFaultClear (s : State) (cls : Fin 5) (n : Fin 32) (bit : Fin 8) (held : Nat) (counts : n.val < (inClassOf cls).count) :
    Runs (.inputFaultClear cls n bit held) s fun t =>
      t.flag ((inClassOf cls).flags n) bit = (!s.faultGone (inClassOf cls) n bit held && s.flag ((inClassOf cls).flags n) bit) ∧
      ∀ j, j ≠ bit.val → t.flag ((inClassOf cls).flags n) j = s.flag ((inClassOf cls).flags n) j := by
  refine ⟨_, congrArg Host.Outcome.next (if_neg (not_le.2 counts)), ?_, fun j other => ?_⟩
  · rw [flag_ite, flag_setFlag]
    cases s.faultGone (inClassOf cls) n bit held <;> simp
  · rw [flag_ite, flag_setFlag_ne other, ite_self]

/-! ### Sensor supplies (R353) -/

section
variable {s : State} {g : Nat} (x : Supply)

/-- Supply `g` of the sensors with the contents `x` (R353). -/
def State.setSupply (s : State) (g : Nat) (x : Supply) : State := { s with supplies := s.supplies.set Supply.init g x }

@[simp] theorem reg_setSupply (k : Nat) : (s.setSupply g x).reg k = s.reg k := rfl
@[simp] theorem supply_setSupply : (s.setSupply g x).supply g = x := Tab.get_set_self _ _ _ _

theorem supply_congr {t : State} (h : t.supplies = s.supplies) (g : Nat) : t.supply g = s.supply g :=
  congrArg (fun y => y.get Supply.init g) h

end

/-- A supply's fault is recorded once (R353). -/
def State.showSupplyFault (s : State) (g : Nat) : State :=
  if s.flag K.sensSupplyFault g then s else (s.setFlag K.sensSupplyFault g true).eventKey .sensing g K.sensSupplyFault

theorem reg_showSupplyFault_ne {k : Nat} (h : k ≠ K.sensSupplyFault) (s : State) (g : Nat) : (s.showSupplyFault g).reg k = s.reg k := by
  rw [State.showSupplyFault, reg_ite, reg_eventKey, reg_setFlag_ne h, ite_self]

theorem flag_showSupplyFault (s : State) (g : Nat) : (s.showSupplyFault g).flag K.sensSupplyFault g = true := by
  unfold State.showSupplyFault
  split_ifs with stands
  · exact stands
  · rw [flag_eventKey, flag_setFlag]

theorem supplies_showSupplyFault (s : State) (g : Nat) : (s.showSupplyFault g).supplies = s.supplies :=
  supplies_of_outside (F := [.regs, .book]) (by simp [State.showSupplyFault, State.eventKey]) (by decide)

theorem runs_sensorSupplyLimit_off (s : State) (g : Fin 6) (mV : BitVec 16) (held : Nat) (enabled : s.flag K.sensSupplyEnable g = true)
    (on : (s.supply g).offAt = none) (long : ticksMs 10 ≤ held) :
    Runs (.sensorSupplyLimit g mV held) s fun t =>
      (t.supply g).offAt = some s.tick ∧ t.flag K.sensSupplyFault g = true ∧ t.reg (K.sensSupplyVoltage g) = (mV.toNat : Nat) ∧
      ∀ i ∈ supplyInputs g, t.flag (i.1.flags i.2) ifSupply = true := by
  generalize shown : s.setReg (K.sensSupplyVoltage g) (mV.toNat : Nat) = u
  have enabled' : u.flag K.sensSupplyEnable g = true := by rwa [← shown, flag_setReg_ne _ (by simp; omega)]
  have on' : (u.supply g).offAt = none := by rwa [← shown]
  have inLimit : held ≠ 0 := (Nat.lt_of_lt_of_le (by decide) long).ne'
  have ran : exec (.sensorSupplyLimit g mV held) s = .next (((u.setSupply g ⟨some u.tick, 0⟩).showSupplyFault g).supplyFaults g) := by
    change execSensorSupplyLimit g mV held s = _
    simp only [execSensorSupplyLimit, shown, enabled', on', if_neg inLimit, if_neg (not_lt.2 long), Bool.not_true, Bool.false_eq_true, if_false]
    rfl
  refine ⟨_, ran, ?_, ?_, ?_, fun i hi => flag_supplyFaults hi _⟩
  · rw [supply_congr ((supplies_supplyFaults ..).trans (supplies_showSupplyFault ..)), supply_setSupply, ← shown, tick_setReg]
  · rw [flag_congr (reg_supplyFaults g.isLt (by simp) _), flag_showSupplyFault]
  · rw [reg_supplyFaults g.isLt (by simp; omega), reg_showSupplyFault_ne (by simp; omega), reg_setSupply, ← shown, reg_setReg_self]

theorem runs_sensorSupplyLimit_on (s : State) (g : Fin 6) (mV : BitVec 16) (held t0 : Nat) (enabled : s.flag K.sensSupplyEnable g = true)
    (off : (s.supply g).offAt = some t0) (past : t0 + ticksS 1 ≤ s.tick) :
    Runs (.sensorSupplyLimit g mV held) s fun t => (t.supply g).offAt = none ∧ (t.supply g).onAt = s.tick := by
  generalize shown : s.setReg (K.sensSupplyVoltage g) (mV.toNat : Nat) = u
  have enabled' : u.flag K.sensSupplyEnable g = true := by rwa [← shown, flag_setReg_ne _ (by simp; omega)]
  have off' : (u.supply g).offAt = some t0 := by rwa [← shown]
  have tick : u.tick = s.tick := by rw [← shown, tick_setReg]
  have ran : exec (.sensorSupplyLimit g mV held) s = .next (u.setSupply g ⟨none, u.tick⟩) := by
    change execSensorSupplyLimit g mV held s = _
    simp only [execSensorSupplyLimit, shown, enabled', off', tick, if_neg (not_lt.2 past), Bool.not_true, Bool.false_eq_true, if_false]
    rfl
  refine ⟨_, ran, ?_, ?_⟩
  · rw [supply_setSupply]
  · rw [supply_setSupply, tick]

/-! ### Converter checks (R354) -/

theorem runs_converterCheck_start (s : State) (c : Fin 8) (d : Nat) (idle : s.runningAct actConverterCheck c = none)
    (scheduled : s.reg K.converterCheckInterval ≠ 0)
    (due : s.maint.convTested.get 0 c + ticksS (s.regN K.converterCheckInterval) ≤ s.tick) (free : s.schedulable domConverters = true)
    (spare : s.converterTaken = false) (works : s.flag K.converterFailures c = false) :
    Runs (.converterCheck c d) s fun t =>
      t.maint.acts = s.maint.acts ++ [⟨actConverterCheck, domConverters, c, .scheduled, 0, s.tick, 0, 0⟩] := by
  have ran : exec (.converterCheck c d) s = .next (s.grantAct ⟨actConverterCheck, domConverters, c, .scheduled, 0, s.tick, 0, 0⟩) := by
    change execConverterCheck c d s = _
    simp only [execConverterCheck, idle]
    exact congrArg Host.Outcome.next (if_pos (by simp [scheduled, due, free, spare, works]))
  refine ⟨_, ran, ?_⟩
  simp only [maint_grantAct]

/-- The end of an activity, and a repair that waited for it, leave the times of the converters' comparisons. -/
theorem convTested_finishAct (s : State) (a : Activity) : (s.finishAct a).maint.convTested = s.maint.convTested := by
  have ended : (s.endAct a).maint.convTested = s.maint.convTested := by rw [maint_endAct]
  rw [State.finishAct, ← ended]
  unfold State.grantWaiting
  split
  · split_ifs
    · rw [maint_grantAct]
    · rfl
  · rfl

theorem maint_converterFail (s : State) (c : Nat) : (s.converterFail c).maint = s.maint :=
  maint_of_outside (F := [.regs, .book]) (outside_converterFail (by decide) (by decide) ..) (by decide)

theorem runs_converterCheck_end (s : State) (c : Fin 8) (d : Nat) (a : Activity) (running : s.runningAct actConverterCheck c = some a)
    (past : a.start + ticksS 1 ≤ s.tick) :
    Runs (.converterCheck c d) s fun t =>
      t.maint.convTested.get 0 c = s.tick ∧ (500 < d → t.flag K.converterFailures c = true) := by
  generalize tested : ({ s with maint := { s.maint with convTested := s.maint.convTested.set 0 c s.tick } } : State) = u
  have ran : exec (.converterCheck c d) s = .next (if 500 < d then (u.finishAct a).converterFail c else u.finishAct a) := by
    change execConverterCheck c d s = _
    simp only [execConverterCheck, running, if_neg (not_lt.2 past), tested]
  have time : (u.finishAct a).maint.convTested.get 0 c = s.tick := by
    rw [convTested_finishAct, ← tested]
    exact Tab.get_set_self ..
  refine ⟨_, ran, ?_, fun apart => ?_⟩
  · split_ifs
    · rwa [maint_converterFail]
    · exact time
  · rw [if_pos apart]
    exact flag_converterFail c.isLt _

/-- Settles O40: a command by the effect of its rule, a fault by `inputFault`, and a converter's failure by `converterFail`. -/
theorem inputsShowTheirFaults : Obligations.InputsShowTheirFaults := by
  unfold Obligations.InputsShowTheirFaults
  exact ⟨writes_finZero, writes_brgTareCommand, runs_brgTareEnd, runs_ainOutOfRange, runs_acuNoise, runs_imuStuck, runs_inputFaultDetect,
    runs_inputFaultDetect_converter, runs_inputFaultClear, runs_sensorSupplyLimit_off, runs_sensorSupplyLimit_on, runs_converterCheck_start,
    runs_converterCheck_end⟩

end Sys2Proof.Machine
end
